-- ==== Sys2Proof/Word.lean ====
section
/-! DEFINITION. The machine's word type. A register is 32 bits wide and is accessed as one DWORD (R10). -/

namespace Sys2Proof

/-- One 32-bit register DWORD (R10). -/
abbrev DWord := BitVec 32

end Sys2Proof
end

