-- ==== Sys2Proof/Syntax.lean ====
section
/-! DEFINITION. The commands of the block: the rows of the table of operations and events, each with its operands. A command
comes from outside (a register write or read, a received frame, message or cell, a pin) or is an event of the block's own
sequencers whose instant its sender gives (R30, R48). Bytes are numbers below 256, sent first byte first. -/

namespace Sys2Proof

/-- An ECC error of the cave (R250): corrected, or uncorrectable, and then whether the other copy fails too where there is one; or an
uncorrectable word of a container of the express store (R246). -/
inductive EccKind where
  | corrected | uncorrectable (twin : Bool) | express (idx : Nat)
deriving DecidableEq, Repr
/-- The operation a dual-computation mismatch hits (R263, R270): a page job, a downstream stream, container `i` of the burst in the
air, a read of container `i` of the next burst, the host window read, or a seal write. -/
inductive CipherOp where
  | page (n : Nat) | stream (st : Nat) | container (i : Nat) | burstRead (i : Nat) | window | sealWrite (idx : Nat)
deriving DecidableEq, Repr
/-- A downstream message as its header and body give it (R119): code, SEQ, EFF, the EFFECTIVE word, the TID of its record, its body bytes. -/
structure Msg where
  code : Nat
  seq : Nat
  eff : Bool
  effWord : Nat
  tid : Nat
  body : List Nat
deriving DecidableEq, Repr

/-- A record of the control stream as it stands at the parser's place after descrambling (R103): its 8-byte header, the bytes of its body,
the CRC-32 after them, and the places of the bytes that hold errored bits, counted from the header's first (R74, R100). -/
structure Rec where
  hdr : Nat
  body : List Nat
  crc : Nat
  errs : List Nat := []
deriving DecidableEq, Repr

/-- A PTP message as a follower reads it (R282, R283): whether it is a Follow_Up, the client port, domainNumber and sourcePortIdentity
it came from, sequenceId, twoStepFlag, its time stamp in seconds and ns, its correctionField in units of 2^-16 ns, and the classifier entry
that its frame matched. -/
structure Ptp where
  fup : Bool
  port : Nat
  domain : Nat
  master : Nat
  seq : Nat
  twoStep : Bool
  sec : Nat
  ns : Nat
  cf : Int
  entry : Option Nat
deriving DecidableEq, Repr

/-- A defect and its object (R112): carriers, subcarriers 0 to 31, group channels. -/
inductive Defect where
  | los (c : Nat) | lof (sc : Nat) | lom (sc : Nat) | ais (sc : Nat) | rdi | tim (g : Nat)
deriving DecidableEq, Repr

/-- A Fenkai Link cell as received (R383): the port on which it came, its 16-byte header, its payload, and its CRC-32. -/
structure Cell where
  port : Nat
  hdr : Nat
  payload : List Nat
  crc : Nat
deriving DecidableEq, Repr

/-- What a MGMT cell says (R391): MEM_ID, ROLE, RX_OK, TID, TID_VALID, and the mailbox words when the cell carries them. -/
structure Mgmt where
  mem : Nat
  role : Nat
  rxOk : Bool
  tid : Nat
  tidValid : Bool
  mbox : Option (List Nat) := none
deriving DecidableEq, Repr

/-- A fault report as it leaves its source (R423, R438): cause, level, region, cluster, unit, detail, the page and channel whose local fault
status takes it, and its duplicates. -/
structure Rep where
  cause : Nat
  level : Nat
  region : Nat
  cluster : Nat := 0
  unit : Nat := 0
  detail : Nat := 0
  pg : Nat := 2
  ch : Nat := 0
  dup : Nat := 0
deriving DecidableEq, Repr

/-- A write of registers by another master in the same cycle (R346): master, offset, whether every byte enable is set, DWORDs. -/
structure HostWrite where
  m : Nat
  addr : Nat
  be : Bool
  ws : List Nat
deriving DecidableEq, Repr

/-- A source whose next frame leaves the reorder stage, and what the host wrote into the receive entry at HEAD of its function's ring
(R369). -/
structure Release where
  src : Nat
  buf : Nat
  len : Nat
deriving DecidableEq, Repr

/-- A request for leave (R414): its class, the region and block that ask, and for class 3 the class difference in 0.01 W. -/
structure LeaveReq where
  cls : Nat
  region : Nat
  block : Nat
  watts : Nat := 0
deriving DecidableEq, Repr

/-- What a register write meets outside the registers: the bytes at the source of a job it starts (R273), and whether the collector's
copies compare equal in a self-check it starts (R429). -/
structure Env where
  src : List Nat := []
  same : Bool := true
deriving DecidableEq, Repr

/-- The commands of the block: one constructor per row of the table of operations and events, those with operands first (compiled code
can build no constructor with fields past the first few hundred). -/
inductive Instr where
  /-- RESET_ASSERT (R440): RESET_N goes low from power-on, the board pin or software, and the terminal enters RESET. -/
  | resetAssert (cause : Nat)
  /-- RESET_RELEASE (R443): RESET_N rises: the straps are sampled and latched, BOOT is entered and the fuses are read. -/
  | resetRelease (straps : Nat)
  /-- FUNCTION_LEVEL_RESET (R336): A Function Level Reset resets one function's own state and halts its DMA channels with FLR. -/
  | functionLevelReset (fn : Nat)
  /-- MEMORY_SELFTEST_DONE (R445): The on-chip memory self-test completes, with fuse repair applied, or holds BOOT with SELFTEST. -/
  | memorySelftestDone (fail : Option (Nat × Nat))
  /-- IMAGE_CHECK (R447): An image that has been read is checked and then applied, or rejected with a BOOT_STATUS cause. -/
  | imageCheck (image : Option (List Nat))
  /-- TW_FIFO_WRITE (R449): One image DWORD is written through TW_FIFO; the image is checked once LENGTH bytes have arrived. -/
  | twFifoWrite (v : Nat)
  /-- REC_COMMIT_DONE (R452): A record commit ends; REC_DONE or REC_FAIL is set and REC_VIEW follows a successful commit. -/
  | recCommitDone (status : Nat)
  /-- CLOCK_MONITOR_FAULT (R34): A clock monitor finds an enabled domain stopped or out of range and reports CLK_STOP at its region. -/
  | clockMonitorFault (d : Nat)
  /-- LT_SKEW (R27): A level's LT copy leaves its skew budget; a corrected fault is raised and the copy is reloaded at the next frame boundary. -/
  | ltSkew (level region cluster : Nat)
  /-- FRAME_BOUNDARY (R48): A frame edge of local LT is reached; the ordered actions of R53 and the frame-boundary evaluations take place. -/
  | frameBoundary (clip : Nat) (rms : List (Nat × Nat))
  /-- MULTIFRAME_BOUNDARY (R48): Frame 0 of a multiframe is reached; pending tables and messages take effect and multiframe work runs. -/
  | multiframeBoundary (snr : List (Nat × Nat))
  /-- SUPERFRAME_BOUNDARY (R48): Multiframe 0 of a superframe is reached; SUPERFRAME applies, RR updates and aging measurements take place. -/
  | superframeBoundary (ages : List Nat)
  /-- APPLY_REQ (R49): Write of APPLY.REQ: the page's shadow is sealed, and the boundary at least 2 µs ahead is chosen. -/
  | applyReq (pg boundary : Nat)
  /-- APPLY_CANCEL (R49): Write of APPLY.CANCEL: a sealed shadow whose boundary has not been taken is discarded. -/
  | applyCancel (pg : Nat)
  /-- APPLY_MARKER_PASS (R51): An apply marker passes a block, which applies its shadow between the same two packets. -/
  | applyMarkerPass (pg lane : Nat)
  /-- LT_SNAP_READ (R60): A read of LT_SNAP_LO returns the low half of LT64 and latches the high half for the reading master. -/
  | ltSnapRead (m : Nat)
  /-- LAUNCH_ENTRY_ARM (R56): A write of ARMED = 1 arms a launch table entry, or refuses it as LATE or MISALIGNED. -/
  | launchEntryArm (n word : Nat)
  /-- LAUNCH_ENTRY_DISARM (R56): A write of ARMED = 0 disarms an entry, unless the entry fires in the same cycle. -/
  | launchEntryDisarm (n word : Nat)
  /-- RS_EXPECT_WRITE (R63): A write of RS_EXPECT retunes and restarts acquisition at once in FREE or ACQ, and otherwise is held until FREE. -/
  | rsExpectWrite (v : Nat)
  /-- COEF_BANK_WRITE (R67): A write to a coefficient bank is taken from its owner into the inactive bank; a write to the active bank is ignored. -/
  | coefBankWrite (vat : Bool) (ch bank w value : Nat)
  /-- ACQ_GAIN_SETTLED (R83): AGC settles and the carrier moves from GAIN to CD_SEARCH. -/
  | acqGainSettled (c : Nat)
  /-- ACQ_CD_FOUND (R83): The CD search finds the dispersion and the carrier moves to FREQ. -/
  | acqCdFound (c cd : Nat)
  /-- ACQ_CD_HINT_MISS (R82): The narrow search around a CD hint finds nothing and the full-range search begins. -/
  | acqCdHintMiss (c : Nat)
  /-- ACQ_FREQ_ACQUIRED (R83): The frequency offset is acquired and the carrier moves to EQ_CONV. -/
  | acqFreqAcquired (c : Nat)
  /-- ACQ_EQ_CONVERGED (R83): The equaliser converges and the carrier moves to FRAME_SEARCH. -/
  | acqEqConverged (sc : Nat)
  /-- ACQ_STATE_OVERRUN (R83): An acquisition state exceeds its time; the carrier returns to GAIN and ACQ_RETRY is counted. -/
  | acqStateOverrun (c : Nat)
  /-- BLOCK_DECODED (R74): A coded block is decoded; an uncorrectable block is passed on marked errored and counted in UNCORR. -/
  | blockDecoded (sc idx : Nat) (info : List Nat) (corr : Nat) (uncorr : Bool)
  /-- FAW_SEARCH_WORD (R96): A window is tested in SEARCH; candidates start, gain, drop or are evicted, and a confirmed candidate goes in frame. -/
  | fawSearchWord (sc pos word at_ : Nat)
  /-- FAW_INFRAME_WORD (R97): The expected FAW word of a subcarrier in frame is judged correct or errored, and FAW_M errored words take it out of frame. -/
  | fawInframeWord (sc word at_ : Nat)
  /-- OVERHEAD_BLOCK (R91): An overhead block is decoded and its MFI, AIS, LT label, KEY_EPOCH, group and trace fields are used. -/
  | overheadBlock (sc mfi : Nat) (oh : Option (List Nat))
  /-- DELINEATE_UNIT (R102): A data stream unit position is read as an idle word, a valid tag with its frame, or a loss of place. -/
  | delineateUnit (st : Nat)
  /-- FILL_RECORD (R105): A FILL record is taken and ignored. -/
  | fillRecord (r : Rec)
  /-- WAKE_MAP (R405): A WAKE_MAP record is decoded; in GRAZE a hit wakes the terminal and a miss returns it to sleep. -/
  | wakeMap (r : Rec)
  /-- PROFILE_TABLE (R106): A PROFILE_TABLE record is checked and held pending for its named multiframe boundary. -/
  | profileTable (r : Rec)
  /-- ALLOC_MAP (R106): An ALLOC_MAP record is checked and held pending for its named multiframe boundary. -/
  | allocMap (r : Rec)
  /-- RDI_LIST (R112): An RDI_LIST record is counted toward the declaration or clearance of RDI. -/
  | rdiList (r : Rec)
  /-- RESERVED_RECORD (R104): A record of reserved RTYPE is skipped by LEN and counted in REC_UNKNOWN. -/
  | reservedRecord (r : Rec)
  /-- RECORD_HEADER_ERROR (R104): A bad record header makes the parser lose its place until the next FIRST_UNIT, counted in RESYNC. -/
  | recordHeaderError (r : Rec)
  /-- DEFECT_CONDITION_MET (R112): A defect's declaring or clearing condition is met at the end of its time or count. -/
  | defectConditionMet (d : Defect) (set : Bool) (rms : Nat) (top : Bool)
  /-- SD_CHANGE (R112): The front end's SD pin changes, feeding LOS and, in STABLE, the SD wake source. -/
  | sdChange (level long : Bool)
  /-- GRANT_ENTRY (R150): A grant entry is checked in order and accepted into the calendar or discarded with its cause. -/
  | grantEntry (r : Rec) (i : Nat)
  /-- GRANT_CANCEL (R154): A CANCEL entry withdraws a matching grant or occurrences, or is recorded as late or missing. -/
  | grantCancel (r : Rec) (i : Nat)
  /-- LINE_PARAMS (R125): A LINE_PARAMS message supplies LINE_ID, Tresp, symbol rate, control subcarrier and span. -/
  | lineParams (r : Rec)
  /-- DISCOVERY_OPEN (R129): A DISCOVERY_OPEN is judged as a qualifying window and is taken, skipped or counted toward back-off. -/
  | discoveryOpen (r : Rec)
  /-- ASSIGN_ID (R134): An ASSIGN_ID for the own serial sets the TID, queues an ACK and loads the coarse EqD. -/
  | assignId (r : Rec)
  /-- RANGE_RESULT (R135): A RANGE_RESULT with OK, RETRY or REJECT loads EqD, restarts the timeout or fails the terminal off the line. -/
  | rangeResult (r : Rec)
  /-- EQD_ADJUST (R137): An EQD_ADJUST adds its correction to EQD_PEND. -/
  | eqdAdjust (r : Rec)
  /-- PROFILE_SET (R167): A PROFILE_SET is judged, acknowledged and, when accepted, launches PRECOMP and waits for its boundary. -/
  | profileSet (r : Rec)
  /-- KEY_EPOCH (R268): A KEY_EPOCH host message is delivered to the inbound mailbox for host handling. -/
  | keyEpoch (r : Rec)
  /-- SILENCE (R140): A SILENCE stops bursts at the next frame boundary and asserts TXDIS_N. -/
  | silence (r : Rec)
  /-- RELEASE (R141): A RELEASE ends a silence at the next frame boundary, or records RELEASE_SEEN while the safe state holds. -/
  | release (r : Rec)
  /-- DEREGISTER (R142): A DEREGISTER removes the terminal's registration, or fails a join in ASSIGNED. -/
  | deregister (r : Rec)
  /-- GRAZE_ACK (R139): A GRAZE_ACK grants GRAZE at its effective boundary, or refuses it. -/
  | grazeAck (r : Rec)
  /-- OAM_TUNNEL (R123): An OAM_TUNNEL host message is delivered to the inbound mailbox. -/
  | oamTunnel (r : Rec)
  /-- TIME_INFO (R292): A TIME_INFO is stored at its effective boundary, or within 2 ms when EFF is clear. -/
  | timeInfo (r : Rec)
  /-- STACK_MAP (R391): A STACK_MAP is accepted and loaded into the map registers, or refused. -/
  | stackMap (r : Rec)
  /-- ASYM_SET (R292): An ASYM_SET host message is delivered to the mailbox for the host to write ASYM and acknowledge. -/
  | asymSet (r : Rec)
  /-- GROUP_SET (R125): A GROUP_SET replaces the terminal's group memberships and is acknowledged. -/
  | groupSet (r : Rec)
  /-- UNKNOWN_MESSAGE (R121): A message with a reserved or upstream code is discarded and counted, and is answered when addressed to the own TID. -/
  | unknownMessage (r : Rec)
  /-- BURST_COMMIT (R157): At its commit point a burst samples reports, chooses containers and messages, builds its header and loads the guard, or is discarded as HELD. -/
  | burstCommit (entry : Nat)
  /-- BURST_END (R158): A burst's ramp down completes; the calendar entry is freed and the containers pass to retention. -/
  | burstEnd (late : List Nat)
  /-- GUARD_TRIP (R169): The burst guard trips, asserts TXDIS_N within 100 ns and enters the safe state. -/
  | guardTrip (at_ mask : Nat)
  /-- PORT_ENABLE (R176): A write of EN = 1 enables a client port, or refuses it for a lane conflict. -/
  | portEnable (n : Nat) (more : List Nat)
  /-- LINK_UP_RISE (R177): The link conditions hold for 1 ms without a break and LINK_UP rises. -/
  | linkUpRise (n : Nat)
  /-- LINK_UP_FALL (R177): A link condition fails and LINK_UP falls at once. -/
  | linkUpFall (n cond : Nat)
  /-- CLIENT_FRAME_RX (R178): A received client frame is judged, consumed as control, discarded or passed to the parser. -/
  | clientFrameRx (n : Nat) (bytes : List Nat) (pcsErr : Bool)
  /-- PAUSE_TIMER_EXPIRY (R182): A received pause time expires and transmission resumes. -/
  | pauseTimerExpiry (n : Nat) (cls : Option Nat)
  /-- PAUSE_REFRESH (R183): Half of PAUSE_QUANTA passes with fill above XON_TH and the pause frame is repeated. -/
  | pauseRefresh (n : Nat)
  /-- INGRESS_DRAIN (R179): A frame leaves the ingress buffer for the packet core; a fall to XON_TH sends a zero-time pause. -/
  | ingressDrain (n : Nat)
  /-- FLOW_CONTROL_DISABLE (R183): PAUSE_TX_EN or FC_MODE written 0 while XOFF_SENT stops refreshes and sends one release frame. -/
  | flowControlDisable (n : Nat) (fc : Bool)
  /-- EGRESS_FRAME_START (R217): A port starts a frame from its highest eligible egress queue, debiting shapers and applying the transparent clock correction. -/
  | egressFrameStart (n : Nat)
  /-- CLASSIFY_FRAME (R195): A frame is parsed into a key, stamped with a version and sequence number, and looked up by an engine. -/
  | classifyFrame (src : Nat) (bad : List Nat)
  /-- REORDER_RELEASE (R197): A source's frames are released in sequence order and taken to policer, queue or slow path. -/
  | reorderRelease (src buf bufLen : Nat) (more : List Release)
  /-- VERSION_RETIRE (R198): A DRAINING version's in-flight count reaches zero and it becomes FREE. -/
  | versionRetire (v : Nat)
  /-- RULE_ENTRY_WRITE (R199): A write to a classifier entry's KEY, MASK or action word is taken or ignored when the entry is live. -/
  | ruleEntryWrite (n w value : Nat)
  /-- VMASK_WRITE (R199): A VMASK write takes effect for the bits of versions that are not live. -/
  | vmaskWrite (n value : Nat)
  /-- UQ_ALLOC_WRITE (R208): A write that would change a queue's ALLOC is refused unless the queue is disabled and empty. -/
  | uqAllocWrite (u value : Nat)
  /-- SCHEDULER_MOVE_UNIT (R210): An allocation's scheduler moves one unit from a queue into its open container. -/
  | schedulerMoveUnit (al next : Nat)
  /-- SEAL_TIMEOUT (R211): SEAL_TO µs pass since a container's first unit and the container is sealed. -/
  | sealTimeout (al : Nat)
  /-- GATE_LIST_COMMIT (R219): Write of COMMIT: the pending list is submitted with its start instant fixed, or refused. -/
  | gateListCommit (n : Nat)
  /-- GATE_LIST_CANCEL (R219): Write of CANCEL withdraws a pending gate list commit. -/
  | gateListCancel (n : Nat)
  /-- GATE_LIST_START (R219): A gate list's start instant is reached and the pending bank becomes active. -/
  | gateListStart (n : Nat)
  /-- GATE_ENTRY_ADVANCE (R220): A running list's entry interval ends and the next entry's gate states take over. -/
  | gateEntryAdvance (n : Nat)
  /-- CAVE_TRAIN_DONE (R235): Channel training ends; the cave proceeds to INIT or enters FAIL. -/
  | caveTrainDone (fails : List (Nat × Nat))
  /-- CONTAINER_TAKE (R238): A take pops a free entry, checks it and assigns the container to its owner, or waits. -/
  | containerTake (al : Nat)
  /-- CONTAINER_FREE (R241): A free is judged and the container is freed, retired or rejected; a waiter is served directly. -/
  | containerFree (purger exp : Bool) (handle owner : Nat)
  /-- WAIT_LONG (R242): A waiting take exceeds WAIT_TH µs and is counted once. -/
  | waitLong (exp : Bool) (al : Nat)
  /-- CAVE_ECC_ERROR (R250): An ECC error on a cave access is corrected, or poisons a container, or falls back to the other copy or is fatal. -/
  | caveEccError (ch off : Nat) (kind : EccKind)
  /-- DDR_RETRAIN_SLICE (R252): One periodic retraining slice of at most 2 µs runs on one channel under leave. -/
  | ddrRetrainSlice (ch : Nat)
  /-- SLOT_LOAD (R261): Slot command LOAD copies KEY_STAGE into a key slot. -/
  | slotLoad (aes256 : Bool) (slot : Nat)
  /-- SLOT_ERASE (R263): Slot command ERASE zeroises a key slot and aborts the operations that latched it. -/
  | slotErase (slot : Nat)
  /-- SLOT_UNWRAP (R261): Slot command UNWRAP unwraps WRAP_STAGE under the KEK slot into a key slot. -/
  | slotUnwrap (slot kek : Nat)
  /-- LINE_KEY_ENTRY_WRITE (R264): A write to a DN or UP key table entry is taken, or ignored while the entry is in use. -/
  | lineKeyEntryWrite (entry value : Nat)
  /-- CIPHER_MISMATCH (R270): A dual-computation mismatch withholds the block and aborts the operation; the third in a superframe is fatal. -/
  | cipherMismatch (pipe : Nat) (op : CipherOp)
  /-- CIP_JOB_START (R273): Write of GO on a user page checks the job and starts it, waiting for leave when it is large. -/
  | cipJobStart (n : Nat) (src : List Nat)
  /-- CIP_JOB_END (R273): A page job ends with its status and DONE_LEN, setting DONE and ERROR. -/
  | cipJobEnd (n : Nat) (busErr : Option Nat)
  /-- TB_MODE_WRITE (R278): A write of a time base's MODE takes effect at once, with STATE FREE and the servo restarted. -/
  | tbModeWrite (n value : Nat)
  /-- SET_GO (R278): Write of SET_GO loads the SET reading into a LOCAL time base. -/
  | setGo (n : Nat)
  /-- ADJ_GO (R278): Write of ADJ_GO slews a LOCAL time base by ADJ_NS over 1 s. -/
  | adjGo (n : Nat)
  /-- TB_SAMPLE (R280): The servo processes a sample, stepping the time base or correcting its frequency and phase. -/
  | tbSample (n : Nat)
  /-- SYNC_TO_EXPIRY (R279): No valid sample for SYNC_TO ms moves a time base to FREE or HOLDOVER. -/
  | syncToExpiry (n : Nat)
  /-- HOLD_MAX_EXPIRY (R279): HOLD_MAX seconds in HOLDOVER move a time base to FREE. -/
  | holdMaxExpiry (n : Nat)
  /-- PTP_SYNC_RX (R282): A follower receives a Sync or Follow_Up copy and forms an offset sample. -/
  | ptpSyncRx (n : Nat) (m : Ptp)
  /-- DELAY_REQ_TIMER (R283): Every 2^F_REQ_LOG s a follower sends a Delay_Req or Pdelay_Req from its template. -/
  | delayReqTimer (n : Nat)
  /-- PTP_DELAY_RESP_RX (R283): A Delay_Resp or Pdelay_Resp reaches the follower, which measures MPD. -/
  | ptpDelayRespRx (n : Nat) (m : Ptp)
  /-- PTP_PDELAY_REQ_RX (R283): A Pdelay_Req on F_PORT is answered with a one-step Pdelay_Resp. -/
  | ptpPdelayReqRx (n : Nat) (m : Ptp)
  /-- PPS_OUT_PULSE (R290): A PPS_OUT pulse rises OFS ns before a second boundary of its time base when QUAL allows. -/
  | ppsOutPulse (n : Nat)
  /-- VAT_GO (R304): Write of GO launches HOST_KSLOT on one cluster, waiting in WAIT_LEAVE when leave is needed. -/
  | vatGo (c : Nat)
  /-- VAT_STOP (R306): Write of STOP stops a cluster's kernel at once and returns its leave. -/
  | vatStop (c : Nat)
  /-- VAT_LEAVE_REQUEST (R307): At target − 100 µs a cluster asks leave for a kernel above its standing class. -/
  | vatLeaveRequest (n c : Nat)
  /-- VAT_CLUSTER_START (R305): A cluster's LT copy reaches the launch target and its units are loaded and start. -/
  | vatClusterStart (c : Nat)
  /-- VAT_MAXRUN (R305): A kernel reaches MAXRUN × 256 cycles and is stopped. -/
  | vatMaxrun (c : Nat)
  /-- VAT_HOST_WRITE (R300): A host write to cluster memory is taken, or ignored while the cluster runs. -/
  | vatHostWrite (c off value dquad : Nat)
  /-- VAT_PARITY_ERROR (R300): A parity error disables a unit, or faults the cluster for program memory. -/
  | vatParityError (c : Nat) (unit : Option Nat)
  /-- TAP_CAPTURE (R302): An input port captures a block starting at slot OFS of the frame. -/
  | tapCapture (c p : Nat) (blocks : List (List Nat))
  /-- TAP_DELIVERY (R302): A captured block is delivered into every enabled unit and its status word written. -/
  | tapDelivery (c p : Nat)
  /-- DUAL_MOVE (R322): DUAL with MOP 0 makes only its parallel moves. -/
  | vDualMove (c : Nat)
  /-- MPY (R317): MPY sets ACC to the product, with parallel moves. -/
  | vMpy (c : Nat)
  /-- MAC (R317): MAC adds the product to ACC, with parallel moves. -/
  | vMac (c : Nat)
  /-- MSU (R317): MSU subtracts the product from ACC, with parallel moves. -/
  | vMsu (c : Nat)
  /-- MOV (R324): MOV writes operand B to G[D]. -/
  | vMov (c : Nat)
  /-- ADD (R324): ADD writes A + B, wrapping. -/
  | vAdd (c : Nat)
  /-- ADDS (R324): ADDS writes A + B, saturating. -/
  | vAdds (c : Nat)
  /-- SUB (R324): SUB writes A − B, wrapping. -/
  | vSub (c : Nat)
  /-- SUBS (R324): SUBS writes A − B, saturating. -/
  | vSubs (c : Nat)
  /-- AND (R324): AND writes the bitwise AND. -/
  | vAnd (c : Nat)
  /-- OR (R324): OR writes the bitwise OR. -/
  | vOr (c : Nat)
  /-- XOR (R324): XOR writes the bitwise XOR. -/
  | vXor (c : Nat)
  /-- SHL (R324): SHL shifts A left by B. -/
  | vShl (c : Nat)
  /-- SHR (R324): SHR shifts A right arithmetically. -/
  | vShr (c : Nat)
  /-- SHRL (R324): SHRL shifts A right logically. -/
  | vShrl (c : Nat)
  /-- MIN (R324): MIN writes the signed minimum. -/
  | vMin (c : Nat)
  /-- MAX (R324): MAX writes the signed maximum. -/
  | vMax (c : Nat)
  /-- ABS (R324): ABS writes |A|, saturating. -/
  | vAbs (c : Nat)
  /-- NEG (R324): NEG writes −A, saturating. -/
  | vNeg (c : Nat)
  /-- CMP_EQ (R324): CMP.EQ sets a predicate when A equals B. -/
  | vCmpEq (c : Nat)
  /-- CMP_NE (R324): CMP.NE sets a predicate when A differs from B. -/
  | vCmpNe (c : Nat)
  /-- CMP_LT (R324): CMP.LT sets a predicate when A is less than B, signed. -/
  | vCmpLt (c : Nat)
  /-- CMP_LE (R324): CMP.LE sets a predicate when A is at most B, signed. -/
  | vCmpLe (c : Nat)
  /-- CMP_GT (R324): CMP.GT sets a predicate when A is greater than B, signed. -/
  | vCmpGt (c : Nat)
  /-- CMP_GE (R324): CMP.GE sets a predicate when A is at least B, signed. -/
  | vCmpGe (c : Nat)
  /-- CMP_LTU (R324): CMP.LTU sets a predicate when A is less than B, unsigned. -/
  | vCmpLtu (c : Nat)
  /-- CMP_GEU (R324): CMP.GEU sets a predicate when A is at least B, unsigned. -/
  | vCmpGeu (c : Nat)
  /-- FAND (R324): FAND writes the AND of two predicates. -/
  | vFand (c : Nat)
  /-- FOR (R324): FOR writes the OR of two predicates. -/
  | vFor (c : Nat)
  /-- FNOT (R324): FNOT writes the inverse of a predicate. -/
  | vFnot (c : Nat)
  /-- CLRA (R324): CLRA clears the accumulator. -/
  | vClra (c : Nat)
  /-- LDA (R324): LDA loads A × 2^16 into ACC. -/
  | vLda (c : Nat)
  /-- ADDA (R324): ADDA adds B × 2^16 to ACC, saturating. -/
  | vAdda (c : Nat)
  /-- SHA (R324): SHA shifts ACC by a signed count. -/
  | vSha (c : Nat)
  /-- MOVH (R318): MOVH writes the rounded, optionally saturated high part of ACC to a G register. -/
  | vMovh (c : Nat)
  /-- MOVL (R318): MOVL writes ACCL to a G register. -/
  | vMovl (c : Nat)
  /-- MOVE (R318): MOVE writes ACCE, sign-extended, to a G register. -/
  | vMove (c : Nat)
  /-- ABSA (R324): ABSA replaces ACC with |ACC|, saturating. -/
  | vAbsa (c : Nat)
  /-- NEGA (R324): NEGA replaces ACC with −ACC, saturating. -/
  | vNega (c : Nat)
  /-- CMPA (R324): CMPA sets a predicate by comparing ACC with 0. -/
  | vCmpa (c : Nat)
  /-- LD (R325): LD loads an X or Y word into a G register with full addressing. -/
  | vLd (c : Nat)
  /-- ST (R325): ST stores a G register to X or Y memory or a port window. -/
  | vSt (c : Nat)
  /-- MOVI (R326): IMM with S = 0 writes IMM16 into a G register. -/
  | vMovi (c : Nat)
  /-- MOVI_SREG (R326): IMM with S = 1 writes IMM16 into a special register. -/
  | vMoviSreg (c : Nat)
  /-- MOVS_TO_SREG (R326): MOVS with DIR 0 writes a G register into a special register. -/
  | vMovsToSreg (c : Nat)
  /-- MOVS_FROM_SREG (R326): MOVS with DIR 1 reads a special register into a G register. -/
  | vMovsFromSreg (c : Nat)
  /-- DO (R330): DO starts a block repeat with an immediate count and captures a short body into the repeat cache. -/
  | vDo (c : Nat)
  /-- DOG (R330): DOG starts a block repeat whose count comes from a G register. -/
  | vDog (c : Nat)
  /-- NOP (R327): NOP does nothing. -/
  | vNop (c : Nat)
  /-- HALT (R305): HALT ends the kernel, returns the cluster to IDLE and records LAST_CYCLES. -/
  | vHalt (c : Nat)
  /-- BR (R327): BR branches to TARGET. -/
  | vBr (c : Nat)
  /-- BRANY (R327): BRANY branches when a predicate is true in any enabled unit. -/
  | vBrany (c : Nat)
  /-- BRALL (R327): BRALL branches when a predicate is true in every enabled unit. -/
  | vBrall (c : Nat)
  /-- LEAVE (R330): LEAVE ends the innermost active repeat. -/
  | vLeave (c : Nat)
  /-- REGISTER_WRITE (R344): A write to a register with no row of its own is judged for privilege, reserved encodings, seals and same-cycle hardware updates. -/
  | registerWrite (m addr : Nat) (be : Bool) (ws : List Nat) (hw : Option Nat) (env : Env) (more : List HostWrite)
  /-- UNSUPPORTED_REQUEST (R338): An access outside every page and window, or too long, ends as an Unsupported Request and is counted. -/
  | unsupportedRequest (m : Nat)
  /-- COUNTER_LO_READ (R342): A read of a LO half of a counter or time pair latches the high half for the reading master. -/
  | counterLoRead (m a n : Nat)
  /-- NOW_READ (R294): A read of NOW_S_LO latches NOW_S_HI and NOW_NS for the reading master. -/
  | nowRead (m : Nat)
  /-- LOCK_FIELD_WRITE (R349): A write reaching a LOCK field locks it, or is recorded as a lock violation. -/
  | lockFieldWrite (m addr value : Nat)
  /-- STICKY_CLR (R340): Write of STICKY_CLR clears LOCK_VIOL and HW_LOST. -/
  | stickyClr (m base : Nat) (lock : Bool)
  /-- INT_REGISTER_WRITE (R350): A write to INT_STAT or INT_EN that leaves the page interrupt at 1 sends its MSI-X message again. -/
  | intRegisterWrite (m base : Nat) (en : Bool) (value : Nat) (hw : Option Nat)
  /-- MSIX_VECTOR_UNMASK (R350): A masked vector with its pending bit set is unmasked and sends its message. -/
  | msixVectorUnmask (fn vector : Nat)
  /-- INT_FORCE (R340): In FACTORY, writing INT_FORCE sets the same bits of INT_STAT. -/
  | intForce (m base value : Nat)
  /-- TWO_WIRE_WRITE (R352): A two-wire write transaction writes DWORDs at the offset, with PEC checking when enabled. -/
  | twoWireWrite (addr : Nat) (data : List Nat) (env : Env)
  /-- TWO_WIRE_READ (R352): A two-wire read transaction returns DWORDs from the offset. -/
  | twoWireRead (addr n : Nat)
  /-- DMA_RUN (R366): Write of RUN starts or restarts a channel at HEAD. -/
  | dmaRun (n : Nat)
  /-- DMA_STOP (R367): Write of STOP halts a channel with STOPPED after its outstanding beats are answered. -/
  | dmaStop (n : Nat)
  /-- DMA_HEAD_WRITE (R366): A write of HEAD skips descriptors while RUN and BUSY are 0, and is ignored otherwise. -/
  | dmaHeadWrite (n value : Nat)
  /-- DESCRIPTOR_FETCH (R362): A running channel with HEAD ≠ TAIL fetches and checks a descriptor, or halts with its cause. -/
  | descriptorFetch (n : Nat) (words : Option (List Nat))
  /-- COPY (R361): A COPY descriptor copies each source beat to the destination. -/
  | copy (n : Nat)
  /-- FILL (R361): A FILL descriptor writes PATTERN to every lane of the destination. -/
  | fill (n : Nat)
  /-- COMPARE (R361): A COMPARE descriptor reads both ranges and stops at the first difference. -/
  | compare (n : Nat)
  /-- NOP_DESCRIPTOR (R361): A NOP descriptor moves no data and completes at once. -/
  | nopDescriptor (n : Nat)
  /-- DMA_BEAT_ANSWER (R365): A beat is answered, retried on failure, halts the channel after its last retry, or completes its descriptor with a status record. -/
  | dmaBeatAnswer (n idx beat : Nat) (ok : Bool) (src dst : List Nat) (env : Env)
  /-- INJECTION_TAKE (R370): The ring engine takes a posted injection entry and hands its frame on, or answers REFUSED, FORMAT or BUS_ERR. -/
  | injectionTake (n : Nat) (entry : List Nat) (frame : Option (List Nat))
  /-- REF_MONITOR (R374): Every 1 ms SREF is measured, setting or clearing REF_BAD. -/
  | refMonitor (ppm : Int) (moved : Bool)
  /-- TX_EQ_WRITE (R375): A write of lane transmit equalisation takes effect at a block boundary, unless its tap set is reserved. -/
  | txEqWrite (l pre post amp : Nat)
  /-- LANE_SLEEP_WRITE (R378): A write of TX_SLEEP or RX_SLEEP puts a lane direction to sleep or wakes it. -/
  | laneSleepWrite (l : Nat) (tx rx : Bool)
  /-- RETRAIN (R377): Write of RETRAIN starts lane retraining, asking leave on client lanes. -/
  | retrain (l : Nat)
  /-- RETRAIN_SNR_TRIGGER (R377): RX_SNR stays below RETRAIN_SNR for 10 ms and the lane retrains. -/
  | retrainSnrTrigger (l snr : Nat)
  /-- RT_REFUSED_RETRY (R377): 10 ms after a refused client retrain, leave is asked again. -/
  | rtRefusedRetry (l : Nat)
  /-- RX_FREEZE_WRITE (R377): A write of RX_FREEZE moves a receiver between TRACK and FROZEN. -/
  | rxFreezeWrite (l : Nat) (v : Bool)
  /-- ADAPT_DONE (R377): COLD, WARM or RETRAIN adaptation completes and the receiver enters TRACK. -/
  | adaptDone (l snr ctle : Nat)
  /-- INJ_GO (R381): Write of INJ_GO inverts one generated symbol's least significant bit, or is ignored without a pattern. -/
  | injGo (l : Nat)
  /-- INJ_RATE_TICK (R381): Every 2^INJ_RATE symbols one pattern error is injected. -/
  | injRateTick (l : Nat)
  /-- CHECKER_LOCK_CHANGE (R380): The pattern checker gains lock after 64 clean symbols or loses it on errored symbols. -/
  | checkerLockChange (l : Nat) (lock : Bool) (n err : Nat)
  /-- LT_CELL_SEND (R386): Each frame within slot 62, an LT cell is sent on each UP port. -/
  | ltCellSend (at_ : Nat)
  /-- LT_CELL_RX (R386): An LT cell is received; cable delay and offset are measured and a member's LT follows its source. -/
  | ltCellRx (c : Cell) (at_ : Nat)
  /-- CTRL_CELL_RX (R390): A CTRL cell delivers relayed control stream bytes to be parsed. -/
  | ctrlCellRx (c : Cell)
  /-- MGMT_CELL_RX (R391): A MGMT cell updates the learnt ring, reachability and the mailbox. -/
  | mgmtCellRx (c : Cell) (m : Mgmt)
  /-- GROUP_CELL_RX (R389): A GROUP cell delivers block bits of a group member for reassembly. -/
  | groupCellRx (c : Cell)
  /-- UNIT_CELL_RX (R388): A UNIT cell delivers part of a forwarded downstream unit, taken as ISRC 17. -/
  | unitCellRx (c : Cell)
  /-- IDLE_CELL_RX (R384): An IDLE cell is received and ignored. -/
  | idleCellRx (c : Cell)
  /-- BAD_CELL_RX (R384): A cell with a failed CRC or reserved CTYPE is dropped and counted. -/
  | badCellRx (c : Cell)
  /-- FK_PORT_ALIGN (R392): The PCS aligns on all four lanes and the port enters ALIGN. -/
  | fkPortAlign (k : Nat)
  /-- FK_PORT_DOWN (R392): A port loses alignment or its MGMT cells and goes DOWN; traffic reroutes. -/
  | fkPortDown (k : Nat)
  /-- MEMBER_UNREACHABLE (R392): No MGMT cell from a member on either port for 4 frames clears its REACH bit. -/
  | memberUnreachable (m : Nat)
  /-- LEAVE_REQUEST (R413): A leave request is granted or refused against the budget; `rs` are the requests made in one cycle. -/
  | leaveRequest (rs : List LeaveReq)
  /-- LEAVE_RETURN (R414): Leave is returned when its operation ends. -/
  | leaveReturn (cls region block : Nat)
  /-- FAULT_REPORT (R423): A fault report reaches the collector and creates or updates a record with its class actions; `rs` are the
  reports that leave their sources in one cycle. -/
  | faultReport (rs : List Rep)
  /-- RECORD_CLOSE (R424): Write of CLOSE closes a fault record. -/
  | recordClose (n : Nat)
  /-- SAFE_CLR (R428): Write of SAFE_CLR runs the self-check and clearance checks, accepting or refusing the clear. -/
  | safeClr (same : Bool)
  /-- LF_CLR (R431): Write of LF_CLR clears a page's local fault status. -/
  | lfClr (pg : Nat)
  /-- PERF_CLEAR (R432): Write of CLEAR loads zero into every counter of the page. -/
  | perfClear (pg : Nat)
  /-- FREEZE_ALL_WRITE (R433): A write of FREEZE_ALL stops or restarts every counter at a slot edge at least 2 µs later. -/
  | freezeAllWrite (v : Bool)
  /-- PERF_COUNTER_WRAP (R435): A counter or chained pair wraps, sets OVF and may raise a sampling interrupt. -/
  | perfCounterWrap (p k rest : Nat)
  /-- THERMAL_SAMPLE (R465): Every 100 µs the die sensors are read and THERM_WARN, THERM_CRIT or the thermal trip are acted on. -/
  | thermalSample (ld hd md0 md1 : Int)
  /-- CIP_LEAVE_RETRY (R274): A page job in WAIT_LEAVE whose leave was refused asks the governor again after 100 µs. -/
  | cipLeaveRetry (n : Nat)
  /-- VAT_LEAVE_RETRY (R307): A cluster waiting in WAIT_LEAVE after a GO or PROFILE_SET launch asks for leave again 100 µs after a refusal. -/
  | vatLeaveRetry (c : Nat)
  /-- AM_LOCK_GAINED (R177): A client port's PCS locks its alignment markers on all lanes, so frames are delivered and the 1 ms LINK_UP window starts. -/
  | amLockGained (n : Nat)
  /-- SIG_DET_CHANGE (R377): A lane receiver's signal detector sees signal, starting COLD or WARM adaptation toward TRACK. -/
  | sigDetChange (l : Nat) (on : Bool)
  /-- PCIE_LINK_UP (R335): The PCI Express link trains and LINK_UP of the PCI page rises with its speed and width. -/
  | pcieLinkUp (speed width vfs : Nat)
  /-- DIMM_TEMP_HOT (R259): A DIMM temperature reading reaches 85 °C, updating TEMP and setting DDR INT_STAT.HOT. -/
  | dimmTempHot (ch temp : Nat)
  /-- VDD_AON_RISE (R458): VDD_AON reaches tolerance and the always-on island starts the power-up sequence, releasing PWR_MAIN_EN after 1 ms. -/
  | vddAonRise
  /-- PGOOD_RISE (R458): PGOOD rises and the island releases RESET_N 1 ms later. -/
  | pgoodRise
  /-- PGOOD_FALL (R459): PGOOD falls outside a STABLE entry and the island drives RESET_N and TXDIS_N low as a POWER_ON reset. -/
  | pgoodFall
  /-- SW_RESET (R440): A write of 0x5A72 to SW_RESET drives RESET_N low for 1 ms. -/
  | swReset
  /-- PCIE_PERST (R441): PCIE_PERST_N resets the PCI Express endpoint, acting as a Function Level Reset on every function. -/
  | pciePerst
  /-- HOST_GO (R449): Write of HOST_GO: the terminal reads an image from host memory and checks it. -/
  | hostGo
  /-- REC_GO (R452): Write of REC_GO: the staged record is erased, programmed and verified into the slot that was not chosen. -/
  | recGo
  /-- MODE_TRANSITION_COMPLETE (R36): A mode transition completes, and any held request or latched wake is taken. -/
  | modeTransitionComplete
  /-- SLOT_BOUNDARY (R48): A slot edge of local LT is reached and SLOT applies take effect. -/
  | slotBoundary
  /-- LT_HOLDOVER_EXPIRY (R39): After 10 s in HOLDOVER, LT returns to FREE. -/
  | ltHoldoverExpiry
  /-- FINE_RANGE_REQ (R40): Accumulated holdover exceeds 2 s; FINE_RANGE_REQ is set and data allocations are withheld. -/
  | fineRangeReq
  /-- AT_LT_APPLY (R52): The low 32 bits of local LT reach APPLY_LT and the sealed shadow applies. -/
  | atLtApply
  /-- LAUNCH_ENTRY_FIRE (R57): Local LT reaches an armed entry's target; the entry fires or collides, and a periodic entry re-arms. -/
  | launchEntryFire
  /-- HOST_LATE (R123): A host message reaches its 20 ms deadline unanswered and HOST_LATE is raised. -/
  | hostLate
  /-- IN_POP (R144): Write of IN_POP frees the oldest inbound mailbox slot. -/
  | inPop
  /-- OUT_PUSH (R145): Write of OUT_PUSH queues an outbound ACK or OAM_UP, or refuses it, and matches it to the message it answers. -/
  | outPush
  /-- JOIN_EN_SET (R128): A write of JOIN_EN = 1 enables joining. -/
  | joinEnSet
  /-- JOIN_ABORT (R133): A write of JOIN_EN = 0 fails the join with HOST_ABORT. -/
  | joinAbort
  /-- JOIN_ENTRY (R128): Once JOIN_EN, LOCKED LT and a valid LINE_PARAMS all hold, JOIN is entered, the LFSR seeded and the state goes to SEEK. -/
  | joinEntry
  /-- DISCOVERY_BURST_START (R130): At the discovery launch L the discovery burst starts, or the window is skipped. -/
  | discoveryBurstStart
  /-- DISC_COLLIDE (R131): The ASSIGN_ID deadline passes without a match; a collision is counted and a back-off draw made, or the join fails. -/
  | discCollide
  /-- RANGE_TIMEOUT (R133): RANGE_TIMEOUT multiframes pass in ASSIGNED without OK; the TID is dropped or the join fails. -/
  | rangeTimeout
  /-- SILENCE_EXPIRY (R140): A silence with nonzero DURATION ends at the first frame boundary after its duration. -/
  | silenceExpiry
  /-- GRAZE_ACK_TIMEOUT (R408): No GRAZE_ACK arrives within 200 ms; GRAZE_FAIL reads NO_ACK and the terminal stays in SERVICE. -/
  | grazeAckTimeout
  /-- BURST_LAUNCH (R158): At its launch instant a burst ramps up and its first preamble symbol crosses the transmit plane. -/
  | burstLaunch
  /-- TX_PATH_UNGATE (R171): A launch or window comes within 1 ms and the transmit DSP and DACs are ungated. -/
  | txPathUngate
  /-- TX_PATH_GATE (R171): No launch or window lies within 1 ms and the transmit DSP and DACs are clock-gated. -/
  | txPathGate
  /-- STAGE (R198): Write of STAGE: the lowest free version becomes STAGING and the copy of VMASK bits starts. -/
  | stage
  /-- STAGE_DONE (R198): The STAGE copy completes and STAGE_BUSY clears. -/
  | stageDone
  /-- ABANDON (R198): Write of ABANDON returns the STAGING version to FREE, or is refused. -/
  | abandon
  /-- COMMIT_COMPLETE (R198): Every source's marker leaves the reorder stage; the new version becomes CURRENT and the old DRAINING. -/
  | commitComplete
  /-- ADMISSION_RESUME (R204): Room frees in the upstream buffer and a stopped upstream admission resumes. -/
  | admissionResume
  /-- CAVE_INIT (R235): Write of INIT_GO starts training and initialisation of the cave. -/
  | caveInit
  /-- CAVE_READY (R235): Zeroing of the cave completes and POOL_READY is set. -/
  | caveReady
  /-- RETAIN_EXPIRY (R244): A retained container's RETAIN_US expires and it is freed. -/
  | retainExpiry
  /-- PURGE (R245): Write of CMD = PURGE with CMD_GO starts freeing the HELD containers of the masked allocations. -/
  | purge
  /-- PURGE_DONE (R245): The purge ends; CMD_GO clears and CMD_DONE is set. -/
  | purgeDone
  /-- CAVE_WINDOW_READ (R255): Write of WIN_GO reads a checked container into the host window, or refuses it. -/
  | caveWindowRead
  /-- SCRUB_STEP (R252): The patrol scrub asks leave for its next 1 MiB step and scrubs it, or retries after a refusal. -/
  | scrubStep
  /-- SLOT_COMMAND_DONE (R261): A slot command ends, GO clears and CMD_STATUS shows its result. -/
  | slotCommandDone
  /-- ARM (R265): Write of ARM schedules the upstream key switch at the named boundary, or is refused as late. -/
  | arm
  /-- CAP_GO (R281): Write of CAP_GO captures every time base. -/
  | capGo
  /-- PAIR_COMPARE (R284): Every 62.5 ms TB1 and TB2 are compared into PAIR_DIFF. -/
  | pairCompare
  /-- PPS_IN_EDGE (R289): A rising edge on PPS_IN is stamped into every time base, or ignored when too early. -/
  | ppsInEdge
  /-- TOD_MESSAGE (R291): A TOD message is sent 1 ms after each second boundary of TOD_TB. -/
  | todMessage
  /-- MGMT_CELL_SEND (R391): Each frame, a MGMT cell is sent on each UP port. -/
  | mgmtCellSend
  /-- MASTER_LOST (R393): Four frames pass without a valid LT cell; LT enters HOLDOVER and MASTER_LOST is declared. -/
  | masterLost
  /-- MBOX_GO (R391): Write of MBOX_GO sends MBOX_TX in the next MGMT cells. -/
  | mboxGo
  /-- MODE_REQ_GRAZE (R401): MODE_REQ = GRAZE in SERVICE queues a GRAZE_REQ, or is refused. -/
  | modeReqGraze
  /-- MODE_REQ_STABLE (R401): MODE_REQ = STABLE starts STABLE entry, or is refused. -/
  | modeReqStable
  /-- MODE_REQ_WAKE (R401): MODE_REQ = WAKE in GRAZE latches a timer wake. -/
  | modeReqWake
  /-- GRAZE_ENTRY (R403): At the GRAZE_ACK boundary, once bursts end, the terminal gates its regions and enters GRAZE. -/
  | grazeEntry
  /-- GRAZE_WAKE_POWERUP (R404): At W_k − 500 µs the control subcarrier's receive chain powers up and reacquires. -/
  | grazeWakePowerup
  /-- GRAZE_TIMER (R406): GRAZE_TMO multiframes after entry the timer wake cause is latched. -/
  | grazeTimer
  /-- GRAZE_EXIT (R407): A latched wake cause returns the terminal to SERVICE within 2 ms. -/
  | grazeExit
  /-- STABLE_ENTRY (R409): STABLE entry sends the notice, drops registration, saves cave state, erases keys and switches off the main rails. -/
  | stableEntry
  /-- LEAVE_WAIT_EXPIRY (R409): LEAVE_WAIT ms pass without the LEAVE_NOTICE being sent and STABLE entry proceeds. -/
  | leaveWaitExpiry
  /-- TONE_DETECT (R410): The always-on detector finds the wake tone on RXMON. -/
  | toneDetect
  /-- STABLE_EXIT (R411): After a wake the rails return and the terminal enters LISTEN within 150 ms. -/
  | stableExit
  /-- CAVE_STATE_RELOAD (R411): After STABLE the cave leaves self-refresh and reloads its saved state to READY. -/
  | caveStateReload
  /-- DIE_SHARE_REFRESH (R415): Every 1 ms the governor refreshes each die's share of the budget. -/
  | dieShareRefresh
  /-- ERR_WIDTH_EXPIRY (R425): ERR_WIDTH µs after the last event, ERR_N rises in PULSE mode or awaits ERR_REL in HOLD mode. -/
  | errWidthExpiry
  /-- ERR_REL (R425): Write of ERR_REL releases ERR_N in HOLD mode. -/
  | errRel
  /-- COLLECTOR_SELF_FAULT (R429): The collector's two copies disagree and the safe state is entered directly. -/
  | collectorSelfFault
  /-- FLT_HEARTBEAT_LOSS (R429): The FLT heartbeat is absent for 10 µs; the island asserts TXDIS_N and drives ERR_N low. -/
  | fltHeartbeatLoss
  /-- FAULT_INJECT (R430): In FACTORY, INJ_GO presents a report of INJ_CAUSE with INJ_REPEAT duplicates. -/
  | faultInject
  /-- INJ_SELF (R430): In FACTORY, INJ_SELF inverts a parity bit of the collector's state. -/
  | injSelf
  /-- THERM_TRIP_CLEAR (R465): A two-wire write of THERM_TRIP lets the terminal come up after a thermal trip. -/
  | thermTripClear
  /-- FLT_HEARTBEAT_RETURN (R429): The FLT domain runs again after a loss; the collector records FLT_CLOCK and enters the safe state. -/
  | fltHeartbeatReturn
  /-- VDD_AON_FALL (R458): VDD_AON falls at the end of power-down, losing RESET_CAUSE, LIFE_USED and every always-on latch. -/
  | vddAonFall
  /-- PGOOD_EXIT_TIMEOUT (R459): PGOOD is not high within 100 ms of a STABLE exit, so the island holds RESET_N low as a POWER_ON reset. -/
  | pgoodExitTimeout
  /-- PCIE_LINK_DOWN (R357): The PCI Express data link layer goes inactive; LINK_UP falls and INT_STAT.LINK_DOWN is set. -/
  | pcieLinkDown
  /-- LIFE_TICK (R466): Once a second LIFE_USED adds the acceleration factor of the hottest die. -/
  | lifeTick
deriving DecidableEq, Repr

end Sys2Proof
end

