-- ==== Sys2Proof/Machine/Bits.lean ====
section
/-! DEFINITION. Bit ranges, two's-complement readings and saturation over plain numbers.
Bit 0 is the least significant bit and a range is written [msb:lsb] (R10). -/

namespace Sys2Proof.Machine

/-- Bits [hi:lo] of `v` (R10). -/
def bits (v hi lo : Nat) : Nat := v / 2 ^ lo % 2 ^ (hi - lo + 1)

/-- Bit `i` of `v` (R10). -/
def bit (v i : Nat) : Bool := v / 2 ^ i % 2 == 1

/-- A flag as a one-bit number. -/
def b2n (b : Bool) : Nat := if b then 1 else 0

/-- `v` with bit `i` set. -/
def setBit (v i : Nat) : Nat := v ||| 2 ^ i

/-- `v` with bit `i` clear. -/
def clrBit (v i : Nat) : Nat := if bit v i then v - 2 ^ i else v

/-- `v` with bit `i` set to `b`. -/
def putBit (v i : Nat) (b : Bool) : Nat := if b then setBit v i else clrBit v i

/-- The two's-complement reading of the low `w` bits of `v`. -/
def toS (w v : Nat) : Int :=
  let u := v % 2 ^ w
  if u < 2 ^ (w - 1) then (u : Int) else (u : Int) - (2 : Int) ^ w

/-- The low `w` bits of the two's complement of `i`. -/
def ofS (w : Nat) (i : Int) : Nat := (i % (2 : Int) ^ w).toNat

/-- `i` held between `lo` and `hi`. -/
def clampI (lo hi i : Int) : Int := if i < lo then lo else if hi < i then hi else i

/-- `i` saturated to a signed field of `w` bits. -/
def satS (w : Nat) (i : Int) : Int := clampI (-(2 : Int) ^ (w - 1)) ((2 : Int) ^ (w - 1) - 1) i

/-- `n` saturated to an unsigned field of `w` bits. -/
def satU (w n : Nat) : Nat := if n < 2 ^ w then n else 2 ^ w - 1

/-- `i` saturated to an unsigned field of `w` bits, below at zero. -/
def satUI (w : Nat) (i : Int) : Nat := satU w i.toNat

/-- The indices below `w` whose bit of `v` is 1, rising. -/
def bitList (w v : Nat) : List Nat := (List.range w).filter (bit v)

/-- How many of the low `w` bits of `v` are 1. -/
def popCount (w v : Nat) : Nat := (bitList w v).length

/-- Rounded up division. -/
def ceilDiv (a b : Nat) : Nat := (a + b - 1) / b

/-- `n` bytes of `v`, most significant first (R10). -/
def bytesBE (n v : Nat) : List Nat := (List.range n).map fun i => v / 2 ^ (8 * (n - 1 - i)) % 256

/-- The number whose bytes, most significant first, are `bs` (R10). -/
def ofBytesBE (bs : List Nat) : Nat := bs.foldl (fun a b => a * 256 + b % 256) 0

/-- `n` bytes of `v`, least significant first (R10). -/
def bytesLE (n v : Nat) : List Nat := (List.range n).map fun i => v / 2 ^ (8 * i) % 256

/-- The number whose bytes, least significant first, are `bs` (R10). -/
def ofBytesLE (bs : List Nat) : Nat := ofBytesBE bs.reverse

/-- Division of an integer rounding to nearest, ties away from zero. -/
def divRound (a b : Int) : Int :=
  if b == 0 then 0
  else if 0 ≤ a then (2 * a + b) / (2 * b) else -((2 * (-a) + b) / (2 * b))

end Sys2Proof.Machine
end

