-- ==== Sys2Proof/Machine/Aes.lean ====
section
/-! DEFINITION. The block cipher and modes that the cipher engine names (R248, R261, R266, R267, R273): AES with 128-bit and
256-bit keys, CTR, CMAC, XTS with ciphertext stealing (IEEE 1619) and the AES key wrap (RFC 3394). Bytes are numbers below
256; a block is 16 bytes in column order. PRESUMED (log 9): the ciphers are those of their published standards, which the
spec names and does not repeat. -/

namespace Sys2Proof.Machine

/-- Doubling in the field of AES. -/
def xtime (a : Nat) : Nat := if a < 128 then a * 2 else (a * 2 ^^^ 0x11B) % 256

/-- Product in the field of AES, bit by bit of `b` from bit `n - 1` down. -/
def gmulAux (a b : Nat) : Nat → Nat
  | 0 => 0
  | n + 1 =>
    let r := xtime (gmulAux a (b / 2) n)
    if b % 2 == 1 then r ^^^ a else r

/-- Product in the field of AES. -/
def gmul (a b : Nat) : Nat := gmulAux a b 8

/-- The inverse in the field of AES, the 254th power; 0 stays 0. -/
def ginv (a : Nat) : Nat :=
  let a2 := gmul a a
  let a3 := gmul a2 a
  let a6 := gmul a3 a3
  let a12 := gmul a6 a6
  let a15 := gmul a12 a3
  let a30 := gmul a15 a15
  let a60 := gmul a30 a30
  let a63 := gmul a60 a3
  let a126 := gmul a63 a63
  let a127 := gmul a126 a
  gmul a127 a127

/-- A byte rotated left by `n`. -/
def rotl8 (a n : Nat) : Nat := a * 2 ^ n % 256 + a / 2 ^ (8 - n)

/-- The S-box of AES. -/
def sbox (a : Nat) : Nat :=
  let b := ginv a
  b ^^^ rotl8 b 1 ^^^ rotl8 b 2 ^^^ rotl8 b 3 ^^^ rotl8 b 4 ^^^ 0x63

/-- The inverse S-box of AES. -/
def sboxInv (a : Nat) : Nat := ginv (rotl8 a 1 ^^^ rotl8 a 3 ^^^ rotl8 a 6 ^^^ 0x05)

/-- Bytewise exclusive or. -/
def xorBytes (a b : List Nat) : List Nat := List.zipWith (· ^^^ ·) a b

/-- The next word of the key schedule: `i` its index, `nk` the key length in words, `w` the words so far, last first. -/
def keyWord (nk i : Nat) (w : List (List Nat)) : List Nat :=
  let prev := w.headD []
  let old := w.getD (nk - 1) []
  let t :=
    if i % nk == 0 then
      match prev with
      | [a, b, c, d] => [sbox b ^^^ Nat.repeat xtime (i / nk - 1) 1, sbox c, sbox d, sbox a]
      | _ => prev
    else if 6 < nk && i % nk == 4 then prev.map sbox else prev
  xorBytes old t

/-- `n` more words of the key schedule. -/
def keyWords (nk : Nat) : Nat → Nat → List (List Nat) → List (List Nat)
  | 0, _, w => w
  | n + 1, i, w => keyWords nk n (i + 1) (keyWord nk i w :: w)

/-- The words of a key of 16 or 32 bytes. -/
def splitWords : Nat → List Nat → List (List Nat)
  | 0, _ => []
  | n + 1, l => l.take 4 :: splitWords n (l.drop 4)

/-- Round keys of 16 bytes. -/
def roundKeys (key : List Nat) : List (List Nat) :=
  let nk := key.length / 4
  let ws := (keyWords nk (4 * (nk + 7) - nk) nk (splitWords nk key).reverse).reverse
  (List.range (nk + 7)).map fun r => ((ws.drop (4 * r)).take 4).flatten

/-- ShiftRows: byte i of the block comes from these places. -/
def shiftMap : List Nat := [0, 5, 10, 15, 4, 9, 14, 3, 8, 13, 2, 7, 12, 1, 6, 11]
def shiftMapInv : List Nat := [0, 13, 10, 7, 4, 1, 14, 11, 8, 5, 2, 15, 12, 9, 6, 3]
def permute (m b : List Nat) : List Nat := m.map fun i => b.getD i 0

/-- One column through MixColumns with coefficients c0 c1 c2 c3. -/
def mixCol (c0 c1 c2 c3 : Nat) (w : List Nat) : List Nat :=
  match w with
  | [a, b, c, d] =>
    [gmul a c0 ^^^ gmul b c1 ^^^ gmul c c2 ^^^ gmul d c3, gmul a c3 ^^^ gmul b c0 ^^^ gmul c c1 ^^^ gmul d c2,
     gmul a c2 ^^^ gmul b c3 ^^^ gmul c c0 ^^^ gmul d c1, gmul a c1 ^^^ gmul b c2 ^^^ gmul c c3 ^^^ gmul d c0]
  | _ => w

/-- A block through MixColumns or its inverse. -/
def mixColumns (c0 c1 c2 c3 : Nat) (b : List Nat) : List Nat := ((splitWords 4 b).map (mixCol c0 c1 c2 c3)).flatten

/-- AES encryption of one block. -/
def aesEnc (key blk : List Nat) : List Nat :=
  match roundKeys key with
  | [] => blk
  | k0 :: ks =>
    let start := xorBytes blk k0
    let mid := (ks.dropLast).foldl
      (fun b k => xorBytes (mixColumns 2 3 1 1 (permute shiftMap (b.map sbox))) k) start
    xorBytes (permute shiftMap (mid.map sbox)) (ks.getLastD [])

/-- AES decryption of one block. -/
def aesDec (key blk : List Nat) : List Nat :=
  match (roundKeys key).reverse with
  | [] => blk
  | k0 :: ks =>
    let start := xorBytes blk k0
    let mid := (ks.dropLast).foldl
      (fun b k => mixColumns 14 11 13 9 (xorBytes ((permute shiftMapInv b).map sboxInv) k)) start
    xorBytes ((permute shiftMapInv mid).map sboxInv) (ks.getLastD [])

/-- A list cut into blocks of 16; the last may be short. -/
def blocks16 (l : List Nat) : List (List Nat) :=
  (List.range ((l.length + 15) / 16)).map fun i => (l.drop (16 * i)).take 16

/-- CTR: the counter block rises as one 128-bit number, most significant byte first. -/
def aesCtr (key : List Nat) (ctr : Nat) (data : List Nat) : List Nat :=
  ((blocks16 data).zipIdx.map fun (b, i) => xorBytes b (aesEnc key (bytesBE 16 ((ctr + i) % 2 ^ 128)))).flatten

/-- Doubling of a 128-bit number for CMAC. -/
def cmacDbl (v : Nat) : Nat := if v < 2 ^ 127 then v * 2 else (v * 2 ^^^ 0x87) % 2 ^ 128

/-- CMAC over a byte string. -/
def aesCmac (key msg : List Nat) : List Nat :=
  let k1 := cmacDbl (ofBytesBE (aesEnc key (List.replicate 16 0)))
  let k2 := cmacDbl k1
  let bs := if msg.isEmpty then [[]] else blocks16 msg
  let last := bs.getLastD []
  let lastFull := last.length == 16
  let padded := if lastFull then last else last ++ [0x80] ++ List.replicate (15 - last.length) 0
  let fin := xorBytes padded (bytesBE 16 (if lastFull then k1 else k2))
  let x := (bs.dropLast).foldl (fun c b => aesEnc key (xorBytes c b)) (List.replicate 16 0)
  aesEnc key (xorBytes x fin)

/-- The tweak multiplied by alpha (IEEE 1619), the block read least significant byte first. -/
def xtsNext (t : List Nat) : List Nat :=
  let v := ofBytesLE t
  bytesLE 16 (if v < 2 ^ 127 then v * 2 else (v * 2 ^^^ 0x87) % 2 ^ 128)

/-- One XTS block. -/
def xtsBlock (enc : Bool) (key t b : List Nat) : List Nat :=
  xorBytes ((if enc then aesEnc else aesDec) key (xorBytes b t)) t

/-- XTS over whole blocks. -/
def xtsBlocks (enc : Bool) (key : List Nat) : List Nat → List (List Nat) → List (List Nat)
  | _, [] => []
  | t, b :: bs => xtsBlock enc key t b :: xtsBlocks enc key (xtsNext t) bs

/-- XTS over one data unit of at least 16 bytes, with ciphertext stealing for a part block (IEEE 1619). -/
def xts (enc : Bool) (key1 key2 : List Nat) (tweak : Nat) (data : List Nat) : List Nat :=
  let t0 := aesEnc key2 (bytesLE 16 (tweak % 2 ^ 128))
  let bs := blocks16 data
  let part := bs.getLastD []
  if part.length == 16 || bs.length ≤ 1 then (xtsBlocks enc key1 t0 bs).flatten
  else
    let m := bs.length - 2
    let front := bs.take m
    let tm := Nat.repeat xtsNext m t0
    let tn := xtsNext tm
    let full := bs.getD m []
    let (ta, tb) := if enc then (tm, tn) else (tn, tm)
    let c := xtsBlock enc key1 ta full
    let fin := xtsBlock enc key1 tb (part ++ c.drop part.length)
    (xtsBlocks enc key1 t0 front).flatten ++ fin ++ c.take part.length

/-- One step of the key unwrap (RFC 3394): A and the registers R, step `t` on register `i`. -/
def unwrapStep (kek : List Nat) (n : Nat) (st : List Nat × List (List Nat)) (t : Nat) : List Nat × List (List Nat) :=
  let i := (t - 1) % n
  let b := aesDec kek (xorBytes st.1 (bytesBE 8 t) ++ st.2.getD i [])
  (b.take 8, st.2.set i (b.drop 8))

/-- AES key unwrap of (n + 1) × 8 bytes: the key when the check value is right. -/
def keyUnwrap (kek wrapped : List Nat) : Option (List Nat) :=
  let n := wrapped.length / 8 - 1
  let r := (List.range n).map fun i => (wrapped.drop (8 * (i + 1))).take 8
  let steps := (List.range (6 * n)).reverse.map (· + 1)
  let (a, rs) := steps.foldl (unwrapStep kek n) (wrapped.take 8, r)
  if a.all (· == 0xA6) && n != 0 then some rs.flatten else none

/-- One step of the key wrap (RFC 3394). -/
def wrapStep (kek : List Nat) (n : Nat) (st : List Nat × List (List Nat)) (t : Nat) : List Nat × List (List Nat) :=
  let i := (t - 1) % n
  let b := aesEnc kek (st.1 ++ st.2.getD i [])
  (xorBytes (b.take 8) (bytesBE 8 t), st.2.set i (b.drop 8))

/-- AES key wrap of n × 8 bytes. -/
def keyWrap (kek plain : List Nat) : List Nat :=
  let n := plain.length / 8
  let r := (List.range n).map fun i => (plain.drop (8 * i)).take 8
  let (a, rs) := ((List.range (6 * n)).map (· + 1)).foldl (wrapStep kek n) (List.replicate 8 0xA6, r)
  a ++ rs.flatten

end Sys2Proof.Machine
end

