-- ==== Sys2Proof/Machine/Crc.lean ====
section
/-! DEFINITION. The check codes of R476: CRC-8, CRC-16 and CRC-32 over bytes in the order in which they are sent or stored. -/

namespace Sys2Proof.Machine

/-- One bit step of a CRC of width `w` that is not reflected. -/
def crcShift (w poly r : Nat) : Nat :=
  let t := r * 2 % 2 ^ w
  if bit r (w - 1) then t ^^^ poly else t

/-- One byte into a CRC of width `w` that is not reflected. -/
def crcByte (w poly r b : Nat) : Nat :=
  Nat.repeat (crcShift w poly) 8 (r ^^^ (b % 256 * 2 ^ (w - 8)))

/-- CRC-8 of R476, polynomial 0x07, from the stated initial value. -/
def crc8 (initial : Nat) (bs : List Nat) : Nat := bs.foldl (crcByte 8 0x07) initial

/-- CRC-16 of R476: polynomial 0x1021, initial value 0xFFFF. -/
def crc16 (bs : List Nat) : Nat := bs.foldl (crcByte 16 0x1021) 0xFFFF

/-- One bit step of the reflected CRC-32. -/
def crc32Shift (r : Nat) : Nat := if bit r 0 then r / 2 ^^^ 0xEDB88320 else r / 2

/-- One byte into the reflected CRC-32. -/
def crc32Byte (r b : Nat) : Nat := Nat.repeat crc32Shift 8 (r ^^^ b % 256)

/-- CRC-32 of R476: the IEEE 802.3 polynomial, reflected, initial value and final XOR 0xFFFF_FFFF. -/
def crc32 (bs : List Nat) : Nat := bs.foldl crc32Byte 0xFFFFFFFF ^^^ 0xFFFFFFFF

/-- The ASCII bytes "123456789" of R476's check values. -/
def crcCheckBytes : List Nat := [0x31, 0x32, 0x33, 0x34, 0x35, 0x36, 0x37, 0x38, 0x39]

end Sys2Proof.Machine
end

