-- ==== Sys2Proof/Config.lean ====
section
/-! DEFINITION. What the spec leaves open: free values. Each is an opaque constant with no body, so a statement about it
holds whatever it is. -/

namespace Sys2Proof

/-- The free value of draw `n`: a value the spec leaves open at that point of the run (log 1). -/
opaque Config.freeValue : Nat → BitVec 64

/-- How far the time-base oscillator runs ahead of its nominal rate against LT between two instants, in units of 2^-16 ns as a
signed number (R277, R285): the spec gives no relation between the two clocks (log 16). -/
opaque Config.tbcDrift : Nat → Nat → BitVec 64

/-- What instruction word `i` of a cluster's program memory holds after the `n`-th time it was power-gated and not kept (R307). -/
opaque Config.lostWord : Nat → Nat → DWord

/-- Word `i` of the read-only table of LDPC codes at LRX 0x9000 (R71): the spec gives its place and not its content. -/
opaque Config.codeTable : Nat → DWord

/-- The latencies of the receive path outside the decoder, and of the transmit path, at a symbol rate in MBd, in ticks (R37, R73): the spec
gives them registers and no values (log 13). -/
opaque Config.rxLatency : Nat → BitVec 24
opaque Config.txLatency : Nat → BitVec 24

end Sys2Proof
end

