-- ==== Sys2Proof/Machine/Maps.lean ====
section
/-! DEFINITION. Sparse tables in one canonical form: a list of key and value pairs, keys strictly rising, no entry equal to
what an unlisted key reads as. -/

namespace Sys2Proof.Machine

/-- What key `k` of a sparse number table reads as: an unlisted key reads 0. -/
def smGet : List (Nat × Nat) → Nat → Nat
  | [], _ => 0
  | (a, v) :: t, k => if k == a then v else if k < a then 0 else smGet t k

/-- The table with key `k` reading `v`: writing 0 removes the entry. -/
def smSet : List (Nat × Nat) → Nat → Nat → List (Nat × Nat)
  | [], k, v => if v == 0 then [] else [(k, v)]
  | (a, x) :: t, k, v =>
    if k == a then (if v == 0 then t else (k, v) :: t)
    else if k < a then (if v == 0 then (a, x) :: t else (k, v) :: (a, x) :: t)
    else (a, x) :: smSet t k v

/-- The canonical form above a bound: keys rise strictly from above `lo`, and no value is 0. -/
def smWfAbove : Nat → List (Nat × Nat) → Bool
  | _, [] => true
  | lo, (a, v) :: t => decide (lo < a) && v != 0 && smWfAbove a t

/-- The canonical form of a sparse number table. -/
def smWf : List (Nat × Nat) → Bool
  | [] => true
  | (a, v) :: t => v != 0 && smWfAbove a t

/-- The entry of key `k` in a table of records. -/
def amGet? {α : Type} : List (Nat × α) → Nat → Option α
  | [], _ => none
  | (a, v) :: t, k => if k == a then some v else amGet? t k

/-- The entry of key `k`, or `d` where none is listed. -/
def amGetD {α : Type} (d : α) (m : List (Nat × α)) (k : Nat) : α := (amGet? m k).getD d

/-- The table with key `k` holding `v`, in key order. -/
def amSet {α : Type} : List (Nat × α) → Nat → α → List (Nat × α)
  | [], k, v => [(k, v)]
  | (a, x) :: t, k, v =>
    if k == a then (k, v) :: t else if k < a then (k, v) :: (a, x) :: t else (a, x) :: amSet t k v

/-- The table without key `k`. -/
def amDel {α : Type} (m : List (Nat × α)) (k : Nat) : List (Nat × α) := m.filter fun e => e.1 != k

/-- A table of records that all hold `d` until written: an entry equal to `d` is not listed. -/
def amPut {α : Type} [BEq α] (d : α) (m : List (Nat × α)) (k : Nat) (v : α) : List (Nat × α) :=
  if v == d then amDel m k else amSet m k v

/-- The first index from `i` below `i + n` that `p` accepts. -/
def findIdxFrom (p : Nat → Bool) (i : Nat) : Nat → Option Nat
  | 0 => none
  | n + 1 => if p i then some i else findIdxFrom p (i + 1) n

/-- The least element of a list of numbers. -/
def minList : List Nat → Option Nat
  | [] => none
  | a :: t => some (t.foldl min a)

/-- A list with its element at `i` replaced. -/
def putAt {α : Type} (l : List α) (i : Nat) (v : α) : List α := l.set i v

end Sys2Proof.Machine
end

