-- ==== Sys2Proof/Machine/Fld.lean ====
section
/-! DEFINITION. What a register field is: its page, place, width, access type, reset value, attribute and apply kind (R12 to
R17), and the reset values that differ from channel to channel or from page to page (R470, R477, R351, R294). -/

namespace Sys2Proof.Machine

/-- The register pages of R470, the common layout of every page (COM, R340) and the classifier entry window (CLSE, R471). -/
inductive Page where
  | COM | LTM | LRX | LMS | FRM | UPB | CLP | CLSE | CLS | QSH | GAT | CAV | DDR | CIP | CIPU | TIM | VAT | PCI | DMA
  | SER | FKL | PWR | FLT | BOT | GLB
deriving DecidableEq, Repr

/-- Where a field's copies lie: one page-global copy, one per channel of the window, a table of entries, one per page, the
performance counters of a page, or one per classifier entry. -/
inductive FKind where
  | glob | win | tab | com | perf | entry
deriving DecidableEq, Repr

/-- The access types of R12. -/
inductive Acc where
  | rw | rwb | ro | ros | w1c | w1s | wo | rwh | cnt | lock
deriving DecidableEq, Repr

/-- The attributes of R13. -/
inductive Attr where
  | all | prv | sec
deriving DecidableEq, Repr

/-- The boundary at which a buffered field applies (R14). -/
inductive Ap where
  | none | slot | frame | multiframe | superframe | packet | page
deriving DecidableEq, Repr

/-- How a field's reset value is found: fixed, or by page or channel. -/
inductive RSel where
  | fixed | tbMode | irVector | irFunc | pageIndex | pageInstance | boundaries | hasApply | hasCh | perf8 | hasTables
  | chCount | perfClk
deriving DecidableEq, Repr

/-- One field of a register table. -/
structure Fld where
  id : Nat
  page : Page
  kind : FKind := .glob
  off : Nat
  stride : Nat := 4
  cnt : Nat := 1
  lo : Nat := 0
  w : Nat := 32
  ty : Acc := .ro
  reset : Nat := 0
  rsel : RSel := .fixed
  attr : Attr := .all
  apply : Ap := .none
  chLo : Nat := 0
  chHi : Nat := 0
deriving DecidableEq, Repr

/-- What R470, R477 and R432 fix of one page: BOUNDARIES, HAS_APPLY, CH_COUNT, eight counters, tables, counting clock. -/
structure PageInfo where
  boundaries : Nat
  hasApply : Bool
  chCount : Nat
  perf8 : Bool
  tables : Bool
  region : Nat
deriving DecidableEq, Repr

/-- R470 and R477, by PAGE_INDEX. The ring page of VFn is held under index 64 + n (R472). -/
def pageInfo (p : Nat) : PageInfo :=
  match p with
  | 0 => ⟨0, false, 0, false, false, 16⟩
  | 1 => ⟨0, false, 6, false, false, 16⟩
  | 2 => ⟨0, false, 0, false, true, 16⟩
  | 3 => ⟨0, false, 0, false, true, 16⟩
  | 4 => ⟨0, false, 34, false, true, 14⟩
  | 5 => ⟨0, false, 32, false, false, 14⟩
  | 6 => ⟨0x2F, true, 0, false, true, 10⟩
  | 7 => ⟨0x2F, true, 32, true, true, 8⟩
  | 8 => ⟨0x2F, true, 96, true, false, 10⟩
  | 9 => ⟨0, false, 2, false, false, 8⟩
  | 10 => ⟨0x2F, true, 8192, true, true, 9⟩
  | 11 => ⟨0x2F, true, 4, false, true, 10⟩
  | 12 => ⟨0x3F, true, 16, false, false, 11⟩
  | 13 => ⟨0x3F, true, 19, false, false, 12⟩
  | 14 => ⟨0x3F, true, 12496, false, false, 12⟩
  | 15 => ⟨0, false, 16, false, true, 12⟩
  | 16 => ⟨0, false, 64, true, true, 13⟩
  | 17 => ⟨0, false, 16, false, false, 13⟩
  | 18 => ⟨0, false, 0, false, true, 10⟩
  | 35 => ⟨0x2F, true, 128, true, true, 10⟩
  | 36 => ⟨0, false, 24, false, false, 11⟩
  | 37 => ⟨0x2F, true, 2, false, true, 15⟩
  | p => if 64 ≤ p then ⟨0, false, 1, false, false, 14⟩ else ⟨0, false, 0, false, false, 10⟩

/-- PAGE_INDEX of a page; CIPn is 19 + n (R470). -/
def Page.index (p : Page) (n : Nat := 0) : Nat :=
  match p with
  | .GLB => 0 | .PWR => 1 | .FLT => 2 | .BOT => 3 | .PCI => 4 | .DMA => 5 | .LTM => 6 | .LRX => 7 | .FRM => 8 | .LMS => 9
  | .UPB => 10 | .TIM => 11 | .CLP => 12 | .CLS => 13 | .CLSE => 13 | .QSH => 14 | .GAT => 15 | .CAV => 16 | .DDR => 17
  | .CIP => 18 | .CIPU => 19 + n | .VAT => 35 | .SER => 36 | .FKL => 37 | .COM => n

/-- Where source `s` is routed at reset: FUNC and VECTOR (R351). -/
def irReset (s : Nat) : Nat × Nat :=
  if s == 18 then (1, 0) else if 20 ≤ s && s ≤ 34 then (s - 18, 0) else (0, s)

/-- The counting clock of a page as a position in the table of R33. DESIGN CHOICE (log 6): R432 says 'per page' and names no
page's clock; the model takes the domain of the page's own block. A vat cluster's counters are held under 128 + c. -/
def pagePerfClk (p : Nat) : Nat :=
  if 128 ≤ p then 7 + (p - 128) / 16
  else match p with
    | 0 => 57 | 1 => 59 | 2 => 58 | 3 => 57 | 4 => 53 | 5 => 53 | 6 => 6 | 7 => 1 | 8 => 6 | 9 => 1 | 10 => 5 | 11 => 56
    | 12 => 32 | 13 => 33 | 14 => 33 | 15 => 33 | 16 => 50 | 17 => 50 | 35 => 7 | 36 => 32 | 37 => 55
    | p => if 64 ≤ p then 53 else 51

/-- The reset value of copy `c` of a field (R17, R294, R340, R351, R470, R477). -/
def Fld.resetAt (f : Fld) (c : Nat) : Nat :=
  match f.rsel with
  | .fixed => f.reset
  | .tbMode => if c == 0 then 4 else 0
  | .irVector => (irReset c).2
  | .irFunc => (irReset c).1
  | .pageIndex => if 64 ≤ c then c - 64 + 19 else c
  | .pageInstance => if 19 ≤ c && c ≤ 34 then c - 19 else 0
  | .boundaries => (pageInfo c).boundaries
  | .hasApply => if (pageInfo c).hasApply then 1 else 0
  | .hasCh => if (pageInfo c).chCount == 0 then 0 else 1
  | .perf8 => if (pageInfo c).perf8 then 1 else 0
  | .hasTables => if (pageInfo c).tables then 1 else 0
  | .chCount => (pageInfo c).chCount
  | .perfClk => pagePerfClk c

/-- The place of copy `k` of channel `c` among a field's copies. -/
def Fld.copy (f : Fld) (c k : Nat) : Nat := c * f.cnt + k

/-- The key of copy `i` of a field in the register file. -/
def Fld.key (f : Fld) (i : Nat) : Nat := f.id * 2 ^ 20 + i % 2 ^ 20

end Sys2Proof.Machine
end

