-- ==== Sys2Proof/Machine/RegsA.lean ====
section
/-! DEFINITION. The register fields of pages COM, LTM, LRX, LMS, FRM, UPB,
as the register tables of the spec list them: offset, bits, access type, reset value, attribute, apply kind.
Each docstring names the rule of the table and, where short, what the field holds. -/

namespace Sys2Proof.Machine

/-- R54: Write 1 to seal the shadow and request an apply; writing 0 has no effect (R49); …. -/
def C_APPLY_REQ : Fld := { id := 1, page := .COM, kind := .com, off := 0x18, w := 1, ty := .rwh }
/-- R54: Boundary kind, coded as in R48. -/
def C_APPLY_BOUNDARY : Fld := { id := 2, page := .COM, kind := .com, off := 0x18, lo := 1, w := 3, ty := .rw, reset := 1 }
/-- R54: 1 while a sealed shadow waits. -/
def C_APPLY_PENDING : Fld := { id := 3, page := .COM, kind := .com, off := 0x18, lo := 4, w := 1 }
/-- R54: Write 1 to discard a sealed shadow whose boundary has not been taken. -/
def C_APPLY_CANCEL : Fld := { id := 4, page := .COM, kind := .com, off := 0x18, lo := 5, w := 1, ty := .wo }
/-- R54: An RWB write was ignored because the shadow was sealed. -/
def C_WR_SEALED : Fld := { id := 5, page := .COM, kind := .com, off := 0x18, lo := 6, w := 1, ty := .w1c }
/-- R54: The AT_LT target was resolved more than 32.768 ms ahead. -/
def C_AT_LT_FAR : Fld := { id := 6, page := .COM, kind := .com, off := 0x18, lo := 7, w := 1, ty := .w1c }
/-- R54: Applies completed since reset; wraps. -/
def C_APPLY_COUNT : Fld := { id := 7, page := .COM, kind := .com, off := 0x18, lo := 16, w := 16, ty := .cnt }
/-- R54: Low 32 bits of the AT_LT target, in ticks. -/
def C_APPLY_LT : Fld := { id := 8, page := .COM, kind := .com, off := 0x1C, ty := .rw }
/-- R340: The page's index in the interrupt source table of R350. -/
def C_PAGE_INDEX : Fld := { id := 577, page := .COM, kind := .com, off := 0x0, w := 8, rsel := .pageIndex }
/-- R340: n for CIPn; 0 otherwise. -/
def C_INSTANCE : Fld := { id := 578, page := .COM, kind := .com, off := 0x0, lo := 8, w := 8, rsel := .pageInstance }
/-- R340: Fixed. -/
def C_SIGNATURE : Fld := { id := 579, page := .COM, kind := .com, off := 0x0, lo := 16, w := 16, reset := 0x5A72 }
/-- R340: Revision of the page layout, minor; 0 on every page in this revision (R477). -/
def C_MINOR : Fld := { id := 580, page := .COM, kind := .com, off := 0x4, w := 8 }
/-- R340: Revision of the page layout, major; 1 on every page in this revision (R477). -/
def C_MAJOR : Fld := { id := 581, page := .COM, kind := .com, off := 0x4, lo := 8, w := 8, reset := 1 }
/-- R340: Bit k: boundary code k of R48 is supported. -/
def C_BOUNDARIES : Fld := { id := 582, page := .COM, kind := .com, off := 0x8, w := 8, rsel := .boundaries }
/-- R340: The page has RWB fields and an APPLY register. When 0, APPLY and APPLY_LT read zero …. -/
def C_HAS_APPLY : Fld := { id := 583, page := .COM, kind := .com, off := 0x8, lo := 8, w := 1, rsel := .hasApply }
/-- R340: The page has a channel window. -/
def C_HAS_CH : Fld := { id := 584, page := .COM, kind := .com, off := 0x8, lo := 9, w := 1, rsel := .hasCh }
/-- R340: Eight performance counters rather than four. -/
def C_PERF8 : Fld := { id := 585, page := .COM, kind := .com, off := 0x8, lo := 10, w := 1, rsel := .perf8 }
/-- R340: Counter pairs may be chained to 96 bits. -/
def C_CHAIN : Fld := { id := 586, page := .COM, kind := .com, off := 0x8, lo := 11, w := 1, rsel := .perf8 }
/-- R340: Block tables from 0x1000. -/
def C_HAS_TABLES : Fld := { id := 587, page := .COM, kind := .com, off := 0x8, lo := 12, w := 1, rsel := .hasTables }
/-- R340: Locks the page's configuration under R349. -/
def C_CFG_LOCK : Fld := { id := 588, page := .COM, kind := .com, off := 0xC, w := 1, ty := .lock, attr := .prv }
/-- R340: A write reached a locked field; cleared by STICKY_CLR. -/
def C_LOCK_VIOL : Fld := { id := 589, page := .COM, kind := .com, off := 0xC, lo := 1, w := 1, ty := .ros }
/-- R340: A hardware update was lost under R345; cleared by STICKY_CLR. -/
def C_HW_LOST : Fld := { id := 590, page := .COM, kind := .com, off := 0xC, lo := 2, w := 1, ty := .ros }
/-- R340: Write 1 to clear LOCK_VIOL and HW_LOST. -/
def C_STICKY_CLR : Fld := { id := 591, page := .COM, kind := .com, off := 0xC, lo := 3, w := 1, ty := .wo, attr := .prv }
/-- R340: Defined by the page's chapter. -/
def C_INT_STAT : Fld := { id := 592, page := .COM, kind := .com, off := 0x20, ty := .w1c }
/-- R340: Same layout as INT_STAT. -/
def C_INT_EN : Fld := { id := 593, page := .COM, kind := .com, off := 0x24, ty := .rw }
/-- R340: In FACTORY, writing 1 sets the same bit of INT_STAT. In every other mode it reads zero …. -/
def C_INT_FORCE : Fld := { id := 594, page := .COM, kind := .com, off := 0x28, ty := .w1s, attr := .prv }
/-- R340: Selected channel, banked under R341. -/
def C_CH_SEL : Fld := { id := 595, page := .COM, kind := .com, off := 0x30, w := 16, ty := .rw }
/-- R340: Channels in the window; 0 when HAS_CH is 0. -/
def C_CH_COUNT : Fld := { id := 596, page := .COM, kind := .com, off := 0x34, w := 16, rsel := .chCount }
/-- R431: Cause of the first report from this page since the last LF_CLR. -/
def C_LF_CAUSE : Fld := { id := 747, page := .COM, kind := .com, off := 0xC00, w := 8 }
/-- R431: Its class. -/
def C_LF_CLASS : Fld := { id := 748, page := .COM, kind := .com, off := 0xC00, lo := 8, w := 2 }
/-- R431: A report is held. -/
def C_LF_VALID : Fld := { id := 749, page := .COM, kind := .com, off := 0xC00, lo := 31, w := 1 }
/-- R431: Channel index of its source within the page. -/
def C_LF_SOURCE : Fld := { id := 750, page := .COM, kind := .com, off := 0xC04, w := 16 }
/-- R431: Later reports from this page; saturates. -/
def C_LF_DUP : Fld := { id := 751, page := .COM, kind := .com, off := 0xC08, w := 16, ty := .cnt }
/-- R431: Write 1 to clear 0xC00–0xC08. -/
def C_LF_CLR : Fld := { id := 752, page := .COM, kind := .com, off := 0xC0C, w := 1, ty := .wo, attr := .prv }
/-- R431: Corrected faults of this page are not passed upward. -/
def C_MASK_CORR : Fld := { id := 753, page := .COM, kind := .com, off := 0xC10, w := 1, ty := .rw, attr := .prv }
/-- R431: Contained faults of this page are not passed upward. -/
def C_MASK_CONT : Fld := { id := 754, page := .COM, kind := .com, off := 0xC10, lo := 1, w := 1, ty := .rw, attr := .prv }
/-- R432: Counting-clock cycles, low half; the read latches the high half for this master. -/
def C_PERF_CYC_LO : Fld := { id := 755, page := .COM, kind := .com, off := 0x800, ty := .cnt }
/-- R432: High half. -/
def C_PERF_CYC_HI : Fld := { id := 756, page := .COM, kind := .com, off := 0x804, ty := .cnt }
/-- R432: Every counter of the page stops. -/
def C_PERF_FREEZE : Fld := { id := 757, page := .COM, kind := .com, off := 0x808, w := 1, ty := .rw }
/-- R432: Write 1 to load zero into every counter of the page. -/
def C_PERF_CLEAR : Fld := { id := 758, page := .COM, kind := .com, off := 0x808, lo := 1, w := 1, ty := .wo }
/-- R432: Counting clock: the domain's position, 0–59, in the table of R33. -/
def C_PERF_CLK : Fld := { id := 759, page := .COM, kind := .com, off := 0x808, lo := 8, w := 6, rsel := .perfClk }
/-- R432: Bit k: counter k wrapped. -/
def C_PERF_OVF : Fld := { id := 760, page := .COM, kind := .com, off := 0x808, lo := 16, w := 8, ty := .w1c }
/-- R432: Low 32 bits of the LT at the last sampling interrupt. -/
def C_PERF_SAMPLE_LT : Fld := { id := 761, page := .COM, kind := .com, off := 0x80C }
/-- R432: Event of counter k, under R436. -/
def C_PERF_EVENT : Fld := { id := 762, page := .COM, kind := .perf, off := 0x810, stride := 16, cnt := 8, w := 8, ty := .rw }
/-- R432: Counter k counts. -/
def C_PERF_EN : Fld := { id := 763, page := .COM, kind := .perf, off := 0x810, stride := 16, cnt := 8, lo := 8, w := 1, ty := .rw }
/-- R432: Threshold qualification. -/
def C_PERF_THR_EN : Fld := { id := 764, page := .COM, kind := .perf, off := 0x810, stride := 16, cnt := 8, lo := 9, w := 1, ty := .rw }
/-- R432: Odd k only: chain with counter k − 1. -/
def C_PERF_CHAIN : Fld := { id := 765, page := .COM, kind := .perf, off := 0x810, stride := 16, cnt := 8, lo := 10, w := 1, ty := .rw }
/-- R432: A wrap raises a sampling interrupt. -/
def C_PERF_SAMPLE : Fld := { id := 766, page := .COM, kind := .perf, off := 0x810, stride := 16, cnt := 8, lo := 11, w := 1, ty := .rw }
/-- R432: Threshold N. -/
def C_PERF_THRESH : Fld := { id := 767, page := .COM, kind := .perf, off := 0x814, stride := 16, cnt := 8, ty := .rw }
/-- R432: Count, low half; the read latches the high half for this master. -/
def C_PERF_VAL_LO : Fld := { id := 768, page := .COM, kind := .perf, off := 0x818, stride := 16, cnt := 8, ty := .cnt }
/-- R432: Count, high 16 bits. -/
def C_PERF_VAL_HI : Fld := { id := 769, page := .COM, kind := .perf, off := 0x81C, stride := 16, cnt := 8, w := 16, ty := .cnt }

/-- Part 0 of the fields of COM. -/
def fieldsCOM0 : List Fld := [C_APPLY_REQ, C_APPLY_BOUNDARY, C_APPLY_PENDING, C_APPLY_CANCEL, C_WR_SEALED, C_AT_LT_FAR, C_APPLY_COUNT, C_APPLY_LT, C_PAGE_INDEX, C_INSTANCE, C_SIGNATURE, C_MINOR, C_MAJOR, C_BOUNDARIES, C_HAS_APPLY, C_HAS_CH, C_PERF8, C_CHAIN, C_HAS_TABLES, C_CFG_LOCK]
/-- Part 1 of the fields of COM. -/
def fieldsCOM1 : List Fld := [C_LOCK_VIOL, C_HW_LOST, C_STICKY_CLR, C_INT_STAT, C_INT_EN, C_INT_FORCE, C_CH_SEL, C_CH_COUNT, C_LF_CAUSE, C_LF_CLASS, C_LF_VALID, C_LF_SOURCE, C_LF_DUP, C_LF_CLR, C_MASK_CORR, C_MASK_CONT, C_PERF_CYC_LO, C_PERF_CYC_HI, C_PERF_FREEZE, C_PERF_CLEAR]
/-- Part 2 of the fields of COM. -/
def fieldsCOM2 : List Fld := [C_PERF_CLK, C_PERF_OVF, C_PERF_SAMPLE_LT, C_PERF_EVENT, C_PERF_EN, C_PERF_THR_EN, C_PERF_CHAIN, C_PERF_SAMPLE, C_PERF_THRESH, C_PERF_VAL_LO, C_PERF_VAL_HI]
/-- The fields of COM. -/
def fieldsCOM : List Fld := fieldsCOM0 ++ fieldsCOM1 ++ fieldsCOM2

/-- R55: Target LT64, low half. -/
def LTM_LE_TARGET_LO : Fld := { id := 9, page := .LTM, kind := .tab, off := 0x1000, stride := 16, cnt := 256, ty := .rw }
/-- R55: Target LT64, high half. -/
def LTM_LE_TARGET_HI : Fld := { id := 10, page := .LTM, kind := .tab, off := 0x1004, stride := 16, cnt := 256, ty := .rw }
/-- R55: Action argument, as in R58. -/
def LTM_LE_ARG : Fld := { id := 11, page := .LTM, kind := .tab, off := 0x1008, stride := 16, cnt := 256, ty := .rw }
/-- R55: 0: fire once; 1–65,535: after firing, re-arm at target + PERIOD frames. -/
def LTM_LE_PERIOD : Fld := { id := 12, page := .LTM, kind := .tab, off := 0x100C, stride := 16, cnt := 256, lo := 8, w := 16, ty := .rw }
/-- R55: Action code, as in R58. -/
def LTM_LE_ACTION : Fld := { id := 13, page := .LTM, kind := .tab, off := 0x100C, stride := 16, cnt := 256, lo := 24, w := 4, ty := .rw }
/-- R55: 0 IDLE, 1 ARMED, 2 FIRED, 3 LATE, 4 COLLIDE, 5 SKIPPED, 6 MISALIGNED, 7 reserved. -/
def LTM_LE_STATUS : Fld := { id := 14, page := .LTM, kind := .tab, off := 0x100C, stride := 16, cnt := 256, lo := 28, w := 3 }
/-- R55: Write 1 to arm, 0 to disarm; cleared by hardware after a one-shot fires. -/
def LTM_LE_ARMED : Fld := { id := 15, page := .LTM, kind := .tab, off := 0x100C, stride := 16, cnt := 256, lo := 31, w := 1, ty := .rwh }
/-- R60: Low half of LT64; the read also latches the high half into this master's copy of …. -/
def LTM_LT_SNAP_LO : Fld := { id := 16, page := .LTM, off := 0x100 }
/-- R60: High half latched by the last LT_SNAP_LO read of the same master. -/
def LTM_LT_SNAP_HI : Fld := { id := 17, page := .LTM, off := 0x104 }
/-- R60: LT state, as in R39. -/
def LTM_STATE : Fld := { id := 18, page := .LTM, off := 0x108, w := 3 }
/-- R60: 1 when STATE is LOCKED and the burst builder may start bursts. -/
def LTM_LAUNCH_OK : Fld := { id := 19, page := .LTM, off := 0x108, lo := 3, w := 1 }
/-- R60: Accumulated holdover has exceeded 2 s. -/
def LTM_FINE_RANGE_REQ : Fld := { id := 20, page := .LTM, off := 0x108, lo := 4, w := 1 }
/-- R60: Accumulated holdover in multiframes; saturates. -/
def LTM_HOLD_MF : Fld := { id := 21, page := .LTM, off := 0x108, lo := 16, w := 16 }
/-- R60: Signed size in ticks of the last step; saturates. -/
def LTM_LT_STEP : Fld := { id := 22, page := .LTM, off := 0x10C }
/-- R60: EqD in force, in ticks. -/
def LTM_EQD : Fld := { id := 23, page := .LTM, off := 0x110 }
/-- R60: Signed correction still to apply, in ticks. -/
def LTM_EQD_PEND : Fld := { id := 24, page := .LTM, off := 0x114 }
/-- R60: Front-end receive latency, in ticks. -/
def LTM_FE_RX_LAT : Fld := { id := 25, page := .LTM, off := 0x118, w := 24, ty := .rwb, attr := .prv, apply := .frame }
/-- R60: Front-end transmit latency, in ticks. -/
def LTM_FE_TX_LAT : Fld := { id := 26, page := .LTM, off := 0x11C, w := 24, ty := .rwb, attr := .prv, apply := .frame }
/-- R60: Internal receive latency at the current symbol rate, in ticks. -/
def LTM_DEV_RX_LAT : Fld := { id := 27, page := .LTM, off := 0x120, w := 24 }
/-- R60: Internal transmit latency at the current symbol rate, in ticks. -/
def LTM_DEV_TX_LAT : Fld := { id := 28, page := .LTM, off := 0x124, w := 24 }
/-- R60: Frame boundaries at which EQD changed. -/
def LTM_EQD_APPLIED : Fld := { id := 29, page := .LTM, off := 0x130, ty := .cnt }
/-- R60: Frame boundaries deferred under R46. -/
def LTM_EQD_DEFERRED : Fld := { id := 30, page := .LTM, off := 0x134, ty := .cnt }
/-- R60: LT steps taken. -/
def LTM_LT_STEPS : Fld := { id := 31, page := .LTM, off := 0x138, ty := .cnt }
/-- R60: Entries refused at arming or not fired through collision. -/
def LTM_LAUNCH_REJECT : Fld := { id := 32, page := .LTM, off := 0x13C, ty := .cnt }
/-- R60: TAG of the last INTERRUPT action. -/
def LTM_LAUNCH_TAG : Fld := { id := 33, page := .LTM, off := 0x140, w := 8 }

/-- Part 0 of the fields of LTM. -/
def fieldsLTM0 : List Fld := [LTM_LE_TARGET_LO, LTM_LE_TARGET_HI, LTM_LE_ARG, LTM_LE_PERIOD, LTM_LE_ACTION, LTM_LE_STATUS, LTM_LE_ARMED, LTM_LT_SNAP_LO, LTM_LT_SNAP_HI, LTM_STATE, LTM_LAUNCH_OK, LTM_FINE_RANGE_REQ, LTM_HOLD_MF, LTM_LT_STEP, LTM_EQD, LTM_EQD_PEND, LTM_FE_RX_LAT, LTM_FE_TX_LAT, LTM_DEV_RX_LAT, LTM_DEV_TX_LAT]
/-- Part 1 of the fields of LTM. -/
def fieldsLTM1 : List Fld := [LTM_EQD_APPLIED, LTM_EQD_DEFERRED, LTM_LT_STEPS, LTM_LAUNCH_REJECT, LTM_LAUNCH_TAG]
/-- The fields of LTM. -/
def fieldsLTM : List Fld := fieldsLTM0 ++ fieldsLTM1

/-- R85: Control subcarrier in use: [4] carrier (0 A, 1 B), [3:0] index. -/
def LRX_CTRL_SC : Fld := { id := 34, page := .LRX, off := 0x100, w := 5 }
/-- R85: Second candidate under R81, coded as CTRL_SC. -/
def LRX_CTRL_HINT : Fld := { id := 35, page := .LRX, off := 0x104, w := 5, ty := .rw, attr := .prv }
/-- R85: CTRL_HINT is to be tried. -/
def LRX_HINT_VALID : Fld := { id := 36, page := .LRX, off := 0x104, lo := 31, w := 1, ty := .rw, attr := .prv }
/-- R85: Signed CD hint for carrier A, ps/nm. -/
def LRX_CD_HINT_A : Fld := { id := 37, page := .LRX, off := 0x108, w := 18, ty := .rw, attr := .prv }
/-- R85: Use CD_HINT_A. -/
def LRX_CD_HINT_A_VALID : Fld := { id := 38, page := .LRX, off := 0x108, lo := 31, w := 1, ty := .rw, attr := .prv }
/-- R85: Signed CD hint for carrier B, ps/nm. -/
def LRX_CD_HINT_B : Fld := { id := 39, page := .LRX, off := 0x10C, w := 18, ty := .rw, attr := .prv }
/-- R85: Use CD_HINT_B. -/
def LRX_CD_HINT_B_VALID : Fld := { id := 40, page := .LRX, off := 0x10C, lo := 31, w := 1, ty := .rw, attr := .prv }
/-- R85: Signed CD compensated on A, ps/nm. -/
def LRX_CD_ACTIVE_A : Fld := { id := 41, page := .LRX, off := 0x110, w := 18 }
/-- R85: Signed CD compensated on B, ps/nm. -/
def LRX_CD_ACTIVE_B : Fld := { id := 42, page := .LRX, off := 0x114, w := 18 }
/-- R85: Carrier A state, as in R83. -/
def LRX_ACQ_STATE_A : Fld := { id := 43, page := .LRX, off := 0x118, w := 3 }
/-- R85: Carrier B state, as in R83. -/
def LRX_ACQ_STATE_B : Fld := { id := 44, page := .LRX, off := 0x118, lo := 4, w := 3 }
/-- R85: Expected symbol rate, MBd, 60,000–150,000; other values are reserved encodings. Taken …. -/
def LRX_RS_EXPECT : Fld := { id := 45, page := .LRX, off := 0x11C, w := 18, ty := .rwh, attr := .prv }
/-- R85: Symbol rate in force, MBd. -/
def LRX_SYM_RATE : Fld := { id := 46, page := .LRX, off := 0x120, w := 18 }
/-- R85: Admitted load, Mb/s. -/
def LRX_DECODE_LOAD : Fld := { id := 47, page := .LRX, off := 0x124 }
/-- R85: Admitted subcarriers of A. -/
def LRX_ADMIT_A : Fld := { id := 48, page := .LRX, off := 0x128, w := 16 }
/-- R85: Admitted subcarriers of B. -/
def LRX_ADMIT_B : Fld := { id := 49, page := .LRX, off := 0x128, lo := 16, w := 16 }
/-- R85: Refused subcarriers of A at the last working-out. -/
def LRX_REFUSE_A : Fld := { id := 50, page := .LRX, off := 0x12C, w := 16 }
/-- R85: Refused subcarriers of B at the last working-out. -/
def LRX_REFUSE_B : Fld := { id := 51, page := .LRX, off := 0x12C, lo := 16, w := 16 }
/-- R85: Working-outs that refused a subcarrier, plus one for each subcarrier counted under R70 …. -/
def LRX_REFUSALS : Fld := { id := 52, page := .LRX, off := 0x130, ty := .cnt }
/-- R85: Acquisition states that overran. -/
def LRX_ACQ_RETRY : Fld := { id := 53, page := .LRX, off := 0x134, ty := .cnt }
/-- R85: Target RMS ADC code. -/
def LRX_AGC_TARGET : Fld := { id := 54, page := .LRX, off := 0x138, w := 8, ty := .rwb, reset := 28, attr := .prv, apply := .frame }
/-- R85: 0: vat writes the coefficient banks; 1: host writes. -/
def LRX_COEF_OWNER : Fld := { id := 55, page := .LRX, off := 0x13C, w := 1, ty := .rw, attr := .prv }
/-- R86: Profile in force. -/
def LRX_PROF : Fld := { id := 56, page := .LRX, kind := .win, off := 0x400, w := 5, chLo := 0, chHi := 31 }
/-- R86: Demapped and decoded this multiframe. -/
def LRX_ADMITTED : Fld := { id := 57, page := .LRX, kind := .win, off := 0x400, lo := 5, w := 1, chLo := 0, chHi := 31 }
/-- R86: Refused at the last working-out. -/
def LRX_REFUSED : Fld := { id := 58, page := .LRX, kind := .win, off := 0x400, lo := 6, w := 1, chLo := 0, chHi := 31 }
/-- R86: Equaliser converged. -/
def LRX_EQ_CONV : Fld := { id := 59, page := .LRX, kind := .win, off := 0x400, lo := 7, w := 1, chLo := 0, chHi := 31 }
/-- R86: This is the control subcarrier. -/
def LRX_IS_CTRL : Fld := { id := 60, page := .LRX, kind := .win, off := 0x400, lo := 8, w := 1, chLo := 0, chHi := 31 }
/-- R86: Active coefficient bank. -/
def LRX_BANK : Fld := { id := 61, page := .LRX, kind := .win, off := 0x400, lo := 9, w := 1, chLo := 0, chHi := 31 }
/-- R86: Inactive bank ready to swap; set by its owner, cleared by the swap. -/
def LRX_BANK_READY : Fld := { id := 62, page := .LRX, kind := .win, off := 0x400, lo := 10, w := 1, ty := .rwh, chLo := 0, chHi := 31 }
/-- R86: Equalised SNR, 0.1 dB. -/
def LRX_SNR : Fld := { id := 63, page := .LRX, kind := .win, off := 0x404, w := 16, chLo := 0, chHi := 31 }
/-- R86: SNR measured over the last multiframe. -/
def LRX_SNR_VALID : Fld := { id := 64, page := .LRX, kind := .win, off := 0x404, lo := 31, w := 1, chLo := 0, chHi := 31 }
/-- R86: Blocks decoded, low half; the read latches the high half for this master. -/
def LRX_BLOCKS_LO : Fld := { id := 65, page := .LRX, kind := .win, off := 0x408, ty := .cnt, chLo := 0, chHi := 31 }
/-- R86: Blocks decoded, high half. -/
def LRX_BLOCKS_HI : Fld := { id := 66, page := .LRX, kind := .win, off := 0x40C, ty := .cnt, chLo := 0, chHi := 31 }
/-- R86: Bits corrected, low half; the read latches the high half. -/
def LRX_CORR_LO : Fld := { id := 67, page := .LRX, kind := .win, off := 0x410, ty := .cnt, chLo := 0, chHi := 31 }
/-- R86: Bits corrected, high half. -/
def LRX_CORR_HI : Fld := { id := 68, page := .LRX, kind := .win, off := 0x414, ty := .cnt, chLo := 0, chHi := 31 }
/-- R86: Uncorrectable blocks. -/
def LRX_UNCORR : Fld := { id := 69, page := .LRX, kind := .win, off := 0x418, ty := .cnt, chLo := 0, chHi := 31 }
/-- R86: Payload bits per multiframe under R72 at the profile in force. -/
def LRX_PAYLOAD_MF : Fld := { id := 70, page := .LRX, kind := .win, off := 0x41C, chLo := 0, chHi := 31 }
/-- R67: coefficient banks, word at 256ch+128bank+13f+t. -/
def LRX_COEF : Fld := { id := 863, page := .LRX, kind := .tab, off := 0x1000, stride := 4, cnt := 8192, ty := .rw }
/-- R71: read-only code table; content not given by the spec. -/
def LRX_CODE_TABLE : Fld := { id := 864, page := .LRX, kind := .tab, off := 0x9000, stride := 4, cnt := 1024 }

/-- Part 0 of the fields of LRX. -/
def fieldsLRX0 : List Fld := [LRX_CTRL_SC, LRX_CTRL_HINT, LRX_HINT_VALID, LRX_CD_HINT_A, LRX_CD_HINT_A_VALID, LRX_CD_HINT_B, LRX_CD_HINT_B_VALID, LRX_CD_ACTIVE_A, LRX_CD_ACTIVE_B, LRX_ACQ_STATE_A, LRX_ACQ_STATE_B, LRX_RS_EXPECT, LRX_SYM_RATE, LRX_DECODE_LOAD, LRX_ADMIT_A, LRX_ADMIT_B, LRX_REFUSE_A, LRX_REFUSE_B, LRX_REFUSALS, LRX_ACQ_RETRY]
/-- Part 1 of the fields of LRX. -/
def fieldsLRX1 : List Fld := [LRX_AGC_TARGET, LRX_COEF_OWNER, LRX_PROF, LRX_ADMITTED, LRX_REFUSED, LRX_EQ_CONV, LRX_IS_CTRL, LRX_BANK, LRX_BANK_READY, LRX_SNR, LRX_SNR_VALID, LRX_BLOCKS_LO, LRX_BLOCKS_HI, LRX_CORR_LO, LRX_CORR_HI, LRX_UNCORR, LRX_PAYLOAD_MF, LRX_COEF, LRX_CODE_TABLE]
/-- The fields of LRX. -/
def fieldsLRX : List Fld := fieldsLRX0 ++ fieldsLRX1

/-- R88: 0.1 dB. -/
def LMS_OSNR : Fld := { id := 71, page := .LMS, kind := .win, off := 0x400, w := 16, chLo := 0, chHi := 1 }
/-- R88: Signed, ps/nm. -/
def LMS_CD : Fld := { id := 72, page := .LMS, kind := .win, off := 0x404, w := 18, chLo := 0, chHi := 1 }
/-- R88: 0.1 ps. -/
def LMS_DGD : Fld := { id := 73, page := .LMS, kind := .win, off := 0x408, w := 16, chLo := 0, chHi := 1 }
/-- R88: krad/s. -/
def LMS_SOP_RATE : Fld := { id := 74, page := .LMS, kind := .win, off := 0x40C, w := 12, chLo := 0, chHi := 1 }
/-- R88: Signed, MHz. -/
def LMS_FREQ_OFS : Fld := { id := 75, page := .LMS, kind := .win, off := 0x410, w := 16, chLo := 0, chHi := 1 }
/-- R88: Signed, 0.01 dBm. -/
def LMS_RX_POWER : Fld := { id := 76, page := .LMS, kind := .win, off := 0x414, w := 16, chLo := 0, chHi := 1 }
/-- R88: The value in the same register is valid. -/
def LMS_VALID : Fld := { id := 77, page := .LMS, kind := .win, off := 0x400, stride := 4, cnt := 6, lo := 31, w := 1, chLo := 0, chHi := 1 }
/-- R88: Low 32 bits of the LT of the last update. -/
def LMS_UPDATE_LT : Fld := { id := 78, page := .LMS, kind := .win, off := 0x418, chLo := 0, chHi := 1 }

/-- Part 0 of the fields of LMS. -/
def fieldsLMS0 : List Fld := [LMS_OSNR, LMS_CD, LMS_DGD, LMS_SOP_RATE, LMS_FREQ_OFS, LMS_RX_POWER, LMS_VALID, LMS_UPDATE_LT]
/-- The fields of LMS. -/
def fieldsLMS : List Fld := fieldsLMS0

/-- R115: Correct words to confirm, 1–15; 0 is reserved. -/
def FRM_FAW_N : Fld := { id := 79, page := .FRM, off := 0x100, w := 4, ty := .rwb, reset := 3, attr := .prv, apply := .frame }
/-- R115: Errored words to leave frame, 1–15; 0 is reserved. -/
def FRM_FAW_M : Fld := { id := 80, page := .FRM, off := 0x100, lo := 4, w := 4, ty := .rwb, reset := 5, attr := .prv, apply := .frame }
/-- R115: Hamming distance tolerance, 0–63. -/
def FRM_FAW_TOL : Fld := { id := 81, page := .FRM, off := 0x100, lo := 8, w := 6, ty := .rwb, reset := 24, attr := .prv, apply := .frame }
/-- R115: LOS threshold, RMS ADC code. -/
def FRM_LOS_LEVEL : Fld := { id := 82, page := .FRM, off := 0x104, w := 8, ty := .rw, reset := 6, attr := .prv }
/-- R115: Clearing hysteresis, RMS ADC code. -/
def FRM_LOS_HYST : Fld := { id := 83, page := .FRM, off := 0x104, lo := 8, w := 8, ty := .rw, reset := 2, attr := .prv }
/-- R115: Defect summary under R113. -/
def FRM_DEFECTS : Fld := { id := 84, page := .FRM, off := 0x108, w := 8 }
/-- R115: Records taken and used. -/
def FRM_REC_OK : Fld := { id := 85, page := .FRM, off := 0x110, ty := .cnt }
/-- R115: Records discarded under R104 and R107. -/
def FRM_REC_DISCARD : Fld := { id := 86, page := .FRM, off := 0x114, ty := .cnt }
/-- R115: Records of reserved RTYPE. -/
def FRM_REC_UNKNOWN : Fld := { id := 87, page := .FRM, off := 0x118, ty := .cnt }
/-- R115: Losses of place on the control stream, and FIRST_UNIT pointers ignored under R104. -/
def FRM_RESYNC : Fld := { id := 88, page := .FRM, off := 0x11C, ty := .cnt }
/-- R115: Tables naming a boundary already past. -/
def FRM_TBL_LATE : Fld := { id := 89, page := .FRM, off := 0x120, ty := .cnt }
/-- R115: Candidates replaced under R96, all subcarriers. -/
def FRM_CAND_EVICT : Fld := { id := 90, page := .FRM, off := 0x124, ty := .cnt }
/-- R116: Subcarrier is in frame. -/
def FRM_SC_IN_FRAME : Fld := { id := 91, page := .FRM, kind := .win, off := 0x400, w := 1, chLo := 0, chHi := 31 }
/-- R116: Multiframe-aligned. -/
def FRM_SC_MF_ALIGNED : Fld := { id := 92, page := .FRM, kind := .win, off := 0x400, lo := 1, w := 1, chLo := 0, chHi := 31 }
/-- R116: Candidates held, 0–4. -/
def FRM_SC_CANDIDATES : Fld := { id := 93, page := .FRM, kind := .win, off := 0x400, lo := 2, w := 3, chLo := 0, chHi := 31 }
/-- R116: LOF declared. -/
def FRM_SC_LOF : Fld := { id := 94, page := .FRM, kind := .win, off := 0x400, lo := 5, w := 1, chLo := 0, chHi := 31 }
/-- R116: LOM declared. -/
def FRM_SC_LOM : Fld := { id := 95, page := .FRM, kind := .win, off := 0x400, lo := 6, w := 1, chLo := 0, chHi := 31 }
/-- R116: AIS declared. -/
def FRM_SC_AIS : Fld := { id := 96, page := .FRM, kind := .win, off := 0x400, lo := 7, w := 1, chLo := 0, chHi := 31 }
/-- R116: Confirmed hypothesis: [9:8] rotation in 90° steps, [10] polarisation exchange. -/
def FRM_SC_HYP : Fld := { id := 97, page := .FRM, kind := .win, off := 0x400, lo := 8, w := 3, chLo := 0, chHi := 31 }
/-- R116: Transitions out of frame. -/
def FRM_SC_OOF_COUNT : Fld := { id := 98, page := .FRM, kind := .win, off := 0x404, ty := .cnt, chLo := 0, chHi := 31 }
/-- R116: Errored words while in frame. -/
def FRM_SC_FAW_ERRORED : Fld := { id := 99, page := .FRM, kind := .win, off := 0x408, ty := .cnt, chLo := 0, chHi := 31 }
/-- R116: Candidates dropped unconfirmed. -/
def FRM_SC_MIMIC_DROP : Fld := { id := 100, page := .FRM, kind := .win, off := 0x40C, ty := .cnt, chLo := 0, chHi := 31 }
/-- R116: Uncorrectable overhead blocks. -/
def FRM_SC_OH_UNCORR : Fld := { id := 101, page := .FRM, kind := .win, off := 0x410, ty := .cnt, chLo := 0, chHi := 31 }
/-- R116: Tagged frames discarded for errored bits. -/
def FRM_SC_ERR_FRAMES : Fld := { id := 102, page := .FRM, kind := .win, off := 0x414, ty := .cnt, chLo := 0, chHi := 31 }
/-- R116: Losses of place and disagreeing pointers. -/
def FRM_SC_DELIN_LOSS : Fld := { id := 103, page := .FRM, kind := .win, off := 0x418, ty := .cnt, chLo := 0, chHi := 31 }
/-- R116: Last decoded CG. -/
def FRM_SC_CG : Fld := { id := 104, page := .FRM, kind := .win, off := 0x41C, w := 8, chLo := 0, chHi := 31 }
/-- R116: Last decoded CG_POS. -/
def FRM_SC_CG_POS : Fld := { id := 105, page := .FRM, kind := .win, off := 0x41C, lo := 8, w := 8, chLo := 0, chHi := 31 }
/-- R116: Last decoded CG_SIZE. -/
def FRM_SC_CG_SIZE : Fld := { id := 106, page := .FRM, kind := .win, off := 0x41C, lo := 16, w := 8, chLo := 0, chHi := 31 }
/-- R116: Last decoded KEY_EPOCH. -/
def FRM_SC_KEY_EPOCH : Fld := { id := 107, page := .FRM, kind := .win, off := 0x41C, lo := 24, w := 8, chLo := 0, chHi := 31 }
/-- R117: Group number bound to this channel. -/
def FRM_GRP_CG_ID : Fld := { id := 108, page := .FRM, kind := .win, off := 0x400, w := 8, ty := .rwb, attr := .prv, apply := .multiframe, chLo := 32, chHi := 95 }
/-- R117: Reassemble the bound group. -/
def FRM_GRP_ENABLE : Fld := { id := 109, page := .FRM, kind := .win, off := 0x400, lo := 8, w := 1, ty := .rwb, attr := .prv, apply := .multiframe, chLo := 32, chHi := 95 }
/-- R117: Compare the trace. -/
def FRM_GRP_TIM_EN : Fld := { id := 110, page := .FRM, kind := .win, off := 0x400, lo := 9, w := 1, ty := .rwb, apply := .multiframe, chLo := 32, chHi := 95 }
/-- R117: Withhold delivery on TIM. -/
def FRM_GRP_TIM_ACT : Fld := { id := 111, page := .FRM, kind := .win, off := 0x400, lo := 10, w := 1, ty := .rwb, reset := 1, apply := .multiframe, chLo := 32, chHi := 95 }
/-- R117: Complete in the last multiframe. -/
def FRM_GRP_COMPLETE : Fld := { id := 112, page := .FRM, kind := .win, off := 0x400, lo := 16, w := 1, chLo := 32, chHi := 95 }
/-- R117: TIM declared. -/
def FRM_GRP_TIM : Fld := { id := 113, page := .FRM, kind := .win, off := 0x400, lo := 17, w := 1, chLo := 32, chHi := 95 }
/-- R117: Skew exceeds 32 µs. -/
def FRM_GRP_SKEW_EXC : Fld := { id := 114, page := .FRM, kind := .win, off := 0x400, lo := 18, w := 1, chLo := 32, chHi := 95 }
/-- R117: Member fields inconsistent. -/
def FRM_GRP_MISMATCH : Fld := { id := 115, page := .FRM, kind := .win, off := 0x400, lo := 19, w := 1, chLo := 32, chHi := 95 }
/-- R117: Measured skew, ns; saturates. -/
def FRM_GRP_SKEW : Fld := { id := 116, page := .FRM, kind := .win, off := 0x404, w := 16, chLo := 32, chHi := 95 }
/-- R117: Multiframes delivering nothing. -/
def FRM_GRP_MF_DROPPED : Fld := { id := 117, page := .FRM, kind := .win, off := 0x408, ty := .cnt, chLo := 32, chHi := 95 }
/-- R117: 16 words; byte 0 in [31:24] of 0x440. -/
def FRM_GRP_EXP_TRACE : Fld := { id := 118, page := .FRM, kind := .win, off := 0x440, stride := 4, cnt := 16, ty := .rwb, apply := .multiframe, chLo := 32, chHi := 95 }
/-- R117: Accepted trace, same byte order. -/
def FRM_GRP_ACC_TRACE : Fld := { id := 119, page := .FRM, kind := .win, off := 0x480, stride := 4, cnt := 16, chLo := 32, chHi := 95 }
/-- R117: Bit n selects byte n, n = 0–31. -/
def FRM_GRP_TRACE_MASK_LO : Fld := { id := 120, page := .FRM, kind := .win, off := 0x4C0, ty := .rwb, reset := 0xFFFFFFFF, apply := .multiframe, chLo := 32, chHi := 95 }
/-- R117: Bit n selects byte 32 + n. -/
def FRM_GRP_TRACE_MASK_HI : Fld := { id := 121, page := .FRM, kind := .win, off := 0x4C4, ty := .rwb, reset := 0xFFFFFFFF, apply := .multiframe, chLo := 32, chHi := 95 }

/-- Part 0 of the fields of FRM. -/
def fieldsFRM0 : List Fld := [FRM_FAW_N, FRM_FAW_M, FRM_FAW_TOL, FRM_LOS_LEVEL, FRM_LOS_HYST, FRM_DEFECTS, FRM_REC_OK, FRM_REC_DISCARD, FRM_REC_UNKNOWN, FRM_RESYNC, FRM_TBL_LATE, FRM_CAND_EVICT, FRM_SC_IN_FRAME, FRM_SC_MF_ALIGNED, FRM_SC_CANDIDATES, FRM_SC_LOF, FRM_SC_LOM, FRM_SC_AIS, FRM_SC_HYP, FRM_SC_OOF_COUNT]
/-- Part 1 of the fields of FRM. -/
def fieldsFRM1 : List Fld := [FRM_SC_FAW_ERRORED, FRM_SC_MIMIC_DROP, FRM_SC_OH_UNCORR, FRM_SC_ERR_FRAMES, FRM_SC_DELIN_LOSS, FRM_SC_CG, FRM_SC_CG_POS, FRM_SC_CG_SIZE, FRM_SC_KEY_EPOCH, FRM_GRP_CG_ID, FRM_GRP_ENABLE, FRM_GRP_TIM_EN, FRM_GRP_TIM_ACT, FRM_GRP_COMPLETE, FRM_GRP_TIM, FRM_GRP_SKEW_EXC, FRM_GRP_MISMATCH, FRM_GRP_SKEW, FRM_GRP_MF_DROPPED, FRM_GRP_EXP_TRACE]
/-- Part 2 of the fields of FRM. -/
def fieldsFRM2 : List Fld := [FRM_GRP_ACC_TRACE, FRM_GRP_TRACE_MASK_LO, FRM_GRP_TRACE_MASK_HI]
/-- The fields of FRM. -/
def fieldsFRM : List Fld := fieldsFRM0 ++ fieldsFRM1 ++ fieldsFRM2

/-- R144: State under R133; 5–7 do not occur. -/
def UPB_JOIN_STATE : Fld := { id := 122, page := .UPB, off := 0x100, w := 3 }
/-- R144: Terminal is registered. -/
def UPB_REGISTERED : Fld := { id := 123, page := .UPB, off := 0x100, lo := 3, w := 1 }
/-- R144: Silence under R140 in force. -/
def UPB_SILENCED : Fld := { id := 124, page := .UPB, off := 0x100, lo := 4, w := 1 }
/-- R144: Safe-state silence in force. -/
def UPB_SIL_FAULT : Fld := { id := 125, page := .UPB, off := 0x100, lo := 5, w := 1 }
/-- R144: Own TID. -/
def UPB_TID : Fld := { id := 126, page := .UPB, off := 0x104, w := 18 }
/-- R144: TID is held. -/
def UPB_TID_VALID : Fld := { id := 127, page := .UPB, off := 0x104, lo := 31, w := 1 }
/-- R144: LINE_ID joined under, or last received while not registered. -/
def UPB_LINE_ID : Fld := { id := 128, page := .UPB, off := 0x108 }
/-- R144: Tresp in force, ticks. -/
def UPB_TRESP : Fld := { id := 129, page := .UPB, off := 0x10C }
/-- R144: Distance hint, 0.1 km; 0xFFFF for none. -/
def UPB_DIST_HINT : Fld := { id := 130, page := .UPB, off := 0x110, w := 16, ty := .rw, reset := 0xFFFF, attr := .prv }
/-- R144: Hint tolerance, 0.1 km. -/
def UPB_DIST_TOL : Fld := { id := 131, page := .UPB, off := 0x110, lo := 16, w := 16, ty := .rw, reset := 0x1F4, attr := .prv }
/-- R144: Write 1 to join; cleared by hardware under R136. -/
def UPB_JOIN_EN : Fld := { id := 132, page := .UPB, off := 0x114, w := 1, ty := .rwh, attr := .prv }
/-- R144: Discovery attempts allowed, 1–255; 0 is reserved. -/
def UPB_JOIN_ATTEMPTS : Fld := { id := 133, page := .UPB, off := 0x114, lo := 8, w := 8, ty := .rw, reset := 16, attr := .prv }
/-- R144: Attempts made in this join. -/
def UPB_ATTEMPT : Fld := { id := 134, page := .UPB, off := 0x114, lo := 16, w := 8 }
/-- R144: Cause under R136. -/
def UPB_FAIL_CAUSE : Fld := { id := 135, page := .UPB, off := 0x114, lo := 24, w := 4 }
/-- R144: Multiframes, 1–65,535; 0 is reserved. -/
def UPB_RANGE_TIMEOUT : Fld := { id := 136, page := .UPB, off := 0x118, w := 16, ty := .rw, reset := 125, attr := .prv }
/-- R144: TID offered under R143. -/
def UPB_PREV_TID : Fld := { id := 137, page := .UPB, off := 0x11C, w := 18, ty := .rw, attr := .prv }
/-- R144: Offer PREV_TID. -/
def UPB_PREV_VALID : Fld := { id := 138, page := .UPB, off := 0x11C, lo := 31, w := 1, ty := .rw, attr := .prv }
/-- R144: Multiframes of silence remaining; 0 when held until RELEASE. -/
def UPB_SILENCE_LEFT : Fld := { id := 139, page := .UPB, off := 0x120, w := 16 }
/-- R144: CAUSE of the last SILENCE. -/
def UPB_SILENCE_CAUSE : Fld := { id := 140, page := .UPB, off := 0x120, lo := 16, w := 8 }
/-- R144: Cause under R142. -/
def UPB_DEREG_CAUSE : Fld := { id := 141, page := .UPB, off := 0x120, lo := 24, w := 8 }
/-- R144: Discovery bursts sent. -/
def UPB_DISC_SENT : Fld := { id := 142, page := .UPB, off := 0x130, ty := .cnt }
/-- R144: Attempts taken as collided. -/
def UPB_DISC_COLLIDE : Fld := { id := 143, page := .UPB, off := 0x134, ty := .cnt }
/-- R144: Qualifying windows not answerable. -/
def UPB_DISC_SKIPPED : Fld := { id := 144, page := .UPB, off := 0x138, ty := .cnt }
/-- R144: Messages acted on. -/
def UPB_MSG_OK : Fld := { id := 145, page := .UPB, off := 0x13C, ty := .cnt }
/-- R144: Duplicates under R120 and R123. -/
def UPB_MSG_DUP : Fld := { id := 146, page := .UPB, off := 0x140, ty := .cnt }
/-- R144: Messages discarded under R121 and R134. -/
def UPB_MSG_BAD : Fld := { id := 147, page := .UPB, off := 0x144, ty := .cnt }
/-- R144: Messages naming a boundary already past. -/
def UPB_MSG_LATE : Fld := { id := 148, page := .UPB, off := 0x148, ty := .cnt }
/-- R144: Reserved or upstream codes received. -/
def UPB_MSG_UNKNOWN : Fld := { id := 149, page := .UPB, off := 0x14C, ty := .cnt }
/-- R144: Host messages unanswered at their deadline. -/
def UPB_HOST_LATE : Fld := { id := 150, page := .UPB, off := 0x150, ty := .cnt }
/-- R144: Host messages discarded, mailbox full. -/
def UPB_MBOX_FULL : Fld := { id := 151, page := .UPB, off := 0x154, ty := .cnt }
/-- R144: Responses dropped, upstream queue full. -/
def UPB_UMSG_DROP : Fld := { id := 152, page := .UPB, off := 0x158, ty := .cnt }
/-- R144: Ranging timeouts. -/
def UPB_RANGE_FAIL : Fld := { id := 153, page := .UPB, off := 0x15C, ty := .cnt }
/-- R144: Inbound slots held, 0–8. -/
def UPB_IN_COUNT : Fld := { id := 154, page := .UPB, off := 0x170, w := 4, attr := .prv }
/-- R144: Slot of the oldest inbound message. -/
def UPB_IN_HEAD : Fld := { id := 155, page := .UPB, off := 0x170, lo := 4, w := 3, attr := .prv }
/-- R144: Write 1 to free the slot at IN_HEAD. -/
def UPB_IN_POP : Fld := { id := 156, page := .UPB, off := 0x170, lo := 8, w := 1, ty := .wo, attr := .prv }
/-- R144: Outbound slots free. -/
def UPB_OUT_FREE : Fld := { id := 157, page := .UPB, off := 0x174, w := 4, reset := 8, attr := .prv }
/-- R144: Next outbound slot to fill. -/
def UPB_OUT_TAIL : Fld := { id := 158, page := .UPB, off := 0x174, lo := 4, w := 3, attr := .prv }
/-- R144: Write 1 to queue the slot at OUT_TAIL. -/
def UPB_OUT_PUSH : Fld := { id := 159, page := .UPB, off := 0x174, lo := 8, w := 1, ty := .wo, attr := .prv }
/-- R144: A push was refused. -/
def UPB_OUT_REJECT : Fld := { id := 160, page := .UPB, off := 0x174, lo := 9, w := 1, ty := .w1c, attr := .prv }
/-- R172: Bursts may start; 0 makes every grant HELD at commit. -/
def UPB_TX_EN : Fld := { id := 161, page := .UPB, off := 0x180, w := 1, ty := .rw, attr := .prv }
/-- R172: The burst guard has tripped; cleared by the privileged clear of the safe state. -/
def UPB_GUARD_TRIP : Fld := { id := 162, page := .UPB, off := 0x180, lo := 1, w := 1, ty := .ros }
/-- R172: A burst or ramp is in the air. -/
def UPB_TX_LIT : Fld := { id := 163, page := .UPB, off := 0x180, lo := 2, w := 1 }
/-- R172: Transmit DSP and DACs gated under R171. -/
def UPB_TX_GATED : Fld := { id := 164, page := .UPB, off := 0x180, lo := 3, w := 1 }
/-- R172: Calendar entries held, 0–8,192. -/
def UPB_CAL_COUNT : Fld := { id := 165, page := .UPB, off := 0x184, w := 14 }
/-- R172: Standing grants held, 0–64. -/
def UPB_STANDING_COUNT : Fld := { id := 166, page := .UPB, off := 0x184, lo := 16, w := 7 }
/-- R172: Bit n: allocation ALn is express, n = 0–31. -/
def UPB_EXP_MASK_LO : Fld := { id := 167, page := .UPB, off := 0x188, ty := .rwb, attr := .prv, apply := .multiframe }
/-- R172: Bit n: allocation AL(32 + n) is express. -/
def UPB_EXP_MASK_HI : Fld := { id := 168, page := .UPB, off := 0x18C, ty := .rwb, attr := .prv, apply := .multiframe }
/-- R172: Bit n: ALn takes part in report rotation. -/
def UPB_REPORT_EN_LO : Fld := { id := 169, page := .UPB, off := 0x190, ty := .rw, reset := 0xFFFFFFFF, attr := .prv }
/-- R172: Bit n: AL(32 + n) takes part. -/
def UPB_REPORT_EN_HI : Fld := { id := 170, page := .UPB, off := 0x194, ty := .rw, reset := 0xFFFFFFFF, attr := .prv }
/-- R172: Signed CD pre-compensation in force, ps/nm. -/
def UPB_CD_PRE : Fld := { id := 171, page := .UPB, off := 0x198, w := 18 }
/-- R172: Signed frequency pre-offset in force, 0.1 MHz. -/
def UPB_FREQ_PRE : Fld := { id := 172, page := .UPB, off := 0x19C, w := 10 }
/-- R172: Signed launch power offset in force, 0.1 dB. -/
def UPB_TX_PWR : Fld := { id := 173, page := .UPB, off := 0x19C, lo := 12, w := 10 }
/-- R172: Signed pre-emphasis in force, U.0 in [31:24] of 0x1A0. -/
def UPB_PREEMPH : Fld := { id := 174, page := .UPB, off := 0x1A0, stride := 4, cnt := 4 }
/-- R172: PRE_MAP in force; code 0 in [31:28]. The reset value gives the defaults of R125. -/
def UPB_PRE_MAP : Fld := { id := 175, page := .UPB, off := 0x1B0, reset := 0x137FFFF }
/-- R172: Low 32 bits of the LT at which the last PROFILE_SET took effect. -/
def UPB_TXP_LT : Fld := { id := 176, page := .UPB, off := 0x1B4 }
/-- R172: Bursts launched, of every kind but discovery. -/
def UPB_BURSTS : Fld := { id := 177, page := .UPB, off := 0x1C0, ty := .cnt }
/-- R172: Grants accepted. -/
def UPB_GR_ACCEPT : Fld := { id := 178, page := .UPB, off := 0x1C4, ty := .cnt }
/-- R172: Entries with a failed CRC, all TIDs. -/
def UPB_GR_CRC : Fld := { id := 179, page := .UPB, off := 0x1C8, ty := .cnt }
/-- R172: FORMAT discards. -/
def UPB_GR_FORMAT : Fld := { id := 180, page := .UPB, off := 0x1CC, ty := .cnt }
/-- R172: STATE discards. -/
def UPB_GR_STATE : Fld := { id := 181, page := .UPB, off := 0x1D0, ty := .cnt }
/-- R172: LATE discards. -/
def UPB_GR_LATE : Fld := { id := 182, page := .UPB, off := 0x1D4, ty := .cnt }
/-- R172: OVERLAP discards. -/
def UPB_GR_OVERLAP : Fld := { id := 183, page := .UPB, off := 0x1D8, ty := .cnt }
/-- R172: FULL discards. -/
def UPB_GR_FULL : Fld := { id := 184, page := .UPB, off := 0x1DC, ty := .cnt }
/-- R172: HELD discards, one per occurrence. -/
def UPB_GR_HELD : Fld := { id := 185, page := .UPB, off := 0x1E0, ty := .cnt }
/-- R172: Grants or occurrences withdrawn. -/
def UPB_GR_CANCEL : Fld := { id := 186, page := .UPB, off := 0x1E4, ty := .cnt }
/-- R172: Cancellations arriving at or after commit. -/
def UPB_GR_CANCEL_LATE : Fld := { id := 187, page := .UPB, off := 0x1E8, ty := .cnt }
/-- R172: Cancellations matching nothing. -/
def UPB_GR_CANCEL_MISS : Fld := { id := 188, page := .UPB, off := 0x1EC, ty := .cnt }
/-- R172: Containers sent, low half; the read latches the high half for this master. -/
def UPB_CONT_SENT_LO : Fld := { id := 189, page := .UPB, off := 0x1F0, ty := .cnt }
/-- R172: Containers sent, high half. -/
def UPB_CONT_SENT_HI : Fld := { id := 190, page := .UPB, off := 0x1F4, ty := .cnt }
/-- R172: BALLAST bursts launched. -/
def UPB_BALLAST : Fld := { id := 191, page := .UPB, off := 0x1F8, ty := .cnt }
/-- R172: Burst guard trips. -/
def UPB_GUARD_TRIPS : Fld := { id := 192, page := .UPB, off := 0x1FC, ty := .cnt }
/-- R173: Grant bits [127:96]. -/
def UPB_CAL_ENTRY_3 : Fld := { id := 193, page := .UPB, kind := .win, off := 0x400, chLo := 0, chHi := 8191 }
/-- R173: Grant bits [95:64]. -/
def UPB_CAL_ENTRY_2 : Fld := { id := 194, page := .UPB, kind := .win, off := 0x404, chLo := 0, chHi := 8191 }
/-- R173: Grant bits [63:32]. -/
def UPB_CAL_ENTRY_1 : Fld := { id := 195, page := .UPB, kind := .win, off := 0x408, chLo := 0, chHi := 8191 }
/-- R173: Grant bits [31:0]. -/
def UPB_CAL_ENTRY_0 : Fld := { id := 196, page := .UPB, kind := .win, off := 0x40C, chLo := 0, chHi := 8191 }
/-- R173: 0 EMPTY, 1 HELD, 2 COMMITTED, 3 IN_AIR. -/
def UPB_CAL_ESTATE : Fld := { id := 197, page := .UPB, kind := .win, off := 0x410, w := 2, chLo := 0, chHi := 8191 }
/-- R173: Low 32 bits of the next launch LT under the EqD in force. -/
def UPB_CAL_NEXT_LAUNCH : Fld := { id := 198, page := .UPB, kind := .win, off := 0x414, chLo := 0, chHi := 8191 }
/-- R145: inbound mailbox word at 512n+w. -/
def UPB_IN_SLOT : Fld := { id := 865, page := .UPB, kind := .tab, off := 0x4000, stride := 4, cnt := 4096, ty := .rw, attr := .prv }
/-- R145: outbound mailbox word at 512n+w. -/
def UPB_OUT_SLOT : Fld := { id := 866, page := .UPB, kind := .tab, off := 0x8000, stride := 4, cnt := 4096, ty := .rw, attr := .prv }

/-- Part 0 of the fields of UPB. -/
def fieldsUPB0 : List Fld := [UPB_JOIN_STATE, UPB_REGISTERED, UPB_SILENCED, UPB_SIL_FAULT, UPB_TID, UPB_TID_VALID, UPB_LINE_ID, UPB_TRESP, UPB_DIST_HINT, UPB_DIST_TOL, UPB_JOIN_EN, UPB_JOIN_ATTEMPTS, UPB_ATTEMPT, UPB_FAIL_CAUSE, UPB_RANGE_TIMEOUT, UPB_PREV_TID, UPB_PREV_VALID, UPB_SILENCE_LEFT, UPB_SILENCE_CAUSE, UPB_DEREG_CAUSE]
/-- Part 1 of the fields of UPB. -/
def fieldsUPB1 : List Fld := [UPB_DISC_SENT, UPB_DISC_COLLIDE, UPB_DISC_SKIPPED, UPB_MSG_OK, UPB_MSG_DUP, UPB_MSG_BAD, UPB_MSG_LATE, UPB_MSG_UNKNOWN, UPB_HOST_LATE, UPB_MBOX_FULL, UPB_UMSG_DROP, UPB_RANGE_FAIL, UPB_IN_COUNT, UPB_IN_HEAD, UPB_IN_POP, UPB_OUT_FREE, UPB_OUT_TAIL, UPB_OUT_PUSH, UPB_OUT_REJECT, UPB_TX_EN]
/-- Part 2 of the fields of UPB. -/
def fieldsUPB2 : List Fld := [UPB_GUARD_TRIP, UPB_TX_LIT, UPB_TX_GATED, UPB_CAL_COUNT, UPB_STANDING_COUNT, UPB_EXP_MASK_LO, UPB_EXP_MASK_HI, UPB_REPORT_EN_LO, UPB_REPORT_EN_HI, UPB_CD_PRE, UPB_FREQ_PRE, UPB_TX_PWR, UPB_PREEMPH, UPB_PRE_MAP, UPB_TXP_LT, UPB_BURSTS, UPB_GR_ACCEPT, UPB_GR_CRC, UPB_GR_FORMAT, UPB_GR_STATE]
/-- Part 3 of the fields of UPB. -/
def fieldsUPB3 : List Fld := [UPB_GR_LATE, UPB_GR_OVERLAP, UPB_GR_FULL, UPB_GR_HELD, UPB_GR_CANCEL, UPB_GR_CANCEL_LATE, UPB_GR_CANCEL_MISS, UPB_CONT_SENT_LO, UPB_CONT_SENT_HI, UPB_BALLAST, UPB_GUARD_TRIPS, UPB_CAL_ENTRY_3, UPB_CAL_ENTRY_2, UPB_CAL_ENTRY_1, UPB_CAL_ENTRY_0, UPB_CAL_ESTATE, UPB_CAL_NEXT_LAUNCH, UPB_IN_SLOT, UPB_OUT_SLOT]
/-- The fields of UPB. -/
def fieldsUPB : List Fld := fieldsUPB0 ++ fieldsUPB1 ++ fieldsUPB2 ++ fieldsUPB3

end Sys2Proof.Machine
end

