-- ==== Sys2Proof/Machine/RegsB.lean ====
section
/-! DEFINITION. The register fields of pages CLP, CLSE, CLS, QSH, GAT, CAV, DDR, CIP, CIPU,
as the register tables of the spec list them: offset, bits, access type, reset value, attribute, apply kind.
Each docstring names the rule of the table and, where short, what the field holds. -/

namespace Sys2Proof.Machine

/-- R187: Upstream frames discarded while TID_VALID was 0. -/
def CLP_NO_TID : Fld := { id := 199, page := .CLP, off := 0x100, ty := .cnt }
/-- R187: Downstream units not for this terminal. -/
def CLP_TAG_MISS : Fld := { id := 200, page := .CLP, off := 0x104, ty := .cnt }
/-- R187: Downstream units naming no valid member. -/
def CLP_MEM_MISS : Fld := { id := 201, page := .CLP, off := 0x108, ty := .cnt }
/-- R187: Pause and priority frames sent, all ports. -/
def CLP_PAUSE_TX : Fld := { id := 202, page := .CLP, off := 0x10C, ty := .cnt }
/-- R187: Bit n: port CPn raised an interrupt cause. -/
def CLP_PORT_EVENT : Fld := { id := 203, page := .CLP, off := 0x110, w := 16, ty := .w1c }
/-- R188: Port enabled, under R176. -/
def CLP_P_EN : Fld := { id := 204, page := .CLP, kind := .win, off := 0x400, w := 1, ty := .rw, attr := .prv, chLo := 0, chHi := 15 }
/-- R188: Mode under R175. -/
def CLP_P_MODE : Fld := { id := 205, page := .CLP, kind := .win, off := 0x400, lo := 1, w := 3, ty := .rw, attr := .prv, chLo := 0, chHi := 15 }
/-- R188: Flow control under R182; 3 is reserved. -/
def CLP_P_FC_MODE : Fld := { id := 206, page := .CLP, kind := .win, off := 0x400, lo := 4, w := 2, ty := .rw, chLo := 0, chHi := 15 }
/-- R188: Send flow control under R183. -/
def CLP_P_PAUSE_TX_EN : Fld := { id := 207, page := .CLP, kind := .win, off := 0x400, lo := 6, w := 1, ty := .rw, chLo := 0, chHi := 15 }
/-- R188: Timestamp every upstream frame. -/
def CLP_P_TS_ALL : Fld := { id := 208, page := .CLP, kind := .win, off := 0x400, lo := 7, w := 1, ty := .rwb, apply := .packet, chLo := 0, chHi := 15 }
/-- R188: Priorities set in sent priority frames. -/
def CLP_P_PFC_TX_MASK : Fld := { id := 209, page := .CLP, kind := .win, off := 0x400, lo := 8, w := 8, ty := .rw, reset := 255, chLo := 0, chHi := 15 }
/-- R188: Largest frame accepted, 64–16,000; other values are reserved encodings. -/
def CLP_P_MAX_LEN : Fld := { id := 210, page := .CLP, kind := .win, off := 0x400, lo := 16, w := 14, ty := .rwb, reset := 0x3E80, apply := .packet, chLo := 0, chHi := 15 }
/-- R188: Pause time sent, quanta of 512 bit times. -/
def CLP_P_PAUSE_QUANTA : Fld := { id := 211, page := .CLP, kind := .win, off := 0x404, w := 16, ty := .rw, reset := 0xFFFF, chLo := 0, chHi := 15 }
/-- R188: Send pause at this fill, 1/256 of the buffer. -/
def CLP_P_XOFF_TH : Fld := { id := 212, page := .CLP, kind := .win, off := 0x404, lo := 16, w := 8, ty := .rw, reset := 192, chLo := 0, chHi := 15 }
/-- R188: Release at this fill, 1/256 of the buffer. -/
def CLP_P_XON_TH : Fld := { id := 213, page := .CLP, kind := .win, off := 0x404, lo := 24, w := 8, ty := .rw, reset := 128, chLo := 0, chHi := 15 }
/-- R188: Link up under R177. -/
def CLP_P_LINK_UP : Fld := { id := 214, page := .CLP, kind := .win, off := 0x408, w := 1, chLo := 0, chHi := 15 }
/-- R188: Alignment markers locked on all lanes. -/
def CLP_P_AM_LOCK : Fld := { id := 215, page := .CLP, kind := .win, off := 0x408, lo := 1, w := 1, chLo := 0, chHi := 15 }
/-- R188: High bit error ratio. -/
def CLP_P_HI_BER : Fld := { id := 216, page := .CLP, kind := .win, off := 0x408, lo := 2, w := 1, chLo := 0, chHi := 15 }
/-- R188: Local fault. -/
def CLP_P_LOCAL_FAULT : Fld := { id := 217, page := .CLP, kind := .win, off := 0x408, lo := 3, w := 1, chLo := 0, chHi := 15 }
/-- R188: Remote fault received. -/
def CLP_P_REMOTE_FAULT : Fld := { id := 218, page := .CLP, kind := .win, off := 0x408, lo := 4, w := 1, chLo := 0, chHi := 15 }
/-- R188: Link pause in force. -/
def CLP_P_TX_PAUSED : Fld := { id := 219, page := .CLP, kind := .win, off := 0x408, lo := 5, w := 1, chLo := 0, chHi := 15 }
/-- R188: Fill above XON_TH after an XOFF. -/
def CLP_P_XOFF_SENT : Fld := { id := 220, page := .CLP, kind := .win, off := 0x408, lo := 6, w := 1, chLo := 0, chHi := 15 }
/-- R188: Bit n: traffic class n paused. -/
def CLP_P_PFC_PAUSED : Fld := { id := 221, page := .CLP, kind := .win, off := 0x408, lo := 8, w := 8, chLo := 0, chHi := 15 }
/-- R188: LINK_UP has fallen. -/
def CLP_P_LINK_DOWN_SEEN : Fld := { id := 222, page := .CLP, kind := .win, off := 0x408, lo := 16, w := 1, ty := .w1c, chLo := 0, chHi := 15 }
/-- R188: An enable was refused. -/
def CLP_P_LANE_CONFLICT : Fld := { id := 223, page := .CLP, kind := .win, off := 0x408, lo := 17, w := 1, ty := .w1c, chLo := 0, chHi := 15 }
/-- R188: A MODE write was ignored. -/
def CLP_P_MODE_BUSY : Fld := { id := 224, page := .CLP, kind := .win, off := 0x408, lo := 18, w := 1, ty := .w1c, chLo := 0, chHi := 15 }
/-- R188: Pins-to-PCS receive latency in this mode, in ticks. -/
def CLP_P_RX_LAT : Fld := { id := 225, page := .CLP, kind := .win, off := 0x40C, w := 24, chLo := 0, chHi := 15 }
/-- R188: Nibbles [3:0] RUNT, [7:4] OVERSIZE, [11:8] FCS_ERR, [15:12] PCS_ERR, [19:16] PAUSE_RX, …. -/
def CLP_P_EVENTS_0_0 : Fld := { id := 226, page := .CLP, kind := .win, off := 0x410, ty := .cnt, chLo := 0, chHi := 15 }
/-- R188: Nibbles [3:0] PFC_RX, [7:4] LINK_DISC; [31:8] reserved. -/
def CLP_P_EVENTS_1_0 : Fld := { id := 227, page := .CLP, kind := .win, off := 0x414, ty := .cnt, chLo := 0, chHi := 15 }

/-- Part 0 of the fields of CLP. -/
def fieldsCLP0 : List Fld := [CLP_NO_TID, CLP_TAG_MISS, CLP_MEM_MISS, CLP_PAUSE_TX, CLP_PORT_EVENT, CLP_P_EN, CLP_P_MODE, CLP_P_FC_MODE, CLP_P_PAUSE_TX_EN, CLP_P_TS_ALL, CLP_P_PFC_TX_MASK, CLP_P_MAX_LEN, CLP_P_PAUSE_QUANTA, CLP_P_XOFF_TH, CLP_P_XON_TH, CLP_P_LINK_UP, CLP_P_AM_LOCK, CLP_P_HI_BER, CLP_P_LOCAL_FAULT, CLP_P_REMOTE_FAULT]
/-- Part 1 of the fields of CLP. -/
def fieldsCLP1 : List Fld := [CLP_P_TX_PAUSED, CLP_P_XOFF_SENT, CLP_P_PFC_PAUSED, CLP_P_LINK_DOWN_SEEN, CLP_P_LANE_CONFLICT, CLP_P_MODE_BUSY, CLP_P_RX_LAT, CLP_P_EVENTS_0_0, CLP_P_EVENTS_1_0]
/-- The fields of CLP. -/
def fieldsCLP : List Fld := fieldsCLP0 ++ fieldsCLP1

/-- R194: 16 words; key bits [511:480] at +0x000. -/
def CLSE_KEY : Fld := { id := 228, page := .CLSE, kind := .entry, off := 0x0, stride := 4, cnt := 16, ty := .rw, attr := .prv }
/-- R194: Same order; 1 compares the bit. -/
def CLSE_MASK : Fld := { id := 229, page := .CLSE, kind := .entry, off := 0x40, stride := 4, cnt := 16, ty := .rw, attr := .prv }
/-- R194: As in R195. -/
def CLSE_DISP : Fld := { id := 230, page := .CLSE, kind := .entry, off := 0x80, w := 3, ty := .rw, attr := .prv }
/-- R194: Upstream: carry the LT64 extension (R185). -/
def CLSE_TS : Fld := { id := 231, page := .CLSE, kind := .entry, off := 0x80, lo := 3, w := 1, ty := .rw, attr := .prv }
/-- R194: Police the frame. -/
def CLSE_POL_EN : Fld := { id := 232, page := .CLSE, kind := .entry, off := 0x80, lo := 4, w := 1, ty := .rw, attr := .prv }
/-- R194: Policer, 0–8,191. -/
def CLSE_POL : Fld := { id := 233, page := .CLSE, kind := .entry, off := 0x80, lo := 5, w := 13, ty := .rw, attr := .prv }
/-- R194: Traffic class. -/
def CLSE_TC : Fld := { id := 234, page := .CLSE, kind := .entry, off := 0x80, lo := 18, w := 3, ty := .rw, attr := .prv }
/-- R194: FLOW of the line tag. -/
def CLSE_FLOW : Fld := { id := 235, page := .CLSE, kind := .entry, off := 0x84, w := 14, ty := .rw, attr := .prv }
/-- R194: Upstream queue, 0–4,095. -/
def CLSE_UQ : Fld := { id := 236, page := .CLSE, kind := .entry, off := 0x84, lo := 14, w := 12, ty := .rw, attr := .prv }
/-- R194: Downstream egress port; EQ = EPORT × 8 + TC. -/
def CLSE_EPORT : Fld := { id := 237, page := .CLSE, kind := .entry, off := 0x84, lo := 26, w := 4, ty := .rw, attr := .prv }
/-- R194: Slow-path function: 0 PF0, n VFn. -/
def CLSE_SP_FUNC : Fld := { id := 238, page := .CLSE, kind := .entry, off := 0x88, w := 4, ty := .rw, attr := .prv }
/-- R194: Residence time correction applies. -/
def CLSE_PTPC : Fld := { id := 239, page := .CLSE, kind := .entry, off := 0x88, lo := 4, w := 1, ty := .rw, attr := .prv }
/-- R194: Time base of the PTP domain, 1–3; 0 is reserved when PTPC is 1. -/
def CLSE_PTP_TB : Fld := { id := 240, page := .CLSE, kind := .entry, off := 0x88, lo := 5, w := 2, ty := .rw, attr := .prv }
/-- R194: Bit v: the entry belongs to version v. -/
def CLSE_VMASK : Fld := { id := 241, page := .CLSE, kind := .entry, off := 0xA0, w := 4, ty := .rwh, attr := .prv }
/-- R194: Parity error found; cleared under R196. -/
def CLSE_ERR : Fld := { id := 242, page := .CLSE, kind := .entry, off := 0xA0, lo := 4, w := 1, ty := .ros }
/-- R194: Frames matched, low half; the read latches the high half for this master. -/
def CLSE_HITS_LO : Fld := { id := 243, page := .CLSE, kind := .entry, off := 0xC0, ty := .cnt, attr := .prv }
/-- R194: High half. -/
def CLSE_HITS_HI : Fld := { id := 244, page := .CLSE, kind := .entry, off := 0xC4, ty := .cnt, attr := .prv }
/-- R194: Bytes matched (R178), low half; the read latches the high half. -/
def CLSE_BYTES_LO : Fld := { id := 245, page := .CLSE, kind := .entry, off := 0xC8, ty := .cnt, attr := .prv }
/-- R194: High half. -/
def CLSE_BYTES_HI : Fld := { id := 246, page := .CLSE, kind := .entry, off := 0xCC, ty := .cnt, attr := .prv }

/-- Part 0 of the fields of CLSE. -/
def fieldsCLSE0 : List Fld := [CLSE_KEY, CLSE_MASK, CLSE_DISP, CLSE_TS, CLSE_POL_EN, CLSE_POL, CLSE_TC, CLSE_FLOW, CLSE_UQ, CLSE_EPORT, CLSE_SP_FUNC, CLSE_PTPC, CLSE_PTP_TB, CLSE_VMASK, CLSE_ERR, CLSE_HITS_LO, CLSE_HITS_HI, CLSE_BYTES_LO, CLSE_BYTES_HI]
/-- The fields of CLSE. -/
def fieldsCLSE : List Fld := fieldsCLSE0

/-- R201: Version to commit, under R198; reads the CURRENT version. -/
def CLS_CUR_VER : Fld := { id := 247, page := .CLS, off := 0x100, w := 2, ty := .rwb, attr := .prv, apply := .page }
/-- R201: The STAGING version, when STAGE_VALID is 1. -/
def CLS_STAGE_VER : Fld := { id := 248, page := .CLS, off := 0x100, lo := 2, w := 2 }
/-- R201: A version is STAGING. -/
def CLS_STAGE_VALID : Fld := { id := 249, page := .CLS, off := 0x100, lo := 4, w := 1 }
/-- R201: The STAGE copy is running. -/
def CLS_STAGE_BUSY : Fld := { id := 250, page := .CLS, off := 0x100, lo := 5, w := 1 }
/-- R201: Two bits per version, version 0 in [9:8]: 0 FREE, 1 STAGING, 2 CURRENT, 3 DRAINING. -/
def CLS_VSTATE : Fld := { id := 251, page := .CLS, off := 0x100, lo := 8, w := 8, reset := 2 }
/-- R201: Write 1 to stage. -/
def CLS_STAGE : Fld := { id := 252, page := .CLS, off := 0x104, w := 1, ty := .wo, attr := .prv }
/-- R201: Write 1 to abandon the STAGING version. -/
def CLS_ABANDON : Fld := { id := 253, page := .CLS, off := 0x104, lo := 1, w := 1, ty := .wo, attr := .prv }
/-- R201: Frames in the classifier per version, 8 bits each, version 0 in [7:0]; saturates at 255. -/
def CLS_INFLIGHT : Fld := { id := 254, page := .CLS, off := 0x108 }
/-- R201: Slow-path rate, frames per second. -/
def CLS_SP_RATE : Fld := { id := 255, page := .CLS, off := 0x10C, w := 20, ty := .rw, reset := 0x4E20, attr := .prv }
/-- R201: Slow-path bucket, frames, 1–65,535; 0 is reserved. -/
def CLS_SP_BURST : Fld := { id := 256, page := .CLS, off := 0x110, w := 16, ty := .rw, reset := 64, attr := .prv }
/-- R201: Function receiving misses and parse failures. -/
def CLS_MISS_FUNC : Fld := { id := 257, page := .CLS, off := 0x114, w := 4, ty := .rw, attr := .prv }
/-- R201: Misses, all sources. -/
def CLS_MISS : Fld := { id := 258, page := .CLS, off := 0x120, ty := .cnt }
/-- R201: Parse failures, all sources. -/
def CLS_PARSE_FAIL : Fld := { id := 259, page := .CLS, off := 0x124, ty := .cnt }
/-- R201: Frames delivered to slow-path rings. -/
def CLS_SP_SENT : Fld := { id := 260, page := .CLS, off := 0x128, ty := .cnt }
/-- R201: Frames refused by the limiter. -/
def CLS_SP_DROP : Fld := { id := 261, page := .CLS, off := 0x12C, ty := .cnt }
/-- R201: Frames discarded at a full ring. -/
def CLS_SP_RING_FULL : Fld := { id := 262, page := .CLS, off := 0x130, ty := .cnt }
/-- R201: Injected frames missed or failed. -/
def CLS_INJ_MISS : Fld := { id := 263, page := .CLS, off := 0x134, ty := .cnt }
/-- R201: Refusals under R198 and R199. -/
def CLS_WR_REFUSED : Fld := { id := 264, page := .CLS, off := 0x138, ty := .cnt }
/-- R201: Frames discarded under R196. -/
def CLS_ENTRY_ERR : Fld := { id := 265, page := .CLS, off := 0x13C, ty := .cnt }
/-- R202: Frames parsed, low half; the read latches the high half for this master. -/
def CLS_SRC_FRAMES_LO : Fld := { id := 266, page := .CLS, kind := .win, off := 0x400, ty := .cnt, chLo := 0, chHi := 18 }
/-- R202: High half. -/
def CLS_SRC_FRAMES_HI : Fld := { id := 267, page := .CLS, kind := .win, off := 0x404, ty := .cnt, chLo := 0, chHi := 18 }
/-- R202: Bytes parsed (R178), low half; the read latches the high half. -/
def CLS_SRC_BYTES_LO : Fld := { id := 268, page := .CLS, kind := .win, off := 0x408, ty := .cnt, chLo := 0, chHi := 18 }
/-- R202: High half. -/
def CLS_SRC_BYTES_HI : Fld := { id := 269, page := .CLS, kind := .win, off := 0x40C, ty := .cnt, chLo := 0, chHi := 18 }
/-- R202: Misses from this source. -/
def CLS_SRC_SRC_MISS : Fld := { id := 270, page := .CLS, kind := .win, off := 0x410, ty := .cnt, chLo := 0, chHi := 18 }
/-- R202: Parse failures from this source. -/
def CLS_SRC_SRC_PFAIL : Fld := { id := 271, page := .CLS, kind := .win, off := 0x414, ty := .cnt, chLo := 0, chHi := 18 }
/-- R202: Highest reorder occupancy seen, 0–512; write 0 to restart. -/
def CLS_SRC_REORDER_MAX : Fld := { id := 272, page := .CLS, kind := .win, off := 0x418, w := 10, ty := .rwh, chLo := 0, chHi := 18 }
/-- R202: PF_CAUSE of the last parse failure. -/
def CLS_SRC_LAST_PF : Fld := { id := 273, page := .CLS, kind := .win, off := 0x41C, w := 3, chLo := 0, chHi := 18 }

/-- Part 0 of the fields of CLS. -/
def fieldsCLS0 : List Fld := [CLS_CUR_VER, CLS_STAGE_VER, CLS_STAGE_VALID, CLS_STAGE_BUSY, CLS_VSTATE, CLS_STAGE, CLS_ABANDON, CLS_INFLIGHT, CLS_SP_RATE, CLS_SP_BURST, CLS_MISS_FUNC, CLS_MISS, CLS_PARSE_FAIL, CLS_SP_SENT, CLS_SP_DROP, CLS_SP_RING_FULL, CLS_INJ_MISS, CLS_WR_REFUSED, CLS_ENTRY_ERR, CLS_SRC_FRAMES_LO]
/-- Part 1 of the fields of CLS. -/
def fieldsCLS1 : List Fld := [CLS_SRC_FRAMES_HI, CLS_SRC_BYTES_LO, CLS_SRC_BYTES_HI, CLS_SRC_SRC_MISS, CLS_SRC_SRC_PFAIL, CLS_SRC_REORDER_MAX, CLS_SRC_LAST_PF]
/-- The fields of CLS. -/
def fieldsCLS : List Fld := fieldsCLS0 ++ fieldsCLS1

/-- R222: Upstream buffer in use, KiB. -/
def QSH_UBUF_FILL : Fld := { id := 274, page := .QSH, off := 0x100, w := 16 }
/-- R222: Downstream buffer in use, KiB. -/
def QSH_DBUF_FILL : Fld := { id := 275, page := .QSH, off := 0x100, lo := 16, w := 16 }
/-- R222: Stops of upstream admission under R204. -/
def QSH_UBUF_STALL : Fld := { id := 276, page := .QSH, off := 0x104, ty := .cnt }
/-- R222: Downstream frames discarded, buffer full. -/
def QSH_DBUF_DROP : Fld := { id := 277, page := .QSH, off := 0x108, ty := .cnt }
/-- R222: ALLOC writes refused under R208. -/
def QSH_MAP_REFUSED : Fld := { id := 278, page := .QSH, off := 0x10C, ty := .cnt }
/-- R223: Policer active. -/
def QSH_POL_EN : Fld := { id := 279, page := .QSH, kind := .win, off := 0x400, w := 1, ty := .rwb, attr := .prv, apply := .packet, chLo := 0, chHi := 8191 }
/-- R223: 0 discard, 1 replace TC. -/
def QSH_POL_EXCEED_ACT : Fld := { id := 280, page := .QSH, kind := .win, off := 0x400, lo := 1, w := 1, ty := .rwb, attr := .prv, apply := .packet, chLo := 0, chHi := 8191 }
/-- R223: TC given to exceeding frames. -/
def QSH_POL_EXCEED_TC : Fld := { id := 281, page := .QSH, kind := .win, off := 0x400, lo := 2, w := 3, ty := .rwb, attr := .prv, apply := .packet, chLo := 0, chHi := 8191 }
/-- R223: Rate, kb/s, 0–1,600,000,000; above is reserved. -/
def QSH_POL_CIR : Fld := { id := 282, page := .QSH, kind := .win, off := 0x404, ty := .rwb, attr := .prv, apply := .packet, chLo := 0, chHi := 8191 }
/-- R223: Bucket size, bytes. -/
def QSH_POL_CBS : Fld := { id := 283, page := .QSH, kind := .win, off := 0x408, w := 24, ty := .rwb, attr := .prv, apply := .packet, chLo := 0, chHi := 8191 }
/-- R223: Balance, bytes. -/
def QSH_POL_BALANCE : Fld := { id := 284, page := .QSH, kind := .win, off := 0x40C, w := 24, chLo := 0, chHi := 8191 }
/-- R223: Four 64-bit counts, low half first; reading a low half latches its high half for this …. -/
def QSH_POL_CONF_FRAMES_LO : Fld := { id := 285, page := .QSH, kind := .win, off := 0x420, ty := .cnt, chLo := 0, chHi := 8191 }
/-- R223: Four 64-bit counts, low half first; reading a low half latches its high half for this …. -/
def QSH_POL_CONF_FRAMES_HI : Fld := { id := 286, page := .QSH, kind := .win, off := 0x424, ty := .cnt, chLo := 0, chHi := 8191 }
/-- R223: Four 64-bit counts, low half first; reading a low half latches its high half for this …. -/
def QSH_POL_CONF_BYTES_LO : Fld := { id := 287, page := .QSH, kind := .win, off := 0x428, ty := .cnt, chLo := 0, chHi := 8191 }
/-- R223: Four 64-bit counts, low half first; reading a low half latches its high half for this …. -/
def QSH_POL_CONF_BYTES_HI : Fld := { id := 288, page := .QSH, kind := .win, off := 0x42C, ty := .cnt, chLo := 0, chHi := 8191 }
/-- R223: Four 64-bit counts, low half first; reading a low half latches its high half for this …. -/
def QSH_POL_EXC_FRAMES_LO : Fld := { id := 289, page := .QSH, kind := .win, off := 0x430, ty := .cnt, chLo := 0, chHi := 8191 }
/-- R223: Four 64-bit counts, low half first; reading a low half latches its high half for this …. -/
def QSH_POL_EXC_FRAMES_HI : Fld := { id := 290, page := .QSH, kind := .win, off := 0x434, ty := .cnt, chLo := 0, chHi := 8191 }
/-- R223: Four 64-bit counts, low half first; reading a low half latches its high half for this …. -/
def QSH_POL_EXC_BYTES_LO : Fld := { id := 291, page := .QSH, kind := .win, off := 0x438, ty := .cnt, chLo := 0, chHi := 8191 }
/-- R223: Four 64-bit counts, low half first; reading a low half latches its high half for this …. -/
def QSH_POL_EXC_BYTES_HI : Fld := { id := 292, page := .QSH, kind := .win, off := 0x43C, ty := .cnt, chLo := 0, chHi := 8191 }
/-- R224: Shaper active. -/
def QSH_SH_SH_EN : Fld := { id := 293, page := .QSH, kind := .win, off := 0x410, w := 1, ty := .rwb, attr := .prv, apply := .packet, chLo := 8192, chHi := 12495 }
/-- R224: Signed length overhead, −64 to +127; −128 to −65 are reserved. -/
def QSH_SH_OVH : Fld := { id := 294, page := .QSH, kind := .win, off := 0x410, lo := 1, w := 8, ty := .rwb, attr := .prv, apply := .packet, chLo := 8192, chHi := 12495 }
/-- R224: Rate, kb/s, 0–1,600,000,000; above is reserved. -/
def QSH_SH_RATE : Fld := { id := 295, page := .QSH, kind := .win, off := 0x414, ty := .rwb, attr := .prv, apply := .packet, chLo := 8192, chHi := 12495 }
/-- R224: Balance ceiling, bytes. -/
def QSH_SH_BURST : Fld := { id := 296, page := .QSH, kind := .win, off := 0x418, w := 24, ty := .rwb, reset := 0x4000, attr := .prv, apply := .packet, chLo := 8192, chHi := 12495 }
/-- R224: Signed balance, whole bytes. -/
def QSH_SH_SBAL : Fld := { id := 297, page := .QSH, kind := .win, off := 0x41C, reset := 0x4000, chLo := 8192, chHi := 12495 }
/-- R225: Queue takes frames. -/
def QSH_UQ_EN : Fld := { id := 298, page := .QSH, kind := .win, off := 0x400, w := 1, ty := .rw, attr := .prv, chLo := 8192, chHi := 12287 }
/-- R225: Allocation, under R208. -/
def QSH_UQ_ALLOC : Fld := { id := 299, page := .QSH, kind := .win, off := 0x400, lo := 1, w := 6, ty := .rw, attr := .prv, chLo := 8192, chHi := 12287 }
/-- R225: Priority level; 7 first. -/
def QSH_UQ_LEVEL : Fld := { id := 300, page := .QSH, kind := .win, off := 0x400, lo := 7, w := 3, ty := .rwb, attr := .prv, apply := .packet, chLo := 8192, chHi := 12287 }
/-- R225: An ALLOC write was refused. -/
def QSH_UQ_MAP_BUSY : Fld := { id := 301, page := .QSH, kind := .win, off := 0x400, lo := 10, w := 1, ty := .w1c, chLo := 8192, chHi := 12287 }
/-- R225: Deficit round robin quantum, bytes, 64–16,383; below 64 is reserved. -/
def QSH_UQ_QUANTUM : Fld := { id := 302, page := .QSH, kind := .win, off := 0x404, w := 14, ty := .rwb, reset := 0x3E80, attr := .prv, apply := .packet, chLo := 8192, chHi := 12287 }
/-- R225: Queue limit, KiB; 0 for none. -/
def QSH_UQ_QMAX : Fld := { id := 303, page := .QSH, kind := .win, off := 0x408, w := 16, ty := .rw, attr := .prv, chLo := 8192, chHi := 12287 }
/-- R225: Bytes queued. -/
def QSH_UQ_QFILL : Fld := { id := 304, page := .QSH, kind := .win, off := 0x40C, w := 26, chLo := 8192, chHi := 12287 }
/-- R225: Frames queued, 64-bit; the low read latches the high half. -/
def QSH_UQ_ENQ_LO : Fld := { id := 305, page := .QSH, kind := .win, off := 0x420, ty := .cnt, chLo := 8192, chHi := 12287 }
/-- R225: Frames queued, 64-bit; the low read latches the high half. -/
def QSH_UQ_ENQ_HI : Fld := { id := 306, page := .QSH, kind := .win, off := 0x424, ty := .cnt, chLo := 8192, chHi := 12287 }
/-- R225: Frames discarded under R209. -/
def QSH_UQ_DROPS : Fld := { id := 307, page := .QSH, kind := .win, off := 0x428, ty := .cnt, chLo := 8192, chHi := 12287 }
/-- R226: Seal at a grant's commit under R211. -/
def QSH_AL_SEAL_ON_GRANT : Fld := { id := 308, page := .QSH, kind := .win, off := 0x400, w := 1, ty := .rwb, reset := 1, attr := .prv, apply := .packet, chLo := 12288, chHi := 12351 }
/-- R226: Seal timeout, µs; 0 for none. -/
def QSH_AL_SEAL_TO : Fld := { id := 309, page := .QSH, kind := .win, off := 0x400, lo := 16, w := 16, ty := .rwb, attr := .prv, apply := .packet, chLo := 12288, chHi := 12351 }
/-- R226: Occupancy under R214. -/
def QSH_AL_OCC : Fld := { id := 310, page := .QSH, kind := .win, off := 0x404, w := 27, chLo := 12288, chHi := 12351 }
/-- R226: SEQ of the next seal. -/
def QSH_AL_SEQ_NEXT : Fld := { id := 311, page := .QSH, kind := .win, off := 0x408, chLo := 12288, chHi := 12351 }
/-- R226: Bytes in the open container. -/
def QSH_AL_OPEN_FILL : Fld := { id := 312, page := .QSH, kind := .win, off := 0x40C, w := 14, chLo := 12288, chHi := 12351 }
/-- R226: Seals completed, 64-bit. -/
def QSH_AL_SEALED_LO : Fld := { id := 313, page := .QSH, kind := .win, off := 0x420, ty := .cnt, chLo := 12288, chHi := 12351 }
/-- R226: Seals completed, 64-bit. -/
def QSH_AL_SEALED_HI : Fld := { id := 314, page := .QSH, kind := .win, off := 0x424, ty := .cnt, chLo := 12288, chHi := 12351 }
/-- R226: Containers committed to bursts, 64-bit. -/
def QSH_AL_COMMITTED_LO : Fld := { id := 315, page := .QSH, kind := .win, off := 0x428, ty := .cnt, chLo := 12288, chHi := 12351 }
/-- R226: Containers committed to bursts, 64-bit. -/
def QSH_AL_COMMITTED_HI : Fld := { id := 316, page := .QSH, kind := .win, off := 0x42C, ty := .cnt, chLo := 12288, chHi := 12351 }
/-- R226: Containers returned under R214, 64-bit. -/
def QSH_AL_RETURNED_LO : Fld := { id := 317, page := .QSH, kind := .win, off := 0x430, ty := .cnt, chLo := 12288, chHi := 12351 }
/-- R226: Containers returned under R214, 64-bit. -/
def QSH_AL_RETURNED_HI : Fld := { id := 318, page := .QSH, kind := .win, off := 0x434, ty := .cnt, chLo := 12288, chHi := 12351 }
/-- R226: Seals with TIMEOUT set. -/
def QSH_AL_SEAL_TIMEOUT : Fld := { id := 319, page := .QSH, kind := .win, off := 0x438, ty := .cnt, chLo := 12288, chHi := 12351 }
/-- R226: Seals with GRANT set. -/
def QSH_AL_SEAL_GRANT : Fld := { id := 320, page := .QSH, kind := .win, off := 0x43C, ty := .cnt, chLo := 12288, chHi := 12351 }
/-- R227: Queue takes frames. -/
def QSH_EQ_EN : Fld := { id := 321, page := .QSH, kind := .win, off := 0x400, w := 1, ty := .rw, reset := 1, attr := .prv, chLo := 12352, chHi := 12479 }
/-- R227: queue limit KiB. -/
def QSH_EQ_QMAX : Fld := { id := 856, page := .QSH, kind := .win, off := 0x408, w := 16, ty := .rw, attr := .prv, chLo := 12352, chHi := 12479 }
/-- R227: bytes queued. -/
def QSH_EQ_QFILL : Fld := { id := 857, page := .QSH, kind := .win, off := 0x40C, w := 26, chLo := 12352, chHi := 12479 }
/-- R227: QSH_EQ_ENQ_LO. -/
def QSH_EQ_ENQ_LO : Fld := { id := 858, page := .QSH, kind := .win, off := 0x420, ty := .cnt, chLo := 12352, chHi := 12479 }
/-- R227: QSH_EQ_ENQ_HI. -/
def QSH_EQ_ENQ_HI : Fld := { id := 859, page := .QSH, kind := .win, off := 0x424, ty := .cnt, chLo := 12352, chHi := 12479 }
/-- R227: QSH_EQ_DROPS. -/
def QSH_EQ_DROPS : Fld := { id := 860, page := .QSH, kind := .win, off := 0x428, ty := .cnt, chLo := 12352, chHi := 12479 }

/-- Part 0 of the fields of QSH. -/
def fieldsQSH0 : List Fld := [QSH_UBUF_FILL, QSH_DBUF_FILL, QSH_UBUF_STALL, QSH_DBUF_DROP, QSH_MAP_REFUSED, QSH_POL_EN, QSH_POL_EXCEED_ACT, QSH_POL_EXCEED_TC, QSH_POL_CIR, QSH_POL_CBS, QSH_POL_BALANCE, QSH_POL_CONF_FRAMES_LO, QSH_POL_CONF_FRAMES_HI, QSH_POL_CONF_BYTES_LO, QSH_POL_CONF_BYTES_HI, QSH_POL_EXC_FRAMES_LO, QSH_POL_EXC_FRAMES_HI, QSH_POL_EXC_BYTES_LO, QSH_POL_EXC_BYTES_HI, QSH_SH_SH_EN]
/-- Part 1 of the fields of QSH. -/
def fieldsQSH1 : List Fld := [QSH_SH_OVH, QSH_SH_RATE, QSH_SH_BURST, QSH_SH_SBAL, QSH_UQ_EN, QSH_UQ_ALLOC, QSH_UQ_LEVEL, QSH_UQ_MAP_BUSY, QSH_UQ_QUANTUM, QSH_UQ_QMAX, QSH_UQ_QFILL, QSH_UQ_ENQ_LO, QSH_UQ_ENQ_HI, QSH_UQ_DROPS, QSH_AL_SEAL_ON_GRANT, QSH_AL_SEAL_TO, QSH_AL_OCC, QSH_AL_SEQ_NEXT, QSH_AL_OPEN_FILL, QSH_AL_SEALED_LO]
/-- Part 2 of the fields of QSH. -/
def fieldsQSH2 : List Fld := [QSH_AL_SEALED_HI, QSH_AL_COMMITTED_LO, QSH_AL_COMMITTED_HI, QSH_AL_RETURNED_LO, QSH_AL_RETURNED_HI, QSH_AL_SEAL_TIMEOUT, QSH_AL_SEAL_GRANT, QSH_EQ_EN, QSH_EQ_QMAX, QSH_EQ_QFILL, QSH_EQ_ENQ_LO, QSH_EQ_ENQ_HI, QSH_EQ_DROPS]
/-- The fields of QSH. -/
def fieldsQSH : List Fld := fieldsQSH0 ++ fieldsQSH1 ++ fieldsQSH2

/-- R229: List governs PORT. -/
def GAT_EN : Fld := { id := 322, page := .GAT, kind := .win, off := 0x400, w := 1, ty := .rw, attr := .prv, chLo := 0, chHi := 15 }
/-- R229: Client port governed. -/
def GAT_PORT : Fld := { id := 323, page := .GAT, kind := .win, off := 0x400, lo := 1, w := 4, ty := .rw, attr := .prv, chLo := 0, chHi := 15 }
/-- R229: Time base of the pending list. -/
def GAT_P_TBASE : Fld := { id := 324, page := .GAT, kind := .win, off := 0x400, lo := 5, w := 2, ty := .rw, attr := .prv, chLo := 0, chHi := 15 }
/-- R229: Write 1 to commit under R219. -/
def GAT_COMMIT : Fld := { id := 325, page := .GAT, kind := .win, off := 0x400, lo := 8, w := 1, ty := .wo, attr := .prv, chLo := 0, chHi := 15 }
/-- R229: Write 1 to withdraw a pending commit. -/
def GAT_CANCEL : Fld := { id := 326, page := .GAT, kind := .win, off := 0x400, lo := 9, w := 1, ty := .wo, attr := .prv, chLo := 0, chHi := 15 }
/-- R229: A commit waits for its start. -/
def GAT_PEND : Fld := { id := 327, page := .GAT, kind := .win, off := 0x400, lo := 10, w := 1, chLo := 0, chHi := 15 }
/-- R229: The active list runs. -/
def GAT_RUNNING : Fld := { id := 328, page := .GAT, kind := .win, off := 0x400, lo := 11, w := 1, chLo := 0, chHi := 15 }
/-- R229: A lower list governs PORT. -/
def GAT_BIND_CONFLICT : Fld := { id := 329, page := .GAT, kind := .win, off := 0x400, lo := 12, w := 1, chLo := 0, chHi := 15 }
/-- R229: Time base of the active list. -/
def GAT_A_TBASE : Fld := { id := 330, page := .GAT, kind := .win, off := 0x400, lo := 13, w := 2, chLo := 0, chHi := 15 }
/-- R229: The last start was advanced. -/
def GAT_ADVANCED : Fld := { id := 331, page := .GAT, kind := .win, off := 0x400, lo := 15, w := 1, ty := .w1c, chLo := 0, chHi := 15 }
/-- R229: The last commit was refused. -/
def GAT_REFUSED : Fld := { id := 332, page := .GAT, kind := .win, off := 0x400, lo := 16, w := 1, ty := .w1c, chLo := 0, chHi := 15 }
/-- R229: A pending write was ignored while PEND was 1. -/
def GAT_WR_LOCKED : Fld := { id := 333, page := .GAT, kind := .win, off := 0x400, lo := 17, w := 1, ty := .w1c, chLo := 0, chHi := 15 }
/-- R229: Pending entries, 1–256. -/
def GAT_P_COUNT : Fld := { id := 334, page := .GAT, kind := .win, off := 0x404, w := 9, ty := .rw, reset := 1, attr := .prv, chLo := 0, chHi := 15 }
/-- R229: Active entries. -/
def GAT_A_COUNT : Fld := { id := 335, page := .GAT, kind := .win, off := 0x404, lo := 16, w := 9, chLo := 0, chHi := 15 }
/-- R229: Pending cycle time, ns. -/
def GAT_P_CYCLE : Fld := { id := 336, page := .GAT, kind := .win, off := 0x408, ty := .rw, attr := .prv, chLo := 0, chHi := 15 }
/-- R229: Pending base, nanoseconds; 10^9 and above are reserved. -/
def GAT_P_BASE_NS : Fld := { id := 337, page := .GAT, kind := .win, off := 0x40C, w := 30, ty := .rw, attr := .prv, chLo := 0, chHi := 15 }
/-- R229: Pending base, seconds [31:0]. -/
def GAT_P_BASE_S_LO : Fld := { id := 338, page := .GAT, kind := .win, off := 0x410, ty := .rw, attr := .prv, chLo := 0, chHi := 15 }
/-- R229: Pending base, seconds [47:32]. -/
def GAT_P_BASE_S_HI : Fld := { id := 339, page := .GAT, kind := .win, off := 0x414, w := 16, ty := .rw, attr := .prv, chLo := 0, chHi := 15 }
/-- R229: Active cycle time, ns. -/
def GAT_A_CYCLE : Fld := { id := 340, page := .GAT, kind := .win, off := 0x418, chLo := 0, chHi := 15 }
/-- R229: Start instant, nanoseconds. -/
def GAT_ACT_NS : Fld := { id := 341, page := .GAT, kind := .win, off := 0x41C, w := 30, chLo := 0, chHi := 15 }
/-- R229: Start instant, seconds [31:0]. -/
def GAT_ACT_S_LO : Fld := { id := 342, page := .GAT, kind := .win, off := 0x420, chLo := 0, chHi := 15 }
/-- R229: Start instant, seconds [47:32]. -/
def GAT_ACT_S_HI : Fld := { id := 343, page := .GAT, kind := .win, off := 0x424, w := 16, chLo := 0, chHi := 15 }
/-- R229: Gate states now; bit g is gate g. -/
def GAT_GATES : Fld := { id := 344, page := .GAT, kind := .win, off := 0x428, w := 8, reset := 255, chLo := 0, chHi := 15 }
/-- R229: Active entry now. -/
def GAT_CUR_ENTRY : Fld := { id := 345, page := .GAT, kind := .win, off := 0x428, lo := 8, w := 9, chLo := 0, chHi := 15 }
/-- R229: Frames ending after their gate closed. -/
def GAT_OVERRUN : Fld := { id := 346, page := .GAT, kind := .win, off := 0x430, ty := .cnt, chLo := 0, chHi := 15 }
/-- R229: Frames discarded under R221. -/
def GAT_TOO_BIG : Fld := { id := 347, page := .GAT, kind := .win, off := 0x434, ty := .cnt, chLo := 0, chHi := 15 }
/-- R229: bit n: GLn RUNNING. -/
def GAT_RUNNING_MAP : Fld := { id := 848, page := .GAT, off := 0x100, w := 16 }
/-- R229: commits accepted. -/
def GAT_COMMITS : Fld := { id := 849, page := .GAT, off := 0x104, ty := .cnt }
/-- R229: commits refused. -/
def GAT_REFUSALS : Fld := { id := 850, page := .GAT, off := 0x108, ty := .cnt }
/-- R230: pending bank GLn entry e at 256n+e: gates. -/
def GAT_PB_GATES : Fld := { id := 851, page := .GAT, kind := .tab, off := 0x1000, stride := 4, cnt := 4096, w := 8, ty := .rw, attr := .prv }
/-- R230: pending bank: interval ns. -/
def GAT_PB_INTERVAL : Fld := { id := 852, page := .GAT, kind := .tab, off := 0x1000, stride := 4, cnt := 4096, lo := 8, w := 24, ty := .rw, attr := .prv }
/-- R230: active bank gates. -/
def GAT_AB_GATES : Fld := { id := 853, page := .GAT, kind := .tab, off := 0x5000, stride := 4, cnt := 4096, w := 8 }
/-- R230: active bank interval ns. -/
def GAT_AB_INTERVAL : Fld := { id := 854, page := .GAT, kind := .tab, off := 0x5000, stride := 4, cnt := 4096, lo := 8, w := 24 }

/-- Part 0 of the fields of GAT. -/
def fieldsGAT0 : List Fld := [GAT_EN, GAT_PORT, GAT_P_TBASE, GAT_COMMIT, GAT_CANCEL, GAT_PEND, GAT_RUNNING, GAT_BIND_CONFLICT, GAT_A_TBASE, GAT_ADVANCED, GAT_REFUSED, GAT_WR_LOCKED, GAT_P_COUNT, GAT_A_COUNT, GAT_P_CYCLE, GAT_P_BASE_NS, GAT_P_BASE_S_LO, GAT_P_BASE_S_HI, GAT_A_CYCLE, GAT_ACT_NS]
/-- Part 1 of the fields of GAT. -/
def fieldsGAT1 : List Fld := [GAT_ACT_S_LO, GAT_ACT_S_HI, GAT_GATES, GAT_CUR_ENTRY, GAT_OVERRUN, GAT_TOO_BIG, GAT_RUNNING_MAP, GAT_COMMITS, GAT_REFUSALS, GAT_PB_GATES, GAT_PB_INTERVAL, GAT_AB_GATES, GAT_AB_INTERVAL]
/-- The fields of GAT. -/
def fieldsGAT : List Fld := fieldsGAT0 ++ fieldsGAT1

/-- R255: 0 OFF, 1 TRAIN, 2 INIT, 3 READY, 4 SELF_REFRESH, 5 FAIL; 6–7 do not occur. -/
def CAV_STATE : Fld := { id := 348, page := .CAV, off := 0x100, w := 3 }
/-- R255: Initialisation complete. -/
def CAV_POOL_READY : Fld := { id := 349, page := .CAV, off := 0x100, lo := 3, w := 1 }
/-- R255: Lowest failed channel. -/
def CAV_FAIL_CH : Fld := { id := 350, page := .CAV, off := 0x100, lo := 4, w := 4 }
/-- R255: 0 eight, 1 sixteen; writes outside OFF and FAIL are ignored. -/
def CAV_CHANNELS : Fld := { id := 351, page := .CAV, off := 0x104, w := 1, ty := .rw, attr := .prv }
/-- R255: 0 32 GiB, 1 64 GiB, 2 128 GiB; 3 is reserved. -/
def CAV_DIMM_SIZE : Fld := { id := 352, page := .CAV, off := 0x104, lo := 1, w := 2, ty := .rw, attr := .prv }
/-- R255: Write 1 to initialise (R235); cleared at READY or FAIL. -/
def CAV_INIT_GO : Fld := { id := 353, page := .CAV, off := 0x104, lo := 3, w := 1, ty := .rwh, attr := .prv }
/-- R255: Containers in the cave. -/
def CAV_C_TOT : Fld := { id := 354, page := .CAV, off := 0x108, w := 28 }
/-- R255: First pool index. -/
def CAV_POOL_BASE : Fld := { id := 355, page := .CAV, off := 0x10C, w := 28 }
/-- R255: Free containers in ring and rack. -/
def CAV_POOL_FREE : Fld := { id := 356, page := .CAV, off := 0x110, w := 28 }
/-- R255: Rack entries held. -/
def CAV_RACK_FILL : Fld := { id := 357, page := .CAV, off := 0x114, w := 14 }
/-- R255: Low-water mark; 0 for none. -/
def CAV_LOW_WATER : Fld := { id := 358, page := .CAV, off := 0x118, w := 28, ty := .rw, attr := .prv }
/-- R255: Waiting takes, 0–64. -/
def CAV_WAITING : Fld := { id := 359, page := .CAV, off := 0x11C, w := 7 }
/-- R255: Wait threshold, µs; 0 disables WAIT_LONG. -/
def CAV_WAIT_TH : Fld := { id := 360, page := .CAV, off := 0x11C, lo := 16, w := 16, ty := .rw }
/-- R255: Retention, µs. -/
def CAV_RETAIN_US : Fld := { id := 361, page := .CAV, off := 0x120, w := 16, ty := .rw, attr := .prv }
/-- R255: First slot of selector 0's pair; odd values are reserved. -/
def CAV_XTS_SLOT0 : Fld := { id := 362, page := .CAV, off := 0x124, w := 6, ty := .rw, attr := .sec }
/-- R255: First slot of selector 1's pair; odd values are reserved. -/
def CAV_XTS_SLOT1 : Fld := { id := 363, page := .CAV, off := 0x124, lo := 8, w := 6, ty := .rw, reset := 2, attr := .sec }
/-- R255: 1 XTS-AES-256, 0 XTS-AES-128. -/
def CAV_XTS_256 : Fld := { id := 364, page := .CAV, off := 0x124, lo := 16, w := 1, ty := .rw, reset := 1, attr := .sec }
/-- R255: Selector for new takes. -/
def CAV_ACTIVE_KSEL : Fld := { id := 365, page := .CAV, off := 0x124, lo := 17, w := 1, ty := .rw, attr := .sec }
/-- R255: Containers not FREE under selector 0. -/
def CAV_KSEL0_COUNT : Fld := { id := 366, page := .CAV, off := 0x128, w := 28 }
/-- R255: Containers not FREE under selector 1. -/
def CAV_KSEL1_COUNT : Fld := { id := 367, page := .CAV, off := 0x12C, w := 28 }
/-- R255: 0 none, 1 PURGE; 2–7 are reserved. -/
def CAV_CMD : Fld := { id := 368, page := .CAV, off := 0x130, w := 3, ty := .rw, attr := .prv }
/-- R255: Write 1 to start; cleared on completion. -/
def CAV_CMD_GO : Fld := { id := 369, page := .CAV, off := 0x130, lo := 3, w := 1, ty := .rwh, attr := .prv }
/-- R255: Bit n: purge ALn. -/
def CAV_PURGE_MASK_LO : Fld := { id := 370, page := .CAV, off := 0x134, ty := .rw, attr := .prv }
/-- R255: Bit n: purge AL(32 + n). -/
def CAV_PURGE_MASK_HI : Fld := { id := 371, page := .CAV, off := 0x138, ty := .rw, attr := .prv }
/-- R255: Handle of the container for the host window. -/
def CAV_WIN_HANDLE : Fld := { id := 372, page := .CAV, off := 0x13C, ty := .rw, attr := .prv }
/-- R255: Owner named for the window read. -/
def CAV_WIN_OWNER : Fld := { id := 373, page := .CAV, off := 0x140, w := 6, ty := .rw, attr := .prv }
/-- R255: The handle names the express store. -/
def CAV_WIN_EXP : Fld := { id := 374, page := .CAV, off := 0x140, lo := 8, w := 1, ty := .rw, attr := .prv }
/-- R255: Write 1 to read into the window; cleared when done. -/
def CAV_WIN_GO : Fld := { id := 375, page := .CAV, off := 0x140, lo := 9, w := 1, ty := .rwh, attr := .prv }
/-- R255: The last window read was refused or aborted. -/
def CAV_WIN_ERR : Fld := { id := 376, page := .CAV, off := 0x140, lo := 10, w := 1 }
/-- R255: Free express containers. -/
def CAV_EXP_FREE : Fld := { id := 377, page := .CAV, off := 0x144, w := 13, reset := 0x1000 }
/-- R255: Waiting express takes. -/
def CAV_EXP_WAITING : Fld := { id := 378, page := .CAV, off := 0x144, lo := 16, w := 7 }
/-- R255: Frees rejected as DOUBLE. -/
def CAV_FREE_DOUBLE : Fld := { id := 379, page := .CAV, off := 0x150, ty := .cnt }
/-- R255: Frees rejected as FOREIGN. -/
def CAV_FREE_FOREIGN : Fld := { id := 380, page := .CAV, off := 0x154, ty := .cnt }
/-- R255: Frees rejected as STALE. -/
def CAV_FREE_STALE : Fld := { id := 381, page := .CAV, off := 0x158, ty := .cnt }
/-- R255: Popped entries discarded under R238. -/
def CAV_RING_BAD : Fld := { id := 382, page := .CAV, off := 0x15C, ty := .cnt }
/-- R255: Accesses refused under R240. -/
def CAV_ACCESS_VIOL : Fld := { id := 383, page := .CAV, off := 0x160, ty := .cnt }
/-- R255: Waits beyond WAIT_TH. -/
def CAV_WAIT_LONG : Fld := { id := 384, page := .CAV, off := 0x164, ty := .cnt }
/-- R255: Containers poisoned. -/
def CAV_POISONED : Fld := { id := 385, page := .CAV, off := 0x168, ty := .cnt }
/-- R255: Containers sent under R251. -/
def CAV_POISON_SENT : Fld := { id := 386, page := .CAV, off := 0x16C, ty := .cnt }
/-- R255: Containers late under R254. -/
def CAV_READ_LATE : Fld := { id := 387, page := .CAV, off := 0x170, ty := .cnt }
/-- R255: Retired containers. -/
def CAV_RETIRED : Fld := { id := 388, page := .CAV, off := 0x174, w := 28 }
/-- R255: Patrol scrub on. -/
def CAV_SCRUB_EN : Fld := { id := 389, page := .CAV, off := 0x180, w := 1, ty := .rw, reset := 1, attr := .prv }
/-- R255: Pass time, hours; 0 is reserved. -/
def CAV_SCRUB_HOURS : Fld := { id := 390, page := .CAV, off := 0x180, lo := 8, w := 8, ty := .rw, reset := 24, attr := .prv }
/-- R255: Index being scrubbed. -/
def CAV_SCRUB_POS : Fld := { id := 391, page := .CAV, off := 0x184, w := 28 }
/-- R255: Passes completed. -/
def CAV_SCRUB_PASSES : Fld := { id := 392, page := .CAV, off := 0x188, ty := .cnt }
/-- R255: Leave refusals. -/
def CAV_SCRUB_REFUSED : Fld := { id := 393, page := .CAV, off := 0x18C, ty := .cnt }
/-- R256: Containers owned in the cave, in any state. -/
def CAV_AL_HELD_ALL : Fld := { id := 394, page := .CAV, kind := .win, off := 0x400, w := 28, chLo := 0, chHi := 63 }
/-- R256: Containers in RETAINED. -/
def CAV_AL_RETAINED : Fld := { id := 395, page := .CAV, kind := .win, off := 0x404, w := 28, chLo := 0, chHi := 63 }
/-- R256: Containers owned in the express store. -/
def CAV_AL_EXP_HELD : Fld := { id := 396, page := .CAV, kind := .win, off := 0x408, w := 13, chLo := 0, chHi := 63 }
/-- R256: Containers purged, low half; the read latches the high half for this master. -/
def CAV_AL_PURGED_LO : Fld := { id := 397, page := .CAV, kind := .win, off := 0x410, ty := .cnt, chLo := 0, chHi := 63 }
/-- R256: High half. -/
def CAV_AL_PURGED_HI : Fld := { id := 398, page := .CAV, kind := .win, off := 0x414, ty := .cnt, chLo := 0, chHi := 63 }

/-- Part 0 of the fields of CAV. -/
def fieldsCAV0 : List Fld := [CAV_STATE, CAV_POOL_READY, CAV_FAIL_CH, CAV_CHANNELS, CAV_DIMM_SIZE, CAV_INIT_GO, CAV_C_TOT, CAV_POOL_BASE, CAV_POOL_FREE, CAV_RACK_FILL, CAV_LOW_WATER, CAV_WAITING, CAV_WAIT_TH, CAV_RETAIN_US, CAV_XTS_SLOT0, CAV_XTS_SLOT1, CAV_XTS_256, CAV_ACTIVE_KSEL, CAV_KSEL0_COUNT, CAV_KSEL1_COUNT]
/-- Part 1 of the fields of CAV. -/
def fieldsCAV1 : List Fld := [CAV_CMD, CAV_CMD_GO, CAV_PURGE_MASK_LO, CAV_PURGE_MASK_HI, CAV_WIN_HANDLE, CAV_WIN_OWNER, CAV_WIN_EXP, CAV_WIN_GO, CAV_WIN_ERR, CAV_EXP_FREE, CAV_EXP_WAITING, CAV_FREE_DOUBLE, CAV_FREE_FOREIGN, CAV_FREE_STALE, CAV_RING_BAD, CAV_ACCESS_VIOL, CAV_WAIT_LONG, CAV_POISONED, CAV_POISON_SENT, CAV_READ_LATE]
/-- Part 2 of the fields of CAV. -/
def fieldsCAV2 : List Fld := [CAV_RETIRED, CAV_SCRUB_EN, CAV_SCRUB_HOURS, CAV_SCRUB_POS, CAV_SCRUB_PASSES, CAV_SCRUB_REFUSED, CAV_AL_HELD_ALL, CAV_AL_RETAINED, CAV_AL_EXP_HELD, CAV_AL_PURGED_LO, CAV_AL_PURGED_HI]
/-- The fields of CAV. -/
def fieldsCAV : List Fld := fieldsCAV0 ++ fieldsCAV1 ++ fieldsCAV2

/-- R258: The channel is in use under R232. -/
def DDR_POPULATED : Fld := { id := 399, page := .DDR, kind := .win, off := 0x400, w := 1, chLo := 0, chHi := 15 }
/-- R258: 0 idle, 1 training, 2 trained, 3 failed, 4 self-refresh; 5–7 do not occur. -/
def DDR_TRAIN_STATE : Fld := { id := 400, page := .DDR, kind := .win, off := 0x400, lo := 1, w := 3, chLo := 0, chHi := 15 }
/-- R258: 0 none, 1 SPD mismatch, 2 no DIMM, 3 training failed; 4–15 do not occur. -/
def DDR_TRAIN_CAUSE : Fld := { id := 401, page := .DDR, kind := .win, off := 0x400, lo := 4, w := 4, chLo := 0, chHi := 15 }
/-- R258: DIMM temperature, °C, signed. -/
def DDR_TEMP : Fld := { id := 402, page := .DDR, kind := .win, off := 0x400, lo := 8, w := 8, chLo := 0, chHi := 15 }
/-- R258: Corrected errors. -/
def DDR_CE : Fld := { id := 403, page := .DDR, kind := .win, off := 0x404, ty := .cnt, chLo := 0, chHi := 15 }
/-- R258: Uncorrectable errors. -/
def DDR_UE : Fld := { id := 404, page := .DDR, kind := .win, off := 0x408, ty := .cnt, chLo := 0, chHi := 15 }
/-- R258: Channel offset of the last error, in 64-byte units. -/
def DDR_LAST_ERR : Fld := { id := 405, page := .DDR, kind := .win, off := 0x40C, chLo := 0, chHi := 15 }
/-- R258: Retraining slices run. -/
def DDR_RETRAINS : Fld := { id := 406, page := .DDR, kind := .win, off := 0x410, ty := .cnt, chLo := 0, chHi := 15 }

/-- Part 0 of the fields of DDR. -/
def fieldsDDR0 : List Fld := [DDR_POPULATED, DDR_TRAIN_STATE, DDR_TRAIN_CAUSE, DDR_TEMP, DDR_CE, DDR_UE, DDR_LAST_ERR, DDR_RETRAINS]
/-- The fields of DDR. -/
def fieldsDDR : List Fld := fieldsDDR0

/-- R275: Slot command under R261; 0 none. -/
def CIP_OP : Fld := { id := 407, page := .CIP, off := 0x100, w := 2, ty := .rw, attr := .sec }
/-- R275: For LOAD: 0 AES-128, 1 AES-256. -/
def CIP_SIZE : Fld := { id := 408, page := .CIP, off := 0x100, lo := 2, w := 1, ty := .rw, attr := .sec }
/-- R275: Target slot. -/
def CIP_SLOT : Fld := { id := 409, page := .CIP, off := 0x100, lo := 8, w := 6, ty := .rw, attr := .sec }
/-- R275: Key-encryption slot for UNWRAP. -/
def CIP_KEK : Fld := { id := 410, page := .CIP, off := 0x100, lo := 16, w := 6, ty := .rw, attr := .sec }
/-- R275: Write 1 to run; cleared at the end. -/
def CIP_GO : Fld := { id := 411, page := .CIP, off := 0x100, lo := 31, w := 1, ty := .rwh, attr := .sec }
/-- R275: 0 OK, 1 BUSY, 2 UNWRAP_FAIL, 3 LEN, 4 KEK_EMPTY; 5–7 do not occur. -/
def CIP_CMD_STATUS : Fld := { id := 412, page := .CIP, off := 0x104, w := 3, attr := .sec }
/-- R275: Wrapped length in words. -/
def CIP_WRAP_WORDS : Fld := { id := 413, page := .CIP, off := 0x104, lo := 8, w := 4, ty := .rw, reset := 10, attr := .sec }
/-- R275: Mismatches in this superframe. -/
def CIP_MISMATCH_SF : Fld := { id := 414, page := .CIP, off := 0x108, w := 2 }
/-- R275: Dual-computation mismatches. -/
def CIP_MISMATCHES : Fld := { id := 415, page := .CIP, off := 0x10C, ty := .cnt }
/-- R275: Operations aborted under R263. -/
def CIP_KEY_ABORTS : Fld := { id := 416, page := .CIP, off := 0x110, ty := .cnt }
/-- R275: Multiframes without a matching DN entry. -/
def CIP_EPOCH_MISS : Fld := { id := 417, page := .CIP, off := 0x114, ty := .cnt }
/-- R275: Eight words; bits [255:224] at 0x120. -/
def CIP_KEY_STAGE : Fld := { id := 418, page := .CIP, off := 0x120, stride := 4, cnt := 8, ty := .wo, attr := .sec }
/-- R275: Ten words; first wrapped word at 0x140. -/
def CIP_WRAP_STAGE : Fld := { id := 419, page := .CIP, off := 0x140, stride := 4, cnt := 10, ty := .wo, attr := .sec }
/-- R275: [7:0] EPOCH, [13:8] SLOT, [31] VALID. -/
def CIP_DN0 : Fld := { id := 420, page := .CIP, off := 0x180, ty := .rw, attr := .sec }
/-- R275: [7:0] EPOCH, [13:8] SLOT, [31] VALID. -/
def CIP_DN1 : Fld := { id := 421, page := .CIP, off := 0x184, ty := .rw, attr := .sec }
/-- R275: [7:0] EPOCH, [13:8] SLOT, [31] VALID. -/
def CIP_UP0 : Fld := { id := 422, page := .CIP, off := 0x188, ty := .rw, attr := .sec }
/-- R275: [7:0] EPOCH, [13:8] SLOT, [31] VALID. -/
def CIP_UP1 : Fld := { id := 423, page := .CIP, off := 0x18C, ty := .rw, attr := .sec }
/-- R275: Current upstream entry. -/
def CIP_UP_CUR : Fld := { id := 424, page := .CIP, off := 0x190, w := 1 }
/-- R275: Write 1 to arm under R265; cleared at the switch. -/
def CIP_ARM : Fld := { id := 425, page := .CIP, off := 0x190, lo := 1, w := 1, ty := .rwh, attr := .sec }
/-- R275: An ARM was refused. -/
def CIP_ARM_LATE : Fld := { id := 426, page := .CIP, off := 0x190, lo := 2, w := 1, ty := .w1c }
/-- R275: Effective word of the switch. -/
def CIP_UP_SWITCH : Fld := { id := 427, page := .CIP, off := 0x194, ty := .rw, attr := .sec }
/-- R275: Upstream epoch in force. -/
def CIP_UP_EPOCH : Fld := { id := 428, page := .CIP, off := 0x198, w := 8 }
/-- R275: Slot Kn: [1:0] 0 EMPTY, 1 AES128, 2 AES256; [31:8] KCV. -/
def CIP_SLOT_STAT : Fld := { id := 429, page := .CIP, off := 0x1000, stride := 4, cnt := 64, attr := .sec }
/-- R275: Bit k: CIPn may use Kk, k = 0–31. -/
def CIP_SLOT_MASK_LO : Fld := { id := 430, page := .CIP, off := 0x1100, stride := 8, cnt := 16, ty := .rw, attr := .sec }
/-- R275: Bit k: CIPn may use K(32 + k). -/
def CIP_SLOT_MASK_HI : Fld := { id := 431, page := .CIP, off := 0x1104, stride := 8, cnt := 16, ty := .rw, attr := .sec }

/-- Part 0 of the fields of CIP. -/
def fieldsCIP0 : List Fld := [CIP_OP, CIP_SIZE, CIP_SLOT, CIP_KEK, CIP_GO, CIP_CMD_STATUS, CIP_WRAP_WORDS, CIP_MISMATCH_SF, CIP_MISMATCHES, CIP_KEY_ABORTS, CIP_EPOCH_MISS, CIP_KEY_STAGE, CIP_WRAP_STAGE, CIP_DN0, CIP_DN1, CIP_UP0, CIP_UP1, CIP_UP_CUR, CIP_ARM, CIP_ARM_LATE]
/-- Part 1 of the fields of CIP. -/
def fieldsCIP1 : List Fld := [CIP_UP_SWITCH, CIP_UP_EPOCH, CIP_SLOT_STAT, CIP_SLOT_MASK_LO, CIP_SLOT_MASK_HI]
/-- The fields of CIP. -/
def fieldsCIP : List Fld := fieldsCIP0 ++ fieldsCIP1

/-- R276: 0 RAW, 1 XTS; 2–3 are reserved. -/
def CIPU_MODE : Fld := { id := 432, page := .CIPU, off := 0x100, w := 2, ty := .rw }
/-- R276: 0 encrypt, 1 decrypt. -/
def CIPU_DIR : Fld := { id := 433, page := .CIPU, off := 0x100, lo := 2, w := 1, ty := .rw }
/-- R276: Data unit under R273. -/
def CIPU_DU_SIZE : Fld := { id := 434, page := .CIPU, off := 0x100, lo := 3, w := 2, ty := .rw }
/-- R276: Key slot, or key 1 for XTS. -/
def CIPU_KEY1 : Fld := { id := 435, page := .CIPU, off := 0x100, lo := 8, w := 6, ty := .rw }
/-- R276: Key 2 for XTS. -/
def CIPU_KEY2 : Fld := { id := 436, page := .CIPU, off := 0x100, lo := 16, w := 6, ty := .rw }
/-- R276: Write 1 to start; cleared at the job's end. -/
def CIPU_GO : Fld := { id := 437, page := .CIPU, off := 0x100, lo := 31, w := 1, ty := .rwh }
/-- R276: Source byte address. -/
def CIPU_SRC_LO : Fld := { id := 438, page := .CIPU, off := 0x104, ty := .rw }
/-- R276: Source byte address. -/
def CIPU_SRC_HI : Fld := { id := 439, page := .CIPU, off := 0x108, ty := .rw }
/-- R276: Destination byte address. -/
def CIPU_DST_LO : Fld := { id := 440, page := .CIPU, off := 0x10C, ty := .rw }
/-- R276: Destination byte address. -/
def CIPU_DST_HI : Fld := { id := 441, page := .CIPU, off := 0x110, ty := .rw }
/-- R276: Length in bytes. -/
def CIPU_LEN : Fld := { id := 442, page := .CIPU, off := 0x114, w := 25, ty := .rw }
/-- R276: Initial tweak; bits [127:96] at 0x120. -/
def CIPU_TWEAK : Fld := { id := 443, page := .CIPU, off := 0x120, stride := 4, cnt := 4, ty := .rw }
/-- R276: 0 IDLE, 1 WAIT_LEAVE, 2 RUNNING, 3 DONE, 4 KEY_EMPTY, 5 SLOT_DENIED, 6 RANGE_ERR, 7 …. -/
def CIPU_JSTATUS : Fld := { id := 444, page := .CIPU, off := 0x130, w := 4 }
/-- R276: A write was ignored while a job ran. -/
def CIPU_WR_BUSY : Fld := { id := 445, page := .CIPU, off := 0x130, lo := 4, w := 1, ty := .w1c }
/-- R276: Bytes released by the last job. -/
def CIPU_DONE_LEN : Fld := { id := 446, page := .CIPU, off := 0x134, w := 25 }
/-- R276: Jobs ended, in any status. -/
def CIPU_JOBS : Fld := { id := 447, page := .CIPU, off := 0x138, ty := .cnt }

/-- Part 0 of the fields of CIPU. -/
def fieldsCIPU0 : List Fld := [CIPU_MODE, CIPU_DIR, CIPU_DU_SIZE, CIPU_KEY1, CIPU_KEY2, CIPU_GO, CIPU_SRC_LO, CIPU_SRC_HI, CIPU_DST_LO, CIPU_DST_HI, CIPU_LEN, CIPU_TWEAK, CIPU_JSTATUS, CIPU_WR_BUSY, CIPU_DONE_LEN, CIPU_JOBS]
/-- The fields of CIPU. -/
def fieldsCIPU : List Fld := fieldsCIPU0

end Sys2Proof.Machine
end

