-- ==== Sys2Proof/Machine/RegsC.lean ====
section
/-! DEFINITION. The register fields of pages TIM, VAT, PCI, DMA, SER, FKL, PWR, FLT, BOT, GLB,
as the register tables of the spec list them: offset, bits, access type, reset value, attribute, apply kind.
Each docstring names the rule of the table and, where short, what the field holds. -/

namespace Sys2Proof.Machine

/-- R293: TAI second of superframe 0, [31:0]. -/
def TIM_EPOCH_TAI_LO : Fld := { id := 448, page := .TIM, off := 0x100 }
/-- R293: [47:32]. -/
def TIM_EPOCH_TAI_HI : Fld := { id := 449, page := .TIM, off := 0x104, w := 16 }
/-- R293: Signed TAI − UTC, seconds. -/
def TIM_UTC_OFS0 : Fld := { id := 450, page := .TIM, off := 0x104, lo := 16, w := 16 }
/-- R293: As in TIME_INFO. -/
def TIM_LEAP : Fld := { id := 451, page := .TIM, off := 0x108, w := 2 }
/-- R293: Head end's clock class. -/
def TIM_CLOCK_CLASS0 : Fld := { id := 452, page := .TIM, off := 0x108, lo := 8, w := 8, reset := 255 }
/-- R293: Head end's clock accuracy. -/
def TIM_CLOCK_ACC0 : Fld := { id := 453, page := .TIM, off := 0x108, lo := 16, w := 8, reset := 254 }
/-- R293: A TIME_INFO is held. -/
def TIM_TI_VALID : Fld := { id := 454, page := .TIM, off := 0x108, lo := 31, w := 1 }
/-- R293: Signed d_up − d_down, ticks. -/
def TIM_ASYM : Fld := { id := 455, page := .TIM, off := 0x10C, ty := .rwb, attr := .prv, apply := .frame }
/-- R293: Carrier A wavelength, pm. -/
def TIM_LAMBDA_A : Fld := { id := 456, page := .TIM, off := 0x110, w := 21, ty := .rw, attr := .prv }
/-- R293: Carrier B wavelength, pm. -/
def TIM_LAMBDA_B : Fld := { id := 457, page := .TIM, off := 0x114, w := 21, ty := .rw, attr := .prv }
/-- R293: Carrier U wavelength, pm. -/
def TIM_LAMBDA_U : Fld := { id := 458, page := .TIM, off := 0x118, w := 21, ty := .rw, attr := .prv }
/-- R293: Include the wavelength term. -/
def TIM_GD_EN : Fld := { id := 459, page := .TIM, off := 0x11C, w := 1, ty := .rw, reset := 1, attr := .prv }
/-- R293: GD has been computed. -/
def TIM_GD_VALID : Fld := { id := 460, page := .TIM, off := 0x11C, lo := 31, w := 1 }
/-- R293: Signed wavelength term, ticks. -/
def TIM_GD : Fld := { id := 461, page := .TIM, off := 0x120 }
/-- R293: Downstream delay, carrier A, ticks. -/
def TIM_DDOWN_A : Fld := { id := 462, page := .TIM, off := 0x124 }
/-- R293: Downstream delay, carrier B, ticks. -/
def TIM_DDOWN_B : Fld := { id := 463, page := .TIM, off := 0x128 }
/-- R293: Write 1 to capture. -/
def TIM_CAP_GO : Fld := { id := 464, page := .TIM, off := 0x130, w := 1, ty := .wo }
/-- R293: [1] launch table, [2] CAP_GO. -/
def TIM_CAP_SRC : Fld := { id := 465, page := .TIM, off := 0x130, lo := 1, w := 2 }
/-- R293: Redundant pair active. -/
def TIM_PAIR_EN : Fld := { id := 466, page := .TIM, off := 0x140, w := 1, ty := .rw, attr := .prv }
/-- R293: 0 automatic, 1 primary, 2 redundant; 3 is reserved. -/
def TIM_SW_FORCE : Fld := { id := 467, page := .TIM, off := 0x140, lo := 1, w := 2, ty := .rw, attr := .prv }
/-- R293: 1: TB1 follows TB2. -/
def TIM_ACTIVE : Fld := { id := 468, page := .TIM, off := 0x140, lo := 3, w := 1 }
/-- R293: ms, 1–65,535. -/
def TIM_SW_HOLD : Fld := { id := 469, page := .TIM, off := 0x144, w := 16, ty := .rw, reset := 0x3E8, attr := .prv }
/-- R293: Seconds; 0 never reverts. -/
def TIM_REVERT_S : Fld := { id := 470, page := .TIM, off := 0x144, lo := 16, w := 16, ty := .rw, reset := 60, attr := .prv }
/-- R293: Signed TB1 − TB2, ns; saturates. -/
def TIM_PAIR_DIFF : Fld := { id := 471, page := .TIM, off := 0x148 }
/-- R293: ppb. -/
def TIM_SW_SLEW : Fld := { id := 472, page := .TIM, off := 0x14C, w := 20, ty := .rw, reset := 0x3E8, attr := .prv }
/-- R293: Switches made. -/
def TIM_SWITCHES : Fld := { id := 473, page := .TIM, off := 0x150, ty := .cnt }
/-- R293: PPS_OUT0, PPS_OUT1 enabled. -/
def TIM_PO_EN : Fld := { id := 474, page := .TIM, off := 0x160, stride := 16, cnt := 2, w := 1, ty := .rw, attr := .prv }
/-- R293: Time base. -/
def TIM_PO_TB : Fld := { id := 475, page := .TIM, off := 0x160, stride := 16, cnt := 2, lo := 1, w := 2, ty := .rw, attr := .prv }
/-- R293: Under R290; 3 is reserved. -/
def TIM_QUAL : Fld := { id := 476, page := .TIM, off := 0x160, stride := 16, cnt := 2, lo := 3, w := 2, ty := .rw, reset := 1, attr := .prv }
/-- R293: µs. -/
def TIM_WIDTH : Fld := { id := 477, page := .TIM, off := 0x164, stride := 16, cnt := 2, w := 19, ty := .rw, reset := 0x186A0, attr := .prv }
/-- R293: Signed advance, ns. -/
def TIM_OFS : Fld := { id := 478, page := .TIM, off := 0x168, stride := 16, cnt := 2, ty := .rw, attr := .prv }
/-- R293: TOD output on. -/
def TIM_TOD_EN : Fld := { id := 479, page := .TIM, off := 0x180, w := 1, ty := .rw, attr := .prv }
/-- R293: Time base. -/
def TIM_TOD_TB : Fld := { id := 480, page := .TIM, off := 0x180, lo := 1, w := 2, ty := .rw, attr := .prv }
/-- R293: Under R291. -/
def TIM_BAUD : Fld := { id := 481, page := .TIM, off := 0x180, lo := 3, w := 2, ty := .rw, attr := .prv }
/-- R293: ms. -/
def TIM_PPSIN_MIN : Fld := { id := 482, page := .TIM, off := 0x184, w := 10, ty := .rw, reset := 0x384, attr := .prv }
/-- R293: Edges ignored. -/
def TIM_PPSIN_IGN : Fld := { id := 483, page := .TIM, off := 0x188, ty := .cnt }
/-- R293: Corrections made. -/
def TIM_TC_CORR : Fld := { id := 484, page := .TIM, off := 0x190, ty := .cnt }
/-- R293: Frames marked under R288. -/
def TIM_TC_INVALID : Fld := { id := 485, page := .TIM, off := 0x194, ty := .cnt }
/-- R293: Overflows under R288. -/
def TIM_TC_SAT : Fld := { id := 486, page := .TIM, off := 0x198, ty := .cnt }
/-- R294: Under R278. -/
def TIM_TB_MODE : Fld := { id := 487, page := .TIM, kind := .win, off := 0x400, w := 3, ty := .rw, rsel := .tbMode, attr := .prv, chLo := 0, chHi := 3 }
/-- R294: FOLLOW source. -/
def TIM_TB_SRC : Fld := { id := 488, page := .TIM, kind := .win, off := 0x400, lo := 4, w := 2, ty := .rw, attr := .prv, chLo := 0, chHi := 3 }
/-- R294: Under R279. -/
def TIM_TB_STATE : Fld := { id := 489, page := .TIM, kind := .win, off := 0x400, lo := 8, w := 2, chLo := 0, chHi := 3 }
/-- R294: A step was taken. -/
def TIM_TB_STEPPED : Fld := { id := 490, page := .TIM, kind := .win, off := 0x400, lo := 10, w := 1, ty := .w1c, chLo := 0, chHi := 3 }
/-- R294: A write was ignored under R278. -/
def TIM_TB_WR_IGN : Fld := { id := 491, page := .TIM, kind := .win, off := 0x400, lo := 11, w := 1, ty := .w1c, chLo := 0, chHi := 3 }
/-- R294: STATE at the last capture. -/
def TIM_TB_CAP_STATE : Fld := { id := 492, page := .TIM, kind := .win, off := 0x400, lo := 12, w := 2, chLo := 0, chHi := 3 }
/-- R294: Seconds [31:0]; the read latches NOW_S_HI and NOW_NS for this master. -/
def TIM_TB_NOW_S_LO : Fld := { id := 493, page := .TIM, kind := .win, off := 0x404, chLo := 0, chHi := 3 }
/-- R294: Seconds [47:32]. -/
def TIM_TB_NOW_S_HI : Fld := { id := 494, page := .TIM, kind := .win, off := 0x408, w := 16, chLo := 0, chHi := 3 }
/-- R294: Nanoseconds. -/
def TIM_TB_NOW_NS : Fld := { id := 495, page := .TIM, kind := .win, off := 0x40C, w := 30, chLo := 0, chHi := 3 }
/-- R294: Reading to load. -/
def TIM_TB_SET_S_LO : Fld := { id := 496, page := .TIM, kind := .win, off := 0x410, ty := .rw, attr := .prv, chLo := 0, chHi := 3 }
/-- R294: Reading to load. -/
def TIM_TB_SET_S_HI : Fld := { id := 497, page := .TIM, kind := .win, off := 0x414, w := 16, ty := .rw, attr := .prv, chLo := 0, chHi := 3 }
/-- R294: Reading to load. -/
def TIM_TB_SET_NS : Fld := { id := 498, page := .TIM, kind := .win, off := 0x418, w := 30, ty := .rw, attr := .prv, chLo := 0, chHi := 3 }
/-- R294: Load the SET reading at once. -/
def TIM_TB_SET_GO : Fld := { id := 499, page := .TIM, kind := .win, off := 0x41C, w := 1, ty := .wo, attr := .prv, chLo := 0, chHi := 3 }
/-- R294: Slew by ADJ_NS over 1 s. -/
def TIM_TB_ADJ_GO : Fld := { id := 500, page := .TIM, kind := .win, off := 0x41C, lo := 1, w := 1, ty := .wo, attr := .prv, chLo := 0, chHi := 3 }
/-- R294: Signed slew, ns. -/
def TIM_TB_ADJ_NS : Fld := { id := 501, page := .TIM, kind := .win, off := 0x420, ty := .rw, attr := .prv, chLo := 0, chHi := 3 }
/-- R294: Signed frequency, 2^−4 ppb; clipped to ±100 ppm (±1,600,000,000) under R280. -/
def TIM_TB_FREQ : Fld := { id := 502, page := .TIM, kind := .win, off := 0x424, ty := .rwh, attr := .prv, chLo := 0, chHi := 3 }
/-- R294: Signed rate against LT, 2^−4 ppb. -/
def TIM_TB_RR : Fld := { id := 503, page := .TIM, kind := .win, off := 0x428, chLo := 0, chHi := 3 }
/-- R294: Signed last offset, ns; saturates. -/
def TIM_TB_OFFSET : Fld := { id := 504, page := .TIM, kind := .win, off := 0x42C, chLo := 0, chHi := 3 }
/-- R294: Mean path delay, ns. -/
def TIM_TB_MPD : Fld := { id := 505, page := .TIM, kind := .win, off := 0x430, chLo := 0, chHi := 3 }
/-- R294: Phase gain 2^−n. -/
def TIM_TB_KP_SHIFT : Fld := { id := 506, page := .TIM, kind := .win, off := 0x434, w := 5, ty := .rw, reset := 2, attr := .prv, chLo := 0, chHi := 3 }
/-- R294: Frequency gain 2^−n. -/
def TIM_TB_KI_SHIFT : Fld := { id := 507, page := .TIM, kind := .win, off := 0x434, lo := 8, w := 5, ty := .rw, reset := 6, attr := .prv, chLo := 0, chHi := 3 }
/-- R294: Lock threshold, ns. -/
def TIM_TB_LOCK_NS : Fld := { id := 508, page := .TIM, kind := .win, off := 0x434, lo := 16, w := 16, ty := .rw, reset := 100, attr := .prv, chLo := 0, chHi := 3 }
/-- R294: Step threshold, ns; 0 never steps. -/
def TIM_TB_STEP_NS : Fld := { id := 509, page := .TIM, kind := .win, off := 0x438, ty := .rw, reset := 0x3E8, attr := .prv, chLo := 0, chHi := 3 }
/-- R294: ms, 1–65,535. -/
def TIM_TB_SYNC_TO : Fld := { id := 510, page := .TIM, kind := .win, off := 0x43C, w := 16, ty := .rw, reset := 0xBB8, attr := .prv, chLo := 0, chHi := 3 }
/-- R294: Seconds; 0 unlimited. -/
def TIM_TB_HOLD_MAX : Fld := { id := 511, page := .TIM, kind := .win, off := 0x43C, lo := 16, w := 16, ty := .rw, attr := .prv, chLo := 0, chHi := 3 }
/-- R294: Last capture. -/
def TIM_TB_CAP_S_LO : Fld := { id := 512, page := .TIM, kind := .win, off := 0x440, chLo := 0, chHi := 3 }
/-- R294: Last capture. -/
def TIM_TB_CAP_S_HI : Fld := { id := 513, page := .TIM, kind := .win, off := 0x444, w := 16, chLo := 0, chHi := 3 }
/-- R294: Last capture. -/
def TIM_TB_CAP_NS : Fld := { id := 514, page := .TIM, kind := .win, off := 0x448, w := 30, chLo := 0, chHi := 3 }
/-- R294: Last PPS_IN edge. -/
def TIM_TB_PPSIN_S_LO : Fld := { id := 515, page := .TIM, kind := .win, off := 0x450, chLo := 0, chHi := 3 }
/-- R294: Last PPS_IN edge. -/
def TIM_TB_PPSIN_S_HI : Fld := { id := 516, page := .TIM, kind := .win, off := 0x454, w := 16, chLo := 0, chHi := 3 }
/-- R294: Last PPS_IN edge. -/
def TIM_TB_PPSIN_NS : Fld := { id := 517, page := .TIM, kind := .win, off := 0x458, w := 30, chLo := 0, chHi := 3 }
/-- R294: Signed TAI − UTC for TOD; TB0 reads UTC_OFS0. -/
def TIM_TB_UTC_OFS : Fld := { id := 518, page := .TIM, kind := .win, off := 0x460, w := 16, ty := .rw, chLo := 0, chHi := 3 }
/-- R294: For TOD; TB0 reads CLOCK_CLASS0. -/
def TIM_TB_CLOCK_CLASS : Fld := { id := 519, page := .TIM, kind := .win, off := 0x460, lo := 16, w := 8, ty := .rw, reset := 255, chLo := 0, chHi := 3 }
/-- R294: For TOD; TB0 reads CLOCK_ACC0. -/
def TIM_TB_CLOCK_ACC : Fld := { id := 520, page := .TIM, kind := .win, off := 0x460, lo := 24, w := 8, ty := .rw, reset := 254, chLo := 0, chHi := 3 }
/-- R294: Follower port. -/
def TIM_TB_F_PORT : Fld := { id := 521, page := .TIM, kind := .win, off := 0x470, w := 4, ty := .rw, attr := .prv, chLo := 0, chHi := 3 }
/-- R294: domainNumber. -/
def TIM_TB_F_DOMAIN : Fld := { id := 522, page := .TIM, kind := .win, off := 0x470, lo := 4, w := 8, ty := .rw, attr := .prv, chLo := 0, chHi := 3 }
/-- R294: Under R283. -/
def TIM_TB_F_P2P : Fld := { id := 523, page := .TIM, kind := .win, off := 0x470, lo := 12, w := 1, ty := .rw, attr := .prv, chLo := 0, chHi := 3 }
/-- R294: Traffic class of requests. -/
def TIM_TB_F_TC : Fld := { id := 524, page := .TIM, kind := .win, off := 0x470, lo := 13, w := 3, ty := .rw, reset := 7, attr := .prv, chLo := 0, chHi := 3 }
/-- R294: Signed log2 request interval. -/
def TIM_TB_F_REQ_LOG : Fld := { id := 525, page := .TIM, kind := .win, off := 0x470, lo := 16, w := 8, ty := .rw, attr := .prv, chLo := 0, chHi := 3 }
/-- R294: Follower on. -/
def TIM_TB_F_EN : Fld := { id := 526, page := .TIM, kind := .win, off := 0x470, lo := 31, w := 1, ty := .rw, attr := .prv, chLo := 0, chHi := 3 }
/-- R294: Signed client link asymmetry, ns. -/
def TIM_TB_F_LINK_ASYM : Fld := { id := 527, page := .TIM, kind := .win, off := 0x474, ty := .rw, attr := .prv, chLo := 0, chHi := 3 }
/-- R294: sourcePortIdentity, first byte in [31:24] of 0x478. -/
def TIM_TB_MASTER_ID_0 : Fld := { id := 528, page := .TIM, kind := .win, off := 0x478, ty := .rw, attr := .prv, chLo := 0, chHi := 3 }
/-- R294: sourcePortIdentity, first byte in [31:24] of 0x478. -/
def TIM_TB_MASTER_ID_1 : Fld := { id := 529, page := .TIM, kind := .win, off := 0x47C, ty := .rw, attr := .prv, chLo := 0, chHi := 3 }
/-- R294: sourcePortIdentity, first byte in [31:24] of 0x478. -/
def TIM_TB_MASTER_ID_2 : Fld := { id := 530, page := .TIM, kind := .win, off := 0x480, w := 16, ty := .rw, attr := .prv, chLo := 0, chHi := 3 }
/-- R294: Valid samples. -/
def TIM_TB_F_SAMPLES : Fld := { id := 531, page := .TIM, kind := .win, off := 0x484, ty := .cnt, chLo := 0, chHi := 3 }
/-- R294: SYNC_TO expiries. -/
def TIM_TB_F_TMO : Fld := { id := 532, page := .TIM, kind := .win, off := 0x488, ty := .cnt, chLo := 0, chHi := 3 }
/-- R294: Steps taken. -/
def TIM_TB_TB_STEPS : Fld := { id := 533, page := .TIM, kind := .win, off := 0x48C, ty := .cnt, chLo := 0, chHi := 3 }
/-- R283: PTP templates: followers 1-3, 512 bytes each. -/
def TIM_TEMPLATE : Fld := { id := 867, page := .TIM, kind := .tab, off := 0x1000, stride := 4, cnt := 384, ty := .rw, attr := .prv }

/-- Part 0 of the fields of TIM. -/
def fieldsTIM0 : List Fld := [TIM_EPOCH_TAI_LO, TIM_EPOCH_TAI_HI, TIM_UTC_OFS0, TIM_LEAP, TIM_CLOCK_CLASS0, TIM_CLOCK_ACC0, TIM_TI_VALID, TIM_ASYM, TIM_LAMBDA_A, TIM_LAMBDA_B, TIM_LAMBDA_U, TIM_GD_EN, TIM_GD_VALID, TIM_GD, TIM_DDOWN_A, TIM_DDOWN_B, TIM_CAP_GO, TIM_CAP_SRC, TIM_PAIR_EN, TIM_SW_FORCE]
/-- Part 1 of the fields of TIM. -/
def fieldsTIM1 : List Fld := [TIM_ACTIVE, TIM_SW_HOLD, TIM_REVERT_S, TIM_PAIR_DIFF, TIM_SW_SLEW, TIM_SWITCHES, TIM_PO_EN, TIM_PO_TB, TIM_QUAL, TIM_WIDTH, TIM_OFS, TIM_TOD_EN, TIM_TOD_TB, TIM_BAUD, TIM_PPSIN_MIN, TIM_PPSIN_IGN, TIM_TC_CORR, TIM_TC_INVALID, TIM_TC_SAT, TIM_TB_MODE]
/-- Part 2 of the fields of TIM. -/
def fieldsTIM2 : List Fld := [TIM_TB_SRC, TIM_TB_STATE, TIM_TB_STEPPED, TIM_TB_WR_IGN, TIM_TB_CAP_STATE, TIM_TB_NOW_S_LO, TIM_TB_NOW_S_HI, TIM_TB_NOW_NS, TIM_TB_SET_S_LO, TIM_TB_SET_S_HI, TIM_TB_SET_NS, TIM_TB_SET_GO, TIM_TB_ADJ_GO, TIM_TB_ADJ_NS, TIM_TB_FREQ, TIM_TB_RR, TIM_TB_OFFSET, TIM_TB_MPD, TIM_TB_KP_SHIFT, TIM_TB_KI_SHIFT]
/-- Part 3 of the fields of TIM. -/
def fieldsTIM3 : List Fld := [TIM_TB_LOCK_NS, TIM_TB_STEP_NS, TIM_TB_SYNC_TO, TIM_TB_HOLD_MAX, TIM_TB_CAP_S_LO, TIM_TB_CAP_S_HI, TIM_TB_CAP_NS, TIM_TB_PPSIN_S_LO, TIM_TB_PPSIN_S_HI, TIM_TB_PPSIN_NS, TIM_TB_UTC_OFS, TIM_TB_CLOCK_CLASS, TIM_TB_CLOCK_ACC, TIM_TB_F_PORT, TIM_TB_F_DOMAIN, TIM_TB_F_P2P, TIM_TB_F_TC, TIM_TB_F_REQ_LOG, TIM_TB_F_EN, TIM_TB_F_LINK_ASYM]
/-- Part 4 of the fields of TIM. -/
def fieldsTIM4 : List Fld := [TIM_TB_MASTER_ID_0, TIM_TB_MASTER_ID_1, TIM_TB_MASTER_ID_2, TIM_TB_F_SAMPLES, TIM_TB_F_TMO, TIM_TB_TB_STEPS, TIM_TEMPLATE]
/-- The fields of TIM. -/
def fieldsTIM : List Fld := fieldsTIM0 ++ fieldsTIM1 ++ fieldsTIM2 ++ fieldsTIM3 ++ fieldsTIM4

/-- R310: Bit r: region VRr powered. -/
def VAT_REGION_EN : Fld := { id := 534, page := .VAT, off := 0x100, w := 8, ty := .rw, attr := .prv }
/-- R310: Keep program memory through power-gating. -/
def VAT_RETAIN : Fld := { id := 535, page := .VAT, off := 0x100, lo := 8, w := 1, ty := .rw, reset := 1, attr := .prv }
/-- R310: Unit quad of the data aperture, 0–3; banked per master, and a read returns the reading …. -/
def VAT_DQUAD : Fld := { id := 536, page := .VAT, off := 0x104, w := 5, ty := .rw, attr := .prv }
/-- R310: Subcarriers left unswapped under R58 and R303. -/
def VAT_SWAP_NOTREADY : Fld := { id := 537, page := .VAT, off := 0x108, ty := .cnt }
/-- R310: Cluster starts lost for want of leave. -/
def VAT_LEAVE_REFUSED : Fld := { id := 538, page := .VAT, off := 0x10C, ty := .cnt }
/-- R310: Launches of an invalid entry. -/
def VAT_NO_KERNEL : Fld := { id := 539, page := .VAT, off := 0x110, ty := .cnt }
/-- R310: Output stores dropped under R303. -/
def VAT_PORT_DENIED : Fld := { id := 540, page := .VAT, off := 0x114, ty := .cnt }
/-- R310: Kernels stopped at MAXRUN. -/
def VAT_OVERRUNS : Fld := { id := 541, page := .VAT, off := 0x118, ty := .cnt }
/-- R310: Host writes ignored under R300. -/
def VAT_HOST_WR_BUSY : Fld := { id := 542, page := .VAT, off := 0x11C, ty := .cnt }
/-- R311: First instruction. -/
def VAT_K_ENTRY : Fld := { id := 543, page := .VAT, kind := .tab, off := 0x1000, stride := 32, cnt := 64, w := 13, ty := .rw, attr := .prv }
/-- R311: Power class under R307. -/
def VAT_K_PCLASS : Fld := { id := 544, page := .VAT, kind := .tab, off := 0x1000, stride := 32, cnt := 64, lo := 16, w := 2, ty := .rw, attr := .prv }
/-- R311: Set INT_STAT.DONE at HALT. -/
def VAT_K_IRQ : Fld := { id := 545, page := .VAT, kind := .tab, off := 0x1000, stride := 32, cnt := 64, lo := 18, w := 1, ty := .rw, attr := .prv }
/-- R311: Entry may be launched. -/
def VAT_K_VALID : Fld := { id := 546, page := .VAT, kind := .tab, off := 0x1000, stride := 32, cnt := 64, lo := 31, w := 1, ty := .rw, attr := .prv }
/-- R311: Bit n of CMASKm: cluster 32 × m + n. -/
def VAT_K_CMASK0 : Fld := { id := 547, page := .VAT, kind := .tab, off := 0x1004, stride := 32, cnt := 64, ty := .rw, attr := .prv }
/-- R311: Bit n of CMASKm: cluster 32 × m + n. -/
def VAT_K_CMASK1 : Fld := { id := 548, page := .VAT, kind := .tab, off := 0x1008, stride := 32, cnt := 64, ty := .rw, attr := .prv }
/-- R311: Bit n of CMASKm: cluster 32 × m + n. -/
def VAT_K_CMASK2 : Fld := { id := 549, page := .VAT, kind := .tab, off := 0x100C, stride := 32, cnt := 64, ty := .rw, attr := .prv }
/-- R311: Bit n of CMASKm: cluster 32 × m + n. -/
def VAT_K_CMASK3 : Fld := { id := 550, page := .VAT, kind := .tab, off := 0x1010, stride := 32, cnt := 64, ty := .rw, attr := .prv }
/-- R311: Argument loaded into G0. -/
def VAT_K_KARG : Fld := { id := 551, page := .VAT, kind := .tab, off := 0x1014, stride := 32, cnt := 64, w := 16, ty := .rw, attr := .prv }
/-- R311: Limit in units of 256 cycles; 0 for none. -/
def VAT_K_MAXRUN : Fld := { id := 552, page := .VAT, kind := .tab, off := 0x1014, stride := 32, cnt := 64, lo := 16, w := 16, ty := .rw, attr := .prv }
/-- R312: 0 OFF, 1 IDLE, 2 WAIT_LEAVE, 3 RUNNING, 4 FAULT; 5–7 do not occur. -/
def VAT_C_CSTATE : Fld := { id := 553, page := .VAT, kind := .win, off := 0x400, w := 3, chLo := 0, chHi := 127 }
/-- R312: Write 1 to launch HOST_KSLOT on this cluster alone. -/
def VAT_C_GO : Fld := { id := 554, page := .VAT, kind := .win, off := 0x400, lo := 8, w := 1, ty := .wo, attr := .prv, chLo := 0, chHi := 127 }
/-- R312: Write 1 to stop under R306. -/
def VAT_C_STOP : Fld := { id := 555, page := .VAT, kind := .win, off := 0x400, lo := 9, w := 1, ty := .wo, attr := .prv, chLo := 0, chHi := 127 }
/-- R312: Standing class. -/
def VAT_C_STD_CLASS : Fld := { id := 556, page := .VAT, kind := .win, off := 0x400, lo := 12, w := 2, ty := .rw, attr := .prv, chLo := 0, chHi := 127 }
/-- R312: Standing class charged to the line allotment. -/
def VAT_C_LINE : Fld := { id := 557, page := .VAT, kind := .win, off := 0x400, lo := 14, w := 1, ty := .rw, attr := .prv, chLo := 0, chHi := 127 }
/-- R312: Entry launched by GO. -/
def VAT_C_HOST_KSLOT : Fld := { id := 558, page := .VAT, kind := .win, off := 0x400, lo := 16, w := 6, ty := .rw, attr := .prv, chLo := 0, chHi := 127 }
/-- R312: Bit u: unit u enabled; cleared by hardware under R300. -/
def VAT_C_UNIT_EN : Fld := { id := 559, page := .VAT, kind := .win, off := 0x404, w := 16, ty := .rwh, reset := 0xFFFF, attr := .prv, chLo := 0, chHi := 127 }
/-- R312: Program counter. -/
def VAT_C_PC : Fld := { id := 560, page := .VAT, kind := .win, off := 0x408, w := 13, chLo := 0, chHi := 127 }
/-- R312: Entry last started. -/
def VAT_C_KSLOT : Fld := { id := 561, page := .VAT, kind := .win, off := 0x408, lo := 16, w := 6, chLo := 0, chHi := 127 }
/-- R312: Low 32 bits of the LT of the last start. -/
def VAT_C_LAST_START : Fld := { id := 562, page := .VAT, kind := .win, off := 0x40C, chLo := 0, chHi := 127 }
/-- R312: Cycles of the last run. -/
def VAT_C_LAST_CYCLES : Fld := { id := 563, page := .VAT, kind := .win, off := 0x410, chLo := 0, chHi := 127 }
/-- R312: Address recorded at the last sampling interrupt. -/
def VAT_C_SAMPLE_PC : Fld := { id := 564, page := .VAT, kind := .win, off := 0x414, w := 13, chLo := 0, chHi := 127 }
/-- R312: Starts on this cluster. -/
def VAT_C_LAUNCHES : Fld := { id := 565, page := .VAT, kind := .win, off := 0x418, ty := .cnt, chLo := 0, chHi := 127 }
/-- R312: Launches not started under R306. -/
def VAT_C_LAUNCH_BUSY : Fld := { id := 566, page := .VAT, kind := .win, off := 0x41C, ty := .cnt, chLo := 0, chHi := 127 }
/-- R312: Source of TIp, p = 0–3, under R301. -/
def VAT_C_TI_TSRC : Fld := { id := 567, page := .VAT, kind := .win, off := 0x440, stride := 8, cnt := 4, w := 4, ty := .rwb, attr := .prv, apply := .frame, chLo := 0, chHi := 127 }
/-- R312: 0 A, 1 B, 2 U; 3 is reserved. -/
def VAT_C_TI_SIDE : Fld := { id := 568, page := .VAT, kind := .win, off := 0x440, stride := 8, cnt := 4, lo := 4, w := 2, ty := .rwb, attr := .prv, apply := .frame, chLo := 0, chHi := 127 }
/-- R312: Decimation 2^DEC. -/
def VAT_C_TI_DEC : Fld := { id := 569, page := .VAT, kind := .win, off := 0x440, stride := 8, cnt := 4, lo := 6, w := 4, ty := .rwb, attr := .prv, apply := .frame, chLo := 0, chHi := 127 }
/-- R312: First slot captured, 0–124. -/
def VAT_C_TI_OFS : Fld := { id := 570, page := .VAT, kind := .win, off := 0x440, stride := 8, cnt := 4, lo := 16, w := 7, ty := .rwb, reset := 1, attr := .prv, apply := .frame, chLo := 0, chHi := 127 }
/-- R312: Port active. -/
def VAT_C_TI_EN : Fld := { id := 571, page := .VAT, kind := .win, off := 0x440, stride := 8, cnt := 4, lo := 31, w := 1, ty := .rwb, attr := .prv, apply := .frame, chLo := 0, chHi := 127 }
/-- R312: First Y word of buffer 0. -/
def VAT_C_TI_DST : Fld := { id := 572, page := .VAT, kind := .win, off := 0x444, stride := 8, cnt := 4, w := 12, ty := .rwb, attr := .prv, apply := .frame, chLo := 0, chHi := 127 }
/-- R312: Words per block, 64–2,048. -/
def VAT_C_TI_BLK : Fld := { id := 573, page := .VAT, kind := .win, off := 0x444, stride := 8, cnt := 4, lo := 12, w := 12, ty := .rwb, reset := 64, attr := .prv, apply := .frame, chLo := 0, chHi := 127 }
/-- R312: Destination of TOt, t = 0–1, under R303. -/
def VAT_C_TO_DEST : Fld := { id := 574, page := .VAT, kind := .win, off := 0x460, stride := 4, cnt := 2, w := 4, ty := .rwb, attr := .prv, apply := .frame, chLo := 0, chHi := 127 }
/-- R312: 0 A, 1 B, 2 U; 3 is reserved. -/
def VAT_C_TO_SIDE : Fld := { id := 575, page := .VAT, kind := .win, off := 0x460, stride := 4, cnt := 2, lo := 4, w := 2, ty := .rwb, attr := .prv, apply := .frame, chLo := 0, chHi := 127 }
/-- R312: Port active. -/
def VAT_C_TO_EN : Fld := { id := 576, page := .VAT, kind := .win, off := 0x460, stride := 4, cnt := 2, lo := 31, w := 1, ty := .rwb, attr := .prv, apply := .frame, chLo := 0, chHi := 127 }

/-- Part 0 of the fields of VAT. -/
def fieldsVAT0 : List Fld := [VAT_REGION_EN, VAT_RETAIN, VAT_DQUAD, VAT_SWAP_NOTREADY, VAT_LEAVE_REFUSED, VAT_NO_KERNEL, VAT_PORT_DENIED, VAT_OVERRUNS, VAT_HOST_WR_BUSY, VAT_K_ENTRY, VAT_K_PCLASS, VAT_K_IRQ, VAT_K_VALID, VAT_K_CMASK0, VAT_K_CMASK1, VAT_K_CMASK2, VAT_K_CMASK3, VAT_K_KARG, VAT_K_MAXRUN, VAT_C_CSTATE]
/-- Part 1 of the fields of VAT. -/
def fieldsVAT1 : List Fld := [VAT_C_GO, VAT_C_STOP, VAT_C_STD_CLASS, VAT_C_LINE, VAT_C_HOST_KSLOT, VAT_C_UNIT_EN, VAT_C_PC, VAT_C_KSLOT, VAT_C_LAST_START, VAT_C_LAST_CYCLES, VAT_C_SAMPLE_PC, VAT_C_LAUNCHES, VAT_C_LAUNCH_BUSY, VAT_C_TI_TSRC, VAT_C_TI_SIDE, VAT_C_TI_DEC, VAT_C_TI_OFS, VAT_C_TI_EN, VAT_C_TI_DST, VAT_C_TI_BLK]
/-- Part 2 of the fields of VAT. -/
def fieldsVAT2 : List Fld := [VAT_C_TO_DEST, VAT_C_TO_SIDE, VAT_C_TO_EN]
/-- The fields of VAT. -/
def fieldsVAT : List Fld := fieldsVAT0 ++ fieldsVAT1 ++ fieldsVAT2

/-- R351: Vector within the function. -/
def PCI_IR_VECTOR : Fld := { id := 597, page := .PCI, kind := .tab, off := 0x1000, stride := 4, cnt := 64, w := 7, ty := .rw, rsel := .irVector, attr := .prv }
/-- R351: 0 PF0, 1 PF1, 2–16 VF1–VF15. -/
def PCI_IR_FUNC : Fld := { id := 598, page := .PCI, kind := .tab, off := 0x1000, stride := 4, cnt := 64, lo := 8, w := 5, ty := .rw, rsel := .irFunc, attr := .prv }
/-- R351: Route the source; 0 drops its messages. -/
def PCI_IR_EN : Fld := { id := 599, page := .PCI, kind := .tab, off := 0x1000, stride := 4, cnt := 64, lo := 31, w := 1, ty := .rw, reset := 1, attr := .prv }
/-- R355: 1–4: 2.5, 5.0, 8.0, 16.0 GT/s; 0 link down. -/
def PCI_LINK_SPEED : Fld := { id := 600, page := .PCI, off := 0x100, w := 4 }
/-- R355: 1, 2 or 4 lanes. -/
def PCI_LINK_WIDTH : Fld := { id := 601, page := .PCI, off := 0x100, lo := 4, w := 3 }
/-- R355: Data link layer active. -/
def PCI_LINK_UP : Fld := { id := 602, page := .PCI, off := 0x100, lo := 7, w := 1 }
/-- R355: NumVFs in force. -/
def PCI_NUM_VFS : Fld := { id := 603, page := .PCI, off := 0x100, lo := 8, w := 5 }
/-- R355: PEC on the two-wire port, under R353. -/
def PCI_TW_PEC_EN : Fld := { id := 604, page := .PCI, off := 0x104, w := 1, ty := .rw, attr := .prv }
/-- R355: ADDR[2:0]. -/
def PCI_TW_ADDR : Fld := { id := 605, page := .PCI, off := 0x104, lo := 1, w := 3 }
/-- R355: Writes dropped for partial byte enables. -/
def PCI_BE_DROP : Fld := { id := 606, page := .PCI, off := 0x110, ty := .cnt }
/-- R355: Unsupported Requests, and two-wire accesses outside the map. -/
def PCI_UR_COUNT : Fld := { id := 607, page := .PCI, off := 0x114, ty := .cnt }
/-- R355: Two-wire writes dropped for a wrong PEC. -/
def PCI_TW_PEC_ERR : Fld := { id := 608, page := .PCI, off := 0x118, ty := .cnt }
/-- R355: Partial two-wire DWORDs dropped. -/
def PCI_TW_PARTIAL : Fld := { id := 609, page := .PCI, off := 0x11C, ty := .cnt }
/-- R355: Writes recorded under R349, all pages. -/
def PCI_LOCK_VIOLS : Fld := { id := 610, page := .PCI, off := 0x120, ty := .cnt }
/-- R356: Reads counted under R348. -/
def PCI_M_PRIV_READ : Fld := { id := 611, page := .PCI, kind := .win, off := 0x400, ty := .cnt, chLo := 0, chHi := 33 }
/-- R356: Writes counted under R348. -/
def PCI_M_PRIV_WRITE : Fld := { id := 612, page := .PCI, kind := .win, off := 0x404, ty := .cnt, chLo := 0, chHi := 33 }
/-- R356: Register accesses served, low half; the read latches the high half for this master. -/
def PCI_M_ACCESSES_LO : Fld := { id := 613, page := .PCI, kind := .win, off := 0x408, ty := .cnt, chLo := 0, chHi := 33 }
/-- R356: High half. -/
def PCI_M_ACCESSES_HI : Fld := { id := 614, page := .PCI, kind := .win, off := 0x40C, ty := .cnt, chLo := 0, chHi := 33 }

/-- Part 0 of the fields of PCI. -/
def fieldsPCI0 : List Fld := [PCI_IR_VECTOR, PCI_IR_FUNC, PCI_IR_EN, PCI_LINK_SPEED, PCI_LINK_WIDTH, PCI_LINK_UP, PCI_NUM_VFS, PCI_TW_PEC_EN, PCI_TW_ADDR, PCI_BE_DROP, PCI_UR_COUNT, PCI_TW_PEC_ERR, PCI_TW_PARTIAL, PCI_LOCK_VIOLS, PCI_M_PRIV_READ, PCI_M_PRIV_WRITE, PCI_M_ACCESSES_LO, PCI_M_ACCESSES_HI]
/-- The fields of PCI. -/
def fieldsPCI : List Fld := fieldsPCI0

/-- R371: Write 1 to run; cleared at a halt. -/
def DMA_CH_RUN : Fld := { id := 615, page := .DMA, kind := .win, off := 0x400, w := 1, ty := .rwh, chLo := 0, chHi := 15 }
/-- R371: Write 1 to stop under R367. -/
def DMA_CH_STOP : Fld := { id := 616, page := .DMA, kind := .win, off := 0x400, lo := 1, w := 1, ty := .wo, chLo := 0, chHi := 15 }
/-- R371: Retry limit, 0–7. -/
def DMA_CH_RETRY : Fld := { id := 617, page := .DMA, kind := .win, off := 0x400, lo := 2, w := 3, ty := .rw, reset := 3, chLo := 0, chHi := 15 }
/-- R371: Under R358; 17–31 are reserved. -/
def DMA_CH_OWNER : Fld := { id := 618, page := .DMA, kind := .win, off := 0x400, lo := 5, w := 5, ty := .rw, attr := .prv, chLo := 0, chHi := 15 }
/-- R371: Under R366. -/
def DMA_CH_HALT_CAUSE : Fld := { id := 619, page := .DMA, kind := .win, off := 0x400, lo := 10, w := 3, chLo := 0, chHi := 15 }
/-- R371: Beats outstanding or a descriptor in progress. -/
def DMA_CH_BUSY : Fld := { id := 620, page := .DMA, kind := .win, off := 0x400, lo := 13, w := 1, chLo := 0, chHi := 15 }
/-- R371: [5:0] reserved. -/
def DMA_CH_RING_BASE_LO : Fld := { id := 621, page := .DMA, kind := .win, off := 0x404, ty := .rw, chLo := 0, chHi := 15 }
/-- R371: —. -/
def DMA_CH_RING_BASE_HI : Fld := { id := 622, page := .DMA, kind := .win, off := 0x408, ty := .rw, chLo := 0, chHi := 15 }
/-- R371: Entries; 0 and 1 are reserved. -/
def DMA_CH_RING_SIZE : Fld := { id := 623, page := .DMA, kind := .win, off := 0x40C, w := 16, ty := .rw, reset := 2, chLo := 0, chHi := 15 }
/-- R371: Posting index. -/
def DMA_CH_TAIL : Fld := { id := 624, page := .DMA, kind := .win, off := 0x410, w := 16, ty := .rw, chLo := 0, chHi := 15 }
/-- R371: Oldest incomplete descriptor; writable under R366. -/
def DMA_CH_HEAD : Fld := { id := 625, page := .DMA, kind := .win, off := 0x414, w := 16, ty := .rwh, chLo := 0, chHi := 15 }
/-- R371: Beats not yet issued. -/
def DMA_CH_REMAIN : Fld := { id := 626, page := .DMA, kind := .win, off := 0x418, w := 26, chLo := 0, chHi := 15 }
/-- R371: Beats awaiting an answer, 0–32. -/
def DMA_CH_OUTSTANDING : Fld := { id := 627, page := .DMA, kind := .win, off := 0x41C, w := 6, chLo := 0, chHi := 15 }
/-- R371: Descriptors completed. -/
def DMA_CH_DESCS : Fld := { id := 628, page := .DMA, kind := .win, off := 0x420, ty := .cnt, chLo := 0, chHi := 15 }
/-- R371: Beat and fetch reissues. -/
def DMA_CH_RETRIES : Fld := { id := 629, page := .DMA, kind := .win, off := 0x424, ty := .cnt, chLo := 0, chHi := 15 }
/-- R371: [0] DONE, [1] HALT; raises interrupt source 40 + n. -/
def DMA_CH_CH_INT : Fld := { id := 630, page := .DMA, kind := .win, off := 0x428, w := 2, ty := .w1c, chLo := 0, chHi := 15 }
/-- R371: Same layout. -/
def DMA_CH_CH_INT_EN : Fld := { id := 631, page := .DMA, kind := .win, off := 0x42C, w := 2, ty := .rw, chLo := 0, chHi := 15 }
/-- R371: Receive ring; [5:0] of the low word reserved. -/
def DMA_RS_RX_BASE_LO : Fld := { id := 632, page := .DMA, kind := .win, off := 0x400, ty := .rw, chLo := 16, chHi := 31 }
/-- R371: Receive ring; [5:0] of the low word reserved. -/
def DMA_RS_RX_BASE_HI : Fld := { id := 633, page := .DMA, kind := .win, off := 0x404, ty := .rw, chLo := 16, chHi := 31 }
/-- R371: Entries, 2–4,096. -/
def DMA_RS_RX_SIZE : Fld := { id := 634, page := .DMA, kind := .win, off := 0x408, w := 13, ty := .rw, reset := 2, chLo := 16, chHi := 31 }
/-- R371: Deliver frames. -/
def DMA_RS_RX_EN : Fld := { id := 635, page := .DMA, kind := .win, off := 0x408, lo := 31, w := 1, ty := .rw, chLo := 16, chHi := 31 }
/-- R371: Posting index. -/
def DMA_RS_RX_TAIL : Fld := { id := 636, page := .DMA, kind := .win, off := 0x40C, w := 12, ty := .rw, chLo := 16, chHi := 31 }
/-- R371: Next entry to fill. -/
def DMA_RS_RX_HEAD : Fld := { id := 637, page := .DMA, kind := .win, off := 0x410, w := 12, chLo := 16, chHi := 31 }
/-- R371: Injection ring. -/
def DMA_RS_TX_BASE_LO : Fld := { id := 638, page := .DMA, kind := .win, off := 0x414, ty := .rw, chLo := 16, chHi := 31 }
/-- R371: Injection ring. -/
def DMA_RS_TX_BASE_HI : Fld := { id := 639, page := .DMA, kind := .win, off := 0x418, ty := .rw, chLo := 16, chHi := 31 }
/-- R371: Entries, 2–4,096. -/
def DMA_RS_TX_SIZE : Fld := { id := 640, page := .DMA, kind := .win, off := 0x41C, w := 13, ty := .rw, reset := 2, chLo := 16, chHi := 31 }
/-- R371: Take injections. -/
def DMA_RS_TX_EN : Fld := { id := 641, page := .DMA, kind := .win, off := 0x41C, lo := 31, w := 1, ty := .rw, chLo := 16, chHi := 31 }
/-- R371: Posting index. -/
def DMA_RS_TX_TAIL : Fld := { id := 642, page := .DMA, kind := .win, off := 0x420, w := 12, ty := .rw, chLo := 16, chHi := 31 }
/-- R371: Next entry to take. -/
def DMA_RS_TX_HEAD : Fld := { id := 643, page := .DMA, kind := .win, off := 0x424, w := 12, chLo := 16, chHi := 31 }
/-- R371: TARGET CLASSIFY allowed. -/
def DMA_RS_INJ_CLASSIFY : Fld := { id := 644, page := .DMA, kind := .win, off := 0x428, w := 1, ty := .rw, reset := 1, attr := .prv, chLo := 16, chHi := 31 }
/-- R371: TARGET UQ and EQ allowed. -/
def DMA_RS_INJ_DIRECT : Fld := { id := 645, page := .DMA, kind := .win, off := 0x428, lo := 1, w := 1, ty := .rw, attr := .prv, chLo := 16, chHi := 31 }
/-- R371: Frames delivered. -/
def DMA_RS_RX_FRAMES : Fld := { id := 646, page := .DMA, kind := .win, off := 0x42C, ty := .cnt, chLo := 16, chHi := 31 }
/-- R371: Injections SENT. -/
def DMA_RS_TX_FRAMES : Fld := { id := 647, page := .DMA, kind := .win, off := 0x430, ty := .cnt, chLo := 16, chHi := 31 }
/-- R371: Injections not SENT. -/
def DMA_RS_TX_REFUSED : Fld := { id := 648, page := .DMA, kind := .win, off := 0x434, ty := .cnt, chLo := 16, chHi := 31 }
/-- R371: [0] RX, [1] TX, [2] TX_ERR. -/
def DMA_RS_RS_INT : Fld := { id := 649, page := .DMA, kind := .win, off := 0x438, w := 3, ty := .w1c, chLo := 16, chHi := 31 }
/-- R371: Same layout. -/
def DMA_RS_RS_INT_EN : Fld := { id := 650, page := .DMA, kind := .win, off := 0x43C, w := 3, ty := .rw, chLo := 16, chHi := 31 }
/-- R371: bit n: DCn BUSY. -/
def DMA_BUSY_MAP : Fld := { id := 855, page := .DMA, off := 0x100, w := 16 }

/-- Part 0 of the fields of DMA. -/
def fieldsDMA0 : List Fld := [DMA_CH_RUN, DMA_CH_STOP, DMA_CH_RETRY, DMA_CH_OWNER, DMA_CH_HALT_CAUSE, DMA_CH_BUSY, DMA_CH_RING_BASE_LO, DMA_CH_RING_BASE_HI, DMA_CH_RING_SIZE, DMA_CH_TAIL, DMA_CH_HEAD, DMA_CH_REMAIN, DMA_CH_OUTSTANDING, DMA_CH_DESCS, DMA_CH_RETRIES, DMA_CH_CH_INT, DMA_CH_CH_INT_EN, DMA_RS_RX_BASE_LO, DMA_RS_RX_BASE_HI, DMA_RS_RX_SIZE]
/-- Part 1 of the fields of DMA. -/
def fieldsDMA1 : List Fld := [DMA_RS_RX_EN, DMA_RS_RX_TAIL, DMA_RS_RX_HEAD, DMA_RS_TX_BASE_LO, DMA_RS_TX_BASE_HI, DMA_RS_TX_SIZE, DMA_RS_TX_EN, DMA_RS_TX_TAIL, DMA_RS_TX_HEAD, DMA_RS_INJ_CLASSIFY, DMA_RS_INJ_DIRECT, DMA_RS_RX_FRAMES, DMA_RS_TX_FRAMES, DMA_RS_TX_REFUSED, DMA_RS_RS_INT, DMA_RS_RS_INT_EN, DMA_BUSY_MAP]
/-- The fields of DMA. -/
def fieldsDMA : List Fld := fieldsDMA0 ++ fieldsDMA1

/-- R395: Signed SREF offset, 0.1 ppm. -/
def SER_REF_PPM : Fld := { id := 651, page := .SER, off := 0x100, w := 16 }
/-- R395: Under R374. -/
def SER_REF_BAD : Fld := { id := 652, page := .SER, off := 0x100, lo := 16, w := 1 }
/-- R395: Client retrains refused leave. -/
def SER_RT_REFUSED : Fld := { id := 653, page := .SER, off := 0x104, ty := .cnt }
/-- R396: Transmitter asleep, under R378. -/
def SER_L_TX_SLEEP : Fld := { id := 654, page := .SER, kind := .win, off := 0x400, w := 1, ty := .rw, attr := .prv, chLo := 0, chHi := 23 }
/-- R396: Receiver asleep. -/
def SER_L_RX_SLEEP : Fld := { id := 655, page := .SER, kind := .win, off := 0x400, lo := 1, w := 1, ty := .rw, attr := .prv, chLo := 0, chHi := 23 }
/-- R396: Invert transmit polarity. -/
def SER_L_TX_INV : Fld := { id := 656, page := .SER, kind := .win, off := 0x400, lo := 2, w := 1, ty := .rw, attr := .prv, chLo := 0, chHi := 23 }
/-- R396: Invert receive polarity. -/
def SER_L_RX_INV : Fld := { id := 657, page := .SER, kind := .win, off := 0x400, lo := 3, w := 1, ty := .rw, attr := .prv, chLo := 0, chHi := 23 }
/-- R396: Transmitter powered. -/
def SER_L_TX_AWAKE : Fld := { id := 658, page := .SER, kind := .win, off := 0x400, lo := 4, w := 1, chLo := 0, chHi := 23 }
/-- R396: Receiver powered. -/
def SER_L_RX_AWAKE : Fld := { id := 659, page := .SER, kind := .win, off := 0x400, lo := 5, w := 1, chLo := 0, chHi := 23 }
/-- R396: Signal present. -/
def SER_L_SIG_DET : Fld := { id := 660, page := .SER, kind := .win, off := 0x400, lo := 6, w := 1, chLo := 0, chHi := 23 }
/-- R396: Under R377. -/
def SER_L_ADAPT_STATE : Fld := { id := 661, page := .SER, kind := .win, off := 0x400, lo := 8, w := 3, chLo := 0, chHi := 23 }
/-- R396: Write 1 to retrain. -/
def SER_L_RETRAIN : Fld := { id := 662, page := .SER, kind := .win, off := 0x400, lo := 11, w := 1, ty := .wo, attr := .prv, chLo := 0, chHi := 23 }
/-- R396: Hold the adaptation. -/
def SER_L_RX_FREEZE : Fld := { id := 663, page := .SER, kind := .win, off := 0x400, lo := 12, w := 1, ty := .rw, attr := .prv, chLo := 0, chHi := 23 }
/-- R396: Signed pre-cursor, under R375. -/
def SER_L_PRE : Fld := { id := 664, page := .SER, kind := .win, off := 0x404, w := 6, ty := .rw, attr := .prv, chLo := 0, chHi := 23 }
/-- R396: Signed post-cursor. -/
def SER_L_POST : Fld := { id := 665, page := .SER, kind := .win, off := 0x404, lo := 8, w := 6, ty := .rw, attr := .prv, chLo := 0, chHi := 23 }
/-- R396: Amplitude code. -/
def SER_L_AMP : Fld := { id := 666, page := .SER, kind := .win, off := 0x404, lo := 16, w := 4, ty := .rw, reset := 8, attr := .prv, chLo := 0, chHi := 23 }
/-- R396: Main tap. -/
def SER_L_MAIN : Fld := { id := 667, page := .SER, kind := .win, off := 0x404, lo := 24, w := 7, reset := 64, chLo := 0, chHi := 23 }
/-- R396: Receive SNR, 0.1 dB. -/
def SER_L_RX_SNR : Fld := { id := 668, page := .SER, kind := .win, off := 0x408, w := 16, chLo := 0, chHi := 23 }
/-- R396: CTLE setting, dB. -/
def SER_L_CTLE : Fld := { id := 669, page := .SER, kind := .win, off := 0x408, lo := 16, w := 5, chLo := 0, chHi := 23 }
/-- R396: Retrain threshold, 0.1 dB; 0 never retrains on SNR. -/
def SER_L_RETRAIN_SNR : Fld := { id := 670, page := .SER, kind := .win, off := 0x40C, w := 16, ty := .rw, reset := 170, attr := .prv, chLo := 0, chHi := 23 }
/-- R396: Generator, under R379. -/
def SER_L_GEN_MODE : Fld := { id := 671, page := .SER, kind := .win, off := 0x410, w := 3, ty := .rw, attr := .prv, chLo := 0, chHi := 23 }
/-- R396: Checker. -/
def SER_L_CHK_MODE : Fld := { id := 672, page := .SER, kind := .win, off := 0x410, lo := 4, w := 3, ty := .rw, attr := .prv, chLo := 0, chHi := 23 }
/-- R396: Checker locked. -/
def SER_L_CHK_LOCK : Fld := { id := 673, page := .SER, kind := .win, off := 0x410, lo := 8, w := 1, chLo := 0, chHi := 23 }
/-- R396: Inject one error. -/
def SER_L_INJ_GO : Fld := { id := 674, page := .SER, kind := .win, off := 0x410, lo := 9, w := 1, ty := .wo, attr := .prv, chLo := 0, chHi := 23 }
/-- R396: Injection rate, under R381. -/
def SER_L_INJ_RATE : Fld := { id := 675, page := .SER, kind := .win, off := 0x410, lo := 10, w := 5, ty := .rw, attr := .prv, chLo := 0, chHi := 23 }
/-- R396: An INJ_GO was ignored. -/
def SER_L_INJ_IGN : Fld := { id := 676, page := .SER, kind := .win, off := 0x410, lo := 15, w := 1, ty := .w1c, chLo := 0, chHi := 23 }
/-- R396: USER pattern bits [31:0]. -/
def SER_L_GEN_USER_LO : Fld := { id := 677, page := .SER, kind := .win, off := 0x414, ty := .rw, attr := .prv, chLo := 0, chHi := 23 }
/-- R396: USER pattern bits [63:32]. -/
def SER_L_GEN_USER_HI : Fld := { id := 678, page := .SER, kind := .win, off := 0x418, ty := .rw, attr := .prv, chLo := 0, chHi := 23 }
/-- R396: Bits checked, low half; the read latches the high half for this master. -/
def SER_L_BITS_LO : Fld := { id := 679, page := .SER, kind := .win, off := 0x420, ty := .cnt, chLo := 0, chHi := 23 }
/-- R396: High half. -/
def SER_L_BITS_HI : Fld := { id := 680, page := .SER, kind := .win, off := 0x424, ty := .cnt, chLo := 0, chHi := 23 }
/-- R396: Bit errors, low half; the read latches the high half. -/
def SER_L_ERR_LO : Fld := { id := 681, page := .SER, kind := .win, off := 0x428, ty := .cnt, chLo := 0, chHi := 23 }
/-- R396: High half. -/
def SER_L_ERR_HI : Fld := { id := 682, page := .SER, kind := .win, off := 0x42C, ty := .cnt, chLo := 0, chHi := 23 }
/-- R396: Losses of checker lock. -/
def SER_L_CHK_UNLOCKS : Fld := { id := 683, page := .SER, kind := .win, off := 0x430, ty := .cnt, chLo := 0, chHi := 23 }
/-- R396: Retrains completed. -/
def SER_L_RETRAINS : Fld := { id := 684, page := .SER, kind := .win, off := 0x434, ty := .cnt, chLo := 0, chHi := 23 }

/-- Part 0 of the fields of SER. -/
def fieldsSER0 : List Fld := [SER_REF_PPM, SER_REF_BAD, SER_RT_REFUSED, SER_L_TX_SLEEP, SER_L_RX_SLEEP, SER_L_TX_INV, SER_L_RX_INV, SER_L_TX_AWAKE, SER_L_RX_AWAKE, SER_L_SIG_DET, SER_L_ADAPT_STATE, SER_L_RETRAIN, SER_L_RX_FREEZE, SER_L_PRE, SER_L_POST, SER_L_AMP, SER_L_MAIN, SER_L_RX_SNR, SER_L_CTLE, SER_L_RETRAIN_SNR]
/-- Part 1 of the fields of SER. -/
def fieldsSER1 : List Fld := [SER_L_GEN_MODE, SER_L_CHK_MODE, SER_L_CHK_LOCK, SER_L_INJ_GO, SER_L_INJ_RATE, SER_L_INJ_IGN, SER_L_GEN_USER_LO, SER_L_GEN_USER_HI, SER_L_BITS_LO, SER_L_BITS_HI, SER_L_ERR_LO, SER_L_ERR_HI, SER_L_CHK_UNLOCKS, SER_L_RETRAINS]
/-- The fields of SER. -/
def fieldsSER : List Fld := fieldsSER0 ++ fieldsSER1

/-- R398: Under R382. -/
def FKL_ROLE : Fld := { id := 685, page := .FKL, off := 0x100, w := 2, ty := .rwb, attr := .prv, apply := .frame }
/-- R398: Member number. -/
def FKL_MEM_ID : Fld := { id := 686, page := .FKL, off := 0x100, lo := 4, w := 3, ty := .rwb, attr := .prv, apply := .frame }
/-- R398: Port FK0 enabled. -/
def FKL_FK0_EN : Fld := { id := 687, page := .FKL, off := 0x100, lo := 8, w := 1, ty := .rw, attr := .prv }
/-- R398: Port FK1 enabled. -/
def FKL_FK1_EN : Fld := { id := 688, page := .FKL, off := 0x100, lo := 9, w := 1, ty := .rw, attr := .prv }
/-- R398: Under R393. -/
def FKL_MASTER_LOST : Fld := { id := 689, page := .FKL, off := 0x100, lo := 12, w := 1 }
/-- R398: Two masters heard. -/
def FKL_MASTER_CONFLICT : Fld := { id := 690, page := .FKL, off := 0x100, lo := 13, w := 1 }
/-- R398: Every link of the ring is UP. -/
def FKL_RING_CLOSED : Fld := { id := 691, page := .FKL, off := 0x100, lo := 14, w := 1 }
/-- R398: Send MBOX_TX in the next MGMT cells; cleared when sent. -/
def FKL_MBOX_GO : Fld := { id := 692, page := .FKL, off := 0x100, lo := 16, w := 1, ty := .rwh, attr := .prv }
/-- R398: 0 FK0, 1 FK1. -/
def FKL_LT_SRC_PORT : Fld := { id := 693, page := .FKL, off := 0x104, w := 1 }
/-- R398: Hops to the master. -/
def FKL_LT_HOPS : Fld := { id := 694, page := .FKL, off := 0x104, lo := 4, w := 4 }
/-- R398: Relay source of R390. -/
def FKL_CTRL_SRC : Fld := { id := 695, page := .FKL, off := 0x104, lo := 8, w := 3 }
/-- R398: A relay source is in use. -/
def FKL_CTRL_VALID : Fld := { id := 696, page := .FKL, off := 0x104, lo := 11, w := 1 }
/-- R398: Signed last offset, ticks. -/
def FKL_LT_OFFSET : Fld := { id := 697, page := .FKL, off := 0x108 }
/-- R398: Bit m: member m reachable. -/
def FKL_REACH : Fld := { id := 698, page := .FKL, off := 0x10C, w := 8 }
/-- R398: Bit m: member m reports RX_OK. -/
def FKL_RX_OK_MAP : Fld := { id := 699, page := .FKL, off := 0x10C, lo := 8, w := 8 }
/-- R398: COUNT of the STACK_MAP in force. -/
def FKL_MAP_COUNT : Fld := { id := 700, page := .FKL, off := 0x10C, lo := 16, w := 4 }
/-- R398: Member m, m = 0–7: [17:0] TID, [30] RX_OWN, [31] VALID. -/
def FKL_MAP_ENTRY : Fld := { id := 701, page := .FKL, off := 0x110, stride := 4, cnt := 8 }
/-- R398: Units discarded, buffer full. -/
def FKL_FWD_DROP : Fld := { id := 702, page := .FKL, off := 0x140, ty := .cnt }
/-- R398: Units for unreachable members. -/
def FKL_FWD_UNREACH : Fld := { id := 703, page := .FKL, off := 0x144, ty := .cnt }
/-- R398: Cells dropped at HOPS 7. -/
def FKL_HOP_DROP : Fld := { id := 704, page := .FKL, off := 0x148, ty := .cnt }
/-- R398: LT cells from a second master. -/
def FKL_LT_FOREIGN : Fld := { id := 705, page := .FKL, off := 0x14C, ty := .cnt }
/-- R398: MASTER_LOST declarations. -/
def FKL_MASTER_LOSSES : Fld := { id := 706, page := .FKL, off := 0x150, ty := .cnt }
/-- R398: 16 words; byte 0 in [31:24] of 0x180. -/
def FKL_MBOX_TX : Fld := { id := 707, page := .FKL, off := 0x180, stride := 4, cnt := 16, ty := .rw, attr := .prv }
/-- R398: 16 words, same order; [2:0] of 0x1FC names the sender. -/
def FKL_MBOX_RX : Fld := { id := 708, page := .FKL, off := 0x1C0, stride := 4, cnt := 16 }
/-- R399: Under R392. -/
def FKL_K_PSTATE : Fld := { id := 709, page := .FKL, kind := .win, off := 0x400, w := 2, chLo := 0, chHi := 1 }
/-- R399: Neighbour's MEM_ID. -/
def FKL_K_NBR_MEM : Fld := { id := 710, page := .FKL, kind := .win, off := 0x400, lo := 4, w := 3, chLo := 0, chHi := 1 }
/-- R399: Mean one-way delay, ticks. -/
def FKL_K_CABLE : Fld := { id := 711, page := .FKL, kind := .win, off := 0x404, chLo := 0, chHi := 1 }
/-- R399: Signed cable asymmetry, ticks. -/
def FKL_K_FK_ASYM : Fld := { id := 712, page := .FKL, kind := .win, off := 0x408, ty := .rwb, attr := .prv, apply := .frame, chLo := 0, chHi := 1 }
/-- R399: Cells dropped for CRC or reserved CTYPE. -/
def FKL_K_CELL_CRC : Fld := { id := 713, page := .FKL, kind := .win, off := 0x40C, ty := .cnt, chLo := 0, chHi := 1 }
/-- R399: Cells received, low half; the read latches the high half for this master. -/
def FKL_K_CELLS_LO : Fld := { id := 714, page := .FKL, kind := .win, off := 0x410, ty := .cnt, chLo := 0, chHi := 1 }
/-- R399: High half. -/
def FKL_K_CELLS_HI : Fld := { id := 715, page := .FKL, kind := .win, off := 0x414, ty := .cnt, chLo := 0, chHi := 1 }
/-- R399: Departures from UP. -/
def FKL_K_PORT_DOWNS : Fld := { id := 716, page := .FKL, kind := .win, off := 0x418, ty := .cnt, chLo := 0, chHi := 1 }
/-- R399: Units and blocks lost for a missing cell. -/
def FKL_K_UNIT_ERR : Fld := { id := 717, page := .FKL, kind := .win, off := 0x41C, ty := .cnt, chLo := 0, chHi := 1 }
/-- R398: group route DST_MEM of CG n. -/
def FKL_GRT_DST : Fld := { id := 861, page := .FKL, kind := .tab, off := 0x1000, stride := 4, cnt := 256, w := 3, ty := .rw, attr := .prv }
/-- R398: group route EN. -/
def FKL_GRT_EN : Fld := { id := 862, page := .FKL, kind := .tab, off := 0x1000, stride := 4, cnt := 256, lo := 31, w := 1, ty := .rw, attr := .prv }

/-- Part 0 of the fields of FKL. -/
def fieldsFKL0 : List Fld := [FKL_ROLE, FKL_MEM_ID, FKL_FK0_EN, FKL_FK1_EN, FKL_MASTER_LOST, FKL_MASTER_CONFLICT, FKL_RING_CLOSED, FKL_MBOX_GO, FKL_LT_SRC_PORT, FKL_LT_HOPS, FKL_CTRL_SRC, FKL_CTRL_VALID, FKL_LT_OFFSET, FKL_REACH, FKL_RX_OK_MAP, FKL_MAP_COUNT, FKL_MAP_ENTRY, FKL_FWD_DROP, FKL_FWD_UNREACH, FKL_HOP_DROP]
/-- Part 1 of the fields of FKL. -/
def fieldsFKL1 : List Fld := [FKL_LT_FOREIGN, FKL_MASTER_LOSSES, FKL_MBOX_TX, FKL_MBOX_RX, FKL_K_PSTATE, FKL_K_NBR_MEM, FKL_K_CABLE, FKL_K_FK_ASYM, FKL_K_CELL_CRC, FKL_K_CELLS_LO, FKL_K_CELLS_HI, FKL_K_PORT_DOWNS, FKL_K_UNIT_ERR, FKL_GRT_DST, FKL_GRT_EN]
/-- The fields of FKL. -/
def fieldsFKL : List Fld := fieldsFKL0 ++ fieldsFKL1

/-- R418: Mode in force: 0 RESET, 1 BOOT, 2 LISTEN, 3 JOIN, 4 SERVICE, 5 GRAZE, 6 STABLE, 7 FACTORY. -/
def PWR_MODE : Fld := { id := 718, page := .PWR, off := 0x100, w := 3 }
/-- R418: A transition is in progress. -/
def PWR_IN_TRANSIT : Fld := { id := 719, page := .PWR, off := 0x100, lo := 3, w := 1 }
/-- R418: Request under R401; cleared when taken or refused. -/
def PWR_MODE_REQ : Fld := { id := 720, page := .PWR, off := 0x100, lo := 4, w := 3, ty := .rwh, attr := .prv }
/-- R418: A request was refused. -/
def PWR_REQ_REFUSED : Fld := { id := 721, page := .PWR, off := 0x100, lo := 7, w := 1, ty := .w1c }
/-- R418: [0] SD, [1] TONE, [2] TW. -/
def PWR_WAKE_EN : Fld := { id := 722, page := .PWR, off := 0x104, w := 3, ty := .rw, reset := 3, attr := .prv }
/-- R418: Tone frequency under R410. -/
def PWR_TONE_SEL : Fld := { id := 723, page := .PWR, off := 0x104, lo := 4, w := 2, ty := .rw, attr := .prv }
/-- R418: Causes latched during entry: [0] SD, [1] TONE, [2] TW, [3] MAP, [4] CLIENT, [5] TIMER. -/
def PWR_WAKE_LATCH : Fld := { id := 724, page := .PWR, off := 0x108, w := 6 }
/-- R418: Causes of the last exit, as WAKE_LATCH. -/
def PWR_WAKE_CAUSE : Fld := { id := 725, page := .PWR, off := 0x10C, w := 6 }
/-- R418: Exits begun directly after entry under R412. -/
def PWR_EARLY_WAKE : Fld := { id := 726, page := .PWR, off := 0x110, ty := .cnt }
/-- R418: ms allowed for LEAVE_NOTICE, 0–1,000; above 1,000 is reserved. -/
def PWR_LEAVE_WAIT : Fld := { id := 727, page := .PWR, off := 0x114, w := 16, ty := .rw, reset := 50, attr := .prv }
/-- R418: STABLE was entered. -/
def PWR_STABLE_IN : Fld := { id := 728, page := .PWR, off := 0x118, w := 1, ty := .w1c }
/-- R418: N asked for in GRAZE_REQ, 1–1,024; others are reserved. -/
def PWR_GRAZE_N : Fld := { id := 729, page := .PWR, off := 0x140, w := 11, ty := .rw, reset := 125, attr := .prv }
/-- R418: Timer in multiframes; 0 none. -/
def PWR_GRAZE_TMO : Fld := { id := 730, page := .PWR, off := 0x140, lo := 16, w := 16, ty := .rw, attr := .prv }
/-- R418: N of the GRAZE in force. -/
def PWR_GRAZE_N_ACT : Fld := { id := 731, page := .PWR, off := 0x144, w := 11 }
/-- R418: POLL of the GRAZE in force. -/
def PWR_GRAZE_POLL : Fld := { id := 732, page := .PWR, off := 0x144, lo := 16, w := 11 }
/-- R418: Under R408. -/
def PWR_GRAZE_FAIL : Fld := { id := 733, page := .PWR, off := 0x144, lo := 28, w := 2 }
/-- R418: Bit n: CPn kept up under R406. -/
def PWR_CLIENT_WAKE_MASK : Fld := { id := 734, page := .PWR, off := 0x148, w := 16, ty := .rw, attr := .prv }
/-- R418: GRAZE wake windows. -/
def PWR_WAKES : Fld := { id := 735, page := .PWR, off := 0x14C, ty := .cnt }
/-- R418: Wake-map hits. -/
def PWR_MAP_HITS : Fld := { id := 736, page := .PWR, off := 0x150, ty := .cnt }
/-- R418: Wakes held awake under R43. -/
def PWR_WAKE_OVERRUN : Fld := { id := 737, page := .PWR, off := 0x154, ty := .cnt }
/-- R418: Budget, 0.1 W. -/
def PWR_PKG_BUDGET : Fld := { id := 738, page := .PWR, off := 0x160, w := 16, ty := .rw, reset := 0x92E, attr := .prv }
/-- R418: Mode base, 0.1 W. -/
def PWR_BASE : Fld := { id := 739, page := .PWR, off := 0x164, w := 16 }
/-- R418: Standing allotment, 0.1 W. -/
def PWR_ALLOT : Fld := { id := 740, page := .PWR, off := 0x164, lo := 16, w := 16 }
/-- R418: Leave granted, 0.1 W. -/
def PWR_LEAVE_HELD : Fld := { id := 741, page := .PWR, off := 0x168, w := 16 }
/-- R418: PKG_BUDGET below BASE + ALLOT. -/
def PWR_BUDGET_LOW : Fld := { id := 742, page := .PWR, off := 0x168, lo := 16, w := 1 }
/-- R419: Leave held by the class, 0.1 W. -/
def PWR_LC_HELD : Fld := { id := 743, page := .PWR, kind := .win, off := 0x400, w := 16, chLo := 0, chHi := 5 }
/-- R419: Requests granted. -/
def PWR_LC_GRANTED : Fld := { id := 744, page := .PWR, kind := .win, off := 0x404, ty := .cnt, chLo := 0, chHi := 5 }
/-- R419: Requests refused. -/
def PWR_LC_REFUSED : Fld := { id := 745, page := .PWR, kind := .win, off := 0x408, ty := .cnt, chLo := 0, chHi := 5 }
/-- R419: Grants withdrawn under R31. -/
def PWR_LC_WITHDRAWN : Fld := { id := 746, page := .PWR, kind := .win, off := 0x40C, ty := .cnt, chLo := 0, chHi := 5 }

/-- Part 0 of the fields of PWR. -/
def fieldsPWR0 : List Fld := [PWR_MODE, PWR_IN_TRANSIT, PWR_MODE_REQ, PWR_REQ_REFUSED, PWR_WAKE_EN, PWR_TONE_SEL, PWR_WAKE_LATCH, PWR_WAKE_CAUSE, PWR_EARLY_WAKE, PWR_LEAVE_WAIT, PWR_STABLE_IN, PWR_GRAZE_N, PWR_GRAZE_TMO, PWR_GRAZE_N_ACT, PWR_GRAZE_POLL, PWR_GRAZE_FAIL, PWR_CLIENT_WAKE_MASK, PWR_WAKES, PWR_MAP_HITS, PWR_WAKE_OVERRUN]
/-- Part 1 of the fields of PWR. -/
def fieldsPWR1 : List Fld := [PWR_PKG_BUDGET, PWR_BASE, PWR_ALLOT, PWR_LEAVE_HELD, PWR_BUDGET_LOW, PWR_LC_HELD, PWR_LC_GRANTED, PWR_LC_REFUSED, PWR_LC_WITHDRAWN]
/-- The fields of PWR. -/
def fieldsPWR : List Fld := fieldsPWR0 ++ fieldsPWR1

/-- R437: Safe state in force. -/
def FLT_SAFE : Fld := { id := 770, page := .FLT, off := 0x100, w := 1 }
/-- R437: Under R429. -/
def FLT_SELF_FAULT : Fld := { id := 771, page := .FLT, off := 0x100, lo := 1, w := 1 }
/-- R437: Under R427. -/
def FLT_RELEASE_SEEN : Fld := { id := 772, page := .FLT, off := 0x100, lo := 2, w := 1 }
/-- R437: ERR_N driven low. -/
def FLT_ERR_LOW : Fld := { id := 773, page := .FLT, off := 0x100, lo := 3, w := 1 }
/-- R437: Under R428. -/
def FLT_CLR_CAUSE : Fld := { id := 774, page := .FLT, off := 0x100, lo := 4, w := 3 }
/-- R437: A clear was refused. -/
def FLT_CLR_REFUSED : Fld := { id := 775, page := .FLT, off := 0x100, lo := 7, w := 1, ty := .w1c }
/-- R437: Write 1 for the privileged clear. -/
def FLT_SAFE_CLR : Fld := { id := 776, page := .FLT, off := 0x104, w := 1, ty := .wo, attr := .prv }
/-- R437: Write 1 to release ERR_N in HOLD mode. -/
def FLT_ERR_REL : Fld := { id := 777, page := .FLT, off := 0x104, lo := 1, w := 1, ty := .wo, attr := .prv }
/-- R437: Under R433. -/
def FLT_FREEZE_ALL : Fld := { id := 778, page := .FLT, off := 0x104, lo := 2, w := 1, ty := .rw, attr := .prv }
/-- R437: µs, 2–10,000. -/
def FLT_ERR_WIDTH : Fld := { id := 779, page := .FLT, off := 0x108, w := 14, ty := .rw, reset := 2, attr := .prv }
/-- R437: 0 PULSE, 1 HOLD. -/
def FLT_ERR_MODE : Fld := { id := 780, page := .FLT, off := 0x108, lo := 16, w := 1, ty := .rw, attr := .prv }
/-- R437: Corrected records pull ERR_N. -/
def FLT_ERR_CORR : Fld := { id := 781, page := .FLT, off := 0x108, lo := 17, w := 1, ty := .rw, attr := .prv }
/-- R437: THERM_WARN threshold, °C, 60–115; others are reserved. -/
def FLT_TJ_WARN : Fld := { id := 782, page := .FLT, off := 0x10C, w := 8, ty := .rw, reset := 105, attr := .prv }
/-- R437: OPEN records, 0–64. -/
def FLT_OPEN_COUNT : Fld := { id := 783, page := .FLT, off := 0x10C, lo := 16, w := 7 }
/-- R437: Records created by class. -/
def FLT_CORR_COUNT : Fld := { id := 784, page := .FLT, off := 0x110, ty := .cnt }
/-- R437: Records created by class. -/
def FLT_CONT_COUNT : Fld := { id := 785, page := .FLT, off := 0x114, ty := .cnt }
/-- R437: Records created by class. -/
def FLT_FATAL_COUNT : Fld := { id := 786, page := .FLT, off := 0x118, ty := .cnt }
/-- R437: Duplicates counted. -/
def FLT_DUP_TOTAL : Fld := { id := 787, page := .FLT, off := 0x11C, ty := .cnt }
/-- R437: Reports without a record. -/
def FLT_LOST_CORR : Fld := { id := 788, page := .FLT, off := 0x120, ty := .cnt }
/-- R437: Reports without a record. -/
def FLT_LOST_CONT : Fld := { id := 789, page := .FLT, off := 0x124, ty := .cnt }
/-- R437: Reports without a record. -/
def FLT_LOST_FATAL : Fld := { id := 790, page := .FLT, off := 0x128, ty := .cnt }
/-- R437: Bit s: sampling interrupt from interrupt source s, s = 0–31. -/
def FLT_OVF_SRC_LO : Fld := { id := 791, page := .FLT, off := 0x130, ty := .w1c }
/-- R437: Sources 32–63. -/
def FLT_OVF_SRC_HI : Fld := { id := 792, page := .FLT, off := 0x134, ty := .w1c }
/-- R437: Low 32 bits of the LT of safe-state entry. -/
def FLT_SAFE_LT : Fld := { id := 793, page := .FLT, off := 0x140 }
/-- R437: Cause that entered the safe state. -/
def FLT_SAFE_CAUSE : Fld := { id := 794, page := .FLT, off := 0x144, w := 8 }
/-- R437: FACTORY only, under R430. -/
def FLT_INJ_CAUSE : Fld := { id := 795, page := .FLT, off := 0x150, w := 8, ty := .rw, attr := .prv }
/-- R437: FACTORY only. -/
def FLT_INJ_SELF : Fld := { id := 796, page := .FLT, off := 0x150, lo := 30, w := 1, ty := .wo, attr := .prv }
/-- R437: FACTORY only. -/
def FLT_INJ_GO : Fld := { id := 797, page := .FLT, off := 0x150, lo := 31, w := 1, ty := .wo, attr := .prv }
/-- R437: Laid out as a record's SOURCE word. -/
def FLT_INJ_SOURCE : Fld := { id := 798, page := .FLT, off := 0x154, w := 24, ty := .rw, attr := .prv }
/-- R437: Duplicates injected with the report. -/
def FLT_INJ_REPEAT : Fld := { id := 799, page := .FLT, off := 0x158, w := 16, ty := .rw, attr := .prv }
/-- R438: Under R422. -/
def FLT_REC_CAUSE : Fld := { id := 800, page := .FLT, kind := .tab, off := 0x1000, stride := 16, cnt := 64, w := 8 }
/-- R438: 1 corrected, 2 contained, 3 fatal; 0 only when EMPTY. -/
def FLT_REC_CLASS : Fld := { id := 801, page := .FLT, kind := .tab, off := 0x1000, stride := 16, cnt := 64, lo := 8, w := 2 }
/-- R438: 0 unit, 1 cluster, 2 region, 3 die, 4 package, 5 system. -/
def FLT_REC_LEVEL : Fld := { id := 802, page := .FLT, kind := .tab, off := 0x1000, stride := 16, cnt := 64, lo := 10, w := 3 }
/-- R438: Injected under R430. -/
def FLT_REC_INJ : Fld := { id := 803, page := .FLT, kind := .tab, off := 0x1000, stride := 16, cnt := 64, lo := 13, w := 1 }
/-- R438: Write 1 to close; cleared when the entry is reused. -/
def FLT_REC_CLOSE : Fld := { id := 804, page := .FLT, kind := .tab, off := 0x1000, stride := 16, cnt := 64, lo := 29, w := 1, ty := .w1s, attr := .prv }
/-- R438: 0 EMPTY, 1 OPEN, 2 CLOSED; 3 does not occur. -/
def FLT_REC_RSTATE : Fld := { id := 805, page := .FLT, kind := .tab, off := 0x1000, stride := 16, cnt := 64, lo := 30, w := 2 }
/-- R438: 0–7 VR0–VR7, 8 LRX, 9 LTX, 10 LFR, 11 HCL, 12 HPK, 13 HCV, 14 HHO, 15 HFK, 16 HAO, 17 …. -/
def FLT_REC_REGION : Fld := { id := 806, page := .FLT, kind := .tab, off := 0x1004, stride := 16, cnt := 64, w := 5 }
/-- R438: Cluster or block index within the region. -/
def FLT_REC_CLUSTER : Fld := { id := 807, page := .FLT, kind := .tab, off := 0x1004, stride := 16, cnt := 64, lo := 5, w := 7 }
/-- R438: Unit within the cluster. -/
def FLT_REC_UNIT : Fld := { id := 808, page := .FLT, kind := .tab, off := 0x1004, stride := 16, cnt := 64, lo := 12, w := 4 }
/-- R438: VAT_PROG: cause of R321; DDR causes: channel; CIP_MISMATCH: pipeline, 0–39 line, 40–63 …. -/
def FLT_REC_DETAIL : Fld := { id := 809, page := .FLT, kind := .tab, off := 0x1004, stride := 16, cnt := 64, lo := 16, w := 8 }
/-- R438: Low 32 bits of the LT of the first report. -/
def FLT_REC_FIRST_LT : Fld := { id := 810, page := .FLT, kind := .tab, off := 0x1008, stride := 16, cnt := 64 }
/-- R438: Duplicates, under R423. -/
def FLT_REC_DUP : Fld := { id := 811, page := .FLT, kind := .tab, off := 0x100C, stride := 16, cnt := 64, w := 16 }

/-- Part 0 of the fields of FLT. -/
def fieldsFLT0 : List Fld := [FLT_SAFE, FLT_SELF_FAULT, FLT_RELEASE_SEEN, FLT_ERR_LOW, FLT_CLR_CAUSE, FLT_CLR_REFUSED, FLT_SAFE_CLR, FLT_ERR_REL, FLT_FREEZE_ALL, FLT_ERR_WIDTH, FLT_ERR_MODE, FLT_ERR_CORR, FLT_TJ_WARN, FLT_OPEN_COUNT, FLT_CORR_COUNT, FLT_CONT_COUNT, FLT_FATAL_COUNT, FLT_DUP_TOTAL, FLT_LOST_CORR, FLT_LOST_CONT]
/-- Part 1 of the fields of FLT. -/
def fieldsFLT1 : List Fld := [FLT_LOST_FATAL, FLT_OVF_SRC_LO, FLT_OVF_SRC_HI, FLT_SAFE_LT, FLT_SAFE_CAUSE, FLT_INJ_CAUSE, FLT_INJ_SELF, FLT_INJ_GO, FLT_INJ_SOURCE, FLT_INJ_REPEAT, FLT_REC_CAUSE, FLT_REC_CLASS, FLT_REC_LEVEL, FLT_REC_INJ, FLT_REC_CLOSE, FLT_REC_RSTATE, FLT_REC_REGION, FLT_REC_CLUSTER, FLT_REC_UNIT, FLT_REC_DETAIL]
/-- Part 2 of the fields of FLT. -/
def fieldsFLT2 : List Fld := [FLT_REC_FIRST_LT, FLT_REC_DUP]
/-- The fields of FLT. -/
def fieldsFLT : List Fld := fieldsFLT0 ++ fieldsFLT1 ++ fieldsFLT2

/-- R453: [0] POWER_ON, [1] PIN, [2] SOFTWARE; kept under R440. -/
def BOT_RESET_CAUSE : Fld := { id := 812, page := .BOT, off := 0x100, w := 3, ty := .w1c }
/-- R453: The pins as sampled: [1:0] BOOT_SRC, [2] FACTORY_REQ, [5:3] ADDR, [7:6] ROLE, [10:8] …. -/
def BOT_STRAPS : Fld := { id := 813, page := .BOT, off := 0x104, w := 16 }
/-- R453: Under R444. -/
def BOT_FACTORY_DENIED : Fld := { id := 814, page := .BOT, off := 0x104, lo := 16, w := 1 }
/-- R453: A strap carried a reserved code and its field took encoding 0 (R443). -/
def BOT_STRAP_RSVD : Fld := { id := 815, page := .BOT, off := 0x104, lo := 17, w := 1 }
/-- R453: 0 RUNNING, 1 DONE, 2 SELFTEST, 3 BAD_HEADER, 4 BAD_LENGTH, 5 BAD_DIGEST, 6 …. -/
def BOT_BOOT_STATUS : Fld := { id := 816, page := .BOT, off := 0x108, w := 4 }
/-- R453: 0 none, 1 A, 2 B, 3 host or two-wire. -/
def BOT_IMAGE_USED : Fld := { id := 817, page := .BOT, off := 0x108, lo := 4, w := 2 }
/-- R453: VERSION of the applied image. -/
def BOT_IMG_VERSION : Fld := { id := 818, page := .BOT, off := 0x10C }
/-- R453: Region code of R438 in [4:0]; memory index in [31:8]. -/
def BOT_ST_FAIL : Fld := { id := 819, page := .BOT, off := 0x110 }
/-- R453: Write 0x5A72 to reset under R440. -/
def BOT_SW_RESET : Fld := { id := 820, page := .BOT, off := 0x114, w := 16, ty := .wo, attr := .prv }
/-- R453: Host image address. -/
def BOT_HOST_ADDR_LO : Fld := { id := 821, page := .BOT, off := 0x118, ty := .rw, attr := .prv }
/-- R453: Host image address. -/
def BOT_HOST_ADDR_HI : Fld := { id := 822, page := .BOT, off := 0x11C, ty := .rw, attr := .prv }
/-- R453: Write 1 to load under R449. -/
def BOT_HOST_GO : Fld := { id := 823, page := .BOT, off := 0x120, w := 1, ty := .rwh, attr := .prv }
/-- R453: Next image DWORD. -/
def BOT_TW_FIFO : Fld := { id := 824, page := .BOT, off := 0x124, ty := .wo, attr := .prv }
/-- R453: Chosen slot. -/
def BOT_REC_SLOT : Fld := { id := 825, page := .BOT, off := 0x140, w := 1 }
/-- R453: A slot is chosen. -/
def BOT_REC_VALID : Fld := { id := 826, page := .BOT, off := 0x140, lo := 1, w := 1 }
/-- R453: Under R451. -/
def BOT_SEQ_TIE : Fld := { id := 827, page := .BOT, off := 0x140, lo := 2, w := 1 }
/-- R453: Write 1 to commit under R452. -/
def BOT_REC_GO : Fld := { id := 828, page := .BOT, off := 0x140, lo := 3, w := 1, ty := .rwh, attr := .prv }
/-- R453: A stage write was ignored. -/
def BOT_REC_BUSY : Fld := { id := 829, page := .BOT, off := 0x140, lo := 4, w := 1, ty := .w1c }
/-- R453: 0 OK, 1 ERASE, 2 PROGRAM, 3 VERIFY, 4 NO_FLASH. -/
def BOT_REC_STATUS : Fld := { id := 830, page := .BOT, off := 0x140, lo := 5, w := 3 }
/-- R453: SEQ of the chosen slot. -/
def BOT_REC_SEQ : Fld := { id := 831, page := .BOT, off := 0x144 }
/-- R453: The chosen slot. -/
def BOT_REC_VIEW : Fld := { id := 832, page := .BOT, off := 0x1000, stride := 4, cnt := 1024 }
/-- R453: Record body at slot offset + 0x2000. -/
def BOT_REC_STAGE : Fld := { id := 833, page := .BOT, off := 0x2010, stride := 4, cnt := 956, ty := .rw, attr := .prv }

/-- Part 0 of the fields of BOT. -/
def fieldsBOT0 : List Fld := [BOT_RESET_CAUSE, BOT_STRAPS, BOT_FACTORY_DENIED, BOT_STRAP_RSVD, BOT_BOOT_STATUS, BOT_IMAGE_USED, BOT_IMG_VERSION, BOT_ST_FAIL, BOT_SW_RESET, BOT_HOST_ADDR_LO, BOT_HOST_ADDR_HI, BOT_HOST_GO, BOT_TW_FIFO, BOT_REC_SLOT, BOT_REC_VALID, BOT_SEQ_TIE, BOT_REC_GO, BOT_REC_BUSY, BOT_REC_STATUS, BOT_REC_SEQ]
/-- Part 1 of the fields of BOT. -/
def fieldsBOT1 : List Fld := [BOT_REC_VIEW, BOT_REC_STAGE]
/-- The fields of BOT. -/
def fieldsBOT : List Fld := fieldsBOT0 ++ fieldsBOT1

/-- R468: Hottest LD sensor, signed °C. -/
def GLB_TJ_LD : Fld := { id := 834, page := .GLB, off := 0x100, w := 8 }
/-- R468: Hottest HD sensor. -/
def GLB_TJ_HD : Fld := { id := 835, page := .GLB, off := 0x100, lo := 8, w := 8 }
/-- R468: Hottest MD0 sensor. -/
def GLB_TJ_MD0 : Fld := { id := 836, page := .GLB, off := 0x100, lo := 16, w := 8 }
/-- R468: Hottest MD1 sensor. -/
def GLB_TJ_MD1 : Fld := { id := 837, page := .GLB, off := 0x100, lo := 24, w := 8 }
/-- R468: Highest reading since last written; write −128 to restart. -/
def GLB_TJ_PEAK : Fld := { id := 838, page := .GLB, off := 0x104, w := 8, ty := .rwh }
/-- R468: A thermal trip occurred; kept through reset. -/
def GLB_THERM_TRIP : Fld := { id := 839, page := .GLB, off := 0x108, w := 1, ty := .w1c }
/-- R468: Equivalent seconds at 90 °C under R466; kept through reset. -/
def GLB_LIFE_USED : Fld := { id := 840, page := .GLB, off := 0x10C, ty := .cnt, attr := .prv }
/-- R468: LIFE_USED at which LIFE_WARN is raised. -/
def GLB_LIFE_WARN : Fld := { id := 841, page := .GLB, off := 0x110, ty := .rw, reset := 0x4B3D3B00, attr := .prv }
/-- R468: Aging slowdown of LD, 0.1 %. -/
def GLB_AGE_LD : Fld := { id := 842, page := .GLB, off := 0x114, w := 8 }
/-- R468: Aging slowdown of HD. -/
def GLB_AGE_HD : Fld := { id := 843, page := .GLB, off := 0x114, lo := 8, w := 8 }
/-- R468: Aging slowdown of MD0. -/
def GLB_AGE_MD0 : Fld := { id := 844, page := .GLB, off := 0x114, lo := 16, w := 8 }
/-- R468: Aging slowdown of MD1. -/
def GLB_AGE_MD1 : Fld := { id := 845, page := .GLB, off := 0x114, lo := 24, w := 8 }
/-- R468: Warning threshold, 0.1 %; 0 never warns. -/
def GLB_AGE_WARN_TH : Fld := { id := 846, page := .GLB, off := 0x118, w := 8, ty := .rw, reset := 50, attr := .prv }
/-- R468: Low 32 bits of the LT of the last aging measurement. -/
def GLB_AGE_LT : Fld := { id := 847, page := .GLB, off := 0x11C }

/-- Part 0 of the fields of GLB. -/
def fieldsGLB0 : List Fld := [GLB_TJ_LD, GLB_TJ_HD, GLB_TJ_MD0, GLB_TJ_MD1, GLB_TJ_PEAK, GLB_THERM_TRIP, GLB_LIFE_USED, GLB_LIFE_WARN, GLB_AGE_LD, GLB_AGE_HD, GLB_AGE_MD0, GLB_AGE_MD1, GLB_AGE_WARN_TH, GLB_AGE_LT]
/-- The fields of GLB. -/
def fieldsGLB : List Fld := fieldsGLB0

end Sys2Proof.Machine
end

