-- ==== Sys2Proof/Machine/State.lean ====
section
/-! DEFINITION. The state of the terminal as plain data: the register file, the state the spec names outside the register
tables, the queue of waiting commands, and the record of what left the block; and the state after reset. -/

namespace Sys2Proof.Machine

/-- The eight modes of R35, in the order of PWR MODE (R418). -/
inductive Mode where
  | reset | boot | listen | join | service | graze | stable | factory
deriving DecidableEq, Repr

/-- The code of a mode in PWR MODE (R418). -/
def Mode.code : Mode → Nat
  | .reset => 0 | .boot => 1 | .listen => 2 | .join => 3 | .service => 4 | .graze => 5 | .stable => 6 | .factory => 7

/-- The fuses (R445): serial number, vendor key hash, rollback counter, FACTORY_ALLOW. No command writes them. -/
structure Fuses where
  serial : Nat
  keyHash : Nat
  rollback : Nat
  factoryAllow : Bool
  vendorId : Nat
deriving DecidableEq, Repr

/-- One buffered value: the page that holds it, the key of its copy, the stored value, the boundary at which it applies. -/
structure Shad where
  page : Nat
  key : Nat
  val : Nat
  ap : Ap
  /-- Its boundary was taken while its block was power-gated (R30). -/
  kept : Bool := false
deriving DecidableEq, Repr

/-- A sealed shadow (R49): its page, boundary code, the instant of REQ, the resolved AT_LT target, the instant at which the
page's PAGE fields applied, and the fields still to apply. -/
structure Sealed where
  page : Nat
  kind : Nat
  req : Nat
  target : Option Nat
  taken : Option Nat
  fields : List Shad
  /-- Its apply markers are in the lanes (R51). -/
  marked : Bool := false
deriving DecidableEq, Repr

/-- The source of a fault report (R438): level, region, cluster, unit, detail. -/
structure FaultSrc where
  level : Nat
  region : Nat
  cluster : Nat := 0
  unit : Nat := 0
  detail : Nat := 0
deriving DecidableEq, Repr

/-- An EqD value waiting for a quiet frame boundary (R47): from RANGE_RESULT (`range`) with its SEQ, or from ASSIGN_ID. -/
structure EqdLoad where
  value : Nat
  range : Bool
  seq : Nat
  /-- Adjustments decoded after it, drained after the load (R47). -/
  after : Int := 0
deriving DecidableEq, Repr

/-- A transition into LOCKED that waits for a quiet frame boundary of the new LT (R41): the change of the counter in ticks. -/
structure LtStep where
  delta : Int
deriving DecidableEq, Repr

/-- The LT machinery (R38 to R41) outside its registers. -/
structure LineTime where
  /-- The tick count of local LT (R1). -/
  lt : Nat := 0
  /-- Ticks that have passed, whatever LT has been set to: the clock against which TB1 to TB3 run (R277). -/
  run : Nat := 0
  /-- The last slot, frame, multiframe and superframe edges taken (R48). -/
  lastSlot : Option Nat := none
  lastFrame : Option Nat := none
  lastMf : Option Nat := none
  lastSf : Option Nat := none
  /-- Holdover time accumulated since fine ranging last completed, in ticks (R40). -/
  holdTicks : Nat := 0
  /-- The instant at which the present HOLDOVER episode began (R39). -/
  holdStart : Option Nat := none
  /-- The last LT label, superframe and multiframe, and how many consistent labels stand in a row (R39). -/
  label : Option (Nat × Nat) := none
  labelRun : Nat := 0
  /-- A step of the counter that waits for a quiet frame boundary (R41). -/
  step : Option LtStep := none
  /-- An EqD value that waits for a quiet frame boundary (R47). -/
  eqdLoad : Option EqdLoad := none
  /-- The instant at which launch table entries fired last, and which (R56). -/
  firedAt : Nat := 0
  fired : List Nat := []
  /-- Levels whose LT copy left its budget and is reloaded at the next frame boundary (R27). -/
  skew : List FaultSrc := []
deriving DecidableEq, Repr

/-- A candidate of a frame alignment searcher (R96): symbol position, hypothesis, consecutive correct words. -/
structure Cand where
  pos : Nat
  hyp : Nat
  count : Nat
deriving DecidableEq, Repr

/-- A multiframe of a stream (R100, R109, R264): superframe and multiframe number, KEY_EPOCH, its members, their profile, stream bytes, and
whether its payload can be used. -/
structure StreamMf where
  sf : Nat := 0
  mf : Nat := 0
  epoch : Nat := 0
  n : Nat := 1
  prof : Nat := 0
  bytes : Nat := 0
  usable : Bool := false
deriving DecidableEq, Repr

/-- How far a stream is parsed (R101, R102, R104): the byte offset of the next header in its multiframe, a FIRST_UNIT still to be
met with the byte range it speaks of, the multiframe now received and the one before, and whether the place still lies in that. -/
structure Chain where
  place : Option Nat := none
  ptr : Option (Nat × Nat × Nat) := none
  cur : StreamMf := {}
  prev : StreamMf := {}
  behind : Bool := false
deriving DecidableEq, Repr

/-- A downstream subcarrier outside its registers (R96 to R101, R111, R112). -/
structure Sub where
  cands : List Cand := []
  /-- Symbol position of the frame edge, errored-word run, and since when the frame status has held. -/
  pos : Nat := 0
  run : Nat := 0
  since : Nat := 0
  /-- The last MFI, or the one expected last; inconsistent frames in a row; since when alignment has held or been lost. -/
  mfi : Option Nat := none
  bad : Nat := 0
  alignSince : Nat := 0
  /-- Superframe and multiframe of the last LT label, the last frame edge, and the edge of the multiframe. -/
  label : Option (Nat × Nat) := none
  edge : Nat := 0
  edgeAt : Nat := 0
  /-- Decoded overhead blocks in a row with AIS 1 and with AIS 0. -/
  aisOn : Nat := 0
  aisOff : Nat := 0
  /-- The trail trace now received, how often in a row it came, and the one accepted (R111). -/
  trace : List Nat := []
  traceRun : Nat := 0
  accepted : Option (List Nat) := none
  /-- KEY_EPOCH of the multiframe, whether an overhead block of it has given that yet, and whether this frame's differs (R93). -/
  epoch : Nat := 0
  epochSet : Bool := false
  epochBad : Bool := false
  /-- PROF, SCID and CTRL as last decoded, and FIRST_UNIT of the last frame decoded (R92). -/
  prof : Nat := 0
  scid : Nat := 0
  ctrl : Bool := false
  fu : Nat := 0xFFFFFFFF
  /-- A frame 0 of it brought no LT label since it came into frame (R81). -/
  noLabel : Bool := false
  /-- Delivers payload in this multiframe (R79). -/
  deliver : Bool := false
deriving DecidableEq, Repr

/-- A decoded block after descrambling (R94, R100): where it comes from, its multiframe number and index, its information bits as one number of
`len` bits, and its errored mark (R74). -/
structure Blk where
  src : Nat
  mf : Nat
  idx : Nat
  bits : Nat
  len : Nat
  err : Bool
deriving DecidableEq, Repr

/-- A member of a concatenated group carried over Fenkai Link (R389): its source member, position, the number of its multiframe and that
multiframe's edge, the blocks that have come of it, and those of the multiframe before. -/
structure Remote where
  mem : Nat
  cg : Nat
  pos : Nat
  mf : Nat
  at_ : Nat
  got : Nat := 0
  last : Nat := 0
deriving DecidableEq, Repr

/-- What a working-out of the admitted set rests on (R79). -/
structure WorkBasis where
  map : List (Nat × Nat)
  prof : List Nat
  rate : Nat
  ctrl : Nat
  tid : Option Nat
  groups : List Nat
  graze : Bool
deriving DecidableEq, Repr

/-- The receiver and the framer outside their registers (chapters 03 and 04). -/
structure Rx where
  /-- The downstream subcarriers, by number (R62). -/
  subs : List (Nat × Sub) := []
  /-- Carriers that hold CD and frequency from a TRACK reached since reset, and carriers whose hint failed (R63, R82). -/
  stored : Nat := 0
  fullSearch : Nat := 0
  /-- Profile bytes and map in force, and those pending with their boundary (R106). -/
  prof : List Nat := List.replicate 32 0
  map : List (Nat × Nat) := []
  pendProf : Option (Nat × List Nat) := none
  pendMap : Option (Nat × List (Nat × Nat)) := none
  /-- What the present admitted set rests on (R79). -/
  basis : Option WorkBasis := none
  /-- Streams: subcarriers 0 to 31, groups 0x100 + CG, the control stream 0x200. -/
  chains : List (Nat × Chain) := []
  /-- The parser has met no record of the present multiframe yet (R105). -/
  first : Bool := true
  /-- A GRANTS record is part way through: entries so far (R107). -/
  grants : Nat := 0
  /-- The multiframe whose first valid RDI_LIST was taken, and lists in a row that name and do not name the TID (R112). -/
  rdiMf : Option Nat := none
  rdiOn : Nat := 0
  rdiOff : Nat := 0
  /-- Conditions met since the last frame boundary: defect, and whether it declares (R112, R114). -/
  met : List (Defect × Bool) := []
  /-- The counter's reading at the last frame edge of the control subcarrier, corrected (R38). -/
  ctrlEdge : Nat := 0
  /-- Group channels that deliver in this multiframe (R108). -/
  groupOn : List Nat := []
  /-- Members of concatenated groups carried over Fenkai Link (R389). -/
  remotes : List Remote := []
  /-- Decoded blocks of the streams' present and last multiframes (R100, R109). -/
  blocks : List Blk := []
  /-- Since when SD has been high (R112). -/
  sdHighSince : Nat := 0
  /-- Gain steps given to the front end since reset, by carrier, in 0.01 dB (R64). -/
  gain : List (Nat × Int) := []
deriving DecidableEq, Repr

/-- A container held by an allocation: its handle, whether it lies in the express store, and its SEQ (R236, R213). -/
structure Held where
  handle : Nat
  exp : Bool
  seq : Nat
deriving DecidableEq, Repr

/-- An upstream message (R119): code, number, whose low 8 bits are its SEQ, body words, and the instant it was queued (R127). -/
structure UMsg where
  code : Nat
  seq : Nat
  body : List Nat
  at_ : Nat
deriving DecidableEq, Repr

/-- A calendar entry (R147, R173): the 128 grant bits, the line time G of its next occurrence, 1 HELD, 2 COMMITTED, 3 IN_AIR. -/
structure Grant where
  bits : Nat
  g : Int
  est : Nat
  /-- The line time of the first occurrence (R153). -/
  first : Int := 0
  /-- Occurrences from this line time on are withdrawn (R154). -/
  stop : Option Int := none
deriving DecidableEq, Repr

/-- A burst fixed at its commit point (R157): what it carries and when it launches. -/
structure Burst where
  entry : Nat
  g : Int
  bits : Nat
  hdr : List Nat
  conts : List Held
  msgs : List UMsg
  epoch : Nat
  key : Nat
  pre : Nat
  blocks : Nat
  launch : Nat
  inAir : Bool
  /-- Containers that cannot be sent as stored, by place in the burst (R251). -/
  bad : List Nat := []
  /-- The containers read from their stores so far, by place in the burst (R254), and the keys of the upstream slot with the first
  container each serves (R263). -/
  data : List (Nat × List Nat) := []
  upKeys : List (Nat × List Nat) := []
deriving DecidableEq, Repr

/-- A PROFILE_SET accepted and not yet in effect (R167). -/
structure Profile where
  body : List Nat
  accepted : Nat
  notBefore : Nat
deriving DecidableEq, Repr

/-- The burst builder outside its registers (chapters 05 and 06). -/
structure Upstream where
  /-- The grant calendar, by entry (R173). -/
  cal : List (Nat × Grant) := []
  /-- Bursts committed or in the air (R157). -/
  bursts : List Burst := []
  /-- The discovery burst in the air (R130): launch, end, subcarriers. -/
  disc : Option (Nat × Nat × Nat) := none
  /-- When the last burst to leave the air left it, its ramp included (R46). -/
  lastEnd : Option Nat := none
  /-- Discards since the last header's commit: count, time fields and cause of the first (R155). -/
  discN : Nat := 0
  discTime : Nat := 0
  discCause : Nat := 0
  /-- CAL_FULL and EQD_CLIP since the last header (R165). -/
  fullSeen : Bool := false
  eqdClip : Bool := false
  /-- The report rotation pointer (R164). -/
  rotPtr : Nat := 0
  /-- The next header is the first after GRAZE (R165). -/
  wakeFlag : Bool := false
  /-- The upstream message queue, oldest first, and the number of the next own message: SEQ is its low 8 bits (R120, R127). -/
  umq : List UMsg := []
  umSeq : Nat := 0
  /-- Outbound slots waiting for a place in the queue, in push order (R127). -/
  waitPush : List Nat := []
  /-- The PROFILE_SET accepted and not yet in effect (R167). -/
  profile : Option Profile := none
  /-- Subcarriers of U whose inactive bank holds the pending PROFILE_SET's filter and is ready (R167, R303). -/
  uReady : Nat := 0
deriving DecidableEq, Repr

/-- A host message delivered to the inbound mailbox and not yet forgotten (R123). -/
structure HostMsg where
  code : Nat
  seq : Nat
  own : Bool
  deadline : Nat
  late : Bool
  answer : Option UMsg
deriving DecidableEq, Repr

/-- A qualifying discovery window (R129 to R131): opening, length, back-off range, subcarriers, launch, EqD_D, and the
subcarrier drawn and record built when it is taken. -/
structure DiscWin where
  g : Int
  wlen : Nat
  w : Nat
  mask : Nat
  launch : Nat
  eqd : Int
  sc : Option Nat
  record : List Nat
deriving DecidableEq, Repr

/-- What a SILENCE (DURATION, CAUSE) or a RELEASE (the SEQ to acknowledge, if any) does at the next frame boundary (R140, R141). -/
inductive LineAct where
  | silence (duration cause : Nat)
  | release (ack : Option Nat)
deriving DecidableEq, Repr

/-- Joining, messages and silence outside the registers (chapter 05). -/
structure Join where
  /-- The generator of R132. -/
  lfsr : Nat := 1
  /-- SPAN as it was when joining began (R128). -/
  span : Nat := 0
  /-- Discovery windows ahead (R129, R131), and the one whose burst was sent last: start, end, subcarriers. -/
  wins : List DiscWin := []
  sent : Option (Nat × Nat × Nat) := none
  /-- W of the window answered, and the ASSIGN_ID deadline (R131). -/
  w : Nat := 0
  deadline : Nat := 0
  /-- Windows still to let pass (R131). -/
  skip : Nat := 0
  /-- The instant at which RANGE_TIMEOUT runs out (R133). -/
  rangeDue : Option Nat := none
  /-- The LINE_PARAMS held (R128): LINE_ID, TRESP, SYM_RATE, CTRL_SC, SPAN. -/
  params : Option (List Nat) := none
  /-- The last SEQ acted on, by set times 64 plus code (R120). -/
  kept : List (Nat × Nat) := []
  /-- The response given to the kept SEQ (R120). -/
  resp : List (Nat × UMsg) := []
  /-- Messages pending with EFF, by code: the boundary and whether the own TID was addressed (R121). -/
  pend : List (Nat × (Nat × Bool × Msg)) := []
  /-- Host messages not yet answered or forgotten (R123). -/
  host : List HostMsg := []
  /-- SILENCE and RELEASE that act at the next frame boundary, in stream order (R140, R141). -/
  acts : List LineAct := []
  /-- The end of the SILENCE in force (R140). -/
  silEnd : Option Nat := none
  /-- The groups the terminal is a member of (R125, R142). -/
  groups : List Nat := []
  /-- LISTEN is entered once any burst in the air has ended (R142). -/
  toListen : Bool := false
deriving DecidableEq, Repr

/-- A run of free handles of consecutive index and one generation. -/
structure Run where
  first : Nat
  n : Nat
  gen : Nat
deriving DecidableEq, Repr

/-- An ownership entry (R236). -/
structure Own where
  owner : Nat
  ksel : Nat := 0
  poison : Bool := false
  link : Nat := 0
  gen : Nat := 0
deriving DecidableEq, Repr

/-- A take that waits (R242): its allocation, since when, and whether the wait was counted. -/
structure Waiter where
  al : Nat
  since : Nat
  counted : Bool
deriving DecidableEq, Repr

/-- A launched container under retention (R244). -/
structure Retained where
  handle : Nat
  exp : Bool
  al : Nat
  due : Nat
deriving DecidableEq, Repr

/-- An entry of the open table (R240): handle, store and owner. -/
structure OpenEnt where
  handle : Nat
  exp : Bool
  owner : Nat
deriving DecidableEq, Repr

/-- The cave controller outside its registers (chapter 10). -/
structure Cave where
  /-- The free ring from head to tail (R237). -/
  ring : List Run := []
  /-- The rack, last pushed run first; the last handle of a run is on top (R237). -/
  rack : List Run := []
  /-- Ownership entries that differ from free with GEN 0 (pool) or RESERVED (R236). -/
  own : List (Nat × Own) := []
  /-- The free list and ownership entries of the express store (R246). -/
  expFree : List Run := [⟨0, 4096, 0⟩]
  expOwn : List (Nat × Own) := []
  /-- Takes that wait for a pool container and for an express container (R242). -/
  waiters : List Waiter := []
  expWaiters : List Waiter := []
  /-- Launched containers under retention (R244). -/
  retained : List Retained := []
  /-- The open table (R240). -/
  opens : List OpenEnt := []
  /-- HELD containers the running purge has still to free (R245). -/
  purge : List (Nat × Held) := []
  /-- Stored bytes of containers, as written to the memory (R248). -/
  data : List (Nat × List Nat) := []
  expData : List (Nat × List Nat) := []
  /-- When the present scrub pass must end (R252). -/
  scrubDue : Nat := 0
  /-- When a scrub step that was refused leave asks again (R252). -/
  scrubRetry : Option Nat := none
  /-- The next pool index that initialisation has still to zero and push (R235). -/
  zeroed : Nat := 0
  /-- The 16 KiB host window (R255). -/
  window : List Nat := []
deriving DecidableEq, Repr

/-- A sealed container that has not yet its place in a store (R211, R212). -/
structure SealReq where
  payload : List Nat
  fcount : Nat
  flags : Nat
  lt : Nat
  tid : Nat
  mem : Nat
  exp : Bool
deriving DecidableEq, Repr

/-- The assembly buffers of an allocation (R212): the open container's payload so far, its units, when the first came, and
the sealed containers that ask or wait for a place. -/
structure Asm where
  payload : List Nat := []
  fcount : Nat := 0
  since : Nat := 0
  seals : List SealReq := []
  /-- The last seal: its instant, its fill, its store, and its container once it has one (R211). -/
  sealed : Option (Nat × Nat × Bool × Option Nat) := none
deriving DecidableEq, Repr

/-- A job of a user page (R273) with its latched keys; `waiting` while it waits for leave. -/
structure Job where
  slot1 : Nat
  slot2 : Nat
  key1 : List Nat
  key2 : List Nat
  xts : Bool
  dec : Bool
  unit : Nat
  len : Nat
  tweak : Nat
  dst : Nat
  src : List Nat
  waiting : Bool
  asked : Nat
deriving DecidableEq, Repr

/-- A slot command that runs (R261): the status it will show, and the slot and key bytes it will load. -/
structure SlotCmd where
  status : Nat
  load : Option (Nat × List Nat)
  wipeKey : Bool := false
  wipeWrap : Bool := false
deriving DecidableEq, Repr

/-- The cipher engine outside its registers (chapter 11). -/
structure Cipher where
  /-- Key bytes of the slots that are not EMPTY: 16 or 32 bytes (R260). -/
  keys : List (Nat × List Nat) := []
  /-- The slot command that runs (R261). -/
  cmd : Option SlotCmd := none
  /-- The downstream entry that matched in the current multiframe of each stream (R264). -/
  dnUsed : List (Nat × Nat) := []
  /-- Streams whose multiframe is being decrypted, with the slot and key latched (R263). -/
  streams : List (Nat × (Nat × List Nat)) := []
  /-- The boundary of an armed upstream switch (R265). -/
  switchAt : Option Nat := none
  /-- Jobs of the user pages, by page (R273). -/
  jobs : List (Nat × Job) := []
deriving DecidableEq, Repr

/-- Leave granted (R414): class, power in 0.01 W, the region and block that holds it. -/
structure Leave where
  cls : Nat
  watts : Nat
  region : Nat
  block : Nat
deriving DecidableEq, Repr

/-- The power governor, mode transitions and sleep outside the registers (chapter 18). -/
structure Power where
  /-- The target of the transition in progress (R36). -/
  transit : Option Mode := none
  /-- The instant and boundary of the GRAZE in force (R403): E and the number of the next wake. -/
  grazeE : Option Nat := none
  grazeK : Nat := 0
  /-- When the GRAZE_REQ was made (R408), and the boundary a GRAZE_ACK named with N and POLL. -/
  grazeReq : Option Nat := none
  grazeAck : Option (Nat × Nat × Nat) := none
  /-- The control chain is powered in a GRAZE wake window (R404), the window's map has been judged (R405), and a miss waits for LT to
  be LOCKED (R43). -/
  awake : Bool := false
  mapDone : Bool := true
  sleepDue : Bool := false
  /-- When MODE became GRAZE (R285). -/
  grazeAt : Nat := 0
  /-- Causes that woke a sleeping terminal and that no exit has taken yet (R406, R411). -/
  wake : Nat := 0
  /-- A STABLE entry that waits for its LEAVE_NOTICE: since when, and the notice's number unless it was dropped (R409). -/
  notice : Option (Nat × Option Nat) := none
  /-- Leave granted and not returned (R414). -/
  leaves : List Leave := []
  /-- What remains of the shares of the dies, in 0.01 W (R415). -/
  shares : List Nat := [0, 0, 0, 0]
  /-- Sources of contained and fatal faults reported at the instant `faultedAt` (R31). -/
  faulted : List FaultSrc := []
  faultedAt : Nat := 0
  /-- A die stood at or above TJ_WARN at the last sample (R465). -/
  warm : Bool := false
  /-- The instant at which the running STABLE exit began (R411). -/
  exitAt : Option Nat := none
deriving DecidableEq, Repr

/-- The fault collector outside its registers (chapter 19). -/
structure Collector where
  /-- Record indices in the order of creation (R424). -/
  order : List Nat := []
  /-- The end of the running ERR_WIDTH (R425). -/
  errUntil : Option Nat := none
  /-- ERR_REL was written before the end of ERR_WIDTH (R425), and an accepted clear waits for its frame boundary (R428). -/
  errRel : Bool := false
  clrPend : Bool := false
  /-- The heartbeat is lost (R429). -/
  hbLost : Bool := false
  /-- The collector's two copies differ (R429). -/
  disagree : Bool := false
  /-- FREEZE_ALL is in force, and a write of it that waits for the first slot edge from the instant it names on (R433). -/
  frozen : Bool := false
  freezePend : Option (Nat × Bool) := none
  /-- The instant of the last fatal fault (R427). -/
  fatalAt : Option Nat := none
deriving DecidableEq, Repr

/-- Boot, images and flash outside the registers (chapter 20). -/
structure Boot where
  /-- DWORDs of the two record slots, at slot × 1024 + word, held as the difference from erased (R446). -/
  flash : List (Nat × Nat) := []
  /-- Image DWORDs taken through TW_FIFO, last first (R449). -/
  fifo : List Nat := []
  /-- The body a running commit programs, and its target slot (R452). -/
  commit : Option (Nat × List Nat) := none
  /-- Flash images already rejected in this boot (R447). -/
  tried : Nat := 0
  /-- The memories have passed their self-test in this boot (R445). -/
  tested : Bool := false
deriving DecidableEq, Repr

/-- A descriptor as fetched and not completed (R361, R364): its slot, the words' fields, the beats issued, the beats outstanding with the
tries each has used (R365), its retries, the first difference a COMPARE found, whether a NOP is done, and whether a beat failed for
good. -/
structure DmaDesc where
  idx : Nat
  op : Nat
  barrier : Bool
  irq : Bool
  srcReg : Bool
  dstReg : Bool
  tag : Nat
  len : Nat
  src : Nat
  dst : Nat
  pattern : Nat
  issued : Nat := 0
  air : List (Nat × Nat) := []
  retries : Nat := 0
  diff : Option Nat := none
  ready : Bool := false
  failed : Bool := false
deriving DecidableEq, Repr

/-- A DMA channel outside its registers (chapter 16): descriptors in order, oldest first, the tries of a fetch that failed, and the
cause of a halt that waits for outstanding beats. -/
structure DmaCh where
  descs : List DmaDesc := []
  tries : Nat := 0
  halting : Option Nat := none
deriving DecidableEq, Repr

/-- A frame on its way through the classifier (R184, R190): its bytes from destination address to FCS, its source and direction,
the LT64 of its ingress stamp or of its unit's extension, and for downstream frames the TID, TS and carrier of its unit. -/
structure RxFrame where
  bytes : List Nat
  isrc : Nat
  dir : Nat := 0
  lt : Nat := 0
  ts : Bool := false
  ltid : Nat := 0
  car : Nat := 0
deriving DecidableEq, Repr

/-- A frame an engine has judged (R195, R200): its version, the matched entry, whether it is forwarded, the slow-path cause and
function, the action words, whether its key has PTP set, and when it entered the classifier. -/
structure Judged where
  f : RxFrame
  ver : Nat
  entry : Option Nat
  fwd : Bool
  slow : Option Nat
  pf : Nat
  func : Nat
  a0 : Nat
  a1 : Nat
  a2 : Nat
  ptp : Bool
  at_ : Nat
  eng : Nat := 0
deriving DecidableEq, Repr

/-- What the reorder stage holds of a source (R197): a frame with its sequence number, or a page's apply marker (R51). -/
inductive LaneItem where
  | frame (seq : Nat) (j : Judged)
  | marker (page : Nat)
deriving DecidableEq, Repr

/-- A classifier source (R190, R197): frames before the parser, the next sequence number, and the reorder stage's contents. -/
structure Lane where
  inq : List RxFrame := []
  next : Nat := 0
  items : List LaneItem := []
deriving DecidableEq, Repr

/-- An upstream frame in a queue: its length under R178, and its tagged unit (R184). -/
structure UFrm where
  len : Nat
  data : List Nat
deriving DecidableEq, Repr

/-- An upstream queue (R209, R210): frames, oldest first, and its deficit. -/
structure UQueue where
  frames : List UFrm := []
  deficit : Nat := 0
deriving DecidableEq, Repr

/-- An allocation's scheduler (R210): by level, the queue whose turn it is, and the queues that have had their turn in this round. -/
structure Sched where
  turns : List (Nat × Nat) := []
  served : List (Nat × List Nat) := []
deriving DecidableEq, Repr

/-- A frame in an egress queue: with the time base of its correction (R286), or the follower and sequenceId of a request (R283). -/
structure EFrm where
  bytes : List Nat
  lt : Nat := 0
  ts : Bool := false
  car : Nat := 0
  corr : Option Nat := none
  own : Option (Nat × Nat) := none
  /-- A Pdelay_Resp: the follower, and its reading when the request came (R283). -/
  turn : Option (Nat × Nat) := none
deriving DecidableEq, Repr

/-- A client port outside its registers (chapter 07). -/
structure Port where
  ingress : List RxFrame := []
  /-- Since when the link conditions hold (R177). -/
  goodSince : Option Nat := none
  /-- When the link pause and each priority's pause end (R182). -/
  pause : Option Nat := none
  pfc : List (Nat × Nat) := []
  /-- When the pause frame is next repeated (R183). -/
  refresh : Option Nat := none
  /-- The frame in progress: its end, its traffic class, and whether it was counted in OVERRUN (R221). -/
  txEnd : Nat := 0
  txClass : Option Nat := none
deriving DecidableEq, Repr

/-- A token balance in exact units and the instant to which it has accrued (R206, R215, R200). -/
structure Bal where
  v : Int
  at_ : Nat
deriving DecidableEq, Repr

/-- A serial lane outside its registers (R377): coefficients stored, a retrain that runs or waits for leave with the instant at which
it asks again. -/
structure SerLane where
  stored : Bool := false
  retry : Option Nat := none
deriving DecidableEq, Repr

/-- The packet path outside the registers (chapters 07 to 09). -/
structure Packet where
  /-- The classifier sources, client ports, upstream queues, schedulers and egress queues, by number (R175, R190, R209, R210, R217). -/
  lanes : List (Nat × Lane) := []
  ports : List (Nat × Port) := []
  uqs : List (Nat × UQueue) := []
  scheds : List (Nat × Sched) := []
  eqs : List (Nat × List EFrm) := []
  /-- The upstream frame that does not fit the buffer and stops admission, with its queue (R204). -/
  stalled : Option (Nat × UFrm) := none
  /-- The source and the version of that frame, whose action has not ended (R198). -/
  stalledBy : Option (Nat × Nat) := none
  /-- The engine that takes the next frame (R197). -/
  engine : Nat := 0
  /-- Balances of policers and shapers that have moved from full (R206, R215). -/
  pols : List (Nat × Bal) := []
  shapers : List (Nat × Bal) := []
  /-- The slow-path bucket; none until it first moves from full (R200). -/
  slow : Option Bal := none
  /-- Words of an entry with ERR set that have been rewritten since, as a mask (R196). -/
  rewritten : List (Nat × Nat) := []
  /-- Start instants in ns of the running gate lists (R219). -/
  gates : List (Nat × Nat) := []
  /-- The serial lanes, by number (R377). -/
  lanes24 : List (Nat × SerLane) := []
  /-- The last measurement at which SREF met a condition of REF_BAD (R374). -/
  refAt : Nat := 0
deriving DecidableEq, Repr

/-- A Sync that waits for its Follow_Up (R282): sequenceId, t2 (units of 2^-16 ns), correctionField, and when it came. -/
structure SyncWait where
  seq : Nat
  t2 : Nat
  cf : Int
  at_ : Nat
deriving DecidableEq, Repr

/-- A request of a follower (R283): its sequenceId and t3 once sent; under peer delay, the response's receive stamp and turnaround
parts while its Follow_Up is awaited. -/
structure DelayReq where
  seq : Nat
  t3 : Option Nat := none
  resp : Option (Nat × Nat × Int) := none
deriving DecidableEq, Repr

/-- A time base TB1 to TB3 and its follower outside their registers (chapter 12). Readings are in units of 2^-16 ns. -/
structure TimeBase where
  /-- The reading at the instant `at_`. -/
  base : Nat := 0
  at_ : Nat := 0
  /-- Slews in progress: amount in units, start, length (R278, R280). -/
  slews : List (Int × Nat × Nat) := []
  /-- Offsets that wait for the servo, in units (R280). -/
  samples : List Int := []
  /-- FREQ after each of the last 64 samples, latest first (R285); samples in a row within LOCK_NS. -/
  hist : List Int := []
  good : Nat := 0
  /-- No sample has been processed since FREE was entered (R280). -/
  fresh : Bool := true
  /-- When the last valid sample came, and when HOLDOVER was entered (R280, R285). -/
  lastValid : Nat := 0
  holdSince : Nat := 0
  /-- The master heard, and when (R282). -/
  master : Option Nat := none
  masterAt : Nat := 0
  /-- The Sync that waits for its Follow_Up (R282). -/
  sync : Option SyncWait := none
  /-- The last Sync's t2 and t1 + CF, for MPD (R283). -/
  lastSync : Option (Int × Int) := none
  /-- The next sequenceId of a request, and the request that waits for its answer (R283). -/
  reqSeq : Nat := 0
  req : Option DelayReq := none
  /-- The mean path delay in units and when it was measured; when the last request was sent (R283). -/
  mpd : Int := 0
  mpdAt : Option Nat := none
  reqAt : Option Nat := none
deriving DecidableEq, Repr

/-- The time bases outside the registers (chapter 12). -/
structure Timing where
  /-- TB1 to TB3, by number (R277). -/
  tbs : List (Nat × TimeBase) := []
  /-- The instant of the last capture (R281). -/
  capAt : Option Nat := none
  /-- The last accepted PPS_IN edge (R289). -/
  ppsAt : Option Nat := none
  /-- The seconds each PPS output has given, by output and time base, as spans (R290), and the last of the TOD output, times 4 plus its time
  base, with its end (R291). -/
  ppsSec : List (Nat × List (Nat × Nat)) := []
  todSec : Option Nat := none
  todEnd : Nat := 0
  /-- The pair (R284): samples still limited after a switch, TB1's FREQ at it, F1's last valid sample, and since when its offsets
  lie within LOCK_NS. -/
  limited : Nat := 0
  swFreq : Int := 0
  f1At : Nat := 0
  f1Good : Option Nat := none
  /-- What DDOWN_B adds to DDOWN_A, computed with the last GD (R287). -/
  gdB : Int := 0
deriving DecidableEq, Repr

/-- A package heard by its MGMT cells (R391): member number, role, TID with its valid bit at 2^18, and when heard. -/
structure Neighbour where
  mem : Nat
  role : Nat
  tid : Nat
  at_ : Nat
deriving DecidableEq, Repr

/-- The time transfer on a port (R386): arrival and STAMP of the last LT cell, STAMP and departure of the last one sent, and twice the
one-way delays of the last 64 frames. -/
structure LtLink where
  t2 : Nat := 0
  stamp : Nat := 0
  sent : Option (Nat × Nat) := none
  hist : List Int := []
deriving DecidableEq, Repr

/-- A unit or block that arrives in cells (R383, R384): the next SEQ, the bytes so far, and whether it is whole up to now. -/
structure CellAsm where
  next : Option Nat := none
  bytes : List Nat := []
  whole : Bool := false
  err : Bool := false
deriving DecidableEq, Repr

/-- Fenkai Link outside its registers (chapter 17). -/
structure Fenkai where
  /-- Hops to a member by a port, and when its MGMT cell last came that way, by port times 8 plus member (R385, R391, R392). -/
  hops : List (Nat × Nat) := []
  seen : List (Nat × Nat) := []
  /-- Packages heard, by port times 8 plus the links their cell crossed before (R391). -/
  nbrs : List (Nat × Neighbour) := []
  /-- The time transfer of each port (R386). -/
  links : List (Nat × LtLink) := []
  /-- Next SEQ by cell type (R383). -/
  seqs : List (Nat × Nat) := []
  /-- Fill of each port's forwarding buffer (R388). -/
  fills : List (Nat × Bal) := []
  /-- Units and blocks that arrive, by port, cell type and source (R384). -/
  asms : List (Nat × CellAsm) := []
  /-- The offset still to be slewed out (R387), good cells in a row, and the last valid LT cell from the source. -/
  pend : Int := 0
  run : Nat := 0
  ltAt : Nat := 0
  /-- The frame in which LT cells, and MGMT cells, were sent last. -/
  ltSent : Option Nat := none
  mgmtSent : Option Nat := none
  /-- The relayed control stream (R390): its multiframe number, and the frame in it; 64 until a multiframe has begun. -/
  ctl : Option (Nat × Nat) := none
deriving DecidableEq, Repr

/-- A unit of the vat (R296, R314): general registers, accumulator, address registers (P0 to P3, B0 to B3, L0 to L3 under 0 to 11),
predicates F1 to F3 as a mask, the sticky bits of SR, and X and Y memory; all of it sparse, reading 0 where unlisted. -/
structure VUnit where
  g : List (Nat × Nat) := []
  acc : Int := 0
  ar : List (Nat × Nat) := []
  f : Nat := 0
  sv : Bool := false
  as_ : Bool := false
  x : List (Nat × Nat) := []
  y : List (Nat × Nat) := []
  /-- Stores of the last instruction, not yet in memory: Y or X, address, word (R332). -/
  st : List (Bool × Nat × Nat) := []
  /-- G and F as they stood before the last instruction, and before the one ahead of it (R332). -/
  h1 : List (Nat × Nat) × Nat := ([], 0)
  h2 : List (Nat × Nat) × Nat := ([], 0)
  /-- Writes of address registers under way: register, value, instructions still to pass (R332). -/
  pend : List (Nat × Nat × Nat) := []
  /-- Words stored to a port and not committed: port times 128 plus offset (R303). -/
  staged : List (Nat × Nat) := []
deriving DecidableEq, Repr

/-- An active block repeat (R315, R330): first and last instruction, passes left with the present one, and whether its body is being
captured (R331). -/
structure VLoop where
  start : Nat
  last : Nat
  count : Nat
  cap : Bool
deriving DecidableEq, Repr

/-- The repeat cache (R331): the body it holds, and the instructions captured as a mask. -/
structure VCache where
  start : Nat
  len : Nat
  got : Nat
deriving DecidableEq, Repr

/-- A launch as its kernel table entry was read (R304): slot, first instruction, class, IRQ, limit, argument, target. -/
structure VStart where
  kslot : Nat
  entry : Nat
  pclass : Nat
  irq : Bool
  maxrun : Nat
  arg : Nat
  target : Nat
deriving DecidableEq, Repr

/-- A cluster outside its registers (R296, R315). -/
structure VCluster where
  /-- Program memory by instruction; `lost` counts the times it was not kept (R307): unwritten words then read free values. -/
  pgm : List (Nat × Nat) := []
  lost : Nat := 0
  /-- PA, PB and PL under 0 to 2, and writes of them under way. -/
  pr : List (Nat × Nat) := []
  pend : List (Nat × Nat × Nat) := []
  /-- Innermost repeat first. -/
  loops : List VLoop := []
  /-- The repeat cache (R331). -/
  cache : Option VCache := none
  /-- Cycles of the run, and the cycle after the last write of a predicate. -/
  cyc : Nat := 0
  fAt : Nat := 0
  /-- IRQ and MAXRUN of the running kernel table entry (R305). -/
  irq : Bool := false
  maxrun : Nat := 0
  /-- The launch that waits for leave, and when it asks again (R307). -/
  wait : Option (VStart × Nat) := none
deriving DecidableEq, Repr

/-- A block captured by an input port and not yet delivered (R302): its frame, VALID, and the words by unit. -/
structure VCap where
  frame : Nat
  valid : Bool
  blocks : List (List Nat)
deriving DecidableEq, Repr

/-- The vat outside its registers (chapters 13 and 14). -/
structure Vat where
  /-- Units by cluster and number, and clusters (R296). -/
  units : List (Nat × VUnit) := []
  cls : List (Nat × VCluster) := []
  /-- Captured blocks, and the frame each port captured last, by cluster times 4 plus port. -/
  caps : List (Nat × VCap) := []
  capAt : List (Nat × Nat) := []
  /-- Clusters about to start, with what a launch gave them (R304). -/
  starts : List (Nat × VStart) := []
  /-- Converter calibration tables: (SIDE times 16 plus unit) times 128 plus offset (R303). -/
  calib : List (Nat × Nat) := []
  /-- Transmit coefficient banks: subcarrier times 128 plus bank times 64 plus word, and the active banks as a mask (R67, R303). -/
  uBank : List (Nat × Nat) := []
  uAct : Nat := 0
  /-- By carrier, the frame of the last CD_ACTIVE step, and the multiframe in which the LMS values were last committed. -/
  cdAt : List (Nat × Nat) := []
  lmsAt : List (Nat × Nat) := []
  /-- By coefficient bank, numbered as COEF_SWAP names them (R58): the instants of the last commit and of the last swap (R303). -/
  readyAt : List (Nat × Nat) := []
  swapAt : List (Nat × Nat) := []
deriving DecidableEq, Repr

/-- The pins the terminal drives or samples, and the always-on island beside its registers. -/
structure Pins where
  resetN : Bool := false
  pgood : Bool := false
  pwrMainEn : Bool := false
  vddAon : Bool := false
  txdisN : Bool := false
  errN : Bool := true
  sd : Bool := false
  /-- What LIFE_USED holds beyond its whole equivalent seconds, in 2^-32 s: kept by the always-on island with it (R466). -/
  lifeFrac : Nat := 0
deriving DecidableEq, Repr

/-- What leaves the block. -/
inductive Out where
  | msix (func vector : Nat)
  /-- A burst as it was sent (R159 to R161): launch at the transmit reference plane, the instant its first symbol had to be handed over for
  that (R37), grant, preamble symbols, and the scrambled information bytes of each granted subcarrier's blocks. -/
  | burst (launch start grant : Nat) (pre : List Nat) (lanes : List (Nat × List Nat))
  | burstEnd (launch : Nat) (cut : Bool)
  /-- A discovery burst (R130), in the same form. -/
  | discovery (launch start : Nat) (pre : List Nat) (lanes : List (Nat × List Nat))
  /-- Subcarriers begin to ramp up, or have ramped down, at this instant (R158); the dark ones carry the null code (R160). -/
  | ramp (at_ mask : Nat) (up : Bool)
  | frame (port : Nat) (bytes : List Nat)
  | cell (port ctype : Nat) (bytes : List Nat)
  /-- Control stream or group block bytes, or a MGMT cell of another member, sent on over Fenkai Link, by port: cell type, DSTMASK,
  STAMP (R384, R389, R390). -/
  | relayed (port ctype dst stamp : Nat)
  /-- A MGMT cell: MEM_ID, ROLE, RX_OK, LT_STATE, TID, TID_VALID, the neighbours' MEM_IDs, and the mailbox when it is sent (R391). -/
  | mgmt (port : Nat) (fields : List Nat) (mbox : Option (List Nat))
  /-- A write to host memory with a function's requester ID: 0 PF0, 1 PF1, n + 1 VFn (R272, R358, R368). -/
  | hostWrite (func addr : Nat) (bytes : List Nat)
  | readData (master : Nat) (words : List Nat)
  | completion (master status : Nat)
  /-- A PPS pulse: the output, the reading of its time base at the rise in ns, the width in µs. -/
  | pulse (pin at_ width : Nat)
  | tod (bytes : List Nat)
  | pause (port quanta mask : Nat)
  /-- Remote fault ordered sets begin, or end, on a client port (R177). -/
  | remoteFault (port : Nat) (on : Bool)
  | serial (bytes : List Nat)
  /-- The two-wire port NACKs this byte of a transaction, its address byte being byte 0 (R353, R354). -/
  | nack (byte : Nat)
  /-- A receive gain step of a carrier over the front-end SPI, in 0.01 dB (R64). -/
  | gain (carrier : Nat) (step : Int)
  /-- A lane sends a pattern in place of traffic (R379): GEN_MODE, and the PAM4 levels that repeat, where the spec lays them out; GEN_MODE 0
  ends it. -/
  | pattern (lane mode : Nat) (levels : List Nat)
  /-- A symbol of a lane's pattern left with its least significant bit inverted (R381). -/
  | symbolError (lane : Nat)
deriving DecidableEq, Repr

/-- The state of the terminal. -/
structure State where
  /-- The commands that wait, first in first out. -/
  pending : List Instr
  /-- The register file: copies that differ from their reset value, as the difference (R12, R17). -/
  regs : List (Nat × Nat)
  /-- The pages' shadows of RWB writes, not sealed (R343). -/
  shadow : List Shad
  /-- The sealed shadows (R49). -/
  seals : List Sealed
  /-- LOCK fields written since reset, by key (R349). -/
  locked : List (Nat × Nat)
  /-- The channel windows' CH_SEL and the LO and HI latches, by master, page and channel (R341, R342). -/
  banked : List (Nat × Nat)
  /-- MSI-X vectors unmasked, and pending, by function times 256 plus vector (R350). -/
  msixOn : List (Nat × Nat)
  msixPend : List (Nat × Nat)
  mode : Mode
  fuses : Fuses
  time : LineTime
  rx : Rx
  up : Upstream
  join : Join
  /-- The held lists of the allocations, oldest first (R239). -/
  held : List (Nat × List Held)
  cave : Cave
  /-- The assembly buffers of the allocations (R212). -/
  asm : List (Nat × Asm)
  cip : Cipher
  pk : Packet
  tim : Timing
  fk : Fenkai
  vat : Vat
  pwr : Power
  flt : Collector
  boot : Boot
  /-- The DMA channels (chapter 16). -/
  dma : List (Nat × DmaCh)
  pins : Pins
  /-- The current order of each requester table that has left ascending order (R32). -/
  orders : List (Nat × List Nat)
  /-- How many free values have been drawn (the model's own, log 1). -/
  freeCtr : Nat
  /-- What left the block, last first (the model's own record, log 2). -/
  out : List Out
deriving DecidableEq, Repr

/-- Why a command stops the machine. No command of this block stops it: every command has an effect in every state. -/
inductive Fault where
  /-- Raised by no command: kept so that the type is inhabited. Safe. -/
  | none
deriving DecidableEq, Repr

/-- Why a command has no meaning. -/
inductive Refusal where
  /-- A row of the table whose meaning is not written. Safe: nothing is claimed of it. -/
  | notModelled (mnemonic : String)
deriving DecidableEq, Repr

/-- The terminal held in RESET (R440, R442): every register at its reset value, every queue empty. -/
def State.reset : State :=
  { pending := [], regs := [], shadow := [], seals := [], locked := [], banked := [], msixOn := [], msixPend := []
    mode := .reset
    fuses := { serial := 0, keyHash := 0, rollback := 0, factoryAllow := false, vendorId := 0 }
    time := {}, rx := {}, up := {}, join := {}, held := [], cave := {}, asm := [], cip := {}, pk := {}, tim := {}, fk := {}, vat := {}, pwr := {}, flt := {}, boot := {}, dma := []
    pins := {}
    orders := [], freeCtr := 0, out := [] }

end Sys2Proof.Machine
end

