-- ==== Sys2Proof/Machine/Ops.lean ====
section
/-! DEFINITION. The named operations every family shares: reading and writing register fields, counters, free values, the
output record, interrupts (R350), performance events (R433 to R435), arbitration orders (R32) and line time (R1, R4). -/

namespace Sys2Proof.Machine

/-! Register fields -/

/-- Copy `i` of field `f` (R12): an unwritten copy reads its reset value (R17). -/
def State.rd (s : State) (f : Fld) (i : Nat := 0) : Nat := smGet s.regs (f.key i) ^^^ f.resetAt i

/-- Copy `i` of field `f` becomes the low bits of `v`. -/
def State.wr (s : State) (f : Fld) (v : Nat) (i : Nat := 0) : State :=
  { s with regs := smSet s.regs (f.key i) (v % 2 ^ f.w ^^^ f.resetAt i) }

/-- A one-bit field as a flag. -/
def State.on (s : State) (f : Fld) (i : Nat := 0) : Bool := s.rd f i != 0

/-- A field read as a signed number of its own width. -/
def State.rdS (s : State) (f : Fld) (i : Nat := 0) : Int := toS f.w (s.rd f i)

/-- A field written with the two's complement of a signed number. -/
def State.wrS (s : State) (f : Fld) (v : Int) (i : Nat := 0) : State := s.wr f (ofS f.w v) i

/-- A field written with a flag. -/
def State.flag (s : State) (f : Fld) (b : Bool) (i : Nat := 0) : State := s.wr f (b2n b) i

/-- A counter rises by `n`, wrapping at its width (PRESUMED, log 7). -/
def State.inc (s : State) (f : Fld) (n : Nat := 1) (i : Nat := 0) : State := s.wr f (s.rd f i + n) i

/-- A counter rises by `n` and saturates. -/
def State.incSat (s : State) (f : Fld) (n : Nat) (i : Nat := 0) : State := s.wr f (satU f.w (s.rd f i + n)) i

/-- The 64-bit value of a LO and HI pair. -/
def State.rd64 (s : State) (lo hi : Fld) (i : Nat := 0) : Nat := s.rd lo i + s.rd hi i * 2 ^ 32

/-- A LO and HI pair written as one value. -/
def State.wr64 (s : State) (lo hi : Fld) (v : Nat) (i : Nat := 0) : State := (s.wr lo v i).wr hi (v / 2 ^ 32) i

/-- A LO and HI counter pair rises by `n`. -/
def State.inc64 (s : State) (lo hi : Fld) (n : Nat) (i : Nat := 0) : State := s.wr64 lo hi (s.rd64 lo hi i + n) i

/-- `f` for each element of a list, first element first. -/
def forEach {α : Type} (l : List α) (s : State) (f : State → α → State) : State := l.foldl f s

/-- `f` when `b` holds, else nothing. -/
def State.when_ (s : State) (b : Bool) (f : State → State) : State := if b then f s else s

/-! Free values, outputs, time -/

/-- The next free value, and the state that has drawn it (log 1). -/
def State.fresh (s : State) : Nat × State :=
  ((Config.freeValue s.freeCtr).toNat, { s with freeCtr := s.freeCtr + 1 })

/-- Field `f` takes a free value of its width. -/
def State.wrFree (s : State) (f : Fld) (i : Nat := 0) : State := s.fresh.2.wr f s.fresh.1 i

/-- Something leaves the block. -/
def State.emit (s : State) (o : Out) : State := { s with out := o :: s.out }

/-- Ticks in a slot, frame, multiframe and superframe (R1). -/
def slotTicks : Nat := 65536
def frameTicks : Nat := 8192000
def mfTicks : Nat := 524288000
def sfTicks : Nat := 65536000000
/-- Ticks in a microsecond and a millisecond (R1). -/
def usTicks : Nat := 65536
def msTicks : Nat := 65536000

/-- The tick count of local LT. -/
def State.now (s : State) : Nat := s.time.lt

/-- LT64 (R4). -/
def State.lt64 (s : State) : Nat := s.now % 2 ^ 64

/-- The low 32 bits of LT, as registers show it. -/
def State.lt32 (s : State) : Nat := s.now % 2 ^ 32

/-- LT states (R39). -/
def ltFree : Nat := 0
def ltAcq : Nat := 1
def ltLocked : Nat := 2
def ltHoldover : Nat := 3

/-- LT is LOCKED (R39). -/
def State.ltIs (s : State) (x : Nat) : Bool := s.rd LTM_STATE == x

/-- Local LT runs on to `t`; in HOLDOVER the time accumulates (R40). An instant already past changes nothing. -/
def State.advance (s : State) (t : Nat) : State :=
  if t ≤ s.now then s
  else
    let h := if s.ltIs ltHoldover then s.time.holdTicks + (t - s.now) else s.time.holdTicks
    let s1 := { s with time := { s.time with lt := t, holdTicks := h, run := s.time.run + (t - s.now) } }
    if s.ltIs ltHoldover then s1.wr LTM_HOLD_MF (satU 16 (h / mfTicks)) else s1

/-- The first edge of a grid of `p` ticks at or after now that `last` does not name. -/
def nextEdge (p now : Nat) (last : Option Nat) : Nat :=
  let e := ceilDiv now p * p
  if last == some e then e + p else e

/-- The signed difference of two LT64 values (R4): positive when `a` is later than `b`. -/
def ltDiff (a b : Nat) : Int := toS 64 (a % 2 ^ 64 + 2 ^ 64 - b % 2 ^ 64)

/-- The instant near `now` whose low 64 bits are `t` (R4). -/
def ltNear (now t : Nat) : Nat := ((now : Int) + ltDiff t now).toNat

/-! Performance counters -/

/-- Counter `k` of page index `p`: its copy in the counter fields (VAT clusters count under 128 + c). -/
def perfCopy (p k : Nat) : Nat := p * 8 + k

/-- The interrupt source of a page's counters (R350): VAT clusters report under VAT. -/
def perfSource (p : Nat) : Nat := if 128 ≤ p then 35 else if 64 ≤ p then p - 64 + 19 else p

/-- A page's counters stand still (R432, R433). -/
def State.perfStopped (s : State) (p : Nat) : Bool := s.on C_PERF_FREEZE p || s.flt.frozen

/-- INT_STAT bit `b` of page index `p` is set with no event counted. -/
def State.setInt (s : State) (p b : Nat) : State := s.wr C_INT_STAT (setBit (s.rd C_INT_STAT p) b) p

/-- The page interrupt: the OR of INT_STAT AND INT_EN (R350). -/
def State.intLine (s : State) (p : Nat) : Bool := s.rd C_INT_STAT p &&& s.rd C_INT_EN p != 0

/-- Source `src` sends its MSI-X message, or leaves it pending when the vector is masked (R350, R351). -/
def State.sendMsix (s : State) (src : Nat) : State :=
  if s.rd PCI_IR_EN src == 0 then s
  else
    let f := s.rd PCI_IR_FUNC src
    let v := s.rd PCI_IR_VECTOR src
    if smGet s.msixOn (f * 256 + v) == 1 then s.emit (.msix f v)
    else { s with msixPend := smSet s.msixPend (f * 256 + v) 1 }

/-- Ring set `n` has an enabled RS_INT bit (R371, R372). -/
def State.ringLine (s : State) (n : Nat) : Bool := s.rd DMA_RS_RS_INT n &&& s.rd DMA_RS_RS_INT_EN n != 0

/-- The interrupt source line of page `p` (R350): the page interrupt, ORed for CIPn with that of VFn's ring set (R372). -/
def State.srcLine (s : State) (p : Nat) : Bool :=
  s.intLine p || (decide (20 ≤ p) && decide (p ≤ 34) && s.ringLine (p - 19))

/-- INT_STAT bit `b` of page `p` is set, and a rise of the page interrupt sends its message (R350). -/
def State.raise0 (s : State) (p b : Nat) : State :=
  let t := s.setInt p b
  if t.srcLine p && !s.srcLine p then t.sendMsix (perfSource p) else t

/-- A sampling interrupt of counter `k` of page `p` (R435). -/
def State.perfSample (s : State) (p : Nat) : State :=
  let src := perfSource p
  let s1 := if src < 32 then s.wr FLT_OVF_SRC_LO (setBit (s.rd FLT_OVF_SRC_LO) src)
            else s.wr FLT_OVF_SRC_HI (setBit (s.rd FLT_OVF_SRC_HI) (src - 32))
  let s2 := (s1.wr C_PERF_SAMPLE_LT s.lt32 p).raise0 2 7
  if 128 ≤ p then s2.wr VAT_C_SAMPLE_PC (s.rd VAT_C_PC (p - 128)) (p - 128) else s2

/-- Counter `k` is the odd half of a chained pair (R434). -/
def State.perfChained (s : State) (p k : Nat) : Bool := k % 2 == 1 && s.on C_PERF_CHAIN (perfCopy p k)

/-- Counter `k` of page `p` has wrapped on its own or as a pair: OVF and its sampling interrupt (R434, R435). -/
def State.perfOvf (s : State) (p k : Nat) : State :=
  let s1 := s.wr C_PERF_OVF (setBit (s.rd C_PERF_OVF p) k) p
  if s.on C_PERF_SAMPLE (perfCopy p k) then s1.perfSample p else s1

/-- The 48-bit value of a counter. -/
def State.perfVal (s : State) (p k : Nat) : Nat := s.rd64 C_PERF_VAL_LO C_PERF_VAL_HI (perfCopy p k)

/-- A counter written. -/
def State.perfSet (s : State) (p k v : Nat) : State :=
  s.wr64 C_PERF_VAL_LO C_PERF_VAL_HI (v % 2 ^ 48) (perfCopy p k)

/-- What follows a wrap of counter `k` (R434): a chained partner counts it, else OVF is set. -/
def State.perfWrapped (s : State) (p k : Nat) : State :=
  if k % 2 == 0 && s.perfChained p (k + 1) then
    let v := s.perfVal p (k + 1) + 1
    let s1 := s.perfSet p (k + 1) v
    if v < 2 ^ 48 then s1 else s1.perfOvf p (k + 1)
  else s.perfOvf p k

/-- Counter `k` adds `n` (R433, R434). -/
def State.perfAdd (s : State) (p k n : Nat) : State :=
  let v := s.perfVal p k + n
  let s1 := s.perfSet p k v
  if v < 2 ^ 48 then s1 else s1.perfWrapped p k

/-- One counting cycle of counter `k` in which its event delivers `v` (R433). -/
def State.perfTick (s : State) (p code v k : Nat) : State :=
  let c := perfCopy p k
  if s.on C_PERF_EN c && s.rd C_PERF_EVENT c == code && !s.perfChained p k then
    let n := if s.on C_PERF_THR_EN c then b2n (decide (s.rd C_PERF_THRESH c < v)) else v
    if n == 0 then s else s.perfAdd p k n
  else s

/-- An event of page `p` with value `v` (R433, R436). -/
def State.perf (s : State) (p code : Nat) (v : Nat := 1) : State :=
  if s.perfStopped p then s
  else
    let n := if 128 ≤ p then 8 else if (pageInfo p).perf8 then 8 else 4
    (List.range n).foldl (fun t k => t.perfTick p code v k) s

/-- INT_STAT bit `b` of page `p` is set by hardware: the interrupt of R350 and the common event 0xF3 of R436. -/
def State.raise (s : State) (p b : Nat) : State := (s.raise0 p b).perf p 0xF3

/-- `raise` when `c` holds. -/
def State.raiseIf (s : State) (c : Bool) (p b : Nat) : State := if c then s.raise p b else s

/-- LT_STATE becomes `x`; TB0's STATE mirrors it, with TB_LOCK and TB_UNLOCK (R279, R295). -/
def State.setLtState (s : State) (x : Nat) : State :=
  let o := s.rd LTM_STATE
  ((s.wr LTM_STATE x).raiseIf (x == ltLocked && o != ltLocked) 11 0).raiseIf (x != ltLocked && o == ltLocked) 11 1

/-- The function of user page or ring set `n`: PF0 for 0, VFn for n (R272, R368). -/
def ownerFn (n : Nat) : Nat := if n == 0 then 0 else n + 1

/-! Arbitration -/

/-- The current order of requester table `t` with `n` requesters: ascending until a win moves one (R32). -/
def State.order (s : State) (t n : Nat) : List Nat := amGetD (List.range n) s.orders t

/-- The winner among `cs` in table `t` (R32). -/
def State.winner (s : State) (t n : Nat) (cs : List Nat) : Option Nat :=
  if cs.length ≤ 1 then cs.head? else (s.order t n).find? fun i => cs.contains i

/-- The winner moves to the end of the order (R32). -/
def State.won (s : State) (t n w : Nat) : State :=
  let o := s.order t n
  { s with orders := amSet s.orders t ((o.filter (· != w)) ++ [w]) }

/-- The contenders `cs` in the order in which they are served in one cycle, and the state after all of them (R32); a lone one is served
without arbitration. -/
def State.serveAll (s : State) (t n : Nat) (cs : List Nat) : List Nat × State :=
  if cs.length ≤ 1 then (cs, s)
  else
    let l := (s.order t n).filter fun i => cs.contains i
    (l, l.foldl (fun u w => if 1 < l.length then u.won t n w else u) s)

/-! Sealed shadows -/

/-- The sealed shadow of a page. -/
def State.sealOf (s : State) (p : Nat) : Option Sealed := s.seals.find? fun x => x.page == p

/-- A region's or page's shadow was kept through its gating and has not applied yet: it accepts no work before that (R30). -/
def State.keepsShadow (s : State) (p : Nat) (sel : Nat → Bool) : Bool :=
  (s.sealOf p).any fun x => x.fields.any fun f => f.kept && sel f.key

/-! The mode -/

/-- The burst builder and its grants work in these modes. -/
def State.inMode (s : State) (ms : List Mode) : Bool := ms.contains s.mode

/-- RESET and STABLE: the host side of the terminal is not running. -/
def State.dark (s : State) : Bool := s.mode == .reset || s.mode == .stable

end Sys2Proof.Machine
end

