-- ==== Sys2Proof/Machine/Faults.lean ====
section
/-! DEFINITION. Reporting a fault: local status (R431), the collector's records (R423, R424), the class actions (R421), ERR_N
(R425), the withdrawal of leave (R31) and the transmitter-silence safe state (R426), with what it does to bursts, containers
and messages (R127, R214); and TXDIS_N (R478). -/

namespace Sys2Proof.Machine

/-! Fault causes (R422) -/

def cClkStop : Nat := 0x01
def cLtSkew : Nat := 0x02
def cUnitParity : Nat := 0x03
def cPgmParity : Nat := 0x04
def cVatProg : Nat := 0x05
def cBusErr : Nat := 0x06
def cClsParity : Nat := 0x07
def cRingBad : Nat := 0x08
def cAccessViol : Nat := 0x09
def cFreeReject : Nat := 0x0A
def cReadLate : Nat := 0x0B
def cDdrCe : Nat := 0x0C
def cDdrUe : Nat := 0x0D
def cMetaUeOne : Nat := 0x0E
def cMetaUeBoth : Nat := 0x0F
def cCipMismatch : Nat := 0x10
def cCipMismatch3 : Nat := 0x11
def cGuardTrip : Nat := 0x12
def cLockViol : Nat := 0x13
def cRefBad : Nat := 0x14
def cD2dRetry : Nat := 0x15
def cD2dFail : Nat := 0x16
def cAggParity : Nat := 0x17
def cThermWarn : Nat := 0x18
def cThermCrit : Nat := 0x19
def cSelf : Nat := 0x1A
def cFltClock : Nat := 0x1B

/-- The class of a cause: 1 corrected, 2 contained, 3 fatal (R422); codes that do not occur have class 0. -/
def faultClass (c : Nat) : Nat :=
  if c == 0x02 || c == 0x0C || c == 0x0E || c == 0x15 then 1
  else if c == 0x0F || c == 0x11 || c == 0x12 || c == 0x16 || c == 0x19 || c == 0x1A || c == 0x1B then 3
  else if 1 ≤ c && c ≤ 0x18 then 2 else 0

/-- The package as a source (R438). -/
def srcPackage (detail : Nat := 0) : FaultSrc := { level := 4, region := 28, detail := detail }

/-- A region as a source. -/
def srcRegion (r : Nat) (detail : Nat := 0) : FaultSrc := { level := 2, region := r, detail := detail }

/-- The region that holds DDR channel `ch` (R25). -/
def ddrRegion (ch : Nat) : Nat := 17 + ch / 4

/-! TXDIS_N (R478) -/

/-- The conditions under which TXDIS_N is released (R478). -/
def State.txAllowed (s : State) : Bool :=
  ((s.inMode [.join, .service] && !s.on UPB_SILENCED && !s.on FLT_SAFE && !s.on UPB_GUARD_TRIP)
    || (s.mode == .factory && !s.on FLT_SAFE && !s.on UPB_GUARD_TRIP)) && s.on UPB_TX_EN && !s.flt.hbLost

/-- LAUNCH_OK (R60): LT is LOCKED and the burst builder may start bursts (R40, R145, R426). -/
def State.launchOk (s : State) : Bool := s.ltIs ltLocked && s.txAllowed

/-- TXDIS_N after a change of its conditions: a burst in the air keeps it released until its ramp down (R478). -/
def State.updTxdis (s : State) : State :=
  if s.txAllowed then { s with pins := { s.pins with txdisN := true } }
  else if s.on UPB_TX_LIT && !s.on FLT_SAFE && !s.on UPB_GUARD_TRIP && s.pins.txdisN then s
  else { s with pins := { s.pins with txdisN := false } }

/-- TXDIS_N asserted at once (R169, R426, R429). -/
def State.assertTxdis (s : State) : State := { s with pins := { s.pins with txdisN := false } }

/-! Held lists of allocations (R214, R239) -/

/-- The held list of an allocation, oldest first. -/
def State.heldOf (s : State) (al : Nat) : List Held := amGetD [] s.held al

/-- A handle (R236): index and generation. -/
def handleOf (idx gen : Nat) : Nat := idx * 32 + gen % 32
def hIndex (h : Nat) : Nat := h / 32
def hGen (h : Nat) : Nat := h % 32

/-- The ownership entry of a container (R236). -/
def State.ownOf (s : State) (exp : Bool) (idx : Nat) : Own :=
  if exp then amGetD { owner := 0xFF } s.cave.expOwn idx
  else amGetD { owner := if idx < s.rd CAV_POOL_BASE then 0xFE else 0xFF } s.cave.own idx

/-- An ownership entry written, both copies alike (R236). -/
def State.setOwn (s : State) (exp : Bool) (idx : Nat) (o : Own) : State :=
  if exp then { s with cave := { s.cave with expOwn := amSet s.cave.expOwn idx o } }
  else { s with cave := { s.cave with own := amSet s.cave.own idx o } }

/-- LINK of each container of a list names the next one of its store (R236, R239); the last one's is left. -/
def State.relink (s : State) (l : List (Bool × Nat)) : State :=
  (l.zip (l.drop 1)).foldl (fun t e =>
    let o := t.ownOf e.1.1 e.1.2
    if e.1.1 == e.2.1 && o.link != e.2.2 then t.setOwn e.1.1 e.1.2 { o with link := e.2.2 } else t) s

/-- The held list of an allocation becomes `l`, linked in its order (R239); OCC shows its length, and OCC_SAT its first passing of 65,535
(R214). -/
def State.setHeld (s : State) (al : Nat) (l : List Held) : State :=
  let occ := (s.heldOf al).length
  let t := { s with held := amPut [] s.held al l }.relink (l.map fun (c : Held) => (c.exp, hIndex c.handle))
  (t.wr QSH_AL_OCC l.length al).raiseIf (decide (occ ≤ 65535) && decide (65535 < l.length)) 14 4

/-- SEQ `a` comes before `b` in an allocation's order (R213): the numbers wrap at the register's width. -/
def seqBefore (a b : Nat) : Bool :=
  let m := 2 ^ QSH_AL_SEQ_NEXT.w
  decide (0 < (b + m - a % m) % m) && decide ((b + m - a % m) % m < m / 2)

/-- Containers of a burst that is not sent go back to their allocation's held list ahead of every newer one, in SEQ order (R214, R239). -/
def State.returnHeld (s : State) (al : Nat) (cs : List Held) : State :=
  match cs with
  | [] => s
  | c :: _ =>
    let older := (s.heldOf al).takeWhile fun x => seqBefore x.seq c.seq
    let newer := (s.heldOf al).dropWhile fun x => seqBefore x.seq c.seq
    ((s.setHeld al (older ++ cs ++ newer)).inc64 QSH_AL_RETURNED_LO QSH_AL_RETURNED_HI cs.length al).raise 14 5

/-- Messages of a burst that is not sent go back to the queue ahead of every one queued later, in their order (R127). -/
def returnMsgs (ms q : List UMsg) : List UMsg :=
  match ms with
  | [] => q
  | m :: _ => (q.takeWhile fun x => decide (x.seq < m.seq)) ++ ms ++ (q.dropWhile fun x => decide (x.seq < m.seq))

/-! The calendar and committed bursts -/

/-- Field [hi:lo] of a grant (R147). -/
def gAlloc (g : Nat) : Nat := bits g 109 104
def gTid (g : Nat) : Nat := bits g 127 110
def gSfLo (g : Nat) : Nat := bits g 103 100
def gMf (g : Nat) : Nat := bits g 99 93
def gFr (g : Nat) : Nat := bits g 92 87
def gSl (g : Nat) : Nat := bits g 86 80
def gLen (g : Nat) : Nat := bits g 79 70
def gScmask (g : Nat) : Nat := bits g 69 54
def gProf (g : Nat) : Nat := bits g 53 49
def gKind (g : Nat) : Nat := bits g 48 46
def gPre (g : Nat) : Nat := bits g 45 43
def gCancel (g : Nat) : Bool := bit g 42
def gStanding (g : Nat) : Bool := bit g 41
def gPeriodCode (g : Nat) : Nat := bits g 40 39
def gCrc (g : Nat) : Nat := bits g 15 0

/-- The repeat period of a standing grant in ticks (R147). -/
def gPeriod (g : Nat) : Nat :=
  match gPeriodCode g with
  | 0 => frameTicks | 1 => 8 * frameTicks | 2 => mfTicks | _ => sfTicks

/-- The calendar becomes `c`; CAL_COUNT and STANDING_COUNT follow (R172). -/
def State.setCal (s : State) (c : List (Nat × Grant)) : State :=
  ({ s with up := { s.up with cal := c } }.wr UPB_CAL_COUNT c.length).wr UPB_STANDING_COUNT
    (c.filter fun (e : Nat × Grant) => gStanding e.2.bits).length

/-- The calendar is emptied, standing grants included (R152). -/
def State.emptyCal (s : State) : State := s.setCal []

/-- A burst's containers and messages return (R127, R214): it was committed and not launched, or cut in the air. -/
def State.returnBurst (s : State) (b : Burst) : State :=
  let t := s.returnHeld (gAlloc b.bits) b.conts
  { t with up := { t.up with umq := returnMsgs b.msgs t.up.umq }
           cave := { t.cave with opens := t.cave.opens.filter fun o =>
             !(b.conts.any fun c => hIndex c.handle == hIndex o.handle && c.exp == o.exp) } }

/-- A burst is in the air, a discovery burst included. -/
def State.inAir (s : State) : Bool := s.up.bursts.any Burst.inAir || s.up.disc.isSome

/-- Subcarriers lit by bursts in the air, as a mask (R158). -/
def State.litMask (s : State) : Nat :=
  (s.up.bursts.filter Burst.inAir).foldl (fun a b => a ||| gScmask b.bits) ((s.up.disc.map fun d => d.2.2).getD 0)

/-- Every burst in the air is cut at once (R426, R442). -/
def State.cutAir (s : State) : State :=
  let cut := (s.up.bursts.filter Burst.inAir).map Burst.launch ++ (s.up.disc.map Prod.fst).toList
  cut.foldl (fun u l => u.emit (.burstEnd l true)) s

/-- Every burst is cut or dropped (R426): in the air or committed. -/
def State.cutBursts (s : State) : State :=
  let t := s.up.bursts.foldl State.returnBurst s.cutAir
  let cut := if s.inAir then some s.now else t.up.lastEnd
  ({ t with up := { t.up with bursts := [], lastEnd := cut, disc := none } }).wr UPB_TX_LIT 0

/-! ERR_N and leave -/

/-- An event that makes ERR_N fall (R425). -/
def State.errEvent (s : State) : State :=
  ({ s with flt := { s.flt with errUntil := some (s.now + s.rd FLT_ERR_WIDTH * usTicks), errRel := false }
            pins := { s.pins with errN := false } }).wr FLT_ERR_LOW 1

/-- LEAVE_HELD and the class's HELD follow the leave granted (R418, R419). -/
def State.showLeave (s : State) (cls : Nat) : State :=
  let sum (l : List Leave) := (l.map Leave.watts).foldl (· + ·) 0
  (s.wr PWR_LEAVE_HELD (sum s.pwr.leaves / 10)).wr PWR_LC_HELD (sum (s.pwr.leaves.filter fun l => l.cls == cls) / 10) cls

/-- The die that holds a region (R25): LD, HD, MD0, MD1; the codes 24 to 27 name the dies themselves (R438). -/
def dieOf (region : Nat) : Nat :=
  if 24 ≤ region then region - 24 else if region ≤ 10 then 0 else if region ≤ 16 then 1 else if region ≤ 18 then 2 else 3

/-- A source at this level covers a block of a region (R24, R31): itself below region level, and every block in it from there on. -/
def FaultSrc.covers (src : FaultSrc) (region block : Nat) : Bool :=
  match src.level with
  | 0 | 1 => region == src.region && block == src.cluster
  | 2 => region == src.region
  | 3 => dieOf region == dieOf src.region
  | _ => true

/-- The block that holds a leave: cluster `c` holds the leave of a launch that is still to come under 128 + c (log 205). -/
def Leave.holder (l : Leave) : Nat := if l.cls == 3 then l.block % 128 else l.block

/-- The leave a source's fault withdraws (R31). -/
def leaveOf (src : FaultSrc) (l : Leave) : Bool := src.covers l.region l.holder

/-- A contained or fatal fault withdraws the block's leave, granted and pending (R31, R419): its source is kept for the requests the block
makes in the same cycle. -/
def State.withdrawLeave (s : State) (src : FaultSrc) : State :=
  let gone := s.pwr.leaves.filter (leaveOf src)
  let by_ := if s.pwr.faultedAt == s.now then s.pwr.faulted ++ [src] else [src]
  let t := { s with pwr := { s.pwr with leaves := s.pwr.leaves.filter fun l => !leaveOf src l, faulted := by_, faultedAt := s.now } }
  gone.foldl (fun u l => (u.inc PWR_LC_WITHDRAWN 1 l.cls).showLeave l.cls) t

/-! The safe state -/

/-- Entry into the transmitter-silence safe state (R426), or a further fatal fault in it (R427). -/
def State.safeEntry (s : State) (cause : Nat) : State :=
  let t := { s with flt := { s.flt with clrPend := false, fatalAt := some s.now } }
  if t.on FLT_SAFE then t.wr FLT_RELEASE_SEEN 0
  else
    let t1 := (t.assertTxdis.cutBursts).emptyCal
    let t2 := ((t1.wr FLT_SAFE 1).wr UPB_SIL_FAULT 1).wr FLT_SAFE_CAUSE cause
    (((t2.wr FLT_SAFE_LT t2.lt32).wr FLT_RELEASE_SEEN 0).errEvent).raise 2 4

/-! The collector -/

/-- The counters of records created and of reports without a record, by class (R437). -/
def classCount (c : Nat) : Fld := if c == 1 then FLT_CORR_COUNT else if c == 2 then FLT_CONT_COUNT else FLT_FATAL_COUNT
def classLost (c : Nat) : Fld := if c == 1 then FLT_LOST_CORR else if c == 2 then FLT_LOST_CONT else FLT_LOST_FATAL

/-- Record `n` is OPEN, CLOSED or EMPTY (R438). -/
def State.recState (s : State) (n : Nat) : Nat := s.rd FLT_REC_RSTATE n

/-- OPEN_COUNT follows the records (R437). -/
def State.showOpen (s : State) : State :=
  s.wr FLT_OPEN_COUNT ((List.range 64).filter fun n => s.recState n == 1).length

/-- The entry a new record of class `cls` takes (R424). -/
def State.recPlace (s : State) (cls : Nat) : Option Nat :=
  match (List.range 64).find? fun n => s.recState n == 0 with
  | some n => some n
  | none =>
    match s.flt.order.find? fun n => s.recState n == 2 with
    | some n => some n
    | none =>
      match s.flt.order.find? fun n => s.recState n == 1 && s.rd FLT_REC_CLASS n == 1 with
      | some n => some n
      | none =>
        if cls == 3 then s.flt.order.find? fun n => s.recState n == 1 && s.rd FLT_REC_CLASS n == 2 else none

/-- A record written (R438). -/
def State.writeRec (s : State) (n cause cls dup : Nat) (src : FaultSrc) (inj : Bool) : State :=
  let a := (((s.wr FLT_REC_CAUSE cause n).wr FLT_REC_CLASS cls n).wr FLT_REC_LEVEL src.level n).flag FLT_REC_INJ inj n
  let b := ((a.wr FLT_REC_CLOSE 0 n).wr FLT_REC_RSTATE 1 n).wr FLT_REC_REGION src.region n
  let c := ((b.wr FLT_REC_CLUSTER src.cluster n).wr FLT_REC_UNIT src.unit n).wr FLT_REC_DETAIL src.detail n
  let d := (c.wr FLT_REC_FIRST_LT c.lt32 n).wr FLT_REC_DUP (satU 16 dup) n
  { d with flt := { d.flt with order := (d.flt.order.filter (· != n)) ++ [n] } }

/-- The class action of R421 for a report that made a record, or found no place (`made` false). -/
def State.classAction (s : State) (cause cls : Nat) (src : FaultSrc) : State :=
  let t := s.raise 2 (cls - 1)
  let t := if cls != 1 || t.on FLT_ERR_CORR then t.errEvent else t
  let t := if 2 ≤ cls then t.withdrawLeave src else t
  if cls == 3 then t.safeEntry cause else t

/-- A report at the collector (R423, R424, R427), in the modes in which its domain runs (R34). -/
def State.collect (s : State) (cause dup : Nat) (src : FaultSrc) (inj : Bool := false) : State :=
  let cls := faultClass cause
  if s.dark || cls == 0 then s
  else
    match (List.range 64).find? fun n =>
        s.recState n == 1 && s.rd FLT_REC_CAUSE n == cause && s.rd FLT_REC_REGION n == src.region with
    | some n =>
      let t := (s.incSat FLT_REC_DUP (1 + dup) n).inc FLT_DUP_TOTAL (1 + dup)
      let t := if 2 ≤ cls then t.withdrawLeave src else t
      if cls == 3 then t.safeEntry cause else t
    | none =>
      match s.recPlace cls with
      | some n =>
        let t := (((s.writeRec n cause cls dup src inj).inc (classCount cls)).inc FLT_DUP_TOTAL dup).showOpen
        t.classAction cause cls src
      | none => ((s.inc (classLost cls)).raise 2 3).classAction cause cls src

/-- The page's local fault status takes a report (R431). -/
def State.localFault (s : State) (cause pg ch : Nat) : State :=
  if s.on C_LF_VALID pg then s.incSat C_LF_DUP 1 pg
  else (((s.wr C_LF_CAUSE cause pg).wr C_LF_CLASS (faultClass cause) pg).wr C_LF_VALID 1 pg).wr C_LF_SOURCE ch pg

/-- The page masks reports of this class (R431); a fatal fault cannot be masked. -/
def State.faultMasked (s : State) (cause pg : Nat) : Bool :=
  (faultClass cause == 1 && s.on C_MASK_CORR pg) || (faultClass cause == 2 && s.on C_MASK_CONT pg)

/-- A fault of page `pg`, channel `ch`: local status, event, and the report unless it is masked. -/
def State.fault (s : State) (cause : Nat) (src : FaultSrc) (pg : Nat) (ch : Nat := 0) (dup : Nat := 0) : State :=
  let t := (s.localFault cause pg ch).perf pg 0xF4
  if s.faultMasked cause pg then t else t.collect cause dup src

end Sys2Proof.Machine
end

