-- ==== Sys2Proof/Machine/Leave.lean ====
section
/-! DEFINITION. The power governor: the charge against the budget and the answer to a request for leave (R413 to R416). All
powers are in units of 0.01 W; the PWR page shows tenths of a watt. -/

namespace Sys2Proof.Machine

/-- The leave classes (R414). -/
def lcConvCal : Nat := 0
def lcDdrRetrain : Nat := 1
def lcScrub : Nat := 2
def lcVat : Nat := 3
def lcCipher : Nat := 4
def lcPhy : Nat := 5

/-- The power of a vat class (R307). -/
def vatClassPower (c : Nat) : Nat :=
  match c with
  | 0 => 15 | 1 => 30 | 2 => 45 | _ => 60

/-- The standing charge of the clusters of powered regions whose LINE bit is `line` (R307). -/
def State.vatStanding (s : State) (line : Bool) : Nat :=
  ((List.range 128).filter fun c => bit (s.rd VAT_REGION_EN) (c / 16) && s.on VAT_C_LINE c == line).foldl
    (fun a c => a + vatClassPower (s.rd VAT_C_STD_CLASS c)) 0

/-- Fenkai lanes awake: lanes 16 to 23 (R416). -/
def State.fenkaiAwake (s : State) : Nat :=
  ((List.range 8).filter fun l => s.on SER_L_TX_AWAKE (16 + l) || s.on SER_L_RX_AWAKE (16 + l)).length

/-- What the client ports kept up in GRAZE add: 0.6 W for each lane (R406). -/
def State.keptPower (s : State) : Nat :=
  60 * (((List.range 16).filter fun p => s.on CLP_P_EN p && bit (s.rd PWR_CLIENT_WAKE_MASK) p).map fun p =>
    2 ^ (s.rd CLP_P_MODE p % 4)).foldl (· + ·) 0

/-- BASE of the mode in force, without the line path (R413, R416). DEDUCED (log 8) outside SERVICE: the mode's total of R417
less its line allotment. DESIGN CHOICE (log 199): FACTORY, whose power R35 leaves unspecified, reads SERVICE's figures, here and in ALLOT. -/
def State.basePower (s : State) : Nat :=
  match s.mode with
  | .service | .factory => 6000 + s.vatStanding false
  | .listen | .join => 1500
  | .boot => 4000
  | .graze => 245 + s.keptPower
  | .reset => 300
  | .stable => 45

/-- ALLOT, the line path's standing allotment (R416). -/
def State.allotPower (s : State) : Nat :=
  match s.mode with
  | .service | .factory => 6200 + 4600 + s.vatStanding true + 80 * s.fenkaiAwake
  | .listen => 4500
  | .join => 6000
  | .graze | .boot | .reset | .stable => 0

/-- LEAVE, the sum of the leave granted. -/
def State.leavePower (s : State) : Nat := (s.pwr.leaves.map Leave.watts).foldl (· + ·) 0

/-- PKG_BUDGET in 0.01 W. -/
def State.budget (s : State) : Nat := s.rd PWR_PKG_BUDGET * 10

/-- BASE, ALLOT and BUDGET_LOW follow the mode and the budget; a rise of BUDGET_LOW sets its interrupt (R413, R420). -/
def State.showPower (s : State) : State :=
  let low := decide (s.budget < s.basePower + s.allotPower)
  let was := s.on PWR_BUDGET_LOW
  let t := ((s.wr PWR_BASE (s.basePower / 10)).wr PWR_ALLOT (s.allotPower / 10)).flag PWR_BUDGET_LOW low
  t.raiseIf (low && !was) 1 5

/-- A sleep entry is under way: pending requests are refused (R403, R415). -/
def State.entering (s : State) : Bool := s.pwr.transit == some .graze || s.pwr.transit == some .stable

/-- A die is at or above TJ_WARN, as the last sample judged it: a new TJ_WARN applies from the next one (R465). -/
def State.tooWarm (s : State) : Bool := s.pwr.warm

/-- A request for `w` fits the budget (R413); while a die is at or above TJ_WARN none is granted (R465). -/
def State.leaveFits (s : State) (w : Nat) : Bool :=
  !s.entering && !s.tooWarm && decide (s.basePower + s.allotPower + s.leavePower + w ≤ s.budget)

/-- A contained or fatal fault of the block was reported in this cycle: the request it makes is withdrawn (R31). -/
def State.blockFaulted (s : State) (l : Leave) : Bool :=
  s.pwr.faultedAt == s.now && s.pwr.faulted.any fun src => src.covers l.region l.holder

/-- What remains of the share of the die that holds region `r` (R415). -/
def State.shareOf (s : State) (r : Nat) : Nat := s.pwr.shares.getD (dieOf r) 0

/-- A request passes from its unit by cluster and region to its die, since no level below the die holds a share (R26, R415); what the die's
remaining share covers is answered there, and all else goes on to the governor (R29). -/
def State.atDie (s : State) (l : Leave) : Bool := decide (l.watts ≤ s.shareOf l.region)

/-- A request for leave is granted or refused: the charge of R413 binds the answer at either level (log 164), and a grant made at the die
comes out of its share. -/
def State.askLeave (s : State) (l : Leave) : Bool × State :=
  if s.leaveFits l.watts && !s.blockFaulted l then
    let d := dieOf l.region
    let sh := if s.atDie l then putAt s.pwr.shares d (s.shareOf l.region - l.watts) else s.pwr.shares
    (true, ({ s with pwr := { s.pwr with leaves := s.pwr.leaves ++ [l], shares := sh } }.inc PWR_LC_GRANTED 1 l.cls).showLeave l.cls)
  else (false, s.inc PWR_LC_REFUSED 1 l.cls)

/-- The requester table of the governor, ranked by class (R415). -/
def rtGov : Nat := 2

/-- The requests of one cycle (R415): the dies answer what their shares cover, and the governor judges the rest by the arbitration rule
over their classes, each against the charge left by those before it. -/
def State.askAll (s : State) (ls : List Leave) : State :=
  let (own, gov) := ls.partition s.atDie
  let t := forEach own s fun t l => (t.askLeave l).2
  let (cs, t) := t.serveAll rtGov 6 (gov.map Leave.cls)
  forEach (cs.flatMap fun c => gov.filter fun l => l.cls == c) t fun t l => (t.askLeave l).2

/-- The block returns the leave it holds in a class (R414). -/
def State.giveLeave (s : State) (cls region block : Nat) : State :=
  ({ s with pwr := { s.pwr with leaves := s.pwr.leaves.filter fun l =>
      !(l.cls == cls && l.region == region && l.block == block) } }).showLeave cls

/-- A block holds leave in a class. -/
def State.hasLeave (s : State) (cls region block : Nat) : Bool :=
  s.pwr.leaves.any fun l => l.cls == cls && l.region == region && l.block == block

/-- The leave a block holds in a class passes to another. -/
def State.passLeave (s : State) (cls region block goal : Nat) : State :=
  { s with pwr := { s.pwr with leaves := s.pwr.leaves.map fun l =>
      if l.cls == cls && l.region == region && l.block == block then { l with block := goal } else l } }

/-- All leave held is returned (R403). -/
def State.giveAllLeave (s : State) : State :=
  (List.range 6).foldl (fun t c => t.showLeave c) { s with pwr := { s.pwr with leaves := [] } }

/-- The mode becomes `m`: TXDIS_N and the power figures follow it. -/
def State.setMode (s : State) (m : Mode) : State := ({ s with mode := m }).updTxdis.showPower

/-- A transition to `m` starts (R36); the mode changes when it completes. -/
def State.startTransit (s : State) (m : Mode) : State :=
  ({ s with pwr := { s.pwr with transit := some m } }).wr PWR_IN_TRANSIT 1

/-! Wake causes (R406, R410, R412) -/

/-- Bits of WAKE_LATCH and WAKE_CAUSE (R418). -/
def wkSd : Nat := 0
def wkTone : Nat := 1
def wkTw : Nat := 2
def wkMap : Nat := 3
def wkClient : Nat := 4
def wkTimer : Nat := 5

/-- A wake source fires (R406, R410, R412): it is latched while an entry runs that it can end, and wakes a terminal asleep. -/
def State.latchWake (s : State) (b : Nat) : State :=
  let stableSrc := decide (b ≤ 2)
  if stableSrc && !bit (s.rd PWR_WAKE_EN) b then s
  else if s.pwr.transit == some (if stableSrc then .stable else .graze) then
    s.wr PWR_WAKE_LATCH (setBit (s.rd PWR_WAKE_LATCH) b)
  else if s.mode == (if stableSrc then .stable else .graze) && s.pwr.transit.isNone then
    { s with pwr := { s.pwr with wake := setBit s.pwr.wake b } }
  else s

/-- The wake map names the terminal, or counts as naming it (R405). -/
def State.mapHit (s : State) : State :=
  ({ s with pwr := { s.pwr with mapDone := true } }.inc PWR_MAP_HITS).latchWake wkMap

/-- The terminal is in a GRAZE window whose map has not been judged yet (R405). -/
def State.wakeWindow (s : State) : Bool := s.mode == .graze && s.pwr.awake && !s.pwr.mapDone

end Sys2Proof.Machine
end

