-- ==== Sys2Proof/Machine/RxOps.lean ====
section
/-! DEFINITION. What the receive chain shares: carriers and their acquisition state (R83), subcarriers and their loss of frame
(R97), streams and the place in them (R101), the symbol rate (R63) and payload sizes (R69, R72). -/

namespace Sys2Proof.Machine

/-! Subcarriers and streams -/

/-- Subcarrier `sc`. -/
def State.subOf (s : State) (sc : Nat) : Sub := amGetD {} s.rx.subs sc

/-- Subcarrier `sc` becomes `f` of it. -/
def State.mapSub (s : State) (sc : Nat) (f : Sub → Sub) : State :=
  { s with rx := { s.rx with subs := amPut {} s.rx.subs sc (f (s.subOf sc)) } }

/-- The number of the control stream among the chains. -/
def ctlStream : Nat := 0x200

/-- Stream `st`. -/
def State.chain (s : State) (st : Nat) : Chain := amGetD {} s.rx.chains st

/-- Stream `st` becomes `f` of it. -/
def State.mapChain (s : State) (st : Nat) (f : Chain → Chain) : State :=
  { s with rx := { s.rx with chains := amPut {} s.rx.chains st (f (s.chain st)) } }

/-- The place in a stream is lost; on the control stream a GRANTS record part way through ends with it (R104, R107). -/
def State.losePlace (s : State) (st : Nat) : State :=
  let t := s.mapChain st fun c => { c with place := none, ptr := none, behind := false }
  if st == ctlStream then { t with rx := { t.rx with grants := 0 } } else t

/-- The stream number of a group's data (R266). -/
def groupStream (cg : Nat) : Nat := 0x100 + cg

/-- The source under which the blocks of a remote member are kept. -/
def remoteSrc (cg pos : Nat) : Nat := 0x10000 + cg * 256 + pos

/-- A stream has no current multiframe any more (R264): its key and its entry are no longer in use. -/
def State.endStream (s : State) (st : Nat) : State :=
  let t := s.losePlace st
  { t with cip := { t.cip with streams := amDel (amDel t.cip.streams st) (st + 0x400), dnUsed := amDel t.cip.dnUsed st } }

/-- The control subcarrier (R81). -/
def State.ctrlSc (s : State) : Nat := s.rd LRX_CTRL_SC

/-- Subcarrier `sc` is in frame. -/
def State.inFrame (s : State) (sc : Nat) : Bool := s.on FRM_SC_IN_FRAME sc

/-- Subcarrier `sc` is multiframe-aligned. -/
def State.aligned (s : State) (sc : Nat) : Bool := s.on FRM_SC_MF_ALIGNED sc

/-- The control stream's parser holds its place (R104). -/
def State.parsing (s : State) : Bool := (s.chain ctlStream).place.isSome

/-! Losing a subcarrier -/

/-- A condition of R112 is met. -/
def State.meet (s : State) (d : Defect) (set : Bool) : State :=
  if s.rx.met.contains (d, set) then s else { s with rx := { s.rx with met := s.rx.met ++ [(d, set)] } }

/-- A group that delivers in this multiframe stops at once (R97, R99, R108, R111): it is not complete, and delivers nothing more. -/
def State.groupStop (s : State) (cg : Nat) : State :=
  match s.rx.groupOn.find? fun g => s.rd FRM_GRP_CG_ID g == cg with
  | some g =>
    let t := { s with rx := { s.rx with groupOn := s.rx.groupOn.filter (· != g) } }
    ((t.wr FRM_GRP_COMPLETE 0 g).inc FRM_GRP_MF_DROPPED 1 g).endStream (groupStream cg)
  | none => s

/-- A subcarrier's stream and that of its group stop at once (R97, R99). -/
def State.stopDelivery (s : State) (sc : Nat) : State :=
  let t := (s.mapSub sc fun b => { b with deliver := false }).endStream sc
  if s.rd FRM_SC_CG_SIZE sc == 0 then t else t.groupStop (s.rd FRM_SC_CG sc)

/-- Multiframe alignment of a subcarrier is lost (R99): delivery stops, and the search for two consistent MFIs begins. -/
def State.loseAlign (s : State) (sc : Nat) : State :=
  let t := if s.aligned sc then s.mapSub sc fun b => { b with alignSince := s.now } else s
  let t := (t.wr FRM_SC_MF_ALIGNED 0 sc).mapSub sc fun b => { b with mfi := none, bad := 0, label := none, noLabel := false }
  let t := t.stopDelivery sc
  if sc == t.ctrlSc then t.losePlace ctlStream else t

/-- A subcarrier goes to SEARCH with no candidates (R97). -/
def State.subDrop (s : State) (sc : Nat) : State :=
  let t := if s.inFrame sc then (s.inc FRM_SC_OOF_COUNT 1 sc).mapSub sc fun b => { b with since := s.now } else s
  let t := (t.loseAlign sc).mapSub sc fun b => { b with cands := [], run := 0, trace := [], traceRun := 0 }
  (t.wr FRM_SC_IN_FRAME 0 sc).wr FRM_SC_CANDIDATES 0 sc

/-! Carriers -/

/-- The acquisition state of carrier `c` (R83). -/
def acqFld (c : Nat) : Fld := if c == 0 then LRX_ACQ_STATE_A else LRX_ACQ_STATE_B
def State.acq (s : State) (c : Nat) : Nat := s.rd (acqFld c)

/-- The subcarriers of carrier `c`. -/
def scsOf (c : Nat) : List Nat := (List.range 16).map fun i => 16 * c + i

/-- The CD hint of a carrier, and its valid bit (R85). -/
def hintFld (c : Nat) : Fld × Fld :=
  if c == 0 then (LRX_CD_HINT_A, LRX_CD_HINT_A_VALID) else (LRX_CD_HINT_B, LRX_CD_HINT_B_VALID)

/-- Carrier `c` leaves for an acquisition state before TRACK: its subcarriers go to SEARCH (R97), and before FRAME_SEARCH its
equalisers are no longer converged (DEDUCED, log 12). Its monitored values are no longer VALID (R84). -/
def State.carrierTo (s : State) (c st : Nat) : State :=
  let t := (scsOf c).foldl State.subDrop s
  let t := if st < 5 then (scsOf c).foldl (fun u sc => u.wr LRX_EQ_CONV 0 sc) t else t
  let t := if st ≤ 1 then { t with rx := { t.rx with fullSearch := clrBit t.rx.fullSearch c } } else t
  ((List.range 6).foldl (fun u k => u.wr LMS_VALID 0 (c * 6 + k)) t).wr (acqFld c) st

/-- The decoder's fixed latency at a symbol rate in ticks, rounded down (R73): 16 blocks at p = 0, of 3,072 symbols each on a subcarrier, and
2 µs. -/
def decoderTicks (rate : Nat) : Nat := 16 * 3072 * 16 * usTicks / rate + 2 * usTicks

/-- The latencies inside the terminal at the symbol rate in force (R37, R73): the spec gives the decoder's share, and of the rest no value (log
13). -/
def State.newLatency (s : State) : State :=
  let r := s.rd LRX_SYM_RATE
  (s.wr LTM_DEV_RX_LAT (decoderTicks r + (Config.rxLatency r).toNat)).wr LTM_DEV_TX_LAT (Config.txLatency r).toNat

/-- The symbol rate in force becomes `v` (R63): the ADCs are retuned and every enabled carrier restarts from GAIN. -/
def State.setRate (s : State) (v : Nat) : State :=
  if v == s.rd LRX_SYM_RATE then s
  else [0, 1].foldl (fun t c => if t.acq c == 0 then t else t.carrierTo c 1) (s.wr LRX_SYM_RATE v).newLatency

/-- Both carriers are switched on, to GAIN, or off, to IDLE (R83); one that is switched off has not fallen out of frame (R116). -/
def State.carriersOn (s : State) : State := [0, 1].foldl (fun t c => if t.acq c == 0 then t.carrierTo c 1 else t) s
def State.carriersOff (s : State) : State :=
  let quiet (t : State) (sc : Nat) : State :=
    if t.inFrame sc then (t.wr FRM_SC_IN_FRAME 0 sc).mapSub sc fun b => { b with since := t.now } else t
  [0, 1].foldl (fun t c => t.carrierTo c 0) ((List.range 32).foldl quiet s)

/-- A carrier enters TRACK (R83): its control subcarrier is in frame, or else every subcarrier's equaliser has converged and every subcarrier
is in frame. -/
def State.tryTrack (s : State) (c : Nat) : State :=
  let ready := if s.ctrlSc / 16 == c then s.inFrame s.ctrlSc else (scsOf c).all fun sc => s.on LRX_EQ_CONV sc && s.inFrame sc
  if s.acq c == 5 && ready then
    let t := { s with rx := { s.rx with stored := setBit s.rx.stored c } }
    (t.wr (acqFld c) 6).raise 7 c
  else s

/-! Payload sizes -/

/-- The decode load of a subcarrier at profile `p`, in units of 1/576,000 Mb/s (R69, R77). -/
def loadOf (rate p : Nat) : Nat := 7500 * (16 + p) * rate

/-- Whole blocks of a multiframe at profile `p` with `sym` symbols per slot, and its delivered payload bits (R72). -/
def mfCoded (sym p : Nat) : Nat := 1984 * sym * (16 + p)
def mfPayload (sym p : Nat) : Nat :=
  let c := mfCoded sym p
  c / 12288 * 10240 + (if 2048 ≤ c % 12288 then c % 12288 - 2048 else 0)

/-- The information bits of block `idx` of a multiframe's chain (R71, R72): 0 past its end. -/
def blockBits (sym p idx : Nat) : Nat :=
  let c := mfCoded sym p
  if idx < c / 12288 then 10240 else if idx == c / 12288 then c % 12288 - 2048 else 0

/-- Bytes a multiframe adds to a stream of `n` members (R100, R109): whole 32-bit words. -/
def mfBytes (sym p n : Nat) : Nat := n * mfPayload sym p / 32 * 4

/-- The profile of a subcarrier: the control subcarrier runs at 0 (R70). -/
def State.profOf (s : State) (sc : Nat) : Nat := if sc == s.ctrlSc then 0 else (s.rx.prof.getD sc 0) % 32

/-- The byte range of a stream of `n` members whose blocks begin in frame `f` (R101). -/
def frameRange (sym p n f : Nat) : Nat × Nat :=
  let b (k : Nat) := ceilDiv (k * 31 * sym * (16 + p)) 12288 * n * 1280
  (b f, b (f + 1))

/-- Block `idx` is the first that begins in its frame (R72). -/
def frameFirst (sym p idx : Nat) : Bool :=
  idx == 0 || (idx - 1) * 12288 / (31 * sym * (16 + p)) != idx * 12288 / (31 * sym * (16 + p))

end Sys2Proof.Machine
end

