-- ==== Sys2Proof/Machine/Line.lean ====
section
/-! DEFINITION. What the line control chapters share: the upstream message queue (R127), responses (R120, R126), failure of a
join (R136), loss of registration (R142), LT reaching FREE, and the grant calendar's own operations (R44, R150 to R156). -/

namespace Sys2Proof.Machine

/-! The upstream message queue -/

/-- Waiting host pushes take the places that are free, oldest first, and free their slots (R127). -/
def State.drainPush (s : State) : State :=
  s.up.waitPush.foldl (fun t n =>
    if t.up.umq.length < 32 && t.up.waitPush.head? == some n then
      let h := t.rd UPB_OUT_SLOT (n * 512)
      let len := bits h 15 0
      let body := (List.range (len / 4)).map fun w => t.rd UPB_OUT_SLOT (n * 512 + 4 + w)
      let m : UMsg := { code := bits h 31 24, seq := t.up.umSeq, body := body, at_ := t.now }
      ({ t with up := { t.up with umq := t.up.umq ++ [m], umSeq := t.up.umSeq + 1
                                  waitPush := t.up.waitPush.drop 1 } }).inc UPB_OUT_FREE
    else t) s

/-- A hardware message joins the queue, or is dropped and counted when it is full or a host push waits (R127). -/
def State.queueMsg (s : State) (code : Nat) (body : List Nat) : State :=
  if 32 ≤ s.up.umq.length || !s.up.waitPush.isEmpty then s.inc UPB_UMSG_DROP
  else
    { s with up := { s.up with umq := s.up.umq ++ [{ code := code, seq := s.up.umSeq, body := body, at_ := s.now }]
                               umSeq := s.up.umSeq + 1 } }

/-- The body of an ACK (R126). -/
def ackBody (code seq status data : Nat) : List Nat := [code * 2 ^ 24 + seq * 2 ^ 16 + status * 2 ^ 8, data % 2 ^ 32]

/-- ACK status codes (R126). -/
def ackOk : Nat := 0
def ackLate : Nat := 1
def ackRefused : Nat := 2
def ackUnknown : Nat := 3
def ackBadFormat : Nat := 4

/-- An ACK is queued (R126). -/
def State.ack (s : State) (code seq status data : Nat) : State := s.queueMsg 0x20 (ackBody code seq status data)

/-- The key of a message set and code: set 0 own TID, set 1 group or broadcast (R120). -/
def keptKey (own : Bool) (code : Nat) : Nat := (if own then 0 else 64) + code

/-- An ACK is queued and kept as the response to the message's SEQ (R120). -/
def State.ackKept (s : State) (own : Bool) (code seq status data : Nat) : State :=
  let m : UMsg := { code := 0x20, seq := 0, body := ackBody code seq status data, at_ := 0 }
  ({ s with join := { s.join with resp := amSet s.join.resp (keptKey own code) m } }).ack code seq status data

/-! Records of the control stream -/

/-- A record taken and used (R104). -/
def State.recOk (s : State) : State := (s.inc FRM_REC_OK).perf 8 0x00

/-- A record discarded (R104, R107, R118). -/
def State.recDiscard (s : State) : State := (s.inc FRM_REC_DISCARD).raise 8 8

/-- The broadcast TID. -/
def broadcastTid : Nat := 262143

/-- A record's TID is the own one (R104). -/
def State.ownTid (s : State) (tid : Nat) : Bool := s.on UPB_TID_VALID && s.rd UPB_TID == tid

/-- A record's TID is the own one, one of the groups, or broadcast; without a TID, broadcast alone (R104). -/
def State.addressed (s : State) (tid : Nat) : Bool :=
  s.ownTid tid || (s.on UPB_TID_VALID && s.join.groups.contains tid) || tid == broadcastTid

/-- The terminal decodes the control stream in this mode (R35, R76). -/
def State.hears (s : State) : Bool := s.inMode [.listen, .join, .service, .graze]

/-- Symbols per slot and subcarrier at the current symbol rate (R72): the rate in MBd over 16. -/
def State.symPerSlot (s : State) : Nat := s.rd LRX_SYM_RATE / 16

/-- Bytes of one multiframe of the control stream (R100). -/
def State.ctlBytes (s : State) : Nat := mfBytes s.symPerSlot 0 1

/-- A FIRST_UNIT that speaks of the header the parser has reached is compared with it (R101, R104). -/
def State.meetPtr (s : State) : State :=
  let c := s.chain ctlStream
  match c.place, c.ptr with
  | some p, some (lo, hi, v) =>
    if p < lo then s
    else
      let t := s.mapChain ctlStream fun x => { x with ptr := none }
      if v == (if p < hi then p else 0xFFFFFFFF) then t else t.inc FRM_RESYNC
  | _, _ => s

/-- The fields of a record's header (R103). -/
def recType (r : Rec) : Nat := bits r.hdr 63 56
def recTid (r : Rec) : Nat := bits r.hdr 53 36
def recLen (r : Rec) : Nat := bits r.hdr 35 16

/-- The header passes its CRC-16 over [63:16], reserved bits as received, its LEN is whole words, and no bit of it is errored (R16, R104,
R476). -/
def recHeadOk (r : Rec) : Bool :=
  crc16 (bytesBE 6 (r.hdr / 2 ^ 16)) == bits r.hdr 15 0 && recLen r % 4 == 0 && !r.errs.any fun e => decide (e < 8)

/-- The body has its LEN bytes, passes its CRC-32, and no bit of it is errored (R103, R104, R476). -/
def recBodyOk (r : Rec) : Bool :=
  r.body.length == recLen r && (recLen r == 0 || crc32 r.body == r.crc) && !r.errs.any fun e => decide (8 ≤ e)

/-- Where the record after one that stands at `p` begins (R103). -/
def recEnd (p : Nat) (r : Rec) : Nat := p + 8 + recLen r + (if recLen r == 0 then 0 else 4)

/-- A first record of a multiframe that is no WAKE_MAP counts as a map that names the terminal (R105, R405). -/
def State.recMet (s : State) (map : Bool) : State :=
  let t := s.when_ (s.rx.first && s.wakeWindow && !map) State.mapHit
  { t with rx := { t.rx with first := false } }

/-- A bad record header (R104): the parser loses its place. -/
def State.badHeader (s : State) : State := ((s.losePlace ctlStream).inc FRM_RESYNC).recMet false

/-- A record that would cross the end of the multiframe (R104): parsing resumes at offset 0 of the next one, so nothing more of this one is
read. -/
def State.crossing (s : State) : State :=
  ((s.mapChain ctlStream fun c => { c with place := some s.ctlBytes }).recDiscard).recMet false

/-- The parser works: the mode hears the line, and LOF of the control subcarrier does not stop it (R104, R113), unless the stream is
relayed (R390). -/
def State.parserOn (s : State) : Bool := s.hears && (s.on FKL_CTRL_VALID || !s.on FRM_SC_LOF s.ctrlSc)

/-- A record of a type that `is` accepts stands at the parser's place (R103, R104): the place moves past it and `f` uses it. `map` marks a
WAKE_MAP. -/
def State.record (s : State) (is : Nat → Bool) (r : Rec) (f : State → State) (map : Bool := false) : State :=
  if !s.parserOn || !is (recType r) then s
  else
    let s := s.meetPtr
    match (s.chain ctlStream).place with
    | none => s
    | some p =>
      if s.ctlBytes ≤ p then s
      else if !recHeadOk r then s.badHeader
      else if s.ctlBytes < recEnd p r then s.crossing
      else (f (s.mapChain ctlStream fun x => { x with place := some (recEnd p r) })).recMet map

/-- A record of type `ty`: taken when addressed to the terminal, and used by `f` when its body is good (R104). -/
def State.recFor (s : State) (ty : Nat) (r : Rec) (f : State → State) (map : Bool := false) : State :=
  s.record (· == ty) r (map := map) fun t =>
    if !t.addressed (recTid r) then t else if !recBodyOk r then t.recDiscard else f t

/-! The multiframe that carries a record (R106, R112, R121) -/

/-- The start of the multiframe with number `mf` nearest to now. -/
def mfStartNear (now mf : Nat) : Nat :=
  let k := (now / mfTicks % 125 + 125 - mf % 125) % 125
  if k ≤ 62 then now / mfTicks * mfTicks - k * mfTicks else now / mfTicks * mfTicks + (125 - k) * mfTicks

/-- The start of the multiframe that carries what the parser now reads: by the number of the relayed stream (R390), or by the control
subcarrier's label; until that has come, by line time (DEDUCED, log 11). -/
def State.carrying (s : State) : Nat :=
  match if s.on FKL_CTRL_VALID then s.fk.ctl.map Prod.fst else (s.subOf s.ctrlSc).label.map Prod.snd with
  | some mf => mfStartNear s.now mf
  | none => s.now / mfTicks * mfTicks

/-- The boundary that ends it. -/
def State.mfEnd (s : State) : Nat := s.carrying + mfTicks

/-! Bursts and the calendar -/

/-- Bursts committed and not launched are dropped, and what they carry returns (R127, R214). -/
def State.dropCommitted (s : State) : State :=
  let t := (s.up.bursts.filter fun b => !b.inAir).foldl State.returnBurst s
  { t with up := { t.up with bursts := t.up.bursts.filter Burst.inAir } }

/-- The last 16 ticks of a second group: candidates for a grant's G lie this far apart (R44). -/
def gSpan : Int := 16 * sfTicks

/-- The line time a grant's fields name, within a span of 16 s (R44, R147). -/
def fieldTime (sf mf fr sl : Nat) : Nat := sf * sfTicks + mf * mfTicks + fr * frameTicks + sl * slotTicks

/-- The line time near `now` whose offset by `eqd` lies after now − 8 s, up to now + 8 s (R44). -/
def resolveG (now : Nat) (eqd : Int) (t : Nat) : Int :=
  let lo : Int := (now : Int) - 8 * sfTicks + 1
  lo + ((t : Int) + eqd - lo) % gSpan - eqd

/-- The time fields of a grant as a line time within 16 s. -/
def gTime (b : Nat) : Nat := fieldTime (gSfLo b) (gMf b) (gFr b) (gSl b)

/-- The launch of a grant naming `g` (R44). -/
def State.launchOf (s : State) (g : Int) : Nat := (g + s.rd LTM_EQD).toNat

/-- Preamble symbols of a PRE code under the PRE_MAP in force (R159). -/
def State.preSymbols (s : State) (pre : Nat) : Nat := 256 * (s.rd UPB_PRE_MAP / 16 ^ (7 - pre) % 16 + 1)

/-- Blocks each granted subcarrier carries (R159): B is 4 + p/4 bits per symbol. -/
def State.blocksOf (s : State) (b : Nat) : Nat :=
  let n := s.symPerSlot * gLen b - s.preSymbols (gPre b)
  n * (16 + gProf b) / 4 / 12288

/-- The instant at which the framer reaches the first payload byte of container `i` of a burst (R159 to R161): blocks of its payload stream
are dealt over the granted subcarriers, 12,288 coded bits each. -/
def State.contStart (s : State) (b : Burst) (i : Nat) : Nat :=
  let off := 64 + (b.msgs.map fun m => 8 + 4 * m.body.length).foldl (· + ·) 0 + 16384 * i + 32
  let row := off / (1280 * popCount 16 (gScmask b.bits))
  b.launch + (b.pre + ceilDiv (row * 12288 * 4) (16 + gProf b.bits)) * slotTicks / s.symPerSlot

/-- The framer has begun container `i` of a burst. -/
def State.begun (s : State) (b : Burst) (i : Nat) : Bool := b.inAir && decide (s.contStart b i ≤ s.now)

/-- The bursts become `f` of them. -/
def State.mapBursts (s : State) (f : Burst → Burst) : State := { s with up := { s.up with bursts := s.up.bursts.map f } }

/-- Allocation `al` is express (R172). -/
def State.isExpress (s : State) (al : Nat) : Bool :=
  if al < 32 then bit (s.rd UPB_EXP_MASK_LO) al else bit (s.rd UPB_EXP_MASK_HI) (al - 32)

/-- The terminal is in a state that accepts bursts of this kind (R148). -/
def State.kindOk (s : State) (kind : Nat) : Bool :=
  if kind == 2 then s.mode == .service || (s.mode == .join && s.rd UPB_JOIN_STATE == 4)
  else s.mode == .service && (kind == 0 || kind == 1 || kind == 4)

/-- The container at the head of the allocation's held list lies in the cave (R157). -/
def State.caveHead (s : State) (al : Nat) : Bool := (s.heldOf al).head?.any fun c => !c.exp

/-- The commit point of a grant naming `g` (R157): 100 µs before its launch; 20 µs before it for an EXPRESS grant, unless a cave container
heads its list at the launch less 100 µs. An instant already past told nothing of that kind, since the grant is not committed. -/
def State.commitOf (s : State) (b : Nat) (g : Int) : Int :=
  let early : Int := (s.launchOf g : Int) - 100 * usTicks
  if gKind b == 1 && !(s.caveHead (gAlloc b) && decide ((s.now : Int) ≤ early)) then early + 80 * usTicks else early

/-- The same as the recheck of R156 sees it, against a launch that has just moved: the head of the list stands for the instant passed
over. -/
def State.commitMoved (s : State) (b : Nat) (g : Int) : Int :=
  (s.launchOf g : Int) - (if gKind b == 1 && !s.caveHead (gAlloc b) then 20 else 100) * usTicks

/-- A discard is counted, and from check 4 on reported with its cause (R150, R155). -/
def State.discard (s : State) (f : Fld) (cause time : Nat) : State :=
  let t := (s.inc f).perf 10 0x01
  let up := if t.up.discN == 0 then { t.up with discN := 1, discTime := time, discCause := cause }
            else { t.up with discN := t.up.discN + 1 }
  let up := if cause == 3 then { up with fullSeen := true } else up
  (({ t with up := up }).raise 10 8).raiseIf (cause == 3) 10 12

/-- The bits [103:80] of a grant, as DISC_TIME lays them out (R163). -/
def discTimeOf (b : Nat) : Nat := bits b 103 80

/-- DISC_TIME of the occurrence at line time `g` (R156, R163). -/
def discTimeAt (g : Int) : Nat :=
  let t := (g % gSpan).toNat
  t / sfTicks * 2 ^ 20 + t % sfTicks / mfTicks * 2 ^ 13 + t % mfTicks / frameTicks * 2 ^ 7 + t % frameTicks / slotTicks

/-- Intervals [a, a + la) and [b, b + lb) share an instant (R151). -/
def meets (a la b lb : Int) : Bool := decide (a < b + lb) && decide (b < a + la)

/-- Occurrences a + n·p, n ≥ 0, of length la share an instant with [b, b + lb) (R151, R153). -/
def meetsEvery (a la p b lb : Int) : Bool :=
  let k := (b + lb - 1 - a) / p
  if b + lb - 1 < a then false else meets (a + k * p) la b lb

/-- Two repeating grants share an instant at some occurrence (R151): their periods divide one another. -/
def meetsBoth (a la pa b lb pb : Int) : Bool :=
  let q := if pa < pb then pa else pb
  let d := (a - b) % q
  decide (d < lb) || decide (q - d < la)

/-- The length of a grant in ticks. -/
def gTicks (b : Nat) : Int := gLen b * slotTicks

/-- How many occurrences of an entry are still to come, when some have been withdrawn (R154). -/
def leftOver (e : Grant) (x : Int) : Nat := ((x - e.g + gPeriod e.bits - 1) / gPeriod e.bits).toNat

/-- The occurrences of a standing entry, not withdrawn, meet [b, b + lb) (R151, R154). -/
def entryMeets (e : Grant) (b lb : Int) : Bool :=
  match e.stop with
  | none => meetsEvery e.g (gTicks e.bits) (gPeriod e.bits) b lb
  | some x => (List.range (leftOver e x)).any fun k => meets (e.g + k * gPeriod e.bits) (gTicks e.bits) b lb

/-- A new grant at line time `g` overlaps a held entry (R151). -/
def overlapsEntry (nb : Nat) (ng : Int) (e : Grant) : Bool :=
  if !gStanding e.bits || e.est != 1 then
    if gStanding nb then meetsEvery ng (gTicks nb) (gPeriod nb) e.g (gTicks e.bits) else meets ng (gTicks nb) e.g (gTicks e.bits)
  else if !gStanding nb then entryMeets e ng (gTicks nb)
  else
    match e.stop with
    | none => meetsBoth ng (gTicks nb) (gPeriod nb) e.g (gTicks e.bits) (gPeriod e.bits)
    | some x => (List.range (leftOver e x)).any fun k =>
        meetsEvery ng (gTicks nb) (gPeriod nb) (e.g + k * gPeriod e.bits) (gTicks e.bits)

/-- A new grant overlaps a burst committed or in the air (R151). -/
def overlapsBurst (nb : Nat) (ng : Int) (b : Burst) : Bool :=
  if gStanding nb then meetsEvery ng (gTicks nb) (gPeriod nb) b.g (gTicks b.bits)
  else meets ng (gTicks nb) b.g (gTicks b.bits)

/-- A new grant overlaps a grant already held (R151). -/
def State.overlaps (s : State) (nb : Nat) (ng : Int) : Bool :=
  s.up.cal.any (fun e => overlapsEntry nb ng e.2) || s.up.bursts.any (overlapsBurst nb ng)

/-- The bytes of a grant that its CRC covers, [127:16] (R147). -/
def grantBytes (b : Nat) : List Nat := bytesBE 14 (b / 2 ^ 16)

/-- Check 4 of R150. -/
def State.grantFormatOk (s : State) (b : Nat) : Bool :=
  decide (gMf b ≤ 124) && decide (gSl b ≤ 124) && decide (1 ≤ gLen b) && decide (gLen b ≤ 1000) && gScmask b != 0
    && (gKind b == 0 || gKind b == 1 || gKind b == 2 || gKind b == 4)
    && (!gStanding b || decide (gTicks b ≤ gPeriod b)) && s.blocksOf b != 0

/-- Check 5 of R150. -/
def State.grantStateOk (s : State) (b : Nat) : Bool :=
  s.kindOk (gKind b) && (gKind b != 1 || s.isExpress (gAlloc b)) && (gKind b != 0 || !s.isExpress (gAlloc b))

/-- A GRANTS entry that is not CANCEL goes through checks 4 to 8 (R150). -/
def State.grantChecks (s : State) (b : Nat) : State :=
  let tm := discTimeOf b
  if !s.grantFormatOk b then s.discard UPB_GR_FORMAT 4 tm
  else if !s.grantStateOk b then s.discard UPB_GR_STATE 5 tm
  else
    let g := resolveG s.now (s.rd LTM_EQD) (gTime b)
    if (g + s.rd LTM_EQD) < (s.now : Int) + 250 * usTicks then s.discard UPB_GR_LATE 1 tm
    else if s.overlaps b g then s.discard UPB_GR_OVERLAP 2 tm
    else
      match findIdxFrom (fun i => (amGet? s.up.cal i).isNone) 0 8192 with
      | none => s.discard UPB_GR_FULL 3 tm
      | some i =>
        if gStanding b && decide (64 ≤ s.rd UPB_STANDING_COUNT) then s.discard UPB_GR_FULL 3 tm
        else ((s.setCal (amSet s.up.cal i { bits := b, g := g, est := 1, first := g })).inc UPB_GR_ACCEPT).perf 10 0x00

/-- A CANCEL names a grant with these fields (R154). -/
def cancelFields (c b : Nat) : Bool :=
  gTid c == gTid b && gAlloc c == gAlloc b && gScmask c == gScmask b && gKind c == gKind b

/-- The time fields of a grant name a line time (R147): MF and SL are at most 124. -/
def gTimed (b : Nat) : Bool := decide (gMf b ≤ 124) && decide (gSl b ≤ 124)

/-- The occurrence of an entry that a CANCEL's time fields name (R44, R154): any from its first on that is not withdrawn, those already over
included. -/
def State.cancelOccurrence (s : State) (c : Nat) (e : Grant) : Option Int :=
  let g := resolveG s.now (s.rd LTM_EQD) (gTime c)
  let hit := if gStanding e.bits then decide (e.first ≤ g) && (g - e.first) % gPeriod e.bits == 0 else (g - e.g) % gSpan == 0
  if gTimed c && hit && (match e.stop with | none => true | some x => decide (g < x)) then some (if gStanding e.bits then g else e.g)
  else none

/-- The later occurrences of a standing entry are withdrawn while bursts of it are committed or in the air: the entry is kept until
the last of them ends (R152, R154). -/
def State.withdrawLater (s : State) (i : Nat) (g : Int) : State :=
  match amGet? s.up.cal i with
  | none => s
  | some e =>
    if !gStanding e.bits || e.est != 1 then s
    else
      let last := (s.up.bursts.filter fun b => b.entry == i).foldl (fun a b => if a < b.g then b.g else a) g
      s.setCal (amSet s.up.cal i { e with g := last, est := 2, stop := some last })

/-- An entry with no further occurrence is freed, once its bursts are over (R152). -/
def State.dropEntry (s : State) (i : Nat) (e : Grant) : State :=
  if s.up.bursts.any fun b => b.entry == i then s.withdrawLater i (e.g - gPeriod e.bits) else s.setCal (amDel s.up.cal i)

/-- An entry withdrawn from its occurrence `g` on (R154). -/
def State.withdrawFrom (s : State) (i : Nat) (e : Grant) (g : Int) : State :=
  if g == e.g then s.dropEntry i e else s.setCal (amSet s.up.cal i { e with stop := some g })

/-- A CANCEL entry (R154). -/
def State.cancelGrant (s : State) (c : Nat) : State :=
  match s.up.bursts.find? fun b => gTimed c && cancelFields c b.bits && ((gTime c : Int) - b.g) % gSpan == 0 with
  | some b => ((s.withdrawLater b.entry b.g).inc UPB_GR_CANCEL_LATE).raise 10 9
  | none =>
    match s.up.cal.find? fun e => e.2.est == 1 && cancelFields c e.2.bits && (s.cancelOccurrence c e.2).isSome with
    | none => s.inc UPB_GR_CANCEL_MISS
    | some (i, e) =>
      match s.cancelOccurrence c e with
      | none => s.inc UPB_GR_CANCEL_MISS
      | some g =>
        if g < e.g then ((s.dropEntry i e).inc UPB_GR_CANCEL_LATE).raise 10 9
        else if s.commitOf e.bits g ≤ s.now then
          let t := if gStanding e.bits then s.setCal (amSet s.up.cal i { e with stop := some (g + gPeriod e.bits) }) else s
          (t.inc UPB_GR_CANCEL_LATE).raise 10 9
        else (s.withdrawFrom i e g).inc UPB_GR_CANCEL

/-- A GRANTS entry in stream order (R107, R150). No grants are taken in GRAZE (R152). -/
def State.grant (s : State) (b : Nat) : State :=
  if s.mode == .graze || s.pwr.transit == some .graze then s
  else if crc16 (grantBytes b) != gCrc b then s.inc UPB_GR_CRC
  else if !(s.on UPB_TID_VALID && s.rd UPB_TID == gTid b) then s
  else if gCancel b then s.cancelGrant b
  else s.grantChecks b

/-- The next occurrence of an entry after `g`: withdrawn occurrences end it (R153, R154). -/
def nextOccurrence (e : Grant) (g : Int) : Option Grant :=
  if !gStanding e.bits then none
  else
    let n := g + gPeriod e.bits
    match e.stop with
    | some x => if x ≤ n then none else some { e with g := n, est := 1 }
    | none => some { e with g := n, est := 1 }

/-- Entry `i` passes on to its next occurrence, or is freed (R152, R153). -/
def State.passOccurrence (s : State) (i : Nat) (e : Grant) : State :=
  match nextOccurrence e e.g with
  | some e' => s.setCal (amSet s.up.cal i e')
  | none => s.dropEntry i e

/-- The recheck of one held entry against the launches now in force (R156). -/
def State.recheckEntry (s : State) (i : Nat) (e : Grant) : State :=
  if e.est != 1 || (s.now : Int) < s.commitMoved e.bits e.g then s
  else
    let t := s.discard UPB_GR_LATE 1 (discTimeAt e.g)
    if !gStanding e.bits then t.setCal (amDel t.up.cal i)
    else
      let p : Int := gPeriod e.bits
      let n := ((s.now : Int) - s.commitMoved e.bits e.g) / p + 1
      match nextOccurrence e (e.g + (n - 1) * p) with
      | some e' => t.setCal (amSet t.up.cal i e')
      | none => t.dropEntry i e

/-- The entry of a burst that is over is freed, unless it stands for a later occurrence (R152, R153). -/
def State.burstGone (s : State) (b : Burst) : State :=
  match amGet? s.up.cal b.entry with
  | some e => if e.est != 1 && e.g == b.g then s.setCal (amDel s.up.cal b.entry) else s
  | none => s

/-- The recheck of one committed burst (R156). -/
def State.recheckBurst (s : State) (b : Burst) : State :=
  if b.inAir then s
  else
    let l := s.launchOf b.g
    if s.now < l then
      { s with up := { s.up with bursts := s.up.bursts.map fun x =>
          if x.entry == b.entry && x.g == b.g then { x with launch := l } else x } }
    else
      let t := (s.returnBurst b).discard UPB_GR_LATE 1 (discTimeAt b.g)
      let t := { t with up := { t.up with bursts := t.up.bursts.filter fun x => !(x.entry == b.entry && x.g == b.g) } }
      t.burstGone b

/-- GRANT_RECHECK (R156): after an EqD load or an LT step, every grant and committed burst is checked again. -/
def State.recheckGrants (s : State) : State :=
  let t := s.up.bursts.foldl State.recheckBurst s
  t.up.cal.foldl (fun u e => u.recheckEntry e.1 e.2) t

/-! Leaving the line -/

/-- Failure of a join (R136). -/
def State.joinFail (s : State) (cause : Nat) : State :=
  let t := (((s.wr UPB_JOIN_EN 0).wr UPB_TID_VALID 0).wr UPB_REGISTERED 0).wr UPB_FAIL_CAUSE cause
  let t := { t with join := { t.join with wins := [], skip := 0, rangeDue := none } }
  ((t.wr UPB_JOIN_STATE 0).setMode .listen).raise 10 1

/-- Loss of registration (R142): cause 0xFD, 0xFE, 0xFF or the CAUSE of a DEREGISTER. -/
def State.regLost (s : State) (cause : Nat) : State :=
  let t := (s.dropCommitted).emptyCal
  let t := ((t.wr UPB_TID_VALID 0).wr UPB_REGISTERED 0).wr UPB_DEREG_CAUSE cause
  let t := (t.wr LTM_EQD 0).wr LTM_EQD_PEND 0
  let t := { t with join := { t.join with groups := [], kept := [], resp := [], toListen := true }
                    time := { t.time with eqdLoad := none } }
  let t := if s.mode == .service && s.pwr.transit.isNone then t.startTransit .listen else t
  t.raise 10 2

/-- LT reaches FREE (R39): the calendar is emptied (R152), a held symbol rate is loaded (R63), a join fails (R133), registration is
lost (R142). -/
def State.ltToFree (s : State) : State :=
  let t := { s with time := { s.time with holdStart := none, step := none, label := none, labelRun := 0 } }
  let t := ((t.setLtState ltFree).dropCommitted.emptyCal).setRate (s.rd LRX_RS_EXPECT)
  if s.mode == .join then t.joinFail 6
  else if s.on UPB_REGISTERED then t.regLost 0xFF
  else t

/-- LT leaves LOCKED (R39, R40): no burst starts from now on. -/
def State.ltUnlock (s : State) (goal : Nat) : State :=
  let t := if s.ltIs ltLocked then s.raise 6 1 else s
  let t := t.setLtState goal
  { t with time := { t.time with holdStart := if goal == ltHoldover then some t.now else none, labelRun := 0
                                 label := none, step := none } }

/-- The control subcarrier falls out of frame (R39): LOCKED goes to HOLDOVER, ACQ to FREE, and a step that waits is dropped. A
stack member's LT does not hang on it (R387). -/
def State.ctrlLost (s : State) : State :=
  let t := s.losePlace ctlStream
  if t.rd FKL_ROLE == 2 then t else
  if t.ltIs ltLocked then t.ltUnlock ltHoldover
  else if t.ltIs ltAcq then t.ltToFree
  else { t with time := { t.time with step := none } }

/-- A new symbol rate, with the loss of frame it brings (R63). -/
def State.changeRate (s : State) (v : Nat) : State :=
  let was := s.inFrame s.ctrlSc
  let t := s.setRate v
  if was && !t.inFrame t.ctrlSc then t.ctrlLost else t

/-- The control subcarrier becomes `sc` (R81). -/
def State.moveCtrl (s : State) (sc : Nat) : State :=
  if sc == s.ctrlSc then s
  else
    let t := (((s.wr LRX_IS_CTRL 0 s.ctrlSc).wr LRX_CTRL_SC sc).wr LRX_IS_CTRL 1 sc).losePlace ctlStream
    let t := [0, 1].foldl State.tryTrack t
    if s.inFrame s.ctrlSc && !t.inFrame sc then t.ctrlLost else t

end Sys2Proof.Machine
end

