-- ==== Sys2Proof/Machine/CaveOps.lean ====
section
/-! DEFINITION. The container pool (R232 to R249): free ring and rack, ownership, takes, seals that complete, frees, waiting,
retention, and reading a container back. -/

namespace Sys2Proof.Machine

/-! Runs of free handles -/

/-- How many handles the runs hold. -/
def runCount (l : List Run) : Nat := (l.map Run.n).foldl (· + ·) 0

/-- The first `n` handles of runs in queue order, and the rest. -/
def takeRuns : Nat → List Run → List Run × List Run
  | _, [] => ([], [])
  | n, r :: t =>
    if n == 0 then ([], r :: t)
    else if r.n ≤ n then let (a, b) := takeRuns (n - r.n) t; (r :: a, b)
    else ([{ r with n := n }], { r with first := r.first + n, n := r.n - n } :: t)

/-- The rack after a push (R237). -/
def rackPush (l : List Run) (h : Nat) : List Run :=
  match l with
  | r :: t => if r.gen == hGen h && r.first + r.n == hIndex h then { r with n := r.n + 1 } :: t
              else ⟨hIndex h, 1, hGen h⟩ :: r :: t
  | [] => [⟨hIndex h, 1, hGen h⟩]

/-- The top of the rack and what is left (R237). -/
def rackPop : List Run → Option (Nat × List Run)
  | [] => none
  | r :: t =>
    if r.n == 0 then none
    else some (handleOf (r.first + r.n - 1) r.gen, if r.n == 1 then t else { r with n := r.n - 1 } :: t)

/-! The pool -/

/-- CAV STATE codes (R255). -/
def cavOff : Nat := 0
def cavTrain : Nat := 1
def cavInit : Nat := 2
def cavReady : Nat := 3
def cavRefresh : Nat := 4
def cavFail : Nat := 5

/-- The populated channels N (R232). -/
def State.cavN (s : State) : Nat := if s.on CAV_CHANNELS then 16 else 8

/-- C_TOT for the settings in force (R232): DIMM sizes 32, 64 and 128 GiB, 65,536 containers a GiB. -/
def State.cTot (s : State) : Nat := s.cavN * (32 * 2 ^ s.rd CAV_DIMM_SIZE) * 65536

/-- The regions of the cave's index space (R234). -/
inductive CavRegion where
  | owners (copyB : Bool) | ring (copyB : Bool) | gap | scratch | pool
deriving DecidableEq, Repr

/-- The first index of each region in order, for `c` containers on `n` channels (R234). -/
def cavRegions (n c : Nat) : List (Nat × CavRegion) :=
  let o := c / 2048
  let q := c / 4096
  [(0, .owners false), (o, .gap), (o + n / 2, .owners true), (2 * o + n / 2, .ring false), (2 * o + q + n / 2, .gap),
   (2 * o + q + n, .ring true), (2 * o + 2 * q + n, .scratch), (2 * o + 2 * q + n + 64, .pool)]

/-- The region that holds an index (R234). -/
def cavRegionOf (n c idx : Nat) : CavRegion :=
  (cavRegions n c).foldl (fun r e => if e.1 ≤ idx then e.2 else r) .gap

/-- POOL_BASE for the settings in force (R234). -/
def State.poolBase (s : State) : Nat := 2 * (s.cTot / 2048) + 2 * (s.cTot / 4096) + s.cavN + 64

/-- The channel and its byte offset on which cave address `a` lies, with `n` channels (R233). -/
def cavPlace (n a : Nat) : Nat × Nat :=
  let c := a / 16384
  let g := a % 16384 / 256
  ((g + c) % n, c * (16384 / n) + g / n * 256 + a % 256)

/-- The cave address at byte offset `off` of channel `ch`, with `n` channels (R233): the one `cavPlace` puts there. -/
def cavAddr (n ch off : Nat) : Nat :=
  let c := off / (16384 / n)
  let row := off % (16384 / n) / 256
  c * 16384 + (row * n + (ch + n - c % n) % n) * 256 + off % 256

/-- The free ring and rack become these; the rack refills below 2,048 entries and spills above 6,144 (R237); the counts
follow, and a fall below LOW_WATER is raised (R247). -/
def State.setPool (s : State) (ring rack : List Run) : State :=
  let n := runCount rack
  let (ring, rack) :=
    if n < 2048 then let (a, b) := takeRuns 2048 ring; (b, a.reverse ++ rack)
    else if 6144 < n then let (a, b) := takeRuns 2048 rack.reverse; (ring ++ a, b.reverse)
    else (ring, rack)
  let total := runCount ring + runCount rack
  let t := { s with cave := { s.cave with ring := ring, rack := rack } }
  let low := s.rd CAV_LOW_WATER
  ((t.wr CAV_POOL_FREE total).wr CAV_RACK_FILL (runCount rack)).raiseIf
    (low != 0 && decide (total < low) && decide (low ≤ s.rd CAV_POOL_FREE)) 16 2

/-- The free list of the express store becomes this (R246). DESIGN CHOICE (log 10): first in, first out. -/
def State.setExp (s : State) (l : List Run) : State :=
  ({ s with cave := { s.cave with expFree := l } }).wr CAV_EXP_FREE (runCount l)

/-- Containers owned by an allocation, cave or express (R256). -/
def State.ownCount (s : State) (exp : Bool) (al : Nat) (d : Int) : State :=
  let f := if exp then CAV_AL_EXP_HELD else CAV_AL_HELD_ALL
  s.wr f ((s.rd f al : Int) + d).toNat al

/-- KSEL0_COUNT or KSEL1_COUNT moves by `d` (R248). -/
def State.kselCount (s : State) (k : Nat) (d : Int) : State :=
  let f := if k == 0 then CAV_KSEL0_COUNT else CAV_KSEL1_COUNT
  s.wr f ((s.rd f : Int) + d).toNat

/-- A popped entry passes the check of R238. -/
def State.popOk (s : State) (exp : Bool) (h : Nat) : Bool :=
  let o := s.ownOf exp (hIndex h)
  o.owner == 0xFF && o.gen == hGen h

/-- Entries of the open table (R240). -/
def openMax : Nat := 65536

/-- The open table is full: a new open waits for a close (R240). -/
def State.openFull (s : State) : Bool := decide (openMax ≤ s.cave.opens.length)

/-- One entry popped from the pool or from the express free list; it is opened for its seal write, so a full table makes the take wait
(R240). -/
def State.pop1 (s : State) (exp : Bool) : Option (Nat × State) :=
  if s.openFull then none
  else if exp then
    match takeRuns 1 s.cave.expFree with
    | ([r], rest) => some (handleOf r.first r.gen, s.setExp rest)
    | _ => none
  else if s.rd CAV_STATE != cavReady && s.rd CAV_STATE != cavInit then none
  else
    match rackPop s.cave.rack with
    | some (h, rest) => some (h, s.setPool s.cave.ring rest)
    | none => none

/-- Pop until an entry passes its check (R238); bad entries are counted and reported. -/
def State.popN : Nat → State → Bool → Option Nat × State
  | 0, s, _ => (none, s)
  | n + 1, s, exp =>
    match s.pop1 exp with
    | none => (none, s)
    | some (h, t) => if t.popOk exp h then (some h, t)
                     else State.popN n ((t.inc CAV_RING_BAD).fault cRingBad (srcRegion 13) 16) exp

/-! Keys of the cave -/

/-- The key of slot `k`, when it holds one of `len` bytes. -/
def State.slotKey (s : State) (k len : Nat) : Option (List Nat) :=
  match amGet? s.cip.keys k with
  | some b => if b.length == len then some b else none
  | none => none

/-- The pair of keys of selector `k`, when both slots hold keys of the size XTS_256 asks for (R248, R271). -/
def State.xtsPair (s : State) (k : Nat) : Option (List Nat × List Nat) :=
  let base := if k == 0 then s.rd CAV_XTS_SLOT0 else s.rd CAV_XTS_SLOT1
  let len := if s.on CAV_XTS_256 then 32 else 16
  match s.slotKey base len, s.slotKey ((base + 1) % 64) len with
  | some a, some b => some (a, b)
  | _, _ => none

/-- An operation is aborted for its key (R263). -/
def State.keyAbort (s : State) : State := (s.inc CIP_KEY_ABORTS).raise 18 2

/-- A burst's container that the framer has not begun cannot be sent as stored (R251). -/
def State.spoil (s : State) (exp : Bool) (idx : Nat) : State :=
  s.mapBursts fun b =>
    let hit := (b.conts.zipIdx.filter fun c => c.1.exp == exp && hIndex c.1.handle == idx && !s.begun b c.2).map Prod.snd
    { b with bad := (hit.filter fun i => !b.bad.contains i) ++ b.bad }

/-- A container is poisoned (R249 to R251). -/
def State.poison (s : State) (exp : Bool) (idx : Nat) : State :=
  let o := s.ownOf exp idx
  (((s.setOwn exp idx { o with poison := true }).spoil exp idx).inc CAV_POISONED).raise 16 6

/-- The stored bytes of a container. -/
def State.contData (s : State) (exp : Bool) (idx : Nat) : List Nat :=
  amGetD [] (if exp then s.cave.expData else s.cave.data) idx

/-- A container's bytes written to its store: XTS in the cave, clear in the express store (R246, R248). -/
def State.storeCont (s : State) (exp : Bool) (idx ksel : Nat) (bytes : List Nat) : State :=
  if exp then { s with cave := { s.cave with expData := amSet s.cave.expData idx bytes } }
  else
    match s.xtsPair ksel with
    | some (k1, k2) => { s with cave := { s.cave with data := amSet s.cave.data idx (xts true k1 k2 idx bytes) } }
    | none => s.keyAbort.poison false idx

/-- A container read and decrypted (R248): none when its key pair cannot serve it (R271). -/
def State.loadCont (s : State) (exp : Bool) (idx : Nat) : Option (List Nat) :=
  if exp then some (s.contData true idx)
  else
    match s.xtsPair (s.ownOf false idx).ksel with
    | some (k1, k2) => some (xts false k1 k2 idx (s.contData false idx))
    | none => none

/-! The open table (R240) -/

/-- A container is opened: the ownership entry as it now stands is taken into the table. -/
def State.openCont (s : State) (exp : Bool) (h : Nat) : State :=
  let o := s.ownOf exp (hIndex h)
  { s with cave := { s.cave with opens := s.cave.opens ++ [⟨handleOf (hIndex h) o.gen, exp, o.owner⟩] } }

/-- A container is closed. -/
def State.closeCont (s : State) (exp : Bool) (h : Nat) : State :=
  { s with cave := { s.cave with opens := s.cave.opens.filter fun o => !(hIndex o.handle == hIndex h && o.exp == exp) } }

/-- An access finds its open entry, with the same owner and generation. -/
def State.accessOk (s : State) (exp : Bool) (h owner : Nat) : Bool := s.cave.opens.contains ⟨h, exp, owner⟩

/-- A refused access (R240). -/
def State.accessViol (s : State) : State := ((s.inc CAV_ACCESS_VIOL).fault cAccessViol (srcRegion 13) 16).raise 16 5

/-- A container of a burst is opened and read from its store (R240, R249, R251, R254): none when it cannot be sent as stored. -/
def State.readFor (s : State) (al : Nat) (c : Held) : Option (List Nat) × State :=
  let s := s.openCont c.exp c.handle
  if !s.accessOk c.exp c.handle al then (none, s.accessViol)
  else if (s.ownOf c.exp (hIndex c.handle)).poison then (none, s)
  else
    match s.loadCont c.exp (hIndex c.handle) with
    | some d => (some d, s)
    | none => (none, s.keyAbort)

/-- Place `i` of burst `b` is opened and read, unless that is done or the table is full. -/
def State.readPlace (s : State) (b : Burst) (i : Nat) (c : Held) : State :=
  if s.openFull || b.bad.contains i || b.data.any fun e => e.1 == i then s
  else
    let (d, t) := s.readFor (gAlloc b.bits) c
    t.mapBursts fun x =>
      if x.entry == b.entry && x.g == b.g then
        match d with
        | some v => { x with data := x.data ++ [(i, v)] }
        | none => { x with bad := i :: x.bad }
      else x

/-- Every read of a burst that the table has room for (R240, R254): bursts in order, and containers in burst order. -/
def State.readMore (s : State) : State :=
  s.up.bursts.foldl (fun t b => b.conts.zipIdx.foldl (fun u c => u.readPlace b c.2 c.1) t) s

/-- The container the host window names is checked and read (R240, R255); while the table is full, the read waits. -/
def State.windowRead (s : State) : State :=
  let exp := s.on CAV_WIN_EXP
  let h := s.rd CAV_WIN_HANDLE
  let bad (t : State) := { t with cave := { t.cave with window := [] } }.wr CAV_WIN_ERR 1 |>.wr CAV_WIN_GO 0
  if s.openFull then s.wr CAV_WIN_GO 1
  else if decide ((if exp then 4096 else s.rd CAV_C_TOT) ≤ hIndex h) || !(s.openCont exp h).accessOk exp h (s.rd CAV_WIN_OWNER) then
    bad s.accessViol
  else
    match s.loadCont exp (hIndex h) with
    | none => bad s.keyAbort
    | some d => { s with cave := { s.cave with window := d } }.wr CAV_WIN_ERR 0 |>.wr CAV_WIN_GO 0

/-! Seals that hold a container -/

/-- The 32-byte container header (R213), with KEY_EPOCH `epoch`. -/
def contHeader (al tid mem seq fcount fill lt epoch flags : Nat) : List Nat :=
  bytesBE 32 (al * 2 ^ 250 + tid * 2 ^ 230 + mem * 2 ^ 227 + seq * 2 ^ 192 + fcount * 2 ^ 176 + fill * 2 ^ 160
    + lt * 2 ^ 96 + epoch * 2 ^ 88 + flags * 2 ^ 80)

/-- The payload of a container (R211). -/
def contPayload : Nat := 16336

/-- The assembly buffers of an allocation. -/
def State.asmOf (s : State) (al : Nat) : Asm := amGetD {} s.asm al

/-- The assembly buffers of an allocation become `a`; OPEN_FILL follows (R226). -/
def State.setAsm (s : State) (al : Nat) (a : Asm) : State :=
  ({ s with asm := amPut {} s.asm al a }).wr QSH_AL_OPEN_FILL a.payload.length al

/-- The seal of an allocation gets container `h`: ownership, contents, held list, counts (R212 to R214, R238). -/
def State.completeSeal (s : State) (al : Nat) (exp : Bool) (h : Nat) : State :=
  let a := s.asmOf al
  match a.seals.find? fun r => r.exp == exp with
  | none => s
  | some r =>
    let idx := hIndex h
    let k := s.rd CAV_ACTIVE_KSEL
    let seq := s.rd QSH_AL_SEQ_NEXT al
    let hdr := contHeader al r.tid r.mem seq r.fcount r.payload.length (r.lt % 2 ^ 64) 0 r.flags
    let bytes := hdr ++ r.payload ++ List.replicate (contPayload - r.payload.length) 0 ++ List.replicate 16 0
    let t := s.setOwn exp idx { owner := al, ksel := k, gen := hGen h }
    let t := (t.ownCount exp al 1).storeCont exp idx k bytes
    let t := if exp then t else t.kselCount k 1
    let last := if a.seals.getLast? == some r then a.sealed.map fun e => (e.1, e.2.1, e.2.2.1, some h) else a.sealed
    let t := t.setAsm al { a with seals := a.seals.erase r, sealed := last }
    let t := t.setHeld al (t.heldOf al ++ [{ handle := h, exp := exp, seq := seq }])
    let t := (t.inc QSH_AL_SEQ_NEXT 1 al).inc64 QSH_AL_SEALED_LO QSH_AL_SEALED_HI 1 al
    ((t.inc QSH_AL_SEAL_TIMEOUT (b2n (bit r.flags 2)) al).inc QSH_AL_SEAL_GRANT (b2n (bit r.flags 3)) al).perf 14 0x01 |>.perf 16 0x00

/-- The waiters of a store (R242). -/
def State.waitersOf (s : State) (exp : Bool) : List Waiter := if exp then s.cave.expWaiters else s.cave.waiters

/-- The requester tables of the takes of the two stores (R32, R242): AL0 to AL63 rank 0 to 63. -/
def rtTake (exp : Bool) : Nat := 64 + b2n exp

/-- The waiters with one more (R242): among waits that began in the same cycle the arbitration order decides (R32). -/
def State.queued (s : State) (exp : Bool) (al : Nat) : List Waiter :=
  let l := s.waitersOf exp
  let w : Waiter := ⟨al, s.now, false⟩
  let (same, before) := l.partition fun x => x.since == s.now
  before ++ (s.order (rtTake exp) 64).flatMap fun n => (same ++ [w]).filter fun x => x.al == n

/-- The waiter served first, and the state after its win: it moves in its table when another's wait began in the same cycle (R32, R242). -/
def State.firstServed (s : State) (exp : Bool) (w : Waiter) (rest : List Waiter) : State :=
  if rest.any fun x => x.since == w.since then s.won (rtTake exp) 64 w.al else s

/-- The waiters of a store become `l`; WAITING or EXP_WAITING follows (R242, R246). -/
def State.setWaiters (s : State) (exp : Bool) (l : List Waiter) : State :=
  if exp then ({ s with cave := { s.cave with expWaiters := l } }).wr CAV_EXP_WAITING l.length
  else ({ s with cave := { s.cave with waiters := l } }).wr CAV_WAITING l.length

/-! Frees -/

/-- A rejected free (R241). -/
def State.freeReject (s : State) (f : Fld) : State := ((s.inc f).fault cFreeReject (srcRegion 13) 16).raise 16 4

/-- A freed container's new handle goes to the first waiter, or to the pool (R237, R242). -/
def State.handOver (s : State) (exp : Bool) (h : Nat) : State :=
  match s.waitersOf exp with
  | w :: rest => ((s.firstServed exp w rest).setWaiters exp rest).completeSeal w.al exp h
  | [] =>
    if exp then s.setExp (s.cave.expFree ++ [⟨hIndex h, 1, hGen h⟩])
    else s.setPool s.cave.ring (rackPush s.cave.rack h)

/-- A free is judged (R241). -/
def State.freeCont (s : State) (exp : Bool) (h owner : Nat) : State :=
  let idx := hIndex h
  let o := s.ownOf exp idx
  if (if exp then 4096 else s.rd CAV_C_TOT) ≤ idx then s.freeReject CAV_FREE_FOREIGN
  else if o.owner == 0xFF then s.freeReject CAV_FREE_DOUBLE
  else if o.owner != owner then s.freeReject CAV_FREE_FOREIGN
  else if o.gen != hGen h then s.freeReject CAV_FREE_STALE
  else
    let g := (o.gen + 1) % 32
    let t := s.ownCount exp owner (-1)
    if o.poison then (t.setOwn exp idx { owner := 0xFD, ksel := o.ksel, poison := true, gen := g }).inc CAV_RETIRED
    else
      let t := t.setOwn exp idx { owner := 0xFF, gen := g }
      let t := if exp then t else t.kselCount o.ksel (-1)
      (t.handOver exp (handleOf idx g)).perf 16 0x01

/-- The retained list becomes `l`; RETAINED of the allocations follows (R244, R256). -/
def State.setRetained (s : State) (l : List Retained) : State :=
  let als := (s.cave.retained ++ l).map Retained.al
  als.foldl (fun t al => t.wr CAV_AL_RETAINED (l.filter fun r => r.al == al).length al)
    ({ s with cave := { s.cave with retained := l } }.relink (l.map fun (r : Retained) => (r.exp, hIndex r.handle)))

/-- Waiters take what the pool of a store holds, in the order of their waits (R242). -/
def State.serveWaiters : Nat → State → Bool → State
  | 0, s, _ => s
  | n + 1, s, exp =>
    match s.waitersOf exp with
    | [] => s
    | w :: rest =>
      match State.popN 8192 s exp with
      | (some h, t) => State.serveWaiters n (((t.firstServed exp w rest).setWaiters exp rest).completeSeal w.al exp h) exp
      | (none, t) => t

/-- Pool containers from `zeroed` on, `k` of them, are zeroed and pushed on the ring (R235). -/
def State.pushZeroed (s : State) (k : Nat) : State :=
  let first := s.cave.zeroed
  let n := min k (s.rd CAV_C_TOT - first)
  if n == 0 then s
  else
    let t := { s with cave := { s.cave with zeroed := first + n } }
    State.serveWaiters 64 (t.setPool (t.cave.ring ++ [⟨first, n, 0⟩]) t.cave.rack) false

/-- During initialisation some number of further containers has been zeroed when a take comes: how many is a free value, since
the spec gives the order and not the instant of each (R235). -/
def State.zeroSome (s : State) : State :=
  if s.rd CAV_STATE == cavInit then
    let (v, t) := s.fresh
    t.pushZeroed (v % (t.rd CAV_C_TOT - t.cave.zeroed + 1))
  else s

/-- While a take waits in a store, its oldest retained container is freed and handed over (R244): retention never makes a seal wait. -/
def State.yieldRetained : Nat → State → Bool → State
  | 0, s, _ => s
  | n + 1, s, exp =>
    if (s.waitersOf exp).isEmpty then s
    else
      match s.cave.retained.find? fun r => r.exp == exp with
      | some r => State.yieldRetained n ((s.setRetained (s.cave.retained.erase r)).freeCont exp r.handle r.al) exp
      | none => s

/-- Every retained container of a store that a waiting take can have (R244). -/
def State.offerRetained (s : State) (exp : Bool) : State := State.yieldRetained s.cave.retained.length s exp

/-- A take for the seal of an allocation (R238, R242, R244): a container, the oldest retained one, or a wait. -/
def State.takeFor (s : State) (al : Nat) (exp : Bool) : State :=
  let s := if exp then s else s.zeroSome
  if (s.waitersOf exp).any fun w => w.al == al then s
  else if !(s.asmOf al).seals.any fun r => r.exp == exp then s
  else if !(s.waitersOf exp).isEmpty then s.setWaiters exp (s.queued exp al)
  else
    match State.popN 8192 s exp with
    | (some h, t) => t.completeSeal al exp h
    | (none, t) => (t.setWaiters exp (t.queued exp al)).offerRetained exp

/-- Every seal of an allocation that has no container asks for one (R212). -/
def State.takeAll (s : State) (al : Nat) : State :=
  (s.asmOf al).seals.foldl (fun t r => t.takeFor al r.exp) s

/-- The open container of an allocation is sealed (R211): `flags` names the causes FULL, TIMEOUT and GRANT. An empty container
is never sealed, and a seal needs one of the two assembly buffers (R212). -/
def State.sealOpen (s : State) (al flags : Nat) : State :=
  let a := s.asmOf al
  if a.payload.isEmpty then s
  else
    let exp := s.isExpress al
    let r : SealReq := { payload := a.payload, fcount := a.fcount, flags := flags ||| b2n exp, lt := s.now
                         tid := s.rd UPB_TID, mem := s.rd FKL_MEM_ID, exp := exp }
    s.setAsm al { payload := [], fcount := 0, since := 0, seals := a.seals ++ [r]
                  sealed := some (s.now, a.payload.length, exp, none) }

/-- FLAGS of a container's header with more of its bits set (R213). -/
def flagged (bytes : List Nat) (flags : Nat) : List Nat := bytes.set 21 (bytes.getD 21 0 ||| flags)

/-- A seal made in this cycle takes one more cause (R211): FLAGS of its header, wherever the container now stands, and the counts of its
seal. -/
def State.addSealFlags (s : State) (al flags : Nat) : State :=
  let a := s.asmOf al
  match a.sealed with
  | some (_, _, exp, some h) =>
    let idx := hIndex h
    match s.loadCont exp idx with
    | none => s
    | some d =>
      let new := flags - (flags &&& d.getD 21 0)
      let t := s.storeCont exp idx (s.ownOf exp idx).ksel (flagged d flags)
      let here (b : Burst) (i : Nat) : Bool := (b.conts[i]?).any fun c => c.handle == h && c.exp == exp
      let t := t.mapBursts fun b =>
        { b with data := b.data.map fun e => (e.1, if here b e.1 then flagged e.2 flags else e.2) }
      (t.inc QSH_AL_SEAL_TIMEOUT (b2n (bit new 2)) al).inc QSH_AL_SEAL_GRANT (b2n (bit new 3)) al
  | some (_, _, _, none) =>
    match a.seals.getLast? with
    | some r => s.setAsm al { a with seals := a.seals.dropLast ++ [{ r with flags := r.flags ||| flags }] }
    | none => s
  | none => s

/-- A container of the allocation was sealed in this cycle, and nothing older is in the open one (R211): its fill. -/
def State.sealedNow (s : State) (al : Nat) : Option Nat :=
  let a := s.asmOf al
  match a.sealed with
  | some (t, fill, _, _) => if t == s.now && (a.payload.isEmpty || a.since == s.now) then some fill else none
  | none => none

/-- A burst's container leaves the burst: retention, or a free at once (R244). -/
def State.retire (s : State) (al : Nat) (c : Held) : State :=
  let t := s.closeCont c.exp c.handle
  if t.rd CAV_RETAIN_US == 0 then t.freeCont c.exp c.handle al
  else (t.setRetained (t.cave.retained ++ [⟨c.handle, c.exp, al, t.now + t.rd CAV_RETAIN_US * usTicks⟩])).offerRetained c.exp

/-- A container counted as purged and freed (R245). -/
def State.purgeOne (s : State) (al : Nat) (c : Held) : State :=
  let t := s.setHeld al ((s.heldOf al).filter (· != c))
  ((t.inc64 CAV_AL_PURGED_LO CAV_AL_PURGED_HI 1 al).inc64 QSH_AL_COMMITTED_LO QSH_AL_COMMITTED_HI 1 al).freeCont
    c.exp c.handle al

end Sys2Proof.Machine
end

