-- ==== Sys2Proof/Machine/Parse.lean ====
section
/-! DEFINITION. The parser (R191 to R193): from the bytes of a frame to the 512-bit key, or to the cause of a failed parse. -/

namespace Sys2Proof.Machine

/-- What parsing leaves: PF_CAUSE (0 when it succeeds), the key so far, its PTP bit, and the byte offsets of a PTP message and of
the UDP header above it. -/
structure Parsed where
  pf : Nat := 0
  key : Nat := 0
  ptp : Bool := false
  msg : Option Nat := none
  udp : Option Nat := none
deriving DecidableEq, Repr

/-- Causes of a failed parse (R192). -/
def pfTrunc : Nat := 1
def pfVlan : Nat := 2
def pfMpls : Nat := 3
def pfIpv4 : Nat := 4
def pfIpv6 : Nat := 5

/-- The parse stops here for cause `c`. -/
def Parsed.fail (p : Parsed) (c : Nat) : Parsed := { p with pf := c }

/-- Key field whose lowest bit is `lo` takes `v` (R193). -/
def Parsed.put (p : Parsed) (lo v : Nat) : Parsed := { p with key := p.key ||| v * 2 ^ lo }

/-- `n` bytes from offset `o`, most significant first. -/
def be (bs : List Nat) (o n : Nat) : Nat := ofBytesBE ((bs.drop o).take n)

/-- The bytes a header may lie in (R191, R192): before the FCS and within the first 256. -/
def parseLimit (bs : List Nat) : Nat := min (bs.length - 4) 256

/-- The PTP message at `o`, whose header is 34 bytes (R191, R193; IEEE 1588); `ev` says whether its transport lets the PTP bit be set. -/
def parsePtp (bs : List Nat) (o : Nat) (ev : Bool) (udp : Option Nat) (p : Parsed) : Parsed :=
  if parseLimit bs < o + 34 then p.fail pfTrunc
  else
    let e := ev && be bs o 1 % 16 ≤ 3
    { p.put 497 (b2n e) with ptp := e, msg := some o, udp := udp }

/-- TCP, UDP or another protocol above IP (R191). `off` is none for a fragment whose offset is nonzero. -/
def parseL4 (bs : List Nat) (proto : Nat) (off : Option Nat) (p : Parsed) : Parsed :=
  match off with
  | none => p
  | some o =>
    let ports (q : Parsed) : Parsed := (q.put 26 (be bs o 2)).put 10 (be bs (o + 2) 2)
    if proto == 6 then
      if parseLimit bs < o + 20 || parseLimit bs < o + be bs (o + 12) 1 / 16 * 4 then p.fail pfTrunc
      else (ports (p.put 499 1)).put 2 (be bs (o + 13) 1)
    else if proto == 17 then
      if parseLimit bs < o + 8 then p.fail pfTrunc
      else
        let q := ports (p.put 499 2)
        let d := be bs (o + 2) 2
        if d == 319 || d == 320 then parsePtp bs (o + 8) (d == 319) (some o) q else q
    else p.put 499 3

/-- The ones' complement sum of 16-bit words, folded. -/
def onesSum (ws : List Nat) : Nat :=
  let x := ws.foldl (· + ·) 0
  let y := x / 65536 + x % 65536
  y / 65536 + y % 65536

/-- The 16-bit words of `n` bytes from `o`. -/
def words16 (bs : List Nat) (o n : Nat) : List Nat := (List.range (n / 2)).map fun i => be bs (o + 2 * i) 2

/-- An IPv4 header at `o` and what lies above it (R191, R192). -/
def parseV4 (bs : List Nat) (o : Nat) (p : Parsed) : Parsed :=
  if parseLimit bs < o + 1 then p.fail pfTrunc
  else
    let b := be bs o 1
    if b / 16 != 4 || b % 16 < 5 then p.fail pfIpv4
    else if parseLimit bs < o + b % 16 * 4 then p.fail pfTrunc
    else if onesSum (words16 bs o (b % 16 * 4)) != 0xFFFF then p.fail pfIpv4
    else
      let fl := be bs (o + 6) 2
      let proto := be bs (o + 9) 1
      let q := ((p.put 44 (be bs (o + 1) 1 / 4)).put 42 (be bs (o + 1) 1 % 4)).put 50 proto
      let q := (q.put 498 (b2n (bit fl 13 || fl % 8192 != 0))).put 186 (be bs (o + 12) 4)
      parseL4 bs proto (if fl % 8192 == 0 then some (o + b % 16 * 4) else none) (q.put 58 (be bs (o + 16) 4))

/-- The IPv6 extension headers that the parser walks (R191). -/
def isExt6 (nh : Nat) : Bool := nh == 0 || nh == 43 || nh == 44 || nh == 60

/-- IPv6 extension headers from `o`, `k` more of them allowed (R191, R192); `later` after a fragment of nonzero offset. -/
def parseExt (bs : List Nat) : Nat → Nat → Nat → Bool → Parsed → Parsed
  | k, nh, o, later, p =>
    if !isExt6 nh then parseL4 bs nh (if later then none else some o) (p.put 50 nh)
    else
      match k with
      | 0 => p.fail pfIpv6
      | k + 1 =>
        if parseLimit bs < o + 8 then p.fail pfTrunc
        else if nh == 44 then
          parseExt bs k (be bs o 1) (o + 8) (later || be bs (o + 2) 2 / 8 != 0) (p.put 498 1)
        else
          let n := (be bs (o + 1) 1 + 1) * 8
          if parseLimit bs < o + n then p.fail pfTrunc else parseExt bs k (be bs o 1) (o + n) later p

/-- An IPv6 header at `o` and what lies above it. -/
def parseV6 (bs : List Nat) (o : Nat) (p : Parsed) : Parsed :=
  if parseLimit bs < o + 1 then p.fail pfTrunc
  else if be bs o 1 / 16 != 6 then p.fail pfIpv6
  else if parseLimit bs < o + 40 then p.fail pfTrunc
  else
    let tc := be bs o 2 / 16 % 256
    let q := (((p.put 44 (tc / 4)).put 42 (tc % 4)).put 186 (be bs (o + 8) 16)).put 58 (be bs (o + 24) 16)
    parseExt bs 4 (be bs (o + 6) 1) (o + 40) false q

/-- The offset past the bottom-of-stack label, with `k` labels still allowed; none in the cause given (R192). -/
def mplsEnd (bs : List Nat) : Nat → Nat → Nat ⊕ Nat
  | 0, _ => .inl pfMpls
  | k + 1, o =>
    if parseLimit bs < o + 4 then .inl pfTrunc
    else if bit (be bs o 4) 8 then .inr (o + 4) else mplsEnd bs k (o + 4)

/-- An MPLS stack at `o` and the packet beneath it (R191). -/
def parseMpls (bs : List Nat) (o : Nat) (p : Parsed) : Parsed :=
  let top := be bs o 4
  let p := if parseLimit bs < o + 4 then p else (p.put 317 (top / 4096)).put 314 (top / 512 % 8)
  match mplsEnd bs 4 o with
  | .inl c => p.fail c
  | .inr e =>
    if parseLimit bs < e + 1 then p
    else if be bs e 1 / 16 == 4 then parseV4 bs e p
    else if be bs e 1 / 16 == 6 then parseV6 bs e p
    else p

/-- What follows the EtherType at `o` (R191, R193). -/
def parseL3 (bs : List Nat) (et o : Nat) (p : Parsed) : Parsed :=
  let p := p.put 337 et
  if et == 0x8847 || et == 0x8848 then parseMpls bs o (p.put 501 3)
  else if et == 0x0800 then parseV4 bs o (p.put 501 1)
  else if et == 0x86DD then parseV6 bs o (p.put 501 2)
  else if et == 0x88F7 then parsePtp bs o true none (p.put 501 4)
  else p

/-- A VLAN tag's TPID (R191). -/
def isTpid (et : Nat) : Bool := et == 0x8100 || et == 0x88A8

/-- The tags from `o`, `k` of them met (R191, R192). -/
def parseTags (bs : List Nat) : Nat → Nat → Parsed → Parsed
  | left, o, p =>
    let et := be bs o 2
    if !isTpid et then parseL3 bs et (o + 2) (p.put 504 (2 - left))
    else
      match left with
      | 0 => p.fail pfVlan
      | left + 1 =>
        if parseLimit bs < o + 6 then p.fail pfTrunc
        else
          let tci := be bs (o + 2) 2
          let q := if left == 1 then (p.put 371 (tci % 4096)).put 368 (tci / 8192)
                   else (p.put 356 (tci % 4096)).put 353 (tci / 8192)
          parseTags bs left (o + 4) q

/-- A frame parsed (R191 to R193): `bs` from destination address to FCS, its source, direction and the TID of its line tag. -/
def parse (bs : List Nat) (isrc dir ltid : Nat) : Parsed :=
  let p : Parsed := (({} : Parsed).put 507 isrc).put 506 dir
  let p := ((p.put 479 ltid).put 431 (be bs 0 6)).put 383 (be bs 6 6)
  if parseLimit bs < 14 then p.fail pfTrunc else parseTags bs 2 12 p

/-- Bits [hi:lo] replaced byte by byte: `n` bytes of `v` put at offset `o`. -/
def putBytes (bs : List Nat) (o n v : Nat) : List Nat := bs.take o ++ bytesBE n v ++ bs.drop (o + n)

/-- A UDP checksum after bytes `o` to `o + n` of its message change: zero stays zero, and the rest is updated by the difference
(R286). `rel` is the parity of `o` against the UDP header, so that each byte keeps its place in its 16-bit word. -/
def udpFix (bs new : List Nat) (udp o n : Nat) : List Nat :=
  let c := be bs (udp + 6) 2
  if c == 0 then new
  else
    let s := o - (o - udp) % 2
    let m := (n + (o - s) + 1) / 2 * 2
    let old := (words16 bs s m).map fun w => 0xFFFF - w
    let x := onesSum ((0xFFFF - c) :: old ++ words16 new s m)
    let r := 0xFFFF - x
    putBytes new (udp + 6) 2 (if r == 0 then 0xFFFF else r)

/-- The correctionField of a PTP message at `o` becomes `cf`. -/
def putCf (bs : List Nat) (o cf : Nat) (udp : Option Nat) : List Nat :=
  let new := putBytes bs (o + 8) 8 cf
  match udp with
  | none => new
  | some u => udpFix bs new u (o + 8) 8

/-- The four bytes of an FCS as a MAC sends them (IEEE 802.3): least significant byte first. -/
def fcsBytes (c : Nat) : List Nat := bytesLE 4 c

end Sys2Proof.Machine
end

