-- ==== Sys2Proof/Machine/Shift.lean ====
section
/-! DEFINITION. A change of the LT counter that is no passage of time (R38, R39, R41): the counter moves, and every instant that
stands for elapsed time moves with it, so that what remains of each timer is the same. Instants that name a line time do not move. -/

namespace Sys2Proof.Machine

/-- `n` moved by `d` ticks, not below 0. -/
def movedBy (d : Int) (n : Nat) : Nat := ((n : Int) + d).toNat

/-- The receiver's timers. -/
def Rx.shift (d : Int) (r : Rx) : Rx :=
  let sub (b : Sub) : Sub :=
    { b with since := movedBy d b.since, alignSince := movedBy d b.alignSince, edge := movedBy d b.edge, edgeAt := movedBy d b.edgeAt }
  { r with subs := r.subs.map fun e => (e.1, sub e.2)
           ctrlEdge := movedBy d r.ctrlEdge
           remotes := r.remotes.map fun x => { x with at_ := movedBy d x.at_ }
           sdHighSince := movedBy d r.sdHighSince }

/-- The timers of joining, messages and silence. -/
def Join.shift (d : Int) (j : Join) : Join :=
  { j with deadline := movedBy d j.deadline
           rangeDue := j.rangeDue.map (movedBy d)
           host := j.host.map fun h => { h with deadline := movedBy d h.deadline }
           silEnd := j.silEnd.map (movedBy d)
           sent := j.sent.map fun w => (movedBy d w.1, movedBy d w.2.1, w.2.2) }

/-- The timers of the cave. -/
def Cave.shift (d : Int) (c : Cave) : Cave :=
  { c with waiters := c.waiters.map fun w => { w with since := movedBy d w.since }
           expWaiters := c.expWaiters.map fun w => { w with since := movedBy d w.since }
           retained := c.retained.map fun r => { r with due := movedBy d r.due }
           scrubDue := movedBy d c.scrubDue
           scrubRetry := c.scrubRetry.map (movedBy d) }

/-- The timers of the client ports and the balances. -/
def Packet.shift (d : Int) (p : Packet) : Packet :=
  let port (x : Port) : Port :=
    { x with goodSince := x.goodSince.map (movedBy d), pause := x.pause.map (movedBy d)
             pfc := x.pfc.map fun e => (e.1, movedBy d e.2)
             refresh := x.refresh.map (movedBy d), txEnd := movedBy d x.txEnd }
  let bal (b : Bal) : Bal := { b with at_ := movedBy d b.at_ }
  { p with ports := p.ports.map fun e => (e.1, port e.2)
           pols := p.pols.map fun e => (e.1, bal e.2)
           shapers := p.shapers.map fun e => (e.1, bal e.2)
           slow := p.slow.map bal
           refAt := movedBy d p.refAt
           lanes24 := p.lanes24.map fun e => (e.1, { e.2 with retry := e.2.retry.map (movedBy d) }) }

/-- The timers of a time base; its reading does not hang on LT (R277). -/
def TimeBase.shift (d : Int) (b : TimeBase) : TimeBase :=
  { b with lastValid := movedBy d b.lastValid, holdSince := movedBy d b.holdSince, masterAt := movedBy d b.masterAt
           sync := b.sync.map fun x => { x with at_ := movedBy d x.at_ }
           mpdAt := b.mpdAt.map (movedBy d), reqAt := b.reqAt.map (movedBy d) }

/-- The timers of the time bases. -/
def Timing.shift (d : Int) (t : Timing) : Timing :=
  { t with tbs := t.tbs.map fun e => (e.1, e.2.shift d)
           capAt := t.capAt.map (movedBy d), ppsAt := t.ppsAt.map (movedBy d), todEnd := movedBy d t.todEnd
           f1At := movedBy d t.f1At, f1Good := t.f1Good.map (movedBy d) }

/-- The timers of Fenkai Link. -/
def Fenkai.shift (d : Int) (f : Fenkai) : Fenkai :=
  { f with seen := f.seen.map fun e => (e.1, movedBy d e.2)
           nbrs := f.nbrs.map fun e => (e.1, { e.2 with at_ := movedBy d e.2.at_ })
           links := f.links.map fun e =>
             (e.1, { e.2 with t2 := movedBy d e.2.t2, sent := e.2.sent.map fun x => (x.1, movedBy d x.2) })
           fills := f.fills.map fun e => (e.1, { e.2 with at_ := movedBy d e.2.at_ })
           ltAt := movedBy d f.ltAt }

/-- The counter moves by `d` ticks at once. -/
def State.shiftLt (s : State) (d : Int) : State :=
  if d == 0 then s
  else
    { s with time := { s.time with lt := movedBy d s.time.lt, firedAt := movedBy d s.time.firedAt, holdStart := s.time.holdStart.map (movedBy d) }
             rx := s.rx.shift d
             join := s.join.shift d
             cave := s.cave.shift d
             asm := s.asm.map fun e => (e.1, { e.2 with since := movedBy d e.2.since, sealed := e.2.sealed.map fun x => (movedBy d x.1, x.2) })
             pk := s.pk.shift d
             tim := s.tim.shift d
             fk := s.fk.shift d
             vat := { s.vat with cls := s.vat.cls.map fun e =>
               (e.1, { e.2 with wait := e.2.wait.map fun w => (w.1, movedBy d w.2) })
                                 readyAt := s.vat.readyAt.map fun e => (e.1, movedBy d e.2)
                                 swapAt := s.vat.swapAt.map fun e => (e.1, movedBy d e.2) }
             cip := { s.cip with jobs := s.cip.jobs.map fun e => (e.1, { e.2 with asked := movedBy d e.2.asked }) }
             up := { s.up with lastEnd := s.up.lastEnd.map (movedBy d)
                               umq := s.up.umq.map fun m => { m with at_ := movedBy d m.at_ }
                               profile := s.up.profile.map fun p => { p with accepted := movedBy d p.accepted } }
             seals := s.seals.map fun x => { x with req := movedBy d x.req }
             pwr := { s.pwr with faultedAt := movedBy d s.pwr.faultedAt, grazeReq := s.pwr.grazeReq.map (movedBy d)
                                 notice := s.pwr.notice.map fun n => (movedBy d n.1, n.2)
                                 exitAt := s.pwr.exitAt.map (movedBy d)
                                 grazeAt := movedBy d s.pwr.grazeAt }
             flt := { s.flt with errUntil := s.flt.errUntil.map (movedBy d)
                                 fatalAt := s.flt.fatalAt.map (movedBy d)
                                 freezePend := s.flt.freezePend.map fun x => (movedBy d x.1, x.2) } }

end Sys2Proof.Machine
end

