-- ==== Sys2Proof/Machine/TimOps.lean ====
section
/-! DEFINITION. The readings of the time bases (R277), steps, slews and captures (R280, R281), the delays of R287, and the
correction of R286 and R288. -/

namespace Sys2Proof.Machine

/-- Units of 2^-16 ns in a second, and in a nanosecond (R277). -/
def tbSecond : Nat := 65536000000000
def tbNs : Nat := 65536

/-- Time-base modes and states (R278, R279). -/
def tmLocal : Nat := 0
def tmDomain : Nat := 1
def tmPps : Nat := 2
def tmFollow : Nat := 3
def tsFree : Nat := 0
def tsAcq : Nat := 1
def tsLocked : Nat := 2
def tsHold : Nat := 3

/-- Time base `n` outside its registers. -/
def State.tb (s : State) (n : Nat) : TimeBase := amGetD {} s.tim.tbs n

/-- Time base `n` outside its registers becomes `b`. -/
def State.setTb (s : State) (n : Nat) (b : TimeBase) : State := { s with tim := { s.tim with tbs := amPut {} s.tim.tbs n b } }

/-- The part of a slew that has been made at `t`. -/
def slewPart (t : Nat) (sl : Int × Nat × Nat) : Int :=
  let e := min (t - sl.2.1) sl.2.2
  if sl.2.2 == 0 then sl.1 else sl.1 * (e : Int) / (sl.2.2 : Int)

/-- Ticks that have passed, whatever LT has been set to: TB1 to TB3 are counters of their own (R277). -/
def State.ran (s : State) : Nat := s.time.run

/-- The reading of a free-running time base at instant `t` of the passage of time, from FREQ in units of 2^-4 ppb (R277, R280); at `at_` itself
it is `base`. -/
def TimeBase.readingAt (b : TimeBase) (freq : Int) (t : Nat) : Nat :=
  let nom : Int := 1000 * ((t - b.at_ : Nat) : Int)
  let sl := (b.slews.map (slewPart t)).foldl (· + ·) 0
  ((b.base : Int) + nom + nom * freq / 16000000000 + sl + if t ≤ b.at_ then 0 else (Config.tbcDrift b.at_ t).toInt).toNat

/-- The reading of time base `n` now, in units of 2^-16 ns (R277). -/
def State.tbReading (s : State) (n : Nat) : Nat :=
  if n == 0 then 1000 * s.now else (s.tb n).readingAt (s.rdS TIM_TB_FREQ n) s.ran

/-- Seconds and nanoseconds of a reading (R277). -/
def tbSec (r : Nat) : Nat := r / tbSecond
def tbNsOf (r : Nat) : Nat := r % tbSecond / tbNs

/-- STATE of a time base: TB0 mirrors LT_STATE (R279). -/
def State.tbState (s : State) (n : Nat) : Nat := if n == 0 then s.rd LTM_STATE else s.rd TIM_TB_STATE n

/-- STATE of TB1 to TB3 becomes `x`; TB_LOCK and TB_UNLOCK (R295). -/
def State.tbTo (s : State) (n x : Nat) : State :=
  let o := s.rd TIM_TB_STATE n
  let t := s.wr TIM_TB_STATE x n
  let t := t.raiseIf (x == tsLocked && o != tsLocked) 11 0
  let t := t.raiseIf (x != tsLocked && o == tsLocked) 11 1
  if x == tsFree then t.setTb n { t.tb n with fresh := true, good := 0 } else t

/-- The reading now becomes the base from which time base `n` goes on; slews keep what is left of them. -/
def State.tbRebase (s : State) (n : Nat) : State :=
  let b := s.tb n
  let left (sl : Int × Nat × Nat) : Option (Int × Nat × Nat) :=
    let e := min (s.ran - sl.2.1) sl.2.2
    if sl.2.2 ≤ e then none else some (sl.1 - slewPart s.ran sl, s.ran, sl.2.2 - e)
  s.setTb n { b with base := s.tbReading n, at_ := s.ran, slews := b.slews.filterMap left }

/-- FREQ of time base `n` becomes `f`, clipped to ±100 ppm (R280). -/
def State.tbFreq (s : State) (n : Nat) (f : Int) : State :=
  (s.tbRebase n).wrS TIM_TB_FREQ (clampI (-1600000) 1600000 f) n

/-- Time base `n` slews by `d` units over `ticks` (R278, R280). -/
def State.tbSlew (s : State) (n : Nat) (d : Int) (ticks : Nat) : State :=
  let t := s.tbRebase n
  if d == 0 then t else t.setTb n { t.tb n with slews := (t.tb n).slews ++ [(d, t.ran, ticks)] }

/-- Time base `n` is set to reading `r`. -/
def State.tbSet (s : State) (n r : Nat) : State := s.setTb n { s.tb n with base := r, at_ := s.ran, slews := [] }

/-- Time base `n` is stepped by `d` units (R280). -/
def State.tbStepBy (s : State) (n : Nat) (d : Int) : State :=
  let t := s.tbRebase n
  let b := t.tb n
  let t := t.setTb n { b with base := ((b.base : Int) + d).toNat }
  ((t.inc TIM_TB_TB_STEPS 1 n).wr TIM_TB_STEPPED 1 n).raise 11 2

/-- The mean FREQ of the samples kept, for holdover (R285). -/
def meanFreq (l : List Int) (f : Int) : Int := if l.isEmpty then f else l.foldl (· + ·) 0 / (l.length : Int)

/-- The restart of TB1 to TB3 with FREQ 0 and zero readings (R285). -/
def State.tbRestart (s : State) : State :=
  [1, 2, 3].foldl (fun t n =>
    let t := (t.wr TIM_TB_STATE tsFree n).wr TIM_TB_FREQ 0 n
    let t := (((t.wr TIM_TB_CAP_S_LO 0 n).wr TIM_TB_CAP_S_HI 0 n).wr TIM_TB_CAP_NS 0 n).wr TIM_TB_CAP_STATE 0 n
    t.setTb n { at_ := t.ran }) s

/-- A capture of every time base (R281): `src` 0 the launch table, 1 CAP_GO; two captures of one instant are one. -/
def State.capture (s : State) (src : Nat) : State :=
  let both := s.tim.capAt == some s.now
  let t := (List.range 4).foldl (fun t n =>
    let r := t.tbReading n
    ((t.wr64 TIM_TB_CAP_S_LO TIM_TB_CAP_S_HI (tbSec r) n).wr TIM_TB_CAP_NS (tbNsOf r) n).wr TIM_TB_CAP_STATE (t.tbState n) n) s
  let t := t.wr TIM_CAP_SRC (if both then setBit (t.rd TIM_CAP_SRC) src else 2 ^ src)
  ({ t with tim := { t.tim with capAt := some t.now } }).raise 11 6

/-! The line's delay (R287) -/

/-- round(CD_A × (difference of wavelengths in pm) × 0.065536 / 1000) ticks (R287). -/
def cdTicks (cd : Int) (dpm : Int) : Int := divRound (cd * dpm * 65536) 1000000000

/-- CD_A in ps/nm from the line measurement block, when VALID (R84). -/
def State.cdA (s : State) : Option Int := if s.on LMS_VALID 1 then some (s.rdS LMS_CD 0) else none

/-- The differences of the wavelengths of U and of B from A, in pm. -/
def State.dLamU (s : State) : Int := (s.rd TIM_LAMBDA_U : Int) - s.rd TIM_LAMBDA_A
def State.dLamB (s : State) : Int := (s.rd TIM_LAMBDA_B : Int) - s.rd TIM_LAMBDA_A

/-- DDOWN_A (R287): a drain of EQD_PEND leaves it as it is. -/
def State.ddownA (s : State) : Int :=
  ((s.rd UPB_TRESP : Int) - ((s.rd LTM_EQD : Int) + s.rdS LTM_EQD_PEND) - s.rdS TIM_ASYM - s.rdS TIM_GD) / 2

/-- DDOWN_B (R287): its own term is computed with GD, and moves only with a new GD. -/
def State.ddownB (s : State) : Int := if s.on TIM_GD_EN && s.on TIM_GD_VALID then s.ddownA + s.tim.gdB else s.ddownA

/-- GD at a multiframe boundary (R287). -/
def State.setGd (s : State) : State :=
  if !s.on TIM_GD_EN then (s.wr TIM_GD 0).wr TIM_GD_VALID 0
  else
    match s.cdA with
    | some cd =>
      let t := (s.wrS TIM_GD (cdTicks cd s.dLamU)).wr TIM_GD_VALID 1
      { t with tim := { t.tim with gdB := cdTicks cd s.dLamB } }
    | none => s

/-! The correction (R286, R288) -/

/-- The correction of a downstream frame in units of 2^-16 ns: 1,000 × (E − H + D) × (1 + RR × 2^-4 × 10^-9), halves away from zero. -/
def residence (e h : Nat) (d rr : Int) : Int :=
  divRound (1000 * (ltDiff e h + d) * (16000000000 + rr)) 16000000000

/-- The correctionField that stands for a correction too large to represent (R288). -/
def cfMax : Nat := 0x7FFFFFFFFFFFFFFF

/-- A downstream correction cannot be computed (R288). -/
def State.corrInvalid (s : State) (ts : Bool) (m : Nat) : Bool :=
  !s.on UPB_REGISTERED || !s.ltIs ltLocked || s.on LTM_FINE_RANGE_REQ || !ts || m == 0

/-- The correctionField that leaves, from the one that came, and the state that has counted it (R286, R288). -/
def State.correct (s : State) (cf h car m : Nat) (ts : Bool) : Nat × State :=
  if cf == cfMax then (cf, s)
  else if s.corrInvalid ts m then (cfMax, (s.inc TIM_TC_INVALID).raise 11 4)
  else
    let d := if car == 0 then s.ddownA else s.ddownB
    let v := toS 64 cf + residence s.lt64 h d (s.rdS TIM_TB_RR m)
    if v < -(2 : Int) ^ 63 || (2 : Int) ^ 63 ≤ v then (cfMax, s.inc TIM_TC_SAT)
    else (ofS 64 v, s.inc TIM_TC_CORR)

end Sys2Proof.Machine
end

