-- ==== Sys2Proof/Machine/PktOps.lean ====
section
/-! DEFINITION. What the packet path shares: token balances (R206, R207, R215, R216), the shared buffers (R204), the slow path and
its rings (R200, R368, R369), queues (R209, R217), and a port's event nibbles (R178, R188). -/

namespace Sys2Proof.Machine

/-! Balances -/

/-- Exact units in a byte: a rate in kb/s times ticks is a number of them (R206, R215). -/
def byteUnits : Nat := 524288000

/-- Tokens accrue at `rate` up to a ceiling of `cap` units (R206, R215): a balance above it stays until it is clipped. -/
def Bal.accrue (b : Bal) (rate now : Nat) (cap : Int) : Bal :=
  { v := if cap ≤ b.v then b.v else min cap (b.v + (rate * (now - b.at_) : Nat)), at_ := now }

/-- Policer `p`'s balance now (R206). -/
def State.polBal (s : State) (p : Nat) : Bal :=
  (amGetD { v := 0, at_ := 0 } s.pk.pols p).accrue (s.rd QSH_POL_CIR p) s.now (s.rd QSH_POL_CBS p * byteUnits)

/-- Policer `p`'s balance becomes `b`. -/
def State.setPol (s : State) (p : Nat) (b : Bal) : State := { s with pk := { s.pk with pols := amSet s.pk.pols p b } }

/-- Where shaper copies begin: queues, allocations, egress queues, ports (R223). -/
def shUq (u : Nat) : Nat := u
def shAl (a : Nat) : Nat := 4096 + a
def shEq (e : Nat) : Nat := 4160 + e
def shPort (p : Nat) : Nat := 4288 + p

/-- Shaper `k`'s balance now (R215): BURST while SH_EN is 0. -/
def State.shBal (s : State) (k : Nat) : Bal :=
  let cap : Int := s.rd QSH_SH_BURST k * byteUnits
  if !s.on QSH_SH_SH_EN k then { v := cap, at_ := s.now }
  else (amGetD { v := cap, at_ := s.now } s.pk.shapers k).accrue (s.rd QSH_SH_RATE k) s.now cap

/-- Shaper `k`'s balance becomes `b`. -/
def State.setSh (s : State) (k : Nat) (b : Bal) : State := { s with pk := { s.pk with shapers := amSet s.pk.shapers k b } }

/-- What shaper `k` governs is eligible (R215). -/
def State.shOk (s : State) (k : Nat) : Bool := 0 ≤ (s.shBal k).v

/-- A frame of length `len` debits shaper `k` by L + OVH (R215). -/
def State.debit (s : State) (k len : Nat) : State :=
  if !s.on QSH_SH_SH_EN k then s
  else
    let b := s.shBal k
    s.setSh k { b with v := b.v - ((len : Int) + s.rdS QSH_SH_OVH k) * byteUnits }

/-- The whole bytes of a balance, as SBAL and BALANCE show them. -/
def balBytes (b : Bal) : Int := b.v / byteUnits

/-- The channel of QSH that holds copy `k` of a shaper or policer field changes with `f` (R207, R216): tokens accrue at the old
rate up to now; a lower ceiling clips a positive balance; SH_EN written to 1 starts the shaper full. -/
def State.reshape (s : State) (k : Nat) (f : State → State) : State :=
  let b := s.shBal k
  let was := s.on QSH_SH_SH_EN k
  let t := f s
  let cap : Int := t.rd QSH_SH_BURST k * byteUnits
  if !t.on QSH_SH_SH_EN k then { t with pk := { t.pk with shapers := amDel t.pk.shapers k } }
  else if !was then t.setSh k { v := cap, at_ := t.now }
  else t.setSh k { b with v := min b.v cap }

/-- The policer's counterpart of `reshape` (R207). -/
def State.repolice (s : State) (p : Nat) (f : State → State) : State :=
  let b := s.polBal p
  let t := f s
  t.setPol p { b with v := min b.v (t.rd QSH_POL_CBS p * byteUnits) }

/-! The slow path -/

/-- Units of a slow-path token: a rate in frames a second times ticks (R200). -/
def slowUnits : Nat := 65536000000

/-- The slow-path bucket now. -/
def State.slowBal (s : State) : Bal :=
  let cap : Int := s.rd CLS_SP_BURST * slowUnits
  (s.pk.slow.getD { v := cap, at_ := s.now }).accrue (s.rd CLS_SP_RATE) s.now cap

/-- SP_RATE or SP_BURST is written by `f`: what has accrued stays, clipped to the new burst (R200). -/
def State.reslow (s : State) (f : State → State) : State :=
  let b := s.slowBal
  let t := f s
  { t with pk := { t.pk with slow := some { b with v := min b.v (t.rd CLS_SP_BURST * slowUnits) } } }

/-- RS_INT bit `b` of ring set `n` is set, with its interrupt (R371, R372). -/
def State.raiseRing (s : State) (n b : Nat) : State :=
  let t := s.wr DMA_RS_RS_INT (setBit (s.rd DMA_RS_RS_INT n) b) n
  if n == 0 then t.raiseIf (t.ringLine 0) 5 0
  else if t.srcLine (19 + n) && !s.srcLine (19 + n) then t.sendMsix (19 + n) else t

/-- A receive or injection ring index advances. -/
def ringNext (size i : Nat) : Nat := if size ≤ i + 1 then 0 else i + 1

/-- Words of a receive entry written by the terminal, words 8 to 12, word 8 last (R369). -/
def rxWords (j : Judged) (cause : Nat) (trunc : Bool) : List Nat :=
  let w8 := 1 + cause * 2 + j.f.isrc * 8 + j.ver * 256 + j.pf * 1024 + b2n trunc * 8192
  [j.f.bytes.length + (j.entry.getD 0) * 65536 + b2n j.entry.isSome * 2 ^ 30, j.at_ % 2 ^ 32, j.at_ / 2 ^ 32 % 2 ^ 32, j.f.ltid, w8]

/-- A frame cut to whole beats of the host's buffer (R369). -/
def rxData (bytes : List Nat) (bufLen : Nat) : List Nat :=
  let d := bytes.take bufLen
  d ++ List.replicate (ceilDiv d.length 64 * 64 - d.length) 0

/-- A frame goes to the receive ring of its function, whose entry at HEAD names `buf` and `bufLen`, or finds the ring full or not
enabled (R200, R369, R371). -/
def State.ringDeliver (s : State) (j : Judged) (cause buf bufLen : Nat) : State :=
  let n := j.func
  let h := s.rd DMA_RS_RX_HEAD n
  if !s.on DMA_RS_RX_EN n || h == s.rd DMA_RS_RX_TAIL n then (s.inc CLS_SP_RING_FULL).raise 13 5
  else
    let a := s.rd64 DMA_RS_RX_BASE_LO DMA_RS_RX_BASE_HI n + 64 * h
    let trunc := decide (bufLen < j.f.bytes.length)
    let ws := rxWords j cause trunc
    let t := s.emit (.hostWrite (ownerFn n) buf (rxData j.f.bytes bufLen))
    let t := t.emit (.hostWrite (ownerFn n) (a + 36) ((ws.take 4).flatMap (bytesLE 4)))
    let t := t.emit (.hostWrite (ownerFn n) (a + 32) ((ws.drop 4).flatMap (bytesLE 4)))
    let t := t.wr DMA_RS_RX_HEAD (ringNext (t.rd DMA_RS_RX_SIZE n) h) n
    ((t.inc DMA_RS_RX_FRAMES 1 n).inc CLS_SP_SENT).raiseRing n 0

/-- A frame goes to the slow path: the rate limiter, then its ring (R200). -/
def State.slowPath (s : State) (j : Judged) (cause buf bufLen : Nat) : State :=
  let b := s.slowBal
  if b.v < slowUnits then ({ s with pk := { s.pk with slow := some b } }.inc CLS_SP_DROP).raise 13 4
  else ({ s with pk := { s.pk with slow := some { b with v := b.v - slowUnits } } }).ringDeliver j cause buf bufLen

/-! Sources, queues and ports -/

/-- Source `i` of the classifier. -/
def State.lane (s : State) (i : Nat) : Lane := amGetD {} s.pk.lanes i

/-- Source `i` becomes `l`. -/
def State.setLane (s : State) (i : Nat) (l : Lane) : State := { s with pk := { s.pk with lanes := amPut {} s.pk.lanes i l } }

/-- Frames of a source in the reorder stage. -/
def Lane.held (l : Lane) : Nat := (l.items.filter fun | .frame _ _ => true | .marker _ => false).length

/-- Frames in the classifier that carry version `v` (R198). -/
def State.inFlight (s : State) (v : Nat) : Nat :=
  (s.pk.lanes.map fun e => (e.2.items.filter fun | .frame _ j => j.ver == v | .marker _ => false).length).foldl (· + ·) 0 +
    b2n (s.pk.stalledBy.map (·.2) == some v)

/-- INFLIGHT follows the frames in the classifier (R201). -/
def State.showInFlight (s : State) : State :=
  s.wr CLS_INFLIGHT (((List.range 4).map fun v => min (s.inFlight v) 255 * 256 ^ v).foldl (· + ·) 0)

/-- An upstream queue (R209). -/
def State.uq (s : State) (u : Nat) : UQueue := amGetD {} s.pk.uqs u

/-- Bytes in the frames of an upstream queue. -/
def UQueue.fill (q : UQueue) : Nat := (q.frames.map UFrm.len).foldl (· + ·) 0

/-- Upstream queue `u` becomes `q`; QFILL follows. -/
def State.setUq (s : State) (u : Nat) (q : UQueue) : State :=
  ({ s with pk := { s.pk with uqs := amPut {} s.pk.uqs u q } }).wr QSH_UQ_QFILL q.fill u

/-- Bytes in the upstream buffer, and in the downstream buffer (R204). -/
def State.ubuf (s : State) : Nat := (s.pk.uqs.map fun e => e.2.fill).foldl (· + ·) 0
def State.dbuf (s : State) : Nat := (s.pk.eqs.map fun e => (e.2.map fun f : EFrm => f.bytes.length).foldl (· + ·) 0).foldl (· + ·) 0

/-- UBUF_FILL and DBUF_FILL in KiB, a part counted whole (R222). -/
def State.showBufs (s : State) : State :=
  (s.wr QSH_UBUF_FILL (ceilDiv s.ubuf 1024)).wr QSH_DBUF_FILL (ceilDiv s.dbuf 1024)

/-- Egress queue `e`. -/
def State.eq (s : State) (e : Nat) : List EFrm := amGetD [] s.pk.eqs e

/-- Egress queue `e` becomes `l`; QFILL follows. -/
def State.setEq (s : State) (e : Nat) (l : List EFrm) : State :=
  (({ s with pk := { s.pk with eqs := amPut [] s.pk.eqs e l } }).wr QSH_EQ_QFILL
    ((l.map fun f : EFrm => f.bytes.length).foldl (· + ·) 0) e).showBufs

/-- Sizes of the shared buffers (R204). -/
def ubufSize : Nat := 32 * 1024 * 1024
def dbufSize : Nat := 16 * 1024 * 1024

/-- A frame for upstream queue `u` (R204, R209): discarded, queued, or admission stops for it. -/
def State.enqUq (s : State) (u : Nat) (f : UFrm) : State :=
  let q := s.uq u
  let mx := s.rd QSH_UQ_QMAX u
  if !s.on QSH_UQ_EN u || (mx != 0 && mx * 1024 < q.fill + f.len) then (s.inc QSH_UQ_DROPS 1 u).raise 14 0
  else if ubufSize < s.ubuf + f.len then
    let t := { s with pk := { s.pk with stalled := some (u, f) } }
    if s.pk.stalled.isSome then t else (t.inc QSH_UBUF_STALL).raise 14 3
  else
    ((s.setUq u { q with frames := q.frames ++ [f] }).inc64 QSH_UQ_ENQ_LO QSH_UQ_ENQ_HI 1 u).showBufs.perf 14 0x00

/-- A frame for egress queue `e` (R204, R217). -/
def State.enqEq (s : State) (e : Nat) (f : EFrm) : State :=
  let l := f.bytes.length
  let mx := s.rd QSH_EQ_QMAX e
  if !s.on QSH_EQ_EN e || (mx != 0 && mx * 1024 < s.rd QSH_EQ_QFILL e + l) then (s.inc QSH_EQ_DROPS 1 e).raise 14 1
  else if dbufSize < s.dbuf + l then (s.inc QSH_DBUF_DROP).raise 14 1
  else ((s.setEq e (s.eq e ++ [f])).inc64 QSH_EQ_ENQ_LO QSH_EQ_ENQ_HI 1 e).perf 14 0x00

/-- A port outside its registers. -/
def State.port (s : State) (n : Nat) : Port := amGetD {} s.pk.ports n

/-- Port `n` outside its registers becomes `p`. -/
def State.setPort (s : State) (n : Nat) (p : Port) : State := { s with pk := { s.pk with ports := amPut {} s.pk.ports n p } }

/-- An interrupt cause of port `n` (R189). -/
def State.portRaise (s : State) (n b : Nat) : State :=
  (s.wr CLP_PORT_EVENT (setBit (s.rd CLP_PORT_EVENT) n)).raise 12 b

/-- Nibbles of the event registers (R188). -/
def nbRunt : Nat := 0
def nbOversize : Nat := 1
def nbFcs : Nat := 2
def nbPcs : Nat := 3
def nbPause : Nat := 4
def nbCtrl : Nat := 5
def nbOverflow : Nat := 6
def nbStomp : Nat := 7
def nbPfc : Nat := 8
def nbLink : Nat := 9

/-- Event nibble `k` of port `n` counts one (R188). -/
def State.nibble (s : State) (n k : Nat) : State :=
  let f := if k < 8 then CLP_P_EVENTS_0_0 else CLP_P_EVENTS_1_0
  let v := s.rd f n / 16 ^ (k % 8) % 16
  if 15 ≤ v then s
  else
    let t := s.wr f (s.rd f n + 16 ^ (k % 8)) n
    if v == 14 then t.portRaise n 3 else t

/-- Event nibble `k` after a write of `v` that meets an increment of `h` (R188). -/
def nibbleSum (v h k : Nat) : Nat := min 15 (v / 16 ^ k % 16 + h / 16 ^ k % 16)

/-- An event register of `cnt` nibbles is written `v` while the hardware counts `h` (R188); an increment can bring a nibble to 15
(R189). -/
def State.putNibbles (s : State) (f : Fld) (n cnt v h : Nat) : State :=
  let t := s.wr f (((List.range cnt).map fun k => nibbleSum v h k * 16 ^ k).foldl (· + ·) 0) n
  if (List.range cnt).any fun k => decide (v / 16 ^ k % 16 < 15) && nibbleSum v h k == 15 then t.portRaise n 3 else t

/-- A port's lanes (R175). -/
def State.portLanes (s : State) (n : Nat) : Nat := 2 ^ (s.rd CLP_P_MODE n % 4)

/-- The line tag of a frame (R184), with its extension when `ts` holds, and the frame. -/
def tagUnit (tid flow tc mem lt : Nat) (ts : Bool) (bytes : List Nat) : List Nat :=
  let v := tid * 2 ^ 46 + flow * 2 ^ 32 + bytes.length * 2 ^ 18 + tc * 2 ^ 15 + b2n ts * 2 ^ 14 + mem * 2 ^ 11
  let hd := bytesBE 7 (v / 256)
  hd ++ [crc8 0 hd] ++ (if ts then bytesBE 8 (lt % 2 ^ 64) else []) ++ bytes

/-- An upstream frame is tagged and queued, or discarded while TID_VALID is 0 (R185). -/
def State.tagTo (s : State) (u flow tc lt : Nat) (ts : Bool) (bytes : List Nat) : State :=
  if !s.on UPB_TID_VALID then s.inc CLP_NO_TID
  else s.enqUq u { len := bytes.length, data := tagUnit (s.rd UPB_TID) flow tc (s.rd FKL_MEM_ID) lt ts bytes }

/-- A frame of length `len` meets policer `p` (R206): whether it passes, the TC that replaces its own, and the state after. -/
def State.police (s : State) (p len : Nat) : Bool × Option Nat × State :=
  if !s.on QSH_POL_EN p then (true, none, s)
  else
    let b := s.polBal p
    if len * byteUnits ≤ b.v then
      let t := s.setPol p { b with v := b.v - (len * byteUnits : Nat) }
      (true, none, (t.inc64 QSH_POL_CONF_FRAMES_LO QSH_POL_CONF_FRAMES_HI 1 p).inc64 QSH_POL_CONF_BYTES_LO QSH_POL_CONF_BYTES_HI len p)
    else
      let t := ((s.setPol p b).inc64 QSH_POL_EXC_FRAMES_LO QSH_POL_EXC_FRAMES_HI 1 p).inc64 QSH_POL_EXC_BYTES_LO QSH_POL_EXC_BYTES_HI
        len p
      if s.on QSH_POL_EXCEED_ACT p then (true, some (s.rd QSH_POL_EXCEED_TC p), t) else (false, none, t)

end Sys2Proof.Machine
end

