-- ==== Sys2Proof/Machine/Classify.lean ====
section
/-! DEFINITION. Classification (chapter 08): versions, the rule table, lookups, the reorder stage and what follows it. -/

namespace Sys2Proof.Machine

/-! Versions (R198, R199) -/

/-- Version states (R201). -/
def vsFree : Nat := 0
def vsStaging : Nat := 1
def vsCurrent : Nat := 2
def vsDraining : Nat := 3

/-- The state of version `v`. -/
def State.vstate (s : State) (v : Nat) : Nat := s.rd CLS_VSTATE / 4 ^ v % 4

/-- Version `v` enters state `x`. -/
def State.setVstate (s : State) (v x : Nat) : State :=
  s.wr CLS_VSTATE (s.rd CLS_VSTATE - s.vstate v * 4 ^ v + x * 4 ^ v)

/-- The version in state `x`, the lowest. -/
def State.verIn (s : State) (x : Nat) : Option Nat := (List.range 4).find? fun v => s.vstate v == x

/-- The CURRENT version. -/
def State.curVer (s : State) : Nat := (s.verIn vsCurrent).getD 0

/-- A refusal (R198, R199). -/
def State.clsRefuse (s : State) : State := (s.inc CLS_WR_REFUSED).raise 13 3

/-- The version a sealed commit names (R198). -/
def State.sealedCommit (s : State) : Option Nat :=
  (s.seals.find? fun x => x.page == 13).bind fun x => (x.fields.find? fun f => f.key == CLS_CUR_VER.key 0).map Shad.val

/-- The versions that are live (R199), as a mask. -/
def State.liveMask (s : State) : Nat :=
  ((List.range 4).map fun v =>
    let x := s.vstate v
    b2n (x == vsCurrent || x == vsDraining || (x == vsStaging && s.sealedCommit == some v)) * 2 ^ v).foldl (· + ·) 0

/-- A DRAINING version with no frame in flight becomes FREE (R198). -/
def State.retireVer (s : State) (v : Nat) : State :=
  if s.vstate v == vsDraining && s.inFlight v == 0 then (s.setVstate v vsFree).raise 13 1 else s

/-- Every version that can retire does, before an operation that would meet it in the same cycle (R199). -/
def State.settle (s : State) : State := forEach (List.range 4) s State.retireVer

/-- A commit of version `v` completes (R198); a version that is no longer STAGING commits nothing. -/
def State.commitVer (s : State) (v : Nat) : State :=
  if s.vstate v != vsStaging then s
  else
    let t := (s.setVstate s.curVer vsDraining).setVstate v vsCurrent
    ((t.wr CLS_CUR_VER v).wr CLS_STAGE_VALID 0).raise 13 0

/-- Copies of a field that are listed in the register file, ascending. -/
def State.listed (s : State) (f : Fld) : List Nat :=
  s.regs.filterMap fun e => if e.1 / 2 ^ 20 == f.id then some (e.1 % 2 ^ 20) else none

/-- STAGE (R198): the copy of VMASK bits is judged complete when STAGE_BUSY clears. -/
def stage (s : State) : State :=
  let s := s.settle
  match s.on CLS_STAGE_VALID, s.verIn vsFree with
  | false, some v =>
    let t := (((s.setVstate v vsStaging).wr CLS_STAGE_VER v).wr CLS_STAGE_VALID 1).wr CLS_STAGE_BUSY 1
    let c := s.curVer
    forEach (t.listed CLSE_VMASK) t fun u n => u.wr CLSE_VMASK (putBit (u.rd CLSE_VMASK n) v (bit (u.rd CLSE_VMASK n) c)) n
  | _, _ => s.clsRefuse

/-- The STAGE copy completes (R198). -/
def stageDone (s : State) : State := if s.on CLS_STAGE_BUSY then (s.wr CLS_STAGE_BUSY 0).raise 13 2 else s

/-- ABANDON (R198). -/
def abandon (s : State) : State :=
  let s := s.settle
  if !s.on CLS_STAGE_VALID || s.on CLS_STAGE_BUSY || s.sealedCommit.isSome then s.clsRefuse
  else (s.setVstate (s.rd CLS_STAGE_VER) vsFree).wr CLS_STAGE_VALID 0

/-- Retirement of a version (R198). -/
def versionRetire (v : Nat) (s : State) : State := s.retireVer v

/-! The rule table (R194, R196, R199) -/

/-- The fields of word `w` of an entry (R194): 0 to 15 KEY, 16 to 31 MASK, 32 to 34 the action words. -/
def entryFields (w : Nat) : List (Fld × Nat) :=
  if w < 16 then [(CLSE_KEY, w)]
  else if w < 32 then [(CLSE_MASK, w - 16)]
  else if w == 32 then [(CLSE_DISP, 0), (CLSE_TS, 0), (CLSE_POL_EN, 0), (CLSE_POL, 0), (CLSE_TC, 0)]
  else if w == 33 then [(CLSE_FLOW, 0), (CLSE_UQ, 0), (CLSE_EPORT, 0)]
  else if w == 34 then [(CLSE_SP_FUNC, 0), (CLSE_PTPC, 0), (CLSE_PTP_TB, 0)]
  else []

/-- A field's part of a written word is a reserved encoding (R15, R194, R195). -/
def entryReserved (f : Fld) (value : Nat) : Bool :=
  let v := bits value (f.lo + f.w - 1) f.lo
  (f.id == CLSE_DISP.id && 4 ≤ v) || (f.id == CLSE_PTP_TB.id && v == 0 && bit value 4)

/-- A word of entry `n` written since its ERR was set; the last of the 35 clears ERR (R196). -/
def State.rewrote (s : State) (n w : Nat) : State :=
  if !s.on CLSE_ERR n then s
  else
    let m := setBit (smGet s.pk.rewritten n) w
    let t := { s with pk := { s.pk with rewritten := smSet s.pk.rewritten n m } }
    if m == 2 ^ 35 - 1 then { t.wr CLSE_ERR 0 n with pk := { t.pk with rewritten := smSet t.pk.rewritten n 0 } } else t

/-- A write to a KEY, MASK or action word of entry `n` (R199). -/
def ruleEntryWrite (n w value : Nat) (s : State) : State :=
  let s := s.settle
  if 16384 ≤ n || 35 ≤ w then s
  else if s.rd CLSE_VMASK n &&& s.liveMask != 0 then s.clsRefuse
  else
    let t := forEach (entryFields w) s fun u fk =>
      if entryReserved fk.1 value then u else u.wr fk.1 (value / 2 ^ fk.1.lo) (fk.1.copy n fk.2)
    t.rewrote n w

/-- A VMASK write of entry `n` (R199). -/
def vmaskWrite (n value : Nat) (s : State) : State :=
  let s := s.settle
  if 16384 ≤ n then s
  else if s.on CLS_STAGE_BUSY then s.clsRefuse
  else
    let live := s.liveMask
    let old := s.rd CLSE_VMASK n
    let t := s.wr CLSE_VMASK ((value % 16 &&& (15 - live)) ||| (old &&& live)) n
    if (value % 16 ^^^ old) &&& live != 0 then t.clsRefuse else t

/-! Lookup (R195, R196) -/

/-- The 512-bit KEY or MASK of entry `n` (R194). -/
def State.entryKey (s : State) (f : Fld) (n : Nat) : Nat :=
  (List.range 16).foldl (fun a k => a * 2 ^ 32 + s.rd f (f.copy n k)) 0

/-- The lookup of a key under version `v` (R195, R196): the entries checked and found in error, and the first match. `bad` names the
entries whose parity is wrong. -/
def State.lookup (s : State) (key v : Nat) (bad : List Nat) : List Nat → List Nat × Option Nat
  | [] => ([], none)
  | n :: t =>
    if !bit (s.rd CLSE_VMASK n) v || s.on CLSE_ERR n then s.lookup key v bad t
    else
      let r := if (key ^^^ s.entryKey CLSE_KEY n) &&& s.entryKey CLSE_MASK n == 0 then ([], some n) else s.lookup key v bad t
      if bad.contains n then (n :: r.1, r.2) else r

/-- Parity errors found by one lookup (R196): each entry's ERR and its fault; the frame is counted once. -/
def State.entryErrors (s : State) (l : List Nat) : State :=
  forEach l ((s.inc CLS_ENTRY_ERR).raise 13 7) fun t n => (t.wr CLSE_ERR 1 n).fault cClsParity (srcRegion 12) 13

/-- The action words of entry `n` (R194). -/
def State.actWord (s : State) (n w : Nat) : Nat :=
  ((entryFields w).map fun fk => s.rd fk.1 (fk.1.copy n fk.2) * 2 ^ fk.1.lo).foldl (· + ·) 0

/-! Sources -/

/-- How many frames the reorder stage holds of one source (R197). -/
def reorderSize : Nat := 512

/-- A sealed page is due for its markers: a PACKET boundary at least 2 µs old, or PACKET fields behind another boundary taken (R49 to
R51). -/
def Sealed.dueMarkers (x : Sealed) (now : Nat) : Bool :=
  !x.marked && (if x.kind == 4 then decide (x.req + 131072 ≤ now)
    else x.taken.isSome && x.fields.any fun f => f.ap == .packet)

/-- Every sealed page that is due puts its marker into every lane, once (R49, R51). -/
def State.insertMarkers (s : State) : State :=
  s.seals.foldl (fun t x =>
    if x.dueMarkers t.now then
      let u := { t with seals := t.seals.map fun y => if y.page == x.page then { y with marked := true } else y }
      forEach (List.range 19) u fun v i => v.setLane i { v.lane i with items := (v.lane i).items ++ [.marker x.page] }
    else t) s

/-- The version stamped at the parser (R198): behind the marker of a commit, the version that is committed. -/
def State.stamp (s : State) : Nat :=
  match s.seals.find? fun x => x.page == 13 && x.kind == 4 && x.marked with
  | some _ => match s.sealedCommit with
    | some v => if s.vstate v == vsStaging then v else s.curVer
    | none => s.curVer
  | none => s.curVer

/-- An upstream stop holds back sources 0 to 15 and 18 (R204). -/
def State.heldBack (s : State) (i : Nat) : Bool := s.pk.stalled.isSome && (i < 16 || i == 18)

/-- A frame comes before the parser of its source. -/
def State.toParser (s : State) (f : RxFrame) : State :=
  s.setLane f.isrc { s.lane f.isrc with inq := (s.lane f.isrc).inq ++ [f] }

/-- The parser may take a frame of source `i`: its reorder space is not full (R197). -/
def State.parserRoom (s : State) (i : Nat) : Bool := (s.lane i).held + (s.lane i).inq.length < reorderSize

/-- A judged frame takes its place in the reorder stage (R197). -/
def State.toReorder (s : State) (seq : Nat) (j : Judged) : State :=
  let i := j.f.isrc
  let t := s.setLane i { s.lane i with items := (s.lane i).items ++ [.frame seq { j with eng := s.pk.engine }] }
  (t.wr CLS_SRC_REORDER_MAX (max (t.rd CLS_SRC_REORDER_MAX i) (t.lane i).held) i).showInFlight

/-- A parse that failed (R190, R192). -/
def State.parseFailed (s : State) (f : RxFrame) (seq ver pf : Nat) : State :=
  let t := ((s.inc CLS_PARSE_FAIL).inc CLS_SRC_SRC_PFAIL 1 f.isrc).wr CLS_SRC_LAST_PF pf f.isrc |>.raise 13 6
  if f.isrc == 18 then t.inc CLS_INJ_MISS
  else t.toReorder seq { f := f, ver := ver, entry := none, fwd := false, slow := some 1, pf := pf, func := t.rd CLS_MISS_FUNC
                         a0 := 0, a1 := 0, a2 := 0, ptp := false, at_ := t.lt64 }

/-- A miss (R190, R195). -/
def State.missed (s : State) (f : RxFrame) (seq ver : Nat) : State :=
  let t := ((s.inc CLS_MISS).inc CLS_SRC_SRC_MISS 1 f.isrc).perf 13 0x01
  if f.isrc == 18 then t.inc CLS_INJ_MISS
  else t.toReorder seq { f := f, ver := ver, entry := none, fwd := false, slow := some 0, pf := 0, func := t.rd CLS_MISS_FUNC
                         a0 := 0, a1 := 0, a2 := 0, ptp := false, at_ := t.lt64 }

/-- A match of entry `n` (R195). -/
def State.matched (s : State) (f : RxFrame) (seq ver n : Nat) (ptp : Bool) : State :=
  let t := (s.inc64 CLSE_HITS_LO CLSE_HITS_HI 1 n).inc64 CLSE_BYTES_LO CLSE_BYTES_HI f.bytes.length n
  let d := t.rd CLSE_DISP n
  if d == 1 then t
  else t.toReorder seq { f := f, ver := ver, entry := some n, fwd := d == 0 || d == 3
                         slow := if d == 2 then some 2 else if d == 3 then some 3 else none, pf := 0, func := t.rd CLSE_SP_FUNC n
                         a0 := t.actWord n 32, a1 := t.actWord n 33, a2 := t.actWord n 34, ptp := ptp, at_ := t.lt64 }

/-- The requester table of the sources before the engines (R197), of the engines before the slow-path bucket (R200), and of the sources
before policer `p` (R205). -/
def rtParse : Nat := 3
def rtSlow : Nat := 4
def rtPol (p : Nat) : Nat := 0x40000 + p

/-- Source `i` has a frame before the parser, and reorder space for it (R197). -/
def State.parsable (s : State) (i : Nat) : Bool := !(s.lane i).inq.isEmpty && decide ((s.lane i).held < reorderSize)

/-- The source from which an engine takes the next frame: round robin over those that have one (R197). -/
def State.parserTurn (s : State) : Option Nat := s.winner rtParse 19 ((List.range 19).filter s.parsable)

/-- Pages 13 and 14 hold a shadow that was kept through their region's gating: no frame is classified before it applies (R30). -/
def State.hubKeeps (s : State) : Bool := s.keepsShadow 13 (fun _ => true) || s.keepsShadow 14 (fun _ => true)

/-- The source and the engine move on (R197). -/
def State.engineTook (s : State) (i : Nat) : State :=
  let t := s.won rtParse 19 i
  { t with pk := { t.pk with engine := (t.pk.engine + 1) % 4 } }

/-- A frame of source `i`, whose turn it is, is parsed, stamped and looked up (R191 to R197). `bad` names the entries whose parity a
check finds wrong (R196). -/
def classifyFrame (i : Nat) (bad : List Nat) (s : State) : State :=
  let s := s.insertMarkers
  let l := s.lane i
  match l.inq with
  | [] => s
  | f :: rest =>
    if s.parserTurn != some i || s.hubKeeps then s
    else
      let seq := l.next
      let ver := s.stamp
      let t := s.setLane i { l with inq := rest, next := (seq + 1) % 65536 }
      let t := (t.inc64 CLS_SRC_FRAMES_LO CLS_SRC_FRAMES_HI 1 i).inc64 CLS_SRC_BYTES_LO CLS_SRC_BYTES_HI f.bytes.length i
      let p := parse f.bytes f.isrc f.dir f.ltid
      let t := if p.pf != 0 then t.parseFailed f seq ver p.pf
        else
          let t := t.perf 13 0x00
          match t.lookup p.key ver bad (t.listed CLSE_VMASK) with
          | ([], none) => t.missed f seq ver
          | ([], some n) => t.matched f seq ver n p.ptp
          | (errs, _) => t.entryErrors errs
      t.engineTook i

/-! After the reorder stage -/

/-- A frame that is forwarded (R185, R205, R206, R217, R286). -/
def State.forward (s : State) (j : Judged) : State :=
  let len := j.f.bytes.length
  let (ok, tc', t) := if bit j.a0 4 then s.police (bits j.a0 17 5) len else (true, none, s)
  if !ok then t
  else
    let tc := tc'.getD (bits j.a0 20 18)
    let corr := j.ptp && bit j.a2 4
    if j.f.dir == 0 then
      let ts := bit j.a0 3 || corr || (decide (j.f.isrc < 16) && t.on CLP_P_TS_ALL j.f.isrc)
      t.tagTo (bits j.a1 25 14) (bits j.a1 13 0) tc j.f.lt ts j.f.bytes
    else
      t.enqEq (bits j.a1 29 26 * 8 + tc)
        { bytes := j.f.bytes, lt := j.f.lt, ts := j.f.ts, car := j.f.car, corr := if corr then some (bits j.a2 6 5) else none }

/-- The policer that the next frame of source `i` meets (R205). -/
def State.nextPolicer (s : State) (i : Nat) : Option Nat :=
  match (s.lane i).items with
  | .frame _ j :: _ => if j.fwd && bit j.a0 4 then some (bits j.a0 17 5) else none
  | _ => none

/-- Sources that release in one PKT clock, in the order in which they are taken (R205): those at one policer by its table. -/
def State.releaseOrder (s : State) (is : List Nat) : List Nat × State :=
  let ps := ((is.filterMap s.nextPolicer).eraseDups)
  ps.foldl (fun (acc, t) p =>
    let (l, u) := t.serveAll (rtPol p) 19 (is.filter fun i => s.nextPolicer i == some p)
    (acc ++ l, u)) (is.filter fun i => (s.nextPolicer i).isNone, s)

/-- A source's next frame leaves the reorder stage for the policer and its queue (R197, R204), unless an upstream stop holds it back;
a frame that is stopped keeps its version in flight (R198). -/
def State.releaseOne (s : State) (i : Nat) : Option Judged × State :=
  match (s.lane i).items with
  | .frame _ j :: rest =>
    if s.heldBack i then (none, s)
    else
      let t := s.setLane i { s.lane i with items := rest }
      let t := t.when_ j.fwd fun u => u.forward j
      (some j, if !s.pk.stalled.isSome && t.pk.stalled.isSome then { t with pk := { t.pk with stalledBy := some (i, j.ver) } } else t)
  | _ => (none, s)

/-- The frames that want the slow path in one cycle, `js`, are served by engine; where they want the last tokens, the engines' table
decides and each winner moves to its end (R32, R200). -/
def State.slowAll (s : State) (js : List (Judged × Nat × Nat)) : State :=
  let want := js.filter fun x => x.1.slow.isSome
  let have_ := (s.slowBal.v / slowUnits).toNat
  let order := (s.order rtSlow 4).flatMap fun e => want.filter fun x => x.1.eng == e
  let winners := if have_ < want.length then (order.take have_).map fun x => x.1.eng else []
  let t := winners.foldl (fun u e => u.won rtSlow 4 e) s
  order.foldl (fun u x => u.slowPath x.1 (x.1.slow.getD 0) x.2.1 x.2.2) t

/-- The next frame of source `i`, and in the same PKT clock those of the sources `more`, leave the reorder stage (R197) for the policers,
their queues and the slow path; `buf` and `bufLen` are what the host wrote into the receive entry at HEAD of the ring (R369). -/
def reorderRelease (i buf bufLen : Nat) (more : List Release) (s : State) : State :=
  let s := s.insertMarkers
  let rs := (⟨i, buf, bufLen⟩ : Release) :: more
  let (is, s) := s.releaseOrder ((List.range 19).filter fun k => rs.any fun r => r.src == k)
  let (js, t) := is.foldl (fun (acc, t) k =>
    match t.releaseOne k, rs.find? fun r => r.src == k with
    | (some j, u), some r => (acc ++ [(j, r.buf, r.len)], u)
    | (_, u), _ => (acc, u)) (([] : List (Judged × Nat × Nat)), s)
  (t.slowAll js).showInFlight

/-! The meanings -/

/-- STAGE. -/
def execStage (s : State) : Host.Outcome State Fault Refusal := .next (stage s)
/-- STAGE_DONE. -/
def execStageDone (s : State) : Host.Outcome State Fault Refusal := .next (stageDone s)
/-- ABANDON. -/
def execAbandon (s : State) : Host.Outcome State Fault Refusal := .next (abandon s)
/-- VERSION_RETIRE. -/
def execVersionRetire (v : Nat) (s : State) : Host.Outcome State Fault Refusal := .next (versionRetire v s)
/-- RULE_ENTRY_WRITE. -/
def execRuleEntryWrite (n w value : Nat) (s : State) : Host.Outcome State Fault Refusal := .next (ruleEntryWrite n w value s)
/-- VMASK_WRITE. -/
def execVmaskWrite (n value : Nat) (s : State) : Host.Outcome State Fault Refusal := .next (vmaskWrite n value s)
/-- CLASSIFY_FRAME. -/
def execClassifyFrame (i : Nat) (bad : List Nat) (s : State) : Host.Outcome State Fault Refusal := .next (classifyFrame i bad s)
/-- REORDER_RELEASE. -/
def execReorderRelease (i buf bufLen : Nat) (more : List Release) (s : State) : Host.Outcome State Fault Refusal :=
  .next (reorderRelease i buf bufLen more s)

end Sys2Proof.Machine
end

