-- ==== Sys2Proof/Machine/Cipher.lean ====
section
/-! DEFINITION. The commands of the cipher engine (chapter 11, R260 to R276): key slots, line key tables, mismatches, page jobs. -/

namespace Sys2Proof.Machine

/-! Key slots (R260 to R263) -/

/-- CMD_STATUS codes (R275). -/
def csOk : Nat := 0
def csBusy : Nat := 1
def csUnwrapFail : Nat := 2
def csLen : Nat := 3
def csKekEmpty : Nat := 4

/-- JSTATUS codes (R276). -/
def jsWaitLeave : Nat := 1
def jsRunning : Nat := 2
def jsDone : Nat := 3
def jsKeyEmpty : Nat := 4
def jsSlotDenied : Nat := 5
def jsRangeErr : Nat := 6
def jsKeySize : Nat := 7
def jsKeyErased : Nat := 8
def jsMismatch : Nat := 9
def jsBusErr : Nat := 10

/-- The check value of a key: the first three bytes of AES of the zero block (R260). -/
def kcv (key : List Nat) : Nat := ofBytesBE ((aesEnc key (List.replicate 16 0)).take 3)

/-- The containers of a burst in the air that the framer has begun. -/
def State.begunCount (s : State) (b : Burst) : Nat := ((List.range b.conts.length).filter fun i => s.begun b i).length

/-- Containers of bursts in the air that start from now on take up key `key` of slot `k` (R263); none when it is erased. -/
def State.upKeyNow (s : State) (k : Nat) (key : List Nat) : State :=
  s.mapBursts fun b =>
    if b.inAir && b.epoch != 0 && b.key == k then { b with upKeys := b.upKeys ++ [(s.begunCount b, key)] } else b

/-- A slot takes key bytes, and SLOT_STAT its state and KCV (R260, R275). -/
def State.setSlot (s : State) (k : Nat) (key : List Nat) : State :=
  let s := s.upKeyNow k key
  { s with cip := { s.cip with keys := amSet s.cip.keys k key } }.wr CIP_SLOT_STAT
    ((if key.length == 32 then 2 else 1) + kcv key * 256) k

/-- A page job ends (R273): status, DONE_LEN, GO, JOBS, interrupts, and its leave. -/
def State.jobEnd (s : State) (n status len : Nat) : State :=
  let t := { s with cip := { s.cip with jobs := amDel s.cip.jobs n } }
  let t := (((t.wr CIPU_JSTATUS status n).wr CIPU_DONE_LEN len n).wr CIPU_GO 0 n).inc CIPU_JOBS 1 n
  let t := if t.hasLeave lcCipher 10 n then t.giveLeave lcCipher 10 n else t
  (t.raise (19 + n) 0).raiseIf (status != jsDone) (19 + n) 1

/-- The output of a page job (R273). -/
def Job.output (j : Job) : List Nat :=
  if j.xts then
    let units := if j.unit == 0 then [j.src] else (List.range (j.len / j.unit)).map fun i => (j.src.drop (i * j.unit)).take j.unit
    (units.zipIdx.map fun u => Sys2Proof.Machine.xts (!j.dec) j.key1 j.key2 ((j.tweak + u.2) % 2 ^ 128) u.1).flatten
  else if j.dec then ((blocks16 j.src).map (aesDec j.key1)).flatten
  else
    let pad := (16 - j.len % 16) % 16
    ((blocks16 (j.src ++ List.replicate pad pad)).map (aesEnc j.key1)).flatten

/-- The first `n` bytes of a job's output are released. -/
def State.jobRelease (s : State) (p : Nat) (j : Job) (n : Nat) : State :=
  if n == 0 then s else s.emit (.hostWrite (ownerFn p) j.dst (j.output.take n))

/-- A running job is aborted: how many whole blocks it had released is a free value (R263, R273). -/
def State.jobAbort (s : State) (n : Nat) (j : Job) (status : Nat) : State :=
  let (v, t) := s.fresh
  let len := v % (j.output.length / 16) * 16
  (t.jobRelease n j len).jobEnd n status len

/-- The container being sent under slot `k` is aborted (R251, R263). -/
def State.abortUp (s : State) (k : Nat) : State :=
  s.up.bursts.foldl (fun t b =>
    let n := s.begunCount b
    if b.inAir && b.epoch != 0 && b.key == k && n != 0 && !b.bad.contains (n - 1) && decide (s.now < s.contStart b n) then
      t.keyAbort.mapBursts fun x => if x.entry == b.entry && x.g == b.g then { x with bad := (n - 1) :: x.bad } else x
    else t) s

/-- Erasure of a slot (R263): running operations that latched it are aborted. -/
def State.eraseSlot (s : State) (k : Nat) : State :=
  let s := (s.abortUp k).upKeyNow k []
  let t := { s with cip := { s.cip with keys := amDel s.cip.keys k } }.wr CIP_SLOT_STAT 0 k
  let t := s.cip.jobs.foldl (fun u e =>
    if !e.2.waiting && (e.2.slot1 == k || (e.2.xts && e.2.slot2 == k)) then (u.keyAbort).jobAbort e.1 e.2 jsKeyErased
    else u) t
  let gone := t.cip.streams.filter fun e => e.2.1 == k
  gone.foldl (fun u _ => u.keyAbort)
    { t with cip := { t.cip with streams := t.cip.streams.filter fun e => e.2.1 != k } }

/-- Erasure of every slot at once (R262). -/
def State.eraseAllSlots (s : State) : State := (s.cip.keys.map Prod.fst).foldl State.eraseSlot s

/-- A slot command starts: its fields are written, GO and BUSY set (R261). -/
def State.slotStart (s : State) (op slot : Nat) (c : SlotCmd) : State :=
  let t := (((s.wr CIP_OP op).wr CIP_SLOT slot).wr CIP_GO 1).wr CIP_CMD_STATUS csBusy
  { t with cip := { t.cip with cmd := some c } }

/-- The words of a staging register as bytes, first word first (R275). -/
def State.stageBytes (s : State) (f : Fld) (n : Nat) : List Nat := (List.range n).flatMap fun i => bytesBE 4 (s.rd f i)

/-- Slot command LOAD (R261): the stage is taken as last written; the slot takes it when the command completes (R263). -/
def slotLoad (aes256 : Bool) (slot : Nat) (s : State) : State :=
  if s.on CIP_GO || 64 ≤ slot then s
  else
    let key := (s.stageBytes CIP_KEY_STAGE 8).take (if aes256 then 32 else 16)
    (s.flag CIP_SIZE aes256).slotStart 1 slot { status := csOk, load := some (slot, key), wipeKey := true }

/-- Slot command ERASE (R261, R263). -/
def slotErase (slot : Nat) (s : State) : State :=
  if s.on CIP_GO || 64 ≤ slot then s
  else (s.slotStart 2 slot { status := csOk, load := none }).eraseSlot slot

/-- Slot command UNWRAP (R261). Where WRAP_WORDS is bad and the KEK slot is empty too, the spec does not say which status
shows: a free value picks. -/
def slotUnwrap (slot kek : Nat) (s : State) : State :=
  if s.on CIP_GO || 64 ≤ slot || 64 ≤ kek then s
  else
    let n := s.rd CIP_WRAP_WORDS
    let s := s.wr CIP_KEK kek
    match amGet? s.cip.keys kek, n == 6 || n == 10 with
    | none, true => s.slotStart 3 slot { status := csKekEmpty, load := none }
    | some _, false => s.slotStart 3 slot { status := csLen, load := none }
    | none, false =>
      let (v, t) := s.fresh
      t.slotStart 3 slot { status := csLen + v % 2, load := none }
    | some key, true =>
      match keyUnwrap key (s.stageBytes CIP_WRAP_STAGE n) with
      | some k => s.slotStart 3 slot { status := csOk, load := some (slot, k), wipeWrap := true }
      | none => s.slotStart 3 slot { status := csUnwrapFail, load := none, wipeWrap := true }

/-- `n` words of a staging register zeroised. -/
def State.wipe (s : State) (f : Fld) (n : Nat) : State := (List.range n).foldl (fun t i => t.wr f 0 i) s

/-- A slot command ends (R261). -/
def slotCommandDone (s : State) : State :=
  match s.cip.cmd with
  | none => if s.on CIP_GO then ((s.wr CIP_GO 0).wr CIP_CMD_STATUS csOk).raise 18 0 else s
  | some c =>
    let t := match c.load with
      | some (k, key) => s.setSlot k key
      | none => s
    let t := if c.wipeKey then t.wipe CIP_KEY_STAGE 8 else t
    let t := if c.wipeWrap then t.wipe CIP_WRAP_STAGE 10 else t
    (({ t with cip := { t.cip with cmd := none } }.wr CIP_GO 0).wr CIP_CMD_STATUS c.status).raise 18 0

/-! The line key tables (R264 to R267) -/

/-- Entry `e` of the tables: DN0, DN1, UP0, UP1. -/
def lineKeyFld (e : Nat) : Fld :=
  match e with
  | 0 => CIP_DN0 | 1 => CIP_DN1 | 2 => CIP_UP0 | _ => CIP_UP1

/-- EPOCH, SLOT and VALID of a table entry (R275). -/
def leEpoch (v : Nat) : Nat := v % 256
def leSlot (v : Nat) : Nat := bits v 13 8
def leValid (v : Nat) : Bool := bit v 31

/-- A write to a table entry is taken, or ignored while the entry is in use (R264). -/
def lineKeyEntryWrite (e v : Nat) (s : State) : State :=
  if 4 ≤ e then s
  else if (if e < 2 then s.cip.dnUsed.any fun x => x.2 == e else s.rd CIP_UP_CUR == e - 2) then s.raise 18 5
  else s.wr (lineKeyFld e) (v &&& 0x80003FFF)

/-- The upstream entry in force. -/
def State.upEntry (s : State) : Nat := s.rd (lineKeyFld (2 + s.rd CIP_UP_CUR))

/-- The upstream epoch in force (R265). -/
def State.upEpoch (s : State) : Nat := if leValid s.upEntry then leEpoch s.upEntry else 0

/-- The boundary an effective word names (R106): none for MF 125 to 127. -/
def State.effBoundary (s : State) (w : Nat) : Option Nat :=
  if 124 < bits w 27 21 then none
  else some (resolveG s.now 0 (bits w 31 28 * sfTicks + bits w 27 21 * mfTicks)).toNat

/-- Write of ARM (R265). -/
def arm (s : State) : State :=
  if !leValid (s.rd (lineKeyFld (3 - s.rd CIP_UP_CUR))) then s.wr CIP_ARM_LATE 1
  else
    match s.effBoundary (s.rd CIP_UP_SWITCH) with
    | none => s.wr CIP_ARM_LATE 1
    | some t =>
      if t ≤ s.now then s.wr CIP_ARM_LATE 1
      else { s with cip := { s.cip with switchAt := some t } }.wr CIP_ARM 1

/-- The upstream switch at a multiframe boundary (R265). -/
def State.upSwitch (s : State) : State :=
  match s.cip.switchAt with
  | none => s
  | some t =>
    if s.now < t then s
    else
      let u := (s.wr CIP_UP_CUR (1 - s.rd CIP_UP_CUR)).wr CIP_ARM 0
      let u := { u with cip := { u.cip with switchAt := none } }
      (u.wr CIP_UP_EPOCH u.upEpoch).raise 18 4

/-- The valid downstream entry of an epoch (R264). -/
def State.dnEntry (s : State) (epoch : Nat) : Option Nat :=
  [0, 1].find? fun e => leValid (s.rd (lineKeyFld e)) && leEpoch (s.rd (lineKeyFld e)) == epoch

/-- A multiframe of data stream `st` starts under KEY_EPOCH `epoch` (R263, R264): whether its payload can be used. A stream number
is 0 to 31 for a subcarrier and 0x100 + CG for a group (R266). -/
def State.streamStart (s : State) (st epoch : Nat) : Bool × State :=
  let s := { s with cip := { s.cip with streams := amDel s.cip.streams st, dnUsed := amDel s.cip.dnUsed st } }
  if epoch == 0 then (true, s)
  else
    match s.dnEntry epoch with
    | none => (false, (s.inc CIP_EPOCH_MISS).raise 18 3)
    | some e =>
      let k := leSlot (s.rd (lineKeyFld e))
      let t := { s with cip := { s.cip with dnUsed := amSet s.cip.dnUsed st e } }
      match amGet? t.cip.keys k with
      | none => (false, t.keyAbort)
      | some key => (true, { t with cip := { t.cip with streams := amSet t.cip.streams st (k, key) } })

/-- The counter block of the first keystream block of a stream's multiframe (R266). -/
def dnCounter (sf mf st epoch : Nat) : Nat :=
  sf % 2 ^ 48 * 2 ^ 80 + mf % 128 * 2 ^ 73 + st % 512 * 2 ^ 64 + epoch % 256 * 2 ^ 55

/-- Bytes `off` to `off + n` of a stream's multiframe deciphered (R266): `data` starts at a block of 16 bytes. -/
def lineDecrypt (key : List Nat) (sf mf st epoch off : Nat) (data : List Nat) : List Nat :=
  aesCtr key (dnCounter sf mf st epoch + off / 16) data

/-- The counter block of the first block of a container's payload (R267). -/
def upCounter (tid al seq epoch : Nat) : Nat :=
  tid % 2 ^ 18 * 2 ^ 110 + al % 64 * 2 ^ 104 + seq % 2 ^ 32 * 2 ^ 72 + epoch % 256 * 2 ^ 64 + 2 ^ 63

/-- The CMAC key derived from a slot key (R267). -/
def macKey (key : List Nat) : List Nat :=
  let m (b : Nat) := aesEnc key (0x4D :: List.replicate 14 0 ++ [b])
  if key.length == 32 then m 0 ++ m 1 else m 0

/-- A container as it is sent (R162, R213, R267): header with the epoch, payload encrypted, integrity tag. -/
def lineContainer (key : Option (List Nat)) (epoch : Nat) (c : List Nat) : List Nat :=
  let hdr := (c.take 20) ++ [epoch % 256] ++ ((c.drop 21).take 11)
  let h := ofBytesBE hdr
  let pay := (c.drop 32).take contPayload
  match key with
  | none => hdr ++ pay ++ aesCmac (List.replicate 16 0) (hdr ++ pay)
  | some k =>
    let enc := aesCtr k (upCounter (bits h 247 230) (bits h 255 250) (bits h 223 192) epoch) pay
    hdr ++ enc ++ aesCmac (macKey k) (hdr ++ enc)

/-! Mismatches (R270) -/

/-- A container of a burst is not sent as stored (R251). -/
def State.badContainer (s : State) (air : Bool) (i : Nat) : State :=
  match s.up.bursts.find? fun b => b.inAir || !air with
  | none => s
  | some b =>
    let mark (x : Burst) : Burst :=
      if x.launch != b.launch || x.conts.length ≤ i || x.bad.contains i then x else { x with bad := i :: x.bad }
    { s with up := { s.up with bursts := s.up.bursts.map mark } }

/-- What the operation takes for an abort (R263, R270). -/
def State.mismatchAbort (s : State) (op : CipherOp) : State :=
  match op with
  | .page n =>
    match amGet? s.cip.jobs n with
    | some j => if j.waiting then s else s.jobAbort n j jsMismatch
    | none => s
  | .stream st => { s with cip := { s.cip with streams := amDel s.cip.streams st } }
  | .container i => s.badContainer true i
  | .burstRead i => s.badContainer false i
  | .window => { s with cave := { s.cave with window := [] } }.wr CAV_WIN_ERR 1
  | .sealWrite idx => s.poison false idx

/-- Pipeline `p` as a source (R438): 0 to 39 in LFR, 40 to 63 in HCV. -/
def srcPipe (p : Nat) : FaultSrc :=
  if p < 40 then { level := 0, region := 10, cluster := p / 16, unit := p % 16, detail := p }
  else { level := 0, region := 13, cluster := (p - 40) / 16, unit := (p - 40) % 16, detail := p }

/-- A dual-computation mismatch of pipeline `p` (R270). -/
def cipherMismatch (p : Nat) (op : CipherOp) (s : State) : State :=
  let n := s.rd CIP_MISMATCH_SF
  let t := (((s.mismatchAbort op).inc CIP_MISMATCHES).wr CIP_MISMATCH_SF (min 3 (n + 1))).raise 18 1
  let t := t.fault cCipMismatch (srcPipe p) 18
  if n == 2 then t.fault cCipMismatch3 srcPackage 18 else t

/-! Page jobs (R272 to R274) -/

/-- Slot `k` is set in the mask of page `n` (R272). -/
def State.slotAllowed (s : State) (n k : Nat) : Bool :=
  if k < 32 then bit (s.rd CIP_SLOT_MASK_LO n) k else bit (s.rd CIP_SLOT_MASK_HI n) (k - 32)

/-- The size of a data unit (R273). -/
def duBytes (c : Nat) : Nat :=
  match c with
  | 0 => 0 | 1 => 512 | 2 => 4096 | _ => 16384

/-- Check 4 of R273. -/
def jobRangeOk (xts dec : Bool) (unit len src dst : Nat) : Bool :=
  let out := if xts then len else ceilDiv len 16 * 16
  decide (1 ≤ len) && decide (len ≤ 16777216) && (xts || !dec || len % 16 == 0)
    && (!xts || (decide (16 ≤ len) && (unit == 0 || len % unit == 0)))
    && (src == dst || decide (src + len ≤ dst) || decide (dst + out ≤ src))

/-- The job of page `n`'s registers, with the source bytes `src` it reads. -/
def State.jobOf (s : State) (n : Nat) (src : List Nat) : Job :=
  let len := s.rd CIPU_LEN n
  { slot1 := s.rd CIPU_KEY1 n, slot2 := s.rd CIPU_KEY2 n, key1 := [], key2 := [], xts := s.on CIPU_MODE n
    dec := s.on CIPU_DIR n, unit := duBytes (s.rd CIPU_DU_SIZE n), len := len
    tweak := (List.range 4).foldl (fun a i => a * 2 ^ 32 + s.rd CIPU_TWEAK (n * 4 + i)) 0
    dst := s.rd64 CIPU_DST_LO CIPU_DST_HI n, src := (src ++ List.replicate (len - src.length) 0).take len
    waiting := false, asked := s.now }

/-- The first failed check of a job (R273). -/
def State.jobCheck (s : State) (n : Nat) (j : Job) : Option Nat :=
  let k1 := amGet? s.cip.keys j.slot1
  let k2 := amGet? s.cip.keys j.slot2
  let len (k : Option (List Nat)) := (k.map List.length).getD 0
  if !s.slotAllowed n j.slot1 || (j.xts && !s.slotAllowed n j.slot2) then some jsSlotDenied
  else if k1.isNone || (j.xts && k2.isNone) then some jsKeyEmpty
  else if j.xts && len k1 != len k2 then some jsKeySize
  else if !jobRangeOk j.xts j.dec j.unit j.len (s.rd64 CIPU_SRC_LO CIPU_SRC_HI n) j.dst then some jsRangeErr
  else none

/-- A job starts its first block: it latches its keys (R263). -/
def State.jobRun (s : State) (n : Nat) (j : Job) : State :=
  let l (k : Nat) := amGet? s.cip.keys k
  match l j.slot1, (if j.xts then l j.slot2 else some []) with
  | some a, some b =>
    if j.xts && a.length != b.length then (s.keyAbort).jobEnd n jsKeyErased 0
    else
      { s with cip := { s.cip with jobs := amSet s.cip.jobs n { j with key1 := a, key2 := b, waiting := false } } }.wr
        CIPU_JSTATUS jsRunning n
  | _, _ => (s.keyAbort).jobEnd n jsKeyErased 0

/-- A job asks for leave when it is large, or runs (R274). -/
def State.jobAsk (s : State) (n : Nat) (j : Job) : State :=
  if j.len ≤ 65536 then s.jobRun n j
  else
    match s.askLeave ⟨lcCipher, 800, 10, n⟩ with
    | (true, t) => t.jobRun n j
    | (false, t) =>
      { t with cip := { t.cip with jobs := amSet t.cip.jobs n { j with waiting := true, asked := t.now } } }.wr
        CIPU_JSTATUS jsWaitLeave n

/-- Write of GO on user page `n` (R273); `src` is what the job's source range holds. -/
def cipJobStart (n : Nat) (src : List Nat) (s : State) : State :=
  if 16 ≤ n then s
  else if s.on CIPU_GO n then s.wr CIPU_WR_BUSY 1 n
  else
    let s := s.wr CIPU_GO 1 n
    let j := s.jobOf n src
    match s.jobCheck n j with
    | some st => s.jobEnd n st 0
    | none => s.jobAsk n j

/-- A page job ends (R273): done, or with a completion error after `busErr` bytes were released (R274), whole blocks, the last one only with
all that follows it. -/
def cipJobEnd (n : Nat) (busErr : Option Nat) (s : State) : State :=
  match amGet? s.cip.jobs n with
  | none => s
  | some j =>
    if j.waiting then s
    else
      match busErr with
      | none => (s.jobRelease n j j.output.length).jobEnd n jsDone j.output.length
      | some k =>
        let len := min (k / 16) (j.output.length / 16 - 1) * 16
        (s.jobRelease n j len).jobEnd n jsBusErr len

/-- A job in WAIT_LEAVE asks again 100 µs after its refusal (R274). -/
def cipLeaveRetry (n : Nat) (s : State) : State :=
  match amGet? s.cip.jobs n with
  | none => s
  | some j => if j.waiting then (s.advance (j.asked + 100 * usTicks)).jobAsk n j else s

/-! The meanings -/

/-- SLOT_LOAD. -/
def execSlotLoad (aes256 : Bool) (slot : Nat) (s : State) : Host.Outcome State Fault Refusal := .next (slotLoad aes256 slot s)
/-- SLOT_ERASE. -/
def execSlotErase (slot : Nat) (s : State) : Host.Outcome State Fault Refusal := .next (slotErase slot s)
/-- SLOT_UNWRAP. -/
def execSlotUnwrap (slot kek : Nat) (s : State) : Host.Outcome State Fault Refusal := .next (slotUnwrap slot kek s)
/-- SLOT_COMMAND_DONE. -/
def execSlotCommandDone (s : State) : Host.Outcome State Fault Refusal := .next (slotCommandDone s)
/-- LINE_KEY_ENTRY_WRITE. -/
def execLineKeyEntryWrite (e v : Nat) (s : State) : Host.Outcome State Fault Refusal := .next (lineKeyEntryWrite e v s)
/-- ARM. -/
def execArm (s : State) : Host.Outcome State Fault Refusal := .next (arm s)
/-- CIPHER_MISMATCH. -/
def execCipherMismatch (p : Nat) (op : CipherOp) (s : State) : Host.Outcome State Fault Refusal := .next (cipherMismatch p op s)
/-- CIP_JOB_START. -/
def execCipJobStart (n : Nat) (src : List Nat) (s : State) : Host.Outcome State Fault Refusal := .next (cipJobStart n src s)
/-- CIP_JOB_END. -/
def execCipJobEnd (n : Nat) (busErr : Option Nat) (s : State) : Host.Outcome State Fault Refusal := .next (cipJobEnd n busErr s)
/-- CIP_LEAVE_RETRY. -/
def execCipLeaveRetry (n : Nat) (s : State) : Host.Outcome State Fault Refusal := .next (cipLeaveRetry n s)

end Sys2Proof.Machine
end

