-- ==== Sys2Proof/Machine/SerOps.lean ====
section
/-! DEFINITION. The serial lanes as the ports and modes use them (R376 to R378), the link of a client port (R177), and a Fenkai
Link port that leaves UP (R392). -/

namespace Sys2Proof.Machine

/-- ADAPT_STATE codes (R377). -/
def adOff : Nat := 0
def adCold : Nat := 1
def adWarm : Nat := 2
def adTrack : Nat := 3
def adFrozen : Nat := 4
def adRetrain : Nat := 5

/-- Lane `l` outside its registers: 0 to 15 CL0 to CL15, 16 to 23 FL0 to FL7. -/
def State.ser (s : State) (l : Nat) : SerLane := amGetD {} s.pk.lanes24 l

/-- Lane `l` outside its registers becomes `x`. -/
def State.setSer (s : State) (l : Nat) (x : SerLane) : State := { s with pk := { s.pk with lanes24 := amPut {} s.pk.lanes24 l x } }

/-- The enabled port that claims client lane `l` (R175, R176). -/
def State.claimant (s : State) (l : Nat) : Option Nat :=
  (List.range 16).find? fun p => s.on CLP_P_EN p && decide (p ≤ l) && decide (l < p + s.portLanes p)

/-- A port's lanes keep running: outside GRAZE, or named in CLIENT_WAKE_MASK (R406). -/
def State.portKept (s : State) (p : Nat) : Bool := s.mode != .graze || bit (s.rd PWR_CLIENT_WAKE_MASK) p

/-- The lane is of a port that runs (R378). -/
def State.laneUsed (s : State) (l : Nat) : Bool :=
  if s.mode == .reset || s.mode == .stable then false
  else if l < 16 then
    match s.claimant l with
    | some p => s.portKept p
    | none => false
  else if l < 20 then s.on FKL_FK0_EN else s.on FKL_FK1_EN

/-! The link of a client port (R177) -/

/-- The conditions of LINK_UP hold. -/
def State.linkGood (s : State) (n : Nat) : Bool :=
  s.on CLP_P_EN n && s.on CLP_P_AM_LOCK n && !s.on CLP_P_HI_BER n && !s.on CLP_P_LOCAL_FAULT n && !s.on CLP_P_REMOTE_FAULT n

/-- LOCAL_FAULT becomes `b`: while it is 1 the MAC transmits remote fault ordered sets (R177). -/
def State.lfSignal (s : State) (n : Nat) (b : Bool) : State :=
  if s.on CLP_P_LOCAL_FAULT n == b then s else (s.flag CLP_P_LOCAL_FAULT b n).emit (.remoteFault n b)

/-- LINK_UP falls at once when a condition fails; the 1 ms starts again when they all hold (R177). -/
def State.linkEval (s : State) (n : Nat) : State :=
  let p := s.port n
  if s.linkGood n then
    if p.goodSince.isSome then s else s.setPort n { p with goodSince := some s.now }
  else
    let t := s.setPort n { p with goodSince := none }
    if s.on CLP_P_LINK_UP n then ((t.wr CLP_P_LINK_UP 0 n).wr CLP_P_LINK_DOWN_SEEN 1 n).portRaise n 1 else t

/-- A client port follows its lanes: one in RETRAIN raises LOCAL_FAULT (R377), and one whose receiver is off, asleep or adapting has
no alignment. -/
def State.portLanesChanged (s : State) (n : Nat) : State :=
  let ls := (List.range (s.portLanes n)).map (n + ·)
  let t := if ls.any fun l => s.rd SER_L_ADAPT_STATE l == adRetrain then s.lfSignal n true else s
  let t := if ls.all fun l => s.rd SER_L_ADAPT_STATE l == adTrack || s.rd SER_L_ADAPT_STATE l == adFrozen then t
           else t.wr CLP_P_AM_LOCK 0 n
  t.linkEval n

/-! Fenkai Link ports (R392) -/

/-- PSTATE codes. -/
def fkDown : Nat := 0
def fkAlign : Nat := 1
def fkUp : Nat := 2

/-- Hops to member `m` by port `k`, when learnt (R385, R391). -/
def State.hopsBy (s : State) (k m : Nat) : Option Nat := amGet? s.fk.hops (k * 8 + m)

/-- Every link of the ring is UP (R391, R398): both ports are, and each other member is heard on both (DEDUCED, log 162). -/
def State.ringClosed (s : State) : Bool :=
  let others := (bitList 8 (s.rd FKL_REACH)).filter fun m => m != s.rd FKL_MEM_ID
  s.rd FKL_K_PSTATE 0 == fkUp && s.rd FKL_K_PSTATE 1 == fkUp && !others.isEmpty
    && others.all fun m => (s.hopsBy 0 m).isSome && (s.hopsBy 1 m).isSome

/-- RING_CLOSED follows the ring as learnt (R391, R398). -/
def State.showRing (s : State) : State := s.flag FKL_RING_CLOSED s.ringClosed

/-- Port `k` is UP. -/
def State.fkIsUp (s : State) (k : Nat) : Bool := s.rd FKL_K_PSTATE k == fkUp

/-- The LT source of a member (R387): the UP port with fewer hops to the master, FK0 on a tie. -/
def State.ltSource (s : State) : Option (Nat × Nat) :=
  let h (k : Nat) : Option (Nat × Nat) := if s.fkIsUp k then (s.hopsBy k 0).map fun n => (k, n) else none
  match h 0, h 1 with
  | some a, some b => some (if b.2 < a.2 then b else a)
  | some a, none => some a
  | none, b => b

/-- LT_SRC_PORT and LT_HOPS follow (R387, R398, R400). -/
def State.showLtSource (s : State) : State :=
  if s.rd FKL_ROLE != 2 then s
  else
    match s.ltSource with
    | none => s
    | some (k, n) => ((s.wr FKL_LT_SRC_PORT k).wr FKL_LT_HOPS n).raiseIf (s.rd FKL_LT_SRC_PORT != k) 37 7

/-- Units and blocks under way on port `k` lose their cells (R384, R392). -/
def State.losePort (s : State) (k : Nat) : State :=
  let mine (e : Nat × CellAsm) : Bool := e.1 / 1024 == k
  let n := (s.fk.asms.filter fun e => mine e && e.1 % 1024 / 32 != 2).length
  ({ s with fk := { s.fk with asms := s.fk.asms.filter fun e => !mine e
                              hops := s.fk.hops.filter fun e => e.1 / 8 != k
                              nbrs := s.fk.nbrs.filter fun e => e.1 / 8 != k
                              links := amDel s.fk.links k } }).inc FKL_K_UNIT_ERR n k

/-- Port `k` goes DOWN (R392). -/
def State.fkToDown (s : State) (k : Nat) : State :=
  let up := s.rd FKL_K_PSTATE k == fkUp
  let t := ((s.wr FKL_K_PSTATE fkDown k).showRing.losePort k).showLtSource
  if up then (t.inc FKL_K_PORT_DOWNS 1 k).raise 37 1 else t

/-- The Fenkai Link port of lane `l`. -/
def fkOf (l : Nat) : Nat := if l < 20 then 0 else 1

/-- What stands on lane `l` follows its state. -/
def State.laneChanged (s : State) (l : Nat) : State :=
  if l < 16 then
    match s.claimant l with
    | some p => s.portLanesChanged p
    | none => s
  else
    let a := s.rd SER_L_ADAPT_STATE l
    if (a == adTrack || a == adFrozen) && s.rd SER_L_GEN_MODE l == 0 then s else s.fkToDown (fkOf l)

/-- The PAM4 level of a pair of bits under Gray coding (R373). PRESUMED (log 206): the spec leaves the code to IEEE 802.3 Clause 120. -/
def grayLevel (b : Nat) : Nat := match b with | 0 => 0 | 1 => 1 | 3 => 2 | _ => 3

/-- The levels of the pattern of lane `l` that the spec lays out (R379): the square wave, and USER, bit 63 first. -/
def State.patternOf (s : State) (l : Nat) : List Nat :=
  let u := s.rd64 SER_L_GEN_USER_LO SER_L_GEN_USER_HI l
  match s.rd SER_L_GEN_MODE l with
  | 5 => List.replicate 8 0 ++ List.replicate 8 3
  | 6 => (List.range 32).map fun k => grayLevel (u / 2 ^ (62 - 2 * k) % 4)
  | _ => []

/-- The generator of lane `l` sends its pattern from here on (R379). -/
def State.sendPattern (s : State) (l : Nat) : State := s.emit (.pattern l (s.rd SER_L_GEN_MODE l) (s.patternOf l))

/-- TX_AWAKE, RX_AWAKE and ADAPT_STATE of lane `l` follow what sleeps (R377, R378): a receiver wakes to WARM with stored coefficients
and to COLD without; one sent to sleep abandons its retrain and returns its leave. -/
def State.laneSync (s : State) (l : Nat) : State :=
  let used := s.laneUsed l
  let t := s.flag SER_L_TX_AWAKE (used && !s.on SER_L_TX_SLEEP l) l
  let rx := used && !s.on SER_L_RX_SLEEP l
  if rx == s.on SER_L_RX_AWAKE l then t.showPower
  else
    let t := t.flag SER_L_RX_AWAKE rx l
    let t := if rx then t.wr SER_L_ADAPT_STATE (if (t.ser l).stored then adWarm else adCold) l
             else ((t.wr SER_L_ADAPT_STATE adOff l).setSer l { t.ser l with retry := none }).giveLeave lcPhy 11 l
    (t.laneChanged l).showPower

/-- Every lane of a port, or every lane, follows. -/
def State.lanesSync (s : State) (ls : List Nat) : State := forEach ls s State.laneSync

end Sys2Proof.Machine
end

