-- ==== Sys2Proof/Machine/FklOps.lean ====
section
/-! DEFINITION. Fenkai Link as the other chapters use it: routes, cells that leave, and units forwarded to a member (R383 to R385,
R388). -/

namespace Sys2Proof.Machine

/-- The port towards member `m` (R385): fewer hops, ties to FK1; with one port not UP, the other. -/
def State.routeTo (s : State) (m : Nat) : Option Nat :=
  match s.fkIsUp 0, s.fkIsUp 1 with
  | false, false => none
  | true, false => some 0
  | false, true => some 1
  | true, true =>
    match s.hopsBy 0 m, s.hopsBy 1 m with
    | some a, some b => some (if a < b then 0 else 1)
    | some _, none => some 0
    | _, _ => some 1

/-- A cell header (R383), most significant byte first. -/
def cellHeader (ctype src dst hops len : Nat) (sou eou err : Bool) (seq stamp : Nat) : List Nat :=
  bytesBE 16 (ctype * 2 ^ 124 + src * 2 ^ 121 + dst * 2 ^ 113 + hops * 2 ^ 110 + len * 2 ^ 100 + b2n sou * 2 ^ 99
    + b2n eou * 2 ^ 98 + b2n err * 2 ^ 97 + seq % 2 ^ 32 * 2 ^ 64 + stamp % 2 ^ 64)

/-- A whole cell (R383): header, payload of 236 bytes, CRC-32 under R476. -/
def cellBytes (hdr payload : List Nat) : List Nat :=
  let b := hdr ++ payload ++ List.replicate (236 - payload.length) 0
  b ++ bytesBE 4 (crc32 b)

/-- A cell of this package leaves by port `k` (R383, R384); cells of one source and type are counted, whatever ports carry them. -/
def State.putCell (s : State) (k ctype dst : Nat) (sou eou err : Bool) (stamp : Nat) (payload : List Nat) : State :=
  let seq := amGetD 0 s.fk.seqs ctype
  let h := cellHeader ctype (s.rd FKL_MEM_ID) dst 0 payload.length sou eou err seq stamp
  (s.emit (.cell k ctype (cellBytes h payload))).perf 37 0x00

/-- The count of a cell type moves on by one. -/
def State.seqOn (s : State) (ctype : Nat) : State :=
  { s with fk := { s.fk with seqs := amSet s.fk.seqs ctype ((amGetD 0 s.fk.seqs ctype + 1) % 2 ^ 32) } }

/-- A cell leaves by port `k` alone. -/
def State.sendCell (s : State) (k ctype dst : Nat) (sou eou : Bool) (stamp : Nat) (payload : List Nat) : State :=
  (s.putCell k ctype dst sou eou false stamp payload).seqOn ctype

/-- A list cut into pieces of 236 bytes; `n` bounds their number. -/
def cellPieces : Nat → List Nat → List (List Nat)
  | 0, _ => []
  | n + 1, l => if l.length ≤ 236 then [l] else l.take 236 :: cellPieces n (l.drop 236)

/-- A unit leaves in UNIT cells for one member (R384, R388). -/
def State.sendUnit (s : State) (k m : Nat) (unit : List Nat) : State :=
  let ps := cellPieces 80 unit
  forEach ps.zipIdx s fun t p => t.sendCell k 5 (2 ^ m) (p.2 == 0) (p.2 + 1 == ps.length) 0 p.1

/-- The forwarding buffer of a port: its size, and the units of its fill. A port carries 236 payload bytes in 346.03 ticks (R383); the
buffer empties at that rate. -/
def fwdSize : Nat := 4 * 1024 * 1024
def fwdUnits : Nat := 34603

/-- Units in the forwarding buffer of port `k` now. -/
def State.fwdFill (s : State) (k : Nat) : Int :=
  let b := amGetD { v := 0, at_ := 0 } s.fk.fills k
  max 0 (b.v - ((s.now - b.at_) * 23600 : Nat))

/-- A unit is forwarded to another member (R186, R388). -/
def State.forwardUnit (s : State) (m : Nat) (unit : List Nat) : State :=
  let gone (t : State) : State := (t.inc FKL_FWD_UNREACH).raise 37 5
  if !bit (s.rd FKL_REACH) m then gone s
  else
    match s.routeTo m with
    | none => gone s
    | some k =>
      let f := s.fwdFill k
      if (fwdSize * fwdUnits : Nat) < f + (unit.length * fwdUnits : Nat) then (s.inc FKL_FWD_DROP).raise 37 5
      else
        let t := { s with fk := { s.fk with fills := amSet s.fk.fills k { v := f + (unit.length * fwdUnits : Nat), at_ := s.now } } }
        t.sendUnit k m unit

/-! What is sent on as it is decoded (R389, R390) -/

/-- Bytes for the members of `dst` leave in cells, one copy by each port that serves some of them (R385); `first` puts SOU on the first cell
and EOU goes on the last. -/
def State.relayOut (s : State) (ctype dst stamp : Nat) (first err : Bool) (bytes : List Nat) : State :=
  let by_ (k : Nat) : Nat :=
    (bitList 8 dst).foldl (fun a m => if s.routeTo m == some k then setBit a m else a) 0
  let ps := cellPieces 80 bytes
  forEach ps.zipIdx s fun t p =>
    ([0, 1].foldl (fun u k =>
      if by_ k == 0 then u else u.putCell k ctype (by_ k) (first && p.2 == 0) (p.2 + 1 == ps.length) err stamp p.1) t).seqOn ctype

/-- A descrambled block of a grouped subcarrier goes to the member that its group's route names (R389); a route to this package itself
sends nothing, since its own blocks are here already. -/
def State.groupBlockOut (s : State) (sc mf idx : Nat) (err : Bool) (bytes : List Nat) : State :=
  let cg := s.rd FRM_SC_CG sc
  if s.rd FKL_ROLE == 0 || s.rd FRM_SC_CG_SIZE sc == 0 || !s.on FKL_GRT_EN cg || s.rd FKL_GRT_DST cg == s.rd FKL_MEM_ID then s
  else s.relayOut 4 (2 ^ s.rd FKL_GRT_DST cg) (cg * 2 ^ 56 + s.rd FRM_SC_CG_POS sc * 2 ^ 48 + mf % 128 * 2 ^ 41 + idx) true err bytes

/-- A descrambled block of the control stream goes to the members that relay it from this one: this one is the lowest-numbered that
reports RX_OK, and they do not (R390). SOU marks the first cell of a frame (DEDUCED, log 114). -/
def State.ctrlBlockOut (s : State) (first err : Bool) (mf fu : Nat) (bytes : List Nat) : State :=
  let me := s.rd FKL_MEM_ID
  let ok := s.rd FKL_REACH &&& s.rd FKL_RX_OK_MAP
  let lost := (bitList 8 (s.rd FKL_REACH)).filter fun m => m != me && !bit ok m
  if s.rd FKL_ROLE == 0 || lost.isEmpty || (List.range me).any (bit ok) then s
  else s.relayOut 2 (lost.foldl setBit 0) (fu % 2 ^ 32 * 2 ^ 32 + mf % 128) first err bytes

/-! Cells as received (R383) -/

/-- The fields of a received cell's header. -/
def cType (c : Cell) : Nat := bits c.hdr 127 124
def cSrc (c : Cell) : Nat := bits c.hdr 123 121
def cDst (c : Cell) : Nat := bits c.hdr 120 113
def cHops (c : Cell) : Nat := bits c.hdr 112 110
def cLen (c : Cell) : Nat := bits c.hdr 107 100
def cSou (c : Cell) : Bool := bit c.hdr 99
def cEou (c : Cell) : Bool := bit c.hdr 98
def cErr (c : Cell) : Bool := bit c.hdr 97
def cSeq (c : Cell) : Nat := bits c.hdr 95 64
def cStamp (c : Cell) : Nat := bits c.hdr 63 0

/-- The cell's CRC-32 over header and payload is correct (R383, R476). -/
def cellOk (c : Cell) : Bool := crc32 (bytesBE 16 c.hdr ++ c.payload) == c.crc

end Sys2Proof.Machine
end

