-- ==== Sys2Proof/Machine/Gates.lean ====
section
/-! DEFINITION. Gate lists (R218 to R221, R229, R230). Times are readings of a time base in units of 2^-16 ns. -/

namespace Sys2Proof.Machine

/-- An entry as it runs: its index, its time in units, its gates. -/
structure Slice where
  idx : Nat
  dur : Nat
  gates : Nat
deriving DecidableEq, Repr

/-- The entries fitted to the time `left` (R220): an interval of 0 is passed over, and entries beyond the end do not run. -/
def fitEntries : Nat → List Slice → List Slice
  | _, [] => []
  | left, e :: t =>
    if left == 0 then []
    else if e.dur == 0 then fitEntries left t
    else { e with dur := min e.dur left } :: fitEntries (left - min e.dur left) t

/-- The time of a list of slices. -/
def sliceTime (l : List Slice) : Nat := (l.map Slice.dur).foldl (· + ·) 0

/-- The cycle of a list (R220): the last entry's gates hold to the end of the cycle. -/
def fitCycle (cycle : Nat) (l : List Slice) : List Slice :=
  let f := fitEntries cycle l
  let rest := cycle - sliceTime f
  if rest == 0 then f
  else
    match f.getLast? with
    | some e => f.dropLast ++ [{ e with dur := e.dur + rest }]
    | none => match l.getLast? with
      | some e => [{ e with dur := rest }]
      | none => [⟨0, rest, 0xFF⟩]

/-- The cycle of list `n` in units. -/
def State.gateCycle (s : State) (n : Nat) : Nat := s.rd GAT_A_CYCLE n * tbNs

/-- The active list of `n` as it runs. -/
def State.gateList (s : State) (n : Nat) : List Slice :=
  fitCycle (s.gateCycle n) ((List.range (s.rd GAT_A_COUNT n)).map fun e =>
    ⟨e, s.rd GAT_AB_INTERVAL (n * 256 + e) * tbNs, s.rd GAT_AB_GATES (n * 256 + e)⟩)

/-- The position of list `n` in its cycle (R220), never negative. -/
def State.gatePos (s : State) (n : Nat) : Nat :=
  let c := s.gateCycle n
  if c == 0 then 0
  else (((s.tbReading (s.rd GAT_A_TBASE n) : Int) - (amGetD 0 s.pk.gates n * tbNs : Nat)) % (c : Int)).toNat

/-- The slices from position `pos` on, through the end of the cycle. -/
def fromPos : Nat → List Slice → List Slice
  | _, [] => []
  | pos, e :: t => if pos < e.dur then { e with dur := e.dur - pos } :: t else fromPos (pos - e.dur) t

/-- How long gate `g` stays open from the head of a list. -/
def openRun (g : Nat) (l : List Slice) : Nat := sliceTime (l.takeWhile fun e => bit e.gates g)

/-- How long gate `g` stays open from position `pos`, across the wrap (R221); none when it never closes. -/
def openFor (g pos : Nat) (l : List Slice) : Option Nat :=
  if l.all fun e => bit e.gates g then none else some (openRun g (fromPos pos l ++ l))

/-- The longest unbroken open time of gate `g` (R221); none when it never closes. -/
def longestOpen (g : Nat) (l : List Slice) : Option Nat :=
  if l.all fun e => bit e.gates g then none
  else some (((List.range l.length).map fun i => openRun g (l.drop i ++ l)).foldl max 0)

/-- The list that governs port `p` (R218): the lowest enabled list that names it. -/
def State.governs (s : State) (p : Nat) : Option Nat :=
  (List.range 16).find? fun n => s.on GAT_EN n && s.rd GAT_PORT n == p

/-- BIND_CONFLICT of every list (R218). -/
def State.bindLists (s : State) : State :=
  forEach (List.range 16) s fun t n =>
    t.flag GAT_BIND_CONFLICT (t.on GAT_EN n && t.governs (t.rd GAT_PORT n) != some n) n

/-- The running list that governs port `p`. -/
def State.gateOf (s : State) (p : Nat) : Option Nat := (s.governs p).filter fun n => s.on GAT_RUNNING n

/-- The time on the wire of a frame of length `len` with preamble and gap at the port's rate, in units (R182, R221): 10 ps a bit at
100 Gb/s, rounded up. -/
def State.wireTime (s : State) (p len : Nat) : Nat := ceilDiv ((len + 20) * 80 * tbNs) (1000 * s.portLanes p)

/-- The same in ticks. -/
def State.wireTicks (s : State) (p len : Nat) : Nat := ceilDiv ((len + 20) * 80 * 65536) (1000000 * s.portLanes p)

/-- A frame of class `g` and length `len` may start now at port `p` (R221). -/
def State.gateOk (s : State) (p g len : Nat) : Bool :=
  match s.gateOf p with
  | none => true
  | some n => match openFor g (s.gatePos n) (s.gateList n) with
    | none => true
    | some d => decide (s.wireTime p len ≤ d)

/-- A frame exceeds the longest open time of its gate, which does open (R221). -/
def State.tooBig (s : State) (p g len : Nat) : Option Nat :=
  match s.gateOf p with
  | none => none
  | some n => match longestOpen g (s.gateList n) with
    | none => none
    | some d => if d != 0 && decide (d < s.wireTime p len) then some n else none

/-- GATES and CUR_ENTRY take slice `e`. -/
def State.showSlice (s : State) (n : Nat) (e : Slice) : State := (s.wr GAT_GATES e.gates n).wr GAT_CUR_ENTRY e.idx n

/-- GATES and CUR_ENTRY of a running list follow its position (R220). -/
def State.gateSync (s : State) (n : Nat) : State :=
  if !s.on GAT_RUNNING n then s
  else
    match fromPos (s.gatePos n) (s.gateList n) with
    | e :: _ => s.showSlice n e
    | [] => s

/-- A frame in progress that will end after its gate has closed is counted once (R221). -/
def State.gateOverrun (s : State) (n : Nat) : State :=
  let p := s.rd GAT_PORT n
  let q := s.port p
  match q.txClass with
  | some g =>
    if s.gateOf p == some n && decide (s.now < q.txEnd) then
      match openFor g (s.gatePos n) (s.gateList n) with
      | some d =>
        if d + 12 * 80 * tbNs / (1000 * s.portLanes p) < (q.txEnd - s.now) * 1000 then
          ((s.setPort p { q with txClass := none }).inc GAT_OVERRUN 1 n).raise 15 3
        else s
      | none => s
    else s
  | none => s

/-- A step of time base `tb` moves the lists that run on it (R220). -/
def State.gatesMoved (s : State) (tb : Nat) : State :=
  forEach (List.range 16) s fun t n =>
    if t.on GAT_RUNNING n && t.rd GAT_A_TBASE n == tb then (t.gateSync n).gateOverrun n else t

/-- The LT counter moves by `d` ticks at once, and the lists that run on TB0 move with it (R41, R220). -/
def State.moveLt (s : State) (d : Int) : State := (s.shiftLt d).gatesMoved 0

/-- The reading of a time base in whole ns (R218). -/
def State.tbNow (s : State) (tb : Nat) : Nat := s.tbReading tb / tbNs

/-- COMMIT of list `n` (R219). -/
def gateListCommit (n : Nat) (s : State) : State :=
  if 16 ≤ n || s.on GAT_PEND n then s
  else if s.rd GAT_P_CYCLE n == 0 || s.rd GAT_P_COUNT n == 0 || 256 < s.rd GAT_P_COUNT n then
    ((s.wr GAT_REFUSED 1 n).inc GAT_REFUSALS).raise 15 1
  else
    let base := s.rd64 GAT_P_BASE_S_LO GAT_P_BASE_S_HI n * 1000000000 + s.rd GAT_P_BASE_NS n
    let least := s.tbNow (s.rd GAT_P_TBASE n) + 125000
    let adv := decide (base < least)
    let start := if adv then base + ceilDiv (least - base) (s.rd GAT_P_CYCLE n) * s.rd GAT_P_CYCLE n else base
    let t := ((s.wr64 GAT_ACT_S_LO GAT_ACT_S_HI (start / 1000000000) n).wr GAT_ACT_NS (start % 1000000000) n).wr GAT_PEND 1 n
    let t := t.inc GAT_COMMITS
    if adv then (t.wr GAT_ADVANCED 1 n).raise 15 2 else t

/-- The start instant of a pending list in ns (R219). -/
def State.gateStart (s : State) (n : Nat) : Nat := s.rd64 GAT_ACT_S_LO GAT_ACT_S_HI n * 1000000000 + s.rd GAT_ACT_NS n

/-- A pending list starts (R219): the pending bank and registers become the active ones. -/
def State.startList (s : State) (n : Nat) : State :=
  let start := s.gateStart n
  let t := forEach (List.range 256) s fun u e =>
    (u.wr GAT_AB_GATES (u.rd GAT_PB_GATES (n * 256 + e)) (n * 256 + e)).wr GAT_AB_INTERVAL (u.rd GAT_PB_INTERVAL (n * 256 + e))
      (n * 256 + e)
  let t := ((t.wr GAT_A_CYCLE (t.rd GAT_P_CYCLE n) n).wr GAT_A_COUNT (t.rd GAT_P_COUNT n) n).wr GAT_A_TBASE (t.rd GAT_P_TBASE n) n
  let t := ((t.wr GAT_RUNNING 1 n).wr GAT_PEND 0 n).wr GAT_RUNNING_MAP (setBit (t.rd GAT_RUNNING_MAP) n)
  let t := { t with pk := { t.pk with gates := amSet t.pk.gates n start } }
  ((t.gateSync n).gateOverrun n).raise 15 0

/-- The instant at which time base `tb` reads `ns`, at its nominal rate; exact for TB0. -/
def State.whenReads (s : State) (tb ns : Nat) : Nat := s.now + ceilDiv (ns * tbNs - s.tbReading tb) 1000

/-- A pending list's start instant is reached (R219). -/
def gateListStart (n : Nat) (s : State) : State :=
  if 16 ≤ n || !s.on GAT_PEND n then s
  else (s.advance (s.whenReads (s.rd GAT_P_TBASE n) (s.gateStart n))).startList n

/-- CANCEL of a pending list (R219); one that meets the start loses. -/
def gateListCancel (n : Nat) (s : State) : State :=
  if 16 ≤ n || !s.on GAT_PEND n then s
  else if s.gateStart n ≤ s.tbNow (s.rd GAT_P_TBASE n) then s.startList n
  else s.wr GAT_PEND 0 n

/-- A running list's entry ends and the next takes over (R220). -/
def gateEntryAdvance (n : Nat) (s : State) : State :=
  if 16 ≤ n || !s.on GAT_RUNNING n then s
  else
    let l := s.gateList n
    match fromPos (s.gatePos n) l ++ l with
    | e :: f :: _ => (s.advance (s.now + ceilDiv e.dur 1000)).showSlice n f
    | _ => s

/-! The meanings -/

/-- GATE_LIST_COMMIT. -/
def execGateListCommit (n : Nat) (s : State) : Host.Outcome State Fault Refusal := .next (gateListCommit n s)
/-- GATE_LIST_START. -/
def execGateListStart (n : Nat) (s : State) : Host.Outcome State Fault Refusal := .next (gateListStart n s)
/-- GATE_LIST_CANCEL. -/
def execGateListCancel (n : Nat) (s : State) : Host.Outcome State Fault Refusal := .next (gateListCancel n s)
/-- GATE_ENTRY_ADVANCE. -/
def execGateEntryAdvance (n : Nat) (s : State) : Host.Outcome State Fault Refusal := .next (gateEntryAdvance n s)

end Sys2Proof.Machine
end

