-- ==== Sys2Proof/Machine/Scramble.lean ====
section
/-! DEFINITION. The additive scrambler of R94, polynomial x^31 + x^28 + 1. A state holds its 31 stages, the oldest bit as the most
significant; it gives that bit out and takes in the sum of stages 31 and 28 (DEDUCED from R90, log 173). -/

namespace Sys2Proof.Machine

/-- One step of the generator. -/
def scrShift (v : Nat) : Nat := v * 2 % 2 ^ 31 + b2n (bit v 30 != bit v 27)

/-- 28 steps at once: no tap reaches a bit made within them. -/
def scrStep (v : Nat) : Nat := v % 8 * 2 ^ 28 + (v / 8 ^^^ v) % 2 ^ 28

/-- `k` times 28 output bits from state `v`, after those in `acc`. -/
def scrRun : Nat → Nat → Nat → Nat
  | 0, _, acc => acc
  | k + 1, v, acc => scrRun k (scrStep v) (acc * 2 ^ 28 + v / 8)

/-- The first `n` output bits from state `seed`, the first as the most significant. -/
def scrBits (seed n : Nat) : Nat := scrRun (ceilDiv n 28) seed 0 / 2 ^ (28 * ceilDiv n 28 - n)

/-- The seed of a downstream block (R94): `n` is the MFI of an overhead block, the multiframe number of a payload block. -/
def scrSeed (payload : Bool) (sc n idx : Nat) : Nat :=
  2 ^ 30 + b2n payload * 2 ^ 29 + sc % 32 * 2 ^ 24 + n % 128 * 2 ^ 17 + idx % 2 ^ 17

/-- `n` bits scrambled, or descrambled: the generator's output is added. -/
def scramble (seed n v : Nat) : Nat := v % 2 ^ n ^^^ scrBits seed n

/-- Whole bytes scrambled, or descrambled. -/
def scrambleBytes (seed : Nat) (bs : List Nat) : List Nat := bytesBE bs.length (scramble seed (8 * bs.length) (ofBytesBE bs))

/-! The generator of the FAW and of preambles -/

/-- The generator x^9 + x^5 + 1: `n` output bits from nine stages, first stage first (R90). -/
def pn9 : Nat → List Bool → List Bool
  | 0, _ => []
  | n + 1, st => st.getD 8 false :: pn9 n ((st.getD 8 false != st.getD 4 false) :: st.take 8)

/-- The FAW: 256 bits, the X half first (R90). -/
def faw : List Bool := pn9 256 (List.replicate 9 true)

/-- Symbols as their sign bits (R90): a run of 64 takes 256 bits, the first half for X and the second for Y, two bits to a symbol of a half;
a symbol is XI, XQ, YI, YQ as four bits. -/
def dpSymbols (bits : List Bool) : Nat → List Nat
  | 0 => []
  | n + 1 =>
    let x := bits.take 128
    let y := (bits.drop 128).take 128
    let b (l : List Bool) (i : Nat) : Nat := b2n (l.getD i false)
    ((List.range 64).map fun k => b x (2 * k) * 8 + b x (2 * k + 1) * 4 + b y (2 * k) * 2 + b y (2 * k + 1))
      ++ dpSymbols (bits.drop 256) n

/-- A preamble of `p` symbols (R160): the generator restarted with all nine stages at 1. DEDUCED (log 177): the mapping of the FAW is repeated
for each 64 symbols. -/
def preamble (p : Nat) : List Nat := dpSymbols (pn9 (4 * p) (List.replicate 9 true)) (p / 64)

end Sys2Proof.Machine
end

