-- ==== Sys2Proof/Machine/Rx.lean ====
section
/-! DEFINITION. Downstream reception and line framing (chapters 03 and 04): acquisition, coefficient banks, frame and multiframe
alignment, the overhead, the records of the control stream but messages and grants, the admitted set, groups and defects. -/

namespace Sys2Proof.Machine

/-! Acquisition (R63, R82, R83) -/

/-- GAIN to CD_SEARCH (R83). -/
def acqGainSettled (c : Nat) (s : State) : State := if c < 2 && s.acq c == 1 then s.wr (acqFld c) 2 else s

/-- A CD value lies where carrier `c` is searched (R68, R82): within 5,000 ps/nm of a valid hint, until the search around it has found
nothing. -/
def State.cdSought (s : State) (c cd : Nat) : Bool :=
  let v := toS 18 cd
  decide (-100000 ≤ v) && decide (v ≤ 100000)
    && (!s.on (hintFld c).2 || bit s.rx.fullSearch c || decide ((v - s.rdS (hintFld c).1).natAbs ≤ 5000))

/-- The CD of carrier `c` is found: 18 bits, two's complement (R66, R82, R83). -/
def acqCdFound (c cd : Nat) (s : State) : State :=
  if c < 2 && s.acq c == 2 && s.cdSought c cd then (s.wr (if c == 0 then LRX_CD_ACTIVE_A else LRX_CD_ACTIVE_B) cd).wr (acqFld c) 3 else s

/-- The search around a hint finds nothing and the full range is searched (R82). -/
def acqCdHintMiss (c : Nat) (s : State) : State :=
  if c < 2 && s.acq c == 2 && s.on (hintFld c).2 then { s with rx := { s.rx with fullSearch := setBit s.rx.fullSearch c } } else s

/-- FREQ to EQ_CONV (R83). -/
def acqFreqAcquired (c : Nat) (s : State) : State := if c < 2 && s.acq c == 3 then s.wr (acqFld c) 4 else s

/-- The equaliser of subcarrier `sc` converges: the first one takes its carrier to FRAME_SEARCH (R83). -/
def acqEqConverged (sc : Nat) (s : State) : State :=
  if 32 ≤ sc || s.acq (sc / 16) < 4 then s
  else
    let t := s.wr LRX_EQ_CONV 1 sc
    (if t.acq (sc / 16) == 4 then t.wr (acqFld (sc / 16)) 5 else t).tryTrack (sc / 16)

/-- A carrier leaves TRACK for an earlier state, with what that does to LT when it carries the control subcarrier (R39). -/
def State.carrierBack (s : State) (c st : Nat) : State :=
  let was := s.inFrame s.ctrlSc
  let t := s.carrierTo c st
  if was && !t.inFrame t.ctrlSc then t.ctrlLost else t

/-- An acquisition state exceeds its time (R83). -/
def acqStateOverrun (c : Nat) (s : State) : State :=
  if c < 2 && 1 ≤ s.acq c && s.acq c ≤ 5 then (s.carrierBack c 1).inc LRX_ACQ_RETRY else s

/-! Coefficient banks (R67) -/

/-- The place of a coefficient word: subcarrier, bank, word. -/
def coefIdx (ch bank w : Nat) : Nat := 256 * ch + 128 * bank + w

/-- A write of word `w` of a bank by the vat or by another master (R67). -/
def coefBankWrite (vat : Bool) (ch bank w value : Nat) (s : State) : State :=
  if 32 ≤ ch || 2 ≤ bank || 52 ≤ w then s
  else if s.rd LRX_BANK ch == bank then s.raise 7 5
  else if s.on LRX_COEF_OWNER == vat then s
  else s.wr LRX_COEF value (coefIdx ch bank w)

/-- Write of RS_EXPECT (R63): taken into SYM_RATE at once in FREE and ACQ, held otherwise; the value already in SYM_RATE changes nothing. -/
def rsExpectWrite (v : Nat) (s : State) : State :=
  let v := v % 2 ^ 18
  if v < 60000 || 150000 < v || v == s.rd LRX_SYM_RATE then s
  else
    let t := s.wr LRX_RS_EXPECT v
    if t.ltIs ltFree || t.ltIs ltAcq then t.changeRate v else t

/-- The block `idx` of subcarrier `sc` in its present multiframe, after descrambling (R94): whole bytes as decoded, the first bit as the most
significant, and marked errored when it is uncorrectable or KEY_EPOCH changed in its frame (R74, R93). -/
def State.blockOf (s : State) (sc idx : Nat) (info : List Nat) (uncorr : Bool) : Option Blk :=
  let b := s.subOf sc
  let n := blockBits s.symPerSlot (s.profOf sc) idx
  match b.label with
  | some (_, mf) =>
    if s.aligned sc && n != 0 then
      some { src := sc, mf := mf, idx := idx, len := n, err := uncorr || b.epochBad
             bits := scramble (scrSeed true sc mf idx) n (ofBytesBE (info.take (ceilDiv n 8)) / 2 ^ (8 * ceilDiv n 8 - n)) }
    else none
  | none => none

/-- The bits of a block as whole bytes. -/
def Blk.bytes (x : Blk) : List Nat := bytesBE (ceilDiv x.len 8) (x.bits * 2 ^ (8 * ceilDiv x.len 8 - x.len))

/-- A block joins the streams (R100, R109). -/
def State.takeBlock (s : State) (x : Blk) : State :=
  { s with rx := { s.rx with blocks := x :: s.rx.blocks.filter fun y => !(y.src == x.src && y.mf == x.mf && y.idx == x.idx) } }

/-- What becomes of a descrambled block: the control stream's is relayed (R390), a routed group's goes to its member (R389), and any other
joins its stream. -/
def State.blockOut (s : State) (x : Blk) : State :=
  if x.src == s.ctrlSc then s.ctrlBlockOut (frameFirst s.symPerSlot 0 x.idx) x.err x.mf (s.subOf x.src).fu x.bytes
  else (s.groupBlockOut x.src x.mf x.idx x.err x.bytes).takeBlock x

/-- Block `idx` of the present multiframe is decoded (R74, R86): its information bits as whole bytes, `corr` bits corrected, or
uncorrectable. -/
def blockDecoded (sc idx : Nat) (info : List Nat) (corr : Nat) (uncorr : Bool) (s : State) : State :=
  if 32 ≤ sc || !(s.on LRX_ADMITTED sc || sc == s.ctrlSc) || !s.inFrame sc then s
  else
    let t := (s.inc64 LRX_BLOCKS_LO LRX_BLOCKS_HI 1 sc).perf 7 0x00
    let t := if uncorr then ((t.inc LRX_UNCORR 1 sc).raise 7 3).perf 7 0x01 else t.inc64 LRX_CORR_LO LRX_CORR_HI corr sc
    match t.blockOf sc idx info uncorr with
    | some x => t.blockOut x
    | none => t

/-! Frame alignment (R90, R95 to R98) -/

/-- One rotation by 90° of a list of I and Q sign bits (DESIGN CHOICE, log 14). -/
def rot90 : List Bool → List Bool
  | i :: q :: t => (!q) :: i :: rot90 t
  | _ => []

/-- The FAW as a receiver sees it under hypothesis `h`: rotations in [1:0], polarisations exchanged in [2] (R95, R116). -/
def fawUnder (h : Nat) : List Bool :=
  let r := match h % 4 with
    | 0 => faw
    | 1 => rot90 faw
    | 2 => rot90 (rot90 faw)
    | _ => rot90 (rot90 (rot90 faw))
  if bit h 2 then r.drop 128 ++ r.take 128 else r

/-- The Hamming distance of a window from the FAW under a hypothesis: `word` holds the 256 sign bits, the first as the most
significant. -/
def fawDist (word h : Nat) : Nat :=
  ((List.range 256).zip (fawUnder h)).foldl (fun a b => if bit word (255 - b.1) == b.2 then a else a + 1) 0

/-- The hypothesis under which a window is a correct word, the nearest and then the lowest (R95). -/
def State.fawHyp (s : State) (word : Nat) : Option Nat :=
  ((List.range 8).filter fun h => decide (fawDist word h ≤ s.rd FRM_FAW_TOL)).foldl
    (fun a h => match a with
      | none => some h
      | some g => if fawDist word h < fawDist word g then some h else some g) none

/-- Symbols in a frame period. -/
def State.framePeriod (s : State) : Nat := 125 * s.symPerSlot

/-- Another subcarrier of the carrier is in frame, and `pos` lies more than 64 symbols from its edge (R95). -/
def State.outsideWindow (s : State) (sc pos : Nat) : Bool :=
  let n := s.framePeriod
  match (scsOf (sc / 16)).find? fun k => k != sc && s.inFrame k with
  | none => false
  | some k =>
    let d := (pos + n - (s.subOf k).pos % n) % n
    decide (64 < d) && decide (d + 64 < n)

/-- The corrected reading of a frame edge whose FAW arrives at counter reading `at_` (R38). -/
def State.edgeOf (s : State) (at_ : Nat) : Int := (at_ : Int) - s.rd LTM_FE_RX_LAT - s.rd LTM_DEV_RX_LAT

/-- How far a reading lies after the counter's nearest frame edge. -/
def phaseError (e : Int) : Int := (e + frameTicks / 2) % frameTicks - frameTicks / 2

/-- A received edge of the control subcarrier disciplines LT (R38, R39, R41, R43), but for a stack
member, which takes LT over Fenkai Link (R387): `first` marks the edge that puts it in frame. -/
def State.ltEdge (s : State) (e : Int) (first : Bool) : State :=
  let err := phaseError e
  let t := { s with rx := { s.rx with ctrlEdge := (e - err).toNat } }
  if s.rd FKL_ROLE == 2 then t else
  let big := decide ((usTicks : Int) < err) || decide (err < -(usTicks : Int))
  if t.ltIs ltFree then ((t.setLtState ltAcq).moveLt (-err))
  else if t.ltIs ltAcq then t.moveLt (-err)
  else if t.ltIs ltLocked then
    if big then (t.ltUnlock ltAcq).moveLt (-err) else t.moveLt (-(clampI (-65) 65 err))
  else if first then
    if big then ((t.ltUnlock ltAcq).moveLt (-err)).when_ (s.mode == .graze) fun u => u.inc PWR_WAKE_OVERRUN
    else { t with time := { t.time with step := some { delta := -err } } }
  else match t.time.step with
    | some _ => { t with time := { t.time with step := some { delta := -err } } }
    | none => t

/-- Subcarrier `sc` goes in frame at a position and hypothesis (R96, R97). -/
def State.goInFrame (s : State) (sc pos hyp at_ : Nat) : State :=
  let e := s.edgeOf at_
  let t := s.mapSub sc fun b => { b with cands := [], pos := pos, run := 0, since := s.now, edge := e.toNat, mfi := none, bad := 0 }
  let t := (((t.wr FRM_SC_IN_FRAME 1 sc).wr FRM_SC_HYP hyp sc).wr FRM_SC_CANDIDATES 0 sc).tryTrack (sc / 16)
  if sc == t.ctrlSc then t.ltEdge e true else t

/-- The candidates of a searcher become `l`. -/
def State.setCands (s : State) (sc : Nat) (l : List Cand) : State :=
  (s.mapSub sc fun b => { b with cands := l }).wr FRM_SC_CANDIDATES l.length sc

/-- The candidate that a new one replaces: fewest correct words, then the latest started (R96). -/
def evictee (l : List Cand) : Option Cand :=
  l.foldl (fun a c => match a with
    | none => some c
    | some m => if c.count ≤ m.count then some c else some m) none

/-- A new candidate (R96). -/
def State.newCand (s : State) (sc : Nat) (c : Cand) : State :=
  let l := (s.subOf sc).cands
  if l.length < 4 then s.setCands sc (l ++ [c])
  else
    match evictee l with
    | some m => (s.setCands sc ((l.erase m) ++ [c])).inc FRM_CAND_EVICT
    | none => s

/-- A window is tested in SEARCH (R95, R96, R98): `pos` is its first symbol's place in the frame period, `at_` the counter's reading
at that symbol. -/
def fawSearchWord (sc pos word at_ : Nat) (s : State) : State :=
  let s := s.advance at_
  if 32 ≤ sc || s.acq (sc / 16) < 5 || s.inFrame sc || s.framePeriod ≤ pos || s.outsideWindow sc pos then s
  else
    let b := s.subOf sc
    match b.cands.find? fun c => c.pos == pos with
    | some c =>
      if fawDist word c.hyp ≤ s.rd FRM_FAW_TOL then
        if s.rd FRM_FAW_N ≤ c.count + 1 then s.goInFrame sc pos c.hyp at_
        else s.setCands sc (b.cands.map fun x => if x.pos == pos then { x with count := x.count + 1 } else x)
      else (s.setCands sc (b.cands.filter fun x => x.pos != pos)).inc FRM_SC_MIMIC_DROP 1 sc
    | none =>
      match s.fawHyp word with
      | none => s
      | some h =>
        if s.rd FRM_FAW_N ≤ 1 then s.goInFrame sc pos h at_
        else s.newCand sc { pos := pos, hyp := h, count := 1 }

/-- A subcarrier falls out of frame (R97): its carrier goes back to FRAME_SEARCH when it carried the control subcarrier, or when no
subcarrier is left in frame (DEDUCED, log 15). -/
def State.goOutOfFrame (s : State) (sc : Nat) : State :=
  let c := sc / 16
  let t := s.subDrop sc
  let t := if t.acq c == 6 && (sc == s.ctrlSc || (s.ctrlSc / 16 != c && !(scsOf c).any t.inFrame)) then t.carrierTo c 5 else t
  if sc == s.ctrlSc then t.ctrlLost else t

/-- The expected FAW word of a subcarrier in frame is judged (R95, R97). -/
def fawInframeWord (sc word at_ : Nat) (s : State) : State :=
  let s := s.advance at_
  if 32 ≤ sc || !s.inFrame sc then s
  else if (s.fawHyp word).isSome then
    let t := s.mapSub sc fun b => { b with run := 0, edge := (s.edgeOf at_).toNat }
    if sc == t.ctrlSc then t.ltEdge (s.edgeOf at_) false else t
  else
    let r := (s.subOf sc).run + 1
    let t := ((s.mapSub sc fun b => { b with run := r }).inc FRM_SC_FAW_ERRORED 1 sc).perf 8 0x01
    if t.rd FRM_FAW_M ≤ r then t.goOutOfFrame sc else t

/-! The overhead (R91 to R93, R99, R101, R111, R112) -/

/-- The MFI of a decoded overhead block is judged (R99); none stands for an uncorrectable block. -/
def State.judgeMfi (s : State) (sc : Nat) (m : Option Nat) : State :=
  let b := s.subOf sc
  if s.aligned sc then
    let want := (b.mfi.getD 0 + 1) % 64
    if m == some want then s.mapSub sc fun x => { x with mfi := some want, bad := 0 }
    else if 3 ≤ b.bad + 1 then (s.loseAlign sc).mapSub sc fun x => { x with mfi := m }
    else s.mapSub sc fun x => { x with mfi := some want, bad := x.bad + 1 }
  else
    match m, b.mfi with
    | some v, some l =>
      if v == (l + 1) % 64 then
        (s.mapSub sc fun x => { x with mfi := some v, bad := 0, alignSince := s.now }).wr FRM_SC_MF_ALIGNED 1 sc
      else s.mapSub sc fun x => { x with mfi := some v }
    | _, _ => s.mapSub sc fun x => { x with mfi := m }

/-- The trace of a frame (R111). -/
def State.judgeTrace (s : State) (sc : Nat) (tr : List Nat) : State :=
  s.mapSub sc fun b =>
    let run := if b.traceRun != 0 && b.trace == tr then min 3 (b.traceRun + 1) else 1
    { b with trace := tr, traceRun := run, accepted := if run == 3 then some tr else b.accepted }

/-- The AIS bit of a decoded overhead block (R112). -/
def State.judgeAis (s : State) (sc : Nat) (ais : Bool) : State :=
  let t := s.mapSub sc fun b => if ais then { b with aisOn := min 3 (b.aisOn + 1), aisOff := 0 }
                                else { b with aisOff := min 3 (b.aisOff + 1), aisOn := 0 }
  let b := t.subOf sc
  if b.aisOn == 3 then t.meet (.ais sc) true else if b.aisOff == 3 then t.meet (.ais sc) false else t

/-- The label that follows label `l` (R39). -/
def nextLabel (l : Nat × Nat) : Nat × Nat := if l.2 == 124 then (l.1 + 1, 0) else (l.1, l.2 + 1)

/-- An LT label of the control subcarrier (R38, R39): two consistent ones in a row complete LT, at the next quiet frame boundary. -/
def State.ltLabel (s : State) (sf mf : Nat) : State :=
  if s.rd FKL_ROLE == 2 then s else
  let run := match s.time.label with
    | some l => if nextLabel l == (sf, mf) then s.time.labelRun + 1 else 1
    | none => 1
  let t := { s with time := { s.time with label := some (sf, mf), labelRun := run } }
  if t.ltIs ltAcq && decide (2 ≤ run) then
    { t with time := { t.time with step := some { delta := (fieldTime sf mf 0 0 : Int) - s.rx.ctrlEdge } } }
  else t

/-- Group channels that reassemble: enabled, and the lowest that binds its number (R117). -/
def State.groupChannels (s : State) : List Nat :=
  (List.range 64).filter fun g => s.on FRM_GRP_ENABLE g &&
    !(List.range g).any fun h => s.on FRM_GRP_ENABLE h && s.rd FRM_GRP_CG_ID h == s.rd FRM_GRP_CG_ID g

/-- A multiframe `m` of stream `st` starts (R100, R264). -/
def State.startStream (s : State) (st : Nat) (m : StreamMf) : State :=
  let c := s.chain st
  let old := amGet? s.cip.streams st
  let (ok, t) := s.streamStart st m.epoch
  let stay := match c.place with
    | some p => decide (p < c.cur.bytes)
    | none => false
  let t := match stay, old with
    | true, some k => { t with cip := { t.cip with streams := amSet t.cip.streams (st + 0x400) k } }
    | _, _ => { t with cip := { t.cip with streams := amDel t.cip.streams (st + 0x400) } }
  t.mapChain st fun x =>
    { x with cur := { m with usable := ok }, prev := x.cur, behind := stay
             place := x.place.map fun p => if stay then p else p - x.cur.bytes }

/-- KEY_EPOCH of a multiframe whose frame 0 could not be decoded comes with a later frame (R93). -/
def State.lateEpoch (s : State) (st epoch : Nat) : State :=
  if (s.chain st).cur.epoch == epoch then s
  else
    let (ok, t) := s.streamStart st epoch
    t.mapChain st fun x => { x with cur := { x.cur with epoch := epoch, usable := ok } }

/-- What a declared defect withholds (R113): LOS, LOF, LOM and AIS of a subcarrier its stream, and that of a group it belongs to. -/
def State.withheld (s : State) (sc : Nat) : Bool :=
  bit (s.rd FRM_DEFECTS) (sc / 16) || s.on FRM_SC_LOF sc || s.on FRM_SC_LOM sc || s.on FRM_SC_AIS sc

/-- The pointer of stream `st` in frame `f` (R101): it takes the stream up, or is kept to be compared. -/
def State.firstUnit (s : State) (st v : Nat) (range : Nat × Nat) : State :=
  match (s.chain st).place with
  | none => if v == 0xFFFFFFFF then s else s.mapChain st fun c => { c with place := some v, ptr := none, behind := false }
  | some _ => s.mapChain st fun c => { c with ptr := some (range.1, range.2, v) }

/-- The control stream at frame `mfi` (R104): frame 0 starts a multiframe at offset 0, and `fu` is none where the overhead is uncorrectable. -/
def State.ctlOverhead (s : State) (mfi : Nat) (fu : Option Nat) : State :=
  let t := if mfi == 0 then
      let u := if s.parsing then s.mapChain ctlStream fun c => { c with place := some 0, ptr := none } else s
      { u with rx := { u.rx with first := true, grants := 0 } }
    else s
  match fu with
  | some v => if t.parserOn then t.firstUnit ctlStream v (frameRange t.symPerSlot 0 1 mfi) else t
  | none => t

/-- The stream that a data subcarrier drives with its overhead (R101, R108): its own, or that of a delivering group whose position 0 it is,
with the number of members. -/
def State.drives (s : State) (sc : Nat) : Option (Nat × Nat) :=
  let size := s.rd FRM_SC_CG_SIZE sc
  let cg := s.rd FRM_SC_CG sc
  if size == 0 then (if (s.subOf sc).deliver then some (sc, 1) else none)
  else if s.rd FRM_SC_CG_POS sc == 0 && s.rx.groupOn.any fun g => s.rd FRM_GRP_CG_ID g == cg then some (groupStream cg, size)
  else none

/-- A data stream at frame `mfi` of its subcarrier (R100, R101, R108, R264). -/
def State.dataOverhead (s : State) (sc mfi : Nat) (fu : Option Nat) : State :=
  match s.drives sc with
  | none => s
  | some (st, n) =>
    let b := s.subOf sc
    let p := s.profOf sc
    let l := b.label.getD (0, 0)
    let t := if mfi == 0 then
        s.startStream st { sf := l.1, mf := l.2, epoch := b.epoch, n := n, prof := p, bytes := mfBytes s.symPerSlot p n }
      else s
    match fu with
    | some v => if t.withheld sc then t else t.firstUnit st v (frameRange t.symPerSlot p n mfi)
    | none => t

/-- Blocks of the multiframes before the last are over. -/
def State.dropBlocks (s : State) (src mf : Nat) : State :=
  { s with rx := { s.rx with blocks := s.rx.blocks.filter fun x => x.src != src || x.mf == mf || (x.mf + 1) % 125 == mf } }

/-- Frame `mfi` of an aligned subcarrier begins for its streams (R99, R100): with the fields of its overhead, or without where that is
uncorrectable. -/
def State.frameStart (s : State) (sc mfi : Nat) (fu : Option Nat) : State :=
  let s := s.mapSub sc fun b => { b with fu := fu.getD 0xFFFFFFFF }
  let s := if mfi == 0 then s.dropBlocks sc ((s.subOf sc).label.getD (0, 0)).2 else s
  if sc == s.ctrlSc then s.ctlOverhead mfi fu else s.dataOverhead sc mfi fu

/-- Byte `k` of an overhead block, and a word of it. -/
def ohByte (oh : List Nat) (k : Nat) : Nat := oh.getD k 0 % 256
def ohWord (oh : List Nat) (k : Nat) : Nat := ofBytesBE ((List.range 4).map fun i => ohByte oh (k + i))

/-- The LT label of an overhead block, when it carries one (R92, R93). -/
def ohLabel (oh : List Nat) : Option (Nat × Nat) :=
  if bit (ohByte oh 3) 5 then some (ohWord oh 8 * 2 ^ 16 + ohByte oh 12 * 256 + ohByte oh 13, ohByte oh 14 / 2) else none

/-- A multiframe's frame 0: its label, or the one that follows the last, and KEY_EPOCH when it was decoded (R93). -/
def Sub.newMf (b : Sub) (label : Option (Nat × Nat)) (epoch : Option Nat) : Sub :=
  { b with epoch := epoch.getD b.epoch, epochSet := epoch.isSome, epochBad := false, edgeAt := b.edge
           label := label.or (b.label.map nextLabel) }

/-- KEY_EPOCH in a later frame (R93). -/
def Sub.epochIn (b : Sub) (epoch : Nat) : Sub :=
  if b.epochSet then { b with epochBad := b.epoch != epoch } else { b with epoch := epoch, epochSet := true, epochBad := false }

/-- The control subcarrier is sought (R81): `sc` is the first in the order that is in frame, passing over those whose frame 0 brought no
label. -/
def State.ctrlFound (s : State) (sc : Nat) : Bool :=
  let hint := if s.on LRX_HINT_VALID then [s.rd LRX_CTRL_HINT] else []
  (s.ltIs ltFree || s.ltIs ltAcq)
    && (s.ctrlSc :: hint ++ List.range 32).find? (fun c => s.inFrame c && !(s.subOf c).noLabel) == some sc

/-- The group fields of an overhead block (R92, R93, R111): without a group the trace is ignored, and the row of equal ones is broken. -/
def State.groupFields (s : State) (sc : Nat) (oh : List Nat) : State :=
  let t := (s.wr FRM_SC_CG_SIZE (ohByte oh 22) sc).wr FRM_SC_KEY_EPOCH (ohByte oh 4) sc
  if ohByte oh 22 == 0 then t.mapSub sc fun b => { b with trace := [], traceRun := 0 }
  else ((t.wr FRM_SC_CG (ohByte oh 20) sc).wr FRM_SC_CG_POS (ohByte oh 21) sc).judgeTrace sc
    ((List.range 64).map fun i => ohByte oh (24 + i))

/-- The fields of a decoded overhead block (R92). -/
def State.overheadFields (s : State) (sc : Nat) (oh : List Nat) : State :=
  let mfi := ohByte oh 0 % 64
  let epoch := ohByte oh 4
  let t := ((s.judgeMfi sc (some mfi)).judgeAis sc (bit (ohByte oh 3) 7)).groupFields sc oh
  let label := ohLabel oh
  let was := t.subOf sc
  let t := t.mapSub sc fun b =>
    let b := { b with prof := ohByte oh 2 % 32, scid := ohByte oh 1 % 32, ctrl := bit (ohByte oh 3) 6 }
    if mfi == 0 then { b.newMf label (some epoch) with noLabel := label.isNone } else b.epochIn epoch
  let t := match mfi != 0 && !was.epochSet, t.drives sc with
    | true, some (st, _) => t.lateEpoch st epoch
    | _, _ => t
  let t := if label.isSome && t.ctrlSc != sc && t.ctrlFound sc then (t.moveCtrl sc).ltEdge ((t.subOf sc).edge : Int) true else t
  let t := match label with
    | some l => if sc == t.ctrlSc then t.ltLabel l.1 l.2 else t
    | none => t
  if t.aligned sc then t.frameStart sc mfi (some (ohWord oh 16)) else t

/-! Records of the control stream (R103 to R106) -/

/-- A FILL record (R105). -/
def fillRecord (r : Rec) (s : State) : State := s.recFor 0 r State.recOk

/-- A record of a reserved type is skipped by LEN (R104). -/
def reservedRecord (r : Rec) (s : State) : State := s.record (fun ty => decide (7 ≤ ty)) r fun t => t.inc FRM_REC_UNKNOWN

/-- A bad record header (R104): the parser loses its place. -/
def recordHeaderError (r : Rec) (s : State) : State :=
  if !s.parserOn || !s.parsing || recHeadOk r then s else s.badHeader

/-- The word at byte `k` of a record body. -/
def recWord (b : List Nat) (k : Nat) : Nat := ofBytesBE ((b.drop k).take 4)

/-- The boundary a table names (R106): none for MF 125 to 127. -/
def State.tableBoundary (s : State) (w : Nat) : Option Nat :=
  if 124 < bits w 27 21 then none
  else some (resolveG s.now 0 (bits w 31 28 * sfTicks + bits w 27 21 * mfTicks)).toNat

/-- A table record (R106): `keep` holds it pending for its boundary. -/
def State.table (s : State) (b : List Nat) (sizeOk : Bool) (keep : Nat → State → State) : State :=
  if !sizeOk then s.recDiscard
  else
    match s.tableBoundary (recWord b 0) with
    | none => s.recDiscard
    | some t =>
      if t ≤ s.mfEnd then (s.inc FRM_TBL_LATE).raise 8 10
      else (keep t s).recOk

/-- A PROFILE_TABLE record (R106). -/
def profileTable (r : Rec) (s : State) : State :=
  s.recFor 2 r fun t => t.table r.body (r.body.length == 36) fun b u =>
    { u with rx := { u.rx with pendProf := some (b, (r.body.drop 4).take 32) } }

/-- The map of a body's entries: those that repeat a TID are combined by OR; bit n is subcarrier n (R5, R106). -/
def mapOf : List (Nat × Nat) → List (Nat × Nat) → List (Nat × Nat)
  | m, [] => m
  | m, (hi, lo) :: t =>
    let tid := hi / 2 ^ 14
    let mask := bits lo 31 16 + bits lo 15 0 * 2 ^ 16
    mapOf (amSet m tid (amGetD 0 m tid ||| mask)) t

/-- An ALLOC_MAP record (R106). -/
def allocMap (r : Rec) (s : State) : State :=
  let n := r.body.length
  let es := (List.range ((n - 4) / 8)).map fun i => (recWord r.body (4 + 8 * i), recWord r.body (8 + 8 * i))
  s.recFor 3 r fun t => t.table r.body (decide (4 ≤ n) && (n - 4) % 8 == 0) fun b u =>
    { u with rx := { u.rx with pendMap := some (b, mapOf [] es) } }

/-- An RDI_LIST record (R112): the first valid one of a multiframe counts. -/
def rdiList (r : Rec) (s : State) : State :=
  s.recFor 6 r fun t =>
    let t := t.recOk
    let mf := t.carrying / mfTicks
    if t.rx.rdiMf == some mf then t
    else
      let named := (List.range (r.body.length / 4)).any fun i => t.ownTid (recWord r.body (4 * i) % 2 ^ 18)
      let on := if named then min 2 (t.rx.rdiOn + 1) else 0
      let off := if named then 0 else min 2 (t.rx.rdiOff + 1)
      let t := { t with rx := { t.rx with rdiMf := some mf, rdiOn := on, rdiOff := off } }
      if on == 2 then t.meet .rdi true else if off == 2 then t.meet .rdi false else t

/-! The admitted set (R69, R70, R76 to R80) -/

/-- 1.6 Tb/s in units of 1/576,000 Mb/s (R77). -/
def decodeCap : Nat := 1600000 * 576000

/-- The subcarriers of a 32-bit mask. -/
def scList (m : Nat) : List Nat := bitList 32 m

/-- A working-out under way: admitted, refused, load. -/
structure Admission where
  adm : List Nat
  ref : List Nat
  load : Nat
deriving DecidableEq, Repr

/-- The subcarriers `l` are admitted together or refused together (R78). -/
def State.admitOne (s : State) (a : Admission) (l : List Nat) : Admission :=
  let new := l.filter fun c => !a.adm.contains c
  let w := (new.map fun c => loadOf (s.rd LRX_SYM_RATE) (s.profOf c)).foldl (· + ·) 0
  if a.load + w ≤ decodeCap then { a with adm := a.adm ++ new, load := a.load + w } else { a with ref := a.ref ++ new }

/-- A subcarrier's published profile is reserved (R70). -/
def State.profReserved (s : State) (c : Nat) : Bool := c != s.ctrlSc && decide (32 ≤ s.rx.prof.getD c 0)

/-- The mask of a TID in the map in force. -/
def State.mapMask (s : State) (tid : Nat) : Nat := amGetD 0 s.rx.map tid

/-- The mask of the own subcarriers (R76). -/
def State.ownMask (s : State) : Nat := if s.on UPB_TID_VALID then s.mapMask (s.rd UPB_TID) else 0

/-- Insertion into a rising list. -/
def insertUp (n : Nat) : List Nat → List Nat
  | [] => [n]
  | a :: t => if n ≤ a then n :: a :: t else a :: insertUp n t

/-- The groups in ascending order, the broadcast TID last (R78). -/
def State.groupOrder (s : State) : List Nat := s.join.groups.foldl (fun l g => insertUp g l) [] ++ [broadcastTid]

/-- The admitted set of the map, profiles and rate in force (R78). In GRAZE the control subcarrier alone (R76). DESIGN CHOICE (log 202): of a
group, the subcarriers whose profile is reserved (R70) are left out and the rest are judged together. -/
def State.workedOut (s : State) : Admission :=
  let ctrl := s.ctrlSc
  let a : Admission := { adm := [ctrl], ref := [], load := loadOf (s.rd LRX_SYM_RATE) 0 }
  if s.mode == .graze then a
  else
    let free (m : Nat) := (scList m).filter fun c => !s.profReserved c
    let a := (free s.ownMask).foldl (fun x c => s.admitOne x [c]) a
    s.groupOrder.foldl (fun x g => s.admitOne x (free (s.mapMask g))) a

/-- Subcarriers with a reserved profile that the map names for the terminal (R70). -/
def State.reservedNamed (s : State) : Nat :=
  let m := s.groupOrder.foldl (fun a g => a ||| s.mapMask g) s.ownMask
  ((scList m).filter s.profReserved).length

/-- A mask of subcarriers shown in two 16-bit fields. -/
def State.showMask (s : State) (fa fb : Fld) (l : List Nat) : State :=
  let m := l.foldl setBit 0
  (s.wr fa m).wr fb (m / 2 ^ 16)

/-- A working-out and what it shows (R79, R80, R85, R86). DESIGN CHOICE (log 203): a subcarrier refused in one step and admitted in a later
one of the same working-out is shown and counted as admitted alone. -/
def State.workOut (s : State) : State :=
  let a := s.workedOut
  let ref := a.ref.filter fun c => !a.adm.contains c
  let t := (s.showMask LRX_ADMIT_A LRX_ADMIT_B a.adm).showMask LRX_REFUSE_A LRX_REFUSE_B ref
  let t := t.wr LRX_DECODE_LOAD (a.load / 576000)
  let t := (List.range 32).foldl (fun u c =>
    let v := ((u.wr LRX_PROF (s.profOf c) c).flag LRX_ADMITTED (a.adm.contains c) c).flag LRX_REFUSED (ref.contains c) c
    (v.flag LRX_IS_CTRL (c == s.ctrlSc) c).wr LRX_PAYLOAD_MF (mfPayload s.symPerSlot (s.profOf c)) c) t
  if ref.isEmpty then t else (t.raise 7 2).inc LRX_REFUSALS

/-- What the next working-out would rest on. -/
def State.workBasis (s : State) : WorkBasis :=
  { map := s.rx.map, prof := s.rx.prof, rate := s.rd LRX_SYM_RATE, ctrl := s.ctrlSc
    tid := if s.on UPB_TID_VALID then some (s.rd UPB_TID) else none, groups := s.join.groups, graze := s.mode == .graze }

/-- Pending tables due by `b` take effect together (R106). -/
def State.takeTables (s : State) (b : Nat) : State :=
  let s := match s.rx.pendProf with
    | some (t, p) => if t ≤ b then { s with rx := { s.rx with prof := p, pendProf := none } } else s
    | none => s
  match s.rx.pendMap with
  | some (t, m) => if t ≤ b then { s with rx := { s.rx with map := m, pendMap := none } } else s
  | none => s

/-- Which subcarriers deliver from this multiframe boundary on (R79). -/
def State.setDelivery (s : State) : State :=
  (List.range 32).foldl (fun t c =>
    let go := c != t.ctrlSc && t.on LRX_ADMITTED c && t.on LRX_EQ_CONV c && t.inFrame c && t.aligned c
    if (t.subOf c).deliver == go then t
    else
      let u := t.mapSub c fun b => { b with deliver := go }
      if go then u else u.endStream c) s

/-- The receiver at a multiframe boundary (R70, R79, R106). -/
def State.rxMultiframe (s : State) : State :=
  let t := s.takeTables s.now
  let t := if t.rx.basis == some t.workBasis then t
           else ({ t with rx := { t.rx with basis := some t.workBasis } }).workOut
  (t.inc LRX_REFUSALS t.reservedNamed).setDelivery

/-! Concatenated groups (R108, R110, R111, R116, R117) -/

/-- A member of a group as the reassembler sees it. -/
structure Member where
  pos : Nat
  size : Nat
  prof : Nat
  trace : Option (List Nat)
  edge : Nat
  /-- The number of its last multiframe. -/
  mf : Option Nat
  ok : Bool
  /-- The subcarrier, when it is one of the terminal's own. -/
  sc : Option Nat
deriving DecidableEq, Repr

/-- The own subcarriers in frame whose overhead names group `cg`. -/
def State.ownMembers (s : State) (cg : Nat) : List Nat :=
  (List.range 32).filter fun c => s.inFrame c && s.rd FRM_SC_CG_SIZE c != 0 && s.rd FRM_SC_CG c == cg

/-- An own member: size, profile and trace as its overhead reports them (R92, R108). -/
def State.ownMember (s : State) (c : Nat) : Member :=
  let b := s.subOf c
  { pos := s.rd FRM_SC_CG_POS c, size := s.rd FRM_SC_CG_SIZE c, prof := b.prof, trace := b.accepted, edge := b.edgeAt
    mf := b.label.map Prod.snd, ok := b.deliver && !s.withheld c, sc := some c }

/-- The profile at which `n` blocks make up a multiframe. -/
def State.profOfCount (s : State) (n : Nat) : Option Nat :=
  (List.range 32).find? fun p => blockBits s.symPerSlot p (n - 1) != 0 && blockBits s.symPerSlot p n == 0

/-- The remote members of group `cg`. -/
def State.remotesOf (s : State) (cg : Nat) : List Remote := s.rx.remotes.filter fun r => r.cg == cg

/-- A member carried over Fenkai Link. GROUP cells bring no size, profile or trace (R384): its profile shows in the blocks of its last
multiframe, which also tell that the whole of that has come, and its size is that of an own member, or without one the number of
members heard (DEDUCED, log 175). -/
def State.remoteMember (s : State) (r : Remote) : Member :=
  let p := s.profOfCount r.last
  let size := match s.ownMembers r.cg with
    | c :: _ => s.rd FRM_SC_CG_SIZE c
    | [] => (s.remotesOf r.cg).length
  { pos := r.pos, size := size, prof := p.getD 32, trace := none, edge := r.at_, mf := some ((r.mf + 124) % 125), ok := p.isSome, sc := none }

/-- The members of group `cg`: own subcarriers whose overhead names it, and those carried over Fenkai Link. -/
def State.members (s : State) (cg : Nat) : List Member :=
  (s.ownMembers cg).map s.ownMember ++ (s.remotesOf cg).map s.remoteMember

/-- Two members agree in size, profile and accepted trace (R108). A member carried over Fenkai Link brings no trace. -/
def Member.agrees (a b : Member) : Bool :=
  a.size == b.size && a.prof == b.prof && (a.trace == b.trace || a.sc.isNone || b.sc.isNone)

/-- The fields of the members are inconsistent (R108). -/
def groupMismatch (l : List Member) : Bool :=
  l.any (fun m => m.size == 1 || decide (65 ≤ m.size) || (l.filter fun x => x.pos == m.pos).length != 1)
    || l.any fun a => l.any fun b => !a.agrees b

/-- Every position is present exactly once, every member is in frame and multiframe-aligned (R108), and all stand in one multiframe (R110). -/
def groupComplete (l : List Member) : Bool :=
  match l.head? with
  | none => false
  | some m => l.all Member.ok && l.length == m.size && ((List.range m.size).all fun p => l.any fun x => x.pos == p)
      && l.all fun x => x.mf == m.mf

/-- The spread of the members' multiframe edges in ticks (R110). -/
def groupSkew (l : List Member) : Nat :=
  let es := l.map Member.edge
  es.foldl max 0 - (minList es).getD 0

/-- The trace of a group: that of position 0 (R111). -/
def groupTrace (l : List Member) : Option (List Nat) := (l.find? fun m => m.pos == 0).bind Member.trace

/-- The trace of group channel `g` differs from the expected one in a selected byte (R111). -/
def State.traceDiffers (s : State) (g : Nat) (tr : List Nat) : Bool :=
  (List.range 64).any fun k =>
    let sel := if k < 32 then bit (s.rd FRM_GRP_TRACE_MASK_LO g) k else bit (s.rd FRM_GRP_TRACE_MASK_HI g) (k - 32)
    sel && tr.getD k 0 != s.rd FRM_GRP_EXP_TRACE (g * 16 + k / 4) / 256 ^ (3 - k % 4) % 256

/-- Group channel `g` has the condition of TIM (R111): while no accepted trace is there to be compared, TIM stays as it is. -/
def State.timCond (s : State) (g : Nat) : Bool :=
  s.on FRM_GRP_TIM_EN g && match groupTrace (s.members (s.rd FRM_GRP_CG_ID g)) with
    | some tr => s.traceDiffers g tr
    | none => s.on FRM_GRP_TIM g

/-- ACC_TRACE of group channel `g` shows the group's accepted trace (R111, R117). -/
def State.showTrace (s : State) (g : Nat) : State :=
  match groupTrace (s.members (s.rd FRM_GRP_CG_ID g)) with
  | none => s
  | some tr => (List.range 16).foldl (fun t w => t.wr FRM_GRP_ACC_TRACE (ofBytesBE ((tr.drop (4 * w)).take 4)) (g * 16 + w)) s

/-- The group channels that subcarrier `sc` gives the trace show it as soon as it is accepted (R111, R117). -/
def State.showTraces (s : State) (sc : Nat) : State :=
  if s.rd FRM_SC_CG_SIZE sc == 0 || s.rd FRM_SC_CG_POS sc != 0 then s
  else (s.groupChannels.filter fun g => s.rd FRM_GRP_CG_ID g == s.rd FRM_SC_CG sc).foldl State.showTrace s

/-- An overhead block is decoded (R91, R94): its bytes, descrambled under the MFI that the decoder found (DESIGN CHOICE, log 174), or none where it is
uncorrectable. In GRAZE only that of the control subcarrier is. -/
def overheadBlock (sc mfi : Nat) (oh : Option (List Nat)) (s : State) : State :=
  if 32 ≤ sc || !s.inFrame sc || (s.mode == .graze && sc != s.ctrlSc) then s
  else
    match oh with
    | some b => (s.overheadFields sc (scrambleBytes (scrSeed false sc mfi 0) b)).showTraces sc
    | none =>
      let t := ((s.inc FRM_SC_OH_UNCORR 1 sc).judgeMfi sc none).mapSub sc fun b => { b with trace := [], traceRun := 0 }
      let m := (t.subOf sc).mfi.getD 0
      if t.aligned sc then (if m == 0 then t.mapSub sc fun b => b.newMf none none else t).frameStart sc m none else t

/-- One group channel at a multiframe boundary (R108, R110, R111). -/
def State.groupMultiframe (s : State) (g : Nat) : State :=
  let l := s.members (s.rd FRM_GRP_CG_ID g)
  let skew := groupSkew l
  let exc := decide (32 * usTicks < skew)
  let was := s.on FRM_GRP_SKEW_EXC g
  let mis := groupMismatch l
  let full := groupComplete l && !mis
  let go := full && !exc && !was && !(s.on FRM_GRP_TIM g && s.on FRM_GRP_TIM_ACT g)
  let t := ((s.flag FRM_GRP_COMPLETE full g).flag FRM_GRP_MISMATCH mis g).flag FRM_GRP_SKEW_EXC exc g
  let t := ((t.wr FRM_GRP_SKEW (satU 16 (skew * 1000 / usTicks)) g).raiseIf (exc && !was) 8 9).showTrace g
  if go then { t with rx := { t.rx with groupOn := t.rx.groupOn ++ [g] } }
  else (t.inc FRM_GRP_MF_DROPPED 1 g).endStream (groupStream (s.rd FRM_GRP_CG_ID g))

/-- The groups at a multiframe boundary: channels that reassemble, and COMPLETE of the others reads 0 (R117). -/
def State.groupsMultiframe (s : State) : State :=
  let on := s.groupChannels
  let t := { s with rx := { s.rx with groupOn := [] } }
  let t := (List.range 64).foldl (fun u g => if on.contains g then u else u.wr FRM_GRP_COMPLETE 0 g) t
  on.foldl State.groupMultiframe t

/-! Defects (R112 to R114) -/

/-- LOS of a carrier is declared. -/
def State.losOn (s : State) (c : Nat) : Bool := bit (s.rd FRM_DEFECTS) c

/-- A defect is declared. -/
def State.declared (s : State) (d : Defect) : Bool :=
  match d with
  | .los c => s.losOn c
  | .lof sc => s.on FRM_SC_LOF sc
  | .lom sc => s.on FRM_SC_LOM sc
  | .ais sc => s.on FRM_SC_AIS sc
  | .rdi => bit (s.rd FRM_DEFECTS) 7
  | .tim g => s.on FRM_GRP_TIM g

/-- The INT_STAT bit of a defect (R118). -/
def defectInt (d : Defect) : Nat :=
  match d with
  | .los c => c | .lof _ => 2 | .lom _ => 3 | .ais _ => 4 | .rdi => 5 | .tim _ => 6

/-- The flag of a defect becomes `on`. -/
def State.showDefect (s : State) (d : Defect) (on : Bool) : State :=
  match d with
  | .los c => s.wr FRM_DEFECTS (putBit (s.rd FRM_DEFECTS) c on)
  | .lof sc => s.flag FRM_SC_LOF on sc
  | .lom sc => s.flag FRM_SC_LOM on sc
  | .ais sc => s.flag FRM_SC_AIS on sc
  | .rdi => s.wr FRM_DEFECTS (putBit (s.rd FRM_DEFECTS) 7 on)
  | .tim g => s.flag FRM_GRP_TIM on g

/-- A defect is declared or cleared, with its consequent action (R113). -/
def State.putDefect (s : State) (d : Defect) (on : Bool) : State :=
  if s.declared d == on then s
  else
    let t := (s.showDefect d on).raise 8 (if on then defectInt d else 7)
    match d, on with
    | .los c, true => if 4 ≤ t.acq c then t.carrierBack c 3 else t
    | .lof sc, true => if sc == t.ctrlSc && !t.on FKL_CTRL_VALID then t.losePlace ctlStream else t
    | .ais sc, true =>
      let u := t.losePlace sc
      if u.rd FRM_SC_CG_SIZE sc == 0 then u else u.groupStop (u.rd FRM_SC_CG sc)
    | .tim g, true => if t.on FRM_GRP_TIM_ACT g && t.rx.groupOn.contains g then t.groupStop (t.rd FRM_GRP_CG_ID g) else t
    | _, _ => t

/-- A defect is suppressed (R113): neither declared nor counted, its timers reset. -/
def State.suppress (s : State) (d : Defect) : State :=
  let t := if s.declared d then s.showDefect d false else s
  match d with
  | .lof sc => t.mapSub sc fun b => { b with since := t.now }
  | .lom sc => t.mapSub sc fun b => { b with alignSince := t.now }
  | .ais sc => t.mapSub sc fun b => { b with aisOn := 0, aisOff := 0 }
  | _ => t

/-- What was met since the last boundary is judged: a declaration stands against a clearance (R114). -/
def State.judgeDefect (s : State) (d : Defect) : State :=
  if s.rx.met.contains (d, true) then s.putDefect d true
  else if s.rx.met.contains (d, false) then s.putDefect d false else s

/-- The objects evaluated: the control subcarrier and the admitted ones (R112). -/
def State.watched (s : State) (sc : Nat) : Bool := sc == s.ctrlSc || s.on LRX_ADMITTED sc

/-- The admitted set is still that of GRAZE: no working-out has followed yet (R79). -/
def State.grazeSet (s : State) : Bool := s.rx.basis.any WorkBasis.graze

/-- A subcarrier's defect of one kind is judged, or suppressed by those above it (R113). In GRAZE those of other subcarriers than the
control subcarrier hold (R114), until the admitted set is worked out anew, and while it sleeps that one has no receiver to judge it by. -/
def State.judgeSub (s : State) (k : Nat) (sc : Nat) : State :=
  let d : Defect := if k == 0 then .lof sc else if k == 1 then .lom sc else .ais sc
  if (s.mode == .graze || s.grazeSet) && sc != s.ctrlSc || s.mode == .graze && !s.pwr.awake then s
  else if !s.watched sc || s.losOn (sc / 16) || (1 ≤ k && s.on FRM_SC_LOF sc) || (2 ≤ k && s.on FRM_SC_LOM sc) then s.suppress d
  else s.judgeDefect d

/-- The TIM of a group channel is judged, or suppressed (R111, R113). -/
def State.judgeTim (s : State) (g : Nat) : State :=
  let scs := (s.members (s.rd FRM_GRP_CG_ID g)).filterMap Member.sc
  if !s.on FRM_GRP_ENABLE g || scs.any fun c => s.losOn (c / 16) || s.on FRM_SC_AIS c then s.suppress (.tim g)
  else s.putDefect (.tim g) (s.timCond g)

/-- DEFECTS (R113). -/
def State.showDefects (s : State) : State :=
  let scs := List.range 32
  let v := b2n (s.losOn 0) + 2 * b2n (s.losOn 1) + 4 * b2n (s.on FRM_SC_LOF s.ctrlSc)
    + 8 * b2n (scs.any fun c => c != s.ctrlSc && s.on LRX_ADMITTED c && s.on FRM_SC_LOF c)
    + 16 * b2n (scs.any fun c => s.on FRM_SC_LOM c) + 32 * b2n (scs.any fun c => s.on FRM_SC_AIS c)
    + 64 * b2n ((List.range 64).any fun g => s.on FRM_GRP_ENABLE g && s.on FRM_GRP_TIM g)
    + 128 * b2n (bit (s.rd FRM_DEFECTS) 7)
  s.wr FRM_DEFECTS v

/-- The defects at a frame boundary (R112 to R114). -/
def State.evalDefects (s : State) : State :=
  let t := [0, 1].foldl (fun u c => u.judgeDefect (.los c)) s
  let t := [0, 1, 2].foldl (fun u k => (List.range 32).foldl (fun v sc => v.judgeSub k sc) u) t
  let t := if t.mode == .graze then t
           else ((List.range 64).foldl State.judgeTim t).judgeDefect .rdi
  ({ t with rx := { t.rx with met := [] } }).showDefects

/-- LOS is met at carrier `c` (R112): SD is low, or with the front end's gain at its maximum, as `top` tells, the RMS ADC code has lain
below LOS_LEVEL for 10 µs. -/
def State.losMet (s : State) (rms : Nat) (top : Bool) : Bool := !s.pins.sd || (top && decide (rms < s.rd FRM_LOS_LEVEL))

/-- The RMS ADC code clears LOS (R112). -/
def State.losClears (s : State) (rms : Nat) : Bool := s.pins.sd && decide (s.rd FRM_LOS_LEVEL + s.rd FRM_LOS_HYST ≤ rms)

/-- A condition of R112 is met at the end of its time or count; one that the state or, for LOS, the carrier's RMS ADC code contradicts is
not. -/
def defectConditionMet (d : Defect) (set : Bool) (rms : Nat) (top : Bool) (s : State) : State :=
  let ms3 := 3 * msTicks
  match d, set with
  | .los c, true => if c < 2 && s.losMet rms top then s.meet d true else s
  | .los c, false => if c < 2 && s.losClears rms then (s.advance (s.rx.sdHighSince + msTicks)).meet d false else s
  | .lof sc, b =>
    if sc < 32 && s.inFrame sc != b then (s.advance ((s.subOf sc).since + ms3)).meet d b else s
  | .lom sc, true =>
    if sc < 32 && s.inFrame sc && !s.aligned sc then
      (s.advance (max (s.subOf sc).since (s.subOf sc).alignSince + ms3)).meet d true
    else s
  | .lom sc, false => if sc < 32 && s.aligned sc then (s.advance ((s.subOf sc).alignSince + ms3)).meet d false else s
  | .ais sc, b => if (if b then (s.subOf sc).aisOn else (s.subOf sc).aisOff) == 3 then s.meet d b else s
  | .rdi, b => if (if b then s.rx.rdiOn else s.rx.rdiOff) == 2 then s.meet d b else s
  | .tim g, b => if s.timCond g == b then s.meet d b else s

/-! The meanings -/

/-- ACQ_GAIN_SETTLED. -/
def execAcqGainSettled (c : Nat) (s : State) : Host.Outcome State Fault Refusal := .next (acqGainSettled c s)
/-- ACQ_CD_FOUND. -/
def execAcqCdFound (c cd : Nat) (s : State) : Host.Outcome State Fault Refusal := .next (acqCdFound c cd s)
/-- ACQ_CD_HINT_MISS. -/
def execAcqCdHintMiss (c : Nat) (s : State) : Host.Outcome State Fault Refusal := .next (acqCdHintMiss c s)
/-- ACQ_FREQ_ACQUIRED. -/
def execAcqFreqAcquired (c : Nat) (s : State) : Host.Outcome State Fault Refusal := .next (acqFreqAcquired c s)
/-- ACQ_EQ_CONVERGED. -/
def execAcqEqConverged (sc : Nat) (s : State) : Host.Outcome State Fault Refusal := .next (acqEqConverged sc s)
/-- ACQ_STATE_OVERRUN. -/
def execAcqStateOverrun (c : Nat) (s : State) : Host.Outcome State Fault Refusal := .next (acqStateOverrun c s)
/-- COEF_BANK_WRITE. -/
def execCoefBankWrite (vat : Bool) (ch bank w value : Nat) (s : State) : Host.Outcome State Fault Refusal :=
  .next (coefBankWrite vat ch bank w value s)
/-- RS_EXPECT_WRITE. -/
def execRsExpectWrite (v : Nat) (s : State) : Host.Outcome State Fault Refusal := .next (rsExpectWrite v s)
/-- BLOCK_DECODED. -/
def execBlockDecoded (sc idx : Nat) (info : List Nat) (corr : Nat) (uncorr : Bool) (s : State) : Host.Outcome State Fault Refusal :=
  .next (blockDecoded sc idx info corr uncorr s)
/-- FAW_SEARCH_WORD. -/
def execFawSearchWord (sc pos word at_ : Nat) (s : State) : Host.Outcome State Fault Refusal :=
  .next (fawSearchWord sc pos word at_ s)
/-- FAW_INFRAME_WORD. -/
def execFawInframeWord (sc word at_ : Nat) (s : State) : Host.Outcome State Fault Refusal := .next (fawInframeWord sc word at_ s)
/-- OVERHEAD_BLOCK. -/
def execOverheadBlock (sc mfi : Nat) (oh : Option (List Nat)) (s : State) : Host.Outcome State Fault Refusal :=
  .next (overheadBlock sc mfi oh s)
/-- FILL_RECORD. -/
def execFillRecord (r : Rec) (s : State) : Host.Outcome State Fault Refusal := .next (fillRecord r s)
/-- RESERVED_RECORD. -/
def execReservedRecord (r : Rec) (s : State) : Host.Outcome State Fault Refusal := .next (reservedRecord r s)
/-- RECORD_HEADER_ERROR. -/
def execRecordHeaderError (r : Rec) (s : State) : Host.Outcome State Fault Refusal := .next (recordHeaderError r s)
/-- PROFILE_TABLE. -/
def execProfileTable (r : Rec) (s : State) : Host.Outcome State Fault Refusal := .next (profileTable r s)
/-- ALLOC_MAP. -/
def execAllocMap (r : Rec) (s : State) : Host.Outcome State Fault Refusal := .next (allocMap r s)
/-- RDI_LIST. -/
def execRdiList (r : Rec) (s : State) : Host.Outcome State Fault Refusal := .next (rdiList r s)
/-- DEFECT_CONDITION_MET. -/
def execDefectConditionMet (d : Defect) (set : Bool) (rms : Nat) (top : Bool) (s : State) : Host.Outcome State Fault Refusal :=
  .next (defectConditionMet d set rms top s)

end Sys2Proof.Machine
end

