-- ==== Sys2Proof/Machine/Framing.lean ====
section
/-! DEFINITION. Delineation of data streams (R102) and the filter on a unit's tag (R186). -/

namespace Sys2Proof.Machine

/-! The tag filter (R186) -/

/-- Fields of a line tag (R184). -/
def tagTid (v : Nat) : Nat := bits v 63 46
def tagLen (v : Nat) : Nat := bits v 31 18
def tagTs (v : Nat) : Bool := bit v 14
def tagMem (v : Nat) : Nat := bits v 13 11

/-- A tag's HCRC is correct and its LEN in range (R102, R184). -/
def tagOk (bs : List Nat) : Bool :=
  let v := ofBytesBE (bs.take 8)
  crc8 0 (bs.take 7) == v % 256 && decide (64 ≤ tagLen v) && decide (tagLen v ≤ 16000)

/-- Bytes of a unit on the line (R184). -/
def unitLen (v : Nat) : Nat := 8 + (if tagTs v then 8 else 0) + tagLen v

/-- The frame of a unit for source `isrc`, without tag and extension (R186). -/
def unitFrame (unit : List Nat) (isrc car : Nat) : RxFrame :=
  let v := ofBytesBE (unit.take 8)
  let ext := if tagTs v then 8 else 0
  { bytes := (unit.drop (8 + ext)).take (tagLen v), isrc := isrc, dir := 1
    lt := if tagTs v then ofBytesBE ((unit.drop 8).take 8) else 0, ts := tagTs v, ltid := tagTid v, car := car }

/-- A delineated unit is filtered on its tag and placed (R186). -/
def State.tagFilter (s : State) (unit : List Nat) (car : Nat) : State :=
  let v := ofBytesBE (unit.take 8)
  if !(s.ownTid (tagTid v) || s.join.groups.contains (tagTid v) || tagTid v == broadcastTid) then s.inc CLP_TAG_MISS
  else
    let m := tagMem v
    if m == s.rd FKL_MEM_ID then s.toParser (unitFrame unit 16 car)
    else if bit (s.rd FKL_MAP_ENTRY m) 31 then s.forwardUnit m unit
    else s.inc CLP_MEM_MISS

/-! Delineation (R100 to R102) -/

/-- The subcarrier under which a stream's losses are counted: its own, for a group that of position 0, and where that is another package's
the own member of the lowest position (DESIGN CHOICE, log 176). -/
def State.streamSc (s : State) (st : Nat) : Option Nat :=
  if st < 32 then some st
  else
    let l := s.ownMembers (st - 0x100)
    match minList (l.map fun c => s.rd FRM_SC_CG_POS c) with
    | some p => l.find? fun c => s.rd FRM_SC_CG_POS c == p
    | none => none

/-- A DELIN_LOSS of a stream. -/
def State.delinLoss (s : State) (st : Nat) : State :=
  match s.streamSc st with
  | some c => s.inc FRM_SC_DELIN_LOSS 1 c
  | none => s

/-- The pointer of the frame is compared with the place that chaining has reached (R101, R102). -/
def State.meetDataPtr (s : State) (st : Nat) : State :=
  let c := s.chain st
  match c.place, c.ptr with
  | some p, some (lo, hi, v) =>
    if c.behind || decide (p < lo) then s
    else
      let t := s.mapChain st fun x => { x with ptr := none }
      if v == (if p < hi then p else 0xFFFFFFFF) then t else t.delinLoss st
  | _, _ => s

/-- `data` of one multiframe of stream `st` from byte offset `off`, decrypted (R266), and whether it can be used (R264). -/
def State.plain (s : State) (st : Nat) (prev : Bool) (m : StreamMf) (off : Nat) (data : List Nat) : List Nat × Bool :=
  if m.epoch == 0 then (data, m.usable)
  else
    match amGet? s.cip.streams (if prev then st + 0x400 else st) with
    | none => (data, false)
    | some (_, key) =>
      ((lineDecrypt key m.sf m.mf st m.epoch (off - off % 16) (List.replicate (off % 16) 0 ++ data)).drop (off % 16), m.usable)

/-- Where the blocks of position `pos` of stream `st` come from (R109). -/
def State.srcOf (s : State) (st pos : Nat) : Nat :=
  if st < 32 then st
  else
    let cg := st - 0x100
    ((s.ownMembers cg).find? fun c => s.rd FRM_SC_CG_POS c == pos).getD (remoteSrc cg pos)

/-- The bit of a stream of `n` members at which its `b`-th block begins, whole blocks first (R109). -/
def blockStart (sym p n b : Nat) : Nat :=
  let w := mfCoded sym p / 12288 * n
  if b ≤ w then b * 10240 else w * 10240 + (b - w) * blockBits sym p (mfCoded sym p / 12288)

/-- The place of a stream's bit among its blocks. -/
def blockAt (sym p n i : Nat) : Nat :=
  let w := mfCoded sym p / 12288 * n
  let q := blockBits sym p (mfCoded sym p / 12288)
  if i < w * 10240 then i / 10240 else if q == 0 then w else w + (i - w * 10240) / q

/-- Blocks `b` to `b + k - 1` of a multiframe of stream `st` in their interleaved order (R109), as one number; none while one is missing. -/
def State.blocksFrom (s : State) (st : Nat) (m : StreamMf) : Nat → Nat → Nat → Bool → Option (Nat × Bool)
  | _, 0, acc, err => some (acc, err)
  | b, k + 1, acc, err =>
    match s.rx.blocks.find? fun x => x.src == s.srcOf st (b % m.n) && x.mf == m.mf && x.idx == b / m.n with
    | some x => s.blocksFrom st m (b + 1) k (acc * 2 ^ x.len + x.bits) (err || x.err)
    | none => none

/-- `n` bytes of a multiframe of stream `st` from byte `off` on, as the blocks hold them (R100), and whether an errored bit is among them. -/
def State.mfData (s : State) (st : Nat) (m : StreamMf) (off n : Nat) : Option (List Nat × Bool) :=
  if n == 0 then some ([], false)
  else
    let sym := s.symPerSlot
    let b := blockAt sym m.prof m.n (8 * off)
    let e := blockAt sym m.prof m.n (8 * (off + n) - 1) + 1
    match s.blocksFrom st m b (e - b) 0 false with
    | some (v, err) => some (bytesBE n (v / 2 ^ (blockStart sym m.prof m.n e - 8 * (off + n)) % 2 ^ (8 * n)), err)
    | none => none

/-- `n` bytes from the place of stream `st` on, across the multiframe boundary (R100), deciphered (R266), and whether they hold an errored
bit; none while they have not all come. -/
def State.unitData (s : State) (st n : Nat) : Option (List Nat × Bool) :=
  let c := s.chain st
  let p := c.place.getD 0
  let one (prev : Bool) (m : StreamMf) (off k : Nat) : Option (List Nat × Bool) :=
    (s.mfData st m off k).map fun d =>
      let (x, usable) := s.plain st prev m off d.1
      (x, d.2 || (k != 0 && !usable))
  let k := if c.behind then min n (c.prev.bytes - p) else 0
  let at_ := if c.behind then 0 else p
  if c.cur.bytes < at_ + (n - k) then none
  else
    match one true c.prev p k, one false c.cur at_ (n - k) with
    | some a, some b => some (a.1 ++ b.1, a.2 || b.2)
    | _, _ => none

/-- The place of stream `st` moves on by `n` bytes. -/
def State.placeOn (s : State) (st n : Nat) : State :=
  s.mapChain st fun c =>
    let p := c.place.getD 0 + n
    if c.behind && decide (c.prev.bytes ≤ p) then { c with place := some (p - c.prev.bytes), behind := false }
    else { c with place := some p }

/-- The carrier that delivers a stream (R286): a subcarrier's, or that of a group's position 0. -/
def State.streamCar (s : State) (st : Nat) : Nat := (s.streamSc st).getD 0 / 16

/-- A defect withholds a stream (R113): that of a member, for a group. -/
def State.streamWithheld (s : State) (st : Nat) : Bool :=
  if st < 32 then s.withheld st else (s.ownMembers (st - 0x100)).any s.withheld

/-- The next unit position of data stream `st` is read, once its bytes have come (R102): an idle word, a valid tag with its frame, or bytes
that are neither. -/
def delineateUnit (st : Nat) (s : State) : State :=
  let s := s.meetDataPtr st
  if (s.chain st).place.isNone || st == ctlStream || s.streamWithheld st then s
  else
    match s.unitData st 8 with
    | none => s
    | some (tag, tagErr) =>
      let v := ofBytesBE tag
      if v == 0 then s.placeOn st 8
      else if !tagOk tag then (s.losePlace st).delinLoss st
      else
        match s.unitData st (unitLen v) with
        | none => s
        | some (unit, err) =>
          if err then
            let t := match s.streamSc st with
              | some c => (s.inc FRM_SC_ERR_FRAMES 1 c).perf 8 0x03
              | none => s.perf 8 0x03
            if tagErr then t.losePlace st else t.placeOn st (unitLen v)
          else ((s.placeOn st (unitLen v)).perf 8 0x02).tagFilter unit (s.streamCar st)

/-! The meanings -/

/-- DELINEATE_UNIT. -/
def execDelineateUnit (st : Nat) (s : State) : Host.Outcome State Fault Refusal := .next (delineateUnit st s)

end Sys2Proof.Machine
end

