-- ==== Sys2Proof/Machine/Bursts.lean ====
section
/-! DEFINITION. Commit, launch and end of bursts (R156 to R165), the burst guard (R168, R169), the gating of the transmit path
(R171), and the GRANTS entries of the calendar (R150, R154). -/

namespace Sys2Proof.Machine

/-! Conditions -/

/-- No burst of this grant may start now: it is HELD (R156). -/
def State.heldNow (s : State) (b : Nat) : Bool :=
  !s.ltIs ltLocked || s.on UPB_SILENCED || s.on FLT_SAFE || !s.on UPB_TX_EN || !s.kindOk (gKind b)

/-- NET of a burst in bytes (R159). -/
def netOf (blocks mask : Nat) : Nat := 1280 * blocks * popCount 16 mask

/-- The containers a burst of this grant can carry (R161). -/
def State.burstRoom (s : State) (b : Nat) : Nat :=
  if (gKind b == 0 || gKind b == 1) && !s.on LTM_FINE_RANGE_REQ then (netOf (s.blocksOf b) (gScmask b) - 64) / 16384 else 0

/-! The line format of a burst (R159 to R161) -/

/-- A list cut into pieces of `n`, the last one filled up with zeros, `k` pieces at most. -/
def pieces (n : Nat) : Nat → List Nat → List (List Nat)
  | 0, _ => []
  | k + 1, l =>
    let p := l.take n
    (p ++ List.replicate (n - p.length) 0) :: pieces n k (l.drop n)

/-- What the granted subcarriers send of a payload stream (R160, R161): zero bytes fill it up to NET, its blocks of 1,280 bytes are dealt to
the subcarriers in ascending order, and each is scrambled under its own seed; `sl` is SL of the grant. The parity bits and the fill after
the last block come from matrices and bits the spec does not give (R71). -/
def upLanes (mask sl blocks : Nat) (stream : List Nat) : List (Nat × List Nat) :=
  let scs := bitList 16 mask
  let all := pieces 1280 (blocks * scs.length) stream
  scs.zipIdx.map fun c =>
    (c.1, (List.range blocks).flatMap fun r =>
      scrambleBytes (scrSeed true c.1 sl r) ((all[r * scs.length + c.2]?).getD []))

/-- The instant at which the first symbol is handed over, so that it crosses the transmit reference plane at `l` (R37). -/
def State.startOf (s : State) (l : Nat) : Nat := l - s.rd LTM_FE_TX_LAT - s.rd LTM_DEV_TX_LAT

/-! Messages and reports -/

/-- Bytes of an upstream message (R119). -/
def UMsg.bytes (m : UMsg) : List Nat :=
  [m.code % 64, m.seq % 256, 0, 0, 0, 0, 0, 0] ++ m.body.flatMap (bytesBE 4)

/-- Whole messages from the head of the queue, at most `room` bytes of them, each queued 250 µs before `launch` (R127, R161). -/
def takeMsgs (launch : Nat) : Nat → List UMsg → List UMsg
  | _, [] => []
  | room, m :: t =>
    let n := 8 + 4 * m.body.length
    if n ≤ room && m.at_ + 250 * usTicks ≤ launch then m :: takeMsgs launch (room - n) t else []

/-- Allocation `al` takes part in the report rotation (R164). -/
def State.reportEn (s : State) (al : Nat) : Bool :=
  if al < 32 then bit (s.rd UPB_REPORT_EN_LO) al else bit (s.rd UPB_REPORT_EN_HI) (al - 32)

/-- One occupancy report (R164). -/
def State.report (s : State) (al : Nat) : Nat := 2 ^ 23 + al * 2 ^ 17 + satU 16 (s.heldOf al).length

/-- The allocations of REPORT1 to REPORT7 (R164). -/
def State.reported (s : State) (al : Nat) : List Nat :=
  (((List.range 64).map fun i => (s.up.rotPtr + i) % 64).filter fun a => a != al && s.reportEn a).take 7

/-- The eight reports of a header, as 192 bits (R163, R164). -/
def State.reports (s : State) (al : Nat) : Nat :=
  let l := (s.report al :: (s.reported al).map s.report)
  (l ++ List.replicate (8 - l.length) 0).foldl (fun a r => a * 2 ^ 24 + r) 0

/-- STATUS of a header (R165); the queue is what remains after this burst. -/
def State.burstStatus (s : State) : Nat :=
  b2n (s.on LTM_FINE_RANGE_REQ) + 2 * b2n s.up.wakeFlag + 4 * b2n (!s.up.umq.isEmpty) + 8 * b2n s.up.fullSeen
    + 16 * b2n s.up.eqdClip + 32 * b2n s.up.profile.isSome

/-- The 64 bytes of a burst header (R163). -/
def State.header (s : State) (b : Nat) (g : Int) (ccount words launch : Nat) : List Nat :=
  let body := bytesBE 60 (s.rd UPB_TID * 2 ^ 462 + gAlloc b * 2 ^ 456 + s.rd FKL_MEM_ID * 2 ^ 453 + gKind b * 2 ^ 450
    + discTimeAt g * 2 ^ 424 + gCrc b * 2 ^ 408 + ccount * 2 ^ 384 + words * 2 ^ 373 + s.burstStatus * 2 ^ 352
    + s.rd FRM_DEFECTS * 2 ^ 344 + s.reports (gAlloc b) * 2 ^ 152 + launch % 2 ^ 64 * 2 ^ 88 + s.up.discTime * 2 ^ 64
    + s.up.discCause * 2 ^ 61 + min 255 s.up.discN * 2 ^ 53)
  body ++ bytesBE 4 (crc32 body)

/-! The burst guard -/

/-- 4 ns in ticks, rounded down (R168). -/
def rampTicks : Nat := 262

/-- Slots of a discovery burst (R130). -/
def State.discSlots (s : State) : Nat := if 7168 ≤ s.symPerSlot then 1 else 2

/-- The windows loaded in the guard: start, end, subcarriers (R168). -/
def State.guardWindows (s : State) : List (Nat × Nat × Nat) :=
  (s.up.bursts.map fun b => (b.launch, b.launch + gLen b.bits * slotTicks, gScmask b.bits))
    ++ (s.join.wins.filterMap fun w => w.sc.map fun c => (w.launch, w.launch + s.discSlots * slotTicks, 2 ^ c))
    ++ s.join.sent.toList

/-- The guard trips (R169). -/
def State.trip (s : State) : State :=
  let t := ((s.assertTxdis.wr UPB_GUARD_TRIP 1).inc UPB_GUARD_TRIPS).raise 10 10
  t.fault cGuardTrip (srcRegion 9) 10

/-- Subcarriers `mask` lit at instant `t` offend the guard (R168). -/
def State.guardOffends (s : State) (t mask : Nat) : Bool :=
  let near (w : Nat × Nat × Nat) := decide (w.1 ≤ t + rampTicks) && decide (t ≤ w.2.1 + rampTicks)
  let lit := bitList 16 mask
  let ws := s.guardWindows
  lit.any (fun c => !ws.any fun w => near w && bit w.2.2 c)
    || (!lit.isEmpty && ws.any fun w => w.1 == t && (!s.ltIs ltLocked || s.on UPB_SILENCED || !s.on UPB_TX_EN))

/-- A window loaded meets a window loaded before (R168). -/
def State.windowClash (s : State) : Bool :=
  let ws := s.guardWindows
  (List.range ws.length).any fun i => (List.range i).any fun j =>
    match ws[i]?, ws[j]? with
    | some a, some b => decide (a.1 < b.2.1) && decide (b.1 < a.2.1)
    | _, _ => false

/-- The guard sees subcarriers `mask` lit at `t`, and trips when that offends (R168, R169). -/
def guardTrip (t mask : Nat) (s : State) : State :=
  let s := s.advance t
  if s.guardOffends t mask then s.trip else s

/-! Commit (R157) -/

/-- The open container is sealed for a grant that reaches its commit point (R211); where a seal was made in this cycle, that seal takes the
cause, and units that came in this cycle stay for the next. -/
def State.grantSeal (s : State) (b : Nat) : State :=
  let al := gAlloc b
  if !((gKind b == 0 || gKind b == 1) && s.on QSH_AL_SEAL_ON_GRANT al) then s
  else
    match s.sealedNow al with
    | some _ =>
      let own := match (s.asmOf al).sealed with
        | some (_, _, exp, some h) => b2n ((s.heldOf al).any fun c => c.handle == h && c.exp == exp)
        | _ => 0
      if (s.heldOf al).length - own < s.burstRoom b then s.addSealFlags al 8 else s
    | none =>
      if (s.heldOf al).length < s.burstRoom b then
        let a := s.asmOf al
        let due := s.rd QSH_AL_SEAL_TO al != 0 && decide (a.since + s.rd QSH_AL_SEAL_TO al * usTicks ≤ s.now)
        (s.sealOpen al (8 + 4 * b2n due)).takeAll al
      else s

/-- The burst of entry `i` is fixed (R157, R161 to R165). -/
def State.commit (s : State) (i : Nat) (e : Grant) : State :=
  let b := e.bits
  let al := gAlloc b
  let s := s.grantSeal b
  let launch := s.launchOf e.g
  let blocks := s.blocksOf b
  let n := min (s.heldOf al).length (s.burstRoom b)
  let cs := (s.heldOf al).take n
  let t := (s.setHeld al ((s.heldOf al).drop n)).inc64 QSH_AL_COMMITTED_LO QSH_AL_COMMITTED_HI n al
  let room := min 4096 (netOf blocks (gScmask b) - 64 - 16384 * n)
  let ms := takeMsgs launch room t.up.umq
  let t := { t with up := { t.up with umq := t.up.umq.drop ms.length } }
  let words := (ms.map fun m => 2 + m.body.length).foldl (· + ·) 0
  let hdr := t.header b e.g n words launch
  let rot := match (t.reported al).getLast? with
    | some a => (a + 1) % 64
    | none => t.up.rotPtr
  let burst : Burst := { entry := i, g := e.g, bits := b, hdr := hdr, conts := cs, msgs := ms, epoch := t.upEpoch
                         key := leSlot t.upEntry, pre := t.preSymbols (gPre b), blocks := blocks, launch := launch, inAir := false }
  let t := { t with up := { t.up with bursts := t.up.bursts ++ [burst], discN := 0, discTime := 0, discCause := 0, fullSeen := false
                                      eqdClip := false, wakeFlag := false, rotPtr := rot } }.readMore
  let t := match nextOccurrence e e.g with
    | some e' => t.setCal (amSet t.up.cal i e')
    | none => t.setCal (amSet t.up.cal i { e with est := 2 })
  let t := t.drainPush.perf 10 0x03
  if t.windowClash then t.trip else t

/-- The commit point of calendar entry `i` is reached (R156, R157, R167). -/
def burstCommit (i : Nat) (s : State) : State :=
  match amGet? s.up.cal i with
  | none => s
  | some e =>
    if e.est != 1 then s
    else
      let s := s.advance (s.commitOf e.bits e.g).toNat
      if s.heldNow e.bits then (s.discard UPB_GR_HELD 6 (discTimeAt e.g)).passOccurrence i e
      else if s.blocksOf e.bits == 0 then (s.discard UPB_GR_FORMAT 4 (discTimeAt e.g)).passOccurrence i e
      else s.commit i e

/-! Launch (R158) -/

/-- A burst that may start ramps up: its launch lies within 4 ns ahead (R158). -/
def State.rampingUp (s : State) : Bool :=
  let near (l : Nat) : Bool := decide (s.now < l) && decide (l ≤ s.now + rampTicks)
  (s.up.bursts.any fun b => !b.inAir && near b.launch && !s.heldNow b.bits)
    || (s.mode == .join && s.rd UPB_JOIN_STATE == 1 && s.launchOk && s.join.wins.any fun w => near w.launch)

/-- The burst with launch `l` becomes `f` of it. -/
def State.mapBurst (s : State) (l : Nat) (f : Burst → Burst) : State :=
  { s with up := { s.up with bursts := s.up.bursts.map fun b => if b.launch == l then f b else b } }

/-- A table that was full has room again: reads, takes and a window read that waited for it go on (R240). -/
def State.openMore (s : State) : State :=
  let t := s.readMore
  let t := (State.serveWaiters 64 (State.serveWaiters 64 t false) true)
  if t.on CAV_WIN_GO && !t.openFull then t.windowRead else t

/-- The next committed burst reaches its launch (R156, R158). -/
def burstLaunch (s : State) : State :=
  match minList ((s.up.bursts.filter fun b => !b.inAir).map Burst.launch) with
  | none => s
  | some l =>
    match s.up.bursts.find? fun b => b.launch == l && !b.inAir with
    | none => s
    | some b =>
      let s := s.advance l
      if s.heldNow b.bits then
        let t := (s.returnBurst b).discard UPB_GR_HELD 6 (discTimeAt b.g)
        let t := { t with up := { t.up with bursts := t.up.bursts.filter fun x => x.launch != l } }
        (t.burstGone b).when_ s.openFull State.openMore
      else
        let keys := [(0, (amGet? s.cip.keys b.key).getD [])]
        let t := s.emit (.ramp (l - rampTicks) (gScmask b.bits &&& (0xFFFF ^^^ s.litMask)) true)
        let t := t.mapBurst l fun x => { x with inAir := true, upKeys := keys }
        let t := match amGet? t.up.cal b.entry with
          | some e => if e.est == 2 && e.g == b.g then t.setCal (amSet t.up.cal b.entry { e with est := 3 }) else t
          | none => t
        let t := ((t.wr UPB_TX_LIT 1).inc UPB_BURSTS).inc UPB_BALLAST (b2n (gKind b.bits == 4))
        t.raise 10 13

/-! End (R158, R244, R251) -/

/-- The key that serves container `i` of a burst (R263): the last one taken up by then. -/
def Burst.keyOf (b : Burst) (i : Nat) : List Nat :=
  (b.upKeys.filter fun k => decide (k.1 ≤ i)).foldl (fun _ k => k.2) []

/-- A container that cannot be sent as stored: zero bytes and an inverted tag (R251). -/
def State.zeroContainer (s : State) (epoch : Nat) (key : List Nat) : List Nat × State :=
  let z := List.replicate 16368 0
  if epoch != 0 && key.isEmpty then
    let (a, t) := s.fresh
    let (c, t) := t.fresh
    (z ++ bytesBE 8 a ++ bytesBE 8 c, t)
  else
    let mk := if epoch == 0 then List.replicate 16 0 else macKey key
    (z ++ (aesCmac mk z).map (255 - ·), s)

/-- Container `i` of a burst as sent, and the state after it: a late one is counted, and one that finds its slot EMPTY is
aborted (R251, R254, R263). -/
def State.sendContainer (s : State) (b : Burst) (late : List Nat) (i : Nat) : List Nat × State :=
  let key := b.keyOf i
  let t := if late.contains i then (s.inc CAV_READ_LATE).fault cReadLate (srcRegion 13) 16 else s
  let t := if b.epoch != 0 && key.isEmpty then t.keyAbort else t
  if late.contains i || b.bad.contains i || (b.epoch != 0 && key.isEmpty) then
    ((t.inc CAV_POISON_SENT).raise 16 6).zeroContainer b.epoch key
  else (lineContainer (if b.epoch == 0 then none else some key) b.epoch ((amGet? b.data i).getD []), t)

/-- The containers of a burst as sent: one whose read has not been made is late as well (R240, R254). -/
def State.sendAll (s : State) (b : Burst) (late : List Nat) : List Nat × State :=
  let late := ((List.range b.conts.length).filter fun i => !b.bad.contains i && (amGet? b.data i).isNone) ++ late
  (List.range b.conts.length).foldl (fun (a : List Nat × State) i =>
    let (x, t) := a.2.sendContainer b late i
    (a.1 ++ x, t)) ([], s)

/-- The light of a burst is out, its ramp included (R158): the subcarriers of `mask` that no abutting burst keeps lit are dark, TX_LIT and
TXDIS_N follow (R478). -/
def State.lightOut (s : State) (launch d mask : Nat) : State :=
  let t := (s.emit (.burstEnd launch false)).emit (.ramp (d + rampTicks) (mask &&& (0xFFFF ^^^ s.litMask)) false)
  let t := { t with up := { t.up with lastEnd := some t.now } }
  (t.wr UPB_TX_LIT (b2n t.inAir)).updTxdis

/-- The discovery burst in the air ends (R130, R158). -/
def State.discoveryEnd (s : State) : State :=
  match s.up.disc with
  | none => s
  | some (l, d, m) =>
    let t := s.advance (d + rampTicks)
    { t with up := { t.up with disc := none } }.lightOut l d m

/-- A burst of the calendar ends (R158, R244). -/
def State.endBurst (s : State) (b : Burst) (d : Nat) (late : List Nat) : State :=
  let s := s.advance (d + rampTicks)
  let full := s.openFull
  let (body, t) := s.sendAll b late
  let stream := b.hdr ++ b.msgs.flatMap UMsg.bytes ++ body
  let t := t.emit (.burst b.launch (s.startOf b.launch) b.bits (preamble b.pre) (upLanes (gScmask b.bits) (gSl b.bits) b.blocks stream))
  let t := { t with up := { t.up with bursts := t.up.bursts.filter fun x => !(x.inAir && x.launch == b.launch) } }
  let t := (t.burstGone b).lightOut b.launch d (gScmask b.bits)
  let t := t.inc64 UPB_CONT_SENT_LO UPB_CONT_SENT_HI b.conts.length
  let t := b.conts.foldl (fun u c => (u.perf 10 0x04).retire (gAlloc b.bits) c) t
  t.when_ full State.openMore

/-- The burst in the air that ends first ends (R130, R158); `late` names containers that were not ready when the framer needed them
(R254). -/
def burstEnd (late : List Nat) (s : State) : State :=
  match minList ((s.up.bursts.filter Burst.inAir).map fun b => b.launch + gLen b.bits * slotTicks) with
  | none => s.discoveryEnd
  | some d =>
    if s.up.disc.any fun x => decide (x.2.1 < d) then s.discoveryEnd
    else
      match s.up.bursts.find? fun b => b.inAir && b.launch + gLen b.bits * slotTicks == d with
      | none => s
      | some b => s.endBurst b d late

/-! The transmit path (R171) -/

/-- The launches and openings ahead (R171). -/
def State.launchesAhead (s : State) : List Nat :=
  ((s.up.cal.filter fun e => e.2.est == 1).map fun e => s.launchOf e.2.g) ++ s.guardWindows.map Prod.fst

/-- A launch or window comes within 1 ms: the path is ungated (R171). -/
def txPathUngate (s : State) : State :=
  match minList (s.launchesAhead.filter fun l => decide (s.now ≤ l)) with
  | none => s
  | some l => (s.advance (l - msTicks)).wr UPB_TX_GATED 0

/-- No launch or window lies within 1 ms, and nothing is in the air: the path is gated (R171). -/
def txPathGate (s : State) : State :=
  if s.inAir || s.launchesAhead.any fun l => decide (s.now ≤ l) && decide (l ≤ s.now + msTicks) then s
  else s.wr UPB_TX_GATED 1

/-! Grant entries -/

/-- Entry `i` of a GRANTS record in stream order (R104, R107): the record is met with its first entry, and the place moves past it with its
last. An entry whose 16 bytes hold no errored bit is used whatever the body's CRC-32; the record counts by that. A record not addressed to
the terminal is passed over whole. Bytes after the last whole entry are no entry (DEDUCED, log 180). -/
def State.grantInRecord (s : State) (r : Rec) (i : Nat) (f : Nat → State → State) : State :=
  let n := recLen r / 16
  let bits128 := ofBytesBE ((r.body.drop (16 * i)).take 16)
  let clean := !r.errs.any fun e => decide (8 + 16 * i ≤ e) && decide (e < 24 + 16 * i)
  let finish (t : State) := { t with rx := { t.rx with grants := 0 } }
  if !s.parserOn || recType r != 4 || i != s.rx.grants then s
  else
    let s := if i == 0 then s.meetPtr else s
    match (s.chain ctlStream).place with
    | none => s
    | some p =>
      let step (t : State) : State := t.mapChain ctlStream fun x => { x with place := some (recEnd p r) }
      if s.ctlBytes ≤ p then s
      else if i == 0 && !recHeadOk r then s.badHeader
      else if i == 0 && decide (s.ctlBytes < recEnd p r) then s.crossing
      else if i == 0 && !s.addressed (recTid r) then (step s).recMet false
      else
        let t := if i < n && clean then f bits128 s else s
        if i + 1 < n then { t with rx := { t.rx with grants := i + 1 } }
        else
          let t := finish (step t)
          (if recBodyOk r then t.recOk else t.recDiscard).recMet false

/-- Entry `i` of a GRANTS record that is not a CANCEL (R150). -/
def grantEntry (r : Rec) (i : Nat) (s : State) : State :=
  if gCancel (ofBytesBE ((r.body.drop (16 * i)).take 16)) then s else s.grantInRecord r i fun b t => t.grant b

/-- Entry `i` of a GRANTS record with CANCEL set (R154). -/
def grantCancel (r : Rec) (i : Nat) (s : State) : State :=
  if gCancel (ofBytesBE ((r.body.drop (16 * i)).take 16)) then s.grantInRecord r i fun b t => t.grant b else s

/-! The meanings -/

/-- GRANT_ENTRY. -/
def execGrantEntry (r : Rec) (i : Nat) (s : State) : Host.Outcome State Fault Refusal := .next (grantEntry r i s)
/-- GRANT_CANCEL. -/
def execGrantCancel (r : Rec) (i : Nat) (s : State) : Host.Outcome State Fault Refusal := .next (grantCancel r i s)
/-- BURST_COMMIT. -/
def execBurstCommit (i : Nat) (s : State) : Host.Outcome State Fault Refusal := .next (burstCommit i s)
/-- BURST_LAUNCH. -/
def execBurstLaunch (s : State) : Host.Outcome State Fault Refusal := .next (burstLaunch s)
/-- BURST_END. -/
def execBurstEnd (late : List Nat) (s : State) : Host.Outcome State Fault Refusal := .next (burstEnd late s)
/-- GUARD_TRIP. -/
def execGuardTrip (t mask : Nat) (s : State) : Host.Outcome State Fault Refusal := .next (guardTrip t mask s)
/-- TX_PATH_UNGATE. -/
def execTxPathUngate (s : State) : Host.Outcome State Fault Refusal := .next (txPathUngate s)
/-- TX_PATH_GATE. -/
def execTxPathGate (s : State) : Host.Outcome State Fault Refusal := .next (txPathGate s)

end Sys2Proof.Machine
end

