-- ==== Sys2Proof/Machine/Join.lean ====
section
/-! DEFINITION. Line messages and joining (chapter 05, R119 to R146): judging a message, the hardware messages of joining, ranging,
silence and groups, the host mailboxes, and the join state machine. -/

namespace Sys2Proof.Machine

/-! Judging a message (R119 to R124) -/

/-- Message codes (R124). -/
def mLineParams : Nat := 0x01
def mDiscoveryOpen : Nat := 0x02
def mAssignId : Nat := 0x03
def mRangeResult : Nat := 0x04
def mEqdAdjust : Nat := 0x05
def mProfileSet : Nat := 0x06
def mKeyEpoch : Nat := 0x07
def mSilence : Nat := 0x08
def mRelease : Nat := 0x09
def mDeregister : Nat := 0x0A
def mGrazeAck : Nat := 0x0B
def mOamTunnel : Nat := 0x0C
def mTimeInfo : Nat := 0x0D
def mStackMap : Nat := 0x0E
def mAsymSet : Nat := 0x0F
def mGroupSet : Nat := 0x10

/-- The message of a MESSAGE record (R119): an 8-byte header, and the rest of the record's body. -/
def msgOf (r : Rec) : Msg :=
  let h := ofBytesBE (r.body.take 8)
  { code := bits h 63 56, seq := bits h 55 48, eff := bit h 47, effWord := bits h 31 0, tid := recTid r, body := r.body.drop 8 }

/-- Word `k` of a message body (R125). -/
def msgWord (m : Msg) (k : Nat) : Nat := ofBytesBE ((m.body.drop (4 * k)).take 4)

/-- The rule of R124 for a code: body length, whether EFF is allowed (1) or required (2), whether the own TID alone (0), broadcast
alone (1) or any addressee (2) is listed, and whether a response is due. -/
structure MsgRule where
  lo : Nat
  hi : Nat
  eff : Nat
  kind : Nat
  resp : Bool
deriving DecidableEq, Repr

/-- R124, by code. -/
def msgRule (code : Nat) : MsgRule :=
  match code with
  | 0x01 => ⟨16, 16, 1, 1, false⟩
  | 0x02 => ⟨16, 16, 0, 1, false⟩
  | 0x03 => ⟨16, 16, 0, 1, true⟩
  | 0x04 => ⟨8, 8, 0, 0, true⟩
  | 0x05 => ⟨4, 4, 0, 0, false⟩
  | 0x06 => ⟨28, 28, 1, 0, true⟩
  | 0x07 => ⟨8, 260, 1, 0, true⟩
  | 0x08 => ⟨4, 4, 0, 2, false⟩
  | 0x09 => ⟨0, 0, 0, 2, true⟩
  | 0x0A => ⟨4, 4, 0, 0, false⟩
  | 0x0B => ⟨4, 4, 2, 0, false⟩
  | 0x0C => ⟨4, 1024, 0, 0, true⟩
  | 0x0D => ⟨16, 16, 1, 1, false⟩
  | 0x0E => ⟨36, 36, 0, 0, true⟩
  | 0x0F => ⟨4, 4, 0, 0, true⟩
  | _ => ⟨4, 260, 1, 0, true⟩

/-- The fields of a PROFILE_SET lie in their ranges (R166). -/
def profileOk (m : Msg) : Bool :=
  let cd := toS 18 (bits (msgWord m 0) 31 14)
  let fr := toS 10 (bits (msgWord m 1) 31 22)
  let pw := toS 10 (bits (msgWord m 1) 21 12)
  decide (-80000 ≤ cd) && decide (cd ≤ 80000) && decide (-500 ≤ fr) && decide (fr ≤ 500) && decide (-100 ≤ pw) && decide (pw ≤ 30)
    && ((m.body.drop 8).take 16).all fun b => decide (-60 ≤ toS 8 b) && decide (toS 8 b ≤ 60)

/-- The body fields lie in the ranges of R125 (R121). -/
def msgFieldsOk (m : Msg) (code : Nat) : Bool :=
  match code with
  | 0x01 => decide (60000 ≤ bits (msgWord m 2) 31 14) && decide (bits (msgWord m 2) 31 14 ≤ 150000)
              && decide (1 ≤ bits (msgWord m 3) 31 16) && decide (bits (msgWord m 3) 31 16 ≤ 30000)
  | 0x02 => decide (1 ≤ bits (msgWord m 3) 31 24) && decide (bits (msgWord m 0) 27 21 ≤ 124) && decide (bits (msgWord m 0) 14 8 ≤ 124)
              && decide (1 ≤ bits (msgWord m 1) 31 16)
  | 0x03 => decide (bits (msgWord m 2) 31 14 ≤ 249999)
  | 0x04 => bits (msgWord m 0) 31 30 != 3
  | 0x07 => decide (1 ≤ msgWord m 0 % 256) && decide (msgWord m 0 % 256 ≤ 64) && m.body.length == 4 + 4 * (msgWord m 0 % 256)
  | 0x0B => decide (bits (msgWord m 0) 31 30 ≤ 1) && decide (1 ≤ bits (msgWord m 0) 29 19) && decide (bits (msgWord m 0) 29 19 ≤ 1024)
  | 0x0D => bits (msgWord m 2) 31 30 != 3
  | 0x10 => decide (msgWord m 0 % 256 ≤ 64) && m.body.length == 4 + 4 * (msgWord m 0 % 256)
              && (List.range (msgWord m 0 % 256)).all fun i =>
                   decide (250000 ≤ msgWord m (i + 1) % 2 ^ 18) && decide (msgWord m (i + 1) % 2 ^ 18 ≤ 262142)
  | _ => true

/-- A message is in the format of R121. -/
def State.msgFormatOk (s : State) (code : Nat) (m : Msg) : Bool :=
  let r := msgRule code
  decide (r.lo ≤ m.body.length) && decide (m.body.length ≤ r.hi) && m.body.length % 4 == 0
    && (!m.eff || (r.eff != 0 && decide (bits m.effWord 27 21 ≤ 124))) && (m.eff || r.eff != 2)
    && (r.kind == 2 || (r.kind == 0 && s.ownTid m.tid) || (r.kind == 1 && m.tid == broadcastTid))
    && msgFieldsOk m code

/-- The last SEQ acted on (R120). -/
def State.keptIs (s : State) (own : Bool) (code seq : Nat) : Bool := amGet? s.join.kept (keptKey own code) == some seq

/-- The SEQ of a message is kept, and any earlier response forgotten (R120). -/
def State.keep (s : State) (own : Bool) (code seq : Nat) : State :=
  { s with join := { s.join with kept := amSet s.join.kept (keptKey own code) seq, resp := amDel s.join.resp (keptKey own code) } }

/-- A duplicate (R120): counted, and its response queued once more. -/
def State.duplicate (s : State) (own : Bool) (code : Nat) : State :=
  let t := s.inc UPB_MSG_DUP
  match amGet? t.join.resp (keptKey own code) with
  | some r => t.queueMsg r.code r.body
  | none => t

/-- A discarded message is counted and, when it was addressed to the own TID, answered (R121). -/
def State.msgBad (s : State) (f : Fld) (own : Bool) (code seq status : Nat) : State :=
  let t := s.inc f
  if own then t.ack code seq status 0 else t

/-- A message's boundary is the one that ends its multiframe, or an earlier one (R121). -/
def State.msgLate (s : State) (m : Msg) : Bool :=
  m.eff && match s.effBoundary m.effWord with
           | some b => decide (b ≤ s.mfEnd)
           | none => true

/-- A MESSAGE record in stream order (R104): one not addressed to the terminal is skipped, one with a bad body is discarded. -/
def State.msgRecord (s : State) (r : Rec) (f : State → State) : State := s.recFor 5 r fun t => f t.recOk

/-- The same for a record that carries a message of code `code`. -/
def State.codeRecord (s : State) (code : Nat) (r : Rec) (f : Msg → State → State) : State :=
  if recLen r < 8 || (msgOf r).code != code then s else s.msgRecord r (f (msgOf r))

/-- A hardware message of code `code` whose record is good (R120 to R122): it is judged, and acts, or is held for its boundary; either way it
replaces a message of its code that waits (R121). `arm` is what happens at once to a message held for its boundary. -/
def State.judgeMsg (s : State) (code : Nat) (m : Msg) (act arm : Bool → State → State) : State :=
  let own := s.ownTid m.tid
  if !s.msgFormatOk code m then s.msgBad UPB_MSG_BAD own code m.seq ackBadFormat
  else if s.keptIs own code m.seq then s.duplicate own code
  else if s.msgLate m then
    let t := s.inc UPB_MSG_LATE
    if (msgRule code).resp then t.ack code m.seq ackLate 0 else t
  else
    let t := s.keep own code m.seq
    match m.eff, s.effBoundary m.effWord with
    | true, some b => arm own { t with join := { t.join with pend := amSet t.join.pend code (b, own, m) } }
    | _, _ => act own ({ t with join := { t.join with pend := amDel t.join.pend code } }.inc UPB_MSG_OK)

/-- A MESSAGE record with a hardware message of code `code` (R119 to R122). -/
def State.message (s : State) (code : Nat) (r : Rec) (act arm : Msg → Bool → State → State) : State :=
  s.codeRecord code r fun m t => t.judgeMsg code m (act m) (arm m)

/-! Host messages and the mailboxes (R123, R127, R145) -/

/-- Word `w` of inbound slot `n` (R145). -/
def inWord (n w : Nat) : Nat := n * 512 + w

/-- A host message enters the inbound mailbox, or is discarded when that is full (R123). -/
def State.deliver (s : State) (code : Nat) (m : Msg) (own : Bool) : State :=
  if 8 ≤ s.rd UPB_IN_COUNT then s.inc UPB_MBOX_FULL
  else
    let s := s.keep own code m.seq
    let n := (s.rd UPB_IN_HEAD + s.rd UPB_IN_COUNT) % 8
    let t := s.wr UPB_IN_SLOT (code * 2 ^ 24 + m.seq % 256 * 2 ^ 16 + m.body.length) (inWord n 0)
    let t := t.wr UPB_IN_SLOT t.lt32 (inWord n 1)
    let t := t.wr UPB_IN_SLOT (m.tid % 2 ^ 18 + b2n m.eff * 2 ^ 31) (inWord n 2)
    let t := t.wr UPB_IN_SLOT (if m.eff then m.effWord else 0) (inWord n 3)
    let t := (List.range (m.body.length / 4)).foldl (fun u k => u.wr UPB_IN_SLOT (msgWord m k) (inWord n (4 + k))) t
    let h : HostMsg := { code := code, seq := m.seq, own := own, deadline := t.now + 20 * msTicks, late := false, answer := none }
    let old := t.join.host.filter fun x => !(x.code == code && x.own == own && x.answer.isSome)
    let t := { t with join := { t.join with host := old ++ [h] } }
    (((t.wr UPB_IN_COUNT (t.rd UPB_IN_COUNT + 1)).inc UPB_MSG_OK)).raise 10 5

/-- A duplicate of a host message: answered again when the host has answered it (R123). -/
def State.hostDuplicate (s : State) (code seq : Nat) (own : Bool) : State :=
  let t := s.inc UPB_MSG_DUP
  match t.join.host.find? fun x => x.code == code && x.own == own && x.seq == seq with
  | some { answer := some a, .. } => t.queueMsg a.code a.body
  | _ => t

/-- A MESSAGE record with a host message (R121, R123). -/
def State.hostMessage (s : State) (code : Nat) (r : Rec) : State :=
  s.codeRecord code r fun m s =>
    let own := s.ownTid m.tid
    if !s.msgFormatOk code m then s.msgBad UPB_MSG_BAD own code m.seq ackBadFormat
    else if s.keptIs own code m.seq then s.hostDuplicate code m.seq own
    else if s.msgLate m then (s.inc UPB_MSG_LATE).ack code m.seq ackLate 0
    else s.deliver code m own

/-- KEY_EPOCH (R124, R268). -/
def keyEpoch (r : Rec) (s : State) : State := s.hostMessage mKeyEpoch r

/-- OAM_TUNNEL (R123). -/
def oamTunnel (r : Rec) (s : State) : State := s.hostMessage mOamTunnel r

/-- ASYM_SET (R124, R292). -/
def asymSet (r : Rec) (s : State) : State := s.hostMessage mAsymSet r

/-- A message with a reserved or upstream code (R121), or a MESSAGE record too short for a header (R119). -/
def unknownMessage (r : Rec) (s : State) : State :=
  let m := msgOf r
  if recLen r < 8 then s.msgRecord r fun t => t.inc UPB_MSG_BAD
  else if 1 ≤ m.code && m.code ≤ 0x10 then s
  else s.msgRecord r fun t => t.msgBad UPB_MSG_UNKNOWN (t.ownTid m.tid) m.code m.seq ackUnknown

/-- A host message reaches its deadline unanswered (R123): the one whose deadline comes first. -/
def hostLate (s : State) : State :=
  let open_ := s.join.host.filter fun h => h.answer.isNone && !h.late
  match minList (open_.map HostMsg.deadline) with
  | none => s
  | some d =>
    match open_.find? fun h => h.deadline == d with
    | none => s
    | some h =>
      let t := s.advance d
      let t := { t with join := { t.join with host := t.join.host.map fun x => if x == h then { x with late := true } else x } }
      (t.inc UPB_HOST_LATE).raise 10 6

/-- Write of IN_POP (R144). -/
def inPop (s : State) : State :=
  if s.rd UPB_IN_COUNT == 0 then s
  else (s.wr UPB_IN_COUNT (s.rd UPB_IN_COUNT - 1)).wr UPB_IN_HEAD ((s.rd UPB_IN_HEAD + 1) % 8)

/-- The host message a push answers (R123): the answer is stored. -/
def State.answer (s : State) (m : UMsg) : State :=
  let hit (h : HostMsg) : Bool :=
    h.answer.isNone && (if m.code == 0x20 then h.code == bits (m.body.headD 0) 31 24 && h.seq == bits (m.body.headD 0) 23 16
                        else h.code == mOamTunnel && h.own)
  match s.join.host.find? hit with
  | none => s
  | some h => { s with join := { s.join with host := s.join.host.map fun x => if x == h then { x with answer := some m } else x } }

/-- The next outbound slot that is not held (R127). -/
def State.nextOut (s : State) (n : Nat) : Nat :=
  (((List.range 8).map fun i => (n + 1 + i) % 8).find? fun k => !s.up.waitPush.contains k).getD n

/-- Write of OUT_PUSH (R123, R127, R144, R145). -/
def outPush (s : State) : State :=
  if s.rd UPB_OUT_FREE == 0 then s
  else
    let n := s.rd UPB_OUT_TAIL
    let h := s.rd UPB_OUT_SLOT (inWord n 0)
    let code := bits h 31 24
    let len := bits h 15 0
    let ok := len % 4 == 0 && ((code == 0x20 && len == 8) || (code == 0x22 && decide (4 ≤ len) && decide (len ≤ 1024)))
    if !ok then (s.wr UPB_OUT_REJECT 1).wr UPB_OUT_TAIL (s.nextOut n)
    else
      let body := (List.range (len / 4)).map fun w => s.rd UPB_OUT_SLOT (inWord n (4 + w))
      let t := s.answer { code := code, seq := 0, body := body, at_ := 0 }
      let t := { t with up := { t.up with waitPush := t.up.waitPush ++ [n] } }.wr UPB_OUT_FREE (t.rd UPB_OUT_FREE - 1)
      let t := t.drainPush
      t.wr UPB_OUT_TAIL (t.nextOut n)

/-! LINE_PARAMS and the join (R128 to R136) -/

/-- LINE_PARAMS in effect (R63, R81, R128, R133, R142, R144). -/
def State.actLineParams (s : State) (m : Msg) : State :=
  let id := msgWord m 0
  let t := if s.mode == .join && s.rd UPB_LINE_ID != id then s.joinFail 5
           else if s.on UPB_REGISTERED && s.rd UPB_LINE_ID != id then s.regLost 0xFE else s
  let p := [id, msgWord m 1, bits (msgWord m 2) 31 14, bits (msgWord m 2) 13 9, bits (msgWord m 3) 31 16]
  let t := { t with join := { t.join with params := some p } }
  let rate := bits (msgWord m 2) 31 14
  let t := if rate == t.rd LRX_SYM_RATE then t else (t.wr LRX_RS_EXPECT rate).changeRate rate
  let sc := bits (msgWord m 2) 13 9
  let t := (t.moveCtrl sc).raiseIf (sc != t.ctrlSc) 7 6
  if t.on UPB_REGISTERED then t.wr UPB_TRESP (msgWord m 1)
  else if t.mode == .join then t
  else t.wr UPB_LINE_ID id

/-- LINE_PARAMS (R125, R128). -/
def lineParams (r : Rec) (s : State) : State := s.message mLineParams r (fun m _ t => t.actLineParams m) fun _ _ t => t

/-- A write of JOIN_EN = 1 (R128). -/
def joinEnSet (s : State) : State := s.wr UPB_JOIN_EN 1

/-- A write of JOIN_EN = 0 (R133): outside a join it only clears the bit. -/
def joinAbort (s : State) : State := if s.mode == .join then s.joinFail 4 else s.wr UPB_JOIN_EN 0

/-- JOIN is entered once its conditions hold (R128, R132). -/
def joinEntry (s : State) : State :=
  match s.join.params with
  | some (id :: tresp :: _ :: _ :: span :: _) =>
    if s.mode == .listen && s.pwr.transit.isNone && s.on UPB_JOIN_EN && s.ltIs ltLocked then
      let seed := s.fuses.serial / 2 ^ 32 % 2 ^ 32 ^^^ s.fuses.serial % 2 ^ 32 ^^^ s.lt32
      let t := { s with join := { s.join with lfsr := if seed == 0 then 1 else seed, span := span, wins := [], skip := 0
                                              rangeDue := none } }
      ((((t.wr UPB_LINE_ID id).wr UPB_TRESP tresp).wr UPB_ATTEMPT 0).wr UPB_JOIN_STATE 1).setMode .join
    else s
  | _ => s

/-- One step of the generator (R132). -/
def lfsrStep (v : Nat) : Nat := if v / 2 ^ 31 % 2 == 1 then v * 2 % 2 ^ 32 ^^^ 0x00400007 else v * 2 % 2 ^ 32

/-- The state after `n` steps. -/
def lfsrSteps : Nat → Nat → Nat
  | 0, v => v
  | n + 1, v => lfsrSteps n (lfsrStep v)

/-- A draw scaled to `n` choices (R132). -/
def State.draw (s : State) (n : Nat) : Nat × State :=
  let v := lfsrSteps 32 s.join.lfsr
  (v * n / 2 ^ 32, { s with join := { s.join with lfsr := v } })

/-- The uncertainty band (R129). -/
def State.band (s : State) : Nat × Nat :=
  let h := s.rd UPB_DIST_HINT
  let t := s.rd UPB_DIST_TOL
  if h == 0xFFFF then (0, s.join.span) else (min s.join.span (h - t), min s.join.span (h + t))

/-- The stack members at the site (R130). -/
def State.siteMembers (s : State) : Nat :=
  if s.rd FKL_ROLE == 0 then 1 else 1 + popCount 8 (clrBit (s.rd FKL_REACH) (s.rd FKL_MEM_ID))

/-- The discovery record (R130). -/
def State.discRecord (s : State) (w : DiscWin) : List Nat :=
  let body := bytesBE 60 (s.fuses.serial % 2 ^ 64 * 2 ^ 416 + s.rd UPB_LINE_ID * 2 ^ 384 + s.rd UPB_DIST_HINT * 2 ^ 368
    + s.rd UPB_DIST_TOL * 2 ^ 352 + ofS 32 w.eqd * 2 ^ 320 + s.siteMembers * 2 ^ 316 + s.rd FKL_MEM_ID * 2 ^ 301
    + (s.rd UPB_ATTEMPT + 1) % 256 * 2 ^ 288 + w.launch % 2 ^ 64 * 2 ^ 224 + s.rd UPB_PREV_TID * 2 ^ 206
    + s.rd UPB_PREV_VALID * 2 ^ 205)
  body ++ bytesBE 4 (crc32 body)

/-- The window is taken: subcarrier draw and record (R129, R130, R132). -/
def State.drawWindow (s : State) (w : DiscWin) : DiscWin × State :=
  let l := bitList 16 w.mask
  let (j, t) := s.draw l.length
  ({ w with sc := some (l.getD j 0), record := s.discRecord w }, t)

/-- EqD_D (R129): 0.98 µs for each 0.1 km of D_MIN, rounded down to whole ticks. -/
def eqdD (tresp dmin : Nat) : Int := ((tresp : Int) * 100 - 6422528 * dmin) / 100

/-- DISCOVERY_OPEN in a join (R129, R131). -/
def State.actDiscoveryOpen (s : State) (m : Msg) : State :=
  let st := s.rd UPB_JOIN_STATE
  if s.mode != .join || !(st == 1 || st == 2 || st == 3) then s
  else
    let (lo, hi) := s.band
    let dmin := bits (msgWord m 2) 31 16
    let dmax := bits (msgWord m 2) 15 0
    let mask := bits (msgWord m 1) 15 0
    if !(decide (dmin ≤ lo) && decide (hi ≤ dmax) && mask != 0) then s
    else
      let eqd := eqdD (s.rd UPB_TRESP) dmin
      let w0 := msgWord m 0
      let g := resolveG s.now eqd (fieldTime (bits w0 31 28) (bits w0 27 21) (bits w0 20 15) (bits w0 14 8))
      let w : DiscWin := { g := g, wlen := bits (msgWord m 1) 31 16, w := bits (msgWord m 3) 31 24, mask := mask
                           launch := (g + eqd).toNat, eqd := eqd, sc := none, record := [] }
      let taken := decide (s.now + 250 * usTicks ≤ w.launch)
      let push (w : DiscWin) (t : State) : State := { t with join := { t.join with wins := t.join.wins ++ [w] } }
      if st == 1 then
        if !taken then s.inc UPB_DISC_SKIPPED
        else
          let (w, t) := s.drawWindow w
          let t := push w t
          if t.windowClash then t.trip else t
      else if !taken || (st == 2 && decide (w.launch < s.join.deadline)) then s
      else push w s

/-- DISCOVERY_OPEN (R125, R129). -/
def discoveryOpen (r : Rec) (s : State) : State := s.message mDiscoveryOpen r (fun m _ t => t.actDiscoveryOpen m) fun _ _ t => t

/-- The discovery burst starts (R130, R131). -/
def State.sendDiscovery (s : State) (w : DiscWin) : State :=
  let (w, t) := match w.sc with
    | some _ => (w, s)
    | none => s.drawWindow w
  let c := w.sc.getD 0
  let t := (t.inc UPB_DISC_SENT).wr UPB_ATTEMPT (t.rd UPB_ATTEMPT + 1)
  let d := (w.g + t.rd UPB_TRESP).toNat + w.wlen * slotTicks + 20 * msTicks
  let air := (w.launch, w.launch + t.discSlots * slotTicks, 2 ^ c)
  let t := { t with join := { t.join with w := w.w, deadline := d, sent := some air }, up := { t.up with disc := some air } }
  let blocks := (t.symPerSlot * t.discSlots - 4096) * 4 / 12288
  let sl := (w.g % frameTicks).toNat / slotTicks
  let t := t.emit (.ramp (w.launch - rampTicks) (2 ^ c) true)
  ((t.wr UPB_JOIN_STATE 2).wr UPB_TX_LIT 1).emit
    (.discovery w.launch (t.startOf w.launch) (preamble 4096) (upLanes (2 ^ c) sl blocks w.record))

/-- The launch of the next discovery window is reached (R129, R131). -/
def discoveryBurstStart (s : State) : State :=
  match minList (s.join.wins.map DiscWin.launch) with
  | none => s
  | some l =>
    match s.join.wins.find? fun w => w.launch == l with
    | none => s
    | some w =>
      let s := s.advance l
      let t := { s with join := { s.join with wins := s.join.wins.erase w } }
      let can := t.ltIs ltLocked && !t.on UPB_SILENCED && !t.on FLT_SAFE && t.on UPB_TX_EN
      if t.mode != .join then t
      else if t.rd UPB_JOIN_STATE == 3 then
        if !can then t
        else
          let k := t.join.skip - 1
          let t := { t with join := { t.join with skip := k } }
          if k == 0 then t.wr UPB_JOIN_STATE 1 else t
      else if t.rd UPB_JOIN_STATE == 1 then
        if can then t.sendDiscovery w else t.inc UPB_DISC_SKIPPED (b2n w.sc.isSome)
      else t

/-- The ASSIGN_ID deadline passes in SENT (R131, R133). -/
def discCollide (s : State) : State :=
  if s.mode != .join || s.rd UPB_JOIN_STATE != 2 then s
  else
    let t := ((s.advance s.join.deadline).inc UPB_DISC_COLLIDE).raise 10 7
    if t.rd UPB_JOIN_ATTEMPTS ≤ t.rd UPB_ATTEMPT then t.joinFail 1
    else
      let (k, t) := t.draw t.join.w
      let t := { t with join := { t.join with skip := k } }
      t.wr UPB_JOIN_STATE (if k == 0 then 1 else 3)

/-- RANGE_TIMEOUT starts afresh (R133). -/
def State.restartRange (s : State) : State :=
  { s with join := { s.join with rangeDue := some (s.now + s.rd UPB_RANGE_TIMEOUT * mfTicks) } }

/-- An EqD value waits for the next quiet frame boundary (R47). -/
def State.waitEqd (s : State) (v : Nat) (range : Bool) (seq : Nat) : State :=
  { s with time := { s.time with eqdLoad := some { value := v, range := range, seq := seq } } }

/-- ASSIGN_ID for the own serial in SENT, BACKOFF or ASSIGNED (R134). -/
def State.actAssignId (s : State) (m : Msg) : State :=
  let tid := bits (msgWord m 2) 31 14
  let t := { s with join := { s.join with wins := [], skip := 0 } }
  let t := ((t.wr UPB_TID tid).wr UPB_TID_VALID 1).ackKept false mAssignId m.seq ackOk tid
  ((t.waitEqd (msgWord m 3) false m.seq).restartRange).wr UPB_JOIN_STATE 4

/-- ASSIGN_ID (R120, R134). -/
def assignId (r : Rec) (s : State) : State :=
  s.codeRecord mAssignId r fun m s =>
    let st := s.rd UPB_JOIN_STATE
    if !s.msgFormatOk mAssignId m then s.msgBad UPB_MSG_BAD (s.ownTid m.tid) mAssignId m.seq ackBadFormat
    else if msgWord m 0 * 2 ^ 32 + msgWord m 1 != s.fuses.serial % 2 ^ 64 then s
    else if s.mode != .join || !(st == 2 || st == 3 || st == 4) then s.inc UPB_MSG_BAD
    else if s.keptIs false mAssignId m.seq then s.duplicate false mAssignId
    else ((s.keep false mAssignId m.seq).inc UPB_MSG_OK).actAssignId m

/-- RANGE_RESULT (R133, R135, R142). -/
def State.actRangeResult (s : State) (m : Msg) : State :=
  let joining := s.mode == .join && s.rd UPB_JOIN_STATE == 4
  if !joining && s.mode != .service then s
  else
    match bits (msgWord m 0) 31 30 with
    | 0 =>
      let t := s.waitEqd (msgWord m 1) true m.seq
      { t with join := { t.join with rangeDue := none } }
    | 1 =>
      let t := s.ackKept true mRangeResult m.seq ackOk 0
      if joining then t.restartRange else t
    | _ => if joining then s.joinFail 3 else s.regLost 0xFD

/-- RANGE_RESULT. -/
def rangeResult (r : Rec) (s : State) : State := s.message mRangeResult r (fun m _ t => t.actRangeResult m) fun _ _ t => t

/-- RANGE_TIMEOUT multiframes pass in ASSIGNED without OK (R133). -/
def rangeTimeout (s : State) : State :=
  match s.join.rangeDue with
  | none => s
  | some d =>
    if s.mode != .join || s.rd UPB_JOIN_STATE != 4 then s
    else
      let t := s.advance d
      let t := { t with join := { t.join with rangeDue := none } }
      if t.rd UPB_JOIN_ATTEMPTS ≤ t.rd UPB_ATTEMPT then t.joinFail 2
      else ((t.wr UPB_TID_VALID 0).inc UPB_RANGE_FAIL).wr UPB_JOIN_STATE 1

/-- EQD_PEND takes a correction, saturating at ±2^23 (R46); after a value that waits, it is kept for after the load (R47). -/
def State.actEqdAdjust (s : State) (m : Msg) : State :=
  let d := toS 24 (bits (msgWord m 0) 31 8)
  let sat (i : Int) := clampI (-8388608) 8388608 i
  let t := s.wrS LTM_EQD_PEND (sat (s.rdS LTM_EQD_PEND + d))
  match t.time.eqdLoad with
  | some e => { t with time := { t.time with eqdLoad := some { e with after := sat (e.after + d) } } }
  | none => t

/-- EQD_ADJUST (R46, R137). -/
def eqdAdjust (r : Rec) (s : State) : State := s.message mEqdAdjust r (fun m _ t => t.actEqdAdjust m) fun _ _ t => t

/-! Silence, release, deregistration, groups -/

/-- SILENCE (R140): it acts at the next frame boundary. -/
def silence (r : Rec) (s : State) : State :=
  s.message mSilence r (fun m _ t => { t with join := { t.join with acts :=
    t.join.acts ++ [.silence (bits (msgWord m 0) 31 16) (bits (msgWord m 0) 15 8)] } }) fun _ _ t => t

/-- RELEASE (R141): it acts at the next frame boundary. -/
def release (r : Rec) (s : State) : State :=
  s.message mRelease r (fun m own t => { t with join := { t.join with acts :=
    t.join.acts ++ [.release (if own then some m.seq else none)] } }) fun _ _ t => t

/-- A silence begins (R140). -/
def State.beginSilence (s : State) (duration cause : Nat) : State :=
  let e := if duration == 0 then none else some (s.now + duration * mfTicks)
  let t := { s with join := { s.join with silEnd := e } }
  ((((t.wr UPB_SILENCED 1).wr UPB_SILENCE_CAUSE cause).wr UPB_SILENCE_LEFT duration).updTxdis).raise 10 3

/-- A silence ends (R140, R141). -/
def State.endSilence (s : State) : State :=
  (({ s with join := { s.join with silEnd := none } }.wr UPB_SILENCED 0).wr UPB_SILENCE_LEFT 0).updTxdis

/-- A RELEASE acts (R141); one that falls in the cycle of a fatal fault leaves RELEASE_SEEN at 0 (R427). -/
def State.actRelease (s : State) (ack : Option Nat) : State :=
  let t := (if s.on UPB_SILENCED then s.endSilence else s).raise 10 4
  let t := if t.on FLT_SAFE && t.flt.fatalAt != some t.now then t.wr FLT_RELEASE_SEEN 1 else t
  match ack with
  | some q => t.ackKept true mRelease q ackOk 0
  | none => t

/-- What SILENCE and RELEASE do at a frame boundary, in stream order (R140, R141). -/
def State.lineActs (s : State) : State :=
  s.join.acts.foldl (fun t a => match a with
    | .silence d c => t.beginSilence d c
    | .release q => t.actRelease q) { s with join := { s.join with acts := [] } }

/-- A silence with a duration ends at the first frame boundary after it (R140). -/
def silenceExpiry (s : State) : State :=
  match s.join.silEnd with
  | none => s
  | some d => if s.on UPB_SILENCED then (s.advance (ceilDiv d frameTicks * frameTicks)).endSilence else s

/-- SILENCE_LEFT counts down (R140). -/
def State.showSilence (s : State) : State :=
  match s.join.silEnd with
  | some d => if s.on UPB_SILENCED then s.wr UPB_SILENCE_LEFT (ceilDiv (d - s.now) mfTicks) else s
  | none => s

/-- DEREGISTER (R133, R142). -/
def State.actDeregister (s : State) (m : Msg) : State :=
  let c := bits (msgWord m 0) 31 24
  if s.on UPB_REGISTERED then s.regLost c
  else if s.mode == .join && s.rd UPB_JOIN_STATE == 4 then (s.wr UPB_DEREG_CAUSE c).joinFail 7
  else s

/-- DEREGISTER. -/
def deregister (r : Rec) (s : State) : State := s.message mDeregister r (fun m _ t => t.actDeregister m) fun _ _ t => t

/-- The distinct groups a GROUP_SET lists (R125, R126). -/
def groupIds (m : Msg) : List Nat := ((List.range (msgWord m 0 % 256)).map fun i => msgWord m (i + 1) % 2 ^ 18).eraseDups

/-- The group memberships are replaced (R125). -/
def State.actGroupSet (s : State) (m : Msg) : State := { s with join := { s.join with groups := groupIds m } }

/-- GROUP_SET (R122, R125): it is acknowledged when it acts, or when its boundary is armed. -/
def groupSet (r : Rec) (s : State) : State :=
  let ack (m : Msg) (t : State) := t.ackKept true mGroupSet m.seq ackOk (groupIds m).length
  s.message mGroupSet r (fun m _ t => ack m (t.actGroupSet m)) fun m _ t => ack m t

/-! The meanings -/

/-- LINE_PARAMS. -/
def execLineParams (r : Rec) (s : State) : Host.Outcome State Fault Refusal := .next (lineParams r s)
/-- DISCOVERY_OPEN. -/
def execDiscoveryOpen (r : Rec) (s : State) : Host.Outcome State Fault Refusal := .next (discoveryOpen r s)
/-- ASSIGN_ID. -/
def execAssignId (r : Rec) (s : State) : Host.Outcome State Fault Refusal := .next (assignId r s)
/-- RANGE_RESULT. -/
def execRangeResult (r : Rec) (s : State) : Host.Outcome State Fault Refusal := .next (rangeResult r s)
/-- EQD_ADJUST. -/
def execEqdAdjust (r : Rec) (s : State) : Host.Outcome State Fault Refusal := .next (eqdAdjust r s)
/-- KEY_EPOCH. -/
def execKeyEpoch (r : Rec) (s : State) : Host.Outcome State Fault Refusal := .next (keyEpoch r s)
/-- SILENCE. -/
def execSilence (r : Rec) (s : State) : Host.Outcome State Fault Refusal := .next (silence r s)
/-- RELEASE. -/
def execRelease (r : Rec) (s : State) : Host.Outcome State Fault Refusal := .next (release r s)
/-- DEREGISTER. -/
def execDeregister (r : Rec) (s : State) : Host.Outcome State Fault Refusal := .next (deregister r s)
/-- OAM_TUNNEL. -/
def execOamTunnel (r : Rec) (s : State) : Host.Outcome State Fault Refusal := .next (oamTunnel r s)
/-- ASYM_SET. -/
def execAsymSet (r : Rec) (s : State) : Host.Outcome State Fault Refusal := .next (asymSet r s)
/-- GROUP_SET. -/
def execGroupSet (r : Rec) (s : State) : Host.Outcome State Fault Refusal := .next (groupSet r s)
/-- UNKNOWN_MESSAGE. -/
def execUnknownMessage (r : Rec) (s : State) : Host.Outcome State Fault Refusal := .next (unknownMessage r s)
/-- HOST_LATE. -/
def execHostLate (s : State) : Host.Outcome State Fault Refusal := .next (hostLate s)
/-- IN_POP. -/
def execInPop (s : State) : Host.Outcome State Fault Refusal := .next (inPop s)
/-- OUT_PUSH. -/
def execOutPush (s : State) : Host.Outcome State Fault Refusal := .next (outPush s)
/-- JOIN_EN_SET. -/
def execJoinEnSet (s : State) : Host.Outcome State Fault Refusal := .next (joinEnSet s)
/-- JOIN_ABORT. -/
def execJoinAbort (s : State) : Host.Outcome State Fault Refusal := .next (joinAbort s)
/-- JOIN_ENTRY. -/
def execJoinEntry (s : State) : Host.Outcome State Fault Refusal := .next (joinEntry s)
/-- DISCOVERY_BURST_START. -/
def execDiscoveryBurstStart (s : State) : Host.Outcome State Fault Refusal := .next (discoveryBurstStart s)
/-- DISC_COLLIDE. -/
def execDiscCollide (s : State) : Host.Outcome State Fault Refusal := .next (discCollide s)
/-- RANGE_TIMEOUT. -/
def execRangeTimeout (s : State) : Host.Outcome State Fault Refusal := .next (rangeTimeout s)
/-- SILENCE_EXPIRY. -/
def execSilenceExpiry (s : State) : Host.Outcome State Fault Refusal := .next (silenceExpiry s)

end Sys2Proof.Machine
end

