-- ==== Sys2Proof/Machine/Serial.lean ====
section
/-! DEFINITION. The serial lanes (R373 to R381): the reference monitor, transmit taps, adaptation and retraining, sleep, test
patterns and error injection. -/

namespace Sys2Proof.Machine

/-! The reference (R374) -/

/-- One measurement of SREF, in 0.1 ppm, and whether it moved by more than 20 ppm within the window. -/
def refMonitor (ppm : Int) (moved : Bool) (s : State) : State :=
  if s.dark then s
  else
    let t := s.wrS SER_REF_PPM (satS 16 ppm)
    if decide (1000 < ppm) || decide (ppm < -1000) || moved then
      let u := { t with pk := { t.pk with refAt := t.now } }
      if u.on SER_REF_BAD then u
      else (((u.wr SER_REF_BAD 1).raise 36 0).fault cRefBad (srcRegion 11) 36).fault cRefBad (srcRegion 15) 36
    else if t.on SER_REF_BAD && decide (t.pk.refAt + sfTicks ≤ t.now) then t.wr SER_REF_BAD 0
    else t

/-! Transmit equalisation (R375) -/

/-- A tap set that R375 allows: the pre-cursor and the post-cursor. -/
def tapsOk (pre post : Int) : Bool :=
  decide (-16 ≤ pre) && decide (pre ≤ 0) && decide (-24 ≤ post) && decide (post ≤ 0) && decide (-24 ≤ pre + post)

/-- PRE, POST and AMP of lane `l` are written with these field values: a tap set that is reserved is kept out (R15). -/
def txEqWrite (l pre post amp : Nat) (s : State) : State :=
  if 24 ≤ l then s
  else
    let t := s.wr SER_L_AMP amp l
    if tapsOk (toS 6 pre) (toS 6 post) then
      ((t.wr SER_L_PRE pre l).wr SER_L_POST post l).wr SER_L_MAIN (64 + toS 6 pre + toS 6 post).toNat l
    else t

/-! Adaptation (R377) -/

/-- A retrain of lane `l` begins. -/
def State.startRetrain (s : State) (l : Nat) : State :=
  let t := s.setSer l { s.ser l with retry := none }
  ((t.wr SER_L_ADAPT_STATE adRetrain l).raise 36 2).laneChanged l

/-- Lane `l` is to retrain: a client lane asks for leave first and asks again 10 ms after a refusal; a Fenkai lane asks none. -/
def State.askRetrain (s : State) (l : Nat) : State :=
  if s.rd SER_L_ADAPT_STATE l != adTrack then s.setSer l { s.ser l with retry := none }
  else if 16 ≤ l then s.startRetrain l
  else
    match s.askLeave ⟨lcPhy, 150, 11, l⟩ with
    | (true, t) => t.startRetrain l
    | (false, t) =>
      ((t.inc SER_RT_REFUSED).raise 36 5).setSer l { t.ser l with retry := some (t.now + 10 * msTicks) }

/-- RETRAIN written 1. -/
def retrain (l : Nat) (s : State) : State := if 24 ≤ l then s else s.askRetrain l

/-- RX_SNR has lain at `snr` for 10 ms: below RETRAIN_SNR, which is not 0, the lane retrains. -/
def retrainSnrTrigger (l snr : Nat) (s : State) : State :=
  if 24 ≤ l || !s.on SER_L_RX_AWAKE l then s
  else
    let t := s.wr SER_L_RX_SNR (satU 16 snr) l
    if satU 16 snr < t.rd SER_L_RETRAIN_SNR l then t.askRetrain l else t

/-- A refused retrain asks again. -/
def rtRefusedRetry (l : Nat) (s : State) : State :=
  match (s.ser l).retry with
  | none => s
  | some d => (s.advance d).askRetrain l

/-- RX_FREEZE of lane `l` is written. -/
def rxFreezeWrite (l : Nat) (v : Bool) (s : State) : State :=
  if 24 ≤ l then s
  else
    let t := s.flag SER_L_RX_FREEZE v l
    if v && t.rd SER_L_ADAPT_STATE l == adTrack then t.wr SER_L_ADAPT_STATE adFrozen l
    else if !v && t.rd SER_L_ADAPT_STATE l == adFrozen then (t.wr SER_L_ADAPT_STATE adTrack l).raise 36 1
    else t

/-- Adaptation of lane `l` completes at an SNR in 0.1 dB and a CTLE setting in dB. -/
def adaptDone (l snr ctle : Nat) (s : State) : State :=
  let a := s.rd SER_L_ADAPT_STATE l
  let re := a == adRetrain
  if 24 ≤ l || !((a == adCold || a == adWarm) && s.on SER_L_SIG_DET l || re) then s
  else
    let t := ((s.wr SER_L_ADAPT_STATE adTrack l).wr SER_L_RX_SNR (satU 16 snr) l).wr SER_L_CTLE ctle l
    let t := t.setSer l { t.ser l with stored := true }
    let t := if re then (t.giveLeave lcPhy 11 l).inc SER_L_RETRAINS 1 l else t
    (t.raise 36 1).laneChanged l

/-- The signal detector of lane `l` sees signal, or loses it. -/
def sigDetChange (l : Nat) (on : Bool) (s : State) : State := if 24 ≤ l then s else s.flag SER_L_SIG_DET on l

/-! Sleep (R378) -/

/-- TX_SLEEP and RX_SLEEP of lane `l` are written. -/
def laneSleepWrite (l : Nat) (tx rx : Bool) (s : State) : State :=
  if 24 ≤ l then s else ((s.flag SER_L_TX_SLEEP tx l).flag SER_L_RX_SLEEP rx l).laneSync l

/-! Patterns (R379 to R381) -/

/-- INJ_GO written 1. -/
def injGo (l : Nat) (s : State) : State :=
  if 24 ≤ l then s
  else if s.rd SER_L_GEN_MODE l == 0 then s.wr SER_L_INJ_IGN 1 l
  else s.emit (.symbolError l)

/-- Another 2^INJ_RATE symbols have been sent. -/
def injRateTick (l : Nat) (s : State) : State :=
  if decide (l < 24) && s.rd SER_L_GEN_MODE l != 0 && decide (10 ≤ s.rd SER_L_INJ_RATE l) then s.emit (.symbolError l) else s

/-- The locked checker of lane `l` has checked `n` bits more, `err` of them in error (R380). -/
def State.checked (s : State) (l n err : Nat) : State :=
  (s.inc64 SER_L_BITS_LO SER_L_BITS_HI n l).inc64 SER_L_ERR_LO SER_L_ERR_HI err l

/-- The checker of lane `l` locks, has counted `n` bits more while it stays locked, or loses lock after them (R380). -/
def checkerLockChange (l : Nat) (lock : Bool) (n err : Nat) (s : State) : State :=
  if 24 ≤ l || s.rd SER_L_CHK_MODE l == 0 then s
  else
    match s.on SER_L_CHK_LOCK l, lock with
    | false, false => s
    | false, true => (s.wr SER_L_CHK_LOCK 1 l).raise 36 3
    | true, true => s.checked l n err
    | true, false => (((s.checked l n err).wr SER_L_CHK_LOCK 0 l).inc SER_L_CHK_UNLOCKS 1 l).raise 36 4

/-! The meanings -/

/-- REF_MONITOR. -/
def execRefMonitor (ppm : Int) (moved : Bool) (s : State) : Host.Outcome State Fault Refusal := .next (refMonitor ppm moved s)
/-- TX_EQ_WRITE. -/
def execTxEqWrite (l pre post amp : Nat) (s : State) : Host.Outcome State Fault Refusal := .next (txEqWrite l pre post amp s)
/-- RETRAIN. -/
def execRetrain (l : Nat) (s : State) : Host.Outcome State Fault Refusal := .next (retrain l s)
/-- RETRAIN_SNR_TRIGGER. -/
def execRetrainSnrTrigger (l snr : Nat) (s : State) : Host.Outcome State Fault Refusal := .next (retrainSnrTrigger l snr s)
/-- RT_REFUSED_RETRY. -/
def execRtRefusedRetry (l : Nat) (s : State) : Host.Outcome State Fault Refusal := .next (rtRefusedRetry l s)
/-- RX_FREEZE_WRITE. -/
def execRxFreezeWrite (l : Nat) (v : Bool) (s : State) : Host.Outcome State Fault Refusal := .next (rxFreezeWrite l v s)
/-- ADAPT_DONE. -/
def execAdaptDone (l snr ctle : Nat) (s : State) : Host.Outcome State Fault Refusal := .next (adaptDone l snr ctle s)
/-- SIG_DET_CHANGE. -/
def execSigDetChange (l : Nat) (on : Bool) (s : State) : Host.Outcome State Fault Refusal := .next (sigDetChange l on s)
/-- LANE_SLEEP_WRITE. -/
def execLaneSleepWrite (l : Nat) (tx rx : Bool) (s : State) : Host.Outcome State Fault Refusal := .next (laneSleepWrite l tx rx s)
/-- INJ_GO. -/
def execInjGo (l : Nat) (s : State) : Host.Outcome State Fault Refusal := .next (injGo l s)
/-- INJ_RATE_TICK. -/
def execInjRateTick (l : Nat) (s : State) : Host.Outcome State Fault Refusal := .next (injRateTick l s)
/-- CHECKER_LOCK_CHANGE. -/
def execCheckerLockChange (l : Nat) (lock : Bool) (n err : Nat) (s : State) : Host.Outcome State Fault Refusal :=
  .next (checkerLockChange l lock n err s)

end Sys2Proof.Machine
end

