-- ==== Sys2Proof/Machine/Fkl.lean ====
section
/-! DEFINITION. The stack (R382 to R394): cells received, line time across the stack, the ring as learnt, the control relay, and the
loss of a port, a member or the master. -/

namespace Sys2Proof.Machine

/-! The ports (R392) -/

/-- The enable of port `k`. -/
def fkEn (k : Nat) : Fld := if k == 0 then FKL_FK0_EN else FKL_FK1_EN

/-- The PCS of port `k` aligns on all four lanes. -/
def fkPortAlign (k : Nat) (s : State) : State :=
  let ready (l : Nat) : Bool :=
    (s.rd SER_L_ADAPT_STATE l == adTrack || s.rd SER_L_ADAPT_STATE l == adFrozen) && s.rd SER_L_GEN_MODE l == 0
  if 2 ≤ k || s.dark || !s.on (fkEn k) || s.rd FKL_K_PSTATE k != fkDown
      || !(List.range 4).all fun i => ready (16 + 4 * k + i) then s
  else s.wr FKL_K_PSTATE fkAlign k

/-! The control relay (R390) -/

/-- The relay source of a member whose control subcarrier is not in frame: the lowest-numbered reachable member that reports
RX_OK. -/
def State.relaySource (s : State) : Option Nat :=
  if s.rd FKL_ROLE == 0 || s.inFrame s.ctrlSc then none
  else (bitList 8 (s.rd FKL_REACH &&& s.rd FKL_RX_OK_MAP)).find? fun m => m != s.rd FKL_MEM_ID

/-- CTRL_SRC and CTRL_VALID follow; a new source is taken up at its next FIRST_UNIT. -/
def State.showRelay (s : State) : State :=
  let was := if s.on FKL_CTRL_VALID then some (s.rd FKL_CTRL_SRC) else none
  let now := s.relaySource
  if was == now then s
  else
    let t := (s.flag FKL_CTRL_VALID now.isSome).wr FKL_CTRL_SRC (now.getD (s.rd FKL_CTRL_SRC))
    let t := { t with fk := { t.fk with ctl := none } }
    if t.inFrame t.ctrlSc then t else t.losePlace ctlStream

/-- Port `k` loses alignment, has a high BER, or has heard no MGMT cell for four frames. -/
def fkPortDown (k : Nat) (s : State) : State :=
  if 2 ≤ k || s.rd FKL_K_PSTATE k == fkDown then s else (s.fkToDown k).showRelay

/-! Cells received (R384) -/

/-- A cell that crosses this package goes out by the other port, for the members still to be served; a MGMT cell, whose layout the
spec does not give, is recorded without its bytes (log 90). -/
def State.cellOn (s : State) (c : Cell) : State :=
  let k := 1 - c.port
  let rest := clrBit (cDst c) (s.rd FKL_MEM_ID)
  if rest == 0 || !s.fkIsUp k then s
  else
    let h := cellHeader (cType c) (cSrc c) rest (cHops c + 1) (cLen c) (cSou c) (cEou c) (cErr c) (cSeq c) (cStamp c)
    (s.emit (if cType c == 3 then .relayed k 3 rest 0 else .cell k (cType c) (cellBytes h c.payload))).perf 37 0x00

/-- A cell whose CRC fails, or of reserved type, is dropped and counted. -/
def badCellRx (c : Cell) (s : State) : State :=
  if decide (2 ≤ c.port) || s.rd FKL_K_PSTATE c.port == fkDown || (cellOk c && decide (cType c < 6)) then s
  else s.inc FKL_K_CELL_CRC 1 c.port

/-- A cell of type `ctype` is received on its port: counted, dropped at HOPS 7, taken when it is for this member, and sent on. -/
def State.takeCell (s : State) (c : Cell) (ctype : Nat) (f : State → State) : State :=
  let p := s.rd FKL_K_PSTATE c.port
  if decide (2 ≤ c.port) || p == fkDown || (p == fkAlign && ctype != 3) then s
  else if !cellOk c then badCellRx c s
  else if cType c != ctype then s
  else
    let t := (s.inc64 FKL_K_CELLS_LO FKL_K_CELLS_HI 1 c.port).perf 37 0x01
    if 7 ≤ cHops c then t.inc FKL_HOP_DROP
    else (t.when_ (bit (cDst c) (s.rd FKL_MEM_ID)) f).cellOn c

/-- An IDLE cell is ignored, whatever its destination. -/
def idleCellRx (c : Cell) (s : State) : State :=
  if decide (2 ≤ c.port) || !s.fkIsUp c.port then s
  else if !cellOk c then badCellRx c s
  else if cType c != 0 then s
  else (s.inc64 FKL_K_CELLS_LO FKL_K_CELLS_HI 1 c.port).perf 37 0x01

/-! Units and blocks that arrive in pieces (R384) -/

/-- The key of a unit or block under way: port, type, source. -/
def asmKey (c : Cell) : Nat := c.port * 1024 + cType c * 32 + cSrc c

/-- A piece arrives. `done` takes the whole, and whether any of its cells was marked errored; a whole that lost a cell is counted in
UNIT_ERR. -/
def State.piece (s : State) (c : Cell) (done : List Nat → Bool → State → State) : State :=
  let put (t : State) (x : Option CellAsm) : State :=
    { t with fk := { t.fk with asms := match x with
        | some a => amSet t.fk.asms (asmKey c) a
        | none => amDel t.fk.asms (asmKey c) } }
  let old := amGet? s.fk.asms (asmKey c)
  let (t, a) : State × CellAsm :=
    if cSou c then
      (if old.isSome then s.inc FKL_K_UNIT_ERR 1 c.port else s, { next := some (cSeq c), bytes := [], whole := true })
    else (s, old.getD {})
  let a := { a with bytes := a.bytes ++ c.payload.take (cLen c), whole := a.whole && a.next == some (cSeq c), err := a.err || cErr c
                    next := some ((cSeq c + 1) % 2 ^ 32) }
  if !cEou c then put t (some a)
  else
    let t := put t none
    if a.whole then done a.bytes a.err t else t.inc FKL_K_UNIT_ERR 1 c.port

/-- A UNIT cell (R388): a whole unit goes to the parser as source 17, its TID not judged again. -/
def unitCellRx (c : Cell) (s : State) : State :=
  s.takeCell c 5 fun t => t.piece c fun b _ u =>
    if tagOk b && b.length == unitLen (ofBytesBE (b.take 8)) then u.toParser (unitFrame b 17 0) else u

/-- A block of a remote member has come (R389): a new multiframe number marks that multiframe's edge. -/
def State.remoteBlock (s : State) (mem cg pos mf : Nat) : State :=
  let mine (r : Remote) : Bool := r.mem == mem && r.cg == cg && r.pos == pos
  let r : Remote := match s.rx.remotes.find? mine with
    | some r => if r.mf == mf then { r with got := r.got + 1 } else { r with mf := mf, at_ := s.now, got := 1, last := r.got }
    | none => { mem := mem, cg := cg, pos := pos, mf := mf, at_ := s.now, got := 1 }
  { s with rx := { s.rx with remotes := (s.rx.remotes.filter fun x => !mine x) ++ [r] } }

/-- A GROUP cell (R389): a block of another member's subcarrier, already descrambled, joins its group (R109). -/
def groupCellRx (c : Cell) (s : State) : State :=
  s.takeCell c 4 fun t => t.piece c fun bs err u =>
    let cg := bits (cStamp c) 63 56
    let pos := bits (cStamp c) 55 48
    let mf := bits (cStamp c) 47 41
    let u := (u.remoteBlock (cSrc c) cg pos mf).dropBlocks (remoteSrc cg pos) mf
    u.takeBlock { src := remoteSrc cg pos, mf := mf, idx := bits (cStamp c) 31 0, bits := ofBytesBE bs, len := 8 * bs.length, err := err }

/-- A CTRL cell (R390): its bytes are taken from the relay source alone, and parsed as though decoded here. SOU marks the first cell
of a frame. -/
def ctrlCellRx (c : Cell) (s : State) : State :=
  s.takeCell c 2 fun t =>
    if !t.on FKL_CTRL_VALID || t.rd FKL_CTRL_SRC != cSrc c then t
    else
      let gap := match (amGetD {} t.fk.asms (asmKey c)).next with
        | some n => n != cSeq c
        | none => false
      let seen : CellAsm := { next := some ((cSeq c + 1) % 2 ^ 32), bytes := [], whole := true }
      let t := { t with fk := { t.fk with asms := amSet t.fk.asms (asmKey c) seen } }
      let t := if gap then (t.losePlace ctlStream).inc FKL_K_UNIT_ERR 1 c.port else t
      if !cSou c then t
      else
        let mf := cStamp c % 128
        let (m, f) := match t.fk.ctl with
          | some (m, f) => if m == mf then (m, if f < 64 then f + 1 else f) else (mf, 0)
          | none => (mf, 64)
        let t := { t with fk := { t.fk with ctl := some (m, f) } }
        let fu := bits (cStamp c) 63 32
        if f < 64 then t.ctlOverhead f (some fu)
        else if t.parsing then t else t.firstUnit ctlStream fu (0, 0)

/-! MGMT cells and the ring (R391) -/

/-- What this package's MGMT cells say. -/
def State.mgmtFields (s : State) : List Nat :=
  [s.rd FKL_MEM_ID, s.rd FKL_ROLE, b2n (s.inFrame s.ctrlSc), s.rd LTM_STATE, s.rd UPB_TID, s.rd UPB_TID_VALID,
    s.rd FKL_K_NBR_MEM 0, s.rd FKL_K_NBR_MEM 1]

/-- The ports that carry MGMT cells. -/
def State.mgmtPorts (s : State) : List Nat := [0, 1].filter fun k => s.rd FKL_K_PSTATE k != fkDown

/-- The MGMT cells of this frame leave, with the mailbox when MBOX_GO is set. -/
def mgmtCellSend (s : State) : State :=
  let frame := s.now / frameTicks
  if s.mgmtPorts.isEmpty || s.fk.mgmtSent == some frame then s
  else
    let go := s.on FKL_MBOX_GO
    let box := if go then some ((List.range 16).map fun w => s.rd FKL_MBOX_TX w) else none
    let t := forEach s.mgmtPorts s fun t k => (t.emit (.mgmt k s.mgmtFields box)).perf 37 0x00
    let t := { t with fk := { t.fk with mgmtSent := some frame, seqs := amSet t.fk.seqs 3 ((amGetD 0 t.fk.seqs 3 + 1) % 2 ^ 32) } }
    t.wr FKL_MBOX_GO 0

/-- MBOX_GO written 1. -/
def mboxGo (s : State) : State := if s.dark then s else s.wr FKL_MBOX_GO 1

/-- Packages of ROLE 1 heard within four frames: their TIDs differ (R393). -/
def State.twoMasters (s : State) : Bool :=
  let l := (s.fk.nbrs.filter fun e => e.2.role == 1 && decide (s.now < e.2.at_ + 4 * frameTicks)).map fun e => e.2.tid
  l.any fun a => l.any fun b => a != b

/-- MASTER_CONFLICT follows what is heard (R393). -/
def State.showConflict (s : State) : State :=
  let c := s.twoMasters && s.rd FKL_ROLE == 2
  (s.flag FKL_MASTER_CONFLICT c).raiseIf (c && !s.on FKL_MASTER_CONFLICT) 37 3

/-- A MGMT cell with what its sender says: MEM_ID, ROLE, RX_OK, TID, TID_VALID, and the mailbox (R391, R392). A path on which a
member has not been heard for four frames is forgotten. -/
def mgmtCellRx (c : Cell) (m : Mgmt) (s : State) : State :=
  s.takeCell c 3 fun t =>
    let k := c.port
    let mem := m.mem % 8
    let up := t.rd FKL_K_PSTATE k == fkAlign
    let t := if up then (t.wr FKL_K_PSTATE fkUp k).raise 37 0 else t
    let t := { t with fk := { t.fk with
      hops := amSet (t.fk.hops.filter fun e => decide (t.now < amGetD 0 t.fk.seen e.1 + 4 * frameTicks)) (k * 8 + mem) (cHops c + 1)
      seen := amSet t.fk.seen (k * 8 + mem) t.now
      nbrs := amSet t.fk.nbrs (k * 8 + cHops c) { mem := mem, role := m.role, tid := m.tid % 2 ^ 18 + b2n m.tidValid * 2 ^ 18, at_ := t.now } } }
    let t := if cHops c == 0 then t.wr FKL_K_NBR_MEM mem k else t
    let t := (t.wr FKL_REACH (setBit (t.rd FKL_REACH) mem)).wr FKL_RX_OK_MAP (putBit (t.rd FKL_RX_OK_MAP) mem m.rxOk)
    let t := match m.mbox with
      | none => t
      | some ws =>
        let u := (List.range 16).foldl (fun (u : State) w => u.wr FKL_MBOX_RX (ws.getD w 0) w) t
        (u.wr FKL_MBOX_RX (ws.getD 15 0 / 8 * 8 + mem) 15).raise 37 8
    (((t.showRing).showLtSource).showConflict).showRelay

/-- No MGMT cell has come from member `m` on either port for four frames (R392). -/
def memberUnreachable (m : Nat) (s : State) : State :=
  let last := max (amGetD 0 s.fk.seen m) (amGetD 0 s.fk.seen (8 + m))
  if 8 ≤ m || !bit (s.rd FKL_REACH) m || s.now < last + 4 * frameTicks then s
  else
    let t := (s.wr FKL_REACH (clrBit (s.rd FKL_REACH) m)).wr FKL_RX_OK_MAP (clrBit (s.rd FKL_RX_OK_MAP) m)
    let t := { t with fk := { t.fk with hops := t.fk.hops.filter fun e => e.1 % 8 != m }
                      rx := { t.rx with remotes := t.rx.remotes.filter fun r => r.mem != m } }
    ((t.raise 37 4).showLtSource).showRelay

/-- STACK_MAP (R391): what its acceptance rests on. -/
def State.mapOk (s : State) (m : Msg) : Bool :=
  let n := msgWord m 0 % 16
  let mine := msgWord m (s.rd FKL_MEM_ID + 1)
  decide (1 ≤ n) && decide (n ≤ 8) && ((List.range 8).all fun i => decide (i < n) || !bit (msgWord m (i + 1)) 31)
    && bit mine 31 && s.ownTid (mine % 2 ^ 18)

/-- A STACK_MAP is loaded and acknowledged, or refused. -/
def State.actStackMap (s : State) (own : Bool) (m : Msg) : State :=
  if s.mapOk m then
    let t := s.wr FKL_MAP_COUNT (msgWord m 0 % 16)
    let t := (List.range 8).foldl (fun u i => u.wr FKL_MAP_ENTRY (msgWord m (i + 1) &&& 0xC003FFFF) i) t
    (t.raise 37 6).ackKept own mStackMap m.seq ackOk 0
  else s.ackKept own mStackMap m.seq ackRefused 0

/-- STACK_MAP. -/
def stackMap (r : Rec) (s : State) : State := s.message mStackMap r (fun m own t => t.actStackMap own m) fun _ _ t => t

/-! Line time across the stack (R386, R387) -/

/-- The time transfer on port `k`. -/
def State.link (s : State) (k : Nat) : LtLink := amGetD {} s.fk.links k

/-- The time transfer on port `k` becomes `l`. -/
def State.setLink (s : State) (k : Nat) (l : LtLink) : State := { s with fk := { s.fk with links := amPut {} s.fk.links k l } }

/-- The LT cells of this frame leave at `at_`, which lies in slot 62. -/
def ltCellSend (at_ : Nat) (s : State) : State :=
  let t := max s.now at_
  let frame := t / frameTicks
  let ports := [0, 1].filter s.fkIsUp
  let role := s.rd FKL_ROLE
  if t / slotTicks % 125 != 62 || frame != s.now / frameTicks || s.fk.ltSent == some frame || ports.isEmpty
      || !(role == 1 || role == 2) then s
  else
    let s := s.advance t
    let s := forEach ports s fun u k =>
      let l := u.link k
      let u := u.sendCell k 1 (2 ^ u.rd FKL_K_NBR_MEM k) false false u.lt64 (bytesBE 8 l.t2 ++ bytesBE 8 l.stamp)
      u.setLink k { l with sent := some (u.lt64, u.now) }
    { s with fk := { s.fk with ltSent := some frame } }

/-- The mean one-way delay of a port, in ticks. -/
def cableMean (h : List Int) : Int := if h.isEmpty then 0 else divRound (h.foldl (· + ·) 0) (2 * h.length)

/-- An LT cell from the LT source moves a member's LT (R387): `off` is the offset, absent before the delay has been measured. -/
def State.followLt (s : State) (stamp : Nat) (mean : Int) (off : Option Int) : State :=
  let s := { s with fk := { s.fk with ltAt := s.now } }
  let s := s.wr FKL_MASTER_LOST 0
  let s := if s.ltIs ltHoldover then s.ltUnlock ltAcq else s
  if s.ltIs ltFree then
    let goal : Int := (s.now / 2 ^ 64 * 2 ^ 64 : Nat) + (((stamp : Int) + mean) % 2 ^ 64)
    let t := (s.setLtState ltAcq).moveLt (goal - s.now)
    { t with fk := { t.fk with run := 0, pend := 0 } }
  else
    match off with
    | none => { s with fk := { s.fk with run := 0 } }
    | some o =>
      let far := decide ((usTicks : Int) < o) || decide (o < -(usTicks : Int))
      if s.ltIs ltLocked then
        if far then
          let t := (s.ltUnlock ltAcq).moveLt (-o)
          { t with fk := { t.fk with run := 0, pend := 0 } }
        else { s with fk := { s.fk with pend := o } }
      else
        let run := if -65 ≤ o && o ≤ 65 then s.fk.run + 1 else 0
        let t := s.moveLt (-o)
        { t with fk := { t.fk with run := run, pend := 0 }
                 time := { t.time with step := if 16 ≤ run then some { delta := 0 } else none } }

/-- An LT cell arrives at `at_`, echoing t2 and the STAMP of the last LT cell that its sender received (R384, R386). -/
def ltCellRx (c : Cell) (at_ : Nat) (s : State) : State :=
  let t2 := ofBytesBE (c.payload.take 8)
  let echo := ofBytesBE ((c.payload.drop 8).take 8)
  s.takeCell c 1 fun s =>
    let s := s.advance at_
    let k := c.port
    let l := s.link k
    let raw : Option Int := match l.sent with
      | some (st, t1) => if st == echo then
          some ((s.now : Int) - t1 - ltDiff (cStamp c) t2 + s.rdS FKL_K_FK_ASYM k) else none
      | none => none
    let hist := match raw with
      | some r => (r :: l.hist).take 64
      | none => l.hist
    let mean := cableMean hist
    let off := if hist.isEmpty then none else some (ltDiff s.lt64 (cStamp c) - mean)
    let s := s.setLink k { l with t2 := s.lt64, stamp := cStamp c, hist := hist }
    let s := if hist.isEmpty then s else s.wrS FKL_K_CABLE (satS 32 mean) k
    let s := s.showConflict
    if s.rd FKL_ROLE != 2 then s
    else if s.on FKL_MASTER_CONFLICT then (if cSrc c == 0 then s.inc FKL_LT_FOREIGN else s)
    else if s.ltSource.map Prod.fst != some k then s
    else
      let s := match off with
        | some o => s.wrS FKL_LT_OFFSET (satS 32 o)
        | none => s
      s.followLt (cStamp c) mean off

/-- The slew of a member's LT at a frame boundary: at most 65 ticks (R387). -/
def State.fkSlew (s : State) : State :=
  let d := clampI (-65) 65 s.fk.pend
  if s.rd FKL_ROLE != 2 || !s.ltIs ltLocked || d == 0 then s
  else ({ s with fk := { s.fk with pend := s.fk.pend - d } }).moveLt (-d)

/-- At a frame boundary that ends the fourth frame without a valid LT cell, a member declares MASTER_LOST (R393). -/
def masterLost (s : State) : State :=
  if s.rd FKL_ROLE != 2 || s.on FKL_MASTER_LOST || s.dark || s.now / frameTicks * frameTicks < s.fk.ltAt + 4 * frameTicks then s
  else
    let t := (((s.wr FKL_MASTER_LOST 1).inc FKL_MASTER_LOSSES).raise 37 2)
    let t := { t with fk := { t.fk with run := 0, pend := 0 } }
    if t.ltIs ltLocked then t.ltUnlock ltHoldover else if t.ltIs ltAcq then t.ltToFree else t

/-- ROLE and MEM_ID agree with the table of R382. -/
def roleOk (role mem : Nat) : Bool := (decide (role ≤ 1) && mem == 0) || (role == 2 && mem != 0)

/-- ROLE and MEM_ID have applied (R382, R393): a new MEMBER's four frames begin, and a MASTER or a lone package is not judged. -/
def State.roleApplied (s : State) : State :=
  let t := { s with fk := { s.fk with ltAt := s.now, run := 0, pend := 0 } }
  let t := if t.rd FKL_ROLE == 2 then t else (t.wr FKL_MASTER_LOST 0)
  ((t.showConflict).showLtSource).showRelay

/-! The meanings -/

/-- FK_PORT_ALIGN. -/
def execFkPortAlign (k : Nat) (s : State) : Host.Outcome State Fault Refusal := .next (fkPortAlign k s)
/-- FK_PORT_DOWN. -/
def execFkPortDown (k : Nat) (s : State) : Host.Outcome State Fault Refusal := .next (fkPortDown k s)
/-- IDLE_CELL_RX. -/
def execIdleCellRx (c : Cell) (s : State) : Host.Outcome State Fault Refusal := .next (idleCellRx c s)
/-- BAD_CELL_RX. -/
def execBadCellRx (c : Cell) (s : State) : Host.Outcome State Fault Refusal := .next (badCellRx c s)
/-- UNIT_CELL_RX. -/
def execUnitCellRx (c : Cell) (s : State) : Host.Outcome State Fault Refusal := .next (unitCellRx c s)
/-- GROUP_CELL_RX. -/
def execGroupCellRx (c : Cell) (s : State) : Host.Outcome State Fault Refusal := .next (groupCellRx c s)
/-- CTRL_CELL_RX. -/
def execCtrlCellRx (c : Cell) (s : State) : Host.Outcome State Fault Refusal := .next (ctrlCellRx c s)
/-- MGMT_CELL_SEND. -/
def execMgmtCellSend (s : State) : Host.Outcome State Fault Refusal := .next (mgmtCellSend s)
/-- MBOX_GO. -/
def execMboxGo (s : State) : Host.Outcome State Fault Refusal := .next (mboxGo s)
/-- MGMT_CELL_RX. -/
def execMgmtCellRx (c : Cell) (m : Mgmt) (s : State) : Host.Outcome State Fault Refusal := .next (mgmtCellRx c m s)
/-- MEMBER_UNREACHABLE. -/
def execMemberUnreachable (m : Nat) (s : State) : Host.Outcome State Fault Refusal := .next (memberUnreachable m s)
/-- STACK_MAP. -/
def execStackMap (r : Rec) (s : State) : Host.Outcome State Fault Refusal := .next (stackMap r s)
/-- LT_CELL_SEND. -/
def execLtCellSend (at_ : Nat) (s : State) : Host.Outcome State Fault Refusal := .next (ltCellSend at_ s)
/-- LT_CELL_RX. -/
def execLtCellRx (c : Cell) (at_ : Nat) (s : State) : Host.Outcome State Fault Refusal := .next (ltCellRx c at_ s)
/-- MASTER_LOST. -/
def execMasterLost (s : State) : Host.Outcome State Fault Refusal := .next (masterLost s)

end Sys2Proof.Machine
end

