-- ==== Sys2Proof/Machine/RegIndex.lean ====
section
/-! DEFINITION. Every register field of the part in one list, and the field a key of the register file belongs to. -/

namespace Sys2Proof.Machine

/-- The fields of one page's own tables (R470). -/
def pageFields (p : Page) : List Fld :=
  match p with
  | .COM => fieldsCOM | .LTM => fieldsLTM | .LRX => fieldsLRX | .LMS => fieldsLMS | .FRM => fieldsFRM | .UPB => fieldsUPB
  | .CLP => fieldsCLP | .CLSE => fieldsCLSE | .CLS => fieldsCLS | .QSH => fieldsQSH | .GAT => fieldsGAT | .CAV => fieldsCAV
  | .DDR => fieldsDDR | .CIP => fieldsCIP | .CIPU => fieldsCIPU | .TIM => fieldsTIM | .VAT => fieldsVAT | .PCI => fieldsPCI
  | .DMA => fieldsDMA | .SER => fieldsSER | .FKL => fieldsFKL | .PWR => fieldsPWR | .FLT => fieldsFLT | .BOT => fieldsBOT
  | .GLB => fieldsGLB

/-- The pages that hold buffered fields (R477). -/
def bufferedPages : List Page := [.LTM, .LRX, .FRM, .UPB, .CLP, .CLS, .QSH, .TIM, .VAT, .FKL]

/-- The buffered field a key belongs to. -/
def bufferedFld (key : Nat) : Option Fld := (bufferedPages.flatMap pageFields).find? fun f => f.id == key / 2 ^ 20 && f.ty == .rwb

end Sys2Proof.Machine
end

