-- ==== Sys2Proof/Machine/Apply.lean ====
section
/-! DEFINITION. Buffered configuration (R14, R30, R49 to R54): sealing a shadow, the boundary it takes, the application of its fields,
apply markers, and the end of an apply. -/

namespace Sys2Proof.Machine

/-! Boundary kinds (R48) -/

def bkSlot : Nat := 0
def bkFrame : Nat := 1
def bkMf : Nat := 2
def bkSf : Nat := 3
def bkPacket : Nat := 4
def bkAtLt : Nat := 5

/-- The kind at which a field applies (R14): none for PAGE, which is the page's own. -/
def apKind (a : Ap) : Option Nat :=
  match a with
  | .slot => some bkSlot | .frame => some bkFrame | .multiframe => some bkMf | .superframe => some bkSf | .packet => some bkPacket
  | .page | .none => none

/-- A page has the APPLY registers (R470, R477). -/
def hasApply (p : Nat) : Bool := (pageInfo p).hasApply

/-- The page's BOUNDARIES list a kind (R340, R477). -/
def listsKind (p k : Nat) : Bool := bit (pageInfo p).boundaries k

/-- 2 µs, the apply setup (R49). -/
def applySetup : Nat := 131072

/-! Sealing (R49, R52) -/

/-- The first instant at or after `from_` whose low 32 bits are `w` (R52). -/
def atLtTarget (from_ w : Nat) : Nat := from_ + (w + 2 ^ 32 - from_ % 2 ^ 32) % 2 ^ 32

/-- APPLY is written with REQ = 1 and this BOUNDARY (R49, R54): a kind the page does not list keeps the old one (R15). -/
def State.applyReq (s : State) (p boundary : Nat) : State :=
  if !hasApply p || (s.sealOf p).isSome then s
  else
    let t := if boundary < 8 && listsKind p boundary then s.wr C_APPLY_BOUNDARY boundary p else s
    let k := t.rd C_APPLY_BOUNDARY p
    let tgt := atLtTarget (t.now + applySetup) (t.rd C_APPLY_LT p)
    let x : Sealed := { page := p, kind := k, req := t.now, target := if k == bkAtLt then some tgt else none, taken := none
                        fields := t.shadow.filter fun f => f.page == p }
    let t := { t with seals := t.seals ++ [x], shadow := t.shadow.filter fun f => f.page != p }
    let t := (t.wr C_APPLY_REQ 1 p).wr C_APPLY_PENDING 1 p
    if k == bkAtLt && decide (t.now + 2 ^ 31 < tgt) then t.wr C_AT_LT_FAR 1 p else t

/-- A seal that is gone: PENDING and REQ read 0. -/
def State.unseal (s : State) (p : Nat) : State :=
  (({ s with seals := s.seals.filter fun x => x.page != p }).wr C_APPLY_REQ 0 p).wr C_APPLY_PENDING 0 p

/-- APPLY.CANCEL: a shadow whose boundary has not been taken is discarded (R49). The boundary of a PACKET apply counts as taken once its
markers stand in the lanes (DESIGN CHOICE, log 167). -/
def State.applyCancel (s : State) (p : Nat) : State :=
  let s := s.insertMarkers
  match s.sealOf p with
  | some x => if x.taken.isNone && !x.marked then s.unseal p else s
  | none => s

/-! Applying -/

/-- The regions that GRAZE gates have no power (R403): they return with the exit (R407). -/
def State.asleep (s : State) : Bool := s.mode == .graze && s.pwr.transit != some .service && s.pwr.transit != some .listen

/-- The field's block is gated and keeps its shadow (R30, R403): the receive chain, the transmit path, the packet core and the vat in
GRAZE, or a cluster of a region that is off. -/
def State.gatedField (s : State) (p key : Nat) : Bool :=
  (s.asleep && (p == 7 || p == 10 || p == 13 || p == 14 || p == 35))
    || (p == 35 && match bufferedFld key with
        | some f => !bit (s.rd VAT_REGION_EN) (key % 2 ^ 20 / f.cnt / 16)
        | none => false)

/-- A buffered field becomes active, with what its block does about the change. -/
def State.applyField (s : State) (x : Shad) : State :=
  match bufferedFld x.key with
  | none => s
  | some f =>
    let i := x.key % 2 ^ 20
    let put (t : State) : State := t.wr f x.val i
    if f.id == CLS_CUR_VER.id then s.commitVer x.val
    else if [QSH_POL_EN, QSH_POL_CIR, QSH_POL_CBS].any fun g => g.id == f.id then s.repolice i put
    else if [QSH_SH_SH_EN, QSH_SH_RATE, QSH_SH_BURST].any fun g => g.id == f.id then s.reshape i put
    else put s

/-- A shaper that is enabled starts full at the BURST that applies with it (R50, R215). -/
def lastField (f : Shad) : Bool := f.key / 2 ^ 20 == QSH_SH_SH_EN.id

/-- Sealed fields that `sel` chooses apply together (R50), and those of a gated block are kept (R30); a seal with none left is released
and counted (R49, R54). -/
def State.applyFields (s : State) (p : Nat) (sel : Shad → Bool) : State :=
  match s.sealOf p with
  | none => s
  | some x =>
    let (go, rest) := x.fields.partition fun f => sel f && !s.gatedField p f.key
    let rest := rest.map fun f => if sel f then { f with kept := true } else f
    let (last, first) := go.partition lastField
    let t := forEach (first ++ last) s State.applyField
    let t := { t with seals := t.seals.map fun (y : Sealed) => if y.page == p then { y with fields := rest } else y }
    let role := go.any fun f => f.key == FKL_ROLE.key 0 || f.key == FKL_MEM_ID.key 0
    t.when_ role State.roleApplied

/-- A seal whose boundary is taken and that holds no field is released (R49, R50). -/
def State.release_ (s : State) (p : Nat) : State :=
  match s.sealOf p with
  | some x => if x.taken.isSome && x.fields.isEmpty then ((s.unseal p).inc C_APPLY_COUNT 1 p).perf p 0xF2 else s
  | none => s

/-- The boundary of kind `k`, SLOT to SUPERFRAME, lies at this instant (R48). MULTIFRAME and SUPERFRAME wait until LT is LOCKED (R42). -/
def State.edgeNow (s : State) (k : Nat) : Bool :=
  match k with
  | 0 => s.now % slotTicks == 0
  | 1 => s.now % frameTicks == 0
  | 2 => s.now % mfTicks == 0 && !(s.ltIs ltFree || s.ltIs ltAcq)
  | 3 => s.now % sfTicks == 0 && !(s.ltIs ltFree || s.ltIs ltAcq)
  | _ => false

/-- A field of a fixed kind applies at this instant, which is a boundary of that kind (R50). -/
def State.dueNow (s : State) (f : Shad) : Bool := (apKind f.ap).any s.edgeNow

/-- The boundary of one page is taken now: its PAGE fields apply, and with them those of a fixed kind whose boundary also lies now
(R49, R50). -/
def State.takeSeal (s : State) (p : Nat) : State :=
  let t := { s with seals := s.seals.map fun (y : Sealed) => if y.page == p then { y with taken := some s.now } else y }
  t.applyFields p fun f => f.ap == .page || s.dueNow f

/-- A page's sealed work at an instant that is a boundary of each of the kinds `ks` (R49, R50). -/
def State.pageEdge (ks : List Nat) (s : State) (p : Nat) : State :=
  match s.sealOf p with
  | none => s
  | some x =>
    let t := if x.taken.isNone && ks.contains x.kind && decide (x.req + applySetup ≤ s.now) then s.takeSeal p else s
    let due := ((t.sealOf p).bind Sealed.taken).isSome
    let t := if due then t.applyFields p fun f => (apKind f.ap).any ks.contains || (f.ap == .page && ks.contains x.kind) else t
    t.release_ p

/-- Every page at an edge of kind `k` (R30, R48): what falls due at this instant, of whichever kind, applies together (R50). -/
def State.applyEdge (s : State) (k : Nat) : State :=
  let ks := k :: (List.range 4).filter s.edgeNow
  if (k == bkMf || k == bkSf) && (s.ltIs ltFree || s.ltIs ltAcq) then s
  else forEach (s.seals.map Sealed.page) s (State.pageEdge ks)

/-! AT_LT (R52) -/

/-- The earliest AT_LT target that waits. -/
def State.nextAtLt (s : State) : Option Nat :=
  minList ((s.seals.filter fun x => x.kind == bkAtLt && x.taken.isNone).filterMap Sealed.target)

/-- LT reaches the earliest AT_LT target, or a slew has carried it past (R41): every page given it applies (R52); a gated one waits for the
next such instant (R30). -/
def State.atLt (s : State) : State :=
  match s.nextAtLt with
  | none => s
  | some g =>
    if s.ltIs ltFree || s.ltIs ltAcq then s
    else
      let t := s.advance g
      forEach ((t.seals.filter fun x => x.kind == bkAtLt && x.target == some g).map Sealed.page) t fun u p =>
        if (u.sealOf p).any fun x => x.fields.any fun f => f.ap == .page && u.gatedField p f.key then
          { u with seals := u.seals.map fun (y : Sealed) => if y.page == p then
              { y with target := some (g + 2 ^ 32), fields := y.fields.map fun f => { f with kept := true } } else y }
        else (u.takeSeal p).release_ p

/-- A pending AT_LT apply is resolved against the new LT by the rule of R52, with the low 32 bits named at its REQ: a later write of
APPLY_LT counts for the next REQ (DESIGN CHOICE, log 168). -/
def State.resolveSeal (s : State) (p : Nat) : State :=
  match s.sealOf p with
  | none => s
  | some x =>
    match x.target with
    | some g =>
      if x.taken.isSome then s
      else
        let tgt := atLtTarget (max s.now (x.req + applySetup)) (g % 2 ^ 32)
        let t := { s with seals := s.seals.map fun (y : Sealed) => if y.page == p then { y with target := some tgt } else y }
        if s.now + 2 ^ 31 < tgt then t.wr C_AT_LT_FAR 1 p else t
    | none => s

/-- Pending AT_LT applies are resolved again against the new LT (R41). -/
def State.reresolve (s : State) : State := forEach (s.seals.map Sealed.page) s State.resolveSeal

/-! Apply markers (R51) -/

/-- A lane still holds a marker of page `p`. -/
def State.markerHeld (s : State) (p : Nat) : Bool :=
  (List.range 19).any fun i => (s.lane i).items.any fun | .marker q => q == p | .frame _ _ => false

/-- A source that an upstream stop holds back holds its marker back with it (R198); an idle one takes it at once. -/
def State.markerHeldBack (s : State) (i : Nat) : Bool :=
  s.heldBack i && (!(s.lane i).inq.isEmpty || (s.lane i).held != 0 || s.pk.stalledBy.map (·.1) == some i)

/-- The marker of page `p` at the front of lane `i` passes (R51): a client port changes with its own lane, and what several lanes share
changes with the last. A commit of CLS completes as a step of its own. -/
def State.markerPass (s : State) (p i : Nat) : State :=
  let s := s.insertMarkers
  match (s.lane i).items with
  | .marker q :: rest =>
    if q != p || s.markerHeldBack i then s
    else
      let t := s.setLane i { s.lane i with items := rest }
      let t := if p == 12 then t.applyFields 12 fun f => f.key % 2 ^ 20 == i else t
      if p == 13 || t.markerHeld p then t
      else
        let t := if ((t.sealOf p).bind Sealed.taken).isNone then t.takeSeal p else t
        (t.applyFields p fun f => f.ap == .packet).release_ p
  | _ => s

/-- A commit completes (R198): every source's marker has left the reorder stage. -/
def State.commitDone (s : State) : State :=
  let s := s.insertMarkers
  match s.sealOf 13 with
  | some x =>
    if !x.marked || s.markerHeld 13 then s
    else ((if x.taken.isNone then s.takeSeal 13 else s).applyFields 13 fun f => f.ap == .packet).release_ 13
  | none => s

end Sys2Proof.Machine
end

