-- ==== Sys2Proof/Machine/ResetOps.lean ====
section
/-! DEFINITION. What a reset and the loss of the main rails leave (R409, R440 to R443): the registers and the state that keep
their values, and the fields the straps set. -/

namespace Sys2Proof.Machine

/-- The register file restricted to some fields. -/
def keepRegs (fs : List Fld) (r : List (Nat × Nat)) : List (Nat × Nat) :=
  let ids := fs.map Fld.id
  r.filter fun e => ids.contains (e.1 / 2 ^ 20)

/-- The registers every reset keeps (R442, R466, R468). -/
def resetKeeps : List Fld := [BOT_RESET_CAUSE, GLB_THERM_TRIP, GLB_LIFE_USED]

/-- The registers STABLE keeps: PWR 0x100 to 0x13F, the always-on fields of GLB (R418), and what the cave has saved of itself
(R409). DEDUCED (log 20): BOT, which tells of the last boot, the cave's size and the counts of R214 keep their values too, and
every other register takes its reset value when its rail goes. -/
def stableKeeps : List Fld :=
  fieldsPWR.filter (fun f => decide (f.kind = .glob) && decide (f.off < 0x140)) ++ [GLB_THERM_TRIP, GLB_LIFE_USED] ++ fieldsBOT
    ++ [CAV_STATE, CAV_POOL_READY, CAV_FAIL_CH, CAV_CHANNELS, CAV_DIMM_SIZE, CAV_C_TOT, CAV_POOL_BASE, CAV_POOL_FREE, CAV_RACK_FILL,
        CAV_KSEL0_COUNT, CAV_KSEL1_COUNT, CAV_RETIRED, CAV_SCRUB_POS, CAV_EXP_FREE, CAV_AL_HELD_ALL, CAV_AL_RETAINED, CAV_AL_EXP_HELD,
        CAV_AL_PURGED_LO, CAV_AL_PURGED_HI, DDR_POPULATED, DDR_TRAIN_STATE, DDR_TRAIN_CAUSE, QSH_AL_OCC, QSH_AL_SEQ_NEXT,
        QSH_AL_SEALED_LO, QSH_AL_SEALED_HI, QSH_AL_COMMITTED_LO, QSH_AL_COMMITTED_HI, QSH_AL_RETURNED_LO, QSH_AL_RETURNED_HI]

/-- The symbol rate of an RS_SEL strap (R443). -/
def strapRate (v : Nat) : Nat :=
  match v with
  | 0 => 144000 | 1 => 150000 | 2 => 96000 | _ => 60000

/-- The fields the straps set, from the pins latched in STRAPS (R443). A reserved code gives encoding 0. -/
def State.strapFields (s : State) (cave : Bool) : State :=
  let v := s.rd BOT_STRAPS
  let role := bits v 7 6
  let mem := bits v 10 8
  let roleBad := !roleOk role mem
  let dimmBad := bits v 13 12 == 3
  let t := (s.wr FKL_ROLE (if roleBad then 0 else role)).wr FKL_MEM_ID (if roleBad then 0 else mem)
  let t := ((t.wr LRX_RS_EXPECT (strapRate (bits v 15 14))).wr LRX_SYM_RATE (strapRate (bits v 15 14))).newLatency
  let t := if cave then (t.flag CAV_CHANNELS (bit v 11)).wr CAV_DIMM_SIZE (if dimmBad then 0 else bits v 13 12) else t
  t.flag BOT_STRAP_RSVD (roleBad || dimmBad)

/-- Every cluster's program memory has lost its contents once more (R307). -/
def Vat.lostAll (v : Vat) : Vat :=
  { cls := (List.range 128).map fun c => (c, { lost := (amGetD {} v.cls c).lost + 1 }) }

/-- The flash after a loss of power or a reset (R452): a slot under commit is left without its COMMIT word, and erased (DESIGN CHOICE,
log 24). -/
def Boot.flashKept (b : Boot) : List (Nat × Nat) :=
  match b.commit with
  | some (slot, _) => b.flash.filter fun e => e.1 / 1024 != slot
  | none => b.flash

/-- The terminal as a reset leaves it (R440, R442): `cause` is a bit of RESET_CAUSE. -/
def State.toReset (s : State) (cause : Nat) : State :=
  let t := s.cutAir
  let t : State :=
    { State.reset with
      pending := t.pending, regs := keepRegs resetKeeps t.regs, fuses := t.fuses, time := {}
      vat := t.vat.lostAll, boot := { flash := t.boot.flashKept }
      pins := { t.pins with resetN := false, txdisN := false, errN := true }, freeCtr := t.freeCtr, out := t.out }
  (t.wr BOT_RESET_CAUSE (setBit (t.rd BOT_RESET_CAUSE) cause)).showPower

/-- The main rails are off (R409): what the always-on island, the cave and the flash hold is all that is left. PGOOD falls
with PWR_MAIN_EN (R459); its fall is taken as seen (DEDUCED, log 30). -/
def State.railsOff (s : State) : State :=
  let t : State :=
    { State.reset with
      mode := s.mode, pwr := { transit := s.pwr.transit, wake := s.pwr.wake }
      pending := s.pending, regs := keepRegs stableKeeps s.regs, fuses := s.fuses, time := { lt := s.time.lt, run := s.time.run }
      held := s.held, vat := s.vat.lostAll, boot := { flash := s.boot.flashKept }
      cave := { s.cave with waiters := [], expWaiters := [], opens := [], purge := [], window := [], scrubRetry := none }
      pins := { s.pins with txdisN := false, pwrMainEn := false, pgood := false, errN := true }, freeCtr := s.freeCtr, out := s.out }
  t.strapFields false

end Sys2Proof.Machine
end

