-- ==== Sys2Proof/Machine/BootOps.lean ====
section
/-! DEFINITION. The registers' side of reset, boot and record (R440, R449, R452): writes of SW_RESET, HOST_GO, TW_FIFO, REC_GO and
REC_STAGE. -/

namespace Sys2Proof.Machine

/-- Bits of RESET_CAUSE (R453). -/
def rcPowerOn : Nat := 0
def rcPin : Nat := 1
def rcSoftware : Nat := 2

/-- A write of 0x5A72 to SW_RESET (R440). -/
def swReset (s : State) : State := s.toReset rcSoftware

/-- BOOT_SRC as sampled (R443). -/
def State.bootSrc (s : State) : Nat := bits (s.rd BOT_STRAPS) 1 0

/-- The boot waits for a host load (R449): by strap, or after both flash images were rejected. -/
def State.hostLoads (s : State) : Bool :=
  s.mode == .boot && s.boot.tested && s.rd BOT_BOOT_STATUS != 8 && (s.bootSrc == 1 || (s.bootSrc == 0 && decide (2 ≤ s.boot.tried)))

/-- Write of HOST_GO = 1 (R449). -/
def hostGo (s : State) : State := if s.hostLoads then s.wr BOT_HOST_GO 1 else s

/-- The bytes that have arrived through TW_FIFO, each DWORD most significant byte first (DESIGN CHOICE, log 23). -/
def State.fifoBytes (s : State) : List Nat := s.boot.fifo.reverse.flatMap (bytesBE 4)

/-- LENGTH of an image (R447). -/
def imgLength (b : List Nat) : Nat := ofBytesBE ((b.drop 8).take 4)

/-- LENGTH lies in its range (R447). -/
def imgLengthOk (n : Nat) : Bool := decide (512 ≤ n) && decide (n ≤ 64 * 1024 * 1024) && n % 4 == 0

/-- The image is complete in the FIFO (R449): its header, and LENGTH bytes where LENGTH is one an image can have. -/
def State.fifoFull (s : State) : Bool :=
  let b := s.fifoBytes
  decide (512 ≤ b.length) && (!imgLengthOk (imgLength b) || decide (imgLength b ≤ b.length))

/-- One DWORD through TW_FIFO (R449). -/
def twFifoWrite (v : Nat) (s : State) : State :=
  if s.mode != .boot || !s.boot.tested || s.bootSrc != 2 || s.rd BOT_BOOT_STATUS == 8 || s.fifoFull then s
  else { s with boot := { s.boot with fifo := v % 2 ^ 32 :: s.boot.fifo } }

/-! The registration record (R450, R452) -/

/-- The slot a commit goes to: the one not chosen, and slot 0 where none is (DESIGN CHOICE, log 24). -/
def State.recTarget (s : State) : Nat := if s.on BOT_REC_VALID then 1 - s.rd BOT_REC_SLOT else 0

/-- Write of REC_GO = 1 (R452): the body is taken as it stands. -/
def recGo (s : State) : State :=
  if s.on BOT_REC_GO || s.dark then s
  else
    let body := (List.range 956).map fun w => s.rd BOT_REC_STAGE w
    { s with boot := { s.boot with commit := some (s.recTarget, body) } }.wr BOT_REC_GO 1

/-- A write of word `w` of REC_STAGE (R452). -/
def State.stageWrite (s : State) (w v : Nat) : State := if s.on BOT_REC_GO then s.wr BOT_REC_BUSY 1 else s.wr BOT_REC_STAGE v w

/-! The thermal trip (R465) -/

/-- The terminal stays down after a thermal trip. -/
def State.tripDown (s : State) : Bool := s.mode == .reset && s.pins.vddAon && !s.pins.pwrMainEn && s.on GLB_THERM_TRIP

/-- A terminal that a thermal trip holds down powers up again. -/
def State.tripUp (s : State) : State := if s.tripDown then { s with pins := { s.pins with pwrMainEn := true } } else s

/-- A two-wire write of THERM_TRIP (R465, R468). -/
def thermTripClear (s : State) : State := if !s.pins.vddAon then s else (s.latchWake wkTw).tripUp.wr GLB_THERM_TRIP 0

/-! The meanings -/

/-- SW_RESET. -/
def execSwReset (s : State) : Host.Outcome State Fault Refusal := .next (swReset s)
/-- HOST_GO. -/
def execHostGo (s : State) : Host.Outcome State Fault Refusal := .next (hostGo s)
/-- TW_FIFO_WRITE. -/
def execTwFifoWrite (v : Nat) (s : State) : Host.Outcome State Fault Refusal := .next (twFifoWrite v s)
/-- REC_GO. -/
def execRecGo (s : State) : Host.Outcome State Fault Refusal := .next (recGo s)
/-- THERM_TRIP_CLEAR. -/
def execThermTripClear (s : State) : Host.Outcome State Fault Refusal := .next (thermTripClear s)

end Sys2Proof.Machine
end

