-- ==== Sys2Proof/Machine/Agg.lean ====
section
/-! DEFINITION. The fault aggregators between a source and the collector (R24, R26, R28, R423): each cluster, region and die combines the
reports of one cycle and passes one report of each cause upward. The collector records a report in the step that brings it, which releases
the latches of R423, so none outlives a command (log 165). -/

namespace Sys2Proof.Machine

/-- A report on its way up: cause, first named source, duplicates. -/
structure Up where
  cause : Nat
  src : FaultSrc
  dup : Nat
deriving DecidableEq, Repr

/-- The aggregators' requester tables: clusters by region and number, regions, dies. -/
def rtCluster (region cluster : Nat) : Nat := 0x10000 + region * 128 + cluster
def rtRegion (region : Nat) : Nat := 0x20000 + region
def rtDie (d : Nat) : Nat := 0x30000 + d

/-- The reports of one cause at aggregator `t` with `n` requesters, where `who` names the requester (R423): the first by the arbitration
rule passes upward and carries the count of all the others. -/
def State.combine (s : State) (t n : Nat) (who : Up → Nat) (rs : List Up) : List Up × State :=
  let (order, u) := s.serveAll t n (rs.map who)
  match order.head?.bind fun w => rs.find? fun r => who r == w with
  | some r => ([{ r with dup := (rs.map fun x => 1 + x.dup).foldl (· + ·) 0 - 1 }], u)
  | none => (rs, u)

/-- All reports of the cycle at one aggregator, cause by cause (R28): none is dropped for another. -/
def State.gather (s : State) (t n : Nat) (who : Up → Nat) (rs : List Up) : List Up × State :=
  (rs.map Up.cause).eraseDups.foldl
    (fun a c => let (o, u) := a.2.combine t n who (rs.filter fun r => r.cause == c); (a.1 ++ o, u)) ([], s)

/-- One level: reports that share a table meet at one aggregator. -/
def State.level (s : State) (table : Up → Nat) (n : Nat) (who : Up → Nat) (rs : List Up) : List Up × State :=
  (rs.map table).eraseDups.foldl
    (fun a k => let (o, u) := a.2.gather k n who (rs.filter fun r => table r == k); (a.1 ++ o, u)) ([], s)

/-- A parity error in an aggregator, reported at the level above (R422): `x` was held by the aggregator that the report `e` names, a cluster's
by region and cluster, a region's by its code in CLUSTER, a die's by its number in CLUSTER (log 166). -/
def Up.heldBy (x e : Up) : Bool :=
  e.cause == cAggParity && decide (x.src.level < e.src.level) &&
    match e.src.level with
    | 2 => x.src.region == e.src.region && x.src.cluster == e.src.cluster
    | 3 => x.src.region == e.src.cluster
    | 4 => dieOf x.src.region == e.src.cluster
    | _ => false

/-- The table of the aggregator that an AGG_PARITY report names. -/
def Up.table (e : Up) : Option Nat :=
  match e.src.level with
  | 2 => some (rtCluster e.src.region e.src.cluster)
  | 3 => some (rtRegion e.src.cluster)
  | 4 => some (rtDie e.src.cluster)
  | _ => none

/-- An aggregator with a parity error is reinitialised: its order starts anew (R422). -/
def State.aggReset (s : State) (e : Up) : State :=
  match e.table with
  | some t => if e.cause == cAggParity then { s with orders := amDel s.orders t } else s
  | none => s

/-- Reports of one cycle pass up by unit, cluster, region and die to the collector (R26, R28, R423). A level's own reports meet those of
its members at its aggregator, after them in rank. The collector takes the highest class first (R28). -/
def State.reportUp (s : State) (rs : List Up) : State :=
  let s := forEach rs s State.aggReset
  let rs := rs.filter fun r => !rs.any r.heldBy
  let at_ (l : Nat) : List Up := rs.filter fun r => r.src.level == l
  let (a, s) := s.level (fun r => rtCluster r.src.region r.src.cluster) 17 (fun r => if r.src.level == 1 then 16 else r.src.unit) (at_ 0 ++ at_ 1)
  let (a, s) := s.level (fun r => rtRegion r.src.region) 129 (fun r => if r.src.level == 2 then 128 else r.src.cluster) (a ++ at_ 2)
  let (a, s) := s.level (fun r => rtDie (dieOf r.src.region)) 22 (fun r => if r.src.level == 3 then 21 else r.src.region) (a ++ at_ 3)
  let all := a ++ rs.filter fun r => decide (4 ≤ r.src.level)
  forEach ([3, 2, 1].flatMap fun c => all.filter fun r => faultClass r.cause == c) s fun t r => t.collect r.cause r.dup r.src

end Sys2Proof.Machine
end

