-- ==== Sys2Proof/Machine/VatOps.lean ====
section
/-! DEFINITION. The vat as its commands share it (chapters 13 and 14): clusters and units, output ports, kernels that start and end,
leave, and the issue of one instruction with the visibility rules of the pipeline. -/

namespace Sys2Proof.Machine

/-! Clusters and units -/

/-- CSTATE codes (R312). -/
def csOff : Nat := 0
def csIdle : Nat := 1
def csWait : Nat := 2
def csRun : Nat := 3
def csFault : Nat := 4

/-- Cluster `c` outside its registers. -/
def State.vcl (s : State) (c : Nat) : VCluster := amGetD {} s.vat.cls c

/-- Cluster `c` becomes `x`. -/
def State.setVcl (s : State) (c : Nat) (x : VCluster) : State := { s with vat := { s.vat with cls := amPut {} s.vat.cls c x } }

/-- Cluster `c` becomes `f` of it. -/
def State.mapVcl (s : State) (c : Nat) (f : VCluster → VCluster) : State := s.setVcl c (f (s.vcl c))

/-- Unit `u` of cluster `c`. -/
def State.vu (s : State) (c u : Nat) : VUnit := amGetD {} s.vat.units (16 * c + u)

/-- Unit `u` of cluster `c` becomes `f` of it. -/
def State.mapVu (s : State) (c u : Nat) (f : VUnit → VUnit) : State :=
  { s with vat := { s.vat with units := amPut {} s.vat.units (16 * c + u) (f (s.vu c u)) } }

/-- The state of cluster `c`. -/
def State.cstate (s : State) (c : Nat) : Nat := s.rd VAT_C_CSTATE c

/-- The enabled units of cluster `c`, rising. -/
def State.unitsOn (s : State) (c : Nat) : List Nat := bitList 16 (s.rd VAT_C_UNIT_EN c)

/-- Instruction word `i` of cluster `c` (R298, R307). -/
def State.pgmWord (s : State) (c i : Nat) : Nat :=
  let x := s.vcl c
  match amGet? x.pgm i with
  | some v => v
  | none => if x.lost == 0 then 0 else (Config.lostWord x.lost (8192 * c + i)).toNat

/-- Instruction word `i` of cluster `c` written. -/
def State.setPgm (s : State) (c i v : Nat) : State :=
  s.mapVcl c fun x => { x with pgm := if x.lost == 0 && v == 0 then amDel x.pgm i else amSet x.pgm i v }

/-- Word `a` of X or Y memory as a unit reads it (R298). -/
def VUnit.load (x : VUnit) (y : Bool) (a : Nat) : Nat :=
  if y then (if 0xFF4 ≤ a then 0 else smGet x.y a) else smGet x.x a

/-! Output ports (R303) -/

/-- The receive subcarrier a port names for unit `u`. -/
def rxScOf (side u : Nat) : Option Nat := if side < 2 then some (16 * side + u) else none

/-- Half of a coefficient word: the real part at an even offset. -/
def putHalf (w o v : Nat) : Nat := if o % 2 == 0 then w % 2 ^ 16 + v * 2 ^ 16 else w / 2 ^ 16 * 2 ^ 16 + v

/-- A store to the inactive receive bank of subcarrier `sc`. -/
def State.coefStore (s : State) (sc o v : Nat) : State :=
  if s.on LRX_COEF_OWNER then s.inc VAT_PORT_DENIED
  else
    let i := coefIdx sc (1 - s.rd LRX_BANK sc) (o / 2)
    s.wr LRX_COEF (putHalf (s.rd LRX_COEF i) o v) i

/-- A store to the inactive transmit bank of U subcarrier `u`. -/
def State.uBankStore (s : State) (u o v : Nat) : State :=
  let i := u * 128 + (if bit s.vat.uAct u then 0 else 64) + o / 2
  { s with vat := { s.vat with uBank := smSet s.vat.uBank i (putHalf (smGet s.vat.uBank i) o v) } }

/-- The LMS value fields in the order of R88. -/
def lmsFld (k : Nat) : Fld :=
  match k with
  | 0 => LMS_OSNR | 1 => LMS_CD | 2 => LMS_DGD | 3 => LMS_SOP_RATE | 4 => LMS_FREQ_OFS | _ => LMS_RX_POWER

/-- Words of port `p` staged by a unit: offset and word, and the one at an offset. -/
def VUnit.port (x : VUnit) (p : Nat) : List (Nat × Nat) :=
  (x.staged.filter fun e => e.1 / 128 == p).map fun e => (e.1 % 128, e.2)

/-- The instant at which the running kernel of a cluster started, as LAST_START tells it (R305). -/
def State.kernelStart (s : State) (cl : Nat) : Nat := s.now - (s.now + 2 ^ 32 - s.rd VAT_C_LAST_START cl) % 2 ^ 32

/-- A commit at `r` falls in the cycle of a swap at `g`: 1.5 GHz, 44 ticks at most. -/
def sameCycle (g r : Nat) : Bool := decide (g ≤ r) && decide (r < g + 44)

/-- The instant of the present cycle of a running cluster, at 1.5 GHz (R296). -/
def State.cycleAt (s : State) (c : Nat) : Nat := s.kernelStart c + (s.vcl c).cyc * 65536 / 1500

/-- Cluster `c` commits its stores to bank `b`, which is ready then; a swap of the same cycle leaves it not ready (R303). -/
def State.commitBank (s : State) (c b : Nat) : State :=
  let at_ := s.cycleAt c
  let ready := !(amGet? s.vat.swapAt b).any fun g => sameCycle g at_
  let t := { s with vat := { s.vat with readyAt := amSet s.vat.readyAt b at_ } }
  if b < 32 then t.flag LRX_BANK_READY ready b
  else { t with up := { t.up with uReady := putBit t.up.uReady (b - 32) ready } }

/-- The LMS values of a carrier are committed by cluster `cl` (R84, R303): VALID while it is in TRACK. Outside TRACK, and when the kernel
that commits was started in an earlier multiframe, VALID reads 0 and the values hold (DEDUCED, log 183). -/
def State.lmsCommit (s : State) (cl c : Nat) (ws : List (Nat × Nat)) : State :=
  let mf := s.now / mfTicks
  if s.acq c != 6 || s.kernelStart cl / mfTicks != mf then
    ws.foldl (fun u e => if 6 ≤ e.1 then u else u.wr LMS_VALID 0 (c * 6 + e.1)) s
  else
    let t := ws.foldl (fun u e =>
      if 6 ≤ e.1 then u
      else (u.wr (lmsFld e.1) (ofS 18 (if e.1 == 1 || 4 ≤ e.1 then toS 16 e.2 else e.2)) c).wr LMS_VALID 1 (c * 6 + e.1)) s
    { t with vat := { t.vat with lmsAt := amSet t.vat.lmsAt c mf } }.wr LMS_UPDATE_LT (mf * mfTicks) c

/-- A step of CD_ACTIVE (R66, R303): clipped to 5 ps/nm, one a frame. DEDUCED (log 201): R303 applies a commit at once and R66 moves
CD_ACTIVE at frame boundaries; the step acts at its commit, which the kernel makes once a frame. -/
def State.cdStep (s : State) (c : Nat) (d : Int) : State :=
  let frame := s.now / frameTicks
  if s.acq c != 6 || amGet? s.vat.cdAt c == some frame then s
  else
    let f := if c == 0 then LRX_CD_ACTIVE_A else LRX_CD_ACTIVE_B
    ({ s with vat := { s.vat with cdAt := amSet s.vat.cdAt c frame } }).wrS f (satS 18 (s.rdS f + clampI (-5) 5 d))

/-- FREQ and a slew of time base `u` are committed (R280, R303). TB0 runs on LT and takes none. -/
def State.tbCommit (s : State) (u : Nat) (ws : List (Nat × Nat)) : State :=
  if u == 0 || 4 ≤ u then s
  else
    let half (k : Nat) : Nat := amGetD 0 ws k
    let has (k : Nat) : Bool := ws.any fun e => e.1 == k
    let t := if has 0 || has 1 then s.tbFreq u (toS 32 (half 0 * 2 ^ 16 + half 1)) else s
    if has 2 || has 3 then t.tbSlew u (toS 32 (half 2 * 2 ^ 16 + half 3) * tbNs) (sfTicks / 16) else t

/-- Unit `u` of cluster `c` commits port `p`. -/
def State.commitPort (s : State) (c u p : Nat) : State :=
  let i := c * 2 + p
  let side := s.rd VAT_C_TO_SIDE i
  let ws := (s.vu c u).port p
  let t := (s.mapVu c u fun x => { x with staged := x.staged.filter fun e => e.1 / 128 != p }).perf (128 + c) 0x08
  match s.rd VAT_C_TO_DEST i with
  | 1 => match rxScOf side u with
    | some sc => if t.on LRX_COEF_OWNER then t.inc VAT_PORT_DENIED else t.commitBank c sc
    | none => t
  | 2 => t.commitBank c (32 + u)
  | 3 => if u == 0 && decide (side < 2) then t.lmsCommit c side ws else t
  | 4 => match amGet? ws 0 with
    | some d => if u == 0 && decide (side < 2) then t.cdStep side (toS 16 d) else t
    | none => t
  | 5 => t.tbCommit u ws
  | 6 => { t with vat := { t.vat with calib := ws.foldl (fun m e => smSet m ((side * 16 + u) * 128 + e.1) e.2) t.vat.calib } }
  | _ => t

/-- A store by unit `u` to the window of port `p` is forwarded (R303). -/
def State.portStore (s : State) (c u p o v : Nat) : State :=
  let i := c * 2 + p
  let s := s.perf (128 + c) 0x07
  if !s.on VAT_C_TO_EN i then s
  else if o == 0x7F then (if v == 1 then s.commitPort c u p else s)
  else
    match s.rd VAT_C_TO_DEST i with
    | 0 => s
    | 1 => match rxScOf (s.rd VAT_C_TO_SIDE i) u with
      | some sc => if o < 0x68 then s.coefStore sc o v else s
      | none => s
    | 2 => if o < 0x68 then s.uBankStore u o v else s
    | _ => s.mapVu c u fun x => { x with staged := amSet x.staged (p * 128 + o) v }

/-- One store of a unit reaches memory, and its port (R298, R303, R325). -/
def State.land (s : State) (c u : Nat) (e : Bool × Nat × Nat) : State :=
  let (y, a, v) := e
  if y then (if 0xFF0 ≤ a then s else s.mapVu c u fun x => { x with y := smSet x.y a v })
  else
    let t := s.mapVu c u fun x => { x with x := smSet x.x a v }
    if a < 0xF00 then t else t.portStore c u ((a - 0xF00) / 128) ((a - 0xF00) % 128) v

/-- Writes of address registers under way: one instruction has passed (R332). Those that are due land. -/
def agePend (r : List (Nat × Nat)) (p : List (Nat × Nat × Nat)) : List (Nat × Nat) × List (Nat × Nat × Nat) :=
  p.foldl (fun a e => if e.2.2 ≤ 1 then (smSet a.1 e.1 e.2.1, a.2) else (a.1, a.2 ++ [(e.1, e.2.1, e.2.2 - 1)])) (r, [])

/-- What is under way in a cluster completes: stores land and address registers take their values. -/
def State.drainVat (s : State) (c : Nat) : State :=
  let all (r : List (Nat × Nat)) (p : List (Nat × Nat × Nat)) : List (Nat × Nat) := p.foldl (fun a e => smSet a e.1 e.2.1) r
  let t := s.mapVcl c fun x => { x with pr := all x.pr x.pend, pend := [] }
  forEach (List.range 16) t fun t u =>
    let es := if bit (t.rd VAT_C_UNIT_EN c) u then (t.vu c u).st else []
    let t := forEach es t fun t e => t.land c u e
    t.mapVu c u fun x => { x with st := [], ar := all x.ar x.pend, pend := [] }

/-! Kernels (R304 to R307) -/

/-- Kernel table entry `k` as a launch reads it. -/
def State.kernelOf (s : State) (k : Nat) (arg : Option Nat) (target : Nat) : VStart :=
  { kslot := k, entry := s.rd VAT_K_ENTRY k, pclass := s.rd VAT_K_PCLASS k, irq := s.on VAT_K_IRQ k, maxrun := s.rd VAT_K_MAXRUN k
    arg := arg.getD (s.rd VAT_K_KARG k), target := target }

/-- The clusters of an entry's mask. -/
def State.kernelMask (s : State) (k : Nat) : List Nat :=
  bitList 128 (s.rd VAT_K_CMASK0 k + s.rd VAT_K_CMASK1 k * 2 ^ 32 + s.rd VAT_K_CMASK2 k * 2 ^ 64 + s.rd VAT_K_CMASK3 k * 2 ^ 96)

/-- The power for which a kernel of class `p` on cluster `c` needs leave (R307). -/
def State.classNeed (s : State) (c p : Nat) : Nat := vatClassPower p - vatClassPower (s.rd VAT_C_STD_CLASS c)

/-- The units of a cluster are loaded and the kernel starts (R305, R316). -/
def State.startKernel (s : State) (c : Nat) (k : VStart) : State :=
  let t := s.mapVcl c fun x => { x with loops := [], cache := none, cyc := 0, fAt := 0, irq := k.irq, maxrun := k.maxrun, wait := none }
  let g2 := bits (k.target / mfTicks % 125) 6 0 * 64 + k.target / frameTicks % 64
  let t := forEach (t.unitsOn c) t fun t u => t.mapVu c u fun x =>
    let g := smSet (smSet (smSet x.g 0 k.arg) 1 (16 * c + u)) 2 g2
    { x with g := g, f := 14, h1 := (g, 14), h2 := (g, 14) }
  let t := ((t.wr VAT_C_CSTATE csRun c).wr VAT_C_PC k.entry c).wr VAT_C_KSLOT k.kslot c
  ((t.wr VAT_C_LAST_START (k.target % 2 ^ 32) c).inc VAT_C_LAUNCHES 1 c).perf (128 + c) 0x0A

/-- A launch does not start on a cluster (R306). -/
def State.launchBusy (s : State) (c : Nat) : State := (s.inc VAT_C_LAUNCH_BUSY 1 c).raise 35 2

/-- The leave of a cluster is returned. -/
def State.vatGiveLeave (s : State) (c : Nat) : State :=
  if s.hasLeave lcVat (c / 16) c then s.giveLeave lcVat (c / 16) c else s

/-- The block under which cluster `c` holds the leave of a launch that is still to come (R307): a kernel that runs until then keeps its
own. -/
def vatNext (c : Nat) : Nat := 128 + c

/-- The leave of a launch of cluster `c` that does not start is returned. -/
def State.vatGiveNext (s : State) (c : Nat) : State :=
  if s.hasLeave lcVat (c / 16) (vatNext c) then s.giveLeave lcVat (c / 16) (vatNext c) else s

/-- A launch asks for the leave it needs, or starts without (R307): it waits after a refusal. -/
def State.startOrWait (s : State) (c : Nat) (k : VStart) : State :=
  let need := s.classNeed c k.pclass
  if need == 0 then s.startKernel c { k with target := s.now }
  else
    match s.askLeave ⟨lcVat, need, c / 16, c⟩ with
    | (true, t) => t.startKernel c { k with target := t.now }
    | (false, t) => (t.mapVcl c fun x => { x with wait := some (k, t.now + 100 * usTicks) }).wr VAT_C_CSTATE csWait c

/-- Region `r` keeps a shadow from its gating and accepts no work until it has applied (R30). -/
def State.regionKeeps (s : State) (r : Nat) : Bool :=
  s.keepsShadow 35 fun k =>
    let out := [VAT_C_TO_DEST, VAT_C_TO_SIDE, VAT_C_TO_EN].any fun f => f.id == k / 2 ^ 20
    k % 2 ^ 20 / (if out then 2 else 4) / 16 == r

/-- A launch on one cluster by GO or PROFILE_SET (R304, R306). -/
def State.goKernel (s : State) (c k : Nat) : State :=
  if s.cstate c != csIdle || s.regionKeeps (c / 16) then s.launchBusy c else s.startOrWait c (s.kernelOf k none s.now)

/-- Kernel slot `k` is launched on every cluster of its mask, at once (R304). -/
def State.launchSlot (s : State) (k : Nat) : State :=
  if !s.on VAT_K_VALID k then s.inc VAT_NO_KERNEL else forEach (s.kernelMask k) s fun t c => t.goKernel c k

/-- A VAT_LAUNCH action at its target (R304): each cluster of the mask is about to start. -/
def State.vatLaunch (s : State) (arg target : Nat) : State :=
  let k := bits arg 5 0
  if !s.on VAT_K_VALID k then s.inc VAT_NO_KERNEL
  else
    let x := s.kernelOf k (if bit arg 6 then some (bits arg 31 16) else none) target
    { s with vat := { s.vat with starts := (s.kernelMask k).foldl (fun l c => amSet l c x) s.vat.starts } }

/-- A kernel stops on cluster `c`, which goes to `to`: leave returns, and LAST_CYCLES records the run. -/
def State.endKernel (s : State) (c goal : Nat) : State :=
  let run := s.cstate c == csRun
  let t := s.when_ run fun t => (t.drainVat c).wr VAT_C_LAST_CYCLES (t.vcl c).cyc c
  let t := (t.mapVcl c fun x => { x with wait := none, loops := [] }).vatGiveLeave c
  t.wr VAT_C_CSTATE goal c

/-- A contained fault stops the kernel of cluster `c` (R300, R321). -/
def State.vatFault (s : State) (c cause detail : Nat) : State :=
  (s.endKernel c csFault).fault cause { level := 1, region := c / 16, cluster := c, detail := detail } 35 c

/-! Regions (R307, R316) -/

/-- Region `r` is power-gated: its clusters read OFF. -/
def State.regionOff (s : State) (r : Nat) : State :=
  forEach ((List.range 16).map (16 * r + ·)) s fun t c =>
    let t := ((t.endKernel c csOff).vatGiveNext c).mapVcl c fun x =>
      if s.on VAT_RETAIN then { pgm := x.pgm, lost := x.lost } else { lost := x.lost + 1 }
    { t with vat := { t.vat with units := t.vat.units.filter fun e => e.1 / 16 != c
                                 starts := amDel t.vat.starts c
                                 caps := t.vat.caps.filter fun e => e.1 / 4 != c } }

/-- Region `r` is powered: its clusters are IDLE, their units as after reset. -/
def State.regionOn (s : State) (r : Nat) : State :=
  forEach ((List.range 16).map (16 * r + ·)) s fun t c => t.wr VAT_C_CSTATE csIdle c

/-- REGION_EN becomes `v`. -/
def State.regions (s : State) (v : Nat) : State :=
  let old := s.rd VAT_REGION_EN
  let t := s.wr VAT_REGION_EN v
  (forEach (List.range 8) t fun t r =>
    if bit old r && !bit v r then t.regionOff r else if !bit old r && bit v r then t.regionOn r else t).showPower

/-- A cycle of a running cluster is counted: cycles and enabled units (R308). -/
def State.vatCycles (s : State) (c n : Nat) : State :=
  let en := (s.unitsOn c).length
  let t := (List.range n).foldl (fun (t : State) _ => (t.perf (128 + c) 0x00).perf (128 + c) 0x0B en) s
  t.mapVcl c fun x => { x with cyc := x.cyc + n }

/-! One instruction -/

/-- What an instruction sees as it issues: its cluster, its word, its address, the enabled units, and those in which it acts. -/
structure Issue where
  c : Nat
  w : Nat
  pc : Nat
  us : List Nat
  on : List Nat
  cached : Bool

/-- Where the cluster goes after an instruction (R327, R330): on, to a branch target, out of the innermost repeat, or to IDLE. -/
inductive Goes where
  | next
  | jump (target : Nat)
  | enter (len count : Nat)
  | leave
  | halt
deriving DecidableEq, Repr

/-- The program errors of R321. -/
def peIllegal : Nat := 1
def peDepth : Nat := 2
def peRange : Nat := 3
def peLast : Nat := 4
def peExit : Nat := 5
def pePc : Nat := 6

/-- The end of a body at address `pc` (R330): the innermost level is tested first, and the next when it finishes. -/
def endTest (pc : Nat) : List VLoop → List VLoop × Option Nat
  | [] => ([], none)
  | l :: t =>
    if l.last != pc then (l :: t, none)
    else if 1 < l.count then ({ l with count := l.count - 1, cap := false } :: t, some l.start)
    else endTest pc t

/-- PC becomes `pc` after the instruction at `i`, whose end of body has been tested; past 0x1FFF is a program error. -/
def State.vatGo_ (s : State) (c : Nat) (loops : List VLoop) (pc : Nat) : State :=
  let t := s.mapVcl c fun x => { x with loops := loops }
  if 0x1FFF < pc then (t.wr VAT_C_PC 0x1FFF c).vatFault c cVatProg pePc else t.wr VAT_C_PC pc c

/-- A repeat of `len` instructions after `pc` begins (R330, R331). -/
def VCluster.begin_ (x : VCluster) (pc len count : Nat) : VCluster :=
  let inside := match x.cache with
    | some k => decide (k.start ≤ pc + 1) && decide (pc + len < k.start + k.len)
    | none => false
  let take := decide (len ≤ 32) && !inside
  { x with loops := { start := pc + 1, last := pc + len, count := count, cap := take } ::
                      (if take then x.loops.map fun l => { l with cap := false } else x.loops)
           cache := if take then some { start := pc + 1, len := len, got := 0 } else x.cache }

/-- The cluster moves on after the instruction at `pc`. -/
def State.vatNext (s : State) (c pc : Nat) (g : Goes) : State :=
  let ls := (s.vcl c).loops
  let past (s : State) (ls : List VLoop) (last : Nat) : State :=
    let (l, dest) := endTest last ls
    s.vatGo_ c l (dest.getD (last + 1))
  match g with
  | .next => past s ls pc
  | .jump t => (s.vatCycles c 1).vatGo_ c ls t
  | .enter len count =>
    if count == 0 then past (s.vatCycles c 1) ls (pc + len)
    else (s.mapVcl c fun x => x.begin_ pc len count).wr VAT_C_PC (pc + 1) c
  | .leave =>
    match ls with
    | [] => s
    | l :: t => past s t l.last
  | .halt =>
    let t := s.raiseIf (s.vcl c).irq 35 0
    t.endKernel c csIdle

/-- The guard of an instruction in a unit, seen three instructions late (R320, R332). -/
def VUnit.guard (x : VUnit) (w : Nat) : Bool := (bit (x.h2.2 + 1) (bits w 30 29)) != bit w 31

/-- The address registers as the present instruction's AG stage leaves them, and stores, move one instruction on (R332). -/
def State.vatShift (s : State) (c : Nat) (us : List Nat) (before : List (Nat × (List (Nat × Nat) × Nat)))
    (old : List (Nat × List (Bool × Nat × Nat))) : State :=
  let t := s.mapVcl c fun x => let (r, p) := agePend x.pr x.pend; { x with pr := r, pend := p }
  forEach us t fun t u =>
    let t := forEach (amGetD [] old u) t fun t e => t.land c u e
    t.mapVu c u fun x =>
      let (r, p) := agePend x.ar x.pend
      { x with ar := r, pend := p, h2 := x.h1, h1 := amGetD ([], 0) before u }

/-- An instruction fetched in the first pass of the repeat whose body is captured is captured (R331). -/
def VCluster.capture (x : VCluster) (pc : Nat) : VCluster :=
  match x.cache with
  | some k =>
    if x.loops.any VLoop.cap && decide (k.start ≤ pc) && decide (pc < k.start + k.len) then
      { x with cache := some { k with got := setBit k.got (pc - k.start) } } else x
  | none => x

/-- The instruction word at PC of cluster `c` issues, if the cluster runs and `is` accepts the word (R305, R319 to R333). `err` names
a program error, `eff` is what it does in the units and the cluster, `go` where the cluster goes; a cluster-level instruction
takes no guard. -/
def State.issue (s : State) (c : Nat) (is : Nat → Bool) (level : Bool) (err : Issue → State → Option Nat)
    (eff : Issue → State → State) (go : Issue → State → Goes) : State :=
  let pc := s.rd VAT_C_PC c
  let w := s.pgmWord c pc
  let x := s.vcl c
  if 128 ≤ c || s.cstate c != csRun || !is w || (x.maxrun != 0 && x.maxrun * 256 ≤ x.cyc) then s
  else
    let us := s.unitsOn c
    let on := us.filter fun u => level || (s.vu c u).guard w
    let cached := match x.cache with
      | some k => decide (k.start ≤ pc) && decide (pc < k.start + k.len) && bit k.got (pc - k.start)
      | none => false
    let i : Issue := { c := c, w := w, pc := pc, us := us, on := on, cached := cached }
    match (if level && bits w 31 29 != 0 then some peIllegal else err i s) with
    | some e => s.vatFault c cVatProg e
    | none =>
      let t := s.mapVcl c fun x => x.capture pc
      let t := (t.vatCycles c 1).perf (128 + c) 0x01
      let t := if cached then t.perf (128 + c) 0x04 else t
      let t := if on.length < us.length then t.perf (128 + c) 0x03 (us.length - on.length) else t
      let before := us.map fun u => (u, ((t.vu c u).g, (t.vu c u).f))
      let old := us.map fun u => (u, (t.vu c u).st)
      let t := forEach us t fun t u => t.mapVu c u fun x => { x with st := [] }
      let g := go i t
      ((eff i t).vatShift c us before old).vatNext c pc g

end Sys2Proof.Machine
end

