-- ==== Sys2Proof/Machine/Collector.lean ====
section
/-! DEFINITION. The commands of the fault collector and of the counters (chapter 19): reports, records, ERR_N, the privileged clear,
self-faults, the heartbeat, injection, local fault status, and clearing and freezing counters. -/

namespace Sys2Proof.Machine

/-! Reports and records -/

/-- A vat kernel stops when an access of one of its units fails on the region's bus (R422). -/
def State.busErrStops (s : State) (cause region c : Nat) : State :=
  if cause == cBusErr && decide (region < 8) && decide (c < 128) && s.cstate c == csRun then s.endKernel c csFault else s

/-- A report at its source: a kernel that stops, and the page's local status and event (R422, R431, R436). -/
def State.noteReport (s : State) (r : Rep) : State :=
  ((s.busErrStops r.cause r.region r.cluster).localFault r.cause r.pg r.ch).perf r.pg 0xF4

/-- The reports that leave their sources in one cycle (R421 to R424, R431): those not masked pass up the levels. -/
def faultReport (rs : List Rep) (s : State) : State :=
  let rs := rs.filter fun r => faultClass r.cause != 0
  if s.dark then s
  else
    let t := forEach rs s State.noteReport
    t.reportUp ((rs.filter fun r => !t.faultMasked r.cause r.pg).map fun r => ⟨r.cause, ⟨r.level, r.region, r.cluster, r.unit, r.detail⟩, r.dup⟩)

/-- CLOSE of record `n` is written 1 (R424). -/
def recordClose (n : Nat) (s : State) : State :=
  if 64 ≤ n || s.recState n != 1 then s else ((s.wr FLT_REC_CLOSE 1 n).wr FLT_REC_RSTATE 2 n).showOpen

/-! ERR_N (R425) -/

/-- ERR_N rises once nothing holds it low. -/
def State.errSettle (s : State) : State :=
  if s.flt.errUntil.isSome || s.on FLT_SAFE || s.flt.hbLost || (s.on FLT_ERR_MODE && !s.flt.errRel) then s
  else { s with pins := { s.pins with errN := true } }.wr FLT_ERR_LOW 0

/-- The width ends. -/
def errWidthExpiry (s : State) : State :=
  match s.flt.errUntil with
  | none => s
  | some u =>
    let t := s.advance u
    { t with flt := { t.flt with errUntil := none } }.errSettle

/-- ERR_REL is written 1: in PULSE mode nothing waits for it. -/
def errRel (s : State) : State :=
  if s.dark || !s.on FLT_ERR_MODE || s.pins.errN then s else { s with flt := { s.flt with errRel := true } }.errSettle

/-! The privileged clear (R428) -/

/-- A clear is refused. -/
def State.clrRefused (s : State) (cause : Nat) : State := ((s.wr FLT_CLR_CAUSE cause).wr FLT_CLR_REFUSED 1).raise 2 6

/-- A fatal record is OPEN. -/
def State.fatalOpen (s : State) : Bool := (List.range 64).any fun n => s.recState n == 1 && s.rd FLT_REC_CLASS n == 3

/-- The record table is emptied. -/
def State.emptyRecords (s : State) : State :=
  let fs := [FLT_REC_CAUSE, FLT_REC_CLASS, FLT_REC_LEVEL, FLT_REC_INJ, FLT_REC_CLOSE, FLT_REC_RSTATE, FLT_REC_REGION, FLT_REC_CLUSTER,
             FLT_REC_UNIT, FLT_REC_DETAIL, FLT_REC_FIRST_LT, FLT_REC_DUP]
  let t := (List.range 64).foldl (fun u n => fs.foldl (fun v f => v.wr f 0 n) u) s
  { t with flt := { t.flt with order := [] } }.showOpen

/-- SAFE_CLR is written 1 (R428, R429): `same` says that the copies compare equal in the self-check. DEDUCED (log 21): check 3 judges
the table as it stood, and the self-check empties it when the clear is accepted. -/
def safeClr (same : Bool) (s : State) : State :=
  if s.dark then s
  else if !s.on FLT_SAFE then s.clrRefused 1
  else if !same then s.clrRefused 2
  else
    let t := { s with flt := { s.flt with disagree := false } }.wr FLT_SELF_FAULT 0
    if t.fatalOpen then t.clrRefused 3
    else if !t.on FLT_RELEASE_SEEN && t.mode != .listen then t.clrRefused 4
    else let t := t.emptyRecords
         { t with flt := { t.flt with clrPend := true } }

/-- An accepted clear takes effect at a frame boundary (R428). -/
def State.safeLeave (s : State) : State :=
  if !s.flt.clrPend || !s.on FLT_SAFE then s
  else
    let t := { s with flt := { s.flt with clrPend := false } }
    let t := (((t.wr FLT_SAFE 0).wr UPB_SIL_FAULT 0).wr UPB_GUARD_TRIP 0).wr FLT_RELEASE_SEEN 0
    ((t.updTxdis).raise 2 5).errSettle

/-! Self-faults and the heartbeat (R429) -/

/-- The collector's two copies disagree. -/
def State.selfFault (s : State) : State :=
  let t := { s with flt := { s.flt with disagree := true } }
  ((t.wr FLT_SELF_FAULT 1).safeEntry cSelf).raise 2 8

/-- COLLECTOR_SELF_FAULT. -/
def collectorSelfFault (s : State) : State := if s.dark then s else s.selfFault

/-- The watched heartbeat is absent for 10 µs. -/
def fltHeartbeatLoss (s : State) : State :=
  if s.dark then s
  else
    let t := { s with flt := { s.flt with hbLost := true }, pins := { s.pins with errN := false, txdisN := false } }
    t.wr FLT_ERR_LOW 1

/-- The FLT domain runs again. -/
def fltHeartbeatReturn (s : State) : State :=
  if !s.flt.hbLost then s else { s with flt := { s.flt with hbLost := false } }.collect cFltClock 0 srcPackage

/-! Injection (R430) -/

/-- The level at which a cause is reported (R422); a cause that comes from several takes it from the region code (R438). -/
def causeLevel (c region : Nat) : Nat :=
  if c == cUnitParity || c == cBusErr then 0
  else if c == cPgmParity || c == cVatProg then 1
  else if region == 28 then 4 else if 24 ≤ region then 3 else 2

/-- INJ_GO is written 1: in FACTORY one report is presented with its duplicates, and an injected GUARD_TRIP trips the guard. Alone at every
level, it passes up as it is and moves no requester order (R32, R423). -/
def faultInject (s : State) : State :=
  if s.mode != .factory then s
  else
    let c := s.rd FLT_INJ_CAUSE
    let w := s.rd FLT_INJ_SOURCE
    let src : FaultSrc := ⟨causeLevel c (bits w 4 0), bits w 4 0, bits w 11 5, bits w 15 12, bits w 23 16⟩
    let t := s.collect c (s.rd FLT_INJ_REPEAT) src true
    if c == cGuardTrip then ((t.assertTxdis.wr UPB_GUARD_TRIP 1).inc UPB_GUARD_TRIPS).raise 10 10 else t

/-- INJ_SELF is written 1: in FACTORY a parity bit of the collector's state is inverted. -/
def injSelf (s : State) : State := if s.mode != .factory then s else s.selfFault

/-! Local fault status and counters (R431 to R435) -/

/-- LF_CLR of page `pg` is written 1. -/
def lfClr (pg : Nat) (s : State) : State :=
  [C_LF_CAUSE, C_LF_CLASS, C_LF_VALID, C_LF_SOURCE, C_LF_DUP].foldl (fun t f => t.wr f 0 pg) s

/-- CLEAR of page `pg` is written 1; the vat's clusters count under 128 + c. -/
def perfClear (pg : Nat) (s : State) : State :=
  (List.range 8).foldl (fun t k => t.perfSet pg k 0) ((s.wr C_PERF_CYC_LO 0 pg).wr C_PERF_CYC_HI 0 pg)

/-- FREEZE_ALL is written: it acts at the first slot edge at least 2 µs later (R433). -/
def freezeAllWrite (v : Bool) (s : State) : State :=
  let t := s.flag FLT_FREEZE_ALL v
  { t with flt := { t.flt with freezePend := some (s.now + 2 * usTicks, v) } }

/-- FREEZE_ALL acts at the first slot edge that lies 2 µs or more after its write (R433). -/
def State.freezeEdge (s : State) : State :=
  match s.flt.freezePend with
  | some (t, v) => if t ≤ s.now then { s with flt := { s.flt with freezePend := none, frozen := v } } else s
  | none => s

/-- Counter `k` of page `p` wraps and goes on to `rest` (R434, R435). A wrap that an event of this model brings about happens within that
event's command; this one is for the counts of clock cycles and levels (log 22). -/
def perfCounterWrap (p k rest : Nat) (s : State) : State :=
  if s.dark || s.perfStopped p || !s.on C_PERF_EN (perfCopy p k) || s.perfChained p k || 8 ≤ k then s
  else (s.perfSet p k rest).perfWrapped p k

/-! The meanings -/

/-- FAULT_REPORT. -/
def execFaultReport (rs : List Rep) (s : State) : Host.Outcome State Fault Refusal := .next (faultReport rs s)
/-- RECORD_CLOSE. -/
def execRecordClose (n : Nat) (s : State) : Host.Outcome State Fault Refusal := .next (recordClose n s)
/-- ERR_WIDTH_EXPIRY. -/
def execErrWidthExpiry (s : State) : Host.Outcome State Fault Refusal := .next (errWidthExpiry s)
/-- ERR_REL. -/
def execErrRel (s : State) : Host.Outcome State Fault Refusal := .next (errRel s)
/-- SAFE_CLR. -/
def execSafeClr (same : Bool) (s : State) : Host.Outcome State Fault Refusal := .next (safeClr same s)
/-- COLLECTOR_SELF_FAULT. -/
def execCollectorSelfFault (s : State) : Host.Outcome State Fault Refusal := .next (collectorSelfFault s)
/-- FLT_HEARTBEAT_LOSS. -/
def execFltHeartbeatLoss (s : State) : Host.Outcome State Fault Refusal := .next (fltHeartbeatLoss s)
/-- FLT_HEARTBEAT_RETURN. -/
def execFltHeartbeatReturn (s : State) : Host.Outcome State Fault Refusal := .next (fltHeartbeatReturn s)
/-- FAULT_INJECT. -/
def execFaultInject (s : State) : Host.Outcome State Fault Refusal := .next (faultInject s)
/-- INJ_SELF. -/
def execInjSelf (s : State) : Host.Outcome State Fault Refusal := .next (injSelf s)
/-- LF_CLR. -/
def execLfClr (pg : Nat) (s : State) : Host.Outcome State Fault Refusal := .next (lfClr pg s)
/-- PERF_CLEAR. -/
def execPerfClear (pg : Nat) (s : State) : Host.Outcome State Fault Refusal := .next (perfClear pg s)
/-- FREEZE_ALL_WRITE. -/
def execFreezeAllWrite (v : Bool) (s : State) : Host.Outcome State Fault Refusal := .next (freezeAllWrite v s)
/-- PERF_COUNTER_WRAP. -/
def execPerfCounterWrap (p k rest : Nat) (s : State) : Host.Outcome State Fault Refusal := .next (perfCounterWrap p k rest s)

end Sys2Proof.Machine
end

