-- ==== Sys2Proof/Machine/Launch.lean ====
section
/-! DEFINITION. The launch table (R55 to R58): arming, disarming, firing with its collisions, and the actions. -/

namespace Sys2Proof.Machine

/-! Entries (R55) -/

def stIdle : Nat := 0
def stArmed : Nat := 1
def stFired : Nat := 2
def stLate : Nat := 3
def stCollide : Nat := 4
def stSkipped : Nat := 5
def stMisaligned : Nat := 6

def actVatLaunch : Nat := 1
def actCoefSwap : Nat := 2
def actInterrupt : Nat := 3
def actTbCapture : Nat := 4

/-- The target of entry `n` as an instant (R4, R55). -/
def State.leTarget (s : State) (n : Nat) : Nat := ltNear s.now (s.rd64 LTM_LE_TARGET_LO LTM_LE_TARGET_HI n)

/-- An entry that is refused or collides (R56, R57). -/
def State.leReject (s : State) (n st : Nat) : State :=
  ((((s.wr LTM_LE_STATUS st n).wr LTM_LE_ARMED 0 n).inc LTM_LAUNCH_REJECT)).raise 6 6

/-- PERIOD and ACTION of entry `n` take what a write of its last word carries: an armed entry keeps its PERIOD (R56), and a reserved
ACTION is kept out (R15). -/
def State.leWord (s : State) (n word : Nat) : State :=
  let t := if s.on LTM_LE_ARMED n then s else s.wr LTM_LE_PERIOD (bits word 23 8) n
  if bits word 27 24 ≤ 4 then t.wr LTM_LE_ACTION (bits word 27 24) n else t

/-- The last word of entry `n` is written with ARMED = 1 (R56). -/
def launchEntryArm (n word : Nat) (s : State) : State :=
  if 256 ≤ n then s
  else if s.on LTM_LE_ARMED n then s.leWord n word
  else
    let t := s.leWord n word
    let g := ltDiff (t.rd64 LTM_LE_TARGET_LO LTM_LE_TARGET_HI n) t.lt64
    let act := t.rd LTM_LE_ACTION n
    let p := if act == actCoefSwap || act == actVatLaunch then frameTicks else slotTicks
    if g < 250 * usTicks then t.leReject n stLate
    else if t.leTarget n % p != 0 then t.leReject n stMisaligned
    else (t.wr LTM_LE_ARMED 1 n).wr LTM_LE_STATUS stArmed n

/-! Actions (R58) -/

/-- The banks a COEF_SWAP names: 0 to 15 of A, 16 to 31 of B, 32 to 47 of U. ARG is taken whole and a reserved SIDE, 5 to 7, names no bank
(DESIGN CHOICE, log 169). -/
def swapTargets (arg : Nat) : List Nat :=
  let m := bitList 16 arg
  match bits arg 18 16 with
  | 0 => m
  | 1 => m.map (16 + ·)
  | 2 => m ++ m.map (16 + ·)
  | 3 => m.map (32 + ·)
  | 4 => m ++ m.map (16 + ·) ++ m.map (32 + ·)
  | _ => []

/-- Bank `b` is ready, by a commit that did not fall in this cycle (R303). -/
def State.bankReady (s : State) (b : Nat) : Bool :=
  (if b < 32 then s.on LRX_BANK_READY b else bit s.up.uReady (b - 32)) && !(amGet? s.vat.readyAt b).any fun r => sameCycle s.now r

/-- The inactive bank of pair `b` becomes the active one (R67). -/
def State.turnBank (s : State) (b : Nat) : State :=
  if b < 32 then s.wr LRX_BANK (1 - s.rd LRX_BANK b) b else { s with vat := { s.vat with uAct := s.vat.uAct ^^^ 2 ^ (b - 32) } }

/-- One bank pair is swapped when its inactive bank is ready (R67, R303), else the miss is counted (R312); it is not ready afterwards. -/
def State.swapBank (s : State) (b : Nat) : State :=
  let t := if s.bankReady b then s.turnBank b else (s.inc VAT_SWAP_NOTREADY).raise 35 5
  let t := { t with vat := { t.vat with swapAt := amSet t.vat.swapAt b s.now } }
  if b < 32 then t.wr LRX_BANK_READY 0 b else { t with up := { t.up with uReady := clrBit t.up.uReady (b - 32) } }

/-- What an entry acts on (R57): coefficient banks, clusters from 100 on, the time-base capture at 300. -/
def State.leResources (s : State) (n : Nat) : List Nat :=
  let act := s.rd LTM_LE_ACTION n
  let arg := s.rd LTM_LE_ARG n
  if act == actCoefSwap then swapTargets arg
  else if act == actVatLaunch then (s.kernelMask (bits arg 5 0)).map (100 + ·)
  else if act == actTbCapture then [300] else []

/-- The action of entry `n` (R58). -/
def State.leAct (s : State) (n : Nat) : State :=
  let act := s.rd LTM_LE_ACTION n
  let arg := s.rd LTM_LE_ARG n
  if act == actVatLaunch then s.vatLaunch arg (s.leTarget n)
  else if act == actCoefSwap then forEach (swapTargets arg) s State.swapBank
  else if act == actInterrupt then (s.wr LTM_LAUNCH_TAG (arg % 256)).raise 6 5
  else if act == actTbCapture then s.capture 0
  else s

/-- The target of a periodic entry after it fired at `g` (R57): whole periods on, in the future. -/
def nextTarget (now g period : Nat) : Nat :=
  let p := period * frameTicks
  if now < g + p then g + p else g + ((now - g) / p + 1) * p

/-- Entry `n` fires with this status; a periodic one re-arms (R57). -/
def State.leFire (s : State) (n st : Nat) : State :=
  let g := s.leTarget n
  let p := s.rd LTM_LE_PERIOD n
  let t := s.leAct n
  if p == 0 then (t.wr LTM_LE_STATUS st n).wr LTM_LE_ARMED 0 n
  else (t.wr64 LTM_LE_TARGET_LO LTM_LE_TARGET_HI (nextTarget t.now g p) n).wr LTM_LE_STATUS stArmed n

/-- Entries of one target fire in ascending order; one that meets a resource an earlier one acts on collides (R57). -/
def State.leFireAll (s : State) (st : Nat) : List Nat → List Nat → State
  | [], _ => s
  | n :: rest, used =>
    let r := s.leResources n
    if r.any used.contains then (s.leReject n stCollide).leFireAll st rest used
    else (s.leFire n st).leFireAll st rest (r ++ used)

/-- The entries that fire at one instant fire now, and which they are is kept for a disarm of the same cycle (R56, R57). -/
def State.leFireNow (s : State) (st : Nat) (ns : List Nat) : State :=
  let t := s.leFireAll st ns []
  let old := if t.time.firedAt == s.now then t.time.fired else []
  { t with time := { t.time with firedAt := s.now, fired := old ++ ns } }

/-- The armed entries. -/
def State.armed (s : State) : List Nat := (List.range 256).filter fun n => s.on LTM_LE_ARMED n

/-- LT reaches the earliest target, or a slew has carried it past (R41, R42, R57). -/
def launchEntryFire (s : State) : State :=
  if s.ltIs ltFree || s.ltIs ltAcq then s
  else
    match minList (s.armed.map s.leTarget) with
    | none => s
    | some g =>
      let t := s.advance g
      t.leFireNow stFired (t.armed.filter fun n => t.leTarget n == g)

/-- An LT step has skipped the targets of armed entries: they fire at the step, earliest first, with status SKIPPED (R41). -/
def State.leSkipped (s : State) : State :=
  let late := s.armed.filter fun n => decide (s.leTarget n < s.now)
  let gs := (late.map s.leTarget).eraseDups.mergeSort (fun a b => decide (a ≤ b))
  forEach gs s fun t g => t.leFireNow stSkipped (late.filter fun n => s.leTarget n == g)

/-- Entry `n` is due at this instant: it fires in this cycle. -/
def State.leDue (s : State) (n : Nat) : Bool := s.on LTM_LE_ARMED n && !(s.ltIs ltFree || s.ltIs ltAcq) && s.leTarget n == s.now

/-- The last word of entry `n` is written with ARMED = 0 (R56). In the cycle in which the entry fires the disarm loses and STATUS reads
FIRED; an entry that is disarmed reads IDLE (DESIGN CHOICE, log 170). -/
def launchEntryDisarm (n word : Nat) (s : State) : State :=
  if 256 ≤ n then s
  else
    let t := s.leWord n word
    let t := if s.leDue n then t.leFireNow stFired (t.armed.filter fun k => t.leTarget k == t.now) else t
    if t.time.firedAt == t.now && t.time.fired.contains n then (if t.rd LTM_LE_STATUS n == stArmed then t.wr LTM_LE_STATUS stFired n else t)
    else if s.on LTM_LE_ARMED n then (t.wr LTM_LE_ARMED 0 n).wr LTM_LE_STATUS stIdle n else t

/-! The meanings -/

/-- LAUNCH_ENTRY_ARM. -/
def execLaunchEntryArm (n word : Nat) (s : State) : Host.Outcome State Fault Refusal := .next (launchEntryArm n word s)
/-- LAUNCH_ENTRY_DISARM. -/
def execLaunchEntryDisarm (n word : Nat) (s : State) : Host.Outcome State Fault Refusal := .next (launchEntryDisarm n word s)
/-- LAUNCH_ENTRY_FIRE. -/
def execLaunchEntryFire (s : State) : Host.Outcome State Fault Refusal := .next (launchEntryFire s)

end Sys2Proof.Machine
end

