-- ==== Sys2Proof/Machine/Cave.lean ====
section
/-! DEFINITION. The commands of the cave (chapter 10, R232 to R259): initialisation, takes and frees, waiting, retention, purge,
the host window, error protection, scrubbing and retraining. -/

namespace Sys2Proof.Machine

/-! Initialisation (R235) -/

/-- The populated channels become `st` with cause 0, the others idle (R232, R258). -/
def State.ddrTrain (s : State) (st : Nat) : State :=
  (List.range 16).foldl (fun t ch =>
    let p := decide (ch < s.cavN)
    ((t.flag DDR_POPULATED p ch).wr DDR_TRAIN_STATE (if p then st else 0) ch).wr DDR_TRAIN_CAUSE 0 ch) s

/-- Write of INIT_GO (R235): outside OFF and FAIL it is ignored. -/
def caveInit (s : State) : State :=
  if s.rd CAV_STATE == cavOff || s.rd CAV_STATE == cavFail then
    (((s.wr CAV_STATE cavTrain).wr CAV_INIT_GO 1).wr CAV_POOL_READY 0).ddrTrain 1
  else s

/-- Every pool container is free again with GEN 0: what the ownership table and the lists hold after it is rewritten (R235). Containers held
before are lost; COMMITTED counts them, so that the equality of R214 holds (DESIGN CHOICE, log 179). -/
def State.clearPool (s : State) : State :=
  let al := List.range 64
  let t := { s with cave := { s.cave with own := [], data := [], purge := s.cave.purge.filter fun e => e.2.exp
                                          opens := s.cave.opens.filter OpenEnt.exp, zeroed := s.poolBase } }
  let t := t.setRetained (t.cave.retained.filter Retained.exp)
  let t := al.foldl (fun u n =>
    let lost := (u.heldOf n).filter fun c => !c.exp
    let v := if lost.isEmpty then u
             else (u.setHeld n ((u.heldOf n).filter Held.exp)).inc64 QSH_AL_COMMITTED_LO QSH_AL_COMMITTED_HI lost.length n
    v.wr CAV_AL_HELD_ALL 0 n) t
  let t := ((t.wr CAV_C_TOT s.cTot).wr CAV_POOL_BASE s.poolBase).setPool [] []
  ((t.wr CAV_KSEL0_COUNT 0).wr CAV_KSEL1_COUNT 0).wr CAV_RETIRED (s.cave.expOwn.filter fun e => e.2.owner == 0xFD).length

/-- Training ends (R235): with no failed channel the cave goes to INIT, else to FAIL. `fails` names channel and cause. -/
def caveTrainDone (fails : List (Nat × Nat)) (s : State) : State :=
  if s.rd CAV_STATE != cavTrain then s
  else
    let bad := fails.filter fun e => decide (e.1 < s.cavN) && (e.2 == 1 || e.2 == 2 || e.2 == 3)
    let t := s.ddrTrain 2
    match minList (bad.map Prod.fst) with
    | none => (t.clearPool.wr CAV_STATE cavInit).zeroSome
    | some ch =>
      let t := bad.foldl (fun u e => (u.wr DDR_TRAIN_STATE 3 e.1).wr DDR_TRAIN_CAUSE e.2 e.1) t
      (((((t.wr CAV_STATE cavFail).wr CAV_FAIL_CH ch).wr CAV_INIT_GO 0)).raise 16 1).raise 17 2

/-- One scrub pass in ticks (R252). -/
def State.scrubPass (s : State) : Nat := s.rd CAV_SCRUB_HOURS * 3600000 * msTicks

/-- Zeroing ends (R235): the rest of the pool is pushed, POOL_READY and INT_STAT.READY are set. -/
def caveReady (s : State) : State :=
  if s.rd CAV_STATE != cavInit then s
  else
    let t := s.pushZeroed (s.rd CAV_C_TOT)
    let t := ((t.wr CAV_STATE cavReady).wr CAV_POOL_READY 1).wr CAV_INIT_GO 0
    { t with cave := { t.cave with scrubDue := t.now + t.scrubPass } }.raise 16 0

/-! Takes, frees, waits -/

/-- A take for each seal of allocation `al` that has no container (R238, R242). -/
def containerTake (al : Nat) (s : State) : State := s.takeAll al

/-- A container that is freed leaves every list it stands on (R243). -/
def State.offLists (s : State) (exp : Bool) (h al : Nat) : State :=
  let here (c : Held) := c.handle == h && c.exp == exp
  let t := if (s.heldOf al).any here then s.setHeld al ((s.heldOf al).filter fun c => !here c) else s
  let r (x : Retained) := x.handle == h && x.exp == exp
  if t.cave.retained.any r then t.setRetained (t.cave.retained.filter fun x => !r x) else t

/-- A free passes every check of R241. -/
def State.freeOk (s : State) (exp : Bool) (h owner : Nat) : Bool :=
  let o := s.ownOf exp (hIndex h)
  decide (hIndex h < (if exp then 4096 else s.rd CAV_C_TOT)) && o.owner != 0xFF && o.owner == owner && o.gen == hGen h

/-- A free by the retention engine (`purger` false) or the purge engine (R241). -/
def containerFree (purger exp : Bool) (h owner : Nat) (s : State) : State :=
  if s.freeOk exp h owner then
    match (s.heldOf owner).find? fun c => c.handle == h && c.exp == exp with
    | some c => if purger then s.purgeOne owner c else (s.offLists exp h owner).freeCont exp h owner
    | none => (s.offLists exp h owner).freeCont exp h owner
  else s.freeCont exp h owner

/-- The wait of allocation `al` in a store has passed WAIT_TH: it is counted once (R242). -/
def waitLong (exp : Bool) (al : Nat) (s : State) : State :=
  match (s.waitersOf exp).find? fun w => w.al == al && !w.counted with
  | none => s
  | some w =>
    if s.rd CAV_WAIT_TH == 0 then s
    else
      let t := s.advance (w.since + s.rd CAV_WAIT_TH * usTicks + 1)
      let t := t.setWaiters exp ((t.waitersOf exp).map fun x => if x.al == al then { x with counted := true } else x)
      (t.inc CAV_WAIT_LONG).raise 16 3

/-- The retained container that is due first is freed (R244). -/
def retainExpiry (s : State) : State :=
  match minList (s.cave.retained.map Retained.due) with
  | none => s
  | some d =>
    match s.cave.retained.find? fun r => r.due == d with
    | none => s
    | some r =>
      let t := s.advance d
      (t.setRetained (t.cave.retained.erase r)).freeCont r.exp r.handle r.al

/-! Purge (R245) -/

/-- Allocation `al` is set in PURGE_MASK. -/
def State.purgeMasked (s : State) (al : Nat) : Bool :=
  if al < 32 then bit (s.rd CAV_PURGE_MASK_LO) al else bit (s.rd CAV_PURGE_MASK_HI) (al - 32)

/-- Write of CMD = PURGE with CMD_GO (R245): the containers HELD now are those to free. -/
def purge (s : State) : State :=
  if s.on CAV_CMD_GO then s
  else
    let l := ((List.range 64).filter s.purgeMasked).flatMap fun al => (s.heldOf al).map fun c => (al, c)
    { s with cave := { s.cave with purge := l } }.wr CAV_CMD 1 |>.wr CAV_CMD_GO 1

/-- The purge ends (R245): containers a commit took meanwhile stay. -/
def purgeDone (s : State) : State :=
  if !s.on CAV_CMD_GO then s
  else
    let t := s.cave.purge.foldl (fun u e => if (u.heldOf e.1).contains e.2 then u.purgeOne e.1 e.2 else u) s
    ({ t with cave := { t.cave with purge := [] } }.wr CAV_CMD_GO 0).raise 16 8

/-! The host window (R240, R255) -/

/-- Write of WIN_GO (R255): the container named is checked against its ownership entry and read into the window. -/
def caveWindowRead (s : State) : State := s.windowRead

/-! Error protection, scrubbing, retraining -/

/-- DDR channel `ch` as a source (R24, R438). -/
def srcDdr (ch : Nat) : FaultSrc := { level := 0, region := ddrRegion ch, unit := ch % 4, detail := ch }

/-- The container that channel `ch` holds at offset `off`, in 64-byte units (R233). -/
def State.eccIndex (s : State) (ch off : Nat) : Nat := cavAddr s.cavN ch (off * 64) / 16384

/-- An ECC error on a cave access at channel `ch`, offset `off` in 64-byte units (R250): what is lost hangs on the region it lies in (R233,
R234). A gap holds nothing, so an error there only counts, as in the scratch region (DEDUCED, log 178). -/
def caveEccError (ch off : Nat) (kind : EccKind) (s : State) : State :=
  let ce (t : State) := (t.inc DDR_CE 1 ch).wr DDR_LAST_ERR off ch
  let ue (t : State) := (t.inc DDR_UE 1 ch).wr DDR_LAST_ERR off ch
  match kind with
  | .corrected => ((ce s).fault cDdrCe (srcDdr ch) 17 ch).raise 17 0
  | .express idx => s.poison true idx
  | .uncorrectable twin =>
    match cavRegionOf s.cavN (s.rd CAV_C_TOT) (s.eccIndex ch off) with
    | .pool => (((ue s).poison false (s.eccIndex ch off)).fault cDdrUe (srcDdr ch) 17 ch).raise 17 1
    | .gap | .scratch => ue s
    | .owners _ | .ring _ =>
      if twin then ((((ue s).wr CAV_STATE cavFail).wr CAV_POOL_READY 0).fault cMetaUeBoth srcPackage 16).raise 17 1
      else ((ue s).fault cMetaUeOne (srcRegion 13) 16).raise 17 1

/-- One scrub step of 1 MiB, 64 containers (R252). -/
def State.scrubbed (s : State) : State :=
  let p := s.rd CAV_SCRUB_POS + 64
  if p < s.rd CAV_C_TOT then s.wr CAV_SCRUB_POS p
  else
    let late := decide (s.cave.scrubDue < s.now)
    let t := { s with cave := { s.cave with scrubDue := s.now + s.scrubPass } }
    ((t.wr CAV_SCRUB_POS 0).inc CAV_SCRUB_PASSES).raiseIf late 16 7

/-- The scrub asks leave for its next step and makes it, or asks again 1 ms later (R252, R414). -/
def scrubStep (s : State) : State :=
  if !s.on CAV_SCRUB_EN || s.rd CAV_STATE != cavReady then s
  else
    let s := match s.cave.scrubRetry with
      | some d => { s.advance d with cave := { (s.advance d).cave with scrubRetry := none } }
      | none => s
    match s.askLeave ⟨lcScrub, 200, 13, 0⟩ with
    | (true, t) => t.scrubbed.giveLeave lcScrub 13 0
    | (false, t) => { t with cave := { t.cave with scrubRetry := some (t.now + msTicks) } }.inc CAV_SCRUB_REFUSED

/-- One retraining slice of channel `ch`, taken under leave (R252, R414). -/
def ddrRetrainSlice (ch : Nat) (s : State) : State :=
  if 16 ≤ ch || s.rd DDR_TRAIN_STATE ch != 2 then s
  else
    match s.askLeave ⟨lcDdrRetrain, 300, ddrRegion ch, 0⟩ with
    | (true, t) => (t.inc DDR_RETRAINS 1 ch).giveLeave lcDdrRetrain (ddrRegion ch) 0
    | (false, t) => t

/-- A DIMM temperature reading in °C, two's complement in a byte; HOT from 85 °C on (R259). -/
def dimmTempHot (ch temp : Nat) (s : State) : State :=
  if 16 ≤ ch then s else (s.wr DDR_TEMP temp ch).raiseIf (decide (85 ≤ toS 8 temp)) 17 3

/-! The meanings -/

/-- CAVE_INIT. -/
def execCaveInit (s : State) : Host.Outcome State Fault Refusal := .next (caveInit s)
/-- CAVE_TRAIN_DONE. -/
def execCaveTrainDone (fails : List (Nat × Nat)) (s : State) : Host.Outcome State Fault Refusal := .next (caveTrainDone fails s)
/-- CAVE_READY. -/
def execCaveReady (s : State) : Host.Outcome State Fault Refusal := .next (caveReady s)
/-- CONTAINER_TAKE. -/
def execContainerTake (al : Nat) (s : State) : Host.Outcome State Fault Refusal := .next (containerTake al s)
/-- CONTAINER_FREE. -/
def execContainerFree (purger exp : Bool) (h owner : Nat) (s : State) : Host.Outcome State Fault Refusal :=
  .next (containerFree purger exp h owner s)
/-- WAIT_LONG. -/
def execWaitLong (exp : Bool) (al : Nat) (s : State) : Host.Outcome State Fault Refusal := .next (waitLong exp al s)
/-- RETAIN_EXPIRY. -/
def execRetainExpiry (s : State) : Host.Outcome State Fault Refusal := .next (retainExpiry s)
/-- PURGE. -/
def execPurge (s : State) : Host.Outcome State Fault Refusal := .next (purge s)
/-- PURGE_DONE. -/
def execPurgeDone (s : State) : Host.Outcome State Fault Refusal := .next (purgeDone s)
/-- CAVE_WINDOW_READ. -/
def execCaveWindowRead (s : State) : Host.Outcome State Fault Refusal := .next (caveWindowRead s)
/-- CAVE_ECC_ERROR. -/
def execCaveEccError (ch off : Nat) (kind : EccKind) (s : State) : Host.Outcome State Fault Refusal :=
  .next (caveEccError ch off kind s)
/-- SCRUB_STEP. -/
def execScrubStep (s : State) : Host.Outcome State Fault Refusal := .next (scrubStep s)
/-- DDR_RETRAIN_SLICE. -/
def execDdrRetrainSlice (ch : Nat) (s : State) : Host.Outcome State Fault Refusal := .next (ddrRetrainSlice ch s)
/-- DIMM_TEMP_HOT. -/
def execDimmTempHot (ch temp : Nat) (s : State) : Host.Outcome State Fault Refusal := .next (dimmTempHot ch temp s)

end Sys2Proof.Machine
end

