-- ==== Sys2Proof/Machine/Power.lean ====
section
/-! DEFINITION. Mode requests and transitions, GRAZE, STABLE, wake causes and the governor's commands (chapter 18, R401 to R420). -/

namespace Sys2Proof.Machine

/-! Common steps of entries and exits -/

/-- A sleep entry begins (R412): the wake sources of its mode are sampled from here on. -/
def State.startEntry (s : State) (m : Mode) : State := (s.startTransit m).wr PWR_WAKE_LATCH 0

/-- The DIMMs enter self-refresh, and the cave with them (R403, R409). -/
def State.selfRefresh (s : State) : State :=
  let t := (List.range 16).foldl (fun u ch => if u.rd DDR_TRAIN_STATE ch == 2 then u.wr DDR_TRAIN_STATE 4 ch else u) s
  if t.rd CAV_STATE == cavReady then t.wr CAV_STATE cavRefresh else t

/-- The DIMMs leave self-refresh (R407, R411), and the takes that waited for that are served (R242). -/
def State.refreshExit (s : State) : State :=
  let t := (List.range 16).foldl (fun u ch => if u.rd DDR_TRAIN_STATE ch == 4 then u.wr DDR_TRAIN_STATE 2 ch else u) s
  if t.rd CAV_STATE == cavRefresh then State.serveWaiters 64 (t.wr CAV_STATE cavReady) false else t

/-- A carrier that is off runs from stored state, or acquires anew where it has none (R82, R404). -/
def State.restoreCarrier (s : State) (c : Nat) : State :=
  if s.acq c != 0 then s else s.carrierTo c (if bit s.rx.stored c then 5 else 1)

/-- The terminal sleeps: the control chain is off, and LT goes from LOCKED to HOLDOVER (R39, R43, R405). -/
def State.sleep (s : State) : State :=
  let t := s.carriersOff
  let t := if t.ltIs ltLocked then t.ltUnlock ltHoldover else t
  { t with pwr := { t.pwr with awake := false, sleepDue := false } }

/-- A miss that waited for LT to be LOCKED ends the wake (R43). -/
def State.sleepIfDue (s : State) : State :=
  if s.mode == .graze && s.pwr.sleepDue && s.pwr.transit.isNone && s.pwr.wake == 0 && s.ltIs ltLocked then s.sleep else s

/-- The exit from GRAZE begins (R407): the gated regions, the DIMMs and both carriers come back. -/
def State.beginGrazeExit (s : State) : State :=
  let t := (s.startTransit (if s.join.toListen then .listen else .service)).wr PWR_WAKE_CAUSE s.pwr.wake
  let t := { t with pwr := { t.pwr with wake := 0, sleepDue := false, awake := true } }
  let en := bitList 8 (t.rd VAT_REGION_EN)
  let t := [0, 1].foldl State.restoreCarrier ((forEach en t State.regionOn).refreshExit)
  let resumed (x : Nat) : Nat := t.now - (t.pwr.grazeAt - x)
  { t with tim := { t.tim with tbs := t.tim.tbs.map fun e =>
      (e.1, { e.2 with lastValid := resumed e.2.lastValid, holdSince := resumed e.2.holdSince, masterAt := resumed e.2.masterAt }) } }

/-- The exit from STABLE begins (R411). -/
def State.beginStableExit (s : State) : State :=
  let t := (s.startTransit .listen).wr PWR_WAKE_CAUSE s.pwr.wake
  { t with pwr := { t.pwr with wake := 0, exitAt := some t.now }, pins := { t.pins with pwrMainEn := true } }

/-! Mode requests (R401) -/

/-- A request is refused (R401). -/
def State.reqRefused (s : State) : State := ((s.wr PWR_MODE_REQ 0).wr PWR_REQ_REFUSED 1).raise 1 0

/-- A LEAVE_NOTICE is queued and awaited; one that finds no place is awaited until LEAVE_WAIT has passed (R409). -/
def State.leaveNotice (s : State) : State :=
  let full := decide (32 ≤ s.up.umq.length) || !s.up.waitPush.isEmpty
  let q := if full then none else some s.up.umSeq
  let t := s.queueMsg 0x23 [0]
  { t with pwr := { t.pwr with notice := some (t.now, q) } }

/-- A request is judged outside a transition (R401): 1 GRAZE, 2 STABLE, 3 WAKE. -/
def State.takeReq (s : State) (v : Nat) : State :=
  if s.on LTM_FINE_RANGE_REQ then s.reqRefused
  else
    match v, s.mode with
    | 1, .service =>
      let t := (s.wr PWR_MODE_REQ 0).queueMsg 0x21 [s.rd PWR_GRAZE_N * 2 ^ 21]
      { t with pwr := { t.pwr with grazeReq := some t.now } }
    | 3, .graze => (s.wr PWR_MODE_REQ 0).latchWake wkTimer
    | 2, m =>
      if !(m == .listen || m == .service || m == .graze) || s.rd PWR_WAKE_EN == 0 then s.reqRefused
      else
        let t := (s.wr PWR_MODE_REQ 0).startEntry .stable
        if m == .service then t.leaveNotice else t
    | _, _ => s.reqRefused

/-- A write of MODE_REQ (R36, R401): during a transition it is held. -/
def State.modeReq (s : State) (v : Nat) : State :=
  let t := s.wr PWR_MODE_REQ v
  if s.pwr.transit.isSome then t else t.takeReq v

/-- MODE_REQ = GRAZE (R401, R408). -/
def modeReqGraze (s : State) : State := s.modeReq 1

/-- MODE_REQ = STABLE (R401, R409). -/
def modeReqStable (s : State) : State := s.modeReq 2

/-- MODE_REQ = WAKE (R401, R406). -/
def modeReqWake (s : State) : State := s.modeReq 3

/-- A transition has completed in mode `m` (R36, R412): a latched wake starts the exit, else a request that was held is judged. -/
def State.finish (s : State) (m : Mode) : State :=
  let t := ({ s with pwr := { s.pwr with transit := none, exitAt := none } }.wr PWR_IN_TRANSIT 0).setMode m
  let w := t.rd PWR_WAKE_LATCH
  if (m == .graze || m == .stable) && w != 0 then
    let t := { t with pwr := { t.pwr with wake := w } }.inc PWR_EARLY_WAKE
    if m == .graze then t.beginGrazeExit else t.beginStableExit
  else if t.rd PWR_MODE_REQ == 0 then t
  else t.takeReq (t.rd PWR_MODE_REQ)

/-! GRAZE -/

/-- A GRAZE_ACK acts on the request in progress (R139, R408): granted, it names the boundary; refused, the request has failed. -/
def State.actGrazeAck (s : State) (m : Msg) : State :=
  let drop (t : State) : State := { t with join := { t.join with pend := amDel t.join.pend mGrazeAck } }
  if s.pwr.grazeReq.isNone then (drop s).inc UPB_MSG_LATE
  else
    let t := { s with pwr := { s.pwr with grazeReq := none } }
    if bits (msgWord m 0) 31 30 == 0 then
      match s.effBoundary m.effWord with
      | some e => { t with pwr := { t.pwr with grazeAck := some (e, bits (msgWord m 0) 29 19, bits (msgWord m 0) 18 8) } }
      | none => t
    else (((drop t).inc UPB_MSG_OK).wr PWR_GRAZE_FAIL 1).raise 1 3

/-- GRAZE_ACK (R139). -/
def grazeAck (r : Rec) (s : State) : State := s.message mGrazeAck r (fun _ _ t => t) fun m _ t => t.actGrazeAck m

/-- 200 ms pass with no GRAZE_ACK (R408). -/
def grazeAckTimeout (s : State) : State :=
  match s.pwr.grazeReq with
  | none => s
  | some q =>
    let t := s.advance (q + 200 * msTicks)
    ({ t with pwr := { t.pwr with grazeReq := none } }.wr PWR_GRAZE_FAIL 2).raise 1 3

/-- The boundary E of a GRAZE_ACK (R403): no burst starts, and the calendar is emptied. -/
def State.beginGraze (s : State) : State :=
  match s.pwr.grazeAck with
  | some (e, n, poll) =>
    if e != s.now then s
    else
      let t := { s with pwr := { s.pwr with grazeAck := none } }
      if s.mode != .service || s.pwr.transit.isSome then t
      else
        let t := (((t.startEntry .graze).dropCommitted.emptyCal).wr PWR_GRAZE_N_ACT n).wr PWR_GRAZE_POLL poll
        { t with pwr := { t.pwr with grazeE := some e, grazeK := 1 } }
  | none => s

/-- Until LT is LOCKED the terminal stays awake on the control subcarrier alone, and only then sleeps (R39, R43). -/
def State.sleepLocked (s : State) : State :=
  if s.ltIs ltAcq then
    let t := if s.acq (1 - s.ctrlSc / 16) == 0 then s else s.carrierTo (1 - s.ctrlSc / 16) 0
    { t with pwr := { t.pwr with awake := true, sleepDue := true } }
  else s.sleep

/-- The defects that GRAZE does not evaluate keep their state, with their timers reset (R114). -/
def State.resetDefectTimers (s : State) : State :=
  let t := (List.range 32).foldl (fun u sc =>
    if sc == u.ctrlSc then u
    else u.mapSub sc fun b => { b with since := u.now, alignSince := u.now, aisOn := 0, aisOff := 0 }) s
  { t with rx := { t.rx with rdiOn := 0, rdiOff := 0 } }

/-- The regions are gated and GRAZE is entered (R43, R114, R403, R406). -/
def State.enterGraze (s : State) : State :=
  let s := s.resetDefectTimers
  let t := forEach (bitList 8 (s.rd VAT_REGION_EN)) s.giveAllLeave State.regionOff
  let t := ((t.wr UPB_TX_GATED 1).selfRefresh).sleepLocked
  let t := { t with pwr := { t.pwr with grazeAt := t.now, mapDone := true } }.raise 1 1
  let t := { t with mode := .graze }.lanesSync (List.range 24)
  t.finish .graze

/-- The entry into GRAZE completes once no burst is in the air (R403). -/
def grazeEntry (s : State) : State := if s.pwr.transit == some .graze && !s.inAir then s.enterGraze else s

/-- The next wake at or after now: its number and its boundary W (R404). -/
def State.nextWake (s : State) (e : Nat) : Nat × Nat :=
  let p := s.rd PWR_GRAZE_N_ACT * mfTicks
  let k := max s.pwr.grazeK (if p == 0 then 1 else ceilDiv (s.now + 500 * usTicks - e) p)
  (k, e + k * p)

/-- W_k − 500 µs: the control subcarrier's chain is powered (R404). -/
def grazeWakePowerup (s : State) : State :=
  match s.pwr.grazeE with
  | none => s
  | some e =>
    if s.mode != .graze || s.pwr.awake || s.pwr.transit.isSome then s
    else
      let (k, w) := s.nextWake e
      let t := (s.advance (w - 500 * usTicks)).inc PWR_WAKES
      let t := { t with pwr := { t.pwr with grazeK := k + 1, awake := true, mapDone := false, sleepDue := false } }
      let c := t.ctrlSc / 16
      let t := t.restoreCarrier c
      if t.acq c == 5 then t.wr LRX_EQ_CONV 1 t.ctrlSc else t

/-- The map of a wake does not name the terminal (R43, R405): it sleeps, or stays awake until LT is LOCKED. -/
def State.mapMiss (s : State) : State :=
  let t := { s with pwr := { s.pwr with mapDone := true } }
  if t.pwr.transit.isSome || t.pwr.wake != 0 then t
  else if t.ltIs ltLocked then t.sleep
  else { t with pwr := { t.pwr with sleepDue := true } }

/-- The entries of a map name the terminal (R405). -/
def State.mapNames (s : State) (body : List Nat) : Bool :=
  (List.range (body.length / 4)).any fun i => s.addressed (recWord body (4 * i) % 2 ^ 18)

/-- A WAKE_MAP record (R104 to R106, R405, R412). -/
def wakeMap (r : Rec) (s : State) : State :=
  s.record (· == 1) r (map := true) fun t =>
    let last := ((t.chain ctlStream).place.getD 0)
    let first := t.rx.first
    let taken := t.addressed (recTid r)
    let good := taken && recBodyOk r
    let t := if !taken then t else if recBodyOk r then t.recOk else t.recDiscard
    if !first then t
    else if t.wakeWindow then
      if good && decide (last ≤ (frameRange t.symPerSlot 0 1 0).2) && !t.mapNames r.body then t.mapMiss else t.mapHit
    else if t.pwr.transit == some .graze && good && t.mapNames r.body then t.mapHit
    else t

/-- GRAZE_TMO multiframes after E (R406). -/
def grazeTimer (s : State) : State :=
  match s.pwr.grazeE with
  | none => s
  | some e =>
    if s.rd PWR_GRAZE_TMO == 0 || !(s.mode == .graze || s.pwr.transit == some .graze) then s
    else (s.advance (e + s.rd PWR_GRAZE_TMO * mfTicks)).latchWake wkTimer

/-- A wake cause, or the loss of registration, ends GRAZE (R35, R142, R406, R407). -/
def grazeExit (s : State) : State :=
  if s.mode == .graze && s.pwr.transit.isNone && (s.pwr.wake != 0 || s.join.toListen) then s.beginGrazeExit else s

/-! STABLE -/

/-- The LEAVE_NOTICE a STABLE entry waits for has been sent (R409). -/
def State.noticeSent (s : State) : Bool :=
  match s.pwr.notice with
  | none => true
  | some (_, q) =>
    let is (m : UMsg) : Bool := m.code == 0x23 && some m.seq == q
    q.isSome && !s.up.umq.any is && !s.up.bursts.any fun b => b.msgs.any is

/-- Every express container is purged (R245, R409); one under retention has been counted as committed. -/
def State.purgeExpress (s : State) : State :=
  let t := (s.held.flatMap fun e => (e.2.filter Held.exp).map fun c => (e.1, c)).foldl (fun u e => u.purgeOne e.1 e.2) s
  (t.cave.retained.filter Retained.exp).foldl (fun u r =>
    ((u.setRetained (u.cave.retained.filter (· != r))).inc64 CAV_AL_PURGED_LO CAV_AL_PURGED_HI 1 r.al).freeCont true r.handle r.al) t

/-- STABLE is entered (R409): registration and the express store go, the cave sleeps, the keys are erased, the rails go off. -/
def State.enterStable (s : State) : State :=
  let t := if s.on UPB_REGISTERED then s.regLost 0xFF else s
  let t := ((t.purgeExpress.selfRefresh).eraseAllSlots).assertTxdis
  let t := (({ t with mode := .stable }.railsOff).wr PWR_STABLE_IN 1)
  t.finish .stable

/-- STABLE entry goes on once its notice is sent or given up: bursts stop, and what follows waits for the burst in the air (R409). -/
def stableEntry (s : State) : State :=
  if s.pwr.transit == some .stable && s.noticeSent then
    let t := { s with pwr := { s.pwr with notice := none } }.dropCommitted
    if t.inAir then t else t.enterStable
  else s

/-- LEAVE_WAIT ms pass with the notice unsent (R409). -/
def leaveWaitExpiry (s : State) : State :=
  match s.pwr.notice with
  | none => s
  | some (q, _) =>
    let t := s.advance (q + s.rd PWR_LEAVE_WAIT * msTicks)
    { t with pwr := { t.pwr with notice := none } }

/-- The wake tone is found on RXMON (R410). -/
def toneDetect (s : State) : State := s.latchWake wkTone

/-- A wake of STABLE starts its exit (R411). -/
def stableExit (s : State) : State :=
  if s.mode == .stable && s.pwr.transit.isNone && s.pwr.wake != 0 then s.beginStableExit else s

/-- The cave reloads what it saved (R411). -/
def caveStateReload (s : State) : State :=
  if s.dark || s.mode == .boot || s.mode == .graze || s.entering || s.rd CAV_STATE != cavRefresh then s else s.refreshExit

/-! Transitions complete -/

/-- LISTEN is entered: a terminal from STABLE starts its receiver and its time bases anew (R285, R402, R411). -/
def State.enterListen (s : State) : State :=
  let t := { s with join := { s.join with toListen := false } }
  if s.mode == .stable then
    let t := ({ t with mode := .listen }.carriersOn).tbRestart
    ((t.lanesSync (List.range 24)).raise 1 4).finish .listen
  else if s.mode == .graze then (({ t with mode := .listen }.lanesSync (List.range 24)).raise 1 2).finish .listen
  else t.finish .listen

/-- A transition completes (R36, R402). -/
def modeTransitionComplete (s : State) : State :=
  match s.pwr.transit with
  | some .graze => if s.inAir then s else s.enterGraze
  | some .stable => if s.inAir || s.pwr.notice.isSome then s else s.enterStable
  | some .service =>
    if s.join.toListen then s.enterListen
    else if !s.ltIs ltLocked then s
    else
      let t := { s with mode := .service, up := { s.up with wakeFlag := true } }
      ((t.lanesSync (List.range 24)).raise 1 2).finish .service
  | some .listen => if s.inAir || (s.mode == .stable && !s.pins.pgood) then s else s.enterListen
  | _ => s

/-! The SD pin (R112, R410) -/

/-- The SD pin changes: `long` says that it had been low for at least 1 ms. -/
def sdChange (level long : Bool) (s : State) : State :=
  let t := { s with pins := { s.pins with sd := level } }
  if level == s.pins.sd then s
  else if level then
    let t := { t with rx := { t.rx with sdHighSince := t.now } }
    if long then t.latchWake wkSd else t
  else if t.dark then t
  else (t.meet (.los 0) true).meet (.los 1) true

/-! The governor (R413 to R415) -/

/-- What a request of each class asks for (R414); the class difference of R307 comes with the request. -/
def leavePowerOf (cls watts : Nat) : Nat :=
  match cls with
  | 0 => 600 | 1 => 300 | 2 => 200 | 3 => watts | 4 => 800 | _ => 150

/-- Requests for leave made in one cycle (R413 to R415); classes 6 and 7 are reserved. -/
def leaveRequest (rs : List LeaveReq) (s : State) : State :=
  if s.dark then s
  else s.askAll ((rs.filter fun r => decide (r.cls < 6)).map fun r => ⟨r.cls, leavePowerOf r.cls r.watts, r.region, r.block⟩)

/-- Leave is returned (R414). -/
def leaveReturn (cls region block : Nat) (s : State) : State :=
  if 6 ≤ cls then s else s.giveLeave cls region block

/-- The governor refreshes the dies' shares: the spec says when and not how the budget is shared out (R415), so each is a free value. -/
def dieShareRefresh (s : State) : State :=
  if s.dark then s
  else
    let (l, t) := (List.range 4).foldl (fun (a : List Nat × State) _ => (a.1 ++ [a.2.fresh.1], a.2.fresh.2)) ([], s)
    { t with pwr := { t.pwr with shares := l } }

/-! The meanings -/

/-- MODE_REQ_GRAZE. -/
def execModeReqGraze (s : State) : Host.Outcome State Fault Refusal := .next (modeReqGraze s)
/-- MODE_REQ_STABLE. -/
def execModeReqStable (s : State) : Host.Outcome State Fault Refusal := .next (modeReqStable s)
/-- MODE_REQ_WAKE. -/
def execModeReqWake (s : State) : Host.Outcome State Fault Refusal := .next (modeReqWake s)
/-- GRAZE_ACK. -/
def execGrazeAck (r : Rec) (s : State) : Host.Outcome State Fault Refusal := .next (grazeAck r s)
/-- GRAZE_ACK_TIMEOUT. -/
def execGrazeAckTimeout (s : State) : Host.Outcome State Fault Refusal := .next (grazeAckTimeout s)
/-- GRAZE_ENTRY. -/
def execGrazeEntry (s : State) : Host.Outcome State Fault Refusal := .next (grazeEntry s)
/-- GRAZE_WAKE_POWERUP. -/
def execGrazeWakePowerup (s : State) : Host.Outcome State Fault Refusal := .next (grazeWakePowerup s)
/-- WAKE_MAP. -/
def execWakeMap (r : Rec) (s : State) : Host.Outcome State Fault Refusal := .next (wakeMap r s)
/-- GRAZE_TIMER. -/
def execGrazeTimer (s : State) : Host.Outcome State Fault Refusal := .next (grazeTimer s)
/-- GRAZE_EXIT. -/
def execGrazeExit (s : State) : Host.Outcome State Fault Refusal := .next (grazeExit s)
/-- STABLE_ENTRY. -/
def execStableEntry (s : State) : Host.Outcome State Fault Refusal := .next (stableEntry s)
/-- LEAVE_WAIT_EXPIRY. -/
def execLeaveWaitExpiry (s : State) : Host.Outcome State Fault Refusal := .next (leaveWaitExpiry s)
/-- TONE_DETECT. -/
def execToneDetect (s : State) : Host.Outcome State Fault Refusal := .next (toneDetect s)
/-- STABLE_EXIT. -/
def execStableExit (s : State) : Host.Outcome State Fault Refusal := .next (stableExit s)
/-- CAVE_STATE_RELOAD. -/
def execCaveStateReload (s : State) : Host.Outcome State Fault Refusal := .next (caveStateReload s)
/-- MODE_TRANSITION_COMPLETE. -/
def execModeTransitionComplete (s : State) : Host.Outcome State Fault Refusal := .next (modeTransitionComplete s)
/-- SD_CHANGE. -/
def execSdChange (level long : Bool) (s : State) : Host.Outcome State Fault Refusal := .next (sdChange level long s)
/-- LEAVE_REQUEST. -/
def execLeaveRequest (rs : List LeaveReq) (s : State) : Host.Outcome State Fault Refusal := .next (leaveRequest rs s)
/-- LEAVE_RETURN. -/
def execLeaveReturn (cls region block : Nat) (s : State) : Host.Outcome State Fault Refusal :=
  .next (leaveReturn cls region block s)
/-- DIE_SHARE_REFRESH. -/
def execDieShareRefresh (s : State) : Host.Outcome State Fault Refusal := .next (dieShareRefresh s)

end Sys2Proof.Machine
end

