-- ==== Sys2Proof/Machine/Clients.lean ====
section
/-! DEFINITION. Client ports and the frame MAC (chapter 07), and the egress side of R217 and R221. -/

namespace Sys2Proof.Machine

/-! Ports and links (R175 to R177) -/

/-- The lanes of two ports overlap. -/
def State.portsMeet (s : State) (a b : Nat) : Bool :=
  decide (a < b + s.portLanes b) && decide (b < a + s.portLanes a)

/-- Port `n` is not enabled any more: its lanes are let go and its link falls (R176, R177). -/
def State.portOff (s : State) (n : Nat) : State :=
  let ls := (List.range (s.portLanes n)).map (n + ·)
  let t := (s.wr CLP_P_EN 0 n).wr CLP_P_AM_LOCK 0 n
  (t.lanesSync ls).linkEval n

/-- An enable is refused (R176). -/
def State.laneConflict (s : State) (n : Nat) : State := (s.wr CLP_P_LANE_CONFLICT 1 n).portRaise n 2

/-- A write of EN = 1 to port `n` (R176): refused where an enabled port claims one of its lanes. RX_LAT of the mode is a free value: the
spec does not give it (R185). -/
def State.enablePort (s : State) (n : Nat) : State :=
  if 16 ≤ n || s.on CLP_P_EN n then s
  else if (List.range 16).any fun p => p != n && s.on CLP_P_EN p && s.portsMeet n p then s.laneConflict n
  else
    let t := (s.wr CLP_P_EN 1 n).wrFree CLP_P_RX_LAT n
    (t.lanesSync ((List.range (t.portLanes n)).map (n + ·))).linkEval n

/-- EN = 1 is written to port `n`, and in the same cycle to the ports `more`: the lower-numbered comes first (R176). -/
def portEnable (n : Nat) (more : List Nat) (s : State) : State :=
  forEach ((List.range 16).filter fun p => p == n || more.contains p) s State.enablePort

/-- The PCS of port `n` locks its alignment markers on all lanes (R177): HI_BER and LOCAL_FAULT are conditions of a PCS without lock and
clear with it, unless a lane is in RETRAIN. -/
def amLockGained (n : Nat) (s : State) : State :=
  if 16 ≤ n || !s.on CLP_P_EN n || !s.portKept n then s
  else
    let ls := (List.range (s.portLanes n)).map (n + ·)
    if ls.all fun l => s.rd SER_L_ADAPT_STATE l == adTrack || s.rd SER_L_ADAPT_STATE l == adFrozen then
      (((s.wr CLP_P_AM_LOCK 1 n).wr CLP_P_HI_BER 0 n).lfSignal n false).linkEval n
    else s

/-- The link conditions have held for 1 ms without a break (R177). -/
def linkUpRise (n : Nat) (s : State) : State :=
  if 16 ≤ n || s.on CLP_P_LINK_UP n || !s.on CLP_P_EN n || !s.on CLP_P_AM_LOCK n || s.on CLP_P_LOCAL_FAULT n then s
  else
    let t := ((s.wr CLP_P_HI_BER 0 n).wr CLP_P_REMOTE_FAULT 0 n).linkEval n
    let since := (t.port n).goodSince.getD t.now
    ((t.advance (since + msTicks)).wr CLP_P_LINK_UP 1 n).portRaise n 0

/-- A link condition fails (R177): `cond` 0 alignment lost, 1 high bit error ratio, 2 local fault, 3 remote fault received. -/
def linkUpFall (n cond : Nat) (s : State) : State :=
  if 16 ≤ n || !s.on CLP_P_EN n then s
  else
    let t := match cond with
      | 0 => s.wr CLP_P_AM_LOCK 0 n
      | 1 => s.wr CLP_P_HI_BER 1 n
      | 2 => s.lfSignal n true
      | _ => s.wr CLP_P_REMOTE_FAULT 1 n
    t.linkEval n

/-! Flow control (R182, R183) -/

/-- `q` quanta of 512 bit times at the port's rate, in ticks (R182). -/
def State.quantaTicks (s : State) (n q : Nat) : Nat := ceilDiv (q * 512 * 10 * 65536) (1000000 * s.portLanes n)

/-- Bytes in the ingress buffer of port `n`, and 1/256 of its size (R179). -/
def State.ingressFill (s : State) (n : Nat) : Nat := ((s.port n).ingress.map fun f => f.bytes.length).foldl (· + ·) 0
def State.ingressUnit (s : State) (n : Nat) : Nat := 1024 * s.portLanes n

/-- Flow control is sent (R183). -/
def State.fcSends (s : State) (n : Nat) : Bool :=
  s.on CLP_P_PAUSE_TX_EN n && (s.rd CLP_P_FC_MODE n == 1 || s.rd CLP_P_FC_MODE n == 2) && s.rd CLP_P_PAUSE_QUANTA n != 0

/-- One pause or priority frame of `q` quanta in the format of `mode` (R183). -/
def State.sendPause (s : State) (n q mode : Nat) : State :=
  (s.emit (.pause n q (if mode == 2 then s.rd CLP_P_PFC_TX_MASK n + 256 else 0))).inc CLP_PAUSE_TX

/-- The instant at which the frame is repeated (R183). -/
def State.nextRefresh (s : State) (n : Nat) : Nat := s.now + s.quantaTicks n (s.rd CLP_P_PAUSE_QUANTA n) / 2

/-- The fill has risen to XOFF_TH (R183). -/
def State.fcRise (s : State) (n : Nat) : State :=
  if !s.on CLP_P_XOFF_SENT n && s.fcSends n && decide (s.rd CLP_P_XOFF_TH n * s.ingressUnit n ≤ s.ingressFill n) then
    let t := (s.sendPause n (s.rd CLP_P_PAUSE_QUANTA n) (s.rd CLP_P_FC_MODE n)).wr CLP_P_XOFF_SENT 1 n
    (t.setPort n { t.port n with refresh := some (t.nextRefresh n) }).portRaise n 4
  else s

/-- The terminal stops repeating its pause frame (R183). -/
def State.fcStop (s : State) (n : Nat) : State :=
  (s.setPort n { s.port n with refresh := none }).wr CLP_P_XOFF_SENT 0 n

/-- The fill has fallen to XON_TH or below (R183). -/
def State.fcFall (s : State) (n : Nat) : State :=
  if s.on CLP_P_XOFF_SENT n && decide (s.ingressFill n ≤ s.rd CLP_P_XON_TH n * s.ingressUnit n) then
    let t := s.fcStop n
    if t.fcSends n then t.sendPause n 0 (t.rd CLP_P_FC_MODE n) else t
  else s

/-- A received pause of `q` quanta: for the link (`cls` none) or a traffic class (R182). -/
def State.paused (s : State) (n : Nat) (cls : Option Nat) (q : Nat) : State :=
  let e := s.now + s.quantaTicks n q
  match cls with
  | none => (s.setPort n { s.port n with pause := if q == 0 then none else some e }).flag CLP_P_TX_PAUSED (q != 0) n
  | some c =>
    let l := amDel (s.port n).pfc c
    (s.setPort n { s.port n with pfc := if q == 0 then l else amSet l c e }).wr CLP_P_PFC_PAUSED
      (putBit (s.rd CLP_P_PFC_PAUSED n) c (q != 0)) n

/-- The time of a frame of `len` bytes from its first bit to the end of its FCS, in ticks (R182). -/
def State.frameTime (s : State) (n len : Nat) : Nat := ceilDiv (len * 80 * 65536) (1000000 * s.portLanes n)

/-- A MAC control frame, now being the end of its FCS (R182). -/
def State.macControl (s : State) (n : Nat) (bs : List Nat) : State :=
  let op := be bs 14 2
  if s.rd CLP_P_FC_MODE n == 1 && op == 0x0001 then (s.nibble n nbPause).paused n none (be bs 16 2)
  else if s.rd CLP_P_FC_MODE n == 2 && op == 0x0101 then
    forEach (bitList 8 (be bs 16 2)) (s.nibble n nbPfc) fun t c => t.paused n (some c) (be bs (18 + 2 * c) 2)
  else s.nibble n nbCtrl

/-- The FCS of a frame is correct (R178). -/
def fcsOk (bs : List Nat) : Bool := fcsBytes (crc32 (bs.take (bs.length - 4))) == bs.drop (bs.length - 4)

/-- A client frame received on port `n` (R178, R179), now being the instant at which its destination address crosses the pins (R185);
`pcsErr` when the PCS or FEC reports an uncorrectable error in it. -/
def clientFrameRx (n : Nat) (bytes : List Nat) (pcsErr : Bool) (s : State) : State :=
  if 16 ≤ n || !s.on CLP_P_EN n || !s.on CLP_P_AM_LOCK n || s.dark || !s.portKept n then s
  else if pcsErr then s.nibble n nbPcs
  else if bytes.length < 64 then s.nibble n nbRunt
  else if s.rd CLP_P_MAX_LEN n < bytes.length then s.nibble n nbOversize
  else if !fcsOk bytes then s.nibble n nbFcs
  else if be bytes 12 2 == 0x8808 then (s.advance (s.now + s.frameTime n bytes.length)).macControl n bytes
  else if 256 * s.ingressUnit n < s.ingressFill n + bytes.length then s.nibble n nbOverflow
  else
    let p := s.port n
    let t := s.setPort n { p with ingress := p.ingress ++ [{ bytes := bytes, isrc := n, lt := s.lt64 }] }
    (t.fcRise n).latchWake wkClient

/-- A received pause time runs out (R182): of the link, or of a traffic class. -/
def pauseTimerExpiry (n : Nat) (cls : Option Nat) (s : State) : State :=
  let e := match cls with
    | none => (s.port n).pause
    | some c => amGet? (s.port n).pfc c
  match e with
  | some t => (s.advance t).paused n cls 0
  | none => s

/-- Half of PAUSE_QUANTA has passed with the fill above XON_TH (R183). -/
def pauseRefresh (n : Nat) (s : State) : State :=
  match (s.port n).refresh with
  | none => s
  | some t =>
    let u := s.advance t
    if u.rd CLP_P_XON_TH n * u.ingressUnit n < u.ingressFill n then
      let v := u.when_ (u.fcSends n) fun w => w.sendPause n (w.rd CLP_P_PAUSE_QUANTA n) (w.rd CLP_P_FC_MODE n)
      v.setPort n { v.port n with refresh := some (v.nextRefresh n) }
    else u.fcFall n

/-- A frame leaves the ingress buffer for the packet core (R179, R197); in GRAZE it waits (R406). -/
def ingressDrain (n : Nat) (s : State) : State :=
  match (s.port n).ingress with
  | [] => s
  | f :: rest =>
    if s.mode == .graze || !s.parserRoom n then s
    else ((s.setPort n { s.port n with ingress := rest }).toParser f).fcFall n

/-- FC_MODE (`fc`) or PAUSE_TX_EN written 0 (R183). -/
def flowControlDisable (n : Nat) (fc : Bool) (s : State) : State :=
  let was := s.rd CLP_P_FC_MODE n
  let t := if fc then s.wr CLP_P_FC_MODE 0 n else s.wr CLP_P_PAUSE_TX_EN 0 n
  if s.on CLP_P_XOFF_SENT n then
    let u := t.fcStop n
    if (was == 1 || was == 2) && s.rd CLP_P_PAUSE_QUANTA n != 0 then u.sendPause n 0 was else u
  else t

/-! Transmit (R180, R181, R217, R221) -/

/-- Traffic class `g` of port `n` is paused (R182). -/
def State.pfcHolds (s : State) (n g : Nat) : Bool :=
  match amGet? (s.port n).pfc g with
  | some e => decide (s.now < e)
  | none => false

/-- The link pause is in force (R182). -/
def State.linkPaused (s : State) (n : Nat) : Bool :=
  match (s.port n).pause with
  | some e => decide (s.now < e)
  | none => false

/-- Queue `g` of port `n` may start its head frame (R217, R221). -/
def State.eqOk (s : State) (n g : Nat) : Bool :=
  match s.eq (n * 8 + g) with
  | [] => false
  | f :: _ => s.shOk (shEq (n * 8 + g)) && !s.pfcHolds n g && s.gateOk n g f.bytes.length

/-- Head frames that exceed their gate's longest open time are discarded (R221). -/
def State.dropTooBig (s : State) (n : Nat) : State :=
  forEach (List.range 8) s fun t g =>
    match t.eq (n * 8 + g) with
    | [] => t
    | f :: rest => match t.tooBig n g f.bytes.length with
      | some l => ((t.setEq (n * 8 + g) rest).inc GAT_TOO_BIG 1 l).raise 15 4
      | none => t

/-- The correction of R286 in a frame as it is sent, or the turnaround of R283: the bytes without FCS, and the state that has counted
it. -/
def State.correctFrame (s : State) (f : EFrm) : List Nat × State :=
  let body := f.bytes.take (f.bytes.length - 4)
  match f.corr with
  | none =>
    match f.turn, (parse f.bytes 16 1 0).msg with
    | some (k, r), some o => (putCf body o (s.tbReading k - r) (parse f.bytes 16 1 0).udp, s)
    | _, _ => (body, s)
  | some m =>
    let p := parse f.bytes 16 1 0
    match p.msg with
    | some o =>
      if f.bytes.length < o + 20 then (body, s)
      else
        let (cf, t) := s.correct (be f.bytes (o + 8) 8) f.lt f.car m f.ts
        (putCf body o cf p.udp, t)
    | none => (body, s)

/-- Port `n` starts frame `f` of class `g` (R180, R217, R283, R286). -/
def State.startFrame (s : State) (n g : Nat) (f : EFrm) (rest : List EFrm) : State :=
  let len := f.bytes.length
  let t := ((s.setEq (n * 8 + g) rest).debit (shEq (n * 8 + g)) len).debit (shPort n) len
  let (body, t) := t.correctFrame f
  let t := match f.own with
    | some (k, seq) => match (t.tb k).req with
      | some r => if r.seq == seq then t.setTb k { t.tb k with req := some { r with t3 := some (t.tbReading k) } } else t
      | none => t
    | none => t
  let good := fcsOk f.bytes
  let c := crc32 body
  let t := t.emit (.frame n (body ++ fcsBytes (if good then c else 0xFFFFFFFF - c)))
  let t := if good then t else t.nibble n nbStomp
  t.setPort n { t.port n with txEnd := t.now + t.wireTicks n len, txClass := some g }

/-- The highest class of port `n` that `p` accepts. -/
def topClass (p : Nat → Bool) : Option Nat := ((List.range 8).filter p).getLast?

/-- Port `n` starts its next frame, or with the link down takes one and discards it (R181, R217, R221). -/
def egressFrameStart (n : Nat) (s : State) : State :=
  if 16 ≤ n || s.mode == .graze || s.dark then s
  else if !s.on CLP_P_LINK_UP n then
    match topClass fun g => !(s.eq (n * 8 + g)).isEmpty with
    | none => s
    | some g =>
      let s := s.advance (s.port n).txEnd
      match s.eq (n * 8 + g) with
      | [] => s
      | f :: rest =>
        let t := (s.setEq (n * 8 + g) rest).nibble n nbLink
        t.setPort n { t.port n with txEnd := t.now + t.wireTicks n f.bytes.length, txClass := none }
  else
    let s := (s.advance (s.port n).txEnd).dropTooBig n
    if s.linkPaused n || !s.shOk (shPort n) then s
    else
      match topClass (s.eqOk n) with
      | none => s
      | some g => match s.eq (n * 8 + g) with
        | [] => s
        | f :: rest => s.startFrame n g f rest

/-! The meanings -/

/-- PORT_ENABLE. -/
def execPortEnable (n : Nat) (more : List Nat) (s : State) : Host.Outcome State Fault Refusal := .next (portEnable n more s)
/-- AM_LOCK_GAINED. -/
def execAmLockGained (n : Nat) (s : State) : Host.Outcome State Fault Refusal := .next (amLockGained n s)
/-- LINK_UP_RISE. -/
def execLinkUpRise (n : Nat) (s : State) : Host.Outcome State Fault Refusal := .next (linkUpRise n s)
/-- LINK_UP_FALL. -/
def execLinkUpFall (n cond : Nat) (s : State) : Host.Outcome State Fault Refusal := .next (linkUpFall n cond s)
/-- CLIENT_FRAME_RX. -/
def execClientFrameRx (n : Nat) (bytes : List Nat) (pcsErr : Bool) (s : State) : Host.Outcome State Fault Refusal :=
  .next (clientFrameRx n bytes pcsErr s)
/-- PAUSE_TIMER_EXPIRY. -/
def execPauseTimerExpiry (n : Nat) (cls : Option Nat) (s : State) : Host.Outcome State Fault Refusal :=
  .next (pauseTimerExpiry n cls s)
/-- PAUSE_REFRESH. -/
def execPauseRefresh (n : Nat) (s : State) : Host.Outcome State Fault Refusal := .next (pauseRefresh n s)
/-- INGRESS_DRAIN. -/
def execIngressDrain (n : Nat) (s : State) : Host.Outcome State Fault Refusal := .next (ingressDrain n s)
/-- FLOW_CONTROL_DISABLE. -/
def execFlowControlDisable (n : Nat) (fc : Bool) (s : State) : Host.Outcome State Fault Refusal := .next (flowControlDisable n fc s)
/-- EGRESS_FRAME_START. -/
def execEgressFrameStart (n : Nat) (s : State) : Host.Outcome State Fault Refusal := .next (egressFrameStart n s)

end Sys2Proof.Machine
end

