-- ==== Sys2Proof/Machine/Tim.lean ====
section
/-! DEFINITION. Time bases, followers, the redundant pair and the timing pins (chapter 12). -/

namespace Sys2Proof.Machine

/-! Modes and software access (R278) -/

/-- A write of MODE of time base `n` (R278): TB0's is read-only, and 4 to 7 are reserved elsewhere. -/
def tbModeWrite (n value : Nat) (s : State) : State :=
  if n == 0 || 4 ≤ n || 4 ≤ value then s
  else
    let t := (s.tbRebase n).wr TIM_TB_MODE value n
    let b := t.tb n
    (t.setTb n { base := b.base, at_ := b.at_, lastValid := t.now, reqSeq := b.reqSeq }).tbTo n tsFree

/-- A write taken only in LOCAL is ignored in any other mode (R278). -/
def State.ifLocal (s : State) (n : Nat) (f : State → State) : State :=
  if n == 0 || 4 ≤ n then s
  else if s.rd TIM_TB_MODE n == tmLocal then f s else s.wr TIM_TB_WR_IGN 1 n

/-- SET_GO (R278). -/
def setGo (n : Nat) (s : State) : State :=
  s.ifLocal n fun s =>
    (s.tbSet n (s.rd64 TIM_TB_SET_S_LO TIM_TB_SET_S_HI n * tbSecond + s.rd TIM_TB_SET_NS n * tbNs)).gatesMoved n

/-- ADJ_GO (R278): ADJ_NS over 1 s. -/
def adjGo (n : Nat) (s : State) : State := s.ifLocal n fun s => s.tbSlew n (s.rdS TIM_TB_ADJ_NS n * tbNs) sfTicks

/-- CAP_GO (R281). -/
def capGo (s : State) : State := s.capture 1

/-! The servo (R279, R280, R284) -/

/-- TB1 and TB2 form a pair (R284). -/
def State.paired (s : State) : Bool :=
  s.on TIM_PAIR_EN && s.rd TIM_TB_MODE 1 == tmDomain && s.rd TIM_TB_MODE 2 == tmDomain

/-- A valid sample for the servo of time base `n` arrives, `off` in units (R279). -/
def State.sampleIn (s : State) (n : Nat) (off : Int) : State :=
  s.setTb n { s.tb n with samples := (s.tb n).samples ++ [off], lastValid := s.now }

/-- A servo corrects frequency and phase (R280): the correction opposes the offset, in ns against units of FREQ (log 18); after a switch
TB1's correction stays within SW_SLEW above the frequency it held (R284). -/
def State.servo (s : State) (n : Nat) (off : Int) : State :=
  let lim := n == 1 && decide (0 < s.tim.limited)
  let top := s.tim.swFreq + 16 * (s.rd TIM_SW_SLEW : Int)
  let f := s.rdS TIM_TB_FREQ n - off / (tbNs * 2 ^ s.rd TIM_TB_KI_SHIFT n : Nat)
  let f := if lim then min f top else f
  let t := s.tbFreq n f
  let f := t.rdS TIM_TB_FREQ n
  let ph := -(off / (2 ^ s.rd TIM_TB_KP_SHIFT n : Nat))
  let ph := if lim then min ph (max 0 ((top - f) * 256)) else ph
  t.tbSlew n ph 4096000000

/-- STATE after a sample (R279); `far` says that its offset exceeds STEP_NS. -/
def State.sampleState (s : State) (n : Nat) (off : Int) (far : Bool) : State :=
  let st := s.rd TIM_TB_STATE n
  if st == tsFree || st == tsHold || (st == tsLocked && far) then
    let t := s.tbTo n tsAcq
    t.setTb n { t.tb n with good := 0 }
  else if st == tsAcq then
    let g := if off.natAbs ≤ s.rd TIM_TB_LOCK_NS n * tbNs then (s.tb n).good + 1 else 0
    let t := s.setTb n { s.tb n with good := g }
    if 16 ≤ g then t.tbTo n tsLocked else t
  else s

/-- A sample is processed (R280), and FREQ after it joins the 64 that holdover takes its mean from (R285). An offset beyond STEP_NS that is
slewed, not stepped, takes a LOCKED time base to ACQUIRING too (DEDUCED, log 196). -/
def State.useSample (s : State) (n : Nat) (off : Int) : State :=
  let first := (s.tb n).fresh
  let lim := s.rd TIM_TB_STEP_NS n
  let far := lim != 0 && decide (lim * tbNs < off.natAbs)
  let step := far && (s.rd TIM_TB_MODE n != tmFollow || first)
    && !(n == 1 && decide (0 < s.tim.limited))
  let t := s.wrS TIM_TB_OFFSET (satS 32 (off / tbNs)) n
  let t := if step then (t.tbStepBy n (-off)).gatesMoved n else t.servo n off
  let t := t.sampleState n off far
  let t := t.setTb n { t.tb n with fresh := false, hist := (t.rdS TIM_TB_FREQ n :: (t.tb n).hist).take 64 }
  if n == 1 then { t with tim := { t.tim with limited := t.tim.limited - 1 } } else t

/-- The servo of time base `n` processes its oldest sample (R280). -/
def tbSample (n : Nat) (s : State) : State :=
  match (s.tb n).samples with
  | off :: rest =>
    if n == 0 || 4 ≤ n || s.rd TIM_TB_MODE n == tmLocal then s
    else (s.setTb n { s.tb n with samples := rest }).useSample n off
  | [] => s

/-- F1 has given no valid sample for SW_HOLD ms (R284). -/
def State.f1Silent (s : State) : Bool := decide (s.tim.f1At + s.rd TIM_SW_HOLD * msTicks ≤ s.now)

/-- The redundant domain can take over from a silent F1 (R284). -/
def State.pairTakes (s : State) : Bool :=
  s.paired && s.rd TIM_SW_FORCE == 0 && !s.on TIM_ACTIVE && s.f1Silent && s.rd TIM_TB_STATE 2 == tsLocked

/-- ACTIVE changes (R284). -/
def State.pairTo (s : State) (b : Bool) : State :=
  if s.on TIM_ACTIVE == b then s
  else
    let t := ((s.flag TIM_ACTIVE b).inc TIM_SWITCHES).raise 11 3
    { t with tim := { t.tim with limited := 16, swFreq := t.rdS TIM_TB_FREQ 1 } }

/-- The switch as evaluated at a frame boundary (R284). -/
def State.pairSwitch (s : State) : State :=
  if !s.paired then s
  else if s.rd TIM_SW_FORCE == 1 then s.pairTo false
  else if s.rd TIM_SW_FORCE == 2 then s.pairTo true
  else if s.pairTakes then s.pairTo true
  else
    match s.tim.f1Good with
    | some t =>
      if s.rd TIM_SW_FORCE == 0 && s.on TIM_ACTIVE && s.rd TIM_REVERT_S != 0 && !s.f1Silent
          && decide (t + s.rd TIM_REVERT_S * sfTicks ≤ s.now) then s.pairTo false
      else s
    | none => s

/-- FOLLOW samples at a frame boundary (R279): a source that is not LOCKED gives none. -/
def State.followSamples (s : State) : State :=
  forEach [1, 2, 3] s fun t n =>
    let src := t.rd TIM_TB_SRC n
    if t.rd TIM_TB_MODE n == tmFollow && src != n && t.tbState src == tsLocked then
      t.sampleIn n ((t.tbReading n : Int) - t.tbReading src)
    else t

/-- SYNC_TO ms without a valid sample (R279); the timer stands still in GRAZE (R285). -/
def syncToExpiry (n : Nat) (s : State) : State :=
  if n == 0 || 4 ≤ n || s.rd TIM_TB_MODE n == tmLocal || s.mode == .graze || s.dark then s
  else
    let st := s.rd TIM_TB_STATE n
    if st != tsAcq && st != tsLocked then s
    else
      let t := s.advance ((s.tb n).lastValid + s.rd TIM_TB_SYNC_TO n * msTicks)
      let t := if t.rd TIM_TB_MODE n == tmDomain then t.inc TIM_TB_F_TMO 1 n else t
      if st == tsAcq then t.tbTo n tsFree
      else if n == 1 && t.pairTakes then t
      else
        let t := t.tbFreq n (meanFreq (t.tb n).hist (t.rdS TIM_TB_FREQ n))
        (t.setTb n { t.tb n with holdSince := t.now }).tbTo n tsHold

/-- HOLD_MAX seconds in HOLDOVER (R279). -/
def holdMaxExpiry (n : Nat) (s : State) : State :=
  if n == 0 || 4 ≤ n || s.mode == .graze || s.rd TIM_TB_HOLD_MAX n == 0 || s.rd TIM_TB_STATE n != tsHold then s
  else (s.advance ((s.tb n).holdSince + s.rd TIM_TB_HOLD_MAX n * sfTicks)).tbTo n tsFree

/-! The followers (R282, R283) -/

/-- MASTER_ID of follower `n`. -/
def State.masterId (s : State) (n : Nat) : Nat :=
  s.rd TIM_TB_MASTER_ID_0 n * 2 ^ 48 + s.rd TIM_TB_MASTER_ID_1 n * 2 ^ 16 + s.rd TIM_TB_MASTER_ID_2 n

/-- Follower `n` runs (R282, R285). -/
def State.follows (s : State) (n : Nat) : Bool :=
  decide (1 ≤ n) && decide (n ≤ 3) && s.rd TIM_TB_MODE n == tmDomain && s.on TIM_TB_F_EN n && s.mode != .graze && !s.dark

/-- Follower `n` hears this master (R282). -/
def State.hearsMaster (s : State) (n id : Nat) : Bool :=
  if s.masterId n != 0 then s.masterId n == id
  else
    match (s.tb n).master with
    | some m => m == id || decide ((s.tb n).masterAt + s.rd TIM_TB_SYNC_TO n * msTicks ≤ s.now)
    | none => true

/-- The frame of this message matched a classifier entry with PTPC = 1 and PTP_TB = n, so that follower `n` gets a copy (R282). -/
def State.copied (s : State) (n : Nat) (m : Ptp) : Bool :=
  m.entry.any fun e => s.on CLSE_PTPC e && s.rd CLSE_PTP_TB e == n

/-- Follower `n` runs and receives this message: of its entry, port, domain and master (R282). -/
def State.receives (s : State) (n : Nat) (m : Ptp) : Bool :=
  s.follows n && s.copied n m && m.port == s.rd TIM_TB_F_PORT n && m.domain == s.rd TIM_TB_F_DOMAIN n && s.hearsMaster n m.master

/-- The time stamp of a message in units. -/
def ptpStamp (m : Ptp) : Int := (m.sec * tbSecond + m.ns * tbNs : Nat)

/-- A valid sample of F1 tells the pair of it (R284): its good run starts anew after a silence of SW_HOLD ms, and ends with an offset
beyond LOCK_NS. -/
def State.f1Sample (s : State) (off : Int) : State :=
  let ok := decide (off.natAbs ≤ s.rd TIM_TB_LOCK_NS 1 * tbNs)
  let since := if s.f1Silent then s.now else s.tim.f1Good.getD s.now
  { s with tim := { s.tim with f1At := s.now, f1Good := if ok then some since else none } }

/-- A measured offset becomes a sample when MPD is recent (R282); with the pair on TB2 it only tells of F1 (R284). -/
def State.offsetSample (s : State) (n : Nat) (t2 t1cf : Int) : State :=
  let s := s.setTb n { s.tb n with lastSync := some (t2, t1cf) }
  let b := s.tb n
  let off := t2 - t1cf - (b.mpd + s.rdS TIM_TB_F_LINK_ASYM n * tbNs)
  if b.mpdAt.any fun a => decide (s.now ≤ a + 16 * sfTicks) then
    let s := s.inc TIM_TB_F_SAMPLES 1 n
    let s := s.when_ (n == 1) fun u => u.f1Sample off
    if n == 1 && s.paired && s.on TIM_ACTIVE then s else s.sampleIn n off
  else s

/-- A Sync, or a Follow_Up, reaches follower `n` (R282); t2 is the reading of its time base now. -/
def ptpSyncRx (n : Nat) (m : Ptp) (s : State) : State :=
  if !s.receives n m then s
  else if m.fup then
    match (s.tb n).sync with
    | some w =>
      if w.seq == m.seq && decide (s.now ≤ w.at_ + sfTicks) then
        (s.setTb n { s.tb n with sync := none }).offsetSample n w.t2 (ptpStamp m + w.cf + m.cf)
      else s
    | none => s
  else
    let t2 := s.tbReading n
    let s := s.setTb n { s.tb n with master := some m.master, masterAt := s.now }
    if m.twoStep then s.setTb n { s.tb n with sync := some { seq := m.seq, t2 := t2, cf := m.cf, at_ := s.now } }
    else s.offsetSample n t2 (ptpStamp m + m.cf)

/-- The words of follower `n`'s request (`k` 0) or response (`k` 1) template (R283). -/
def State.template (s : State) (n k : Nat) : List Nat :=
  (List.range 32).flatMap fun w => bytesBE 4 (s.rd TIM_TEMPLATE ((n - 1) * 128 + k * 64 + w))

/-- The frame length of a template, when it lies in 64 to 128 (R283). -/
def State.templateLen (s : State) (n k : Nat) : Option Nat :=
  let l := s.rd TIM_TEMPLATE ((n - 1) * 128 + k * 64 + 63)
  if 64 ≤ l && l ≤ 128 then some l else none

/-- A frame built from a template (R283): sequenceId, a zero originTimestamp, for responses the requestingPortIdentity, and the FCS. -/
def buildFrame (tmpl : List Nat) (len seq : Nat) (req : Option Nat) : List Nat :=
  let b := tmpl.take (len - 4)
  let b := match (parse (b ++ [0, 0, 0, 0]) 0 0 0).msg with
    | none => b
    | some o =>
      let c := putBytes (putBytes b (o + 30) 2 seq) (o + 34) 10 0
      let c := match req with
        | some id => putBytes c (o + 44) 10 id
        | none => c
      c.take (len - 4)
  b ++ fcsBytes (crc32 b)

/-- The egress queue of follower `n` (R283). -/
def State.followerEq (s : State) (n : Nat) : Nat := s.rd TIM_TB_F_PORT n * 8 + s.rd TIM_TB_F_TC n

/-- The request interval of follower `n` in ticks (R283). -/
def State.reqTicks (s : State) (n : Nat) : Nat :=
  let l := s.rdS TIM_TB_F_REQ_LOG n
  if 0 ≤ l then sfTicks * 2 ^ l.toNat else sfTicks / 2 ^ l.natAbs

/-- Follower `n` sends its Delay_Req or Pdelay_Req (R283). -/
def delayReqTimer (n : Nat) (s : State) : State :=
  if !s.follows n then s
  else
    let s := match (s.tb n).reqAt with
      | some a => s.advance (a + s.reqTicks n)
      | none => s
    match s.templateLen n 0 with
    | none => s
    | some len =>
      let seq := (s.tb n).reqSeq
      let t := s.setTb n { s.tb n with reqSeq := (seq + 1) % 65536, req := some { seq := seq }, reqAt := some s.now }
      t.enqEq (t.followerEq n) { bytes := buildFrame (t.template n 0) len seq none, own := some (n, seq) }

/-- MPD of follower `n` is measured (R283). -/
def State.setMpd (s : State) (n : Nat) (d : Int) : State :=
  (s.setTb n { s.tb n with mpd := d, mpdAt := some s.now, req := none }).wr TIM_TB_MPD (satUI 32 (d / tbNs)) n

/-- A Delay_Resp, or a Pdelay_Resp or its Follow_Up, reaches follower `n` (R283). -/
def ptpDelayRespRx (n : Nat) (m : Ptp) (s : State) : State :=
  if !s.receives n m then s
  else
    match (s.tb n).req with
    | none => s
    | some r =>
      match r.t3 with
      | none => s
      | some t3 =>
        if r.seq != m.seq then s
        else if !s.on TIM_TB_F_P2P n then
          match (s.tb n).lastSync with
          | some (t2, t1cf) => s.setMpd n (((t2 - (t3 : Int)) + (ptpStamp m - t1cf) - m.cf) / 2)
          | none => s
        else if m.fup then
          match r.resp with
          | some (t2, t4, cf) => s.setMpd n ((((t4 : Int) - (t3 : Int)) - (ptpStamp m - (t2 : Int)) - cf - m.cf) / 2)
          | none => s
        else if m.twoStep then
          s.setTb n { s.tb n with req := some { r with resp := some ((ptpStamp m).toNat, s.tbReading n, m.cf) } }
        else s.setMpd n ((((s.tbReading n : Nat) : Int) - (t3 : Int) - m.cf) / 2)

/-- Every Pdelay_Req on F_PORT that is copied to the follower is answered, of whatever domain and sender (DEDUCED, log 197), with a one-step Pdelay_Resp, whose correctionField takes the turnaround as it leaves (R283). -/
def ptpPdelayReqRx (n : Nat) (m : Ptp) (s : State) : State :=
  if !s.follows n || !s.copied n m || !s.on TIM_TB_F_P2P n || m.port != s.rd TIM_TB_F_PORT n then s
  else
    match s.templateLen n 1 with
    | none => s
    | some len =>
      s.enqEq (s.followerEq n)
        { bytes := buildFrame (s.template n 1) len m.seq (some m.master), turn := some (n, s.tbReading n) }

/-! The pair, the pins and TIME_INFO -/

/-- The comparison of TB1 and TB2 (R284). -/
def pairCompare (s : State) : State :=
  if !s.paired then s
  else
    let d : Int := (s.tbReading 1 : Int) - s.tbReading 2
    let t := s.wrS TIM_PAIR_DIFF (satS 32 (d / tbNs))
    if t.on TIM_ACTIVE && t.rd TIM_TB_STATE 2 == tsLocked then t.sampleIn 1 d else t

/-- A rising edge on PPS_IN (R289). -/
def ppsInEdge (s : State) : State :=
  if s.dark then s
  else if s.tim.ppsAt.any fun a => decide (s.now < a + s.rd TIM_PPSIN_MIN * msTicks) then s.inc TIM_PPSIN_IGN
  else
    let t := forEach (List.range 4) s fun t n =>
      let r := t.tbReading n
      let t := (t.wr64 TIM_TB_PPSIN_S_LO TIM_TB_PPSIN_S_HI (tbSec r) n).wr TIM_TB_PPSIN_NS (tbNsOf r) n
      if n != 0 && t.rd TIM_TB_MODE n == tmPps then
        let x : Int := (r % tbSecond : Nat)
        t.sampleIn n (if tbSecond / 2 ≤ r % tbSecond then x - tbSecond else x)
      else t
    ({ t with tim := { t.tim with ppsAt := some t.now } }).raise 11 5

/-- QUAL lets a pulse out (R290). -/
def State.qualOk (s : State) (n : Nat) : Bool :=
  let st := s.tbState (s.rd TIM_PO_TB n)
  match s.rd TIM_QUAL n with
  | 0 => true
  | 1 => st == tsLocked || st == tsHold
  | _ => st == tsLocked

/-- Second `k` joins the spans of seconds given. -/
def addSecond (l : List (Nat × Nat)) (k : Nat) : List (Nat × Nat) :=
  match l with
  | (a, b) :: t => if a ≤ b && k == b + 1 then (a, k) :: t else (k, k) :: l
  | [] => [(k, k)]

/-- PPS_OUTn has given second `k` of the time base that PO_TB names. -/
def State.given (s : State) (n k : Nat) : Bool :=
  (amGetD [] s.tim.ppsSec (n * 4 + s.rd TIM_PO_TB n)).any fun x => decide (x.1 ≤ k) && decide (k ≤ x.2)

/-- PPS_OUTn gives the pulse of the next second boundary of its time base (R290): the record holds the reading at its rise. A second
already given gets none the second time. -/
def ppsOutPulse (n : Nat) (s : State) : State :=
  if 2 ≤ n || !s.on TIM_PO_EN n || !s.qualOk n || s.dark then s
  else
    let ofs := s.rdS TIM_OFS n
    let r : Int := (s.tbNow (s.rd TIM_PO_TB n) : Int) + ofs
    let k := ceilDiv r.toNat 1000000000
    if s.given n k then s
    else
      let t := s.emit (.pulse n ((k * 1000000000 : Nat) - ofs).toNat (s.rd TIM_WIDTH n))
      let key := n * 4 + s.rd TIM_PO_TB n
      { t with tim := { t.tim with ppsSec := amSet t.tim.ppsSec key (addSecond (amGetD [] s.tim.ppsSec key) k) } }

/-- The bytes of a TOD message for second `sec` (R291). -/
def State.todBytes (s : State) (sec : Nat) : List Nat :=
  let tb := s.rd TIM_TOD_TB
  let tb0 := tb == 0
  let secs := if tb0 && s.on TIM_TI_VALID then sec + s.rd64 TIM_EPOCH_TAI_LO TIM_EPOCH_TAI_HI else sec
  let b2 := tb * 64 + s.tbState tb * 16 + (if tb0 then s.rd TIM_LEAP else 0) * 4
  let cls := if tb0 then s.rd TIM_CLOCK_CLASS0 else s.rd TIM_TB_CLOCK_CLASS tb
  let utc := if tb0 then s.rd TIM_UTC_OFS0 else s.rd TIM_TB_UTC_OFS tb
  let acc := if tb0 then s.rd TIM_CLOCK_ACC0 else s.rd TIM_TB_CLOCK_ACC tb
  let m := [0x5A, 0xA5, b2, cls] ++ bytesBE 6 secs ++ bytesBE 2 utc ++ [acc, 0]
  m ++ bytesBE 2 (crc16 m)

/-- Ticks of a TOD message: 160 bits at the baud rate (R291). -/
def todTicks (baud : Nat) : Nat :=
  let bd := match baud with
    | 0 => 9600 | 1 => 19200 | 2 => 38400 | _ => 115200
  ceilDiv (160 * 65536000000) bd

/-- The TOD message of the second that began last (R291); omitted while the message before it still runs. -/
def todMessage (s : State) : State :=
  if !s.on TIM_TOD_EN || s.dark then s
  else
    let sec := tbSec (s.tbReading (s.rd TIM_TOD_TB))
    let key := sec * 4 + s.rd TIM_TOD_TB
    if s.tim.todSec == some key then s
    else
      let t := { s with tim := { s.tim with todSec := some key } }
      if t.now < t.tim.todEnd then t
      else
        let t := t.emit (.tod (t.todBytes sec))
        { t with tim := { t.tim with todEnd := t.now + todTicks (t.rd TIM_BAUD) } }

/-- TIME_INFO in force (R292). -/
def State.actTimeInfo (s : State) (m : Msg) : State :=
  let w := msgWord m 0 * 2 ^ 32 + msgWord m 1
  let c := msgWord m 2
  let t := (s.wr64 TIM_EPOCH_TAI_LO TIM_EPOCH_TAI_HI (w / 2 ^ 16)).wr TIM_UTC_OFS0 w
  let t := ((t.wr TIM_LEAP (bits c 31 30)).wr TIM_CLOCK_CLASS0 (bits c 23 16)).wr TIM_CLOCK_ACC0 (bits c 15 8)
  (t.wr TIM_TI_VALID 1).raise 11 7

/-- TIME_INFO (R125, R292). -/
def timeInfo (r : Rec) (s : State) : State := s.message mTimeInfo r (fun m _ t => t.actTimeInfo m) fun _ _ t => t

/-! The meanings -/

/-- TB_MODE_WRITE. -/
def execTbModeWrite (n value : Nat) (s : State) : Host.Outcome State Fault Refusal := .next (tbModeWrite n value s)
/-- SET_GO. -/
def execSetGo (n : Nat) (s : State) : Host.Outcome State Fault Refusal := .next (setGo n s)
/-- ADJ_GO. -/
def execAdjGo (n : Nat) (s : State) : Host.Outcome State Fault Refusal := .next (adjGo n s)
/-- CAP_GO. -/
def execCapGo (s : State) : Host.Outcome State Fault Refusal := .next (capGo s)
/-- TB_SAMPLE. -/
def execTbSample (n : Nat) (s : State) : Host.Outcome State Fault Refusal := .next (tbSample n s)
/-- SYNC_TO_EXPIRY. -/
def execSyncToExpiry (n : Nat) (s : State) : Host.Outcome State Fault Refusal := .next (syncToExpiry n s)
/-- HOLD_MAX_EXPIRY. -/
def execHoldMaxExpiry (n : Nat) (s : State) : Host.Outcome State Fault Refusal := .next (holdMaxExpiry n s)
/-- PTP_SYNC_RX. -/
def execPtpSyncRx (n : Nat) (m : Ptp) (s : State) : Host.Outcome State Fault Refusal := .next (ptpSyncRx n m s)
/-- DELAY_REQ_TIMER. -/
def execDelayReqTimer (n : Nat) (s : State) : Host.Outcome State Fault Refusal := .next (delayReqTimer n s)
/-- PTP_DELAY_RESP_RX. -/
def execPtpDelayRespRx (n : Nat) (m : Ptp) (s : State) : Host.Outcome State Fault Refusal := .next (ptpDelayRespRx n m s)
/-- PTP_PDELAY_REQ_RX. -/
def execPtpPdelayReqRx (n : Nat) (m : Ptp) (s : State) : Host.Outcome State Fault Refusal := .next (ptpPdelayReqRx n m s)
/-- PAIR_COMPARE. -/
def execPairCompare (s : State) : Host.Outcome State Fault Refusal := .next (pairCompare s)
/-- PPS_IN_EDGE. -/
def execPpsInEdge (s : State) : Host.Outcome State Fault Refusal := .next (ppsInEdge s)
/-- PPS_OUT_PULSE. -/
def execPpsOutPulse (n : Nat) (s : State) : Host.Outcome State Fault Refusal := .next (ppsOutPulse n s)
/-- TOD_MESSAGE. -/
def execTodMessage (s : State) : Host.Outcome State Fault Refusal := .next (todMessage s)
/-- TIME_INFO. -/
def execTimeInfo (r : Rec) (s : State) : Host.Outcome State Fault Refusal := .next (timeInfo r s)

end Sys2Proof.Machine
end

