-- ==== Sys2Proof/Machine/Ltm.lean ====
section
/-! DEFINITION. Line time's own commands (chapter 02): the boundaries with all that falls on them (R41 to R53), holdover (R39, R40), the
apply commands, clock and skew monitors (R27, R34), and PROFILE_SET, which waits for a boundary (R166, R167). -/

namespace Sys2Proof.Machine

/-! Quiet boundaries (R46) -/

/-- No burst of the terminal, ramps included, is in the air within 8,192 ticks of `t`. -/
def State.quietAt (s : State) (t : Nat) : Bool :=
  !(s.guardWindows.any fun w => decide (w.1 ≤ t + 8192 + rampTicks) && decide (t ≤ w.2.1 + 8192 + rampTicks))
    && match s.up.lastEnd with
       | none => true
       | some e => decide (e + 8192 < t)

/-! Holdover (R39, R40) -/

/-- After 10 s in HOLDOVER, LT returns to FREE (R39). -/
def ltHoldoverExpiry (s : State) : State :=
  match s.time.holdStart with
  | some h => if s.ltIs ltHoldover then (s.advance (h + 10 * sfTicks)).ltToFree else s
  | none => s

/-- The accumulated holdover exceeds 2 s (R40). -/
def fineRangeReq (s : State) : State :=
  if s.on LTM_FINE_RANGE_REQ then s
  else
    let t := if s.ltIs ltHoldover then s.advance (s.now + (2 * sfTicks + 1 - s.time.holdTicks)) else s
    if 2 * sfTicks < t.time.holdTicks then t.wr LTM_FINE_RANGE_REQ 1 else s

/-! Monitors (R27, R34) -/

/-- The region of a clock domain, by its place in the table of R33. -/
def domainRegion (d : Nat) : Nat :=
  if d < 4 then 8 else if d < 6 then 9 else if d == 6 then 10 else if d < 15 then d - 7 else if d < 33 then 11
  else if d == 33 then 12 else if d < 50 then ddrRegion (d - 34) else if d == 50 then 13 else if d == 51 then 10
  else if d < 54 then 14 else if d < 56 then 15 else if d == 56 then 10 else 16

/-- The page whose local status shows a domain's fault: the line path's own for its converters and the time-base oscillator, which report
there too (R34), else the collector's (DESIGN CHOICE, log 136). -/
def domainPage (d : Nat) : Nat := if d < 4 then 7 else if d < 6 then 10 else if d == 56 then 11 else 2

/-- A clock domain is enabled (R33, R34): a carrier, the transmit path, a vat region, a client or Fenkai lane, the packet core, the cipher and
a DIMM channel are clocked only while powered (R403, R407). -/
def State.domainEnabled (s : State) (d : Nat) : Bool :=
  if d < 4 then s.acq (d / 2) != 0
  else if d < 6 then !s.on UPB_TX_GATED
  else if 7 ≤ d && d < 15 then bit (s.rd VAT_REGION_EN) (d - 7) && !s.asleep
  else if 15 ≤ d && d < 31 then s.on SER_L_RX_AWAKE (d - 15)
  else if d == 33 || d == 51 then !s.asleep
  else if 34 ≤ d && d < 50 then s.on DDR_POPULATED (d - 34)
  else if d == 54 || d == 55 then s.rd FKL_ROLE != 0
  else true

/-- The monitor of domain `d` finds it stopped or out of range while it is enabled (R34): a contained fault at its region; a receive
converter that has stopped leaves its carrier without signal. FLT watches itself by another way (R429), and AON is not watched. -/
def clockMonitorFault (d : Nat) (s : State) : State :=
  if s.dark || 60 ≤ d || d == 57 || d == 58 || !s.domainEnabled d then s
  else
    let t := s.fault cClkStop (srcRegion (domainRegion d)) (domainPage d) d
    if d == 0 then t.meet (.los 0) true else if d == 2 then t.meet (.los 1) true else t

/-- A level's LT copy leaves its budget (R27): it is reloaded at the next frame boundary. Line time's own page shows the fault (DESIGN CHOICE,
log 171). -/
def ltSkew (level region cluster : Nat) (s : State) : State :=
  if s.dark then s
  else
    let src : FaultSrc := { level := level, region := region, cluster := cluster }
    { s with time := { s.time with skew := s.time.skew ++ [src] } }.fault cLtSkew src 6

/-! PROFILE_SET (R166, R167) -/

/-- A PROFILE_SET is accepted: PRECOMP is launched for it (kernel slot 1), and it waits for its boundary. -/
def State.acceptProfile (s : State) (m : Msg) (from_ : Nat) : State :=
  let t := s.ackKept true mProfileSet m.seq ackOk 0
  let p : Profile := { body := (List.range 7).map (msgWord m), accepted := t.now, notBefore := from_ }
  { t with up := { t.up with profile := some p, uReady := 0 } }.launchSlot 1

/-- PROFILE_SET (R167): one with EFF is judged at once like any other, and its word only says from when it may act. One out of the ranges of
R166 is answered so, and counts as no format error (R121); the ranges are judged before the boundary (DEDUCED, log 182). -/
def profileSet (r : Rec) (s : State) : State :=
  s.codeRecord mProfileSet r fun m t =>
    if t.msgFormatOk mProfileSet m && !t.keptIs true mProfileSet m.seq && !profileOk m then t.ack mProfileSet m.seq ackBadFormat 0
    else
      t.judgeMsg mProfileSet m (fun _ u => u.acceptProfile m 0) fun _ u =>
        let u := { u with join := { u.join with pend := amDel u.join.pend mProfileSet } }
        (u.acceptProfile m ((u.effBoundary m.effWord).getD 0)).inc UPB_MSG_OK

/-- The pending PROFILE_SET takes effect whole at a frame boundary that allows it. -/
def State.profileEdge (s : State) : State :=
  match s.up.profile with
  | none => s
  | some p =>
    if !s.quietAt s.now || decide (s.now < p.accepted + 2 * msTicks) || decide (s.now < p.notBefore) || s.up.uReady != 0xFFFF then s
    else
      let w (k : Nat) := p.body.getD k 0
      let t := forEach ((List.range 16).map (32 + ·)) s State.swapBank
      let t := { t with up := { t.up with profile := none } }
      let t := ((t.wr UPB_CD_PRE (bits (w 0) 31 14)).wr UPB_FREQ_PRE (bits (w 1) 31 22)).wr UPB_TX_PWR (bits (w 1) 21 12)
      let t := (List.range 4).foldl (fun u k => u.wr UPB_PREEMPH (w (2 + k)) k) t
      ((t.wr UPB_PRE_MAP (w 6)).wr UPB_TXP_LT t.lt32).raise 10 11

/-! Boundaries (R41, R42, R46 to R53) -/

/-- SLOT boundary. -/
def slotBoundary (s : State) : State :=
  if s.dark then s
  else
    let e := nextEdge slotTicks s.now s.time.lastSlot
    let t := s.advance e
    ({ t with time := { t.time with lastSlot := some e } }.freezeEdge).applyEdge bkSlot

/-- The LT step on the transition into LOCKED (R41): the counter moves, and what waits on it is resolved anew. Launch table entries that
it skips fire in the last place of R53. -/
def State.ltStep (s : State) (d : Int) : State :=
  let t := s.moveLt d
  let t := { t with time := { t.time with step := none, holdStart := none, lastSlot := none, lastFrame := none, lastMf := none
                                          lastSf := none } }
  let t := ((((t.wrS LTM_LT_STEP (satS 32 d)).inc LTM_LT_STEPS).raise 6 2).raise 6 0).setLtState ltLocked
  t.reresolve.recheckGrants

/-- A RANGE_RESULT's EqD has taken effect (R40, R47, R135): fine ranging is complete, and a join has succeeded. -/
def State.ranged (s : State) (seq : Nat) : State :=
  let t := s.raise 6 3
  let t := if t.keptIs true mRangeResult seq then t.ackKept true mRangeResult seq ackOk (s.rd LTM_EQD)
           else t.ack mRangeResult seq ackOk (s.rd LTM_EQD)
  let t := ({ t with time := { t.time with holdTicks := 0 } }.wr LTM_HOLD_MF 0).wr LTM_FINE_RANGE_REQ 0
  if t.mode == .join && t.rd UPB_JOIN_STATE == 4 then
    let t := ((t.wr UPB_REGISTERED 1).wr UPB_JOIN_EN 0).wr UPB_JOIN_STATE 0
    (t.setMode .service).raise 10 0
  else t

/-- The launch of every burst committed and not yet in the air follows EqD (R157). -/
def State.followEqd (s : State) : State :=
  { s with up := { s.up with bursts := s.up.bursts.map fun b => if b.inAir then b else { b with launch := s.launchOf b.g } } }

/-- The EqD load or correction at a frame boundary (R46, R47). -/
def State.eqdEdge (s : State) : State :=
  let p := s.rdS LTM_EQD_PEND
  if !s.quietAt s.now then (if p != 0 then s.inc LTM_EQD_DEFERRED else s)
  else
    match s.time.eqdLoad with
    | some e =>
      let t := { s with time := { s.time with eqdLoad := none } }
      let t := if t.rd LTM_EQD == e.value then t else t.inc LTM_EQD_APPLIED
      let t := ((t.wr LTM_EQD e.value).wrS LTM_EQD_PEND e.after).recheckGrants
      if e.range then t.ranged e.seq else t
    | none =>
      if p == 0 then s
      else
        let d := clampI (-4194) 4194 p
        let want : Int := (s.rd LTM_EQD : Int) + d
        let got := clampI 0 4294967295 want
        let t := (s.wr LTM_EQD got.toNat).wrS LTM_EQD_PEND (p - d)
        let t := if t.rd LTM_EQD == s.rd LTM_EQD then t else (t.inc LTM_EQD_APPLIED).followEqd
        if got == want then t else { t with up := { t.up with eqdClip := true } }.raise 6 4

/-- Where the next FRAME boundary lies: on the counter, or on the new LT when a step waits and its boundary is quiet (R41). -/
def State.frameTarget (s : State) : Nat × Option Int :=
  let plain := nextEdge frameTicks s.now s.time.lastFrame
  match s.time.step with
  | none => (plain, none)
  | some st =>
    let e := nextEdge frameTicks (movedBy st.delta s.now) none
    let old := ((e : Int) - st.delta).toNat
    if s.quietAt old && decide (s.now ≤ old) then (old, some st.delta) else (plain, none)

/-- The AGC of a carrier at a frame boundary (R64), from the RMS code of the frame: one gain step of at most 0.5 dB towards AGC_TARGET goes
out over the front-end SPI. The spec fixes no size below that (DESIGN CHOICE, log 172). -/
def State.agc (s : State) (c rms : Nat) : State :=
  let goal := s.rd LRX_AGC_TARGET
  if 2 ≤ c || s.acq c == 0 || rms == goal then s
  else
    let n : Int := (s.fresh.1 % 50 + 1 : Nat)
    let d := if rms < goal then n else -n
    let t := s.fresh.2
    { t with rx := { t.rx with gain := amPut 0 t.rx.gain c (amGetD 0 t.rx.gain c + d) } }.emit (.gain c d)

/-- FRAME boundary, in the order of R53; `clip` names the carriers of which more than 1 sample in 10^5 clipped, and `rms` gives the RMS
codes of the frame by carrier (R64). -/
def frameBoundary (clip : Nat) (rms : List (Nat × Nat)) (s : State) : State :=
  if s.dark then s
  else
    let (e, step) := s.frameTarget
    let t := s.advance e
    let t := match step with
      | some d => t.ltStep d
      | none => t
    let t := { t with time := { t.time with lastFrame := some t.now, skew := [] } }
    let t := (t.fkSlew.eqdEdge).freezeEdge
    let t := (t.applyEdge bkFrame).profileEdge
    let t := ((t.lineActs.showSilence).safeLeave).pairSwitch.followSamples
    let t := (t.evalDefects.showRelay).raiseIf (clip % 4 != 0) 7 4
    let t := [0, 1].foldl (fun u c => match amGet? rms c with | some r => u.agc c r | none => u) t
    if step.isSome then t.leSkipped.sleepIfDue else t

/-- A message held for its boundary acts (R121). -/
def State.actPending (s : State) (code : Nat) (m : Msg) : State :=
  let t := { s with join := { s.join with pend := amDel s.join.pend code } }.inc UPB_MSG_OK
  if code == mLineParams then t.actLineParams m
  else if code == mTimeInfo then t.actTimeInfo m
  else if code == mGroupSet then t.actGroupSet m
  else if code == mGrazeAck then t.beginGraze
  else t

/-- Every message whose boundary has come acts. -/
def State.pendingAct (s : State) : State :=
  forEach (s.join.pend.filter fun e => decide (e.2.1 ≤ s.now)) s fun t e => t.actPending e.1 e.2.2.2

/-- VALID of the monitored values reads 0 outside TRACK and when the last multiframe saw no update (R84). -/
def State.lmsEdge (s : State) : State :=
  forEach [0, 1] s fun t c =>
    let fresh := match amGet? t.vat.lmsAt c with
      | some mf => decide (t.now / mfTicks ≤ mf + 1)
      | none => false
    if t.acq c == 6 && fresh then t else (List.range 6).foldl (fun u k => u.wr LMS_VALID 0 (c * 6 + k)) t

/-- SNR of the subcarriers measured over the last multiframe, in 0.1 dB (R86). -/
def State.snrEdge (s : State) (snr : List (Nat × Nat)) : State :=
  forEach (List.range 32) s fun t c =>
    match snr.find? fun e => e.1 == c with
    | some (_, v) => (t.wr LRX_SNR v c).wr LRX_SNR_VALID 1 c
    | none => t.wr LRX_SNR_VALID 0 c

/-- MULTIFRAME boundary (R42, R48): in FREE and ACQ it is not raised. -/
def multiframeBoundary (snr : List (Nat × Nat)) (s : State) : State :=
  if s.dark || s.ltIs ltFree || s.ltIs ltAcq then s
  else
    let e := nextEdge mfTicks s.now s.time.lastMf
    let t := s.advance e
    let t := { t with time := { t.time with lastMf := some e }
                      rx := { t.rx with remotes := t.rx.remotes.filter fun r => decide (e < r.at_ + 2 * mfTicks) } }
    let t := (t.applyEdge bkMf).upSwitch.pendingAct
    let t := t.rxMultiframe.groupsMultiframe
    ((t.lmsEdge).snrEdge snr).setGd

/-- SUPERFRAME boundary (R42, R48, R270, R467): `ages` are the slowdowns measured on LD, HD, MD0 and MD1. RR of TB1 to TB3 is
FREQ with the oscillator's own rate against LT over the last superframe (R280, log 16). -/
def superframeBoundary (ages : List Nat) (s : State) : State :=
  if s.dark || s.ltIs ltFree || s.ltIs ltAcq then s
  else
    let e := nextEdge sfTicks s.now s.time.lastSf
    let t := s.advance e
    let t := { t with time := { t.time with lastSf := some e } }.applyEdge bkSf
    let t := forEach [1, 2, 3] (t.wr CIP_MISMATCH_SF 0) fun u n =>
      u.wrS TIM_TB_RR (satS 32 (u.rdS TIM_TB_FREQ n + (Config.tbcDrift (u.ran - sfTicks) u.ran).toInt / 4096)) n
    if !t.inMode [.listen, .join, .service] then t
    else
      let a (k : Nat) := ages.getD k 0
      let t := (((t.wr GLB_AGE_LD (a 0)).wr GLB_AGE_HD (a 1)).wr GLB_AGE_MD0 (a 2)).wr GLB_AGE_MD1 (a 3)
      let th := t.rd GLB_AGE_WARN_TH
      (t.wr GLB_AGE_LT t.lt32).raiseIf (th != 0 && [GLB_AGE_LD, GLB_AGE_HD, GLB_AGE_MD0, GLB_AGE_MD1].any fun f => decide (th ≤ t.rd f)) 0 3

/-! The apply commands -/

/-- APPLY of page `pg` is written with REQ = 1 (R49). -/
def applyReq (pg boundary : Nat) (s : State) : State := s.applyReq pg boundary

/-- APPLY of page `pg` is written with CANCEL = 1 (R49). -/
def applyCancel (pg : Nat) (s : State) : State := s.applyCancel pg

/-- The marker of page `pg` passes in lane `lane` (R51). -/
def applyMarkerPass (pg lane : Nat) (s : State) : State := s.markerPass pg lane

/-- AT_LT_APPLY (R52). -/
def atLtApply (s : State) : State := s.atLt

/-- COMMIT_COMPLETE (R198). -/
def commitComplete (s : State) : State := s.commitDone

/-! The meanings -/

/-- LT_HOLDOVER_EXPIRY. -/
def execLtHoldoverExpiry (s : State) : Host.Outcome State Fault Refusal := .next (ltHoldoverExpiry s)
/-- FINE_RANGE_REQ. -/
def execFineRangeReq (s : State) : Host.Outcome State Fault Refusal := .next (fineRangeReq s)
/-- CLOCK_MONITOR_FAULT. -/
def execClockMonitorFault (d : Nat) (s : State) : Host.Outcome State Fault Refusal := .next (clockMonitorFault d s)
/-- LT_SKEW. -/
def execLtSkew (level region cluster : Nat) (s : State) : Host.Outcome State Fault Refusal := .next (ltSkew level region cluster s)
/-- PROFILE_SET. -/
def execProfileSet (r : Rec) (s : State) : Host.Outcome State Fault Refusal := .next (profileSet r s)
/-- SLOT_BOUNDARY. -/
def execSlotBoundary (s : State) : Host.Outcome State Fault Refusal := .next (slotBoundary s)
/-- FRAME_BOUNDARY. -/
def execFrameBoundary (clip : Nat) (rms : List (Nat × Nat)) (s : State) : Host.Outcome State Fault Refusal :=
  .next (frameBoundary clip rms s)
/-- MULTIFRAME_BOUNDARY. -/
def execMultiframeBoundary (snr : List (Nat × Nat)) (s : State) : Host.Outcome State Fault Refusal :=
  .next (multiframeBoundary snr s)
/-- SUPERFRAME_BOUNDARY. -/
def execSuperframeBoundary (ages : List Nat) (s : State) : Host.Outcome State Fault Refusal := .next (superframeBoundary ages s)
/-- APPLY_REQ. -/
def execApplyReq (pg boundary : Nat) (s : State) : Host.Outcome State Fault Refusal := .next (applyReq pg boundary s)
/-- APPLY_CANCEL. -/
def execApplyCancel (pg : Nat) (s : State) : Host.Outcome State Fault Refusal := .next (applyCancel pg s)
/-- APPLY_MARKER_PASS. -/
def execApplyMarkerPass (pg lane : Nat) (s : State) : Host.Outcome State Fault Refusal := .next (applyMarkerPass pg lane s)
/-- AT_LT_APPLY. -/
def execAtLtApply (s : State) : Host.Outcome State Fault Refusal := .next (atLtApply s)
/-- COMMIT_COMPLETE. -/
def execCommitComplete (s : State) : Host.Outcome State Fault Refusal := .next (commitComplete s)

end Sys2Proof.Machine
end

