-- ==== Sys2Proof/Machine/Queues.lean ====
section
/-! DEFINITION. Upstream queues and the allocations' schedulers (R204, R208 to R212). -/

namespace Sys2Proof.Machine

/-- A write that carries ALLOC of queue `u` (R208). -/
def uqAllocWrite (u value : Nat) (s : State) : State :=
  if 4096 ≤ u || value % 64 == s.rd QSH_UQ_ALLOC u then s
  else if !s.on QSH_UQ_EN u && s.rd QSH_UQ_QFILL u == 0 then s.wr QSH_UQ_ALLOC value u
  else ((s.wr QSH_UQ_MAP_BUSY 1 u).inc QSH_MAP_REFUSED).raise 14 2

/-- A stopped upstream admission resumes when its frame fits, or would be discarded (R204). -/
def admissionResume (s : State) : State :=
  match s.pk.stalled with
  | none => s
  | some (u, f) =>
    let q := s.uq u
    let mx := s.rd QSH_UQ_QMAX u
    if s.ubuf + f.len ≤ ubufSize || !s.on QSH_UQ_EN u || (mx != 0 && mx * 1024 < q.fill + f.len) then
      (({ s with pk := { s.pk with stalled := none, stalledBy := none } }).enqUq u f).showInFlight
    else s

/-- An allocation's scheduler outside the registers. -/
def State.sched (s : State) (al : Nat) : Sched := amGetD {} s.pk.scheds al

/-- An allocation's scheduler becomes `c`. -/
def State.setSched (s : State) (al : Nat) (c : Sched) : State := { s with pk := { s.pk with scheds := amPut {} s.pk.scheds al c } }

/-- The eligible queues of an allocation (R210). -/
def State.eligible (s : State) (al : Nat) : List Nat :=
  (s.pk.uqs.map (·.1)).filter fun u => s.rd QSH_UQ_ALLOC u == al && !(s.uq u).frames.isEmpty && s.shOk (shUq u)

/-- The level served: the highest that holds an eligible queue (R210). -/
def State.servedLevel (s : State) (us : List Nat) : Nat := (us.map fun u => s.rd QSH_UQ_LEVEL u).foldl max 0

/-- The turn of queue `u` at level `lv` ends (R210). -/
def State.endTurn (s : State) (al lv u : Nat) : State :=
  let c := s.sched al
  s.setSched al { turns := amDel c.turns lv, served := amSet c.served lv (amGetD [] c.served lv ++ [u]) }

/-- The turn of queue `u` at level `lv` begins: QUANTUM is added to its deficit; a round in which every eligible queue has had its turn
is over (R210). -/
def State.beginTurn (s : State) (al lv u : Nat) (cs : List Nat) : State :=
  let c := s.sched al
  let done := amGetD [] c.served lv
  let done := if cs.all fun x => done.contains x then [] else done
  let t := s.setSched al { turns := amSet c.turns lv u, served := amPut [] c.served lv done }
  t.setUq u { t.uq u with deficit := (t.uq u).deficit + t.rd QSH_UQ_QUANTUM u }

/-- SEAL_TO has run out for the open container (R211). -/
def State.sealDue (s : State) (al : Nat) : Bool :=
  let a := s.asmOf al
  s.rd QSH_AL_SEAL_TO al != 0 && !a.payload.isEmpty && decide (a.since + s.rd QSH_AL_SEAL_TO al * usTicks ≤ s.now)

/-- The open container is sealed before a unit of `size` bytes when that does not fit or SEAL_TO has run out (R211); a unit that would not
have fitted the container sealed in this cycle adds its cause to that seal. -/
def State.sealFor (s : State) (al size : Nat) : State :=
  let s := match s.sealedNow al with
    | some fill => if (s.asmOf al).payload.isEmpty && decide (contPayload < fill + size) then s.addSealFlags al 2 else s
    | none => s
  let full := decide (contPayload < (s.asmOf al).payload.length + size)
  let due := s.sealDue al
  if (full || due) && !(s.asmOf al).payload.isEmpty then (s.sealOpen al (b2n full * 2 + b2n due * 4)).takeAll al else s

/-- The head frame of queue `u` moves into the open container (R210, R211). -/
def State.moveUnit (s : State) (al lv u : Nat) (f : UFrm) (rest : List UFrm) : State :=
  let t := s.sealFor al f.data.length
  if 2 ≤ (t.asmOf al).seals.length then t
  else
    let a := t.asmOf al
    let q := t.uq u
    let t := t.setUq u { frames := rest, deficit := if rest.isEmpty then 0 else q.deficit - f.len }
    let t := (t.debit (shUq u) f.len).debit (shAl al) f.len
    let t := t.setAsm al { a with payload := a.payload ++ f.data, fcount := a.fcount + 1
                                  since := if a.payload.isEmpty then t.now else a.since }
    let t := t.showBufs
    if rest.isEmpty || !t.shOk (shUq u) then t.endTurn al lv u else t

/-- The queue whose turn it is sends its head frame when that fits its deficit; else its turn ends (R210). -/
def State.takeTurn (s : State) (al lv u : Nat) : State :=
  match (s.uq u).frames with
  | [] => s.endTurn al lv u
  | f :: rest => if f.len ≤ (s.uq u).deficit then s.moveUnit al lv u f rest else s.endTurn al lv u

/-- The turn of queue `next` of level `lv` begins, where it may: a queue that has had its turn waits for the others (R210). -/
def State.nextTurn (s : State) (al lv next : Nat) (cs : List Nat) : State :=
  let done := amGetD [] (s.sched al).served lv
  if cs.contains next && (!done.contains next || cs.all fun x => done.contains x) then
    (s.beginTurn al lv next cs).takeTurn al lv next
  else s

/-- An allocation's scheduler moves one unit (R210). `next` is the queue whose turn begins when no turn is in progress: the spec does not
say which of the eligible queues that have not had their turn comes first (log 17). -/
def schedulerMoveUnit (al next : Nat) (s : State) : State :=
  if 64 ≤ al || 2 ≤ (s.asmOf al).seals.length || !s.shOk (shAl al) then s
  else
    let us := s.eligible al
    let lv := s.servedLevel us
    let cs := us.filter fun u => s.rd QSH_UQ_LEVEL u == lv
    match amGet? (s.sched al).turns lv with
    | some u => if cs.contains u then s.takeTurn al lv u else (s.endTurn al lv u).nextTurn al lv next cs
    | none => s.nextTurn al lv next cs

/-- SEAL_TO µs pass since the open container's first unit, and it is sealed (R211). -/
def sealTimeout (al : Nat) (s : State) : State :=
  let a := s.asmOf al
  if 64 ≤ al || s.rd QSH_AL_SEAL_TO al == 0 || a.payload.isEmpty then s
  else ((s.advance (a.since + s.rd QSH_AL_SEAL_TO al * usTicks)).sealOpen al 4).takeAll al

/-! The meanings -/

/-- UQ_ALLOC_WRITE. -/
def execUqAllocWrite (u value : Nat) (s : State) : Host.Outcome State Fault Refusal := .next (uqAllocWrite u value s)
/-- ADMISSION_RESUME. -/
def execAdmissionResume (s : State) : Host.Outcome State Fault Refusal := .next (admissionResume s)
/-- SCHEDULER_MOVE_UNIT. -/
def execSchedulerMoveUnit (al next : Nat) (s : State) : Host.Outcome State Fault Refusal := .next (schedulerMoveUnit al next s)
/-- SEAL_TIMEOUT. -/
def execSealTimeout (al : Nat) (s : State) : Host.Outcome State Fault Refusal := .next (sealTimeout al s)

end Sys2Proof.Machine
end

