-- ==== Sys2Proof/Machine/DmaOps.lean ====
section
/-! DEFINITION. The DMA channels' own operations (R358 to R367): interrupts, halts, completion of descriptors, and the writes of
RUN, STOP and HEAD. -/

namespace Sys2Proof.Machine

/-! Channels -/

/-- Channel `n` outside its registers. -/
def State.dch (s : State) (n : Nat) : DmaCh := amGetD {} s.dma n

/-- Beats of a descriptor (R360): a NOP has none. -/
def DmaDesc.beats (d : DmaDesc) : Nat := if d.op == 0 then 0 else d.len / 64

/-- Beats not issued (R360). -/
def DmaDesc.remain (d : DmaDesc) : Nat := d.beats - d.issued

/-- Every beat has been answered, or the NOP is done (R364). -/
def DmaDesc.done (d : DmaDesc) : Bool :=
  d.air.isEmpty && !d.failed && (if d.op == 0 then d.ready else d.diff.isSome || d.remain == 0)

/-- Beats of a channel that await an answer. -/
def DmaCh.out (c : DmaCh) : Nat := (c.descs.map fun d => d.air.length).foldl (· + ·) 0

/-- A beat of the channel is being retried (R365). -/
def DmaCh.retrying (c : DmaCh) : Bool := c.descs.any fun d => d.air.any fun b => b.2 != 0

/-- Channel `n` becomes `c`; BUSY, OUTSTANDING and REMAIN follow (R360, R371). A channel with no descriptor keeps its REMAIN. -/
def State.setDch (s : State) (n : Nat) (c : DmaCh) : State :=
  let t := { s with dma := amPut {} s.dma n c }
  let t := (t.flag DMA_CH_BUSY (!c.descs.isEmpty || c.tries != 0) n).wr DMA_CH_OUTSTANDING c.out n
  match c.descs.getLast? with
  | some d => t.wr DMA_CH_REMAIN d.remain n
  | none => t

/-- Channel `n` has an enabled CH_INT bit. -/
def State.chLine (s : State) (n : Nat) : Bool := s.rd DMA_CH_CH_INT n &&& s.rd DMA_CH_CH_INT_EN n != 0

/-- CH_INT bit `b` of channel `n` is set: source 40 + n (R350, R371). -/
def State.raiseCh (s : State) (n b : Nat) : State :=
  let t := s.wr DMA_CH_CH_INT (setBit (s.rd DMA_CH_CH_INT n) b) n
  if t.chLine n && !s.chLine n then t.sendMsix (40 + n) else t

/-! Halts (R366, R367) -/

def hcAlign : Nat := 1
def hcFormat : Nat := 2
def hcBeat : Nat := 3
def hcLastBeat : Nat := 4
def hcDesc : Nat := 5
def hcStopped : Nat := 6
def hcFlr : Nat := 7

/-- What a Function Level Reset returns to its reset value in a channel (R367). -/
def State.dmaForget (s : State) (n : Nat) : State :=
  [DMA_CH_RUN, DMA_CH_HEAD, DMA_CH_TAIL, DMA_CH_RING_BASE_LO, DMA_CH_RING_BASE_HI, DMA_CH_RING_SIZE].foldl
    (fun t f => t.wr f (f.resetAt n) n) s

/-- Channel `n` halts (R366). -/
def State.dmaHalt (s : State) (n cause : Nat) : State :=
  let t := { s with dma := amPut {} s.dma n {} }
  let t := (((t.wr DMA_CH_BUSY 0 n).wr DMA_CH_OUTSTANDING 0 n).wr DMA_CH_RUN 0 n).wr DMA_CH_HALT_CAUSE cause n
  let t := (t.raiseCh n 1).raise 5 1
  if cause == hcFlr then t.dmaForget n else t

/-- Causes found at a fetch: they halt the channel once every earlier descriptor is complete, with HEAD on the one fetched (R362). -/
def fetchCause (c : Nat) : Bool := c == hcAlign || c == hcFormat || c == hcDesc

/-- A halt takes place once no beat is outstanding (R365, R367). -/
def State.dmaSettle (s : State) (n : Nat) : State :=
  match (s.dch n).halting with
  | some cause =>
    if (if fetchCause cause then (s.dch n).descs.isEmpty else (s.dch n).out == 0) then s.dmaHalt n cause else s
  | none => s

/-- The channel stops issuing and will halt with `cause`, unless it is halting already: what befalls an earlier descriptor comes before
what a fetch found, and FLR before all. -/
def State.dmaWillHalt (s : State) (n cause : Nat) : State :=
  let c := s.dch n
  let x := match c.halting with
    | none => cause
    | some h => if fetchCause h || cause == hcFlr then cause else h
  (s.setDch n { c with halting := some x }).dmaSettle n

/-! Completion (R364) -/

/-- The 16 bytes of a status record. -/
def statusRecord (d : DmaDesc) (lt : Nat) : List Nat :=
  bytesLE 4 (1 + b2n d.diff.isSome * 2 + min d.retries 7 * 256 + d.tag * 65536) ++ bytesLE 4 (d.diff.getD 0) ++ bytesLE 8 (lt % 2 ^ 64)

/-- The place of ring entry `i`. -/
def State.dmaSlot (s : State) (n i : Nat) : Nat := s.rd64 DMA_CH_RING_BASE_LO DMA_CH_RING_BASE_HI n + 64 * i

/-- The oldest descriptor has completed: its record, HEAD and CH_INT.DONE. -/
def State.dmaComplete (s : State) (n : Nat) (d : DmaDesc) (rest : List DmaDesc) : State :=
  let t := s.emit (.hostWrite (s.rd DMA_CH_OWNER n) (s.dmaSlot n d.idx + 48) (statusRecord d s.lt64))
  let t := t.wr DMA_CH_HEAD (ringNext (t.rd DMA_CH_RING_SIZE n) d.idx) n
  let t := (t.inc DMA_CH_DESCS 1 n).setDch n { s.dch n with descs := rest }
  if d.irq then t.raiseCh n 0 else t

/-- Every descriptor that is done and has no earlier one before it completes, in order. -/
def State.dmaDrain (s : State) (n : Nat) : List DmaDesc → State
  | [] => s
  | d :: rest => if d.done then (s.dmaComplete n d rest).dmaDrain n rest else s

/-- What follows a change of the channel's descriptors: completions, then a halt that is due. -/
def State.dmaNext (s : State) (n : Nat) : State := (s.dmaDrain n (s.dch n).descs).dmaSettle n

/-! Writes of RUN, STOP and HEAD -/

/-- Write of RUN = 1 (R366, R367): a halted channel starts again at HEAD. -/
def dmaRun (n : Nat) (s : State) : State := if 16 ≤ n then s else s.wr DMA_CH_RUN 1 n

/-- Write of STOP = 1 (R367): a channel that does not run has nothing to halt. -/
def dmaStop (n : Nat) (s : State) : State := if 16 ≤ n || !s.on DMA_CH_RUN n then s else s.dmaWillHalt n hcStopped

/-- A write of HEAD (R366). -/
def dmaHeadWrite (n value : Nat) (s : State) : State :=
  if 16 ≤ n || s.on DMA_CH_RUN n || s.on DMA_CH_BUSY n then s else s.wr DMA_CH_HEAD value n

/-- A channel's part in a Function Level Reset of its owner (R336, R367). -/
def State.dmaFlr (s : State) (n : Nat) : State :=
  if s.on DMA_CH_RUN n || s.on DMA_CH_BUSY n then s.dmaWillHalt n hcFlr else s.dmaForget n

/-! The meanings -/

/-- DMA_RUN. -/
def execDmaRun (n : Nat) (s : State) : Host.Outcome State Fault Refusal := .next (dmaRun n s)
/-- DMA_STOP. -/
def execDmaStop (n : Nat) (s : State) : Host.Outcome State Fault Refusal := .next (dmaStop n s)
/-- DMA_HEAD_WRITE. -/
def execDmaHeadWrite (n value : Nat) (s : State) : Host.Outcome State Fault Refusal := .next (dmaHeadWrite n value s)

end Sys2Proof.Machine
end

