-- ==== Sys2Proof/Machine/RegRead.lean ====
section
/-! DEFINITION. Register accesses (chapters 15 and 22): the map of BAR0, masters and their reach, the fields at an offset, and the
reading of one DWORD with its latches. -/

namespace Sys2Proof.Machine

/-! The map (R470 to R475) -/

/-- What a BAR0 offset decodes to: a page with its PAGE_INDEX (64 + n for the ring page of VFn), a cluster's window, or a classifier
entry; and the offset within it. -/
inductive Loc where
  | page (p : Page) (idx off : Nat)
  | vat (c off : Nat)
  | rule (n off : Nat)
deriving DecidableEq, Repr

/-- The page at a 64 KiB block of the physical functions' BAR0 (R470), with its PAGE_INDEX. -/
def pageAt (b : Nat) : Option (Page × Nat) :=
  if 0x41 ≤ b && b ≤ 0x50 then some (.CIPU, 19 + (b - 0x41))
  else
    match b with
    | 0x00 => some (.GLB, 0) | 0x01 => some (.PWR, 1) | 0x02 => some (.FLT, 2) | 0x03 => some (.BOT, 3) | 0x04 => some (.PCI, 4)
    | 0x05 => some (.DMA, 5) | 0x10 => some (.LTM, 6) | 0x11 => some (.LRX, 7) | 0x12 => some (.FRM, 8) | 0x13 => some (.LMS, 9)
    | 0x14 => some (.UPB, 10) | 0x15 => some (.TIM, 11) | 0x20 => some (.CLP, 12) | 0x21 => some (.CLS, 13)
    | 0x22 => some (.QSH, 14) | 0x23 => some (.GAT, 15) | 0x30 => some (.CAV, 16) | 0x31 => some (.DDR, 17)
    | 0x40 => some (.CIP, 18) | 0x60 => some (.VAT, 35) | 0x70 => some (.SER, 36) | 0x71 => some (.FKL, 37) | _ => none

/-- A BAR0 offset of a physical function (R470, R471, R473): none in a gap. -/
def decodeAddr (a : Nat) : Option Loc :=
  if 0x1000000 ≤ a && a < 0x2000000 then some (.vat ((a - 0x1000000) / 0x20000) (a % 0x20000))
  else if 0x2000000 ≤ a && a < 0x3000000 then some (.rule ((a - 0x2000000) / 0x400) (a % 0x400))
  else (pageAt (a / 0x10000)).map fun pi => .page pi.1 pi.2 (a % 0x10000)

/-- A BAR0 offset of VFn (R472): its CIPn page and its ring page. -/
def decodeVf (n a : Nat) : Option Loc :=
  if a < 0x10000 then some (.page .CIPU (19 + n) a)
  else if a < 0x20000 then some (.page .DMA (64 + n) (a - 0x10000))
  else none

/-- PAGE_INDEX of the page whose counters and faults a place belongs to: the windows belong to VAT and CLS (R471). -/
def Loc.idx (l : Loc) : Nat :=
  match l with
  | .page _ i _ => i | .vat _ _ => 35 | .rule _ _ => 13

/-! Masters (R337) -/

/-- The two-wire port's master number. -/
def twMaster : Nat := 33

/-- The function whose rights a master has: 0 PF0, 1 PF1, n + 1 VFn, and 33 for the two-wire port; a DMA channel's is its owner. -/
def State.funcOf (s : State) (m : Nat) : Nat := if 17 ≤ m && m ≤ 32 then s.rd DMA_CH_OWNER (m - 17) else m

/-- Where a master's access lies. A DMA channel's offset is one of the physical functions' BAR0, whoever owns it (DEDUCED, log 25). -/
def State.locate (m a : Nat) : Option Loc := if 2 ≤ m && m ≤ 16 then decodeVf (m - 1) a else decodeAddr a

/-- VFn exists (R334). -/
def State.vfExists (s : State) (n : Nat) : Bool := decide (1 ≤ n) && decide (n ≤ s.rd PCI_NUM_VFS)

/-- A function reaches a page (R272, R337, R472). -/
def State.reaches (s : State) (fn idx : Nat) : Bool :=
  let cip := decide (19 ≤ idx) && decide (idx ≤ 34)
  if fn == 0 then decide (idx < 64) && (!cip || idx == 19)
  else if fn == 1 || fn == twMaster then decide (idx < 64) && !cip
  else s.vfExists (fn - 1) && (idx == 18 + fn || idx == 63 + fn)

/-- A function may access a field of this attribute (R13). -/
def hasRight (fn : Nat) (a : Attr) : Bool :=
  match a with
  | .all => true
  | .prv => fn == 0 || fn == twMaster
  | .sec => fn == 1

/-- Every DWORD of a request lies in the map (R338). -/
def allMapped (m a n : Nat) : Bool := (List.range n).all fun k => (State.locate m (a + 4 * k)).isSome

/-! The fields at an offset -/

/-- The base copy of a page-global field: user pages hold one each. -/
def globCopy (p : Page) (idx : Nat) : Nat := if p = .CIPU then idx - 19 else 0

/-- The copy of a field that offset `off` of page `idx` shows, with channel `ch` selected (R340, R341, R432). -/
def Fld.shows (f : Fld) (idx off ch : Nat) : Option Nat :=
  let k := (off - f.off) / f.stride
  if off < f.off || f.stride == 0 || (off - f.off) % f.stride != 0 then none
  else
    match f.kind with
    | .glob | .tab => if k < f.cnt then some (f.copy (globCopy f.page idx) k) else none
    | .win => if k < f.cnt && f.chLo ≤ ch && ch ≤ f.chHi then some (f.copy (ch - f.chLo) k) else none
    | .com => if off == f.off then some (if 0x800 ≤ off && off < 0x900 && idx == 35 then 128 + ch else idx) else none
    | .perf =>
      let k := (off - f.off) / 16
      if (off - f.off) % 16 == 0 && k < (if (pageInfo idx).perf8 then 8 else 4) then
        some (perfCopy (if idx == 35 then 128 + ch else idx) k)
      else none
    | .entry => none

/-- APPLY and APPLY_LT of a page with HAS_APPLY 0 read zero and ignore writes (R340). -/
def comHere (idx : Nat) (f : Fld) : Bool := (pageInfo idx).hasApply || !(f.off == 0x18 || f.off == 0x1C)

/-- The fields of a page at an offset, in the order of the tables, each with its copy. The ring page of VFn shows ring set n (R472). -/
def fieldsIn (p : Page) (idx off ch : Nat) : List (Fld × Nat) :=
  let own := if 64 ≤ idx then (if 0x400 ≤ off && off < 0x800 then pageFields .DMA else []) else pageFields p
  let ch := if 64 ≤ idx then 16 + (idx - 64) else ch
  let com := if off < 0x100 || (0x800 ≤ off && off < 0xD00) then (pageFields .COM).filter (comHere idx) else []
  (com ++ own).filterMap fun f => (f.shows idx off ch).map fun i => (f, i)

/-- The fields of a classifier entry at an offset (R194). -/
def ruleFields (n off : Nat) : List (Fld × Nat) :=
  (pageFields .CLSE).filterMap fun f =>
    let k := (off - f.off) / f.stride
    if f.off ≤ off && (off - f.off) % f.stride == 0 && k < f.cnt then some (f, f.copy n k) else none

/-! Banked state (R341, R342) -/

/-- The endpoint claims a request of a function at this offset: it lies in the function's BAR0 (R334, R472). -/
def claims (m a : Nat) : Bool := if 2 ≤ m && m ≤ 16 then decide (a < 0x20000) else decide (a < 0x4000000)

/-- The key of master `m`'s own copy of a field. -/
def bankKey (m : Nat) (f : Fld) (i : Nat) : Nat := m * 2 ^ 32 + f.key i

/-- A master's own copy. -/
def State.bank (s : State) (m : Nat) (f : Fld) (i : Nat := 0) : Nat := smGet s.banked (bankKey m f i)

/-- A master's own copy becomes `v`. -/
def State.setBank (s : State) (m : Nat) (f : Fld) (i v : Nat) : State := { s with banked := smSet s.banked (bankKey m f i) v }

/-- CH_SEL of a master in a page. -/
def State.chSel (s : State) (m idx : Nat) : Nat := s.bank m C_CH_SEL idx

/-- LO registers whose read latches the high half (R342). -/
def latchPairs : List (Fld × Fld) :=
  [(LTM_LT_SNAP_LO, LTM_LT_SNAP_HI), (LRX_BLOCKS_LO, LRX_BLOCKS_HI), (LRX_CORR_LO, LRX_CORR_HI), (UPB_CONT_SENT_LO, UPB_CONT_SENT_HI),
   (CLSE_HITS_LO, CLSE_HITS_HI), (CLSE_BYTES_LO, CLSE_BYTES_HI), (CLS_SRC_FRAMES_LO, CLS_SRC_FRAMES_HI),
   (CLS_SRC_BYTES_LO, CLS_SRC_BYTES_HI), (QSH_POL_CONF_FRAMES_LO, QSH_POL_CONF_FRAMES_HI),
   (QSH_POL_CONF_BYTES_LO, QSH_POL_CONF_BYTES_HI), (QSH_POL_EXC_FRAMES_LO, QSH_POL_EXC_FRAMES_HI),
   (QSH_POL_EXC_BYTES_LO, QSH_POL_EXC_BYTES_HI), (QSH_UQ_ENQ_LO, QSH_UQ_ENQ_HI), (QSH_EQ_ENQ_LO, QSH_EQ_ENQ_HI),
   (QSH_AL_SEALED_LO, QSH_AL_SEALED_HI), (QSH_AL_COMMITTED_LO, QSH_AL_COMMITTED_HI), (QSH_AL_RETURNED_LO, QSH_AL_RETURNED_HI),
   (CAV_AL_PURGED_LO, CAV_AL_PURGED_HI), (PCI_M_ACCESSES_LO, PCI_M_ACCESSES_HI), (SER_L_BITS_LO, SER_L_BITS_HI),
   (SER_L_ERR_LO, SER_L_ERR_HI), (FKL_K_CELLS_LO, FKL_K_CELLS_HI), (C_PERF_CYC_LO, C_PERF_CYC_HI), (C_PERF_VAL_LO, C_PERF_VAL_HI),
   (TIM_TB_NOW_S_LO, TIM_TB_NOW_S_HI), (TIM_TB_NOW_S_LO, TIM_TB_NOW_NS)]

/-- The fields a read of `f` latches. -/
def latched (f : Fld) : List Fld := (latchPairs.filter fun e => e.1.id == f.id).map Prod.snd

/-- A read of `f` returns the reading master's own copy. -/
def readsBank (f : Fld) : Bool := f.id == C_CH_SEL.id || f.id == VAT_DQUAD.id || latchPairs.any fun e => e.2.id == f.id

/-! Values that are not held as such -/

/-- The word of a calendar entry (R173): while a burst of it is committed or in the air, ESTATE shows that, a standing entry's too, and
NEXT_LAUNCH is the launch of the burst committed (DEDUCED, log 181). -/
def State.calWord (s : State) (f : Fld) (i : Nat) : Nat :=
  match amGet? s.up.cal i with
  | none => 0
  | some e =>
    if f.id == UPB_CAL_ENTRY_3.id then bits e.bits 127 96
    else if f.id == UPB_CAL_ENTRY_2.id then bits e.bits 95 64
    else if f.id == UPB_CAL_ENTRY_1.id then bits e.bits 63 32
    else if f.id == UPB_CAL_ENTRY_0.id then bits e.bits 31 0
    else if f.id == UPB_CAL_ESTATE.id then
      if s.up.bursts.any fun b => b.entry == i && b.inAir then 3
      else if s.up.bursts.any fun b => b.entry == i then 2 else e.est
    else (((s.up.bursts.find? fun b => b.entry == i && !b.inAir).map Burst.launch).getD (s.launchOf e.g)) % 2 ^ 32

/-- Fields of TIM that TB0 shows: its servo, follower and write fields read zero (R294). -/
def State.tb0View (s : State) (f : Fld) : Nat :=
  if f.id == TIM_TB_STATE.id then s.rd LTM_STATE
  else if f.id == TIM_TB_UTC_OFS.id then s.rd TIM_UTC_OFS0
  else if f.id == TIM_TB_CLOCK_CLASS.id then s.rd TIM_CLOCK_CLASS0
  else if f.id == TIM_TB_CLOCK_ACC.id then s.rd TIM_CLOCK_ACC0
  else if [TIM_TB_MODE, TIM_TB_CAP_STATE, TIM_TB_CAP_S_LO, TIM_TB_CAP_S_HI, TIM_TB_CAP_NS,
    TIM_TB_PPSIN_S_LO, TIM_TB_PPSIN_S_HI, TIM_TB_PPSIN_NS].any fun g => g.id == f.id then s.rd f 0
  else 0

/-- Copy `i` of a field as a read finds it. -/
def State.view (s : State) (f : Fld) (i : Nat) : Nat :=
  if f.ty == .wo || f.id == C_INT_FORCE.id then 0
  else if f.id == PWR_MODE.id then s.mode.code
  else if f.id == LTM_LAUNCH_OK.id then b2n s.launchOk
  else if f.id == UPB_TX_LIT.id then b2n (s.on UPB_TX_LIT || s.rampingUp)
  else if f.id == LTM_LT_SNAP_LO.id then s.lt32
  else if f.id == LTM_LT_SNAP_HI.id then s.lt64 / 2 ^ 32
  else if f.id == TIM_TB_NOW_S_LO.id then tbSec (s.tbReading i) % 2 ^ 32
  else if f.id == TIM_TB_NOW_S_HI.id then tbSec (s.tbReading i) / 2 ^ 32 % 2 ^ 16
  else if f.id == TIM_TB_NOW_NS.id then tbNsOf (s.tbReading i)
  else if f.page = .TIM && f.kind = .win && i == 0 then s.tb0View f
  else if f.id == TIM_DDOWN_A.id then ofS 32 s.ddownA
  else if f.id == TIM_DDOWN_B.id then ofS 32 s.ddownB
  else if f.id == PCI_TW_ADDR.id then bits (s.rd BOT_STRAPS) 5 3
  else if f.page = .UPB && f.kind = .win then s.calWord f i
  else if f.id == QSH_SH_SBAL.id then ofS 32 (balBytes (s.shBal i))
  else if f.id == QSH_POL_BALANCE.id then satUI 24 (balBytes (s.polBal i))
  else if f.id == LRX_CODE_TABLE.id then (Config.codeTable i).toNat
  else if f.id == DMA_BUSY_MAP.id then ((List.range 16).map fun n => s.rd DMA_CH_BUSY n * 2 ^ n).foldl (· + ·) 0
  else if f.id == C_INT_STAT.id && 64 ≤ i then s.rd DMA_RS_RS_INT (i - 64)
  else if f.id == C_INT_EN.id && 64 ≤ i then s.rd DMA_RS_RS_INT_EN (i - 64)
  else s.rd f i

/-! Privilege (R347, R348) -/

/-- A case counted under R348, in the channel of the master. -/
def State.privCase (s : State) (m : Nat) (write : Bool) : State :=
  (s.inc (if write then PCI_M_PRIV_WRITE else PCI_M_PRIV_READ) 1 m).raise 4 1

/-- Channel fields of DMA other than OWNER belong to PF0, the two-wire port and the channel's owner (R358). -/
def State.dmaRight (s : State) (fn : Nat) (f : Fld) (i : Nat) : Bool :=
  !(f.page = .DMA && f.kind = .win && f.chHi == 15 && f.id != DMA_CH_OWNER.id) || fn == 0 || fn == twMaster || s.rd DMA_CH_OWNER i == fn

/-- A master may access copy `i` of a field of a page it reaches. -/
def State.mayUse (s : State) (fn : Nat) (f : Fld) (i : Nat) : Bool := hasRight fn f.attr && s.dmaRight fn f i

/-- An access that was served is counted for its master and its page (R356, R436); the counters are off in STABLE (R354). -/
def State.served (s : State) (m idx : Nat) : State :=
  if s.dark then s else
  let t := s.inc64 PCI_M_ACCESSES_LO PCI_M_ACCESSES_HI 1 m
  if idx == 35 then t else t.perf idx 0xF1

/-! Reading -/

/-- Codes of page `p` whose event delivers a value in every counting cycle: cycles, occupancies, and clipped samples (R433, R436). -/
def cycleEvents (p : Nat) : List Nat :=
  if 128 ≤ p then []
  else 0xF0 :: match p with
    | 5 => [1] | 7 => [2, 3] | 10 => [2] | 13 => [2] | 14 => [2, 3] | 16 => [2, 3, 4] | 37 => [2] | _ => []

/-- The counting cycles since the last read are seen as a counter is read (R432, R433). No command is a cycle (log 22): CYC goes on by a
free number of them, and an enabled counter of an event that counts in every cycle goes on by a free amount short of its wrap, which has
its own command. A counter that stands still does not move. -/
def State.cyclesSeen (s : State) (id i : Nat) : State :=
  let c := decide (id == C_PERF_CYC_LO.id)
  let p := if c then i else i / 8
  let k := i % 8
  if s.dark || s.perfStopped p then s
  else if c then s.fresh.2.inc64 C_PERF_CYC_LO C_PERF_CYC_HI s.fresh.1 i
  else if id != C_PERF_VAL_LO.id || !s.on C_PERF_EN i || s.perfChained p k || !(cycleEvents p).contains (s.rd C_PERF_EVENT i) then s
  else s.fresh.2.perfSet p k (s.perfVal p k + s.fresh.1 % (2 ^ 48 - s.perfVal p k))

/-- The value a master reads from a field, and the latches the read sets (R341, R342). -/
def State.readField (s : State) (m : Nat) (f : Fld) (i : Nat) : Nat × State :=
  let t := s.cyclesSeen f.id i
  let v := if readsBank f then t.bank m f i else t.view f i
  (v, forEach (latched f) t fun u h => u.setBank m h i (t.view h i))

/-- The fields of a DWORD read one after the other: those beyond the master's rights return zero (R347). -/
def State.readFields (s : State) (m : Nat) : List (Fld × Nat) → Nat × State
  | [] => (0, s)
  | (f, i) :: rest =>
    let (v, t) := if s.mayUse (s.funcOf m) f i then s.readField m f i else (0, s)
    let (r, u) := t.readFields m rest
    (v * 2 ^ f.lo + r, u)

/-- A DWORD of a cluster's window (R299): X and Y memory of the quad the master's DQUAD names. -/
def State.vatRead (s : State) (m c off : Nat) : Nat :=
  if s.rd VAT_C_CSTATE c == 0 then 0
  else if off < 0x8000 then s.pgmWord c (off / 4)
  else if off < 0x10000 then 0
  else
    let r := off - 0x10000
    let x := s.vu c (4 * (s.bank m VAT_DQUAD % 4) + r / 0x4000)
    let a := r % 0x2000 / 4 * 2
    let mem := if 0x2000 ≤ r % 0x4000 then x.y else x.x
    smGet mem a + smGet mem (a + 1) * 2 ^ 16

/-- A DWORD of the cave's host window (R255): bytes lowest address first (R10). -/
def State.windowWord (s : State) (off : Nat) : Nat := ofBytesLE ((List.range 4).map fun k => s.cave.window.getD (off - 0x4000 + k) 0)

/-- A read of data memory in a cluster's window (R300, R308): of a running cluster it is served in a free cycle, or, after 64 cycles, in one
for which the cluster stalls (event 0x06): which of the two is a free value (log 127). -/
def State.vatReadStall (s : State) (c off : Nat) : State :=
  let st := s.rd VAT_C_CSTATE c
  if (st == csRun || st == csWait) && decide (0x10000 ≤ off) then
    s.fresh.2.when_ (s.fresh.1 % 2 == 1 && st == csRun) fun t => (t.vatCycles c 1).perf (128 + c) 0x06
  else s

/-- One DWORD read by a master at a place it may or may not reach (R337, R347, R348). -/
def State.readLoc (s : State) (m : Nat) (l : Loc) : Nat × State :=
  let fn := s.funcOf m
  if !s.reaches fn l.idx then (0, s.privCase m false)
  else
    let t := s.served m l.idx
    let raw (n : Nat) (u : State) : Nat × State := if hasRight fn .prv then (n, u) else (0, t.privCase m false)
    let judged (fs : List (Fld × Nat)) : Nat × State :=
      let t := if !fs.isEmpty && fs.all (fun e => !s.mayUse fn e.1 e.2) then t.privCase m false else t
      t.readFields m fs
    match l with
    | .vat c off => if 0x8000 ≤ off && off < 0x10000 then (0, t) else raw (s.vatRead m c off) (t.vatReadStall c off)
    | .rule n off => judged (ruleFields n off)
    | .page p idx off =>
      if p = .CAV && 0x4000 ≤ off && off < 0x8000 then raw (s.windowWord off) t
      else judged (fieldsIn p idx off (s.chSel m idx))

/-- Registers answer over PCI Express outside RESET and STABLE (R335, R354). -/
def State.answers (s : State) : Bool := !s.dark

/-- One DWORD read at a BAR0 offset: none in a gap. -/
def State.readDword (s : State) (m a : Nat) : Option (Nat × State) := (State.locate m (a / 4 * 4)).map fun l => s.readLoc m l

/-- `n` DWORDs read one after the other from offset `a`, in ascending order (R338): none where one lies in a gap. -/
def State.readWords (s : State) (m a : Nat) : Nat → Option (List Nat × State)
  | 0 => some ([], s)
  | n + 1 =>
    match s.readDword m a with
    | none => none
    | some (v, t) =>
      match t.readWords m (a + 4) n with
      | none => none
      | some (vs, u) => some (v :: vs, u)

/-- An Unsupported Request is returned (R338, R357). -/
def State.unsupported (s : State) : State := (s.inc PCI_UR_COUNT).raise 4 0

/-- A read of `n` DWORDs over PCI Express (R338): their data, or an Unsupported Request. -/
def State.hostRead (s : State) (m a n : Nat) : State :=
  let a := a / 4 * 4
  if !s.answers || !claims m a || n == 0 then s
  else if decide (16 < n) || decide (64 < a % 64 + 4 * n) then s.unsupported.emit (.completion m 1)
  else
    match s.readWords m a n with
    | some (vs, t) => t.emit (.readData m vs)
    | none => s.unsupported.emit (.completion m 1)

/-! The commands that read (R60, R294, R342) -/

/-- A read of LT_SNAP_LO. -/
def ltSnapRead (m : Nat) (s : State) : State := if twMaster ≤ m then s else s.hostRead m 0x100100 1

/-- A read of `n` DWORDs from offset `a`, the LO half of a counter or time pair first; two give the pair in one request (R338). -/
def counterLoRead (m a n : Nat) (s : State) : State := if twMaster ≤ m then s else s.hostRead m a n

/-- A read of NOW_S_LO of the time base that the master's CH_SEL names. -/
def nowRead (m : Nat) (s : State) : State := if twMaster ≤ m then s else s.hostRead m 0x150404 1

/-- An access that ends as an Unsupported Request (R338): in a gap, or too long. -/
def unsupportedRequest (m : Nat) (s : State) : State := if s.answers then s.unsupported.emit (.completion m 1) else s

/-! The meanings -/

/-- LT_SNAP_READ. -/
def execLtSnapRead (m : Nat) (s : State) : Host.Outcome State Fault Refusal := .next (ltSnapRead m s)
/-- COUNTER_LO_READ. -/
def execCounterLoRead (m a n : Nat) (s : State) : Host.Outcome State Fault Refusal := .next (counterLoRead m a n s)
/-- NOW_READ. -/
def execNowRead (m : Nat) (s : State) : Host.Outcome State Fault Refusal := .next (nowRead m s)
/-- UNSUPPORTED_REQUEST. -/
def execUnsupportedRequest (m : Nat) (s : State) : Host.Outcome State Fault Refusal := .next (unsupportedRequest m s)

end Sys2Proof.Machine
end

