-- ==== Sys2Proof/Machine/Vat.lean ====
section
/-! DEFINITION. The vat's commands but for its instructions (chapter 13): launches, leave, limits, host writes, parity, and the tap
network. -/

namespace Sys2Proof.Machine

/-- GO written 1 (R304, R306). -/
def vatGo (c : Nat) (s : State) : State :=
  if 128 ≤ c then s
  else if !s.on VAT_K_VALID (s.rd VAT_C_HOST_KSLOT c) then s.inc VAT_NO_KERNEL
  else s.goKernel c (s.rd VAT_C_HOST_KSLOT c)

/-- STOP written 1 (R306): a launch of the same cycle does not start. -/
def vatStop (c : Nat) (s : State) : State :=
  if 128 ≤ c then s
  else
    let t := match amGet? s.vat.starts c with
      | some _ => (({ s with vat := { s.vat with starts := amDel s.vat.starts c } }).launchBusy c).vatGiveNext c
      | none => s
    if t.cstate c == csRun || t.cstate c == csWait || t.cstate c == csFault then t.endKernel c csIdle else t

/-- At target − 100 µs of armed entry `n`, cluster `c` of its kernel's mask asks for leave (R307). -/
def vatLeaveRequest (n c : Nat) (s : State) : State :=
  let arg := s.rd LTM_LE_ARG n
  let k := bits arg 5 0
  let target := ltNear s.now (s.rd64 LTM_LE_TARGET_LO LTM_LE_TARGET_HI n)
  if 256 ≤ n || 128 ≤ c || !s.on LTM_LE_ARMED n || s.rd LTM_LE_ACTION n != 1 || !s.on VAT_K_VALID k || !(s.kernelMask k).contains c
      || target < s.now + usTicks || s.cstate c == csOff || s.hasLeave lcVat (c / 16) (vatNext c) then s
  else
    let need := s.classNeed c (s.rd VAT_K_PCLASS k)
    if need == 0 then s else ((s.advance (target - 100 * usTicks)).askLeave ⟨lcVat, need, c / 16, vatNext c⟩).2

/-- Cluster `c` reaches the target of the launch it is part of (R304 to R307). -/
def vatClusterStart (c : Nat) (s : State) : State :=
  match amGet? s.vat.starts c with
  | none => s
  | some k =>
    let t := { s with vat := { s.vat with starts := amDel s.vat.starts c } }
    if t.cstate c != csIdle || t.regionKeeps (c / 16) then (t.launchBusy c).vatGiveNext c
    else if t.classNeed c k.pclass == 0 then (t.vatGiveNext c).startKernel c k
    else if !t.hasLeave lcVat (c / 16) (vatNext c) then (t.inc VAT_LEAVE_REFUSED).raise 35 3
    else (t.passLeave lcVat (c / 16) (vatNext c) c).startKernel c k

/-- A waiting cluster asks for leave again (R307). -/
def vatLeaveRetry (c : Nat) (s : State) : State :=
  match (s.vcl c).wait with
  | none => s
  | some (k, due) => if s.cstate c != csWait then s else (s.advance due).startOrWait c k

/-- A run reaches MAXRUN × 256 cycles (R305). -/
def vatMaxrun (c : Nat) (s : State) : State :=
  let x := s.vcl c
  if 128 ≤ c || s.cstate c != csRun || x.maxrun == 0 || x.cyc < x.maxrun * 256 then s
  else ((s.endKernel c csIdle).inc VAT_OVERRUNS).raise 35 1

/-- A host write of a DWORD at byte offset `off` of the window of cluster `c`, with the master's DQUAD (R299, R300). -/
def vatHostWrite (c off value dquad : Nat) (s : State) : State :=
  let st := s.cstate c
  if 128 ≤ c || st == csOff || 0x20000 ≤ off || (0x8000 ≤ off && off < 0x10000) then s
  else if st == csRun || st == csWait then s.inc VAT_HOST_WR_BUSY
  else if off < 0x8000 then s.setPgm c (off / 4) (value % 2 ^ 32)
  else
    let r := off - 0x10000
    let u := 4 * (dquad % 4) + r / 0x4000
    let y := decide (0x2000 ≤ r % 0x4000)
    let a := r % 0x2000 / 4 * 2
    let put (m : List (Nat × Nat)) : List (Nat × Nat) :=
      if y && decide (0xFF4 ≤ a) then m else smSet (smSet m a (value % 2 ^ 16)) (a + 1) (value / 2 ^ 16 % 2 ^ 16)
    s.mapVu c u fun x => if y then { x with y := put x.y } else { x with x := put x.x }

/-- A parity error in a unit, or in the program memory or repeat cache of the cluster (R300). -/
def vatParityError (c : Nat) (unit : Option Nat) (s : State) : State :=
  if 128 ≤ c || s.cstate c == csOff then s
  else
    match unit with
    | some u =>
      if 16 ≤ u then s
      else
        let t := s.wr VAT_C_UNIT_EN (clrBit (s.rd VAT_C_UNIT_EN c) u) c
        (t.raiseIf (bit (s.rd VAT_C_UNIT_EN c) u) 35 4).fault cUnitParity { level := 0, region := c / 16, cluster := c, unit := u } 35 c
    | none => s.vatFault c cPgmParity 0

/-! The tap network (R301, R302) -/

/-- Words per sample of a source. -/
def tapWords (src : Nat) : Nat := if src == 4 || src == 7 then 1 else if src == 6 then 2 else 4

/-- The source is in TRACK: a carrier's, for the sources that are a carrier's. -/
def State.tapTrack (s : State) (src side : Nat) : Bool := if src ≤ 4 then decide (side < 2) && s.acq side == 6 else true

/-- Port `p` of cluster `c` captures a block for every unit, from slot OFS on; `blocks` holds the words by unit. -/
def tapCapture (c p : Nat) (blocks : List (List Nat)) (s : State) : State :=
  let i := c * 4 + p
  let src := s.rd VAT_C_TI_TSRC i
  let frame := s.now / frameTicks
  if 128 ≤ c || 4 ≤ p || s.cstate c == csOff || !s.on VAT_C_TI_EN i || src == 0 || amGet? s.vat.capAt i == some frame then s
  else
    let t := s.advance (frame * frameTicks + s.rd VAT_C_TI_OFS i * slotTicks)
    let cap : VCap := { frame := frame, valid := t.tapTrack src (t.rd VAT_C_TI_SIDE i), blocks := blocks }
    { t with vat := { t.vat with capAt := amSet t.vat.capAt i frame, caps := amSet t.vat.caps i cap } }

/-- The block captured is delivered into every enabled unit: the port's word stands where a unit's store meets it. -/
def tapDelivery (c p : Nat) (s : State) : State :=
  let i := c * 4 + p
  match amGet? s.vat.caps i with
  | none => s
  | some cap =>
    let src := s.rd VAT_C_TI_TSRC i
    let blk := s.rd VAT_C_TI_BLK i
    let lo := s.rd VAT_C_TI_DST i + blk * (cap.frame % 2)
    let hits (e : Bool × Nat × Nat) : Bool := e.1 && decide (lo ≤ e.2.1) && decide (e.2.1 < lo + blk)
    let t := { s with vat := { s.vat with caps := amDel s.vat.caps i } }
    let us := (t.unitsOn c).filter fun u => src != 6 || decide (u < 4)
    let late := us.any fun u => (t.vu c u).st.any hits
    let word := b2n cap.valid * 2 ^ 15 + b2n late * 2 ^ 14 + cap.frame % 64 * 2 ^ 8 + cap.frame % 2
    let t := forEach us t fun t u => t.mapVu c u fun x =>
      let ws := (cap.blocks.getD u []).take blk
      { x with st := x.st.filter fun e => !hits e
               y := smSet (ws.zipIdx.foldl (fun m e => smSet m (lo + e.2) (e.1 % 2 ^ 16)) x.y) (0xFF0 + p) word }
    if cap.valid then t else t.perf (128 + c) 0x09

/-! The meanings -/

/-- VAT_GO. -/
def execVatGo (c : Nat) (s : State) : Host.Outcome State Fault Refusal := .next (vatGo c s)
/-- VAT_STOP. -/
def execVatStop (c : Nat) (s : State) : Host.Outcome State Fault Refusal := .next (vatStop c s)
/-- VAT_LEAVE_REQUEST. -/
def execVatLeaveRequest (n c : Nat) (s : State) : Host.Outcome State Fault Refusal := .next (vatLeaveRequest n c s)
/-- VAT_CLUSTER_START. -/
def execVatClusterStart (c : Nat) (s : State) : Host.Outcome State Fault Refusal := .next (vatClusterStart c s)
/-- VAT_LEAVE_RETRY. -/
def execVatLeaveRetry (c : Nat) (s : State) : Host.Outcome State Fault Refusal := .next (vatLeaveRetry c s)
/-- VAT_MAXRUN. -/
def execVatMaxrun (c : Nat) (s : State) : Host.Outcome State Fault Refusal := .next (vatMaxrun c s)
/-- VAT_HOST_WRITE. -/
def execVatHostWrite (c off value dquad : Nat) (s : State) : Host.Outcome State Fault Refusal :=
  .next (vatHostWrite c off value dquad s)
/-- VAT_PARITY_ERROR. -/
def execVatParityError (c : Nat) (unit : Option Nat) (s : State) : Host.Outcome State Fault Refusal :=
  .next (vatParityError c unit s)
/-- TAP_CAPTURE. -/
def execTapCapture (c p : Nat) (blocks : List (List Nat)) (s : State) : Host.Outcome State Fault Refusal :=
  .next (tapCapture c p blocks s)
/-- TAP_DELIVERY. -/
def execTapDelivery (c p : Nat) (s : State) : Host.Outcome State Fault Refusal := .next (tapDelivery c p s)

end Sys2Proof.Machine
end

