-- ==== Sys2Proof/Machine/RegWrite.lean ====
section
/-! DEFINITION. The writing of one register DWORD (R15, R344 to R349): reserved encodings, locks, buffered fields, strobes, and what
each field's own chapter does about a write. -/

namespace Sys2Proof.Machine

/-! Layouts of single pages -/

/-- The INT_STAT bits that a page defines, by PAGE_INDEX: the INT_STAT rule of each chapter. -/
def intBits (idx : Nat) : Nat :=
  if 64 ≤ idx then 3
  else if 19 ≤ idx && idx ≤ 34 then 2
  else
    match idx with
    | 0 => 4 | 1 => 6 | 2 => 9 | 3 => 4 | 4 => 5 | 5 => 2 | 6 => 7 | 7 => 7 | 8 => 11 | 9 => 0 | 10 => 14 | 11 => 8 | 12 => 5 | 13 => 8
    | 14 => 6 | 15 => 5 | 16 => 9 | 17 => 4 | 18 => 6 | 35 => 6 | 36 => 6 | 37 => 9 | _ => 0

/-- A performance event code that a page counts (R308, R436); a cluster's counters are under 128 + c. -/
def eventOk (p code : Nat) : Bool :=
  if 128 ≤ p then decide (code ≤ 0x0B)
  else
    (decide (0xF0 ≤ code) && decide (code ≤ 0xF4)) ||
      match p with
      | 7 => decide (code ≤ 3) | 8 => decide (code ≤ 3) | 10 => decide (code ≤ 4) | 16 => decide (code ≤ 4) | 14 => decide (code ≤ 3)
      | 13 => decide (code ≤ 2) | 5 => decide (code ≤ 1) | 37 => decide (code ≤ 2) | _ => false

/-- A port index that a MODE allows (R175). -/
def portModeOk (n v : Nat) : Bool := decide (v ≤ 3) && n % 2 ^ v == 0

/-- Vectors of a function (R334). -/
def vectorCount (fn : Nat) : Nat := if fn == 0 then 128 else 8

/-- A FUNC that an interrupt route may name (R351). -/
def State.funcOk (s : State) (src fn : Nat) : Bool :=
  (decide (fn ≤ 1) || s.vfExists (fn - 1)) && (!(decide (20 ≤ src) && decide (src ≤ 34)) || fn == src - 18)

/-- A block of a tap port fits above its buffer (R301). -/
def blkOk (dst blk : Nat) : Bool := decide (dst + 2 * blk ≤ 0xFF0)

/-! Reserved encodings (R15) -/

/-- The value a write carries for a field. -/
def Fld.of (f : Fld) (data : Nat) : Nat := data / 2 ^ f.lo % 2 ^ f.w

/-- The bits of word `w` of an outbound and of an inbound message slot that are not reserved (R145). -/
def outSlotBits (w : Nat) : Nat := if w == 0 then 0xFF00FFFF else if 4 ≤ w && w < 0x104 then 0xFFFFFFFF else 0
def inSlotBits (w : Nat) : Nat := if w == 2 then 0x8003FFFF else if w < 0x104 then 0xFFFFFFFF else 0

/-- What a write carries for copy `i` of a field, its reserved bits zero (R15). -/
def Fld.carried (f : Fld) (i data : Nat) : Nat :=
  if f.id == UPB_OUT_SLOT.id then f.of data &&& outSlotBits (i % 512)
  else if f.id == UPB_IN_SLOT.id then f.of data &&& inSlotBits (i % 512)
  else f.of data

/-- A value that a field of the common layout, of the host pages or of the power pages may take. -/
def State.acceptsHost (s : State) (f : Fld) (i v data : Nat) : Bool :=
  let is (g : Fld) : Bool := f.id == g.id
  let in_ (a b : Nat) : Bool := decide (a ≤ v) && decide (v ≤ b)
  if is C_APPLY_BOUNDARY then (s.sealOf i).isNone && listsKind i v
  else if is C_PERF_EVENT then eventOk (i / 8) v
  else if is C_PERF_CHAIN then v == 0 || (i % 2 == 1 && (decide (128 * 8 ≤ i) || (pageInfo (i / 8)).perf8))
  else if is PCI_IR_FUNC then s.funcOk i v
  else if is PCI_IR_VECTOR then
    let fn := PCI_IR_FUNC.of data
    decide (v < vectorCount (if s.funcOk i fn then fn else s.rd PCI_IR_FUNC i))
  else if is DMA_CH_OWNER then decide (v ≤ 16) && !s.on DMA_CH_RUN i && !s.on DMA_CH_BUSY i
  else if is DMA_CH_RING_SIZE then decide (2 ≤ v)
  else if is DMA_RS_RX_SIZE || is DMA_RS_TX_SIZE then in_ 2 4096
  else if is PWR_LEAVE_WAIT then decide (v ≤ 1000)
  else if is PWR_GRAZE_N then in_ 1 1024
  else if is FLT_ERR_WIDTH then in_ 2 10000
  else if is FLT_TJ_WARN then in_ 60 115
  else if is FLT_INJ_CAUSE || is FLT_INJ_SOURCE || is FLT_INJ_REPEAT then s.mode == .factory
  else true

/-- A value that a field of the line pages, the time bases or the vat may take. DESIGN CHOICE (log 198): where a field's range is stated and
what lies outside it is not called reserved, 0 is refused where it would have no meaning, and any other value that fits is taken. -/
def State.acceptsLine (s : State) (f : Fld) (i v data : Nat) : Bool :=
  let is (g : Fld) : Bool := f.id == g.id
  let in_ (a b : Nat) : Bool := decide (a ≤ v) && decide (v ≤ b)
  if f.page = .TIM && f.kind = .win && i == 0 then false
  else if is FRM_FAW_N || is FRM_FAW_M || is UPB_JOIN_ATTEMPTS || is UPB_RANGE_TIMEOUT || is TIM_SW_HOLD || is TIM_TB_SYNC_TO then v != 0
  else if is TIM_LAMBDA_A || is TIM_LAMBDA_B || is TIM_LAMBDA_U then in_ 1200000 1700000
  else if is TIM_SW_FORCE || is TIM_QUAL then v != 3
  else if is TIM_TB_SRC then v != 3 && v != i
  else if is TIM_TB_F_REQ_LOG then decide (-7 ≤ toS 8 v) && decide (toS 8 v ≤ 4)
  else if is VAT_C_TI_TSRC then decide (v ≤ 7)
  else if is VAT_C_TI_SIDE || is VAT_C_TO_SIDE then v != 3
  else if is VAT_C_TI_OFS then decide (v ≤ 124)
  else if is VAT_C_TO_DEST then decide (v ≤ 6)
  else if is VAT_C_TI_BLK then in_ 64 2048 && blkOk (VAT_C_TI_DST.of data) v
  else if is VAT_C_TI_DST then
    let b := VAT_C_TI_BLK.of data
    blkOk v (if decide (64 ≤ b) && decide (b ≤ 2048) then b else s.rd VAT_C_TI_BLK i)
  else true

/-- A value that a field of the packet path, the cave, the cipher engine or the lanes may take. -/
def State.acceptsPath (s : State) (f : Fld) (i v data : Nat) : Bool :=
  let is (g : Fld) : Bool := f.id == g.id
  let in_ (a b : Nat) : Bool := decide (a ≤ v) && decide (v ≤ b)
  if is CLP_P_MODE then portModeOk i v
  else if is CLP_P_FC_MODE then v != 3
  else if is CLP_P_MAX_LEN then in_ 64 16000
  else if is CLP_P_XOFF_TH || is CLP_P_XON_TH then decide (CLP_P_XON_TH.of data < CLP_P_XOFF_TH.of data)
  else if is CLS_SP_RATE then in_ 1 1000000
  else if is CLS_SP_BURST || is CAV_SCRUB_HOURS then v != 0
  else if is QSH_POL_CIR || is QSH_SH_RATE then decide (v ≤ 1600000000)
  else if is QSH_SH_OVH then decide (-64 ≤ toS 8 v)
  else if is QSH_UQ_QUANTUM then decide (64 ≤ v)
  else if is GAT_P_BASE_NS then decide (v < 1000000000)
  else if is CAV_CHANNELS then s.rd CAV_STATE == cavOff || s.rd CAV_STATE == cavFail
  else if is CAV_DIMM_SIZE then v != 3
  else if is CAV_XTS_SLOT0 || is CAV_XTS_SLOT1 then v % 2 == 0
  else if is CAV_CMD || is CIPU_MODE then decide (v ≤ 1)
  else if is SER_L_GEN_MODE then v != 7
  else if is SER_L_CHK_MODE then v != 5 && v != 7
  else if is SER_L_INJ_RATE then v == 0 || decide (10 ≤ v)
  else if is SER_L_PRE || is SER_L_POST then tapsOk (toS 6 (SER_L_PRE.of data)) (toS 6 (SER_L_POST.of data))
  else if is FKL_ROLE || is FKL_MEM_ID then roleOk (FKL_ROLE.of data) (FKL_MEM_ID.of data)
  else true

/-- The field takes the value: it is no reserved encoding. -/
def State.accepts (s : State) (f : Fld) (i v data : Nat) : Bool :=
  s.acceptsHost f i v data && s.acceptsLine f i v data && s.acceptsPath f i v data

/-! Writes with an effect of their own -/

/-- The line pages: LTM, LRX, UPB, TIM and VAT. -/
def State.assignLine (s : State) (m : Nat) (f : Fld) (i v : Nat) : Option State :=
  let is (g : Fld) : Bool := f.id == g.id
  if is LTM_LE_TARGET_LO || is LTM_LE_TARGET_HI || is LTM_LE_ARG then some (if s.on LTM_LE_ARMED i then s else s.wr f v i)
  else if is LRX_RS_EXPECT then some (rsExpectWrite v s)
  else if is LRX_COEF then some (coefBankWrite false (i / 256) (i / 128 % 2) (i % 128) v s)
  else if is UPB_JOIN_EN then some (if v == 1 then joinEnSet s else joinAbort s)
  else if is UPB_TX_EN then some (s.wr f v).updTxdis
  else if is TIM_GD_EN then some (if v == 0 then ((s.wr f v).wr TIM_GD 0).wr TIM_GD_VALID 0 else s.wr f v)
  else if is TIM_TB_MODE then some (tbModeWrite i v s)
  else if is TIM_TB_ADJ_NS then some (s.ifLocal i fun t => t.wr f v i)
  else if is TIM_TB_FREQ then some (s.ifLocal i fun t => t.tbFreq i (toS 32 v))
  else if is VAT_REGION_EN then some (s.regions v)
  else if is VAT_DQUAD then some (if v ≤ 3 then s.setBank m VAT_DQUAD 0 v else s)
  else if is VAT_C_STD_CLASS || is VAT_C_LINE then some (s.wr f v i).showPower
  else none

/-- The packet path: CLP, CLS, QSH and GAT. -/
def State.assignPath (s : State) (f : Fld) (i v : Nat) : Option State :=
  let is (g : Fld) : Bool := f.id == g.id
  if is CLP_P_EN then some (if v == 1 then portEnable i [] s else if s.on CLP_P_EN i then s.portOff i else s)
  else if is CLP_P_MODE then
    some (if v == s.rd CLP_P_MODE i then s else if s.on CLP_P_EN i then s.wr CLP_P_MODE_BUSY 1 i else s.wr f v i)
  else if is CLP_P_FC_MODE then some (if v == 0 then flowControlDisable i true s else s.wr f v i)
  else if is CLP_P_PAUSE_TX_EN then some (if v == 0 then flowControlDisable i false s else s.wr f v i)
  else if is CLS_SP_RATE || is CLS_SP_BURST then some (s.reslow fun t => t.wr f v)
  else if is QSH_UQ_ALLOC then some (uqAllocWrite i v s)
  else if is GAT_EN || is GAT_PORT then some (s.wr f v i).bindLists
  else if [GAT_P_TBASE, GAT_P_COUNT, GAT_P_CYCLE, GAT_P_BASE_NS, GAT_P_BASE_S_LO, GAT_P_BASE_S_HI].any is then
    some (if s.on GAT_PEND i then s.wr GAT_WR_LOCKED 1 i else s.wr f v i)
  else if is GAT_PB_GATES || is GAT_PB_INTERVAL then
    some (if s.on GAT_PEND (i / 256) then s.wr GAT_WR_LOCKED 1 (i / 256) else s.wr f v i)
  else none

/-- The slot command that the command fields name (R261). -/
def State.slotGo (s : State) : State :=
  match s.rd CIP_OP with
  | 1 => slotLoad (s.on CIP_SIZE) (s.rd CIP_SLOT) s
  | 2 => slotErase (s.rd CIP_SLOT) s
  | 3 => slotUnwrap (s.rd CIP_SLOT) (s.rd CIP_KEK) s
  | _ => s

/-- The cave and the cipher engine: CAV, CIP and the user pages. `env` gives what a job's source holds. -/
def State.assignStore (s : State) (env : Env) (f : Fld) (i v : Nat) : Option State :=
  let is (g : Fld) : Bool := f.id == g.id
  if is CAV_INIT_GO then some (if v == 1 then caveInit s else s)
  else if is CAV_CMD_GO then some (if v == 1 && s.rd CAV_CMD == 1 then Machine.purge s else s)
  else if is CAV_WIN_GO then some (if v == 1 then caveWindowRead s else s)
  else if is CIP_OP || is CIP_SIZE || is CIP_SLOT || is CIP_KEK then some (if s.on CIP_GO then s else s.wr f v)
  else if is CIP_GO then some (if v == 1 then s.slotGo else s)
  else if is CIP_DN0 then some (lineKeyEntryWrite 0 v s)
  else if is CIP_DN1 then some (lineKeyEntryWrite 1 v s)
  else if is CIP_UP0 then some (lineKeyEntryWrite 2 v s)
  else if is CIP_UP1 then some (lineKeyEntryWrite 3 v s)
  else if is CIP_ARM then some (if v == 1 then Machine.arm s else s)
  else if f.page = .CIPU then
    let n := i / f.cnt
    some (if s.on CIPU_GO n then s.wr CIPU_WR_BUSY 1 n
          else if is CIPU_GO then (if v == 1 then cipJobStart n env.src s else s)
          else s.wr f v i)
  else none

/-- The host and power pages: PCI, DMA, SER, FKL, PWR, FLT and BOT. -/
def State.assignHost (s : State) (f : Fld) (i v : Nat) : Option State :=
  let is (g : Fld) : Bool := f.id == g.id
  if is DMA_CH_RUN then some (if v == 1 then dmaRun i s else s)
  else if is DMA_CH_HEAD then some (dmaHeadWrite i v s)
  else if is DMA_CH_RING_BASE_LO || is DMA_RS_RX_BASE_LO || is DMA_RS_TX_BASE_LO then some (s.wr f (v / 64 * 64) i)
  else if is DMA_CH_CH_INT_EN then
    let t := s.wr f v i
    some (if t.chLine i then t.sendMsix (40 + i) else t)
  else if is DMA_RS_RS_INT_EN then
    let t := s.wr f v i
    some (if !t.ringLine i then t else if i == 0 then t.raise 5 0 else t.sendMsix (19 + i))
  else if is SER_L_TX_SLEEP then some (laneSleepWrite i (v == 1) (s.on SER_L_RX_SLEEP i) s)
  else if is SER_L_RX_SLEEP then some (laneSleepWrite i (s.on SER_L_TX_SLEEP i) (v == 1) s)
  else if is SER_L_RX_FREEZE then some (rxFreezeWrite i (v == 1) s)
  else if is SER_L_PRE || is SER_L_POST then
    let t := s.wr f v i
    some (t.wr SER_L_MAIN (64 + toS 6 (t.rd SER_L_PRE i) + toS 6 (t.rd SER_L_POST i)).toNat i)
  else if is SER_L_GEN_MODE then some (((s.wr f v i).laneChanged i).when_ (v != s.rd f i) (·.sendPattern i))
  else if is SER_L_GEN_USER_LO || is SER_L_GEN_USER_HI then
    some ((s.wr f v i).when_ (s.rd SER_L_GEN_MODE i == 6 && v != s.rd f i) (·.sendPattern i))
  else if is SER_L_CHK_MODE then some (if v == s.rd f i then s else (s.wr f v i).wr SER_L_CHK_LOCK 0 i)
  else if is FKL_FK0_EN then some ((s.wr f v).lanesSync [16, 17, 18, 19])
  else if is FKL_FK1_EN then some ((s.wr f v).lanesSync [20, 21, 22, 23])
  else if is FKL_MBOX_GO then some (if v == 1 then mboxGo s else s)
  else if is PWR_MODE_REQ then some (if 1 ≤ v && v ≤ 3 then s.modeReq v else s)
  else if is PWR_PKG_BUDGET then some (s.wr f v).showPower
  else if is PWR_CLIENT_WAKE_MASK then some (let t := s.wr f v; if t.mode == .graze then t.lanesSync (List.range 16) else t)
  else if is FLT_FREEZE_ALL then some (freezeAllWrite (v == 1) s)
  else if is FLT_ERR_MODE then some (let t := s.wr f v; if t.dark || t.pins.errN then t else t.errSettle)
  else if is BOT_HOST_GO then some (if v == 1 then hostGo s else s)
  else if is BOT_REC_GO then some (if v == 1 then recGo s else s)
  else if is BOT_REC_STAGE then some (s.stageWrite i v)
  else none

/-- An accepted value goes into an RW or RWH field, with what its chapter does about it. -/
def State.assign (s : State) (m idx : Nat) (env : Env) (f : Fld) (i v : Nat) : State :=
  if f.id == C_APPLY_REQ.id then (if v == 1 then s.applyReq i (s.rd C_APPLY_BOUNDARY i) else s)
  else if f.id == C_CH_SEL.id then (if v < (pageInfo idx).chCount then s.setBank m C_CH_SEL idx v else s)
  else if f.id == C_INT_EN.id then
    (if 64 ≤ idx then s.wr DMA_RS_RS_INT_EN v (idx - 64) else s.wr f (v % 2 ^ intBits idx) i)
  else
    match s.assignLine m f i v with
    | some t => t
    | none => match s.assignPath f i v with
      | some t => t
      | none => match s.assignStore env f i v with
        | some t => t
        | none => (s.assignHost f i v).getD (s.wr f v i)

/-! Strobes and sticky bits -/

/-- STICKY_CLR of page `idx` (R340). -/
def State.stickyClr (s : State) (idx : Nat) : State := (s.wr C_LOCK_VIOL 0 idx).wr C_HW_LOST 0 idx

/-- A 1 is written to a WO field. -/
def State.strobe (s : State) (idx : Nat) (env : Env) (f : Fld) (i v : Nat) : State :=
  let is (g : Fld) : Bool := f.id == g.id
  if is C_APPLY_CANCEL then s.applyCancel i
  else if is C_STICKY_CLR then s.stickyClr idx
  else if is C_LF_CLR then lfClr i s
  else if is C_PERF_CLEAR then perfClear i s
  else if is UPB_IN_POP then inPop s
  else if is UPB_OUT_PUSH then outPush s
  else if is CLS_STAGE then Machine.stage s
  else if is CLS_ABANDON then Machine.abandon s
  else if is GAT_COMMIT then gateListCommit i s
  else if is GAT_CANCEL then gateListCancel i s
  else if is TIM_CAP_GO then capGo s
  else if is TIM_TB_SET_GO then setGo i s
  else if is TIM_TB_ADJ_GO then adjGo i s
  else if is VAT_C_GO then vatGo i s
  else if is VAT_C_STOP then vatStop i s
  else if is DMA_CH_STOP then dmaStop i s
  else if is SER_L_RETRAIN then Machine.retrain i s
  else if is SER_L_INJ_GO then injGo i s
  else if is FLT_SAFE_CLR then safeClr env.same s
  else if is FLT_ERR_REL then Machine.errRel s
  else if is FLT_INJ_SELF then injSelf s
  else if is FLT_INJ_GO then faultInject s
  else if is BOT_SW_RESET then (if v == 0x5A72 then swReset s else s)
  else if is BOT_TW_FIFO then twFifoWrite v s
  else s

/-- A field that is written as data and never read: the stages of the slot commands (R261). -/
def stageField (f : Fld) : Bool := f.id == CIP_KEY_STAGE.id || f.id == CIP_WRAP_STAGE.id

/-- In FACTORY, a write of INT_FORCE sets the same bits of INT_STAT (R340). -/
def State.intForce (s : State) (idx v : Nat) : State :=
  if s.mode != .factory then s
  else if 64 ≤ idx then forEach (bitList 3 v) s fun t b => t.raiseRing (idx - 64) b
  else forEach (bitList (intBits idx) v) s fun t b => t.raise0 idx b

/-- A W1C field is written: the bits written 1 clear, but for those the hardware sets in the same cycle (R344). -/
def State.writeOnes (s : State) (f : Fld) (i v hw : Nat) : State :=
  let clear (c : Nat) : Nat := c - (c &&& v &&& (2 ^ f.w - 1 - hw % 2 ^ f.w))
  if f.id == C_INT_STAT.id && 64 ≤ i then s.wr DMA_RS_RS_INT (clear (s.rd DMA_RS_RS_INT (i - 64)) ||| hw % 2 ^ 3) (i - 64)
  else if f.id == C_INT_STAT.id then s.wr f (clear (s.rd f i) ||| hw % 2 ^ intBits i) i
  else if f.id == GLB_THERM_TRIP.id && v == 1 then s.tripUp.wr f (clear (s.rd f i) ||| hw % 2 ^ f.w) i
  else s.wr f (clear (s.rd f i) ||| hw % 2 ^ f.w) i

/-- A GO or REQ bit that the hardware clears (R344). -/
def selfClearing (f : Fld) : Bool :=
  [C_APPLY_REQ, CAV_INIT_GO, CAV_CMD_GO, CAV_WIN_GO, CIP_GO, CIP_ARM, CIPU_GO, DMA_CH_RUN, FKL_MBOX_GO, PWR_MODE_REQ, BOT_HOST_GO,
   BOT_REC_GO, LTM_LE_ARMED].any fun g => g.id == f.id

/-- A buffered field is written (R49, R343): into the shadow, or ignored while it is sealed. -/
def State.buffer (s : State) (idx : Nat) (f : Fld) (i v data : Nat) : State :=
  if (s.sealOf idx).isSome then s.wr C_WR_SEALED 1 idx
  else if f.id == CLS_CUR_VER.id && !(s.on CLS_STAGE_VALID && v == s.rd CLS_STAGE_VER && !s.on CLS_STAGE_BUSY) then s.clsRefuse
  else if !s.accepts f i v data then s
  else
    let x : Shad := { page := idx, key := f.key i, val := v, ap := f.apply }
    { s with shadow := (s.shadow.filter fun y => y.key != x.key) ++ [x] }

/-- A field's share of a write reaches it; `hw` is what the hardware does to the DWORD in the same cycle: bits it sets, or an
increment (R344). -/
def State.put (s : State) (m idx : Nat) (env : Env) (hw : Option Nat) (data : Nat) (f : Fld) (i : Nat) : State :=
  let v := f.carried i data
  let h := f.of (hw.getD 0)
  match f.ty with
  | .ro | .ros | .lock => s
  | .cnt =>
    if f.page = .TIM && f.kind = .win && i == 0 then s
    else if f.id == CLP_P_EVENTS_0_0.id then s.putNibbles f i 8 v h
    else if f.id == CLP_P_EVENTS_1_0.id then s.putNibbles f i 2 v h
    else s.wr f (v + h) i
  | .w1c => s.writeOnes f i v h
  | .w1s => if v == 0 then s else if f.id == FLT_REC_CLOSE.id then recordClose i s else s.intForce idx v
  | .wo => if stageField f then s.wr f v i else if v == 0 then s else s.strobe idx env f i v
  | .rwb => s.buffer idx f i v data
  | .rw => if s.accepts f i v data then s.assign m idx env f i v else s
  | .rwh =>
    let t := if s.accepts f i v data then s.assign m idx env f i v else s
    if hw.isSome && !selfClearing f then t.wr C_HW_LOST 1 idx else t

/-! Locks (R349) -/

/-- A locked field was to change (R349): LOCK_VIOL, LOCK_VIOLS, and a contained fault at the page's region (R477). -/
def State.lockViol (s : State) (idx : Nat) : State :=
  let t := ((s.wr C_LOCK_VIOL 1 idx).inc PCI_LOCK_VIOLS).raise 4 2
  t.fault cLockViol (srcRegion (pageInfo idx).region (if 64 ≤ idx then idx - 45 else idx)) idx

/-- A field that a write finds locked. -/
def State.isLocked (s : State) (idx : Nat) (f : Fld) (i : Nat) : Bool :=
  if f.ty == .lock then smGet s.locked (f.key i) == 1
  else s.on C_CFG_LOCK idx && f.attr == .prv && (f.ty == .rw || f.ty == .rwb || f.ty == .rwh)

/-- The first write of a LOCK field takes its value and locks it. -/
def State.lockField (s : State) (f : Fld) (i v : Nat) : State :=
  { s.wr f v i with locked := smSet s.locked (f.key i) 1 }

/-! One DWORD -/

/-- Fields written after the rest of their DWORD: strobes, GO bits, and enables that the other fields of the register are judged
before. -/
def lateField (f : Fld) : Bool :=
  f.ty == .wo || selfClearing f || f.id == CLP_P_EN.id || f.id == QSH_UQ_EN.id || f.id == UPB_JOIN_EN.id

/-- Fields written before the rest of their DWORD: W1C bits, so that a bit the write itself sets stays set (R344), and PAUSE_TX_EN,
whose release goes in the format of the FC_MODE before the write (R183). -/
def earlyField (f : Fld) : Bool := f.ty == .w1c || f.id == CLP_P_PAUSE_TX_EN.id

/-- A page's register is written by a master that reaches it. DESIGN CHOICE (log 200): REQ and CANCEL of one write of APPLY act in that
order. -/
def State.writePage (s : State) (m : Nat) (env : Env) (hw : Option Nat) (p : Page) (idx off data : Nat) : State :=
  let fn := s.funcOf m
  let fs := fieldsIn p idx off (s.chSel m idx)
  let mine (e : Fld × Nat) : Bool := s.mayUse fn e.1 e.2
  let t := if fs.any fun e => !mine e && e.1.of data != 0 then s.privCase m true else s
  let t := t.served m idx
  let (held, open_) := (fs.filter mine).partition fun e => s.isLocked idx e.1 e.2
  let t := if held.any fun e => e.1.of data != s.view e.1 e.2 then t.lockViol idx else t
  let t := forEach (open_.filter fun e => e.1.ty == .lock) t fun u e => u.lockField e.1 e.2 (e.1.of data)
  let (late, open_) := open_.partition fun e => lateField e.1
  let (early, rest) := open_.partition fun e => earlyField e.1
  let first := early ++ rest
  let t := forEach first t fun u e => u.put m idx env hw data e.1 e.2
  let t := forEach late t fun u e => u.put m idx env hw data e.1 e.2
  if (off == 0x20 || off == 0x24) && t.srcLine idx && idx < 64 then t.sendMsix idx
  else if (off == 0x20 || off == 0x24) && 64 ≤ idx && t.ringLine (idx - 64) then t.sendMsix (idx - 45)
  else t

/-- A word of a classifier entry is written (R194, R199). -/
def State.writeRule (s : State) (m : Nat) (n off data : Nat) : State :=
  let fs := ruleFields n off
  let t := s.served m 13
  if !hasRight (s.funcOf m) .prv then (if fs.any fun e => e.1.of data != 0 then t.privCase m true else t)
  else if off < 0x80 then ruleEntryWrite n (off / 4) data t
  else if off == 0x80 || off == 0x84 || off == 0x88 then ruleEntryWrite n (32 + (off - 0x80) / 4) data t
  else if off == 0xA0 then vmaskWrite n data t
  else forEach (fs.filter fun e => e.1.ty == .cnt) t fun u e => u.wr e.1 (e.1.of data) e.2

/-- A word of a cluster's window is written (R299, R300). -/
def State.writeVat (s : State) (m c off data : Nat) : State :=
  let t := s.served m 35
  if !hasRight (s.funcOf m) .prv then (if data != 0 && !(0x8000 ≤ off && off < 0x10000) then t.privCase m true else t)
  else vatHostWrite c off data (s.bank m VAT_DQUAD) t

/-- The last word of a launch table entry carries ARMED, and is judged whole (R55, R56). -/
def launchWord (p : Page) (off : Nat) : Option Nat :=
  if p = .LTM && 0x1000 ≤ off && off < 0x2000 && off % 16 == 12 then some ((off - 0x1000) / 16) else none

/-- One DWORD written by a master at a place it may or may not reach (R337, R348). -/
def State.writeLoc (s : State) (m : Nat) (env : Env) (hw : Option Nat) (l : Loc) (data : Nat) : State :=
  if !s.reaches (s.funcOf m) l.idx then s.privCase m true
  else
    match l with
    | .vat c off => s.writeVat m c off data
    | .rule n off => s.writeRule m n off data
    | .page p idx off =>
      match launchWord p off with
      | some n => if bit data 31 then launchEntryArm n data (s.served m idx) else launchEntryDisarm n data (s.served m idx)
      | none => s.writePage m env hw p idx off data

/-- One DWORD written at a BAR0 offset: none in a gap. -/
def State.writeDword (s : State) (m : Nat) (env : Env) (hw : Option Nat) (a data : Nat) : Option State :=
  (State.locate m (a / 4 * 4)).map fun l => s.writeLoc m env hw l data

end Sys2Proof.Machine
end

