-- ==== Sys2Proof/Machine/RegAccess.lean ====
section
/-! DEFINITION. Register accesses as commands: writes over PCI Express (R338, R344, R349, R350), transactions of the two-wire port
(R352 to R354), the PCI Express link, and Function Level Reset (R336, R441). -/

namespace Sys2Proof.Machine

/-! PCI Express -/

/-- DWORDs written one after the other from offset `a`; `hw` meets the first (R338, R344). -/
def State.writeWords (s : State) (m : Nat) (env : Env) (hw : Option Nat) : Nat → List Nat → State
  | _, [] => s
  | a, w :: ws => ((s.writeDword m env hw a w).getD s).writeWords m env none (a + 4) ws

/-- A write request of a function (R338): `be` says that every byte enable is set. A gap is judged before byte enables (DEDUCED,
log 26). -/
def State.hostWriteReq (s : State) (m a : Nat) (be : Bool) (ws : List Nat) (hw : Option Nat) (env : Env) : State :=
  let a := a / 4 * 4
  if !s.answers || !claims m a || twMaster ≤ m || (decide (17 ≤ m) && decide (m ≤ 32)) || ws.isEmpty then s
  else if decide (16 < ws.length) || decide (64 < a % 64 + 4 * ws.length) || !allMapped m a ws.length then
    s.unsupported.emit (.completion m 1)
  else if !be then s.inc PCI_BE_DROP
  else s.writeWords m env hw a (ws.map (· % 2 ^ 32))

/-- The requester table of the masters before page `idx` (R346). -/
def rtPage (idx : Nat) : Nat := 0x50000 + idx

/-- PAGE_INDEX of the page that an access of master `m` at offset `a` meets. -/
def pageOf (m a : Nat) : Option Nat := (State.locate m (a / 4 * 4)).map Loc.idx

/-- A write of registers (R338, R344, R347 to R349), with those of other masters in the same cycle: the ones that meet its page are served
one after the other by its table (R346). -/
def registerWrite (m addr : Nat) (be : Bool) (ws : List Nat) (hw : Option Nat) (env : Env) (more : List HostWrite) (s : State) : State :=
  let all := (⟨m, addr, be, ws⟩ : HostWrite) :: more
  let (meet, rest) := all.partition fun x => pageOf x.m x.addr == pageOf m addr
  let (ms, t) := s.serveAll (rtPage ((pageOf m addr).getD 0)) 34 (meet.map HostWrite.m)
  let order := (ms.flatMap fun k => meet.filter fun x => x.m == k) ++ rest
  order.foldl (fun u x => u.hostWriteReq x.m x.addr x.be x.ws (if x.m == m then hw else none) (if x.m == m then env else {})) t

/-- A write that reaches a LOCK field (R349). -/
def lockFieldWrite (m addr value : Nat) (s : State) : State := s.hostWriteReq m addr true [value] none {}

/-- The offset of register `off` in the page at `base`. -/
def pageReg (base off : Nat) : Nat := base / 0x10000 * 0x10000 + off

/-- Write of STICKY_CLR = 1 in the page at `base`, with `lock` for CFG_LOCK in the same DWORD (R340). -/
def stickyClr (m base : Nat) (lock : Bool) (s : State) : State :=
  s.hostWriteReq m (pageReg base 0xC) true [8 + b2n lock] none {}

/-- A write of INT_EN (`en`) or INT_STAT of the page at `base`; `hw` is what the hardware sets in the same cycle (R344, R350). -/
def intRegisterWrite (m base : Nat) (en : Bool) (value : Nat) (hw : Option Nat) (s : State) : State :=
  s.hostWriteReq m (pageReg base (if en then 0x24 else 0x20)) true [value] (if en then none else hw) {}

/-- A write of INT_FORCE of the page at `base` (R340). -/
def intForce (m base value : Nat) (s : State) : State := s.hostWriteReq m (pageReg base 0x28) true [value] none {}

/-- Vector `vector` of function `fn` is unmasked: a message that waited is sent (R350). -/
def msixVectorUnmask (fn vector : Nat) (s : State) : State :=
  let k := fn * 256 + vector
  if !s.answers || 17 ≤ fn || vectorCount fn ≤ vector then s
  else
    let t := { s with msixOn := smSet s.msixOn k 1, msixPend := smSet s.msixPend k 0 }
    if smGet s.msixPend k == 1 then t.emit (.msix fn vector) else t

/-- The link trains (R335): SPEED 1 to 4, 1, 2 or 4 lanes. The host's configuration of the link's partner sets NumVFs (R334), which
no row of its own changes (DESIGN CHOICE, log 27). -/
def pcieLinkUp (speed width vfs : Nat) (s : State) : State :=
  if !s.answers || speed == 0 || 4 < speed || !(width == 1 || width == 2 || width == 4) || 15 < vfs then s
  else (((s.wr PCI_LINK_SPEED speed).wr PCI_LINK_WIDTH width).wr PCI_LINK_UP 1).wr PCI_NUM_VFS vfs

/-- The data link layer goes inactive (R355, R357). -/
def pcieLinkDown (s : State) : State :=
  if !s.on PCI_LINK_UP then s
  else (((s.wr PCI_LINK_SPEED 0).wr PCI_LINK_WIDTH 0).wr PCI_LINK_UP 0).raise 4 4

/-! Function Level Reset (R336) -/

/-- A running job of user page `n` ends with BUS_ERR (R336): how many bytes had been released the spec does not say. -/
def State.jobFlr (s : State) (n : Nat) : State :=
  match amGet? s.cip.jobs n with
  | none => s
  | some j =>
    if j.waiting then s.jobEnd n jsBusErr 0
    else cipJobEnd n (some s.fresh.1) s.fresh.2

/-- The fields of a ring set. -/
def ringFields : List Fld := fieldsDMA.filter fun f => f.chLo == 16

/-- The ring set of function `n` returns to its reset values (DEDUCED, log 28). -/
def State.ringsFlr (s : State) (n : Nat) : State := forEach ringFields s fun t f => t.wr f (f.resetAt n) n

/-- One function is reset, 0 PF0, 1 PF1, n + 1 VFn: its MSI-X state, its banked register state, its CIP page's job, its rings and the
DMA channels it owns (R336). -/
def State.flrOne (s : State) (fn : Nat) : State :=
  let t := { s with msixOn := s.msixOn.filter fun e => e.1 / 256 != fn, msixPend := s.msixPend.filter fun e => e.1 / 256 != fn
                    banked := s.banked.filter fun e => e.1 / 2 ^ 32 != fn }
  let t := if fn == 1 then t else (t.jobFlr (fn - 1)).ringsFlr (fn - 1)
  let t := forEach ((List.range 16).filter fun n => t.rd DMA_CH_OWNER n == fn) t State.dmaFlr
  { t with msixPend := t.msixPend.filter fun e => e.1 / 256 != fn }

/-- A Function Level Reset (R336); of PF0 it clears VF Enable, and so resets every VF. -/
def State.flr (s : State) (fn : Nat) : State :=
  if fn == 0 then
    let vfs := (List.range (s.rd PCI_NUM_VFS)).map (· + 2)
    ((forEach vfs s State.flrOne).flrOne 0).wr PCI_NUM_VFS 0
  else s.flrOne fn

/-- A Function Level Reset of a function that exists. -/
def functionLevelReset (fn : Nat) (s : State) : State :=
  if s.dark || !(fn ≤ 1 || s.vfExists (fn - 1)) then s else s.flr fn

/-- PCIE_PERST_N resets the endpoint: every function (R441). -/
def pciePerst (s : State) : State := if s.dark then s else (s.flr 1).flr 0

/-! The two-wire port (R352 to R354) -/

/-- What the port reaches in STABLE: the always-on registers (R354); in RESET, THERM_TRIP and LIFE_USED (DEDUCED, log 29). -/
def aonOffset (stable : Bool) (a : Nat) : Bool :=
  (stable && decide (0x10100 ≤ a) && decide (a < 0x10140)) || a == 0x108 || a == 0x10C

/-- The port reaches offset `a` now. -/
def State.twReach (s : State) (a : Nat) : Bool := if s.dark then aonOffset (s.mode == .stable) a else (decodeAddr a).isSome

/-- An offset that the port cannot reach is counted where it lies outside the page map (R353, R354). -/
def State.twMiss (s : State) : State := if s.dark then s else s.inc PCI_UR_COUNT

/-- An address match of the port, which can wake the terminal (R354, R410). -/
def State.twMatch (s : State) : State := s.latchWake wkTw

/-- The port has power and a terminal behind it. -/
def State.twAnswers (s : State) : Bool := s.pins.vddAon

/-- DWORDs most significant byte first (R352). -/
def wordsBE (l : List Nat) : List Nat := (List.range (l.length / 4)).map fun k => ofBytesBE ((l.drop (4 * k)).take 4)

/-- DWORDs written from offset `a` without PEC, the first of them byte `at_` of the transaction: the first byte of one the port cannot reach
is NACKed, and a part is dropped (R353). -/
def State.twWords (s : State) (env : Env) (part : Bool) : Nat → Nat → List Nat → State
  | at_, a, [] =>
    if !part then s else if s.twReach a then (if s.dark then s else s.inc PCI_TW_PARTIAL) else s.twMiss.emit (.nack at_)
  | at_, a, w :: ws =>
    if s.twReach a then ((s.writeDword twMaster env none a w).getD s).twWords env part (at_ + 4) (a + 4) ws
    else s.twMiss.emit (.nack at_)

/-- The bytes of a transaction up to its data (R352): address with W, and the offset. -/
def State.twHead (s : State) (a : Nat) : List Nat := (0xB0 + 2 * bits (s.rd BOT_STRAPS) 5 3) :: bytesBE 4 a

/-- A write with PEC (R353): the DWORDs are held, at most 16 of them, and applied at STOP when the PEC is right. -/
def State.twPec (s : State) (env : Env) (a : Nat) (bs : List Nat) : State :=
  let body := bs.dropLast
  let ws := wordsBE body
  if bs.isEmpty then s
  else
    let n := (body.length + 3) / 4
    match (List.range n).find? fun k => !s.twReach (a + 4 * k) with
    | some k => s.twMiss.emit (.nack (5 + 4 * k))
    | none =>
      if 16 < n then s.emit (.nack (5 + 64))
      else if crc8 0 (s.twHead a ++ body) != bs.getLastD 0 then (s.inc PCI_TW_PEC_ERR).raise 4 3
      else s.twWords env (body.length % 4 != 0) 5 a ws

/-- A two-wire write of `data` at offset `addr`, a PEC byte last where TW_PEC_EN is 1 (R352, R353). -/
def twoWireWrite (addr : Nat) (data : List Nat) (env : Env) (s : State) : State :=
  if !s.twAnswers then s
  else
    let t := s.twMatch
    let bs := data.map (· % 256)
    if addr % 4 != 0 || 2 ^ 32 ≤ addr then t.emit (.nack 4)
    else if t.on PCI_TW_PEC_EN then t.twPec env addr bs
    else t.twWords env (bs.length % 4 != 0) 5 addr (wordsBE bs)

/-- DWORDs read from offset `a`: what the port cannot reach reads all ones (R353, R354). -/
def State.twReadWords (s : State) : Nat → Nat → List Nat × State
  | _, 0 => ([], s)
  | a, n + 1 =>
    let (v, t) := if s.twReach a then (s.readDword twMaster a).getD (0xFFFFFFFF, s) else (0xFFFFFFFF, s.twMiss)
    let (vs, u) := t.twReadWords (a + 4) n
    (v :: vs, u)

/-- The bytes sent: each DWORD's four, and with PEC one more over every byte of the transaction so far (R353). -/
def pecBytes (sofar : List Nat) : List Nat → List Nat
  | [] => []
  | w :: ws =>
    let b := bytesBE 4 w
    let p := crc8 0 (sofar ++ b)
    b ++ [p] ++ pecBytes (sofar ++ b ++ [p]) ws

/-- A two-wire read of `n` DWORDs at offset `addr` (R352, R353). -/
def twoWireRead (addr n : Nat) (s : State) : State :=
  if !s.twAnswers then s
  else
    let t := s.twMatch
    if addr % 4 != 0 || 2 ^ 32 ≤ addr then t.emit (.nack 4)
    else
      let (vs, u) := t.twReadWords addr n
      let head := t.twHead addr ++ [0xB1 + 2 * bits (t.rd BOT_STRAPS) 5 3]
      u.emit (.serial (if t.on PCI_TW_PEC_EN then pecBytes head vs else vs.flatMap (bytesBE 4)))

/-! The meanings -/

/-- REGISTER_WRITE. -/
def execRegisterWrite (m addr : Nat) (be : Bool) (ws : List Nat) (hw : Option Nat) (env : Env) (more : List HostWrite) (s : State) :
    Host.Outcome State Fault Refusal :=
  .next (registerWrite m addr be ws hw env more s)
/-- LOCK_FIELD_WRITE. -/
def execLockFieldWrite (m addr value : Nat) (s : State) : Host.Outcome State Fault Refusal := .next (lockFieldWrite m addr value s)
/-- STICKY_CLR. -/
def execStickyClr (m base : Nat) (lock : Bool) (s : State) : Host.Outcome State Fault Refusal := .next (stickyClr m base lock s)
/-- INT_REGISTER_WRITE. -/
def execIntRegisterWrite (m base : Nat) (en : Bool) (value : Nat) (hw : Option Nat) (s : State) : Host.Outcome State Fault Refusal :=
  .next (intRegisterWrite m base en value hw s)
/-- INT_FORCE. -/
def execIntForce (m base value : Nat) (s : State) : Host.Outcome State Fault Refusal := .next (intForce m base value s)
/-- MSIX_VECTOR_UNMASK. -/
def execMsixVectorUnmask (fn vector : Nat) (s : State) : Host.Outcome State Fault Refusal := .next (msixVectorUnmask fn vector s)
/-- PCIE_LINK_UP. -/
def execPcieLinkUp (speed width vfs : Nat) (s : State) : Host.Outcome State Fault Refusal := .next (pcieLinkUp speed width vfs s)
/-- PCIE_LINK_DOWN. -/
def execPcieLinkDown (s : State) : Host.Outcome State Fault Refusal := .next (pcieLinkDown s)
/-- FUNCTION_LEVEL_RESET. -/
def execFunctionLevelReset (fn : Nat) (s : State) : Host.Outcome State Fault Refusal := .next (functionLevelReset fn s)
/-- PCIE_PERST. -/
def execPciePerst (s : State) : Host.Outcome State Fault Refusal := .next (pciePerst s)
/-- TWO_WIRE_WRITE. -/
def execTwoWireWrite (addr : Nat) (data : List Nat) (env : Env) (s : State) : Host.Outcome State Fault Refusal :=
  .next (twoWireWrite addr data env s)
/-- TWO_WIRE_READ. -/
def execTwoWireRead (addr n : Nat) (s : State) : Host.Outcome State Fault Refusal := .next (twoWireRead addr n s)

end Sys2Proof.Machine
end

