-- ==== Sys2Proof/Machine/Sign.lean ====
section
/-! DEFINITION. SHA-384 and the ECDSA P-384 check of a boot image (R447). PRESUMED (log 9): both are those of their published
standards (FIPS 180-4, FIPS 186-4), which the spec names and does not repeat. -/

namespace Sys2Proof.Machine

/-- The largest number of at most `k` bits whose `e`-th power is at most `v`, built on `r` from the top bit. -/
def rootBits (e v : Nat) : Nat → Nat → Nat
  | 0, r => r
  | k + 1, r => rootBits e v k (if (r + 2 ^ k) ^ e ≤ v then r + 2 ^ k else r)

/-- The first 80 primes. -/
def primes80 : List Nat := (List.range 410).filter fun n => 2 ≤ n && (List.range n).all fun d => d < 2 || n % d != 0

/-- The 80 round constants: 64 fraction bits of the cube roots of the first 80 primes. -/
def shaK : List Nat := primes80.map fun p => rootBits 3 (p * 2 ^ 192) 67 0 % 2 ^ 64

/-- The initial value: 64 fraction bits of the square roots of the ninth to sixteenth primes. -/
def shaIv : List Nat := ((primes80.drop 8).take 8).map fun p => rootBits 2 (p * 2 ^ 128) 70 0 % 2 ^ 64

/-- A 64-bit word rotated right. -/
def rotr64 (x n : Nat) : Nat := x / 2 ^ n + x % 2 ^ n * 2 ^ (64 - n)

/-- The message schedule, last word first: `n` more words. -/
def shaSched : Nat → List Nat → List Nat
  | 0, w => w
  | n + 1, w =>
    let a := w.getD 1 0
    let b := w.getD 14 0
    let s1 := rotr64 a 19 ^^^ rotr64 a 61 ^^^ a / 2 ^ 6
    let s0 := rotr64 b 1 ^^^ rotr64 b 8 ^^^ b / 2 ^ 7
    shaSched n ((s1 + w.getD 6 0 + s0 + w.getD 15 0) % 2 ^ 64 :: w)

/-- One round. -/
def shaRound (st : List Nat) (kw : Nat × Nat) : List Nat :=
  match st with
  | [a, b, c, d, e, f, g, h] =>
    let s1 := rotr64 e 14 ^^^ rotr64 e 18 ^^^ rotr64 e 41
    let ch := (e &&& f) ^^^ ((2 ^ 64 - 1 - e) &&& g)
    let t1 := h + s1 + ch + kw.1 + kw.2
    let s0 := rotr64 a 28 ^^^ rotr64 a 34 ^^^ rotr64 a 39
    let maj := (a &&& b) ^^^ (a &&& c) ^^^ (b &&& c)
    [(t1 + s0 + maj) % 2 ^ 64, a, b, c, (d + t1) % 2 ^ 64, e, f, g]
  | _ => st

/-- One 128-byte block. -/
def shaBlock (k iv blk : List Nat) : List Nat :=
  let w := (List.range 16).map fun i => ofBytesBE ((blk.drop (8 * i)).take 8)
  let ws := (shaSched 64 w.reverse).reverse
  List.zipWith (fun a b => (a + b) % 2 ^ 64) iv ((k.zip ws).foldl shaRound iv)

/-- SHA-384 of a byte string, as 48 bytes. -/
def sha384 (msg : List Nat) : List Nat :=
  let z := (239 - msg.length % 128) % 128
  let m := msg ++ [0x80] ++ List.replicate z 0 ++ bytesBE 16 (msg.length * 8)
  let k := shaK
  let st := (List.range (m.length / 128)).foldl (fun iv i => shaBlock k iv ((m.drop (128 * i)).take 128)) shaIv
  ((st.take 6).map (bytesBE 8)).flatten

/-- P-384: the field prime, the group order, the coefficient b and the base point. -/
def p384P : Nat := 2 ^ 384 - 2 ^ 128 - 2 ^ 96 + 2 ^ 32 - 1
def p384N : Nat :=
  0xffffffffffffffffffffffffffffffffffffffffffffffffc7634d81f4372ddf581a0db248b0a77aecec196accc52973
def p384B : Nat :=
  0xb3312fa7e23ee7e4988e056be3f82d19181d9c6efe8141120314088f5013875ac656398d8a2ed19d2a85c8edd3ec2aef
def p384G : Nat × Nat :=
  (0xaa87ca22be8b05378eb1c71ef320ad746e1d3b628ba79b9859f741e082542a385502f25dbf55296c3a545e3872760ab7,
   0x3617de4a96262c6f5d9e98bf9292dc29f8f41dbd289a147ce9da3113b5f0b8c00a60b1ce1d7e819d7a431d7c90ea0e5f)

/-- b to the power of the low `k` bits of e, modulo m. -/
def powMod (b m : Nat) : Nat → Nat → Nat
  | 0, _ => 1 % m
  | k + 1, e =>
    let h := powMod b m k (e / 2)
    if e % 2 == 1 then h * h % m * b % m else h * h % m

/-- The inverse modulo a prime of at most 384 bits. -/
def invMod (a m : Nat) : Nat := powMod (a % m) m 384 (m - 2)

/-- The sum of two points of the curve; none is the point at infinity. -/
def ecAdd (a b : Option (Nat × Nat)) : Option (Nat × Nat) :=
  match a, b with
  | none, q => q
  | p, none => p
  | some (x1, y1), some (x2, y2) =>
    if x1 == x2 && (y1 + y2) % p384P == 0 then none
    else
      let l := if x1 == x2 then (3 * x1 * x1 + p384P - 3) * invMod (2 * y1) p384P % p384P
               else (y2 + p384P - y1) * invMod (x2 + p384P - x1) p384P % p384P
      let x := (l * l + 2 * p384P - x1 - x2) % p384P
      some (x, (l * (x1 + p384P - x) + p384P - y1) % p384P)

/-- The multiple of a point by the low `k` bits of e. -/
def ecMul (p : Option (Nat × Nat)) : Nat → Nat → Option (Nat × Nat)
  | 0, _ => none
  | k + 1, e =>
    let h := ecMul p k (e / 2)
    let d := ecAdd h h
    if e % 2 == 1 then ecAdd d p else d

/-- The point lies on the curve. -/
def onCurve (q : Nat × Nat) : Bool :=
  q.1 < p384P && q.2 < p384P && q.2 * q.2 % p384P == (q.1 * q.1 * q.1 + (p384P - 3) * q.1 + p384B) % p384P

/-- The ECDSA P-384 check of a hash under a public key: an uncompressed point of 97 bytes, a signature r then s of 96. -/
def ecdsaVerify (key hash sig : List Nat) : Bool :=
  let q := (ofBytesBE ((key.drop 1).take 48), ofBytesBE ((key.drop 49).take 48))
  let r := ofBytesBE (sig.take 48)
  let s := ofBytesBE ((sig.drop 48).take 48)
  if key.headD 0 != 4 || !onCurve q || r == 0 || s == 0 || p384N ≤ r || p384N ≤ s then false
  else
    let w := invMod s p384N
    let e := ofBytesBE hash
    match ecAdd (ecMul (some p384G) 384 (e * w % p384N)) (ecMul (some q) 384 (r * w % p384N)) with
    | none => false
    | some (x, _) => x % p384N == r

end Sys2Proof.Machine
end

