-- ==== Sys2Proof/Machine/Boot.lean ====
section
/-! DEFINITION. Reset, power sequencing, boot, images and the registration record (chapters 20 and 21): R440 to R452, R458, R459, and
the temperature and the wear of the part (R465, R466). -/

namespace Sys2Proof.Machine

/-! Power and reset pins -/

/-- RESET_N goes low: 0 POWER_ON, 1 PIN, 2 SOFTWARE (R440). A terminal in STABLE powers its rails up for it (DEDUCED, log 30). -/
def resetAssert (cause : Nat) (s : State) : State :=
  if 3 ≤ cause || s.mode == .reset then s
  else
    let t := s.toReset cause
    { t with pins := { t.pins with pwrMainEn := true } }

/-- VDD_AON reaches tolerance (R458): POWER_ON is recorded, and PWR_MAIN_EN released. -/
def vddAonRise (s : State) : State :=
  if s.pins.vddAon then s
  else { s with pins := { s.pins with vddAon := true, pwrMainEn := true, resetN := false } }.wr BOT_RESET_CAUSE
    (setBit (s.rd BOT_RESET_CAUSE) rcPowerOn)

/-- PGOOD rises (R458). -/
def pgoodRise (s : State) : State :=
  if !s.pins.vddAon || !s.pins.pwrMainEn then s else { s with pins := { s.pins with pgood := true } }

/-- PGOOD falls (R459): during a STABLE entry it is ignored. -/
def pgoodFall (s : State) : State :=
  if !s.pins.pgood then s
  else
    let t := { s with pins := { s.pins with pgood := false } }
    if s.pwr.transit == some .stable then t
    else if s.mode == .reset then t.wr BOT_RESET_CAUSE (setBit (t.rd BOT_RESET_CAUSE) rcPowerOn)
    else t.toReset rcPowerOn

/-- PGOOD is not high 100 ms after a STABLE exit began (R459). -/
def pgoodExitTimeout (s : State) : State :=
  match s.pwr.exitAt with
  | some q =>
    if s.mode != .stable || s.pins.pgood then s else (s.advance (q + 100 * msTicks)).toReset rcPowerOn
  | none => s

/-- VDD_AON falls (R458, R466): only the flash and the fuses keep what they hold. -/
def vddAonFall (s : State) : State :=
  if !s.pins.vddAon then s
  else
    let t := s.toReset rcPowerOn
    { t with regs := [], pins := {} }

/-- FACTORY is requested by the strap and allowed by the fuse (R444). -/
def State.factoryAsked (s : State) : Bool := bit (s.rd BOT_STRAPS) 2 && s.fuses.factoryAllow

/-- RESET_N rises (R443, R444, R445): the straps are latched and BOOT is entered. A rise from the board after a thermal trip powers the
terminal up (R465). -/
def resetRelease (straps : Nat) (s : State) : State :=
  if s.mode != .reset || !s.pins.vddAon then s
  else if !s.pins.pwrMainEn then s.tripUp
  else if !s.pins.pgood then s
  else
    let t := { s with pins := { s.pins with resetN := true } }.wr BOT_STRAPS straps
    let t := (t.strapFields true).flag BOT_FACTORY_DENIED (bit straps 2 && !t.fuses.factoryAllow)
    t.tbRestart.setMode .boot

/-! Boot (R445, R447, R448) -/

/-- The boot stops with a status, and BOOT_FAIL is set. -/
def State.bootFails (s : State) (status : Nat) : State := (s.wr BOT_BOOT_STATUS status).raise 3 1

/-- The self-test of the on-chip memories ends (R445): `fail` is the region code and memory index of one that failed. -/
def memorySelftestDone (fail : Option (Nat × Nat)) (s : State) : State :=
  if s.mode != .boot || s.boot.tested || s.rd BOT_BOOT_STATUS != 0 then s
  else
    match fail with
    | some (region, mem) => (s.wr BOT_ST_FAIL (region % 32 + mem * 256)).bootFails 2
    | none =>
      if s.bootSrc == 3 then s.bootFails 9
      else
        let t := { s with boot := { s.boot with tested := true } }
        if s.bootSrc == 0 then t else t.wr BOT_BOOT_STATUS 10

/-- A 32-bit field of an image header, most significant byte first (DESIGN CHOICE, log 23). -/
def imgWord (b : List Nat) (off : Nat) : Nat := ofBytesBE ((b.drop off).take 4)

/-- The sections of an image: everything after its header, up to LENGTH (DEDUCED, log 31). -/
def imgSections (b : List Nat) : List Nat := (b.take (imgLength b)).drop 512

/-- The check of an image (R447): BOOT_STATUS of the first check that fails. -/
def State.imageBad (s : State) (b : List Nat) : Option Nat :=
  let key := (b.drop 0x100).take 97
  if b.length < 512 || imgWord b 0 != 0x5A72494D || imgWord b 4 != 1 then some 3
  else if crc32 (b.take 0x1FC) != imgWord b 0x1FC then some 3
  else if !imgLengthOk (imgLength b) then some 4
  else if sha384 (imgSections b) != (b.drop 0x40).take 48 then some 5
  else if !(ecdsaVerify key (sha384 (b.take 0x80)) ((b.drop 0x80).take 96)) || ofBytesBE (sha384 key) != s.fuses.keyHash then some 6
  else if imgWord b 0xC < s.fuses.rollback then some 7
  else none

/-- Pairs of offset and value, written in order with PF0's rights (R448): false at an offset outside the page map. -/
def State.bootPairs (s : State) : List Nat → State × Bool
  | a :: v :: rest =>
    match (if s.mode == .boot then s.writeDword 0 {} none a v else none) with
    | some t => t.bootPairs rest
    | none => (s, false)
  | _ => (s, true)

/-- Consecutive DWORDs from an offset (R448). -/
def State.bootBlock (s : State) : Nat → List Nat → State × Bool
  | _, [] => (s, true)
  | a, v :: rest =>
    match (if s.mode == .boot then s.writeDword 0 {} none a v else none) with
    | some t => t.bootBlock (a + 4) rest
    | none => (s, false)

/-- The sections of an image, in order (R448): false where one is reserved, cut short or reaches outside the page map. -/
def State.bootSections (s : State) : Nat → List Nat → State × Bool
  | 0, _ => (s, false)
  | n + 1, h :: off :: len :: rest =>
    match bits h 31 24 with
    | 3 => (s, true)
    | 1 =>
      if rest.length < len then (s, false)
      else match s.bootPairs (rest.take len) with
        | (t, true) => t.bootSections n (rest.drop len)
        | r => r
    | 2 =>
      if rest.length < len then (s, false)
      else match s.bootBlock off (rest.take len) with
        | (t, true) => t.bootSections n (rest.drop len)
        | r => r
    | _ => (s, false)
  | _ + 1, h :: _ => (s, bits h 31 24 == 3)
  | _ + 1, [] => (s, false)

/-- The end of BOOT is a boundary of every kind (R448): sealed and unsealed buffered writes apply. -/
def State.bootApply (s : State) : State :=
  let t := forEach (s.seals.map Sealed.page) s fun u p => ((u.takeSeal p).applyFields p fun _ => true).release_ p
  let l := t.shadow
  forEach l { t with shadow := [] } State.applyField

/-! The registration record (R446, R450 to R452) -/

/-- Word `w` of a record slot, most significant byte first. -/
def State.slotWord (s : State) (slot w : Nat) : Nat := smGet s.boot.flash (slot * 1024 + w) ^^^ 0xFFFFFFFF

/-- The words of a record slot. -/
def State.slotWords (s : State) (slot : Nat) : List Nat := (List.range 1024).map (s.slotWord slot)

/-- A slot's words become `ws`; `none` leaves it erased. -/
def State.setRecSlot (s : State) (slot : Nat) (ws : Option (List Nat)) : State :=
  let base := s.boot.flash.filter fun e => e.1 / 1024 != slot
  let put (m : List (Nat × Nat)) (e : Nat × Nat) : List (Nat × Nat) := smSet m (slot * 1024 + e.2) (e.1 % 2 ^ 32 ^^^ 0xFFFFFFFF)
  { s with boot := { s.boot with flash := (ws.getD []).zipIdx.foldl put base } }

/-- A slot is valid (R451). -/
def State.slotValid (s : State) (slot : Nat) : Bool :=
  let ws := s.slotWords slot
  let w (i : Nat) : Nat := ws.getD i 0
  w 0 == 0x5A725245 && w 1 == 1 && w 1023 == 0xA5C30F5A && w 4 * 2 ^ 32 + w 5 == s.fuses.serial
    && w 1022 == crc32 ((ws.take 1022).flatMap (bytesBE 4))

/-- The slot that is chosen, and whether the SEQs tied (R451). -/
def State.chosen (s : State) : Option (Nat × Bool) :=
  match s.slotValid 0, s.slotValid 1 with
  | true, true =>
    let d := toS 32 (s.slotWord 1 2 + 2 ^ 32 - s.slotWord 0 2)
    some (if 0 < d then 1 else 0, d == 0)
  | true, false => some (0, false)
  | false, true => some (1, false)
  | false, false => none

/-- A slot is the chosen one: REC_SLOT, REC_VALID, REC_SEQ and REC_VIEW (R451, R452). -/
def State.showSlot (s : State) (slot : Nat) : State :=
  let t := ((s.wr BOT_REC_SLOT slot).wr BOT_REC_VALID 1).wr BOT_REC_SEQ (s.slotWord slot 2)
  forEach (List.range 1024) t fun u w => u.wr BOT_REC_VIEW (s.slotWord slot w) w

/-- The record is chosen and restored (R451): the symbol rate, the control hint and the dispersion hints. -/
def State.restoreRecord (s : State) : State :=
  match s.chosen with
  | none => s.wr BOT_REC_VALID 0
  | some (slot, tie) =>
    let w (i : Nat) : Nat := s.slotWord slot i
    let t := (s.showSlot slot).flag BOT_SEQ_TIE tie
    let t := if w 10 < 2 ^ 18 then rsExpectWrite (w 10) t else t
    let t := (t.wr LRX_CTRL_HINT (w 11)).wr LRX_HINT_VALID 1
    let t := (t.wr LRX_CD_HINT_A (w 12)).wr LRX_CD_HINT_A_VALID 1
    (t.wr LRX_CD_HINT_B (w 13)).wr LRX_CD_HINT_B_VALID 1

/-- The record as committed (R450, R452): `body` covers 0x010 to 0xEFF. -/
def recordWords (seq : Nat) (body : List Nat) : List Nat :=
  let l := [0x5A725245, 1, seq, 0] ++ body.take 956 ++ List.replicate 62 0
  l ++ [crc32 (l.flatMap (bytesBE 4)), 0xA5C30F5A]

/-- A commit ends with a status: 0 OK, 1 ERASE, 2 PROGRAM, 3 VERIFY, 4 NO_FLASH (R452, R453). -/
def recCommitDone (status : Nat) (s : State) : State :=
  match s.boot.commit with
  | none => s
  | some (slot, body) =>
    if 5 ≤ status then s
    else
      let t := ({ s with boot := { s.boot with commit := none } }.wr BOT_REC_GO 0).wr BOT_REC_STATUS status
      if status == 0 then
        let seq := if s.on BOT_REC_VALID then (s.rd BOT_REC_SEQ + 1) % 2 ^ 32 else 1
        ((t.setRecSlot slot (some (recordWords seq body))).showSlot slot).raise 3 2
      else if status == 4 then t.raise 3 3
      else (t.setRecSlot slot none).raise 3 3

/-! The end of BOOT -/

/-- BOOT ends in LISTEN, or in FACTORY (R444, R445, R469). -/
def State.bootEnds (s : State) : State :=
  let t := ((s.bootApply.restoreRecord).wr BOT_BOOT_STATUS 1).raise 3 0
  let t := t.raiseIf (t.on GLB_THERM_TRIP) 0 1
  if t.factoryAsked then (t.setMode .factory).lanesSync (List.range 24)
  else ((t.setMode .listen).carriersOn).lanesSync (List.range 24)

/-- An image from source `used` has passed its checks: its sections are applied (R447, R448). -/
def State.takeImage (s : State) (used : Nat) (b : List Nat) : State :=
  let t := (s.wr BOT_IMAGE_USED used).wr BOT_IMG_VERSION (imgWord b 0xC)
  let ws := wordsBE (imgSections b)
  match t.bootSections (ws.length + 1) ws with
  | (u, true) => if u.mode == .boot then u.bootEnds else u
  | (u, false) => if u.mode == .boot then u.bootFails 8 else u

/-- An image that has been read is checked (R447, R449): `image` is what was read from the flash or the host, none where the directory
names no image; a two-wire image is what came through TW_FIFO. -/
def imageCheck (image : Option (List Nat)) (s : State) : State :=
  if s.mode != .boot || !s.boot.tested || s.rd BOT_BOOT_STATUS == 8 then s
  else
    let b := (image.getD []).map (· % 256)
    if s.bootSrc == 0 && s.boot.tried < 2 then
      match s.imageBad b with
      | none => s.takeImage (s.boot.tried + 1) b
      | some st =>
        let t := { s with boot := { s.boot with tried := s.boot.tried + 1 } }
        if t.boot.tried < 2 then t else t.bootFails st
    else if s.bootSrc == 2 then
      if !s.fifoFull then s
      else
        match s.imageBad s.fifoBytes with
        | none => s.takeImage 3 s.fifoBytes
        | some st => { s with boot := { s.boot with fifo := [] } }.bootFails st
    else if !s.hostLoads || !s.on BOT_HOST_GO then s
    else
      let t := s.wr BOT_HOST_GO 0
      match s.imageBad b with
      | none => t.takeImage 3 b
      | some st => t.bootFails st

/-! Temperature and wear (R465, R466) -/

/-- The four dies' temperature fields, LD, HD, MD0, MD1 (R468). -/
def dieTemps : List Fld := [GLB_TJ_LD, GLB_TJ_HD, GLB_TJ_MD0, GLB_TJ_MD1]

/-- THERM_WARN at a die (R422, R465). -/
def State.warmDie (s : State) (k : Nat) (temp : Int) : State :=
  if temp < s.rd FLT_TJ_WARN then s
  else (s.fault cThermWarn { level := 3, region := 24 + k, detail := ofS 8 temp } 0).raise 0 0

/-- The die sensors are read (R465). -/
def thermalSample (ld hd md0 md1 : Int) (s : State) : State :=
  if s.dark then s
  else
    let l := [ld, hd, md0, md1].map (satS 8)
    let top := l.foldl max (-128)
    let t := forEach (dieTemps.zip l) s fun u e => u.wrS e.1 e.2
    let t := if t.rdS GLB_TJ_PEAK < top then t.wrS GLB_TJ_PEAK top else t
    let t := forEach l.zipIdx t fun u e => u.warmDie e.2 e.1
    let t := { t with pwr := { t.pwr with warm := l.any fun x => decide ((s.rd FLT_TJ_WARN : Int) ≤ x) } }
    if 125 ≤ top then
      let t := (t.wr GLB_THERM_TRIP 1).toReset rcPowerOn
      { t with pins := { t.pins with pwrMainEn := false, pgood := false } }
    else if 120 ≤ top then t.fault cThermCrit (srcPackage (ofS 8 top)) 0
    else t

/-- e^(n/d) in units of 2^-32 (R466): the Taylor sum of a sixteenth of the argument, in units of 2^-64, raised to its sixteenth power. -/
def expFix (n d : Int) : Nat :=
  let one : Int := 2 ^ 64
  let x := n * one / (d * 16)
  let sum := ((List.range 32).foldl (fun (a : Int × Int) (k : Nat) => (a.1 + a.2, a.2 * x / (one * (k + 1)))) (0, one)).1
  ((List.range 4).foldl (fun v _ => v * v / one) sum / 2 ^ 32).toNat

/-- AF of R466 at `temp` °C, in units of 2^-32: exp(8,123 K × (1/363.15 K − 1/Tj)), in hundredths of a kelvin. -/
def lifeRate (temp : Int) : Nat := expFix (8123 * 10000 * (temp - 90)) (36315 * (27315 + 100 * temp))

/-- A second passes (R466): LIFE_USED adds the acceleration factor of the hottest die, kept to 2^-32 (log 32). -/
def lifeTick (s : State) : State :=
  if s.mode == .stable || !s.pins.vddAon then s
  else
    let sum := s.pins.lifeFrac + lifeRate ((dieTemps.map fun f => s.rdS f).foldl max (-128))
    let v := s.rd GLB_LIFE_USED
    let w := s.rd GLB_LIFE_WARN
    let n := v + sum / 2 ^ 32
    let t := { s with pins := { s.pins with lifeFrac := sum % 2 ^ 32 } }
    (t.wr GLB_LIFE_USED n).raiseIf (decide (v < w) && decide (w ≤ n) && !s.dark) 0 2

/-! The meanings -/

/-- RESET_ASSERT. -/
def execResetAssert (cause : Nat) (s : State) : Host.Outcome State Fault Refusal := .next (resetAssert cause s)
/-- VDD_AON_RISE. -/
def execVddAonRise (s : State) : Host.Outcome State Fault Refusal := .next (vddAonRise s)
/-- PGOOD_RISE. -/
def execPgoodRise (s : State) : Host.Outcome State Fault Refusal := .next (pgoodRise s)
/-- PGOOD_FALL. -/
def execPgoodFall (s : State) : Host.Outcome State Fault Refusal := .next (pgoodFall s)
/-- PGOOD_EXIT_TIMEOUT. -/
def execPgoodExitTimeout (s : State) : Host.Outcome State Fault Refusal := .next (pgoodExitTimeout s)
/-- VDD_AON_FALL. -/
def execVddAonFall (s : State) : Host.Outcome State Fault Refusal := .next (vddAonFall s)
/-- RESET_RELEASE. -/
def execResetRelease (straps : Nat) (s : State) : Host.Outcome State Fault Refusal := .next (resetRelease straps s)
/-- MEMORY_SELFTEST_DONE. -/
def execMemorySelftestDone (fail : Option (Nat × Nat)) (s : State) : Host.Outcome State Fault Refusal :=
  .next (memorySelftestDone fail s)
/-- REC_COMMIT_DONE. -/
def execRecCommitDone (status : Nat) (s : State) : Host.Outcome State Fault Refusal := .next (recCommitDone status s)
/-- IMAGE_CHECK. -/
def execImageCheck (image : Option (List Nat)) (s : State) : Host.Outcome State Fault Refusal := .next (imageCheck image s)
/-- THERMAL_SAMPLE. -/
def execThermalSample (ld hd md0 md1 : Int) (s : State) : Host.Outcome State Fault Refusal := .next (thermalSample ld hd md0 md1 s)
/-- LIFE_TICK. -/
def execLifeTick (s : State) : Host.Outcome State Fault Refusal := .next (lifeTick s)

end Sys2Proof.Machine
end

