-- ==== Sys2Proof/Machine/Dma.lean ====
section
/-! DEFINITION. The DMA channels' descriptors and beats (R358 to R367) and the injection rings (R368 to R371). -/

namespace Sys2Proof.Machine

/-! Fetching a descriptor (R359, R361, R362) -/

/-- The ring index of the descriptor to be fetched next. -/
def State.dmaFetchAt (s : State) (n : Nat) : Nat :=
  (List.range (s.dch n).descs.length).foldl (fun i _ => ringNext (s.rd DMA_CH_RING_SIZE n) i) (s.rd DMA_CH_HEAD n)

/-- A descriptor's words (R361). -/
def dmaParse (idx : Nat) (ws : List Nat) : DmaDesc :=
  let w (i : Nat) : Nat := ws.getD i 0 % 2 ^ 32
  { idx := idx, op := bits (w 0) 3 0, barrier := bit (w 0) 4, irq := bit (w 0) 5, srcReg := bit (w 0) 6, dstReg := bit (w 0) 7
    tag := bits (w 0) 31 16, len := w 1, src := w 2 + w 3 * 2 ^ 32, dst := w 4 + w 5 * 2 ^ 32, pattern := w 6 + w 7 * 2 ^ 32 }

/-- The operation reads SRC, and uses DST (R361). -/
def DmaDesc.usesSrc (d : DmaDesc) : Bool := d.op == 1 || d.op == 3
def DmaDesc.usesDst (d : DmaDesc) : Bool := d.op == 1 || d.op == 2 || d.op == 3

/-- A register range lies below 64 MiB (R362). -/
def regRangeOk (a len : Nat) : Bool := decide (a + len ≤ 0x4000000)

/-- Two ranges of one length are neither identical nor disjoint. -/
def rangesClash (a b len : Nat) : Bool := a != b && decide (a < b + len) && decide (b < a + len)

/-- The cause of the first check that a descriptor fails (R362). -/
def dmaCheck (d : DmaDesc) (ws : List Nat) : Option Nat :=
  let reserved := bits (ws.getD 0 0) 15 8 != 0 || (List.range 4).any fun k => ws.getD (8 + k) 0 % 2 ^ 32 != 0
  if d.op == 0 then (if reserved then some hcFormat else none)
  else if d.len % 64 != 0 || (d.usesSrc && d.src % 64 != 0) || (d.usesDst && d.dst % 64 != 0) then some hcAlign
  else if 4 ≤ d.op || d.len == 0 || reserved || (d.usesSrc && d.srcReg && !regRangeOk d.src d.len)
      || (d.usesDst && d.dstReg && !regRangeOk d.dst d.len)
      || (d.op == 1 && d.srcReg == d.dstReg && rangesClash d.src d.dst d.len) then some hcFormat
  else none

/-- A running channel fetches its next descriptor: `words` is what the host's memory gives, none where the read fails (R359, R362,
R365). -/
def descriptorFetch (n : Nat) (words : Option (List Nat)) (s : State) : State :=
  let c := s.dch n
  let at_ := s.dmaFetchAt n
  let free := match c.descs.getLast? with
    | none => true
    | some d => d.remain == 0 || d.diff.isSome
  if 16 ≤ n || !s.on DMA_CH_RUN n || c.halting.isSome || !free || at_ == s.rd DMA_CH_TAIL n then s
  else
    match words with
    | none =>
      if s.rd DMA_CH_RETRY n ≤ c.tries then s.dmaWillHalt n hcDesc
      else (s.setDch n { c with tries := c.tries + 1 }).inc DMA_CH_RETRIES 1 n
    | some ws =>
      let d := dmaParse at_ ws
      match dmaCheck d ws with
      | some cause => s.dmaWillHalt n cause
      | none => s.setDch n { c with descs := c.descs ++ [d], tries := 0 }

/-! Issuing beats (R360, R363) -/

/-- The channel can issue a beat of its newest descriptor. -/
def State.dmaCanIssue (s : State) (n : Nat) : Bool :=
  let c := s.dch n
  match c.descs.getLast? with
  | none => false
  | some d =>
    s.on DMA_CH_RUN n && c.halting.isNone && !c.retrying && decide (c.out < 32) && d.op != 0 && decide (0 < d.remain) && d.diff.isNone
      && (!d.barrier || c.descs.length == 1)

/-- The requester table of the DMA channels (R360), and that of the ring sets (R370). -/
def rtDma : Nat := 0
def rtRings : Nat := 1

/-- Channel `n` issues the next beat of a descriptor of operation `op`, when its turn has come (R32, R360). -/
def State.dmaIssue (s : State) (n op : Nat) : State :=
  let ready := (List.range 16).filter s.dmaCanIssue
  let c := s.dch n
  match c.descs.getLast? with
  | none => s
  | some d =>
    if d.op != op || s.winner rtDma 16 ready != some n then s
    else
      let t := if decide (1 < ready.length) then s.won rtDma 16 n else s
      let d' := { d with issued := d.issued + 1, air := d.air ++ [(d.issued, 0)] }
      (t.setDch n { c with descs := c.descs.dropLast ++ [d'] }).perf 5 0x00

/-- A COPY beat is issued (R361). -/
def copy (n : Nat) (s : State) : State := s.dmaIssue n 1

/-- A FILL beat is issued (R361). -/
def fill (n : Nat) (s : State) : State := s.dmaIssue n 2

/-- A COMPARE beat is issued (R361). -/
def compare (n : Nat) (s : State) : State := s.dmaIssue n 3

/-- A NOP is done: with BARRIER, once every earlier descriptor is complete (R361, R363). -/
def nopDescriptor (n : Nat) (s : State) : State :=
  let c := s.dch n
  match c.descs.getLast? with
  | none => s
  | some d =>
    if d.op != 0 || d.ready || (d.barrier && c.descs.length != 1) then s
    else (s.setDch n { c with descs := c.descs.dropLast ++ [{ d with ready := true }] }).dmaNext n

/-! Answers (R361, R364, R365) -/

/-- The 64 bytes of a register beat as master `m` reads them, least significant byte of a DWORD first: none in a gap. -/
def State.beatRead (s : State) (m a n : Nat) : Option (List Nat × State) :=
  (s.readWords m a n).map fun e => (e.1.flatMap (bytesLE 4), e.2)

/-- One side of a beat that is read: the registers, or what the host gave. -/
def State.beatSide (s : State) (n : Nat) (reg : Bool) (a : Nat) (host : List Nat) : Option (List Nat × State) :=
  if reg then s.beatRead (17 + n) a 16 else some ((host ++ List.replicate 64 0).take 64 |>.map (· % 256), s)

/-- One side of a beat that is written. -/
def State.beatWrite (s : State) (n : Nat) (env : Env) (reg : Bool) (a : Nat) (bs : List Nat) : Option State :=
  if !reg then some (s.emit (.hostWrite (s.rd DMA_CH_OWNER n) a bs))
  else if !allMapped (17 + n) a 16 then none
  else some (s.writeWords (17 + n) env none a ((List.range 16).map fun k => ofBytesLE ((bs.drop (4 * k)).take 4)))

/-- Where two beats first differ. -/
def firstDiff (a b : List Nat) : Option Nat := (a.zip b).findIdx? fun e => e.1 != e.2

/-- What a beat of a descriptor does (R361): none where it fails; the offset of a difference. -/
def State.beatRun (s : State) (n : Nat) (env : Env) (d : DmaDesc) (beat : Nat) (ok : Bool) (src dst : List Nat) :
    Option (State × Option Nat) :=
  let o := 64 * beat
  match d.op with
  | 1 =>
    if !d.srcReg && !ok then none
    else (s.beatSide n d.srcReg (d.src + o) src).bind fun r => (r.2.beatWrite n env d.dstReg (d.dst + o) r.1).map fun t => (t, none)
  | 2 => (s.beatWrite n env d.dstReg (d.dst + o) (((List.range 8).map fun _ => bytesLE 8 d.pattern).flatten)).map fun t => (t, none)
  | _ =>
    if !(d.srcReg && d.dstReg) && !ok then none
    else (s.beatSide n d.srcReg (d.src + o) src).bind fun r => (r.2.beatSide n d.dstReg (d.dst + o) dst).map fun q =>
      (q.2, (firstDiff r.1 q.1).map (o + ·))

/-- What reading one beat of registers leaves as master `m`: a read that reaches a gap leaves nothing. -/
def State.beatReadBy (s : State) (m a : Nat) : State :=
  match s.beatRead m a 16 with
  | some r => r.2
  | none => s

/-- The register reads of a beat that fails have taken place (R362, R365). -/
def State.beatTried (s : State) (n : Nat) (d : DmaDesc) (beat : Nat) : State :=
  let t := if d.usesSrc && d.srcReg then s.beatReadBy (17 + n) (d.src + 64 * beat) else s
  if d.op == 3 && d.dstReg then t.beatReadBy (17 + n) (d.dst + 64 * beat) else t

/-- The lesser of two offsets where both are known. -/
def minOpt : Option Nat → Option Nat → Option Nat
  | some a, some b => some (min a b)
  | some a, none => some a
  | none, b => b

/-- Beat `beat` of the descriptor in slot `idx` of channel `n` is answered (R364, R365): `ok` where every host read it made succeeded,
with the bytes those reads gave. -/
def dmaBeatAnswer (n idx beat : Nat) (ok : Bool) (src dst : List Nat) (env : Env) (s : State) : State :=
  let c := s.dch n
  match c.descs.find? fun d => d.idx == idx && d.air.any fun b => b.1 == beat with
  | none => s
  | some d =>
    let tries := ((d.air.find? fun b => b.1 == beat).map Prod.snd).getD 0
    let others := d.air.filter fun b => b.1 != beat
    let upd (t : State) (d' : DmaDesc) : State :=
      t.setDch n { t.dch n with descs := (t.dch n).descs.map fun e => if e.idx == idx then d' else e }
    match s.beatRun n env d beat ok src dst with
    | some (t, diff) => (upd t { d with air := others, diff := minOpt d.diff diff }).dmaNext n
    | none =>
      let s := s.beatTried n d beat
      let hard := match c.halting with
        | some h => !fetchCause h
        | none => false
      if hard then (upd s { d with air := others, failed := true }).dmaNext n
      else if tries < s.rd DMA_CH_RETRY n then
        (upd s { d with air := others ++ [(beat, tries + 1)], retries := d.retries + 1 }).inc DMA_CH_RETRIES 1 n
      else
        let t := upd s { d with air := others, failed := true }
        t.dmaWillHalt n (if t.rd DMA_CH_REMAIN n == 0 then hcLastBeat else hcBeat)

/-! Injection rings (R368, R370) -/

/-- A ring set has an entry to take. -/
def State.injReady (s : State) (n : Nat) : Bool :=
  !s.dark && s.on DMA_RS_TX_EN n && s.rd DMA_RS_TX_HEAD n != s.rd DMA_RS_TX_TAIL n

/-- Why an injection is not SENT: 1 REFUSED, 2 FORMAT (R370). -/
def State.injBad (s : State) (n w2 w3 : Nat) : Option Nat :=
  let target := bits w2 17 16
  let len := bits w2 13 0
  let queue := bits w3 11 0
  if target == 0 && !s.on DMA_RS_INJ_CLASSIFY n then some 1
  else if (target == 1 || target == 2) && !s.on DMA_RS_INJ_DIRECT n then some 1
  else if target == 3 || len < 64 || 16000 < len || (target == 2 && 128 ≤ queue) then some 2
  else none

/-- A frame's last four bytes become its FCS. -/
def withFcs (bs : List Nat) : List Nat := bs.take (bs.length - 4) ++ fcsBytes (crc32 (bs.take (bs.length - 4)))

/-- An injected frame is handed on (R370): no receive pins gave it an ingress time, and the spec names none (free value, log 33). -/
def State.injSend (s : State) (w2 w3 : Nat) (bs : List Nat) : State :=
  let lt := s.fresh.1
  let t := s.fresh.2
  match bits w2 17 16 with
  | 0 => t.toParser { bytes := bs, isrc := 18, dir := b2n (bit w2 18), lt := lt }
  | 1 => t.tagTo (bits w3 11 0) (bits w3 25 12) (bits w3 28 26) lt (bit w3 29) bs
  | _ => t.enqEq (bits w3 11 0) { bytes := bs, lt := lt }

/-- The entry at HEAD is answered with `result` (R370). -/
def State.injAnswer (s : State) (n result : Nat) (irq : Bool) : State :=
  let h := s.rd DMA_RS_TX_HEAD n
  let t := s.emit (.hostWrite (ownerFn n) (s.rd64 DMA_RS_TX_BASE_LO DMA_RS_TX_BASE_HI n + 64 * h + 32) (bytesLE 4 (1 + 2 * result)))
  let t := t.wr DMA_RS_TX_HEAD (ringNext (t.rd DMA_RS_TX_SIZE n) h) n
  let t := if result == 0 then t.inc DMA_RS_TX_FRAMES 1 n else (t.inc DMA_RS_TX_REFUSED 1 n).raiseRing n 2
  if irq then t.raiseRing n 1 else t

/-- The ring engine takes the entry at HEAD of ring set `n`, whose turn it is (R370): its words, and the FLEN bytes of its frame, none
where the read still fails after three retries. A source that is held back, or has no room, waits (R197, R204). -/
def injectionTake (n : Nat) (entry : List Nat) (frame : Option (List Nat)) (s : State) : State :=
  let ready := (List.range 16).filter s.injReady
  let w2 := entry.getD 2 0 % 2 ^ 32
  let w3 := entry.getD 3 0 % 2 ^ 32
  let waits := (bits w2 17 16 == 0 && !s.parserRoom 18) || (bits w2 17 16 == 1 && s.heldBack 18)
  if s.winner rtRings 16 ready != some n then s
  else
    let t := if decide (1 < ready.length) then s.won rtRings 16 n else s
    match s.injBad n w2 w3 with
    | some r => t.injAnswer n r (bit w2 15)
    | none =>
      if waits then s
      else
        match frame with
        | none => t.injAnswer n 3 (bit w2 15)
        | some bs =>
          if bs.length != bits w2 13 0 then s
          else
            let bs := bs.map (· % 256)
            (t.injSend w2 w3 (if bit w2 14 then withFcs bs else bs)).injAnswer n 0 (bit w2 15)

/-! The meanings -/

/-- DESCRIPTOR_FETCH. -/
def execDescriptorFetch (n : Nat) (words : Option (List Nat)) (s : State) : Host.Outcome State Fault Refusal :=
  .next (descriptorFetch n words s)
/-- COPY. -/
def execCopy (n : Nat) (s : State) : Host.Outcome State Fault Refusal := .next (copy n s)
/-- FILL. -/
def execFill (n : Nat) (s : State) : Host.Outcome State Fault Refusal := .next (fill n s)
/-- COMPARE. -/
def execCompare (n : Nat) (s : State) : Host.Outcome State Fault Refusal := .next (compare n s)
/-- NOP_DESCRIPTOR. -/
def execNopDescriptor (n : Nat) (s : State) : Host.Outcome State Fault Refusal := .next (nopDescriptor n s)
/-- DMA_BEAT_ANSWER. -/
def execDmaBeatAnswer (n idx beat : Nat) (ok : Bool) (src dst : List Nat) (env : Env) (s : State) : Host.Outcome State Fault Refusal :=
  .next (dmaBeatAnswer n idx beat ok src dst env s)
/-- INJECTION_TAKE. -/
def execInjectionTake (n : Nat) (entry : List Nat) (frame : Option (List Nat)) (s : State) : Host.Outcome State Fault Refusal :=
  .next (injectionTake n entry frame s)

end Sys2Proof.Machine
end

