-- ==== Sys2Proof/Machine/Isa.lean ====
section
/-! DEFINITION. The instruction set of the signal engines (chapter 14): one meaning for each instruction, over the shared issue of
VatOps. Every meaning acts only when cluster `c` runs and the word at its PC spells the instruction. -/

namespace Sys2Proof.Machine

/-! Fields of the word (R319) -/

/-- The format of a word. -/
def vFmt (w : Nat) : Nat := bits w 28 26

/-- The word is in format `f` with operation code `op` (R322, R324, R327). -/
def isDual (mop w : Nat) : Bool := vFmt w == 0 && bits w 25 24 == mop
def isAlu (op w : Nat) : Bool := vFmt w == 1 && bits w 25 20 == op
def isFlow (op w : Nat) : Bool := vFmt w == 6 && bits w 25 22 == op

/-- The operation codes of ALU that are defined (R324). -/
def aluDefined (op : Nat) : Bool :=
  decide (op ≤ 0x0E) || (decide (0x10 ≤ op) && decide (op ≤ 0x1A)) || (decide (0x20 ≤ op) && decide (op ≤ 0x29))

/-- A G register as the EX stage reads it (R332). -/
def VUnit.greg (x : VUnit) (k : Nat) : Nat := smGet x.g k

/-- A G register as the AG stage reads it (R332). -/
def VUnit.gag (x : VUnit) (k : Nat) : Nat := smGet x.h2.1 k

/-- A G register written. -/
def VUnit.setG (x : VUnit) (k v : Nat) : VUnit := { x with g := smSet x.g k (v % 2 ^ 16) }

/-- A predicate as the EX stage reads it. F0 reads 1. -/
def VUnit.pred (x : VUnit) (k : Nat) : Bool := k == 0 || bit x.f k

/-- A predicate written. -/
def VUnit.setF (x : VUnit) (k : Nat) (b : Bool) : VUnit := { x with f := putBit x.f k b }

/-- The accumulator's range (R317). -/
def accMax : Int := 0x7FFFFFFFFF
def accMin : Int := -0x8000000000

/-- The accumulator written, clipped to its range under AS (R317). -/
def VUnit.setAcc (x : VUnit) (v : Int) : VUnit :=
  { x with acc := clampI accMin accMax v, as_ := x.as_ || decide (v < accMin) || decide (accMax < v) }

/-- A G register written with a saturated result under SV (R317). -/
def VUnit.setSat (x : VUnit) (k : Nat) (v : Int) : VUnit :=
  { (x.setG k (ofS 16 (satS 16 v))) with sv := x.sv || satS 16 v != v }

/-- What an instruction does in each unit in which it acts. -/
def inUnits (f : Nat → VUnit → VUnit) (i : Issue) (s : State) : State := forEach i.on s fun t u => t.mapVu i.c u (f i.w)

/-- No program error; the next instruction. -/
def noErr (_ : Issue) (_ : State) : Option Nat := none
def goNext (_ : Issue) (_ : State) : Goes := .next

/-! Addressing (R328, R329) -/

/-- The next value of an address register: one correction for a circular buffer of length `l` at `b`. -/
def circ (p : Nat) (d : Int) (b l m : Nat) : Nat :=
  let t : Int := (p : Int) + d
  let t := if l == 0 then t else if (b + l : Nat) ≤ t then t - l else if t < b then t + l else t
  (t % (m : Int)).toNat

/-- Address register `n` of a unit after an offset. -/
def VUnit.step (x : VUnit) (n : Nat) (d : Int) : Nat := circ (smGet x.ar n) d (smGet x.ar (4 + n)) (smGet x.ar (8 + n)) 4096

/-- The address an access uses, and the unit with its address register post-modified: modes 0 to 5 of R328. -/
def VUnit.address (x : VUnit) (mode n k addr : Nat) : Nat × VUnit :=
  let p := smGet x.ar n
  let mod (d : Int) : Nat × VUnit := (p, { x with ar := smSet x.ar n (x.step n d) })
  match mode with
  | 0 => (p, x)
  | 1 => mod 1
  | 2 => mod (-1)
  | 3 => mod (toS 16 (x.gag (12 + n)))
  | 4 => (x.step n (toS 16 (x.gag k)), x)
  | _ => (addr, x)

/-! DUAL (R317, R322, R323) -/

/-- A DUAL's moves in a unit: the X and Y words loaded, and the unit with its addresses modified, its stores under way and its
registers loaded. -/
def VUnit.moves (x : VUnit) (w : Nat) : Nat × Nat × VUnit :=
  let xd := bits w 14 11
  let yd := bits w 5 2
  let dx := x.greg xd
  let dy := x.greg yd
  let (ax, x1) := if bit w 19 then x.address (bits w 16 15) (bits w 17 17) 0 0 else (0, x)
  let (ay, x2) := if bit w 10 then x1.address (bits w 7 6) (2 + bits w 8 8) 0 0 else (0, x1)
  let lx := x.load false ax
  let ly := x.load true ay
  let x3 := if bit w 19 then (if bit w 18 then { x2 with st := x2.st ++ [(false, ax, dx)] } else x2.setG xd lx) else x2
  let x4 := if bit w 10 then (if bit w 9 then { x3 with st := x3.st ++ [(true, ay, dy)] } else x3.setG yd ly) else x3
  (lx, ly, x4)

/-- The program-bus word: half PA of program memory (R315). -/
def State.half (s : State) (c : Nat) : Nat :=
  let h := smGet (s.vcl c).pr 0
  let w := s.pgmWord c (h / 2)
  if h % 2 == 0 then w / 2 ^ 16 else w % 2 ^ 16

/-- A combination of operands that a multiplication does not allow (R322). -/
def dualErr (i : Issue) (_ : State) : Option Nat :=
  let a := bit i.w 22 || (bit i.w 19 && !bit i.w 18)
  let b := match bits i.w 21 20 with
    | 0 => bit i.w 10 && !bit i.w 9
    | 3 => false
    | _ => true
  if a && b then none else some peIllegal

/-- A multiplication with its moves (R317, R322): `f` combines the accumulator and the product. -/
def dual (f : Int → Int → Int) (i : Issue) (s : State) : State :=
  let bus := bits i.w 21 20 == 1
  let pgm := s.half i.c
  let t := s.perf (128 + i.c) 0x02 i.on.length
  let t := if !bus then t
    else
      let t := t.mapVcl i.c fun x =>
        { x with pr := smSet x.pr 0 (circ (smGet x.pr 0) 1 (smGet x.pr 1) (smGet x.pr 2) 16384) }
      if i.cached then t else (t.vatCycles i.c 1).perf (128 + i.c) 0x05
  forEach i.on t fun t u => t.mapVu i.c u fun x =>
    let (lx, ly, y) := x.moves i.w
    let a := if bit i.w 22 then x.greg (bits i.w 14 11) else lx
    let b := match bits i.w 21 20 with
      | 0 => ly
      | 1 => pgm
      | _ => x.greg (bits i.w 5 2)
    let p := toS 16 a * toS 16 b * (if bit i.w 23 then 2 else 1)
    y.setAcc (f x.acc p)

/-- DUAL with MOP 0: only the parallel moves. -/
def vDualMove (c : Nat) (s : State) : State :=
  s.issue c (isDual 0) false noErr (inUnits fun w x => (x.moves w).2.2) goNext

/-- MPY. -/
def vMpy (c : Nat) (s : State) : State := s.issue c (isDual 1) false dualErr (dual fun _ p => p) goNext

/-- MAC. -/
def vMac (c : Nat) (s : State) : State := s.issue c (isDual 2) false dualErr (dual fun a p => a + p) goNext

/-- MSU. -/
def vMsu (c : Nat) (s : State) : State := s.issue c (isDual 3) false dualErr (dual fun a p => a - p) goNext

/-! ALU (R324) -/

/-- Operand A, and operand B: a G register, or the signed 11-bit immediate. -/
def VUnit.opA (x : VUnit) (w : Nat) : Nat := x.greg (bits w 15 12)
def VUnit.opB (x : VUnit) (w : Nat) : Nat := if bit w 11 then ofS 16 (toS 11 w) else x.greg (bits w 10 7)

/-- G[D] takes a function of A and B. -/
def toG (f : Nat → Nat → Nat) (w : Nat) (x : VUnit) : VUnit := x.setG (bits w 19 16) (f (x.opA w) (x.opB w))

/-- G[D] takes a saturated function of A and B, read as signed numbers. -/
def toGSat (f : Int → Int → Int) (w : Nat) (x : VUnit) : VUnit :=
  x.setSat (bits w 19 16) (f (toS 16 (x.opA w)) (toS 16 (x.opB w)))

/-- MOV. A word of format ALU whose operation code is reserved issues here, as a program error. -/
def vMov (c : Nat) (s : State) : State :=
  s.issue c (fun w => isAlu 0 w || (vFmt w == 1 && !aluDefined (bits w 25 20))) false
    (fun i _ => if aluDefined (bits i.w 25 20) then none else some peIllegal) (inUnits (toG fun _ b => b)) goNext

/-- ADD, ADDS, SUB, SUBS. -/
def vAdd (c : Nat) (s : State) : State := s.issue c (isAlu 0x01) false noErr (inUnits (toG fun a b => a + b)) goNext
def vAdds (c : Nat) (s : State) : State := s.issue c (isAlu 0x02) false noErr (inUnits (toGSat fun a b => a + b)) goNext
def vSub (c : Nat) (s : State) : State := s.issue c (isAlu 0x03) false noErr (inUnits (toG fun a b => a + 2 ^ 16 - b)) goNext
def vSubs (c : Nat) (s : State) : State := s.issue c (isAlu 0x04) false noErr (inUnits (toGSat fun a b => a - b)) goNext

/-- AND, OR, XOR. -/
def vAnd (c : Nat) (s : State) : State := s.issue c (isAlu 0x05) false noErr (inUnits (toG fun a b => a &&& b)) goNext
def vOr (c : Nat) (s : State) : State := s.issue c (isAlu 0x06) false noErr (inUnits (toG fun a b => a ||| b)) goNext
def vXor (c : Nat) (s : State) : State := s.issue c (isAlu 0x07) false noErr (inUnits (toG fun a b => a ^^^ b)) goNext

/-- SHL, SHR, SHRL: the count is the low four bits of B. -/
def vShl (c : Nat) (s : State) : State := s.issue c (isAlu 0x08) false noErr (inUnits (toG fun a b => a * 2 ^ (b % 16))) goNext
def vShr (c : Nat) (s : State) : State :=
  s.issue c (isAlu 0x09) false noErr (inUnits (toG fun a b => ofS 16 (toS 16 a / 2 ^ (b % 16)))) goNext
def vShrl (c : Nat) (s : State) : State := s.issue c (isAlu 0x0A) false noErr (inUnits (toG fun a b => a / 2 ^ (b % 16))) goNext

/-- MIN, MAX, signed. -/
def vMin (c : Nat) (s : State) : State := s.issue c (isAlu 0x0B) false noErr (inUnits (toGSat fun a b => min a b)) goNext
def vMax (c : Nat) (s : State) : State := s.issue c (isAlu 0x0C) false noErr (inUnits (toGSat fun a b => max a b)) goNext

/-- ABS, NEG, saturating. -/
def vAbs (c : Nat) (s : State) : State := s.issue c (isAlu 0x0D) false noErr (inUnits (toGSat fun a _ => if a < 0 then -a else a)) goNext
def vNeg (c : Nat) (s : State) : State := s.issue c (isAlu 0x0E) false noErr (inUnits (toGSat fun a _ => -a)) goNext

/-- F0 cannot be written (R321). -/
def predErr (i : Issue) (_ : State) : Option Nat := if bits i.w 17 16 == 0 then some peIllegal else none

/-- A write of a predicate: the cycle after it is kept for the interlock of branches (R332). -/
def predOp (f : Nat → VUnit → Bool) (i : Issue) (s : State) : State :=
  (inUnits (fun w x => x.setF (bits w 17 16) (f w x)) i s).mapVcl i.c fun x => { x with fAt := x.cyc }

/-- A comparison of A with B, both signed or both unsigned. -/
def cmpS (f : Int → Int → Bool) (w : Nat) (x : VUnit) : Bool := f (toS 16 (x.opA w)) (toS 16 (x.opB w))
def cmpU (f : Nat → Nat → Bool) (w : Nat) (x : VUnit) : Bool := f (x.opA w) (x.opB w)

/-- CMP.EQ, CMP.NE, CMP.LT, CMP.LE, CMP.GT, CMP.GE, CMP.LTU, CMP.GEU. -/
def vCmpEq (c : Nat) (s : State) : State := s.issue c (isAlu 0x10) false predErr (predOp (cmpU fun a b => a == b)) goNext
def vCmpNe (c : Nat) (s : State) : State := s.issue c (isAlu 0x11) false predErr (predOp (cmpU fun a b => a != b)) goNext
def vCmpLt (c : Nat) (s : State) : State := s.issue c (isAlu 0x12) false predErr (predOp (cmpS fun a b => decide (a < b))) goNext
def vCmpLe (c : Nat) (s : State) : State := s.issue c (isAlu 0x13) false predErr (predOp (cmpS fun a b => decide (a ≤ b))) goNext
def vCmpGt (c : Nat) (s : State) : State := s.issue c (isAlu 0x14) false predErr (predOp (cmpS fun a b => decide (b < a))) goNext
def vCmpGe (c : Nat) (s : State) : State := s.issue c (isAlu 0x15) false predErr (predOp (cmpS fun a b => decide (b ≤ a))) goNext
def vCmpLtu (c : Nat) (s : State) : State := s.issue c (isAlu 0x16) false predErr (predOp (cmpU fun a b => decide (a < b))) goNext
def vCmpGeu (c : Nat) (s : State) : State := s.issue c (isAlu 0x17) false predErr (predOp (cmpU fun a b => decide (b ≤ a))) goNext

/-- A logic operation on predicates: IMMF must be 0. -/
def logicErr (i : Issue) (s : State) : Option Nat := if bit i.w 11 then some peIllegal else predErr i s

/-- FAND, FOR, FNOT. -/
def vFand (c : Nat) (s : State) : State :=
  s.issue c (isAlu 0x18) false logicErr (predOp fun w x => x.pred (bits w 13 12) && x.pred (bits w 8 7)) goNext
def vFor (c : Nat) (s : State) : State :=
  s.issue c (isAlu 0x19) false logicErr (predOp fun w x => x.pred (bits w 13 12) || x.pred (bits w 8 7)) goNext
def vFnot (c : Nat) (s : State) : State := s.issue c (isAlu 0x1A) false logicErr (predOp fun w x => !x.pred (bits w 13 12)) goNext

/-- ACC takes a function of itself, A and B. -/
def toAcc (f : Int → Int → Nat → Int) (w : Nat) (x : VUnit) : VUnit := x.setAcc (f x.acc (toS 16 (x.opA w)) (x.opB w))

/-- CLRA, LDA, ADDA, SHA. -/
def vClra (c : Nat) (s : State) : State := s.issue c (isAlu 0x20) false noErr (inUnits (toAcc fun _ _ _ => 0)) goNext
def vLda (c : Nat) (s : State) : State := s.issue c (isAlu 0x21) false noErr (inUnits (toAcc fun _ a _ => a * 2 ^ 16)) goNext
def vAdda (c : Nat) (s : State) : State := s.issue c (isAlu 0x22) false noErr (inUnits (toAcc fun v _ b => v + toS 16 b * 2 ^ 16)) goNext
def vSha (c : Nat) (s : State) : State :=
  s.issue c (isAlu 0x23) false noErr (inUnits (toAcc fun v _ b =>
    let n := toS 6 b
    if 0 ≤ n then v * 2 ^ n.toNat else v / 2 ^ (-n).toNat)) goNext

/-- The accumulator rounded to the position of ACCH (R318). -/
def roundAcc (rnd : Nat) (v : Int) : Int :=
  match rnd with
  | 0 => v / 2 ^ 16
  | 1 => (v + 2 ^ 15) / 2 ^ 16
  | _ =>
    let q := v / 2 ^ 16
    let r := v % 2 ^ 16
    if 2 ^ 15 < r || (r == 2 ^ 15 && q % 2 == 1) then q + 1 else q

/-- MOVH (R318): IMMF must be 1 and RND not 3. -/
def vMovh (c : Nat) (s : State) : State :=
  s.issue c (isAlu 0x24) false (fun i _ => if !bit i.w 11 || bits i.w 1 0 == 3 then some peIllegal else none)
    (inUnits fun w x =>
      let q := roundAcc (bits w 1 0) x.acc
      if bit w 2 then x.setSat (bits w 19 16) q else x.setG (bits w 19 16) (ofS 16 q)) goNext

/-- MOVL, MOVE (R318). -/
def vMovl (c : Nat) (s : State) : State := s.issue c (isAlu 0x25) false noErr (inUnits fun w x => x.setG (bits w 19 16) (ofS 16 x.acc)) goNext
def vMove (c : Nat) (s : State) : State :=
  s.issue c (isAlu 0x26) false noErr (inUnits fun w x => x.setG (bits w 19 16) (ofS 16 (x.acc / 2 ^ 32))) goNext

/-- ABSA, NEGA, saturating. -/
def vAbsa (c : Nat) (s : State) : State := s.issue c (isAlu 0x27) false noErr (inUnits (toAcc fun v _ _ => if v < 0 then -v else v)) goNext
def vNega (c : Nat) (s : State) : State := s.issue c (isAlu 0x28) false noErr (inUnits (toAcc fun v _ _ => -v)) goNext

/-- CMPA: the condition in B[2:0], coded as 0x10 to 0x15; IMMF must be 1. -/
def vCmpa (c : Nat) (s : State) : State :=
  s.issue c (isAlu 0x29) false (fun i t => if !bit i.w 11 || decide (6 ≤ bits i.w 2 0) then some peIllegal else predErr i t)
    (predOp fun w x =>
      match bits w 2 0 with
      | 0 => x.acc == 0 | 1 => x.acc != 0 | 2 => decide (x.acc < 0) | 3 => decide (x.acc ≤ 0) | 4 => decide (0 < x.acc)
      | _ => decide (0 ≤ x.acc)) goNext

/-! LDST (R325) -/

/-- The addressing modes 6 and 7 are reserved. -/
def ldstErr (i : Issue) (_ : State) : Option Nat := if 6 ≤ bits i.w 21 19 then some peIllegal else none

/-- The address of a load or store, and the unit after it. -/
def VUnit.ldstAddr (x : VUnit) (w : Nat) : Nat × VUnit := x.address (bits w 21 19) (bits w 23 22) (bits w 3 0) (bits w 11 0)

/-- LD, ST. -/
def vLd (c : Nat) (s : State) : State :=
  s.issue c (fun w => vFmt w == 2 && !bit w 25) false ldstErr
    (inUnits fun w x => let (a, y) := x.ldstAddr w; y.setG (bits w 18 15) (x.load (bit w 24) a)) goNext
def vSt (c : Nat) (s : State) : State :=
  s.issue c (fun w => vFmt w == 2 && bit w 25) false ldstErr
    (inUnits fun w x => let (a, y) := x.ldstAddr w; { y with st := y.st ++ [(bit w 24, a, x.greg (bits w 18 15))] }) goNext

/-! IMM and MOVS (R326) -/

/-- SR as a word (R314). -/
def VUnit.sr (x : VUnit) : Nat := b2n x.sv + b2n x.as_ * 2 + bits x.f 3 1 * 4

/-- A unit's special register as it is read; a write of an address register under way counts (log 19). -/
def VUnit.sregRead (x : VUnit) (r : Nat) : Nat :=
  if r < 12 then
    match (x.pend.filter fun e => e.1 == r).getLast? with
    | some e => e.2.1
    | none => smGet x.ar r
  else
    match r with
    | 12 => x.sr
    | 13 => ofS 16 (x.acc / 2 ^ 32)
    | 14 => ofS 16 (x.acc / 2 ^ 16)
    | _ => ofS 16 x.acc

/-- A unit's special register written: an address register lands two instructions later (R332). -/
def VUnit.sregWrite (x : VUnit) (r v : Nat) : VUnit :=
  let u := ofS 40 x.acc
  if r < 12 then { x with pend := x.pend ++ [(r, v % 4096, 3)] }
  else
    match r with
    | 12 => { x with sv := bit v 0, as_ := bit v 1, f := bits v 4 2 * 2 }
    | 13 => { x with acc := toS 40 (u % 2 ^ 32 + v % 256 * 2 ^ 32) }
    | 14 => { x with acc := toS 40 (u / 2 ^ 32 * 2 ^ 32 + v % 2 ^ 16 * 2 ^ 16 + u % 2 ^ 16) }
    | _ => { x with acc := toS 40 (u / 2 ^ 16 * 2 ^ 16 + v % 2 ^ 16) }

/-- The special register named is a cluster register. -/
def sregCluster (w : Nat) : Bool := decide (16 ≤ bits w 24 20)

/-- A write of LC, LDEPTH or a reserved register, or a guard on a write of a cluster register (R320, R321). -/
def sregErr (i : Issue) (_ : State) : Option Nat :=
  if 19 ≤ bits i.w 24 20 || (sregCluster i.w && bits i.w 31 29 != 0) then some peIllegal else none

/-- A cluster register written: it lands two instructions later (R332). -/
def State.clusterWrite (s : State) (i : Issue) (v : Nat) : State :=
  s.mapVcl i.c fun x => { x with pend := x.pend ++ [(bits i.w 24 20 - 16, v % 16384, 3)] }

/-- A write of SR writes predicates (R332). -/
def State.srWritten (s : State) (i : Issue) : State :=
  if bits i.w 24 20 == 12 then s.mapVcl i.c fun x => { x with fAt := x.cyc } else s

/-- IMM with S = 0. -/
def vMovi (c : Nat) (s : State) : State :=
  s.issue c (fun w => vFmt w == 3 && !bit w 25) false noErr (inUnits fun w x => x.setG (bits w 23 20) (bits w 15 0)) goNext

/-- IMM with S = 1. -/
def vMoviSreg (c : Nat) (s : State) : State :=
  s.issue c (fun w => vFmt w == 3 && bit w 25) false sregErr
    (fun i t => if sregCluster i.w then t.clusterWrite i (bits i.w 15 0)
                else (inUnits (fun w x => x.sregWrite (bits w 24 20) (bits w 15 0)) i t).srWritten i) goNext

/-- The value of G in the lowest-numbered enabled unit; with none enabled the spec gives no value. -/
def State.lowestG (s : State) (i : Issue) (f : VUnit → Nat) : Nat × State :=
  match i.us.head? with
  | some u => (f (s.vu i.c u), s)
  | none => s.fresh

/-- MOVS with DIR 0. -/
def vMovsToSreg (c : Nat) (s : State) : State :=
  s.issue c (fun w => vFmt w == 4 && !bit w 25) false sregErr
    (fun i t =>
      let g := bits i.w 19 16
      if sregCluster i.w then
        let (v, t) := t.lowestG i fun x => x.greg g
        t.clusterWrite i v
      else (inUnits (fun w x => x.sregWrite (bits w 24 20) (x.greg g)) i t).srWritten i) goNext

/-- A cluster register as it is read: PA, PB, PL with a write under way, LC, LDEPTH. -/
def VCluster.sregRead (x : VCluster) (r : Nat) : Nat :=
  if r < 19 then
    match (x.pend.filter fun e => e.1 == r - 16).getLast? with
    | some e => e.2.1
    | none => smGet x.pr (r - 16)
  else if r == 19 then (x.loops.head?.map VLoop.count).getD 0
  else x.loops.length

/-- MOVS with DIR 1. -/
def vMovsFromSreg (c : Nat) (s : State) : State :=
  s.issue c (fun w => vFmt w == 4 && bit w 25) false (fun i _ => if 21 ≤ bits i.w 24 20 then some peIllegal else none)
    (fun i t =>
      let r := bits i.w 24 20
      let v := (t.vcl i.c).sregRead r
      inUnits (fun w x => x.setG (bits w 19 16) (if 16 ≤ r then v else x.sregRead r)) i t) goNext

/-! DO and FLOW (R327, R330) -/

/-- The present instruction is the last of an active body. -/
def State.atEnd (s : State) (i : Issue) : Bool := (s.vcl i.c).loops.any fun l => l.last == i.pc

/-- What is wrong with a repeat of `len` instructions, `count` times, in the order of R321. -/
def repeatErr (i : Issue) (s : State) (len count : Nat) : Option Nat :=
  if count != 0 && decide (4 ≤ (s.vcl i.c).loops.length) then some peDepth
  else if len == 0 || decide (0x1FFF < i.pc + len) then some peRange
  else if s.atEnd i then some peLast
  else none

/-- Nothing happens in the units. -/
def noEff (_ : Issue) (s : State) : State := s

/-- DO. -/
def vDo (c : Nat) (s : State) : State :=
  s.issue c (fun w => vFmt w == 5) true (fun i t => repeatErr i t (bits i.w 9 0) (bits i.w 25 10)) noEff
    fun i _ => .enter (bits i.w 9 0) (bits i.w 25 10)

/-- The count of a DOG: G of the lowest-numbered enabled unit, as the AG stage reads it (R327, R332). -/
def State.dogCount (s : State) (i : Issue) : Nat := (s.lowestG i fun x => x.gag (bits i.w 19 16)).1 % 2 ^ 16

/-- DOG. -/
def vDog (c : Nat) (s : State) : State :=
  s.issue c (isFlow 5) true (fun i t => repeatErr i t (bits i.w 9 0) (t.dogCount i))
    (fun i t => if i.us.isEmpty then t.fresh.2 else t) fun i t => .enter (bits i.w 9 0) (t.dogCount i)

/-- NOP. A word of format 7, and one of format FLOW with a reserved operation, issue here, as program errors. -/
def vNop (c : Nat) (s : State) : State :=
  s.issue c (fun w => isFlow 0 w || vFmt w == 7 || (vFmt w == 6 && decide (7 ≤ bits w 25 22))) true
    (fun i _ => if isFlow 0 i.w then none else some peIllegal) noEff goNext

/-- HALT. -/
def vHalt (c : Nat) (s : State) : State := s.issue c (isFlow 1) true noErr noEff fun _ _ => .halt

/-- A branch issued as the last instruction of a body, or taken out of the innermost body (R321). -/
def branchErr (taken : Bool) (i : Issue) (s : State) : Option Nat :=
  if s.atEnd i then some peLast
  else
    match (s.vcl i.c).loops.head? with
    | none => none
    | some l =>
      let t := bits i.w 12 0
      if taken && (decide (t < l.start) || decide (l.last < t)) then some peExit else none

/-- Cycles a predicate branch waits for the last write of a predicate (R332, R333). -/
def State.interlock (s : State) (i : Issue) : Nat :=
  let x := s.vcl i.c
  if x.fAt == 0 then 0 else 4 - min 4 (x.cyc - x.fAt)

/-- BR. -/
def vBr (c : Nat) (s : State) : State :=
  s.issue c (isFlow 2) true (branchErr true) noEff fun i _ => .jump (bits i.w 12 0)

/-- F[FS] is 1 in a unit. -/
def State.brPred (s : State) (i : Issue) (u : Nat) : Bool := (s.vu i.c u).pred (bits i.w 21 20)

/-- BRANY. -/
def vBrany (c : Nat) (s : State) : State :=
  s.issue c (isFlow 3) true (fun i t => branchErr (i.us.any (t.brPred i)) i t) (fun i t => t.vatCycles i.c (t.interlock i))
    fun i t => if i.us.any (t.brPred i) then .jump (bits i.w 12 0) else .next

/-- BRALL. -/
def vBrall (c : Nat) (s : State) : State :=
  s.issue c (isFlow 4) true (fun i t => branchErr (i.us.all (t.brPred i)) i t) (fun i t => t.vatCycles i.c (t.interlock i))
    fun i t => if i.us.all (t.brPred i) then .jump (bits i.w 12 0) else .next

/-- LEAVE. -/
def vLeave (c : Nat) (s : State) : State :=
  s.issue c (isFlow 6) true (fun i t => if (t.vcl i.c).loops.isEmpty then some peIllegal else none) noEff fun _ _ => .leave

/-! The meanings -/

/-- DUAL_MOVE. -/
def execVDualMove (c : Nat) (s : State) : Host.Outcome State Fault Refusal := .next (vDualMove c s)
/-- MPY. -/
def execVMpy (c : Nat) (s : State) : Host.Outcome State Fault Refusal := .next (vMpy c s)
/-- MAC. -/
def execVMac (c : Nat) (s : State) : Host.Outcome State Fault Refusal := .next (vMac c s)
/-- MSU. -/
def execVMsu (c : Nat) (s : State) : Host.Outcome State Fault Refusal := .next (vMsu c s)
/-- MOV. -/
def execVMov (c : Nat) (s : State) : Host.Outcome State Fault Refusal := .next (vMov c s)
/-- ADD. -/
def execVAdd (c : Nat) (s : State) : Host.Outcome State Fault Refusal := .next (vAdd c s)
/-- ADDS. -/
def execVAdds (c : Nat) (s : State) : Host.Outcome State Fault Refusal := .next (vAdds c s)
/-- SUB. -/
def execVSub (c : Nat) (s : State) : Host.Outcome State Fault Refusal := .next (vSub c s)
/-- SUBS. -/
def execVSubs (c : Nat) (s : State) : Host.Outcome State Fault Refusal := .next (vSubs c s)
/-- AND. -/
def execVAnd (c : Nat) (s : State) : Host.Outcome State Fault Refusal := .next (vAnd c s)
/-- OR. -/
def execVOr (c : Nat) (s : State) : Host.Outcome State Fault Refusal := .next (vOr c s)
/-- XOR. -/
def execVXor (c : Nat) (s : State) : Host.Outcome State Fault Refusal := .next (vXor c s)
/-- SHL. -/
def execVShl (c : Nat) (s : State) : Host.Outcome State Fault Refusal := .next (vShl c s)
/-- SHR. -/
def execVShr (c : Nat) (s : State) : Host.Outcome State Fault Refusal := .next (vShr c s)
/-- SHRL. -/
def execVShrl (c : Nat) (s : State) : Host.Outcome State Fault Refusal := .next (vShrl c s)
/-- MIN. -/
def execVMin (c : Nat) (s : State) : Host.Outcome State Fault Refusal := .next (vMin c s)
/-- MAX. -/
def execVMax (c : Nat) (s : State) : Host.Outcome State Fault Refusal := .next (vMax c s)
/-- ABS. -/
def execVAbs (c : Nat) (s : State) : Host.Outcome State Fault Refusal := .next (vAbs c s)
/-- NEG. -/
def execVNeg (c : Nat) (s : State) : Host.Outcome State Fault Refusal := .next (vNeg c s)
/-- CMP_EQ. -/
def execVCmpEq (c : Nat) (s : State) : Host.Outcome State Fault Refusal := .next (vCmpEq c s)
/-- CMP_NE. -/
def execVCmpNe (c : Nat) (s : State) : Host.Outcome State Fault Refusal := .next (vCmpNe c s)
/-- CMP_LT. -/
def execVCmpLt (c : Nat) (s : State) : Host.Outcome State Fault Refusal := .next (vCmpLt c s)
/-- CMP_LE. -/
def execVCmpLe (c : Nat) (s : State) : Host.Outcome State Fault Refusal := .next (vCmpLe c s)
/-- CMP_GT. -/
def execVCmpGt (c : Nat) (s : State) : Host.Outcome State Fault Refusal := .next (vCmpGt c s)
/-- CMP_GE. -/
def execVCmpGe (c : Nat) (s : State) : Host.Outcome State Fault Refusal := .next (vCmpGe c s)
/-- CMP_LTU. -/
def execVCmpLtu (c : Nat) (s : State) : Host.Outcome State Fault Refusal := .next (vCmpLtu c s)
/-- CMP_GEU. -/
def execVCmpGeu (c : Nat) (s : State) : Host.Outcome State Fault Refusal := .next (vCmpGeu c s)
/-- FAND. -/
def execVFand (c : Nat) (s : State) : Host.Outcome State Fault Refusal := .next (vFand c s)
/-- FOR. -/
def execVFor (c : Nat) (s : State) : Host.Outcome State Fault Refusal := .next (vFor c s)
/-- FNOT. -/
def execVFnot (c : Nat) (s : State) : Host.Outcome State Fault Refusal := .next (vFnot c s)
/-- CLRA. -/
def execVClra (c : Nat) (s : State) : Host.Outcome State Fault Refusal := .next (vClra c s)
/-- LDA. -/
def execVLda (c : Nat) (s : State) : Host.Outcome State Fault Refusal := .next (vLda c s)
/-- ADDA. -/
def execVAdda (c : Nat) (s : State) : Host.Outcome State Fault Refusal := .next (vAdda c s)
/-- SHA. -/
def execVSha (c : Nat) (s : State) : Host.Outcome State Fault Refusal := .next (vSha c s)
/-- MOVH. -/
def execVMovh (c : Nat) (s : State) : Host.Outcome State Fault Refusal := .next (vMovh c s)
/-- MOVL. -/
def execVMovl (c : Nat) (s : State) : Host.Outcome State Fault Refusal := .next (vMovl c s)
/-- MOVE. -/
def execVMove (c : Nat) (s : State) : Host.Outcome State Fault Refusal := .next (vMove c s)
/-- ABSA. -/
def execVAbsa (c : Nat) (s : State) : Host.Outcome State Fault Refusal := .next (vAbsa c s)
/-- NEGA. -/
def execVNega (c : Nat) (s : State) : Host.Outcome State Fault Refusal := .next (vNega c s)
/-- CMPA. -/
def execVCmpa (c : Nat) (s : State) : Host.Outcome State Fault Refusal := .next (vCmpa c s)
/-- LD. -/
def execVLd (c : Nat) (s : State) : Host.Outcome State Fault Refusal := .next (vLd c s)
/-- ST. -/
def execVSt (c : Nat) (s : State) : Host.Outcome State Fault Refusal := .next (vSt c s)
/-- MOVI. -/
def execVMovi (c : Nat) (s : State) : Host.Outcome State Fault Refusal := .next (vMovi c s)
/-- MOVI_SREG. -/
def execVMoviSreg (c : Nat) (s : State) : Host.Outcome State Fault Refusal := .next (vMoviSreg c s)
/-- MOVS_TO_SREG. -/
def execVMovsToSreg (c : Nat) (s : State) : Host.Outcome State Fault Refusal := .next (vMovsToSreg c s)
/-- MOVS_FROM_SREG. -/
def execVMovsFromSreg (c : Nat) (s : State) : Host.Outcome State Fault Refusal := .next (vMovsFromSreg c s)
/-- DO. -/
def execVDo (c : Nat) (s : State) : Host.Outcome State Fault Refusal := .next (vDo c s)
/-- DOG. -/
def execVDog (c : Nat) (s : State) : Host.Outcome State Fault Refusal := .next (vDog c s)
/-- NOP. -/
def execVNop (c : Nat) (s : State) : Host.Outcome State Fault Refusal := .next (vNop c s)
/-- HALT. -/
def execVHalt (c : Nat) (s : State) : Host.Outcome State Fault Refusal := .next (vHalt c s)
/-- BR. -/
def execVBr (c : Nat) (s : State) : Host.Outcome State Fault Refusal := .next (vBr c s)
/-- BRANY. -/
def execVBrany (c : Nat) (s : State) : Host.Outcome State Fault Refusal := .next (vBrany c s)
/-- BRALL. -/
def execVBrall (c : Nat) (s : State) : Host.Outcome State Fault Refusal := .next (vBrall c s)
/-- LEAVE. -/
def execVLeave (c : Nat) (s : State) : Host.Outcome State Fault Refusal := .next (vLeave c s)

end Sys2Proof.Machine
end

