-- ==== Sys2Proof/Machine/Dispatch.lean ====
section
/-! DEFINITION. The dispatch of a command to its meaning: one arm per constructor. -/

namespace Sys2Proof.Machine

/-- The effect of command `i` on everything but the queue. -/
def exec (i : Instr) (s : State) : Host.Outcome State Fault Refusal :=
  match i with
  | .resetAssert cause => Sys2Proof.Machine.execResetAssert cause s
  | .resetRelease straps => Sys2Proof.Machine.execResetRelease straps s
  | .vddAonRise => Sys2Proof.Machine.execVddAonRise s
  | .pgoodRise => Sys2Proof.Machine.execPgoodRise s
  | .pgoodFall => Sys2Proof.Machine.execPgoodFall s
  | .swReset => Sys2Proof.Machine.execSwReset s
  | .pciePerst => Sys2Proof.Machine.execPciePerst s
  | .functionLevelReset fn => Sys2Proof.Machine.execFunctionLevelReset fn s
  | .memorySelftestDone fail => Sys2Proof.Machine.execMemorySelftestDone fail s
  | .imageCheck image => Sys2Proof.Machine.execImageCheck image s
  | .hostGo => Sys2Proof.Machine.execHostGo s
  | .twFifoWrite v => Sys2Proof.Machine.execTwFifoWrite v s
  | .recGo => Sys2Proof.Machine.execRecGo s
  | .recCommitDone status => Sys2Proof.Machine.execRecCommitDone status s
  | .modeTransitionComplete => Sys2Proof.Machine.execModeTransitionComplete s
  | .clockMonitorFault d => Sys2Proof.Machine.execClockMonitorFault d s
  | .ltSkew level region cluster => Sys2Proof.Machine.execLtSkew level region cluster s
  | .slotBoundary => Sys2Proof.Machine.execSlotBoundary s
  | .frameBoundary clip rms => Sys2Proof.Machine.execFrameBoundary clip rms s
  | .multiframeBoundary snr => Sys2Proof.Machine.execMultiframeBoundary snr s
  | .superframeBoundary ages => Sys2Proof.Machine.execSuperframeBoundary ages s
  | .ltHoldoverExpiry => Sys2Proof.Machine.execLtHoldoverExpiry s
  | .fineRangeReq => Sys2Proof.Machine.execFineRangeReq s
  | .applyReq pg boundary => Sys2Proof.Machine.execApplyReq pg boundary s
  | .applyCancel pg => Sys2Proof.Machine.execApplyCancel pg s
  | .applyMarkerPass pg lane => Sys2Proof.Machine.execApplyMarkerPass pg lane s
  | .atLtApply => Sys2Proof.Machine.execAtLtApply s
  | .ltSnapRead m => Sys2Proof.Machine.execLtSnapRead m s
  | .launchEntryArm n word => Sys2Proof.Machine.execLaunchEntryArm n word s
  | .launchEntryDisarm n word => Sys2Proof.Machine.execLaunchEntryDisarm n word s
  | .launchEntryFire => Sys2Proof.Machine.execLaunchEntryFire s
  | .rsExpectWrite v => Sys2Proof.Machine.execRsExpectWrite v s
  | .coefBankWrite vat ch bank w value => Sys2Proof.Machine.execCoefBankWrite vat ch bank w value s
  | .acqGainSettled c => Sys2Proof.Machine.execAcqGainSettled c s
  | .acqCdFound c cd => Sys2Proof.Machine.execAcqCdFound c cd s
  | .acqCdHintMiss c => Sys2Proof.Machine.execAcqCdHintMiss c s
  | .acqFreqAcquired c => Sys2Proof.Machine.execAcqFreqAcquired c s
  | .acqEqConverged sc => Sys2Proof.Machine.execAcqEqConverged sc s
  | .acqStateOverrun c => Sys2Proof.Machine.execAcqStateOverrun c s
  | .blockDecoded sc idx info corr uncorr => Sys2Proof.Machine.execBlockDecoded sc idx info corr uncorr s
  | .fawSearchWord sc pos word at_ => Sys2Proof.Machine.execFawSearchWord sc pos word at_ s
  | .fawInframeWord sc word at_ => Sys2Proof.Machine.execFawInframeWord sc word at_ s
  | .overheadBlock sc mfi oh => Sys2Proof.Machine.execOverheadBlock sc mfi oh s
  | .delineateUnit st => Sys2Proof.Machine.execDelineateUnit st s
  | .fillRecord r => Sys2Proof.Machine.execFillRecord r s
  | .wakeMap r => Sys2Proof.Machine.execWakeMap r s
  | .profileTable r => Sys2Proof.Machine.execProfileTable r s
  | .allocMap r => Sys2Proof.Machine.execAllocMap r s
  | .rdiList r => Sys2Proof.Machine.execRdiList r s
  | .reservedRecord r => Sys2Proof.Machine.execReservedRecord r s
  | .recordHeaderError r => Sys2Proof.Machine.execRecordHeaderError r s
  | .defectConditionMet d set rms top => Sys2Proof.Machine.execDefectConditionMet d set rms top s
  | .sdChange level long => Sys2Proof.Machine.execSdChange level long s
  | .grantEntry r k => Sys2Proof.Machine.execGrantEntry r k s
  | .grantCancel r k => Sys2Proof.Machine.execGrantCancel r k s
  | .lineParams r => Sys2Proof.Machine.execLineParams r s
  | .discoveryOpen r => Sys2Proof.Machine.execDiscoveryOpen r s
  | .assignId r => Sys2Proof.Machine.execAssignId r s
  | .rangeResult r => Sys2Proof.Machine.execRangeResult r s
  | .eqdAdjust r => Sys2Proof.Machine.execEqdAdjust r s
  | .profileSet r => Sys2Proof.Machine.execProfileSet r s
  | .keyEpoch r => Sys2Proof.Machine.execKeyEpoch r s
  | .silence r => Sys2Proof.Machine.execSilence r s
  | .release r => Sys2Proof.Machine.execRelease r s
  | .deregister r => Sys2Proof.Machine.execDeregister r s
  | .grazeAck r => Sys2Proof.Machine.execGrazeAck r s
  | .oamTunnel r => Sys2Proof.Machine.execOamTunnel r s
  | .timeInfo r => Sys2Proof.Machine.execTimeInfo r s
  | .stackMap r => Sys2Proof.Machine.execStackMap r s
  | .asymSet r => Sys2Proof.Machine.execAsymSet r s
  | .groupSet r => Sys2Proof.Machine.execGroupSet r s
  | .unknownMessage r => Sys2Proof.Machine.execUnknownMessage r s
  | .hostLate => Sys2Proof.Machine.execHostLate s
  | .inPop => Sys2Proof.Machine.execInPop s
  | .outPush => Sys2Proof.Machine.execOutPush s
  | .joinEnSet => Sys2Proof.Machine.execJoinEnSet s
  | .joinAbort => Sys2Proof.Machine.execJoinAbort s
  | .joinEntry => Sys2Proof.Machine.execJoinEntry s
  | .discoveryBurstStart => Sys2Proof.Machine.execDiscoveryBurstStart s
  | .discCollide => Sys2Proof.Machine.execDiscCollide s
  | .rangeTimeout => Sys2Proof.Machine.execRangeTimeout s
  | .silenceExpiry => Sys2Proof.Machine.execSilenceExpiry s
  | .grazeAckTimeout => Sys2Proof.Machine.execGrazeAckTimeout s
  | .burstCommit entry => Sys2Proof.Machine.execBurstCommit entry s
  | .burstLaunch => Sys2Proof.Machine.execBurstLaunch s
  | .burstEnd late => Sys2Proof.Machine.execBurstEnd late s
  | .guardTrip at_ mask => Sys2Proof.Machine.execGuardTrip at_ mask s
  | .txPathUngate => Sys2Proof.Machine.execTxPathUngate s
  | .txPathGate => Sys2Proof.Machine.execTxPathGate s
  | .portEnable n more => Sys2Proof.Machine.execPortEnable n more s
  | .linkUpRise n => Sys2Proof.Machine.execLinkUpRise n s
  | .linkUpFall n cond => Sys2Proof.Machine.execLinkUpFall n cond s
  | .clientFrameRx n bytes pcsErr => Sys2Proof.Machine.execClientFrameRx n bytes pcsErr s
  | .pauseTimerExpiry n cls => Sys2Proof.Machine.execPauseTimerExpiry n cls s
  | .pauseRefresh n => Sys2Proof.Machine.execPauseRefresh n s
  | .ingressDrain n => Sys2Proof.Machine.execIngressDrain n s
  | .flowControlDisable n fc => Sys2Proof.Machine.execFlowControlDisable n fc s
  | .egressFrameStart n => Sys2Proof.Machine.execEgressFrameStart n s
  | .classifyFrame src bad => Sys2Proof.Machine.execClassifyFrame src bad s
  | .reorderRelease src buf bufLen more => Sys2Proof.Machine.execReorderRelease src buf bufLen more s
  | .stage => Sys2Proof.Machine.execStage s
  | .stageDone => Sys2Proof.Machine.execStageDone s
  | .abandon => Sys2Proof.Machine.execAbandon s
  | .commitComplete => Sys2Proof.Machine.execCommitComplete s
  | .versionRetire v => Sys2Proof.Machine.execVersionRetire v s
  | .ruleEntryWrite n w value => Sys2Proof.Machine.execRuleEntryWrite n w value s
  | .vmaskWrite n value => Sys2Proof.Machine.execVmaskWrite n value s
  | .uqAllocWrite u value => Sys2Proof.Machine.execUqAllocWrite u value s
  | .admissionResume => Sys2Proof.Machine.execAdmissionResume s
  | .schedulerMoveUnit al next => Sys2Proof.Machine.execSchedulerMoveUnit al next s
  | .sealTimeout al => Sys2Proof.Machine.execSealTimeout al s
  | .gateListCommit n => Sys2Proof.Machine.execGateListCommit n s
  | .gateListCancel n => Sys2Proof.Machine.execGateListCancel n s
  | .gateListStart n => Sys2Proof.Machine.execGateListStart n s
  | .gateEntryAdvance n => Sys2Proof.Machine.execGateEntryAdvance n s
  | .caveInit => Sys2Proof.Machine.execCaveInit s
  | .caveTrainDone fails => Sys2Proof.Machine.execCaveTrainDone fails s
  | .caveReady => Sys2Proof.Machine.execCaveReady s
  | .containerTake al => Sys2Proof.Machine.execContainerTake al s
  | .containerFree purger exp handle owner => Sys2Proof.Machine.execContainerFree purger exp handle owner s
  | .waitLong exp al => Sys2Proof.Machine.execWaitLong exp al s
  | .retainExpiry => Sys2Proof.Machine.execRetainExpiry s
  | .purge => Sys2Proof.Machine.execPurge s
  | .purgeDone => Sys2Proof.Machine.execPurgeDone s
  | .caveWindowRead => Sys2Proof.Machine.execCaveWindowRead s
  | .caveEccError ch off kind => Sys2Proof.Machine.execCaveEccError ch off kind s
  | .scrubStep => Sys2Proof.Machine.execScrubStep s
  | .ddrRetrainSlice ch => Sys2Proof.Machine.execDdrRetrainSlice ch s
  | .slotLoad aes256 slot => Sys2Proof.Machine.execSlotLoad aes256 slot s
  | .slotErase slot => Sys2Proof.Machine.execSlotErase slot s
  | .slotUnwrap slot kek => Sys2Proof.Machine.execSlotUnwrap slot kek s
  | .slotCommandDone => Sys2Proof.Machine.execSlotCommandDone s
  | .lineKeyEntryWrite entry value => Sys2Proof.Machine.execLineKeyEntryWrite entry value s
  | .arm => Sys2Proof.Machine.execArm s
  | .cipherMismatch pipe op => Sys2Proof.Machine.execCipherMismatch pipe op s
  | .cipJobStart n src => Sys2Proof.Machine.execCipJobStart n src s
  | .cipJobEnd n busErr => Sys2Proof.Machine.execCipJobEnd n busErr s
  | .tbModeWrite n value => Sys2Proof.Machine.execTbModeWrite n value s
  | .setGo n => Sys2Proof.Machine.execSetGo n s
  | .adjGo n => Sys2Proof.Machine.execAdjGo n s
  | .capGo => Sys2Proof.Machine.execCapGo s
  | .tbSample n => Sys2Proof.Machine.execTbSample n s
  | .syncToExpiry n => Sys2Proof.Machine.execSyncToExpiry n s
  | .holdMaxExpiry n => Sys2Proof.Machine.execHoldMaxExpiry n s
  | .ptpSyncRx n m => Sys2Proof.Machine.execPtpSyncRx n m s
  | .delayReqTimer n => Sys2Proof.Machine.execDelayReqTimer n s
  | .ptpDelayRespRx n m => Sys2Proof.Machine.execPtpDelayRespRx n m s
  | .ptpPdelayReqRx n m => Sys2Proof.Machine.execPtpPdelayReqRx n m s
  | .pairCompare => Sys2Proof.Machine.execPairCompare s
  | .ppsInEdge => Sys2Proof.Machine.execPpsInEdge s
  | .ppsOutPulse n => Sys2Proof.Machine.execPpsOutPulse n s
  | .todMessage => Sys2Proof.Machine.execTodMessage s
  | .vatGo c => Sys2Proof.Machine.execVatGo c s
  | .vatStop c => Sys2Proof.Machine.execVatStop c s
  | .vatLeaveRequest n c => Sys2Proof.Machine.execVatLeaveRequest n c s
  | .vatClusterStart c => Sys2Proof.Machine.execVatClusterStart c s
  | .vatMaxrun c => Sys2Proof.Machine.execVatMaxrun c s
  | .vatHostWrite c off value dquad => Sys2Proof.Machine.execVatHostWrite c off value dquad s
  | .vatParityError c unit => Sys2Proof.Machine.execVatParityError c unit s
  | .tapCapture c p blocks => Sys2Proof.Machine.execTapCapture c p blocks s
  | .tapDelivery c p => Sys2Proof.Machine.execTapDelivery c p s
  | .vDualMove c => Sys2Proof.Machine.execVDualMove c s
  | .vMpy c => Sys2Proof.Machine.execVMpy c s
  | .vMac c => Sys2Proof.Machine.execVMac c s
  | .vMsu c => Sys2Proof.Machine.execVMsu c s
  | .vMov c => Sys2Proof.Machine.execVMov c s
  | .vAdd c => Sys2Proof.Machine.execVAdd c s
  | .vAdds c => Sys2Proof.Machine.execVAdds c s
  | .vSub c => Sys2Proof.Machine.execVSub c s
  | .vSubs c => Sys2Proof.Machine.execVSubs c s
  | .vAnd c => Sys2Proof.Machine.execVAnd c s
  | .vOr c => Sys2Proof.Machine.execVOr c s
  | .vXor c => Sys2Proof.Machine.execVXor c s
  | .vShl c => Sys2Proof.Machine.execVShl c s
  | .vShr c => Sys2Proof.Machine.execVShr c s
  | .vShrl c => Sys2Proof.Machine.execVShrl c s
  | .vMin c => Sys2Proof.Machine.execVMin c s
  | .vMax c => Sys2Proof.Machine.execVMax c s
  | .vAbs c => Sys2Proof.Machine.execVAbs c s
  | .vNeg c => Sys2Proof.Machine.execVNeg c s
  | .vCmpEq c => Sys2Proof.Machine.execVCmpEq c s
  | .vCmpNe c => Sys2Proof.Machine.execVCmpNe c s
  | .vCmpLt c => Sys2Proof.Machine.execVCmpLt c s
  | .vCmpLe c => Sys2Proof.Machine.execVCmpLe c s
  | .vCmpGt c => Sys2Proof.Machine.execVCmpGt c s
  | .vCmpGe c => Sys2Proof.Machine.execVCmpGe c s
  | .vCmpLtu c => Sys2Proof.Machine.execVCmpLtu c s
  | .vCmpGeu c => Sys2Proof.Machine.execVCmpGeu c s
  | .vFand c => Sys2Proof.Machine.execVFand c s
  | .vFor c => Sys2Proof.Machine.execVFor c s
  | .vFnot c => Sys2Proof.Machine.execVFnot c s
  | .vClra c => Sys2Proof.Machine.execVClra c s
  | .vLda c => Sys2Proof.Machine.execVLda c s
  | .vAdda c => Sys2Proof.Machine.execVAdda c s
  | .vSha c => Sys2Proof.Machine.execVSha c s
  | .vMovh c => Sys2Proof.Machine.execVMovh c s
  | .vMovl c => Sys2Proof.Machine.execVMovl c s
  | .vMove c => Sys2Proof.Machine.execVMove c s
  | .vAbsa c => Sys2Proof.Machine.execVAbsa c s
  | .vNega c => Sys2Proof.Machine.execVNega c s
  | .vCmpa c => Sys2Proof.Machine.execVCmpa c s
  | .vLd c => Sys2Proof.Machine.execVLd c s
  | .vSt c => Sys2Proof.Machine.execVSt c s
  | .vMovi c => Sys2Proof.Machine.execVMovi c s
  | .vMoviSreg c => Sys2Proof.Machine.execVMoviSreg c s
  | .vMovsToSreg c => Sys2Proof.Machine.execVMovsToSreg c s
  | .vMovsFromSreg c => Sys2Proof.Machine.execVMovsFromSreg c s
  | .vDo c => Sys2Proof.Machine.execVDo c s
  | .vDog c => Sys2Proof.Machine.execVDog c s
  | .vNop c => Sys2Proof.Machine.execVNop c s
  | .vHalt c => Sys2Proof.Machine.execVHalt c s
  | .vBr c => Sys2Proof.Machine.execVBr c s
  | .vBrany c => Sys2Proof.Machine.execVBrany c s
  | .vBrall c => Sys2Proof.Machine.execVBrall c s
  | .vLeave c => Sys2Proof.Machine.execVLeave c s
  | .registerWrite m addr be ws hw env more => Sys2Proof.Machine.execRegisterWrite m addr be ws hw env more s
  | .unsupportedRequest m => Sys2Proof.Machine.execUnsupportedRequest m s
  | .counterLoRead m a n => Sys2Proof.Machine.execCounterLoRead m a n s
  | .nowRead m => Sys2Proof.Machine.execNowRead m s
  | .lockFieldWrite m addr value => Sys2Proof.Machine.execLockFieldWrite m addr value s
  | .stickyClr m base lock => Sys2Proof.Machine.execStickyClr m base lock s
  | .intRegisterWrite m base en value hw => Sys2Proof.Machine.execIntRegisterWrite m base en value hw s
  | .msixVectorUnmask fn vector => Sys2Proof.Machine.execMsixVectorUnmask fn vector s
  | .intForce m base value => Sys2Proof.Machine.execIntForce m base value s
  | .twoWireWrite addr data env => Sys2Proof.Machine.execTwoWireWrite addr data env s
  | .twoWireRead addr n => Sys2Proof.Machine.execTwoWireRead addr n s
  | .dmaRun n => Sys2Proof.Machine.execDmaRun n s
  | .dmaStop n => Sys2Proof.Machine.execDmaStop n s
  | .dmaHeadWrite n value => Sys2Proof.Machine.execDmaHeadWrite n value s
  | .descriptorFetch n words => Sys2Proof.Machine.execDescriptorFetch n words s
  | .copy n => Sys2Proof.Machine.execCopy n s
  | .fill n => Sys2Proof.Machine.execFill n s
  | .compare n => Sys2Proof.Machine.execCompare n s
  | .nopDescriptor n => Sys2Proof.Machine.execNopDescriptor n s
  | .dmaBeatAnswer n idx beat ok src dst env => Sys2Proof.Machine.execDmaBeatAnswer n idx beat ok src dst env s
  | .injectionTake n entry frame => Sys2Proof.Machine.execInjectionTake n entry frame s
  | .refMonitor ppm moved => Sys2Proof.Machine.execRefMonitor ppm moved s
  | .txEqWrite l pre post amp => Sys2Proof.Machine.execTxEqWrite l pre post amp s
  | .laneSleepWrite l tx rx => Sys2Proof.Machine.execLaneSleepWrite l tx rx s
  | .retrain l => Sys2Proof.Machine.execRetrain l s
  | .retrainSnrTrigger l snr => Sys2Proof.Machine.execRetrainSnrTrigger l snr s
  | .rtRefusedRetry l => Sys2Proof.Machine.execRtRefusedRetry l s
  | .rxFreezeWrite l v => Sys2Proof.Machine.execRxFreezeWrite l v s
  | .adaptDone l snr ctle => Sys2Proof.Machine.execAdaptDone l snr ctle s
  | .injGo l => Sys2Proof.Machine.execInjGo l s
  | .injRateTick l => Sys2Proof.Machine.execInjRateTick l s
  | .checkerLockChange l lock n err => Sys2Proof.Machine.execCheckerLockChange l lock n err s
  | .ltCellSend at_ => Sys2Proof.Machine.execLtCellSend at_ s
  | .mgmtCellSend => Sys2Proof.Machine.execMgmtCellSend s
  | .ltCellRx c at_ => Sys2Proof.Machine.execLtCellRx c at_ s
  | .ctrlCellRx c => Sys2Proof.Machine.execCtrlCellRx c s
  | .mgmtCellRx c m => Sys2Proof.Machine.execMgmtCellRx c m s
  | .groupCellRx c => Sys2Proof.Machine.execGroupCellRx c s
  | .unitCellRx c => Sys2Proof.Machine.execUnitCellRx c s
  | .idleCellRx c => Sys2Proof.Machine.execIdleCellRx c s
  | .badCellRx c => Sys2Proof.Machine.execBadCellRx c s
  | .fkPortAlign k => Sys2Proof.Machine.execFkPortAlign k s
  | .fkPortDown k => Sys2Proof.Machine.execFkPortDown k s
  | .memberUnreachable m => Sys2Proof.Machine.execMemberUnreachable m s
  | .masterLost => Sys2Proof.Machine.execMasterLost s
  | .mboxGo => Sys2Proof.Machine.execMboxGo s
  | .modeReqGraze => Sys2Proof.Machine.execModeReqGraze s
  | .modeReqStable => Sys2Proof.Machine.execModeReqStable s
  | .modeReqWake => Sys2Proof.Machine.execModeReqWake s
  | .grazeEntry => Sys2Proof.Machine.execGrazeEntry s
  | .grazeWakePowerup => Sys2Proof.Machine.execGrazeWakePowerup s
  | .grazeTimer => Sys2Proof.Machine.execGrazeTimer s
  | .grazeExit => Sys2Proof.Machine.execGrazeExit s
  | .stableEntry => Sys2Proof.Machine.execStableEntry s
  | .leaveWaitExpiry => Sys2Proof.Machine.execLeaveWaitExpiry s
  | .toneDetect => Sys2Proof.Machine.execToneDetect s
  | .stableExit => Sys2Proof.Machine.execStableExit s
  | .caveStateReload => Sys2Proof.Machine.execCaveStateReload s
  | .leaveRequest rs => Sys2Proof.Machine.execLeaveRequest rs s
  | .leaveReturn cls region block => Sys2Proof.Machine.execLeaveReturn cls region block s
  | .dieShareRefresh => Sys2Proof.Machine.execDieShareRefresh s
  | .faultReport rs => Sys2Proof.Machine.execFaultReport rs s
  | .recordClose n => Sys2Proof.Machine.execRecordClose n s
  | .errWidthExpiry => Sys2Proof.Machine.execErrWidthExpiry s
  | .errRel => Sys2Proof.Machine.execErrRel s
  | .safeClr same => Sys2Proof.Machine.execSafeClr same s
  | .collectorSelfFault => Sys2Proof.Machine.execCollectorSelfFault s
  | .fltHeartbeatLoss => Sys2Proof.Machine.execFltHeartbeatLoss s
  | .faultInject => Sys2Proof.Machine.execFaultInject s
  | .injSelf => Sys2Proof.Machine.execInjSelf s
  | .lfClr pg => Sys2Proof.Machine.execLfClr pg s
  | .perfClear pg => Sys2Proof.Machine.execPerfClear pg s
  | .freezeAllWrite v => Sys2Proof.Machine.execFreezeAllWrite v s
  | .perfCounterWrap p k rest => Sys2Proof.Machine.execPerfCounterWrap p k rest s
  | .thermalSample ld hd md0 md1 => Sys2Proof.Machine.execThermalSample ld hd md0 md1 s
  | .thermTripClear => Sys2Proof.Machine.execThermTripClear s
  | .lifeTick => Sys2Proof.Machine.execLifeTick s
  | .cipLeaveRetry n => Sys2Proof.Machine.execCipLeaveRetry n s
  | .vatLeaveRetry c => Sys2Proof.Machine.execVatLeaveRetry c s
  | .amLockGained n => Sys2Proof.Machine.execAmLockGained n s
  | .sigDetChange l on => Sys2Proof.Machine.execSigDetChange l on s
  | .fltHeartbeatReturn => Sys2Proof.Machine.execFltHeartbeatReturn s
  | .vddAonFall => Sys2Proof.Machine.execVddAonFall s
  | .pgoodExitTimeout => Sys2Proof.Machine.execPgoodExitTimeout s
  | .pcieLinkUp speed width vfs => Sys2Proof.Machine.execPcieLinkUp speed width vfs s
  | .pcieLinkDown => Sys2Proof.Machine.execPcieLinkDown s
  | .dimmTempHot ch temp => Sys2Proof.Machine.execDimmTempHot ch temp s

end Sys2Proof.Machine
end

