-- ==== Sys2Proof/Reach.lean ====
section
/-! DEFINITION. Which register fields and which further parts of the terminal a command can change, command by command, for the statement
that it changes no other. -/

set_option Elab.async false

namespace Sys2Proof.Machine

/-- The parts of a state beside the register file, the queue and the fuses. -/
inductive Part where
  | shadow | seals | locked | banked | msixOn | msixPend | mode | time | rx | up | join | held | cave | asm | cip | pk | tim | fk | vat | pwr | flt | boot | dma | pins | orders | out | freeCtr
deriving DecidableEq, Repr

/-- Two states agree in a part. -/
def Part.same (p : Part) (s t : State) : Prop :=
  match p with
  | .shadow => t.shadow = s.shadow
  | .seals => t.seals = s.seals
  | .locked => t.locked = s.locked
  | .banked => t.banked = s.banked
  | .msixOn => t.msixOn = s.msixOn
  | .msixPend => t.msixPend = s.msixPend
  | .mode => t.mode = s.mode
  | .time => t.time = s.time
  | .rx => t.rx = s.rx
  | .up => t.up = s.up
  | .join => t.join = s.join
  | .held => t.held = s.held
  | .cave => t.cave = s.cave
  | .asm => t.asm = s.asm
  | .cip => t.cip = s.cip
  | .pk => t.pk = s.pk
  | .tim => t.tim = s.tim
  | .fk => t.fk = s.fk
  | .vat => t.vat = s.vat
  | .pwr => t.pwr = s.pwr
  | .flt => t.flt = s.flt
  | .boot => t.boot = s.boot
  | .dma => t.dma = s.dma
  | .pins => t.pins = s.pins
  | .orders => t.orders = s.orders
  | .out => t.out = s.out
  | .freeCtr => t.freeCtr = s.freeCtr

/-- Every part. -/
def allParts : List Part :=
  [.shadow, .seals, .locked, .banked, .msixOn, .msixPend, .mode, .time, .rx, .up, .join, .held, .cave, .asm, .cip, .pk, .tim, .fk,
   .vat, .pwr, .flt, .boot, .dma, .pins, .orders, .out, .freeCtr]

/-- What a fault report can change: its record, the local fault status, and what entering the safe state changes (R423, R428). -/
def faultFields : List Fld :=
  [UPB_SIL_FAULT, UPB_TX_LIT, UPB_CAL_COUNT, UPB_STANDING_COUNT, QSH_AL_OCC, QSH_AL_RETURNED_LO, QSH_AL_RETURNED_HI, PWR_LEAVE_HELD,
   PWR_LC_HELD, PWR_LC_WITHDRAWN, C_LF_CAUSE, C_LF_CLASS, C_LF_VALID, C_LF_SOURCE, C_LF_DUP, FLT_SAFE, FLT_RELEASE_SEEN,
   FLT_ERR_LOW, FLT_OPEN_COUNT, FLT_CORR_COUNT, FLT_CONT_COUNT, FLT_FATAL_COUNT, FLT_DUP_TOTAL, FLT_LOST_CORR, FLT_LOST_CONT,
   FLT_LOST_FATAL, FLT_SAFE_LT, FLT_SAFE_CAUSE, FLT_REC_CAUSE, FLT_REC_CLASS, FLT_REC_LEVEL, FLT_REC_INJ, FLT_REC_CLOSE,
   FLT_REC_RSTATE, FLT_REC_REGION, FLT_REC_CLUSTER, FLT_REC_UNIT, FLT_REC_DETAIL, FLT_REC_FIRST_LT, FLT_REC_DUP]

/-- What entering the safe state changes (R428). -/
def safeFields : List Fld :=
  [UPB_SIL_FAULT, UPB_TX_LIT, UPB_CAL_COUNT, UPB_STANDING_COUNT, QSH_AL_OCC, QSH_AL_RETURNED_LO, QSH_AL_RETURNED_HI, FLT_SAFE,
   FLT_SELF_FAULT, FLT_RELEASE_SEEN, FLT_ERR_LOW, FLT_SAFE_LT, FLT_SAFE_CAUSE]

/-- What the loss of LOCKED line time can change: the carriers, the acquisition, and the registration (R39, R133). -/
def timeLossFields : List Fld :=
  [LTM_STATE, LTM_EQD, LTM_EQD_PEND, LTM_DEV_RX_LAT, LTM_DEV_TX_LAT, LRX_ACQ_STATE_A, LRX_ACQ_STATE_B, LRX_SYM_RATE, LRX_EQ_CONV,
   LMS_VALID, FRM_SC_IN_FRAME, FRM_SC_MF_ALIGNED, FRM_SC_CANDIDATES, FRM_SC_OOF_COUNT, FRM_GRP_COMPLETE, FRM_GRP_MF_DROPPED,
   UPB_JOIN_STATE, UPB_REGISTERED, UPB_TID_VALID, UPB_JOIN_EN, UPB_FAIL_CAUSE, UPB_DEREG_CAUSE, UPB_CAL_COUNT, UPB_STANDING_COUNT,
   QSH_AL_OCC, QSH_AL_RETURNED_LO, QSH_AL_RETURNED_HI, PWR_IN_TRANSIT, PWR_BASE, PWR_ALLOT, PWR_BUDGET_LOW]

/-- What the end of a kernel can change: the cluster, its leave, and what its output ports deliver (R303, R305). -/
def vatEndFields : List Fld :=
  [LRX_CD_ACTIVE_A, LRX_CD_ACTIVE_B, LRX_BANK_READY, LMS_OSNR, LMS_CD, LMS_DGD, LMS_SOP_RATE, LMS_FREQ_OFS, LMS_RX_POWER, LMS_VALID,
   LMS_UPDATE_LT, TIM_TB_FREQ, VAT_PORT_DENIED, VAT_C_CSTATE, VAT_C_LAST_CYCLES, VAT_C_LAUNCH_BUSY, PWR_LEAVE_HELD, PWR_LC_HELD,
   LRX_COEF]

/-- What taking a control record can change beside what the record says (R104, R405). -/
def recordFields : List Fld :=
  [FRM_REC_OK, FRM_REC_DISCARD, FRM_RESYNC, PWR_WAKE_LATCH, PWR_MAP_HITS]

/-- What taking a downstream message can change beside what the message says (R122, R123). -/
def messageFields : List Fld :=
  [UPB_MSG_OK, UPB_MSG_DUP, UPB_MSG_BAD, UPB_MSG_LATE, UPB_UMSG_DROP]

/-- What a lane that stops carrying data changes of its port (R177, R392). -/
def laneFields : List Fld :=
  [CLP_PORT_EVENT, CLP_P_LINK_UP, CLP_P_AM_LOCK, CLP_P_LOCAL_FAULT, CLP_P_LINK_DOWN_SEEN, SER_L_ADAPT_STATE, FKL_RING_CLOSED,
   FKL_LT_SRC_PORT, FKL_LT_HOPS, FKL_K_PSTATE, FKL_K_PORT_DOWNS, FKL_K_UNIT_ERR, PWR_LEAVE_HELD, PWR_LC_HELD]

/-- What taking and freeing containers can change (R238 to R244). -/
def caveFields : List Fld :=
  [QSH_AL_SEQ_NEXT, QSH_AL_OPEN_FILL, QSH_AL_SEALED_LO, QSH_AL_SEALED_HI, QSH_AL_SEAL_TIMEOUT, QSH_AL_SEAL_GRANT, CAV_POOL_FREE,
   CAV_RACK_FILL, CAV_WAITING, CAV_KSEL0_COUNT, CAV_KSEL1_COUNT, CAV_EXP_FREE, CAV_EXP_WAITING, CAV_FREE_DOUBLE, CAV_FREE_FOREIGN,
   CAV_FREE_STALE, CAV_RING_BAD, CAV_POISONED, CAV_RETIRED, CAV_AL_HELD_ALL, CAV_AL_RETAINED, CAV_AL_EXP_HELD, CIP_KEY_ABORTS]

end Sys2Proof.Machine

namespace Sys2Proof

open Sys2Proof.Machine

/-- What a command can change: register fields (`none`: of any page), and parts of the state. The registers of interrupts and counters
(`Fld.counting`) are left out of account here. -/
def Instr.reach (c : Instr) : Option (List Fld) × List Part :=
  match c with
  | .resetAssert _ | .pgoodFall | .swReset | .imageCheck _ | .modeTransitionComplete | .registerWrite _ _ _ _ _ _ _
  | .lockFieldWrite _ _ _ | .stickyClr _ _ _ | .intRegisterWrite _ _ _ _ _ | .intForce _ _ _ | .twoWireWrite _ _ _
  | .dmaBeatAnswer _ _ _ _ _ _ _ | .stableEntry | .thermalSample _ _ _ _ | .vddAonFall | .pgoodExitTimeout
    => (none, allParts)
  | .resetRelease _
    => (some [LTM_DEV_RX_LAT, LTM_DEV_TX_LAT, LRX_RS_EXPECT, LRX_SYM_RATE, CAV_CHANNELS, CAV_DIMM_SIZE, TIM_TB_STATE,
    TIM_TB_CAP_STATE, TIM_TB_FREQ, TIM_TB_CAP_S_LO, TIM_TB_CAP_S_HI, TIM_TB_CAP_NS, FKL_ROLE, FKL_MEM_ID, PWR_BASE, PWR_ALLOT,
    PWR_BUDGET_LOW, BOT_STRAPS, BOT_FACTORY_DENIED, BOT_STRAP_RSVD], [.msixPend, .mode, .tim, .pins, .out])
  | .vddAonRise
    => (some [BOT_RESET_CAUSE], [.pins])
  | .pgoodRise
    => (some [], [.pins])
  | .pciePerst | .functionLevelReset _
    => (some [CIPU_GO, CIPU_JSTATUS, CIPU_DONE_LEN, CIPU_JOBS, PCI_NUM_VFS, DMA_CH_RUN, DMA_CH_STOP, DMA_CH_RETRY, DMA_CH_OWNER,
    DMA_CH_HALT_CAUSE, DMA_CH_BUSY, DMA_CH_RING_BASE_LO, DMA_CH_RING_BASE_HI, DMA_CH_RING_SIZE, DMA_CH_TAIL, DMA_CH_HEAD,
    DMA_CH_REMAIN, DMA_CH_OUTSTANDING, DMA_CH_DESCS, DMA_CH_RETRIES, DMA_CH_CH_INT, DMA_CH_CH_INT_EN, DMA_RS_RX_BASE_LO,
    DMA_RS_RX_BASE_HI, DMA_RS_RX_SIZE, DMA_RS_RX_EN, DMA_RS_RX_TAIL, DMA_RS_RX_HEAD, DMA_RS_TX_BASE_LO, DMA_RS_TX_BASE_HI,
    DMA_RS_TX_SIZE, DMA_RS_TX_EN, DMA_RS_TX_TAIL, DMA_RS_TX_HEAD, DMA_RS_INJ_CLASSIFY, DMA_RS_INJ_DIRECT, DMA_RS_RX_FRAMES,
    DMA_RS_TX_FRAMES, DMA_RS_TX_REFUSED, DMA_RS_RS_INT, DMA_RS_RS_INT_EN, PWR_LEAVE_HELD, PWR_LC_HELD, DMA_BUSY_MAP], [.banked,
    .msixOn, .msixPend, .cip, .pwr, .dma, .out, .freeCtr])
  | .memorySelftestDone _
    => (some [BOT_BOOT_STATUS, BOT_ST_FAIL], [.msixPend, .boot, .out])
  | .hostGo
    => (some [BOT_HOST_GO], [])
  | .twFifoWrite _
    => (some [], [.boot])
  | .recGo
    => (some [BOT_REC_GO], [.boot])
  | .recCommitDone _
    => (some [BOT_REC_SLOT, BOT_REC_VALID, BOT_REC_GO, BOT_REC_STATUS, BOT_REC_SEQ, BOT_REC_VIEW], [.msixPend, .boot, .out])
  | .clockMonitorFault _
    => (some faultFields, [.msixPend, .rx, .up, .held, .cave, .pwr, .flt, .pins, .out])
  | .ltSkew _ _ _
    => (some faultFields, [.msixPend, .time, .up, .held, .cave, .pwr, .flt, .pins, .out])
  | .slotBoundary
    => (none, [.seals, .msixPend, .time, .rx, .pk, .fk, .flt, .out])
  | .frameBoundary _ _
    => (none, [.seals, .msixPend, .mode, .time, .rx, .up, .join, .held, .cave, .asm, .cip, .pk, .tim, .fk, .vat, .pwr, .flt, .pins,
    .out, .freeCtr])
  | .multiframeBoundary _
    => (none, [.seals, .msixPend, .mode, .time, .rx, .up, .join, .held, .cave, .cip, .pk, .tim, .fk, .pwr, .pins, .out])
  | .superframeBoundary _ | .atLtApply
    => (none, [.seals, .msixPend, .time, .rx, .pk, .fk, .out])
  | .ltHoldoverExpiry
    => (some (timeLossFields ++ [LTM_HOLD_MF]), [.msixPend, .mode, .time, .rx, .up, .join, .held, .cave, .cip, .pwr, .pins, .out])
  | .fineRangeReq
    => (some [LTM_FINE_RANGE_REQ, LTM_HOLD_MF], [.time])
  | .applyReq _ _
    => (some [C_APPLY_REQ, C_APPLY_BOUNDARY, C_APPLY_PENDING, C_AT_LT_FAR], [.shadow, .seals])
  | .applyCancel _
    => (some [C_APPLY_REQ, C_APPLY_PENDING], [.seals, .pk])
  | .applyMarkerPass _ _ | .commitComplete
    => (none, [.seals, .msixPend, .rx, .pk, .fk, .out])
  | .ltSnapRead _ | .counterLoRead _ _ _ | .nowRead _
    => (some [PCI_UR_COUNT, PCI_M_PRIV_READ, PCI_M_PRIV_WRITE, PCI_M_ACCESSES_LO, PCI_M_ACCESSES_HI, C_PERF_CYC_LO, C_PERF_CYC_HI],
    [.banked, .msixPend, .vat, .out, .freeCtr])
  | .launchEntryArm _ _
    => (some [LTM_LE_PERIOD, LTM_LE_ACTION, LTM_LE_STATUS, LTM_LE_ARMED, LTM_LAUNCH_REJECT], [.msixPend, .out])
  | .launchEntryDisarm _ _
    => (some [LTM_LE_TARGET_LO, LTM_LE_TARGET_HI, LTM_LE_PERIOD, LTM_LE_ACTION, LTM_LE_STATUS, LTM_LE_ARMED, LTM_LAUNCH_REJECT,
    LTM_LAUNCH_TAG, LRX_BANK, LRX_BANK_READY, TIM_CAP_SRC, TIM_TB_CAP_STATE, TIM_TB_CAP_S_LO, TIM_TB_CAP_S_HI, TIM_TB_CAP_NS,
    VAT_SWAP_NOTREADY, VAT_NO_KERNEL], [.msixPend, .time, .up, .tim, .vat, .out])
  | .launchEntryFire
    => (some [LTM_LE_TARGET_LO, LTM_LE_TARGET_HI, LTM_LE_STATUS, LTM_LE_ARMED, LTM_HOLD_MF, LTM_LAUNCH_REJECT, LTM_LAUNCH_TAG,
    LRX_BANK, LRX_BANK_READY, TIM_CAP_SRC, TIM_TB_CAP_STATE, TIM_TB_CAP_S_LO, TIM_TB_CAP_S_HI, TIM_TB_CAP_NS, VAT_SWAP_NOTREADY,
    VAT_NO_KERNEL], [.msixPend, .time, .up, .tim, .vat, .out])
  | .rsExpectWrite _
    => (some (timeLossFields ++ [LRX_RS_EXPECT]), [.msixPend, .mode, .time, .rx, .up, .join, .held, .cave, .cip, .pwr, .pins, .out])
  | .coefBankWrite _ _ _ _ _
    => (some [LRX_COEF], [.msixPend, .out])
  | .acqGainSettled _ | .acqFreqAcquired _
    => (some [LRX_ACQ_STATE_A, LRX_ACQ_STATE_B], [])
  | .acqCdFound _ _
    => (some [LRX_CD_ACTIVE_A, LRX_CD_ACTIVE_B, LRX_ACQ_STATE_A, LRX_ACQ_STATE_B], [])
  | .acqCdHintMiss _
    => (some [], [.rx])
  | .acqEqConverged _
    => (some [LRX_ACQ_STATE_A, LRX_ACQ_STATE_B, LRX_EQ_CONV], [.msixPend, .rx, .out])
  | .acqStateOverrun _
    => (some (timeLossFields ++ [LRX_ACQ_RETRY]), [.msixPend, .mode, .time, .rx, .up, .join, .held, .cave, .cip, .pwr, .pins, .out])
  | .blockDecoded _ _ _ _ _
    => (some [LRX_BLOCKS_LO, LRX_BLOCKS_HI, LRX_CORR_LO, LRX_CORR_HI, LRX_UNCORR], [.msixPend, .rx, .fk, .out])
  | .fawSearchWord _ _ _ _
    => (some [LTM_STATE, LTM_HOLD_MF, LRX_ACQ_STATE_A, LRX_ACQ_STATE_B, LRX_EQ_CONV, FRM_CAND_EVICT, FRM_SC_IN_FRAME,
    FRM_SC_CANDIDATES, FRM_SC_HYP, FRM_SC_MIMIC_DROP, GAT_GATES, GAT_CUR_ENTRY, GAT_OVERRUN, PWR_WAKE_OVERRUN], [.seals, .msixPend,
    .time, .rx, .up, .join, .cave, .asm, .cip, .pk, .tim, .fk, .vat, .pwr, .flt, .out])
  | .fawInframeWord _ _ _
    => (some (timeLossFields ++ [LTM_HOLD_MF, FRM_SC_FAW_ERRORED, GAT_GATES, GAT_CUR_ENTRY, GAT_OVERRUN, PWR_WAKE_OVERRUN]),
    [.seals, .msixPend, .mode, .time, .rx, .up, .join, .held, .cave, .asm, .cip, .pk, .tim, .fk, .vat, .pwr, .flt, .pins, .out])
  | .overheadBlock _ _ _
    => (some (timeLossFields ++ [LRX_CTRL_SC, LRX_IS_CTRL, FRM_SC_OH_UNCORR, FRM_SC_CG, FRM_SC_CG_POS, FRM_SC_CG_SIZE,
    FRM_SC_KEY_EPOCH, FRM_GRP_ACC_TRACE, GAT_GATES, GAT_CUR_ENTRY, GAT_OVERRUN, CIP_KEY_ABORTS, CIP_EPOCH_MISS, PWR_WAKE_OVERRUN]),
    [.seals, .msixPend, .mode, .time, .rx, .up, .join, .held, .cave, .asm, .cip, .pk, .tim, .fk, .vat, .pwr, .flt, .pins, .out])
  | .delineateUnit _
    => (some [FRM_SC_ERR_FRAMES, FRM_SC_DELIN_LOSS, CLP_TAG_MISS, CLP_MEM_MISS, FKL_FWD_DROP, FKL_FWD_UNREACH], [.msixPend, .rx,
    .pk, .fk, .out])
  | .fillRecord _ | .rdiList _
    => (some recordFields, [.msixPend, .rx, .pwr, .out])
  | .wakeMap _
    => (some (recordFields ++ [LTM_STATE, LRX_ACQ_STATE_A, LRX_ACQ_STATE_B, LRX_EQ_CONV, LMS_VALID, FRM_SC_IN_FRAME,
    FRM_SC_MF_ALIGNED, FRM_SC_CANDIDATES, FRM_SC_OOF_COUNT, FRM_GRP_COMPLETE, FRM_GRP_MF_DROPPED]), [.msixPend, .time, .rx, .cip,
    .pwr, .out])
  | .profileTable _ | .allocMap _
    => (some (recordFields ++ [FRM_TBL_LATE]), [.msixPend, .rx, .pwr, .out])
  | .reservedRecord _
    => (some [FRM_REC_DISCARD, FRM_REC_UNKNOWN, FRM_RESYNC, PWR_WAKE_LATCH, PWR_MAP_HITS], [.msixPend, .rx, .pwr, .out])
  | .recordHeaderError _
    => (some [FRM_RESYNC, PWR_WAKE_LATCH, PWR_MAP_HITS], [.rx, .pwr])
  | .defectConditionMet _ _ _ _
    => (some [LTM_HOLD_MF], [.time, .rx])
  | .sdChange _ _
    => (some [PWR_WAKE_LATCH], [.rx, .pwr, .pins])
  | .grantEntry _ _ | .grantCancel _ _
    => (some (recordFields ++ [UPB_CAL_COUNT, UPB_STANDING_COUNT, UPB_GR_ACCEPT, UPB_GR_CRC, UPB_GR_FORMAT, UPB_GR_STATE,
    UPB_GR_LATE, UPB_GR_OVERLAP, UPB_GR_FULL, UPB_GR_CANCEL, UPB_GR_CANCEL_LATE, UPB_GR_CANCEL_MISS]), [.msixPend, .rx, .up, .pwr,
    .out])
  | .lineParams _
    => (some (timeLossFields ++ recordFields ++ messageFields ++ [LRX_CTRL_SC, LRX_RS_EXPECT, LRX_IS_CTRL, UPB_LINE_ID, UPB_TRESP]),
    [.msixPend, .mode, .time, .rx, .up, .join, .held, .cave, .cip, .pwr, .pins, .out])
  | .discoveryOpen _
    => (some (faultFields ++ recordFields ++ messageFields ++ [UPB_DISC_SKIPPED, UPB_GUARD_TRIP, UPB_GUARD_TRIPS]), [.msixPend, .rx,
    .up, .join, .held, .cave, .pwr, .flt, .pins, .out])
  | .assignId _
    => (some (recordFields ++ [UPB_JOIN_STATE, UPB_TID, UPB_TID_VALID, UPB_MSG_OK, UPB_MSG_DUP, UPB_MSG_BAD, UPB_UMSG_DROP]),
    [.msixPend, .time, .rx, .up, .join, .pwr, .out])
  | .rangeResult _ | .deregister _
    => (some (recordFields ++ messageFields ++ [LTM_EQD, LTM_EQD_PEND, UPB_JOIN_STATE, UPB_REGISTERED, UPB_TID_VALID, UPB_JOIN_EN,
    UPB_FAIL_CAUSE, UPB_DEREG_CAUSE, UPB_CAL_COUNT, UPB_STANDING_COUNT, QSH_AL_OCC, QSH_AL_RETURNED_LO, QSH_AL_RETURNED_HI,
    PWR_IN_TRANSIT, PWR_BASE, PWR_ALLOT, PWR_BUDGET_LOW]), [.msixPend, .mode, .time, .rx, .up, .join, .held, .cave, .pwr, .pins,
    .out])
  | .eqdAdjust _
    => (some (recordFields ++ messageFields ++ [LTM_EQD_PEND]), [.msixPend, .time, .rx, .up, .join, .pwr, .out])
  | .profileSet _
    => (some (recordFields ++ messageFields ++ [VAT_NO_KERNEL, VAT_C_CSTATE, VAT_C_PC, VAT_C_KSLOT, VAT_C_LAST_START,
    VAT_C_LAUNCHES, VAT_C_LAUNCH_BUSY, PWR_LEAVE_HELD, PWR_LC_HELD, PWR_LC_GRANTED, PWR_LC_REFUSED]), [.msixPend, .rx, .up, .join,
    .vat, .pwr, .out])
  | .keyEpoch _ | .oamTunnel _ | .asymSet _
    => (some (recordFields ++ messageFields ++ [UPB_MBOX_FULL, UPB_IN_COUNT, UPB_IN_SLOT]), [.msixPend, .rx, .up, .join, .pwr,
    .out])
  | .silence _ | .release _ | .groupSet _
    => (some (recordFields ++ messageFields), [.msixPend, .rx, .up, .join, .pwr, .out])
  | .grazeAck _
    => (some (recordFields ++ messageFields ++ [PWR_GRAZE_FAIL]), [.msixPend, .rx, .up, .join, .pwr, .out])
  | .timeInfo _
    => (some (recordFields ++ messageFields ++ [TIM_EPOCH_TAI_LO, TIM_EPOCH_TAI_HI, TIM_UTC_OFS0, TIM_LEAP, TIM_CLOCK_CLASS0,
    TIM_CLOCK_ACC0, TIM_TI_VALID]), [.msixPend, .rx, .up, .join, .pwr, .out])
  | .stackMap _
    => (some (recordFields ++ messageFields ++ [FKL_MAP_COUNT, FKL_MAP_ENTRY]), [.msixPend, .rx, .up, .join, .pwr, .out])
  | .unknownMessage _
    => (some (recordFields ++ [UPB_MSG_BAD, UPB_MSG_UNKNOWN, UPB_UMSG_DROP]), [.msixPend, .rx, .up, .pwr, .out])
  | .hostLate
    => (some [LTM_HOLD_MF, UPB_HOST_LATE], [.msixPend, .time, .join, .out])
  | .inPop
    => (some [UPB_IN_COUNT, UPB_IN_HEAD], [])
  | .outPush
    => (some [UPB_OUT_FREE, UPB_OUT_TAIL, UPB_OUT_REJECT], [.up, .join])
  | .joinEnSet
    => (some [UPB_JOIN_EN], [])
  | .joinAbort
    => (some [UPB_JOIN_STATE, UPB_REGISTERED, UPB_TID_VALID, UPB_JOIN_EN, UPB_FAIL_CAUSE, PWR_BASE, PWR_ALLOT, PWR_BUDGET_LOW],
    [.msixPend, .mode, .join, .pins, .out])
  | .joinEntry
    => (some [UPB_JOIN_STATE, UPB_LINE_ID, UPB_TRESP, UPB_ATTEMPT, PWR_BASE, PWR_ALLOT, PWR_BUDGET_LOW], [.msixPend, .mode, .join,
    .pins, .out])
  | .discoveryBurstStart
    => (some [LTM_HOLD_MF, UPB_JOIN_STATE, UPB_ATTEMPT, UPB_DISC_SENT, UPB_DISC_SKIPPED, UPB_TX_LIT], [.time, .up, .join, .out])
  | .discCollide
    => (some [LTM_HOLD_MF, UPB_JOIN_STATE, UPB_REGISTERED, UPB_TID_VALID, UPB_JOIN_EN, UPB_FAIL_CAUSE, UPB_DISC_COLLIDE, PWR_BASE,
    PWR_ALLOT, PWR_BUDGET_LOW], [.msixPend, .mode, .time, .join, .pins, .out])
  | .rangeTimeout
    => (some [LTM_HOLD_MF, UPB_JOIN_STATE, UPB_REGISTERED, UPB_TID_VALID, UPB_JOIN_EN, UPB_FAIL_CAUSE, UPB_RANGE_FAIL, PWR_BASE,
    PWR_ALLOT, PWR_BUDGET_LOW], [.msixPend, .mode, .time, .join, .pins, .out])
  | .silenceExpiry
    => (some [LTM_HOLD_MF, UPB_SILENCED, UPB_SILENCE_LEFT], [.time, .join, .pins])
  | .grazeAckTimeout
    => (some [LTM_HOLD_MF, PWR_GRAZE_FAIL], [.msixPend, .time, .pwr, .out])
  | .burstCommit _
    => (some (faultFields ++ caveFields ++ [LTM_HOLD_MF, UPB_OUT_FREE, UPB_GUARD_TRIP, UPB_GR_FORMAT, UPB_GR_HELD, UPB_GUARD_TRIPS,
    QSH_AL_COMMITTED_LO, QSH_AL_COMMITTED_HI, CAV_ACCESS_VIOL]), [.msixPend, .time, .up, .held, .cave, .asm, .pwr, .flt, .pins,
    .orders, .out, .freeCtr])
  | .burstLaunch
    => (some (faultFields ++ [LTM_HOLD_MF, UPB_BURSTS, UPB_GR_HELD, UPB_BALLAST, QSH_AL_SEQ_NEXT, QSH_AL_OPEN_FILL,
    QSH_AL_SEALED_LO, QSH_AL_SEALED_HI, QSH_AL_SEAL_TIMEOUT, QSH_AL_SEAL_GRANT, CAV_POOL_FREE, CAV_RACK_FILL, CAV_WAITING,
    CAV_KSEL0_COUNT, CAV_KSEL1_COUNT, CAV_WIN_GO, CAV_WIN_ERR, CAV_EXP_FREE, CAV_EXP_WAITING, CAV_RING_BAD, CAV_ACCESS_VIOL,
    CAV_POISONED, CAV_AL_HELD_ALL, CAV_AL_EXP_HELD, CIP_KEY_ABORTS]), [.msixPend, .time, .up, .held, .cave, .asm, .pwr, .flt, .pins,
    .orders, .out])
  | .burstEnd _
    => (some (faultFields ++ caveFields ++ [LTM_HOLD_MF, UPB_CONT_SENT_LO, UPB_CONT_SENT_HI, CAV_WIN_GO, CAV_WIN_ERR,
    CAV_ACCESS_VIOL, CAV_POISON_SENT, CAV_READ_LATE]), [.msixPend, .time, .up, .held, .cave, .asm, .pwr, .flt, .pins, .orders, .out,
    .freeCtr])
  | .guardTrip _ _
    => (some (faultFields ++ [LTM_HOLD_MF, UPB_GUARD_TRIP, UPB_GUARD_TRIPS]), [.msixPend, .time, .up, .held, .cave, .pwr, .flt,
    .pins, .out])
  | .txPathUngate
    => (some [LTM_HOLD_MF, UPB_TX_GATED], [.time])
  | .txPathGate
    => (some [UPB_TX_GATED], [])
  | .portEnable _ _
    => (some (laneFields ++ [CLP_P_EN, CLP_P_LANE_CONFLICT, CLP_P_RX_LAT, SER_L_TX_AWAKE, SER_L_RX_AWAKE, PWR_BASE, PWR_ALLOT,
    PWR_BUDGET_LOW]), [.msixPend, .pk, .fk, .pwr, .out, .freeCtr])
  | .linkUpRise _
    => (some [LTM_HOLD_MF, CLP_PORT_EVENT, CLP_P_LINK_UP, CLP_P_HI_BER, CLP_P_REMOTE_FAULT, CLP_P_LINK_DOWN_SEEN], [.msixPend,
    .time, .pk, .out])
  | .linkUpFall _ _
    => (some [CLP_PORT_EVENT, CLP_P_LINK_UP, CLP_P_AM_LOCK, CLP_P_HI_BER, CLP_P_LOCAL_FAULT, CLP_P_REMOTE_FAULT,
    CLP_P_LINK_DOWN_SEEN], [.msixPend, .pk, .out])
  | .clientFrameRx _ _ _
    => (some [LTM_HOLD_MF, CLP_PAUSE_TX, CLP_PORT_EVENT, CLP_P_TX_PAUSED, CLP_P_XOFF_SENT, CLP_P_PFC_PAUSED, CLP_P_EVENTS_0_0,
    CLP_P_EVENTS_1_0, PWR_WAKE_LATCH], [.msixPend, .time, .pk, .pwr, .out])
  | .pauseTimerExpiry _ _
    => (some [LTM_HOLD_MF, CLP_P_TX_PAUSED, CLP_P_PFC_PAUSED], [.time, .pk])
  | .pauseRefresh _
    => (some [LTM_HOLD_MF, CLP_PAUSE_TX, CLP_P_XOFF_SENT], [.time, .pk, .out])
  | .ingressDrain _
    => (some [CLP_PAUSE_TX, CLP_P_XOFF_SENT], [.pk, .out])
  | .flowControlDisable _ _
    => (some [CLP_PAUSE_TX, CLP_P_FC_MODE, CLP_P_PAUSE_TX_EN, CLP_P_XOFF_SENT], [.pk, .out])
  | .egressFrameStart _
    => (some [LTM_HOLD_MF, CLP_PORT_EVENT, CLP_P_EVENTS_0_0, CLP_P_EVENTS_1_0, QSH_UBUF_FILL, QSH_DBUF_FILL, GAT_TOO_BIG,
    TIM_TC_CORR, TIM_TC_INVALID, TIM_TC_SAT, QSH_EQ_QFILL], [.msixPend, .time, .pk, .tim, .out])
  | .classifyFrame _ _
    => (some (faultFields ++ [CLSE_ERR, CLSE_HITS_LO, CLSE_HITS_HI, CLSE_BYTES_LO, CLSE_BYTES_HI, CLS_INFLIGHT, CLS_MISS,
    CLS_PARSE_FAIL, CLS_INJ_MISS, CLS_ENTRY_ERR, CLS_SRC_FRAMES_LO, CLS_SRC_FRAMES_HI, CLS_SRC_BYTES_LO, CLS_SRC_BYTES_HI,
    CLS_SRC_SRC_MISS, CLS_SRC_SRC_PFAIL, CLS_SRC_REORDER_MAX, CLS_SRC_LAST_PF]), [.seals, .msixPend, .up, .held, .cave, .pk, .pwr,
    .flt, .pins, .orders, .out])
  | .reorderRelease _ _ _ _
    => (some [CLP_NO_TID, CLS_INFLIGHT, CLS_SP_SENT, CLS_SP_DROP, CLS_SP_RING_FULL, QSH_UBUF_FILL, QSH_DBUF_FILL, QSH_UBUF_STALL,
    QSH_DBUF_DROP, QSH_POL_CONF_FRAMES_LO, QSH_POL_CONF_FRAMES_HI, QSH_POL_CONF_BYTES_LO, QSH_POL_CONF_BYTES_HI,
    QSH_POL_EXC_FRAMES_LO, QSH_POL_EXC_FRAMES_HI, QSH_POL_EXC_BYTES_LO, QSH_POL_EXC_BYTES_HI, QSH_UQ_QFILL, QSH_UQ_ENQ_LO,
    QSH_UQ_ENQ_HI, QSH_UQ_DROPS, DMA_RS_RX_HEAD, DMA_RS_RX_FRAMES, DMA_RS_RS_INT, QSH_EQ_QFILL, QSH_EQ_ENQ_LO, QSH_EQ_ENQ_HI,
    QSH_EQ_DROPS], [.seals, .msixPend, .pk, .orders, .out])
  | .stage
    => (some [CLSE_VMASK, CLS_STAGE_VER, CLS_STAGE_VALID, CLS_STAGE_BUSY, CLS_VSTATE, CLS_WR_REFUSED], [.msixPend, .out])
  | .stageDone
    => (some [CLS_STAGE_BUSY], [.msixPend, .out])
  | .abandon
    => (some [CLS_STAGE_VALID, CLS_VSTATE, CLS_WR_REFUSED], [.msixPend, .out])
  | .versionRetire _
    => (some [CLS_VSTATE], [.msixPend, .out])
  | .ruleEntryWrite _ _ _
    => (some [CLSE_KEY, CLSE_MASK, CLSE_DISP, CLSE_TS, CLSE_POL_EN, CLSE_POL, CLSE_TC, CLSE_FLOW, CLSE_UQ, CLSE_EPORT, CLSE_SP_FUNC,
    CLSE_PTPC, CLSE_PTP_TB, CLSE_VMASK, CLSE_ERR, CLS_VSTATE, CLS_WR_REFUSED], [.msixPend, .pk, .out])
  | .vmaskWrite _ _
    => (some [CLSE_VMASK, CLS_VSTATE, CLS_WR_REFUSED], [.msixPend, .out])
  | .uqAllocWrite _ _
    => (some [QSH_MAP_REFUSED, QSH_UQ_ALLOC, QSH_UQ_MAP_BUSY], [.msixPend, .out])
  | .admissionResume
    => (some [CLS_INFLIGHT, QSH_UBUF_FILL, QSH_DBUF_FILL, QSH_UBUF_STALL, QSH_UQ_QFILL, QSH_UQ_ENQ_LO, QSH_UQ_ENQ_HI, QSH_UQ_DROPS],
    [.msixPend, .pk, .out])
  | .schedulerMoveUnit _ _
    => (some (faultFields ++ caveFields ++ [QSH_UBUF_FILL, QSH_DBUF_FILL, QSH_UQ_QFILL]), [.msixPend, .up, .held, .cave, .asm, .pk,
    .pwr, .flt, .pins, .orders, .out, .freeCtr])
  | .sealTimeout _
    => (some (faultFields ++ caveFields ++ [LTM_HOLD_MF]), [.msixPend, .time, .up, .held, .cave, .asm, .pwr, .flt, .pins, .orders,
    .out, .freeCtr])
  | .gateListCommit _
    => (some [GAT_PEND, GAT_ADVANCED, GAT_REFUSED, GAT_ACT_NS, GAT_ACT_S_LO, GAT_ACT_S_HI, GAT_COMMITS, GAT_REFUSALS], [.msixPend,
    .out])
  | .gateListCancel _
    => (some [GAT_PEND, GAT_RUNNING, GAT_A_TBASE, GAT_A_COUNT, GAT_A_CYCLE, GAT_GATES, GAT_CUR_ENTRY, GAT_OVERRUN, GAT_RUNNING_MAP,
    GAT_AB_GATES, GAT_AB_INTERVAL], [.msixPend, .pk, .out])
  | .gateListStart _
    => (some [LTM_HOLD_MF, GAT_PEND, GAT_RUNNING, GAT_A_TBASE, GAT_A_COUNT, GAT_A_CYCLE, GAT_GATES, GAT_CUR_ENTRY, GAT_OVERRUN,
    GAT_RUNNING_MAP, GAT_AB_GATES, GAT_AB_INTERVAL], [.msixPend, .time, .pk, .out])
  | .gateEntryAdvance _
    => (some [LTM_HOLD_MF, GAT_GATES, GAT_CUR_ENTRY], [.time])
  | .caveInit
    => (some [CAV_STATE, CAV_POOL_READY, CAV_INIT_GO, DDR_POPULATED, DDR_TRAIN_STATE, DDR_TRAIN_CAUSE], [])
  | .caveTrainDone _
    => (some (faultFields ++ [QSH_AL_SEQ_NEXT, QSH_AL_OPEN_FILL, QSH_AL_SEALED_LO, QSH_AL_SEALED_HI, QSH_AL_COMMITTED_LO,
    QSH_AL_COMMITTED_HI, QSH_AL_SEAL_TIMEOUT, QSH_AL_SEAL_GRANT, CAV_STATE, CAV_FAIL_CH, CAV_INIT_GO, CAV_C_TOT, CAV_POOL_BASE,
    CAV_POOL_FREE, CAV_RACK_FILL, CAV_WAITING, CAV_KSEL0_COUNT, CAV_KSEL1_COUNT, CAV_EXP_FREE, CAV_EXP_WAITING, CAV_RING_BAD,
    CAV_POISONED, CAV_RETIRED, CAV_AL_HELD_ALL, CAV_AL_RETAINED, CAV_AL_EXP_HELD, DDR_POPULATED, DDR_TRAIN_STATE, DDR_TRAIN_CAUSE,
    CIP_KEY_ABORTS]), [.msixPend, .up, .held, .cave, .asm, .pwr, .flt, .pins, .orders, .out, .freeCtr])
  | .caveReady
    => (some (faultFields ++ [QSH_AL_SEQ_NEXT, QSH_AL_OPEN_FILL, QSH_AL_SEALED_LO, QSH_AL_SEALED_HI, QSH_AL_SEAL_TIMEOUT,
    QSH_AL_SEAL_GRANT, CAV_STATE, CAV_POOL_READY, CAV_INIT_GO, CAV_POOL_FREE, CAV_RACK_FILL, CAV_WAITING, CAV_KSEL0_COUNT,
    CAV_KSEL1_COUNT, CAV_EXP_FREE, CAV_EXP_WAITING, CAV_RING_BAD, CAV_POISONED, CAV_AL_HELD_ALL, CAV_AL_EXP_HELD, CIP_KEY_ABORTS]),
    [.msixPend, .up, .held, .cave, .asm, .pwr, .flt, .pins, .orders, .out])
  | .containerTake _
    => (some (faultFields ++ caveFields), [.msixPend, .up, .held, .cave, .asm, .pwr, .flt, .pins, .orders, .out, .freeCtr])
  | .containerFree _ _ _ _
    => (some (faultFields ++ [QSH_AL_SEQ_NEXT, QSH_AL_OPEN_FILL, QSH_AL_SEALED_LO, QSH_AL_SEALED_HI, QSH_AL_COMMITTED_LO,
    QSH_AL_COMMITTED_HI, QSH_AL_SEAL_TIMEOUT, QSH_AL_SEAL_GRANT, CAV_POOL_FREE, CAV_RACK_FILL, CAV_WAITING, CAV_KSEL0_COUNT,
    CAV_KSEL1_COUNT, CAV_EXP_FREE, CAV_EXP_WAITING, CAV_FREE_DOUBLE, CAV_FREE_FOREIGN, CAV_FREE_STALE, CAV_POISONED, CAV_RETIRED,
    CAV_AL_HELD_ALL, CAV_AL_RETAINED, CAV_AL_EXP_HELD, CAV_AL_PURGED_LO, CAV_AL_PURGED_HI, CIP_KEY_ABORTS]), [.msixPend, .up, .held,
    .cave, .asm, .pwr, .flt, .pins, .orders, .out])
  | .waitLong _ _
    => (some [LTM_HOLD_MF, CAV_WAITING, CAV_EXP_WAITING, CAV_WAIT_LONG], [.msixPend, .time, .cave, .out])
  | .retainExpiry
    => (some (faultFields ++ [LTM_HOLD_MF, QSH_AL_SEQ_NEXT, QSH_AL_OPEN_FILL, QSH_AL_SEALED_LO, QSH_AL_SEALED_HI,
    QSH_AL_SEAL_TIMEOUT, QSH_AL_SEAL_GRANT, CAV_POOL_FREE, CAV_RACK_FILL, CAV_WAITING, CAV_KSEL0_COUNT, CAV_KSEL1_COUNT,
    CAV_EXP_FREE, CAV_EXP_WAITING, CAV_FREE_DOUBLE, CAV_FREE_FOREIGN, CAV_FREE_STALE, CAV_POISONED, CAV_RETIRED, CAV_AL_HELD_ALL,
    CAV_AL_RETAINED, CAV_AL_EXP_HELD, CIP_KEY_ABORTS]), [.msixPend, .time, .up, .held, .cave, .asm, .pwr, .flt, .pins, .orders,
    .out])
  | .purge
    => (some [CAV_CMD, CAV_CMD_GO], [.cave])
  | .purgeDone
    => (some (faultFields ++ [QSH_AL_SEQ_NEXT, QSH_AL_OPEN_FILL, QSH_AL_SEALED_LO, QSH_AL_SEALED_HI, QSH_AL_COMMITTED_LO,
    QSH_AL_COMMITTED_HI, QSH_AL_SEAL_TIMEOUT, QSH_AL_SEAL_GRANT, CAV_POOL_FREE, CAV_RACK_FILL, CAV_WAITING, CAV_KSEL0_COUNT,
    CAV_KSEL1_COUNT, CAV_CMD_GO, CAV_EXP_FREE, CAV_EXP_WAITING, CAV_FREE_DOUBLE, CAV_FREE_FOREIGN, CAV_FREE_STALE, CAV_POISONED,
    CAV_RETIRED, CAV_AL_HELD_ALL, CAV_AL_EXP_HELD, CAV_AL_PURGED_LO, CAV_AL_PURGED_HI, CIP_KEY_ABORTS]), [.msixPend, .up, .held,
    .cave, .asm, .pwr, .flt, .pins, .orders, .out])
  | .caveWindowRead
    => (some (faultFields ++ [CAV_WIN_GO, CAV_WIN_ERR, CAV_ACCESS_VIOL, CIP_KEY_ABORTS]), [.msixPend, .up, .held, .cave, .pwr, .flt,
    .pins, .out])
  | .caveEccError _ _ _
    => (some (faultFields ++ [CAV_STATE, CAV_POOL_READY, CAV_POISONED, DDR_CE, DDR_UE, DDR_LAST_ERR]), [.msixPend, .up, .held,
    .cave, .pwr, .flt, .pins, .out])
  | .scrubStep
    => (some [LTM_HOLD_MF, CAV_SCRUB_POS, CAV_SCRUB_PASSES, CAV_SCRUB_REFUSED, PWR_LEAVE_HELD, PWR_LC_HELD, PWR_LC_GRANTED,
    PWR_LC_REFUSED], [.msixPend, .time, .cave, .pwr, .out])
  | .ddrRetrainSlice _
    => (some [DDR_RETRAINS, PWR_LEAVE_HELD, PWR_LC_HELD, PWR_LC_GRANTED, PWR_LC_REFUSED], [.pwr])
  | .slotLoad _ _
    => (some [CIP_OP, CIP_SIZE, CIP_SLOT, CIP_GO, CIP_CMD_STATUS], [.cip])
  | .slotErase _
    => (some [CIP_OP, CIP_SLOT, CIP_GO, CIP_CMD_STATUS, CIP_KEY_ABORTS, CIP_SLOT_STAT, CIPU_GO, CIPU_JSTATUS, CIPU_DONE_LEN,
    CIPU_JOBS, PWR_LEAVE_HELD, PWR_LC_HELD], [.msixPend, .up, .cip, .pwr, .out, .freeCtr])
  | .slotUnwrap _ _
    => (some [CIP_OP, CIP_SLOT, CIP_KEK, CIP_GO, CIP_CMD_STATUS], [.cip, .freeCtr])
  | .slotCommandDone
    => (some [CIP_GO, CIP_CMD_STATUS, CIP_KEY_STAGE, CIP_WRAP_STAGE, CIP_SLOT_STAT], [.msixPend, .up, .cip, .out])
  | .lineKeyEntryWrite _ _
    => (some [CIP_DN0, CIP_DN1, CIP_UP0, CIP_UP1, CIP_UP_CUR], [.msixPend, .out])
  | .arm
    => (some [CIP_ARM, CIP_ARM_LATE], [.cip])
  | .cipherMismatch _ _
    => (some (faultFields ++ [CAV_WIN_ERR, CAV_POISONED, CIP_MISMATCH_SF, CIP_MISMATCHES, CIPU_GO, CIPU_JSTATUS, CIPU_DONE_LEN,
    CIPU_JOBS]), [.msixPend, .up, .held, .cave, .cip, .pwr, .flt, .pins, .out, .freeCtr])
  | .cipJobStart _ _
    => (some [CIP_KEY_ABORTS, CIPU_GO, CIPU_JSTATUS, CIPU_WR_BUSY, CIPU_DONE_LEN, CIPU_JOBS, PWR_LEAVE_HELD, PWR_LC_HELD,
    PWR_LC_GRANTED, PWR_LC_REFUSED], [.msixPend, .cip, .pwr, .out])
  | .cipJobEnd _ _
    => (some [CIPU_GO, CIPU_JSTATUS, CIPU_DONE_LEN, CIPU_JOBS, PWR_LEAVE_HELD, PWR_LC_HELD], [.msixPend, .cip, .pwr, .out])
  | .tbModeWrite _ _
    => (some [TIM_TB_MODE, TIM_TB_STATE], [.msixPend, .tim, .out])
  | .setGo _
    => (some [GAT_GATES, GAT_CUR_ENTRY, GAT_OVERRUN, TIM_TB_WR_IGN], [.msixPend, .pk, .tim, .out])
  | .adjGo _
    => (some [TIM_TB_WR_IGN], [.tim])
  | .capGo
    => (some [TIM_CAP_SRC, TIM_TB_CAP_STATE, TIM_TB_CAP_S_LO, TIM_TB_CAP_S_HI, TIM_TB_CAP_NS], [.msixPend, .tim, .out])
  | .tbSample _
    => (some [GAT_GATES, GAT_CUR_ENTRY, GAT_OVERRUN, TIM_TB_STATE, TIM_TB_STEPPED, TIM_TB_FREQ, TIM_TB_OFFSET, TIM_TB_TB_STEPS],
    [.msixPend, .pk, .tim, .out])
  | .syncToExpiry _
    => (some [LTM_HOLD_MF, TIM_TB_STATE, TIM_TB_FREQ, TIM_TB_F_TMO], [.msixPend, .time, .tim, .out])
  | .holdMaxExpiry _
    => (some [LTM_HOLD_MF, TIM_TB_STATE], [.msixPend, .time, .tim, .out])
  | .ptpSyncRx _ _
    => (some [TIM_TB_F_SAMPLES], [.tim])
  | .delayReqTimer _
    => (some [LTM_HOLD_MF, QSH_UBUF_FILL, QSH_DBUF_FILL, QSH_DBUF_DROP, QSH_EQ_QFILL, QSH_EQ_ENQ_LO, QSH_EQ_ENQ_HI, QSH_EQ_DROPS],
    [.msixPend, .time, .pk, .tim, .out])
  | .ptpDelayRespRx _ _
    => (some [TIM_TB_MPD], [.tim])
  | .ptpPdelayReqRx _ _
    => (some [QSH_UBUF_FILL, QSH_DBUF_FILL, QSH_DBUF_DROP, QSH_EQ_QFILL, QSH_EQ_ENQ_LO, QSH_EQ_ENQ_HI, QSH_EQ_DROPS], [.msixPend,
    .pk, .out])
  | .pairCompare
    => (some [TIM_PAIR_DIFF], [.tim])
  | .ppsInEdge
    => (some [TIM_PPSIN_IGN, TIM_TB_PPSIN_S_LO, TIM_TB_PPSIN_S_HI, TIM_TB_PPSIN_NS], [.msixPend, .tim, .out])
  | .ppsOutPulse _ | .todMessage
    => (some [], [.tim, .out])
  | .vatGo _
    => (some [VAT_NO_KERNEL, VAT_C_CSTATE, VAT_C_PC, VAT_C_KSLOT, VAT_C_LAST_START, VAT_C_LAUNCHES, VAT_C_LAUNCH_BUSY,
    PWR_LEAVE_HELD, PWR_LC_HELD, PWR_LC_GRANTED, PWR_LC_REFUSED], [.msixPend, .vat, .pwr, .out])
  | .vatStop _
    => (some vatEndFields, [.msixPend, .up, .tim, .vat, .pwr, .out])
  | .vatLeaveRequest _ _
    => (some [LTM_HOLD_MF, PWR_LEAVE_HELD, PWR_LC_HELD, PWR_LC_GRANTED, PWR_LC_REFUSED], [.time, .pwr])
  | .vatClusterStart _
    => (some [VAT_LEAVE_REFUSED, VAT_C_CSTATE, VAT_C_PC, VAT_C_KSLOT, VAT_C_LAST_START, VAT_C_LAUNCHES, VAT_C_LAUNCH_BUSY,
    PWR_LEAVE_HELD, PWR_LC_HELD], [.msixPend, .vat, .pwr, .out])
  | .vatMaxrun _
    => (some [LRX_CD_ACTIVE_A, LRX_CD_ACTIVE_B, LRX_BANK_READY, LMS_OSNR, LMS_CD, LMS_DGD, LMS_SOP_RATE, LMS_FREQ_OFS, LMS_RX_POWER,
    LMS_VALID, LMS_UPDATE_LT, TIM_TB_FREQ, VAT_PORT_DENIED, VAT_OVERRUNS, VAT_C_CSTATE, VAT_C_LAST_CYCLES, PWR_LEAVE_HELD,
    PWR_LC_HELD, LRX_COEF], [.msixPend, .up, .tim, .vat, .pwr, .out])
  | .vatHostWrite _ _ _ _
    => (some [VAT_HOST_WR_BUSY], [.vat])
  | .vatParityError _ _
    => (some (faultFields ++ [LRX_CD_ACTIVE_A, LRX_CD_ACTIVE_B, LRX_BANK_READY, LMS_OSNR, LMS_CD, LMS_DGD, LMS_SOP_RATE,
    LMS_FREQ_OFS, LMS_RX_POWER, LMS_VALID, LMS_UPDATE_LT, TIM_TB_FREQ, VAT_PORT_DENIED, VAT_C_CSTATE, VAT_C_UNIT_EN,
    VAT_C_LAST_CYCLES, LRX_COEF]), [.msixPend, .up, .held, .cave, .tim, .vat, .pwr, .flt, .pins, .out])
  | .tapCapture _ _ _
    => (some [LTM_HOLD_MF], [.time, .vat])
  | .tapDelivery _ _
    => (some [], [.msixPend, .vat, .out])
  | .vDualMove _ | .vMpy _ | .vMac _ | .vMsu _ | .vMov _ | .vAdd _ | .vAdds _ | .vSub _ | .vSubs _ | .vAnd _ | .vOr _ | .vXor _
  | .vShl _ | .vShr _ | .vShrl _ | .vMin _ | .vMax _ | .vAbs _ | .vNeg _ | .vCmpEq _ | .vCmpNe _ | .vCmpLt _ | .vCmpLe _
  | .vCmpGt _ | .vCmpGe _ | .vCmpLtu _ | .vCmpGeu _ | .vFand _ | .vFor _ | .vFnot _ | .vClra _ | .vLda _ | .vAdda _ | .vSha _
  | .vMovh _ | .vMovl _ | .vMove _ | .vAbsa _ | .vNega _ | .vCmpa _ | .vLd _ | .vSt _ | .vMovi _ | .vMoviSreg _
  | .vMovsFromSreg _ | .vDo _ | .vNop _ | .vHalt _ | .vBr _ | .vBrany _ | .vBrall _ | .vLeave _
    => (some (faultFields ++ [LRX_CD_ACTIVE_A, LRX_CD_ACTIVE_B, LRX_BANK_READY, LMS_OSNR, LMS_CD, LMS_DGD, LMS_SOP_RATE,
    LMS_FREQ_OFS, LMS_RX_POWER, LMS_VALID, LMS_UPDATE_LT, TIM_TB_FREQ, VAT_PORT_DENIED, VAT_C_CSTATE, VAT_C_PC, VAT_C_LAST_CYCLES,
    LRX_COEF]), [.msixPend, .up, .held, .cave, .tim, .vat, .pwr, .flt, .pins, .out])
  | .vMovsToSreg _ | .vDog _
    => (some (faultFields ++ [LRX_CD_ACTIVE_A, LRX_CD_ACTIVE_B, LRX_BANK_READY, LMS_OSNR, LMS_CD, LMS_DGD, LMS_SOP_RATE,
    LMS_FREQ_OFS, LMS_RX_POWER, LMS_VALID, LMS_UPDATE_LT, TIM_TB_FREQ, VAT_PORT_DENIED, VAT_C_CSTATE, VAT_C_PC, VAT_C_LAST_CYCLES,
    LRX_COEF]), [.msixPend, .up, .held, .cave, .tim, .vat, .pwr, .flt, .pins, .out, .freeCtr])
  | .unsupportedRequest _
    => (some [PCI_UR_COUNT], [.msixPend, .out])
  | .msixVectorUnmask _ _
    => (some [], [.msixOn, .msixPend, .out])
  | .twoWireRead _ _
    => (some [PCI_UR_COUNT, PCI_M_PRIV_READ, PCI_M_PRIV_WRITE, PCI_M_ACCESSES_LO, PCI_M_ACCESSES_HI, PWR_WAKE_LATCH, C_PERF_CYC_LO,
    C_PERF_CYC_HI], [.banked, .msixPend, .vat, .pwr, .out, .freeCtr])
  | .dmaRun _
    => (some [DMA_CH_RUN], [])
  | .dmaStop _
    => (some [DMA_CH_RUN, DMA_CH_HALT_CAUSE, DMA_CH_BUSY, DMA_CH_RING_BASE_LO, DMA_CH_RING_BASE_HI, DMA_CH_RING_SIZE, DMA_CH_TAIL,
    DMA_CH_HEAD, DMA_CH_REMAIN, DMA_CH_OUTSTANDING, DMA_CH_CH_INT], [.msixPend, .dma, .out])
  | .dmaHeadWrite _ _
    => (some [DMA_CH_HEAD], [])
  | .descriptorFetch _ _
    => (some [DMA_CH_RUN, DMA_CH_HALT_CAUSE, DMA_CH_BUSY, DMA_CH_RING_BASE_LO, DMA_CH_RING_BASE_HI, DMA_CH_RING_SIZE, DMA_CH_TAIL,
    DMA_CH_HEAD, DMA_CH_REMAIN, DMA_CH_OUTSTANDING, DMA_CH_RETRIES, DMA_CH_CH_INT], [.msixPend, .dma, .out])
  | .copy _ | .fill _ | .compare _
    => (some [DMA_CH_BUSY, DMA_CH_REMAIN, DMA_CH_OUTSTANDING], [.msixPend, .dma, .orders, .out])
  | .nopDescriptor _
    => (some [DMA_CH_RUN, DMA_CH_HALT_CAUSE, DMA_CH_BUSY, DMA_CH_RING_BASE_LO, DMA_CH_RING_BASE_HI, DMA_CH_RING_SIZE, DMA_CH_TAIL,
    DMA_CH_HEAD, DMA_CH_REMAIN, DMA_CH_OUTSTANDING, DMA_CH_DESCS, DMA_CH_CH_INT], [.msixPend, .dma, .out])
  | .injectionTake _ _ _
    => (some [CLP_NO_TID, QSH_UBUF_FILL, QSH_DBUF_FILL, QSH_UBUF_STALL, QSH_DBUF_DROP, QSH_UQ_QFILL, QSH_UQ_ENQ_LO, QSH_UQ_ENQ_HI,
    QSH_UQ_DROPS, DMA_RS_TX_HEAD, DMA_RS_TX_FRAMES, DMA_RS_TX_REFUSED, DMA_RS_RS_INT, QSH_EQ_QFILL, QSH_EQ_ENQ_LO, QSH_EQ_ENQ_HI,
    QSH_EQ_DROPS], [.msixPend, .pk, .orders, .out, .freeCtr])
  | .refMonitor _ _
    => (some (faultFields ++ [SER_REF_PPM, SER_REF_BAD]), [.msixPend, .up, .held, .cave, .pk, .pwr, .flt, .pins, .out])
  | .txEqWrite _ _ _ _
    => (some [SER_L_PRE, SER_L_POST, SER_L_AMP, SER_L_MAIN], [])
  | .laneSleepWrite _ _ _
    => (some (laneFields ++ [SER_L_TX_SLEEP, SER_L_RX_SLEEP, SER_L_TX_AWAKE, SER_L_RX_AWAKE, PWR_BASE, PWR_ALLOT, PWR_BUDGET_LOW]),
    [.msixPend, .pk, .fk, .pwr, .out])
  | .retrain _
    => (some (laneFields ++ [SER_RT_REFUSED, PWR_LC_GRANTED, PWR_LC_REFUSED]), [.msixPend, .pk, .fk, .pwr, .out])
  | .retrainSnrTrigger _ _
    => (some (laneFields ++ [SER_RT_REFUSED, SER_L_RX_SNR, PWR_LC_GRANTED, PWR_LC_REFUSED]), [.msixPend, .pk, .fk, .pwr, .out])
  | .rtRefusedRetry _
    => (some (laneFields ++ [LTM_HOLD_MF, SER_RT_REFUSED, PWR_LC_GRANTED, PWR_LC_REFUSED]), [.msixPend, .time, .pk, .fk, .pwr,
    .out])
  | .rxFreezeWrite _ _
    => (some [SER_L_ADAPT_STATE, SER_L_RX_FREEZE], [.msixPend, .out])
  | .adaptDone _ _ _
    => (some (laneFields ++ [SER_L_RX_SNR, SER_L_CTLE, SER_L_RETRAINS]), [.msixPend, .pk, .fk, .pwr, .out])
  | .injGo _
    => (some [SER_L_INJ_IGN], [.out])
  | .injRateTick _
    => (some [], [.out])
  | .checkerLockChange _ _ _ _
    => (some [SER_L_CHK_LOCK, SER_L_BITS_LO, SER_L_BITS_HI, SER_L_ERR_LO, SER_L_ERR_HI, SER_L_CHK_UNLOCKS], [.msixPend, .out])
  | .ltCellSend _
    => (some [LTM_HOLD_MF], [.msixPend, .time, .fk, .out])
  | .mgmtCellSend
    => (some [FKL_MBOX_GO], [.msixPend, .fk, .out])
  | .ltCellRx _ _
    => (some [LTM_STATE, LTM_HOLD_MF, GAT_GATES, GAT_CUR_ENTRY, GAT_OVERRUN, FKL_MASTER_LOST, FKL_MASTER_CONFLICT, FKL_LT_OFFSET,
    FKL_HOP_DROP, FKL_LT_FOREIGN, FKL_K_CABLE, FKL_K_CELL_CRC, FKL_K_CELLS_LO, FKL_K_CELLS_HI], [.seals, .msixPend, .time, .rx, .up,
    .join, .cave, .asm, .cip, .pk, .tim, .fk, .vat, .pwr, .flt, .out])
  | .ctrlCellRx _ | .groupCellRx _
    => (some [FKL_HOP_DROP, FKL_K_CELL_CRC, FKL_K_CELLS_LO, FKL_K_CELLS_HI, FKL_K_UNIT_ERR], [.msixPend, .rx, .fk, .out])
  | .mgmtCellRx _ _
    => (some [FKL_MASTER_CONFLICT, FKL_RING_CLOSED, FKL_LT_SRC_PORT, FKL_LT_HOPS, FKL_CTRL_SRC, FKL_CTRL_VALID, FKL_REACH,
    FKL_RX_OK_MAP, FKL_HOP_DROP, FKL_MBOX_RX, FKL_K_PSTATE, FKL_K_NBR_MEM, FKL_K_CELL_CRC, FKL_K_CELLS_LO, FKL_K_CELLS_HI],
    [.msixPend, .rx, .fk, .out])
  | .unitCellRx _
    => (some [FKL_HOP_DROP, FKL_K_CELL_CRC, FKL_K_CELLS_LO, FKL_K_CELLS_HI, FKL_K_UNIT_ERR], [.msixPend, .pk, .fk, .out])
  | .idleCellRx _
    => (some [FKL_K_CELL_CRC, FKL_K_CELLS_LO, FKL_K_CELLS_HI], [.msixPend, .out])
  | .badCellRx _
    => (some [FKL_K_CELL_CRC], [])
  | .fkPortAlign _
    => (some [FKL_K_PSTATE], [])
  | .fkPortDown _
    => (some [FKL_RING_CLOSED, FKL_LT_SRC_PORT, FKL_LT_HOPS, FKL_CTRL_SRC, FKL_CTRL_VALID, FKL_K_PSTATE, FKL_K_PORT_DOWNS,
    FKL_K_UNIT_ERR], [.msixPend, .rx, .fk, .out])
  | .memberUnreachable _
    => (some [FKL_LT_SRC_PORT, FKL_LT_HOPS, FKL_CTRL_SRC, FKL_CTRL_VALID, FKL_REACH, FKL_RX_OK_MAP], [.msixPend, .rx, .fk, .out])
  | .masterLost
    => (some (timeLossFields ++ [FKL_MASTER_LOST, FKL_MASTER_LOSSES]), [.msixPend, .mode, .time, .rx, .up, .join, .held, .cave,
    .cip, .fk, .pwr, .pins, .out])
  | .mboxGo
    => (some [FKL_MBOX_GO], [])
  | .modeReqGraze | .modeReqStable | .modeReqWake
    => (some [UPB_UMSG_DROP, PWR_IN_TRANSIT, PWR_MODE_REQ, PWR_REQ_REFUSED, PWR_WAKE_LATCH], [.msixPend, .up, .pwr, .out])
  | .grazeEntry
    => (some (faultFields ++ [LTM_STATE, LRX_CD_ACTIVE_A, LRX_CD_ACTIVE_B, LRX_ACQ_STATE_A, LRX_ACQ_STATE_B, LRX_EQ_CONV,
    LRX_BANK_READY, LMS_OSNR, LMS_CD, LMS_DGD, LMS_SOP_RATE, LMS_FREQ_OFS, LMS_RX_POWER, LMS_VALID, LMS_UPDATE_LT, FRM_SC_IN_FRAME,
    FRM_SC_MF_ALIGNED, FRM_SC_CANDIDATES, FRM_SC_OOF_COUNT, FRM_GRP_COMPLETE, FRM_GRP_MF_DROPPED, UPB_UMSG_DROP, UPB_TX_GATED,
    CLP_PORT_EVENT, CLP_P_LINK_UP, CLP_P_AM_LOCK, CLP_P_LOCAL_FAULT, CLP_P_LINK_DOWN_SEEN, QSH_AL_SEQ_NEXT, QSH_AL_OPEN_FILL,
    QSH_AL_SEALED_LO, QSH_AL_SEALED_HI, QSH_AL_SEAL_TIMEOUT, QSH_AL_SEAL_GRANT, CAV_STATE, CAV_POOL_FREE, CAV_RACK_FILL,
    CAV_WAITING, CAV_KSEL0_COUNT, CAV_KSEL1_COUNT, CAV_EXP_FREE, CAV_EXP_WAITING, CAV_RING_BAD, CAV_POISONED, CAV_AL_HELD_ALL,
    CAV_AL_EXP_HELD, DDR_TRAIN_STATE, CIP_KEY_ABORTS, TIM_TB_FREQ, VAT_PORT_DENIED, VAT_C_CSTATE, VAT_C_LAST_CYCLES, SER_L_TX_AWAKE,
    SER_L_RX_AWAKE, SER_L_ADAPT_STATE, FKL_RING_CLOSED, FKL_LT_SRC_PORT, FKL_LT_HOPS, FKL_K_PSTATE, FKL_K_PORT_DOWNS,
    FKL_K_UNIT_ERR, PWR_IN_TRANSIT, PWR_MODE_REQ, PWR_REQ_REFUSED, PWR_WAKE_LATCH, PWR_WAKE_CAUSE, PWR_EARLY_WAKE, PWR_BASE,
    PWR_ALLOT, PWR_BUDGET_LOW, LRX_COEF]), [.msixPend, .mode, .time, .rx, .up, .held, .cave, .asm, .cip, .pk, .tim, .fk, .vat, .pwr,
    .flt, .pins, .orders, .out])
  | .grazeWakePowerup
    => (some [LTM_HOLD_MF, LRX_ACQ_STATE_A, LRX_ACQ_STATE_B, LRX_EQ_CONV, LMS_VALID, FRM_SC_IN_FRAME, FRM_SC_MF_ALIGNED,
    FRM_SC_CANDIDATES, FRM_SC_OOF_COUNT, FRM_GRP_COMPLETE, FRM_GRP_MF_DROPPED, PWR_WAKES], [.time, .rx, .cip, .pwr])
  | .grazeTimer
    => (some [LTM_HOLD_MF, PWR_WAKE_LATCH], [.time, .pwr])
  | .grazeExit
    => (some (faultFields ++ [LRX_ACQ_STATE_A, LRX_ACQ_STATE_B, LRX_EQ_CONV, LMS_VALID, FRM_SC_IN_FRAME, FRM_SC_MF_ALIGNED,
    FRM_SC_CANDIDATES, FRM_SC_OOF_COUNT, FRM_GRP_COMPLETE, FRM_GRP_MF_DROPPED, QSH_AL_SEQ_NEXT, QSH_AL_OPEN_FILL, QSH_AL_SEALED_LO,
    QSH_AL_SEALED_HI, QSH_AL_SEAL_TIMEOUT, QSH_AL_SEAL_GRANT, CAV_STATE, CAV_POOL_FREE, CAV_RACK_FILL, CAV_WAITING, CAV_KSEL0_COUNT,
    CAV_KSEL1_COUNT, CAV_EXP_FREE, CAV_EXP_WAITING, CAV_RING_BAD, CAV_POISONED, CAV_AL_HELD_ALL, CAV_AL_EXP_HELD, DDR_TRAIN_STATE,
    CIP_KEY_ABORTS, VAT_C_CSTATE, PWR_IN_TRANSIT, PWR_WAKE_CAUSE]), [.msixPend, .rx, .up, .held, .cave, .asm, .cip, .tim, .pwr,
    .flt, .pins, .orders, .out])
  | .leaveWaitExpiry
    => (some [LTM_HOLD_MF], [.time, .pwr])
  | .toneDetect
    => (some [PWR_WAKE_LATCH], [.pwr])
  | .stableExit
    => (some [PWR_IN_TRANSIT, PWR_WAKE_CAUSE], [.pwr, .pins])
  | .caveStateReload
    => (some (faultFields ++ [QSH_AL_SEQ_NEXT, QSH_AL_OPEN_FILL, QSH_AL_SEALED_LO, QSH_AL_SEALED_HI, QSH_AL_SEAL_TIMEOUT,
    QSH_AL_SEAL_GRANT, CAV_STATE, CAV_POOL_FREE, CAV_RACK_FILL, CAV_WAITING, CAV_KSEL0_COUNT, CAV_KSEL1_COUNT, CAV_EXP_FREE,
    CAV_EXP_WAITING, CAV_RING_BAD, CAV_POISONED, CAV_AL_HELD_ALL, CAV_AL_EXP_HELD, DDR_TRAIN_STATE, CIP_KEY_ABORTS]), [.msixPend,
    .up, .held, .cave, .asm, .pwr, .flt, .pins, .orders, .out])
  | .leaveRequest _
    => (some [PWR_LEAVE_HELD, PWR_LC_HELD, PWR_LC_GRANTED, PWR_LC_REFUSED], [.pwr, .orders])
  | .leaveReturn _ _ _
    => (some [PWR_LEAVE_HELD, PWR_LC_HELD], [.pwr])
  | .dieShareRefresh
    => (some [], [.pwr, .freeCtr])
  | .faultReport _
    => (some (faultFields ++ [LRX_CD_ACTIVE_A, LRX_CD_ACTIVE_B, LRX_BANK_READY, LMS_OSNR, LMS_CD, LMS_DGD, LMS_SOP_RATE,
    LMS_FREQ_OFS, LMS_RX_POWER, LMS_VALID, LMS_UPDATE_LT, TIM_TB_FREQ, VAT_PORT_DENIED, VAT_C_CSTATE, VAT_C_LAST_CYCLES, LRX_COEF]),
    [.msixPend, .up, .held, .cave, .tim, .vat, .pwr, .flt, .pins, .orders, .out])
  | .recordClose _
    => (some [FLT_OPEN_COUNT, FLT_REC_CLOSE, FLT_REC_RSTATE], [])
  | .errWidthExpiry
    => (some [LTM_HOLD_MF, FLT_ERR_LOW], [.time, .flt, .pins])
  | .errRel | .fltHeartbeatLoss
    => (some [FLT_ERR_LOW], [.flt, .pins])
  | .safeClr _
    => (some [FLT_SELF_FAULT, FLT_CLR_CAUSE, FLT_CLR_REFUSED, FLT_OPEN_COUNT, FLT_REC_CAUSE, FLT_REC_CLASS, FLT_REC_LEVEL,
    FLT_REC_INJ, FLT_REC_CLOSE, FLT_REC_RSTATE, FLT_REC_REGION, FLT_REC_CLUSTER, FLT_REC_UNIT, FLT_REC_DETAIL, FLT_REC_FIRST_LT,
    FLT_REC_DUP], [.msixPend, .flt, .out])
  | .collectorSelfFault | .injSelf
    => (some safeFields, [.msixPend, .up, .held, .cave, .flt, .pins, .out])
  | .faultInject
    => (some [UPB_SIL_FAULT, UPB_GUARD_TRIP, UPB_TX_LIT, UPB_CAL_COUNT, UPB_STANDING_COUNT, UPB_GUARD_TRIPS, QSH_AL_OCC,
    QSH_AL_RETURNED_LO, QSH_AL_RETURNED_HI, PWR_LEAVE_HELD, PWR_LC_HELD, PWR_LC_WITHDRAWN, FLT_SAFE, FLT_RELEASE_SEEN, FLT_ERR_LOW,
    FLT_OPEN_COUNT, FLT_CORR_COUNT, FLT_CONT_COUNT, FLT_FATAL_COUNT, FLT_DUP_TOTAL, FLT_LOST_CORR, FLT_LOST_CONT, FLT_LOST_FATAL,
    FLT_SAFE_LT, FLT_SAFE_CAUSE, FLT_REC_CAUSE, FLT_REC_CLASS, FLT_REC_LEVEL, FLT_REC_INJ, FLT_REC_CLOSE, FLT_REC_RSTATE,
    FLT_REC_REGION, FLT_REC_CLUSTER, FLT_REC_UNIT, FLT_REC_DETAIL, FLT_REC_FIRST_LT, FLT_REC_DUP], [.msixPend, .up, .held, .cave,
    .pwr, .flt, .pins, .out])
  | .lfClr _
    => (some [C_LF_CAUSE, C_LF_CLASS, C_LF_VALID, C_LF_SOURCE, C_LF_DUP], [])
  | .perfClear _
    => (some [C_PERF_CYC_LO, C_PERF_CYC_HI], [])
  | .freezeAllWrite _
    => (some [FLT_FREEZE_ALL], [.flt])
  | .perfCounterWrap _ _ _
    => (some [], [.msixPend, .out])
  | .thermTripClear
    => (some [PWR_WAKE_LATCH, GLB_THERM_TRIP], [.pwr, .pins])
  | .lifeTick
    => (some [GLB_LIFE_USED], [.msixPend, .pins, .out])
  | .cipLeaveRetry _
    => (some [LTM_HOLD_MF, CIP_KEY_ABORTS, CIPU_GO, CIPU_JSTATUS, CIPU_DONE_LEN, CIPU_JOBS, PWR_LEAVE_HELD, PWR_LC_HELD,
    PWR_LC_GRANTED, PWR_LC_REFUSED], [.msixPend, .time, .cip, .pwr, .out])
  | .vatLeaveRetry _
    => (some [LTM_HOLD_MF, VAT_C_CSTATE, VAT_C_PC, VAT_C_KSLOT, VAT_C_LAST_START, VAT_C_LAUNCHES, PWR_LEAVE_HELD, PWR_LC_HELD,
    PWR_LC_GRANTED, PWR_LC_REFUSED], [.msixPend, .time, .vat, .pwr, .out])
  | .amLockGained _
    => (some [CLP_PORT_EVENT, CLP_P_LINK_UP, CLP_P_AM_LOCK, CLP_P_HI_BER, CLP_P_LOCAL_FAULT, CLP_P_LINK_DOWN_SEEN], [.msixPend, .pk,
    .out])
  | .sigDetChange _ _
    => (some [SER_L_SIG_DET], [])
  | .fltHeartbeatReturn
    => (some [UPB_SIL_FAULT, UPB_TX_LIT, UPB_CAL_COUNT, UPB_STANDING_COUNT, QSH_AL_OCC, QSH_AL_RETURNED_LO, QSH_AL_RETURNED_HI,
    PWR_LEAVE_HELD, PWR_LC_HELD, PWR_LC_WITHDRAWN, FLT_SAFE, FLT_RELEASE_SEEN, FLT_ERR_LOW, FLT_OPEN_COUNT, FLT_CORR_COUNT,
    FLT_CONT_COUNT, FLT_FATAL_COUNT, FLT_DUP_TOTAL, FLT_LOST_CORR, FLT_LOST_CONT, FLT_LOST_FATAL, FLT_SAFE_LT, FLT_SAFE_CAUSE,
    FLT_REC_CAUSE, FLT_REC_CLASS, FLT_REC_LEVEL, FLT_REC_INJ, FLT_REC_CLOSE, FLT_REC_RSTATE, FLT_REC_REGION, FLT_REC_CLUSTER,
    FLT_REC_UNIT, FLT_REC_DETAIL, FLT_REC_FIRST_LT, FLT_REC_DUP], [.msixPend, .up, .held, .cave, .pwr, .flt, .pins, .out])
  | .pcieLinkUp _ _ _
    => (some [PCI_LINK_SPEED, PCI_LINK_WIDTH, PCI_LINK_UP, PCI_NUM_VFS], [])
  | .pcieLinkDown
    => (some [PCI_LINK_SPEED, PCI_LINK_WIDTH, PCI_LINK_UP], [.msixPend, .out])
  | .dimmTempHot _ _
    => (some [DDR_TEMP], [.msixPend, .out])

/-- Whether command `c` can change copies of field `f`. -/
def Instr.mayWrite (c : Instr) (f : Fld) : Bool :=
  match c.reach.1 with
  | none => true
  | some fs => fs.any fun g => g.id == f.id

/-- Every register field of the part. -/
def allFields : List Fld :=
  [.COM, .LTM, .LRX, .LMS, .FRM, .UPB, .CLP, .CLSE, .CLS, .QSH, .GAT, .CAV, .DDR, .CIP, .CIPU, .TIM, .VAT, .PCI, .DMA, .SER, .FKL, .PWR,
   .FLT, .BOT, .GLB].flatMap pageFields

end Sys2Proof
end

