-- ==== Sys2Proof/Safety.lean ====
section
/-! DEFINITION. What statements about runs speak of: the canonical form of the tables that a state keeps sparse, and how one state
follows another; that a command completes; and that it changes only what is named. -/

set_option Elab.async false

namespace Sys2Proof.Machine

/-- The sparse tables of a state are in their canonical form: keys strictly rising, and no entry equal to what an unlisted key reads as.
They are the register file, the masters' own copies, the LOCK fields written, the MSI-X masks and pending bits, and the record flash. -/
def State.wf (s : State) : Bool :=
  smWf s.regs && smWf s.banked && smWf s.locked && smWf s.msixOn && smWf s.msixPend && smWf s.boot.flash

/-- What every command keeps from the state `s` in which it is taken to the state `t` it leaves: the queue is the senders' alone, the
fuses never change, no free value is drawn twice, what has left the block stays in the record, and the tables stay canonical. -/
structure Keeps (s t : State) : Prop where
  pending : t.pending = s.pending
  fuses : t.fuses = s.fuses
  free : s.freeCtr ≤ t.freeCtr
  out : ∃ l, t.out = l ++ s.out
  wf : s.wf = true → t.wf = true

/-- Command `c` in state `s` runs to its end, and `P` holds of the state it leaves. -/
def Completes (c : Instr) (s : State) (P : State → Prop) : Prop := ∃ t, Sys2Proof.Machine.exec c s = .next t ∧ P t

/-- The registers that raising an interrupt and counting an event may change beside the one a command names (R350, R433 to R435). -/
def Fld.counting (f : Fld) : Bool :=
  [C_INT_STAT, C_PERF_VAL_LO, C_PERF_VAL_HI, C_PERF_OVF, C_PERF_SAMPLE_LT, FLT_OVF_SRC_LO, FLT_OVF_SRC_HI, VAT_C_SAMPLE_PC].any fun g =>
    g.id == f.id

/-- `t` has every field of `s` but the register file, the pending messages of masked vectors, and the record of what left the block. -/
abbrev SameRest (s t : State) : Prop := t = { s with regs := t.regs, msixPend := t.msixPend, out := t.out }

/-- What may change of a field: one copy, or every copy. -/
structure Touch where
  fld : Fld
  copy : Option Nat

/-- Copy `i` of the field. -/
def Fld.one (f : Fld) (i : Nat := 0) : Touch := ⟨f, some i⟩

/-- Every copy of the field. -/
def Fld.any (f : Fld) : Touch := ⟨f, none⟩

/-- `e` speaks of copy `i` of field `f`. -/
def Touch.covers (e : Touch) (f : Fld) (i : Nat) : Bool :=
  e.fld.id == f.id && match e.copy with
    | none => true
    | some j => j % 2 ^ 20 == i % 2 ^ 20

/-- No register but the copies `cs`, and those of interrupts and counters, reads otherwise in `t` than in `s`. -/
def Regs (cs : List Touch) (s t : State) : Prop :=
  ∀ f i, f.counting = false → (∀ e ∈ cs, e.covers f i = false) → t.rd f i = s.rd f i

/-- From `s` to `t` nothing changes but the copies `cs` of register fields, the registers of interrupts and counters, and the messages
sent. -/
structure Only (cs : List Touch) (s t : State) : Prop where
  rest : SameRest s t
  rd : Regs cs s t

/-- The fields the state after a reset does not show at their reset values: those that are kept (R442, R466, R468), and those that follow
the mode (R413). -/
def resetShown : List Fld := [BOT_RESET_CAUSE, GLB_THERM_TRIP, GLB_LIFE_USED, PWR_BASE, PWR_ALLOT, PWR_BUDGET_LOW]

/-- `t` is the terminal as a reset with this cause (a bit of RESET_CAUSE) leaves the terminal of `s` (R440, R442). -/
structure AfterReset (cause trip : Nat) (s t : State) : Prop where
  /-- All but the registers, the pins and the record of what left is as after power-on, but for what no reset touches. -/
  rest : t = { State.reset with
    pending := s.pending, fuses := s.fuses, vat := s.vat.lostAll, boot := { flash := s.boot.flashKept }
    freeCtr := s.freeCtr, regs := t.regs, msixPend := t.msixPend, pins := t.pins, out := t.out }
  cause : t.rd BOT_RESET_CAUSE = (s.rd BOT_RESET_CAUSE ||| 2 ^ cause) % 8
  trip : t.rd GLB_THERM_TRIP = trip
  life : t.rd GLB_LIFE_USED = s.rd GLB_LIFE_USED
  regs : ∀ f i, f.counting = false → (∀ g ∈ resetShown, f.id ≠ g.id) → t.rd f i = f.resetAt i
  dark : t.pins.txdisN = false ∧ t.pins.resetN = false ∧ t.pins.errN = true

/-! Records and messages of the control stream -/

/-- Record `r` of type `ty` stands at the parser's place, its header is good, and it ends within the multiframe; the parser works, no
FIRST_UNIT is still to be met, and an earlier record of the multiframe was met (R103, R104, R405). -/
def State.takesRecord (s : State) (ty : Nat) (r : Rec) : Bool :=
  s.parserOn && recType r == ty && recHeadOk r && !s.rx.first && (s.chain ctlStream).ptr.isNone
    && match (s.chain ctlStream).place with
       | none => false
       | some p => decide (recEnd p r ≤ s.ctlBytes)

/-- Record `r` carries a message of code `code` that is good, addressed to the terminal, new and in time (R104, R119 to R121). -/
def State.takesMessage (s : State) (code : Nat) (r : Rec) : Bool :=
  let m := msgOf r
  s.takesRecord 5 r && recBodyOk r && decide (8 ≤ recLen r) && m.code == code && s.addressed (recTid r) && s.msgFormatOk code m
    && !s.keptIs (s.ownTid m.tid) code m.seq && !s.msgLate m

/-- The 128 bits of entry `i` of a GRANTS record (R147). -/
def grantBits (r : Rec) (i : Nat) : Nat := ofBytesBE ((r.body.drop (16 * i)).take 16)

/-- Entry `i` of the GRANTS record `r` is the next one, no bit of it is errored, and its record is taken: its header is good, it is addressed to
the terminal, and it ends within the multiframe (R104, R107). -/
def State.takesGrant (s : State) (r : Rec) (i : Nat) : Bool :=
  s.parserOn && recType r == 4 && i == s.rx.grants && decide (i < recLen r / 16)
    && !(r.errs.any fun e => decide (8 + 16 * i ≤ e) && decide (e < 24 + 16 * i)) && !s.rx.first && (s.chain ctlStream).ptr.isNone
    && (i != 0 || (recHeadOk r && s.addressed (recTid r)))
    && match (s.chain ctlStream).place with
       | none => false
       | some p => decide (recEnd p r ≤ s.ctlBytes)

/-- `t` has met the record `r` that was taken in `s`: the place has moved past it. -/
def PastRecord (r : Rec) (s t : State) : Prop :=
  (t.chain ctlStream).place = (s.chain ctlStream).place.map fun p => recEnd p r

/-- The upstream message queue takes one more message at once (R127). -/
def State.queueOpen (s : State) : Bool := decide (s.up.umq.length < 32) && s.up.waitPush.isEmpty

/-- A message joins the upstream queue with the next SEQ (R127). -/
def Queued (code : Nat) (body : List Nat) (s t : State) : Prop :=
  t.up.umq = s.up.umq ++ [{ code := code, seq := s.up.umSeq, body := body, at_ := s.now }] ∧ t.up.umSeq = s.up.umSeq + 1

/-- A host message of code `code` has entered inbound slot `n`, and 20 ms run for its answer (R123, R145). -/
structure Delivered (code n : Nat) (m : Msg) (s t : State) : Prop where
  frame : Only [FRM_REC_OK.one, UPB_MSG_OK.one, UPB_IN_COUNT.one, UPB_IN_SLOT.any] { s with rx := t.rx, join := t.join } t
  counts : t.rd UPB_IN_COUNT = s.rd UPB_IN_COUNT + 1 ∧ t.rd UPB_MSG_OK = (s.rd UPB_MSG_OK + 1) % 2 ^ 32
  head : t.rd UPB_IN_SLOT (512 * n) = (code * 2 ^ 24 + m.seq % 256 * 2 ^ 16 + m.body.length) % 2 ^ 32
  addr : t.rd UPB_IN_SLOT (512 * n + 2) % 2 ^ 18 = m.tid % 2 ^ 18 ∧ bit (t.rd UPB_IN_SLOT (512 * n + 2)) 31 = m.eff
  body : ∀ k, k < m.body.length / 4 → t.rd UPB_IN_SLOT (512 * n + 4 + k) = msgWord m k % 2 ^ 32
  others : ∀ k, k < 4096 → k / 512 ≠ n → t.rd UPB_IN_SLOT k = s.rd UPB_IN_SLOT k
  waits : t.join.host.getLast? = some { code := code, seq := m.seq, own := s.ownTid m.tid, deadline := s.now + 20 * msTicks, late := false
                                        answer := none }

/-! Faults -/

/-- `t` is in the transmitter-silence safe state that cause `cause` has brought about from `s` (R426). -/
structure EntersSafe (cause : Nat) (t : State) : Prop where
  safe : t.rd FLT_SAFE = 1 ∧ t.rd FLT_SAFE_CAUSE = cause ∧ t.rd UPB_SIL_FAULT = 1 ∧ t.rd FLT_RELEASE_SEEN = 0
  dark : t.pins.txdisN = false ∧ t.rd UPB_TX_LIT = 0 ∧ t.up.bursts = [] ∧ t.up.cal = []
  err : t.pins.errN = false ∧ t.rd FLT_ERR_LOW = 1

/-- Record `n` of the collector is OPEN and tells of this report (R423, R438). -/
structure Recorded (n cause dup : Nat) (src : FaultSrc) (t : State) : Prop where
  what : t.rd FLT_REC_RSTATE n = 1 ∧ t.rd FLT_REC_CAUSE n = cause ∧ t.rd FLT_REC_CLASS n = faultClass cause ∧ t.rd FLT_REC_DUP n = satU 16 dup
  source : t.rd FLT_REC_LEVEL n = src.level ∧ t.rd FLT_REC_REGION n = src.region ∧ t.rd FLT_REC_CLUSTER n = src.cluster
    ∧ t.rd FLT_REC_UNIT n = src.unit ∧ t.rd FLT_REC_DETAIL n = src.detail

/-- A report of `cause` from region `region` makes a new record at entry `n`: none is open for them, and `n` is the first empty one
(R423, R424). -/
def State.freshRecord (s : State) (n cause region : Nat) : Bool :=
  !s.dark && (List.range 64).all (fun k => !(s.recState k == 1 && s.rd FLT_REC_CAUSE k == cause && s.rd FLT_REC_REGION k == region))
    && ((List.range 64).find? fun k => s.recState k == 0) == some n

/-! Cells of the stack -/

/-- Cell `c` of type `ty` is good and has come on a port that is UP (R383, R384). -/
def State.takesCell (s : State) (c : Cell) (ty : Nat) : Bool := decide (c.port < 2) && s.fkIsUp c.port && cellOk c && cType c == ty

/-! The vat -/

/-- Cluster `c` runs and may issue the word `w` that stands at its PC; no store or write of an address register is under way in it
(R305, R332). -/
def State.runsWord (s : State) (c w : Nat) : Bool :=
  decide (c < 128) && s.cstate c == csRun && s.pgmWord c (s.rd VAT_C_PC c) == w && decide (s.rd VAT_C_PC c < 0x1FFF)
    && ((s.vcl c).maxrun == 0 || decide ((s.vcl c).cyc < (s.vcl c).maxrun * 256)) && (s.vcl c).pend.isEmpty
    && (List.range 16).all fun u => (s.vu c u).st.isEmpty && (s.vu c u).pend.isEmpty

/-- And no repeat is active in it (R330). -/
def State.issues (s : State) (c w : Nat) : Bool := s.runsWord c w && (s.vcl c).loops.isEmpty

/-- From `s` to `t` nothing changes but what lies in cluster `c`: the copies `cs` of its registers, its units, and itself. -/
structure InCluster (c : Nat) (cs : List Touch) (s t : State) : Prop where
  rest : Only cs { s with vat := { s.vat with units := t.vat.units, cls := t.vat.cls } } t
  units : ∀ n, n < 2048 → n / 16 ≠ c → amGetD {} t.vat.units n = amGetD {} s.vat.units n
  others : ∀ d, d < 128 → d ≠ c → t.vcl d = s.vcl d

/-- What unit `x` is after an instruction that leaves `y` of it: what guards and steps see late has moved on (R332). -/
def VUnit.after (x y : VUnit) : VUnit := { y with h1 := (x.g, x.f), h2 := x.h1 }

/-- The word `w` has issued in cluster `c`, and the next one follows: it has made `f` of each enabled unit whose guard holds, in `n`
cycles (R297, R320, R333). -/
structure Issued (c w n : Nat) (f : VUnit → VUnit) (s t : State) : Prop where
  frame : InCluster c [VAT_C_PC.one c] s t
  pc : t.rd VAT_C_PC c = s.rd VAT_C_PC c + 1
  cluster : t.vcl c = { s.vcl c with cyc := (s.vcl c).cyc + n, fAt := (t.vcl c).fAt, cache := (t.vcl c).cache }
  unit : ∀ u, u < 16 → t.vu c u = if bit (s.rd VAT_C_UNIT_EN c) u then
    (s.vu c u).after (if (s.vu c u).guard w then f (s.vu c u) else s.vu c u) else s.vu c u

end Sys2Proof.Machine
end

