-- ==== Sys2Proof/WellFormed.lean ====
section
/-! DEFINITION. Which commands the hardware can meet: every index, word and byte of a command in the range the spec gives it. -/

namespace Sys2Proof

/-- A 32-bit word. -/
def word32 (x : Nat) : Bool := decide (x < 2 ^ 32)
/-- Bytes. -/
def allBytes (l : List Nat) : Bool := l.all fun b => decide (b < 256)
/-- 32-bit words. -/
def allWords (l : List Nat) : Bool := l.all word32
/-- A page index (R470); the ring page of VFn stands under 64 + n (R472). -/
def pageIndex (p : Nat) : Bool := decide (p < 38) || (decide (64 < p) && decide (p < 80))
/-- A page with performance counters; a vat cluster's stand under 128 + c (R432, R436). -/
def counterPage (p : Nat) : Bool := pageIndex p || (decide (128 ≤ p) && decide (p < 256))
/-- A bus master (R342): functions 0 to 16, the DMA channels from 17 on, and the two-wire port as 33. -/
def master (m : Nat) : Bool := decide (m < 34)

/-- A record's header, body bytes and CRC fit their fields (R103). -/
def Rec.wf (r : Rec) : Bool := decide (r.hdr < 2 ^ 64) && allBytes r.body && word32 r.crc
/-- A PTP message's fields fit (R282). -/
def Ptp.wf (m : Ptp) : Bool :=
  decide (m.port < 16) && decide (m.domain < 256) && decide (m.master < 2 ^ 80) && decide (m.seq < 65536) && decide (m.sec < 2 ^ 48)
    && word32 m.ns && m.entry.all (fun e => decide (e < 16384))
/-- A defect names a carrier, a subcarrier or a group channel (R112). -/
def Defect.wf : Defect → Bool
  | .los c => decide (c < 2)
  | .lof sc => decide (sc < 32)
  | .lom sc => decide (sc < 32)
  | .ais sc => decide (sc < 32)
  | .rdi => true
  | .tim g => decide (g < 2)
/-- A cell's header, payload and CRC fit (R383). -/
def Cell.wf (c : Cell) : Bool :=
  decide (c.port < 2) && decide (c.hdr < 2 ^ 128) && decide (c.payload.length ≤ 236) && allBytes c.payload && word32 c.crc
/-- A MGMT cell's fields fit (R391). -/
def Mgmt.wf (m : Mgmt) : Bool :=
  decide (m.mem < 8) && decide (m.role < 4) && decide (m.tid < 2 ^ 18) && m.mbox.all allWords

/-- A command is well formed. -/
def Instr.wf : Instr → Bool
  | .resetAssert cause => decide (cause < 3)
  | .resetRelease straps => decide (straps < 65536)
  | .vddAonRise => true
  | .pgoodRise => true
  | .pgoodFall => true
  | .swReset => true
  | .pciePerst => true
  | .functionLevelReset fn => decide (fn < 17)
  | .memorySelftestDone fail => fail.all fun e => decide (e.1 < 32)
  | .imageCheck image => image.all allBytes
  | .hostGo => true
  | .twFifoWrite v => word32 v
  | .recGo => true
  | .recCommitDone status => decide (status < 5)
  | .modeTransitionComplete => true
  | .clockMonitorFault d => decide (d < 60)
  | .ltSkew level region cluster => decide (level < 4) && decide (region < 32) && decide (cluster < 128)
  | .slotBoundary => true
  | .frameBoundary clip rms => decide (clip < 4) && rms.all fun e => decide (e.1 < 2) && decide (e.2 < 256)
  | .multiframeBoundary snr => snr.all fun e => decide (e.1 < 32)
  | .superframeBoundary ages => decide (ages.length = 4)
  | .ltHoldoverExpiry => true
  | .fineRangeReq => true
  | .applyReq pg boundary => pageIndex pg && decide (boundary < 8)
  | .applyCancel pg => pageIndex pg
  | .applyMarkerPass pg lane => pageIndex pg && decide (lane < 19)
  | .atLtApply => true
  | .ltSnapRead m => master m
  | .launchEntryArm n word => decide (n < 256) && word32 word
  | .launchEntryDisarm n word => decide (n < 256) && word32 word
  | .launchEntryFire => true
  | .rsExpectWrite v => word32 v
  | .coefBankWrite _ ch bank w value => decide (ch < 32) && decide (bank < 2) && decide (w < 52) && word32 value
  | .acqGainSettled c => decide (c < 2)
  | .acqCdFound c cd => decide (c < 2) && decide (cd < 2 ^ 18)
  | .acqCdHintMiss c => decide (c < 2)
  | .acqFreqAcquired c => decide (c < 2)
  | .acqEqConverged sc => decide (sc < 32)
  | .acqStateOverrun c => decide (c < 2)
  | .blockDecoded sc idx info _ _ => decide (sc < 32) && decide (idx < 2 ^ 17) && allBytes info
  | .fawSearchWord sc _ word _ => decide (sc < 32) && decide (word < 2 ^ 256)
  | .fawInframeWord sc word _ => decide (sc < 32) && decide (word < 2 ^ 256)
  | .overheadBlock sc mfi oh => decide (sc < 32) && decide (mfi < 64) && oh.all allBytes
  | .delineateUnit st => decide (st < 512)
  | .fillRecord r => r.wf
  | .wakeMap r => r.wf
  | .profileTable r => r.wf
  | .allocMap r => r.wf
  | .rdiList r => r.wf
  | .reservedRecord r => r.wf
  | .recordHeaderError r => r.wf
  | .defectConditionMet d _ rms _ => d.wf && decide (rms < 256)
  | .sdChange _ _ => true
  | .grantEntry r _ => r.wf
  | .grantCancel r _ => r.wf
  | .lineParams r => r.wf
  | .discoveryOpen r => r.wf
  | .assignId r => r.wf
  | .rangeResult r => r.wf
  | .eqdAdjust r => r.wf
  | .profileSet r => r.wf
  | .keyEpoch r => r.wf
  | .silence r => r.wf
  | .release r => r.wf
  | .deregister r => r.wf
  | .grazeAck r => r.wf
  | .oamTunnel r => r.wf
  | .timeInfo r => r.wf
  | .stackMap r => r.wf
  | .asymSet r => r.wf
  | .groupSet r => r.wf
  | .unknownMessage r => r.wf
  | .hostLate => true
  | .inPop => true
  | .outPush => true
  | .joinEnSet => true
  | .joinAbort => true
  | .joinEntry => true
  | .discoveryBurstStart => true
  | .discCollide => true
  | .rangeTimeout => true
  | .silenceExpiry => true
  | .grazeAckTimeout => true
  | .burstCommit entry => decide (entry < 8192)
  | .burstLaunch => true
  | .burstEnd _ => true
  | .guardTrip _ mask => decide (mask < 65536)
  | .txPathUngate => true
  | .txPathGate => true
  | .portEnable n more => decide (n < 16) && more.all (fun p => decide (p < 16))
  | .linkUpRise n => decide (n < 16)
  | .linkUpFall n cond => decide (n < 16) && decide (cond < 4)
  | .clientFrameRx n bytes _ => decide (n < 16) && allBytes bytes
  | .pauseTimerExpiry n cls => decide (n < 16) && (cls.all fun c => decide (c < 8))
  | .pauseRefresh n => decide (n < 16)
  | .ingressDrain n => decide (n < 16)
  | .flowControlDisable n _ => decide (n < 16)
  | .egressFrameStart n => decide (n < 16)
  | .classifyFrame src bad => decide (src < 19) && (bad.all fun e => decide (e < 16384))
  | .reorderRelease src _ _ more => decide (src < 19) && more.all (fun r => decide (r.src < 19))
  | .stage => true
  | .stageDone => true
  | .abandon => true
  | .commitComplete => true
  | .versionRetire v => decide (v < 4)
  | .ruleEntryWrite n w value => decide (n < 16384) && decide (w < 35) && word32 value
  | .vmaskWrite n value => decide (n < 16384) && word32 value
  | .uqAllocWrite u value => decide (u < 4096) && word32 value
  | .admissionResume => true
  | .schedulerMoveUnit al next => decide (al < 64) && decide (next < 4096)
  | .sealTimeout al => decide (al < 64)
  | .gateListCommit n => decide (n < 16)
  | .gateListCancel n => decide (n < 16)
  | .gateListStart n => decide (n < 16)
  | .gateEntryAdvance n => decide (n < 16)
  | .caveInit => true
  | .caveTrainDone fails => fails.all fun e => decide (e.1 < 16)
  | .caveReady => true
  | .containerTake al => decide (al < 64)
  | .containerFree _ _ handle owner => word32 handle && decide (owner < 256)
  | .waitLong _ al => decide (al < 64)
  | .retainExpiry => true
  | .purge => true
  | .purgeDone => true
  | .caveWindowRead => true
  | .caveEccError ch off _ => decide (ch < 16) && word32 off
  | .scrubStep => true
  | .ddrRetrainSlice ch => decide (ch < 16)
  | .slotLoad _ slot => decide (slot < 64)
  | .slotErase slot => decide (slot < 64)
  | .slotUnwrap slot kek => decide (slot < 64) && decide (kek < 64)
  | .slotCommandDone => true
  | .lineKeyEntryWrite entry value => decide (entry < 4) && word32 value
  | .arm => true
  | .cipherMismatch pipe _ => decide (pipe < 8)
  | .cipJobStart n src => decide (n < 16) && allBytes src
  | .cipJobEnd n _ => decide (n < 16)
  | .tbModeWrite n value => decide (n < 4) && word32 value
  | .setGo n => decide (n < 4)
  | .adjGo n => decide (n < 4)
  | .capGo => true
  | .tbSample n => decide (n < 4)
  | .syncToExpiry n => decide (n < 4)
  | .holdMaxExpiry n => decide (n < 4)
  | .ptpSyncRx n m => decide (1 ≤ n) && decide (n < 4) && m.wf
  | .delayReqTimer n => decide (1 ≤ n) && decide (n < 4)
  | .ptpDelayRespRx n m => decide (1 ≤ n) && decide (n < 4) && m.wf
  | .ptpPdelayReqRx n m => decide (1 ≤ n) && decide (n < 4) && m.wf
  | .pairCompare => true
  | .ppsInEdge => true
  | .ppsOutPulse n => decide (n < 2)
  | .todMessage => true
  | .vatGo c => decide (c < 128)
  | .vatStop c => decide (c < 128)
  | .vatLeaveRequest n c => decide (n < 256) && decide (c < 128)
  | .vatClusterStart c => decide (c < 128)
  | .vatMaxrun c => decide (c < 128)
  | .vatHostWrite c off value dquad => decide (c < 128) && decide (off < 131072) && word32 value && decide (dquad < 4)
  | .vatParityError c unit => decide (c < 128) && (unit.all fun u => decide (u < 16))
  | .tapCapture c p blocks => decide (c < 128) && decide (p < 4) && (blocks.all fun b => b.all fun x => decide (x < 65536))
  | .tapDelivery c p => decide (c < 128) && decide (p < 4)
  | .vDualMove c => decide (c < 128)
  | .vMpy c => decide (c < 128)
  | .vMac c => decide (c < 128)
  | .vMsu c => decide (c < 128)
  | .vMov c => decide (c < 128)
  | .vAdd c => decide (c < 128)
  | .vAdds c => decide (c < 128)
  | .vSub c => decide (c < 128)
  | .vSubs c => decide (c < 128)
  | .vAnd c => decide (c < 128)
  | .vOr c => decide (c < 128)
  | .vXor c => decide (c < 128)
  | .vShl c => decide (c < 128)
  | .vShr c => decide (c < 128)
  | .vShrl c => decide (c < 128)
  | .vMin c => decide (c < 128)
  | .vMax c => decide (c < 128)
  | .vAbs c => decide (c < 128)
  | .vNeg c => decide (c < 128)
  | .vCmpEq c => decide (c < 128)
  | .vCmpNe c => decide (c < 128)
  | .vCmpLt c => decide (c < 128)
  | .vCmpLe c => decide (c < 128)
  | .vCmpGt c => decide (c < 128)
  | .vCmpGe c => decide (c < 128)
  | .vCmpLtu c => decide (c < 128)
  | .vCmpGeu c => decide (c < 128)
  | .vFand c => decide (c < 128)
  | .vFor c => decide (c < 128)
  | .vFnot c => decide (c < 128)
  | .vClra c => decide (c < 128)
  | .vLda c => decide (c < 128)
  | .vAdda c => decide (c < 128)
  | .vSha c => decide (c < 128)
  | .vMovh c => decide (c < 128)
  | .vMovl c => decide (c < 128)
  | .vMove c => decide (c < 128)
  | .vAbsa c => decide (c < 128)
  | .vNega c => decide (c < 128)
  | .vCmpa c => decide (c < 128)
  | .vLd c => decide (c < 128)
  | .vSt c => decide (c < 128)
  | .vMovi c => decide (c < 128)
  | .vMoviSreg c => decide (c < 128)
  | .vMovsToSreg c => decide (c < 128)
  | .vMovsFromSreg c => decide (c < 128)
  | .vDo c => decide (c < 128)
  | .vDog c => decide (c < 128)
  | .vNop c => decide (c < 128)
  | .vHalt c => decide (c < 128)
  | .vBr c => decide (c < 128)
  | .vBrany c => decide (c < 128)
  | .vBrall c => decide (c < 128)
  | .vLeave c => decide (c < 128)
  | .registerWrite m addr _ ws hw _ more =>
    master m && word32 addr && allWords ws && hw.all word32 && more.all (fun x => master x.m && word32 x.addr && allWords x.ws)
  | .unsupportedRequest m => master m
  | .counterLoRead m a n => master m && word32 a && decide (n ≤ 1024)
  | .nowRead m => master m
  | .lockFieldWrite m addr value => master m && word32 addr && word32 value
  | .stickyClr m base _ => master m && word32 base
  | .intRegisterWrite m base _ value hw => master m && word32 base && word32 value && hw.all word32
  | .msixVectorUnmask fn vector => decide (fn < 17) && decide (vector < 256)
  | .intForce m base value => master m && word32 base && word32 value
  | .twoWireWrite addr data _ => word32 addr && allBytes data
  | .twoWireRead addr _ => word32 addr
  | .dmaRun n => decide (n < 16)
  | .dmaStop n => decide (n < 16)
  | .dmaHeadWrite n value => decide (n < 16) && word32 value
  | .descriptorFetch n words => decide (n < 16) && words.all allWords
  | .copy n => decide (n < 16)
  | .fill n => decide (n < 16)
  | .compare n => decide (n < 16)
  | .nopDescriptor n => decide (n < 16)
  | .dmaBeatAnswer n _ _ _ src dst _ => decide (n < 16) && allBytes src && allBytes dst
  | .injectionTake n entry frame => decide (n < 16) && allWords entry && frame.all allBytes
  | .refMonitor _ _ => true
  | .txEqWrite l _ _ _ => decide (l < 24)
  | .laneSleepWrite l _ _ => decide (l < 24)
  | .retrain l => decide (l < 24)
  | .retrainSnrTrigger l _ => decide (l < 24)
  | .rtRefusedRetry l => decide (l < 24)
  | .rxFreezeWrite l _ => decide (l < 24)
  | .adaptDone l _ _ => decide (l < 24)
  | .injGo l => decide (l < 24)
  | .injRateTick l => decide (l < 24)
  | .checkerLockChange l _ _ _ => decide (l < 24)
  | .ltCellSend _ => true
  | .mgmtCellSend => true
  | .ltCellRx c _ => c.wf
  | .ctrlCellRx c => c.wf
  | .mgmtCellRx c m => c.wf && m.wf
  | .groupCellRx c => c.wf
  | .unitCellRx c => c.wf
  | .idleCellRx c => c.wf
  | .badCellRx c => c.wf
  | .fkPortAlign k => decide (k < 2)
  | .fkPortDown k => decide (k < 2)
  | .memberUnreachable m => decide (m < 8)
  | .masterLost => true
  | .mboxGo => true
  | .modeReqGraze => true
  | .modeReqStable => true
  | .modeReqWake => true
  | .grazeEntry => true
  | .grazeWakePowerup => true
  | .grazeTimer => true
  | .grazeExit => true
  | .stableEntry => true
  | .leaveWaitExpiry => true
  | .toneDetect => true
  | .stableExit => true
  | .caveStateReload => true
  | .leaveRequest rs => rs.all fun r => decide (r.cls < 6) && decide (r.region < 32)
  | .leaveReturn cls region _ => decide (cls < 6) && decide (region < 32)
  | .dieShareRefresh => true
  | .faultReport rs => rs.all fun r => decide (r.cause < 256) && decide (r.level < 8) && decide (r.region < 32) && pageIndex r.pg
  | .recordClose n => decide (n < 64)
  | .errWidthExpiry => true
  | .errRel => true
  | .safeClr _ => true
  | .collectorSelfFault => true
  | .fltHeartbeatLoss => true
  | .faultInject => true
  | .injSelf => true
  | .lfClr pg => pageIndex pg
  | .perfClear pg => counterPage pg
  | .freezeAllWrite _ => true
  | .perfCounterWrap p k rest => counterPage p && decide (k < 8) && decide (rest < 2 ^ 48)
  | .thermalSample _ _ _ _ => true
  | .thermTripClear => true
  | .lifeTick => true
  | .cipLeaveRetry n => decide (n < 16)
  | .vatLeaveRetry c => decide (c < 128)
  | .amLockGained n => decide (n < 16)
  | .sigDetChange l _ => decide (l < 24)
  | .fltHeartbeatReturn => true
  | .vddAonFall => true
  | .pgoodExitTimeout => true
  | .pcieLinkUp speed width vfs => decide (speed < 5) && decide (width < 5) && decide (vfs < 16)
  | .pcieLinkDown => true
  | .dimmTempHot ch temp => decide (ch < 16) && decide (temp < 256)

end Sys2Proof
end

