-- ==== Sys2Proof/Certificates/Slice0/Obligations.lean ====
section
/-! DEFINITION. What the provers are asked to prove of the terminal: one proposition for each statement of OBLIGATIONS.json. -/

open Sys2Proof Sys2Proof.Machine

/-! The machine -/

/-- A step is `exec` of the command at the front, on the state with the rest of the queue; an empty queue idles (log 3, the model's
choice). -/
def Obligations.StepTakesFront : Prop :=
  (∀ (s : State) (c : Instr) (rest : List Instr), step { s with pending := c :: rest } = exec c { s with pending := rest })
    ∧ ∀ s : State, s.pending = [] → step s = .next s

/-- The state after reset: canonical, no command waiting, RESET, every register at its reset value (R17, R442). -/
def Obligations.ResetIsCanonical : Prop :=
  State.reset.wf = true ∧ State.reset.pending = [] ∧ State.reset.mode = .reset ∧ ∀ (f : Fld) (i : Nat), State.reset.rd f i = f.resetAt i

/-- The canonical form of the tables is an invariant of every step. -/
def Obligations.StepKeepsCanonical : Prop :=
  ∀ s t : State, s.wf = true → step s = .next t → t.wf = true

/-- Every command completes in every state, and keeps the queue, the fuses, the drawn free values and the record of what left. -/
def Obligations.CommandsKeepWhatIsNotTheirs : Prop :=
  ∀ (c : Instr) (s : State), Completes c s fun t =>
    t.pending = s.pending ∧ t.fuses = s.fuses ∧ s.freeCtr ≤ t.freeCtr ∧ ∃ l, t.out = l ++ s.out

/-- The register file: read after write, and the frame of a write. -/
def Obligations.RegisterReadsBack : Prop :=
  ∀ (s : State) (f : Fld) (v i : Nat), s.wf = true →
    (s.wr f v i).rd f i = v % 2 ^ f.w
    ∧ (∀ j, i < 2 ^ 20 → j < 2 ^ 20 → j ≠ i → (s.wr f v i).rd f j = s.rd f j)
    ∧ (∀ (g : Fld) (j : Nat), g.id ≠ f.id → (s.wr f v i).rd g j = s.rd g j)
    ∧ (s.wr f v i).wf = true

/-- INT_STAT, INT_EN and the page's MSI-X message (R350, R351). -/
def Obligations.InterruptRaised : Prop :=
  ∀ (s : State) (p b : Nat), s.wf = true → p < 64 → b < 32 →
    Only [] s (s.raise p b)
    ∧ (s.perfStopped p = true →
        (s.raise p b).rd C_INT_STAT p = (s.rd C_INT_STAT p ||| 2 ^ b) % 2 ^ 32
        ∧ (p < 20 ∨ 34 < p → s.rd C_INT_STAT p &&& s.rd C_INT_EN p = 0 → bit (s.rd C_INT_EN p) b = true → s.rd PCI_IR_EN p = 1 →
            (smGet s.msixOn (s.rd PCI_IR_FUNC p * 256 + s.rd PCI_IR_VECTOR p) = 1 →
              (s.raise p b).out = .msix (s.rd PCI_IR_FUNC p) (s.rd PCI_IR_VECTOR p) :: s.out ∧ (s.raise p b).msixPend = s.msixPend)
            ∧ (smGet s.msixOn (s.rd PCI_IR_FUNC p * 256 + s.rd PCI_IR_VECTOR p) ≠ 1 →
              (s.raise p b).out = s.out ∧ smGet (s.raise p b).msixPend (s.rd PCI_IR_FUNC p * 256 + s.rd PCI_IR_VECTOR p) = 1)))

/-- R32: the arbitration order, its winner and the move of the winner to the end. -/
def Obligations.ArbitrationRotates : Prop :=
  ∀ (s : State) (t n w : Nat) (cs : List Nat), s.winner t n cs = some w →
    w ∈ cs
    ∧ (∀ l r, s.order t n = l ++ w :: r → w ∉ l → ∀ x ∈ l, x ∉ cs)
    ∧ (s.won t n w).order t n = (s.order t n).filter (· != w) ++ [w]
    ∧ (∀ t', t' ≠ t → (s.won t n w).order t' n = s.order t' n)
    ∧ (s.orders = [] → s.order t n = List.range n)

/-- The frame of every command, field by field and part by part. -/
def Obligations.CommandsStayInTheirParts : Prop :=
  ∀ (c : Instr) (s : State), s.wf = true → Completes c s fun t =>
    (∀ f ∈ allFields, f.counting = false → c.mayWrite f = false → ∀ i, t.rd f i = s.rd f i)
    ∧ ∀ p : Part, p ∉ c.reach.2 → p.same s t

/-- The commands that can change the mode (R35, R36). -/
def Obligations.ModeChangesOnlyHere : Prop :=
  ∀ (c : Instr) (s t : State), s.wf = true → exec c s = .next t → t.mode ≠ s.mode →
    match c with
    | .resetAssert _ | .resetRelease _ | .pgoodFall | .swReset | .imageCheck _ | .modeTransitionComplete | .frameBoundary _ _
    | .multiframeBoundary _ | .ltHoldoverExpiry | .rsExpectWrite _ | .acqStateOverrun _ | .fawInframeWord _ _ _
    | .overheadBlock _ _ _ | .lineParams _ | .rangeResult _ | .deregister _ | .joinAbort | .joinEntry | .discCollide
    | .rangeTimeout | .registerWrite _ _ _ _ _ _ _ | .lockFieldWrite _ _ _ | .stickyClr _ _ _ | .intRegisterWrite _ _ _ _ _
    | .intForce _ _ _ | .twoWireWrite _ _ _ | .dmaBeatAnswer _ _ _ _ _ _ _ | .masterLost | .grazeEntry | .stableEntry
    | .thermalSample _ _ _ _ | .vddAonFall | .pgoodExitTimeout => True
    | _ => False

/-! Reset, power, boot and record (chapters 20 and 21) -/

/-- Entries into RESET (R440, R442, R459) and the end of power (R458). -/
def Obligations.ResetEntered : Prop :=
  (∀ (cause : Nat) (s : State), s.wf = true → cause < 3 → s.mode ≠ .reset →
    Completes (.resetAssert cause) s fun t =>
      AfterReset cause (s.rd GLB_THERM_TRIP) s t ∧ t.pins = { s.pins with resetN := false, txdisN := false, errN := true, pwrMainEn := true })
  ∧ (∀ s : State, s.wf = true → Completes .swReset s fun t => AfterReset 2 (s.rd GLB_THERM_TRIP) s t)
  ∧ (∀ s : State, s.wf = true → s.pins.pgood = true → s.pwr.transit ≠ some .stable → s.mode ≠ .reset →
    Completes .pgoodFall s fun t => AfterReset 0 (s.rd GLB_THERM_TRIP) s t ∧ t.pins.pgood = false)
  ∧ (∀ (q : Nat) (s : State), s.wf = true → s.pwr.exitAt = some q → s.mode = .stable → s.pins.pgood = false →
    Completes .pgoodExitTimeout s fun t => AfterReset 0 (s.rd GLB_THERM_TRIP) s t)
  ∧ (∀ s : State, s.pins.vddAon = true → Completes .vddAonFall s fun t =>
      t.mode = .reset ∧ (∀ f i, t.rd f i = f.resetAt i) ∧ t.pins = {} ∧ t.fuses = s.fuses ∧ t.boot.flash = s.boot.flashKept ∧ t.pending = s.pending)

/-- Power-up, straps, the end of a thermal trip, and that the commands of BOOT and of the record complete (R443 to R449, R452, R458, R459, R465). -/
def Obligations.PowerUpSequence : Prop :=
  (∀ s : State, s.wf = true → s.pins.vddAon = false → Completes .vddAonRise s fun t =>
    Only [BOT_RESET_CAUSE.one] { s with pins := { s.pins with vddAon := true, pwrMainEn := true, resetN := false } } t
      ∧ t.rd BOT_RESET_CAUSE = (s.rd BOT_RESET_CAUSE ||| 1) % 8)
  ∧ (∀ s : State, s.pins.vddAon = true → s.pins.pwrMainEn = true → Completes .pgoodRise s fun t =>
    t = { s with pins := { s.pins with pgood := true } })
  ∧ (∀ s : State, s.pins.pgood = true → s.pwr.transit = some .stable → Completes .pgoodFall s fun t =>
    t = { s with pins := { s.pins with pgood := false } })
  ∧ (∀ s : State, s.wf = true → s.pins.pgood = true → s.pwr.transit ≠ some .stable → s.mode = .reset → Completes .pgoodFall s fun t =>
    Only [BOT_RESET_CAUSE.one] { s with pins := { s.pins with pgood := false } } t ∧ t.rd BOT_RESET_CAUSE = (s.rd BOT_RESET_CAUSE ||| 1) % 8)
  ∧ (∀ (straps : Nat) (s : State), s.wf = true → straps < 2 ^ 16 → s.mode = .reset → s.pins.vddAon = true → s.pins.pwrMainEn = true →
    s.pins.pgood = true → Completes (.resetRelease straps) s fun t =>
      t.mode = .boot ∧ t.pins.resetN = true ∧ t.rd BOT_STRAPS = straps
      ∧ t.rd BOT_FACTORY_DENIED = b2n (bit straps 2 && !s.fuses.factoryAllow)
      ∧ t.rd LRX_RS_EXPECT = strapRate (bits straps 15 14) ∧ t.rd LRX_SYM_RATE = strapRate (bits straps 15 14)
      ∧ t.rd CAV_CHANNELS = b2n (bit straps 11) ∧ t.rd CAV_DIMM_SIZE = (if bits straps 13 12 = 3 then 0 else bits straps 13 12)
      ∧ t.rd FKL_ROLE = (if roleOk (bits straps 7 6) (bits straps 10 8) then bits straps 7 6 else 0)
      ∧ t.rd FKL_MEM_ID = (if roleOk (bits straps 7 6) (bits straps 10 8) then bits straps 10 8 else 0)
      ∧ t.rd BOT_STRAP_RSVD = b2n (!roleOk (bits straps 7 6) (bits straps 10 8) || bits straps 13 12 == 3))
  ∧ (∀ (straps : Nat) (s : State), s.mode = .reset → s.pins.vddAon = true → s.pins.pwrMainEn = false → s.on GLB_THERM_TRIP = true →
    Completes (.resetRelease straps) s fun t => t = { s with pins := { s.pins with pwrMainEn := true } })
  ∧ (∀ s : State, s.wf = true → s.pins.vddAon = true → Completes .thermTripClear s fun t =>
    t.rd GLB_THERM_TRIP = 0
      ∧ (s.mode = .reset → s.pins.pwrMainEn = false → s.on GLB_THERM_TRIP = true → t.pins = { s.pins with pwrMainEn := true })
      ∧ (s.mode ≠ .reset → t.pins = s.pins))
  ∧ (∀ s : State, s.mode = .boot → s.boot.tested = false → s.rd BOT_BOOT_STATUS = 0 → s.bootSrc = 0 →
    Completes (.memorySelftestDone none) s fun t => t = { s with boot := { s.boot with tested := true } })
  ∧ (∀ (img : List Nat) (s : State), s.wf = true → s.hostLoads = true → s.rd BOT_HOST_GO = 1 → img.length < 512 →
    Completes (.imageCheck (some img)) s fun t =>
      Only [BOT_BOOT_STATUS.one, BOT_HOST_GO.one] s t ∧ t.rd BOT_BOOT_STATUS = 3 ∧ t.rd BOT_HOST_GO = 0)
  ∧ (∀ s : State, s.wf = true → s.hostLoads = true → Completes .hostGo s fun t => t.rd BOT_HOST_GO = 1)
  ∧ (∀ (v : Nat) (s : State), s.mode = .boot → s.boot.tested = true → s.bootSrc = 2 → s.rd BOT_BOOT_STATUS = 10 → s.boot.fifo.length < 128 →
    Completes (.twFifoWrite v) s fun t => t.boot.fifo = v % 2 ^ 32 :: s.boot.fifo)
  ∧ (∀ s : State, s.wf = true → s.mode = .listen → s.rd BOT_REC_GO = 0 → Completes .recGo s fun t =>
    t.rd BOT_REC_GO = 1 ∧ t.boot.commit = some (s.recTarget, (List.range 956).map fun w => s.rd BOT_REC_STAGE w))
  ∧ (∀ (slot : Nat) (body : List Nat) (s : State), s.wf = true → s.boot.commit = some (slot, body) → Completes (.recCommitDone 4) s fun t =>
    t.rd BOT_REC_GO = 0 ∧ t.rd BOT_REC_STATUS = 4 ∧ t.boot.commit = none ∧ t.boot.flash = s.boot.flash)

/-- BOOT (R445, R447, R449): the status is that of the first check that fails (`State.imageBad`), and a good image is applied. -/
def Obligations.BootLoadsItsImage : Prop :=
  (∀ (region mem : Nat) (s : State), s.wf = true → region < 32 → mem < 2 ^ 20 → s.mode = .boot → s.boot.tested = false → s.rd BOT_BOOT_STATUS = 0 →
    Completes (.memorySelftestDone (some (region, mem))) s fun t =>
      Only [BOT_ST_FAIL.one, BOT_BOOT_STATUS.one] s t ∧ t.rd BOT_BOOT_STATUS = 2 ∧ t.rd BOT_ST_FAIL = region + mem * 256)
  ∧ (∀ s : State, s.wf = true → s.mode = .boot → s.boot.tested = false → s.rd BOT_BOOT_STATUS = 0 →
    Completes (.memorySelftestDone none) s fun t =>
      if s.bootSrc = 3 then Only [BOT_BOOT_STATUS.one] s t ∧ t.rd BOT_BOOT_STATUS = 9
      else Only [BOT_BOOT_STATUS.one] { s with boot := { s.boot with tested := true } } t
        ∧ t.rd BOT_BOOT_STATUS = (if s.bootSrc = 0 then 0 else 10))
  ∧ (∀ s : State, s.wf = true → s.hostLoads = true → Completes .hostGo s fun t => Only [BOT_HOST_GO.one] s t ∧ t.rd BOT_HOST_GO = 1)
  ∧ (∀ (v : Nat) (s : State), s.mode = .boot → s.boot.tested = true → s.bootSrc = 2 → s.rd BOT_BOOT_STATUS ≠ 8 → s.fifoFull = false →
    Completes (.twFifoWrite v) s fun t => t = { s with boot := { s.boot with fifo := v % 2 ^ 32 :: s.boot.fifo } })
  ∧ (∀ (img : Option (List Nat)) (s : State), s.wf = true → s.mode = .boot → s.boot.tested = true → s.rd BOT_BOOT_STATUS ≠ 8 →
    s.bootSrc = 0 → s.boot.tried < 2 → Completes (.imageCheck img) s fun t =>
      (∀ st, s.imageBad ((img.getD []).map (· % 256)) = some st →
        Only [BOT_BOOT_STATUS.one] { s with boot := { s.boot with tried := s.boot.tried + 1 } } t
          ∧ t.rd BOT_BOOT_STATUS = (if s.boot.tried = 0 then s.rd BOT_BOOT_STATUS else st % 16))
      ∧ (s.imageBad ((img.getD []).map (· % 256)) = none → t = s.takeImage (s.boot.tried + 1) ((img.getD []).map (· % 256))))
  ∧ (∀ (img : Option (List Nat)) (s : State), s.wf = true → s.hostLoads = true → s.rd BOT_HOST_GO = 1 →
    Completes (.imageCheck img) s fun t =>
      (∀ st, s.imageBad ((img.getD []).map (· % 256)) = some st →
        Only [BOT_BOOT_STATUS.one, BOT_HOST_GO.one] s t ∧ t.rd BOT_BOOT_STATUS = st % 16 ∧ t.rd BOT_HOST_GO = 0)
      ∧ (s.imageBad ((img.getD []).map (· % 256)) = none → t = (s.wr BOT_HOST_GO 0).takeImage 3 ((img.getD []).map (· % 256))))
  ∧ (∀ (img : Option (List Nat)) (s : State), s.wf = true → s.mode = .boot → s.boot.tested = true → s.bootSrc = 2 →
    s.rd BOT_BOOT_STATUS ≠ 8 → s.fifoFull = true → Completes (.imageCheck img) s fun t =>
      (∀ st, s.imageBad s.fifoBytes = some st →
        Only [BOT_BOOT_STATUS.one] { s with boot := { s.boot with fifo := [] } } t ∧ t.rd BOT_BOOT_STATUS = st % 16)
      ∧ (s.imageBad s.fifoBytes = none → t = s.takeImage 3 s.fifoBytes))

/-- The registration record's commit (R450, R452). -/
def Obligations.RecordCommit : Prop :=
  (∀ s : State, s.wf = true → s.rd BOT_REC_GO = 0 → s.dark = false → Completes .recGo s fun t =>
    Only [BOT_REC_GO.one]
      { s with boot := { s.boot with commit := some (s.recTarget, (List.range 956).map fun w => s.rd BOT_REC_STAGE w) } } t
      ∧ t.rd BOT_REC_GO = 1)
  ∧ (∀ (slot : Nat) (body : List Nat) (s : State), s.wf = true → slot < 2 → body.length = 956 → s.boot.commit = some (slot, body) →
    Completes (.recCommitDone 0) s fun t =>
      t.boot.commit = none ∧ t.rd BOT_REC_GO = 0 ∧ t.rd BOT_REC_STATUS = 0 ∧ t.rd BOT_REC_SLOT = slot ∧ t.rd BOT_REC_VALID = 1
      ∧ t.rd BOT_REC_SEQ = (if s.rd BOT_REC_VALID = 0 then 1 else (s.rd BOT_REC_SEQ + 1) % 2 ^ 32)
      ∧ (∀ w, w < 1024 → t.slotWord slot w =
          (recordWords (if s.rd BOT_REC_VALID = 0 then 1 else (s.rd BOT_REC_SEQ + 1) % 2 ^ 32) body).getD w 0 % 2 ^ 32)
      ∧ (∀ w, w < 1024 → t.rd BOT_REC_VIEW w = t.slotWord slot w)
      ∧ ∀ w, t.slotWord (1 - slot) (w % 1024) = s.slotWord (1 - slot) (w % 1024))
  ∧ (∀ (slot status : Nat) (body : List Nat) (s : State), s.wf = true → slot < 2 → s.boot.commit = some (slot, body) → 0 < status →
    status < 5 → Completes (.recCommitDone status) s fun t =>
      Only [BOT_REC_GO.one, BOT_REC_STATUS.one] { s with boot := t.boot } t ∧ t.boot.commit = none
      ∧ t.rd BOT_REC_GO = 0 ∧ t.rd BOT_REC_STATUS = status
      ∧ ∀ w, w < 1024 → t.slotWord (1 - slot) w = s.slotWord (1 - slot) w
        ∧ t.slotWord slot w = (if status = 4 then s.slotWord slot w else 0xFFFFFFFF))

/-- Temperature and wear (R465, R466). The factor is kept to 2^-32 (the model's choice, log 32). -/
def Obligations.TemperatureAndWear : Prop :=
  (∀ (ld hd md0 md1 : Int) (s : State), s.wf = true → s.dark = false →
    (∀ x ∈ [ld, hd, md0, md1], satS 8 x < s.rd FLT_TJ_WARN ∧ x < 120) → Completes (.thermalSample ld hd md0 md1) s fun t =>
      Only [GLB_TJ_LD.one, GLB_TJ_HD.one, GLB_TJ_MD0.one, GLB_TJ_MD1.one, GLB_TJ_PEAK.one] { s with pwr := { s.pwr with warm := false } } t
      ∧ t.rdS GLB_TJ_LD = satS 8 ld ∧ t.rdS GLB_TJ_HD = satS 8 hd ∧ t.rdS GLB_TJ_MD0 = satS 8 md0 ∧ t.rdS GLB_TJ_MD1 = satS 8 md1
      ∧ t.rdS GLB_TJ_PEAK = max (s.rdS GLB_TJ_PEAK) (max (max (satS 8 ld) (satS 8 hd)) (max (satS 8 md0) (satS 8 md1))))
  ∧ (∀ (ld hd md0 md1 : Int) (s : State), s.wf = true → s.dark = false → (125 ≤ ld ∨ 125 ≤ hd ∨ 125 ≤ md0 ∨ 125 ≤ md1) →
    Completes (.thermalSample ld hd md0 md1) s fun t =>
      t.mode = .reset ∧ t.rd GLB_THERM_TRIP = 1 ∧ t.rd BOT_RESET_CAUSE = (s.rd BOT_RESET_CAUSE ||| 1) % 8
      ∧ t.pins.pwrMainEn = false ∧ t.pins.txdisN = false
      ∧ ∀ f i, f.counting = false → (∀ g ∈ resetShown, f.id ≠ g.id) → t.rd f i = f.resetAt i)
  ∧ (∀ (temp : Int) (s : State), s.wf = true → s.mode ≠ .stable → s.pins.vddAon = true → temp ∈ dieTemps.map (fun f => s.rdS f) →
    (∀ x ∈ dieTemps.map (fun f => s.rdS f), x ≤ temp) → Completes .lifeTick s fun t =>
      Only [GLB_LIFE_USED.one] { s with pins := { s.pins with lifeFrac := (s.pins.lifeFrac + lifeRate temp) % 2 ^ 32 } } t
      ∧ t.rd GLB_LIFE_USED = (s.rd GLB_LIFE_USED + (s.pins.lifeFrac + lifeRate temp) / 2 ^ 32) % 2 ^ 32)
  ∧ lifeRate 90 = 2 ^ 32

/-! Modes, sleep, wake and leave (chapter 18) -/

/-- Mode requests (R401): accepted, refused, or held (R36). -/
def Obligations.ModeRequestsJudged : Prop :=
  (∀ s : State, s.wf = true → s.pwr.transit = none → s.rd LTM_FINE_RANGE_REQ = 0 → s.mode = .service → s.queueOpen = true →
    Completes .modeReqGraze s fun t =>
      Only [PWR_MODE_REQ.one] { s with pwr := { s.pwr with grazeReq := some s.now }, up := t.up } t ∧ t.rd PWR_MODE_REQ = 0
      ∧ Queued 0x21 [s.rd PWR_GRAZE_N * 2 ^ 21] s t)
  ∧ (∀ s : State, s.wf = true → s.pwr.transit = none → s.rd LTM_FINE_RANGE_REQ = 0 → (s.mode = .listen ∨ s.mode = .graze) →
    s.rd PWR_WAKE_EN ≠ 0 → Completes .modeReqStable s fun t =>
      Only [PWR_MODE_REQ.one, PWR_IN_TRANSIT.one, PWR_WAKE_LATCH.one] { s with pwr := { s.pwr with transit := some .stable } } t
      ∧ t.rd PWR_MODE_REQ = 0 ∧ t.rd PWR_IN_TRANSIT = 1 ∧ t.rd PWR_WAKE_LATCH = 0)
  ∧ (∀ s : State, s.wf = true → s.pwr.transit = none → s.rd LTM_FINE_RANGE_REQ = 0 → s.mode = .service → s.rd PWR_WAKE_EN ≠ 0 →
    s.queueOpen = true → Completes .modeReqStable s fun t =>
      Only [PWR_MODE_REQ.one, PWR_IN_TRANSIT.one, PWR_WAKE_LATCH.one]
        { s with pwr := { s.pwr with transit := some .stable, notice := some (s.now, some s.up.umSeq) }, up := t.up } t
      ∧ t.rd PWR_MODE_REQ = 0 ∧ t.rd PWR_IN_TRANSIT = 1 ∧ t.rd PWR_WAKE_LATCH = 0 ∧ Queued 0x23 [0] s t)
  ∧ (∀ s : State, s.wf = true → s.pwr.transit = none → s.rd LTM_FINE_RANGE_REQ = 0 → s.mode = .graze →
    Completes .modeReqWake s fun t =>
      Only [PWR_MODE_REQ.one] { s with pwr := { s.pwr with wake := setBit s.pwr.wake wkTimer } } t ∧ t.rd PWR_MODE_REQ = 0)
  ∧ (∀ (c : Instr) (v : Nat) (s : State), s.wf = true →
    ((c = .modeReqGraze ∧ v = 1) ∨ (c = .modeReqStable ∧ v = 2) ∨ (c = .modeReqWake ∧ v = 3)) → s.pwr.transit = none →
    (s.rd LTM_FINE_RANGE_REQ ≠ 0 ∨ (v = 1 ∧ s.mode ≠ .service) ∨ (v = 3 ∧ s.mode ≠ .graze)
      ∨ (v = 2 ∧ (s.rd PWR_WAKE_EN = 0 ∨ (s.mode ≠ .listen ∧ s.mode ≠ .service ∧ s.mode ≠ .graze)))) →
    Completes c s fun t => Only [PWR_MODE_REQ.one, PWR_REQ_REFUSED.one] s t ∧ t.rd PWR_MODE_REQ = 0 ∧ t.rd PWR_REQ_REFUSED = 1)
  ∧ (∀ (c : Instr) (v : Nat) (s : State), s.wf = true →
    ((c = .modeReqGraze ∧ v = 1) ∨ (c = .modeReqStable ∧ v = 2) ∨ (c = .modeReqWake ∧ v = 3)) → s.pwr.transit ≠ none →
    Completes c s fun t => Only [PWR_MODE_REQ.one] s t ∧ t.rd PWR_MODE_REQ = v)

/-- The answer to a GRAZE request (R139, R408). -/
def Obligations.GrazeAnswered : Prop :=
  (∀ (r : Rec) (b : Nat) (s : State), s.wf = true → s.takesMessage 0x0B r = true → s.effBoundary (msgOf r).effWord = some b →
    s.pwr.grazeReq ≠ none → bits (msgWord (msgOf r) 0) 31 30 = 0 → Completes (.grazeAck r) s fun t =>
      Only [FRM_REC_OK.one]
        { s with
          rx := t.rx, join := t.join
          pwr := { s.pwr with grazeReq := none, grazeAck := some (b, bits (msgWord (msgOf r) 0) 29 19, bits (msgWord (msgOf r) 0) 18 8) } } t
      ∧ PastRecord r s t ∧ t.keptIs (s.ownTid (recTid r)) 0x0B (msgOf r).seq = true)
  ∧ (∀ (r : Rec) (s : State), s.wf = true → s.takesMessage 0x0B r = true → s.pwr.grazeReq ≠ none →
    bits (msgWord (msgOf r) 0) 31 30 = 1 → Completes (.grazeAck r) s fun t =>
      Only [FRM_REC_OK.one, UPB_MSG_OK.one, PWR_GRAZE_FAIL.one]
        { s with rx := t.rx, join := t.join, pwr := { s.pwr with grazeReq := none } } t
      ∧ t.rd PWR_GRAZE_FAIL = 1 ∧ t.rd UPB_MSG_OK = (s.rd UPB_MSG_OK + 1) % 2 ^ 32)
  ∧ (∀ (r : Rec) (s : State), s.wf = true → s.takesMessage 0x0B r = true → s.pwr.grazeReq = none →
    Completes (.grazeAck r) s fun t =>
      Only [FRM_REC_OK.one, UPB_MSG_LATE.one] { s with rx := t.rx, join := t.join } t
      ∧ t.rd UPB_MSG_LATE = (s.rd UPB_MSG_LATE + 1) % 2 ^ 32)
  ∧ (∀ (q : Nat) (s : State), s.wf = true → s.pwr.grazeReq = some q → Completes .grazeAckTimeout s fun t =>
      Only [LTM_HOLD_MF.one, PWR_GRAZE_FAIL.one] { s with time := t.time, pwr := { s.pwr with grazeReq := none } } t
      ∧ t.now = max s.now (q + 200 * msTicks) ∧ t.rd PWR_GRAZE_FAIL = 2)

/-- GRAZE (R403, R407, R412). -/
def Obligations.GrazeEnteredAndLeft : Prop :=
  (∀ (c : Instr) (s : State), (c = .grazeEntry ∨ c = .modeTransitionComplete) → s.wf = true → s.pwr.transit = some .graze →
    s.inAir = false → Completes c s fun t =>
      t.mode = .graze ∧ t.rd UPB_TX_GATED = 1 ∧ t.pwr.leaves = []
      ∧ (s.rd LTM_STATE = ltLocked → t.rd LTM_STATE = ltHoldover)
      ∧ (s.rd PWR_WAKE_LATCH = 0 → s.rd PWR_MODE_REQ = 0 →
          t.pwr.transit = none ∧ t.rd PWR_IN_TRANSIT = 0 ∧ (s.rd CAV_STATE = cavReady → t.rd CAV_STATE = cavRefresh))
      ∧ (s.rd PWR_WAKE_LATCH ≠ 0 → t.pwr.transit = some (if s.join.toListen then .listen else .service)
          ∧ t.rd PWR_WAKE_CAUSE = s.rd PWR_WAKE_LATCH % 64 ∧ t.rd PWR_EARLY_WAKE = (s.rd PWR_EARLY_WAKE + 1) % 2 ^ 32))
  ∧ (∀ s : State, s.wf = true → s.mode = .graze → s.pwr.transit = none → s.pwr.wake ≠ 0 → s.join.toListen = false →
    Completes .grazeExit s fun t =>
      t.mode = .graze ∧ t.pwr.transit = some .service ∧ t.rd PWR_IN_TRANSIT = 1 ∧ t.rd PWR_WAKE_CAUSE = s.pwr.wake % 64
      ∧ t.pwr.wake = 0 ∧ (s.rd CAV_STATE = cavRefresh → t.rd CAV_STATE = cavReady))
  ∧ (∀ s : State, s.wf = true → s.pwr.transit = some .service → s.join.toListen = false → s.rd LTM_STATE = ltLocked →
    s.rd PWR_MODE_REQ = 0 → Completes .modeTransitionComplete s fun t =>
      t.mode = .service ∧ t.pwr.transit = none ∧ t.rd PWR_IN_TRANSIT = 0 ∧ t.up.wakeFlag = true)
  ∧ (∀ s : State, s.wf = true → s.pwr.transit = some .graze → s.inAir = false → Completes .grazeEntry s fun t =>
      t.mode = .graze ∧ t.rd UPB_TX_GATED = 1 ∧ t.pwr.leaves = [] ∧ (s.rd LTM_STATE = ltLocked → t.rd LTM_STATE = ltHoldover))

/-- Wakes of GRAZE (R404 to R406). -/
def Obligations.GrazeWakes : Prop :=
  (∀ (e : Nat) (s : State), s.wf = true → s.mode = .graze → s.pwr.awake = false → s.pwr.transit = none → s.pwr.grazeE = some e →
    Completes .grazeWakePowerup s fun t =>
      t.rd PWR_WAKES = (s.rd PWR_WAKES + 1) % 2 ^ 32 ∧ t.now = max s.now ((s.nextWake e).2 - 500 * usTicks)
      ∧ t.pwr = { s.pwr with grazeK := (s.nextWake e).1 + 1, awake := true, mapDone := false, sleepDue := false } ∧ t.mode = .graze)
  ∧ (∀ (r : Rec) (p : Nat) (s : State), s.wf = true → s.hears = true → s.wakeWindow = true → s.pwr.transit = none → s.pwr.wake = 0 →
    s.rx.first = true → s.parserOn = true → (s.chain ctlStream).ptr = none → (s.chain ctlStream).place = some p →
    recType r = 1 → recHeadOk r = true → recBodyOk r = true → s.addressed (recTid r) = true → recEnd p r ≤ s.ctlBytes → s.rd LTM_STATE = ltLocked →
    recEnd p r ≤ (frameRange s.symPerSlot 0 1 0).2 → s.mapNames r.body = false → Completes (.wakeMap r) s fun t =>
      t.pwr.awake = false ∧ t.rd LTM_STATE = ltHoldover ∧ t.rd PWR_MAP_HITS = s.rd PWR_MAP_HITS ∧ t.pwr.wake = 0)
  ∧ (∀ (r : Rec) (p : Nat) (s : State), s.wf = true → s.hears = true → s.wakeWindow = true → s.pwr.transit = none → s.pwr.wake = 0 →
    s.rx.first = true → s.parserOn = true → (s.chain ctlStream).ptr = none → (s.chain ctlStream).place = some p →
    recType r = 1 → recHeadOk r = true → recBodyOk r = true → s.addressed (recTid r) = true → recEnd p r ≤ s.ctlBytes → s.rd LTM_STATE = ltLocked →
    ((frameRange s.symPerSlot 0 1 0).2 < recEnd p r ∨ s.mapNames r.body = true) → Completes (.wakeMap r) s fun t =>
      Only [FRM_REC_OK.one, PWR_MAP_HITS.one] { s with rx := t.rx, pwr := { s.pwr with mapDone := true, wake := 2 ^ wkMap } } t
      ∧ t.rd PWR_MAP_HITS = (s.rd PWR_MAP_HITS + 1) % 2 ^ 32)
  ∧ (∀ (e : Nat) (s : State), s.wf = true → s.pwr.grazeE = some e → s.rd PWR_GRAZE_TMO ≠ 0 → s.mode = .graze → s.pwr.transit = none →
    Completes .grazeTimer s fun t =>
      Only [LTM_HOLD_MF.one] { s with time := t.time, pwr := { s.pwr with wake := setBit s.pwr.wake wkTimer } } t
      ∧ t.now = max s.now (e + s.rd PWR_GRAZE_TMO * mfTicks))

/-- STABLE (R409 to R412). -/
def Obligations.StableEnteredAndLeft : Prop :=
  (∀ (c : Instr) (s : State), (c = .stableEntry ∨ c = .modeTransitionComplete) → s.wf = true → s.pwr.transit = some .stable →
    s.pwr.notice = none → s.up.bursts = [] → s.up.disc = none → s.rd PWR_MODE_REQ = 0 → Completes c s fun t =>
      t.mode = .stable ∧ t.cip.keys = [] ∧ t.rd PWR_STABLE_IN = 1 ∧ t.pins.txdisN = false
      ∧ (s.rd PWR_WAKE_LATCH = 0 → t.pwr.transit = none ∧ t.pins.pwrMainEn = false)
      ∧ (s.rd PWR_WAKE_LATCH ≠ 0 → t.pwr.transit = some .listen ∧ t.pins.pwrMainEn = true
          ∧ t.rd PWR_WAKE_CAUSE = s.rd PWR_WAKE_LATCH % 64))
  ∧ (∀ (q : Nat) (n : Option Nat) (s : State), s.wf = true → s.pwr.notice = some (q, n) → Completes .leaveWaitExpiry s fun t =>
      Only [LTM_HOLD_MF.one] { s with time := t.time, pwr := { s.pwr with notice := none } } t
      ∧ t.now = max s.now (q + s.rd PWR_LEAVE_WAIT * msTicks))
  ∧ (∀ s : State, bit (s.rd PWR_WAKE_EN) wkTone = true → s.mode = .stable → s.pwr.transit = none → Completes .toneDetect s fun t =>
      t = { s with pwr := { s.pwr with wake := setBit s.pwr.wake wkTone } })
  ∧ (∀ s : State, s.wf = true → bit (s.rd PWR_WAKE_EN) wkTone = true → s.pwr.transit = some .stable → Completes .toneDetect s fun t =>
      Only [PWR_WAKE_LATCH.one] s t ∧ t.rd PWR_WAKE_LATCH = setBit (s.rd PWR_WAKE_LATCH) wkTone % 64)
  ∧ (∀ s : State, s.wf = true → s.pins.sd = false → bit (s.rd PWR_WAKE_EN) wkSd = true → s.mode = .stable → s.pwr.transit = none →
    Completes (.sdChange true true) s fun t =>
      t = { s with
        pins := { s.pins with sd := true }, rx := { s.rx with sdHighSince := s.now }, pwr := { s.pwr with wake := setBit s.pwr.wake wkSd } })
  ∧ (∀ s : State, s.wf = true → s.mode = .stable → s.pwr.transit = none → s.pwr.wake ≠ 0 → Completes .stableExit s fun t =>
      Only [PWR_IN_TRANSIT.one, PWR_WAKE_CAUSE.one]
        { s with
          pwr := { s.pwr with transit := some .listen, wake := 0, exitAt := some s.now }, pins := { s.pins with pwrMainEn := true } } t
      ∧ t.rd PWR_IN_TRANSIT = 1 ∧ t.rd PWR_WAKE_CAUSE = s.pwr.wake % 64)
  ∧ (∀ s : State, s.wf = true → s.pwr.transit = some .listen → s.inAir = false → (s.mode = .stable → s.pins.pgood = true) →
    s.rd PWR_MODE_REQ = 0 → Completes .modeTransitionComplete s fun t =>
      t.mode = .listen ∧ t.pwr.transit = none ∧ t.rd PWR_IN_TRANSIT = 0 ∧ t.join.toListen = false)
  ∧ (∀ s : State, s.wf = true → s.mode = .listen → s.pwr.transit = none → s.rd CAV_STATE = cavRefresh → s.cave.waiters = [] →
    Completes .caveStateReload s fun t =>
      Only [CAV_STATE.one, DDR_TRAIN_STATE.any] s t ∧ t.rd CAV_STATE = cavReady
      ∧ ∀ ch, ch < 16 → t.rd DDR_TRAIN_STATE ch = (if s.rd DDR_TRAIN_STATE ch = 4 then 2 else s.rd DDR_TRAIN_STATE ch))
  ∧ (∀ s : State, s.wf = true → s.pwr.transit = some .stable → s.pwr.notice = none → s.up.bursts = [] → s.up.disc = none → s.rd PWR_MODE_REQ = 0 →
    Completes .stableEntry s fun t => t.mode = .stable ∧ t.cip.keys = [] ∧ t.rd PWR_STABLE_IN = 1 ∧ t.pins.txdisN = false)

/-- The governor (R413, R414). The dies' shares are free values (log 1). -/
def Obligations.LeaveAgainstBudget : Prop :=
  (∀ (cls region block watts : Nat) (s : State), s.wf = true → cls < 6 → s.dark = false →
    Completes (.leaveRequest [⟨cls, region, block, watts⟩]) s fun t =>
      if s.entering = false ∧ s.tooWarm = false ∧ s.blockFaulted ⟨cls, leavePowerOf cls watts, region, block⟩ = false
          ∧ s.basePower + s.allotPower + s.leavePower + leavePowerOf cls watts ≤ s.budget then
        Only [PWR_LC_GRANTED.one cls, PWR_LEAVE_HELD.one, PWR_LC_HELD.one cls]
          { s with pwr := { s.pwr with
              leaves := s.pwr.leaves ++ [⟨cls, leavePowerOf cls watts, region, block⟩]
              shares := if leavePowerOf cls watts ≤ s.shareOf region then
                  putAt s.pwr.shares (dieOf region) (s.shareOf region - leavePowerOf cls watts) else s.pwr.shares } } t
        ∧ t.rd PWR_LC_GRANTED cls = (s.rd PWR_LC_GRANTED cls + 1) % 2 ^ 32
        ∧ t.leavePower = s.leavePower + leavePowerOf cls watts
      else Only [PWR_LC_REFUSED.one cls] s t ∧ t.rd PWR_LC_REFUSED cls = (s.rd PWR_LC_REFUSED cls + 1) % 2 ^ 32)
  ∧ (∀ (a b : LeaveReq) (s : State), s.wf = true → a.cls < 6 → b.cls < 6 → a.cls ≠ b.cls → s.dark = false →
    ((s.order rtGov 6).filter fun c => c == a.cls || c == b.cls) = [a.cls, b.cls] → s.shareOf a.region < leavePowerOf a.cls a.watts → s.shareOf b.region < leavePowerOf b.cls b.watts →
    s.entering = false → s.tooWarm = false → s.pwr.faulted = [] →
    s.basePower + s.allotPower + s.leavePower + leavePowerOf a.cls a.watts ≤ s.budget →
    s.budget < s.basePower + s.allotPower + s.leavePower + leavePowerOf a.cls a.watts + leavePowerOf b.cls b.watts →
    Completes (.leaveRequest [b, a]) s fun t =>
      t.pwr.leaves = s.pwr.leaves ++ [⟨a.cls, leavePowerOf a.cls a.watts, a.region, a.block⟩]
      ∧ t.rd PWR_LC_GRANTED a.cls = (s.rd PWR_LC_GRANTED a.cls + 1) % 2 ^ 32
      ∧ t.rd PWR_LC_REFUSED b.cls = (s.rd PWR_LC_REFUSED b.cls + 1) % 2 ^ 32)
  ∧ (∀ (cls region block : Nat) (s : State), s.wf = true → cls < 6 → Completes (.leaveReturn cls region block) s fun t =>
      Only [PWR_LEAVE_HELD.one, PWR_LC_HELD.one cls] { s with pwr := { s.pwr with leaves := t.pwr.leaves } } t
      ∧ t.pwr.leaves = s.pwr.leaves.filter (fun l => !(l.cls == cls && l.region == region && l.block == block))
      ∧ t.rd PWR_LEAVE_HELD = t.leavePower / 10 % 2 ^ 16)
  ∧ (∀ s : State, s.dark = false → Completes .dieShareRefresh s fun t =>
      t = { s with freeCtr := s.freeCtr + 4, pwr := { s.pwr with shares :=
        [(Config.freeValue s.freeCtr).toNat, (Config.freeValue (s.freeCtr + 1)).toNat,
         (Config.freeValue (s.freeCtr + 2)).toNat, (Config.freeValue (s.freeCtr + 3)).toNat] } })

/-! Line time: boundaries, buffered configuration, launches (chapter 02) -/

/-- Boundaries (R1, R46, R48). -/
def Obligations.BoundariesOnTheGrid : Prop :=
  (∀ s : State, s.wf = true → s.dark = false → s.seals = [] → s.flt.freezePend = none → Completes .slotBoundary s fun t =>
    Only [LTM_HOLD_MF.one] { s with time := t.time } t ∧ t.now = nextEdge slotTicks s.now s.time.lastSlot
    ∧ t.time.lastSlot = some t.now ∧ t.now % slotTicks = 0 ∧ s.now ≤ t.now ∧ t.now ≤ s.now + slotTicks)
  ∧ (∀ (clip : Nat) (rms : List (Nat × Nat)) (s : State), s.wf = true → s.dark = false → s.seals = [] → s.time.step = none → s.time.eqdLoad = none →
    s.join.acts = [] → s.rx.met = [] → s.rdS LTM_EQD_PEND ≠ 0 → s.rd FKL_ROLE = 0 →
    0 ≤ (s.rd LTM_EQD : Int) + clampI (-4194) 4194 (s.rdS LTM_EQD_PEND) → (s.rd LTM_EQD : Int) + clampI (-4194) 4194 (s.rdS LTM_EQD_PEND) < 2 ^ 32 →
    Completes (.frameBoundary clip rms) s fun t =>
      t.now = nextEdge frameTicks s.now s.time.lastFrame ∧ t.time.lastFrame = some t.now ∧ t.now % frameTicks = 0
      ∧ (s.quietAt t.now = true → (t.rd LTM_EQD : Int) = s.rd LTM_EQD + clampI (-4194) 4194 (s.rdS LTM_EQD_PEND)
          ∧ t.rdS LTM_EQD_PEND = s.rdS LTM_EQD_PEND - clampI (-4194) 4194 (s.rdS LTM_EQD_PEND)
          ∧ t.rd LTM_EQD_APPLIED = (s.rd LTM_EQD_APPLIED + 1) % 2 ^ 32)
      ∧ (s.quietAt t.now = false → t.rd LTM_EQD = s.rd LTM_EQD ∧ t.rd LTM_EQD_PEND = s.rd LTM_EQD_PEND
          ∧ t.rd LTM_EQD_DEFERRED = (s.rd LTM_EQD_DEFERRED + 1) % 2 ^ 32))
  ∧ (∀ (snr : List (Nat × Nat)) (s : State), s.wf = true → s.dark = false → s.rd LTM_STATE ≠ ltFree → s.rd LTM_STATE ≠ ltAcq →
    s.seals = [] → s.join.pend = [] → Completes (.multiframeBoundary snr) s fun t =>
      t.now = nextEdge mfTicks s.now s.time.lastMf ∧ t.time.lastMf = some t.now ∧ t.now % mfTicks = 0
      ∧ ∀ c, c < 32 → t.rd LRX_SNR_VALID c = b2n (snr.any fun e => e.1 == c)
        ∧ ∀ v, (snr.find? fun e => e.1 == c) = some (c, v) → t.rd LRX_SNR c = v % 2 ^ LRX_SNR.w)
  ∧ (∀ (a0 a1 a2 a3 : Nat) (s : State), s.wf = true → s.dark = false → s.rd LTM_STATE ≠ ltFree → s.rd LTM_STATE ≠ ltAcq →
    s.seals = [] → (s.mode = .listen ∨ s.mode = .join ∨ s.mode = .service) → Completes (.superframeBoundary [a0, a1, a2, a3]) s fun t =>
      t.now = nextEdge sfTicks s.now s.time.lastSf ∧ t.time.lastSf = some t.now ∧ t.rd CIP_MISMATCH_SF = 0
      ∧ t.rd GLB_AGE_LD = a0 % 256 ∧ t.rd GLB_AGE_HD = a1 % 256 ∧ t.rd GLB_AGE_MD0 = a2 % 256 ∧ t.rd GLB_AGE_MD1 = a3 % 256
      ∧ t.rd GLB_AGE_LT = t.now % 2 ^ 32)
  ∧ (∀ (pg req g : Nat) (s : State), s.wf = true → pg < 64 → s.rd LTM_STATE ≠ ltFree → s.rd LTM_STATE ≠ ltAcq → s.now ≤ g →
    s.seals = [{ page := pg, kind := bkAtLt, req := req, target := some g, taken := none, fields := [] }] → Completes .atLtApply s fun t =>
      Only [LTM_HOLD_MF.one, C_APPLY_REQ.one pg, C_APPLY_PENDING.one pg, C_APPLY_COUNT.one pg] { s with time := t.time, seals := [] } t
      ∧ t.now = g ∧ t.rd C_APPLY_PENDING pg = 0 ∧ t.rd C_APPLY_COUNT pg = (s.rd C_APPLY_COUNT pg + 1) % 2 ^ 16)

/-- Buffered configuration (R49 to R52). The field is one that is not among those whose block acts on the change. -/
def Obligations.SealedAndApplied : Prop :=
  (∀ (pg bd : Nat) (s : State), s.wf = true → pg < 64 → hasApply pg = true → s.sealOf pg = none → bd < 6 → listsKind pg bd = true →
    Completes (.applyReq pg bd) s fun t =>
      Only [C_APPLY_BOUNDARY.one pg, C_APPLY_REQ.one pg, C_APPLY_PENDING.one pg, C_AT_LT_FAR.one pg]
        { s with shadow := s.shadow.filter (fun f => f.page != pg), seals := t.seals } t
      ∧ t.rd C_APPLY_PENDING pg = 1 ∧ t.rd C_APPLY_REQ pg = 1 ∧ t.rd C_APPLY_BOUNDARY pg = bd
      ∧ t.seals = s.seals ++ [{ page := pg, kind := bd, req := s.now, taken := none, fields := s.shadow.filter (fun f => f.page == pg)
                                target := if bd = bkAtLt then some (atLtTarget (s.now + 131072) (s.rd C_APPLY_LT pg)) else none }]
      ∧ s.now + 131072 ≤ atLtTarget (s.now + 131072) (s.rd C_APPLY_LT pg) ∧ atLtTarget (s.now + 131072) (s.rd C_APPLY_LT pg) < s.now + 131072 + 2 ^ 32
      ∧ atLtTarget (s.now + 131072) (s.rd C_APPLY_LT pg) % 2 ^ 32 = s.rd C_APPLY_LT pg % 2 ^ 32
      ∧ (bd = bkAtLt → s.now + 2 ^ 31 < atLtTarget (s.now + 131072) (s.rd C_APPLY_LT pg) → t.rd C_AT_LT_FAR pg = 1))
  ∧ (∀ (x : Sealed) (s : State), s.wf = true → s.seals = [x] → x.taken = none → x.marked = false →
    (x.kind ≠ bkPacket ∨ s.now < x.req + 131072) → Completes (.applyCancel x.page) s fun t =>
      Only [C_APPLY_REQ.one x.page, C_APPLY_PENDING.one x.page] { s with seals := [] } t
      ∧ t.rd C_APPLY_REQ x.page = 0 ∧ t.rd C_APPLY_PENDING x.page = 0)
  ∧ (∀ (pg i v req : Nat) (f : Fld) (s : State), s.wf = true → pg < 64 → f ∈ [TIM_ASYM, QSH_UQ_LEVEL, QSH_UQ_QUANTUM] → i < 16 →
    s.seals = [{ page := pg, kind := bkSlot, req := req, target := none, taken := none, fields := [{ page := pg, key := f.key i, val := v, ap := .page }] }] →
    s.dark = false → s.mode ≠ .graze → s.flt.freezePend = none → pg ≠ 35 → req + 131072 ≤ nextEdge slotTicks s.now s.time.lastSlot →
    Completes .slotBoundary s fun t =>
      Only [LTM_HOLD_MF.one, f.one i, C_APPLY_REQ.one pg, C_APPLY_PENDING.one pg, C_APPLY_COUNT.one pg]
        { s with time := t.time, seals := [] } t
      ∧ t.rd f i = v % 2 ^ f.w ∧ t.rd C_APPLY_PENDING pg = 0 ∧ t.rd C_APPLY_COUNT pg = (s.rd C_APPLY_COUNT pg + 1) % 2 ^ 16)
  ∧ (∀ (pg i v req g : Nat) (f : Fld) (s : State), s.wf = true → pg < 64 → f ∈ [TIM_ASYM, QSH_UQ_LEVEL, QSH_UQ_QUANTUM] → i < 16 →
    s.seals = [{ page := pg, kind := bkAtLt, req := req, target := some g, taken := none, fields := [{ page := pg, key := f.key i, val := v, ap := .page }] }] →
    s.mode ≠ .graze → pg ≠ 35 → s.rd LTM_STATE ≠ ltFree → s.rd LTM_STATE ≠ ltAcq → s.now ≤ g →
    Completes .atLtApply s fun t =>
      Only [LTM_HOLD_MF.one, f.one i, C_APPLY_REQ.one pg, C_APPLY_PENDING.one pg, C_APPLY_COUNT.one pg]
        { s with time := t.time, seals := [] } t
      ∧ t.now = g ∧ t.rd f i = v % 2 ^ f.w ∧ t.rd C_APPLY_PENDING pg = 0)
  ∧ (∀ (lane i v req : Nat) (f : Fld) (rest : List LaneItem) (s : State), s.wf = true → f ∈ [QSH_UQ_LEVEL, QSH_UQ_QUANTUM] → i < 16 → lane < 19 →
    s.seals = [{ page := 14, kind := bkPacket, req := req, target := none, taken := none, fields := [{ page := 14, key := f.key i, val := v, ap := .page }], marked := true }] →
    (s.lane lane).items = .marker 14 :: rest → s.markerHeldBack lane = false → (s.setLane lane { s.lane lane with items := rest }).markerHeld 14 = false → s.mode ≠ .graze →
    Completes (.applyMarkerPass 14 lane) s fun t =>
      Only [f.one i, C_APPLY_REQ.one 14, C_APPLY_PENDING.one 14, C_APPLY_COUNT.one 14] { s with pk := t.pk, seals := [] } t
      ∧ (t.lane lane).items = rest ∧ t.rd f i = v % 2 ^ f.w ∧ t.rd C_APPLY_PENDING 14 = 0)

/-- The end of a commit (R198). -/
def Obligations.ClassifierCommit : Prop :=
  (∀ (v c req : Nat) (s : State), s.wf = true → v < 4 → c < 4 → v ≠ c → s.vstate v = vsStaging → s.verIn vsCurrent = some c →
    s.rd CLS_VSTATE < 256 → s.mode ≠ .graze →
    s.seals = [{ page := 13, kind := bkPacket, req := req, target := none, taken := none
                 fields := [{ page := 13, key := CLS_CUR_VER.key 0, val := v, ap := .packet }], marked := true }] →
    s.markerHeld 13 = false → Completes .commitComplete s fun t =>
      Only [CLS_VSTATE.one, CLS_CUR_VER.one, CLS_STAGE_VALID.one, C_APPLY_REQ.one 13, C_APPLY_PENDING.one 13, C_APPLY_COUNT.one 13]
        { s with seals := [] } t
      ∧ t.vstate v = vsCurrent ∧ t.vstate c = vsDraining ∧ (∀ x, x < 4 → x ≠ v → x ≠ c → t.vstate x = s.vstate x)
      ∧ t.rd CLS_CUR_VER = v ∧ t.rd CLS_STAGE_VALID = 0 ∧ t.rd C_APPLY_PENDING 13 = 0)
  ∧ (∀ s : State, s.wf = true → s.sealOf 13 = none → Completes (.applyReq 13 bkPacket) s fun t =>
      Only [C_APPLY_BOUNDARY.one 13, C_APPLY_REQ.one 13, C_APPLY_PENDING.one 13]
        { s with shadow := s.shadow.filter (fun f => f.page != 13), seals := t.seals } t
      ∧ t.rd C_APPLY_PENDING 13 = 1 ∧ t.rd C_APPLY_BOUNDARY 13 = bkPacket
      ∧ t.seals = s.seals ++ [{ page := 13, kind := bkPacket, req := s.now, target := none, taken := none
                                fields := s.shadow.filter (fun f => f.page == 13) }])
  ∧ (∀ (req : Nat) (fs : List Shad) (s : State), s.wf = true → s.now < req + 131072 →
    s.seals = [{ page := 13, kind := bkPacket, req := req, target := none, taken := none, fields := fs }] → Completes (.applyCancel 13) s fun t =>
      Only [C_APPLY_REQ.one 13, C_APPLY_PENDING.one 13] { s with seals := [] } t ∧ t.rd C_APPLY_PENDING 13 = 0)
  ∧ (∀ (lane req : Nat) (fs : List Shad) (rest : List LaneItem) (s : State), lane < 19 →
    s.seals = [{ page := 13, kind := bkPacket, req := req, target := none, taken := none, fields := fs, marked := true }] →
    (s.lane lane).items = .marker 13 :: rest → s.markerHeldBack lane = false → Completes (.applyMarkerPass 13 lane) s fun t =>
      t = s.setLane lane { s.lane lane with items := rest })

/-- Holdover, monitors, PROFILE_SET (R27, R34, R39, R40, R167). -/
def Obligations.HoldoverAndMonitors : Prop :=
  (∀ (h : Nat) (s : State), s.wf = true → s.time.holdStart = some h → s.rd LTM_STATE = ltHoldover → Completes .ltHoldoverExpiry s fun t =>
      t.rd LTM_STATE = ltFree ∧ t.launchOk = false ∧ t.now = max s.now (h + 10 * sfTicks) ∧ t.up.cal = []
      ∧ (s.mode = .join → t.mode = .listen ∧ t.rd UPB_FAIL_CAUSE = 6 ∧ t.rd UPB_JOIN_EN = 0)
      ∧ (s.mode ≠ .join → s.rd UPB_REGISTERED = 1 → t.rd UPB_REGISTERED = 0 ∧ t.rd UPB_DEREG_CAUSE = 0xFF ∧ t.rd UPB_TID_VALID = 0 ∧ t.rd LTM_EQD = 0))
  ∧ (∀ s : State, s.wf = true → s.rd LTM_FINE_RANGE_REQ = 0 → s.rd LTM_STATE = ltHoldover → s.time.holdTicks ≤ 2 * sfTicks →
    Completes .fineRangeReq s fun t =>
      Only [LTM_HOLD_MF.one, LTM_FINE_RANGE_REQ.one] { s with time := t.time } t ∧ t.rd LTM_FINE_RANGE_REQ = 1
      ∧ t.now = s.now + (2 * sfTicks + 1 - s.time.holdTicks) ∧ 2 * sfTicks < t.time.holdTicks)
  ∧ (∀ (d n : Nat) (s : State), s.wf = true → d < 60 → d ≠ 57 → d ≠ 58 → s.domainEnabled d = true →
    s.freshRecord n cClkStop (domainRegion d) = true → s.rd C_MASK_CONT (domainPage d) = 0 →
    Completes (.clockMonitorFault d) s fun t => Recorded n cClkStop 0 (srcRegion (domainRegion d)) t
      ∧ t.pwr.leaves = s.pwr.leaves.filter (fun l => !leaveOf (srcRegion (domainRegion d)) l) ∧ t.pins.errN = false
      ∧ (d = 0 → (Defect.los 0, true) ∈ t.rx.met) ∧ (d = 2 → (Defect.los 1, true) ∈ t.rx.met))
  ∧ (∀ (level region cluster n : Nat) (s : State), s.wf = true → level < 5 → region < 32 → cluster < 128 →
    s.freshRecord n cLtSkew region = true → s.rd C_MASK_CORR 6 = 0 →
    Completes (.ltSkew level region cluster) s fun t =>
      Recorded n cLtSkew 0 { level := level, region := region, cluster := cluster } t
      ∧ t.time.skew = s.time.skew ++ [{ level := level, region := region, cluster := cluster }] ∧ t.pwr.leaves = s.pwr.leaves)
  ∧ (∀ (r : Rec) (s : State), s.wf = true → s.takesMessage 0x06 r = true → profileOk (msgOf r) = true → s.queueOpen = true →
    Completes (.profileSet r) s fun t =>
      Queued 0x20 (ackBody 0x06 (msgOf r).seq 0 0) s t ∧ t.up.uReady = 0
      ∧ (t.up.profile.any fun p => p.body == (List.range 7).map (msgWord (msgOf r)) && p.accepted == s.now) = true
      ∧ t.rd UPB_MSG_OK = (s.rd UPB_MSG_OK + 1) % 2 ^ 32)
  ∧ (∀ (r : Rec) (s : State), s.wf = true → s.takesMessage 0x06 r = true → profileOk (msgOf r) = false → s.queueOpen = true →
    Completes (.profileSet r) s fun t =>
      Only [FRM_REC_OK.one] { s with rx := t.rx, up := t.up } t ∧ Queued 0x20 (ackBody 0x06 (msgOf r).seq 4 0) s t)

/-- The launch table (R55 to R58). -/
def Obligations.LaunchTable : Prop :=
  (∀ (n word : Nat) (s : State), s.wf = true → n < 256 → s.rd LTM_LE_ARMED n = 0 → bits word 27 24 ≤ 4 →
    Completes (.launchEntryArm n word) s fun t =>
      Only [LTM_LE_PERIOD.one n, LTM_LE_ACTION.one n, LTM_LE_STATUS.one n, LTM_LE_ARMED.one n, LTM_LAUNCH_REJECT.one] s t
      ∧ t.rd LTM_LE_PERIOD n = bits word 23 8 ∧ t.rd LTM_LE_ACTION n = bits word 27 24
      ∧ (if ltDiff (s.rd64 LTM_LE_TARGET_LO LTM_LE_TARGET_HI n) s.lt64 < 250 * usTicks then
          t.rd LTM_LE_STATUS n = stLate ∧ t.rd LTM_LE_ARMED n = 0 ∧ t.rd LTM_LAUNCH_REJECT = (s.rd LTM_LAUNCH_REJECT + 1) % 2 ^ 32
        else if s.leTarget n % (if bits word 27 24 = 1 ∨ bits word 27 24 = 2 then frameTicks else slotTicks) ≠ 0 then
          t.rd LTM_LE_STATUS n = stMisaligned ∧ t.rd LTM_LE_ARMED n = 0 ∧ t.rd LTM_LAUNCH_REJECT = (s.rd LTM_LAUNCH_REJECT + 1) % 2 ^ 32
        else t.rd LTM_LE_STATUS n = stArmed ∧ t.rd LTM_LE_ARMED n = 1 ∧ t.rd LTM_LAUNCH_REJECT = s.rd LTM_LAUNCH_REJECT))
  ∧ (∀ (n word : Nat) (s : State), s.wf = true → n < 256 → s.rd LTM_LE_ARMED n = 1 → bits word 27 24 ≤ 4 → s.leDue n = false →
    (s.time.firedAt ≠ s.now ∨ n ∉ s.time.fired) → Completes (.launchEntryDisarm n word) s fun t =>
      Only [LTM_LE_ACTION.one n, LTM_LE_STATUS.one n, LTM_LE_ARMED.one n] s t ∧ t.rd LTM_LE_STATUS n = stIdle ∧ t.rd LTM_LE_ARMED n = 0)
  ∧ (∀ (n word : Nat) (s : State), s.wf = true → n < 256 → s.armed = [n] → s.leDue n = true → bits word 27 24 = actInterrupt →
    s.rd LTM_LE_PERIOD n = 0 → Completes (.launchEntryDisarm n word) s fun t =>
      Only [LTM_LE_ACTION.one n, LTM_LE_STATUS.one n, LTM_LE_ARMED.one n, LTM_LAUNCH_TAG.one] { s with time := t.time } t
      ∧ t.now = s.now ∧ t.rd LTM_LE_STATUS n = stFired ∧ t.rd LTM_LE_ARMED n = 0 ∧ t.rd LTM_LAUNCH_TAG = s.rd LTM_LE_ARG n % 256)
  ∧ (∀ (n : Nat) (s : State), s.wf = true → n < 256 → s.rd LTM_STATE ≠ ltFree → s.rd LTM_STATE ≠ ltAcq → s.armed = [n] →
    s.now ≤ s.leTarget n → s.leTarget n < s.now + 2 ^ 62 → s.rd LTM_LE_ACTION n = actInterrupt → Completes .launchEntryFire s fun t =>
      Only [LTM_HOLD_MF.one, LTM_LE_TARGET_LO.one n, LTM_LE_TARGET_HI.one n, LTM_LE_STATUS.one n, LTM_LE_ARMED.one n, LTM_LAUNCH_TAG.one]
        { s with time := t.time } t
      ∧ t.now = s.leTarget n ∧ t.rd LTM_LAUNCH_TAG = s.rd LTM_LE_ARG n % 256
      ∧ (s.rd LTM_LE_PERIOD n = 0 → t.rd LTM_LE_STATUS n = stFired ∧ t.rd LTM_LE_ARMED n = 0)
      ∧ (s.rd LTM_LE_PERIOD n ≠ 0 → t.rd LTM_LE_STATUS n = stArmed ∧ t.rd LTM_LE_ARMED n = s.rd LTM_LE_ARMED n
          ∧ t.rd64 LTM_LE_TARGET_LO LTM_LE_TARGET_HI n = (s.leTarget n + s.rd LTM_LE_PERIOD n * frameTicks) % 2 ^ 64))

/-! Reception and framing (chapters 03 and 04) -/

/-- Acquisition (R83), symbol rate (R63), coefficient banks (R67). That an overrun clears EQ_CONV is a reading (log 12). -/
def Obligations.CarrierAcquires : Prop :=
  (∀ (c : Nat) (s : State), s.wf = true → c < 2 → s.acq c = 1 → Completes (.acqGainSettled c) s fun t =>
    Only [(acqFld c).one] s t ∧ t.acq c = 2)
  ∧ (∀ (c cd : Nat) (s : State), s.wf = true → c < 2 → s.acq c = 2 → s.cdSought c cd = true → Completes (.acqCdFound c cd) s fun t =>
    Only [(acqFld c).one, (if c = 0 then LRX_CD_ACTIVE_A else LRX_CD_ACTIVE_B).one] s t ∧ t.acq c = 3
    ∧ t.rd (if c = 0 then LRX_CD_ACTIVE_A else LRX_CD_ACTIVE_B) = cd % 2 ^ 18)
  ∧ (∀ (c cd : Nat) (s : State), s.rd (hintFld c).2 = 1 → bit s.rx.fullSearch c = false → 5000 < (toS 18 cd - s.rdS (hintFld c).1).natAbs →
    Completes (.acqCdFound c cd) s fun t => t = s)
  ∧ (∀ (c : Nat) (s : State), s.wf = true → c < 2 → s.acq c = 2 → s.rd (if c = 0 then LRX_CD_HINT_A_VALID else LRX_CD_HINT_B_VALID) = 1 →
    Completes (.acqCdHintMiss c) s fun t => Only [] { s with rx := { s.rx with fullSearch := t.rx.fullSearch } } t
      ∧ bit t.rx.fullSearch c = true ∧ ∀ k, k ≠ c → bit t.rx.fullSearch k = bit s.rx.fullSearch k)
  ∧ (∀ (c : Nat) (s : State), s.wf = true → c < 2 → s.acq c = 3 → Completes (.acqFreqAcquired c) s fun t =>
    Only [(acqFld c).one] s t ∧ t.acq c = 4)
  ∧ (∀ (sc : Nat) (s : State), s.wf = true → sc < 32 → 4 ≤ s.acq (sc / 16) → (∀ k, k / 16 = sc / 16 → s.inFrame k = false) →
    Completes (.acqEqConverged sc) s fun t =>
    Only [LRX_EQ_CONV.one sc, (acqFld (sc / 16)).one] s t ∧ t.rd LRX_EQ_CONV sc = 1
    ∧ t.acq (sc / 16) = (if s.acq (sc / 16) = 4 then 5 else s.acq (sc / 16)))
  ∧ (∀ (sc : Nat) (s : State), s.wf = true → sc < 32 → s.acq (sc / 16) = 5 → s.ctrlSc / 16 ≠ sc / 16 →
    (∀ k, k / 16 = sc / 16 → s.inFrame k = true ∧ (k = sc ∨ s.rd LRX_EQ_CONV k = 1)) → Completes (.acqEqConverged sc) s fun t =>
    Only [LRX_EQ_CONV.one sc, (acqFld (sc / 16)).one] { s with rx := { s.rx with stored := t.rx.stored } } t
    ∧ t.acq (sc / 16) = 6 ∧ bit t.rx.stored (sc / 16) = true)
  ∧ (∀ (c : Nat) (s : State), s.wf = true → c < 2 → 1 ≤ s.acq c → s.acq c ≤ 5 → Completes (.acqStateOverrun c) s fun t =>
    t.acq c = 1 ∧ t.rd LRX_ACQ_RETRY = (s.rd LRX_ACQ_RETRY + 1) % 2 ^ LRX_ACQ_RETRY.w
    ∧ ∀ i, i < 16 → t.inFrame (16 * c + i) = false ∧ (t.subOf (16 * c + i)).cands = [] ∧ t.rd LRX_EQ_CONV (16 * c + i) = 0)
  ∧ (∀ (v : Nat) (s : State), s.wf = true → 60000 ≤ v → v ≤ 150000 → v ≠ s.rd LRX_SYM_RATE →
    s.rd LTM_STATE = ltLocked ∨ s.rd LTM_STATE = ltHoldover → Completes (.rsExpectWrite v) s fun t => Only [LRX_RS_EXPECT.one] s t ∧ t.rd LRX_RS_EXPECT = v)
  ∧ (∀ s : State, Completes (.rsExpectWrite (s.rd LRX_SYM_RATE)) s fun t => t = s)
  ∧ (∀ (v : Nat) (s : State), s.wf = true → 60000 ≤ v → v ≤ 150000 → s.rd LTM_STATE = ltFree ∨ s.rd LTM_STATE = ltAcq → v ≠ s.rd LRX_SYM_RATE →
    s.inFrame s.ctrlSc = false → Completes (.rsExpectWrite v) s fun t => t.rd LRX_RS_EXPECT = v ∧ t.rd LRX_SYM_RATE = v
      ∧ t.rd LTM_STATE = s.rd LTM_STATE ∧ ∀ c, c < 2 → t.acq c = (if s.acq c = 0 then 0 else 1))
  ∧ (∀ (vat : Bool) (ch bank w v : Nat) (s : State), s.wf = true → ch < 32 → bank < 2 → w < 52 → Completes (.coefBankWrite vat ch bank w v) s fun t =>
      if s.rd LRX_BANK ch = bank then Only [] s t ∧ t.rd C_INT_STAT 7 = setBit (s.rd C_INT_STAT 7) 5
      else if s.rd LRX_COEF_OWNER = (if vat then 1 else 0) then t = s
      else Only [LRX_COEF.one (256 * ch + 128 * bank + w)] s t ∧ t.rd LRX_COEF (256 * ch + 128 * bank + w) = v % 2 ^ 32)

/-- Frame alignment (R95 to R97). -/
def Obligations.FramesFound : Prop :=
  (∀ (sc pos word at_ h : Nat) (s : State), s.wf = true → sc < 32 → 5 ≤ s.acq (sc / 16) → s.inFrame sc = false → pos < s.framePeriod →
    s.outsideWindow sc pos = false → (∀ x ∈ (s.subOf sc).cands, x.pos ≠ pos) → (s.subOf sc).cands.length < 4 → 2 ≤ s.rd FRM_FAW_N →
    h < 8 → fawDist word h ≤ s.rd FRM_FAW_TOL → (∀ k, k < 8 → k ≠ h → s.rd FRM_FAW_TOL < fawDist word k) →
    Completes (.fawSearchWord sc pos word at_) s fun t =>
      Only [LTM_HOLD_MF.one, FRM_SC_CANDIDATES.one sc] { s with time := t.time, rx := t.rx } t
      ∧ (t.subOf sc).cands = (s.subOf sc).cands ++ [{ pos := pos, hyp := h, count := 1 }]
      ∧ t.rd FRM_SC_CANDIDATES sc = (s.subOf sc).cands.length + 1 ∧ ∀ k, k ≠ sc → t.subOf k = s.subOf k)
  ∧ (∀ (sc word at_ : Nat) (c : Cand) (s : State), s.wf = true → sc < 32 → 5 ≤ s.acq (sc / 16) → s.inFrame sc = false → c.pos < s.framePeriod →
    s.outsideWindow sc c.pos = false → (s.subOf sc).cands = [c] → fawDist word c.hyp ≤ s.rd FRM_FAW_TOL → c.count + 1 < s.rd FRM_FAW_N →
    Completes (.fawSearchWord sc c.pos word at_) s fun t =>
      Only [LTM_HOLD_MF.one, FRM_SC_CANDIDATES.one sc] { s with time := t.time, rx := t.rx } t
      ∧ (t.subOf sc).cands = [{ c with count := c.count + 1 }] ∧ t.rd FRM_SC_CANDIDATES sc = 1)
  ∧ (∀ (sc word at_ : Nat) (c : Cand) (s : State), s.wf = true → sc < 32 → 5 ≤ s.acq (sc / 16) → s.inFrame sc = false → c.pos < s.framePeriod →
    s.outsideWindow sc c.pos = false → (s.subOf sc).cands = [c] → c.hyp < 8 → fawDist word c.hyp ≤ s.rd FRM_FAW_TOL → s.rd FRM_FAW_N ≤ c.count + 1 →
    Completes (.fawSearchWord sc c.pos word at_) s fun t =>
      t.inFrame sc = true ∧ t.rd FRM_SC_HYP sc = c.hyp ∧ (t.subOf sc).pos = c.pos ∧ (t.subOf sc).cands = [] ∧ t.rd FRM_SC_CANDIDATES sc = 0)
  ∧ (∀ (sc word at_ : Nat) (c : Cand) (s : State), s.wf = true → sc < 32 → 5 ≤ s.acq (sc / 16) → s.inFrame sc = false → c.pos < s.framePeriod →
    s.outsideWindow sc c.pos = false → (s.subOf sc).cands = [c] → s.rd FRM_FAW_TOL < fawDist word c.hyp →
    Completes (.fawSearchWord sc c.pos word at_) s fun t =>
      Only [LTM_HOLD_MF.one, FRM_SC_CANDIDATES.one sc, FRM_SC_MIMIC_DROP.one sc] { s with time := t.time, rx := t.rx } t
      ∧ (t.subOf sc).cands = [] ∧ t.rd FRM_SC_MIMIC_DROP sc = (s.rd FRM_SC_MIMIC_DROP sc + 1) % 2 ^ FRM_SC_MIMIC_DROP.w)
  ∧ (∀ (sc word at_ h : Nat) (s : State), s.wf = true → sc < 32 → s.inFrame sc = true → sc ≠ s.ctrlSc → h < 8 → fawDist word h ≤ s.rd FRM_FAW_TOL →
    Completes (.fawInframeWord sc word at_) s fun t =>
      Only [LTM_HOLD_MF.one] { s with time := t.time, rx := t.rx } t ∧ (t.subOf sc).run = 0)
  ∧ (∀ (sc word at_ : Nat) (s : State), s.wf = true → sc < 32 → s.inFrame sc = true → (∀ h, h < 8 → s.rd FRM_FAW_TOL < fawDist word h) →
    (s.subOf sc).run + 1 < s.rd FRM_FAW_M → Completes (.fawInframeWord sc word at_) s fun t =>
      Only [LTM_HOLD_MF.one, FRM_SC_FAW_ERRORED.one sc] { s with time := t.time, rx := t.rx } t
      ∧ (t.subOf sc).run = (s.subOf sc).run + 1 ∧ t.rd FRM_SC_FAW_ERRORED sc = (s.rd FRM_SC_FAW_ERRORED sc + 1) % 2 ^ FRM_SC_FAW_ERRORED.w)
  ∧ (∀ (sc word at_ : Nat) (s : State), s.wf = true → sc < 32 → s.inFrame sc = true → (∀ h, h < 8 → s.rd FRM_FAW_TOL < fawDist word h) →
    s.rd FRM_FAW_M ≤ (s.subOf sc).run + 1 → Completes (.fawInframeWord sc word at_) s fun t =>
      t.inFrame sc = false ∧ t.aligned sc = false ∧ (t.subOf sc).cands = []
      ∧ t.rd FRM_SC_OOF_COUNT sc = (s.rd FRM_SC_OOF_COUNT sc + 1) % 2 ^ FRM_SC_OOF_COUNT.w
      ∧ (sc = s.ctrlSc → s.rd FKL_ROLE ≠ 2 → s.rd LTM_STATE = ltLocked → t.rd LTM_STATE = ltHoldover ∧ t.launchOk = false))

/-- What the streams bring (R74, R91, R94, R99, R100, R102, R186). The names are those of a stand-alone terminal: nothing is relayed. -/
def Obligations.StreamsRead : Prop :=
  (∀ (sc idx corr : Nat) (info : List Nat) (s : State), s.wf = true → sc < 32 → s.rd LRX_ADMITTED sc = 1 ∨ sc = s.ctrlSc → s.inFrame sc = true → s.rd FKL_ROLE = 0 →
    Completes (.blockDecoded sc idx info corr false) s fun t =>
      Only [LRX_BLOCKS_LO.one sc, LRX_BLOCKS_HI.one sc, LRX_CORR_LO.one sc, LRX_CORR_HI.one sc]
        { s with rx := { s.rx with blocks := t.rx.blocks } } t
      ∧ t.rd64 LRX_BLOCKS_LO LRX_BLOCKS_HI sc = (s.rd64 LRX_BLOCKS_LO LRX_BLOCKS_HI sc + 1) % 2 ^ 64
      ∧ t.rd64 LRX_CORR_LO LRX_CORR_HI sc = (s.rd64 LRX_CORR_LO LRX_CORR_HI sc + corr) % 2 ^ 64)
  ∧ (∀ (sc idx corr : Nat) (info : List Nat) (s : State), s.wf = true → sc < 32 → s.rd LRX_ADMITTED sc = 1 ∨ sc = s.ctrlSc → s.inFrame sc = true → s.rd FKL_ROLE = 0 →
    Completes (.blockDecoded sc idx info corr true) s fun t =>
      Only [LRX_BLOCKS_LO.one sc, LRX_BLOCKS_HI.one sc, LRX_UNCORR.one sc] { s with rx := { s.rx with blocks := t.rx.blocks } } t
      ∧ t.rd64 LRX_BLOCKS_LO LRX_BLOCKS_HI sc = (s.rd64 LRX_BLOCKS_LO LRX_BLOCKS_HI sc + 1) % 2 ^ 64
      ∧ t.rd LRX_UNCORR sc = (s.rd LRX_UNCORR sc + 1) % 2 ^ 32)
  ∧ (∀ (sc idx corr sf mf : Nat) (info : List Nat) (uncorr : Bool) (s : State), s.wf = true → sc < 32 → s.rd LRX_ADMITTED sc = 1 → sc ≠ s.ctrlSc →
    s.inFrame sc = true → s.aligned sc = true → s.rd FKL_ROLE = 0 → (s.subOf sc).label = some (sf, mf) →
    idx < mfCoded s.symPerSlot (s.profOf sc) / 12288 → info.length = 1280 → (∀ x ∈ info, x < 256) →
    Completes (.blockDecoded sc idx info corr uncorr) s fun t =>
      { src := sc, mf := mf, idx := idx, bits := ofBytesBE info ^^^ scrBits (scrSeed true sc mf idx) 10240, len := 10240
        err := uncorr || (s.subOf sc).epochBad : Blk } ∈ t.rx.blocks)
  ∧ (∀ (sc mfi : Nat) (s : State), s.wf = true → sc < 32 → s.inFrame sc = true → s.mode ≠ .graze → s.aligned sc = true → (s.subOf sc).bad < 2 →
    Completes (.overheadBlock sc mfi none) s fun t =>
      (((s.subOf sc).mfi.getD 0 + 1) % 64 ≠ 0 → Only [FRM_SC_OH_UNCORR.one sc] { s with rx := t.rx } t)
      ∧ t.rd FRM_SC_OH_UNCORR sc = (s.rd FRM_SC_OH_UNCORR sc + 1) % 2 ^ FRM_SC_OH_UNCORR.w
      ∧ (t.subOf sc).bad = (s.subOf sc).bad + 1 ∧ (t.subOf sc).mfi = some (((s.subOf sc).mfi.getD 0 + 1) % 64))
  ∧ (∀ (sc mfi : Nat) (oh b : List Nat) (s : State), s.wf = true → sc < 32 → s.inFrame sc = true → s.mode ≠ .graze → sc ≠ s.ctrlSc →
    s.rd LTM_STATE ≠ ltFree → oh.length = 1280 → b = scrambleBytes (scrSeed false sc mfi 0) oh → Completes (.overheadBlock sc mfi (some oh)) s fun t =>
      t.rd FRM_SC_CG_SIZE sc = b.getD 22 0 ∧ t.rd FRM_SC_KEY_EPOCH sc = b.getD 4 0
      ∧ (t.subOf sc).prof = b.getD 2 0 % 32 ∧ (t.subOf sc).scid = b.getD 1 0 % 32
      ∧ (s.aligned sc = false → t.aligned sc = ((s.subOf sc).mfi.any fun l => b.getD 0 0 % 64 == (l + 1) % 64))
      ∧ (s.aligned sc = true → (s.subOf sc).bad < 2 → t.aligned sc = true))
  ∧ (∀ (st p : Nat) (x : Blk) (s : State), s.wf = true → st < 32 → (s.chain st).place = some p → (s.chain st).ptr = none →
    (s.chain st).behind = false → (s.chain st).cur.epoch = 0 → (s.chain st).cur.n = 1 → s.withheld st = false → p + 8 ≤ (s.chain st).cur.bytes →
    p / 1280 < mfCoded s.symPerSlot (s.chain st).cur.prof / 12288 → p % 1280 + 8 ≤ 1280 → x.len = 10240 →
    (s.rx.blocks.find? fun y => y.src == st && y.mf == (s.chain st).cur.mf && y.idx == p / 1280) = some x →
    x.bits / 2 ^ (10240 - 8 * (p % 1280 + 8)) % 2 ^ 64 = 0 → Completes (.delineateUnit st) s fun t =>
      Only [] { s with rx := t.rx } t ∧ t.chain st = { s.chain st with place := some (p + 8) } ∧ ∀ k, k ≠ st → t.chain k = s.chain k)
  ∧ (∀ (st p : Nat) (data : List Nat) (err : Bool) (s : State), s.wf = true → st < 32 → (s.chain st).place = some p → (s.chain st).ptr = none →
    s.withheld st = false → s.unitData st 8 = some (data, err) → ofBytesBE data ≠ 0 → tagOk data = false →
    Completes (.delineateUnit st) s fun t =>
      Only [FRM_SC_DELIN_LOSS.one st] { s with rx := t.rx } t ∧ (t.chain st).place = none
      ∧ t.rd FRM_SC_DELIN_LOSS st = (s.rd FRM_SC_DELIN_LOSS st + 1) % 2 ^ FRM_SC_DELIN_LOSS.w)
  ∧ (∀ (st p : Nat) (data : List Nat) (err : Bool) (s : State), s.wf = true → st < 32 → (s.chain st).place = some p → (s.chain st).ptr = none →
    (s.chain st).behind = false → s.withheld st = false → s.unitData st 8 = some (data.take 8, err) →
    s.unitData st data.length = some (data, false) → tagOk data = true → ofBytesBE (data.take 8) ≠ 0 →
    data.length = unitLen (ofBytesBE (data.take 8)) → Completes (.delineateUnit st) s fun t =>
      (t.chain st).place = some (p + data.length)
      ∧ ((s.ownTid (tagTid (ofBytesBE (data.take 8))) || s.join.groups.contains (tagTid (ofBytesBE (data.take 8)))
            || tagTid (ofBytesBE (data.take 8)) == broadcastTid) = false →
          Only [CLP_TAG_MISS.one] { s with rx := t.rx } t ∧ t.rd CLP_TAG_MISS = (s.rd CLP_TAG_MISS + 1) % 2 ^ 32)
      ∧ (s.addressed (tagTid (ofBytesBE (data.take 8))) = true → tagMem (ofBytesBE (data.take 8)) = s.rd FKL_MEM_ID →
          Only [] { s with rx := t.rx, pk := t.pk } t ∧ (t.lane 16).inq = (s.lane 16).inq ++
            [{ bytes := data.drop (8 + if tagTs (ofBytesBE (data.take 8)) then 8 else 0), isrc := 16, dir := 1
               lt := if tagTs (ofBytesBE (data.take 8)) then ofBytesBE ((data.drop 8).take 8) else 0
               ts := tagTs (ofBytesBE (data.take 8)), ltid := tagTid (ofBytesBE (data.take 8)), car := st / 16 }]))

/-- Records but messages, maps and grants (R103 to R106, R112). -/
def Obligations.RecordsUsed : Prop :=
  (∀ (r : Rec) (s : State), s.wf = true → s.takesRecord 0 r = true → s.addressed (recTid r) = true → recBodyOk r = true →
    Completes (.fillRecord r) s fun t => PastRecord r s t
      ∧ Only [FRM_REC_OK.one] { s with rx := t.rx } t ∧ t.rd FRM_REC_OK = (s.rd FRM_REC_OK + 1) % 2 ^ 32)
  ∧ (∀ (ty : Nat) (r : Rec) (s : State), s.wf = true → 7 ≤ ty → s.takesRecord ty r = true → Completes (.reservedRecord r) s fun t =>
      PastRecord r s t ∧ Only [FRM_REC_UNKNOWN.one] { s with rx := t.rx } t ∧ t.rd FRM_REC_UNKNOWN = (s.rd FRM_REC_UNKNOWN + 1) % 2 ^ 32)
  ∧ (∀ (r : Rec) (s : State), s.wf = true → s.parserOn = true → s.parsing = true → s.rx.first = false → recHeadOk r = false →
    Completes (.recordHeaderError r) s fun t =>
      Only [FRM_RESYNC.one] { s with rx := t.rx } t ∧ (t.chain ctlStream).place = none ∧ t.rd FRM_RESYNC = (s.rd FRM_RESYNC + 1) % 2 ^ 32)
  ∧ (∀ (r : Rec) (s : State), s.wf = true → s.takesRecord 2 r = true → recLen r = 36 → s.addressed (recTid r) = true → recBodyOk r = true →
    bits (recWord r.body 0) 27 21 ≤ 124 → Completes (.profileTable r) s fun t => PastRecord r s t
      ∧ Only [FRM_REC_OK.one, FRM_TBL_LATE.one] { s with rx := t.rx } t ∧ t.rx.prof = s.rx.prof
      ∧ (if (resolveG s.now 0 (bits (recWord r.body 0) 31 28 * sfTicks + bits (recWord r.body 0) 27 21 * mfTicks)).toNat ≤ s.mfEnd then
          t.rx.pendProf = s.rx.pendProf ∧ t.rd FRM_TBL_LATE = (s.rd FRM_TBL_LATE + 1) % 2 ^ 32 ∧ t.rd FRM_REC_OK = s.rd FRM_REC_OK
        else t.rd FRM_REC_OK = (s.rd FRM_REC_OK + 1) % 2 ^ 32 ∧ t.rx.pendProf
          = some ((resolveG s.now 0 (bits (recWord r.body 0) 31 28 * sfTicks + bits (recWord r.body 0) 27 21 * mfTicks)).toNat, r.body.drop 4)))
  ∧ (∀ (r : Rec) (n : Nat) (s : State), s.wf = true → s.takesRecord 3 r = true → r.body.length = 4 + 8 * n → s.addressed (recTid r) = true →
    recBodyOk r = true → bits (recWord r.body 0) 27 21 ≤ 124 →
    s.mfEnd < (resolveG s.now 0 (bits (recWord r.body 0) 31 28 * sfTicks + bits (recWord r.body 0) 27 21 * mfTicks)).toNat →
    Completes (.allocMap r) s fun t => PastRecord r s t ∧ Only [FRM_REC_OK.one] { s with rx := t.rx } t ∧ t.rx.map = s.rx.map
      ∧ t.rx.pendMap.map Prod.fst
          = some (resolveG s.now 0 (bits (recWord r.body 0) 31 28 * sfTicks + bits (recWord r.body 0) 27 21 * mfTicks)).toNat
      ∧ ∀ tid k, k < 16 →
          bit (amGetD 0 (t.rx.pendMap.getD (0, [])).2 tid) k
            = ((List.range n).any fun i => recWord r.body (4 + 8 * i) / 2 ^ 14 == tid && bit (recWord r.body (8 + 8 * i)) (16 + k))
          ∧ bit (amGetD 0 (t.rx.pendMap.getD (0, [])).2 tid) (16 + k)
            = ((List.range n).any fun i => recWord r.body (4 + 8 * i) / 2 ^ 14 == tid && bit (recWord r.body (8 + 8 * i)) k))
  ∧ (∀ (r : Rec) (s : State), s.wf = true → s.takesRecord 6 r = true → s.addressed (recTid r) = true → recBodyOk r = true →
    s.rx.rdiMf ≠ some (s.carrying / mfTicks) → s.rd UPB_TID_VALID = 1 → Completes (.rdiList r) s fun t => PastRecord r s t
      ∧ Only [FRM_REC_OK.one] { s with rx := t.rx } t ∧ t.rd FRM_REC_OK = (s.rd FRM_REC_OK + 1) % 2 ^ 32
      ∧ (if (List.range (r.body.length / 4)).any fun i => recWord r.body (4 * i) % 2 ^ 18 == s.rd UPB_TID then
          t.rx.rdiOn = min 2 (s.rx.rdiOn + 1) ∧ t.rx.rdiOff = 0 ∧ (1 ≤ s.rx.rdiOn → (.rdi, true) ∈ t.rx.met)
        else t.rx.rdiOff = min 2 (s.rx.rdiOff + 1) ∧ t.rx.rdiOn = 0 ∧ (1 ≤ s.rx.rdiOff → (.rdi, false) ∈ t.rx.met)))
  ∧ (∀ (sc rms : Nat) (top : Bool) (s : State), s.wf = true → sc < 32 → Completes (.defectConditionMet (.lof sc) (!s.inFrame sc) rms top) s fun t =>
      Only [LTM_HOLD_MF.one] { s with time := t.time, rx := t.rx } t ∧ t.now = max s.now ((s.subOf sc).since + 3 * msTicks)
      ∧ (Defect.lof sc, !s.inFrame sc) ∈ t.rx.met ∧ t.rd FRM_DEFECTS = s.rd FRM_DEFECTS)
  ∧ (∀ (c rms : Nat) (top : Bool) (s : State), c < 2 → s.pins.sd = false ∨ top = true ∧ rms < s.rd FRM_LOS_LEVEL →
    Completes (.defectConditionMet (.los c) true rms top) s fun t => t = { s with rx := t.rx } ∧ (Defect.los c, true) ∈ t.rx.met)
  ∧ (∀ (c rms : Nat) (top : Bool) (s : State), s.pins.sd = true → top = false ∨ s.rd FRM_LOS_LEVEL ≤ rms →
    Completes (.defectConditionMet (.los c) true rms top) s fun t => t = s)

/-! Joining the line and line messages (chapter 05) -/

/-- Host messages and mailboxes (R121, R123, R127, R144, R145). -/
def Obligations.HostMessagesPass : Prop :=
  (∀ (r : Rec) (m : Msg) (c : Instr) (code n : Nat) (s : State), m = msgOf r →
    (c, code) ∈ [(Instr.keyEpoch r, 0x07), (.oamTunnel r, 0x0C), (.asymSet r, 0x0F)] → s.wf = true → s.takesMessage code r = true → s.rd UPB_IN_COUNT < 8 → n = (s.rd UPB_IN_HEAD + s.rd UPB_IN_COUNT) % 8 → Completes c s fun t =>
      Delivered code n m s t)
  ∧ (∀ (r : Rec) (s : State), s.wf = true → s.takesMessage 0x07 r = true → s.rd UPB_IN_COUNT < 8 → Completes (.keyEpoch r) s fun t =>
      Delivered 0x07 ((s.rd UPB_IN_HEAD + s.rd UPB_IN_COUNT) % 8) (msgOf r) s t)
  ∧ (∀ (r : Rec) (s : State), s.wf = true → s.takesMessage 0x0C r = true → s.rd UPB_IN_COUNT < 8 → Completes (.oamTunnel r) s fun t =>
      Delivered 0x0C ((s.rd UPB_IN_HEAD + s.rd UPB_IN_COUNT) % 8) (msgOf r) s t)
  ∧ (∀ (r : Rec) (s : State), s.wf = true → s.takesMessage 0x0F r = true → s.rd UPB_IN_COUNT < 8 → Completes (.asymSet r) s fun t =>
      Delivered 0x0F ((s.rd UPB_IN_HEAD + s.rd UPB_IN_COUNT) % 8) (msgOf r) s t)
  ∧ (∀ (h : HostMsg) (s : State), s.wf = true → s.join.host = [h] → h.answer = none → h.late = false → Completes .hostLate s fun t =>
      Only [LTM_HOLD_MF.one, UPB_HOST_LATE.one] { s with time := t.time, join := { s.join with host := [{ h with late := true }] } } t
      ∧ t.now = max s.now h.deadline ∧ t.rd UPB_HOST_LATE = (s.rd UPB_HOST_LATE + 1) % 2 ^ UPB_HOST_LATE.w)
  ∧ (∀ s : State, s.wf = true → s.rd UPB_IN_COUNT ≠ 0 → Completes .inPop s fun t =>
      Only [UPB_IN_COUNT.one, UPB_IN_HEAD.one] s t ∧ t.rd UPB_IN_COUNT = s.rd UPB_IN_COUNT - 1 ∧ t.rd UPB_IN_HEAD = (s.rd UPB_IN_HEAD + 1) % 8)
  ∧ (∀ (len : Nat) (s : State), s.wf = true → s.rd UPB_OUT_FREE ≠ 0 → s.queueOpen = true → len = s.rd UPB_OUT_SLOT (512 * s.rd UPB_OUT_TAIL) % 2 ^ 16 →
      (bits (s.rd UPB_OUT_SLOT (512 * s.rd UPB_OUT_TAIL)) 31 24 = 0x20 ∧ len = 8)
        ∨ (bits (s.rd UPB_OUT_SLOT (512 * s.rd UPB_OUT_TAIL)) 31 24 = 0x22 ∧ 4 ≤ len ∧ len ≤ 1024 ∧ len % 4 = 0) →
      Completes .outPush s fun t => Only [UPB_OUT_FREE.one, UPB_OUT_TAIL.one] { s with up := t.up, join := t.join } t
        ∧ Queued (bits (s.rd UPB_OUT_SLOT (512 * s.rd UPB_OUT_TAIL)) 31 24)
            ((List.range (len / 4)).map fun k => s.rd UPB_OUT_SLOT (512 * s.rd UPB_OUT_TAIL + 4 + k)) s t
        ∧ t.rd UPB_OUT_FREE = s.rd UPB_OUT_FREE ∧ t.rd UPB_OUT_TAIL = (s.rd UPB_OUT_TAIL + 1) % 8)
  ∧ (∀ s : State, s.wf = true → s.rd UPB_OUT_FREE ≠ 0 → s.up.waitPush = [] →
      bits (s.rd UPB_OUT_SLOT (512 * s.rd UPB_OUT_TAIL)) 31 24 ≠ 0x20 → bits (s.rd UPB_OUT_SLOT (512 * s.rd UPB_OUT_TAIL)) 31 24 ≠ 0x22 →
      Completes .outPush s fun t => Only [UPB_OUT_REJECT.one, UPB_OUT_TAIL.one] s t
        ∧ t.rd UPB_OUT_REJECT = 1 ∧ t.rd UPB_OUT_TAIL = (s.rd UPB_OUT_TAIL + 1) % 8)
  ∧ (∀ (r : Rec) (m : Msg) (s : State), m = msgOf r → s.wf = true → 8 ≤ recLen r → (m.code = 0 ∨ 0x11 ≤ m.code) →
      s.takesRecord 5 r = true → recBodyOk r = true → s.addressed m.tid = true → s.queueOpen = true → Completes (.unknownMessage r) s fun t =>
        Only [FRM_REC_OK.one, UPB_MSG_UNKNOWN.one] { s with rx := t.rx, up := t.up } t
        ∧ t.rd UPB_MSG_UNKNOWN = (s.rd UPB_MSG_UNKNOWN + 1) % 2 ^ 32
        ∧ (s.ownTid m.tid = true → Queued 0x20 [m.code * 2 ^ 24 + m.seq * 2 ^ 16 + 3 * 2 ^ 8, 0] s t) ∧ (s.ownTid m.tid = false → t.up = s.up))
  ∧ (∀ (r : Rec) (s : State), s.wf = true → recLen r < 8 → s.takesRecord 5 r = true → recBodyOk r = true → s.addressed (recTid r) = true →
      Completes (.unknownMessage r) s fun t => Only [FRM_REC_OK.one, UPB_MSG_BAD.one] { s with rx := t.rx } t
        ∧ t.rd UPB_MSG_BAD = (s.rd UPB_MSG_BAD + 1) % 2 ^ UPB_MSG_BAD.w)

/-- The join state machine (R128 to R136). -/
def Obligations.JoinProceeds : Prop :=
  (∀ s : State, s.wf = true → Completes .joinEnSet s fun t => Only [UPB_JOIN_EN.one] s t ∧ t.rd UPB_JOIN_EN = 1)
  ∧ (∀ s : State, s.wf = true → s.mode = .join → Completes .joinAbort s fun t => t.mode = .listen ∧ t.rd UPB_JOIN_EN = 0
      ∧ t.rd UPB_FAIL_CAUSE = 4 ∧ t.rd UPB_JOIN_STATE = 0 ∧ t.rd UPB_TID_VALID = 0 ∧ t.rd UPB_REGISTERED = 0 ∧ t.join.wins = [] ∧ t.join.rangeDue = none)
  ∧ (∀ (id tresp rate sc span : Nat) (s : State), s.wf = true → s.join.params = some [id, tresp, rate, sc, span] → s.mode = .listen →
      s.pwr.transit = none → s.rd UPB_JOIN_EN = 1 → s.rd LTM_STATE = ltLocked → Completes .joinEntry s fun t =>
        t.mode = .join ∧ t.rd UPB_JOIN_STATE = 1 ∧ t.rd UPB_LINE_ID = id % 2 ^ 32 ∧ t.rd UPB_TRESP = tresp % 2 ^ 32 ∧ t.rd UPB_ATTEMPT = 0
        ∧ t.join.span = span ∧ t.join.lfsr ≠ 0 ∧ (t.join.lfsr = s.fuses.serial / 2 ^ 32 % 2 ^ 32 ^^^ s.fuses.serial % 2 ^ 32 ^^^ s.now % 2 ^ 32 ∨ t.join.lfsr = 1))
  ∧ (∀ (r : Rec) (m : Msg) (s : State), m = msgOf r → s.wf = true → s.takesMessage 0x02 r = true → s.mode = .join → s.rd UPB_JOIN_STATE = 1 → s.rd UPB_DIST_HINT = 0xFFFF →
      bits (msgWord m 2) 31 16 = 0 → s.join.span ≤ bits (msgWord m 2) 15 0 → bits (msgWord m 1) 15 0 ≠ 0 → s.join.wins = [] → s.join.sent = none →
      s.up.bursts = [] →
      (s.now : Int) + 250 * usTicks ≤ resolveG s.now (s.rd UPB_TRESP) (fieldTime (bits (msgWord m 0) 31 28) (bits (msgWord m 0) 27 21) (bits (msgWord m 0) 20 15) (bits (msgWord m 0) 14 8)) + s.rd UPB_TRESP →
      Completes (.discoveryOpen r) s fun t =>
        Only [FRM_REC_OK.one, UPB_MSG_OK.one] { s with rx := t.rx, join := t.join } t ∧ t.join.wins.length = 1
        ∧ ∀ w ∈ t.join.wins, w.launch = (resolveG s.now (s.rd UPB_TRESP) (fieldTime (bits (msgWord m 0) 31 28) (bits (msgWord m 0) 27 21) (bits (msgWord m 0) 20 15) (bits (msgWord m 0) 14 8)) + s.rd UPB_TRESP).toNat
            ∧ w.wlen = bits (msgWord m 1) 31 16 ∧ w.w = bits (msgWord m 3) 31 24 ∧ w.record.length = 64
            ∧ (w.sc.any fun c => decide (c < 16) && bit (bits (msgWord m 1) 15 0) c) = true)
  ∧ (∀ (w : DiscWin) (c : Nat) (s : State), s.wf = true → s.join.wins = [w] → w.sc = some c → s.mode = .join → s.rd UPB_JOIN_STATE = 1 →
      s.rd LTM_STATE = ltLocked → s.rd UPB_SILENCED = 0 → s.rd FLT_SAFE = 0 → s.rd UPB_TX_EN = 1 → Completes .discoveryBurstStart s fun t =>
        t.now = max s.now w.launch ∧ t.rd UPB_JOIN_STATE = 2 ∧ t.rd UPB_TX_LIT = 1
        ∧ t.out = .discovery w.launch (s.startOf w.launch) (preamble 4096) (upLanes (2 ^ c) ((w.g % frameTicks).toNat / slotTicks)
            ((s.symPerSlot * s.discSlots - 4096) * 4 / 12288) w.record) :: .ramp (w.launch - rampTicks) (2 ^ c) true :: s.out ∧ t.join.wins = []
        ∧ t.rd UPB_DISC_SENT = (s.rd UPB_DISC_SENT + 1) % 2 ^ UPB_DISC_SENT.w ∧ t.rd UPB_ATTEMPT = (s.rd UPB_ATTEMPT + 1) % 2 ^ UPB_ATTEMPT.w
        ∧ t.join.deadline = (w.g + s.rd UPB_TRESP).toNat + w.wlen * slotTicks + 20 * msTicks ∧ t.join.w = w.w)
  ∧ (∀ s : State, s.wf = true → s.mode = .join → s.rd UPB_JOIN_STATE = 2 → Completes .discCollide s fun t =>
      t.now = max s.now s.join.deadline ∧ t.rd UPB_DISC_COLLIDE = (s.rd UPB_DISC_COLLIDE + 1) % 2 ^ UPB_DISC_COLLIDE.w
      ∧ (if s.rd UPB_JOIN_ATTEMPTS ≤ s.rd UPB_ATTEMPT then t.mode = .listen ∧ t.rd UPB_FAIL_CAUSE = 1 ∧ t.rd UPB_JOIN_STATE = 0
         else t.mode = .join ∧ t.rd UPB_JOIN_STATE = (if t.join.skip = 0 then 1 else 3) ∧ (t.join.skip < s.join.w ∨ t.join.skip = 0)))
  ∧ (∀ (r : Rec) (m : Msg) (s : State), m = msgOf r → s.wf = true → s.takesMessage 0x03 r = true → s.ownTid m.tid = false → msgWord m 0 * 2 ^ 32 + msgWord m 1 = s.fuses.serial % 2 ^ 64 →
      s.mode = .join → s.rd UPB_JOIN_STATE ∈ [2, 3, 4] → s.queueOpen = true → Completes (.assignId r) s fun t =>
        Only [FRM_REC_OK.one, UPB_MSG_OK.one, UPB_TID.one, UPB_TID_VALID.one, UPB_JOIN_STATE.one] { s with rx := t.rx, join := t.join, up := t.up, time := t.time } t
        ∧ t.rd UPB_TID = bits (msgWord m 2) 31 14 ∧ t.rd UPB_TID_VALID = 1 ∧ t.rd UPB_JOIN_STATE = 4
        ∧ Queued 0x20 (ackBody 0x03 m.seq 0 (bits (msgWord m 2) 31 14)) s t
        ∧ t.time = { s.time with eqdLoad := some { value := msgWord m 3, range := false, seq := m.seq } }
        ∧ t.join.rangeDue = some (s.now + s.rd UPB_RANGE_TIMEOUT * mfTicks) ∧ t.join.wins = [])
  ∧ (∀ (d : Nat) (s : State), s.wf = true → s.join.rangeDue = some d → s.mode = .join → s.rd UPB_JOIN_STATE = 4 → Completes .rangeTimeout s fun t =>
      t.now = max s.now d ∧ t.rd UPB_TID_VALID = 0 ∧ t.join.rangeDue = none
      ∧ (if s.rd UPB_JOIN_ATTEMPTS ≤ s.rd UPB_ATTEMPT then t.mode = .listen ∧ t.rd UPB_FAIL_CAUSE = 2
         else t.mode = .join ∧ t.rd UPB_JOIN_STATE = 1 ∧ t.rd UPB_RANGE_FAIL = (s.rd UPB_RANGE_FAIL + 1) % 2 ^ UPB_RANGE_FAIL.w))

/-- Line messages that act (R125 to R142). -/
def Obligations.LineMessagesAct : Prop :=
  (∀ (r : Rec) (m : Msg) (s : State), m = msgOf r → s.wf = true → s.takesMessage 0x01 r = true → m.eff = false → s.mode = .listen → s.rd UPB_REGISTERED = 0 →
    Completes (.lineParams r) s fun t =>
      t.join.params = some [msgWord m 0, msgWord m 1, bits (msgWord m 2) 31 14, bits (msgWord m 2) 13 9, bits (msgWord m 3) 31 16]
      ∧ t.rd UPB_LINE_ID = msgWord m 0 % 2 ^ 32 ∧ t.rd LRX_SYM_RATE = bits (msgWord m 2) 31 14
      ∧ t.rd LRX_RS_EXPECT = (if s.rd LRX_SYM_RATE = bits (msgWord m 2) 31 14 then s.rd LRX_RS_EXPECT else bits (msgWord m 2) 31 14)
      ∧ t.rd LRX_CTRL_SC = bits (msgWord m 2) 13 9 ∧ t.rd UPB_MSG_OK = (s.rd UPB_MSG_OK + 1) % 2 ^ 32)
  ∧ (∀ (r : Rec) (m : Msg) (s : State), m = msgOf r → s.wf = true → s.takesMessage 0x04 r = true → m.eff = false → s.mode = .join → s.rd UPB_JOIN_STATE = 4 → s.queueOpen = true →
    Completes (.rangeResult r) s fun t =>
      (bits (msgWord m 0) 31 30 = 0 → Only [FRM_REC_OK.one, UPB_MSG_OK.one] { s with rx := t.rx, join := t.join, time := t.time } t
        ∧ t.time = { s.time with eqdLoad := some { value := msgWord m 1, range := true, seq := m.seq } } ∧ t.join.rangeDue = none)
      ∧ (bits (msgWord m 0) 31 30 = 1 → Only [FRM_REC_OK.one, UPB_MSG_OK.one] { s with rx := t.rx, join := t.join, up := t.up } t
        ∧ Queued 0x20 (ackBody 0x04 m.seq 0 0) s t ∧ t.join.rangeDue = some (s.now + s.rd UPB_RANGE_TIMEOUT * mfTicks))
      ∧ (bits (msgWord m 0) 31 30 = 2 → t.mode = .listen ∧ t.rd UPB_FAIL_CAUSE = 3 ∧ t.rd UPB_TID_VALID = 0))
  ∧ (∀ (r : Rec) (m : Msg) (s : State), m = msgOf r → s.wf = true → s.takesMessage 0x05 r = true → m.eff = false → Completes (.eqdAdjust r) s fun t =>
      Only [FRM_REC_OK.one, UPB_MSG_OK.one, LTM_EQD_PEND.one] { s with rx := t.rx, join := t.join, time := t.time } t
      ∧ t.rdS LTM_EQD_PEND = clampI (-8388608) 8388608 (s.rdS LTM_EQD_PEND + toS 24 (bits (msgWord m 0) 31 8)))
  ∧ (∀ (r : Rec) (m : Msg) (s : State), m = msgOf r → s.wf = true → s.takesMessage 0x08 r = true → m.eff = false → Completes (.silence r) s fun t =>
      Only [FRM_REC_OK.one, UPB_MSG_OK.one] { s with rx := t.rx, join := t.join } t
      ∧ t.join.acts = s.join.acts ++ [.silence (bits (msgWord m 0) 31 16) (bits (msgWord m 0) 15 8)])
  ∧ (∀ (r : Rec) (m : Msg) (s : State), m = msgOf r → s.wf = true → s.takesMessage 0x09 r = true → m.eff = false → Completes (.release r) s fun t =>
      Only [FRM_REC_OK.one, UPB_MSG_OK.one] { s with rx := t.rx, join := t.join } t
      ∧ t.join.acts = s.join.acts ++ [.release (if s.ownTid m.tid then some m.seq else none)])
  ∧ (∀ (d : Nat) (s : State), s.wf = true → s.join.silEnd = some d → s.rd UPB_SILENCED = 1 → Completes .silenceExpiry s fun t =>
      Only [LTM_HOLD_MF.one, UPB_SILENCED.one, UPB_SILENCE_LEFT.one] { s with time := t.time, join := { s.join with silEnd := none }, pins := t.pins } t
      ∧ t.now = max s.now (ceilDiv d frameTicks * frameTicks) ∧ t.rd UPB_SILENCED = 0 ∧ t.rd UPB_SILENCE_LEFT = 0)
  ∧ (∀ (r : Rec) (m : Msg) (s : State), m = msgOf r → s.wf = true → s.takesMessage 0x0A r = true → m.eff = false → Completes (.deregister r) s fun t =>
      (s.rd UPB_REGISTERED = 1 → t.rd UPB_REGISTERED = 0 ∧ t.rd UPB_TID_VALID = 0 ∧ t.rd UPB_DEREG_CAUSE = bits (msgWord m 0) 31 24
        ∧ t.rd LTM_EQD = 0 ∧ t.rd LTM_EQD_PEND = 0 ∧ t.join.groups = [] ∧ t.up.cal = []
        ∧ (s.mode = .service → s.pwr.transit = none → t.pwr.transit = some .listen))
      ∧ (s.rd UPB_REGISTERED = 0 → s.mode = .join → s.rd UPB_JOIN_STATE = 4 →
          t.mode = .listen ∧ t.rd UPB_FAIL_CAUSE = 7 ∧ t.rd UPB_DEREG_CAUSE = bits (msgWord m 0) 31 24))
  ∧ (∀ (r : Rec) (m : Msg) (s : State), m = msgOf r → s.wf = true → s.takesMessage 0x10 r = true → m.eff = false → s.queueOpen = true → Completes (.groupSet r) s fun t =>
      Only [FRM_REC_OK.one, UPB_MSG_OK.one] { s with rx := t.rx, join := t.join, up := t.up } t
      ∧ Queued 0x20 (ackBody 0x10 m.seq 0 t.join.groups.length) s t ∧ t.join.groups.Nodup
      ∧ (∀ i, i < msgWord m 0 % 256 → msgWord m (i + 1) % 2 ^ 18 ∈ t.join.groups)
      ∧ (∀ g ∈ t.join.groups, ((List.range (msgWord m 0 % 256)).any fun i => msgWord m (i + 1) % 2 ^ 18 == g) = true)
      ∧ t.join.pend = amDel s.join.pend 0x10)
  ∧ (∀ (r : Rec) (m : Msg) (c : Instr) (code b : Nat) (s : State), m = msgOf r → (c, code) ∈ [(Instr.lineParams r, 0x01), (.groupSet r, 0x10)] → s.wf = true →
    s.takesMessage code r = true → m.eff = true → s.effBoundary m.effWord = some b → Completes c s fun t =>
      amGet? t.join.pend code = some (b, s.ownTid m.tid, m) ∧ t.join.groups = s.join.groups ∧ t.join.params = s.join.params
      ∧ ∀ k, k ≠ code → amGet? t.join.pend k = amGet? s.join.pend k)

/-! Grants and bursts (chapter 06) -/

/-- Grants (R150, R154, R155). -/
def Obligations.GrantsJudged : Prop :=
  (∀ (r : Rec) (i b : Nat) (s : State), s.wf = true → b < 2 ^ 128 → gCancel b = false → s.takesGrant r i = true → b = grantBits r i → s.mode ≠ .graze →
    s.pwr.transit ≠ some .graze → crc16 (bytesBE 14 (b / 2 ^ 16)) ≠ gCrc b → Completes (.grantEntry r i) s fun t =>
      Only [UPB_GR_CRC.one, FRM_REC_OK.one, FRM_REC_DISCARD.one] { s with rx := t.rx } t ∧ t.rd UPB_GR_CRC = (s.rd UPB_GR_CRC + 1) % 2 ^ 32
      ∧ t.rx.grants = (if i + 1 < recLen r / 16 then i + 1 else 0) ∧ (recLen r / 16 ≤ i + 1 → PastRecord r s t))
  ∧ (∀ (r : Rec) (i b n : Nat) (g : Int) (s : State), s.wf = true → b < 2 ^ 128 → gCancel b = false → s.takesGrant r i = true → b = grantBits r i → s.mode = .service →
    s.pwr.transit ≠ some .graze → crc16 (bytesBE 14 (b / 2 ^ 16)) = gCrc b → s.rd UPB_TID_VALID = 1 → s.rd UPB_TID = gTid b → gMf b ≤ 124 → gSl b ≤ 124 →
    1 ≤ gLen b → gLen b ≤ 1000 → gScmask b ≠ 0 → gKind b = 0 → (gStanding b = true → gLen b * slotTicks ≤ gPeriod b) → s.blocksOf b ≠ 0 →
    bit (s.rd UPB_EXP_MASK_LO + s.rd UPB_EXP_MASK_HI * 2 ^ 32) (gAlloc b) = false → g = resolveG s.now (s.rd LTM_EQD) (gTime b) →
    n < 8192 → amGet? s.up.cal n = none → (∀ k, k < n → amGet? s.up.cal k ≠ none) → s.rd UPB_STANDING_COUNT < 64 → Completes (.grantEntry r i) s fun t =>
      if g + s.rd LTM_EQD < s.now + 250 * usTicks then
        Only [UPB_GR_LATE.one, FRM_REC_OK.one, FRM_REC_DISCARD.one] { s with rx := t.rx, up := t.up } t ∧ t.rd UPB_GR_LATE = (s.rd UPB_GR_LATE + 1) % 2 ^ 32
        ∧ t.up.discN = s.up.discN + 1 ∧ (s.up.discN = 0 → t.up.discCause = 1 ∧ t.up.discTime = bits b 103 80) ∧ t.up.cal = s.up.cal
      else if s.overlaps b g then
        Only [UPB_GR_OVERLAP.one, FRM_REC_OK.one, FRM_REC_DISCARD.one] { s with rx := t.rx, up := t.up } t ∧ t.rd UPB_GR_OVERLAP = (s.rd UPB_GR_OVERLAP + 1) % 2 ^ 32
        ∧ t.up.discN = s.up.discN + 1 ∧ (s.up.discN = 0 → t.up.discCause = 2 ∧ t.up.discTime = bits b 103 80) ∧ t.up.cal = s.up.cal
      else
        Only [UPB_GR_ACCEPT.one, UPB_CAL_COUNT.one, UPB_STANDING_COUNT.one, FRM_REC_OK.one, FRM_REC_DISCARD.one] { s with rx := t.rx, up := { s.up with cal := t.up.cal } } t
        ∧ t.rd UPB_GR_ACCEPT = (s.rd UPB_GR_ACCEPT + 1) % 2 ^ 32 ∧ amGet? t.up.cal n = some { bits := b, g := g, est := 1, first := g }
        ∧ (∀ k, k ≠ n → amGet? t.up.cal k = amGet? s.up.cal k) ∧ t.rx.grants = (if i + 1 < recLen r / 16 then i + 1 else 0))
  ∧ (∀ (r : Rec) (i b : Nat) (s : State), s.wf = true → b < 2 ^ 128 → gCancel b = false → s.takesGrant r i = true → b = grantBits r i → s.mode ≠ .graze →
    s.pwr.transit ≠ some .graze → crc16 (bytesBE 14 (b / 2 ^ 16)) = gCrc b → s.rd UPB_TID_VALID = 1 → s.rd UPB_TID = gTid b →
    125 ≤ gMf b ∨ 125 ≤ gSl b ∨ gLen b = 0 ∨ 1000 < gLen b ∨ gScmask b = 0 ∨ gKind b ∈ [3, 5, 6, 7] ∨ (gStanding b = true ∧ gPeriod b < gLen b * slotTicks) ∨ s.blocksOf b = 0 →
    Completes (.grantEntry r i) s fun t =>
      Only [UPB_GR_FORMAT.one, FRM_REC_OK.one, FRM_REC_DISCARD.one] { s with rx := t.rx, up := t.up } t ∧ t.rd UPB_GR_FORMAT = (s.rd UPB_GR_FORMAT + 1) % 2 ^ 32
      ∧ t.up.discN = s.up.discN + 1 ∧ (s.up.discN = 0 → t.up.discCause = 4 ∧ t.up.discTime = bits b 103 80) ∧ t.up.cal = s.up.cal)
  ∧ (∀ (r : Rec) (i b k : Nat) (e : Grant) (s : State), s.wf = true → b < 2 ^ 128 → gCancel b = true → s.takesGrant r i = true → b = grantBits r i → s.mode ≠ .graze →
    s.pwr.transit ≠ some .graze → crc16 (bytesBE 14 (b / 2 ^ 16)) = gCrc b → s.rd UPB_TID_VALID = 1 → s.rd UPB_TID = gTid b →
    s.up.cal = [(k, e)] → s.up.bursts = [] → e.est = 1 → e.stop = none → gStanding e.bits = false → Completes (.grantCancel r i) s fun t =>
      if gMf b ≤ 124 ∧ gSl b ≤ 124 ∧ gTid b = gTid e.bits ∧ gAlloc b = gAlloc e.bits ∧ gScmask b = gScmask e.bits ∧ gKind b = gKind e.bits ∧ ((gTime b : Int) - e.g) % gSpan = 0 then
        if s.now < s.commitOf e.bits e.g then t.up.cal = [] ∧ t.rd UPB_GR_CANCEL = (s.rd UPB_GR_CANCEL + 1) % 2 ^ 32 ∧ t.rd UPB_CAL_COUNT = 0
        else t.up.cal = [(k, e)] ∧ t.rd UPB_GR_CANCEL_LATE = (s.rd UPB_GR_CANCEL_LATE + 1) % 2 ^ 32
      else t.up = s.up ∧ t.rd UPB_GR_CANCEL_MISS = (s.rd UPB_GR_CANCEL_MISS + 1) % 2 ^ 32)
  ∧ (∀ (r : Rec) (i b : Nat) (x : Burst) (s : State), s.wf = true → b < 2 ^ 128 → gCancel b = true → s.takesGrant r i = true → b = grantBits r i → s.mode ≠ .graze →
    s.pwr.transit ≠ some .graze → crc16 (bytesBE 14 (b / 2 ^ 16)) = gCrc b → s.rd UPB_TID_VALID = 1 → s.rd UPB_TID = gTid b → s.up.bursts = [x] → gMf b ≤ 124 → gSl b ≤ 124 →
    gTid b = gTid x.bits → gAlloc b = gAlloc x.bits → gScmask b = gScmask x.bits → gKind b = gKind x.bits → ((gTime b : Int) - x.g) % gSpan = 0 →
    Completes (.grantCancel r i) s fun t => t.up.bursts = [x] ∧ t.rd UPB_GR_CANCEL_LATE = (s.rd UPB_GR_CANCEL_LATE + 1) % 2 ^ 32
      ∧ t.rd UPB_GR_CANCEL = s.rd UPB_GR_CANCEL)

/-- Bursts (R156 to R171). -/
def Obligations.BurstsRun : Prop :=
  (∀ (i : Nat) (e : Grant) (s : State), s.wf = true → s.up.cal = [(i, e)] → e.est = 1 → gStanding e.bits = false → gKind e.bits = 0 → s.heldNow e.bits = false →
    s.blocksOf e.bits ≠ 0 → s.rd QSH_AL_SEAL_ON_GRANT (gAlloc e.bits) = 0 → s.up.bursts = [] → s.up.waitPush = [] → s.join.wins = [] → s.join.sent = none →
    Completes (.burstCommit i) s fun t =>
      t.now = max s.now (s.commitOf e.bits e.g).toNat ∧ t.up.cal = [(i, { e with est := 2 })] ∧ t.up.bursts.length = 1
      ∧ (∀ x ∈ t.up.bursts, x.entry = i ∧ x.g = e.g ∧ x.bits = e.bits ∧ x.launch = (e.g + s.rd LTM_EQD).toNat ∧ x.inAir = false
          ∧ x.conts = (s.heldOf (gAlloc e.bits)).take (s.burstRoom e.bits) ∧ x.msgs ++ t.up.umq = s.up.umq
          ∧ x.hdr.length = 64 ∧ x.hdr.drop 60 = bytesBE 4 (crc32 (x.hdr.take 60)))
      ∧ t.heldOf (gAlloc e.bits) = (s.heldOf (gAlloc e.bits)).drop (s.burstRoom e.bits)
      ∧ t.rd64 QSH_AL_COMMITTED_LO QSH_AL_COMMITTED_HI (gAlloc e.bits)
          = (s.rd64 QSH_AL_COMMITTED_LO QSH_AL_COMMITTED_HI (gAlloc e.bits) + min (s.heldOf (gAlloc e.bits)).length (s.burstRoom e.bits)) % 2 ^ 64
      ∧ t.up.discN = 0)
  ∧ (∀ (i : Nat) (e : Grant) (s : State), s.wf = true → s.up.cal = [(i, e)] → e.est = 1 → gStanding e.bits = false → s.up.bursts = [] → gKind e.bits = 0 →
    s.rd LTM_STATE ≠ ltLocked ∨ s.rd UPB_SILENCED = 1 ∨ s.rd FLT_SAFE = 1 ∨ s.rd UPB_TX_EN = 0 ∨ s.mode ≠ .service → Completes (.burstCommit i) s fun t =>
      t.up.cal = [] ∧ t.up.bursts = [] ∧ t.rd UPB_GR_HELD = (s.rd UPB_GR_HELD + 1) % 2 ^ 32 ∧ t.held = s.held)
  ∧ (∀ (b : Burst) (s : State), s.wf = true → s.up.bursts = [b] → b.inAir = false → s.heldNow b.bits = false → Completes .burstLaunch s fun t =>
      t.now = max s.now b.launch ∧ t.rd UPB_TX_LIT = 1 ∧ t.rd UPB_BURSTS = (s.rd UPB_BURSTS + 1) % 2 ^ UPB_BURSTS.w
      ∧ (t.up.bursts.map fun x => (x.entry, x.g, x.bits, x.launch, x.conts, x.hdr)) = [(b.entry, b.g, b.bits, b.launch, b.conts, b.hdr)]
      ∧ (∀ x ∈ t.up.bursts, x.inAir = true ∧ x.data = b.data ∧ x.bad = b.bad) ∧ t.held = s.held
      ∧ .ramp (b.launch - rampTicks) (gScmask b.bits &&& (0xFFFF ^^^ s.litMask)) true ∈ t.out)
  ∧ (∀ (b : Burst) (s : State), s.wf = true → s.up.bursts = [b] → b.inAir = true → s.up.disc = none → b.epoch = 0 → b.bad = [] →
    (∀ i, i < b.conts.length → (amGet? b.data i).isSome = true) → Completes (.burstEnd []) s fun t =>
      t.now = max s.now (b.launch + gLen b.bits * slotTicks + 262) ∧ t.up.bursts = [] ∧ t.up.lastEnd = some t.now ∧ t.rd UPB_TX_LIT = 0
      ∧ t.rd64 UPB_CONT_SENT_LO UPB_CONT_SENT_HI = (s.rd64 UPB_CONT_SENT_LO UPB_CONT_SENT_HI + b.conts.length) % 2 ^ 64
      ∧ .burst b.launch (s.startOf b.launch) b.bits (preamble b.pre) (upLanes (gScmask b.bits) (gSl b.bits) b.blocks (b.hdr ++ b.msgs.flatMap UMsg.bytes
          ++ (List.range b.conts.length).flatMap fun k => lineContainer none 0 ((amGet? b.data k).getD []))) ∈ t.out
      ∧ .burstEnd b.launch false ∈ t.out ∧ .ramp (b.launch + gLen b.bits * slotTicks + 262) (gScmask b.bits &&& 0xFFFF) false ∈ t.out)
  ∧ (∀ (at_ mask n : Nat) (s : State), s.wf = true → s.up.bursts = [] → s.join.wins = [] → s.join.sent = none → mask % 2 ^ 16 ≠ 0 → s.rd FLT_SAFE = 0 →
    s.freshRecord n cGuardTrip 9 = true → Completes (.guardTrip at_ mask) s fun t =>
      EntersSafe cGuardTrip t ∧ Recorded n cGuardTrip 0 (srcRegion 9) t ∧ t.rd UPB_GUARD_TRIP = 1
      ∧ t.rd UPB_GUARD_TRIPS = (s.rd UPB_GUARD_TRIPS + 1) % 2 ^ UPB_GUARD_TRIPS.w ∧ t.now = max s.now at_)
  ∧ (∀ (i : Nat) (e : Grant) (s : State), s.wf = true → s.up.cal = [(i, e)] → e.est = 1 → s.up.bursts = [] → s.join.wins = [] → s.join.sent = none →
    s.now ≤ s.launchOf e.g → Completes .txPathUngate s fun t => Only [LTM_HOLD_MF.one, UPB_TX_GATED.one] { s with time := t.time } t
      ∧ t.rd UPB_TX_GATED = 0 ∧ t.now = max s.now (s.launchOf e.g - msTicks))
  ∧ (∀ s : State, s.wf = true → s.up.bursts = [] → s.up.disc = none → s.join.wins = [] → s.join.sent = none → (∀ e ∈ s.up.cal, s.now + msTicks < s.launchOf e.2.g) →
    Completes .txPathGate s fun t => Only [UPB_TX_GATED.one] s t ∧ t.rd UPB_TX_GATED = 1)

/-! Fault collection and counters (chapter 19) -/

/-- The collector (R421 to R431). -/
def Obligations.FaultsCollected : Prop :=
  (∀ (r : Rep) (n : Nat) (s : State), s.wf = true → faultClass r.cause ∈ [1, 2] → r.cause ≠ cBusErr → r.pg < 64 → r.level < 8 → r.region < 32 →
    r.cluster < 128 → r.unit < 16 → r.detail < 256 → s.freshRecord n r.cause r.region = true → s.faultMasked r.cause r.pg = false →
    Completes (.faultReport [r]) s fun t =>
      Recorded n r.cause r.dup ⟨r.level, r.region, r.cluster, r.unit, r.detail⟩ t ∧ t.rd FLT_REC_INJ n = 0
      ∧ t.rd (classCount (faultClass r.cause)) = (s.rd (classCount (faultClass r.cause)) + 1) % 2 ^ 32 ∧ t.rd FLT_DUP_TOTAL = (s.rd FLT_DUP_TOTAL + r.dup) % 2 ^ 32
      ∧ t.pwr.leaves = (if faultClass r.cause = 2 then s.pwr.leaves.filter fun l => !leaveOf ⟨r.level, r.region, r.cluster, r.unit, r.detail⟩ l else s.pwr.leaves)
      ∧ (faultClass r.cause = 2 → t.pins.errN = false) ∧ (∀ k, k < 64 → k ≠ n → t.recState k = s.recState k) ∧ t.rd C_LF_VALID r.pg = 1)
  ∧ (∀ (cause region cluster u1 u2 n : Nat) (s : State), s.wf = true → faultClass cause = 2 → cause ≠ cBusErr → region < 17 → cluster < 128 → u1 < 16 →
    u2 < 16 → u1 ≠ u2 → s.freshRecord n cause region = true → s.faultMasked cause 2 = false →
    Completes (.faultReport [{ cause := cause, level := 0, region := region, cluster := cluster, unit := u1 },
                             { cause := cause, level := 0, region := region, cluster := cluster, unit := u2 }]) s fun t =>
      t.recState n = 1 ∧ t.rd FLT_REC_CAUSE n = cause ∧ t.rd FLT_REC_DUP n = 1 ∧ t.rd FLT_REC_REGION n = region ∧ t.rd FLT_REC_CLUSTER n = cluster
      ∧ t.rd FLT_REC_UNIT n ∈ [u1, u2] ∧ t.rd FLT_CONT_COUNT = (s.rd FLT_CONT_COUNT + 1) % 2 ^ 32 ∧ t.rd FLT_DUP_TOTAL = (s.rd FLT_DUP_TOTAL + 1) % 2 ^ 32
      ∧ ∀ k, k < 64 → k ≠ n → t.recState k = s.recState k)
  ∧ (∀ (r : Rep) (s : State), s.wf = true → faultClass r.cause ∈ [1, 2] → r.cause ≠ cBusErr → s.dark = false → r.pg < 64 →
    s.faultMasked r.cause r.pg = true → Completes (.faultReport [r]) s fun t =>
      Only [C_LF_CAUSE.one r.pg, C_LF_CLASS.one r.pg, C_LF_VALID.one r.pg, C_LF_SOURCE.one r.pg, C_LF_DUP.one r.pg] { s with orders := t.orders } t
      ∧ t.rd C_LF_VALID r.pg = 1 ∧ (s.rd C_LF_VALID r.pg = 0 → t.rd C_LF_CAUSE r.pg = r.cause % 256 ∧ t.rd C_LF_SOURCE r.pg = r.ch % 2 ^ 16))
  ∧ (∀ (r : Rep) (n : Nat) (s : State), s.wf = true → faultClass r.cause = 1 → s.dark = false → r.pg < 64 → n < 64 →
    s.recState n = 1 → s.rd FLT_REC_CAUSE n = r.cause → s.rd FLT_REC_REGION n = r.region →
    (∀ k, k < n → ¬(s.recState k = 1 ∧ s.rd FLT_REC_CAUSE k = r.cause ∧ s.rd FLT_REC_REGION k = r.region)) → s.faultMasked r.cause r.pg = false →
    Completes (.faultReport [r]) s fun t =>
      Only [C_LF_CAUSE.one r.pg, C_LF_CLASS.one r.pg, C_LF_VALID.one r.pg, C_LF_SOURCE.one r.pg, C_LF_DUP.one r.pg, FLT_REC_DUP.one n, FLT_DUP_TOTAL.one]
        { s with orders := t.orders } t
      ∧ t.rd FLT_REC_DUP n = min 65535 (s.rd FLT_REC_DUP n + 1 + r.dup) ∧ t.rd FLT_DUP_TOTAL = (s.rd FLT_DUP_TOTAL + 1 + r.dup) % 2 ^ 32)
  ∧ (∀ (r : Rep) (n : Nat) (s : State), s.wf = true → faultClass r.cause = 3 → r.pg < 64 → r.level < 8 → r.region < 32 → r.cluster < 128 →
    r.unit < 16 → r.detail < 256 → s.freshRecord n r.cause r.region = true → s.rd FLT_SAFE = 0 → Completes (.faultReport [r]) s fun t =>
      EntersSafe r.cause t ∧ Recorded n r.cause r.dup ⟨r.level, r.region, r.cluster, r.unit, r.detail⟩ t ∧ t.rd FLT_SAFE_LT = s.now % 2 ^ 32 ∧ t.mode = s.mode)
  ∧ (∀ (n : Nat) (s : State), s.wf = true → n < 64 → s.recState n = 1 → Completes (.recordClose n) s fun t =>
      Only [FLT_REC_CLOSE.one n, FLT_REC_RSTATE.one n, FLT_OPEN_COUNT.one] s t ∧ t.recState n = 2
      ∧ t.rd FLT_OPEN_COUNT = ((List.range 64).filter fun k => t.recState k == 1).length)
  ∧ (∀ (u : Nat) (s : State), s.wf = true → s.flt.errUntil = some u → s.rd FLT_SAFE = 0 → s.flt.hbLost = false → Completes .errWidthExpiry s fun t =>
      Only [LTM_HOLD_MF.one, FLT_ERR_LOW.one] { s with time := t.time, flt := { s.flt with errUntil := none }, pins := { s.pins with errN := t.pins.errN } } t
      ∧ t.now = max s.now u
      ∧ (if s.rd FLT_ERR_MODE = 0 ∨ s.flt.errRel = true then t.pins.errN = true ∧ t.rd FLT_ERR_LOW = 0 else t.pins.errN = s.pins.errN ∧ t.rd FLT_ERR_LOW = s.rd FLT_ERR_LOW))
  ∧ (∀ s : State, s.wf = true → s.dark = false → s.rd FLT_ERR_MODE = 1 → s.pins.errN = false → s.flt.errUntil = none → s.rd FLT_SAFE = 0 → s.flt.hbLost = false →
    Completes .errRel s fun t => Only [FLT_ERR_LOW.one] { s with flt := { s.flt with errRel := true }, pins := { s.pins with errN := true } } t ∧ t.rd FLT_ERR_LOW = 0)
  ∧ (∀ s : State, s.wf = true → s.dark = false → s.rd FLT_SAFE = 0 → Completes .collectorSelfFault s fun t =>
      EntersSafe cSelf t ∧ t.rd FLT_SELF_FAULT = 1 ∧ t.flt.order = s.flt.order ∧ t.mode = s.mode)
  ∧ (∀ s : State, s.wf = true → s.mode = .factory → s.rd FLT_SAFE = 0 → Completes .injSelf s fun t =>
      EntersSafe cSelf t ∧ t.rd FLT_SELF_FAULT = 1 ∧ t.flt.order = s.flt.order ∧ t.mode = .factory)
  ∧ (∀ s : State, s.wf = true → s.dark = false → Completes .fltHeartbeatLoss s fun t =>
      Only [FLT_ERR_LOW.one] { s with flt := { s.flt with hbLost := true }, pins := { s.pins with errN := false, txdisN := false } } t ∧ t.rd FLT_ERR_LOW = 1)
  ∧ (∀ (n : Nat) (s : State), s.wf = true → s.flt.hbLost = true → s.rd FLT_SAFE = 0 → s.freshRecord n cFltClock 28 = true → Completes .fltHeartbeatReturn s fun t =>
      EntersSafe cFltClock t ∧ Recorded n cFltClock 0 (srcPackage) t ∧ t.flt.hbLost = false)
  ∧ (∀ (cause region n : Nat) (s : State), s.wf = true → s.mode = .factory → s.rd FLT_INJ_CAUSE = cause → bits (s.rd FLT_INJ_SOURCE) 4 0 = region → faultClass cause = 2 →
    s.freshRecord n cause region = true → Completes .faultInject s fun t =>
      t.recState n = 1 ∧ t.rd FLT_REC_CAUSE n = cause ∧ t.rd FLT_REC_INJ n = 1 ∧ t.rd FLT_REC_REGION n = region ∧ t.rd FLT_REC_DUP n = satU 16 (s.rd FLT_INJ_REPEAT)
      ∧ t.rd FLT_REC_CLUSTER n = bits (s.rd FLT_INJ_SOURCE) 11 5 ∧ t.rd FLT_REC_UNIT n = bits (s.rd FLT_INJ_SOURCE) 15 12
      ∧ t.rd FLT_REC_DETAIL n = bits (s.rd FLT_INJ_SOURCE) 23 16 ∧ t.pins.errN = false)

/-- The privileged clear and the counters (R428, R431 to R435). -/
def Obligations.SafeStateCleared : Prop :=
  (∀ (same : Bool) (k : Nat) (s : State), s.wf = true → s.dark = false →
    k = (if s.rd FLT_SAFE = 0 then 1 else if same = false then 2
         else if (List.range 64).any (fun n => s.recState n == 1 && s.rd FLT_REC_CLASS n == 3) then 3
         else if s.rd FLT_RELEASE_SEEN = 0 ∧ s.mode ≠ .listen then 4 else 0) → Completes (.safeClr same) s fun t =>
      if k = 0 then t.rd FLT_SAFE = 1 ∧ t.flt.clrPend = true ∧ t.rd FLT_SELF_FAULT = 0 ∧ t.rd FLT_OPEN_COUNT = 0 ∧ (∀ n, n < 64 → t.recState n = 0)
      else Only [FLT_CLR_CAUSE.one, FLT_CLR_REFUSED.one, FLT_SELF_FAULT.one] { s with flt := t.flt } t ∧ t.rd FLT_CLR_CAUSE = k ∧ t.rd FLT_CLR_REFUSED = 1
        ∧ t.flt.clrPend = s.flt.clrPend)
  ∧ (∀ (pg : Nat) (s : State), s.wf = true → pg < 128 → Completes (.lfClr pg) s fun t =>
      Only [C_LF_CAUSE.one pg, C_LF_CLASS.one pg, C_LF_VALID.one pg, C_LF_SOURCE.one pg, C_LF_DUP.one pg] s t
      ∧ t.rd C_LF_CAUSE pg = 0 ∧ t.rd C_LF_CLASS pg = 0 ∧ t.rd C_LF_VALID pg = 0 ∧ t.rd C_LF_SOURCE pg = 0 ∧ t.rd C_LF_DUP pg = 0)
  ∧ (∀ (pg : Nat) (s : State), s.wf = true → pg < 256 → Completes (.perfClear pg) s fun t =>
      Only [C_PERF_CYC_LO.one pg, C_PERF_CYC_HI.one pg] s t ∧ t.rd C_PERF_CYC_LO pg = 0 ∧ t.rd C_PERF_CYC_HI pg = 0
      ∧ ∀ k, k < 8 → t.rd C_PERF_VAL_LO (8 * pg + k) = 0 ∧ t.rd C_PERF_VAL_HI (8 * pg + k) = 0)
  ∧ (∀ (v : Bool) (s : State), s.wf = true → Completes (.freezeAllWrite v) s fun t =>
      Only [FLT_FREEZE_ALL.one] { s with flt := { s.flt with freezePend := some (s.now + 131072, v) } } t ∧ t.rd FLT_FREEZE_ALL = (if v then 1 else 0))
  ∧ (∀ (p k rest : Nat) (s : State), s.wf = true → s.dark = false → k < 8 → p < 256 → s.rd C_PERF_FREEZE p = 0 → s.flt.frozen = false →
    s.rd C_PERF_EN (8 * p + k) = 1 → s.rd C_PERF_CHAIN (8 * p + k) = 0 → s.rd C_PERF_CHAIN (8 * p + k + 1) = 0 → s.rd C_PERF_SAMPLE (8 * p + k) = 0 →
    Completes (.perfCounterWrap p k rest) s fun t => Only [] s t
      ∧ t.rd64 C_PERF_VAL_LO C_PERF_VAL_HI (8 * p + k) = rest % 2 ^ 48 ∧ t.rd C_PERF_OVF p = setBit (s.rd C_PERF_OVF p) k
      ∧ ∀ j, j < 8 → j ≠ k → t.rd64 C_PERF_VAL_LO C_PERF_VAL_HI (8 * p + j) = s.rd64 C_PERF_VAL_LO C_PERF_VAL_HI (8 * p + j))

/-! Client ports (chapter 07) -/

/-- Ports and links (R175 to R177). -/
def Obligations.PortsAndLinks : Prop :=
  (∀ (n : Nat) (s : State), s.wf = true → n < 16 → s.rd CLP_P_EN n = 0 →
    (∀ p, p < 16 → p ≠ n → s.rd CLP_P_EN p = 1 → n + s.portLanes n ≤ p ∨ p + s.portLanes p ≤ n) → Completes (.portEnable n []) s fun t =>
      t.rd CLP_P_EN n = 1 ∧ (∀ p, p < 16 → p ≠ n → t.rd CLP_P_EN p = s.rd CLP_P_EN p)
      ∧ t.rd CLP_P_LANE_CONFLICT n = s.rd CLP_P_LANE_CONFLICT n)
  ∧ (∀ (n p : Nat) (s : State), s.wf = true → n < 16 → s.rd CLP_P_EN n = 0 → p < 16 → p ≠ n → s.rd CLP_P_EN p = 1 → n < p + s.portLanes p → p < n + s.portLanes n →
    Completes (.portEnable n []) s fun t =>
      Only [CLP_P_LANE_CONFLICT.one n, CLP_PORT_EVENT.one] s t ∧ t.rd CLP_P_LANE_CONFLICT n = 1 ∧ t.rd CLP_P_EN n = 0)
  ∧ (∀ (n p : Nat) (s : State), s.wf = true → p < n → n < 16 → (∀ q, q < 16 → s.rd CLP_P_EN q = 0) → n < p + s.portLanes p →
    Completes (.portEnable n [p]) s fun t => t.rd CLP_P_EN p = 1 ∧ t.rd CLP_P_EN n = 0 ∧ t.rd CLP_P_LANE_CONFLICT n = 1)
  ∧ (∀ (n : Nat) (s : State), s.wf = true → n < 16 → s.rd CLP_P_EN n = 1 → s.mode ≠ .graze →
    (∀ l, l < s.portLanes n → s.rd SER_L_ADAPT_STATE (n + l) = 3 ∨ s.rd SER_L_ADAPT_STATE (n + l) = 4) → Completes (.amLockGained n) s fun t =>
      Only [CLP_P_AM_LOCK.one n, CLP_P_HI_BER.one n, CLP_P_LOCAL_FAULT.one n, CLP_P_LINK_UP.one n, CLP_P_LINK_DOWN_SEEN.one n, CLP_PORT_EVENT.one] { s with pk := t.pk } t
      ∧ t.rd CLP_P_AM_LOCK n = 1 ∧ t.rd CLP_P_HI_BER n = 0 ∧ t.rd CLP_P_LOCAL_FAULT n = 0
      ∧ (s.rd CLP_P_REMOTE_FAULT n = 0 → (t.port n).goodSince = some ((s.port n).goodSince.getD s.now)))
  ∧ (∀ (n g : Nat) (s : State), s.wf = true → n < 16 → s.rd CLP_P_EN n = 1 → s.rd CLP_P_AM_LOCK n = 1 → s.rd CLP_P_LOCAL_FAULT n = 0 → s.rd CLP_P_LINK_UP n = 0 →
    (s.port n).goodSince = some g → Completes (.linkUpRise n) s fun t =>
      Only [LTM_HOLD_MF.one, CLP_P_HI_BER.one n, CLP_P_REMOTE_FAULT.one n, CLP_P_LINK_UP.one n, CLP_PORT_EVENT.one] { s with time := t.time } t
      ∧ t.rd CLP_P_LINK_UP n = 1 ∧ t.now = max s.now (g + msTicks))
  ∧ (∀ (n cond : Nat) (s : State), s.wf = true → n < 16 → cond < 4 → s.rd CLP_P_EN n = 1 → s.rd CLP_P_LINK_UP n = 1 → Completes (.linkUpFall n cond) s fun t =>
      Only [CLP_P_AM_LOCK.one n, CLP_P_HI_BER.one n, CLP_P_LOCAL_FAULT.one n, CLP_P_REMOTE_FAULT.one n, CLP_P_LINK_UP.one n, CLP_P_LINK_DOWN_SEEN.one n, CLP_PORT_EVENT.one] { s with pk := t.pk } t
      ∧ t.rd CLP_P_LINK_UP n = 0 ∧ t.rd CLP_P_LINK_DOWN_SEEN n = 1 ∧ (t.port n).goodSince = none
      ∧ (cond = 0 → t.rd CLP_P_AM_LOCK n = 0) ∧ (cond = 1 → t.rd CLP_P_HI_BER n = 1) ∧ (cond = 2 → t.rd CLP_P_LOCAL_FAULT n = 1) ∧ (cond = 3 → t.rd CLP_P_REMOTE_FAULT n = 1))

/-- Frames and flow control (R178 to R183, R217). -/
def Obligations.FramesAndPause : Prop :=
  (∀ (n k : Nat) (bytes : List Nat) (pcsErr : Bool) (s : State), s.wf = true → n < 16 → s.rd CLP_P_EN n = 1 → s.rd CLP_P_AM_LOCK n = 1 → s.mode = .service →
    (pcsErr = true ∧ k = 3) ∨ (pcsErr = false ∧ bytes.length < 64 ∧ k = 0) ∨ (pcsErr = false ∧ 64 ≤ bytes.length ∧ s.rd CLP_P_MAX_LEN n < bytes.length ∧ k = 1)
      ∨ (pcsErr = false ∧ 64 ≤ bytes.length ∧ bytes.length ≤ s.rd CLP_P_MAX_LEN n ∧ fcsOk bytes = false ∧ k = 2) → Completes (.clientFrameRx n bytes pcsErr) s fun t =>
      Only [CLP_P_EVENTS_0_0.one n, CLP_PORT_EVENT.one] s t
      ∧ t.rd CLP_P_EVENTS_0_0 n / 16 ^ k % 16 = min 15 (s.rd CLP_P_EVENTS_0_0 n / 16 ^ k % 16 + 1)
      ∧ ∀ j, j < 8 → j ≠ k → t.rd CLP_P_EVENTS_0_0 n / 16 ^ j % 16 = s.rd CLP_P_EVENTS_0_0 n / 16 ^ j % 16)
  ∧ (∀ (n : Nat) (bytes : List Nat) (s : State), s.wf = true → n < 16 → s.rd CLP_P_EN n = 1 → s.rd CLP_P_AM_LOCK n = 1 → s.mode = .service → 64 ≤ bytes.length →
    bytes.length ≤ s.rd CLP_P_MAX_LEN n → fcsOk bytes = true → be bytes 12 2 = 0x8808 → be bytes 14 2 = 1 → s.rd CLP_P_FC_MODE n = 1 → be bytes 16 2 ≠ 0 →
    Completes (.clientFrameRx n bytes false) s fun t =>
      Only [LTM_HOLD_MF.one, CLP_P_EVENTS_0_0.one n, CLP_PORT_EVENT.one, CLP_P_TX_PAUSED.one n] { s with pk := t.pk, time := t.time } t ∧ t.rd CLP_P_TX_PAUSED n = 1
      ∧ t.now = s.now + ceilDiv (bytes.length * 80 * 65536) (1000000 * s.portLanes n) ∧ (t.port n).pause = some (t.now + ceilDiv (be bytes 16 2 * 512 * 655360) (1000000 * s.portLanes n)))
  ∧ (∀ (n : Nat) (bytes : List Nat) (s : State), s.wf = true → n < 16 → s.rd CLP_P_EN n = 1 → s.rd CLP_P_AM_LOCK n = 1 → s.mode = .service → 64 ≤ bytes.length →
    bytes.length ≤ s.rd CLP_P_MAX_LEN n → fcsOk bytes = true → be bytes 12 2 ≠ 0x8808 → s.ingressFill n + bytes.length ≤ 262144 * s.portLanes n →
    s.pwr.transit ≠ some .graze →
    Completes (.clientFrameRx n bytes false) s fun t =>
      (t.port n).ingress = (s.port n).ingress ++ [{ bytes := bytes, isrc := n, lt := s.now % 2 ^ 64 }] ∧ (∀ p, p ≠ n → t.port p = s.port p)
      ∧ (s.fcSends n = false ∨ s.rd CLP_P_XOFF_SENT n = 1 → Only [] { s with pk := t.pk } t)
      ∧ (s.fcSends n = true → s.rd CLP_P_XOFF_SENT n = 0 → s.rd CLP_P_XOFF_TH n * 1024 * s.portLanes n ≤ s.ingressFill n + bytes.length →
          t.rd CLP_P_XOFF_SENT n = 1 ∧ t.rd CLP_PAUSE_TX = (s.rd CLP_PAUSE_TX + 1) % 2 ^ 32
          ∧ .pause n (s.rd CLP_P_PAUSE_QUANTA n) (if s.rd CLP_P_FC_MODE n = 2 then s.rd CLP_P_PFC_TX_MASK n + 256 else 0) ∈ t.out))
  ∧ (∀ (n e : Nat) (s : State), s.wf = true → (s.port n).pause = some e → Completes (.pauseTimerExpiry n none) s fun t =>
      Only [LTM_HOLD_MF.one, CLP_P_TX_PAUSED.one n] { s with time := t.time, pk := t.pk } t ∧ (t.port n).pause = none ∧ t.rd CLP_P_TX_PAUSED n = 0 ∧ t.now = max s.now e)
  ∧ (∀ (n c e : Nat) (s : State), s.wf = true → c < 8 → amGet? (s.port n).pfc c = some e → Completes (.pauseTimerExpiry n (some c)) s fun t =>
      Only [LTM_HOLD_MF.one, CLP_P_PFC_PAUSED.one n] { s with time := t.time, pk := t.pk } t ∧ amGet? (t.port n).pfc c = none
      ∧ bit (t.rd CLP_P_PFC_PAUSED n) c = false ∧ t.now = max s.now e)
  ∧ (∀ (n r : Nat) (s : State), s.wf = true → (s.port n).refresh = some r → s.fcSends n = true → s.rd CLP_P_XON_TH n * 1024 * s.portLanes n < s.ingressFill n →
    Completes (.pauseRefresh n) s fun t => Only [LTM_HOLD_MF.one, CLP_PAUSE_TX.one] { s with time := t.time, pk := t.pk, out := t.out } t
      ∧ t.out = .pause n (s.rd CLP_P_PAUSE_QUANTA n) (if s.rd CLP_P_FC_MODE n = 2 then s.rd CLP_P_PFC_TX_MASK n + 256 else 0) :: s.out
      ∧ t.now = max s.now r ∧ (t.port n).refresh = some (t.now + s.quantaTicks n (s.rd CLP_P_PAUSE_QUANTA n) / 2))
  ∧ (∀ (n : Nat) (f : RxFrame) (rest : List RxFrame) (s : State), s.wf = true → (s.port n).ingress = f :: rest → s.mode ≠ .graze → s.parserRoom n = true → s.rd CLP_P_XOFF_SENT n = 0 →
    Completes (.ingressDrain n) s fun t => Only [] { s with pk := t.pk } t ∧ (t.port n).ingress = rest ∧ (t.lane f.isrc).inq = (s.lane f.isrc).inq ++ [f])
  ∧ (∀ (n : Nat) (fc : Bool) (s : State), s.wf = true → s.rd CLP_P_XOFF_SENT n = 1 → s.rd CLP_P_PAUSE_QUANTA n ≠ 0 → s.rd CLP_P_FC_MODE n = 1 ∨ s.rd CLP_P_FC_MODE n = 2 → Completes (.flowControlDisable n fc) s fun t =>
      Only [CLP_P_FC_MODE.one n, CLP_P_PAUSE_TX_EN.one n, CLP_P_XOFF_SENT.one n, CLP_PAUSE_TX.one] { s with pk := t.pk, out := t.out } t
      ∧ t.out = .pause n 0 (if s.rd CLP_P_FC_MODE n = 2 then s.rd CLP_P_PFC_TX_MASK n + 256 else 0) :: s.out ∧ (t.port n).refresh = none
      ∧ t.rd CLP_P_XOFF_SENT n = 0 ∧ t.rd (if fc then CLP_P_FC_MODE else CLP_P_PAUSE_TX_EN) n = 0)
  ∧ (∀ (n : Nat) (fc : Bool) (s : State), s.wf = true → s.rd CLP_P_XOFF_SENT n = 0 → Completes (.flowControlDisable n fc) s fun t =>
      Only [CLP_P_FC_MODE.one n, CLP_P_PAUSE_TX_EN.one n] s t ∧ t.out = s.out ∧ t.rd (if fc then CLP_P_FC_MODE else CLP_P_PAUSE_TX_EN) n = 0)
  ∧ (∀ (n g : Nat) (f : EFrm) (rest : List EFrm) (s : State), s.wf = true → n < 16 → g < 8 → s.mode = .service → s.rd CLP_P_LINK_UP n = 1 → s.eq (8 * n + g) = f :: rest →
    (∀ h, h < 8 → g < h → s.eq (8 * n + h) = []) → (∀ l, l < 16 → s.rd GAT_EN l = 0) → s.rd QSH_SH_SH_EN (4160 + (8 * n + g)) = 0 → s.rd QSH_SH_SH_EN (4288 + n) = 0 →
    (s.port n).pause = none → (s.port n).pfc = [] → f.corr = none → f.own = none → f.turn = none → fcsOk f.bytes = true → 4 ≤ f.bytes.length → (∀ x ∈ f.bytes, x < 256) →
    Completes (.egressFrameStart n) s fun t =>
      Only [LTM_HOLD_MF.one, QSH_EQ_QFILL.one (8 * n + g), QSH_UBUF_FILL.one, QSH_DBUF_FILL.one] { s with time := t.time, pk := t.pk, out := t.out } t
      ∧ t.out = .frame n f.bytes :: s.out ∧ t.eq (8 * n + g) = rest ∧ t.now = max s.now (s.port n).txEnd ∧ (t.port n).txEnd = t.now + s.wireTicks n f.bytes.length)
  ∧ (∀ (n g : Nat) (f : EFrm) (rest : List EFrm) (s : State), s.wf = true → n < 16 → g < 8 → s.mode = .service → s.rd CLP_P_LINK_UP n = 0 → s.eq (8 * n + g) = f :: rest →
    (∀ h, h < 8 → g < h → s.eq (8 * n + h) = []) → Completes (.egressFrameStart n) s fun t =>
      t.eq (8 * n + g) = rest ∧ t.out.filter (fun o => match o with | .frame _ _ => true | _ => false) = s.out.filter (fun o => match o with | .frame _ _ => true | _ => false)
      ∧ t.rd CLP_P_EVENTS_1_0 n / 16 % 16 = min 15 (s.rd CLP_P_EVENTS_1_0 n / 16 % 16 + 1))

/-! Classification, queues and gates (chapters 08 and 09) -/

/-- Versions and the rule table (R198, R199). -/
def Obligations.ClassifierVersions : Prop :=
  (∀ (v : Nat) (s : State), s.wf = true → (∀ x, x < 4 → s.vstate x = vsDraining → s.inFlight x ≠ 0) → s.rd CLS_VSTATE < 256 → s.rd CLS_STAGE_VALID = 0 → v < 4 →
    s.vstate v = vsFree → (∀ x, x < v → s.vstate x ≠ vsFree) → s.curVer ≠ v → Completes .stage s fun t =>
      Only [CLS_VSTATE.one, CLS_STAGE_VER.one, CLS_STAGE_VALID.one, CLS_STAGE_BUSY.one, CLSE_VMASK.any] s t
      ∧ t.rd CLS_STAGE_VER = v ∧ t.rd CLS_STAGE_VALID = 1 ∧ t.rd CLS_STAGE_BUSY = 1 ∧ t.vstate v = vsStaging ∧ (∀ x, x < 4 → x ≠ v → t.vstate x = s.vstate x)
      ∧ ∀ n, n < 16384 → bit (t.rd CLSE_VMASK n) v = bit (s.rd CLSE_VMASK n) s.curVer ∧ ∀ x, x ≠ v → bit (t.rd CLSE_VMASK n) x = bit (s.rd CLSE_VMASK n) x)
  ∧ (∀ s : State, s.wf = true → (∀ x, x < 4 → s.vstate x = vsDraining → s.inFlight x ≠ 0) → s.rd CLS_STAGE_VALID = 1 → Completes .stage s fun t =>
      Only [CLS_WR_REFUSED.one] s t ∧ t.rd CLS_WR_REFUSED = (s.rd CLS_WR_REFUSED + 1) % 2 ^ 32)
  ∧ (∀ s : State, s.wf = true → s.rd CLS_STAGE_BUSY = 1 → Completes .stageDone s fun t => Only [CLS_STAGE_BUSY.one] s t ∧ t.rd CLS_STAGE_BUSY = 0)
  ∧ (∀ s : State, s.wf = true → (∀ x, x < 4 → s.vstate x = vsDraining → s.inFlight x ≠ 0) → s.rd CLS_VSTATE < 256 → s.rd CLS_STAGE_VALID = 1 → s.rd CLS_STAGE_BUSY = 0 →
    s.sealedCommit = none → Completes .abandon s fun t => Only [CLS_VSTATE.one, CLS_STAGE_VALID.one] s t ∧ t.rd CLS_STAGE_VALID = 0 ∧ t.vstate (s.rd CLS_STAGE_VER) = vsFree
      ∧ ∀ x, x < 4 → x ≠ s.rd CLS_STAGE_VER → t.vstate x = s.vstate x)
  ∧ (∀ s : State, s.wf = true → (∀ x, x < 4 → s.vstate x = vsDraining → s.inFlight x ≠ 0) → s.rd CLS_STAGE_VALID = 0 ∨ s.rd CLS_STAGE_BUSY = 1 ∨ s.sealedCommit ≠ none →
    Completes .abandon s fun t => Only [CLS_WR_REFUSED.one] s t ∧ t.rd CLS_WR_REFUSED = (s.rd CLS_WR_REFUSED + 1) % 2 ^ 32)
  ∧ (∀ (v : Nat) (s : State), s.wf = true → v < 4 → s.rd CLS_VSTATE < 256 → s.vstate v = vsDraining → s.inFlight v = 0 → Completes (.versionRetire v) s fun t =>
      Only [CLS_VSTATE.one] s t ∧ t.vstate v = vsFree ∧ ∀ x, x < 4 → x ≠ v → t.vstate x = s.vstate x)
  ∧ (∀ (n w value : Nat) (s : State), s.wf = true → (∀ x, x < 4 → s.vstate x = vsDraining → s.inFlight x ≠ 0) → n < 16384 → w < 35 → s.rd CLSE_VMASK n &&& s.liveMask ≠ 0 →
    Completes (.ruleEntryWrite n w value) s fun t => Only [CLS_WR_REFUSED.one] s t ∧ t.rd CLS_WR_REFUSED = (s.rd CLS_WR_REFUSED + 1) % 2 ^ 32)
  ∧ (∀ (n w value : Nat) (s : State), s.wf = true → (∀ x, x < 4 → s.vstate x = vsDraining → s.inFlight x ≠ 0) → n < 16384 → w < 32 → s.rd CLSE_VMASK n &&& s.liveMask = 0 → s.rd CLSE_ERR n = 0 →
    Completes (.ruleEntryWrite n w value) s fun t => Only [(if w < 16 then CLSE_KEY else CLSE_MASK).one (16 * n + w % 16)] s t
      ∧ t.rd (if w < 16 then CLSE_KEY else CLSE_MASK) (16 * n + w % 16) = value % 2 ^ 32)
  ∧ (∀ (n value : Nat) (s : State), s.wf = true → (∀ x, x < 4 → s.vstate x = vsDraining → s.inFlight x ≠ 0) → n < 16384 → s.rd CLS_STAGE_BUSY = 0 →
    Completes (.vmaskWrite n value) s fun t => Only [CLSE_VMASK.one n, CLS_WR_REFUSED.one] s t
      ∧ ∀ x, x < 4 → bit (t.rd CLSE_VMASK n) x = (if bit s.liveMask x then bit (s.rd CLSE_VMASK n) x else bit value x))

/-- Lookup and release (R190 to R205). -/
def Obligations.FramesClassified : Prop :=
  (∀ (i : Nat) (f : RxFrame) (rest : List RxFrame) (s : State), s.wf = true → s.seals = [] → i < 18 → (s.lane i).inq = f :: rest → f.isrc = i → s.parserTurn = some i →
    (parse f.bytes f.isrc f.dir f.ltid).pf = 0 → (∀ n, n < 16384 → s.rd CLSE_VMASK n = 0) → Completes (.classifyFrame i []) s fun t =>
      Only [CLS_SRC_FRAMES_LO.one i, CLS_SRC_FRAMES_HI.one i, CLS_SRC_BYTES_LO.one i, CLS_SRC_BYTES_HI.one i, CLS_MISS.one, CLS_SRC_SRC_MISS.one i, CLS_SRC_REORDER_MAX.one i, CLS_INFLIGHT.one] { s with pk := t.pk, orders := t.orders } t
      ∧ (t.lane i).inq = rest ∧ (t.lane i).next = ((s.lane i).next + 1) % 65536 ∧ t.rd CLS_MISS = (s.rd CLS_MISS + 1) % 2 ^ 32
      ∧ t.rd64 CLS_SRC_FRAMES_LO CLS_SRC_FRAMES_HI i = (s.rd64 CLS_SRC_FRAMES_LO CLS_SRC_FRAMES_HI i + 1) % 2 ^ 64
      ∧ t.rd64 CLS_SRC_BYTES_LO CLS_SRC_BYTES_HI i = (s.rd64 CLS_SRC_BYTES_LO CLS_SRC_BYTES_HI i + f.bytes.length) % 2 ^ 64
      ∧ (t.lane i).items = (s.lane i).items ++ [.frame (s.lane i).next
          { f := f, ver := s.curVer, entry := none, fwd := false, slow := some 0, pf := 0, func := s.rd CLS_MISS_FUNC, a0 := 0, a1 := 0, a2 := 0, ptp := false, at_ := s.now % 2 ^ 64, eng := s.pk.engine }]
      ∧ t.pk.engine = (s.pk.engine + 1) % 4)
  ∧ (∀ (i n : Nat) (f : RxFrame) (rest : List RxFrame) (s : State), s.wf = true → s.seals = [] → i < 18 → (s.lane i).inq = f :: rest → f.isrc = i → s.parserTurn = some i →
    (parse f.bytes f.isrc f.dir f.ltid).pf = 0 → n < 16384 → (∀ k, k < n → bit (s.rd CLSE_VMASK k) s.curVer = false) → bit (s.rd CLSE_VMASK n) s.curVer = true → s.rd CLSE_ERR n = 0 →
    ((parse f.bytes f.isrc f.dir f.ltid).key ^^^ s.entryKey CLSE_KEY n) &&& s.entryKey CLSE_MASK n = 0 → s.rd CLSE_DISP n = 0 → Completes (.classifyFrame i []) s fun t =>
      (t.lane i).inq = rest ∧ t.rd64 CLSE_HITS_LO CLSE_HITS_HI n = (s.rd64 CLSE_HITS_LO CLSE_HITS_HI n + 1) % 2 ^ 64
      ∧ t.rd64 CLSE_BYTES_LO CLSE_BYTES_HI n = (s.rd64 CLSE_BYTES_LO CLSE_BYTES_HI n + f.bytes.length) % 2 ^ 64 ∧ t.rd CLS_MISS = s.rd CLS_MISS
      ∧ (t.lane i).items = (s.lane i).items ++ [.frame (s.lane i).next
          { f := f, ver := s.curVer, entry := some n, fwd := true, slow := none, pf := 0, func := s.rd CLSE_SP_FUNC n, a0 := s.actWord n 32, a1 := s.actWord n 33
            a2 := s.actWord n 34, ptp := (parse f.bytes f.isrc f.dir f.ltid).ptp, at_ := s.now % 2 ^ 64, eng := s.pk.engine }])
  ∧ (∀ (i : Nat) (f : RxFrame) (rest : List RxFrame) (s : State), s.wf = true → s.seals = [] → i < 18 → (s.lane i).inq = f :: rest → f.isrc = i → s.parserTurn = some i →
    (parse f.bytes f.isrc f.dir f.ltid).pf ≠ 0 → Completes (.classifyFrame i []) s fun t =>
      (t.lane i).inq = rest ∧ t.rd CLS_PARSE_FAIL = (s.rd CLS_PARSE_FAIL + 1) % 2 ^ 32 ∧ t.rd CLS_SRC_LAST_PF i = (parse f.bytes f.isrc f.dir f.ltid).pf % 2 ^ CLS_SRC_LAST_PF.w
      ∧ (t.lane i).items.length = (s.lane i).items.length + 1)
  ∧ (∀ (i : Nat) (bad : List Nat) (s : State), s.wf = true → s.seals = [] → s.parserTurn ≠ some i → Completes (.classifyFrame i bad) s fun t => t = s)
  ∧ (∀ (i buf len q : Nat) (j : Judged) (rest : List LaneItem) (s : State), s.wf = true → s.seals = [] → i < 19 → (s.lane i).items = .frame q j :: rest → s.heldBack i = false →
    j.fwd = false → j.slow = none → Completes (.reorderRelease i buf len []) s fun t =>
      Only [CLS_INFLIGHT.one] { s with pk := t.pk } t ∧ (t.lane i).items = rest ∧ t.pk.uqs = s.pk.uqs ∧ t.pk.eqs = s.pk.eqs)
  ∧ (∀ (i buf len q : Nat) (j : Judged) (rest : List LaneItem) (s : State), s.wf = true → s.seals = [] → i < 19 → (s.lane i).items = .frame q j :: rest → s.heldBack i = false →
    j.fwd = true → j.slow = none → j.f.dir = 0 → bit j.a0 4 = false → Completes (.reorderRelease i buf len []) s fun t =>
      (t.lane i).items = rest ∧ (s.rd UPB_TID_VALID = 0 → t.rd CLP_NO_TID = (s.rd CLP_NO_TID + 1) % 2 ^ 32 ∧ t.pk.uqs = s.pk.uqs)
      ∧ (s.rd UPB_TID_VALID = 1 → s.rd QSH_UQ_EN (bits j.a1 25 14) = 1 → s.rd QSH_UQ_QMAX (bits j.a1 25 14) = 0 → s.ubuf + j.f.bytes.length ≤ 33554432 →
          (t.uq (bits j.a1 25 14)).frames.dropLast = (s.uq (bits j.a1 25 14)).frames ∧ ((t.uq (bits j.a1 25 14)).frames.getLast?.any fun x =>
            x.len == j.f.bytes.length && x.data.drop (x.data.length - j.f.bytes.length) == j.f.bytes) = true))

/-- Queues and schedulers (R204, R208 to R212). That the queue whose turn begins is named by the command is log 17. -/
def Obligations.QueuesServed : Prop :=
  (∀ (u v : Nat) (s : State), s.wf = true → u < 4096 → v % 64 ≠ s.rd QSH_UQ_ALLOC u → Completes (.uqAllocWrite u v) s fun t =>
      if s.rd QSH_UQ_EN u = 0 ∧ s.rd QSH_UQ_QFILL u = 0 then Only [QSH_UQ_ALLOC.one u] s t ∧ t.rd QSH_UQ_ALLOC u = v % 64
      else Only [QSH_UQ_MAP_BUSY.one u, QSH_MAP_REFUSED.one] s t ∧ t.rd QSH_UQ_MAP_BUSY u = 1 ∧ t.rd QSH_MAP_REFUSED = (s.rd QSH_MAP_REFUSED + 1) % 2 ^ QSH_MAP_REFUSED.w)
  ∧ (∀ (u : Nat) (f : UFrm) (s : State), s.wf = true → u < 4096 → s.pk.stalled = some (u, f) → s.ubuf + f.len ≤ 33554432 → s.rd QSH_UQ_EN u = 1 → s.rd QSH_UQ_QMAX u = 0 →
    Completes .admissionResume s fun t =>
      Only [QSH_UQ_QFILL.one u, QSH_UQ_ENQ_LO.one u, QSH_UQ_ENQ_HI.one u, QSH_UBUF_FILL.one, QSH_DBUF_FILL.one, CLS_INFLIGHT.one] { s with pk := t.pk } t
      ∧ t.pk.stalled = none ∧ t.pk.stalledBy = none ∧ t.uq u = { s.uq u with frames := (s.uq u).frames ++ [f] }
      ∧ t.rd64 QSH_UQ_ENQ_LO QSH_UQ_ENQ_HI u = (s.rd64 QSH_UQ_ENQ_LO QSH_UQ_ENQ_HI u + 1) % 2 ^ 64)
  ∧ (∀ (al u : Nat) (f : UFrm) (rest : List UFrm) (q : UQueue) (s : State), s.wf = true → al < 64 → u < 4096 → s.pk.uqs = [(u, q)] → q.frames = f :: rest → s.rd QSH_UQ_ALLOC u = al →
    s.rd QSH_SH_SH_EN u = 0 → s.rd QSH_SH_SH_EN (4096 + al) = 0 → s.rd QSH_AL_SEAL_TO al = 0 → (s.asmOf al).seals = [] → s.sealedNow al = none → (s.sched al).turns = [] → (s.sched al).served = [] →
    f.len ≤ q.deficit + s.rd QSH_UQ_QUANTUM u → (s.asmOf al).payload.length + f.data.length ≤ 16336 → Completes (.schedulerMoveUnit al u) s fun t =>
      Only [QSH_UQ_QFILL.one u, QSH_AL_OPEN_FILL.one al, QSH_UBUF_FILL.one, QSH_DBUF_FILL.one] { s with pk := t.pk, asm := t.asm } t
      ∧ (t.uq u).frames = rest ∧ (t.uq u).deficit = (if rest = [] then 0 else q.deficit + s.rd QSH_UQ_QUANTUM u - f.len)
      ∧ (t.asmOf al).payload = (s.asmOf al).payload ++ f.data ∧ (t.asmOf al).fcount = (s.asmOf al).fcount + 1 ∧ (t.asmOf al).seals = []
      ∧ (t.asmOf al).since = (if (s.asmOf al).payload = [] then s.now else (s.asmOf al).since))
  ∧ (∀ (al : Nat) (s : State), s.wf = true → al < 64 → s.rd QSH_AL_SEAL_TO al ≠ 0 → (s.asmOf al).payload ≠ [] → (s.asmOf al).seals = [] → s.isExpress al = false →
    s.rd CAV_STATE ≠ cavInit → s.cave.ring = [] → s.cave.rack = [] → s.cave.waiters = [] → s.cave.retained = [] → Completes (.sealTimeout al) s fun t =>
      t.now = max s.now ((s.asmOf al).since + s.rd QSH_AL_SEAL_TO al * usTicks) ∧ (t.asmOf al).payload = [] ∧ (t.asmOf al).fcount = 0
      ∧ (t.asmOf al).seals.map (fun r => (r.payload, r.fcount, r.flags, r.exp)) = [((s.asmOf al).payload, (s.asmOf al).fcount, 4, false)]
      ∧ t.cave.waiters.map Waiter.al = [al])

/-- Gate lists (R218 to R220). -/
def Obligations.GatesRun : Prop :=
  (∀ (n : Nat) (s : State), s.wf = true → n < 16 → s.rd GAT_PEND n = 0 → s.rd GAT_P_CYCLE n = 0 ∨ s.rd GAT_P_COUNT n = 0 ∨ 256 < s.rd GAT_P_COUNT n → Completes (.gateListCommit n) s fun t =>
      Only [GAT_REFUSED.one n, GAT_REFUSALS.one] s t ∧ t.rd GAT_REFUSED n = 1 ∧ t.rd GAT_REFUSALS = (s.rd GAT_REFUSALS + 1) % 2 ^ GAT_REFUSALS.w)
  ∧ (∀ (n base least : Nat) (s : State), s.wf = true → n < 16 → s.rd GAT_PEND n = 0 → s.rd GAT_P_CYCLE n ≠ 0 → 1 ≤ s.rd GAT_P_COUNT n → s.rd GAT_P_COUNT n ≤ 256 →
    base = s.rd64 GAT_P_BASE_S_LO GAT_P_BASE_S_HI n * 1000000000 + s.rd GAT_P_BASE_NS n → least = s.tbNow (s.rd GAT_P_TBASE n) + 125000 → s.rd GAT_P_BASE_S_HI n < 2 ^ 15 →
    least < 2 ^ 47 * 1000000000 → s.rd GAT_P_BASE_NS n < 1000000000 → Completes (.gateListCommit n) s fun t =>
      Only [GAT_ACT_S_LO.one n, GAT_ACT_S_HI.one n, GAT_ACT_NS.one n, GAT_PEND.one n, GAT_COMMITS.one, GAT_ADVANCED.one n] s t
      ∧ t.rd GAT_PEND n = 1 ∧ t.rd GAT_COMMITS = (s.rd GAT_COMMITS + 1) % 2 ^ GAT_COMMITS.w
      ∧ (least ≤ base → t.gateStart n = base)
      ∧ (base < least → t.rd GAT_ADVANCED n = 1 ∧ least ≤ t.gateStart n ∧ t.gateStart n < least + s.rd GAT_P_CYCLE n ∧ (t.gateStart n - base) % s.rd GAT_P_CYCLE n = 0))
  ∧ (∀ (n : Nat) (s : State), s.wf = true → n < 16 → s.rd GAT_PEND n = 1 → Completes (.gateListStart n) s fun t =>
      t.rd GAT_RUNNING n = 1 ∧ t.rd GAT_PEND n = 0 ∧ t.rd GAT_A_CYCLE n = s.rd GAT_P_CYCLE n ∧ t.rd GAT_A_COUNT n = s.rd GAT_P_COUNT n ∧ t.rd GAT_A_TBASE n = s.rd GAT_P_TBASE n
      ∧ bit (t.rd GAT_RUNNING_MAP) n = true
      ∧ ∀ e, e < 256 → t.rd GAT_AB_GATES (256 * n + e) = s.rd GAT_PB_GATES (256 * n + e) ∧ t.rd GAT_AB_INTERVAL (256 * n + e) = s.rd GAT_PB_INTERVAL (256 * n + e))
  ∧ (∀ (n : Nat) (s : State), s.wf = true → n < 16 → s.rd GAT_PEND n = 1 → s.tbNow (s.rd GAT_P_TBASE n) < s.gateStart n → Completes (.gateListCancel n) s fun t =>
      Only [GAT_PEND.one n] s t ∧ t.rd GAT_PEND n = 0)
  ∧ (∀ (n : Nat) (e f : Slice) (rest : List Slice) (s : State), s.wf = true → n < 16 → s.rd GAT_RUNNING n = 1 → fromPos (s.gatePos n) (s.gateList n) = e :: f :: rest →
    Completes (.gateEntryAdvance n) s fun t => Only [LTM_HOLD_MF.one, GAT_GATES.one n, GAT_CUR_ENTRY.one n] { s with time := t.time } t
      ∧ t.rd GAT_GATES n = f.gates % 256 ∧ t.rd GAT_CUR_ENTRY n = f.idx % 256 ∧ t.now = s.now + ceilDiv e.dur 1000)

/-! The cave (chapter 10) -/

/-- Initialisation and upkeep of the pool (R232 to R237, R252). -/
def Obligations.PoolBroughtUp : Prop :=
  (∀ s : State, s.wf = true → s.rd CAV_STATE = cavOff ∨ s.rd CAV_STATE = cavFail → Completes .caveInit s fun t =>
      Only [CAV_STATE.one, CAV_INIT_GO.one, CAV_POOL_READY.one, DDR_POPULATED.any, DDR_TRAIN_STATE.any, DDR_TRAIN_CAUSE.any] s t
      ∧ t.rd CAV_STATE = cavTrain ∧ t.rd CAV_INIT_GO = 1 ∧ t.rd CAV_POOL_READY = 0
      ∧ ∀ ch, ch < 16 → t.rd DDR_POPULATED ch = b2n (decide (ch < s.cavN)) ∧ t.rd DDR_TRAIN_STATE ch = b2n (decide (ch < s.cavN)) ∧ t.rd DDR_TRAIN_CAUSE ch = 0)
  ∧ (∀ s : State, s.rd CAV_STATE ≠ cavOff → s.rd CAV_STATE ≠ cavFail → Completes .caveInit s fun t => t = s)
  ∧ (∀ s : State, s.wf = true → s.rd CAV_STATE = cavTrain → s.rd CAV_DIMM_SIZE < 3 → Completes (.caveTrainDone []) s fun t =>
      t.rd CAV_STATE = cavInit ∧ t.rd CAV_C_TOT = s.cTot ∧ t.rd CAV_POOL_BASE = s.poolBase ∧ (∀ ch, ch < s.cavN → t.rd DDR_TRAIN_STATE ch = 2) ∧ t.pk = s.pk
      ∧ s.poolBase ≤ t.cave.zeroed ∧ t.cave.zeroed ≤ s.cTot
      ∧ (s.cave.waiters = [] → t.rd CAV_POOL_FREE = t.cave.zeroed - s.poolBase ∧ runCount t.cave.ring + runCount t.cave.rack = t.cave.zeroed - s.poolBase
          ∧ (∀ idx, t.ownOf false idx = { owner := if idx < s.poolBase then 0xFE else 0xFF }) ∧ (∀ al, al < 64 → t.rd CAV_AL_HELD_ALL al = 0)
          ∧ (∀ idx, { t.ownOf true idx with link := 0 } = { s.ownOf true idx with link := 0 }) ∧ t.cave.expFree = s.cave.expFree ∧ t.up = s.up))
  ∧ (∀ (ch cause : Nat) (s : State), s.wf = true → s.rd CAV_STATE = cavTrain → ch < s.cavN → cause = 1 ∨ cause = 2 ∨ cause = 3 →
    Completes (.caveTrainDone [(ch, cause)]) s fun t =>
      Only [CAV_STATE.one, CAV_FAIL_CH.one, CAV_INIT_GO.one, DDR_POPULATED.any, DDR_TRAIN_STATE.any, DDR_TRAIN_CAUSE.any] s t
      ∧ t.rd CAV_STATE = cavFail ∧ t.rd CAV_FAIL_CH = ch ∧ t.rd CAV_INIT_GO = 0 ∧ t.rd DDR_TRAIN_STATE ch = 3 ∧ t.rd DDR_TRAIN_CAUSE ch = cause
      ∧ bit (t.rd C_INT_STAT 16) 1 = true ∧ bit (t.rd C_INT_STAT 17) 2 = true)
  ∧ (∀ s : State, s.wf = true → s.rd CAV_STATE = cavInit → s.cave.ring = [] → s.cave.rack = [] → s.cave.waiters = [] → s.cave.zeroed = s.rd CAV_POOL_BASE →
    s.rd CAV_POOL_BASE + 2048 ≤ s.rd CAV_C_TOT → Completes .caveReady s fun t =>
      Only [CAV_STATE.one, CAV_INIT_GO.one, CAV_POOL_READY.one, CAV_POOL_FREE.one, CAV_RACK_FILL.one] { s with cave := t.cave } t
      ∧ t.rd CAV_STATE = cavReady ∧ t.rd CAV_POOL_READY = 1 ∧ t.rd CAV_INIT_GO = 0 ∧ t.rd CAV_POOL_FREE = s.rd CAV_C_TOT - s.rd CAV_POOL_BASE ∧ t.rd CAV_RACK_FILL = 2048
      ∧ t.cave = { s.cave with ring := t.cave.ring, rack := t.cave.rack, zeroed := s.rd CAV_C_TOT, scrubDue := s.now + s.rd CAV_SCRUB_HOURS * 3600000 * msTicks }
      ∧ bit (t.rd C_INT_STAT 16) 0 = true)
  ∧ (∀ s : State, s.wf = true → s.mode = .service ∨ s.mode = .listen → s.dark = false → s.entering = false → s.rd CAV_STATE = cavRefresh → Completes .caveStateReload s fun t =>
      Only [CAV_STATE.one, DDR_TRAIN_STATE.any] s t ∧ t.rd CAV_STATE = cavReady
      ∧ ∀ ch, ch < 16 → t.rd DDR_TRAIN_STATE ch = if s.rd DDR_TRAIN_STATE ch = 4 then 2 else s.rd DDR_TRAIN_STATE ch)
  ∧ (∀ s : State, s.wf = true → s.rd CAV_SCRUB_EN = 1 → s.rd CAV_STATE = cavReady → s.cave.scrubRetry = none → s.leaveFits 200 = true → s.blockFaulted ⟨lcScrub, 200, 13, 0⟩ = false →
    s.rd CAV_SCRUB_POS + 64 < s.rd CAV_C_TOT → s.pwr.leaves = [] → Completes .scrubStep s fun t =>
      Only [CAV_SCRUB_POS.one, PWR_LC_GRANTED.one lcScrub, PWR_LEAVE_HELD.one, PWR_LC_HELD.one lcScrub] { s with pwr := { s.pwr with shares := t.pwr.shares } } t
      ∧ t.rd CAV_SCRUB_POS = s.rd CAV_SCRUB_POS + 64 ∧ t.rd PWR_LC_GRANTED lcScrub = (s.rd PWR_LC_GRANTED lcScrub + 1) % 2 ^ 32)
  ∧ (∀ s : State, s.wf = true → s.rd CAV_SCRUB_EN = 1 → s.rd CAV_STATE = cavReady → s.cave.scrubRetry = none → s.leaveFits 200 = false → Completes .scrubStep s fun t =>
      Only [CAV_SCRUB_REFUSED.one, PWR_LC_REFUSED.one lcScrub] { s with cave := { s.cave with scrubRetry := some (s.now + msTicks) } } t
      ∧ t.rd CAV_SCRUB_REFUSED = (s.rd CAV_SCRUB_REFUSED + 1) % 2 ^ CAV_SCRUB_REFUSED.w)
  ∧ (∀ (ch : Nat) (s : State), s.wf = true → ch < 16 → s.rd DDR_TRAIN_STATE ch = 2 → s.leaveFits 300 = true → s.blockFaulted ⟨lcDdrRetrain, 300, ddrRegion ch, 0⟩ = false → s.pwr.leaves = [] → Completes (.ddrRetrainSlice ch) s fun t =>
      Only [DDR_RETRAINS.one ch, PWR_LC_GRANTED.one lcDdrRetrain, PWR_LEAVE_HELD.one, PWR_LC_HELD.one lcDdrRetrain] { s with pwr := { s.pwr with shares := t.pwr.shares } } t
      ∧ t.rd DDR_RETRAINS ch = (s.rd DDR_RETRAINS ch + 1) % 2 ^ DDR_RETRAINS.w)
  ∧ (∀ (ch temp : Nat) (s : State), s.wf = true → ch < 16 → temp < 256 → Completes (.dimmTempHot ch temp) s fun t =>
      Only [DDR_TEMP.one ch] s t ∧ t.rd DDR_TEMP ch = temp ∧ (85 ≤ temp → temp < 128 → bit (t.rd C_INT_STAT 17) 3 = true)
      ∧ (temp < 85 ∨ 128 ≤ temp → Only [DDR_TEMP.one ch] { s with out := t.out, msixPend := t.msixPend } t ∧ t.rd C_INT_STAT 17 = s.rd C_INT_STAT 17))

/-- Takes, frees, waits, purges and reads (R236 to R250). -/
def Obligations.ContainersTakenAndFreed : Prop :=
  (∀ (al h : Nat) (r : SealReq) (rack : List Run) (k1 k2 : List Nat) (s : State), s.wf = true → al < 64 → (s.asmOf al).seals = [r] → r.exp = false → s.rd CAV_STATE = cavReady →
    s.cave.waiters = [] → s.openFull = false → rackPop s.cave.rack = some (h, rack) → s.popOk false h = true → 2048 ≤ runCount rack → runCount rack ≤ 6144 → s.xtsPair (s.rd CAV_ACTIVE_KSEL) = some (k1, k2) →
    s.heldOf al = [] → runCount s.cave.ring + runCount rack < 2 ^ 27 → Completes (.containerTake al) s fun t =>
      (t.asmOf al).seals = [] ∧ t.ownOf false (hIndex h) = { owner := al, ksel := s.rd CAV_ACTIVE_KSEL, gen := hGen h } ∧ t.heldOf al = [⟨h, false, s.rd QSH_AL_SEQ_NEXT al⟩]
      ∧ t.cave.rack = rack ∧ t.cave.ring = s.cave.ring ∧ t.rd CAV_POOL_FREE = runCount s.cave.ring + runCount rack
      ∧ t.rd64 QSH_AL_SEALED_LO QSH_AL_SEALED_HI al = (s.rd64 QSH_AL_SEALED_LO QSH_AL_SEALED_HI al + 1) % 2 ^ 64
      ∧ t.contData false (hIndex h) = (xts true k1 k2 (hIndex h) (contHeader al r.tid r.mem (s.rd QSH_AL_SEQ_NEXT al) r.fcount r.payload.length (r.lt % 2 ^ 64) 0 r.flags
          ++ r.payload ++ List.replicate (contPayload - r.payload.length) 0 ++ List.replicate 16 0)))
  ∧ (∀ (al : Nat) (r : SealReq) (s : State), s.wf = true → al < 64 → (s.asmOf al).seals = [r] → r.exp = false → s.rd CAV_STATE = cavReady → s.cave.waiters = [] → s.cave.rack = [] →
    s.cave.retained = [] → (s.order (rtTake false) 64).filter (· == al) = [al] → Completes (.containerTake al) s fun t =>
      Only [CAV_WAITING.one] { s with cave := { s.cave with waiters := [⟨al, s.now, false⟩] } } t ∧ t.rd CAV_WAITING = 1)
  ∧ (∀ (purger : Bool) (h al : Nat) (o : Own) (s : State), s.wf = true → al < 64 → hIndex h < s.rd CAV_C_TOT → s.ownOf false (hIndex h) = o → o.owner = al → o.gen = hGen h →
    o.poison = false → s.cave.waiters = [] → s.cave.retained = [] → s.heldOf al = [] → 2048 ≤ runCount s.cave.rack → runCount s.cave.rack < 6144 →
    Completes (.containerFree purger false h al) s fun t =>
      Only [CAV_AL_HELD_ALL.one al, CAV_KSEL0_COUNT.one, CAV_KSEL1_COUNT.one, CAV_POOL_FREE.one, CAV_RACK_FILL.one] { s with cave := t.cave } t
      ∧ t.ownOf false (hIndex h) = { owner := 0xFF, gen := (o.gen + 1) % 32 } ∧ t.cave.ring = s.cave.ring
      ∧ (rackPop t.cave.rack).map Prod.fst = some (handleOf (hIndex h) ((o.gen + 1) % 32)) ∧ runCount t.cave.rack = runCount s.cave.rack + 1 ∧ (∀ idx, idx ≠ hIndex h → t.ownOf false idx = s.ownOf false idx))
  ∧ (∀ (purger exp : Bool) (h owner : Nat) (s : State), s.wf = true → s.freeOk exp h owner = false → Completes (.containerFree purger exp h owner) s fun t =>
      t.cave = s.cave ∧ (if (if exp then 4096 else s.rd CAV_C_TOT) ≤ hIndex h then t.rd CAV_FREE_FOREIGN = (s.rd CAV_FREE_FOREIGN + 1) % 2 ^ CAV_FREE_FOREIGN.w
        else if (s.ownOf exp (hIndex h)).owner = 0xFF then t.rd CAV_FREE_DOUBLE = (s.rd CAV_FREE_DOUBLE + 1) % 2 ^ CAV_FREE_DOUBLE.w
        else if (s.ownOf exp (hIndex h)).owner ≠ owner then t.rd CAV_FREE_FOREIGN = (s.rd CAV_FREE_FOREIGN + 1) % 2 ^ CAV_FREE_FOREIGN.w
        else t.rd CAV_FREE_STALE = (s.rd CAV_FREE_STALE + 1) % 2 ^ CAV_FREE_STALE.w))
  ∧ (∀ (exp : Bool) (al since : Nat) (s : State), s.wf = true → s.waitersOf exp = [⟨al, since, false⟩] → s.rd CAV_WAIT_TH ≠ 0 → Completes (.waitLong exp al) s fun t =>
      t.waitersOf exp = [⟨al, since, true⟩] ∧ t.rd CAV_WAIT_LONG = (s.rd CAV_WAIT_LONG + 1) % 2 ^ CAV_WAIT_LONG.w ∧ t.now = max s.now (since + s.rd CAV_WAIT_TH * usTicks + 1)
      ∧ bit (t.rd C_INT_STAT 16) 3 = true)
  ∧ (∀ (h al d : Nat) (s : State), s.wf = true → al < 64 → s.cave.retained = [⟨h, true, al, d⟩] → hIndex h < 4096 → s.ownOf true (hIndex h) = { owner := al, gen := hGen h } →
    s.cave.expWaiters = [] → s.cave.expFree = [] → Completes .retainExpiry s fun t =>
      t.cave.retained = [] ∧ t.ownOf true (hIndex h) = { owner := 0xFF, gen := (hGen h + 1) % 32 } ∧ t.cave.expFree = [⟨hIndex h, 1, (hGen h + 1) % 32⟩] ∧ t.rd CAV_EXP_FREE = 1
      ∧ t.rd CAV_AL_RETAINED al = 0 ∧ t.now = max s.now d)
  ∧ (∀ s : State, s.wf = true → s.rd CAV_CMD_GO = 0 → Completes .purge s fun t =>
      Only [CAV_CMD.one, CAV_CMD_GO.one] { s with cave := { s.cave with purge := t.cave.purge } } t ∧ t.rd CAV_CMD = 1 ∧ t.rd CAV_CMD_GO = 1
      ∧ t.cave.purge = ((List.range 64).filter s.purgeMasked).flatMap fun al => (s.heldOf al).map fun c => (al, c))
  ∧ (∀ s : State, s.wf = true → s.rd CAV_CMD_GO = 1 → s.cave.purge.all (fun e => !(s.heldOf e.1).contains e.2) = true → Completes .purgeDone s fun t =>
      Only [CAV_CMD_GO.one] { s with cave := { s.cave with purge := [] } } t ∧ t.rd CAV_CMD_GO = 0 ∧ bit (t.rd C_INT_STAT 16) 8 = true)
  ∧ (∀ (h al : Nat) (c : Held) (s : State), s.wf = true → al < 64 → s.rd CAV_CMD_GO = 1 → s.cave.purge = [(al, c)] → s.heldOf al = [c] → c.exp = true → hIndex c.handle < 4096 → h = c.handle →
    s.ownOf true (hIndex h) = { owner := al, gen := hGen h } → s.cave.expWaiters = [] → Completes .purgeDone s fun t =>
      t.heldOf al = [] ∧ t.cave.purge = [] ∧ t.rd CAV_CMD_GO = 0 ∧ t.ownOf true (hIndex h) = { owner := 0xFF, gen := (hGen h + 1) % 32 }
      ∧ t.rd64 CAV_AL_PURGED_LO CAV_AL_PURGED_HI al = (s.rd64 CAV_AL_PURGED_LO CAV_AL_PURGED_HI al + 1) % 2 ^ 64
      ∧ t.rd64 QSH_AL_COMMITTED_LO QSH_AL_COMMITTED_HI al = (s.rd64 QSH_AL_COMMITTED_LO QSH_AL_COMMITTED_HI al + 1) % 2 ^ 64)
  ∧ (∀ (exp : Bool) (h : Nat) (d : List Nat) (s : State), s.wf = true → exp = decide (s.rd CAV_WIN_EXP = 1) → h = s.rd CAV_WIN_HANDLE → hIndex h < (if exp then 4096 else s.rd CAV_C_TOT) →
    (s.ownOf exp (hIndex h)).owner = s.rd CAV_WIN_OWNER → (s.ownOf exp (hIndex h)).gen = hGen h → s.loadCont exp (hIndex h) = some d → s.openFull = false → Completes .caveWindowRead s fun t =>
      Only [CAV_WIN_ERR.one, CAV_WIN_GO.one] { s with cave := { s.cave with window := d } } t ∧ t.rd CAV_WIN_ERR = 0 ∧ t.rd CAV_WIN_GO = 0)
  ∧ (∀ (exp : Bool) (h : Nat) (s : State), s.wf = true → exp = decide (s.rd CAV_WIN_EXP = 1) → h = s.rd CAV_WIN_HANDLE → s.openFull = false →
    s.accessOk exp h (s.rd CAV_WIN_OWNER) = false → (if exp then 4096 else s.rd CAV_C_TOT) ≤ hIndex h ∨
    (s.ownOf exp (hIndex h)).owner ≠ s.rd CAV_WIN_OWNER ∨ (s.ownOf exp (hIndex h)).gen ≠ hGen h → Completes .caveWindowRead s fun t =>
      t.rd CAV_WIN_ERR = 1 ∧ t.rd CAV_WIN_GO = 0 ∧ t.rd CAV_ACCESS_VIOL = (s.rd CAV_ACCESS_VIOL + 1) % 2 ^ CAV_ACCESS_VIOL.w ∧ t.cave = { s.cave with window := [] })
  ∧ (∀ s : State, s.wf = true → s.openFull = true → Completes .caveWindowRead s fun t => Only [CAV_WIN_GO.one] s t ∧ t.rd CAV_WIN_GO = 1)
  ∧ (∀ (ch off idx : Nat) (twin : Bool) (s : State), s.wf = true → ch < 16 → off < 2 ^ 31 → idx = s.eccIndex ch off → cavRegionOf s.cavN (s.rd CAV_C_TOT) idx = .pool →
    Completes (.caveEccError ch off (.uncorrectable twin)) s fun t =>
      t.rd DDR_UE ch = (s.rd DDR_UE ch + 1) % 2 ^ DDR_UE.w ∧ t.rd DDR_LAST_ERR ch = off ∧ t.rd CAV_POISONED = (s.rd CAV_POISONED + 1) % 2 ^ CAV_POISONED.w
      ∧ t.ownOf false idx = { s.ownOf false idx with poison := true } ∧ t.cave.ring = s.cave.ring ∧ t.cave.rack = s.cave.rack)
  ∧ (∀ (ch off : Nat) (s : State), s.wf = true → ch < 16 → off < 2 ^ 31 → (∃ copyB, cavRegionOf s.cavN (s.rd CAV_C_TOT) (s.eccIndex ch off) = .owners copyB ∨
    cavRegionOf s.cavN (s.rd CAV_C_TOT) (s.eccIndex ch off) = .ring copyB) → Completes (.caveEccError ch off (.uncorrectable true)) s fun t =>
      t.rd CAV_STATE = cavFail ∧ t.rd CAV_POOL_READY = 0 ∧ t.rd DDR_UE ch = (s.rd DDR_UE ch + 1) % 2 ^ DDR_UE.w ∧ t.rd DDR_LAST_ERR ch = off)
  ∧ (∀ n a : Nat, n = 8 ∨ n = 16 → (cavPlace n a).1 < n ∧ cavAddr n (cavPlace n a).1 (cavPlace n a).2 = a)
  ∧ (∀ (ch off : Nat) (twin : Bool) (s : State), s.wf = true → ch < 16 → off < 2 ^ 31 → cavRegionOf s.cavN (s.rd CAV_C_TOT) (s.eccIndex ch off) = .scratch →
    Completes (.caveEccError ch off (.uncorrectable twin)) s fun t =>
      Only [DDR_UE.one ch, DDR_LAST_ERR.one ch] s t ∧ t.rd DDR_UE ch = (s.rd DDR_UE ch + 1) % 2 ^ DDR_UE.w ∧ t.rd DDR_LAST_ERR ch = off)

/-! Serial lanes (chapter 17) -/

/-- Serial lanes (R374 to R381). -/
def Obligations.LanesAdaptAndSleep : Prop :=
  (∀ (ppm : Int) (moved : Bool) (s : State), s.wf = true → s.dark = false → s.rd SER_REF_BAD = 0 → -32768 ≤ ppm → ppm < 32768 → Completes (.refMonitor ppm moved) s fun t =>
      t.rdS SER_REF_PPM = ppm ∧ ((100 * 10 < ppm ∨ ppm < -(100 * 10) ∨ moved = true) → t.rd SER_REF_BAD = 1 ∧ t.pk.refAt = s.now ∧ bit (t.rd C_INT_STAT 36) 0 = true)
      ∧ (-(100 * 10) ≤ ppm → ppm ≤ 100 * 10 → moved = false → Only [SER_REF_PPM.one] s t))
  ∧ (∀ (ppm : Int) (s : State), s.wf = true → s.dark = false → s.rd SER_REF_BAD = 1 → -1000 ≤ ppm → ppm ≤ 1000 → Completes (.refMonitor ppm false) s fun t =>
      Only [SER_REF_PPM.one, SER_REF_BAD.one] s t ∧ t.rd SER_REF_BAD = (if s.pk.refAt + sfTicks ≤ s.now then 0 else 1))
  ∧ (∀ (l pre post amp : Nat) (s : State), s.wf = true → l < 24 → amp < 16 → pre < 64 → post < 64 → Completes (.txEqWrite l pre post amp) s fun t =>
      t.rd SER_L_AMP l = amp
      ∧ (if -16 ≤ toS 6 pre ∧ toS 6 pre ≤ 0 ∧ -24 ≤ toS 6 post ∧ toS 6 post ≤ 0 ∧ -24 ≤ toS 6 pre + toS 6 post then
          Only [SER_L_AMP.one l, SER_L_PRE.one l, SER_L_POST.one l, SER_L_MAIN.one l] s t ∧ t.rd SER_L_PRE l = pre ∧ t.rd SER_L_POST l = post
          ∧ (t.rd SER_L_MAIN l : Int) = 64 + toS 6 pre + toS 6 post
        else Only [SER_L_AMP.one l] s t))
  ∧ (∀ (l : Nat) (s : State), s.wf = true → 16 ≤ l → l < 24 → s.rd SER_L_ADAPT_STATE l = adTrack → Completes (.retrain l) s fun t =>
      t.rd SER_L_ADAPT_STATE l = adRetrain ∧ t.rd FKL_K_PSTATE (fkOf l) = fkDown ∧ bit (t.rd C_INT_STAT 36) 2 = true ∧ t.pwr = s.pwr)
  ∧ (∀ (l : Nat) (s : State), s.wf = true → l < 16 → s.rd SER_L_ADAPT_STATE l = adTrack → s.claimant l = none → s.leaveFits 150 = true →
    s.blockFaulted ⟨lcPhy, 150, 11, l⟩ = false → Completes (.retrain l) s fun t =>
      Only [SER_L_ADAPT_STATE.one l, PWR_LC_GRANTED.one lcPhy, PWR_LEAVE_HELD.one, PWR_LC_HELD.one lcPhy]
        { s with pk := t.pk, pwr := { s.pwr with leaves := s.pwr.leaves ++ [⟨lcPhy, 150, 11, l⟩], shares := t.pwr.shares } } t ∧ t.rd SER_L_ADAPT_STATE l = adRetrain ∧ (t.ser l).retry = none)
  ∧ (∀ (l : Nat) (s : State), s.wf = true → l < 16 → s.rd SER_L_ADAPT_STATE l = adTrack → s.leaveFits 150 = false → Completes (.retrain l) s fun t =>
      Only [SER_RT_REFUSED.one, PWR_LC_REFUSED.one lcPhy] { s with pk := t.pk } t ∧ (t.ser l).retry = some (s.now + 10 * msTicks)
      ∧ t.rd SER_RT_REFUSED = (s.rd SER_RT_REFUSED + 1) % 2 ^ SER_RT_REFUSED.w ∧ bit (t.rd C_INT_STAT 36) 5 = true)
  ∧ (∀ (l d : Nat) (s : State), s.wf = true → l < 16 → (s.ser l).retry = some d → s.now ≤ d → s.pwr.faultedAt ≠ d → s.rd SER_L_ADAPT_STATE l = adTrack → s.leaveFits 150 = true → s.claimant l = none →
    Completes (.rtRefusedRetry l) s fun t => t.now = d ∧ t.rd SER_L_ADAPT_STATE l = adRetrain ∧ (t.ser l).retry = none)
  ∧ (∀ (l snr : Nat) (s : State), s.wf = true → l < 24 → s.rd SER_L_RX_AWAKE l = 1 → snr < 65536 → s.rd SER_L_RETRAIN_SNR l ≤ snr → Completes (.retrainSnrTrigger l snr) s fun t =>
      Only [SER_L_RX_SNR.one l] s t ∧ t.rd SER_L_RX_SNR l = snr)
  ∧ (∀ (l snr : Nat) (s : State), s.wf = true → 16 ≤ l → l < 24 → s.rd SER_L_RX_AWAKE l = 1 → snr < s.rd SER_L_RETRAIN_SNR l → s.rd SER_L_ADAPT_STATE l = adTrack →
    Completes (.retrainSnrTrigger l snr) s fun t => t.rd SER_L_RX_SNR l = snr ∧ t.rd SER_L_ADAPT_STATE l = adRetrain ∧ t.rd FKL_K_PSTATE (fkOf l) = fkDown)
  ∧ (∀ (l : Nat) (v : Bool) (s : State), s.wf = true → l < 24 → Completes (.rxFreezeWrite l v) s fun t =>
      Only [SER_L_RX_FREEZE.one l, SER_L_ADAPT_STATE.one l] s t ∧ t.rd SER_L_RX_FREEZE l = b2n v
      ∧ t.rd SER_L_ADAPT_STATE l = (if v = true ∧ s.rd SER_L_ADAPT_STATE l = adTrack then adFrozen else if v = false ∧ s.rd SER_L_ADAPT_STATE l = adFrozen then adTrack
          else s.rd SER_L_ADAPT_STATE l))
  ∧ (∀ (l snr ctle : Nat) (s : State), s.wf = true → l < 16 → s.rd SER_L_ADAPT_STATE l = adCold ∨ s.rd SER_L_ADAPT_STATE l = adWarm → s.rd SER_L_SIG_DET l = 1 → s.claimant l = none →
    snr < 65536 → ctle < 32 → Completes (.adaptDone l snr ctle) s fun t =>
      Only [SER_L_ADAPT_STATE.one l, SER_L_RX_SNR.one l, SER_L_CTLE.one l] { s with pk := t.pk } t ∧ t.rd SER_L_ADAPT_STATE l = adTrack ∧ t.rd SER_L_RX_SNR l = snr
      ∧ t.rd SER_L_CTLE l = ctle ∧ (t.ser l).stored = true ∧ bit (t.rd C_INT_STAT 36) 1 = true)
  ∧ (∀ (l snr ctle : Nat) (s : State), s.wf = true → l < 16 → s.rd SER_L_ADAPT_STATE l = adRetrain → s.claimant l = none → Completes (.adaptDone l snr ctle) s fun t =>
      t.rd SER_L_ADAPT_STATE l = adTrack ∧ t.rd SER_L_RETRAINS l = (s.rd SER_L_RETRAINS l + 1) % 2 ^ SER_L_RETRAINS.w ∧ t.hasLeave lcPhy 11 l = false)
  ∧ (∀ (l : Nat) (on : Bool) (s : State), s.wf = true → l < 24 → Completes (.sigDetChange l on) s fun t => Only [SER_L_SIG_DET.one l] s t ∧ t.rd SER_L_SIG_DET l = b2n on)
  ∧ (∀ (l : Nat) (s : State), s.wf = true → 16 ≤ l → l < 24 → s.laneUsed l = true → s.rd SER_L_RX_AWAKE l = 1 → Completes (.laneSleepWrite l false true) s fun t =>
      t.rd SER_L_RX_SLEEP l = 1 ∧ t.rd SER_L_TX_SLEEP l = 0 ∧ t.rd SER_L_TX_AWAKE l = 1 ∧ t.rd SER_L_RX_AWAKE l = 0 ∧ t.rd SER_L_ADAPT_STATE l = adOff ∧ (t.ser l).retry = none
      ∧ t.hasLeave lcPhy 11 l = false ∧ t.rd FKL_K_PSTATE (fkOf l) = fkDown ∧ t.rd SER_L_SIG_DET l = s.rd SER_L_SIG_DET l ∧ (t.ser l).stored = (s.ser l).stored)
  ∧ (∀ (l : Nat) (s : State), s.wf = true → 16 ≤ l → l < 24 → s.laneUsed l = true → s.rd SER_L_RX_AWAKE l = 0 → Completes (.laneSleepWrite l true false) s fun t =>
      t.rd SER_L_TX_SLEEP l = 1 ∧ t.rd SER_L_TX_AWAKE l = 0 ∧ t.rd SER_L_RX_AWAKE l = 1 ∧ t.rd SER_L_ADAPT_STATE l = if (s.ser l).stored = true then adWarm else adCold)
  ∧ (∀ (l : Nat) (s : State), s.wf = true → l < 24 → Completes (.injGo l) s fun t =>
      if s.rd SER_L_GEN_MODE l = 0 then Only [SER_L_INJ_IGN.one l] s t ∧ t.rd SER_L_INJ_IGN l = 1 else t = { s with out := .symbolError l :: s.out })
  ∧ (∀ (l : Nat) (s : State), l < 24 → s.rd SER_L_GEN_MODE l ≠ 0 → 10 ≤ s.rd SER_L_INJ_RATE l → Completes (.injRateTick l) s fun t => t = { s with out := .symbolError l :: s.out })
  ∧ (∀ (l : Nat) (s : State), l < 24 → s.rd SER_L_GEN_MODE l = 0 ∨ s.rd SER_L_INJ_RATE l < 10 → Completes (.injRateTick l) s fun t => t = s)
  ∧ (∀ (l n err : Nat) (s : State), s.wf = true → l < 24 → s.rd SER_L_CHK_MODE l ≠ 0 → s.rd SER_L_CHK_LOCK l = 0 → Completes (.checkerLockChange l true n err) s fun t =>
      Only [SER_L_CHK_LOCK.one l] s t ∧ t.rd SER_L_CHK_LOCK l = 1 ∧ bit (t.rd C_INT_STAT 36) 3 = true)
  ∧ (∀ (l n err : Nat) (s : State), s.wf = true → l < 24 → s.rd SER_L_CHK_MODE l ≠ 0 → s.rd SER_L_CHK_LOCK l = 1 → Completes (.checkerLockChange l true n err) s fun t =>
      Only [SER_L_BITS_LO.one l, SER_L_BITS_HI.one l, SER_L_ERR_LO.one l, SER_L_ERR_HI.one l] s t
      ∧ t.rd64 SER_L_BITS_LO SER_L_BITS_HI l = (s.rd64 SER_L_BITS_LO SER_L_BITS_HI l + n) % 2 ^ 64
      ∧ t.rd64 SER_L_ERR_LO SER_L_ERR_HI l = (s.rd64 SER_L_ERR_LO SER_L_ERR_HI l + err) % 2 ^ 64)
  ∧ (∀ (l n err : Nat) (s : State), s.wf = true → l < 24 → s.rd SER_L_CHK_MODE l ≠ 0 → s.rd SER_L_CHK_LOCK l = 1 → Completes (.checkerLockChange l false n err) s fun t =>
      Only [SER_L_CHK_LOCK.one l, SER_L_BITS_LO.one l, SER_L_BITS_HI.one l, SER_L_ERR_LO.one l, SER_L_ERR_HI.one l, SER_L_CHK_UNLOCKS.one l] s t ∧ t.rd SER_L_CHK_LOCK l = 0
      ∧ t.rd64 SER_L_BITS_LO SER_L_BITS_HI l = (s.rd64 SER_L_BITS_LO SER_L_BITS_HI l + n) % 2 ^ 64
      ∧ t.rd64 SER_L_ERR_LO SER_L_ERR_HI l = (s.rd64 SER_L_ERR_LO SER_L_ERR_HI l + err) % 2 ^ 64 ∧ t.rd SER_L_CHK_UNLOCKS l = (s.rd SER_L_CHK_UNLOCKS l + 1) % 2 ^ 32)

/-! Fenkai Link (chapter 17) -/

/-- Ports and cells (R383 to R392). -/
def Obligations.CellsCarried : Prop :=
  (∀ (k : Nat) (s : State), s.wf = true → k < 2 → s.dark = false → s.rd (fkEn k) = 1 → s.rd FKL_K_PSTATE k = fkDown →
    (∀ i, i < 4 → s.rd SER_L_ADAPT_STATE (16 + 4 * k + i) = adTrack ∧ s.rd SER_L_GEN_MODE (16 + 4 * k + i) = 0) → Completes (.fkPortAlign k) s fun t =>
      Only [FKL_K_PSTATE.one k] s t ∧ t.rd FKL_K_PSTATE k = fkAlign)
  ∧ (∀ (k : Nat) (s : State), s.wf = true → k < 2 → s.rd FKL_K_PSTATE k = fkUp → s.rd FKL_ROLE = 1 → s.rd FKL_CTRL_VALID = 0 → s.inFrame s.ctrlSc = true → Completes (.fkPortDown k) s fun t =>
      Only [FKL_K_PSTATE.one k, FKL_K_PORT_DOWNS.one k, FKL_RING_CLOSED.one, FKL_K_UNIT_ERR.one k] { s with fk := t.fk } t ∧ t.rd FKL_K_PSTATE k = fkDown
      ∧ t.rd FKL_K_PORT_DOWNS k = (s.rd FKL_K_PORT_DOWNS k + 1) % 2 ^ FKL_K_PORT_DOWNS.w ∧ t.rd FKL_RING_CLOSED = 0 ∧ (∀ m, m < 8 → t.hopsBy k m = none) ∧ bit (t.rd C_INT_STAT 37) 1 = true)
  ∧ (∀ (c : Cell) (s : State), s.wf = true → s.takesCell c 0 = true → Completes (.idleCellRx c) s fun t =>
      Only [FKL_K_CELLS_LO.one c.port, FKL_K_CELLS_HI.one c.port] s t ∧ t.rd64 FKL_K_CELLS_LO FKL_K_CELLS_HI c.port = (s.rd64 FKL_K_CELLS_LO FKL_K_CELLS_HI c.port + 1) % 2 ^ 64)
  ∧ (∀ (c : Cell) (s : State), s.wf = true → c.port < 2 → s.rd FKL_K_PSTATE c.port ≠ fkDown → cellOk c = false ∨ 6 ≤ cType c → Completes (.badCellRx c) s fun t =>
      Only [FKL_K_CELL_CRC.one c.port] s t ∧ t.rd FKL_K_CELL_CRC c.port = (s.rd FKL_K_CELL_CRC c.port + 1) % 2 ^ FKL_K_CELL_CRC.w)
  ∧ (∀ (c : Cell) (s : State), s.wf = true → s.takesCell c 5 = true → 7 ≤ cHops c → Completes (.unitCellRx c) s fun t =>
      Only [FKL_K_CELLS_LO.one c.port, FKL_K_CELLS_HI.one c.port, FKL_HOP_DROP.one] s t ∧ t.rd FKL_HOP_DROP = (s.rd FKL_HOP_DROP + 1) % 2 ^ 32)
  ∧ (∀ (c : Cell) (p : List Nat) (s : State), s.wf = true → s.takesCell c 5 = true → cHops c < 7 → cDst c = 2 ^ s.rd FKL_MEM_ID → s.rd FKL_MEM_ID < 8 →
    cSou c = true → cEou c = true → p = c.payload.take (cLen c) → s.fk.asms = [] → tagOk p = true → p.length = unitLen (ofBytesBE (p.take 8)) → Completes (.unitCellRx c) s fun t =>
      Only [FKL_K_CELLS_LO.one c.port, FKL_K_CELLS_HI.one c.port] { s with pk := t.pk, fk := t.fk } t ∧ (t.lane 17).inq = (s.lane 17).inq ++ [unitFrame p 17 0] ∧ t.fk.asms = [])
  ∧ (∀ (c : Cell) (a : CellAsm) (s : State), s.wf = true → s.takesCell c 5 = true → cHops c < 7 → cDst c = 2 ^ s.rd FKL_MEM_ID → s.rd FKL_MEM_ID < 8 →
    cSou c = false → cEou c = true → s.fk.asms = [(asmKey c, a)] → a.next ≠ some (cSeq c) → Completes (.unitCellRx c) s fun t =>
      Only [FKL_K_CELLS_LO.one c.port, FKL_K_CELLS_HI.one c.port, FKL_K_UNIT_ERR.one c.port] { s with fk := { s.fk with asms := [] } } t
      ∧ t.rd FKL_K_UNIT_ERR c.port = (s.rd FKL_K_UNIT_ERR c.port + 1) % 2 ^ FKL_K_UNIT_ERR.w)
  ∧ (∀ (c : Cell) (s : State), s.wf = true → s.takesCell c 4 = true → cHops c < 7 → cDst c = 2 ^ s.rd FKL_MEM_ID → s.rd FKL_MEM_ID < 8 →
    cSou c = true → cEou c = true → s.fk.asms = [] → s.rx.remotes = [] → Completes (.groupCellRx c) s fun t =>
      Only [FKL_K_CELLS_LO.one c.port, FKL_K_CELLS_HI.one c.port] { s with rx := t.rx, fk := t.fk } t
      ∧ t.rx.remotes = [{ mem := cSrc c, cg := bits (cStamp c) 63 56, pos := bits (cStamp c) 55 48, mf := bits (cStamp c) 47 41, at_ := s.now, got := 1 }]
      ∧ t.rx.blocks.head? = some { src := remoteSrc (bits (cStamp c) 63 56) (bits (cStamp c) 55 48), mf := bits (cStamp c) 47 41, idx := bits (cStamp c) 31 0
                                   bits := ofBytesBE (c.payload.take (cLen c)), len := 8 * (c.payload.take (cLen c)).length, err := cErr c })
  ∧ (∀ (c : Cell) (s : State), s.wf = true → s.takesCell c 2 = true → cHops c < 7 → cDst c = 2 ^ s.rd FKL_MEM_ID → s.rd FKL_MEM_ID < 8 →
    s.rd FKL_CTRL_VALID = 1 → s.rd FKL_CTRL_SRC = cSrc c → cSou c = true → s.fk.asms = [] → s.fk.ctl = none → s.parsing = false → bits (cStamp c) 63 32 ≠ 0xFFFFFFFF →
    Completes (.ctrlCellRx c) s fun t => Only [FKL_K_CELLS_LO.one c.port, FKL_K_CELLS_HI.one c.port] { s with rx := t.rx, fk := t.fk } t
      ∧ (t.chain ctlStream).place = some (bits (cStamp c) 63 32) ∧ t.fk.ctl = some (cStamp c % 128, 64))
  ∧ (∀ (c : Cell) (s : State), s.wf = true → s.takesCell c 2 = true → cHops c < 7 → cDst c = 2 ^ s.rd FKL_MEM_ID → s.rd FKL_MEM_ID < 8 →
    s.rd FKL_CTRL_VALID = 0 ∨ s.rd FKL_CTRL_SRC ≠ cSrc c → Completes (.ctrlCellRx c) s fun t => Only [FKL_K_CELLS_LO.one c.port, FKL_K_CELLS_HI.one c.port] s t)
  ∧ (∀ (c : Cell) (m : Mgmt) (ws : List Nat) (s : State), s.wf = true → c.port < 2 → cellOk c = true → cType c = 3 → s.rd FKL_K_PSTATE c.port = fkAlign → cHops c = 0 → cDst c = 255 → m.mem < 8 → m.mbox = some ws → ws.length = 16 →
    s.rd FKL_ROLE = 1 → s.rd FKL_CTRL_VALID = 0 → s.inFrame s.ctrlSc = true → Completes (.mgmtCellRx c m) s fun t =>
      t.rd FKL_K_PSTATE c.port = fkUp ∧ bit (t.rd C_INT_STAT 37) 0 = true ∧ t.rd FKL_K_NBR_MEM c.port = m.mem ∧ bit (t.rd FKL_REACH) m.mem = true ∧ bit (t.rd FKL_RX_OK_MAP) m.mem = m.rxOk
      ∧ t.hopsBy c.port m.mem = some 1 ∧ (∀ w, w < 15 → t.rd FKL_MBOX_RX w = ws.getD w 0 % 2 ^ 32) ∧ t.rd FKL_MBOX_RX 15 = (ws.getD 15 0 / 8 * 8 + m.mem) % 2 ^ 32
      ∧ bit (t.rd C_INT_STAT 37) 8 = true ∧ (s.rd FKL_K_PSTATE (1 - c.port) ≠ fkUp → t.rd FKL_RING_CLOSED = 0)
      ∧ (s.rd FKL_K_PSTATE (1 - c.port) = fkUp → s.rd FKL_REACH = 0 → m.mem ≠ s.rd FKL_MEM_ID → s.fk.hops = [((1 - c.port) * 8 + m.mem, 1)] →
        s.now < amGetD 0 s.fk.seen ((1 - c.port) * 8 + m.mem) + 4 * frameTicks → t.rd FKL_RING_CLOSED = 1))
  ∧ (∀ s : State, s.wf = true → s.rd FKL_K_PSTATE 0 = fkUp → s.rd FKL_K_PSTATE 1 = fkDown → s.fk.mgmtSent ≠ some (s.now / frameTicks) → Completes .mgmtCellSend s fun t =>
      Only [FKL_MBOX_GO.one] { s with fk := t.fk } t ∧ t.rd FKL_MBOX_GO = 0 ∧ t.fk.mgmtSent = some (s.now / frameTicks)
      ∧ .mgmt 0 [s.rd FKL_MEM_ID, s.rd FKL_ROLE, b2n (s.inFrame s.ctrlSc), s.rd LTM_STATE, s.rd UPB_TID, s.rd UPB_TID_VALID, s.rd FKL_K_NBR_MEM 0, s.rd FKL_K_NBR_MEM 1]
          (if s.rd FKL_MBOX_GO = 1 then some ((List.range 16).map fun w => s.rd FKL_MBOX_TX w) else none) ∈ t.out)
  ∧ (∀ s : State, s.wf = true → s.dark = false → Completes .mboxGo s fun t => Only [FKL_MBOX_GO.one] s t ∧ t.rd FKL_MBOX_GO = 1)
  ∧ (∀ (m : Nat) (s : State), s.wf = true → m < 8 → bit (s.rd FKL_REACH) m = true → s.fk.seen = [] → 4 * frameTicks ≤ s.now → s.rd FKL_ROLE = 1 → s.rd FKL_CTRL_VALID = 0 → s.inFrame s.ctrlSc = true →
    Completes (.memberUnreachable m) s fun t =>
      Only [FKL_REACH.one, FKL_RX_OK_MAP.one] { s with fk := t.fk, rx := t.rx } t ∧ bit (t.rd FKL_REACH) m = false ∧ bit (t.rd FKL_RX_OK_MAP) m = false
      ∧ (∀ x, x < 8 → x ≠ m → bit (t.rd FKL_REACH) x = bit (s.rd FKL_REACH) x) ∧ t.hopsBy 0 m = none ∧ t.hopsBy 1 m = none ∧ bit (t.rd C_INT_STAT 37) 4 = true
      ∧ t.rx.remotes = s.rx.remotes.filter fun r => r.mem != m)

/-- Line time across the stack (R386, R387, R391, R393). -/
def Obligations.StackKeepsLineTime : Prop :=
  (∀ (at_ : Nat) (s : State), s.wf = true → s.rd FKL_ROLE = 1 ∨ s.rd FKL_ROLE = 2 → s.rd FKL_K_PSTATE 0 = fkDown → s.rd FKL_K_PSTATE 1 = fkUp → s.now ≤ at_ → at_ / slotTicks % 125 = 62 →
    at_ / frameTicks = s.now / frameTicks → s.fk.ltSent ≠ some (s.now / frameTicks) → Completes (.ltCellSend at_) s fun t =>
      Only [LTM_HOLD_MF.one] { s with fk := t.fk, time := t.time } t ∧ t.now = at_ ∧ t.fk.ltSent = some (at_ / frameTicks)
      ∧ t.link 1 = { s.link 1 with sent := some (at_ % 2 ^ 64, at_) }
      ∧ .cell 1 1 (cellBytes (cellHeader 1 (s.rd FKL_MEM_ID) (2 ^ s.rd FKL_K_NBR_MEM 1) 0 16 false false false (amGetD 0 s.fk.seqs 1) (at_ % 2 ^ 64))
          (bytesBE 8 (s.link 1).t2 ++ bytesBE 8 (s.link 1).stamp)) ∈ t.out)
  ∧ (∀ (c : Cell) (at_ t2 t1 st : Nat) (raw cable off : Int) (s : State), s.wf = true → s.takesCell c 1 = true → cHops c = 0 → cDst c = 2 ^ s.rd FKL_MEM_ID → s.rd FKL_MEM_ID < 8 →
    s.rd FKL_ROLE = 2 → s.rd FKL_MASTER_CONFLICT = 0 → s.twoMasters = false → s.fk.nbrs = [] → s.ltSource.map Prod.fst = some c.port → s.rd LTM_STATE = ltLocked → s.now ≤ at_ → t2 = ofBytesBE (c.payload.take 8) → st = ofBytesBE ((c.payload.drop 8).take 8) → (s.link c.port).sent = some (st, t1) →
    (s.link c.port).hist = [] → raw = (at_ : Int) - t1 - ltDiff (cStamp c) t2 + s.rdS FKL_K_FK_ASYM c.port → cable = divRound raw 2 → off = ltDiff at_ (cStamp c) - cable → -(2 ^ 31) ≤ cable → cable < 2 ^ 31 →
    -(usTicks : Int) ≤ off → off ≤ usTicks → Completes (.ltCellRx c at_) s fun t =>
      Only [FKL_K_CELLS_LO.one c.port, FKL_K_CELLS_HI.one c.port, FKL_K_CABLE.one c.port, FKL_LT_OFFSET.one, FKL_MASTER_LOST.one] { s with fk := t.fk, time := t.time } t
      ∧ t.rdS FKL_K_CABLE c.port = cable ∧ t.rdS FKL_LT_OFFSET = off ∧ t.fk.pend = off ∧ t.now = at_ ∧ t.rd FKL_MASTER_LOST = 0 ∧ t.fk.ltAt = at_
      ∧ t.link c.port = { t2 := at_ % 2 ^ 64, stamp := cStamp c, sent := some (st, t1), hist := [raw] })
  ∧ (∀ (c : Cell) (at_ : Nat) (s : State), s.wf = true → s.takesCell c 1 = true → cHops c = 0 → cDst c = 2 ^ s.rd FKL_MEM_ID → s.rd FKL_MEM_ID < 8 →
    s.rd FKL_ROLE = 2 → s.rd FKL_MASTER_CONFLICT = 0 → s.twoMasters = false → s.fk.nbrs = [] → s.ltSource.map Prod.fst = some c.port → s.rd LTM_STATE = ltFree → s.now ≤ at_ → (s.link c.port).sent = none →
    (s.link c.port).hist = [] → at_ < 2 ^ 64 → Completes (.ltCellRx c at_) s fun t => t.rd LTM_STATE = ltAcq ∧ t.now = cStamp c ∧ t.rd FKL_MASTER_LOST = 0)
  ∧ (∀ s : State, s.wf = true → s.dark = false → s.rd FKL_ROLE = 2 → s.rd FKL_MASTER_LOST = 0 → s.rd LTM_STATE = ltLocked → s.fk.ltAt + 4 * frameTicks ≤ s.now / frameTicks * frameTicks →
    Completes .masterLost s fun t => Only [FKL_MASTER_LOST.one, FKL_MASTER_LOSSES.one, LTM_STATE.one] { s with fk := t.fk, time := t.time } t
      ∧ t.rd FKL_MASTER_LOST = 1 ∧ t.rd FKL_MASTER_LOSSES = (s.rd FKL_MASTER_LOSSES + 1) % 2 ^ 32 ∧ t.rd LTM_STATE = ltHoldover ∧ t.launchOk = false ∧ t.now = s.now
      ∧ t.time.holdStart = some s.now ∧ bit (t.rd C_INT_STAT 37) 2 = true)
  ∧ (∀ (r : Rec) (m : Msg) (s : State), m = msgOf r → s.wf = true → s.takesMessage mStackMap r = true → m.eff = false → s.queueOpen = true → s.mapOk m = true → Completes (.stackMap r) s fun t =>
      Only [FRM_REC_OK.one, UPB_MSG_OK.one, FKL_MAP_COUNT.one, FKL_MAP_ENTRY.any] { s with rx := t.rx, join := t.join, up := t.up } t ∧ t.rd FKL_MAP_COUNT = msgWord m 0 % 16
      ∧ (∀ i, i < 8 → t.rd FKL_MAP_ENTRY i = msgWord m (i + 1) &&& 0xC003FFFF) ∧ Queued 0x20 (ackBody mStackMap m.seq ackOk 0) s t ∧ bit (t.rd C_INT_STAT 37) 6 = true)
  ∧ (∀ (r : Rec) (m : Msg) (s : State), m = msgOf r → s.wf = true → s.takesMessage mStackMap r = true → m.eff = false → s.queueOpen = true → s.mapOk m = false → Completes (.stackMap r) s fun t =>
      Only [FRM_REC_OK.one, UPB_MSG_OK.one] { s with rx := t.rx, join := t.join, up := t.up } t ∧ Queued 0x20 (ackBody mStackMap m.seq ackRefused 0) s t)

/-! The cipher engine (chapter 11) -/

/-- Keys, the line key tables and page jobs (R260 to R274). -/
def Obligations.KeysAndJobsServed : Prop :=
  (∀ (aes256 : Bool) (slot : Nat) (s : State), s.wf = true → slot < 64 → s.rd CIP_GO = 0 → Completes (.slotLoad aes256 slot) s fun t =>
      Only [CIP_SIZE.one, CIP_OP.one, CIP_SLOT.one, CIP_GO.one, CIP_CMD_STATUS.one] { s with cip := t.cip } t ∧ t.rd CIP_GO = 1 ∧ t.rd CIP_CMD_STATUS = csBusy ∧ t.rd CIP_OP = 1 ∧ t.rd CIP_SLOT = slot
      ∧ t.cip = { s.cip with cmd := some { status := csOk, load := some (slot, (s.stageBytes CIP_KEY_STAGE 8).take (if aes256 = true then 32 else 16)), wipeKey := true } })
  ∧ (∀ (slot : Nat) (key : List Nat) (s : State), s.wf = true → slot < 64 → s.cip.cmd = some { status := csOk, load := some (slot, key), wipeKey := true } → Completes .slotCommandDone s fun t =>
      Only [CIP_SLOT_STAT.one slot, CIP_KEY_STAGE.any, CIP_GO.one, CIP_CMD_STATUS.one] { s with cip := t.cip, up := (s.upKeyNow slot key).up } t ∧ t.rd CIP_GO = 0 ∧ t.rd CIP_CMD_STATUS = csOk ∧ amGet? t.cip.keys slot = some key
      ∧ (∀ k, k < 64 → k ≠ slot → amGet? t.cip.keys k = amGet? s.cip.keys k) ∧ (∀ i, i < 8 → t.rd CIP_KEY_STAGE i = 0) ∧ t.cip.cmd = none ∧ bit (t.rd C_INT_STAT 18) 0 = true
      ∧ t.rd CIP_SLOT_STAT slot = ((if key.length = 32 then 2 else 1) + ofBytesBE ((aesEnc key (List.replicate 16 0)).take 3) * 256) % 2 ^ 32)
  ∧ (∀ (slot kek : Nat) (k : List Nat) (s : State), s.wf = true → slot < 64 → kek < 64 → s.rd CIP_GO = 0 → s.rd CIP_WRAP_WORDS = 6 ∨ s.rd CIP_WRAP_WORDS = 10 → amGet? s.cip.keys kek = some k →
    Completes (.slotUnwrap slot kek) s fun t =>
      Only [CIP_KEK.one, CIP_OP.one, CIP_SLOT.one, CIP_GO.one, CIP_CMD_STATUS.one] { s with cip := t.cip } t ∧ t.rd CIP_CMD_STATUS = csBusy
      ∧ t.cip = { s.cip with cmd := some (match keyUnwrap k (s.stageBytes CIP_WRAP_STAGE (s.rd CIP_WRAP_WORDS)) with
        | some key => { status := csOk, load := some (slot, key), wipeWrap := true }
        | none => { status := csUnwrapFail, load := none, wipeWrap := true }) })
  ∧ (∀ (slot kek : Nat) (s : State), s.wf = true → slot < 64 → kek < 64 → s.rd CIP_GO = 0 → s.rd CIP_WRAP_WORDS = 6 ∨ s.rd CIP_WRAP_WORDS = 10 → amGet? s.cip.keys kek = none →
    Completes (.slotUnwrap slot kek) s fun t => t.cip = { s.cip with cmd := some { status := csKekEmpty, load := none } })
  ∧ (∀ (status : Nat) (s : State), s.wf = true → status < 8 → s.cip.cmd = some { status := status, load := none } → Completes .slotCommandDone s fun t =>
      Only [CIP_GO.one, CIP_CMD_STATUS.one] { s with cip := { s.cip with cmd := none } } t ∧ t.rd CIP_GO = 0 ∧ t.rd CIP_CMD_STATUS = status)
  ∧ (∀ (slot : Nat) (s : State), s.wf = true → slot < 64 → s.rd CIP_GO = 0 → s.cip.jobs = [] → s.cip.streams = [] → s.up.bursts = [] → Completes (.slotErase slot) s fun t =>
      Only [CIP_OP.one, CIP_SLOT.one, CIP_GO.one, CIP_CMD_STATUS.one, CIP_SLOT_STAT.one slot] { s with cip := t.cip } t ∧ amGet? t.cip.keys slot = none ∧ t.rd CIP_SLOT_STAT slot = 0
      ∧ ∀ k, k < 64 → k ≠ slot → amGet? t.cip.keys k = amGet? s.cip.keys k)
  ∧ (∀ (slot : Nat) (s : State), s.wf = true → slot < 64 → s.rd CIP_GO = 0 → Completes (.slotErase slot) s fun t =>
      amGet? t.cip.keys slot = none ∧ t.rd CIP_SLOT_STAT slot = 0 ∧ ∀ k, k < 64 → k ≠ slot → amGet? t.cip.keys k = amGet? s.cip.keys k)
  ∧ (∀ (e v : Nat) (s : State), s.wf = true → e < 4 → (if e < 2 then s.cip.dnUsed.any fun x => x.2 == e else s.rd CIP_UP_CUR == e - 2) = true → Completes (.lineKeyEntryWrite e v) s fun t =>
      Only [] s t ∧ bit (t.rd C_INT_STAT 18) 5 = true)
  ∧ (∀ (e v : Nat) (s : State), s.wf = true → e < 4 → (if e < 2 then s.cip.dnUsed.any fun x => x.2 == e else s.rd CIP_UP_CUR == e - 2) = false → Completes (.lineKeyEntryWrite e v) s fun t =>
      Only [(lineKeyFld e).one] s t ∧ leEpoch (t.rd (lineKeyFld e)) = v % 256 ∧ leSlot (t.rd (lineKeyFld e)) = v / 256 % 64 ∧ leValid (t.rd (lineKeyFld e)) = bit v 31)
  ∧ (∀ (b : Nat) (s : State), s.wf = true → leValid (s.rd (lineKeyFld (3 - s.rd CIP_UP_CUR))) = true → bits (s.rd CIP_UP_SWITCH) 27 21 ≤ 124 →
    b = (resolveG s.now 0 (bits (s.rd CIP_UP_SWITCH) 31 28 * sfTicks + bits (s.rd CIP_UP_SWITCH) 27 21 * mfTicks)).toNat → s.now < b → Completes .arm s fun t =>
      Only [CIP_ARM.one] { s with cip := { s.cip with switchAt := some b } } t ∧ t.rd CIP_ARM = 1)
  ∧ (∀ s : State, s.wf = true → leValid (s.rd (lineKeyFld (3 - s.rd CIP_UP_CUR))) = false → Completes .arm s fun t => Only [CIP_ARM_LATE.one] s t ∧ t.rd CIP_ARM_LATE = 1)
  ∧ (∀ (p idx : Nat) (s : State), s.wf = true → p < 64 → s.rd CIP_MISMATCH_SF < 2 → Completes (.cipherMismatch p (.sealWrite idx)) s fun t =>
      t.rd CIP_MISMATCHES = (s.rd CIP_MISMATCHES + 1) % 2 ^ 32 ∧ t.rd CIP_MISMATCH_SF = s.rd CIP_MISMATCH_SF + 1 ∧ bit (t.rd C_INT_STAT 18) 1 = true
      ∧ t.ownOf false idx = { s.ownOf false idx with poison := true } ∧ t.cip = s.cip)
  ∧ (∀ (n : Nat) (src : List Nat) (j : Job) (s : State), s.wf = true → n < 16 → s.rd CIPU_GO n = 0 → s.rd CIPU_LEN n ≤ 65536 → j = (s.wr CIPU_GO 1 n).jobOf n src → (s.wr CIPU_GO 1 n).jobCheck n j = none →
    Completes (.cipJobStart n src) s fun t => Only [CIPU_GO.one n, CIPU_JSTATUS.one n] { s with cip := t.cip } t ∧ t.rd CIPU_JSTATUS n = jsRunning ∧ t.rd CIPU_GO n = 1
      ∧ amGet? t.cip.jobs n = some { j with key1 := (amGet? s.cip.keys (s.rd CIPU_KEY1 n)).getD [], key2 := if s.rd CIPU_MODE n = 1 then (amGet? s.cip.keys (s.rd CIPU_KEY2 n)).getD [] else [], waiting := false })
  ∧ (∀ (n st : Nat) (src : List Nat) (s : State), s.wf = true → n < 16 → s.rd CIPU_GO n = 0 → s.pwr.leaves = [] → (s.wr CIPU_GO 1 n).jobCheck n ((s.wr CIPU_GO 1 n).jobOf n src) = some st →
    Completes (.cipJobStart n src) s fun t => Only [CIPU_GO.one n, CIPU_JSTATUS.one n, CIPU_DONE_LEN.one n, CIPU_JOBS.one n] { s with cip := { s.cip with jobs := t.cip.jobs } } t
      ∧ t.rd CIPU_JSTATUS n = st ∧ t.rd CIPU_DONE_LEN n = 0 ∧ t.rd CIPU_GO n = 0 ∧ amGet? t.cip.jobs n = none ∧ bit (t.rd C_INT_STAT (19 + n)) 1 = true)
  ∧ (∀ (n : Nat) (src : List Nat) (s : State), s.wf = true → n < 16 → s.rd CIPU_GO n = 1 → Completes (.cipJobStart n src) s fun t => Only [CIPU_WR_BUSY.one n] s t ∧ t.rd CIPU_WR_BUSY n = 1)
  ∧ (∀ (n : Nat) (j : Job) (s : State), s.wf = true → n < 16 → s.cip.jobs = [(n, j)] → j.waiting = true → 65536 < j.len → s.leaveFits 800 = false → s.rd LTM_STATE ≠ ltHoldover →
    s.now ≤ j.asked + 100 * usTicks → Completes (.cipLeaveRetry n) s fun t =>
      Only [PWR_LC_REFUSED.one lcCipher, CIPU_JSTATUS.one n] { s with cip := t.cip, time := { s.time with lt := j.asked + 100 * usTicks, run := s.time.run + (j.asked + 100 * usTicks - s.now) } } t ∧ t.rd CIPU_JSTATUS n = jsWaitLeave
      ∧ t.cip.jobs = [(n, { j with asked := j.asked + 100 * usTicks })])
  ∧ (∀ (n : Nat) (j : Job) (k1 : List Nat) (s : State), s.wf = true → n < 16 → s.cip.jobs = [(n, j)] → j.waiting = true → j.xts = false → amGet? s.cip.keys j.slot1 = some k1 → 65536 < j.len → s.leaveFits 800 = true → s.pwr.faulted = [] →
    s.rd LTM_STATE ≠ ltHoldover → Completes (.cipLeaveRetry n) s fun t => t.rd CIPU_JSTATUS n = jsRunning ∧ t.hasLeave lcCipher 10 n = true
      ∧ amGet? t.cip.jobs n = some { j with key1 := k1, key2 := [], waiting := false })
  ∧ (∀ (n : Nat) (j : Job) (s : State), s.wf = true → n < 16 → s.cip.jobs = [(n, j)] → j.waiting = false → 0 < j.output.length → j.output.length < 2 ^ 25 → s.pwr.leaves = [] → Completes (.cipJobEnd n none) s fun t =>
      Only [CIPU_GO.one n, CIPU_JSTATUS.one n, CIPU_DONE_LEN.one n, CIPU_JOBS.one n] { s with cip := { s.cip with jobs := [] } } t ∧ t.rd CIPU_JSTATUS n = jsDone ∧ t.rd CIPU_GO n = 0
      ∧ t.rd CIPU_DONE_LEN n = j.output.length ∧ t.out.contains (.hostWrite (ownerFn n) j.dst j.output) = true ∧ t.rd CIPU_JOBS n = (s.rd CIPU_JOBS n + 1) % 2 ^ 32)
  ∧ (∀ (n k : Nat) (j : Job) (s : State), s.wf = true → n < 16 → s.cip.jobs = [(n, j)] → j.waiting = false → k < j.output.length → j.output.length < 2 ^ 25 → Completes (.cipJobEnd n (some k)) s fun t =>
      t.rd CIPU_JSTATUS n = jsBusErr ∧ t.rd CIPU_DONE_LEN n = min (k / 16) (j.output.length / 16 - 1) * 16 ∧ t.rd CIPU_GO n = 0 ∧ t.cip.jobs = [])
  ∧ (∀ (h : Nat) (s : State), s.wf = true → s.rd CAV_WIN_EXP = 0 → s.openFull = false → h = s.rd CAV_WIN_HANDLE → hIndex h < s.rd CAV_C_TOT → (s.ownOf false (hIndex h)).owner = s.rd CAV_WIN_OWNER →
    (s.ownOf false (hIndex h)).gen = hGen h → (∀ b, b = (if (s.ownOf false (hIndex h)).ksel = 0 then s.rd CAV_XTS_SLOT0 else s.rd CAV_XTS_SLOT1) →
      (amGet? s.cip.keys b).map List.length ≠ some (if s.rd CAV_XTS_256 = 1 then 32 else 16) ∨ (amGet? s.cip.keys ((b + 1) % 64)).map List.length ≠ some (if s.rd CAV_XTS_256 = 1 then 32 else 16)) →
    Completes .caveWindowRead s fun t => Only [CIP_KEY_ABORTS.one, CAV_WIN_ERR.one, CAV_WIN_GO.one] { s with cave := { s.cave with window := [] } } t
      ∧ t.rd CAV_WIN_ERR = 1 ∧ t.rd CIP_KEY_ABORTS = (s.rd CIP_KEY_ABORTS + 1) % 2 ^ 32)

/-! Time bases (chapter 12) -/

/-- Time bases (R277 to R284). -/
def Obligations.TimeBasesServed : Prop :=
  (∀ (n v : Nat) (s : State), s.wf = true → 1 ≤ n → n < 4 → v < 4 → Completes (.tbModeWrite n v) s fun t =>
      Only [TIM_TB_MODE.one n, TIM_TB_STATE.one n] { s with tim := t.tim } t ∧ t.rd TIM_TB_MODE n = v ∧ t.rd TIM_TB_STATE n = tsFree ∧ (t.tb n).samples = [] ∧ (t.tb n).fresh = true
      ∧ t.tbReading n = s.tbReading n)
  ∧ (∀ (n v : Nat) (s : State), n = 0 ∨ 4 ≤ v → Completes (.tbModeWrite n v) s fun t => t = s)
  ∧ (∀ (n : Nat) (s : State), s.wf = true → 1 ≤ n → n < 4 → s.rd TIM_TB_MODE n = tmLocal → (∀ g, g < 16 → s.rd GAT_RUNNING g = 0) → Completes (.setGo n) s fun t =>
      t = { s with tim := t.tim } ∧ t.tbReading n = s.rd64 TIM_TB_SET_S_LO TIM_TB_SET_S_HI n * tbSecond + s.rd TIM_TB_SET_NS n * tbNs ∧ ∀ m, m < 4 → m ≠ n → t.tb m = s.tb m)
  ∧ (∀ (n : Nat) (s : State), s.wf = true → 1 ≤ n → n < 4 → s.rd TIM_TB_MODE n = tmLocal → s.rdS TIM_TB_ADJ_NS n ≠ 0 → Completes (.adjGo n) s fun t =>
      t = { s with tim := t.tim } ∧ t.tbReading n = s.tbReading n ∧ (t.tb n).slews.getLast? = some (s.rdS TIM_TB_ADJ_NS n * 65536, s.ran, sfTicks) ∧ ∀ m, m < 4 → m ≠ n → t.tb m = s.tb m)
  ∧ (∀ (n : Nat) (s : State), s.wf = true → 1 ≤ n → n < 4 → s.rd TIM_TB_MODE n ≠ tmLocal → Completes (.setGo n) s fun t => Only [TIM_TB_WR_IGN.one n] s t ∧ t.rd TIM_TB_WR_IGN n = 1)
  ∧ (∀ (n : Nat) (s : State), s.wf = true → 1 ≤ n → n < 4 → s.rd TIM_TB_MODE n ≠ tmLocal → Completes (.adjGo n) s fun t => Only [TIM_TB_WR_IGN.one n] s t ∧ t.rd TIM_TB_WR_IGN n = 1)
  ∧ (∀ s : State, s.wf = true → s.tim.capAt ≠ some s.now → (∀ n, n < 4 → s.tbReading n < 2 ^ 48 * tbSecond) → Completes .capGo s fun t =>
      Only [TIM_TB_CAP_S_LO.any, TIM_TB_CAP_S_HI.any, TIM_TB_CAP_NS.any, TIM_TB_CAP_STATE.any, TIM_CAP_SRC.one] { s with tim := { s.tim with capAt := some s.now } } t
      ∧ (∀ n, n < 4 → t.rd64 TIM_TB_CAP_S_LO TIM_TB_CAP_S_HI n = s.tbReading n / 65536000000000 ∧ t.rd TIM_TB_CAP_NS n = s.tbReading n % 65536000000000 / 65536 ∧ t.rd TIM_TB_CAP_STATE n = s.tbState n)
      ∧ t.rd TIM_CAP_SRC = 2 ∧ bit (t.rd C_INT_STAT 11) 6 = true)
  ∧ (∀ (n : Nat) (off : Int) (rest : List Int) (s : State), s.wf = true → 1 ≤ n → n < 4 → s.rd TIM_TB_MODE n = tmDomain → s.tim.limited = 0 → (s.tb n).samples = off :: rest → s.rd TIM_TB_STEP_NS n ≠ 0 →
    s.rd TIM_TB_STEP_NS n * 65536 < off.natAbs → 0 ≤ (s.tbReading n : Int) - off → -(2 ^ 31) ≤ off / 65536 → off / 65536 < 2 ^ 31 → (∀ g, g < 16 → s.rd GAT_RUNNING g = 0) → Completes (.tbSample n) s fun t =>
      Only [TIM_TB_OFFSET.one n, TIM_TB_TB_STEPS.one n, TIM_TB_STEPPED.one n, TIM_TB_STATE.one n] { s with tim := t.tim } t ∧ (t.tbReading n : Int) = s.tbReading n - off ∧ t.rdS TIM_TB_OFFSET n = off / 65536
      ∧ t.rd TIM_TB_TB_STEPS n = (s.rd TIM_TB_TB_STEPS n + 1) % 2 ^ TIM_TB_TB_STEPS.w ∧ t.rd TIM_TB_STEPPED n = 1 ∧ (s.rd TIM_TB_STATE n ∈ [tsFree, tsLocked, tsHold] → t.rd TIM_TB_STATE n = tsAcq) ∧ (t.tb n).samples = rest)
  ∧ (∀ (n : Nat) (off : Int) (rest : List Int) (s : State), s.wf = true → 1 ≤ n → n < 4 → s.rd TIM_TB_MODE n ≠ tmLocal → s.tim.limited = 0 → (s.tb n).samples = off :: rest → off.natAbs ≤ s.rd TIM_TB_STEP_NS n * 65536 →
    off.natAbs ≤ s.rd TIM_TB_LOCK_NS n * 65536 → s.rd TIM_TB_STATE n = tsAcq → Completes (.tbSample n) s fun t =>
      Only [TIM_TB_OFFSET.one n, TIM_TB_FREQ.one n, TIM_TB_STATE.one n] { s with tim := t.tim } t ∧ t.rdS TIM_TB_FREQ n = clampI (-1600000) 1600000 (s.rdS TIM_TB_FREQ n - off / (65536 * 2 ^ s.rd TIM_TB_KI_SHIFT n : Nat))
      ∧ t.rd TIM_TB_STATE n = (if 16 ≤ (s.tb n).good + 1 then tsLocked else tsAcq) ∧ (t.tb n).samples = rest ∧ (t.tb n).hist.length = min 64 ((s.tb n).hist.length + 1))
  ∧ (∀ (n d : Nat) (s : State), s.wf = true → 1 ≤ n → n < 4 → s.rd TIM_TB_MODE n = tmDomain → s.mode ≠ .graze → s.dark = false → s.rd TIM_TB_STATE n = tsAcq ∨ s.rd TIM_TB_STATE n = tsLocked → s.paired = false →
    d = (s.tb n).lastValid + s.rd TIM_TB_SYNC_TO n * msTicks → s.now ≤ d → Completes (.syncToExpiry n) s fun t => t.now = d
      ∧ t.rd TIM_TB_STATE n = (if s.rd TIM_TB_STATE n = tsAcq then tsFree else tsHold) ∧ t.rd TIM_TB_F_TMO n = (s.rd TIM_TB_F_TMO n + 1) % 2 ^ TIM_TB_F_TMO.w ∧ ∀ m, m < 4 → m ≠ n → t.tb m = s.tb m)
  ∧ (∀ (n : Nat) (s : State), s.wf = true → 1 ≤ n → n < 4 → s.mode ≠ .graze → s.rd TIM_TB_HOLD_MAX n ≠ 0 → s.rd TIM_TB_STATE n = tsHold → Completes (.holdMaxExpiry n) s fun t =>
      Only [TIM_TB_STATE.one n, LTM_HOLD_MF.one] { s with time := t.time, tim := t.tim } t ∧ t.rd TIM_TB_STATE n = tsFree ∧ t.now = max s.now ((s.tb n).holdSince + s.rd TIM_TB_HOLD_MAX n * sfTicks))
  ∧ (∀ s : State, s.wf = true → s.rd TIM_PAIR_EN = 1 → s.rd TIM_TB_MODE 1 = tmDomain → s.rd TIM_TB_MODE 2 = tmDomain → s.rd TIM_ACTIVE = 0 → Completes .pairCompare s fun t =>
      Only [TIM_PAIR_DIFF.one] s t ∧ t.rdS TIM_PAIR_DIFF = clampI (-(2 ^ 31)) (2 ^ 31 - 1) (((s.tbReading 1 : Int) - s.tbReading 2) / 65536))

/-- Followers and timing pins (R282, R283, R290 to R292). -/
def Obligations.FollowersAndPins : Prop :=
  (∀ (n a : Nat) (m : Ptp) (off : Int) (s : State), s.wf = true → s.receives n m = true → m.fup = false →
    m.twoStep = false → (s.tb n).mpdAt = some a → s.now ≤ a + 16 * sfTicks → s.paired = false →
    off = (s.tbReading n : Int) - ((m.sec * 65536000000000 + m.ns * 65536 : Nat) + m.cf) - ((s.tb n).mpd + s.rdS TIM_TB_F_LINK_ASYM n * 65536) → Completes (.ptpSyncRx n m) s fun t =>
      Only [TIM_TB_F_SAMPLES.one n] { s with tim := t.tim } t ∧ (t.tb n).samples = (s.tb n).samples ++ [off] ∧ (t.tb n).lastValid = s.now ∧ (t.tb n).master = some m.master
      ∧ t.rd TIM_TB_F_SAMPLES n = (s.rd TIM_TB_F_SAMPLES n + 1) % 2 ^ TIM_TB_F_SAMPLES.w)
  ∧ (∀ (n : Nat) (m : Ptp) (s : State), s.wf = true → s.receives n m = true → m.fup = false → m.twoStep = true →
    Completes (.ptpSyncRx n m) s fun t => t = { s with tim := t.tim } ∧ (t.tb n).sync = some { seq := m.seq, t2 := s.tbReading n, cf := m.cf, at_ := s.now } ∧ (t.tb n).samples = (s.tb n).samples)
  ∧ (∀ (n a : Nat) (m : Ptp) (w : SyncWait) (off : Int) (s : State), s.wf = true → s.receives n m = true → m.fup = true →
    (s.tb n).sync = some w → w.seq = m.seq → s.now ≤ w.at_ + sfTicks → (s.tb n).mpdAt = some a → s.now ≤ a + 16 * sfTicks → s.paired = false →
    off = (w.t2 : Int) - ((m.sec * 65536000000000 + m.ns * 65536 : Nat) + w.cf + m.cf) - ((s.tb n).mpd + s.rdS TIM_TB_F_LINK_ASYM n * 65536) → Completes (.ptpSyncRx n m) s fun t =>
      Only [TIM_TB_F_SAMPLES.one n] { s with tim := t.tim } t ∧ (t.tb n).samples = (s.tb n).samples ++ [off] ∧ (t.tb n).sync = none)
  ∧ (∀ (n len e : Nat) (s : State), s.wf = true → s.follows n = true → (s.tb n).reqAt = none → s.templateLen n 0 = some len → e = s.rd TIM_TB_F_PORT n * 8 + s.rd TIM_TB_F_TC n → s.rd QSH_EQ_EN e = 1 →
    s.rd QSH_EQ_QMAX e = 0 → s.dbuf + 128 ≤ dbufSize → Completes (.delayReqTimer n) s fun t =>
      (t.eq e).dropLast = s.eq e ∧ (t.eq e).getLast? = some { bytes := buildFrame (s.template n 0) len (s.tb n).reqSeq none, own := some (n, (s.tb n).reqSeq) }
      ∧ (t.tb n).reqSeq = ((s.tb n).reqSeq + 1) % 65536 ∧ (t.tb n).req = some { seq := (s.tb n).reqSeq } ∧ (t.tb n).reqAt = some s.now)
  ∧ (∀ (n t3 : Nat) (t2 t1 : Int) (m : Ptp) (s : State), s.wf = true → s.receives n m = true → s.rd TIM_TB_F_P2P n = 0 →
    (s.tb n).req = some { seq := m.seq, t3 := some t3 } → (s.tb n).lastSync = some (t2, t1) → Completes (.ptpDelayRespRx n m) s fun t =>
      Only [TIM_TB_MPD.one n] { s with tim := t.tim } t ∧ (t.tb n).mpd = ((t2 - t3) + ((m.sec * 65536000000000 + m.ns * 65536 : Nat) - t1) - m.cf) / 2 ∧ (t.tb n).mpdAt = some s.now ∧ (t.tb n).req = none)
  ∧ (∀ (n t3 : Nat) (m : Ptp) (s : State), s.wf = true → s.receives n m = true → s.rd TIM_TB_F_P2P n = 1 → m.fup = false → m.twoStep = false →
    (s.tb n).req = some { seq := m.seq, t3 := some t3 } → Completes (.ptpDelayRespRx n m) s fun t =>
      Only [TIM_TB_MPD.one n] { s with tim := t.tim } t ∧ (t.tb n).mpd = ((s.tbReading n : Int) - t3 - m.cf) / 2 ∧ (t.tb n).mpdAt = some s.now ∧ (t.tb n).req = none)
  ∧ (∀ (n len e : Nat) (m : Ptp) (s : State), s.wf = true → s.follows n = true → s.copied n m = true → s.rd TIM_TB_F_P2P n = 1 → m.port = s.rd TIM_TB_F_PORT n → s.templateLen n 1 = some len → e = s.rd TIM_TB_F_PORT n * 8 + s.rd TIM_TB_F_TC n →
    s.rd QSH_EQ_EN e = 1 → s.rd QSH_EQ_QMAX e = 0 → s.dbuf + 128 ≤ dbufSize → Completes (.ptpPdelayReqRx n m) s fun t =>
      (t.eq e).dropLast = s.eq e ∧ (t.eq e).getLast? = some { bytes := buildFrame (s.template n 1) len m.seq (some m.master), turn := some (n, s.tbReading n) })
  ∧ (∀ (n k : Nat) (s : State), s.wf = true → n < 2 → s.dark = false → s.rd TIM_PO_EN n = 1 → s.qualOk n = true → k = ceilDiv (((s.tbNow (s.rd TIM_PO_TB n) : Int) + s.rdS TIM_OFS n).toNat) 1000000000 →
    s.given n k = false → Completes (.ppsOutPulse n) s fun t =>
      t = { s with out := t.out, tim := { s.tim with ppsSec := t.tim.ppsSec } } ∧ t.out = .pulse n ((k * 1000000000 : Nat) - s.rdS TIM_OFS n).toNat (s.rd TIM_WIDTH n) :: s.out ∧ t.given n k = true)
  ∧ (∀ (n k : Nat) (s : State), n < 2 → k = ceilDiv (((s.tbNow (s.rd TIM_PO_TB n) : Int) + s.rdS TIM_OFS n).toNat) 1000000000 → s.given n k = true → Completes (.ppsOutPulse n) s fun t => t = s)
  ∧ (∀ (sec : Nat) (s : State), s.wf = true → s.dark = false → s.rd TIM_TOD_EN = 1 → sec = s.tbReading (s.rd TIM_TOD_TB) / 65536000000000 → s.tim.todSec ≠ some (sec * 4 + s.rd TIM_TOD_TB) → s.tim.todEnd ≤ s.now → Completes .todMessage s fun t =>
      t = { s with out := .tod (s.todBytes sec) :: s.out, tim := t.tim } ∧ t.tim.todSec = some (sec * 4 + s.rd TIM_TOD_TB) ∧ s.now < t.tim.todEnd)
  ∧ (∀ (r : Rec) (m : Msg) (s : State), m = msgOf r → s.wf = true → s.takesMessage mTimeInfo r = true → m.eff = false → Completes (.timeInfo r) s fun t =>
      Only [FRM_REC_OK.one, UPB_MSG_OK.one, TIM_EPOCH_TAI_LO.one, TIM_EPOCH_TAI_HI.one, TIM_UTC_OFS0.one, TIM_LEAP.one, TIM_CLOCK_CLASS0.one, TIM_CLOCK_ACC0.one, TIM_TI_VALID.one]
        { s with rx := t.rx, join := t.join } t
      ∧ t.rd64 TIM_EPOCH_TAI_LO TIM_EPOCH_TAI_HI = (msgWord m 0 * 2 ^ 16 + msgWord m 1 / 2 ^ 16) % 2 ^ 48 ∧ t.rd TIM_UTC_OFS0 = msgWord m 1 % 2 ^ 16 ∧ t.rd TIM_LEAP = bits (msgWord m 2) 31 30
      ∧ t.rd TIM_CLOCK_CLASS0 = bits (msgWord m 2) 23 16 ∧ t.rd TIM_CLOCK_ACC0 = bits (msgWord m 2) 15 8 ∧ t.rd TIM_TI_VALID = 1 ∧ bit (t.rd C_INT_STAT 11) 7 = true)

/-- PPS_IN (R289). -/
def Obligations.PpsInEdges : Prop :=
  (∀ s : State, s.wf = true → s.dark = false → (∀ a, s.tim.ppsAt = some a → a + s.rd TIM_PPSIN_MIN * msTicks ≤ s.now) → (∀ n, n < 4 → s.tbReading n < 2 ^ 48 * tbSecond) → Completes .ppsInEdge s fun t =>
      Only [TIM_TB_PPSIN_S_LO.any, TIM_TB_PPSIN_S_HI.any, TIM_TB_PPSIN_NS.any] { s with tim := t.tim } t ∧ bit (t.rd C_INT_STAT 11) 5 = true ∧ t.tim.ppsAt = some s.now
      ∧ (∀ n, n < 4 → t.rd64 TIM_TB_PPSIN_S_LO TIM_TB_PPSIN_S_HI n = s.tbReading n / 65536000000000 ∧ t.rd TIM_TB_PPSIN_NS n = s.tbReading n % 65536000000000 / 65536)
      ∧ ∀ n, 1 ≤ n → n < 4 → (t.tb n).samples = (s.tb n).samples ++ (if s.rd TIM_TB_MODE n = tmPps then
          [if 500000000 * 65536 ≤ s.tbReading n % 65536000000000 then (s.tbReading n % 65536000000000 : Nat) - (65536000000000 : Int) else (s.tbReading n % 65536000000000 : Nat)] else []))
  ∧ (∀ (a : Nat) (s : State), s.wf = true → s.dark = false → s.tim.ppsAt = some a → s.now < a + s.rd TIM_PPSIN_MIN * msTicks → Completes .ppsInEdge s fun t =>
      Only [TIM_PPSIN_IGN.one] s t ∧ t.rd TIM_PPSIN_IGN = (s.rd TIM_PPSIN_IGN + 1) % 2 ^ 32)

/-! The instruction set of the signal engines (chapter 14) -/

/-- ALU on G registers (R317, R324). -/
def Obligations.EngineArithmetic : Prop :=
  (∀ (c w : Nat) (s : State), s.wf = true → s.issues c w = true → isAlu 0x00 w = true → Completes (.vMov c) s (Issued c w 1 (fun x => { x with g := smSet x.g (bits w 19 16) (x.opB w % 2 ^ 16) }) s))
  ∧ (∀ (c w : Nat) (s : State), s.wf = true → s.issues c w = true → isAlu 0x01 w = true → Completes (.vAdd c) s (Issued c w 1 (fun x => { x with g := smSet x.g (bits w 19 16) ((x.opA w + x.opB w) % 2 ^ 16) }) s))
  ∧ (∀ (c w : Nat) (s : State), s.wf = true → s.issues c w = true → isAlu 0x02 w = true → Completes (.vAdds c) s (Issued c w 1 (fun x => { x with g := smSet x.g (bits w 19 16) (ofS 16 (clampI (-32768) 32767 ((toS 16 (x.opA w) + toS 16 (x.opB w))))), sv := x.sv || decide (clampI (-32768) 32767 ((toS 16 (x.opA w) + toS 16 (x.opB w))) ≠ (toS 16 (x.opA w) + toS 16 (x.opB w))) }) s))
  ∧ (∀ (c w : Nat) (s : State), s.wf = true → s.issues c w = true → isAlu 0x03 w = true → Completes (.vSub c) s (Issued c w 1 (fun x => { x with g := smSet x.g (bits w 19 16) ((x.opA w + 2 ^ 16 - x.opB w) % 2 ^ 16) }) s))
  ∧ (∀ (c w : Nat) (s : State), s.wf = true → s.issues c w = true → isAlu 0x04 w = true → Completes (.vSubs c) s (Issued c w 1 (fun x => { x with g := smSet x.g (bits w 19 16) (ofS 16 (clampI (-32768) 32767 ((toS 16 (x.opA w) - toS 16 (x.opB w))))), sv := x.sv || decide (clampI (-32768) 32767 ((toS 16 (x.opA w) - toS 16 (x.opB w))) ≠ (toS 16 (x.opA w) - toS 16 (x.opB w))) }) s))
  ∧ (∀ (c w : Nat) (s : State), s.wf = true → s.issues c w = true → isAlu 0x05 w = true → Completes (.vAnd c) s (Issued c w 1 (fun x => { x with g := smSet x.g (bits w 19 16) ((x.opA w &&& x.opB w) % 2 ^ 16) }) s))
  ∧ (∀ (c w : Nat) (s : State), s.wf = true → s.issues c w = true → isAlu 0x06 w = true → Completes (.vOr c) s (Issued c w 1 (fun x => { x with g := smSet x.g (bits w 19 16) ((x.opA w ||| x.opB w) % 2 ^ 16) }) s))
  ∧ (∀ (c w : Nat) (s : State), s.wf = true → s.issues c w = true → isAlu 0x07 w = true → Completes (.vXor c) s (Issued c w 1 (fun x => { x with g := smSet x.g (bits w 19 16) ((x.opA w ^^^ x.opB w) % 2 ^ 16) }) s))
  ∧ (∀ (c w : Nat) (s : State), s.wf = true → s.issues c w = true → isAlu 0x08 w = true → Completes (.vShl c) s (Issued c w 1 (fun x => { x with g := smSet x.g (bits w 19 16) (x.opA w * 2 ^ (x.opB w % 16) % 2 ^ 16) }) s))
  ∧ (∀ (c w : Nat) (s : State), s.wf = true → s.issues c w = true → isAlu 0x09 w = true → Completes (.vShr c) s (Issued c w 1 (fun x => { x with g := smSet x.g (bits w 19 16) (ofS 16 (toS 16 (x.opA w) / 2 ^ (x.opB w % 16)) % 2 ^ 16) }) s))
  ∧ (∀ (c w : Nat) (s : State), s.wf = true → s.issues c w = true → isAlu 0x0A w = true → Completes (.vShrl c) s (Issued c w 1 (fun x => { x with g := smSet x.g (bits w 19 16) (x.opA w / 2 ^ (x.opB w % 16) % 2 ^ 16) }) s))
  ∧ (∀ (c w : Nat) (s : State), s.wf = true → s.issues c w = true → isAlu 0x0B w = true → Completes (.vMin c) s (Issued c w 1 (fun x => { x with g := smSet x.g (bits w 19 16) (ofS 16 (clampI (-32768) 32767 ((min (toS 16 (x.opA w)) (toS 16 (x.opB w)))))), sv := x.sv || decide (clampI (-32768) 32767 ((min (toS 16 (x.opA w)) (toS 16 (x.opB w)))) ≠ (min (toS 16 (x.opA w)) (toS 16 (x.opB w)))) }) s))
  ∧ (∀ (c w : Nat) (s : State), s.wf = true → s.issues c w = true → isAlu 0x0C w = true → Completes (.vMax c) s (Issued c w 1 (fun x => { x with g := smSet x.g (bits w 19 16) (ofS 16 (clampI (-32768) 32767 ((max (toS 16 (x.opA w)) (toS 16 (x.opB w)))))), sv := x.sv || decide (clampI (-32768) 32767 ((max (toS 16 (x.opA w)) (toS 16 (x.opB w)))) ≠ (max (toS 16 (x.opA w)) (toS 16 (x.opB w)))) }) s))
  ∧ (∀ (c w : Nat) (s : State), s.wf = true → s.issues c w = true → isAlu 0x0D w = true → Completes (.vAbs c) s (Issued c w 1 (fun x => { x with g := smSet x.g (bits w 19 16) (ofS 16 (clampI (-32768) 32767 ((if toS 16 (x.opA w) < 0 then -toS 16 (x.opA w) else toS 16 (x.opA w))))), sv := x.sv || decide (clampI (-32768) 32767 ((if toS 16 (x.opA w) < 0 then -toS 16 (x.opA w) else toS 16 (x.opA w))) ≠ (if toS 16 (x.opA w) < 0 then -toS 16 (x.opA w) else toS 16 (x.opA w))) }) s))
  ∧ (∀ (c w : Nat) (s : State), s.wf = true → s.issues c w = true → isAlu 0x0E w = true → Completes (.vNeg c) s (Issued c w 1 (fun x => { x with g := smSet x.g (bits w 19 16) (ofS 16 (clampI (-32768) 32767 ((-toS 16 (x.opA w))))), sv := x.sv || decide (clampI (-32768) 32767 ((-toS 16 (x.opA w))) ≠ (-toS 16 (x.opA w))) }) s))
  ∧ (∀ (c w n : Nat) (s : State), s.wf = true → s.issues c w = true → vFmt w = 1 → aluDefined (bits w 25 20) = false → s.freshRecord n cVatProg (c / 16) = true → s.faultMasked cVatProg 35 = false → Completes (.vMov c) s fun t => t.rd VAT_C_CSTATE c = csFault ∧ Recorded n cVatProg 0 ⟨1, c / 16, c, 0, 1⟩ t ∧ t.rd VAT_C_PC c = s.rd VAT_C_PC c)

/-- Predicates and the accumulator (R317, R318, R324). -/
def Obligations.EnginePredicatesAndAccumulator : Prop :=
  (∀ (c w : Nat) (s : State), s.wf = true → s.issues c w = true → isAlu 0x10 w = true → bits w 17 16 ≠ 0 → Completes (.vCmpEq c) s (Issued c w 1 (fun x => { x with f := putBit x.f (bits w 17 16) (decide (x.opA w = x.opB w)) }) s))
  ∧ (∀ (c w : Nat) (s : State), s.wf = true → s.issues c w = true → isAlu 0x11 w = true → bits w 17 16 ≠ 0 → Completes (.vCmpNe c) s (Issued c w 1 (fun x => { x with f := putBit x.f (bits w 17 16) (decide (x.opA w ≠ x.opB w)) }) s))
  ∧ (∀ (c w : Nat) (s : State), s.wf = true → s.issues c w = true → isAlu 0x12 w = true → bits w 17 16 ≠ 0 → Completes (.vCmpLt c) s (Issued c w 1 (fun x => { x with f := putBit x.f (bits w 17 16) (decide (toS 16 (x.opA w) < toS 16 (x.opB w))) }) s))
  ∧ (∀ (c w : Nat) (s : State), s.wf = true → s.issues c w = true → isAlu 0x13 w = true → bits w 17 16 ≠ 0 → Completes (.vCmpLe c) s (Issued c w 1 (fun x => { x with f := putBit x.f (bits w 17 16) (decide (toS 16 (x.opA w) ≤ toS 16 (x.opB w))) }) s))
  ∧ (∀ (c w : Nat) (s : State), s.wf = true → s.issues c w = true → isAlu 0x14 w = true → bits w 17 16 ≠ 0 → Completes (.vCmpGt c) s (Issued c w 1 (fun x => { x with f := putBit x.f (bits w 17 16) (decide (toS 16 (x.opB w) < toS 16 (x.opA w))) }) s))
  ∧ (∀ (c w : Nat) (s : State), s.wf = true → s.issues c w = true → isAlu 0x15 w = true → bits w 17 16 ≠ 0 → Completes (.vCmpGe c) s (Issued c w 1 (fun x => { x with f := putBit x.f (bits w 17 16) (decide (toS 16 (x.opB w) ≤ toS 16 (x.opA w))) }) s))
  ∧ (∀ (c w : Nat) (s : State), s.wf = true → s.issues c w = true → isAlu 0x16 w = true → bits w 17 16 ≠ 0 → Completes (.vCmpLtu c) s (Issued c w 1 (fun x => { x with f := putBit x.f (bits w 17 16) (decide (x.opA w < x.opB w)) }) s))
  ∧ (∀ (c w : Nat) (s : State), s.wf = true → s.issues c w = true → isAlu 0x17 w = true → bits w 17 16 ≠ 0 → Completes (.vCmpGeu c) s (Issued c w 1 (fun x => { x with f := putBit x.f (bits w 17 16) (decide (x.opB w ≤ x.opA w)) }) s))
  ∧ (∀ (c w : Nat) (s : State), s.wf = true → s.issues c w = true → isAlu 0x18 w = true → bits w 17 16 ≠ 0 → bit w 11 = false → Completes (.vFand c) s (Issued c w 1 (fun x => { x with f := putBit x.f (bits w 17 16) ((bits w 13 12 == 0 || bit x.f (bits w 13 12)) && (bits w 8 7 == 0 || bit x.f (bits w 8 7))) }) s))
  ∧ (∀ (c w : Nat) (s : State), s.wf = true → s.issues c w = true → isAlu 0x19 w = true → bits w 17 16 ≠ 0 → bit w 11 = false → Completes (.vFor c) s (Issued c w 1 (fun x => { x with f := putBit x.f (bits w 17 16) ((bits w 13 12 == 0 || bit x.f (bits w 13 12)) || (bits w 8 7 == 0 || bit x.f (bits w 8 7))) }) s))
  ∧ (∀ (c w : Nat) (s : State), s.wf = true → s.issues c w = true → isAlu 0x1A w = true → bits w 17 16 ≠ 0 → bit w 11 = false → Completes (.vFnot c) s (Issued c w 1 (fun x => { x with f := putBit x.f (bits w 17 16) (!(bits w 13 12 == 0 || bit x.f (bits w 13 12))) }) s))
  ∧ (∀ (c w : Nat) (s : State), s.wf = true → s.issues c w = true → isAlu 0x29 w = true → bits w 17 16 ≠ 0 → bit w 11 = true → bits w 2 0 < 6 → Completes (.vCmpa c) s (Issued c w 1 (fun x => { x with f := putBit x.f (bits w 17 16) (match bits w 2 0 with | 0 => x.acc == 0 | 1 => x.acc != 0 | 2 => decide (x.acc < 0) | 3 => decide (x.acc ≤ 0) | 4 => decide (0 < x.acc) | _ => decide (0 ≤ x.acc)) }) s))
  ∧ (∀ (c w : Nat) (s : State), s.wf = true → s.issues c w = true → isAlu 0x20 w = true → Completes (.vClra c) s (Issued c w 1 (fun x => { x with acc := clampI (-(2 ^ 39)) (2 ^ 39 - 1) ((0 : Int)), as_ := x.as_ || decide ((0 : Int) < -(2 ^ 39)) || decide (2 ^ 39 ≤ (0 : Int)) }) s))
  ∧ (∀ (c w : Nat) (s : State), s.wf = true → s.issues c w = true → isAlu 0x21 w = true → Completes (.vLda c) s (Issued c w 1 (fun x => { x with acc := clampI (-(2 ^ 39)) (2 ^ 39 - 1) ((toS 16 (x.opA w) * 2 ^ 16)), as_ := x.as_ || decide ((toS 16 (x.opA w) * 2 ^ 16) < -(2 ^ 39)) || decide (2 ^ 39 ≤ (toS 16 (x.opA w) * 2 ^ 16)) }) s))
  ∧ (∀ (c w : Nat) (s : State), s.wf = true → s.issues c w = true → isAlu 0x22 w = true → Completes (.vAdda c) s (Issued c w 1 (fun x => { x with acc := clampI (-(2 ^ 39)) (2 ^ 39 - 1) ((x.acc + toS 16 (x.opB w) * 2 ^ 16)), as_ := x.as_ || decide ((x.acc + toS 16 (x.opB w) * 2 ^ 16) < -(2 ^ 39)) || decide (2 ^ 39 ≤ (x.acc + toS 16 (x.opB w) * 2 ^ 16)) }) s))
  ∧ (∀ (c w : Nat) (s : State), s.wf = true → s.issues c w = true → isAlu 0x23 w = true → Completes (.vSha c) s (Issued c w 1 (fun x => { x with acc := clampI (-(2 ^ 39)) (2 ^ 39 - 1) ((if 0 ≤ toS 6 (x.opB w) then x.acc * 2 ^ (toS 6 (x.opB w)).toNat else x.acc / 2 ^ (-toS 6 (x.opB w)).toNat)), as_ := x.as_ || decide ((if 0 ≤ toS 6 (x.opB w) then x.acc * 2 ^ (toS 6 (x.opB w)).toNat else x.acc / 2 ^ (-toS 6 (x.opB w)).toNat) < -(2 ^ 39)) || decide (2 ^ 39 ≤ (if 0 ≤ toS 6 (x.opB w) then x.acc * 2 ^ (toS 6 (x.opB w)).toNat else x.acc / 2 ^ (-toS 6 (x.opB w)).toNat)) }) s))
  ∧ (∀ (c w : Nat) (s : State), s.wf = true → s.issues c w = true → isAlu 0x27 w = true → Completes (.vAbsa c) s (Issued c w 1 (fun x => { x with acc := clampI (-(2 ^ 39)) (2 ^ 39 - 1) ((if x.acc < 0 then -x.acc else x.acc)), as_ := x.as_ || decide ((if x.acc < 0 then -x.acc else x.acc) < -(2 ^ 39)) || decide (2 ^ 39 ≤ (if x.acc < 0 then -x.acc else x.acc)) }) s))
  ∧ (∀ (c w : Nat) (s : State), s.wf = true → s.issues c w = true → isAlu 0x28 w = true → Completes (.vNega c) s (Issued c w 1 (fun x => { x with acc := clampI (-(2 ^ 39)) (2 ^ 39 - 1) ((-x.acc)), as_ := x.as_ || decide ((-x.acc) < -(2 ^ 39)) || decide (2 ^ 39 ≤ (-x.acc)) }) s))
  ∧ (∀ (c w : Nat) (s : State), s.wf = true → s.issues c w = true → isAlu 0x24 w = true → bit w 11 = true → bits w 1 0 ≠ 3 → bit w 2 = false → Completes (.vMovh c) s (Issued c w 1 (fun x => { x with g := smSet x.g (bits w 19 16) (ofS 16 (roundAcc (bits w 1 0) x.acc) % 2 ^ 16) }) s))
  ∧ (∀ (c w : Nat) (s : State), s.wf = true → s.issues c w = true → isAlu 0x24 w = true → bit w 11 = true → bits w 1 0 ≠ 3 → bit w 2 = true → Completes (.vMovh c) s (Issued c w 1 (fun x => { x with g := smSet x.g (bits w 19 16) (ofS 16 (clampI (-32768) 32767 (roundAcc (bits w 1 0) x.acc))), sv := x.sv || decide (clampI (-32768) 32767 (roundAcc (bits w 1 0) x.acc) ≠ roundAcc (bits w 1 0) x.acc) }) s))
  ∧ (∀ (c w : Nat) (s : State), s.wf = true → s.issues c w = true → isAlu 0x25 w = true → Completes (.vMovl c) s (Issued c w 1 (fun x => { x with g := smSet x.g (bits w 19 16) (ofS 16 x.acc % 2 ^ 16) }) s))
  ∧ (∀ (c w : Nat) (s : State), s.wf = true → s.issues c w = true → isAlu 0x26 w = true → Completes (.vMove c) s (Issued c w 1 (fun x => { x with g := smSet x.g (bits w 19 16) (ofS 16 (x.acc / 2 ^ 32) % 2 ^ 16) }) s))
  ∧ (∀ v : Int, roundAcc 0 v = v / 65536 ∧ roundAcc 1 v = (v + 32768) / 65536 ∧ 2 * (roundAcc 2 v * 65536 - v).natAbs ≤ 65536 ∧ (2 * (roundAcc 2 v * 65536 - v).natAbs = 65536 → roundAcc 2 v % 2 = 0))
  ∧ (∀ (c w n : Nat) (s : State), s.wf = true → s.issues c w = true → isAlu 0x10 w = true → bits w 17 16 = 0 → s.freshRecord n cVatProg (c / 16) = true → s.faultMasked cVatProg 35 = false → Completes (.vCmpEq c) s fun t => t.rd VAT_C_CSTATE c = csFault ∧ Recorded n cVatProg 0 ⟨1, c / 16, c, 0, 1⟩ t)

/-- Products, moves and addresses (R317, R322 to R329). -/
def Obligations.EngineMovesAndProducts : Prop :=
  (∀ (c w : Nat) (s : State), s.wf = true → s.issues c w = true → isDual 0 w = true → bit w 19 = true → bit w 18 = false → bit w 10 = false → Completes (.vDualMove c) s (Issued c w 1 (fun x => { (x.address (bits w 16 15) (bits w 17 17) 0 0).2 with g := smSet x.g (bits w 14 11) (x.load false (x.address (bits w 16 15) (bits w 17 17) 0 0).1 % 2 ^ 16) }) s))
  ∧ (∀ (c w : Nat) (s : State), s.wf = true → s.issues c w = true → isDual 0 w = true → bit w 19 = true → bit w 18 = true → bit w 10 = true → bit w 9 = false → Completes (.vDualMove c) s (Issued c w 1 (fun x => { ((x.address (bits w 16 15) (bits w 17 17) 0 0).2.address (bits w 7 6) (2 + bits w 8 8) 0 0).2 with g := smSet x.g (bits w 5 2) (x.load true ((x.address (bits w 16 15) (bits w 17 17) 0 0).2.address (bits w 7 6) (2 + bits w 8 8) 0 0).1 % 2 ^ 16), st := [(false, (x.address (bits w 16 15) (bits w 17 17) 0 0).1, smGet x.g (bits w 14 11))] }) s))
  ∧ (∀ (c w : Nat) (s : State), s.wf = true → s.issues c w = true → isDual 1 w = true → bit w 22 = true → bits w 21 20 = 2 → bit w 19 = false → bit w 10 = false → Completes (.vMpy c) s (Issued c w 1 (fun x => { x with acc := clampI (-(2 ^ 39)) (2 ^ 39 - 1) ((toS 16 (smGet x.g (bits w 14 11)) * toS 16 (smGet x.g (bits w 5 2)) * (if bit w 23 then 2 else 1))), as_ := x.as_ || decide ((toS 16 (smGet x.g (bits w 14 11)) * toS 16 (smGet x.g (bits w 5 2)) * (if bit w 23 then 2 else 1)) < -(2 ^ 39)) || decide (2 ^ 39 ≤ (toS 16 (smGet x.g (bits w 14 11)) * toS 16 (smGet x.g (bits w 5 2)) * (if bit w 23 then 2 else 1))) }) s))
  ∧ (∀ (c w : Nat) (s : State), s.wf = true → s.issues c w = true → isDual 2 w = true → bit w 22 = true → bits w 21 20 = 2 → bit w 19 = false → bit w 10 = false → Completes (.vMac c) s (Issued c w 1 (fun x => { x with acc := clampI (-(2 ^ 39)) (2 ^ 39 - 1) ((x.acc + (toS 16 (smGet x.g (bits w 14 11)) * toS 16 (smGet x.g (bits w 5 2)) * (if bit w 23 then 2 else 1)))), as_ := x.as_ || decide ((x.acc + (toS 16 (smGet x.g (bits w 14 11)) * toS 16 (smGet x.g (bits w 5 2)) * (if bit w 23 then 2 else 1))) < -(2 ^ 39)) || decide (2 ^ 39 ≤ (x.acc + (toS 16 (smGet x.g (bits w 14 11)) * toS 16 (smGet x.g (bits w 5 2)) * (if bit w 23 then 2 else 1)))) }) s))
  ∧ (∀ (c w : Nat) (s : State), s.wf = true → s.issues c w = true → isDual 3 w = true → bit w 22 = true → bits w 21 20 = 2 → bit w 19 = false → bit w 10 = false → Completes (.vMsu c) s (Issued c w 1 (fun x => { x with acc := clampI (-(2 ^ 39)) (2 ^ 39 - 1) ((x.acc - (toS 16 (smGet x.g (bits w 14 11)) * toS 16 (smGet x.g (bits w 5 2)) * (if bit w 23 then 2 else 1)))), as_ := x.as_ || decide ((x.acc - (toS 16 (smGet x.g (bits w 14 11)) * toS 16 (smGet x.g (bits w 5 2)) * (if bit w 23 then 2 else 1))) < -(2 ^ 39)) || decide (2 ^ 39 ≤ (x.acc - (toS 16 (smGet x.g (bits w 14 11)) * toS 16 (smGet x.g (bits w 5 2)) * (if bit w 23 then 2 else 1)))) }) s))
  ∧ (∀ (c w : Nat) (s : State), s.wf = true → s.issues c w = true → isDual 2 w = true → bit w 22 = false → bits w 21 20 = 0 → bit w 19 = true → bit w 18 = false → bit w 10 = true → bit w 9 = false → Completes (.vMac c) s (Issued c w 1 (fun x => { ((x.address (bits w 16 15) (bits w 17 17) 0 0).2.address (bits w 7 6) (2 + bits w 8 8) 0 0).2 with g := smSet (smSet x.g (bits w 14 11) (x.load false (x.address (bits w 16 15) (bits w 17 17) 0 0).1 % 2 ^ 16)) (bits w 5 2) (x.load true ((x.address (bits w 16 15) (bits w 17 17) 0 0).2.address (bits w 7 6) (2 + bits w 8 8) 0 0).1 % 2 ^ 16), acc := clampI (-(2 ^ 39)) (2 ^ 39 - 1) ((x.acc + toS 16 (x.load false (x.address (bits w 16 15) (bits w 17 17) 0 0).1) * toS 16 (x.load true ((x.address (bits w 16 15) (bits w 17 17) 0 0).2.address (bits w 7 6) (2 + bits w 8 8) 0 0).1) * (if bit w 23 then 2 else 1))), as_ := x.as_ || decide ((x.acc + toS 16 (x.load false (x.address (bits w 16 15) (bits w 17 17) 0 0).1) * toS 16 (x.load true ((x.address (bits w 16 15) (bits w 17 17) 0 0).2.address (bits w 7 6) (2 + bits w 8 8) 0 0).1) * (if bit w 23 then 2 else 1)) < -(2 ^ 39)) || decide (2 ^ 39 ≤ (x.acc + toS 16 (x.load false (x.address (bits w 16 15) (bits w 17 17) 0 0).1) * toS 16 (x.load true ((x.address (bits w 16 15) (bits w 17 17) 0 0).2.address (bits w 7 6) (2 + bits w 8 8) 0 0).1) * (if bit w 23 then 2 else 1))) }) s))
  ∧ (∀ (c w h : Nat) (s : State), s.wf = true → s.issues c w = true → isDual 1 w = true → bit w 22 = true → bits w 21 20 = 1 → bit w 19 = false → bit w 10 = false → (s.vcl c).cache = none → h = smGet (s.vcl c).pr 0 → Completes (.vMpy c) s fun t => InCluster c [VAT_C_PC.one c] s t ∧ t.rd VAT_C_PC c = s.rd VAT_C_PC c + 1 ∧ t.vcl c = { s.vcl c with cyc := (s.vcl c).cyc + 2, pr := smSet (s.vcl c).pr 0 (circ h 1 (smGet (s.vcl c).pr 1) (smGet (s.vcl c).pr 2) 16384) } ∧ ∀ u, u < 16 → bit (s.rd VAT_C_UNIT_EN c) u = true → (s.vu c u).guard w = true → (t.vu c u).acc = toS 16 (smGet (s.vu c u).g (bits w 14 11)) * toS 16 (if h % 2 = 0 then s.pgmWord c (h / 2) / 2 ^ 16 else s.pgmWord c (h / 2) % 2 ^ 16) * (if bit w 23 then 2 else 1))
  ∧ (∀ (c w n : Nat) (s : State), s.wf = true → s.issues c w = true → isDual 2 w = true → bit w 22 = false → bit w 19 = false → s.freshRecord n cVatProg (c / 16) = true → s.faultMasked cVatProg 35 = false → Completes (.vMac c) s fun t => t.rd VAT_C_CSTATE c = csFault ∧ Recorded n cVatProg 0 ⟨1, c / 16, c, 0, 1⟩ t)
  ∧ (∀ (c w : Nat) (s : State), s.wf = true → s.issues c w = true → vFmt w = 2 → bit w 25 = false → bits w 21 19 < 6 → Completes (.vLd c) s (Issued c w 1 (fun x => { (x.address (bits w 21 19) (bits w 23 22) (bits w 3 0) (bits w 11 0)).2 with g := smSet x.g (bits w 18 15) (x.load (bit w 24) (x.address (bits w 21 19) (bits w 23 22) (bits w 3 0) (bits w 11 0)).1 % 2 ^ 16) }) s))
  ∧ (∀ (c w : Nat) (s : State), s.wf = true → s.issues c w = true → vFmt w = 2 → bit w 25 = true → bits w 21 19 < 6 → Completes (.vSt c) s (Issued c w 1 (fun x => { (x.address (bits w 21 19) (bits w 23 22) (bits w 3 0) (bits w 11 0)).2 with st := [(bit w 24, (x.address (bits w 21 19) (bits w 23 22) (bits w 3 0) (bits w 11 0)).1, smGet x.g (bits w 18 15))] }) s))
  ∧ (∀ (x : VUnit) (n k a : Nat), x.address 0 n k a = (smGet x.ar n, x) ∧ x.address 1 n k a = (smGet x.ar n, { x with ar := smSet x.ar n (x.step n 1) }) ∧ x.address 2 n k a = (smGet x.ar n, { x with ar := smSet x.ar n (x.step n (-1)) }) ∧ x.address 3 n k a = (smGet x.ar n, { x with ar := smSet x.ar n (x.step n (toS 16 (smGet x.h2.1 (12 + n)))) }) ∧ x.address 4 n k a = (x.step n (toS 16 (smGet x.h2.1 k)), x) ∧ x.address 5 n k a = (a, x))
  ∧ (∀ (p b l m : Nat) (d : Int), 0 < m → (circ p d b l m : Int) = (if l = 0 then (p : Int) + d else if ((b + l : Nat) : Int) ≤ p + d then p + d - l else if (p : Int) + d < b then p + d + l else p + d) % (m : Int))
  ∧ (∀ (c w : Nat) (s : State), s.wf = true → s.issues c w = true → vFmt w = 3 → bit w 25 = false → Completes (.vMovi c) s (Issued c w 1 (fun x => { x with g := smSet x.g (bits w 23 20) (bits w 15 0 % 2 ^ 16) }) s))
  ∧ (∀ (c w : Nat) (s : State), s.wf = true → s.issues c w = true → vFmt w = 3 → bit w 25 = true → bits w 24 20 < 12 → Completes (.vMoviSreg c) s (Issued c w 1 (fun x => { x with pend := [(bits w 24 20, bits w 15 0 % 4096, 2)] }) s))
  ∧ (∀ (c w : Nat) (s : State), s.wf = true → s.issues c w = true → vFmt w = 3 → bit w 25 = true → bits w 24 20 = 12 → Completes (.vMoviSreg c) s (Issued c w 1 (fun x => { x with sv := bit (bits w 15 0) 0, as_ := bit (bits w 15 0) 1, f := bits (bits w 15 0) 4 2 * 2 }) s))
  ∧ (∀ (c w : Nat) (s : State), s.wf = true → s.issues c w = true → vFmt w = 3 → bit w 25 = true → bits w 24 20 = 13 → Completes (.vMoviSreg c) s (Issued c w 1 (fun x => { x with acc := toS 40 (ofS 40 x.acc % 2 ^ 32 + bits w 15 0 % 256 * 2 ^ 32) }) s))
  ∧ (∀ (c w : Nat) (s : State), s.wf = true → s.issues c w = true → vFmt w = 3 → bit w 25 = true → bits w 24 20 = 14 → Completes (.vMoviSreg c) s (Issued c w 1 (fun x => { x with acc := toS 40 (ofS 40 x.acc / 2 ^ 32 * 2 ^ 32 + bits w 15 0 % 2 ^ 16 * 2 ^ 16 + ofS 40 x.acc % 2 ^ 16) }) s))
  ∧ (∀ (c w : Nat) (s : State), s.wf = true → s.issues c w = true → vFmt w = 3 → bit w 25 = true → bits w 24 20 = 15 → Completes (.vMoviSreg c) s (Issued c w 1 (fun x => { x with acc := toS 40 (ofS 40 x.acc / 2 ^ 16 * 2 ^ 16 + bits w 15 0 % 2 ^ 16) }) s))
  ∧ (∀ (c w : Nat) (s : State), s.wf = true → s.issues c w = true → vFmt w = 3 → bit w 25 = true → bits w 31 29 = 0 → 16 ≤ bits w 24 20 → bits w 24 20 ≤ 18 → Completes (.vMoviSreg c) s fun t => InCluster c [VAT_C_PC.one c] s t ∧ t.rd VAT_C_PC c = s.rd VAT_C_PC c + 1 ∧ (t.vcl c).pend = [(bits w 24 20 - 16, bits w 15 0 % 16384, 2)] ∧ (t.vcl c).pr = (s.vcl c).pr)
  ∧ (∀ (c w : Nat) (s : State), s.wf = true → s.issues c w = true → vFmt w = 4 → bit w 25 = false → bits w 24 20 < 12 → Completes (.vMovsToSreg c) s (Issued c w 1 (fun x => { x with pend := [(bits w 24 20, smGet x.g (bits w 19 16) % 4096, 2)] }) s))
  ∧ (∀ (c w : Nat) (s : State), s.wf = true → s.issues c w = true → vFmt w = 4 → bit w 25 = false → bits w 24 20 = 12 → Completes (.vMovsToSreg c) s (Issued c w 1 (fun x => { x with sv := bit (smGet x.g (bits w 19 16)) 0, as_ := bit (smGet x.g (bits w 19 16)) 1, f := bits (smGet x.g (bits w 19 16)) 4 2 * 2 }) s))
  ∧ (∀ (c w : Nat) (s : State), s.wf = true → s.issues c w = true → vFmt w = 4 → bit w 25 = false → bits w 24 20 = 13 → Completes (.vMovsToSreg c) s (Issued c w 1 (fun x => { x with acc := toS 40 (ofS 40 x.acc % 2 ^ 32 + smGet x.g (bits w 19 16) % 256 * 2 ^ 32) }) s))
  ∧ (∀ (c w : Nat) (s : State), s.wf = true → s.issues c w = true → vFmt w = 4 → bit w 25 = false → bits w 24 20 = 14 → Completes (.vMovsToSreg c) s (Issued c w 1 (fun x => { x with acc := toS 40 (ofS 40 x.acc / 2 ^ 32 * 2 ^ 32 + smGet x.g (bits w 19 16) % 2 ^ 16 * 2 ^ 16 + ofS 40 x.acc % 2 ^ 16) }) s))
  ∧ (∀ (c w : Nat) (s : State), s.wf = true → s.issues c w = true → vFmt w = 4 → bit w 25 = false → bits w 24 20 = 15 → Completes (.vMovsToSreg c) s (Issued c w 1 (fun x => { x with acc := toS 40 (ofS 40 x.acc / 2 ^ 16 * 2 ^ 16 + smGet x.g (bits w 19 16) % 2 ^ 16) }) s))
  ∧ (∀ (c w u : Nat) (s : State), s.wf = true → s.issues c w = true → vFmt w = 4 → bit w 25 = false → bits w 31 29 = 0 → 16 ≤ bits w 24 20 → bits w 24 20 ≤ 18 → u < 16 → bit (s.rd VAT_C_UNIT_EN c) u = true → (∀ k, k < u → bit (s.rd VAT_C_UNIT_EN c) k = false) → Completes (.vMovsToSreg c) s fun t => InCluster c [VAT_C_PC.one c] s t ∧ t.rd VAT_C_PC c = s.rd VAT_C_PC c + 1 ∧ (t.vcl c).pend = [(bits w 24 20 - 16, smGet (s.vu c u).g (bits w 19 16) % 16384, 2)] ∧ (t.vcl c).pr = (s.vcl c).pr)
  ∧ (∀ (c w : Nat) (s : State), s.wf = true → s.issues c w = true → vFmt w = 4 → bit w 25 = true → bits w 24 20 < 12 → Completes (.vMovsFromSreg c) s (Issued c w 1 (fun x => { x with g := smSet x.g (bits w 19 16) (smGet x.ar (bits w 24 20) % 2 ^ 16) }) s))
  ∧ (∀ (c w : Nat) (s : State), s.wf = true → s.issues c w = true → vFmt w = 4 → bit w 25 = true → bits w 24 20 = 12 → Completes (.vMovsFromSreg c) s (Issued c w 1 (fun x => { x with g := smSet x.g (bits w 19 16) ((b2n x.sv + b2n x.as_ * 2 + bits x.f 3 1 * 4) % 2 ^ 16) }) s))
  ∧ (∀ (c w : Nat) (s : State), s.wf = true → s.issues c w = true → vFmt w = 4 → bit w 25 = true → bits w 24 20 = 13 → Completes (.vMovsFromSreg c) s (Issued c w 1 (fun x => { x with g := smSet x.g (bits w 19 16) (ofS 16 (x.acc / 2 ^ 32) % 2 ^ 16) }) s))
  ∧ (∀ (c w : Nat) (s : State), s.wf = true → s.issues c w = true → vFmt w = 4 → bit w 25 = true → bits w 24 20 = 14 → Completes (.vMovsFromSreg c) s (Issued c w 1 (fun x => { x with g := smSet x.g (bits w 19 16) (ofS 16 (x.acc / 2 ^ 16) % 2 ^ 16) }) s))
  ∧ (∀ (c w : Nat) (s : State), s.wf = true → s.issues c w = true → vFmt w = 4 → bit w 25 = true → bits w 24 20 = 15 → Completes (.vMovsFromSreg c) s (Issued c w 1 (fun x => { x with g := smSet x.g (bits w 19 16) (ofS 16 x.acc % 2 ^ 16) }) s))
  ∧ (∀ (c w : Nat) (s : State), s.wf = true → s.issues c w = true → vFmt w = 4 → bit w 25 = true → 16 ≤ bits w 24 20 → bits w 24 20 ≤ 18 → Completes (.vMovsFromSreg c) s (Issued c w 1 (fun x => { x with g := smSet x.g (bits w 19 16) (smGet (s.vcl c).pr (bits w 24 20 - 16) % 2 ^ 16) }) s))
  ∧ (∀ (c w : Nat) (s : State), s.wf = true → s.issues c w = true → vFmt w = 4 → bit w 25 = true → bits w 24 20 = 19 ∨ bits w 24 20 = 20 → Completes (.vMovsFromSreg c) s (Issued c w 1 (fun x => { x with g := smSet x.g (bits w 19 16) (0 % 2 ^ 16) }) s))

/-- Control flow of the engines (R305, R321, R327 to R333). -/
def Obligations.EngineFlow : Prop :=
  (∀ (c w : Nat) (s : State), s.wf = true → s.issues c w = true → isFlow 0 w = true → bits w 31 29 = 0 → Completes (.vNop c) s (Issued c w 1 (fun x => x) s))
  ∧ (∀ (c w : Nat) (l : VLoop) (s : State), s.wf = true → s.runsWord c w = true → isFlow 0 w = true → bits w 31 29 = 0 → (s.vcl c).loops = [l] → l.last = s.rd VAT_C_PC c → 1 < l.count → l.start ≤ 0x1FFF → Completes (.vNop c) s fun t => InCluster c [VAT_C_PC.one c] s t ∧ (∀ u, u < 16 → t.vu c u = if bit (s.rd VAT_C_UNIT_EN c) u then (s.vu c u).after (s.vu c u) else s.vu c u) ∧ t.rd VAT_C_PC c = l.start ∧ (t.vcl c).loops = [{ l with count := l.count - 1, cap := false }])
  ∧ (∀ (c w : Nat) (l : VLoop) (s : State), s.wf = true → s.runsWord c w = true → isFlow 0 w = true → bits w 31 29 = 0 → (s.vcl c).loops = [l] → l.last = s.rd VAT_C_PC c → l.count ≤ 1 → Completes (.vNop c) s fun t => InCluster c [VAT_C_PC.one c] s t ∧ (∀ u, u < 16 → t.vu c u = if bit (s.rd VAT_C_UNIT_EN c) u then (s.vu c u).after (s.vu c u) else s.vu c u) ∧ t.rd VAT_C_PC c = s.rd VAT_C_PC c + 1 ∧ (t.vcl c).loops = [])
  ∧ (∀ (c w u a v : Nat) (s : State), s.wf = true → u < 16 → a < 0xFF0 → (s.mapVu c u fun x => { x with st := [] }).issues c w = true → (s.vu c u).st = [(true, a, v)] → bit (s.rd VAT_C_UNIT_EN c) u = true → isFlow 0 w = true → bits w 31 29 = 0 → Completes (.vNop c) s fun t => t.rd VAT_C_PC c = s.rd VAT_C_PC c + 1 ∧ t.vu c u = (s.vu c u).after { s.vu c u with st := [], y := smSet (s.vu c u).y a v })
  ∧ (∀ (c w : Nat) (s : State), s.wf = true → s.runsWord c w = true → isFlow 1 w = true → bits w 31 29 = 0 → s.pwr.leaves = [] → (s.vcl c).cyc + 1 < 2 ^ 32 → Completes (.vHalt c) s fun t => InCluster c [VAT_C_CSTATE.one c, VAT_C_LAST_CYCLES.one c] s t ∧ (∀ u, u < 16 → t.vu c u = if bit (s.rd VAT_C_UNIT_EN c) u then (s.vu c u).after (s.vu c u) else s.vu c u) ∧ t.rd VAT_C_CSTATE c = csIdle ∧ t.rd VAT_C_LAST_CYCLES c = (s.vcl c).cyc + 1 ∧ (t.vcl c).loops = [] ∧ ((s.vcl c).irq = true → bit (t.rd C_INT_STAT 35) 0 = true))
  ∧ (∀ (c w : Nat) (s : State), s.wf = true → s.issues c w = true → isFlow 2 w = true → bits w 31 29 = 0 → (s.vcl c).fAt = 0 → Completes (.vBr c) s fun t => InCluster c [VAT_C_PC.one c] s t ∧ (∀ u, u < 16 → t.vu c u = if bit (s.rd VAT_C_UNIT_EN c) u then (s.vu c u).after (s.vu c u) else s.vu c u) ∧ t.rd VAT_C_PC c = bits w 12 0 ∧ (t.vcl c).cyc = (s.vcl c).cyc + 2)
  ∧ (∀ (c w : Nat) (s : State), s.wf = true → s.issues c w = true → isFlow 3 w = true → bits w 31 29 = 0 → (s.vcl c).fAt = 0 → Completes (.vBrany c) s fun t => InCluster c [VAT_C_PC.one c] s t ∧ (∀ u, u < 16 → t.vu c u = if bit (s.rd VAT_C_UNIT_EN c) u then (s.vu c u).after (s.vu c u) else s.vu c u) ∧ if ((List.range 16).any fun u => bit (s.rd VAT_C_UNIT_EN c) u && (bits w 21 20 == 0 || bit (s.vu c u).f (bits w 21 20))) = true then t.rd VAT_C_PC c = bits w 12 0 ∧ (t.vcl c).cyc = (s.vcl c).cyc + 2 else t.rd VAT_C_PC c = s.rd VAT_C_PC c + 1 ∧ (t.vcl c).cyc = (s.vcl c).cyc + 1)
  ∧ (∀ (c w : Nat) (s : State), s.wf = true → s.issues c w = true → isFlow 4 w = true → bits w 31 29 = 0 → (s.vcl c).fAt = 0 → Completes (.vBrall c) s fun t => InCluster c [VAT_C_PC.one c] s t ∧ (∀ u, u < 16 → t.vu c u = if bit (s.rd VAT_C_UNIT_EN c) u then (s.vu c u).after (s.vu c u) else s.vu c u) ∧ if ((List.range 16).all fun u => !bit (s.rd VAT_C_UNIT_EN c) u || bits w 21 20 == 0 || bit (s.vu c u).f (bits w 21 20)) = true then t.rd VAT_C_PC c = bits w 12 0 ∧ (t.vcl c).cyc = (s.vcl c).cyc + 2 else t.rd VAT_C_PC c = s.rd VAT_C_PC c + 1 ∧ (t.vcl c).cyc = (s.vcl c).cyc + 1)
  ∧ (∀ (c w : Nat) (s : State), s.wf = true → s.issues c w = true → vFmt w = 5 → bits w 31 29 = 0 → (s.vcl c).cache = none → 1 ≤ bits w 9 0 → s.rd VAT_C_PC c + bits w 9 0 ≤ 0x1FFF → bits w 25 10 ≠ 0 → Completes (.vDo c) s fun t => InCluster c [VAT_C_PC.one c] s t ∧ (∀ u, u < 16 → t.vu c u = if bit (s.rd VAT_C_UNIT_EN c) u then (s.vu c u).after (s.vu c u) else s.vu c u) ∧ t.rd VAT_C_PC c = s.rd VAT_C_PC c + 1 ∧ (t.vcl c).loops = [{ start := s.rd VAT_C_PC c + 1, last := s.rd VAT_C_PC c + bits w 9 0, count := bits w 25 10, cap := decide (bits w 9 0 ≤ 32) }] ∧ (t.vcl c).cyc = (s.vcl c).cyc + 1)
  ∧ (∀ (c w : Nat) (s : State), s.wf = true → s.issues c w = true → vFmt w = 5 → bits w 31 29 = 0 → 1 ≤ bits w 9 0 → s.rd VAT_C_PC c + bits w 9 0 < 0x1FFF → bits w 25 10 = 0 → Completes (.vDo c) s fun t => InCluster c [VAT_C_PC.one c] s t ∧ (∀ u, u < 16 → t.vu c u = if bit (s.rd VAT_C_UNIT_EN c) u then (s.vu c u).after (s.vu c u) else s.vu c u) ∧ t.rd VAT_C_PC c = s.rd VAT_C_PC c + bits w 9 0 + 1 ∧ (t.vcl c).loops = [] ∧ (t.vcl c).cyc = (s.vcl c).cyc + 2)
  ∧ (∀ (c w u : Nat) (s : State), s.wf = true → s.issues c w = true → isFlow 5 w = true → u < 16 → bit (s.rd VAT_C_UNIT_EN c) u = true → (∀ k, k < u → bit (s.rd VAT_C_UNIT_EN c) k = false) → bits w 31 29 = 0 → (s.vcl c).cache = none → 1 ≤ bits w 9 0 → s.rd VAT_C_PC c + bits w 9 0 ≤ 0x1FFF → (smGet (s.vu c u).h2.1 (bits w 19 16) % 2 ^ 16) ≠ 0 → Completes (.vDog c) s fun t => InCluster c [VAT_C_PC.one c] s t ∧ (∀ u, u < 16 → t.vu c u = if bit (s.rd VAT_C_UNIT_EN c) u then (s.vu c u).after (s.vu c u) else s.vu c u) ∧ t.rd VAT_C_PC c = s.rd VAT_C_PC c + 1 ∧ (t.vcl c).loops = [{ start := s.rd VAT_C_PC c + 1, last := s.rd VAT_C_PC c + bits w 9 0, count := (smGet (s.vu c u).h2.1 (bits w 19 16) % 2 ^ 16), cap := decide (bits w 9 0 ≤ 32) }] ∧ (t.vcl c).cyc = (s.vcl c).cyc + 1)
  ∧ (∀ (c w u : Nat) (s : State), s.wf = true → s.issues c w = true → isFlow 5 w = true → u < 16 → bit (s.rd VAT_C_UNIT_EN c) u = true → (∀ k, k < u → bit (s.rd VAT_C_UNIT_EN c) k = false) → bits w 31 29 = 0 → 1 ≤ bits w 9 0 → s.rd VAT_C_PC c + bits w 9 0 < 0x1FFF → (smGet (s.vu c u).h2.1 (bits w 19 16) % 2 ^ 16) = 0 → Completes (.vDog c) s fun t => InCluster c [VAT_C_PC.one c] s t ∧ (∀ u, u < 16 → t.vu c u = if bit (s.rd VAT_C_UNIT_EN c) u then (s.vu c u).after (s.vu c u) else s.vu c u) ∧ t.rd VAT_C_PC c = s.rd VAT_C_PC c + bits w 9 0 + 1 ∧ (t.vcl c).loops = [] ∧ (t.vcl c).cyc = (s.vcl c).cyc + 2)
  ∧ (∀ (c w : Nat) (l m : VLoop) (s : State), s.wf = true → s.runsWord c w = true → isFlow 6 w = true → bits w 31 29 = 0 → (s.vcl c).loops = [l, m] → m.last ≠ l.last → l.last < 0x1FFF → Completes (.vLeave c) s fun t => InCluster c [VAT_C_PC.one c] s t ∧ (∀ u, u < 16 → t.vu c u = if bit (s.rd VAT_C_UNIT_EN c) u then (s.vu c u).after (s.vu c u) else s.vu c u) ∧ t.rd VAT_C_PC c = l.last + 1 ∧ (t.vcl c).loops = [m])
  ∧ (∀ (c w : Nat) (l m : VLoop) (s : State), s.wf = true → s.runsWord c w = true → isFlow 6 w = true → bits w 31 29 = 0 → (s.vcl c).loops = [l, m] → m.last = l.last → 1 < m.count → m.start ≤ 0x1FFF → Completes (.vLeave c) s fun t => t.rd VAT_C_PC c = m.start ∧ (t.vcl c).loops = [{ m with count := m.count - 1, cap := false }])
  ∧ (∀ (c w n : Nat) (s : State), s.wf = true → s.issues c w = true → isFlow 6 w = true → s.freshRecord n cVatProg (c / 16) = true → s.faultMasked cVatProg 35 = false → Completes (.vLeave c) s fun t => t.rd VAT_C_CSTATE c = csFault ∧ Recorded n cVatProg 0 ⟨1, c / 16, c, 0, 1⟩ t)
  ∧ (∀ (c w n : Nat) (s : State), s.wf = true → s.issues c w = true → vFmt w = 7 → s.freshRecord n cVatProg (c / 16) = true → s.faultMasked cVatProg 35 = false → Completes (.vNop c) s fun t => t.rd VAT_C_CSTATE c = csFault ∧ Recorded n cVatProg 0 ⟨1, c / 16, c, 0, 1⟩ t)
  ∧ (∀ (c w n : Nat) (s : State), s.wf = true → s.issues c w = true → isFlow 0 w = true → bits w 31 29 ≠ 0 → s.freshRecord n cVatProg (c / 16) = true → s.faultMasked cVatProg 35 = false → Completes (.vNop c) s fun t => t.rd VAT_C_CSTATE c = csFault ∧ Recorded n cVatProg 0 ⟨1, c / 16, c, 0, 1⟩ t)
  ∧ (∀ (c w n : Nat) (s : State), s.wf = true → s.issues c w = true → vFmt w = 5 → bits w 31 29 = 0 → bits w 9 0 = 0 → s.freshRecord n cVatProg (c / 16) = true → s.faultMasked cVatProg 35 = false → Completes (.vDo c) s fun t => t.rd VAT_C_CSTATE c = csFault ∧ Recorded n cVatProg 0 ⟨1, c / 16, c, 0, 3⟩ t)
  ∧ (∀ (c w n : Nat) (s : State), s.wf = true → s.runsWord c w = true → vFmt w = 5 → bits w 31 29 = 0 → bits w 9 0 ≠ 0 → bits w 25 10 ≠ 0 → s.rd VAT_C_PC c + bits w 9 0 ≤ 0x1FFF → (s.vcl c).loops.length = 4 → (s.vcl c).loops.all (fun l => l.last != s.rd VAT_C_PC c) = true → s.freshRecord n cVatProg (c / 16) = true → s.faultMasked cVatProg 35 = false → Completes (.vDo c) s fun t => t.rd VAT_C_CSTATE c = csFault ∧ Recorded n cVatProg 0 ⟨1, c / 16, c, 0, 2⟩ t)
  ∧ (∀ (c w n : Nat) (s : State), s.wf = true → s.runsWord c w = true → isFlow 2 w = true → bits w 31 29 = 0 → (s.vcl c).loops.any (fun l => l.last == s.rd VAT_C_PC c) = true → s.freshRecord n cVatProg (c / 16) = true → s.faultMasked cVatProg 35 = false → Completes (.vBr c) s fun t => t.rd VAT_C_CSTATE c = csFault ∧ Recorded n cVatProg 0 ⟨1, c / 16, c, 0, 4⟩ t)
  ∧ (∀ (c w n : Nat) (s : State), s.wf = true → s.runsWord c w = true → isFlow 2 w = true → bits w 31 29 = 0 → (s.vcl c).loops.all (fun l => l.last != s.rd VAT_C_PC c && decide (bits w 12 0 < l.start)) = true → (s.vcl c).loops ≠ [] → s.freshRecord n cVatProg (c / 16) = true → s.faultMasked cVatProg 35 = false → Completes (.vBr c) s fun t => t.rd VAT_C_CSTATE c = csFault ∧ Recorded n cVatProg 0 ⟨1, c / 16, c, 0, 5⟩ t)

/-! The signal engine array (chapter 13) -/

/-- Kernels, host access and taps (R299 to R307). -/
def Obligations.KernelsLaunchedAndStopped : Prop :=
  (∀ (c k : Nat) (s : State), s.wf = true → c < 128 → k = s.rd VAT_C_HOST_KSLOT c → s.rd VAT_K_VALID k = 1 → s.rd VAT_C_CSTATE c = csIdle → s.regionKeeps (c / 16) = false → s.rd VAT_K_PCLASS k ≤ s.rd VAT_C_STD_CLASS c → Completes (.vatGo c) s fun t =>
      InCluster c [VAT_C_CSTATE.one c, VAT_C_PC.one c, VAT_C_KSLOT.one c, VAT_C_LAST_START.one c, VAT_C_LAUNCHES.one c] s t ∧ t.rd VAT_C_CSTATE c = csRun ∧ t.rd VAT_C_PC c = s.rd VAT_K_ENTRY k ∧ t.rd VAT_C_KSLOT c = k
      ∧ t.rd VAT_C_LAST_START c = s.now % 2 ^ 32 ∧ t.rd VAT_C_LAUNCHES c = (s.rd VAT_C_LAUNCHES c + 1) % 2 ^ 32
      ∧ t.vcl c = { s.vcl c with loops := [], cache := none, cyc := 0, fAt := 0, irq := decide (s.rd VAT_K_IRQ k = 1), maxrun := s.rd VAT_K_MAXRUN k, wait := none }
      ∧ ∀ u, u < 16 → bit (s.rd VAT_C_UNIT_EN c) u = true → smGet (t.vu c u).g 0 = s.rd VAT_K_KARG k ∧ smGet (t.vu c u).g 1 = 16 * c + u ∧ smGet (t.vu c u).g 2 = s.now / mfTicks % 125 * 64 + s.now / frameTicks % 64
        ∧ (t.vu c u).f = 14 ∧ (t.vu c u).acc = (s.vu c u).acc ∧ (t.vu c u).ar = (s.vu c u).ar ∧ (t.vu c u).x = (s.vu c u).x ∧ (t.vu c u).y = (s.vu c u).y ∧ ∀ r, 3 ≤ r → r < 16 → smGet (t.vu c u).g r = smGet (s.vu c u).g r)
  ∧ (∀ (c : Nat) (s : State), s.wf = true → c < 128 → s.rd VAT_K_VALID (s.rd VAT_C_HOST_KSLOT c) = 0 → Completes (.vatGo c) s fun t => Only [VAT_NO_KERNEL.one] s t ∧ t.rd VAT_NO_KERNEL = (s.rd VAT_NO_KERNEL + 1) % 2 ^ 32)
  ∧ (∀ (c : Nat) (s : State), s.wf = true → c < 128 → s.rd VAT_K_VALID (s.rd VAT_C_HOST_KSLOT c) = 1 → (s.rd VAT_C_CSTATE c ≠ csIdle ∨ s.regionKeeps (c / 16) = true) → Completes (.vatGo c) s fun t =>
      Only [VAT_C_LAUNCH_BUSY.one c] s t ∧ t.rd VAT_C_LAUNCH_BUSY c = (s.rd VAT_C_LAUNCH_BUSY c + 1) % 2 ^ 32 ∧ bit (t.rd C_INT_STAT 35) 2 = true)
  ∧ (∀ (c k : Nat) (s : State), s.wf = true → c < 128 → k = s.rd VAT_C_HOST_KSLOT c → s.rd VAT_K_VALID k = 1 → s.rd VAT_C_CSTATE c = csIdle → s.regionKeeps (c / 16) = false → s.rd VAT_C_STD_CLASS c < s.rd VAT_K_PCLASS k →
    s.rd VAT_K_PCLASS k < 4 →
    s.leaveFits (15 * (s.rd VAT_K_PCLASS k - s.rd VAT_C_STD_CLASS c)) = false → Completes (.vatGo c) s fun t =>
      InCluster c [VAT_C_CSTATE.one c, PWR_LC_REFUSED.one lcVat] s t ∧ t.rd VAT_C_CSTATE c = csWait ∧ (t.vcl c).wait.map Prod.snd = some (s.now + 100 * usTicks) ∧ (t.vcl c).wait.map (fun w => w.1.kslot) = some k)
  ∧ (∀ (c due : Nat) (k : VStart) (s : State), s.wf = true → c < 128 → (s.vcl c).wait = some (k, due) → s.rd VAT_C_CSTATE c = csWait → s.now ≤ due → s.rd VAT_C_STD_CLASS c < k.pclass → k.pclass < 4 → s.rd LTM_STATE ≠ ltHoldover →
    k.entry < 8192 → s.leaveFits (15 * (k.pclass - s.rd VAT_C_STD_CLASS c)) = true → s.pwr.faulted = [] → Completes (.vatLeaveRetry c) s fun t => t.now = due ∧ t.rd VAT_C_CSTATE c = csRun ∧ t.rd VAT_C_PC c = k.entry ∧ t.hasLeave lcVat (c / 16) c = true ∧ (t.vcl c).wait = none)
  ∧ (∀ (c : Nat) (k : VStart) (s : State), s.wf = true → c < 128 → s.vat.starts = [(c, k)] → s.rd VAT_C_CSTATE c = csIdle → s.regionKeeps (c / 16) = false → k.pclass ≤ s.rd VAT_C_STD_CLASS c → k.entry < 8192 → Completes (.vatClusterStart c) s fun t =>
      t.rd VAT_C_CSTATE c = csRun ∧ t.rd VAT_C_PC c = k.entry ∧ t.rd VAT_C_LAST_START c = k.target % 2 ^ 32 ∧ t.vat.starts = [] ∧ ∀ u, u < 16 → bit (s.rd VAT_C_UNIT_EN c) u = true → smGet (t.vu c u).g 0 = k.arg)
  ∧ (∀ (c : Nat) (k : VStart) (s : State), s.wf = true → c < 128 → s.vat.starts = [(c, k)] → s.rd VAT_C_CSTATE c = csIdle → s.regionKeeps (c / 16) = false → s.rd VAT_C_STD_CLASS c < k.pclass → k.pclass < 4 → s.hasLeave lcVat (c / 16) (vatNext c) = false →
    Completes (.vatClusterStart c) s fun t => Only [VAT_LEAVE_REFUSED.one] { s with vat := { s.vat with starts := [] } } t ∧ t.rd VAT_LEAVE_REFUSED = (s.rd VAT_LEAVE_REFUSED + 1) % 2 ^ 32 ∧ bit (t.rd C_INT_STAT 35) 3 = true)
  ∧ (∀ (c : Nat) (k : VStart) (s : State), s.wf = true → c < 128 → s.vat.starts = [(c, k)] → s.rd VAT_C_CSTATE c = csIdle → s.regionKeeps (c / 16) = false → s.rd VAT_C_STD_CLASS c < k.pclass → k.pclass < 4 → k.entry < 8192 →
    s.hasLeave lcVat (c / 16) (vatNext c) = true → Completes (.vatClusterStart c) s fun t =>
      t.rd VAT_C_CSTATE c = csRun ∧ t.rd VAT_C_PC c = k.entry ∧ t.vat.starts = [] ∧ t.leavePower = s.leavePower ∧ t.hasLeave lcVat (c / 16) c = true ∧ t.hasLeave lcVat (c / 16) (vatNext c) = false)
  ∧ (∀ (n c k target : Nat) (s : State), s.wf = true → n < 256 → c < 128 → s.rd LTM_LE_ARMED n = 1 → s.rd LTM_LE_ACTION n = 1 → k = s.rd LTM_LE_ARG n % 64 → s.rd VAT_K_VALID k = 1 → (s.kernelMask k).contains c = true →
    target = ltNear s.now (s.rd64 LTM_LE_TARGET_LO LTM_LE_TARGET_HI n) → s.now + 100 * usTicks ≤ target → s.rd VAT_C_CSTATE c ≠ csOff → s.hasLeave lcVat (c / 16) (vatNext c) = false → s.rd VAT_C_STD_CLASS c < s.rd VAT_K_PCLASS k →
    s.rd VAT_K_PCLASS k < 4 → s.pwr.faulted = [] →
    s.rd LTM_STATE ≠ ltHoldover → s.leaveFits (15 * (s.rd VAT_K_PCLASS k - s.rd VAT_C_STD_CLASS c)) = true → Completes (.vatLeaveRequest n c) s fun t =>
      Only [PWR_LC_GRANTED.one lcVat, PWR_LEAVE_HELD.one, PWR_LC_HELD.one lcVat] { s with pwr := t.pwr, time := t.time } t ∧ t.now = target - 100 * usTicks
      ∧ t.pwr.leaves = s.pwr.leaves ++ [⟨lcVat, 15 * (s.rd VAT_K_PCLASS k - s.rd VAT_C_STD_CLASS c), c / 16, vatNext c⟩])
  ∧ (∀ (c : Nat) (s : State), s.wf = true → c < 128 → s.rd VAT_C_CSTATE c = csFault ∨ s.rd VAT_C_CSTATE c = csWait → s.pwr.leaves = [] → amGet? s.vat.starts c = none → Completes (.vatStop c) s fun t =>
      InCluster c [VAT_C_CSTATE.one c] s t ∧ t.rd VAT_C_CSTATE c = csIdle ∧ (t.vcl c).wait = none ∧ (t.vcl c).pgm = (s.vcl c).pgm)
  ∧ (∀ (c : Nat) (k : VStart) (s : State), s.wf = true → c < 128 → amGet? s.vat.starts c = some k → s.rd VAT_C_CSTATE c = csIdle → Completes (.vatStop c) s fun t =>
      amGet? t.vat.starts c = none ∧ t.rd VAT_C_CSTATE c = csIdle ∧ t.rd VAT_C_LAUNCH_BUSY c = (s.rd VAT_C_LAUNCH_BUSY c + 1) % 2 ^ 32)
  ∧ (∀ (c w : Nat) (s : State), s.wf = true → s.runsWord c w = true → s.pwr.leaves = [] → amGet? s.vat.starts c = none → (s.vcl c).cyc < 2 ^ 32 → Completes (.vatStop c) s fun t =>
      InCluster c [VAT_C_CSTATE.one c, VAT_C_LAST_CYCLES.one c] s t ∧ t.rd VAT_C_CSTATE c = csIdle ∧ t.rd VAT_C_LAST_CYCLES c = (s.vcl c).cyc)
  ∧ (∀ (c : Nat) (s : State), s.wf = true → c < 128 → s.rd VAT_C_CSTATE c = csRun → (s.vcl c).maxrun ≠ 0 → (s.vcl c).cyc = (s.vcl c).maxrun * 256 → (s.vcl c).maxrun < 65536 → (∀ u, u < 16 → (s.vu c u).st = []) → s.pwr.leaves = [] →
    Completes (.vatMaxrun c) s fun t => InCluster c [VAT_C_CSTATE.one c, VAT_C_LAST_CYCLES.one c, VAT_OVERRUNS.one] s t ∧ t.rd VAT_C_CSTATE c = csIdle ∧ t.rd VAT_OVERRUNS = (s.rd VAT_OVERRUNS + 1) % 2 ^ 32
      ∧ t.rd VAT_C_LAST_CYCLES c = (s.vcl c).maxrun * 256 ∧ bit (t.rd C_INT_STAT 35) 1 = true)
  ∧ (∀ (c i v dq : Nat) (s : State), s.wf = true → c < 128 → i < 8192 → s.rd VAT_C_CSTATE c = csIdle ∨ s.rd VAT_C_CSTATE c = csFault → Completes (.vatHostWrite c (4 * i) v dq) s fun t =>
      InCluster c [] s t ∧ t.pgmWord c i = v % 2 ^ 32 ∧ ∀ j, j < 8192 → j ≠ i → t.pgmWord c j = s.pgmWord c j)
  ∧ (∀ (c j a v dq : Nat) (s : State), s.wf = true → c < 128 → j < 4 → dq < 4 → a < 2048 → s.rd VAT_C_CSTATE c = csIdle ∨ s.rd VAT_C_CSTATE c = csFault → Completes (.vatHostWrite c (0x10000 + 0x4000 * j + 4 * a) v dq) s fun t =>
      InCluster c [] s t ∧ smGet (t.vu c (4 * dq + j)).x (2 * a) = v % 65536 ∧ smGet (t.vu c (4 * dq + j)).x (2 * a + 1) = v / 65536 % 65536 ∧ (t.vu c (4 * dq + j)).y = (s.vu c (4 * dq + j)).y
      ∧ ∀ u, u < 16 → u ≠ 4 * dq + j → t.vu c u = s.vu c u)
  ∧ (∀ (c off v dq : Nat) (s : State), s.wf = true → c < 128 → off < 0x20000 → off < 0x8000 ∨ 0x10000 ≤ off → s.rd VAT_C_CSTATE c = csRun ∨ s.rd VAT_C_CSTATE c = csWait → Completes (.vatHostWrite c off v dq) s fun t =>
      Only [VAT_HOST_WR_BUSY.one] s t ∧ t.rd VAT_HOST_WR_BUSY = (s.rd VAT_HOST_WR_BUSY + 1) % 2 ^ 32)
  ∧ (∀ (c u n : Nat) (s : State), s.wf = true → c < 128 → u < 16 → s.rd VAT_C_CSTATE c ≠ csOff → s.freshRecord n cUnitParity (c / 16) = true → s.faultMasked cUnitParity 35 = false → Completes (.vatParityError c (some u)) s fun t =>
      bit (t.rd VAT_C_UNIT_EN c) u = false ∧ (∀ k, k < 16 → k ≠ u → bit (t.rd VAT_C_UNIT_EN c) k = bit (s.rd VAT_C_UNIT_EN c) k) ∧ t.rd VAT_C_CSTATE c = s.rd VAT_C_CSTATE c ∧ t.vat = s.vat
      ∧ Recorded n cUnitParity 0 ⟨0, c / 16, c, u, 0⟩ t)
  ∧ (∀ (c n : Nat) (s : State), s.wf = true → c < 128 → s.rd VAT_C_CSTATE c ≠ csOff → s.freshRecord n cPgmParity (c / 16) = true → s.faultMasked cPgmParity 35 = false → Completes (.vatParityError c none) s fun t =>
      t.rd VAT_C_CSTATE c = csFault ∧ Recorded n cPgmParity 0 ⟨1, c / 16, c, 0, 0⟩ t)
  ∧ (∀ (c p : Nat) (blocks : List (List Nat)) (s : State), s.wf = true → c < 128 → p < 4 → s.rd VAT_C_CSTATE c ≠ csOff → s.rd VAT_C_TI_EN (c * 4 + p) = 1 → s.rd VAT_C_TI_TSRC (c * 4 + p) = 1 →
    s.rd VAT_C_TI_SIDE (c * 4 + p) < 2 → amGet? s.vat.capAt (c * 4 + p) = none → s.rd LTM_STATE ≠ ltHoldover → Completes (.tapCapture c p blocks) s fun t =>
      t = { s with vat := t.vat, time := t.time } ∧ t.now = max s.now (s.now / frameTicks * frameTicks + s.rd VAT_C_TI_OFS (c * 4 + p) * slotTicks)
      ∧ amGet? t.vat.caps (c * 4 + p) = some { frame := s.now / frameTicks, valid := decide (s.acq (s.rd VAT_C_TI_SIDE (c * 4 + p)) = 6), blocks := blocks } ∧ t.vat.units = s.vat.units)
  ∧ (∀ (c p lo : Nat) (cap : VCap) (s : State), s.wf = true → c < 128 → p < 4 → amGet? s.vat.caps (c * 4 + p) = some cap → s.rd VAT_C_TI_TSRC (c * 4 + p) ≠ 6 → (∀ u, u < 16 → (s.vu c u).st = []) →
    lo = s.rd VAT_C_TI_DST (c * 4 + p) + s.rd VAT_C_TI_BLK (c * 4 + p) * (cap.frame % 2) → s.rd VAT_C_TI_DST (c * 4 + p) + 2 * s.rd VAT_C_TI_BLK (c * 4 + p) ≤ 0xFF0 → Completes (.tapDelivery c p) s fun t =>
      amGet? t.vat.caps (c * 4 + p) = none ∧ ∀ u, u < 16 → if bit (s.rd VAT_C_UNIT_EN c) u then
          (∀ i, i < min (s.rd VAT_C_TI_BLK (c * 4 + p)) ((cap.blocks.getD u []).length) → smGet (t.vu c u).y (lo + i) = (cap.blocks.getD u []).getD i 0 % 2 ^ 16)
          ∧ smGet (t.vu c u).y (0xFF0 + p) = b2n cap.valid * 2 ^ 15 + cap.frame % 64 * 2 ^ 8 + cap.frame % 2 ∧ (t.vu c u).x = (s.vu c u).x
        else t.vu c u = s.vu c u)

/-! Register accesses, functions and the two-wire port (chapter 15) -/

/-- Reads of registers (R342, R347, R348, R352 to R354). -/
def Obligations.RegistersRead : Prop :=
  (∀ (m : Nat) (s : State), s.wf = true → s.dark = false → m ≤ 1 → Completes (.ltSnapRead m) s fun t =>
      Only [PCI_M_ACCESSES_LO.one m, PCI_M_ACCESSES_HI.one m] { s with banked := t.banked } t ∧ t.out.head? = some (.readData m [s.lt64 % 2 ^ 32])
      ∧ t.bank m LTM_LT_SNAP_HI = s.lt64 / 2 ^ 32 ∧ (∀ k, k ≠ bankKey m LTM_LT_SNAP_HI 0 → smGet t.banked k = smGet s.banked k)
      ∧ t.rd64 PCI_M_ACCESSES_LO PCI_M_ACCESSES_HI m = (s.rd64 PCI_M_ACCESSES_LO PCI_M_ACCESSES_HI m + 1) % 2 ^ 64)
  ∧ (∀ (m n : Nat) (s : State), s.wf = true → s.dark = false → m ≤ 1 → s.chSel m 11 = n → n < 4 → Completes (.nowRead m) s fun t =>
      Only [PCI_M_ACCESSES_LO.one m, PCI_M_ACCESSES_HI.one m] { s with banked := t.banked } t ∧ t.out.head? = some (.readData m [tbSec (s.tbReading n) % 2 ^ 32])
      ∧ t.bank m TIM_TB_NOW_S_HI n = tbSec (s.tbReading n) / 2 ^ 32 % 2 ^ 16 ∧ t.bank m TIM_TB_NOW_NS n = tbNsOf (s.tbReading n)
      ∧ ∀ k, k ≠ bankKey m TIM_TB_NOW_S_HI n → k ≠ bankKey m TIM_TB_NOW_NS n → smGet t.banked k = smGet s.banked k)
  ∧ (∀ (m a i idx off : Nat) (p : Page) (f h : Fld) (s : State), s.wf = true → s.dark = false → m ≤ 16 → State.locate m (a / 4 * 4) = some (.page p idx off) → s.reaches m idx = true →
    ¬(p = .CAV ∧ 0x4000 ≤ off ∧ off < 0x8000) → fieldsIn p idx off (s.chSel m idx) = [(f, i)] → (f, h) ∈ latchPairs → f.counting = false → f ≠ TIM_TB_NOW_S_LO → f ≠ PCI_M_ACCESSES_LO →
    f ≠ C_PERF_CYC_LO ∨ s.perfStopped i = true → s.mayUse m f i = true → Completes (.counterLoRead m a 1) s fun t =>
      Only [PCI_M_ACCESSES_LO.one m, PCI_M_ACCESSES_HI.one m] { s with banked := t.banked } t ∧ t.out.head? = some (.readData m [s.view f i])
      ∧ t.bank m h i = s.view h i ∧ ∀ k, k ≠ bankKey m h i → smGet t.banked k = smGet s.banked k)
  ∧ (∀ (m a i idx off : Nat) (p : Page) (f h : Fld) (s : State), s.wf = true → s.dark = false → m ≤ 16 → State.locate m (a / 4 * 4) = some (.page p idx off) → State.locate m (a / 4 * 4 + 4) = some (.page p idx (off + 4)) →
    s.reaches m idx = true → a / 4 * 4 % 64 ≤ 56 → ¬(p = .CAV ∧ 0x4000 ≤ off + 4 ∧ off < 0x8000) → fieldsIn p idx off (s.chSel m idx) = [(f, i)] → fieldsIn p idx (off + 4) (s.chSel m idx) = [(h, i)] → (f, h) ∈ latchPairs →
    f.counting = false → f ≠ TIM_TB_NOW_S_LO → f ≠ PCI_M_ACCESSES_LO → f ≠ C_PERF_CYC_LO ∨ s.perfStopped i = true → s.mayUse m f i = true → s.mayUse m h i = true → Completes (.counterLoRead m a 2) s fun t =>
      Only [PCI_M_ACCESSES_LO.one m, PCI_M_ACCESSES_HI.one m] { s with banked := t.banked } t ∧ t.out.head? = some (.readData m [s.view f i, s.view h i])
      ∧ t.rd64 PCI_M_ACCESSES_LO PCI_M_ACCESSES_HI m = (s.rd64 PCI_M_ACCESSES_LO PCI_M_ACCESSES_HI m + 2) % 2 ^ 64)
  ∧ (∀ (m a i idx : Nat) (p : Page) (s : State), s.wf = true → s.dark = false → m ≤ 16 → State.locate m (a / 4 * 4) = some (.page p idx 0x800) → s.reaches m idx = true → fieldsIn p idx 0x800 (s.chSel m idx) = [(C_PERF_CYC_LO, i)] →
    s.perfStopped i = false → Completes (.counterLoRead m a 1) s fun t =>
      Only [PCI_M_ACCESSES_LO.one m, PCI_M_ACCESSES_HI.one m, C_PERF_CYC_LO.one i, C_PERF_CYC_HI.one i] { s with banked := t.banked, freeCtr := s.freeCtr + 1 } t
      ∧ t.rd64 C_PERF_CYC_LO C_PERF_CYC_HI i = (s.rd64 C_PERF_CYC_LO C_PERF_CYC_HI i + (Config.freeValue s.freeCtr).toNat) % 2 ^ 64
      ∧ t.out.head? = some (.readData m [t.rd C_PERF_CYC_LO i]) ∧ t.bank m C_PERF_CYC_HI i = t.rd C_PERF_CYC_HI i)
  ∧ (∀ (m a n : Nat) (s : State), s.wf = true → s.dark = false → m ≤ 16 → claims m (a / 4 * 4) = true → 0 < n → (16 < n ∨ 64 < a / 4 * 4 % 64 + 4 * n) → Completes (.counterLoRead m a n) s fun t =>
      Only [PCI_UR_COUNT.one] s t ∧ t.rd PCI_UR_COUNT = (s.rd PCI_UR_COUNT + 1) % 2 ^ 32 ∧ t.out.head? = some (.completion m 1))
  ∧ (∀ (m a i n off : Nat) (f h : Fld) (s : State), s.wf = true → s.dark = false → m ≤ 1 → decodeAddr (a / 4 * 4) = some (.rule n off) → ruleFields n off = [(f, i)] → (f, h) ∈ latchPairs → hasRight m f.attr = true →
    Completes (.counterLoRead m a 1) s fun t =>
      Only [PCI_M_ACCESSES_LO.one m, PCI_M_ACCESSES_HI.one m] { s with banked := t.banked } t ∧ t.out.head? = some (.readData m [s.view f i])
      ∧ t.bank m h i = s.view h i ∧ ∀ k, k ≠ bankKey m h i → smGet t.banked k = smGet s.banked k)
  ∧ (∀ (m a : Nat) (l : Loc) (s : State), s.wf = true → s.dark = false → m ≤ 16 → State.locate m (a / 4 * 4) = some l → s.reaches m l.idx = false → Completes (.counterLoRead m a 1) s fun t =>
      Only [PCI_M_PRIV_READ.one m] s t ∧ t.rd PCI_M_PRIV_READ m = (s.rd PCI_M_PRIV_READ m + 1) % 2 ^ 32 ∧ bit (t.rd C_INT_STAT 4) 1 = true
      ∧ t.out.head? = some (.readData m [0]))
  ∧ (∀ (m a : Nat) (s : State), s.wf = true → s.dark = false → m ≤ 16 → claims m a = true → State.locate m (a / 4 * 4) = none → Completes (.counterLoRead m a 1) s fun t =>
      Only [PCI_UR_COUNT.one] s t ∧ t.rd PCI_UR_COUNT = (s.rd PCI_UR_COUNT + 1) % 2 ^ 32 ∧ t.out.head? = some (.completion m 1))
  ∧ (∀ (m : Nat) (s : State), s.wf = true → s.dark = false → Completes (.unsupportedRequest m) s fun t =>
      Only [PCI_UR_COUNT.one] s t ∧ t.rd PCI_UR_COUNT = (s.rd PCI_UR_COUNT + 1) % 2 ^ 32 ∧ bit (t.rd C_INT_STAT 4) 0 = true ∧ t.out.head? = some (.completion m 1))
  ∧ (∀ (b : List Nat) (s : State), s.wf = true → s.pins.vddAon = true → b = bytesBE 4 (s.rd GLB_LIFE_USED) → Completes (.twoWireRead 0x10C 1) s fun t =>
      Only [PWR_WAKE_LATCH.one, PCI_M_ACCESSES_LO.one twMaster, PCI_M_ACCESSES_HI.one twMaster] { s with pwr := { s.pwr with wake := t.pwr.wake } } t
      ∧ t.out.head? = some (.serial (if s.on PCI_TW_PEC_EN then b ++ [crc8 0 (s.twHead 0x10C ++ [0xB1 + 2 * bits (s.rd BOT_STRAPS) 5 3] ++ b)] else b))
      ∧ (s.mode = .stable → s.pwr.transit = none → bit (s.rd PWR_WAKE_EN) wkTw = true → t.pwr.wake = setBit s.pwr.wake wkTw))
  ∧ (∀ (a : Nat) (s : State), s.wf = true → s.pins.vddAon = true → s.dark = false → a % 4 = 0 → a < 2 ^ 32 → decodeAddr a = none → s.on PCI_TW_PEC_EN = false → Completes (.twoWireRead a 1) s fun t =>
      Only [PWR_WAKE_LATCH.one, PCI_UR_COUNT.one] s t ∧ t.rd PCI_UR_COUNT = (s.rd PCI_UR_COUNT + 1) % 2 ^ 32 ∧ t.out.head? = some (.serial [0xFF, 0xFF, 0xFF, 0xFF]))
  ∧ (∀ (a : Nat) (s : State), s.wf = true → s.pins.vddAon = true → s.mode = .stable → a % 4 = 0 → a < 2 ^ 32 → a ≠ 0x108 → a ≠ 0x10C → (a < 0x10100 ∨ 0x10140 ≤ a) → s.on PCI_TW_PEC_EN = false →
    Completes (.twoWireRead a 1) s fun t =>
      Only [PWR_WAKE_LATCH.one] { s with pwr := { s.pwr with wake := t.pwr.wake } } t ∧ t.out.head? = some (.serial [0xFF, 0xFF, 0xFF, 0xFF]))

/-- Writes of registers (R338, R340, R344, R347 to R350, R353). -/
def Obligations.RegistersWritten : Prop :=
  (∀ (m a : Nat) (ws : List Nat) (hw : Option Nat) (env : Env) (s : State), s.wf = true → s.dark = false → m ≤ 16 → ws ≠ [] → ws.length ≤ 16 → a / 4 * 4 % 64 + 4 * ws.length ≤ 64 →
    allMapped m (a / 4 * 4) ws.length = true → Completes (.registerWrite m a false ws hw env []) s fun t => Only [PCI_BE_DROP.one] s t ∧ t.rd PCI_BE_DROP = (s.rd PCI_BE_DROP + 1) % 2 ^ 32)
  ∧ (∀ (m a : Nat) (be : Bool) (ws : List Nat) (hw : Option Nat) (env : Env) (s : State), s.wf = true → s.dark = false → m ≤ 16 → claims m (a / 4 * 4) = true → ws ≠ [] →
    (16 < ws.length ∨ 64 < a / 4 * 4 % 64 + 4 * ws.length ∨ allMapped m (a / 4 * 4) ws.length = false) → Completes (.registerWrite m a be ws hw env []) s fun t =>
      Only [PCI_UR_COUNT.one] s t ∧ t.rd PCI_UR_COUNT = (s.rd PCI_UR_COUNT + 1) % 2 ^ 32 ∧ bit (t.rd C_INT_STAT 4) 0 = true)
  ∧ (∀ (m a idx off i v : Nat) (p : Page) (f : Fld) (hw : Option Nat) (env : Env) (s : State), s.wf = true → s.dark = false → m ≤ 16 → State.locate m (a / 4 * 4) = some (.page p idx off) → s.reaches m idx = true →
    fieldsIn p idx off (s.chSel m idx) = [(f, i)] → f.ty = .cnt → f.counting = false → f ≠ PCI_M_ACCESSES_LO → f ≠ PCI_M_ACCESSES_HI → f ≠ CLP_P_EVENTS_0_0 → f ≠ CLP_P_EVENTS_1_0 → ¬(f.page = .TIM ∧ f.kind = .win ∧ i = 0) → s.mayUse m f i = true →
    Completes (.registerWrite m a true [v] hw env []) s fun t =>
      Only [f.one i, PCI_M_ACCESSES_LO.one m, PCI_M_ACCESSES_HI.one m] s t ∧ t.rd f i = (f.of (v % 2 ^ 32) + f.of (hw.getD 0)) % 2 ^ f.w)
  ∧ (∀ (a off i v h cnt : Nat) (f : Fld) (env : Env) (s : State), s.wf = true → s.dark = false → State.locate 0 (a / 4 * 4) = some (.page .CLP 12 off) → fieldsIn .CLP 12 off (s.chSel 0 12) = [(f, i)] →
    (f = CLP_P_EVENTS_0_0 ∧ cnt = 8 ∨ f = CLP_P_EVENTS_1_0 ∧ cnt = 2) → i < 16 → Completes (.registerWrite 0 a true [v] (some h) env []) s fun t =>
      Only [f.one i, CLP_PORT_EVENT.one, PCI_M_ACCESSES_LO.one, PCI_M_ACCESSES_HI.one] s t ∧ t.rd f i < 16 ^ cnt ∧ ∀ k, k < cnt → t.rd f i / 16 ^ k % 16 = min 15 (v / 16 ^ k % 16 + h / 16 ^ k % 16))
  ∧ (∀ (v : Nat) (s : State), s.wf = true → s.dark = false → s.rd C_CFG_LOCK 2 = 0 → v < 2 ^ 32 → Completes (.registerWrite 0 0x2010C true [v] none {} []) s fun t =>
      Only [FLT_TJ_WARN.one, PCI_M_ACCESSES_LO.one, PCI_M_ACCESSES_HI.one] s t ∧ t.rd FLT_TJ_WARN = if 60 ≤ v % 256 ∧ v % 256 ≤ 115 then v % 256 else s.rd FLT_TJ_WARN)
  ∧ (∀ (v : Nat) (s : State), s.wf = true → s.dark = false → v % 256 ≠ 0 → Completes (.registerWrite 1 0x2010C true [v] none {} []) s fun t =>
      Only [PCI_M_PRIV_WRITE.one 1, PCI_M_ACCESSES_LO.one 1, PCI_M_ACCESSES_HI.one 1] s t ∧ t.rd PCI_M_PRIV_WRITE 1 = (s.rd PCI_M_PRIV_WRITE 1 + 1) % 2 ^ 32 ∧ bit (t.rd C_INT_STAT 4) 1 = true)
  ∧ (∀ (v n : Nat) (s : State), s.wf = true → s.dark = false → s.rd C_CFG_LOCK 2 = 1 → v < 256 → v ≠ s.rd FLT_TJ_WARN → s.freshRecord n cLockViol (pageInfo 2).region = true → s.faultMasked cLockViol 2 = false →
    Completes (.registerWrite 0 0x2010C true [v] none {} []) s fun t =>
      t.rd FLT_TJ_WARN = s.rd FLT_TJ_WARN ∧ t.rd C_LOCK_VIOL 2 = 1 ∧ t.rd PCI_LOCK_VIOLS = (s.rd PCI_LOCK_VIOLS + 1) % 2 ^ 32 ∧ Recorded n cLockViol 0 ⟨2, (pageInfo 2).region, 0, 0, 2⟩ t)
  ∧ (∀ (v : Nat) (s : State), s.wf = true → s.dark = false → s.rd C_CFG_LOCK 6 = 0 → s.sealOf 6 = none → v < 2 ^ 24 → Completes (.registerWrite 0 0x100118 true [v] none {} []) s fun t =>
      Only [PCI_M_ACCESSES_LO.one, PCI_M_ACCESSES_HI.one] { s with shadow := t.shadow } t
      ∧ (t.shadow.filter fun x => x.key == LTM_FE_RX_LAT.key 0) = [{ page := 6, key := LTM_FE_RX_LAT.key 0, val := v, ap := LTM_FE_RX_LAT.apply }]
      ∧ (t.shadow.filter fun x => x.key != LTM_FE_RX_LAT.key 0) = s.shadow.filter fun x => x.key != LTM_FE_RX_LAT.key 0)
  ∧ (∀ (v : Nat) (s : State), s.wf = true → s.dark = false → s.rd C_CFG_LOCK 6 = 0 → s.sealOf 6 ≠ none → v < 2 ^ 24 → Completes (.registerWrite 0 0x100118 true [v] none {} []) s fun t =>
      Only [C_WR_SEALED.one 6, PCI_M_ACCESSES_LO.one, PCI_M_ACCESSES_HI.one] s t ∧ t.rd C_WR_SEALED 6 = 1)
  ∧ (∀ (m a : Nat) (l : Loc) (v : Nat) (s : State), s.wf = true → s.dark = false → m ≤ 16 → State.locate m (a / 4 * 4) = some l → s.reaches m l.idx = false → Completes (.registerWrite m a true [v] none {} []) s fun t =>
      Only [PCI_M_PRIV_WRITE.one m] s t ∧ t.rd PCI_M_PRIV_WRITE m = (s.rd PCI_M_PRIV_WRITE m + 1) % 2 ^ 32 ∧ bit (t.rd C_INT_STAT 4) 1 = true)
  ∧ (∀ (b idx v : Nat) (p : Page) (s : State), s.wf = true → s.dark = false → pageAt b = some (p, idx) → s.reaches 0 idx = true → v < 2 → smGet s.locked (C_CFG_LOCK.key idx) = 0 →
    Completes (.lockFieldWrite 0 (b * 0x10000 + 0xC) v) s fun t =>
      Only [C_CFG_LOCK.one idx, PCI_M_ACCESSES_LO.one, PCI_M_ACCESSES_HI.one] { s with locked := t.locked } t ∧ t.rd C_CFG_LOCK idx = v ∧ smGet t.locked (C_CFG_LOCK.key idx) = 1
      ∧ ∀ k, k ≠ C_CFG_LOCK.key idx → smGet t.locked k = smGet s.locked k)
  ∧ (∀ (b idx : Nat) (p : Page) (s : State), s.wf = true → s.dark = false → pageAt b = some (p, idx) → s.reaches 0 idx = true → s.rd C_CFG_LOCK idx < 2 → smGet s.locked (C_CFG_LOCK.key idx) = 1 →
    Completes (.lockFieldWrite 0 (b * 0x10000 + 0xC) (s.rd C_CFG_LOCK idx)) s fun t => Only [PCI_M_ACCESSES_LO.one, PCI_M_ACCESSES_HI.one] s t)
  ∧ (∀ (b idx v n : Nat) (p : Page) (s : State), s.wf = true → s.dark = false → pageAt b = some (p, idx) → s.reaches 0 idx = true → v < 2 → v ≠ s.rd C_CFG_LOCK idx → smGet s.locked (C_CFG_LOCK.key idx) = 1 →
    s.freshRecord n cLockViol (pageInfo idx).region = true → s.faultMasked cLockViol idx = false → Completes (.lockFieldWrite 0 (b * 0x10000 + 0xC) v) s fun t =>
      t.rd C_CFG_LOCK idx = s.rd C_CFG_LOCK idx ∧ t.rd C_LOCK_VIOL idx = 1 ∧ t.rd PCI_LOCK_VIOLS = (s.rd PCI_LOCK_VIOLS + 1) % 2 ^ 32 ∧ bit (t.rd C_INT_STAT 4) 2 = true
      ∧ Recorded n cLockViol 0 ⟨2, (pageInfo idx).region, 0, 0, idx⟩ t)
  ∧ (∀ (b idx : Nat) (lock : Bool) (p : Page) (s : State), s.wf = true → s.dark = false → pageAt b = some (p, idx) → s.reaches 0 idx = true → smGet s.locked (C_CFG_LOCK.key idx) = 1 → s.rd C_CFG_LOCK idx = b2n lock →
    Completes (.stickyClr 0 (b * 0x10000) lock) s fun t =>
      Only [C_LOCK_VIOL.one idx, C_HW_LOST.one idx, PCI_M_ACCESSES_LO.one, PCI_M_ACCESSES_HI.one] s t ∧ t.rd C_LOCK_VIOL idx = 0 ∧ t.rd C_HW_LOST idx = 0)
  ∧ (∀ (m b idx v : Nat) (en : Bool) (hw : Option Nat) (p : Page) (s : State), s.wf = true → s.dark = false → m ≤ 1 → pageAt b = some (p, idx) → s.reaches m idx = true →
    Completes (.intRegisterWrite m (b * 0x10000) en v hw) s fun t =>
      Only [C_INT_EN.one idx, PCI_M_ACCESSES_LO.one m, PCI_M_ACCESSES_HI.one m] s t
      ∧ (if en then t.rd C_INT_EN idx = v % 2 ^ intBits idx ∧ ∀ k, k < intBits idx → (idx, k) ≠ (2, 7) → bit (t.rd C_INT_STAT idx) k = bit (s.rd C_INT_STAT idx) k
         else t.rd C_INT_EN idx = s.rd C_INT_EN idx
          ∧ ∀ k, k < intBits idx → (idx, k) ≠ (2, 7) → bit (t.rd C_INT_STAT idx) k = ((bit (s.rd C_INT_STAT idx) k && !bit v k) || bit (hw.getD 0) k))
      ∧ (t.rd C_INT_STAT idx &&& t.rd C_INT_EN idx ≠ 0 → s.rd PCI_IR_EN idx = 1 →
          if smGet s.msixOn (s.rd PCI_IR_FUNC idx * 256 + s.rd PCI_IR_VECTOR idx) = 1 then t.out.head? = some (.msix (s.rd PCI_IR_FUNC idx) (s.rd PCI_IR_VECTOR idx))
          else smGet t.msixPend (s.rd PCI_IR_FUNC idx * 256 + s.rd PCI_IR_VECTOR idx) = 1))
  ∧ (∀ (b idx v : Nat) (p : Page) (s : State), s.wf = true → s.dark = false → pageAt b = some (p, idx) → s.reaches 0 idx = true → Completes (.intForce 0 (b * 0x10000) v) s fun t =>
      Only [PCI_M_ACCESSES_LO.one, PCI_M_ACCESSES_HI.one] s t
      ∧ ∀ k, k < intBits idx → (idx, k) ≠ (2, 7) → bit (t.rd C_INT_STAT idx) k = (bit (s.rd C_INT_STAT idx) k || (decide (s.mode = .factory) && bit v k)))
  ∧ (∀ (fn vector k : Nat) (s : State), s.wf = true → s.dark = false → fn < 17 → vector < vectorCount fn → k = fn * 256 + vector → Completes (.msixVectorUnmask fn vector) s fun t =>
      t = { s with msixOn := t.msixOn, msixPend := t.msixPend, out := if smGet s.msixPend k = 1 then .msix fn vector :: s.out else s.out }
      ∧ smGet t.msixOn k = 1 ∧ smGet t.msixPend k = 0 ∧ ∀ j, j ≠ k → smGet t.msixOn j = smGet s.msixOn j ∧ smGet t.msixPend j = smGet s.msixPend j)
  ∧ (∀ (speed width vfs : Nat) (s : State), s.wf = true → s.dark = false → 1 ≤ speed → speed ≤ 4 → width ∈ [1, 2, 4] → vfs < 16 → Completes (.pcieLinkUp speed width vfs) s fun t =>
      Only [PCI_LINK_SPEED.one, PCI_LINK_WIDTH.one, PCI_LINK_UP.one, PCI_NUM_VFS.one] s t ∧ t.rd PCI_LINK_SPEED = speed ∧ t.rd PCI_LINK_WIDTH = width ∧ t.rd PCI_LINK_UP = 1 ∧ t.rd PCI_NUM_VFS = vfs)
  ∧ (∀ s : State, s.wf = true → s.rd PCI_LINK_UP = 1 → Completes .pcieLinkDown s fun t =>
      Only [PCI_LINK_SPEED.one, PCI_LINK_WIDTH.one, PCI_LINK_UP.one] s t ∧ t.rd PCI_LINK_SPEED = 0 ∧ t.rd PCI_LINK_WIDTH = 0 ∧ t.rd PCI_LINK_UP = 0 ∧ bit (t.rd C_INT_STAT 4) 4 = true)
  ∧ (∀ (v : Nat) (data : List Nat) (env : Env) (s : State), s.wf = true → s.dark = false → s.pins.vddAon = true → s.rd C_CFG_LOCK 2 = 0 → 60 ≤ v → v ≤ 115 →
    (data = [0, 0, 0, v] ∧ s.on PCI_TW_PEC_EN = false ∨ data = [0, 0, 0, v, crc8 0 (s.twHead 0x2010C ++ [0, 0, 0, v])] ∧ s.on PCI_TW_PEC_EN = true) → Completes (.twoWireWrite 0x2010C data env) s fun t =>
      Only [FLT_TJ_WARN.one, PWR_WAKE_LATCH.one, PCI_M_ACCESSES_LO.one twMaster, PCI_M_ACCESSES_HI.one twMaster] s t ∧ t.rd FLT_TJ_WARN = v)
  ∧ (∀ (a : Nat) (data : List Nat) (env : Env) (s : State), s.wf = true → s.dark = false → s.pins.vddAon = true → a % 4 = 0 → a < 2 ^ 32 → (decodeAddr a).isSome = true → data ≠ [] → data.length < 4 → s.on PCI_TW_PEC_EN = false →
    Completes (.twoWireWrite a data env) s fun t => Only [PWR_WAKE_LATCH.one, PCI_TW_PARTIAL.one] s t ∧ t.rd PCI_TW_PARTIAL = (s.rd PCI_TW_PARTIAL + 1) % 2 ^ 32)
  ∧ (∀ (a : Nat) (data : List Nat) (env : Env) (s : State), s.wf = true → s.dark = false → s.pins.vddAon = true → a % 4 = 0 → a < 2 ^ 32 → decodeAddr a = none → data ≠ [] → s.on PCI_TW_PEC_EN = false →
    Completes (.twoWireWrite a data env) s fun t => Only [PWR_WAKE_LATCH.one, PCI_UR_COUNT.one] s t ∧ t.rd PCI_UR_COUNT = (s.rd PCI_UR_COUNT + 1) % 2 ^ 32 ∧ t.out = .nack 5 :: s.out)
  ∧ (∀ (a pec : Nat) (data : List Nat) (env : Env) (s : State), s.wf = true → s.dark = false → s.pins.vddAon = true → a % 4 = 0 → a < 2 ^ 32 → s.on PCI_TW_PEC_EN = true → data.length ≤ 64 → data.all (· < 256) = true → pec < 256 →
    ((List.range ((data.length + 3) / 4)).all fun k => (decodeAddr (a + 4 * k)).isSome) = true → pec ≠ crc8 0 (s.twHead a ++ data) → Completes (.twoWireWrite a (data ++ [pec]) env) s fun t =>
      Only [PWR_WAKE_LATCH.one, PCI_TW_PEC_ERR.one] s t ∧ t.rd PCI_TW_PEC_ERR = (s.rd PCI_TW_PEC_ERR + 1) % 2 ^ 32 ∧ bit (t.rd C_INT_STAT 4) 3 = true)

/-- PCIE_PERST and Function Level Resets (R336, R367, R441). -/
def Obligations.FunctionsReset : Prop :=
  (∀ s : State, s.wf = true → Completes .pciePerst s fun t =>
      t = functionLevelReset 0 (functionLevelReset 1 s)
      ∧ t = { s with regs := t.regs, banked := t.banked, msixOn := t.msixOn, msixPend := t.msixPend, dma := t.dma, cip := t.cip, pwr := { s.pwr with leaves := t.pwr.leaves },
                     freeCtr := t.freeCtr, out := t.out }
      ∧ t.mode = s.mode ∧ t.cip.keys = s.cip.keys
      ∧ (∀ f ∈ allFields, f.counting = false → f.page ≠ .DMA → f.page ≠ .CIPU → f.page ≠ .PWR → f ≠ PCI_NUM_VFS → ∀ i, t.rd f i = s.rd f i)
      ∧ (s.dark = false → t.rd PCI_NUM_VFS = 0 ∧ ∀ n, n ≤ s.rd PCI_NUM_VFS → n < 16 → ∀ f ∈ ringFields, t.rd f n = f.resetAt n))
  ∧ (∀ (fn : Nat) (s : State), s.wf = true → s.dark = false → (fn = 1 ∨ 2 ≤ fn ∧ fn - 1 ≤ s.rd PCI_NUM_VFS ∧ fn ≤ 16) → (∀ n, n < 16 → s.rd DMA_CH_OWNER n ≠ fn) → (fn ≠ 1 → amGet? s.cip.jobs (fn - 1) = none) →
    Completes (.functionLevelReset fn) s fun t =>
      Only (if fn = 1 then [] else ringFields.map (·.one (fn - 1))) { s with banked := t.banked, msixOn := t.msixOn, msixPend := t.msixPend } t ∧ t.out = s.out
      ∧ (∀ k, smGet t.msixOn k = if k / 256 = fn then 0 else smGet s.msixOn k) ∧ (∀ k, smGet t.msixPend k = if k / 256 = fn then 0 else smGet s.msixPend k)
      ∧ (∀ k, smGet t.banked k = if k / 2 ^ 32 = fn then 0 else smGet s.banked k) ∧ (fn ≠ 1 → ∀ f ∈ ringFields, t.rd f (fn - 1) = f.resetAt (fn - 1)))
  ∧ (∀ (fn : Nat) (j : Job) (s : State), s.wf = true → s.dark = false → 2 ≤ fn → fn ≤ 16 → fn - 1 ≤ s.rd PCI_NUM_VFS → amGet? s.cip.jobs (fn - 1) = some j → j.waiting = false → (∀ n, n < 16 → s.rd DMA_CH_OWNER n ≠ fn) →
    Completes (.functionLevelReset fn) s fun t =>
      amGet? t.cip.jobs (fn - 1) = none ∧ t.rd CIPU_JSTATUS (fn - 1) = jsBusErr ∧ t.rd CIPU_GO (fn - 1) = 0 ∧ t.rd CIPU_JOBS (fn - 1) = (s.rd CIPU_JOBS (fn - 1) + 1) % 2 ^ 32
      ∧ t.cip.keys = s.cip.keys ∧ (∀ k, k / 256 = fn → smGet t.msixPend k = 0))
  ∧ (∀ (fn n : Nat) (s : State), s.wf = true → s.dark = false → fn = 1 → n < 16 → (∀ k, k < 16 → (s.rd DMA_CH_OWNER k = 1 ↔ k = n)) → s.rd DMA_CH_RUN n = 1 → Completes (.functionLevelReset fn) s fun t =>
      Regs ([DMA_CH_RUN, DMA_CH_HEAD, DMA_CH_TAIL, DMA_CH_RING_BASE_LO, DMA_CH_RING_BASE_HI, DMA_CH_RING_SIZE, DMA_CH_BUSY, DMA_CH_OUTSTANDING, DMA_CH_HALT_CAUSE, DMA_CH_CH_INT, DMA_CH_REMAIN].map (·.one n)) s t
      ∧ if (s.dch n).out = 0 then
          t.rd DMA_CH_RUN n = 0 ∧ t.rd DMA_CH_HALT_CAUSE n = hcFlr ∧ t.rd DMA_CH_HEAD n = 0 ∧ t.rd DMA_CH_TAIL n = 0 ∧ t.rd DMA_CH_RING_BASE_LO n = 0 ∧ t.rd DMA_CH_RING_BASE_HI n = 0
          ∧ t.rd DMA_CH_RING_SIZE n = 2 ∧ t.rd DMA_CH_BUSY n = 0 ∧ bit (t.rd DMA_CH_CH_INT n) 1 = true ∧ bit (t.rd C_INT_STAT 5) 1 = true ∧ t.dch n = {}
        else t.rd DMA_CH_RUN n = 1 ∧ t.dch n = { s.dch n with halting := some hcFlr })
  ∧ (∀ (n : Nat) (s : State), s.wf = true → s.dark = false → n < 16 → n ≤ s.rd PCI_NUM_VFS → Completes (.functionLevelReset 0) s fun t =>
      t.mode = s.mode ∧ t.rd PCI_NUM_VFS = 0 ∧ (∀ f ∈ ringFields, t.rd f n = f.resetAt n) ∧ ∀ k, (k / 256 = 0 ∨ 2 ≤ k / 256 ∧ k / 256 = n + 1) → smGet t.msixOn k = 0)

/-! The DMA engine and the injection rings (chapter 16) -/

/-- Descriptors, beats and injections (R359 to R367, R370). -/
def Obligations.DmaRuns : Prop :=
  (∀ (n : Nat) (s : State), s.wf = true → n < 16 → Completes (.dmaRun n) s fun t => Only [DMA_CH_RUN.one n] s t ∧ t.rd DMA_CH_RUN n = 1)
  ∧ (∀ (n : Nat) (s : State), s.wf = true → n < 16 → s.rd DMA_CH_RUN n = 0 → Completes (.dmaStop n) s fun t => t = s)
  ∧ (∀ (n : Nat) (s : State), s.wf = true → n < 16 → s.rd DMA_CH_RUN n = 1 → (s.dch n).out = 0 → ((s.dch n).descs.getLast?.map fun d => d.remain).getD (s.rd DMA_CH_REMAIN n) = s.rd DMA_CH_REMAIN n → Completes (.dmaStop n) s fun t =>
      Only ([DMA_CH_RUN, DMA_CH_HALT_CAUSE, DMA_CH_BUSY, DMA_CH_OUTSTANDING, DMA_CH_CH_INT, DMA_CH_REMAIN].map (·.one n)) { s with dma := t.dma } t ∧ t.dch n = {} ∧ t.rd DMA_CH_RUN n = 0 ∧ t.rd DMA_CH_HALT_CAUSE n = 6
      ∧ t.rd DMA_CH_BUSY n = 0 ∧ t.rd DMA_CH_OUTSTANDING n = 0 ∧ bit (t.rd DMA_CH_CH_INT n) 1 = true ∧ bit (t.rd C_INT_STAT 5) 1 = true ∧ t.rd DMA_CH_REMAIN n = s.rd DMA_CH_REMAIN n)
  ∧ (∀ (n : Nat) (s : State), s.wf = true → n < 16 → s.rd DMA_CH_RUN n = 1 → (s.dch n).out ≠ 0 → (s.dch n).halting = none → Completes (.dmaStop n) s fun t =>
      Only [DMA_CH_BUSY.one n, DMA_CH_OUTSTANDING.one n, DMA_CH_REMAIN.one n] { s with dma := t.dma } t ∧ t.dch n = { s.dch n with halting := some 6 } ∧ ∀ k, k < 16 → k ≠ n → t.dch k = s.dch k)
  ∧ (∀ (n v : Nat) (s : State), s.wf = true → n < 16 → Completes (.dmaHeadWrite n v) s fun t =>
      if s.rd DMA_CH_RUN n = 0 ∧ s.rd DMA_CH_BUSY n = 0 then Only [DMA_CH_HEAD.one n] s t ∧ t.rd DMA_CH_HEAD n = v % 2 ^ 16 else t = s)
  ∧ (∀ (n c : Nat) (ws : List Nat) (d : DmaDesc) (s : State), s.wf = true → n < 16 → s.rd DMA_CH_RUN n = 1 → s.dch n = { tries := c } → s.rd DMA_CH_HEAD n ≠ s.rd DMA_CH_TAIL n → d = { idx := s.rd DMA_CH_HEAD n, op := ws.getD 0 0 % 2 ^ 32 % 16, barrier := bit (ws.getD 0 0) 4, irq := bit (ws.getD 0 0) 5, srcReg := bit (ws.getD 0 0) 6, dstReg := bit (ws.getD 0 0) 7, tag := ws.getD 0 0 / 2 ^ 16 % 2 ^ 16, len := ws.getD 1 0 % 2 ^ 32, src := ws.getD 2 0 % 2 ^ 32 + ws.getD 3 0 % 2 ^ 32 * 2 ^ 32, dst := ws.getD 4 0 % 2 ^ 32 + ws.getD 5 0 % 2 ^ 32 * 2 ^ 32, pattern := ws.getD 6 0 % 2 ^ 32 + ws.getD 7 0 % 2 ^ 32 * 2 ^ 32 } →
    d.op < 4 → ws.getD 0 0 / 256 % 256 = 0 ∧ (∀ k, k < 4 → ws.getD (8 + k) 0 % 2 ^ 32 = 0) →
    (d.op = 0 ∨ d.len ≠ 0 ∧ d.len % 64 = 0 ∧ (d.op ≠ 2 → d.src % 64 = 0 ∧ (d.srcReg = true → d.src + d.len ≤ 0x4000000)) ∧ d.dst % 64 = 0 ∧ (d.dstReg = true → d.dst + d.len ≤ 0x4000000)
      ∧ (d.op = 1 → d.srcReg = d.dstReg → d.src = d.dst ∨ d.src + d.len ≤ d.dst ∨ d.dst + d.len ≤ d.src)) → Completes (.descriptorFetch n (some ws)) s fun t =>
      Only [DMA_CH_BUSY.one n, DMA_CH_OUTSTANDING.one n, DMA_CH_REMAIN.one n] { s with dma := t.dma } t ∧ t.dch n = { descs := [d] } ∧ (∀ k, k < 16 → k ≠ n → t.dch k = s.dch k)
      ∧ t.rd DMA_CH_BUSY n = 1 ∧ t.rd DMA_CH_OUTSTANDING n = 0 ∧ t.rd DMA_CH_REMAIN n = if d.op = 0 then 0 else d.len / 64)
  ∧ (∀ (n c cause : Nat) (ws : List Nat) (s : State), s.wf = true → n < 16 → s.rd DMA_CH_RUN n = 1 → s.dch n = { tries := c } → s.rd DMA_CH_HEAD n ≠ s.rd DMA_CH_TAIL n →
    (cause = 1 ∧ ws.getD 0 0 % 16 ≠ 0 ∧ (ws.getD 1 0 % 64 ≠ 0 ∨ ws.getD 0 0 % 16 ∈ [1, 3] ∧ ws.getD 2 0 % 64 ≠ 0 ∨ ws.getD 0 0 % 16 ∈ [1, 2, 3] ∧ ws.getD 4 0 % 64 ≠ 0)
      ∨ cause = 2 ∧ ws.getD 0 0 % 16 = 0 ∧ ¬(ws.getD 0 0 / 256 % 256 = 0 ∧ (∀ k, k < 4 → ws.getD (8 + k) 0 % 2 ^ 32 = 0))
      ∨ cause = 2 ∧ ws.getD 0 0 % 16 ≠ 0 ∧ ws.getD 1 0 % 64 = 0 ∧ ws.getD 2 0 % 64 = 0 ∧ ws.getD 4 0 % 64 = 0
        ∧ (4 ≤ ws.getD 0 0 % 16 ∨ ws.getD 1 0 % 2 ^ 32 = 0 ∨ ¬(ws.getD 0 0 / 256 % 256 = 0 ∧ (∀ k, k < 4 → ws.getD (8 + k) 0 % 2 ^ 32 = 0)) ∨ bit (ws.getD 0 0) 7 = true ∧ ws.getD 0 0 % 16 ∈ [1, 2, 3] ∧ 0x4000000 < ws.getD 4 0 % 2 ^ 32 + ws.getD 5 0 % 2 ^ 32 * 2 ^ 32 + ws.getD 1 0 % 2 ^ 32
          ∨ bit (ws.getD 0 0) 6 = true ∧ ws.getD 0 0 % 16 ∈ [1, 3] ∧ 0x4000000 < ws.getD 2 0 % 2 ^ 32 + ws.getD 3 0 % 2 ^ 32 * 2 ^ 32 + ws.getD 1 0 % 2 ^ 32)) →
    Completes (.descriptorFetch n (some ws)) s fun t =>
      Only ([DMA_CH_RUN, DMA_CH_HALT_CAUSE, DMA_CH_BUSY, DMA_CH_OUTSTANDING, DMA_CH_CH_INT, DMA_CH_REMAIN].map (·.one n)) { s with dma := t.dma } t ∧ t.dch n = {} ∧ t.rd DMA_CH_RUN n = 0 ∧ t.rd DMA_CH_HALT_CAUSE n = cause
      ∧ t.rd DMA_CH_BUSY n = 0 ∧ t.rd DMA_CH_OUTSTANDING n = 0 ∧ bit (t.rd DMA_CH_CH_INT n) 1 = true ∧ bit (t.rd C_INT_STAT 5) 1 = true)
  ∧ (∀ (n c : Nat) (s : State), s.wf = true → n < 16 → s.rd DMA_CH_RUN n = 1 → s.dch n = { tries := c } → s.rd DMA_CH_HEAD n ≠ s.rd DMA_CH_TAIL n → Completes (.descriptorFetch n none) s fun t =>
      if c < s.rd DMA_CH_RETRY n then Only [DMA_CH_BUSY.one n, DMA_CH_OUTSTANDING.one n, DMA_CH_RETRIES.one n] { s with dma := t.dma } t ∧ t.dch n = { tries := c + 1 } ∧ t.rd DMA_CH_BUSY n = 1 ∧ t.rd DMA_CH_RETRIES n = (s.rd DMA_CH_RETRIES n + 1) % 2 ^ 32
      else Only ([DMA_CH_RUN, DMA_CH_HALT_CAUSE, DMA_CH_BUSY, DMA_CH_OUTSTANDING, DMA_CH_CH_INT, DMA_CH_REMAIN].map (·.one n)) { s with dma := t.dma } t ∧ t.dch n = {} ∧ t.rd DMA_CH_RUN n = 0 ∧ t.rd DMA_CH_HALT_CAUSE n = 5
      ∧ t.rd DMA_CH_BUSY n = 0 ∧ t.rd DMA_CH_OUTSTANDING n = 0 ∧ bit (t.rd DMA_CH_CH_INT n) 1 = true ∧ bit (t.rd C_INT_STAT 5) 1 = true)
  ∧ (∀ (n : Nat) (d : DmaDesc) (s : State), s.wf = true → n < 16 → d.op = 1 → s.dch n = { descs := [d] } → s.rd DMA_CH_RUN n = 1 →
    (∀ b ∈ d.air, b.2 = 0) → d.air.length < 32 → d.issued < d.len / 64 → d.len < 2 ^ 32 → d.diff = none → (∀ k, k < 16 → k ≠ n → s.dmaCanIssue k = false) → Completes (.copy n) s fun t =>
      Only [DMA_CH_BUSY.one n, DMA_CH_OUTSTANDING.one n, DMA_CH_REMAIN.one n] { s with dma := t.dma } t ∧ t.dch n = { descs := [{ d with issued := d.issued + 1, air := d.air ++ [(d.issued, 0)] }] } ∧ (∀ k, k < 16 → k ≠ n → t.dch k = s.dch k)
      ∧ t.rd DMA_CH_BUSY n = 1 ∧ t.rd DMA_CH_OUTSTANDING n = d.air.length + 1 ∧ t.rd DMA_CH_REMAIN n = d.len / 64 - d.issued - 1)
  ∧ (∀ (n : Nat) (d : DmaDesc) (s : State), s.wf = true → n < 16 → d.op = 2 → s.dch n = { descs := [d] } → s.rd DMA_CH_RUN n = 1 →
    (∀ b ∈ d.air, b.2 = 0) → d.air.length < 32 → d.issued < d.len / 64 → d.len < 2 ^ 32 → d.diff = none → (∀ k, k < 16 → k ≠ n → s.dmaCanIssue k = false) → Completes (.fill n) s fun t =>
      Only [DMA_CH_BUSY.one n, DMA_CH_OUTSTANDING.one n, DMA_CH_REMAIN.one n] { s with dma := t.dma } t ∧ t.dch n = { descs := [{ d with issued := d.issued + 1, air := d.air ++ [(d.issued, 0)] }] } ∧ (∀ k, k < 16 → k ≠ n → t.dch k = s.dch k)
      ∧ t.rd DMA_CH_BUSY n = 1 ∧ t.rd DMA_CH_OUTSTANDING n = d.air.length + 1 ∧ t.rd DMA_CH_REMAIN n = d.len / 64 - d.issued - 1)
  ∧ (∀ (n : Nat) (d : DmaDesc) (s : State), s.wf = true → n < 16 → d.op = 3 → s.dch n = { descs := [d] } → s.rd DMA_CH_RUN n = 1 →
    (∀ b ∈ d.air, b.2 = 0) → d.air.length < 32 → d.issued < d.len / 64 → d.len < 2 ^ 32 → d.diff = none → (∀ k, k < 16 → k ≠ n → s.dmaCanIssue k = false) → Completes (.compare n) s fun t =>
      Only [DMA_CH_BUSY.one n, DMA_CH_OUTSTANDING.one n, DMA_CH_REMAIN.one n] { s with dma := t.dma } t ∧ t.dch n = { descs := [{ d with issued := d.issued + 1, air := d.air ++ [(d.issued, 0)] }] } ∧ (∀ k, k < 16 → k ≠ n → t.dch k = s.dch k)
      ∧ t.rd DMA_CH_BUSY n = 1 ∧ t.rd DMA_CH_OUTSTANDING n = d.air.length + 1 ∧ t.rd DMA_CH_REMAIN n = d.len / 64 - d.issued - 1)
  ∧ (∀ (n op : Nat) (c : Instr) (d : DmaDesc) (s : State), s.wf = true → n < 16 → (c, op) ∈ [(Instr.copy n, 1), (.fill n, 2), (.compare n, 3)] → (s.dch n).descs.getLast? = some d → s.rd DMA_CH_RUN n = 1 →
    d.barrier = true → (s.dch n).descs.length ≠ 1 → Completes c s fun t => t = s)
  ∧ (∀ (n : Nat) (d : DmaDesc) (s : State), s.wf = true → n < 16 → s.dch n = { descs := [d] } → s.rd DMA_CH_RUN n = 1 → d.idx < 65536 → d.op = 0 → d.ready = false → d.air = [] → d.failed = false → d.diff = none → Completes (.nopDescriptor n) s fun t =>
      Only ([DMA_CH_BUSY, DMA_CH_OUTSTANDING, DMA_CH_REMAIN, DMA_CH_HEAD, DMA_CH_DESCS, DMA_CH_CH_INT].map (·.one n)) { s with dma := t.dma } t ∧ t.dch n = {} ∧ t.rd DMA_CH_HEAD n = (if s.rd DMA_CH_RING_SIZE n ≤ d.idx + 1 then 0 else d.idx + 1) ∧ t.rd DMA_CH_DESCS n = (s.rd DMA_CH_DESCS n + 1) % 2 ^ 32 ∧ t.rd DMA_CH_BUSY n = 0
      ∧ t.rd DMA_CH_RUN n = 1 ∧ (d.irq = true → bit (t.rd DMA_CH_CH_INT n) 0 = true)
      ∧ (d.irq = false → t.out = .hostWrite (s.rd DMA_CH_OWNER n) (s.dmaSlot n d.idx + 48) (bytesLE 4 (1 + 0 + min d.retries 7 * 256 + d.tag * 65536) ++ bytesLE 4 0 ++ bytesLE 8 s.lt64) :: s.out))
  ∧ (∀ (n b : Nat) (d : DmaDesc) (src : List Nat) (env : Env) (s : State), s.wf = true → n < 16 → s.dch n = { descs := [d] } → s.rd DMA_CH_RUN n = 1 → d.idx < 65536 → d.op = 1 ∨ d.op = 2 → d.srcReg = false → d.dstReg = false → d.air = [(b, 0)] → d.issued = d.len / 64 → d.failed = false → d.diff = none →
    src.length = 64 → src.all (· < 256) = true → d.pattern < 2 ^ 64 → Completes (.dmaBeatAnswer n d.idx b true src [] env) s fun t =>
      Only ([DMA_CH_BUSY, DMA_CH_OUTSTANDING, DMA_CH_REMAIN, DMA_CH_HEAD, DMA_CH_DESCS, DMA_CH_CH_INT].map (·.one n)) { s with dma := t.dma } t ∧ t.dch n = {} ∧ t.rd DMA_CH_HEAD n = (if s.rd DMA_CH_RING_SIZE n ≤ d.idx + 1 then 0 else d.idx + 1) ∧ t.rd DMA_CH_DESCS n = (s.rd DMA_CH_DESCS n + 1) % 2 ^ 32 ∧ t.rd DMA_CH_BUSY n = 0
      ∧ t.rd DMA_CH_RUN n = 1 ∧ (d.irq = true → bit (t.rd DMA_CH_CH_INT n) 0 = true)
      ∧ (d.irq = false → t.out = .hostWrite (s.rd DMA_CH_OWNER n) (s.dmaSlot n d.idx + 48) (bytesLE 4 (1 + 0 + min d.retries 7 * 256 + d.tag * 65536) ++ bytesLE 4 0 ++ bytesLE 8 s.lt64) :: .hostWrite (s.rd DMA_CH_OWNER n) (d.dst + 64 * b) (if d.op = 1 then src else ((List.range 8).map fun _ => bytesLE 8 d.pattern).flatten) :: s.out))
  ∧ (∀ (n a b : Nat) (d : DmaDesc) (src : List Nat) (env : Env) (s : State), s.wf = true → n < 16 → s.dch n = { descs := [d] } → s.rd DMA_CH_RUN n = 1 → d.idx < 65536 → d.op = 1 → d.srcReg = false → d.dstReg = false → d.air = [(a, 0), (b, 0)] → a ≠ b → d.failed = false → d.diff = none →
    src.length = 64 → src.all (· < 256) = true → Completes (.dmaBeatAnswer n d.idx b true src [] env) s fun t =>
      Only [DMA_CH_BUSY.one n, DMA_CH_OUTSTANDING.one n, DMA_CH_REMAIN.one n] { s with dma := t.dma } t ∧ t.dch n = { descs := [{ d with air := [(a, 0)] }] } ∧ t.rd DMA_CH_OUTSTANDING n = 1 ∧ t.rd DMA_CH_BUSY n = 1 ∧ t.out = .hostWrite (s.rd DMA_CH_OWNER n) (d.dst + 64 * b) src :: s.out)
  ∧ (∀ (n b o : Nat) (d : DmaDesc) (src dst : List Nat) (env : Env) (s : State), s.wf = true → n < 16 → s.dch n = { descs := [d] } → s.rd DMA_CH_RUN n = 1 → d.idx < 65536 → d.op = 3 → d.srcReg = false → d.dstReg = false → d.air = [(b, 0)] → d.failed = false → d.diff = none →
    src.length = 64 → src.all (· < 256) = true → dst.length = 64 → dst.all (· < 256) = true → o < 64 → src.getD o 0 ≠ dst.getD o 0 → src.take o = dst.take o → Completes (.dmaBeatAnswer n d.idx b true src dst env) s fun t =>
      Only ([DMA_CH_BUSY, DMA_CH_OUTSTANDING, DMA_CH_REMAIN, DMA_CH_HEAD, DMA_CH_DESCS, DMA_CH_CH_INT].map (·.one n)) { s with dma := t.dma } t ∧ t.dch n = {} ∧ t.rd DMA_CH_HEAD n = (if s.rd DMA_CH_RING_SIZE n ≤ d.idx + 1 then 0 else d.idx + 1) ∧ t.rd DMA_CH_DESCS n = (s.rd DMA_CH_DESCS n + 1) % 2 ^ 32 ∧ t.rd DMA_CH_BUSY n = 0
      ∧ t.rd DMA_CH_RUN n = 1 ∧ (d.irq = true → bit (t.rd DMA_CH_CH_INT n) 0 = true)
      ∧ (d.irq = false → t.out = .hostWrite (s.rd DMA_CH_OWNER n) (s.dmaSlot n d.idx + 48) (bytesLE 4 (1 + 2 + min d.retries 7 * 256 + d.tag * 65536) ++ bytesLE 4 (64 * b + o) ++ bytesLE 8 s.lt64) :: s.out))
  ∧ (∀ (n b k : Nat) (d : DmaDesc) (src dst : List Nat) (env : Env) (s : State), s.wf = true → n < 16 → s.dch n = { descs := [d] } → s.rd DMA_CH_RUN n = 1 → d.idx < 65536 → d.op = 1 ∨ d.op = 3 → d.srcReg = false → (d.op = 3 → d.dstReg = false) → d.air = [(b, k)] → d.issued ≤ d.len / 64 → d.len < 2 ^ 32 → Completes (.dmaBeatAnswer n d.idx b false src dst env) s fun t =>
      if k < s.rd DMA_CH_RETRY n then Only [DMA_CH_BUSY.one n, DMA_CH_OUTSTANDING.one n, DMA_CH_REMAIN.one n, DMA_CH_RETRIES.one n] { s with dma := t.dma } t ∧ t.dch n = { descs := [{ d with air := [(b, k + 1)], retries := d.retries + 1 }] }
        ∧ t.rd DMA_CH_RETRIES n = (s.rd DMA_CH_RETRIES n + 1) % 2 ^ 32
      else Only ([DMA_CH_RUN, DMA_CH_HALT_CAUSE, DMA_CH_BUSY, DMA_CH_OUTSTANDING, DMA_CH_CH_INT, DMA_CH_REMAIN].map (·.one n)) { s with dma := t.dma } t ∧ t.dch n = {} ∧ t.rd DMA_CH_RUN n = 0 ∧ t.rd DMA_CH_HALT_CAUSE n = (if d.len / 64 - d.issued = 0 then 4 else 3)
      ∧ t.rd DMA_CH_BUSY n = 0 ∧ t.rd DMA_CH_OUTSTANDING n = 0 ∧ bit (t.rd DMA_CH_CH_INT n) 1 = true ∧ bit (t.rd C_INT_STAT 5) 1 = true ∧ t.rd DMA_CH_REMAIN n = d.len / 64 - d.issued)
  ∧ (∀ (n b : Nat) (d : DmaDesc) (src : List Nat) (env : Env) (s : State), s.wf = true → n < 16 → s.dch n = { descs := [d] } → s.rd DMA_CH_RUN n = 1 → d.idx < 65536 → d.op = 1 ∨ d.op = 2 → d.srcReg = false → d.dstReg = true → decodeAddr ((d.dst + 64 * b) / 4 * 4) = none → s.rd DMA_CH_OWNER n = 0 →
    d.air = [(b, s.rd DMA_CH_RETRY n)] → d.issued = d.len / 64 → Completes (.dmaBeatAnswer n d.idx b true src [] env) s fun t => t.rd DMA_CH_RUN n = 0 ∧ t.rd DMA_CH_HALT_CAUSE n = 4 ∧ t.rd DMA_CH_HEAD n = s.rd DMA_CH_HEAD n)
  ∧ (∀ (n r : Nat) (e : List Nat) (frame : Option (List Nat)) (s : State), s.wf = true → n < 16 → s.dark = false → s.rd DMA_RS_TX_EN n = 1 → s.rd DMA_RS_TX_HEAD n ≠ s.rd DMA_RS_TX_TAIL n → (∀ k, k < 16 → k ≠ n → s.injReady k = false) → (r = 1 ∧ (e.getD 2 0 / 2 ^ 16 % 4 = 0 ∧ s.rd DMA_RS_INJ_CLASSIFY n = 0 ∨ e.getD 2 0 / 2 ^ 16 % 4 ∈ [1, 2] ∧ s.rd DMA_RS_INJ_DIRECT n = 0)
      ∨ r = 2 ∧ (e.getD 2 0 / 2 ^ 16 % 4 = 3 ∨ (e.getD 2 0 / 2 ^ 16 % 4 ≠ 0 ∨ s.rd DMA_RS_INJ_CLASSIFY n = 1) ∧ (e.getD 2 0 / 2 ^ 16 % 4 = 0 ∨ s.rd DMA_RS_INJ_DIRECT n = 1)
        ∧ (e.getD 2 0 % 2 ^ 14 < 64 ∨ 16000 < e.getD 2 0 % 2 ^ 14 ∨ e.getD 2 0 / 2 ^ 16 % 4 = 2 ∧ 128 ≤ e.getD 3 0 % 2 ^ 12))
      ∨ r = 3 ∧ frame = none ∧ e.getD 2 0 / 2 ^ 16 % 4 = 2 ∧ s.rd DMA_RS_INJ_DIRECT n = 1 ∧ 64 ≤ e.getD 2 0 % 2 ^ 14 ∧ e.getD 2 0 % 2 ^ 14 ≤ 16000 ∧ e.getD 3 0 % 2 ^ 12 < 128) →
    Completes (.injectionTake n e frame) s fun t =>
      Only ([DMA_RS_TX_HEAD, DMA_RS_TX_REFUSED, DMA_RS_RS_INT].map (·.one n)) s t ∧ t.rd DMA_RS_TX_HEAD n = (if s.rd DMA_RS_TX_SIZE n ≤ s.rd DMA_RS_TX_HEAD n + 1 then 0 else s.rd DMA_RS_TX_HEAD n + 1) % 2 ^ 12
      ∧ t.rd DMA_RS_TX_REFUSED n = (s.rd DMA_RS_TX_REFUSED n + 1) % 2 ^ 32 ∧ bit (t.rd DMA_RS_RS_INT n) 2 = true ∧ bit (t.rd DMA_RS_RS_INT n) 1 = (bit (s.rd DMA_RS_RS_INT n) 1 || bit (e.getD 2 0) 15)
      ∧ (s.rd DMA_RS_RS_INT_EN n = 0 → t.out = .hostWrite (ownerFn n) (s.rd64 DMA_RS_TX_BASE_LO DMA_RS_TX_BASE_HI n + 64 * s.rd DMA_RS_TX_HEAD n + 32) [1 + 2 * r, 0, 0, 0] :: s.out))
  ∧ (∀ (n q : Nat) (e fr : List Nat) (s : State), s.wf = true → n < 16 → s.dark = false → s.rd DMA_RS_TX_EN n = 1 → s.rd DMA_RS_TX_HEAD n ≠ s.rd DMA_RS_TX_TAIL n → (∀ k, k < 16 → k ≠ n → s.injReady k = false) → e.getD 2 0 / 2 ^ 16 % 4 = 2 → s.rd DMA_RS_INJ_DIRECT n = 1 → fr.length = e.getD 2 0 % 2 ^ 14 → 64 ≤ fr.length → fr.length ≤ 16000 → fr.all (· < 256) = true →
    q = e.getD 3 0 % 2 ^ 12 → q < 128 → s.rd QSH_EQ_EN q = 1 → s.rd QSH_EQ_QMAX q = 0 → s.dbuf + fr.length ≤ dbufSize → Completes (.injectionTake n e (some fr)) s fun t =>
      Only ([DMA_RS_TX_HEAD, DMA_RS_TX_FRAMES, DMA_RS_RS_INT].map (·.one n) ++ [QSH_EQ_ENQ_LO, QSH_EQ_ENQ_HI, QSH_EQ_QFILL].map (·.one q) ++ [QSH_UBUF_FILL.one, QSH_DBUF_FILL.one]) { s with pk := t.pk, freeCtr := t.freeCtr } t ∧ t.rd DMA_RS_TX_HEAD n = (if s.rd DMA_RS_TX_SIZE n ≤ s.rd DMA_RS_TX_HEAD n + 1 then 0 else s.rd DMA_RS_TX_HEAD n + 1) % 2 ^ 12
      ∧ t.rd DMA_RS_TX_FRAMES n = (s.rd DMA_RS_TX_FRAMES n + 1) % 2 ^ 32 ∧ t.rd64 QSH_EQ_ENQ_LO QSH_EQ_ENQ_HI q = (s.rd64 QSH_EQ_ENQ_LO QSH_EQ_ENQ_HI q + 1) % 2 ^ 64
      ∧ ((t.eq q).map fun f => f.bytes) = ((s.eq q).map fun f => f.bytes) ++ [if bit (e.getD 2 0) 14 then withFcs fr else fr] ∧ (bit (e.getD 2 0) 15 = false → t.out.head? = some (.hostWrite (ownerFn n) (s.rd64 DMA_RS_TX_BASE_LO DMA_RS_TX_BASE_HI n + 64 * s.rd DMA_RS_TX_HEAD n + 32) [1, 0, 0, 0])))
end

