-- ==== Sys2Proof/Laws/Maps.lean ====
section
/-! SUPPORT. Sparse tables keep their canonical form, and read back what was written. -/

set_option Elab.async false

namespace Sys2Proof.Machine

/-- A write to a table above a bound leaves it above the bound and canonical. -/
theorem smSet_wfAbove (m : List (Nat × Nat)) : ∀ (lo k v : Nat), smWfAbove lo m = true → lo < k → smWfAbove lo (smSet m k v) = true := by
  induction m with
  | nil => intro lo k v _ h; simp only [smSet]; split <;> simp_all [smWfAbove]
  | cons e t ih =>
    obtain ⟨a, x⟩ := e
    intro lo k v h hk
    simp only [smWfAbove, Bool.and_eq_true, decide_eq_true_eq] at h
    obtain ⟨⟨h1, h2⟩, h3⟩ := h
    simp only [smSet]
    split
    · rename_i he
      have : k = a := by simpa using he
      subst this
      split
      · exact smWfAbove_mono t lo k (by omega) h3
      · rename_i hv; simp_all [smWfAbove]
    · split
      · split
        · simp_all [smWfAbove]
        · rename_i hv; simp_all [smWfAbove]
      · rename_i h4 h5
        have : a < k := by
          have : ¬ k = a := by simpa using h4
          omega
        simp only [smWfAbove, h1, h2, ih a k v h3 this, decide_true, Bool.and_self]
where
  /-- A lower bound still bounds. -/
  smWfAbove_mono (t : List (Nat × Nat)) (lo k : Nat) (h : lo ≤ k) (w : smWfAbove k t = true) : smWfAbove lo t = true := by
    cases t with
    | nil => rfl
    | cons e t =>
      obtain ⟨a, x⟩ := e
      simp only [smWfAbove, Bool.and_eq_true, decide_eq_true_eq] at w ⊢
      exact ⟨⟨by omega, w.1.2⟩, w.2⟩

/-- A canonical table stays canonical under a write. -/
theorem smSet_wf (m : List (Nat × Nat)) (k v : Nat) (h : smWf m = true) : smWf (smSet m k v) = true := by
  cases m with
  | nil => simp only [smSet]; split <;> simp_all [smWf, smWfAbove]
  | cons e t =>
    obtain ⟨a, x⟩ := e
    simp only [smWf, Bool.and_eq_true] at h
    obtain ⟨h2, h3⟩ := h
    simp only [smSet]
    split
    · rename_i he
      have : k = a := by simpa using he
      subst this
      split
      · cases t with
        | nil => rfl
        | cons e t =>
          obtain ⟨b, y⟩ := e
          simp only [smWfAbove, Bool.and_eq_true] at h3
          simp only [smWf, h3.1.2, h3.2, Bool.and_self]
      · rename_i hv; simp_all [smWf]
    · split
      · split
        · simp_all [smWf]
        · rename_i hv; simp_all [smWf, smWfAbove]
      · rename_i h4 h5
        have : a < k := by
          have : ¬ k = a := by simpa using h4
          omega
        simp only [smWf, h2, smSet_wfAbove t a k v h3 this, Bool.and_self]

/-- A part of a canonical table above a bound is canonical. -/
theorem filter_wfAbove (p : Nat × Nat → Bool) (m : List (Nat × Nat)) :
    ∀ lo, smWfAbove lo m = true → smWfAbove lo (m.filter p) = true := by
  induction m with
  | nil => intro lo h; exact h
  | cons e t ih =>
    obtain ⟨a, x⟩ := e
    intro lo h
    simp only [smWfAbove, Bool.and_eq_true, decide_eq_true_eq] at h
    simp only [List.filter]
    split
    · simp only [smWfAbove, h.1.1, h.1.2, ih a h.2, decide_true, Bool.and_self]
    · exact smSet_wfAbove.smWfAbove_mono _ lo a (by omega) (ih a h.2)

/-- A part of a canonical table is canonical. -/
theorem filter_wf (p : Nat × Nat → Bool) (m : List (Nat × Nat)) (h : smWf m = true) : smWf (m.filter p) = true := by
  induction m with
  | nil => rfl
  | cons e t ih =>
    obtain ⟨a, x⟩ := e
    simp only [smWf, Bool.and_eq_true] at h
    simp only [List.filter]
    split
    · simp only [smWf, h.1, filter_wfAbove p t a h.2, Bool.and_self]
    · apply ih
      cases t with
      | nil => rfl
      | cons e t =>
        obtain ⟨b, y⟩ := e
        simp only [smWfAbove, Bool.and_eq_true] at h
        simp only [smWf, h.2.1.2, h.2.2, Bool.and_self]

/-- A key at or below the bound of a table is unlisted. -/
theorem smGet_below (m : List (Nat × Nat)) (lo k : Nat) (h : smWfAbove lo m = true) (hk : k ≤ lo) : smGet m k = 0 := by
  cases m with
  | nil => rfl
  | cons e t =>
    obtain ⟨a, x⟩ := e
    simp only [smWfAbove, Bool.and_eq_true, decide_eq_true_eq] at h
    have h1 : ¬ k = a := by omega
    have h2 : k < a := by omega
    simp [smGet, h1, h2]

/-- Reading a table above a bound after a write. -/
theorem smGet_smSet_above (m : List (Nat × Nat)) :
    ∀ lo k v j, smWfAbove lo m = true → smGet (smSet m k v) j = if j = k then v else smGet m j := by
  induction m with
  | nil =>
    intro lo k v j _
    by_cases hv : v = 0 <;> by_cases hj : j = k <;> simp [smSet, smGet, hv, hj]
  | cons e t ih =>
    obtain ⟨a, x⟩ := e
    intro lo k v j h
    simp only [smWfAbove, Bool.and_eq_true, decide_eq_true_eq] at h
    obtain ⟨⟨_, _⟩, h3⟩ := h
    by_cases h4 : k = a
    · subst h4
      by_cases hv : v = 0
      · subst hv
        by_cases hj : j = k
        · subst hj; simp [smSet, smGet_below t j j h3 (Nat.le_refl j)]
        · by_cases hl : j < k
          · simp [smSet, smGet, hj, hl, smGet_below t k j h3 (by omega)]
          · simp [smSet, smGet, hj, hl]
      · by_cases hj : j = k <;> simp [smSet, smGet, hv, hj]
    · by_cases h5 : k < a
      · by_cases hv : v = 0
        · subst hv
          by_cases hj : j = k
          · subst hj; simp [smSet, smGet, h4, h5]
          · simp [smSet, h4, h5, hj]
        · by_cases hj : j = k
          · subst hj; simp [smSet, smGet, h4, h5, hv]
          · by_cases hl : j < k
            · have : ¬ j = a := by omega
              have h6 : j < a := by omega
              simp [smSet, smGet, h4, h5, hv, hj, hl, this, h6]
            · simp [smSet, smGet, h4, h5, hv, hj, hl]
      · have ih' := ih a k v j h3
        by_cases hj : j = a
        · subst hj; have : ¬ j = k := fun e => h4 e.symm
          simp [smSet, smGet, h4, h5, this]
        · by_cases hl : j < a
          · have : ¬ j = k := by omega
            simp [smSet, smGet, h4, h5, hj, hl, this]
          · simp [smSet, smGet, h4, h5, hj, hl, ih']

/-- Reading a canonical table after a write: the key written reads the value, and every other key what it read before. -/
theorem smGet_smSet (m : List (Nat × Nat)) (k v j : Nat) (h : smWf m = true) :
    smGet (smSet m k v) j = if j = k then v else smGet m j := by
  cases m with
  | nil => by_cases hv : v = 0 <;> by_cases hj : j = k <;> simp [smSet, smGet, hv, hj]
  | cons e t =>
    obtain ⟨a, x⟩ := e
    by_cases ha : a = 0
    · subst ha
      simp only [smWf, Bool.and_eq_true] at h
      by_cases h4 : k = 0
      · subst h4
        by_cases hj : j = 0
        · subst hj
          by_cases hv : v = 0
          · subst hv; simp [smSet, smGet_below t 0 0 h.2 (Nat.le_refl 0)]
          · simp [smSet, smGet, hv]
        · by_cases hv : v = 0 <;> simp [smSet, smGet, hv, hj]
      · have ih := smGet_smSet_above t 0 k v j h.2
        by_cases hj : j = 0
        · subst hj; have : ¬ 0 = k := fun e => h4 e.symm
          simp [smSet, smGet, h4, this]
        · simp [smSet, smGet, h4, hj, ih]
    · refine smGet_smSet_above _ 0 k v j ?_
      simp only [smWf, Bool.and_eq_true] at h
      simp only [smWfAbove, Bool.and_eq_true, decide_eq_true_eq]
      exact ⟨⟨by omega, h.1⟩, h.2⟩

end Sys2Proof.Machine
end

