-- ==== Sys2Proof/Laws/Keeps.lean ====
section
/-! SUPPORT. The relation `Keeps`: it is closed under what the model builds its commands from. -/

set_option Elab.async false

namespace Sys2Proof.Machine

theorem Keeps.refl (s : State) : Keeps s s := ⟨rfl, rfl, Nat.le_refl _, ⟨[], rfl⟩, id⟩

theorem Keeps.trans {a b c : State} (h : Keeps a b) (k : Keeps b c) : Keeps a c :=
  ⟨k.pending.trans h.pending, k.fuses.trans h.fuses, Nat.le_trans h.free k.free,
   by obtain ⟨l, hl⟩ := h.out; obtain ⟨m, hm⟩ := k.out; exact ⟨m ++ l, by simp [hm, hl]⟩, fun w => k.wf (h.wf w)⟩

/-- A change of the fields that the relation does not speak of. -/
theorem Keeps.mk' {a s : State} (h : Keeps a s) {shadow seals mode time rx up join held cave asm cip pk tim fk vat pwr flt boot dma pins
    orders} (hb : boot.flash = s.boot.flash) :
    Keeps a ⟨s.pending, s.regs, shadow, seals, s.locked, s.banked, s.msixOn, s.msixPend, mode, s.fuses, time, rx, up, join, held, cave,
      asm, cip, pk, tim, fk, vat, pwr, flt, boot, dma, pins, orders, s.freeCtr, s.out⟩ := by
  refine h.trans ⟨rfl, rfl, Nat.le_refl _, ⟨[], rfl⟩, fun w => ?_⟩
  simp only [State.wf, hb] at w ⊢
  exact w

/-- A change of the sparse tables that leaves them canonical. -/
theorem Keeps.tables {a s t : State} (h : Keeps a s) (hp : t.pending = s.pending) (hf : t.fuses = s.fuses) (hc : t.freeCtr = s.freeCtr)
    (ho : t.out = s.out) (hw : s.wf = true → t.wf = true) : Keeps a t :=
  h.trans ⟨hp, hf, by omega, ⟨[], by simp [ho]⟩, hw⟩

theorem Keeps.ite {a s t : State} {c : Prop} [Decidable c] (h : Keeps a s) (k : Keeps a t) : Keeps a (if c then s else t) := by
  split <;> assumption

theorem Keeps.foldl {α : Type} {a : State} {f : State → α → State} (hf : ∀ t x, Keeps a t → Keeps a (f t x)) :
    ∀ (l : List α) (s : State), Keeps a s → Keeps a (l.foldl f s)
  | [], _, h => h
  | x :: l, s, h => Keeps.foldl hf l (f s x) (hf s x h)

theorem Keeps.foldl_snd {α β : Type} {a : State} {f : β × State → α → β × State} (hf : ∀ p x, Keeps a p.2 → Keeps a (f p x).2) :
    ∀ (l : List α) (p : β × State), Keeps a p.2 → Keeps a (l.foldl f p).2
  | [], _, h => h
  | x :: l, p, h => Keeps.foldl_snd hf l (f p x) (hf p x h)

theorem Keeps.foldl_snd2 {α β γ : Type} {a : State} {f : β × γ × State → α → β × γ × State}
    (hf : ∀ p x, Keeps a p.2.2 → Keeps a (f p x).2.2) :
    ∀ (l : List α) (p : β × γ × State), Keeps a p.2.2 → Keeps a (l.foldl f p).2.2
  | [], _, h => h
  | x :: l, p, h => Keeps.foldl_snd2 hf l (f p x) (hf p x h)

theorem Keeps.foldl_fst {α β : Type} {a : State} {f : State × β → α → State × β} (hf : ∀ p x, Keeps a p.1 → Keeps a (f p x).1) :
    ∀ (l : List α) (p : State × β), Keeps a p.1 → Keeps a (l.foldl f p).1
  | [], _, h => h
  | x :: l, p, h => Keeps.foldl_fst hf l (f p x) (hf p x h)

theorem Keeps.snd2 {α β : Type} {a t : State} {x : α} {y : β} {p : α × β × State} (e : p = (x, y, t)) (h : Keeps a p.2.2) : Keeps a t := by
  rw [e] at h; exact h

/-- An optional state that a choice gives. -/
theorem Keeps.oite {a : State} {c : Prop} [Decidable c] {p q : Option State} (hp : ∀ r, p = some r → Keeps a r)
    (hq : ∀ r, q = some r → Keeps a r) : ∀ r, (if c then p else q) = some r → Keeps a r := by
  split <;> assumption

theorem Keeps.osome {a s : State} (h : Keeps a s) : ∀ r, some s = some r → Keeps a r := by
  rintro _ ⟨⟩; exact h

theorem Keeps.onone {a : State} : ∀ r, (none : Option State) = some r → Keeps a r := by
  rintro _ ⟨⟩

theorem forEach_keeps {α : Type} {a : State} {f : State → α → State} (l : List α) (s : State) (h : Keeps a s)
    (hf : ∀ t x, Keeps a t → Keeps a (f t x)) : Keeps a (forEach l s f) := Keeps.foldl hf l s h

theorem State.when_keeps {a s : State} {f : State → State} (b : Bool) (h : Keeps a s) (hf : ∀ t, Keeps a t → Keeps a (f t)) :
    Keeps a (s.when_ b f) := by
  unfold State.when_; split
  · exact hf s h
  · exact h

/-- The state of a pair that a function answered. -/
theorem Keeps.snd {α : Type} {a t : State} {x : α} {p : α × State} (e : p = (x, t)) (h : Keeps a p.2) : Keeps a t := by rw [e] at h; exact h

theorem Keeps.fst {α : Type} {a t : State} {x : α} {p : State × α} (e : p = (t, x)) (h : Keeps a p.1) : Keeps a t := by rw [e] at h; exact h

theorem State.wr_keeps {a s : State} (f : Fld) (v i : Nat) (h : Keeps a s) : Keeps a (s.wr f v i) := by
  refine h.tables rfl rfl rfl rfl fun w => ?_
  simp only [State.wf, State.wr, Bool.and_eq_true] at w ⊢
  exact ⟨⟨⟨⟨⟨smSet_wf _ _ _ w.1.1.1.1.1, w.1.1.1.1.2⟩, w.1.1.1.2⟩, w.1.1.2⟩, w.1.2⟩, w.2⟩

theorem State.emit_keeps {a s : State} (o : Out) (h : Keeps a s) : Keeps a (s.emit o) :=
  h.trans ⟨rfl, rfl, Nat.le_refl _, ⟨[o], rfl⟩, fun w => by simpa [State.wf, State.emit] using w⟩

theorem State.fresh_keeps {a s : State} (h : Keeps a s) : Keeps a s.fresh.2 :=
  h.trans ⟨rfl, rfl, Nat.le_succ _, ⟨[], rfl⟩, fun w => by simpa [State.wf, State.fresh] using w⟩

end Sys2Proof.Machine
end

