-- ==== Sys2Proof/Laws/State.lean ====
section
/-! SUPPORT. Reading a field after an update: one lemma for each field of the state and each of the small updates, and the register
file read back through the updates of `Ops`. -/

set_option Elab.async false

namespace Sys2Proof.Machine

/-! The register file -/

/-- What copy `i` of field `f` reads in the register file `r`. -/
def rdR (r : List (Nat × Nat)) (f : Fld) (i : Nat) : Nat := smGet r (f.key i) ^^^ f.resetAt i

/-- The register file with copy `i` of `f` holding the low bits of `v`. -/
def wrR (r : List (Nat × Nat)) (f : Fld) (v i : Nat) : List (Nat × Nat) := smSet r (f.key i) (v % 2 ^ f.w ^^^ f.resetAt i)

/-- `State.rd` reads the register file. -/
theorem State.rd_eq (s : State) (f : Fld) (i : Nat) : s.rd f i = rdR s.regs f i := rfl

/-- `State.wr` writes the register file. -/
@[simp] theorem State.wr_regs (s : State) (f : Fld) (v i : Nat) : (s.wr f v i).regs = wrR s.regs f v i := rfl

/-- A write keeps the register file canonical. -/
@[simp] theorem wrR_wf {r : List (Nat × Nat)} (f : Fld) (v i : Nat) (h : smWf r = true) : smWf (wrR r f v i) = true := smSet_wf _ _ _ h

/-- A register reads back the low bits of what was written. -/
@[simp] theorem rdR_wrR_same {r : List (Nat × Nat)} (f : Fld) (v i : Nat) (h : smWf r = true) : rdR (wrR r f v i) f i = v % 2 ^ f.w := by
  simp [rdR, wrR, smGet_smSet _ _ _ _ h]

/-- A write leaves every other copy of every field alone. -/
theorem rdR_wrR_ne {r : List (Nat × Nat)} {f g : Fld} (v : Nat) {i j : Nat} (h : smWf r = true) (hk : g.key j ≠ f.key i) :
    rdR (wrR r f v i) g j = rdR r g j := by
  simp [rdR, wrR, smGet_smSet _ _ _ _ h, hk]

/-- Copies of different fields have different keys. -/
theorem Fld.key_ne {f g : Fld} {i j : Nat} (h : f.id ≠ g.id) : f.key i ≠ g.key j := by
  simp only [Fld.key]; omega

/-- Different copies of a field have different keys. -/
theorem Fld.key_ne_copy {f : Fld} {i j : Nat} (h : i ≠ j) (hi : i < 2 ^ 20) (hj : j < 2 ^ 20) : f.key i ≠ f.key j := by
  simp only [Fld.key]; omega

/-- A canonical state has a canonical register file. -/
theorem State.wf_regs {s : State} (h : s.wf = true) : smWf s.regs = true := by
  simp only [State.wf, Bool.and_eq_true] at h; exact h.1.1.1.1.1

/-! The small updates are writes -/

theorem State.on_eq (s : State) (f : Fld) (i : Nat) : s.on f i = (rdR s.regs f i != 0) := rfl
theorem State.rdS_eq (s : State) (f : Fld) (i : Nat) : s.rdS f i = toS f.w (rdR s.regs f i) := rfl
theorem State.wrS_eq (s : State) (f : Fld) (v : Int) (i : Nat) : s.wrS f v i = s.wr f (ofS f.w v) i := rfl
theorem State.flag_eq (s : State) (f : Fld) (b : Bool) (i : Nat) : s.flag f b i = s.wr f (b2n b) i := rfl
theorem State.inc_eq (s : State) (f : Fld) (n i : Nat) : s.inc f n i = s.wr f (rdR s.regs f i + n) i := rfl
theorem State.incSat_eq (s : State) (f : Fld) (n i : Nat) : s.incSat f n i = s.wr f (satU f.w (rdR s.regs f i + n)) i := rfl
theorem State.wr64_eq (s : State) (lo hi : Fld) (v i : Nat) : s.wr64 lo hi v i = (s.wr lo v i).wr hi (v / 2 ^ 32) i := rfl
theorem State.when_true (s : State) (f : State → State) : s.when_ true f = f s := rfl
theorem State.when_false (s : State) (f : State → State) : s.when_ false f = s := rfl

/-! One lemma per field and update -/

@[simp] theorem State.wr_pending (s : State) (f : Fld) (v i : Nat) : (s.wr f v i).pending = s.pending := rfl
@[simp] theorem State.wr_shadow (s : State) (f : Fld) (v i : Nat) : (s.wr f v i).shadow = s.shadow := rfl
@[simp] theorem State.wr_seals (s : State) (f : Fld) (v i : Nat) : (s.wr f v i).seals = s.seals := rfl
@[simp] theorem State.wr_locked (s : State) (f : Fld) (v i : Nat) : (s.wr f v i).locked = s.locked := rfl
@[simp] theorem State.wr_banked (s : State) (f : Fld) (v i : Nat) : (s.wr f v i).banked = s.banked := rfl
@[simp] theorem State.wr_msixOn (s : State) (f : Fld) (v i : Nat) : (s.wr f v i).msixOn = s.msixOn := rfl
@[simp] theorem State.wr_msixPend (s : State) (f : Fld) (v i : Nat) : (s.wr f v i).msixPend = s.msixPend := rfl
@[simp] theorem State.wr_mode (s : State) (f : Fld) (v i : Nat) : (s.wr f v i).mode = s.mode := rfl
@[simp] theorem State.wr_fuses (s : State) (f : Fld) (v i : Nat) : (s.wr f v i).fuses = s.fuses := rfl
@[simp] theorem State.wr_time (s : State) (f : Fld) (v i : Nat) : (s.wr f v i).time = s.time := rfl
@[simp] theorem State.wr_rx (s : State) (f : Fld) (v i : Nat) : (s.wr f v i).rx = s.rx := rfl
@[simp] theorem State.wr_up (s : State) (f : Fld) (v i : Nat) : (s.wr f v i).up = s.up := rfl
@[simp] theorem State.wr_join (s : State) (f : Fld) (v i : Nat) : (s.wr f v i).join = s.join := rfl
@[simp] theorem State.wr_held (s : State) (f : Fld) (v i : Nat) : (s.wr f v i).held = s.held := rfl
@[simp] theorem State.wr_cave (s : State) (f : Fld) (v i : Nat) : (s.wr f v i).cave = s.cave := rfl
@[simp] theorem State.wr_asm (s : State) (f : Fld) (v i : Nat) : (s.wr f v i).asm = s.asm := rfl
@[simp] theorem State.wr_cip (s : State) (f : Fld) (v i : Nat) : (s.wr f v i).cip = s.cip := rfl
@[simp] theorem State.wr_pk (s : State) (f : Fld) (v i : Nat) : (s.wr f v i).pk = s.pk := rfl
@[simp] theorem State.wr_tim (s : State) (f : Fld) (v i : Nat) : (s.wr f v i).tim = s.tim := rfl
@[simp] theorem State.wr_fk (s : State) (f : Fld) (v i : Nat) : (s.wr f v i).fk = s.fk := rfl
@[simp] theorem State.wr_vat (s : State) (f : Fld) (v i : Nat) : (s.wr f v i).vat = s.vat := rfl
@[simp] theorem State.wr_pwr (s : State) (f : Fld) (v i : Nat) : (s.wr f v i).pwr = s.pwr := rfl
@[simp] theorem State.wr_flt (s : State) (f : Fld) (v i : Nat) : (s.wr f v i).flt = s.flt := rfl
@[simp] theorem State.wr_boot (s : State) (f : Fld) (v i : Nat) : (s.wr f v i).boot = s.boot := rfl
@[simp] theorem State.wr_dma (s : State) (f : Fld) (v i : Nat) : (s.wr f v i).dma = s.dma := rfl
@[simp] theorem State.wr_pins (s : State) (f : Fld) (v i : Nat) : (s.wr f v i).pins = s.pins := rfl
@[simp] theorem State.wr_orders (s : State) (f : Fld) (v i : Nat) : (s.wr f v i).orders = s.orders := rfl
@[simp] theorem State.wr_freeCtr (s : State) (f : Fld) (v i : Nat) : (s.wr f v i).freeCtr = s.freeCtr := rfl
@[simp] theorem State.wr_out (s : State) (f : Fld) (v i : Nat) : (s.wr f v i).out = s.out := rfl
@[simp] theorem State.emit_pending (s : State) (o : Out) : (s.emit o).pending = s.pending := rfl
@[simp] theorem State.emit_shadow (s : State) (o : Out) : (s.emit o).shadow = s.shadow := rfl
@[simp] theorem State.emit_seals (s : State) (o : Out) : (s.emit o).seals = s.seals := rfl
@[simp] theorem State.emit_locked (s : State) (o : Out) : (s.emit o).locked = s.locked := rfl
@[simp] theorem State.emit_banked (s : State) (o : Out) : (s.emit o).banked = s.banked := rfl
@[simp] theorem State.emit_msixOn (s : State) (o : Out) : (s.emit o).msixOn = s.msixOn := rfl
@[simp] theorem State.emit_msixPend (s : State) (o : Out) : (s.emit o).msixPend = s.msixPend := rfl
@[simp] theorem State.emit_mode (s : State) (o : Out) : (s.emit o).mode = s.mode := rfl
@[simp] theorem State.emit_fuses (s : State) (o : Out) : (s.emit o).fuses = s.fuses := rfl
@[simp] theorem State.emit_time (s : State) (o : Out) : (s.emit o).time = s.time := rfl
@[simp] theorem State.emit_rx (s : State) (o : Out) : (s.emit o).rx = s.rx := rfl
@[simp] theorem State.emit_up (s : State) (o : Out) : (s.emit o).up = s.up := rfl
@[simp] theorem State.emit_join (s : State) (o : Out) : (s.emit o).join = s.join := rfl
@[simp] theorem State.emit_held (s : State) (o : Out) : (s.emit o).held = s.held := rfl
@[simp] theorem State.emit_cave (s : State) (o : Out) : (s.emit o).cave = s.cave := rfl
@[simp] theorem State.emit_asm (s : State) (o : Out) : (s.emit o).asm = s.asm := rfl
@[simp] theorem State.emit_cip (s : State) (o : Out) : (s.emit o).cip = s.cip := rfl
@[simp] theorem State.emit_pk (s : State) (o : Out) : (s.emit o).pk = s.pk := rfl
@[simp] theorem State.emit_tim (s : State) (o : Out) : (s.emit o).tim = s.tim := rfl
@[simp] theorem State.emit_fk (s : State) (o : Out) : (s.emit o).fk = s.fk := rfl
@[simp] theorem State.emit_vat (s : State) (o : Out) : (s.emit o).vat = s.vat := rfl
@[simp] theorem State.emit_pwr (s : State) (o : Out) : (s.emit o).pwr = s.pwr := rfl
@[simp] theorem State.emit_flt (s : State) (o : Out) : (s.emit o).flt = s.flt := rfl
@[simp] theorem State.emit_boot (s : State) (o : Out) : (s.emit o).boot = s.boot := rfl
@[simp] theorem State.emit_dma (s : State) (o : Out) : (s.emit o).dma = s.dma := rfl
@[simp] theorem State.emit_pins (s : State) (o : Out) : (s.emit o).pins = s.pins := rfl
@[simp] theorem State.emit_orders (s : State) (o : Out) : (s.emit o).orders = s.orders := rfl
@[simp] theorem State.emit_freeCtr (s : State) (o : Out) : (s.emit o).freeCtr = s.freeCtr := rfl
@[simp] theorem State.emit_regs (s : State) (o : Out) : (s.emit o).regs = s.regs := rfl
@[simp] theorem State.fresh_pending (s : State)  : (s.fresh.2).pending = s.pending := rfl
@[simp] theorem State.fresh_shadow (s : State)  : (s.fresh.2).shadow = s.shadow := rfl
@[simp] theorem State.fresh_seals (s : State)  : (s.fresh.2).seals = s.seals := rfl
@[simp] theorem State.fresh_locked (s : State)  : (s.fresh.2).locked = s.locked := rfl
@[simp] theorem State.fresh_banked (s : State)  : (s.fresh.2).banked = s.banked := rfl
@[simp] theorem State.fresh_msixOn (s : State)  : (s.fresh.2).msixOn = s.msixOn := rfl
@[simp] theorem State.fresh_msixPend (s : State)  : (s.fresh.2).msixPend = s.msixPend := rfl
@[simp] theorem State.fresh_mode (s : State)  : (s.fresh.2).mode = s.mode := rfl
@[simp] theorem State.fresh_fuses (s : State)  : (s.fresh.2).fuses = s.fuses := rfl
@[simp] theorem State.fresh_time (s : State)  : (s.fresh.2).time = s.time := rfl
@[simp] theorem State.fresh_rx (s : State)  : (s.fresh.2).rx = s.rx := rfl
@[simp] theorem State.fresh_up (s : State)  : (s.fresh.2).up = s.up := rfl
@[simp] theorem State.fresh_join (s : State)  : (s.fresh.2).join = s.join := rfl
@[simp] theorem State.fresh_held (s : State)  : (s.fresh.2).held = s.held := rfl
@[simp] theorem State.fresh_cave (s : State)  : (s.fresh.2).cave = s.cave := rfl
@[simp] theorem State.fresh_asm (s : State)  : (s.fresh.2).asm = s.asm := rfl
@[simp] theorem State.fresh_cip (s : State)  : (s.fresh.2).cip = s.cip := rfl
@[simp] theorem State.fresh_pk (s : State)  : (s.fresh.2).pk = s.pk := rfl
@[simp] theorem State.fresh_tim (s : State)  : (s.fresh.2).tim = s.tim := rfl
@[simp] theorem State.fresh_fk (s : State)  : (s.fresh.2).fk = s.fk := rfl
@[simp] theorem State.fresh_vat (s : State)  : (s.fresh.2).vat = s.vat := rfl
@[simp] theorem State.fresh_pwr (s : State)  : (s.fresh.2).pwr = s.pwr := rfl
@[simp] theorem State.fresh_flt (s : State)  : (s.fresh.2).flt = s.flt := rfl
@[simp] theorem State.fresh_boot (s : State)  : (s.fresh.2).boot = s.boot := rfl
@[simp] theorem State.fresh_dma (s : State)  : (s.fresh.2).dma = s.dma := rfl
@[simp] theorem State.fresh_pins (s : State)  : (s.fresh.2).pins = s.pins := rfl
@[simp] theorem State.fresh_orders (s : State)  : (s.fresh.2).orders = s.orders := rfl
@[simp] theorem State.fresh_out (s : State)  : (s.fresh.2).out = s.out := rfl
@[simp] theorem State.fresh_regs (s : State)  : (s.fresh.2).regs = s.regs := rfl
@[simp] theorem State.setInt_pending (s : State) (p b : Nat) : (s.setInt p b).pending = s.pending := rfl
@[simp] theorem State.setInt_shadow (s : State) (p b : Nat) : (s.setInt p b).shadow = s.shadow := rfl
@[simp] theorem State.setInt_seals (s : State) (p b : Nat) : (s.setInt p b).seals = s.seals := rfl
@[simp] theorem State.setInt_locked (s : State) (p b : Nat) : (s.setInt p b).locked = s.locked := rfl
@[simp] theorem State.setInt_banked (s : State) (p b : Nat) : (s.setInt p b).banked = s.banked := rfl
@[simp] theorem State.setInt_msixOn (s : State) (p b : Nat) : (s.setInt p b).msixOn = s.msixOn := rfl
@[simp] theorem State.setInt_msixPend (s : State) (p b : Nat) : (s.setInt p b).msixPend = s.msixPend := rfl
@[simp] theorem State.setInt_mode (s : State) (p b : Nat) : (s.setInt p b).mode = s.mode := rfl
@[simp] theorem State.setInt_fuses (s : State) (p b : Nat) : (s.setInt p b).fuses = s.fuses := rfl
@[simp] theorem State.setInt_time (s : State) (p b : Nat) : (s.setInt p b).time = s.time := rfl
@[simp] theorem State.setInt_rx (s : State) (p b : Nat) : (s.setInt p b).rx = s.rx := rfl
@[simp] theorem State.setInt_up (s : State) (p b : Nat) : (s.setInt p b).up = s.up := rfl
@[simp] theorem State.setInt_join (s : State) (p b : Nat) : (s.setInt p b).join = s.join := rfl
@[simp] theorem State.setInt_held (s : State) (p b : Nat) : (s.setInt p b).held = s.held := rfl
@[simp] theorem State.setInt_cave (s : State) (p b : Nat) : (s.setInt p b).cave = s.cave := rfl
@[simp] theorem State.setInt_asm (s : State) (p b : Nat) : (s.setInt p b).asm = s.asm := rfl
@[simp] theorem State.setInt_cip (s : State) (p b : Nat) : (s.setInt p b).cip = s.cip := rfl
@[simp] theorem State.setInt_pk (s : State) (p b : Nat) : (s.setInt p b).pk = s.pk := rfl
@[simp] theorem State.setInt_tim (s : State) (p b : Nat) : (s.setInt p b).tim = s.tim := rfl
@[simp] theorem State.setInt_fk (s : State) (p b : Nat) : (s.setInt p b).fk = s.fk := rfl
@[simp] theorem State.setInt_vat (s : State) (p b : Nat) : (s.setInt p b).vat = s.vat := rfl
@[simp] theorem State.setInt_pwr (s : State) (p b : Nat) : (s.setInt p b).pwr = s.pwr := rfl
@[simp] theorem State.setInt_flt (s : State) (p b : Nat) : (s.setInt p b).flt = s.flt := rfl
@[simp] theorem State.setInt_boot (s : State) (p b : Nat) : (s.setInt p b).boot = s.boot := rfl
@[simp] theorem State.setInt_dma (s : State) (p b : Nat) : (s.setInt p b).dma = s.dma := rfl
@[simp] theorem State.setInt_pins (s : State) (p b : Nat) : (s.setInt p b).pins = s.pins := rfl
@[simp] theorem State.setInt_orders (s : State) (p b : Nat) : (s.setInt p b).orders = s.orders := rfl
@[simp] theorem State.setInt_freeCtr (s : State) (p b : Nat) : (s.setInt p b).freeCtr = s.freeCtr := rfl
@[simp] theorem State.setInt_out (s : State) (p b : Nat) : (s.setInt p b).out = s.out := rfl
@[simp] theorem State.sendMsix_pending (s : State) (src : Nat) : (s.sendMsix src).pending = s.pending := by unfold State.sendMsix; repeat' first | rfl | split | (dsimp only [State.emit])
@[simp] theorem State.sendMsix_shadow (s : State) (src : Nat) : (s.sendMsix src).shadow = s.shadow := by unfold State.sendMsix; repeat' first | rfl | split | (dsimp only [State.emit])
@[simp] theorem State.sendMsix_seals (s : State) (src : Nat) : (s.sendMsix src).seals = s.seals := by unfold State.sendMsix; repeat' first | rfl | split | (dsimp only [State.emit])
@[simp] theorem State.sendMsix_locked (s : State) (src : Nat) : (s.sendMsix src).locked = s.locked := by unfold State.sendMsix; repeat' first | rfl | split | (dsimp only [State.emit])
@[simp] theorem State.sendMsix_banked (s : State) (src : Nat) : (s.sendMsix src).banked = s.banked := by unfold State.sendMsix; repeat' first | rfl | split | (dsimp only [State.emit])
@[simp] theorem State.sendMsix_msixOn (s : State) (src : Nat) : (s.sendMsix src).msixOn = s.msixOn := by unfold State.sendMsix; repeat' first | rfl | split | (dsimp only [State.emit])
@[simp] theorem State.sendMsix_mode (s : State) (src : Nat) : (s.sendMsix src).mode = s.mode := by unfold State.sendMsix; repeat' first | rfl | split | (dsimp only [State.emit])
@[simp] theorem State.sendMsix_fuses (s : State) (src : Nat) : (s.sendMsix src).fuses = s.fuses := by unfold State.sendMsix; repeat' first | rfl | split | (dsimp only [State.emit])
@[simp] theorem State.sendMsix_time (s : State) (src : Nat) : (s.sendMsix src).time = s.time := by unfold State.sendMsix; repeat' first | rfl | split | (dsimp only [State.emit])
@[simp] theorem State.sendMsix_rx (s : State) (src : Nat) : (s.sendMsix src).rx = s.rx := by unfold State.sendMsix; repeat' first | rfl | split | (dsimp only [State.emit])
@[simp] theorem State.sendMsix_up (s : State) (src : Nat) : (s.sendMsix src).up = s.up := by unfold State.sendMsix; repeat' first | rfl | split | (dsimp only [State.emit])
@[simp] theorem State.sendMsix_join (s : State) (src : Nat) : (s.sendMsix src).join = s.join := by unfold State.sendMsix; repeat' first | rfl | split | (dsimp only [State.emit])
@[simp] theorem State.sendMsix_held (s : State) (src : Nat) : (s.sendMsix src).held = s.held := by unfold State.sendMsix; repeat' first | rfl | split | (dsimp only [State.emit])
@[simp] theorem State.sendMsix_cave (s : State) (src : Nat) : (s.sendMsix src).cave = s.cave := by unfold State.sendMsix; repeat' first | rfl | split | (dsimp only [State.emit])
@[simp] theorem State.sendMsix_asm (s : State) (src : Nat) : (s.sendMsix src).asm = s.asm := by unfold State.sendMsix; repeat' first | rfl | split | (dsimp only [State.emit])
@[simp] theorem State.sendMsix_cip (s : State) (src : Nat) : (s.sendMsix src).cip = s.cip := by unfold State.sendMsix; repeat' first | rfl | split | (dsimp only [State.emit])
@[simp] theorem State.sendMsix_pk (s : State) (src : Nat) : (s.sendMsix src).pk = s.pk := by unfold State.sendMsix; repeat' first | rfl | split | (dsimp only [State.emit])
@[simp] theorem State.sendMsix_tim (s : State) (src : Nat) : (s.sendMsix src).tim = s.tim := by unfold State.sendMsix; repeat' first | rfl | split | (dsimp only [State.emit])
@[simp] theorem State.sendMsix_fk (s : State) (src : Nat) : (s.sendMsix src).fk = s.fk := by unfold State.sendMsix; repeat' first | rfl | split | (dsimp only [State.emit])
@[simp] theorem State.sendMsix_vat (s : State) (src : Nat) : (s.sendMsix src).vat = s.vat := by unfold State.sendMsix; repeat' first | rfl | split | (dsimp only [State.emit])
@[simp] theorem State.sendMsix_pwr (s : State) (src : Nat) : (s.sendMsix src).pwr = s.pwr := by unfold State.sendMsix; repeat' first | rfl | split | (dsimp only [State.emit])
@[simp] theorem State.sendMsix_flt (s : State) (src : Nat) : (s.sendMsix src).flt = s.flt := by unfold State.sendMsix; repeat' first | rfl | split | (dsimp only [State.emit])
@[simp] theorem State.sendMsix_boot (s : State) (src : Nat) : (s.sendMsix src).boot = s.boot := by unfold State.sendMsix; repeat' first | rfl | split | (dsimp only [State.emit])
@[simp] theorem State.sendMsix_dma (s : State) (src : Nat) : (s.sendMsix src).dma = s.dma := by unfold State.sendMsix; repeat' first | rfl | split | (dsimp only [State.emit])
@[simp] theorem State.sendMsix_pins (s : State) (src : Nat) : (s.sendMsix src).pins = s.pins := by unfold State.sendMsix; repeat' first | rfl | split | (dsimp only [State.emit])
@[simp] theorem State.sendMsix_orders (s : State) (src : Nat) : (s.sendMsix src).orders = s.orders := by unfold State.sendMsix; repeat' first | rfl | split | (dsimp only [State.emit])
@[simp] theorem State.sendMsix_freeCtr (s : State) (src : Nat) : (s.sendMsix src).freeCtr = s.freeCtr := by unfold State.sendMsix; repeat' first | rfl | split | (dsimp only [State.emit])
@[simp] theorem State.sendMsix_regs (s : State) (src : Nat) : (s.sendMsix src).regs = s.regs := by unfold State.sendMsix; repeat' first | rfl | split | (dsimp only [State.emit])

/-! Interrupts and counters: nothing but their own registers, the pending messages and the record of what left changes -/

/-- `t` is `s` but for interrupts and counters. -/
structure Aside (s t : State) : Prop where
  same : t = { s with regs := t.regs, msixPend := t.msixPend, out := t.out }
  rd : smWf s.regs = true → ∀ f i, f.counting = false → rdR t.regs f i = rdR s.regs f i
  wf : smWf s.regs = true → smWf t.regs = true

theorem Aside.refl (s : State) : Aside s s := ⟨rfl, fun _ _ _ _ => rfl, id⟩

theorem Aside.trans {a b c : State} (h : Aside a b) (k : Aside b c) : Aside a c := by
  refine ⟨?_, fun w f i hf => (k.rd (h.wf w) f i hf).trans (h.rd w f i hf), fun w => k.wf (h.wf w)⟩
  rw [k.same, h.same]

theorem Aside.wr {s : State} {f : Fld} (v i : Nat) (hf : f.counting = true) : Aside s (s.wr f v i) := by
  refine ⟨rfl, fun w g j hg => rdR_wrR_ne v w (Fld.key_ne ?_), fun w => wrR_wf _ _ _ w⟩
  intro e
  have : g.counting = f.counting := by simp only [Fld.counting, e]
  rw [hf, hg] at this
  cases this

theorem Aside.wr64 {s : State} {f g : Fld} (v i : Nat) (hf : f.counting = true) (hg : g.counting = true) : Aside s (s.wr64 f g v i) :=
  (Aside.wr v i hf).trans (Aside.wr _ i hg)

theorem Aside.emit (s : State) (o : Out) : Aside s (s.emit o) := ⟨rfl, fun _ _ _ _ => rfl, id⟩

theorem Aside.sendMsix (s : State) (src : Nat) : Aside s (s.sendMsix src) := by
  unfold State.sendMsix
  repeat' first
    | exact Aside.refl _
    | exact Aside.emit _ _
    | exact ⟨rfl, fun _ _ _ _ => rfl, id⟩
    | split
    | dsimp only

theorem raise0_aside (s : State) (p b : Nat) : Aside s (s.raise0 p b) := by
  have h1 : Aside s (s.setInt p b) := Aside.wr _ _ (by decide)
  unfold State.raise0
  dsimp only
  split
  · exact h1.trans (Aside.sendMsix _ _)
  · exact h1

theorem perfSample_aside (s : State) (p : Nat) : Aside s (s.perfSample p) := by
  have h : ∀ t : State, Aside s t →
      Aside s (if 128 ≤ p then ((t.wr C_PERF_SAMPLE_LT s.lt32 p).raise0 2 7).wr VAT_C_SAMPLE_PC (s.rd VAT_C_PC (p - 128)) (p - 128)
        else (t.wr C_PERF_SAMPLE_LT s.lt32 p).raise0 2 7) := fun t ht => by
    have k := (ht.trans (Aside.wr s.lt32 p (f := C_PERF_SAMPLE_LT) (by decide))).trans (raise0_aside _ 2 7)
    split
    · exact k.trans (Aside.wr _ _ (by decide))
    · exact k
  refine h _ ?_
  split
  · exact Aside.wr _ _ (by decide)
  · exact Aside.wr _ _ (by decide)

theorem perfOvf_aside (s : State) (p k : Nat) : Aside s (s.perfOvf p k) := by
  have h1 : Aside s (s.wr C_PERF_OVF (setBit (s.rd C_PERF_OVF p) k) p) := Aside.wr _ _ (by decide)
  unfold State.perfOvf
  dsimp only
  split
  · exact h1.trans (perfSample_aside _ _)
  · exact h1

theorem perfSet_aside (s : State) (p k v : Nat) : Aside s (s.perfSet p k v) := Aside.wr64 _ _ (by decide) (by decide)

theorem perfWrapped_aside (s : State) (p k : Nat) : Aside s (s.perfWrapped p k) := by
  unfold State.perfWrapped
  split
  · dsimp only
    split
    · exact perfSet_aside _ _ _ _
    · exact (perfSet_aside _ _ _ _).trans (perfOvf_aside _ _ _)
  · exact perfOvf_aside _ _ _

theorem perfTick_aside (s : State) (p c v k : Nat) : Aside s (s.perfTick p c v k) := by
  unfold State.perfTick State.perfAdd
  dsimp only
  repeat' first
    | exact Aside.refl _
    | exact perfSet_aside _ _ _ _
    | exact (perfSet_aside _ _ _ _).trans (perfWrapped_aside _ _ _)
    | split

theorem perf_aside (s : State) (p c v : Nat) : Aside s (s.perf p c v) := by
  have key : ∀ (l : List Nat) (t : State), Aside s t → Aside s (l.foldl (fun t k => t.perfTick p c v k) t) := by
    intro l
    induction l with
    | nil => intro t h; exact h
    | cons k l ih => intro t h; exact ih _ (h.trans (perfTick_aside _ _ _ _ _))
  unfold State.perf
  split
  · exact Aside.refl _
  · exact key _ _ (Aside.refl _)

/-- Raising an interrupt bit changes nothing but the registers of interrupts and counters, pending messages and what was sent. -/
theorem raise_aside (s : State) (p b : Nat) : Aside s (s.raise p b) := (raise0_aside s p b).trans (perf_aside _ _ _ _)

theorem raiseIf_aside (s : State) (c : Bool) (p b : Nat) : Aside s (s.raiseIf c p b) := by
  unfold State.raiseIf; split
  · exact raise_aside _ _ _
  · exact Aside.refl _

/-- A register outside interrupts and counters reads as before after an interrupt bit is raised. -/
theorem raise_rd {s : State} (p b : Nat) {f : Fld} (i : Nat) (w : smWf s.regs = true) (hf : f.counting = false) :
    rdR (s.raise p b).regs f i = rdR s.regs f i := (raise_aside s p b).rd w f i hf

theorem raise_wf {s : State} (p b : Nat) (w : smWf s.regs = true) : smWf (s.raise p b).regs = true := (raise_aside s p b).wf w

theorem raiseIf_rd {s : State} (c : Bool) (p b : Nat) {f : Fld} (i : Nat) (w : smWf s.regs = true) (hf : f.counting = false) :
    rdR (s.raiseIf c p b).regs f i = rdR s.regs f i := (raiseIf_aside s c p b).rd w f i hf

theorem raiseIf_wf {s : State} (c : Bool) (p b : Nat) (w : smWf s.regs = true) : smWf (s.raiseIf c p b).regs = true :=
  (raiseIf_aside s c p b).wf w

theorem perf_rd {s : State} (p c v : Nat) {f : Fld} (i : Nat) (w : smWf s.regs = true) (hf : f.counting = false) :
    rdR (s.perf p c v).regs f i = rdR s.regs f i := (perf_aside s p c v).rd w f i hf

theorem perf_wf {s : State} (p c v : Nat) (w : smWf s.regs = true) : smWf (s.perf p c v).regs = true := (perf_aside s p c v).wf w

/-! No field but the register file, the pending messages and the record changes, whatever page is named -/

theorem SameRest.trans {a b c : State} (h : SameRest a b) (k : SameRest b c) : SameRest a c := by
  unfold SameRest at *
  rw [k, h]

theorem sendMsix_rest (s : State) (src : Nat) : SameRest s (s.sendMsix src) := (Aside.sendMsix s src).same

theorem raise0_rest (s : State) (p b : Nat) : SameRest s (s.raise0 p b) := by
  unfold State.raise0
  dsimp only
  split
  · exact SameRest.trans (b := s.setInt p b) rfl (sendMsix_rest _ _)
  · rfl

theorem perfSample_rest (s : State) (p : Nat) : SameRest s (s.perfSample p) := by
  unfold State.perfSample
  dsimp only
  have h : ∀ t : State, SameRest s t → SameRest s ((t.wr C_PERF_SAMPLE_LT s.lt32 p).raise0 2 7) := fun t ht =>
    SameRest.trans (b := t.wr C_PERF_SAMPLE_LT s.lt32 p) (SameRest.trans ht rfl) (raise0_rest _ _ _)
  split <;> split <;> first | exact h _ rfl | exact SameRest.trans (h _ rfl) rfl

theorem perfOvf_rest (s : State) (p k : Nat) : SameRest s (s.perfOvf p k) := by
  unfold State.perfOvf
  dsimp only
  split
  · exact SameRest.trans (b := s.wr C_PERF_OVF (setBit (s.rd C_PERF_OVF p) k) p) rfl (perfSample_rest _ _)
  · rfl

theorem perfSet_rest (s : State) (p k v : Nat) : SameRest s (s.perfSet p k v) := by
  simp only [SameRest, State.perfSet, State.wr64, State.wr]

theorem perfWrapped_rest (s : State) (p k : Nat) : SameRest s (s.perfWrapped p k) := by
  unfold State.perfWrapped
  split
  · dsimp only
    split
    · exact perfSet_rest _ _ _ _
    · exact SameRest.trans (perfSet_rest _ _ _ _) (perfOvf_rest _ _ _)
  · exact perfOvf_rest _ _ _

theorem perfTick_rest (s : State) (p c v k : Nat) : SameRest s (s.perfTick p c v k) := by
  unfold State.perfTick State.perfAdd
  dsimp only
  repeat' first
    | (exact (rfl : SameRest s s))
    | exact perfSet_rest _ _ _ _
    | exact SameRest.trans (perfSet_rest _ _ _ _) (perfWrapped_rest _ _ _)
    | split

theorem perf_rest (s : State) (p c v : Nat) : SameRest s (s.perf p c v) := by
  have key : ∀ (l : List Nat) (t : State), SameRest s t → SameRest s (l.foldl (fun t k => t.perfTick p c v k) t) := by
    intro l
    induction l with
    | nil => intro t h; exact h
    | cons k l ih => intro t h; exact ih _ (h.trans (perfTick_rest _ _ _ _ _))
  unfold State.perf
  split
  · rfl
  · exact key _ _ rfl

theorem raise_rest (s : State) (p b : Nat) : SameRest s (s.raise p b) := (raise0_rest s p b).trans (perf_rest _ _ _ _)

theorem raiseIf_rest (s : State) (c : Bool) (p b : Nat) : SameRest s (s.raiseIf c p b) := by
  unfold State.raiseIf; split
  · exact raise_rest _ _ _
  · rfl

@[simp] theorem State.raise0_pending (s : State) (p b : Nat) : (s.raise0 p b).pending = s.pending := by rw [raise0_rest s p b]
@[simp] theorem State.raise0_shadow (s : State) (p b : Nat) : (s.raise0 p b).shadow = s.shadow := by rw [raise0_rest s p b]
@[simp] theorem State.raise0_seals (s : State) (p b : Nat) : (s.raise0 p b).seals = s.seals := by rw [raise0_rest s p b]
@[simp] theorem State.raise0_locked (s : State) (p b : Nat) : (s.raise0 p b).locked = s.locked := by rw [raise0_rest s p b]
@[simp] theorem State.raise0_banked (s : State) (p b : Nat) : (s.raise0 p b).banked = s.banked := by rw [raise0_rest s p b]
@[simp] theorem State.raise0_msixOn (s : State) (p b : Nat) : (s.raise0 p b).msixOn = s.msixOn := by rw [raise0_rest s p b]
@[simp] theorem State.raise0_mode (s : State) (p b : Nat) : (s.raise0 p b).mode = s.mode := by rw [raise0_rest s p b]
@[simp] theorem State.raise0_fuses (s : State) (p b : Nat) : (s.raise0 p b).fuses = s.fuses := by rw [raise0_rest s p b]
@[simp] theorem State.raise0_time (s : State) (p b : Nat) : (s.raise0 p b).time = s.time := by rw [raise0_rest s p b]
@[simp] theorem State.raise0_rx (s : State) (p b : Nat) : (s.raise0 p b).rx = s.rx := by rw [raise0_rest s p b]
@[simp] theorem State.raise0_up (s : State) (p b : Nat) : (s.raise0 p b).up = s.up := by rw [raise0_rest s p b]
@[simp] theorem State.raise0_join (s : State) (p b : Nat) : (s.raise0 p b).join = s.join := by rw [raise0_rest s p b]
@[simp] theorem State.raise0_held (s : State) (p b : Nat) : (s.raise0 p b).held = s.held := by rw [raise0_rest s p b]
@[simp] theorem State.raise0_cave (s : State) (p b : Nat) : (s.raise0 p b).cave = s.cave := by rw [raise0_rest s p b]
@[simp] theorem State.raise0_asm (s : State) (p b : Nat) : (s.raise0 p b).asm = s.asm := by rw [raise0_rest s p b]
@[simp] theorem State.raise0_cip (s : State) (p b : Nat) : (s.raise0 p b).cip = s.cip := by rw [raise0_rest s p b]
@[simp] theorem State.raise0_pk (s : State) (p b : Nat) : (s.raise0 p b).pk = s.pk := by rw [raise0_rest s p b]
@[simp] theorem State.raise0_tim (s : State) (p b : Nat) : (s.raise0 p b).tim = s.tim := by rw [raise0_rest s p b]
@[simp] theorem State.raise0_fk (s : State) (p b : Nat) : (s.raise0 p b).fk = s.fk := by rw [raise0_rest s p b]
@[simp] theorem State.raise0_vat (s : State) (p b : Nat) : (s.raise0 p b).vat = s.vat := by rw [raise0_rest s p b]
@[simp] theorem State.raise0_pwr (s : State) (p b : Nat) : (s.raise0 p b).pwr = s.pwr := by rw [raise0_rest s p b]
@[simp] theorem State.raise0_flt (s : State) (p b : Nat) : (s.raise0 p b).flt = s.flt := by rw [raise0_rest s p b]
@[simp] theorem State.raise0_boot (s : State) (p b : Nat) : (s.raise0 p b).boot = s.boot := by rw [raise0_rest s p b]
@[simp] theorem State.raise0_dma (s : State) (p b : Nat) : (s.raise0 p b).dma = s.dma := by rw [raise0_rest s p b]
@[simp] theorem State.raise0_pins (s : State) (p b : Nat) : (s.raise0 p b).pins = s.pins := by rw [raise0_rest s p b]
@[simp] theorem State.raise0_orders (s : State) (p b : Nat) : (s.raise0 p b).orders = s.orders := by rw [raise0_rest s p b]
@[simp] theorem State.raise0_freeCtr (s : State) (p b : Nat) : (s.raise0 p b).freeCtr = s.freeCtr := by rw [raise0_rest s p b]
@[simp] theorem State.perf_pending (s : State) (p c v : Nat) : (s.perf p c v).pending = s.pending := by rw [perf_rest s p c v]
@[simp] theorem State.perf_shadow (s : State) (p c v : Nat) : (s.perf p c v).shadow = s.shadow := by rw [perf_rest s p c v]
@[simp] theorem State.perf_seals (s : State) (p c v : Nat) : (s.perf p c v).seals = s.seals := by rw [perf_rest s p c v]
@[simp] theorem State.perf_locked (s : State) (p c v : Nat) : (s.perf p c v).locked = s.locked := by rw [perf_rest s p c v]
@[simp] theorem State.perf_banked (s : State) (p c v : Nat) : (s.perf p c v).banked = s.banked := by rw [perf_rest s p c v]
@[simp] theorem State.perf_msixOn (s : State) (p c v : Nat) : (s.perf p c v).msixOn = s.msixOn := by rw [perf_rest s p c v]
@[simp] theorem State.perf_mode (s : State) (p c v : Nat) : (s.perf p c v).mode = s.mode := by rw [perf_rest s p c v]
@[simp] theorem State.perf_fuses (s : State) (p c v : Nat) : (s.perf p c v).fuses = s.fuses := by rw [perf_rest s p c v]
@[simp] theorem State.perf_time (s : State) (p c v : Nat) : (s.perf p c v).time = s.time := by rw [perf_rest s p c v]
@[simp] theorem State.perf_rx (s : State) (p c v : Nat) : (s.perf p c v).rx = s.rx := by rw [perf_rest s p c v]
@[simp] theorem State.perf_up (s : State) (p c v : Nat) : (s.perf p c v).up = s.up := by rw [perf_rest s p c v]
@[simp] theorem State.perf_join (s : State) (p c v : Nat) : (s.perf p c v).join = s.join := by rw [perf_rest s p c v]
@[simp] theorem State.perf_held (s : State) (p c v : Nat) : (s.perf p c v).held = s.held := by rw [perf_rest s p c v]
@[simp] theorem State.perf_cave (s : State) (p c v : Nat) : (s.perf p c v).cave = s.cave := by rw [perf_rest s p c v]
@[simp] theorem State.perf_asm (s : State) (p c v : Nat) : (s.perf p c v).asm = s.asm := by rw [perf_rest s p c v]
@[simp] theorem State.perf_cip (s : State) (p c v : Nat) : (s.perf p c v).cip = s.cip := by rw [perf_rest s p c v]
@[simp] theorem State.perf_pk (s : State) (p c v : Nat) : (s.perf p c v).pk = s.pk := by rw [perf_rest s p c v]
@[simp] theorem State.perf_tim (s : State) (p c v : Nat) : (s.perf p c v).tim = s.tim := by rw [perf_rest s p c v]
@[simp] theorem State.perf_fk (s : State) (p c v : Nat) : (s.perf p c v).fk = s.fk := by rw [perf_rest s p c v]
@[simp] theorem State.perf_vat (s : State) (p c v : Nat) : (s.perf p c v).vat = s.vat := by rw [perf_rest s p c v]
@[simp] theorem State.perf_pwr (s : State) (p c v : Nat) : (s.perf p c v).pwr = s.pwr := by rw [perf_rest s p c v]
@[simp] theorem State.perf_flt (s : State) (p c v : Nat) : (s.perf p c v).flt = s.flt := by rw [perf_rest s p c v]
@[simp] theorem State.perf_boot (s : State) (p c v : Nat) : (s.perf p c v).boot = s.boot := by rw [perf_rest s p c v]
@[simp] theorem State.perf_dma (s : State) (p c v : Nat) : (s.perf p c v).dma = s.dma := by rw [perf_rest s p c v]
@[simp] theorem State.perf_pins (s : State) (p c v : Nat) : (s.perf p c v).pins = s.pins := by rw [perf_rest s p c v]
@[simp] theorem State.perf_orders (s : State) (p c v : Nat) : (s.perf p c v).orders = s.orders := by rw [perf_rest s p c v]
@[simp] theorem State.perf_freeCtr (s : State) (p c v : Nat) : (s.perf p c v).freeCtr = s.freeCtr := by rw [perf_rest s p c v]
@[simp] theorem State.raise_pending (s : State) (p b : Nat) : (s.raise p b).pending = s.pending := by rw [raise_rest s p b]
@[simp] theorem State.raise_shadow (s : State) (p b : Nat) : (s.raise p b).shadow = s.shadow := by rw [raise_rest s p b]
@[simp] theorem State.raise_seals (s : State) (p b : Nat) : (s.raise p b).seals = s.seals := by rw [raise_rest s p b]
@[simp] theorem State.raise_locked (s : State) (p b : Nat) : (s.raise p b).locked = s.locked := by rw [raise_rest s p b]
@[simp] theorem State.raise_banked (s : State) (p b : Nat) : (s.raise p b).banked = s.banked := by rw [raise_rest s p b]
@[simp] theorem State.raise_msixOn (s : State) (p b : Nat) : (s.raise p b).msixOn = s.msixOn := by rw [raise_rest s p b]
@[simp] theorem State.raise_mode (s : State) (p b : Nat) : (s.raise p b).mode = s.mode := by rw [raise_rest s p b]
@[simp] theorem State.raise_fuses (s : State) (p b : Nat) : (s.raise p b).fuses = s.fuses := by rw [raise_rest s p b]
@[simp] theorem State.raise_time (s : State) (p b : Nat) : (s.raise p b).time = s.time := by rw [raise_rest s p b]
@[simp] theorem State.raise_rx (s : State) (p b : Nat) : (s.raise p b).rx = s.rx := by rw [raise_rest s p b]
@[simp] theorem State.raise_up (s : State) (p b : Nat) : (s.raise p b).up = s.up := by rw [raise_rest s p b]
@[simp] theorem State.raise_join (s : State) (p b : Nat) : (s.raise p b).join = s.join := by rw [raise_rest s p b]
@[simp] theorem State.raise_held (s : State) (p b : Nat) : (s.raise p b).held = s.held := by rw [raise_rest s p b]
@[simp] theorem State.raise_cave (s : State) (p b : Nat) : (s.raise p b).cave = s.cave := by rw [raise_rest s p b]
@[simp] theorem State.raise_asm (s : State) (p b : Nat) : (s.raise p b).asm = s.asm := by rw [raise_rest s p b]
@[simp] theorem State.raise_cip (s : State) (p b : Nat) : (s.raise p b).cip = s.cip := by rw [raise_rest s p b]
@[simp] theorem State.raise_pk (s : State) (p b : Nat) : (s.raise p b).pk = s.pk := by rw [raise_rest s p b]
@[simp] theorem State.raise_tim (s : State) (p b : Nat) : (s.raise p b).tim = s.tim := by rw [raise_rest s p b]
@[simp] theorem State.raise_fk (s : State) (p b : Nat) : (s.raise p b).fk = s.fk := by rw [raise_rest s p b]
@[simp] theorem State.raise_vat (s : State) (p b : Nat) : (s.raise p b).vat = s.vat := by rw [raise_rest s p b]
@[simp] theorem State.raise_pwr (s : State) (p b : Nat) : (s.raise p b).pwr = s.pwr := by rw [raise_rest s p b]
@[simp] theorem State.raise_flt (s : State) (p b : Nat) : (s.raise p b).flt = s.flt := by rw [raise_rest s p b]
@[simp] theorem State.raise_boot (s : State) (p b : Nat) : (s.raise p b).boot = s.boot := by rw [raise_rest s p b]
@[simp] theorem State.raise_dma (s : State) (p b : Nat) : (s.raise p b).dma = s.dma := by rw [raise_rest s p b]
@[simp] theorem State.raise_pins (s : State) (p b : Nat) : (s.raise p b).pins = s.pins := by rw [raise_rest s p b]
@[simp] theorem State.raise_orders (s : State) (p b : Nat) : (s.raise p b).orders = s.orders := by rw [raise_rest s p b]
@[simp] theorem State.raise_freeCtr (s : State) (p b : Nat) : (s.raise p b).freeCtr = s.freeCtr := by rw [raise_rest s p b]
@[simp] theorem State.raiseIf_pending (s : State) (c : Bool) (p b : Nat) : (s.raiseIf c p b).pending = s.pending := by rw [raiseIf_rest s c p b]
@[simp] theorem State.raiseIf_shadow (s : State) (c : Bool) (p b : Nat) : (s.raiseIf c p b).shadow = s.shadow := by rw [raiseIf_rest s c p b]
@[simp] theorem State.raiseIf_seals (s : State) (c : Bool) (p b : Nat) : (s.raiseIf c p b).seals = s.seals := by rw [raiseIf_rest s c p b]
@[simp] theorem State.raiseIf_locked (s : State) (c : Bool) (p b : Nat) : (s.raiseIf c p b).locked = s.locked := by rw [raiseIf_rest s c p b]
@[simp] theorem State.raiseIf_banked (s : State) (c : Bool) (p b : Nat) : (s.raiseIf c p b).banked = s.banked := by rw [raiseIf_rest s c p b]
@[simp] theorem State.raiseIf_msixOn (s : State) (c : Bool) (p b : Nat) : (s.raiseIf c p b).msixOn = s.msixOn := by rw [raiseIf_rest s c p b]
@[simp] theorem State.raiseIf_mode (s : State) (c : Bool) (p b : Nat) : (s.raiseIf c p b).mode = s.mode := by rw [raiseIf_rest s c p b]
@[simp] theorem State.raiseIf_fuses (s : State) (c : Bool) (p b : Nat) : (s.raiseIf c p b).fuses = s.fuses := by rw [raiseIf_rest s c p b]
@[simp] theorem State.raiseIf_time (s : State) (c : Bool) (p b : Nat) : (s.raiseIf c p b).time = s.time := by rw [raiseIf_rest s c p b]
@[simp] theorem State.raiseIf_rx (s : State) (c : Bool) (p b : Nat) : (s.raiseIf c p b).rx = s.rx := by rw [raiseIf_rest s c p b]
@[simp] theorem State.raiseIf_up (s : State) (c : Bool) (p b : Nat) : (s.raiseIf c p b).up = s.up := by rw [raiseIf_rest s c p b]
@[simp] theorem State.raiseIf_join (s : State) (c : Bool) (p b : Nat) : (s.raiseIf c p b).join = s.join := by rw [raiseIf_rest s c p b]
@[simp] theorem State.raiseIf_held (s : State) (c : Bool) (p b : Nat) : (s.raiseIf c p b).held = s.held := by rw [raiseIf_rest s c p b]
@[simp] theorem State.raiseIf_cave (s : State) (c : Bool) (p b : Nat) : (s.raiseIf c p b).cave = s.cave := by rw [raiseIf_rest s c p b]
@[simp] theorem State.raiseIf_asm (s : State) (c : Bool) (p b : Nat) : (s.raiseIf c p b).asm = s.asm := by rw [raiseIf_rest s c p b]
@[simp] theorem State.raiseIf_cip (s : State) (c : Bool) (p b : Nat) : (s.raiseIf c p b).cip = s.cip := by rw [raiseIf_rest s c p b]
@[simp] theorem State.raiseIf_pk (s : State) (c : Bool) (p b : Nat) : (s.raiseIf c p b).pk = s.pk := by rw [raiseIf_rest s c p b]
@[simp] theorem State.raiseIf_tim (s : State) (c : Bool) (p b : Nat) : (s.raiseIf c p b).tim = s.tim := by rw [raiseIf_rest s c p b]
@[simp] theorem State.raiseIf_fk (s : State) (c : Bool) (p b : Nat) : (s.raiseIf c p b).fk = s.fk := by rw [raiseIf_rest s c p b]
@[simp] theorem State.raiseIf_vat (s : State) (c : Bool) (p b : Nat) : (s.raiseIf c p b).vat = s.vat := by rw [raiseIf_rest s c p b]
@[simp] theorem State.raiseIf_pwr (s : State) (c : Bool) (p b : Nat) : (s.raiseIf c p b).pwr = s.pwr := by rw [raiseIf_rest s c p b]
@[simp] theorem State.raiseIf_flt (s : State) (c : Bool) (p b : Nat) : (s.raiseIf c p b).flt = s.flt := by rw [raiseIf_rest s c p b]
@[simp] theorem State.raiseIf_boot (s : State) (c : Bool) (p b : Nat) : (s.raiseIf c p b).boot = s.boot := by rw [raiseIf_rest s c p b]
@[simp] theorem State.raiseIf_dma (s : State) (c : Bool) (p b : Nat) : (s.raiseIf c p b).dma = s.dma := by rw [raiseIf_rest s c p b]
@[simp] theorem State.raiseIf_pins (s : State) (c : Bool) (p b : Nat) : (s.raiseIf c p b).pins = s.pins := by rw [raiseIf_rest s c p b]
@[simp] theorem State.raiseIf_orders (s : State) (c : Bool) (p b : Nat) : (s.raiseIf c p b).orders = s.orders := by rw [raiseIf_rest s c p b]
@[simp] theorem State.raiseIf_freeCtr (s : State) (c : Bool) (p b : Nat) : (s.raiseIf c p b).freeCtr = s.freeCtr := by rw [raiseIf_rest s c p b]

/-! What `Only` is closed under -/

theorem Only.refl (cs : List Touch) (s : State) : Only cs s s := ⟨rfl, fun _ _ _ _ => rfl⟩

/-- A field with another number, or another copy, has another key. -/
theorem Touch.key_ne {e : Touch} {f g : Fld} {i j : Nat} (h : e.covers g j = true) (k : e.covers f i = false) : f.key i ≠ g.key j := by
  simp only [Touch.covers] at h k
  simp only [Fld.key]
  cases hc : e.copy with
  | none => simp [hc] at h k; omega
  | some n =>
    simp [hc] at h k
    intro e'
    have h1 : f.id = g.id := by omega
    have := k (h.1.trans h1.symm)
    omega

theorem Only.wr {cs : List Touch} {s t : State} {g : Fld} (v i : Nat) (h : Only cs s t) (w : smWf t.regs = true)
    (hg : cs.any (fun e => e.covers g i) = true) : Only cs s (t.wr g v i) := by
  obtain ⟨e, he, hc⟩ := List.any_eq_true.mp hg
  refine ⟨h.rest.trans rfl, fun f j hn hk => ?_⟩
  rw [State.rd_eq, State.wr_regs, rdR_wrR_ne v w (Touch.key_ne hc (hk e he))]
  exact h.rd f j hn hk

theorem Only.aside {cs : List Touch} {s t u : State} (h : Only cs s t) (w : smWf t.regs = true) (k : Aside t u) : Only cs s u :=
  ⟨h.rest.trans k.same, fun f j hc hn => (k.rd w f j hc).trans (h.rd f j hc hn)⟩

theorem Only.emit {cs : List Touch} {s t : State} (o : Out) (h : Only cs s t) : Only cs s (t.emit o) := ⟨h.rest.trans rfl, h.rd⟩

theorem Only.ite {cs : List Touch} {s t u : State} {c : Prop} [Decidable c] (h : Only cs s t) (k : Only cs s u) :
    Only cs s (if c then t else u) := by
  split <;> assumption

end Sys2Proof.Machine
end

