-- ==== Sys2Proof/Laws/Does.lean ====
section
/-! SUPPORT. What an operation can change, as one number: bit `f.id` for a register field (their numbers lie below 1000), a bit from 1000 on for each further field of the
state. `Does W s t` says that `t` differs from `s` in nothing outside `W`, and that `Keeps s t`; it is closed under what the
model builds its commands from. -/

set_option Elab.async false

namespace Sys2Proof.Machine

/-- Every bit of `a` is a bit of `b`. -/
abbrev Within (a b : Nat) : Prop := a ||| b = b

theorem Within.up {m W : Nat} (hW : Within m W) : ∀ a, Within a m → Within a W := by
  intro a h
  unfold Within at *
  rw [← hW, ← Nat.or_assoc, h]

theorem Within.ub {m W : Nat} (hW : Within m W) : ∀ i, Nat.testBit m i = true → Nat.testBit W i = true := by
  intro i h
  rw [← show m ||| W = W from hW, Nat.testBit_or, h, Bool.true_or]

/-- A mask of every register field. -/
theorem Within.full {m W : Nat} (hW : Within m W) (hm : Within ((2 ^ 250) ^ 4 - 1) m) : ∀ i, i < 1000 → Nat.testBit W i = true := by
  intro i hi
  refine hW.ub _ (hm.ub _ ?_)
  rw [← pow_mul, Nat.testBit_two_pow_sub_one]
  exact decide_eq_true hi

/-- From `s` to `t` nothing changes but what `W` names. -/
structure Does (W : Nat) (s t : State) : Prop where
  keeps : Keeps s t
  regs : smWf s.regs = true → smWf t.regs = true ∧ ∀ f i, f.id < 1000 → Nat.testBit W f.id = false → rdR t.regs f i = rdR s.regs f i
  shadow : Nat.testBit W 1000 = true ∨ t.shadow = s.shadow
  seals : Nat.testBit W 1001 = true ∨ t.seals = s.seals
  locked : Nat.testBit W 1002 = true ∨ t.locked = s.locked
  banked : Nat.testBit W 1003 = true ∨ t.banked = s.banked
  msixOn : Nat.testBit W 1004 = true ∨ t.msixOn = s.msixOn
  msixPend : Nat.testBit W 1005 = true ∨ t.msixPend = s.msixPend
  mode : Nat.testBit W 1006 = true ∨ t.mode = s.mode
  time : Nat.testBit W 1007 = true ∨ t.time = s.time
  rx : Nat.testBit W 1008 = true ∨ t.rx = s.rx
  up : Nat.testBit W 1009 = true ∨ t.up = s.up
  join : Nat.testBit W 1010 = true ∨ t.join = s.join
  held : Nat.testBit W 1011 = true ∨ t.held = s.held
  cave : Nat.testBit W 1012 = true ∨ t.cave = s.cave
  asm : Nat.testBit W 1013 = true ∨ t.asm = s.asm
  cip : Nat.testBit W 1014 = true ∨ t.cip = s.cip
  pk : Nat.testBit W 1015 = true ∨ t.pk = s.pk
  tim : Nat.testBit W 1016 = true ∨ t.tim = s.tim
  fk : Nat.testBit W 1017 = true ∨ t.fk = s.fk
  vat : Nat.testBit W 1018 = true ∨ t.vat = s.vat
  pwr : Nat.testBit W 1019 = true ∨ t.pwr = s.pwr
  flt : Nat.testBit W 1020 = true ∨ t.flt = s.flt
  boot : Nat.testBit W 1021 = true ∨ t.boot = s.boot
  dma : Nat.testBit W 1022 = true ∨ t.dma = s.dma
  pins : Nat.testBit W 1023 = true ∨ t.pins = s.pins
  orders : Nat.testBit W 1024 = true ∨ t.orders = s.orders
  out : Nat.testBit W 1025 = true ∨ t.out = s.out
  freeCtr : Nat.testBit W 1026 = true ∨ t.freeCtr = s.freeCtr

theorem or_trans' {p : Prop} {α : Type} {a b c : α} (h : p ∨ b = a) (k : p ∨ c = b) : p ∨ c = a := by
  rcases h with h | h
  · exact .inl h
  · rcases k with k | k
    · exact .inl k
    · exact .inr (k.trans h)

theorem Does.refl (W : Nat) (s : State) : Does W s s := by
  constructor
  · exact Keeps.refl s
  · exact fun w => ⟨w, fun _ _ _ _ => rfl⟩
  all_goals exact .inr rfl

theorem Does.trans {W : Nat} {a b c : State} (h : Does W a b) (k : Does W b c) : Does W a c :=
  ⟨h.keeps.trans k.keeps, fun w => ⟨(k.regs (h.regs w).1).1, fun f i hl hf => ((k.regs (h.regs w).1).2 f i hl hf).trans ((h.regs w).2 f i hl hf)⟩,
   or_trans' h.shadow k.shadow,
   or_trans' h.seals k.seals,
   or_trans' h.locked k.locked,
   or_trans' h.banked k.banked,
   or_trans' h.msixOn k.msixOn,
   or_trans' h.msixPend k.msixPend,
   or_trans' h.mode k.mode,
   or_trans' h.time k.time,
   or_trans' h.rx k.rx,
   or_trans' h.up k.up,
   or_trans' h.join k.join,
   or_trans' h.held k.held,
   or_trans' h.cave k.cave,
   or_trans' h.asm k.asm,
   or_trans' h.cip k.cip,
   or_trans' h.pk k.pk,
   or_trans' h.tim k.tim,
   or_trans' h.fk k.fk,
   or_trans' h.vat k.vat,
   or_trans' h.pwr k.pwr,
   or_trans' h.flt k.flt,
   or_trans' h.boot k.boot,
   or_trans' h.dma k.dma,
   or_trans' h.pins k.pins,
   or_trans' h.orders k.orders,
   or_trans' h.out k.out,
   or_trans' h.freeCtr k.freeCtr⟩

theorem Does.shadow_eq {W : Nat} {s t : State} (h : Does W s t) (hb : Nat.testBit W 1000 = false) : t.shadow = s.shadow := by
  rcases h.shadow with e | e
  · rw [hb] at e; cases e
  · exact e
theorem Does.seals_eq {W : Nat} {s t : State} (h : Does W s t) (hb : Nat.testBit W 1001 = false) : t.seals = s.seals := by
  rcases h.seals with e | e
  · rw [hb] at e; cases e
  · exact e
theorem Does.locked_eq {W : Nat} {s t : State} (h : Does W s t) (hb : Nat.testBit W 1002 = false) : t.locked = s.locked := by
  rcases h.locked with e | e
  · rw [hb] at e; cases e
  · exact e
theorem Does.banked_eq {W : Nat} {s t : State} (h : Does W s t) (hb : Nat.testBit W 1003 = false) : t.banked = s.banked := by
  rcases h.banked with e | e
  · rw [hb] at e; cases e
  · exact e
theorem Does.msixOn_eq {W : Nat} {s t : State} (h : Does W s t) (hb : Nat.testBit W 1004 = false) : t.msixOn = s.msixOn := by
  rcases h.msixOn with e | e
  · rw [hb] at e; cases e
  · exact e
theorem Does.msixPend_eq {W : Nat} {s t : State} (h : Does W s t) (hb : Nat.testBit W 1005 = false) : t.msixPend = s.msixPend := by
  rcases h.msixPend with e | e
  · rw [hb] at e; cases e
  · exact e
theorem Does.mode_eq {W : Nat} {s t : State} (h : Does W s t) (hb : Nat.testBit W 1006 = false) : t.mode = s.mode := by
  rcases h.mode with e | e
  · rw [hb] at e; cases e
  · exact e
theorem Does.time_eq {W : Nat} {s t : State} (h : Does W s t) (hb : Nat.testBit W 1007 = false) : t.time = s.time := by
  rcases h.time with e | e
  · rw [hb] at e; cases e
  · exact e
theorem Does.rx_eq {W : Nat} {s t : State} (h : Does W s t) (hb : Nat.testBit W 1008 = false) : t.rx = s.rx := by
  rcases h.rx with e | e
  · rw [hb] at e; cases e
  · exact e
theorem Does.up_eq {W : Nat} {s t : State} (h : Does W s t) (hb : Nat.testBit W 1009 = false) : t.up = s.up := by
  rcases h.up with e | e
  · rw [hb] at e; cases e
  · exact e
theorem Does.join_eq {W : Nat} {s t : State} (h : Does W s t) (hb : Nat.testBit W 1010 = false) : t.join = s.join := by
  rcases h.join with e | e
  · rw [hb] at e; cases e
  · exact e
theorem Does.held_eq {W : Nat} {s t : State} (h : Does W s t) (hb : Nat.testBit W 1011 = false) : t.held = s.held := by
  rcases h.held with e | e
  · rw [hb] at e; cases e
  · exact e
theorem Does.cave_eq {W : Nat} {s t : State} (h : Does W s t) (hb : Nat.testBit W 1012 = false) : t.cave = s.cave := by
  rcases h.cave with e | e
  · rw [hb] at e; cases e
  · exact e
theorem Does.asm_eq {W : Nat} {s t : State} (h : Does W s t) (hb : Nat.testBit W 1013 = false) : t.asm = s.asm := by
  rcases h.asm with e | e
  · rw [hb] at e; cases e
  · exact e
theorem Does.cip_eq {W : Nat} {s t : State} (h : Does W s t) (hb : Nat.testBit W 1014 = false) : t.cip = s.cip := by
  rcases h.cip with e | e
  · rw [hb] at e; cases e
  · exact e
theorem Does.pk_eq {W : Nat} {s t : State} (h : Does W s t) (hb : Nat.testBit W 1015 = false) : t.pk = s.pk := by
  rcases h.pk with e | e
  · rw [hb] at e; cases e
  · exact e
theorem Does.tim_eq {W : Nat} {s t : State} (h : Does W s t) (hb : Nat.testBit W 1016 = false) : t.tim = s.tim := by
  rcases h.tim with e | e
  · rw [hb] at e; cases e
  · exact e
theorem Does.fk_eq {W : Nat} {s t : State} (h : Does W s t) (hb : Nat.testBit W 1017 = false) : t.fk = s.fk := by
  rcases h.fk with e | e
  · rw [hb] at e; cases e
  · exact e
theorem Does.vat_eq {W : Nat} {s t : State} (h : Does W s t) (hb : Nat.testBit W 1018 = false) : t.vat = s.vat := by
  rcases h.vat with e | e
  · rw [hb] at e; cases e
  · exact e
theorem Does.pwr_eq {W : Nat} {s t : State} (h : Does W s t) (hb : Nat.testBit W 1019 = false) : t.pwr = s.pwr := by
  rcases h.pwr with e | e
  · rw [hb] at e; cases e
  · exact e
theorem Does.flt_eq {W : Nat} {s t : State} (h : Does W s t) (hb : Nat.testBit W 1020 = false) : t.flt = s.flt := by
  rcases h.flt with e | e
  · rw [hb] at e; cases e
  · exact e
theorem Does.boot_eq {W : Nat} {s t : State} (h : Does W s t) (hb : Nat.testBit W 1021 = false) : t.boot = s.boot := by
  rcases h.boot with e | e
  · rw [hb] at e; cases e
  · exact e
theorem Does.dma_eq {W : Nat} {s t : State} (h : Does W s t) (hb : Nat.testBit W 1022 = false) : t.dma = s.dma := by
  rcases h.dma with e | e
  · rw [hb] at e; cases e
  · exact e
theorem Does.pins_eq {W : Nat} {s t : State} (h : Does W s t) (hb : Nat.testBit W 1023 = false) : t.pins = s.pins := by
  rcases h.pins with e | e
  · rw [hb] at e; cases e
  · exact e
theorem Does.orders_eq {W : Nat} {s t : State} (h : Does W s t) (hb : Nat.testBit W 1024 = false) : t.orders = s.orders := by
  rcases h.orders with e | e
  · rw [hb] at e; cases e
  · exact e
theorem Does.out_eq {W : Nat} {s t : State} (h : Does W s t) (hb : Nat.testBit W 1025 = false) : t.out = s.out := by
  rcases h.out with e | e
  · rw [hb] at e; cases e
  · exact e
theorem Does.freeCtr_eq {W : Nat} {s t : State} (h : Does W s t) (hb : Nat.testBit W 1026 = false) : t.freeCtr = s.freeCtr := by
  rcases h.freeCtr with e | e
  · rw [hb] at e; cases e
  · exact e

/-- A register outside `W` reads as before. -/
theorem Does.rd {W : Nat} {s t : State} (h : Does W s t) (w : s.wf = true) {f : Fld} (i : Nat) (hf : Nat.testBit W f.id = false)
    (hl : f.id < 1000 := by decide) : t.rd f i = s.rd f i := (h.regs (State.wf_regs w)).2 f i hl hf

theorem Does.wf {W : Nat} {s t : State} (h : Does W s t) (w : s.wf = true) : t.wf = true := h.keeps.wf w

/-- A change of fields that `W` names. -/
theorem Does.mk' {W : Nat} {a s : State} (h : Does W a s) {shadow seals mode time rx up join held cave asm cip pk tim fk vat pwr flt boot dma pins orders}
    (hb : boot.flash = s.boot.flash)
    (h_shadow : Nat.testBit W 1000 = true ∨ shadow = s.shadow := by first | exact .inl (by with_reducible assumption) | exact .inr rfl)
    (h_seals : Nat.testBit W 1001 = true ∨ seals = s.seals := by first | exact .inl (by with_reducible assumption) | exact .inr rfl)
    (h_mode : Nat.testBit W 1006 = true ∨ mode = s.mode := by first | exact .inl (by with_reducible assumption) | exact .inr rfl)
    (h_time : Nat.testBit W 1007 = true ∨ time = s.time := by first | exact .inl (by with_reducible assumption) | exact .inr rfl)
    (h_rx : Nat.testBit W 1008 = true ∨ rx = s.rx := by first | exact .inl (by with_reducible assumption) | exact .inr rfl)
    (h_up : Nat.testBit W 1009 = true ∨ up = s.up := by first | exact .inl (by with_reducible assumption) | exact .inr rfl)
    (h_join : Nat.testBit W 1010 = true ∨ join = s.join := by first | exact .inl (by with_reducible assumption) | exact .inr rfl)
    (h_held : Nat.testBit W 1011 = true ∨ held = s.held := by first | exact .inl (by with_reducible assumption) | exact .inr rfl)
    (h_cave : Nat.testBit W 1012 = true ∨ cave = s.cave := by first | exact .inl (by with_reducible assumption) | exact .inr rfl)
    (h_asm : Nat.testBit W 1013 = true ∨ asm = s.asm := by first | exact .inl (by with_reducible assumption) | exact .inr rfl)
    (h_cip : Nat.testBit W 1014 = true ∨ cip = s.cip := by first | exact .inl (by with_reducible assumption) | exact .inr rfl)
    (h_pk : Nat.testBit W 1015 = true ∨ pk = s.pk := by first | exact .inl (by with_reducible assumption) | exact .inr rfl)
    (h_tim : Nat.testBit W 1016 = true ∨ tim = s.tim := by first | exact .inl (by with_reducible assumption) | exact .inr rfl)
    (h_fk : Nat.testBit W 1017 = true ∨ fk = s.fk := by first | exact .inl (by with_reducible assumption) | exact .inr rfl)
    (h_vat : Nat.testBit W 1018 = true ∨ vat = s.vat := by first | exact .inl (by with_reducible assumption) | exact .inr rfl)
    (h_pwr : Nat.testBit W 1019 = true ∨ pwr = s.pwr := by first | exact .inl (by with_reducible assumption) | exact .inr rfl)
    (h_flt : Nat.testBit W 1020 = true ∨ flt = s.flt := by first | exact .inl (by with_reducible assumption) | exact .inr rfl)
    (h_boot : Nat.testBit W 1021 = true ∨ boot = s.boot := by first | exact .inl (by with_reducible assumption) | exact .inr rfl)
    (h_dma : Nat.testBit W 1022 = true ∨ dma = s.dma := by first | exact .inl (by with_reducible assumption) | exact .inr rfl)
    (h_pins : Nat.testBit W 1023 = true ∨ pins = s.pins := by first | exact .inl (by with_reducible assumption) | exact .inr rfl)
    (h_orders : Nat.testBit W 1024 = true ∨ orders = s.orders := by first | exact .inl (by with_reducible assumption) | exact .inr rfl) :
    Does W a ⟨s.pending, s.regs, shadow, seals, s.locked, s.banked, s.msixOn, s.msixPend, mode, s.fuses, time, rx, up, join, held, cave, asm, cip, pk, tim, fk, vat, pwr, flt, boot, dma, pins, orders, s.freeCtr, s.out⟩ :=
  ⟨Keeps.mk' h.keeps hb, h.regs, or_trans' h.shadow h_shadow, or_trans' h.seals h_seals, h.locked, h.banked, h.msixOn, h.msixPend, or_trans' h.mode h_mode, or_trans' h.time h_time, or_trans' h.rx h_rx, or_trans' h.up h_up, or_trans' h.join h_join, or_trans' h.held h_held, or_trans' h.cave h_cave, or_trans' h.asm h_asm, or_trans' h.cip h_cip, or_trans' h.pk h_pk, or_trans' h.tim h_tim, or_trans' h.fk h_fk, or_trans' h.vat h_vat, or_trans' h.pwr h_pwr, or_trans' h.flt h_flt, or_trans' h.boot h_boot, or_trans' h.dma h_dma, or_trans' h.pins h_pins, or_trans' h.orders h_orders, h.out, h.freeCtr⟩

/-- Any change that `Keeps` allows and that touches the register file and the fields named. -/
theorem Does.tables {W : Nat} {a s t : State} (h : Does W a s) (k : Keeps s t)
    (r : smWf s.regs = true → smWf t.regs = true ∧ ∀ f i, f.id < 1000 → Nat.testBit W f.id = false → rdR t.regs f i = rdR s.regs f i)
    (h_shadow : Nat.testBit W 1000 = true ∨ t.shadow = s.shadow := by first | exact .inl (by with_reducible assumption) | exact .inr rfl)
    (h_seals : Nat.testBit W 1001 = true ∨ t.seals = s.seals := by first | exact .inl (by with_reducible assumption) | exact .inr rfl)
    (h_locked : Nat.testBit W 1002 = true ∨ t.locked = s.locked := by first | exact .inl (by with_reducible assumption) | exact .inr rfl)
    (h_banked : Nat.testBit W 1003 = true ∨ t.banked = s.banked := by first | exact .inl (by with_reducible assumption) | exact .inr rfl)
    (h_msixOn : Nat.testBit W 1004 = true ∨ t.msixOn = s.msixOn := by first | exact .inl (by with_reducible assumption) | exact .inr rfl)
    (h_msixPend : Nat.testBit W 1005 = true ∨ t.msixPend = s.msixPend := by first | exact .inl (by with_reducible assumption) | exact .inr rfl)
    (h_mode : Nat.testBit W 1006 = true ∨ t.mode = s.mode := by first | exact .inl (by with_reducible assumption) | exact .inr rfl)
    (h_time : Nat.testBit W 1007 = true ∨ t.time = s.time := by first | exact .inl (by with_reducible assumption) | exact .inr rfl)
    (h_rx : Nat.testBit W 1008 = true ∨ t.rx = s.rx := by first | exact .inl (by with_reducible assumption) | exact .inr rfl)
    (h_up : Nat.testBit W 1009 = true ∨ t.up = s.up := by first | exact .inl (by with_reducible assumption) | exact .inr rfl)
    (h_join : Nat.testBit W 1010 = true ∨ t.join = s.join := by first | exact .inl (by with_reducible assumption) | exact .inr rfl)
    (h_held : Nat.testBit W 1011 = true ∨ t.held = s.held := by first | exact .inl (by with_reducible assumption) | exact .inr rfl)
    (h_cave : Nat.testBit W 1012 = true ∨ t.cave = s.cave := by first | exact .inl (by with_reducible assumption) | exact .inr rfl)
    (h_asm : Nat.testBit W 1013 = true ∨ t.asm = s.asm := by first | exact .inl (by with_reducible assumption) | exact .inr rfl)
    (h_cip : Nat.testBit W 1014 = true ∨ t.cip = s.cip := by first | exact .inl (by with_reducible assumption) | exact .inr rfl)
    (h_pk : Nat.testBit W 1015 = true ∨ t.pk = s.pk := by first | exact .inl (by with_reducible assumption) | exact .inr rfl)
    (h_tim : Nat.testBit W 1016 = true ∨ t.tim = s.tim := by first | exact .inl (by with_reducible assumption) | exact .inr rfl)
    (h_fk : Nat.testBit W 1017 = true ∨ t.fk = s.fk := by first | exact .inl (by with_reducible assumption) | exact .inr rfl)
    (h_vat : Nat.testBit W 1018 = true ∨ t.vat = s.vat := by first | exact .inl (by with_reducible assumption) | exact .inr rfl)
    (h_pwr : Nat.testBit W 1019 = true ∨ t.pwr = s.pwr := by first | exact .inl (by with_reducible assumption) | exact .inr rfl)
    (h_flt : Nat.testBit W 1020 = true ∨ t.flt = s.flt := by first | exact .inl (by with_reducible assumption) | exact .inr rfl)
    (h_boot : Nat.testBit W 1021 = true ∨ t.boot = s.boot := by first | exact .inl (by with_reducible assumption) | exact .inr rfl)
    (h_dma : Nat.testBit W 1022 = true ∨ t.dma = s.dma := by first | exact .inl (by with_reducible assumption) | exact .inr rfl)
    (h_pins : Nat.testBit W 1023 = true ∨ t.pins = s.pins := by first | exact .inl (by with_reducible assumption) | exact .inr rfl)
    (h_orders : Nat.testBit W 1024 = true ∨ t.orders = s.orders := by first | exact .inl (by with_reducible assumption) | exact .inr rfl)
    (h_out : Nat.testBit W 1025 = true ∨ t.out = s.out := by first | exact .inl (by with_reducible assumption) | exact .inr rfl)
    (h_freeCtr : Nat.testBit W 1026 = true ∨ t.freeCtr = s.freeCtr := by first | exact .inl (by with_reducible assumption) | exact .inr rfl) :
    Does W a t :=
  h.trans ⟨k, r, h_shadow, h_seals, h_locked, h_banked, h_msixOn, h_msixPend, h_mode, h_time, h_rx, h_up, h_join, h_held, h_cave, h_asm, h_cip, h_pk, h_tim, h_fk, h_vat, h_pwr, h_flt, h_boot, h_dma, h_pins, h_orders, h_out, h_freeCtr⟩

theorem Does.ite {W : Nat} {a s t : State} {c : Prop} [Decidable c] (h : Does W a s) (k : Does W a t) : Does W a (if c then s else t) := by
  split <;> assumption

theorem Does.foldl {W : Nat} {α : Type} {a : State} {f : State → α → State} (hf : ∀ t x, Does W a t → Does W a (f t x)) :
    ∀ (l : List α) (s : State), Does W a s → Does W a (l.foldl f s)
  | [], _, h => h
  | x :: l, s, h => Does.foldl hf l (f s x) (hf s x h)

/-- A fold whose function is only asked of the list's members. -/
theorem Does.foldl_mem {W : Nat} {α : Type} {a : State} {f : State → α → State} :
    ∀ (l : List α) (s : State), (∀ t x, x ∈ l → Does W a t → Does W a (f t x)) → Does W a s → Does W a (l.foldl f s)
  | [], _, _, h => h
  | x :: l, s, hf, h => Does.foldl_mem l (f s x) (fun t y hy => hf t y (List.mem_cons_of_mem _ hy)) (hf s x List.mem_cons_self h)

theorem Does.foldl_snd {W : Nat} {α β : Type} {a : State} {f : β × State → α → β × State}
    (hf : ∀ p x, Does W a p.2 → Does W a (f p x).2) : ∀ (l : List α) (p : β × State), Does W a p.2 → Does W a (l.foldl f p).2
  | [], _, h => h
  | x :: l, p, h => Does.foldl_snd hf l (f p x) (hf p x h)

theorem Does.foldl_snd2 {W : Nat} {α β γ : Type} {a : State} {f : β × γ × State → α → β × γ × State}
    (hf : ∀ p x, Does W a p.2.2 → Does W a (f p x).2.2) :
    ∀ (l : List α) (p : β × γ × State), Does W a p.2.2 → Does W a (l.foldl f p).2.2
  | [], _, h => h
  | x :: l, p, h => Does.foldl_snd2 hf l (f p x) (hf p x h)

theorem Does.foldl_fst {W : Nat} {α β : Type} {a : State} {f : State × β → α → State × β}
    (hf : ∀ p x, Does W a p.1 → Does W a (f p x).1) : ∀ (l : List α) (p : State × β), Does W a p.1 → Does W a (l.foldl f p).1
  | [], _, h => h
  | x :: l, p, h => Does.foldl_fst hf l (f p x) (hf p x h)

theorem Does.snd2 {W : Nat} {α β : Type} {a t : State} {x : α} {y : β} {p : α × β × State} (e : p = (x, y, t)) (h : Does W a p.2.2) :
    Does W a t := by rw [e] at h; exact h

theorem Does.snd {W : Nat} {α : Type} {a t : State} {x : α} {p : α × State} (e : p = (x, t)) (h : Does W a p.2) : Does W a t := by
  rw [e] at h; exact h

theorem Does.fst {W : Nat} {α : Type} {a t : State} {x : α} {p : State × α} (e : p = (t, x)) (h : Does W a p.1) : Does W a t := by
  rw [e] at h; exact h

/-- An optional state that a choice gives. -/
theorem Does.oite {W : Nat} {a : State} {c : Prop} [Decidable c] {p q : Option State} (hp : ∀ r, p = some r → Does W a r)
    (hq : ∀ r, q = some r → Does W a r) : ∀ r, (if c then p else q) = some r → Does W a r := by
  split <;> assumption

theorem Does.osome {W : Nat} {a s : State} (h : Does W a s) : ∀ r, some s = some r → Does W a r := by
  rintro _ ⟨⟩; exact h

theorem Does.onone {W : Nat} {a : State} : ∀ r, (none : Option State) = some r → Does W a r := by
  rintro _ ⟨⟩

theorem forEach_does {W : Nat} {α : Type} {a : State} {f : State → α → State} (l : List α) (s : State) (h : Does W a s)
    (hf : ∀ t x, Does W a t → Does W a (f t x)) : Does W a (forEach l s f) := Does.foldl hf l s h

theorem State.when_does {W : Nat} {a s : State} {f : State → State} (b : Bool) (h : Does W a s)
    (hf : ∀ t, Does W a t → Does W a (f t)) : Does W a (s.when_ b f) := by
  unfold State.when_; split
  · exact hf s h
  · exact h

theorem State.wr_does {W : Nat} {a s : State} {f : Fld} (v i : Nat) (h : Does W a s) (hf : f.id < 1000 → Nat.testBit W f.id = true) :
    Does W a (s.wr f v i) := by
  refine h.tables (State.wr_keeps f v i (Keeps.refl s)) fun w => ⟨wrR_wf _ _ _ w, fun g j hl hg => rdR_wrR_ne v w (Fld.key_ne ?_)⟩
  intro e
  rw [e, hf (e ▸ hl)] at hg
  cases hg

theorem State.emit_does {W : Nat} {a s : State} (o : Out) (h : Does W a s) (ho : Nat.testBit W 1025 = true) : Does W a (s.emit o) :=
  h.tables (State.emit_keeps o (Keeps.refl s)) fun w => ⟨w, fun _ _ _ _ => rfl⟩

theorem State.fresh_does {W : Nat} {a s : State} (h : Does W a s) (ho : Nat.testBit W 1026 = true) : Does W a s.fresh.2 :=
  h.tables (State.fresh_keeps (Keeps.refl s)) fun w => ⟨w, fun _ _ _ _ => rfl⟩

end Sys2Proof.Machine
end

