-- ==== Sys2Proof/Laws/DOps.lean ====
section
/-! SUPPORT. What the operations of Ops can change. -/

set_option linter.unreachableTactic false
set_option linter.unusedTactic false
set_option linter.unusedVariables false
set_option Elab.async false

namespace Sys2Proof.Machine

theorem State.wrS_does {W : Nat} {o : State} {s : State} (x1 : Fld) (x2 : Int) (x3 : Nat) (hW : Within 0x0 W) (h : Does W o s) (bx1 : x1.id < 1000 → Nat.testBit W x1.id = true) :
    Does W o (State.wrS s x1 x2 x3) := by
  have up := hW.up
  have ub := hW.ub
  unfold State.wrS
  repeat' first
    | with_reducible assumption
    | exact up _ (by decide)
    | exact ub _ (by decide)
    | exact fun _ => ub _ (by decide)
    | intro _
    | with_reducible (apply State.wr_does)
    | with_reducible (apply Does.ite)
    | (fail_if_no_progress extract_lets)
    | (fail_if_no_progress (with_reducible refine Does.mk' ?_ (by with_reducible rfl)))

theorem State.flag_does {W : Nat} {o : State} {s : State} (x1 : Fld) (x2 : Bool) (x3 : Nat) (hW : Within 0x0 W) (h : Does W o s) (bx1 : x1.id < 1000 → Nat.testBit W x1.id = true) :
    Does W o (State.flag s x1 x2 x3) := by
  have up := hW.up
  have ub := hW.ub
  unfold State.flag
  repeat' first
    | with_reducible assumption
    | exact up _ (by decide)
    | exact ub _ (by decide)
    | exact fun _ => ub _ (by decide)
    | intro _
    | with_reducible (apply State.wr_does)
    | with_reducible (apply Does.ite)
    | (fail_if_no_progress extract_lets)
    | (fail_if_no_progress (with_reducible refine Does.mk' ?_ (by with_reducible rfl)))

theorem State.inc_does {W : Nat} {o : State} {s : State} (x1 : Fld) (x2 : Nat) (x3 : Nat) (hW : Within 0x0 W) (h : Does W o s) (bx1 : x1.id < 1000 → Nat.testBit W x1.id = true) :
    Does W o (State.inc s x1 x2 x3) := by
  have up := hW.up
  have ub := hW.ub
  unfold State.inc
  repeat' first
    | with_reducible assumption
    | exact up _ (by decide)
    | exact ub _ (by decide)
    | exact fun _ => ub _ (by decide)
    | intro _
    | with_reducible (apply State.wr_does)
    | with_reducible (apply Does.ite)
    | (fail_if_no_progress extract_lets)
    | (fail_if_no_progress (with_reducible refine Does.mk' ?_ (by with_reducible rfl)))

theorem State.incSat_does {W : Nat} {o : State} {s : State} (x1 : Fld) (x2 : Nat) (x3 : Nat) (hW : Within 0x0 W) (h : Does W o s) (bx1 : x1.id < 1000 → Nat.testBit W x1.id = true) :
    Does W o (State.incSat s x1 x2 x3) := by
  have up := hW.up
  have ub := hW.ub
  unfold State.incSat
  repeat' first
    | with_reducible assumption
    | exact up _ (by decide)
    | exact ub _ (by decide)
    | exact fun _ => ub _ (by decide)
    | intro _
    | with_reducible (apply State.wr_does)
    | with_reducible (apply Does.ite)
    | (fail_if_no_progress extract_lets)
    | (fail_if_no_progress (with_reducible refine Does.mk' ?_ (by with_reducible rfl)))

theorem State.wr64_does {W : Nat} {o : State} {s : State} (x1 : Fld) (x2 : Fld) (x3 : Nat) (x4 : Nat) (hW : Within 0x0 W) (h : Does W o s) (bx1 : x1.id < 1000 → Nat.testBit W x1.id = true) (bx2 : x2.id < 1000 → Nat.testBit W x2.id = true) :
    Does W o (State.wr64 s x1 x2 x3 x4) := by
  have up := hW.up
  have ub := hW.ub
  unfold State.wr64
  repeat' first
    | with_reducible assumption
    | exact up _ (by decide)
    | exact ub _ (by decide)
    | exact fun _ => ub _ (by decide)
    | intro _
    | with_reducible (apply State.wr_does)
    | with_reducible (apply Does.ite)
    | (fail_if_no_progress extract_lets)
    | (fail_if_no_progress (with_reducible refine Does.mk' ?_ (by with_reducible rfl)))

theorem State.inc64_does {W : Nat} {o : State} {s : State} (x1 : Fld) (x2 : Fld) (x3 : Nat) (x4 : Nat) (hW : Within 0x0 W) (h : Does W o s) (bx1 : x1.id < 1000 → Nat.testBit W x1.id = true) (bx2 : x2.id < 1000 → Nat.testBit W x2.id = true) :
    Does W o (State.inc64 s x1 x2 x3 x4) := by
  have up := hW.up
  have ub := hW.ub
  unfold State.inc64
  repeat' first
    | with_reducible assumption
    | exact up _ (by decide)
    | exact ub _ (by decide)
    | exact fun _ => ub _ (by decide)
    | intro _
    | with_reducible (apply State.wr64_does)
    | with_reducible (apply Does.ite)
    | (fail_if_no_progress extract_lets)
    | (fail_if_no_progress (with_reducible refine Does.mk' ?_ (by with_reducible rfl)))

theorem State.wrFree_does {W : Nat} {o : State} {s : State} (x1 : Fld) (x2 : Nat) (hW : Within 0x40000000000000000000000000000000000000000000000000000000000000000000000000000000000000000000000000000000000000000000000000000000000000000000000000000000000000000000000000000000000000000000000000000000000000000000000000000000000000000000000000000000000000000 W) (h : Does W o s) (bx1 : x1.id < 1000 → Nat.testBit W x1.id = true) :
    Does W o (State.wrFree s x1 x2) := by
  have up := hW.up
  have ub := hW.ub
  unfold State.wrFree
  repeat' first
    | with_reducible assumption
    | exact up _ (by decide)
    | exact ub _ (by decide)
    | exact fun _ => ub _ (by decide)
    | intro _
    | with_reducible (apply State.wr_does)
    | with_reducible (apply State.fresh_does)
    | with_reducible (apply Does.ite)
    | (fail_if_no_progress extract_lets)
    | (fail_if_no_progress (with_reducible refine Does.mk' ?_ (by with_reducible rfl)))

theorem State.advance_does {W : Nat} {o : State} {s : State} (x1 : Nat) (hW : Within 0x800000000000000000000000000000000000000000000000000000000000000000000000000000000000000000000000000000000000000000000000000000000000000000000000000000000000000000000000000000000000000000000000000000000000000000000000000000000000000000000000000000200000 W) (h : Does W o s) :
    Does W o (State.advance s x1) := by
  have up := hW.up
  have ub := hW.ub
  have b1007 := ub 1007 (by decide)
  unfold State.advance
  repeat' first
    | with_reducible assumption
    | exact up _ (by decide)
    | exact ub _ (by decide)
    | exact fun _ => ub _ (by decide)
    | intro _
    | with_reducible (apply State.wr_does)
    | with_reducible (apply Does.ite)
    | (fail_if_no_progress extract_lets)
    | (fail_if_no_progress (with_reducible refine Does.mk' ?_ (by with_reducible rfl)))

theorem State.setInt_does {W : Nat} {o : State} {s : State} (x1 : Nat) (x2 : Nat) (hW : Within 0x10000000000000000000000000000000000000000000000000000000000000000000000000000000000000000000000000000000000000000000000000000000000000000000000000000 W) (h : Does W o s) :
    Does W o (State.setInt s x1 x2) := by
  have up := hW.up
  have ub := hW.ub
  unfold State.setInt
  repeat' first
    | with_reducible assumption
    | exact up _ (by decide)
    | exact ub _ (by decide)
    | exact fun _ => ub _ (by decide)
    | intro _
    | with_reducible (apply State.wr_does)
    | with_reducible (apply Does.ite)
    | (fail_if_no_progress extract_lets)
    | (fail_if_no_progress (with_reducible refine Does.mk' ?_ (by with_reducible rfl)))

theorem State.sendMsix_does {W : Nat} {o : State} {s : State} (x1 : Nat) (hW : Within 0x20000200000000000000000000000000000000000000000000000000000000000000000000000000000000000000000000000000000000000000000000000000000000000000000000000000000000000000000000000000000000000000000000000000000000000000000000000000000000000000000000000000000000000 W) (h : Does W o s) :
    Does W o (State.sendMsix s x1) := by
  have up := hW.up
  have ub := hW.ub
  have b1005 := ub 1005 (by decide)
  unfold State.sendMsix
  split
  · exact h
  · extract_lets
    split
    · exact State.emit_does _ h (ub _ (by decide))
    · refine h.tables (Keeps.tables (Keeps.refl s) rfl rfl rfl rfl fun w => ?_) fun w => ⟨w, fun _ _ _ _ => rfl⟩
      simp only [State.wf, Bool.and_eq_true] at w ⊢
      exact ⟨⟨w.1.1, smSet_wf _ _ _ w.1.2⟩, w.2⟩

theorem State.raise0_does {W : Nat} {o : State} {s : State} (x1 : Nat) (x2 : Nat) (hW : Within 0x20000200000000000000000000000000000000000000000000000000000000000000000000000000000000000000000000000000000010000000000000000000000000000000000000000000000000000000000000000000000000000000000000000000000000000000000000000000000000000000000000000000000000000 W) (h : Does W o s) :
    Does W o (State.raise0 s x1 x2) := by
  have up := hW.up
  have ub := hW.ub
  unfold State.raise0
  repeat' first
    | with_reducible assumption
    | exact up _ (by decide)
    | exact ub _ (by decide)
    | exact fun _ => ub _ (by decide)
    | intro _
    | with_reducible (apply State.setInt_does)
    | with_reducible (apply State.sendMsix_does)
    | with_reducible (apply Does.ite)
    | (fail_if_no_progress extract_lets)
    | (fail_if_no_progress (with_reducible refine Does.mk' ?_ (by with_reducible rfl)))

theorem State.perfSample_does {W : Nat} {o : State} {s : State} (x1 : Nat) (hW : Within 0x20000200000000000000000000000000000000000000000000000000001800000020000000000000000000000000000000000000000010000001000000000000000000000000000000000000000000000000000000000000000000000000000000000000000000000000000000000000000000000000000000000000000000000 W) (h : Does W o s) :
    Does W o (State.perfSample s x1) := by
  have up := hW.up
  have ub := hW.ub
  unfold State.perfSample
  repeat' first
    | with_reducible assumption
    | exact up _ (by decide)
    | exact ub _ (by decide)
    | exact fun _ => ub _ (by decide)
    | intro _
    | with_reducible (apply State.wr_does)
    | with_reducible (apply State.raise0_does)
    | with_reducible (apply Does.ite)
    | (fail_if_no_progress extract_lets)
    | (fail_if_no_progress (with_reducible refine Does.mk' ?_ (by with_reducible rfl)))

theorem State.perfOvf_does {W : Nat} {o : State} {s : State} (x1 : Nat) (x2 : Nat) (hW : Within 0x20000200000000000000000000000000000000000000000000000000001800000030000000000000000000000000000000000000000010000001000000000000000000000000000000000000000000000000000000000000000000000000000000000000000000000000000000000000000000000000000000000000000000000 W) (h : Does W o s) :
    Does W o (State.perfOvf s x1 x2) := by
  have up := hW.up
  have ub := hW.ub
  unfold State.perfOvf
  repeat' first
    | with_reducible assumption
    | exact up _ (by decide)
    | exact ub _ (by decide)
    | exact fun _ => ub _ (by decide)
    | intro _
    | with_reducible (apply State.wr_does)
    | with_reducible (apply State.perfSample_does)
    | with_reducible (apply Does.ite)
    | (fail_if_no_progress extract_lets)
    | (fail_if_no_progress (with_reducible refine Does.mk' ?_ (by with_reducible rfl)))

theorem State.perfSet_does {W : Nat} {o : State} {s : State} (x1 : Nat) (x2 : Nat) (x3 : Nat) (hW : Within 0x3000000000000000000000000000000000000000000000000000000000000000000000000000000000000000000000000000000000000000000000000000000000000000000000000000000000000000000000000000000000000000000000000 W) (h : Does W o s) :
    Does W o (State.perfSet s x1 x2 x3) := by
  have up := hW.up
  have ub := hW.ub
  unfold State.perfSet
  repeat' first
    | with_reducible assumption
    | exact up _ (by decide)
    | exact ub _ (by decide)
    | exact fun _ => ub _ (by decide)
    | intro _
    | with_reducible (apply State.wr64_does)
    | with_reducible (apply Does.ite)
    | (fail_if_no_progress extract_lets)
    | (fail_if_no_progress (with_reducible refine Does.mk' ?_ (by with_reducible rfl)))

theorem State.perfWrapped_does {W : Nat} {o : State} {s : State} (x1 : Nat) (x2 : Nat) (hW : Within 0x20000200000000000000000000000000000000000000000000000000001800003030000000000000000000000000000000000000000010000001000000000000000000000000000000000000000000000000000000000000000000000000000000000000000000000000000000000000000000000000000000000000000000000 W) (h : Does W o s) :
    Does W o (State.perfWrapped s x1 x2) := by
  have up := hW.up
  have ub := hW.ub
  unfold State.perfWrapped
  repeat' first
    | with_reducible assumption
    | exact up _ (by decide)
    | exact ub _ (by decide)
    | exact fun _ => ub _ (by decide)
    | intro _
    | with_reducible (apply State.perfSet_does)
    | with_reducible (apply State.perfOvf_does)
    | with_reducible (apply Does.ite)
    | (fail_if_no_progress extract_lets)
    | (fail_if_no_progress (with_reducible refine Does.mk' ?_ (by with_reducible rfl)))

theorem State.perfAdd_does {W : Nat} {o : State} {s : State} (x1 : Nat) (x2 : Nat) (x3 : Nat) (hW : Within 0x20000200000000000000000000000000000000000000000000000000001800003030000000000000000000000000000000000000000010000001000000000000000000000000000000000000000000000000000000000000000000000000000000000000000000000000000000000000000000000000000000000000000000000 W) (h : Does W o s) :
    Does W o (State.perfAdd s x1 x2 x3) := by
  have up := hW.up
  have ub := hW.ub
  unfold State.perfAdd
  repeat' first
    | with_reducible assumption
    | exact up _ (by decide)
    | exact ub _ (by decide)
    | exact fun _ => ub _ (by decide)
    | intro _
    | with_reducible (apply State.perfSet_does)
    | with_reducible (apply State.perfWrapped_does)
    | with_reducible (apply Does.ite)
    | (fail_if_no_progress extract_lets)
    | (fail_if_no_progress (with_reducible refine Does.mk' ?_ (by with_reducible rfl)))

theorem State.perfTick_does {W : Nat} {o : State} {s : State} (x1 : Nat) (x2 : Nat) (x3 : Nat) (x4 : Nat) (hW : Within 0x20000200000000000000000000000000000000000000000000000000001800003030000000000000000000000000000000000000000010000001000000000000000000000000000000000000000000000000000000000000000000000000000000000000000000000000000000000000000000000000000000000000000000000 W) (h : Does W o s) :
    Does W o (State.perfTick s x1 x2 x3 x4) := by
  have up := hW.up
  have ub := hW.ub
  unfold State.perfTick
  repeat' first
    | with_reducible assumption
    | exact up _ (by decide)
    | exact ub _ (by decide)
    | exact fun _ => ub _ (by decide)
    | intro _
    | with_reducible (apply State.perfAdd_does)
    | with_reducible (apply Does.ite)
    | (fail_if_no_progress extract_lets)
    | (fail_if_no_progress (with_reducible refine Does.mk' ?_ (by with_reducible rfl)))

theorem State.perf_does {W : Nat} {o : State} {s : State} (x1 : Nat) (x2 : Nat) (x3 : Nat) (hW : Within 0x20000200000000000000000000000000000000000000000000000000001800003030000000000000000000000000000000000000000010000001000000000000000000000000000000000000000000000000000000000000000000000000000000000000000000000000000000000000000000000000000000000000000000000 W) (h : Does W o s) :
    Does W o (State.perf s x1 x2 x3) := by
  have up := hW.up
  have ub := hW.ub
  unfold State.perf
  repeat' first
    | with_reducible assumption
    | exact up _ (by decide)
    | exact ub _ (by decide)
    | exact fun _ => ub _ (by decide)
    | intro _
    | with_reducible (apply State.perfTick_does)
    | with_reducible (apply Does.ite)
    | with_reducible (apply Does.foldl)
    | (fail_if_no_progress extract_lets)
    | (fail_if_no_progress (with_reducible refine Does.mk' ?_ (by with_reducible rfl)))
    | split
    | dsimp +zetaDelta only

theorem State.raise_does {W : Nat} {o : State} {s : State} (x1 : Nat) (x2 : Nat) (hW : Within 0x20000200000000000000000000000000000000000000000000000000001800003030000000000000000000000000000000000000000010000001000000000000000000000000000000000000000000000000000000000000000000000000000000000000000000000000000000000000000000000000000000000000000000000 W) (h : Does W o s) :
    Does W o (State.raise s x1 x2) := by
  have up := hW.up
  have ub := hW.ub
  unfold State.raise
  repeat' first
    | with_reducible assumption
    | exact up _ (by decide)
    | exact ub _ (by decide)
    | exact fun _ => ub _ (by decide)
    | intro _
    | with_reducible (apply State.perf_does)
    | with_reducible (apply State.raise0_does)
    | with_reducible (apply Does.ite)
    | (fail_if_no_progress extract_lets)
    | (fail_if_no_progress (with_reducible refine Does.mk' ?_ (by with_reducible rfl)))

theorem State.raiseIf_does {W : Nat} {o : State} {s : State} (x1 : Bool) (x2 : Nat) (x3 : Nat) (hW : Within 0x20000200000000000000000000000000000000000000000000000000001800003030000000000000000000000000000000000000000010000001000000000000000000000000000000000000000000000000000000000000000000000000000000000000000000000000000000000000000000000000000000000000000000000 W) (h : Does W o s) :
    Does W o (State.raiseIf s x1 x2 x3) := by
  have up := hW.up
  have ub := hW.ub
  unfold State.raiseIf
  repeat' first
    | with_reducible assumption
    | exact up _ (by decide)
    | exact ub _ (by decide)
    | exact fun _ => ub _ (by decide)
    | intro _
    | with_reducible (apply State.raise_does)
    | with_reducible (apply Does.ite)
    | (fail_if_no_progress extract_lets)
    | (fail_if_no_progress (with_reducible refine Does.mk' ?_ (by with_reducible rfl)))

theorem State.setLtState_does {W : Nat} {o : State} {s : State} (x1 : Nat) (hW : Within 0x20000200000000000000000000000000000000000000000000000000001800003030000000000000000000000000000000000000000010000001000000000000000000000000000000000000000000000000000000000000000000000000000000000000000000000000000000000000000000000000000000000000000040000 W) (h : Does W o s) :
    Does W o (State.setLtState s x1) := by
  have up := hW.up
  have ub := hW.ub
  unfold State.setLtState
  repeat' first
    | with_reducible assumption
    | exact up _ (by decide)
    | exact ub _ (by decide)
    | exact fun _ => ub _ (by decide)
    | intro _
    | with_reducible (apply State.raiseIf_does)
    | with_reducible (apply State.wr_does)
    | with_reducible (apply Does.ite)
    | (fail_if_no_progress extract_lets)
    | (fail_if_no_progress (with_reducible refine Does.mk' ?_ (by with_reducible rfl)))

theorem State.won_does {W : Nat} {o : State} {s : State} (x1 : Nat) (x2 : Nat) (x3 : Nat) (hW : Within 0x10000000000000000000000000000000000000000000000000000000000000000000000000000000000000000000000000000000000000000000000000000000000000000000000000000000000000000000000000000000000000000000000000000000000000000000000000000000000000000000000000000000000000000 W) (h : Does W o s) :
    Does W o (State.won s x1 x2 x3) := by
  have up := hW.up
  have ub := hW.ub
  have b1024 := ub 1024 (by decide)
  unfold State.won
  repeat' first
    | with_reducible assumption
    | exact up _ (by decide)
    | exact ub _ (by decide)
    | exact fun _ => ub _ (by decide)
    | intro _
    | with_reducible (apply Does.ite)
    | (fail_if_no_progress extract_lets)
    | (fail_if_no_progress (with_reducible refine Does.mk' ?_ (by with_reducible rfl)))

theorem State.serveAll_does {W : Nat} {o : State} {s : State} (x1 : Nat) (x2 : Nat) (x3 : List Nat) (hW : Within 0x10000000000000000000000000000000000000000000000000000000000000000000000000000000000000000000000000000000000000000000000000000000000000000000000000000000000000000000000000000000000000000000000000000000000000000000000000000000000000000000000000000000000000000 W) (h : Does W o s) :
    Does W o (State.serveAll s x1 x2 x3).2 := by
  have up := hW.up
  have ub := hW.ub
  unfold State.serveAll
  repeat' first
    | with_reducible assumption
    | exact up _ (by decide)
    | exact ub _ (by decide)
    | exact fun _ => ub _ (by decide)
    | intro _
    | with_reducible (apply State.won_does)
    | with_reducible (apply Does.ite)
    | with_reducible (apply Does.foldl)
    | (fail_if_no_progress extract_lets)
    | (fail_if_no_progress (with_reducible refine Does.mk' ?_ (by with_reducible rfl)))
    | split
    | dsimp +zetaDelta only

end Sys2Proof.Machine
end

