-- ==== Sys2Proof/Laws/DFaults.lean ====
section
/-! SUPPORT. What the operations of Faults can change. -/

set_option linter.unreachableTactic false
set_option linter.unusedTactic false
set_option linter.unusedVariables false
set_option Elab.async false

namespace Sys2Proof.Machine

theorem State.updTxdis_does {W : Nat} {o : State} {s : State} (hW : Within 0x8000000000000000000000000000000000000000000000000000000000000000000000000000000000000000000000000000000000000000000000000000000000000000000000000000000000000000000000000000000000000000000000000000000000000000000000000000000000000000000000000000000000000000 W) (h : Does W o s) :
    Does W o (State.updTxdis s) := by
  have up := hW.up
  have ub := hW.ub
  have b1023 := ub 1023 (by decide)
  unfold State.updTxdis
  repeat' first
    | with_reducible assumption
    | exact up _ (by decide)
    | exact ub _ (by decide)
    | exact fun _ => ub _ (by decide)
    | intro _
    | with_reducible (apply Does.ite)
    | (fail_if_no_progress extract_lets)
    | (fail_if_no_progress (with_reducible refine Does.mk' ?_ (by with_reducible rfl)))

theorem State.assertTxdis_does {W : Nat} {o : State} {s : State} (hW : Within 0x8000000000000000000000000000000000000000000000000000000000000000000000000000000000000000000000000000000000000000000000000000000000000000000000000000000000000000000000000000000000000000000000000000000000000000000000000000000000000000000000000000000000000000 W) (h : Does W o s) :
    Does W o (State.assertTxdis s) := by
  have up := hW.up
  have ub := hW.ub
  have b1023 := ub 1023 (by decide)
  unfold State.assertTxdis
  repeat' first
    | with_reducible assumption
    | exact up _ (by decide)
    | exact ub _ (by decide)
    | exact fun _ => ub _ (by decide)
    | intro _
    | with_reducible (apply Does.ite)
    | (fail_if_no_progress extract_lets)
    | (fail_if_no_progress (with_reducible refine Does.mk' ?_ (by with_reducible rfl)))

theorem State.setOwn_does {W : Nat} {o : State} {s : State} (x1 : Bool) (x2 : Nat) (x3 : Own) (hW : Within 0x10000000000000000000000000000000000000000000000000000000000000000000000000000000000000000000000000000000000000000000000000000000000000000000000000000000000000000000000000000000000000000000000000000000000000000000000000000000000000000000000000000000000000 W) (h : Does W o s) :
    Does W o (State.setOwn s x1 x2 x3) := by
  have up := hW.up
  have ub := hW.ub
  have b1012 := ub 1012 (by decide)
  unfold State.setOwn
  repeat' first
    | with_reducible assumption
    | exact up _ (by decide)
    | exact ub _ (by decide)
    | exact fun _ => ub _ (by decide)
    | intro _
    | with_reducible (apply Does.ite)
    | (fail_if_no_progress extract_lets)
    | (fail_if_no_progress (with_reducible refine Does.mk' ?_ (by with_reducible rfl)))

theorem State.relink_does {W : Nat} {o : State} {s : State} (x1 : List (Bool × Nat)) (hW : Within 0x10000000000000000000000000000000000000000000000000000000000000000000000000000000000000000000000000000000000000000000000000000000000000000000000000000000000000000000000000000000000000000000000000000000000000000000000000000000000000000000000000000000000000 W) (h : Does W o s) :
    Does W o (State.relink s x1) := by
  have up := hW.up
  have ub := hW.ub
  unfold State.relink
  repeat' first
    | with_reducible assumption
    | exact up _ (by decide)
    | exact ub _ (by decide)
    | exact fun _ => ub _ (by decide)
    | intro _
    | with_reducible (apply State.setOwn_does)
    | with_reducible (apply Does.ite)
    | with_reducible (apply Does.foldl)
    | (fail_if_no_progress extract_lets)
    | (fail_if_no_progress (with_reducible refine Does.mk' ?_ (by with_reducible rfl)))
    | split
    | dsimp +zetaDelta only

theorem State.setHeld_does {W : Nat} {o : State} {s : State} (x1 : Nat) (x2 : List Held) (hW : Within 0x20018200000000000000000000000000000000000000000000000000001800003030000000000000000000000000000000000000000010000001000000000000000000000000000000000000000000000000000000000000000400000000000000000000000000000000000000000000000000000000000000000000000000000 W) (h : Does W o s) :
    Does W o (State.setHeld s x1 x2) := by
  have up := hW.up
  have ub := hW.ub
  have b1011 := ub 1011 (by decide)
  unfold State.setHeld
  repeat' first
    | with_reducible assumption
    | exact up _ (by decide)
    | exact ub _ (by decide)
    | exact fun _ => ub _ (by decide)
    | intro _
    | with_reducible (apply State.relink_does)
    | with_reducible (apply State.raiseIf_does)
    | with_reducible (apply State.wr_does)
    | with_reducible (apply Does.ite)
    | (fail_if_no_progress extract_lets)
    | (fail_if_no_progress (with_reducible refine Does.mk' ?_ (by with_reducible rfl)))

theorem State.returnHeld_does {W : Nat} {o : State} {s : State} (x1 : Nat) (x2 : List Held) (hW : Within 0x20018200000000000000000000000000000000000000000000000000001800003030000000000000000000000000000000000000000010000001000000000000000000000000000000000000000000000000000000000000060400000000000000000000000000000000000000000000000000000000000000000000000000000 W) (h : Does W o s) :
    Does W o (State.returnHeld s x1 x2) := by
  have up := hW.up
  have ub := hW.ub
  unfold State.returnHeld
  repeat' first
    | with_reducible assumption
    | exact up _ (by decide)
    | exact ub _ (by decide)
    | exact fun _ => ub _ (by decide)
    | intro _
    | with_reducible (apply State.raise_does)
    | with_reducible (apply State.inc64_does)
    | with_reducible (apply State.setHeld_does)
    | with_reducible (apply Does.ite)
    | (fail_if_no_progress extract_lets)
    | (fail_if_no_progress (with_reducible refine Does.mk' ?_ (by with_reducible rfl)))
    | split
    | dsimp only

theorem State.setCal_does {W : Nat} {o : State} {s : State} (x1 : List (Nat × Grant)) (hW : Within 0x2000000000000000000000000000000000000000000000000000000000000000000000000000000000000000000000000000000000000000000000000000000000000000000000000000000000000000000000000000000000000000000000000000000000000000000600000000000000000000000000000000000000000 W) (h : Does W o s) :
    Does W o (State.setCal s x1) := by
  have up := hW.up
  have ub := hW.ub
  have b1009 := ub 1009 (by decide)
  unfold State.setCal
  repeat' first
    | with_reducible assumption
    | exact up _ (by decide)
    | exact ub _ (by decide)
    | exact fun _ => ub _ (by decide)
    | intro _
    | with_reducible (apply State.wr_does)
    | with_reducible (apply Does.ite)
    | (fail_if_no_progress extract_lets)
    | (fail_if_no_progress (with_reducible refine Does.mk' ?_ (by with_reducible rfl)))

theorem State.emptyCal_does {W : Nat} {o : State} {s : State} (hW : Within 0x2000000000000000000000000000000000000000000000000000000000000000000000000000000000000000000000000000000000000000000000000000000000000000000000000000000000000000000000000000000000000000000000000000000000000000000600000000000000000000000000000000000000000 W) (h : Does W o s) :
    Does W o (State.emptyCal s) := by
  have up := hW.up
  have ub := hW.ub
  unfold State.emptyCal
  repeat' first
    | with_reducible assumption
    | exact up _ (by decide)
    | exact ub _ (by decide)
    | exact fun _ => ub _ (by decide)
    | intro _
    | with_reducible (apply State.setCal_does)
    | with_reducible (apply Does.ite)
    | (fail_if_no_progress extract_lets)
    | (fail_if_no_progress (with_reducible refine Does.mk' ?_ (by with_reducible rfl)))

theorem State.returnBurst_does {W : Nat} {o : State} {s : State} (x1 : Burst) (hW : Within 0x2001a200000000000000000000000000000000000000000000000000001800003030000000000000000000000000000000000000000010000001000000000000000000000000000000000000000000000000000000000000060400000000000000000000000000000000000000000000000000000000000000000000000000000 W) (h : Does W o s) :
    Does W o (State.returnBurst s x1) := by
  have up := hW.up
  have ub := hW.ub
  have b1009 := ub 1009 (by decide)
  have b1012 := ub 1012 (by decide)
  unfold State.returnBurst
  repeat' first
    | with_reducible assumption
    | exact up _ (by decide)
    | exact ub _ (by decide)
    | exact fun _ => ub _ (by decide)
    | intro _
    | with_reducible (apply State.returnHeld_does)
    | with_reducible (apply Does.ite)
    | (fail_if_no_progress extract_lets)
    | (fail_if_no_progress (with_reducible refine Does.mk' ?_ (by with_reducible rfl)))

theorem State.cutAir_does {W : Nat} {o : State} {s : State} (hW : Within 0x20000000000000000000000000000000000000000000000000000000000000000000000000000000000000000000000000000000000000000000000000000000000000000000000000000000000000000000000000000000000000000000000000000000000000000000000000000000000000000000000000000000000000000 W) (h : Does W o s) :
    Does W o (State.cutAir s) := by
  have up := hW.up
  have ub := hW.ub
  unfold State.cutAir
  repeat' first
    | with_reducible assumption
    | exact up _ (by decide)
    | exact ub _ (by decide)
    | exact fun _ => ub _ (by decide)
    | intro _
    | with_reducible (apply State.emit_does)
    | with_reducible (apply Does.ite)
    | with_reducible (apply Does.foldl)
    | (fail_if_no_progress extract_lets)
    | (fail_if_no_progress (with_reducible refine Does.mk' ?_ (by with_reducible rfl)))
    | split
    | dsimp +zetaDelta only

theorem State.cutBursts_does {W : Nat} {o : State} {s : State} (hW : Within 0x2001a200000000000000000000000000000000000000000000000000001800003030000000000000000000000000000000000000000010000001000000000000000000000000000000000000000000000000000000000000060400000000000000000000000000000000000080000000000000000000000000000000000000000 W) (h : Does W o s) :
    Does W o (State.cutBursts s) := by
  have up := hW.up
  have ub := hW.ub
  have b1009 := ub 1009 (by decide)
  unfold State.cutBursts
  repeat' first
    | with_reducible assumption
    | exact up _ (by decide)
    | exact ub _ (by decide)
    | exact fun _ => ub _ (by decide)
    | intro _
    | with_reducible (apply State.returnBurst_does)
    | with_reducible (apply State.cutAir_does)
    | with_reducible (apply State.wr_does)
    | with_reducible (apply Does.ite)
    | with_reducible (apply Does.foldl)
    | (fail_if_no_progress extract_lets)
    | (fail_if_no_progress (with_reducible refine Does.mk' ?_ (by with_reducible rfl)))
    | split
    | dsimp +zetaDelta only

theorem State.errEvent_does {W : Nat} {o : State} {s : State} (hW : Within 0x9000000000000000000000000000000000000000000000000000000000000020000000000000000000000000000000000000000000000000000000000000000000000000000000000000000000000000000000000000000000000000000000000000000000000000000000000000000000000000000000000000000000000000 W) (h : Does W o s) :
    Does W o (State.errEvent s) := by
  have up := hW.up
  have ub := hW.ub
  have b1020 := ub 1020 (by decide)
  have b1023 := ub 1023 (by decide)
  unfold State.errEvent
  repeat' first
    | with_reducible assumption
    | exact up _ (by decide)
    | exact ub _ (by decide)
    | exact fun _ => ub _ (by decide)
    | intro _
    | with_reducible (apply State.wr_does)
    | with_reducible (apply Does.ite)
    | (fail_if_no_progress extract_lets)
    | (fail_if_no_progress (with_reducible refine Does.mk' ?_ (by with_reducible rfl)))

theorem State.showLeave_does {W : Nat} {o : State} {s : State} (x1 : Nat) (hW : Within 0xa00000000000000000000000000000000000000000000000000000000000000000000000000000000000000000000000000000000000000000000000000000000000000000000000000000000000000000000000000000000000000000 W) (h : Does W o s) :
    Does W o (State.showLeave s x1) := by
  have up := hW.up
  have ub := hW.ub
  unfold State.showLeave
  repeat' first
    | with_reducible assumption
    | exact up _ (by decide)
    | exact ub _ (by decide)
    | exact fun _ => ub _ (by decide)
    | intro _
    | with_reducible (apply State.wr_does)
    | with_reducible (apply Does.ite)
    | (fail_if_no_progress extract_lets)
    | (fail_if_no_progress (with_reducible refine Does.mk' ?_ (by with_reducible rfl)))

theorem State.withdrawLeave_does {W : Nat} {o : State} {s : State} (x1 : FaultSrc) (hW : Within 0x800000000000000000000000000000000000000000000000000000000000000000004a00000000000000000000000000000000000000000000000000000000000000000000000000000000000000000000000000000000000000000000000000000000000000000000000000000000000000000000000000000000000000000 W) (h : Does W o s) :
    Does W o (State.withdrawLeave s x1) := by
  have up := hW.up
  have ub := hW.ub
  have b1019 := ub 1019 (by decide)
  unfold State.withdrawLeave
  repeat' first
    | with_reducible assumption
    | exact up _ (by decide)
    | exact ub _ (by decide)
    | exact fun _ => ub _ (by decide)
    | intro _
    | with_reducible (apply State.showLeave_does)
    | with_reducible (apply State.inc_does)
    | with_reducible (apply Does.ite)
    | with_reducible (apply Does.foldl)
    | (fail_if_no_progress extract_lets)
    | (fail_if_no_progress (with_reducible refine Does.mk' ?_ (by with_reducible rfl)))
    | split
    | dsimp +zetaDelta only

theorem State.safeEntry_does {W : Nat} {o : State} {s : State} (x1 : Nat) (hW : Within 0x2901a200000000000000000000000000000000000000000000000000007800037030000000000000000000000000000000000000000010000001000000000000000000000000000000000000000000000000000000000000060400000000000000000000000000000000000680000000020000000000000000000000000000000 W) (h : Does W o s) :
    Does W o (State.safeEntry s x1) := by
  have up := hW.up
  have ub := hW.ub
  have b1020 := ub 1020 (by decide)
  unfold State.safeEntry
  repeat' first
    | with_reducible assumption
    | exact up _ (by decide)
    | exact ub _ (by decide)
    | exact fun _ => ub _ (by decide)
    | intro _
    | with_reducible (apply State.wr_does)
    | with_reducible (apply State.emptyCal_does)
    | with_reducible (apply State.cutBursts_does)
    | with_reducible (apply State.assertTxdis_does)
    | with_reducible (apply State.raise_does)
    | with_reducible (apply State.errEvent_does)
    | with_reducible (apply Does.ite)
    | (fail_if_no_progress extract_lets)
    | (fail_if_no_progress (with_reducible refine Does.mk' ?_ (by with_reducible rfl)))

theorem State.showOpen_does {W : Nat} {o : State} {s : State} (hW : Within 0x8000000000000000000000000000000000000000000000000000000000000000000000000000000000000000000000000000000000000000000000000000000000000000000000000000000000000000000000000000000000000000000000000000 W) (h : Does W o s) :
    Does W o (State.showOpen s) := by
  have up := hW.up
  have ub := hW.ub
  unfold State.showOpen
  repeat' first
    | with_reducible assumption
    | exact up _ (by decide)
    | exact ub _ (by decide)
    | exact fun _ => ub _ (by decide)
    | intro _
    | with_reducible (apply State.wr_does)
    | with_reducible (apply Does.ite)
    | (fail_if_no_progress extract_lets)
    | (fail_if_no_progress (with_reducible refine Does.mk' ?_ (by with_reducible rfl)))

theorem State.writeRec_does {W : Nat} {o : State} {s : State} (x1 : Nat) (x2 : Nat) (x3 : Nat) (x4 : Nat) (x5 : FaultSrc) (x6 : Bool) (hW : Within 0x10000000000000000000000000000000000000000000000000000fff00000000000000000000000000000000000000000000000000000000000000000000000000000000000000000000000000000000000000000000000000000000000000000000000000000000000000000000000000000000000000000000000000000000 W) (h : Does W o s) :
    Does W o (State.writeRec s x1 x2 x3 x4 x5 x6) := by
  have up := hW.up
  have ub := hW.ub
  have b1020 := ub 1020 (by decide)
  unfold State.writeRec
  repeat' first
    | with_reducible assumption
    | exact up _ (by decide)
    | exact ub _ (by decide)
    | exact fun _ => ub _ (by decide)
    | intro _
    | with_reducible (apply State.flag_does)
    | with_reducible (apply State.wr_does)
    | with_reducible (apply Does.ite)
    | (fail_if_no_progress extract_lets)
    | (fail_if_no_progress (with_reducible refine Does.mk' ?_ (by with_reducible rfl)))

theorem State.classAction_does {W : Nat} {o : State} {s : State} (x1 : Nat) (x2 : Nat) (x3 : FaultSrc) (hW : Within 0x2981a200000000000000000000000000000000000000000000000000007800037030004a00000000000000000000000000000000000010000001000000000000000000000000000000000000000000000000000000000000060400000000000000000000000000000000000680000000020000000000000000000000000000000 W) (h : Does W o s) :
    Does W o (State.classAction s x1 x2 x3) := by
  have up := hW.up
  have ub := hW.ub
  unfold State.classAction
  repeat' first
    | with_reducible assumption
    | exact up _ (by decide)
    | exact ub _ (by decide)
    | exact fun _ => ub _ (by decide)
    | intro _
    | with_reducible (apply State.raise_does)
    | with_reducible (apply State.errEvent_does)
    | with_reducible (apply State.withdrawLeave_does)
    | with_reducible (apply State.safeEntry_does)
    | with_reducible (apply Does.ite)
    | (fail_if_no_progress extract_lets)
    | (fail_if_no_progress (with_reducible refine Does.mk' ?_ (by with_reducible rfl)))

theorem State.collect_does {W : Nat} {o : State} {s : State} (x1 : Nat) (x2 : Nat) (x3 : FaultSrc) (x4 : Bool) (hW : Within 0x2981a2000000000000000000000000000000000000000000000000fff07ff8037030004a00000000000000000000000000000000000010000001000000000000000000000000000000000000000000000000000000000000060400000000000000000000000000000000000680000000020000000000000000000000000000000 W) (h : Does W o s) :
    Does W o (State.collect s x1 x2 x3 x4) := by
  have up := hW.up
  have ub := hW.ub
  unfold State.collect
  repeat' first
    | with_reducible assumption
    | exact up _ (by decide)
    | exact ub _ (by decide)
    | exact fun _ => ub _ (by decide)
    | intro _
    | with_reducible (unfold classCount)
    | with_reducible (unfold classLost)
    | with_reducible (apply State.inc_does)
    | with_reducible (apply State.incSat_does)
    | with_reducible (apply State.withdrawLeave_does)
    | with_reducible (apply State.safeEntry_does)
    | with_reducible (apply State.showOpen_does)
    | with_reducible (apply State.writeRec_does)
    | with_reducible (apply State.classAction_does)
    | with_reducible (apply State.raise_does)
    | with_reducible (apply Does.ite)
    | (fail_if_no_progress extract_lets)
    | (fail_if_no_progress (with_reducible refine Does.mk' ?_ (by with_reducible rfl)))
    | split
    | dsimp only

theorem State.localFault_does {W : Nat} {o : State} {s : State} (x1 : Nat) (x2 : Nat) (x3 : Nat) (hW : Within 0xf8000000000000000000000000000000000000000000000000000000000000000000000000000000000000000000000000000000000000000000000000000000000000000000000000000000000000000000000000000000000000000000 W) (h : Does W o s) :
    Does W o (State.localFault s x1 x2 x3) := by
  have up := hW.up
  have ub := hW.ub
  unfold State.localFault
  repeat' first
    | with_reducible assumption
    | exact up _ (by decide)
    | exact ub _ (by decide)
    | exact fun _ => ub _ (by decide)
    | intro _
    | with_reducible (apply State.incSat_does)
    | with_reducible (apply State.wr_does)
    | with_reducible (apply Does.ite)
    | (fail_if_no_progress extract_lets)
    | (fail_if_no_progress (with_reducible refine Does.mk' ?_ (by with_reducible rfl)))

theorem State.fault_does {W : Nat} {o : State} {s : State} (x1 : Nat) (x2 : FaultSrc) (x3 : Nat) (x4 : Nat) (x5 : Nat) (hW : Within 0x2981a2000000000000000000000000000000000000000000000000fff07ff80370300fca00000000000000000000000000000000000010000001000000000000000000000000000000000000000000000000000000000000060400000000000000000000000000000000000680000000020000000000000000000000000000000 W) (h : Does W o s) :
    Does W o (State.fault s x1 x2 x3 x4 x5) := by
  have up := hW.up
  have ub := hW.ub
  unfold State.fault
  repeat' first
    | with_reducible assumption
    | exact up _ (by decide)
    | exact ub _ (by decide)
    | exact fun _ => ub _ (by decide)
    | intro _
    | with_reducible (apply State.perf_does)
    | with_reducible (apply State.localFault_does)
    | with_reducible (apply State.collect_does)
    | with_reducible (apply Does.ite)
    | (fail_if_no_progress extract_lets)
    | (fail_if_no_progress (with_reducible refine Does.mk' ?_ (by with_reducible rfl)))

end Sys2Proof.Machine
end

