-- ==== Sys2Proof/Laws/DAgg.lean ====
section
/-! SUPPORT. What the operations of Agg can change. -/

set_option linter.unreachableTactic false
set_option linter.unusedTactic false
set_option linter.unusedVariables false
set_option Elab.async false

namespace Sys2Proof.Machine

theorem State.combine_does {W : Nat} {o : State} {s : State} (x1 : Nat) (x2 : Nat) (x3 : Up → Nat) (x4 : List Up) (hW : Within 0x10000000000000000000000000000000000000000000000000000000000000000000000000000000000000000000000000000000000000000000000000000000000000000000000000000000000000000000000000000000000000000000000000000000000000000000000000000000000000000000000000000000000000000 W) (h : Does W o s) :
    Does W o (State.combine s x1 x2 x3 x4).2 := by
  have up := hW.up
  have ub := hW.ub
  unfold State.combine
  repeat' first
    | with_reducible assumption
    | exact up _ (by decide)
    | exact ub _ (by decide)
    | exact fun _ => ub _ (by decide)
    | intro _
    | with_reducible (apply State.serveAll_does)
    | with_reducible (apply Does.ite)
    | (fail_if_no_progress extract_lets)
    | (fail_if_no_progress (with_reducible refine Does.mk' ?_ (by with_reducible rfl)))
    | (with_reducible (refine Does.snd (by assumption) ?_))
    | (with_reducible (refine Does.fst (by assumption) ?_))
    | split
    | dsimp only
    | dsimp +zetaDelta only

theorem State.gather_does {W : Nat} {o : State} {s : State} (x1 : Nat) (x2 : Nat) (x3 : Up → Nat) (x4 : List Up) (hW : Within 0x10000000000000000000000000000000000000000000000000000000000000000000000000000000000000000000000000000000000000000000000000000000000000000000000000000000000000000000000000000000000000000000000000000000000000000000000000000000000000000000000000000000000000000 W) (h : Does W o s) :
    Does W o (State.gather s x1 x2 x3 x4).2 := by
  have up := hW.up
  have ub := hW.ub
  unfold State.gather
  repeat' first
    | with_reducible assumption
    | exact up _ (by decide)
    | exact ub _ (by decide)
    | exact fun _ => ub _ (by decide)
    | intro _
    | with_reducible (apply State.combine_does)
    | with_reducible (apply Does.ite)
    | with_reducible (apply Does.foldl)
    | with_reducible (apply Does.foldl_snd)
    | with_reducible (apply Does.foldl_snd2)
    | with_reducible (apply Does.foldl_fst)
    | (fail_if_no_progress extract_lets)
    | (fail_if_no_progress (with_reducible refine Does.mk' ?_ (by with_reducible rfl)))
    | (with_reducible (refine Does.snd (by assumption) ?_))
    | (with_reducible (refine Does.snd2 (by assumption) ?_))
    | (with_reducible (refine Does.fst (by assumption) ?_))
    | split
    | dsimp only
    | dsimp +zetaDelta only

theorem State.level_does {W : Nat} {o : State} {s : State} (x1 : Up → Nat) (x2 : Nat) (x3 : Up → Nat) (x4 : List Up) (hW : Within 0x10000000000000000000000000000000000000000000000000000000000000000000000000000000000000000000000000000000000000000000000000000000000000000000000000000000000000000000000000000000000000000000000000000000000000000000000000000000000000000000000000000000000000000 W) (h : Does W o s) :
    Does W o (State.level s x1 x2 x3 x4).2 := by
  have up := hW.up
  have ub := hW.ub
  unfold State.level
  repeat' first
    | with_reducible assumption
    | exact up _ (by decide)
    | exact ub _ (by decide)
    | exact fun _ => ub _ (by decide)
    | intro _
    | with_reducible (apply State.gather_does)
    | with_reducible (apply Does.ite)
    | with_reducible (apply Does.foldl)
    | with_reducible (apply Does.foldl_snd)
    | with_reducible (apply Does.foldl_snd2)
    | with_reducible (apply Does.foldl_fst)
    | (fail_if_no_progress extract_lets)
    | (fail_if_no_progress (with_reducible refine Does.mk' ?_ (by with_reducible rfl)))
    | (with_reducible (refine Does.snd (by assumption) ?_))
    | (with_reducible (refine Does.snd2 (by assumption) ?_))
    | (with_reducible (refine Does.fst (by assumption) ?_))
    | split
    | dsimp only
    | dsimp +zetaDelta only

theorem State.aggReset_does {W : Nat} {o : State} {s : State} (x1 : Up) (hW : Within 0x10000000000000000000000000000000000000000000000000000000000000000000000000000000000000000000000000000000000000000000000000000000000000000000000000000000000000000000000000000000000000000000000000000000000000000000000000000000000000000000000000000000000000000 W) (h : Does W o s) :
    Does W o (State.aggReset s x1) := by
  have up := hW.up
  have ub := hW.ub
  have b1024 := ub 1024 (by decide)
  unfold State.aggReset
  repeat' first
    | with_reducible assumption
    | exact up _ (by decide)
    | exact ub _ (by decide)
    | exact fun _ => ub _ (by decide)
    | intro _
    | with_reducible (apply Does.ite)
    | (fail_if_no_progress extract_lets)
    | (fail_if_no_progress (with_reducible refine Does.mk' ?_ (by with_reducible rfl)))
    | split
    | dsimp only

theorem State.reportUp_does {W : Nat} {o : State} {s : State} (x1 : List Up) (hW : Within 0x3981a2000000000000000000000000000000000000000000000000fff07ff8037030004a00000000000000000000000000000000000010000001000000000000000000000000000000000000000000000000000000000000060400000000000000000000000000000000000680000000020000000000000000000000000000000 W) (h : Does W o s) :
    Does W o (State.reportUp s x1) := by
  have up := hW.up
  have ub := hW.ub
  unfold State.reportUp
  repeat' first
    | with_reducible assumption
    | exact up _ (by decide)
    | exact ub _ (by decide)
    | exact fun _ => ub _ (by decide)
    | intro _
    | with_reducible (apply forEach_does)
    | with_reducible (apply State.aggReset_does)
    | with_reducible (apply State.level_does)
    | with_reducible (apply State.collect_does)
    | with_reducible (apply Does.ite)
    | (fail_if_no_progress extract_lets)
    | (fail_if_no_progress (with_reducible refine Does.mk' ?_ (by with_reducible rfl)))

end Sys2Proof.Machine
end

