-- ==== Sys2Proof/Laws/DPktOps.lean ====
section
/-! SUPPORT. What the operations of PktOps can change. -/

set_option linter.unreachableTactic false
set_option linter.unusedTactic false
set_option linter.unusedVariables false
set_option Elab.async false

namespace Sys2Proof.Machine

theorem State.setPol_does {W : Nat} {o : State} {s : State} (x1 : Nat) (x2 : Bal) (hW : Within 0x80000000000000000000000000000000000000000000000000000000000000000000000000000000000000000000000000000000000000000000000000000000000000000000000000000000000000000000000000000000000000000000000000000000000000000000000000000000000000000000000000000000000000 W) (h : Does W o s) :
    Does W o (State.setPol s x1 x2) := by
  have up := hW.up
  have ub := hW.ub
  have b1015 := ub 1015 (by decide)
  unfold State.setPol
  repeat' first
    | with_reducible assumption
    | exact up _ (by decide)
    | exact ub _ (by decide)
    | exact fun _ => ub _ (by decide)
    | intro _
    | with_reducible (apply Does.ite)
    | (fail_if_no_progress extract_lets)
    | (fail_if_no_progress (with_reducible refine Does.mk' ?_ (by with_reducible rfl)))

theorem State.setSh_does {W : Nat} {o : State} {s : State} (x1 : Nat) (x2 : Bal) (hW : Within 0x80000000000000000000000000000000000000000000000000000000000000000000000000000000000000000000000000000000000000000000000000000000000000000000000000000000000000000000000000000000000000000000000000000000000000000000000000000000000000000000000000000000000000 W) (h : Does W o s) :
    Does W o (State.setSh s x1 x2) := by
  have up := hW.up
  have ub := hW.ub
  have b1015 := ub 1015 (by decide)
  unfold State.setSh
  repeat' first
    | with_reducible assumption
    | exact up _ (by decide)
    | exact ub _ (by decide)
    | exact fun _ => ub _ (by decide)
    | intro _
    | with_reducible (apply Does.ite)
    | (fail_if_no_progress extract_lets)
    | (fail_if_no_progress (with_reducible refine Does.mk' ?_ (by with_reducible rfl)))

theorem State.debit_does {W : Nat} {o : State} {s : State} (x1 : Nat) (x2 : Nat) (hW : Within 0x80000000000000000000000000000000000000000000000000000000000000000000000000000000000000000000000000000000000000000000000000000000000000000000000000000000000000000000000000000000000000000000000000000000000000000000000000000000000000000000000000000000000000 W) (h : Does W o s) :
    Does W o (State.debit s x1 x2) := by
  have up := hW.up
  have ub := hW.ub
  unfold State.debit
  repeat' first
    | with_reducible assumption
    | exact up _ (by decide)
    | exact ub _ (by decide)
    | exact fun _ => ub _ (by decide)
    | intro _
    | with_reducible (apply State.setSh_does)
    | with_reducible (apply Does.ite)
    | (fail_if_no_progress extract_lets)
    | (fail_if_no_progress (with_reducible refine Does.mk' ?_ (by with_reducible rfl)))

theorem State.reshape_does {W : Nat} {o : State} {s : State} (x1 : Nat) (f2 : State → State) (hW : Within 0x80000000000000000000000000000000000000000000000000000000000000000000000000000000000000000000000000000000000000000000000000000000000000000000000000000000000000000000000000000000000000000000000000000000000000000000000000000000000000000000000000000000000000 W) (h : Does W o s) (hf2 : ∀ y0, Does W o y0 → Does W o (f2 y0)) :
    Does W o (State.reshape s x1 f2) := by
  have up := hW.up
  have ub := hW.ub
  have b1015 := ub 1015 (by decide)
  unfold State.reshape
  repeat' first
    | with_reducible assumption
    | exact up _ (by decide)
    | exact ub _ (by decide)
    | exact fun _ => ub _ (by decide)
    | intro _
    | with_reducible (apply State.setSh_does)
    | with_reducible (apply hf2)
    | with_reducible (apply Does.ite)
    | (fail_if_no_progress extract_lets)
    | (fail_if_no_progress (with_reducible refine Does.mk' ?_ (by with_reducible rfl)))

theorem State.repolice_does {W : Nat} {o : State} {s : State} (x1 : Nat) (f2 : State → State) (hW : Within 0x80000000000000000000000000000000000000000000000000000000000000000000000000000000000000000000000000000000000000000000000000000000000000000000000000000000000000000000000000000000000000000000000000000000000000000000000000000000000000000000000000000000000000 W) (h : Does W o s) (hf2 : ∀ y0, Does W o y0 → Does W o (f2 y0)) :
    Does W o (State.repolice s x1 f2) := by
  have up := hW.up
  have ub := hW.ub
  unfold State.repolice
  repeat' first
    | with_reducible assumption
    | exact up _ (by decide)
    | exact ub _ (by decide)
    | exact fun _ => ub _ (by decide)
    | intro _
    | with_reducible (apply State.setPol_does)
    | with_reducible (apply hf2)
    | with_reducible (apply Does.ite)
    | (fail_if_no_progress extract_lets)
    | (fail_if_no_progress (with_reducible refine Does.mk' ?_ (by with_reducible rfl)))

theorem State.reslow_does {W : Nat} {o : State} {s : State} (f1 : State → State) (hW : Within 0x80000000000000000000000000000000000000000000000000000000000000000000000000000000000000000000000000000000000000000000000000000000000000000000000000000000000000000000000000000000000000000000000000000000000000000000000000000000000000000000000000000000000000 W) (h : Does W o s) (hf1 : ∀ y0, Does W o y0 → Does W o (f1 y0)) :
    Does W o (State.reslow s f1) := by
  have up := hW.up
  have ub := hW.ub
  have b1015 := ub 1015 (by decide)
  unfold State.reslow
  repeat' first
    | with_reducible assumption
    | exact up _ (by decide)
    | exact ub _ (by decide)
    | exact fun _ => ub _ (by decide)
    | intro _
    | with_reducible (apply hf1)
    | with_reducible (apply Does.ite)
    | (fail_if_no_progress extract_lets)
    | (fail_if_no_progress (with_reducible refine Does.mk' ?_ (by with_reducible rfl)))

theorem State.raiseRing_does {W : Nat} {o : State} {s : State} (x1 : Nat) (x2 : Nat) (hW : Within 0x20000200000000000000000000000000000000000000000000000000001800003030000000000000000000000000002000000000000010000001000000000000000000000000000000000000000000000000000000000000000000000000000000000000000000000000000000000000000000000000000000000000000000000 W) (h : Does W o s) :
    Does W o (State.raiseRing s x1 x2) := by
  have up := hW.up
  have ub := hW.ub
  unfold State.raiseRing
  repeat' first
    | with_reducible assumption
    | exact up _ (by decide)
    | exact ub _ (by decide)
    | exact fun _ => ub _ (by decide)
    | intro _
    | with_reducible (apply State.wr_does)
    | with_reducible (apply State.raiseIf_does)
    | with_reducible (apply State.sendMsix_does)
    | with_reducible (apply Does.ite)
    | (fail_if_no_progress extract_lets)
    | (fail_if_no_progress (with_reducible refine Does.mk' ?_ (by with_reducible rfl)))

theorem State.ringDeliver_does {W : Nat} {o : State} {s : State} (x1 : Judged) (x2 : Nat) (x3 : Nat) (x4 : Nat) (hW : Within 0x20000200000000000000000000000000000000000000000000000000001800003030000000000000000000000000002402000000000010000001000000000000000000000000000000000000000000000000000000000000000000000000000500000000000000000000000000000000000000000000000000000000000000000 W) (h : Does W o s) :
    Does W o (State.ringDeliver s x1 x2 x3 x4) := by
  have up := hW.up
  have ub := hW.ub
  unfold State.ringDeliver
  repeat' first
    | with_reducible assumption
    | exact up _ (by decide)
    | exact ub _ (by decide)
    | exact fun _ => ub _ (by decide)
    | intro _
    | with_reducible (apply State.raise_does)
    | with_reducible (apply State.inc_does)
    | with_reducible (apply State.emit_does)
    | with_reducible (apply State.wr_does)
    | with_reducible (apply State.raiseRing_does)
    | with_reducible (apply Does.ite)
    | (fail_if_no_progress extract_lets)
    | (fail_if_no_progress (with_reducible refine Does.mk' ?_ (by with_reducible rfl)))

theorem State.slowPath_does {W : Nat} {o : State} {s : State} (x1 : Judged) (x2 : Nat) (x3 : Nat) (x4 : Nat) (hW : Within 0x20080200000000000000000000000000000000000000000000000000001800003030000000000000000000000000002402000000000010000001000000000000000000000000000000000000000000000000000000000000000000000000000700000000000000000000000000000000000000000000000000000000000000000 W) (h : Does W o s) :
    Does W o (State.slowPath s x1 x2 x3 x4) := by
  have up := hW.up
  have ub := hW.ub
  have b1015 := ub 1015 (by decide)
  unfold State.slowPath
  repeat' first
    | with_reducible assumption
    | exact up _ (by decide)
    | exact ub _ (by decide)
    | exact fun _ => ub _ (by decide)
    | intro _
    | with_reducible (apply State.raise_does)
    | with_reducible (apply State.inc_does)
    | with_reducible (apply State.ringDeliver_does)
    | with_reducible (apply Does.ite)
    | (fail_if_no_progress extract_lets)
    | (fail_if_no_progress (with_reducible refine Does.mk' ?_ (by with_reducible rfl)))

theorem State.setLane_does {W : Nat} {o : State} {s : State} (x1 : Nat) (x2 : Lane) (hW : Within 0x80000000000000000000000000000000000000000000000000000000000000000000000000000000000000000000000000000000000000000000000000000000000000000000000000000000000000000000000000000000000000000000000000000000000000000000000000000000000000000000000000000000000000 W) (h : Does W o s) :
    Does W o (State.setLane s x1 x2) := by
  have up := hW.up
  have ub := hW.ub
  have b1015 := ub 1015 (by decide)
  unfold State.setLane
  repeat' first
    | with_reducible assumption
    | exact up _ (by decide)
    | exact ub _ (by decide)
    | exact fun _ => ub _ (by decide)
    | intro _
    | with_reducible (apply Does.ite)
    | (fail_if_no_progress extract_lets)
    | (fail_if_no_progress (with_reducible refine Does.mk' ?_ (by with_reducible rfl)))

theorem State.showInFlight_does {W : Nat} {o : State} {s : State} (hW : Within 0x4000000000000000000000000000000000000000000000000000000000000000 W) (h : Does W o s) :
    Does W o (State.showInFlight s) := by
  have up := hW.up
  have ub := hW.ub
  unfold State.showInFlight
  repeat' first
    | with_reducible assumption
    | exact up _ (by decide)
    | exact ub _ (by decide)
    | exact fun _ => ub _ (by decide)
    | intro _
    | with_reducible (apply State.wr_does)
    | with_reducible (apply Does.ite)
    | (fail_if_no_progress extract_lets)
    | (fail_if_no_progress (with_reducible refine Does.mk' ?_ (by with_reducible rfl)))

theorem State.setUq_does {W : Nat} {o : State} {s : State} (x1 : Nat) (x2 : UQueue) (hW : Within 0x80000000000000000000000000000000000000000000000000000000000000000000000000000000000000000000000000000000000000000000000000000000000000000000000000000000000000000000000000000000010000000000000000000000000000000000000000000000000000000000000000000000000000 W) (h : Does W o s) :
    Does W o (State.setUq s x1 x2) := by
  have up := hW.up
  have ub := hW.ub
  have b1015 := ub 1015 (by decide)
  unfold State.setUq
  repeat' first
    | with_reducible assumption
    | exact up _ (by decide)
    | exact ub _ (by decide)
    | exact fun _ => ub _ (by decide)
    | intro _
    | with_reducible (apply State.wr_does)
    | with_reducible (apply Does.ite)
    | (fail_if_no_progress extract_lets)
    | (fail_if_no_progress (with_reducible refine Does.mk' ?_ (by with_reducible rfl)))

theorem State.showBufs_does {W : Nat} {o : State} {s : State} (hW : Within 0xc00000000000000000000000000000000000000000000000000000000000000000000 W) (h : Does W o s) :
    Does W o (State.showBufs s) := by
  have up := hW.up
  have ub := hW.ub
  unfold State.showBufs
  repeat' first
    | with_reducible assumption
    | exact up _ (by decide)
    | exact ub _ (by decide)
    | exact fun _ => ub _ (by decide)
    | intro _
    | with_reducible (apply State.wr_does)
    | with_reducible (apply Does.ite)
    | (fail_if_no_progress extract_lets)
    | (fail_if_no_progress (with_reducible refine Does.mk' ?_ (by with_reducible rfl)))

theorem State.setEq_does {W : Nat} {o : State} {s : State} (x1 : Nat) (x2 : List EFrm) (hW : Within 0x80000000000000000000000000000000000000020000000000000000000000000000000000000000000000000000000000000000000000000000000000000000000000000000000000000000000000000000000000000000000000000c00000000000000000000000000000000000000000000000000000000000000000000 W) (h : Does W o s) :
    Does W o (State.setEq s x1 x2) := by
  have up := hW.up
  have ub := hW.ub
  have b1015 := ub 1015 (by decide)
  unfold State.setEq
  repeat' first
    | with_reducible assumption
    | exact up _ (by decide)
    | exact ub _ (by decide)
    | exact fun _ => ub _ (by decide)
    | intro _
    | with_reducible (apply State.showBufs_does)
    | with_reducible (apply State.wr_does)
    | with_reducible (apply Does.ite)
    | (fail_if_no_progress extract_lets)
    | (fail_if_no_progress (with_reducible refine Does.mk' ?_ (by with_reducible rfl)))

theorem State.enqUq_does {W : Nat} {o : State} {s : State} (x1 : Nat) (x2 : UFrm) (hW : Within 0x200802000000000000000000000000000000000000000000000000000018000030300000000000000000000000000000000000000000100000010000000000000000000000000000000000000000000000000000000000000000f0000001c00000000000000000000000000000000000000000000000000000000000000000000 W) (h : Does W o s) :
    Does W o (State.enqUq s x1 x2) := by
  have up := hW.up
  have ub := hW.ub
  have b1015 := ub 1015 (by decide)
  unfold State.enqUq
  repeat' first
    | with_reducible assumption
    | exact up _ (by decide)
    | exact ub _ (by decide)
    | exact fun _ => ub _ (by decide)
    | intro _
    | with_reducible (apply State.raise_does)
    | with_reducible (apply State.inc_does)
    | with_reducible (apply State.perf_does)
    | with_reducible (apply State.showBufs_does)
    | with_reducible (apply State.inc64_does)
    | with_reducible (apply State.setUq_does)
    | with_reducible (apply Does.ite)
    | (fail_if_no_progress extract_lets)
    | (fail_if_no_progress (with_reducible refine Does.mk' ?_ (by with_reducible rfl)))

theorem State.enqEq_does {W : Nat} {o : State} {s : State} (x1 : Nat) (x2 : EFrm) (hW : Within 0x200802000000000000000000000000000000000001e0000000000000001800003030000000000000000000000000000000000000000010000001000000000000000000000000000000000000000000000000000000000000000000000002c00000000000000000000000000000000000000000000000000000000000000000000 W) (h : Does W o s) :
    Does W o (State.enqEq s x1 x2) := by
  have up := hW.up
  have ub := hW.ub
  unfold State.enqEq
  repeat' first
    | with_reducible assumption
    | exact up _ (by decide)
    | exact ub _ (by decide)
    | exact fun _ => ub _ (by decide)
    | intro _
    | with_reducible (apply State.raise_does)
    | with_reducible (apply State.inc_does)
    | with_reducible (apply State.perf_does)
    | with_reducible (apply State.inc64_does)
    | with_reducible (apply State.setEq_does)
    | with_reducible (apply Does.ite)
    | (fail_if_no_progress extract_lets)
    | (fail_if_no_progress (with_reducible refine Does.mk' ?_ (by with_reducible rfl)))

theorem State.setPort_does {W : Nat} {o : State} {s : State} (x1 : Nat) (x2 : Port) (hW : Within 0x80000000000000000000000000000000000000000000000000000000000000000000000000000000000000000000000000000000000000000000000000000000000000000000000000000000000000000000000000000000000000000000000000000000000000000000000000000000000000000000000000000000000000 W) (h : Does W o s) :
    Does W o (State.setPort s x1 x2) := by
  have up := hW.up
  have ub := hW.ub
  have b1015 := ub 1015 (by decide)
  unfold State.setPort
  repeat' first
    | with_reducible assumption
    | exact up _ (by decide)
    | exact ub _ (by decide)
    | exact fun _ => ub _ (by decide)
    | intro _
    | with_reducible (apply Does.ite)
    | (fail_if_no_progress extract_lets)
    | (fail_if_no_progress (with_reducible refine Does.mk' ?_ (by with_reducible rfl)))

theorem State.portRaise_does {W : Nat} {o : State} {s : State} (x1 : Nat) (x2 : Nat) (hW : Within 0x20000200000000000000000000000000000000000000000000000000001800003030000000000000000000000000000000000000000010000001000000000000000000000000000000000000000000000000000000000000000000000000000000000000000000800000000000000000000000000000000000000000000000000 W) (h : Does W o s) :
    Does W o (State.portRaise s x1 x2) := by
  have up := hW.up
  have ub := hW.ub
  unfold State.portRaise
  repeat' first
    | with_reducible assumption
    | exact up _ (by decide)
    | exact ub _ (by decide)
    | exact fun _ => ub _ (by decide)
    | intro _
    | with_reducible (apply State.raise_does)
    | with_reducible (apply State.wr_does)
    | with_reducible (apply Does.ite)
    | (fail_if_no_progress extract_lets)
    | (fail_if_no_progress (with_reducible refine Does.mk' ?_ (by with_reducible rfl)))

theorem State.nibble_does {W : Nat} {o : State} {s : State} (x1 : Nat) (x2 : Nat) (hW : Within 0x20000200000000000000000000000000000000000000000000000000001800003030000000000000000000000000000000000000000010000001000000000000000000000000000000000000000000000000000000000000000000000000000000000000c00000800000000000000000000000000000000000000000000000000 W) (h : Does W o s) :
    Does W o (State.nibble s x1 x2) := by
  have up := hW.up
  have ub := hW.ub
  unfold State.nibble
  repeat' first
    | with_reducible assumption
    | exact up _ (by decide)
    | exact ub _ (by decide)
    | exact fun _ => ub _ (by decide)
    | intro _
    | with_reducible (apply State.wr_does)
    | with_reducible (apply State.portRaise_does)
    | with_reducible (apply Does.ite)
    | (fail_if_no_progress extract_lets)
    | (fail_if_no_progress (with_reducible refine Does.mk' ?_ (by with_reducible rfl)))
    | split
    | dsimp only

theorem State.putNibbles_does {W : Nat} {o : State} {s : State} (x1 : Fld) (x2 : Nat) (x3 : Nat) (x4 : Nat) (x5 : Nat) (hW : Within 0x20000200000000000000000000000000000000000000000000000000001800003030000000000000000000000000000000000000000010000001000000000000000000000000000000000000000000000000000000000000000000000000000000000000000000800000000000000000000000000000000000000000000000000 W) (h : Does W o s) (bx1 : x1.id < 1000 → Nat.testBit W x1.id = true) :
    Does W o (State.putNibbles s x1 x2 x3 x4 x5) := by
  have up := hW.up
  have ub := hW.ub
  unfold State.putNibbles
  repeat' first
    | with_reducible assumption
    | exact up _ (by decide)
    | exact ub _ (by decide)
    | exact fun _ => ub _ (by decide)
    | intro _
    | with_reducible (apply State.wr_does)
    | with_reducible (apply State.portRaise_does)
    | with_reducible (apply Does.ite)
    | (fail_if_no_progress extract_lets)
    | (fail_if_no_progress (with_reducible refine Does.mk' ?_ (by with_reducible rfl)))

theorem State.tagTo_does {W : Nat} {o : State} {s : State} (x1 : Nat) (x2 : Nat) (x3 : Nat) (x4 : Nat) (x5 : Bool) (x6 : List Nat) (hW : Within 0x200802000000000000000000000000000000000000000000000000000018000030300000000000000000000000000000000000000000100000010000000000000000000000000000000000000000000000000000000000000000f0000001c00000000000000000080000000000000000000000000000000000000000000000000 W) (h : Does W o s) :
    Does W o (State.tagTo s x1 x2 x3 x4 x5 x6) := by
  have up := hW.up
  have ub := hW.ub
  unfold State.tagTo
  repeat' first
    | with_reducible assumption
    | exact up _ (by decide)
    | exact ub _ (by decide)
    | exact fun _ => ub _ (by decide)
    | intro _
    | with_reducible (apply State.inc_does)
    | with_reducible (apply State.enqUq_does)
    | with_reducible (apply Does.ite)
    | (fail_if_no_progress extract_lets)
    | (fail_if_no_progress (with_reducible refine Does.mk' ?_ (by with_reducible rfl)))

theorem State.police_does {W : Nat} {o : State} {s : State} (x1 : Nat) (x2 : Nat) (hW : Within 0x8000000000000000000000000000000000000000000000000000000000000000000000000000000000000000000000000000000000000000000000000000000000000000000000000000000000000000000000000000000000001fe00000000000000000000000000000000000000000000000000000000000000000000000 W) (h : Does W o s) :
    Does W o (State.police s x1 x2).2.2 := by
  have up := hW.up
  have ub := hW.ub
  unfold State.police
  repeat' first
    | with_reducible assumption
    | exact up _ (by decide)
    | exact ub _ (by decide)
    | exact fun _ => ub _ (by decide)
    | intro _
    | with_reducible (apply State.setPol_does)
    | with_reducible (apply State.inc64_does)
    | with_reducible (apply Does.ite)
    | (fail_if_no_progress extract_lets)
    | (fail_if_no_progress (with_reducible refine Does.mk' ?_ (by with_reducible rfl)))
    | split
    | dsimp only

end Sys2Proof.Machine
end

