-- ==== Sys2Proof/Laws/DClassify.lean ====
section
/-! SUPPORT. What the operations of Classify can change. -/

set_option linter.unreachableTactic false
set_option linter.unusedTactic false
set_option linter.unusedVariables false
set_option Elab.async false

namespace Sys2Proof.Machine

theorem State.setVstate_does {W : Nat} {o : State} {s : State} (x1 : Nat) (x2 : Nat) (hW : Within 0x800000000000000000000000000000000000000000000000000000000000000 W) (h : Does W o s) :
    Does W o (State.setVstate s x1 x2) := by
  have up := hW.up
  have ub := hW.ub
  unfold State.setVstate
  repeat' first
    | with_reducible assumption
    | exact up _ (by decide)
    | exact ub _ (by decide)
    | exact fun _ => ub _ (by decide)
    | intro _
    | with_reducible (apply State.wr_does)
    | with_reducible (apply Does.ite)
    | (fail_if_no_progress extract_lets)
    | (fail_if_no_progress (with_reducible refine Does.mk' ?_ (by with_reducible rfl)))

theorem State.clsRefuse_does {W : Nat} {o : State} {s : State} (hW : Within 0x20000200000000000000000000000000000000000000000000000000001800003030000000000000000000000000000000000000000010000001000000000000000000000000000000000000000000000000000000000000000000000000001000000000000000000000000000000000000000000000000000000000000000000 W) (h : Does W o s) :
    Does W o (State.clsRefuse s) := by
  have up := hW.up
  have ub := hW.ub
  unfold State.clsRefuse
  repeat' first
    | with_reducible assumption
    | exact up _ (by decide)
    | exact ub _ (by decide)
    | exact fun _ => ub _ (by decide)
    | intro _
    | with_reducible (apply State.raise_does)
    | with_reducible (apply State.inc_does)
    | with_reducible (apply Does.ite)
    | (fail_if_no_progress extract_lets)
    | (fail_if_no_progress (with_reducible refine Does.mk' ?_ (by with_reducible rfl)))

theorem State.retireVer_does {W : Nat} {o : State} {s : State} (x1 : Nat) (hW : Within 0x20000200000000000000000000000000000000000000000000000000001800003030000000000000000000000000000000000000000010000001000000000000000000000000000000000000000000000000000000000000000000000000000000800000000000000000000000000000000000000000000000000000000000000 W) (h : Does W o s) :
    Does W o (State.retireVer s x1) := by
  have up := hW.up
  have ub := hW.ub
  unfold State.retireVer
  repeat' first
    | with_reducible assumption
    | exact up _ (by decide)
    | exact ub _ (by decide)
    | exact fun _ => ub _ (by decide)
    | intro _
    | with_reducible (apply State.raise_does)
    | with_reducible (apply State.setVstate_does)
    | with_reducible (apply Does.ite)
    | (fail_if_no_progress extract_lets)
    | (fail_if_no_progress (with_reducible refine Does.mk' ?_ (by with_reducible rfl)))

theorem State.settle_does {W : Nat} {o : State} {s : State} (hW : Within 0x20000200000000000000000000000000000000000000000000000000001800003030000000000000000000000000000000000000000010000001000000000000000000000000000000000000000000000000000000000000000000000000000000800000000000000000000000000000000000000000000000000000000000000 W) (h : Does W o s) :
    Does W o (State.settle s) := by
  have up := hW.up
  have ub := hW.ub
  unfold State.settle
  repeat' first
    | with_reducible assumption
    | exact up _ (by decide)
    | exact ub _ (by decide)
    | exact fun _ => ub _ (by decide)
    | intro _
    | with_reducible (apply forEach_does)
    | with_reducible (apply State.retireVer_does)
    | with_reducible (apply Does.ite)
    | (fail_if_no_progress extract_lets)
    | (fail_if_no_progress (with_reducible refine Does.mk' ?_ (by with_reducible rfl)))

theorem State.commitVer_does {W : Nat} {o : State} {s : State} (x1 : Nat) (hW : Within 0x20000200000000000000000000000000000000000000000000000000001800003030000000000000000000000000000000000000000010000001000000000000000000000000000000000000000000000000000000000000000000000000000000a80000000000000000000000000000000000000000000000000000000000000 W) (h : Does W o s) :
    Does W o (State.commitVer s x1) := by
  have up := hW.up
  have ub := hW.ub
  unfold State.commitVer
  repeat' first
    | with_reducible assumption
    | exact up _ (by decide)
    | exact ub _ (by decide)
    | exact fun _ => ub _ (by decide)
    | intro _
    | with_reducible (apply State.setVstate_does)
    | with_reducible (apply State.raise_does)
    | with_reducible (apply State.wr_does)
    | with_reducible (apply Does.ite)
    | (fail_if_no_progress extract_lets)
    | (fail_if_no_progress (with_reducible refine Does.mk' ?_ (by with_reducible rfl)))

theorem stage_does {W : Nat} {o : State} {s : State} (hW : Within 0x20000200000000000000000000000000000000000000000000000000001800003030000000000000000000000000000000000000000010000001000000000000000000000000000000000000000000000000000000000000000000000000001000f02000000000000000000000000000000000000000000000000000000000000 W) (h : Does W o s) :
    Does W o (stage s) := by
  have up := hW.up
  have ub := hW.ub
  unfold stage
  repeat' first
    | with_reducible assumption
    | exact up _ (by decide)
    | exact ub _ (by decide)
    | exact fun _ => ub _ (by decide)
    | intro _
    | with_reducible (apply State.settle_does)
    | with_reducible (apply State.wr_does)
    | with_reducible (apply State.setVstate_does)
    | with_reducible (apply forEach_does)
    | with_reducible (apply State.clsRefuse_does)
    | with_reducible (apply Does.ite)
    | (fail_if_no_progress extract_lets)
    | (fail_if_no_progress (with_reducible refine Does.mk' ?_ (by with_reducible rfl)))
    | split
    | dsimp only

theorem stageDone_does {W : Nat} {o : State} {s : State} (hW : Within 0x20000200000000000000000000000000000000000000000000000000001800003030000000000000000000000000000000000000000010000001000000000000000000000000000000000000000000000000000000000000000000000000000000400000000000000000000000000000000000000000000000000000000000000 W) (h : Does W o s) :
    Does W o (stageDone s) := by
  have up := hW.up
  have ub := hW.ub
  unfold stageDone
  repeat' first
    | with_reducible assumption
    | exact up _ (by decide)
    | exact ub _ (by decide)
    | exact fun _ => ub _ (by decide)
    | intro _
    | with_reducible (apply State.raise_does)
    | with_reducible (apply State.wr_does)
    | with_reducible (apply Does.ite)
    | (fail_if_no_progress extract_lets)
    | (fail_if_no_progress (with_reducible refine Does.mk' ?_ (by with_reducible rfl)))

theorem abandon_does {W : Nat} {o : State} {s : State} (hW : Within 0x20000200000000000000000000000000000000000000000000000000001800003030000000000000000000000000000000000000000010000001000000000000000000000000000000000000000000000000000000000000000000000000001000a00000000000000000000000000000000000000000000000000000000000000 W) (h : Does W o s) :
    Does W o (abandon s) := by
  have up := hW.up
  have ub := hW.ub
  unfold abandon
  repeat' first
    | with_reducible assumption
    | exact up _ (by decide)
    | exact ub _ (by decide)
    | exact fun _ => ub _ (by decide)
    | intro _
    | with_reducible (apply State.settle_does)
    | with_reducible (apply State.clsRefuse_does)
    | with_reducible (apply State.wr_does)
    | with_reducible (apply State.setVstate_does)
    | with_reducible (apply Does.ite)
    | (fail_if_no_progress extract_lets)
    | (fail_if_no_progress (with_reducible refine Does.mk' ?_ (by with_reducible rfl)))

theorem versionRetire_does {W : Nat} {o : State} (x0 : Nat) {s : State} (hW : Within 0x20000200000000000000000000000000000000000000000000000000001800003030000000000000000000000000000000000000000010000001000000000000000000000000000000000000000000000000000000000000000000000000000000800000000000000000000000000000000000000000000000000000000000000 W) (h : Does W o s) :
    Does W o (versionRetire x0 s) := by
  have up := hW.up
  have ub := hW.ub
  unfold versionRetire
  repeat' first
    | with_reducible assumption
    | exact up _ (by decide)
    | exact ub _ (by decide)
    | exact fun _ => ub _ (by decide)
    | intro _
    | with_reducible (apply State.retireVer_does)
    | with_reducible (apply Does.ite)
    | (fail_if_no_progress extract_lets)
    | (fail_if_no_progress (with_reducible refine Does.mk' ?_ (by with_reducible rfl)))

theorem State.rewrote_does {W : Nat} {o : State} {s : State} (x1 : Nat) (x2 : Nat) (hW : Within 0x80000000000000000000000000000000000000000000000000000000000000000000000000000000000000000000000000000000000000000000000000000000000000000000000000000000000000000000000000000000000000000000000004000000000000000000000000000000000000000000000000000000000000 W) (h : Does W o s) :
    Does W o (State.rewrote s x1 x2) := by
  have up := hW.up
  have ub := hW.ub
  have b1015 := ub 1015 (by decide)
  unfold State.rewrote
  repeat' first
    | with_reducible assumption
    | exact up _ (by decide)
    | exact ub _ (by decide)
    | exact fun _ => ub _ (by decide)
    | intro _
    | with_reducible (apply State.wr_does)
    | with_reducible (apply Does.ite)
    | (fail_if_no_progress extract_lets)
    | (fail_if_no_progress (with_reducible refine Does.mk' ?_ (by with_reducible rfl)))

theorem ruleEntryWrite_does {W : Nat} {o : State} (x0 : Nat) (x1 : Nat) (x2 : Nat) {s : State} (hW : Within 0x20080200000000000000000000000000000000000000000000000000001800003030000000000000000000000000000000000000000010000001000000000000000000000000000000000000000000000000000000000000000000000000001000807fff000000000000000000000000000000000000000000000000000000000 W) (h : Does W o s) :
    Does W o (ruleEntryWrite x0 x1 x2 s) := by
  have up := hW.up
  have ub := hW.ub
  unfold ruleEntryWrite
  extract_lets s1
  have h1 : Does W o s1 := State.settle_does (up _ (by decide)) h
  refine Does.ite h1 (Does.ite (State.clsRefuse_does (up _ (by decide)) h1) (State.rewrote_does _ _ (up _ (by decide)) ?_))
  refine Does.foldl_mem _ _ (fun u e he hu => Does.ite hu (State.wr_does _ _ hu fun _ => ?_)) h1
  have key : ∀ w, (entryFields w).all (fun e => Nat.testBit 0x20080200000000000000000000000000000000000000000000000000001800003030000000000000000000000000000000000000000010000001000000000000000000000000000000000000000000000000000000000000000000000000001000807fff000000000000000000000000000000000000000000000000000000000 e.1.id) = true := by
    intro w; unfold entryFields; repeat' split
    all_goals first | decide | (simp only [List.all_cons, List.all_nil, Bool.and_true]; decide)
  exact ub _ (List.all_eq_true.1 (key _) _ he)

theorem vmaskWrite_does {W : Nat} {o : State} (x0 : Nat) (x1 : Nat) {s : State} (hW : Within 0x20000200000000000000000000000000000000000000000000000000001800003030000000000000000000000000000000000000000010000001000000000000000000000000000000000000000000000000000000000000000000000000001000802000000000000000000000000000000000000000000000000000000000000 W) (h : Does W o s) :
    Does W o (vmaskWrite x0 x1 s) := by
  have up := hW.up
  have ub := hW.ub
  unfold vmaskWrite
  repeat' first
    | with_reducible assumption
    | exact up _ (by decide)
    | exact ub _ (by decide)
    | exact fun _ => ub _ (by decide)
    | intro _
    | with_reducible (apply State.settle_does)
    | with_reducible (apply State.clsRefuse_does)
    | with_reducible (apply State.wr_does)
    | with_reducible (apply Does.ite)
    | (fail_if_no_progress extract_lets)
    | (fail_if_no_progress (with_reducible refine Does.mk' ?_ (by with_reducible rfl)))

theorem State.entryErrors_does {W : Nat} {o : State} {s : State} (x1 : List Nat) (hW : Within 0x2981a2000000000000000000000000000000000000000000000000fff07ff80370300fca00000000000000000000000000000000000010000001000000000000000000000000000000000000000000000000000000000000060400000000002000004000000000000000000680000000020000000000000000000000000000000 W) (h : Does W o s) :
    Does W o (State.entryErrors s x1) := by
  have up := hW.up
  have ub := hW.ub
  unfold State.entryErrors
  repeat' first
    | with_reducible assumption
    | exact up _ (by decide)
    | exact ub _ (by decide)
    | exact fun _ => ub _ (by decide)
    | intro _
    | with_reducible (apply forEach_does)
    | with_reducible (apply State.raise_does)
    | with_reducible (apply State.inc_does)
    | with_reducible (apply State.fault_does)
    | with_reducible (apply State.wr_does)
    | with_reducible (apply Does.ite)
    | (fail_if_no_progress extract_lets)
    | (fail_if_no_progress (with_reducible refine Does.mk' ?_ (by with_reducible rfl)))

theorem State.insertMarkers_does {W : Nat} {o : State} {s : State} (hW : Within 0x80020000000000000000000000000000000000000000000000000000000000000000000000000000000000000000000000000000000000000000000000000000000000000000000000000000000000000000000000000000000000000000000000000000000000000000000000000000000000000000000000000000000000 W) (h : Does W o s) :
    Does W o (State.insertMarkers s) := by
  have up := hW.up
  have ub := hW.ub
  have b1001 := ub 1001 (by decide)
  unfold State.insertMarkers
  repeat' first
    | with_reducible assumption
    | exact up _ (by decide)
    | exact ub _ (by decide)
    | exact fun _ => ub _ (by decide)
    | intro _
    | with_reducible (apply forEach_does)
    | with_reducible (apply State.setLane_does)
    | with_reducible (apply Does.ite)
    | with_reducible (apply Does.foldl)
    | (fail_if_no_progress extract_lets)
    | (fail_if_no_progress (with_reducible refine Does.mk' ?_ (by with_reducible rfl)))
    | split
    | dsimp +zetaDelta only

theorem State.toParser_does {W : Nat} {o : State} {s : State} (x1 : RxFrame) (hW : Within 0x80000000000000000000000000000000000000000000000000000000000000000000000000000000000000000000000000000000000000000000000000000000000000000000000000000000000000000000000000000000000000000000000000000000000000000000000000000000000000000000000000000000000000 W) (h : Does W o s) :
    Does W o (State.toParser s x1) := by
  have up := hW.up
  have ub := hW.ub
  unfold State.toParser
  repeat' first
    | with_reducible assumption
    | exact up _ (by decide)
    | exact ub _ (by decide)
    | exact fun _ => ub _ (by decide)
    | intro _
    | with_reducible (apply State.setLane_does)
    | with_reducible (apply Does.ite)
    | (fail_if_no_progress extract_lets)
    | (fail_if_no_progress (with_reducible refine Does.mk' ?_ (by with_reducible rfl)))

theorem State.toReorder_does {W : Nat} {o : State} {s : State} (x1 : Nat) (x2 : Judged) (hW : Within 0x80000000000000000000000000000000000000000000000000000000000000000000000000000000000000000000000000000000000000000000000000000000000000000000000000000000000000000000000000000000000000000100004000000000000000000000000000000000000000000000000000000000000000 W) (h : Does W o s) :
    Does W o (State.toReorder s x1 x2) := by
  have up := hW.up
  have ub := hW.ub
  unfold State.toReorder
  repeat' first
    | with_reducible assumption
    | exact up _ (by decide)
    | exact ub _ (by decide)
    | exact fun _ => ub _ (by decide)
    | intro _
    | with_reducible (apply State.setLane_does)
    | with_reducible (apply State.showInFlight_does)
    | with_reducible (apply State.wr_does)
    | with_reducible (apply Does.ite)
    | (fail_if_no_progress extract_lets)
    | (fail_if_no_progress (with_reducible refine Does.mk' ?_ (by with_reducible rfl)))

theorem State.parseFailed_does {W : Nat} {o : State} {s : State} (x1 : RxFrame) (x2 : Nat) (x3 : Nat) (x4 : Nat) (hW : Within 0x20080200000000000000000000000000000000000000000000000000001800003030000000000000000000000000000000000000000010000001000000000000000000000000000000000000000000000000000000000000000000000000380884000000000000000000000000000000000000000000000000000000000000000 W) (h : Does W o s) :
    Does W o (State.parseFailed s x1 x2 x3 x4) := by
  have up := hW.up
  have ub := hW.ub
  unfold State.parseFailed
  repeat' first
    | with_reducible assumption
    | exact up _ (by decide)
    | exact ub _ (by decide)
    | exact fun _ => ub _ (by decide)
    | intro _
    | with_reducible (apply State.raise_does)
    | with_reducible (apply State.wr_does)
    | with_reducible (apply State.inc_does)
    | with_reducible (apply State.toReorder_does)
    | with_reducible (apply Does.ite)
    | (fail_if_no_progress extract_lets)
    | (fail_if_no_progress (with_reducible refine Does.mk' ?_ (by with_reducible rfl)))

theorem State.missed_does {W : Nat} {o : State} {s : State} (x1 : RxFrame) (x2 : Nat) (x3 : Nat) (hW : Within 0x20080200000000000000000000000000000000000000000000000000001800003030000000000000000000000000000000000000000010000001000000000000000000000000000000000000000000000000000000000000000000000000140844000000000000000000000000000000000000000000000000000000000000000 W) (h : Does W o s) :
    Does W o (State.missed s x1 x2 x3) := by
  have up := hW.up
  have ub := hW.ub
  unfold State.missed
  repeat' first
    | with_reducible assumption
    | exact up _ (by decide)
    | exact ub _ (by decide)
    | exact fun _ => ub _ (by decide)
    | intro _
    | with_reducible (apply State.perf_does)
    | with_reducible (apply State.inc_does)
    | with_reducible (apply State.toReorder_does)
    | with_reducible (apply Does.ite)
    | (fail_if_no_progress extract_lets)
    | (fail_if_no_progress (with_reducible refine Does.mk' ?_ (by with_reducible rfl)))

theorem State.matched_does {W : Nat} {o : State} {s : State} (x1 : RxFrame) (x2 : Nat) (x3 : Nat) (x4 : Nat) (x5 : Bool) (hW : Within 0x80000000000000000000000000000000000000000000000000000000000000000000000000000000000000000000000000000000000000000000000000000000000000000000000000000000000000000000000000000000000000000100004078000000000000000000000000000000000000000000000000000000000000 W) (h : Does W o s) :
    Does W o (State.matched s x1 x2 x3 x4 x5) := by
  have up := hW.up
  have ub := hW.ub
  unfold State.matched
  repeat' first
    | with_reducible assumption
    | exact up _ (by decide)
    | exact ub _ (by decide)
    | exact fun _ => ub _ (by decide)
    | intro _
    | with_reducible (apply State.inc64_does)
    | with_reducible (apply State.toReorder_does)
    | with_reducible (apply Does.ite)
    | (fail_if_no_progress extract_lets)
    | (fail_if_no_progress (with_reducible refine Does.mk' ?_ (by with_reducible rfl)))

theorem State.engineTook_does {W : Nat} {o : State} {s : State} (x1 : Nat) (hW : Within 0x10080000000000000000000000000000000000000000000000000000000000000000000000000000000000000000000000000000000000000000000000000000000000000000000000000000000000000000000000000000000000000000000000000000000000000000000000000000000000000000000000000000000000000 W) (h : Does W o s) :
    Does W o (State.engineTook s x1) := by
  have up := hW.up
  have ub := hW.ub
  have b1015 := ub 1015 (by decide)
  unfold State.engineTook
  repeat' first
    | with_reducible assumption
    | exact up _ (by decide)
    | exact ub _ (by decide)
    | exact fun _ => ub _ (by decide)
    | intro _
    | with_reducible (apply State.won_does)
    | with_reducible (apply Does.ite)
    | (fail_if_no_progress extract_lets)
    | (fail_if_no_progress (with_reducible refine Does.mk' ?_ (by with_reducible rfl)))

theorem classifyFrame_does {W : Nat} {o : State} (x0 : Nat) (x1 : List Nat) {s : State} (hW : Within 0x3989a2200000000000000000000000000000000000000000000000fff07ff80370300fca000000000000000000000000000000000000100000010000000000000000000000000000000000000000000000000000000000000604000000003fe8c407c000000000000000000680000000020000000000000000000000000000000 W) (h : Does W o s) :
    Does W o (classifyFrame x0 x1 s) := by
  have up := hW.up
  have ub := hW.ub
  unfold classifyFrame
  repeat' first
    | with_reducible assumption
    | exact up _ (by decide)
    | exact ub _ (by decide)
    | exact fun _ => ub _ (by decide)
    | intro _
    | with_reducible (apply State.insertMarkers_does)
    | with_reducible (apply State.setLane_does)
    | with_reducible (apply State.inc64_does)
    | with_reducible (apply State.parseFailed_does)
    | with_reducible (apply State.perf_does)
    | with_reducible (apply State.missed_does)
    | with_reducible (apply State.matched_does)
    | with_reducible (apply State.entryErrors_does)
    | with_reducible (apply State.engineTook_does)
    | with_reducible (apply Does.ite)
    | (fail_if_no_progress extract_lets)
    | (fail_if_no_progress (with_reducible refine Does.mk' ?_ (by with_reducible rfl)))
    | split
    | dsimp only

theorem State.forward_does {W : Nat} {o : State} {s : State} (x1 : Judged) (hW : Within 0x200802000000000000000000000000000000000001e00000000000000018000030300000000000000000000000000000000000000000100000010000000000000000000000000000000000000000000000000000000000000000f001fe03c00000000000000000080000000000000000000000000000000000000000000000000 W) (h : Does W o s) :
    Does W o (State.forward s x1) := by
  have up := hW.up
  have ub := hW.ub
  unfold State.forward
  repeat' first
    | with_reducible assumption
    | exact up _ (by decide)
    | exact ub _ (by decide)
    | exact fun _ => ub _ (by decide)
    | intro _
    | with_reducible (apply State.police_does)
    | with_reducible (apply State.tagTo_does)
    | with_reducible (apply State.enqEq_does)
    | with_reducible (apply Does.ite)
    | (fail_if_no_progress extract_lets)
    | (fail_if_no_progress (with_reducible refine Does.mk' ?_ (by with_reducible rfl)))
    | split
    | dsimp only

theorem State.releaseOrder_does {W : Nat} {o : State} {s : State} (x1 : List Nat) (hW : Within 0x10000000000000000000000000000000000000000000000000000000000000000000000000000000000000000000000000000000000000000000000000000000000000000000000000000000000000000000000000000000000000000000000000000000000000000000000000000000000000000000000000000000000000000 W) (h : Does W o s) :
    Does W o (State.releaseOrder s x1).2 := by
  have up := hW.up
  have ub := hW.ub
  unfold State.releaseOrder
  repeat' first
    | with_reducible assumption
    | exact up _ (by decide)
    | exact ub _ (by decide)
    | exact fun _ => ub _ (by decide)
    | intro _
    | with_reducible (apply State.serveAll_does)
    | with_reducible (apply Does.ite)
    | with_reducible (apply Does.foldl)
    | with_reducible (apply Does.foldl_snd)
    | with_reducible (apply Does.foldl_snd2)
    | with_reducible (apply Does.foldl_fst)
    | (fail_if_no_progress extract_lets)
    | (fail_if_no_progress (with_reducible refine Does.mk' ?_ (by with_reducible rfl)))
    | (with_reducible (refine Does.snd (by assumption) ?_))
    | (with_reducible (refine Does.snd2 (by assumption) ?_))
    | (with_reducible (refine Does.fst (by assumption) ?_))
    | split
    | dsimp only
    | dsimp +zetaDelta only

theorem State.releaseOne_does {W : Nat} {o : State} {s : State} (x1 : Nat) (hW : Within 0x200802000000000000000000000000000000000001e00000000000000018000030300000000000000000000000000000000000000000100000010000000000000000000000000000000000000000000000000000000000000000f001fe03c00000000000000000080000000000000000000000000000000000000000000000000 W) (h : Does W o s) :
    Does W o (State.releaseOne s x1).2 := by
  have up := hW.up
  have ub := hW.ub
  have b1015 := ub 1015 (by decide)
  unfold State.releaseOne
  repeat' first
    | with_reducible assumption
    | exact up _ (by decide)
    | exact ub _ (by decide)
    | exact fun _ => ub _ (by decide)
    | intro _
    | with_reducible (apply State.setLane_does)
    | with_reducible (apply State.when_does)
    | with_reducible (apply State.forward_does)
    | with_reducible (apply Does.ite)
    | (fail_if_no_progress extract_lets)
    | (fail_if_no_progress (with_reducible refine Does.mk' ?_ (by with_reducible rfl)))
    | split
    | dsimp only

theorem State.slowAll_does {W : Nat} {o : State} {s : State} (x1 : List (Judged × Nat × Nat)) (hW : Within 0x30080200000000000000000000000000000000000000000000000000001800003030000000000000000000000000002402000000000010000001000000000000000000000000000000000000000000000000000000000000000000000000000700000000000000000000000000000000000000000000000000000000000000000 W) (h : Does W o s) :
    Does W o (State.slowAll s x1) := by
  have up := hW.up
  have ub := hW.ub
  unfold State.slowAll
  repeat' first
    | with_reducible assumption
    | exact up _ (by decide)
    | exact ub _ (by decide)
    | exact fun _ => ub _ (by decide)
    | intro _
    | with_reducible (apply State.won_does)
    | with_reducible (apply State.slowPath_does)
    | with_reducible (apply Does.ite)
    | with_reducible (apply Does.foldl)
    | (fail_if_no_progress extract_lets)
    | (fail_if_no_progress (with_reducible refine Does.mk' ?_ (by with_reducible rfl)))
    | split
    | dsimp +zetaDelta only

theorem reorderRelease_does {W : Nat} {o : State} (x0 : Nat) (x1 : Nat) (x2 : Nat) (x3 : List Release) {s : State} (hW : Within 0x300802200000000000000000000000000000000001e00000000000000018000030300000000000000000000000000024020000000000100000010000000000000000000000000000000000000000000000000000000000000000f001fe03c00704000000000000080000000000000000000000000000000000000000000000000 W) (h : Does W o s) :
    Does W o (reorderRelease x0 x1 x2 x3 s) := by
  have up := hW.up
  have ub := hW.ub
  unfold reorderRelease
  repeat' first
    | with_reducible assumption
    | exact up _ (by decide)
    | exact ub _ (by decide)
    | exact fun _ => ub _ (by decide)
    | intro _
    | with_reducible (apply State.insertMarkers_does)
    | with_reducible (apply State.releaseOrder_does)
    | with_reducible (apply State.releaseOne_does)
    | with_reducible (apply State.showInFlight_does)
    | with_reducible (apply State.slowAll_does)
    | with_reducible (apply Does.ite)
    | with_reducible (apply Does.foldl)
    | with_reducible (apply Does.foldl_snd)
    | with_reducible (apply Does.foldl_snd2)
    | with_reducible (apply Does.foldl_fst)
    | (fail_if_no_progress extract_lets)
    | (fail_if_no_progress (with_reducible refine Does.mk' ?_ (by with_reducible rfl)))
    | (with_reducible (refine Does.snd (by assumption) ?_))
    | (with_reducible (refine Does.snd2 (by assumption) ?_))
    | (with_reducible (refine Does.fst (by assumption) ?_))
    | split
    | dsimp only
    | dsimp +zetaDelta only

end Sys2Proof.Machine
end

