-- ==== Sys2Proof/Laws/DFklOps.lean ====
section
/-! SUPPORT. What the operations of FklOps can change. -/

set_option linter.unreachableTactic false
set_option linter.unusedTactic false
set_option linter.unusedVariables false
set_option Elab.async false

namespace Sys2Proof.Machine

theorem State.putCell_does {W : Nat} {o : State} {s : State} (x1 : Nat) (x2 : Nat) (x3 : Nat) (x4 : Bool) (x5 : Bool) (x6 : Bool) (x7 : Nat) (x8 : List Nat) (hW : Within 0x20000200000000000000000000000000000000000000000000000000001800003030000000000000000000000000000000000000000010000001000000000000000000000000000000000000000000000000000000000000000000000000000000000000000000000000000000000000000000000000000000000000000000000 W) (h : Does W o s) :
    Does W o (State.putCell s x1 x2 x3 x4 x5 x6 x7 x8) := by
  have up := hW.up
  have ub := hW.ub
  unfold State.putCell
  repeat' first
    | with_reducible assumption
    | exact up _ (by decide)
    | exact ub _ (by decide)
    | exact fun _ => ub _ (by decide)
    | intro _
    | with_reducible (apply State.perf_does)
    | with_reducible (apply State.emit_does)
    | with_reducible (apply Does.ite)
    | (fail_if_no_progress extract_lets)
    | (fail_if_no_progress (with_reducible refine Does.mk' ?_ (by with_reducible rfl)))

theorem State.seqOn_does {W : Nat} {o : State} {s : State} (x1 : Nat) (hW : Within 0x200000000000000000000000000000000000000000000000000000000000000000000000000000000000000000000000000000000000000000000000000000000000000000000000000000000000000000000000000000000000000000000000000000000000000000000000000000000000000000000000000000000000000 W) (h : Does W o s) :
    Does W o (State.seqOn s x1) := by
  have up := hW.up
  have ub := hW.ub
  have b1017 := ub 1017 (by decide)
  unfold State.seqOn
  repeat' first
    | with_reducible assumption
    | exact up _ (by decide)
    | exact ub _ (by decide)
    | exact fun _ => ub _ (by decide)
    | intro _
    | with_reducible (apply Does.ite)
    | (fail_if_no_progress extract_lets)
    | (fail_if_no_progress (with_reducible refine Does.mk' ?_ (by with_reducible rfl)))

theorem State.sendCell_does {W : Nat} {o : State} {s : State} (x1 : Nat) (x2 : Nat) (x3 : Nat) (x4 : Bool) (x5 : Bool) (x6 : Nat) (x7 : List Nat) (hW : Within 0x20200200000000000000000000000000000000000000000000000000001800003030000000000000000000000000000000000000000010000001000000000000000000000000000000000000000000000000000000000000000000000000000000000000000000000000000000000000000000000000000000000000000000000 W) (h : Does W o s) :
    Does W o (State.sendCell s x1 x2 x3 x4 x5 x6 x7) := by
  have up := hW.up
  have ub := hW.ub
  unfold State.sendCell
  repeat' first
    | with_reducible assumption
    | exact up _ (by decide)
    | exact ub _ (by decide)
    | exact fun _ => ub _ (by decide)
    | intro _
    | with_reducible (apply State.seqOn_does)
    | with_reducible (apply State.putCell_does)
    | with_reducible (apply Does.ite)
    | (fail_if_no_progress extract_lets)
    | (fail_if_no_progress (with_reducible refine Does.mk' ?_ (by with_reducible rfl)))

theorem State.sendUnit_does {W : Nat} {o : State} {s : State} (x1 : Nat) (x2 : Nat) (x3 : List Nat) (hW : Within 0x20200200000000000000000000000000000000000000000000000000001800003030000000000000000000000000000000000000000010000001000000000000000000000000000000000000000000000000000000000000000000000000000000000000000000000000000000000000000000000000000000000000000000000 W) (h : Does W o s) :
    Does W o (State.sendUnit s x1 x2 x3) := by
  have up := hW.up
  have ub := hW.ub
  unfold State.sendUnit
  repeat' first
    | with_reducible assumption
    | exact up _ (by decide)
    | exact ub _ (by decide)
    | exact fun _ => ub _ (by decide)
    | intro _
    | with_reducible (apply forEach_does)
    | with_reducible (apply State.sendCell_does)
    | with_reducible (apply Does.ite)
    | (fail_if_no_progress extract_lets)
    | (fail_if_no_progress (with_reducible refine Does.mk' ?_ (by with_reducible rfl)))

theorem State.forwardUnit_does {W : Nat} {o : State} {s : State} (x1 : Nat) (x2 : List Nat) (hW : Within 0x202002000000000000000000000000000000000000000000000000000018000030300000000000000c0000000000000000000000000010000001000000000000000000000000000000000000000000000000000000000000000000000000000000000000000000000000000000000000000000000000000000000000000000000 W) (h : Does W o s) :
    Does W o (State.forwardUnit s x1 x2) := by
  have up := hW.up
  have ub := hW.ub
  have b1017 := ub 1017 (by decide)
  unfold State.forwardUnit
  repeat' first
    | with_reducible assumption
    | exact up _ (by decide)
    | exact ub _ (by decide)
    | exact fun _ => ub _ (by decide)
    | intro _
    | with_reducible (apply State.raise_does)
    | with_reducible (apply State.inc_does)
    | with_reducible (apply State.sendUnit_does)
    | with_reducible (apply Does.ite)
    | (fail_if_no_progress extract_lets)
    | (fail_if_no_progress (with_reducible refine Does.mk' ?_ (by with_reducible rfl)))
    | split
    | dsimp only

theorem State.relayOut_does {W : Nat} {o : State} {s : State} (x1 : Nat) (x2 : Nat) (x3 : Nat) (x4 : Bool) (x5 : Bool) (x6 : List Nat) (hW : Within 0x20200200000000000000000000000000000000000000000000000000001800003030000000000000000000000000000000000000000010000001000000000000000000000000000000000000000000000000000000000000000000000000000000000000000000000000000000000000000000000000000000000000000000000 W) (h : Does W o s) :
    Does W o (State.relayOut s x1 x2 x3 x4 x5 x6) := by
  have up := hW.up
  have ub := hW.ub
  unfold State.relayOut
  repeat' first
    | with_reducible assumption
    | exact up _ (by decide)
    | exact ub _ (by decide)
    | exact fun _ => ub _ (by decide)
    | intro _
    | with_reducible (apply forEach_does)
    | with_reducible (apply State.seqOn_does)
    | with_reducible (apply State.putCell_does)
    | with_reducible (apply Does.ite)
    | with_reducible (apply Does.foldl)
    | (fail_if_no_progress extract_lets)
    | (fail_if_no_progress (with_reducible refine Does.mk' ?_ (by with_reducible rfl)))
    | split
    | dsimp +zetaDelta only

theorem State.groupBlockOut_does {W : Nat} {o : State} {s : State} (x1 : Nat) (x2 : Nat) (x3 : Nat) (x4 : Bool) (x5 : List Nat) (hW : Within 0x20200200000000000000000000000000000000000000000000000000001800003030000000000000000000000000000000000000000010000001000000000000000000000000000000000000000000000000000000000000000000000000000000000000000000000000000000000000000000000000000000000000000000000 W) (h : Does W o s) :
    Does W o (State.groupBlockOut s x1 x2 x3 x4 x5) := by
  have up := hW.up
  have ub := hW.ub
  unfold State.groupBlockOut
  repeat' first
    | with_reducible assumption
    | exact up _ (by decide)
    | exact ub _ (by decide)
    | exact fun _ => ub _ (by decide)
    | intro _
    | with_reducible (apply State.relayOut_does)
    | with_reducible (apply Does.ite)
    | (fail_if_no_progress extract_lets)
    | (fail_if_no_progress (with_reducible refine Does.mk' ?_ (by with_reducible rfl)))

theorem State.ctrlBlockOut_does {W : Nat} {o : State} {s : State} (x1 : Bool) (x2 : Bool) (x3 : Nat) (x4 : Nat) (x5 : List Nat) (hW : Within 0x20200200000000000000000000000000000000000000000000000000001800003030000000000000000000000000000000000000000010000001000000000000000000000000000000000000000000000000000000000000000000000000000000000000000000000000000000000000000000000000000000000000000000000 W) (h : Does W o s) :
    Does W o (State.ctrlBlockOut s x1 x2 x3 x4 x5) := by
  have up := hW.up
  have ub := hW.ub
  unfold State.ctrlBlockOut
  repeat' first
    | with_reducible assumption
    | exact up _ (by decide)
    | exact ub _ (by decide)
    | exact fun _ => ub _ (by decide)
    | intro _
    | with_reducible (apply State.relayOut_does)
    | with_reducible (apply Does.ite)
    | (fail_if_no_progress extract_lets)
    | (fail_if_no_progress (with_reducible refine Does.mk' ?_ (by with_reducible rfl)))

end Sys2Proof.Machine
end

