-- ==== Sys2Proof/Laws/DShift.lean ====
section
/-! SUPPORT. What the operations of Shift can change. -/

set_option linter.unreachableTactic false
set_option linter.unusedTactic false
set_option linter.unusedVariables false
set_option Elab.async false

namespace Sys2Proof.Machine

theorem State.shiftLt_does {W : Nat} {o : State} {s : State} (x1 : Int) (hW : Within 0x1ff7820000000000000000000000000000000000000000000000000000000000000000000000000000000000000000000000000000000000000000000000000000000000000000000000000000000000000000000000000000000000000000000000000000000000000000000000000000000000000000000000000000000000 W) (h : Does W o s) :
    Does W o (State.shiftLt s x1) := by
  have up := hW.up
  have ub := hW.ub
  have b1001 := ub 1001 (by decide)
  have b1007 := ub 1007 (by decide)
  have b1008 := ub 1008 (by decide)
  have b1009 := ub 1009 (by decide)
  have b1010 := ub 1010 (by decide)
  have b1012 := ub 1012 (by decide)
  have b1013 := ub 1013 (by decide)
  have b1014 := ub 1014 (by decide)
  have b1015 := ub 1015 (by decide)
  have b1016 := ub 1016 (by decide)
  have b1017 := ub 1017 (by decide)
  have b1018 := ub 1018 (by decide)
  have b1019 := ub 1019 (by decide)
  have b1020 := ub 1020 (by decide)
  unfold State.shiftLt
  repeat' first
    | with_reducible assumption
    | exact up _ (by decide)
    | exact ub _ (by decide)
    | exact fun _ => ub _ (by decide)
    | intro _
    | with_reducible (apply Does.ite)
    | (fail_if_no_progress extract_lets)
    | (fail_if_no_progress (with_reducible refine Does.mk' ?_ (by with_reducible rfl)))

end Sys2Proof.Machine
end

