-- ==== Sys2Proof/Laws/DGates.lean ====
section
/-! SUPPORT. What the operations of Gates can change. -/

set_option linter.unreachableTactic false
set_option linter.unusedTactic false
set_option linter.unusedVariables false
set_option Elab.async false

namespace Sys2Proof.Machine

theorem State.bindLists_does {W : Nat} {o : State} {s : State} (hW : Within 0x20000000000000000000000000000000000000000000000000000000000000000000000000000000000 W) (h : Does W o s) :
    Does W o (State.bindLists s) := by
  have up := hW.up
  have ub := hW.ub
  unfold State.bindLists
  repeat' first
    | with_reducible assumption
    | exact up _ (by decide)
    | exact ub _ (by decide)
    | exact fun _ => ub _ (by decide)
    | intro _
    | with_reducible (apply forEach_does)
    | with_reducible (apply State.flag_does)
    | with_reducible (apply Does.ite)
    | (fail_if_no_progress extract_lets)
    | (fail_if_no_progress (with_reducible refine Does.mk' ?_ (by with_reducible rfl)))

theorem State.showSlice_does {W : Nat} {o : State} {s : State} (x1 : Nat) (x2 : Slice) (hW : Within 0x300000000000000000000000000000000000000000000000000000000000000000000000000000000000000 W) (h : Does W o s) :
    Does W o (State.showSlice s x1 x2) := by
  have up := hW.up
  have ub := hW.ub
  unfold State.showSlice
  repeat' first
    | with_reducible assumption
    | exact up _ (by decide)
    | exact ub _ (by decide)
    | exact fun _ => ub _ (by decide)
    | intro _
    | with_reducible (apply State.wr_does)
    | with_reducible (apply Does.ite)
    | (fail_if_no_progress extract_lets)
    | (fail_if_no_progress (with_reducible refine Does.mk' ?_ (by with_reducible rfl)))

theorem State.gateSync_does {W : Nat} {o : State} {s : State} (x1 : Nat) (hW : Within 0x300000000000000000000000000000000000000000000000000000000000000000000000000000000000000 W) (h : Does W o s) :
    Does W o (State.gateSync s x1) := by
  have up := hW.up
  have ub := hW.ub
  unfold State.gateSync
  repeat' first
    | with_reducible assumption
    | exact up _ (by decide)
    | exact ub _ (by decide)
    | exact fun _ => ub _ (by decide)
    | intro _
    | with_reducible (apply State.showSlice_does)
    | with_reducible (apply Does.ite)
    | (fail_if_no_progress extract_lets)
    | (fail_if_no_progress (with_reducible refine Does.mk' ?_ (by with_reducible rfl)))
    | split
    | dsimp only

theorem State.gateOverrun_does {W : Nat} {o : State} {s : State} (x1 : Nat) (hW : Within 0x20080200000000000000000000000000000000000000000000000000001800003030000000000000000000000000000000000000000010000001000000000000000000000000000000000000000000000000000000400000000000000000000000000000000000000000000000000000000000000000000000000000000000000 W) (h : Does W o s) :
    Does W o (State.gateOverrun s x1) := by
  have up := hW.up
  have ub := hW.ub
  unfold State.gateOverrun
  repeat' first
    | with_reducible assumption
    | exact up _ (by decide)
    | exact ub _ (by decide)
    | exact fun _ => ub _ (by decide)
    | intro _
    | with_reducible (apply State.raise_does)
    | with_reducible (apply State.inc_does)
    | with_reducible (apply State.setPort_does)
    | with_reducible (apply Does.ite)
    | (fail_if_no_progress extract_lets)
    | (fail_if_no_progress (with_reducible refine Does.mk' ?_ (by with_reducible rfl)))
    | split
    | dsimp only

theorem State.gatesMoved_does {W : Nat} {o : State} {s : State} (x1 : Nat) (hW : Within 0x20080200000000000000000000000000000000000000000000000000001800003030000000000000000000000000000000000000000010000001000000000000000000000000000000000000000000000000000000700000000000000000000000000000000000000000000000000000000000000000000000000000000000000 W) (h : Does W o s) :
    Does W o (State.gatesMoved s x1) := by
  have up := hW.up
  have ub := hW.ub
  unfold State.gatesMoved
  repeat' first
    | with_reducible assumption
    | exact up _ (by decide)
    | exact ub _ (by decide)
    | exact fun _ => ub _ (by decide)
    | intro _
    | with_reducible (apply forEach_does)
    | with_reducible (apply State.gateOverrun_does)
    | with_reducible (apply State.gateSync_does)
    | with_reducible (apply Does.ite)
    | (fail_if_no_progress extract_lets)
    | (fail_if_no_progress (with_reducible refine Does.mk' ?_ (by with_reducible rfl)))

theorem State.moveLt_does {W : Nat} {o : State} {s : State} (x1 : Int) (hW : Within 0x21ff7a20000000000000000000000000000000000000000000000000001800003030000000000000000000000000000000000000000010000001000000000000000000000000000000000000000000000000000000700000000000000000000000000000000000000000000000000000000000000000000000000000000000000 W) (h : Does W o s) :
    Does W o (State.moveLt s x1) := by
  have up := hW.up
  have ub := hW.ub
  unfold State.moveLt
  repeat' first
    | with_reducible assumption
    | exact up _ (by decide)
    | exact ub _ (by decide)
    | exact fun _ => ub _ (by decide)
    | intro _
    | with_reducible (apply State.gatesMoved_does)
    | with_reducible (apply State.shiftLt_does)
    | with_reducible (apply Does.ite)
    | (fail_if_no_progress extract_lets)
    | (fail_if_no_progress (with_reducible refine Does.mk' ?_ (by with_reducible rfl)))

theorem gateListCommit_does {W : Nat} {o : State} (x0 : Nat) {s : State} (hW : Within 0x200002000000000000000000000000000000000000006000000000000018000030300000000000000000000000000000000000000000100000010000000000000000000000000000000000000000000000000000000e0188000000000000000000000000000000000000000000000000000000000000000000000000000000000 W) (h : Does W o s) :
    Does W o (gateListCommit x0 s) := by
  have up := hW.up
  have ub := hW.ub
  unfold gateListCommit
  repeat' first
    | with_reducible assumption
    | exact up _ (by decide)
    | exact ub _ (by decide)
    | exact fun _ => ub _ (by decide)
    | intro _
    | with_reducible (apply State.raise_does)
    | with_reducible (apply State.inc_does)
    | with_reducible (apply State.wr_does)
    | with_reducible (apply State.wr64_does)
    | with_reducible (apply Does.ite)
    | (fail_if_no_progress extract_lets)
    | (fail_if_no_progress (with_reducible refine Does.mk' ?_ (by with_reducible rfl)))

theorem State.startList_does {W : Nat} {o : State} {s : State} (x1 : Nat) (hW : Within 0x20080200000000000000000000000000000000000006100000000000001800003030000000000000000000000000000000000000000010000001000000000000000000000000000000000000000000000000000000710858000000000000000000000000000000000000000000000000000000000000000000000000000000000 W) (h : Does W o s) :
    Does W o (State.startList s x1) := by
  have up := hW.up
  have ub := hW.ub
  have b1015 := ub 1015 (by decide)
  unfold State.startList
  repeat' first
    | with_reducible assumption
    | exact up _ (by decide)
    | exact ub _ (by decide)
    | exact fun _ => ub _ (by decide)
    | intro _
    | with_reducible (apply forEach_does)
    | with_reducible (apply State.wr_does)
    | with_reducible (apply State.raise_does)
    | with_reducible (apply State.gateOverrun_does)
    | with_reducible (apply State.gateSync_does)
    | with_reducible (apply Does.ite)
    | (fail_if_no_progress extract_lets)
    | (fail_if_no_progress (with_reducible refine Does.mk' ?_ (by with_reducible rfl)))

theorem gateListStart_does {W : Nat} {o : State} (x0 : Nat) {s : State} (hW : Within 0x20080a00000000000000000000000000000000000006100000000000001800003030000000000000000000000000000000000000000010000001000000000000000000000000000000000000000000000000000000710858000000000000000000000000000000000000000000000000000000000000000000000000000200000 W) (h : Does W o s) :
    Does W o (gateListStart x0 s) := by
  have up := hW.up
  have ub := hW.ub
  unfold gateListStart
  repeat' first
    | with_reducible assumption
    | exact up _ (by decide)
    | exact ub _ (by decide)
    | exact fun _ => ub _ (by decide)
    | intro _
    | with_reducible (apply State.startList_does)
    | with_reducible (apply State.advance_does)
    | with_reducible (apply Does.ite)
    | (fail_if_no_progress extract_lets)
    | (fail_if_no_progress (with_reducible refine Does.mk' ?_ (by with_reducible rfl)))

theorem gateListCancel_does {W : Nat} {o : State} (x0 : Nat) {s : State} (hW : Within 0x20080200000000000000000000000000000000000006100000000000001800003030000000000000000000000000000000000000000010000001000000000000000000000000000000000000000000000000000000710858000000000000000000000000000000000000000000000000000000000000000000000000000000000 W) (h : Does W o s) :
    Does W o (gateListCancel x0 s) := by
  have up := hW.up
  have ub := hW.ub
  unfold gateListCancel
  repeat' first
    | with_reducible assumption
    | exact up _ (by decide)
    | exact ub _ (by decide)
    | exact fun _ => ub _ (by decide)
    | intro _
    | with_reducible (apply State.startList_does)
    | with_reducible (apply State.wr_does)
    | with_reducible (apply Does.ite)
    | (fail_if_no_progress extract_lets)
    | (fail_if_no_progress (with_reducible refine Does.mk' ?_ (by with_reducible rfl)))

theorem gateEntryAdvance_does {W : Nat} {o : State} (x0 : Nat) {s : State} (hW : Within 0x800000000000000000000000000000000000000000000000000000000000000000000000000000000000000000000000000000000000000000000000000000000000000000000000000000000000000000000300000000000000000000000000000000000000000000000000000000000000000000000000000000200000 W) (h : Does W o s) :
    Does W o (gateEntryAdvance x0 s) := by
  have up := hW.up
  have ub := hW.ub
  unfold gateEntryAdvance
  repeat' first
    | with_reducible assumption
    | exact up _ (by decide)
    | exact ub _ (by decide)
    | exact fun _ => ub _ (by decide)
    | intro _
    | with_reducible (apply State.showSlice_does)
    | with_reducible (apply State.advance_does)
    | with_reducible (apply Does.ite)
    | (fail_if_no_progress extract_lets)
    | (fail_if_no_progress (with_reducible refine Does.mk' ?_ (by with_reducible rfl)))
    | split
    | dsimp only

end Sys2Proof.Machine
end

