-- ==== Sys2Proof/Laws/DLeave.lean ====
section
/-! SUPPORT. What the operations of Leave can change. -/

set_option linter.unreachableTactic false
set_option linter.unusedTactic false
set_option linter.unusedVariables false
set_option Elab.async false

namespace Sys2Proof.Machine

theorem State.showPower_does {W : Nat} {o : State} {s : State} (hW : Within 0x20000200000000000000000000000000000000000000000000000000001800003030000580000000000000000000000000000000000010000001000000000000000000000000000000000000000000000000000000000000000000000000000000000000000000000000000000000000000000000000000000000000000000000 W) (h : Does W o s) :
    Does W o (State.showPower s) := by
  have up := hW.up
  have ub := hW.ub
  unfold State.showPower
  repeat' first
    | with_reducible assumption
    | exact up _ (by decide)
    | exact ub _ (by decide)
    | exact fun _ => ub _ (by decide)
    | intro _
    | with_reducible (apply State.flag_does)
    | with_reducible (apply State.wr_does)
    | with_reducible (apply State.raiseIf_does)
    | with_reducible (apply Does.ite)
    | (fail_if_no_progress extract_lets)
    | (fail_if_no_progress (with_reducible refine Does.mk' ?_ (by with_reducible rfl)))

theorem State.askLeave_does {W : Nat} {o : State} {s : State} (x1 : Leave) (hW : Within 0x800000000000000000000000000000000000000000000000000000000000000000003a00000000000000000000000000000000000000000000000000000000000000000000000000000000000000000000000000000000000000000000000000000000000000000000000000000000000000000000000000000000000000000 W) (h : Does W o s) :
    Does W o (State.askLeave s x1).2 := by
  have up := hW.up
  have ub := hW.ub
  have b1019 := ub 1019 (by decide)
  unfold State.askLeave
  repeat' first
    | with_reducible assumption
    | exact up _ (by decide)
    | exact ub _ (by decide)
    | exact fun _ => ub _ (by decide)
    | intro _
    | with_reducible (apply State.showLeave_does)
    | with_reducible (apply State.inc_does)
    | with_reducible (apply Does.ite)
    | (fail_if_no_progress extract_lets)
    | (fail_if_no_progress (with_reducible refine Does.mk' ?_ (by with_reducible rfl)))
    | split
    | dsimp only

theorem State.askAll_does {W : Nat} {o : State} {s : State} (x1 : List Leave) (hW : Within 0x10800000000000000000000000000000000000000000000000000000000000000000003a00000000000000000000000000000000000000000000000000000000000000000000000000000000000000000000000000000000000000000000000000000000000000000000000000000000000000000000000000000000000000000 W) (h : Does W o s) :
    Does W o (State.askAll s x1) := by
  have up := hW.up
  have ub := hW.ub
  unfold State.askAll
  repeat' first
    | with_reducible assumption
    | exact up _ (by decide)
    | exact ub _ (by decide)
    | exact fun _ => ub _ (by decide)
    | intro _
    | with_reducible (apply forEach_does)
    | with_reducible (apply State.askLeave_does)
    | with_reducible (apply State.serveAll_does)
    | with_reducible (apply Does.ite)
    | (fail_if_no_progress extract_lets)
    | (fail_if_no_progress (with_reducible refine Does.mk' ?_ (by with_reducible rfl)))

theorem State.giveLeave_does {W : Nat} {o : State} {s : State} (x1 : Nat) (x2 : Nat) (x3 : Nat) (hW : Within 0x800000000000000000000000000000000000000000000000000000000000000000000a00000000000000000000000000000000000000000000000000000000000000000000000000000000000000000000000000000000000000000000000000000000000000000000000000000000000000000000000000000000000000000 W) (h : Does W o s) :
    Does W o (State.giveLeave s x1 x2 x3) := by
  have up := hW.up
  have ub := hW.ub
  have b1019 := ub 1019 (by decide)
  unfold State.giveLeave
  repeat' first
    | with_reducible assumption
    | exact up _ (by decide)
    | exact ub _ (by decide)
    | exact fun _ => ub _ (by decide)
    | intro _
    | with_reducible (apply State.showLeave_does)
    | with_reducible (apply Does.ite)
    | (fail_if_no_progress extract_lets)
    | (fail_if_no_progress (with_reducible refine Does.mk' ?_ (by with_reducible rfl)))

theorem State.passLeave_does {W : Nat} {o : State} {s : State} (x1 : Nat) (x2 : Nat) (x3 : Nat) (x4 : Nat) (hW : Within 0x800000000000000000000000000000000000000000000000000000000000000000000000000000000000000000000000000000000000000000000000000000000000000000000000000000000000000000000000000000000000000000000000000000000000000000000000000000000000000000000000000000000000000 W) (h : Does W o s) :
    Does W o (State.passLeave s x1 x2 x3 x4) := by
  have up := hW.up
  have ub := hW.ub
  have b1019 := ub 1019 (by decide)
  unfold State.passLeave
  repeat' first
    | with_reducible assumption
    | exact up _ (by decide)
    | exact ub _ (by decide)
    | exact fun _ => ub _ (by decide)
    | intro _
    | with_reducible (apply Does.ite)
    | with_reducible (apply Does.foldl)
    | with_reducible (apply Does.foldl_snd)
    | with_reducible (apply Does.foldl_snd2)
    | with_reducible (apply Does.foldl_fst)
    | (fail_if_no_progress extract_lets)
    | (fail_if_no_progress (with_reducible refine Does.mk' ?_ (by with_reducible rfl)))
    | (with_reducible (refine Does.snd (by assumption) ?_))
    | (with_reducible (refine Does.snd2 (by assumption) ?_))
    | (with_reducible (refine Does.fst (by assumption) ?_))
    | split
    | dsimp only
    | dsimp +zetaDelta only

theorem State.giveAllLeave_does {W : Nat} {o : State} {s : State} (hW : Within 0x800000000000000000000000000000000000000000000000000000000000000000000a00000000000000000000000000000000000000000000000000000000000000000000000000000000000000000000000000000000000000000000000000000000000000000000000000000000000000000000000000000000000000000 W) (h : Does W o s) :
    Does W o (State.giveAllLeave s) := by
  have up := hW.up
  have ub := hW.ub
  have b1019 := ub 1019 (by decide)
  unfold State.giveAllLeave
  repeat' first
    | with_reducible assumption
    | exact up _ (by decide)
    | exact ub _ (by decide)
    | exact fun _ => ub _ (by decide)
    | intro _
    | with_reducible (apply State.showLeave_does)
    | with_reducible (apply Does.ite)
    | with_reducible (apply Does.foldl)
    | (fail_if_no_progress extract_lets)
    | (fail_if_no_progress (with_reducible refine Does.mk' ?_ (by with_reducible rfl)))
    | split
    | dsimp +zetaDelta only

theorem State.setMode_does {W : Nat} {o : State} {s : State} (x1 : Mode) (hW : Within 0x28000600000000000000000000000000000000000000000000000000001800003030000580000000000000000000000000000000000010000001000000000000000000000000000000000000000000000000000000000000000000000000000000000000000000000000000000000000000000000000000000000000000000000 W) (h : Does W o s) :
    Does W o (State.setMode s x1) := by
  have up := hW.up
  have ub := hW.ub
  have b1006 := ub 1006 (by decide)
  unfold State.setMode
  repeat' first
    | with_reducible assumption
    | exact up _ (by decide)
    | exact ub _ (by decide)
    | exact fun _ => ub _ (by decide)
    | intro _
    | with_reducible (apply State.showPower_does)
    | with_reducible (apply State.updTxdis_does)
    | with_reducible (apply Does.ite)
    | (fail_if_no_progress extract_lets)
    | (fail_if_no_progress (with_reducible refine Does.mk' ?_ (by with_reducible rfl)))

theorem State.startTransit_does {W : Nat} {o : State} {s : State} (x1 : Mode) (hW : Within 0x800000000000000000000000000000000000000000000000000000000000000000000000000800000000000000000000000000000000000000000000000000000000000000000000000000000000000000000000000000000000000000000000000000000000000000000000000000000000000000000000000000000000000 W) (h : Does W o s) :
    Does W o (State.startTransit s x1) := by
  have up := hW.up
  have ub := hW.ub
  have b1019 := ub 1019 (by decide)
  unfold State.startTransit
  repeat' first
    | with_reducible assumption
    | exact up _ (by decide)
    | exact ub _ (by decide)
    | exact fun _ => ub _ (by decide)
    | intro _
    | with_reducible (apply State.wr_does)
    | with_reducible (apply Does.ite)
    | (fail_if_no_progress extract_lets)
    | (fail_if_no_progress (with_reducible refine Does.mk' ?_ (by with_reducible rfl)))

theorem State.latchWake_does {W : Nat} {o : State} {s : State} (x1 : Nat) (hW : Within 0x800000000000000000000000000000000000000000000000000000000000000000000000010000000000000000000000000000000000000000000000000000000000000000000000000000000000000000000000000000000000000000000000000000000000000000000000000000000000000000000000000000000000000 W) (h : Does W o s) :
    Does W o (State.latchWake s x1) := by
  have up := hW.up
  have ub := hW.ub
  have b1019 := ub 1019 (by decide)
  unfold State.latchWake
  repeat' first
    | with_reducible assumption
    | exact up _ (by decide)
    | exact ub _ (by decide)
    | exact fun _ => ub _ (by decide)
    | intro _
    | with_reducible (apply State.wr_does)
    | with_reducible (apply Does.ite)
    | (fail_if_no_progress extract_lets)
    | (fail_if_no_progress (with_reducible refine Does.mk' ?_ (by with_reducible rfl)))

theorem State.mapHit_does {W : Nat} {o : State} {s : State} (hW : Within 0x800000000000000000000000000000000000000000000000000000000000000000000010010000000000000000000000000000000000000000000000000000000000000000000000000000000000000000000000000000000000000000000000000000000000000000000000000000000000000000000000000000000000000 W) (h : Does W o s) :
    Does W o (State.mapHit s) := by
  have up := hW.up
  have ub := hW.ub
  have b1019 := ub 1019 (by decide)
  unfold State.mapHit
  repeat' first
    | with_reducible assumption
    | exact up _ (by decide)
    | exact ub _ (by decide)
    | exact fun _ => ub _ (by decide)
    | intro _
    | with_reducible (apply State.latchWake_does)
    | with_reducible (apply State.inc_does)
    | with_reducible (apply Does.ite)
    | (fail_if_no_progress extract_lets)
    | (fail_if_no_progress (with_reducible refine Does.mk' ?_ (by with_reducible rfl)))

end Sys2Proof.Machine
end

