-- ==== Sys2Proof/Laws/DRxOps.lean ====
section
/-! SUPPORT. What the operations of RxOps can change. -/

set_option linter.unreachableTactic false
set_option linter.unusedTactic false
set_option linter.unusedVariables false
set_option Elab.async false

namespace Sys2Proof.Machine

theorem State.mapSub_does {W : Nat} {o : State} {s : State} (x1 : Nat) (x2 : Sub → Sub) (hW : Within 0x1000000000000000000000000000000000000000000000000000000000000000000000000000000000000000000000000000000000000000000000000000000000000000000000000000000000000000000000000000000000000000000000000000000000000000000000000000000000000000000000000000000000000 W) (h : Does W o s) :
    Does W o (State.mapSub s x1 x2) := by
  have up := hW.up
  have ub := hW.ub
  have b1008 := ub 1008 (by decide)
  unfold State.mapSub
  repeat' first
    | with_reducible assumption
    | exact up _ (by decide)
    | exact ub _ (by decide)
    | exact fun _ => ub _ (by decide)
    | intro _
    | with_reducible (apply Does.ite)
    | (fail_if_no_progress extract_lets)
    | (fail_if_no_progress (with_reducible refine Does.mk' ?_ (by with_reducible rfl)))

theorem State.mapChain_does {W : Nat} {o : State} {s : State} (x1 : Nat) (x2 : Chain → Chain) (hW : Within 0x1000000000000000000000000000000000000000000000000000000000000000000000000000000000000000000000000000000000000000000000000000000000000000000000000000000000000000000000000000000000000000000000000000000000000000000000000000000000000000000000000000000000000 W) (h : Does W o s) :
    Does W o (State.mapChain s x1 x2) := by
  have up := hW.up
  have ub := hW.ub
  have b1008 := ub 1008 (by decide)
  unfold State.mapChain
  repeat' first
    | with_reducible assumption
    | exact up _ (by decide)
    | exact ub _ (by decide)
    | exact fun _ => ub _ (by decide)
    | intro _
    | with_reducible (apply Does.ite)
    | (fail_if_no_progress extract_lets)
    | (fail_if_no_progress (with_reducible refine Does.mk' ?_ (by with_reducible rfl)))

theorem State.losePlace_does {W : Nat} {o : State} {s : State} (x1 : Nat) (hW : Within 0x1000000000000000000000000000000000000000000000000000000000000000000000000000000000000000000000000000000000000000000000000000000000000000000000000000000000000000000000000000000000000000000000000000000000000000000000000000000000000000000000000000000000000 W) (h : Does W o s) :
    Does W o (State.losePlace s x1) := by
  have up := hW.up
  have ub := hW.ub
  have b1008 := ub 1008 (by decide)
  unfold State.losePlace
  repeat' first
    | with_reducible assumption
    | exact up _ (by decide)
    | exact ub _ (by decide)
    | exact fun _ => ub _ (by decide)
    | intro _
    | with_reducible (apply State.mapChain_does)
    | with_reducible (apply Does.ite)
    | (fail_if_no_progress extract_lets)
    | (fail_if_no_progress (with_reducible refine Does.mk' ?_ (by with_reducible rfl)))

theorem State.endStream_does {W : Nat} {o : State} {s : State} (x1 : Nat) (hW : Within 0x41000000000000000000000000000000000000000000000000000000000000000000000000000000000000000000000000000000000000000000000000000000000000000000000000000000000000000000000000000000000000000000000000000000000000000000000000000000000000000000000000000000000000 W) (h : Does W o s) :
    Does W o (State.endStream s x1) := by
  have up := hW.up
  have ub := hW.ub
  have b1014 := ub 1014 (by decide)
  unfold State.endStream
  repeat' first
    | with_reducible assumption
    | exact up _ (by decide)
    | exact ub _ (by decide)
    | exact fun _ => ub _ (by decide)
    | intro _
    | with_reducible (apply State.losePlace_does)
    | with_reducible (apply Does.ite)
    | (fail_if_no_progress extract_lets)
    | (fail_if_no_progress (with_reducible refine Does.mk' ?_ (by with_reducible rfl)))

theorem State.meet_does {W : Nat} {o : State} {s : State} (x1 : Defect) (x2 : Bool) (hW : Within 0x1000000000000000000000000000000000000000000000000000000000000000000000000000000000000000000000000000000000000000000000000000000000000000000000000000000000000000000000000000000000000000000000000000000000000000000000000000000000000000000000000000000000000 W) (h : Does W o s) :
    Does W o (State.meet s x1 x2) := by
  have up := hW.up
  have ub := hW.ub
  have b1008 := ub 1008 (by decide)
  unfold State.meet
  repeat' first
    | with_reducible assumption
    | exact up _ (by decide)
    | exact ub _ (by decide)
    | exact fun _ => ub _ (by decide)
    | intro _
    | with_reducible (apply Does.ite)
    | (fail_if_no_progress extract_lets)
    | (fail_if_no_progress (with_reducible refine Does.mk' ?_ (by with_reducible rfl)))

theorem State.groupStop_does {W : Nat} {o : State} {s : State} (x1 : Nat) (hW : Within 0x41000000000000000000000000000000000000000000000000000000000000000000000000000000000000000000000000000000000000000000000000000000000000000000000000000000000000000000000000000000000000000000000000000000000000000000000000000000210000000000000000000000000000 W) (h : Does W o s) :
    Does W o (State.groupStop s x1) := by
  have up := hW.up
  have ub := hW.ub
  have b1008 := ub 1008 (by decide)
  unfold State.groupStop
  repeat' first
    | with_reducible assumption
    | exact up _ (by decide)
    | exact ub _ (by decide)
    | exact fun _ => ub _ (by decide)
    | intro _
    | with_reducible (apply State.endStream_does)
    | with_reducible (apply State.inc_does)
    | with_reducible (apply State.wr_does)
    | with_reducible (apply Does.ite)
    | (fail_if_no_progress extract_lets)
    | (fail_if_no_progress (with_reducible refine Does.mk' ?_ (by with_reducible rfl)))
    | split
    | dsimp only

theorem State.stopDelivery_does {W : Nat} {o : State} {s : State} (x1 : Nat) (hW : Within 0x41000000000000000000000000000000000000000000000000000000000000000000000000000000000000000000000000000000000000000000000000000000000000000000000000000000000000000000000000000000000000000000000000000000000000000000000000000000210000000000000000000000000000 W) (h : Does W o s) :
    Does W o (State.stopDelivery s x1) := by
  have up := hW.up
  have ub := hW.ub
  unfold State.stopDelivery
  repeat' first
    | with_reducible assumption
    | exact up _ (by decide)
    | exact ub _ (by decide)
    | exact fun _ => ub _ (by decide)
    | intro _
    | with_reducible (apply State.endStream_does)
    | with_reducible (apply State.mapSub_does)
    | with_reducible (apply State.groupStop_does)
    | with_reducible (apply Does.ite)
    | (fail_if_no_progress extract_lets)
    | (fail_if_no_progress (with_reducible refine Does.mk' ?_ (by with_reducible rfl)))

theorem State.loseAlign_does {W : Nat} {o : State} {s : State} (x1 : Nat) (hW : Within 0x41000000000000000000000000000000000000000000000000000000000000000000000000000000000000000000000000000000000000000000000000000000000000000000000000000000000000000000000000000000000000000000000000000000000000000000000000000000210000100000000000000000000000 W) (h : Does W o s) :
    Does W o (State.loseAlign s x1) := by
  have up := hW.up
  have ub := hW.ub
  unfold State.loseAlign
  repeat' first
    | with_reducible assumption
    | exact up _ (by decide)
    | exact ub _ (by decide)
    | exact fun _ => ub _ (by decide)
    | intro _
    | with_reducible (apply State.mapSub_does)
    | with_reducible (apply State.wr_does)
    | with_reducible (apply State.stopDelivery_does)
    | with_reducible (apply State.losePlace_does)
    | with_reducible (apply Does.ite)
    | (fail_if_no_progress extract_lets)
    | (fail_if_no_progress (with_reducible refine Does.mk' ?_ (by with_reducible rfl)))

theorem State.subDrop_does {W : Nat} {o : State} {s : State} (x1 : Nat) (hW : Within 0x41000000000000000000000000000000000000000000000000000000000000000000000000000000000000000000000000000000000000000000000000000000000000000000000000000000000000000000000000000000000000000000000000000000000000000000000000000000210004380000000000000000000000 W) (h : Does W o s) :
    Does W o (State.subDrop s x1) := by
  have up := hW.up
  have ub := hW.ub
  unfold State.subDrop
  repeat' first
    | with_reducible assumption
    | exact up _ (by decide)
    | exact ub _ (by decide)
    | exact fun _ => ub _ (by decide)
    | intro _
    | with_reducible (apply State.mapSub_does)
    | with_reducible (apply State.inc_does)
    | with_reducible (apply State.loseAlign_does)
    | with_reducible (apply State.wr_does)
    | with_reducible (apply Does.ite)
    | (fail_if_no_progress extract_lets)
    | (fail_if_no_progress (with_reducible refine Does.mk' ?_ (by with_reducible rfl)))

theorem State.carrierTo_does {W : Nat} {o : State} {s : State} (x1 : Nat) (x2 : Nat) (hW : Within 0x41000000000000000000000000000000000000000000000000000000000000000000000000000000000000000000000000000000000000000000000000000000000000000000000000000000000000000000000000000000000000000000000000000000000000000000000000000000210004380020000800180000000000 W) (h : Does W o s) :
    Does W o (State.carrierTo s x1 x2) := by
  have up := hW.up
  have ub := hW.ub
  have b1008 := ub 1008 (by decide)
  unfold State.carrierTo
  repeat' first
    | with_reducible assumption
    | exact up _ (by decide)
    | exact ub _ (by decide)
    | exact fun _ => ub _ (by decide)
    | intro _
    | with_reducible (unfold acqFld)
    | with_reducible (apply State.subDrop_does)
    | with_reducible (apply State.wr_does)
    | with_reducible (apply Does.ite)
    | with_reducible (apply Does.foldl)
    | (fail_if_no_progress extract_lets)
    | (fail_if_no_progress (with_reducible refine Does.mk' ?_ (by with_reducible rfl)))
    | split
    | dsimp +zetaDelta only

theorem State.newLatency_does {W : Nat} {o : State} {s : State} (hW : Within 0x18000000 W) (h : Does W o s) :
    Does W o (State.newLatency s) := by
  have up := hW.up
  have ub := hW.ub
  unfold State.newLatency
  repeat' first
    | with_reducible assumption
    | exact up _ (by decide)
    | exact ub _ (by decide)
    | exact fun _ => ub _ (by decide)
    | intro _
    | with_reducible (apply State.wr_does)
    | with_reducible (apply Does.ite)
    | (fail_if_no_progress extract_lets)
    | (fail_if_no_progress (with_reducible refine Does.mk' ?_ (by with_reducible rfl)))

theorem State.setRate_does {W : Nat} {o : State} {s : State} (x1 : Nat) (hW : Within 0x41000000000000000000000000000000000000000000000000000000000000000000000000000000000000000000000000000000000000000000000000000000000000000000000000000000000000000000000000000000000000000000000000000000000000000000000000000000210004380020000800580018000000 W) (h : Does W o s) :
    Does W o (State.setRate s x1) := by
  have up := hW.up
  have ub := hW.ub
  unfold State.setRate
  repeat' first
    | with_reducible assumption
    | exact up _ (by decide)
    | exact ub _ (by decide)
    | exact fun _ => ub _ (by decide)
    | intro _
    | with_reducible (apply State.carrierTo_does)
    | with_reducible (apply State.newLatency_does)
    | with_reducible (apply State.wr_does)
    | with_reducible (apply Does.ite)
    | with_reducible (apply Does.foldl)
    | (fail_if_no_progress extract_lets)
    | (fail_if_no_progress (with_reducible refine Does.mk' ?_ (by with_reducible rfl)))
    | split
    | dsimp +zetaDelta only

theorem State.carriersOn_does {W : Nat} {o : State} {s : State} (hW : Within 0x41000000000000000000000000000000000000000000000000000000000000000000000000000000000000000000000000000000000000000000000000000000000000000000000000000000000000000000000000000000000000000000000000000000000000000000000000000000210004380020000800180000000000 W) (h : Does W o s) :
    Does W o (State.carriersOn s) := by
  have up := hW.up
  have ub := hW.ub
  unfold State.carriersOn
  repeat' first
    | with_reducible assumption
    | exact up _ (by decide)
    | exact ub _ (by decide)
    | exact fun _ => ub _ (by decide)
    | intro _
    | with_reducible (apply State.carrierTo_does)
    | with_reducible (apply Does.ite)
    | with_reducible (apply Does.foldl)
    | (fail_if_no_progress extract_lets)
    | (fail_if_no_progress (with_reducible refine Does.mk' ?_ (by with_reducible rfl)))
    | split
    | dsimp +zetaDelta only

theorem State.carriersOff_does {W : Nat} {o : State} {s : State} (hW : Within 0x41000000000000000000000000000000000000000000000000000000000000000000000000000000000000000000000000000000000000000000000000000000000000000000000000000000000000000000000000000000000000000000000000000000000000000000000000000000210004380020000800180000000000 W) (h : Does W o s) :
    Does W o (State.carriersOff s) := by
  have up := hW.up
  have ub := hW.ub
  unfold State.carriersOff
  repeat' first
    | with_reducible assumption
    | exact up _ (by decide)
    | exact ub _ (by decide)
    | exact fun _ => ub _ (by decide)
    | intro _
    | with_reducible (apply State.mapSub_does)
    | with_reducible (apply State.wr_does)
    | with_reducible (apply State.carrierTo_does)
    | with_reducible (apply Does.ite)
    | with_reducible (apply Does.foldl)
    | (fail_if_no_progress extract_lets)
    | (fail_if_no_progress (with_reducible refine Does.mk' ?_ (by with_reducible rfl)))
    | split
    | dsimp +zetaDelta only

theorem State.tryTrack_does {W : Nat} {o : State} {s : State} (x1 : Nat) (hW : Within 0x20001200000000000000000000000000000000000000000000000000001800003030000000000000000000000000000000000000000010000001000000000000000000000000000000000000000000000000000000000000000000000000000000000000000000000000000000000000000000000000000000800180000000000 W) (h : Does W o s) :
    Does W o (State.tryTrack s x1) := by
  have up := hW.up
  have ub := hW.ub
  have b1008 := ub 1008 (by decide)
  unfold State.tryTrack
  repeat' first
    | with_reducible assumption
    | exact up _ (by decide)
    | exact ub _ (by decide)
    | exact fun _ => ub _ (by decide)
    | intro _
    | with_reducible (unfold acqFld)
    | with_reducible (apply State.raise_does)
    | with_reducible (apply State.wr_does)
    | with_reducible (apply Does.ite)
    | (fail_if_no_progress extract_lets)
    | (fail_if_no_progress (with_reducible refine Does.mk' ?_ (by with_reducible rfl)))
    | split
    | dsimp only

end Sys2Proof.Machine
end

