-- ==== Sys2Proof/Laws/DLine.lean ====
section
/-! SUPPORT. What the operations of Line can change. -/

set_option linter.unreachableTactic false
set_option linter.unusedTactic false
set_option linter.unusedVariables false
set_option Elab.async false

namespace Sys2Proof.Machine

theorem State.drainPush_does {W : Nat} {o : State} {s : State} (hW : Within 0x2000000000000000000000000000000000000000000000000000000000000000000000000000000000000000000000000000000000000000000000000000000000000000000000000000000000000000000000000000000000000000000000000000000000000000000002000000000000000000000000000000000000000 W) (h : Does W o s) :
    Does W o (State.drainPush s) := by
  have up := hW.up
  have ub := hW.ub
  have b1009 := ub 1009 (by decide)
  unfold State.drainPush
  repeat' first
    | with_reducible assumption
    | exact up _ (by decide)
    | exact ub _ (by decide)
    | exact fun _ => ub _ (by decide)
    | intro _
    | with_reducible (apply State.inc_does)
    | with_reducible (apply Does.ite)
    | with_reducible (apply Does.foldl)
    | (fail_if_no_progress extract_lets)
    | (fail_if_no_progress (with_reducible refine Does.mk' ?_ (by with_reducible rfl)))
    | split
    | dsimp +zetaDelta only

theorem State.queueMsg_does {W : Nat} {o : State} {s : State} (x1 : Nat) (x2 : List Nat) (hW : Within 0x2000000000000000000000000000000000000000000000000000000000000000000000000000000000000000000000000000000000000000000000000000000000000000000000000000000000000000000000000000000000000000000000000000000000000000000000100000000000000000000000000000000000000 W) (h : Does W o s) :
    Does W o (State.queueMsg s x1 x2) := by
  have up := hW.up
  have ub := hW.ub
  have b1009 := ub 1009 (by decide)
  unfold State.queueMsg
  repeat' first
    | with_reducible assumption
    | exact up _ (by decide)
    | exact ub _ (by decide)
    | exact fun _ => ub _ (by decide)
    | intro _
    | with_reducible (apply State.inc_does)
    | with_reducible (apply Does.ite)
    | (fail_if_no_progress extract_lets)
    | (fail_if_no_progress (with_reducible refine Does.mk' ?_ (by with_reducible rfl)))

theorem State.ack_does {W : Nat} {o : State} {s : State} (x1 : Nat) (x2 : Nat) (x3 : Nat) (x4 : Nat) (hW : Within 0x2000000000000000000000000000000000000000000000000000000000000000000000000000000000000000000000000000000000000000000000000000000000000000000000000000000000000000000000000000000000000000000000000000000000000000000000100000000000000000000000000000000000000 W) (h : Does W o s) :
    Does W o (State.ack s x1 x2 x3 x4) := by
  have up := hW.up
  have ub := hW.ub
  unfold State.ack
  repeat' first
    | with_reducible assumption
    | exact up _ (by decide)
    | exact ub _ (by decide)
    | exact fun _ => ub _ (by decide)
    | intro _
    | with_reducible (apply State.queueMsg_does)
    | with_reducible (apply Does.ite)
    | (fail_if_no_progress extract_lets)
    | (fail_if_no_progress (with_reducible refine Does.mk' ?_ (by with_reducible rfl)))

theorem State.ackKept_does {W : Nat} {o : State} {s : State} (x1 : Bool) (x2 : Nat) (x3 : Nat) (x4 : Nat) (x5 : Nat) (hW : Within 0x6000000000000000000000000000000000000000000000000000000000000000000000000000000000000000000000000000000000000000000000000000000000000000000000000000000000000000000000000000000000000000000000000000000000000000000000100000000000000000000000000000000000000 W) (h : Does W o s) :
    Does W o (State.ackKept s x1 x2 x3 x4 x5) := by
  have up := hW.up
  have ub := hW.ub
  have b1010 := ub 1010 (by decide)
  unfold State.ackKept
  repeat' first
    | with_reducible assumption
    | exact up _ (by decide)
    | exact ub _ (by decide)
    | exact fun _ => ub _ (by decide)
    | intro _
    | with_reducible (apply State.ack_does)
    | with_reducible (apply Does.ite)
    | (fail_if_no_progress extract_lets)
    | (fail_if_no_progress (with_reducible refine Does.mk' ?_ (by with_reducible rfl)))

theorem State.recOk_does {W : Nat} {o : State} {s : State} (hW : Within 0x20000200000000000000000000000000000000000000000000000000001800003030000000000000000000000000000000000000000010000001000000000000000000000000000000000000000000000000000000000000000000000000000000000000000000000000000000000000000000000002000000000000000000000 W) (h : Does W o s) :
    Does W o (State.recOk s) := by
  have up := hW.up
  have ub := hW.ub
  unfold State.recOk
  repeat' first
    | with_reducible assumption
    | exact up _ (by decide)
    | exact ub _ (by decide)
    | exact fun _ => ub _ (by decide)
    | intro _
    | with_reducible (apply State.perf_does)
    | with_reducible (apply State.inc_does)
    | with_reducible (apply Does.ite)
    | (fail_if_no_progress extract_lets)
    | (fail_if_no_progress (with_reducible refine Does.mk' ?_ (by with_reducible rfl)))

theorem State.recDiscard_does {W : Nat} {o : State} {s : State} (hW : Within 0x20000200000000000000000000000000000000000000000000000000001800003030000000000000000000000000000000000000000010000001000000000000000000000000000000000000000000000000000000000000000000000000000000000000000000000000000000000000000000000004000000000000000000000 W) (h : Does W o s) :
    Does W o (State.recDiscard s) := by
  have up := hW.up
  have ub := hW.ub
  unfold State.recDiscard
  repeat' first
    | with_reducible assumption
    | exact up _ (by decide)
    | exact ub _ (by decide)
    | exact fun _ => ub _ (by decide)
    | intro _
    | with_reducible (apply State.raise_does)
    | with_reducible (apply State.inc_does)
    | with_reducible (apply Does.ite)
    | (fail_if_no_progress extract_lets)
    | (fail_if_no_progress (with_reducible refine Does.mk' ?_ (by with_reducible rfl)))

theorem State.meetPtr_does {W : Nat} {o : State} {s : State} (hW : Within 0x1000000000000000000000000000000000000000000000000000000000000000000000000000000000000000000000000000000000000000000000000000000000000000000000000000000000000000000000000000000000000000000000000000000000000000000000000000000000000010000000000000000000000 W) (h : Does W o s) :
    Does W o (State.meetPtr s) := by
  have up := hW.up
  have ub := hW.ub
  unfold State.meetPtr
  repeat' first
    | with_reducible assumption
    | exact up _ (by decide)
    | exact ub _ (by decide)
    | exact fun _ => ub _ (by decide)
    | intro _
    | with_reducible (apply State.mapChain_does)
    | with_reducible (apply State.inc_does)
    | with_reducible (apply Does.ite)
    | (fail_if_no_progress extract_lets)
    | (fail_if_no_progress (with_reducible refine Does.mk' ?_ (by with_reducible rfl)))
    | split
    | dsimp only

theorem State.recMet_does {W : Nat} {o : State} {s : State} (x1 : Bool) (hW : Within 0x801000000000000000000000000000000000000000000000000000000000000000000010010000000000000000000000000000000000000000000000000000000000000000000000000000000000000000000000000000000000000000000000000000000000000000000000000000000000000000000000000000000000000 W) (h : Does W o s) :
    Does W o (State.recMet s x1) := by
  have up := hW.up
  have ub := hW.ub
  have b1008 := ub 1008 (by decide)
  unfold State.recMet
  repeat' first
    | with_reducible assumption
    | exact up _ (by decide)
    | exact ub _ (by decide)
    | exact fun _ => ub _ (by decide)
    | intro _
    | with_reducible (apply State.when_does)
    | with_reducible (apply State.mapHit_does)
    | with_reducible (apply Does.ite)
    | (fail_if_no_progress extract_lets)
    | (fail_if_no_progress (with_reducible refine Does.mk' ?_ (by with_reducible rfl)))

theorem State.badHeader_does {W : Nat} {o : State} {s : State} (hW : Within 0x801000000000000000000000000000000000000000000000000000000000000000000010010000000000000000000000000000000000000000000000000000000000000000000000000000000000000000000000000000000000000000000000000000000000000000000000000000000000000010000000000000000000000 W) (h : Does W o s) :
    Does W o (State.badHeader s) := by
  have up := hW.up
  have ub := hW.ub
  unfold State.badHeader
  repeat' first
    | with_reducible assumption
    | exact up _ (by decide)
    | exact ub _ (by decide)
    | exact fun _ => ub _ (by decide)
    | intro _
    | with_reducible (apply State.recMet_does)
    | with_reducible (apply State.inc_does)
    | with_reducible (apply State.losePlace_does)
    | with_reducible (apply Does.ite)
    | (fail_if_no_progress extract_lets)
    | (fail_if_no_progress (with_reducible refine Does.mk' ?_ (by with_reducible rfl)))

theorem State.crossing_does {W : Nat} {o : State} {s : State} (hW : Within 0x20801200000000000000000000000000000000000000000000000000001800003030000010010000000000000000000000000000000010000001000000000000000000000000000000000000000000000000000000000000000000000000000000000000000000000000000000000000000000000004000000000000000000000 W) (h : Does W o s) :
    Does W o (State.crossing s) := by
  have up := hW.up
  have ub := hW.ub
  unfold State.crossing
  repeat' first
    | with_reducible assumption
    | exact up _ (by decide)
    | exact ub _ (by decide)
    | exact fun _ => ub _ (by decide)
    | intro _
    | with_reducible (apply State.recMet_does)
    | with_reducible (apply State.recDiscard_does)
    | with_reducible (apply State.mapChain_does)
    | with_reducible (apply Does.ite)
    | (fail_if_no_progress extract_lets)
    | (fail_if_no_progress (with_reducible refine Does.mk' ?_ (by with_reducible rfl)))

theorem State.record_does {W : Nat} {o : State} {s : State} (x1 : Nat → Bool) (x2 : Rec) (f3 : State → State) (x4 : Bool) (hW : Within 0x20801200000000000000000000000000000000000000000000000000001800003030000010010000000000000000000000000000000010000001000000000000000000000000000000000000000000000000000000000000000000000000000000000000000000000000000000000000000000000014000000000000000000000 W) (h : Does W o s) (hf3 : ∀ y0, Does W o y0 → Does W o (f3 y0)) :
    Does W o (State.record s x1 x2 f3 x4) := by
  have up := hW.up
  have ub := hW.ub
  unfold State.record
  repeat' first
    | with_reducible assumption
    | exact up _ (by decide)
    | exact ub _ (by decide)
    | exact fun _ => ub _ (by decide)
    | intro _
    | with_reducible (apply State.meetPtr_does)
    | with_reducible (apply State.badHeader_does)
    | with_reducible (apply State.crossing_does)
    | with_reducible (apply State.recMet_does)
    | with_reducible (apply State.mapChain_does)
    | with_reducible (apply hf3)
    | with_reducible (apply Does.ite)
    | (fail_if_no_progress extract_lets)
    | (fail_if_no_progress (with_reducible refine Does.mk' ?_ (by with_reducible rfl)))
    | split
    | dsimp only

theorem State.recFor_does {W : Nat} {o : State} {s : State} (x1 : Nat) (x2 : Rec) (f3 : State → State) (x4 : Bool) (hW : Within 0x20801200000000000000000000000000000000000000000000000000001800003030000010010000000000000000000000000000000010000001000000000000000000000000000000000000000000000000000000000000000000000000000000000000000000000000000000000000000000000014000000000000000000000 W) (h : Does W o s) (hf3 : ∀ y0, Does W o y0 → Does W o (f3 y0)) :
    Does W o (State.recFor s x1 x2 f3 x4) := by
  have up := hW.up
  have ub := hW.ub
  unfold State.recFor
  repeat' first
    | with_reducible assumption
    | exact up _ (by decide)
    | exact ub _ (by decide)
    | exact fun _ => ub _ (by decide)
    | intro _
    | with_reducible (apply State.record_does)
    | with_reducible (apply State.recDiscard_does)
    | with_reducible (apply hf3)
    | with_reducible (apply Does.ite)
    | (fail_if_no_progress extract_lets)
    | (fail_if_no_progress (with_reducible refine Does.mk' ?_ (by with_reducible rfl)))

theorem State.dropCommitted_does {W : Nat} {o : State} {s : State} (hW : Within 0x2001a200000000000000000000000000000000000000000000000000001800003030000000000000000000000000000000000000000010000001000000000000000000000000000000000000000000000000000000000000060400000000000000000000000000000000000000000000000000000000000000000000000000000 W) (h : Does W o s) :
    Does W o (State.dropCommitted s) := by
  have up := hW.up
  have ub := hW.ub
  have b1009 := ub 1009 (by decide)
  unfold State.dropCommitted
  repeat' first
    | with_reducible assumption
    | exact up _ (by decide)
    | exact ub _ (by decide)
    | exact fun _ => ub _ (by decide)
    | intro _
    | with_reducible (apply State.returnBurst_does)
    | with_reducible (apply Does.ite)
    | with_reducible (apply Does.foldl)
    | (fail_if_no_progress extract_lets)
    | (fail_if_no_progress (with_reducible refine Does.mk' ?_ (by with_reducible rfl)))
    | split
    | dsimp +zetaDelta only

theorem State.mapBursts_does {W : Nat} {o : State} {s : State} (x1 : Burst → Burst) (hW : Within 0x2000000000000000000000000000000000000000000000000000000000000000000000000000000000000000000000000000000000000000000000000000000000000000000000000000000000000000000000000000000000000000000000000000000000000000000000000000000000000000000000000000000000000 W) (h : Does W o s) :
    Does W o (State.mapBursts s x1) := by
  have up := hW.up
  have ub := hW.ub
  have b1009 := ub 1009 (by decide)
  unfold State.mapBursts
  repeat' first
    | with_reducible assumption
    | exact up _ (by decide)
    | exact ub _ (by decide)
    | exact fun _ => ub _ (by decide)
    | intro _
    | with_reducible (apply Does.ite)
    | (fail_if_no_progress extract_lets)
    | (fail_if_no_progress (with_reducible refine Does.mk' ?_ (by with_reducible rfl)))

theorem State.discard_does {W : Nat} {o : State} {s : State} (x1 : Fld) (x2 : Nat) (x3 : Nat) (hW : Within 0x20002200000000000000000000000000000000000000000000000000001800003030000000000000000000000000000000000000000010000001000000000000000000000000000000000000000000000000000000000000000000000000000000000000000000000000000000000000000000000000000000000000000000000 W) (h : Does W o s) (bx1 : x1.id < 1000 → Nat.testBit W x1.id = true) :
    Does W o (State.discard s x1 x2 x3) := by
  have up := hW.up
  have ub := hW.ub
  have b1009 := ub 1009 (by decide)
  unfold State.discard
  repeat' first
    | with_reducible assumption
    | exact up _ (by decide)
    | exact ub _ (by decide)
    | exact fun _ => ub _ (by decide)
    | intro _
    | with_reducible (apply State.perf_does)
    | with_reducible (apply State.inc_does)
    | with_reducible (apply State.raiseIf_does)
    | with_reducible (apply State.raise_does)
    | with_reducible (apply Does.ite)
    | (fail_if_no_progress extract_lets)
    | (fail_if_no_progress (with_reducible refine Does.mk' ?_ (by with_reducible rfl)))

theorem State.grantChecks_does {W : Nat} {o : State} {s : State} (x1 : Nat) (hW : Within 0x2000220000000000000000000000000000000000000000000000000000180000303000000000000000000000000000000000000000001000000100000000000000000000000000000000000000000000000000000000000000000000000000000000000000000000001f400600000000000000000000000000000000000000000 W) (h : Does W o s) :
    Does W o (State.grantChecks s x1) := by
  have up := hW.up
  have ub := hW.ub
  unfold State.grantChecks
  repeat' first
    | with_reducible assumption
    | exact up _ (by decide)
    | exact ub _ (by decide)
    | exact fun _ => ub _ (by decide)
    | intro _
    | with_reducible (apply State.discard_does)
    | with_reducible (apply State.perf_does)
    | with_reducible (apply State.inc_does)
    | with_reducible (apply State.setCal_does)
    | with_reducible (apply Does.ite)
    | (fail_if_no_progress extract_lets)
    | (fail_if_no_progress (with_reducible refine Does.mk' ?_ (by with_reducible rfl)))
    | split
    | dsimp only

theorem State.withdrawLater_does {W : Nat} {o : State} {s : State} (x1 : Nat) (x2 : Int) (hW : Within 0x2000000000000000000000000000000000000000000000000000000000000000000000000000000000000000000000000000000000000000000000000000000000000000000000000000000000000000000000000000000000000000000000000000000000000000000600000000000000000000000000000000000000000 W) (h : Does W o s) :
    Does W o (State.withdrawLater s x1 x2) := by
  have up := hW.up
  have ub := hW.ub
  unfold State.withdrawLater
  repeat' first
    | with_reducible assumption
    | exact up _ (by decide)
    | exact ub _ (by decide)
    | exact fun _ => ub _ (by decide)
    | intro _
    | with_reducible (apply State.setCal_does)
    | with_reducible (apply Does.ite)
    | (fail_if_no_progress extract_lets)
    | (fail_if_no_progress (with_reducible refine Does.mk' ?_ (by with_reducible rfl)))
    | split
    | dsimp only

theorem State.dropEntry_does {W : Nat} {o : State} {s : State} (x1 : Nat) (x2 : Grant) (hW : Within 0x2000000000000000000000000000000000000000000000000000000000000000000000000000000000000000000000000000000000000000000000000000000000000000000000000000000000000000000000000000000000000000000000000000000000000000000600000000000000000000000000000000000000000 W) (h : Does W o s) :
    Does W o (State.dropEntry s x1 x2) := by
  have up := hW.up
  have ub := hW.ub
  unfold State.dropEntry
  repeat' first
    | with_reducible assumption
    | exact up _ (by decide)
    | exact ub _ (by decide)
    | exact fun _ => ub _ (by decide)
    | intro _
    | with_reducible (apply State.withdrawLater_does)
    | with_reducible (apply State.setCal_does)
    | with_reducible (apply Does.ite)
    | (fail_if_no_progress extract_lets)
    | (fail_if_no_progress (with_reducible refine Does.mk' ?_ (by with_reducible rfl)))

theorem State.withdrawFrom_does {W : Nat} {o : State} {s : State} (x1 : Nat) (x2 : Grant) (x3 : Int) (hW : Within 0x2000000000000000000000000000000000000000000000000000000000000000000000000000000000000000000000000000000000000000000000000000000000000000000000000000000000000000000000000000000000000000000000000000000000000000000600000000000000000000000000000000000000000 W) (h : Does W o s) :
    Does W o (State.withdrawFrom s x1 x2 x3) := by
  have up := hW.up
  have ub := hW.ub
  unfold State.withdrawFrom
  repeat' first
    | with_reducible assumption
    | exact up _ (by decide)
    | exact ub _ (by decide)
    | exact fun _ => ub _ (by decide)
    | intro _
    | with_reducible (apply State.dropEntry_does)
    | with_reducible (apply State.setCal_does)
    | with_reducible (apply Does.ite)
    | (fail_if_no_progress extract_lets)
    | (fail_if_no_progress (with_reducible refine Does.mk' ?_ (by with_reducible rfl)))

theorem State.cancelGrant_does {W : Nat} {o : State} {s : State} (x1 : Nat) (hW : Within 0x200022000000000000000000000000000000000000000000000000000018000030300000000000000000000000000000000000000000100000010000000000000000000000000000000000000000000000000000000000000000000000000000000000000000000001c0000600000000000000000000000000000000000000000 W) (h : Does W o s) :
    Does W o (State.cancelGrant s x1) := by
  have up := hW.up
  have ub := hW.ub
  unfold State.cancelGrant
  repeat' first
    | with_reducible assumption
    | exact up _ (by decide)
    | exact ub _ (by decide)
    | exact fun _ => ub _ (by decide)
    | intro _
    | with_reducible (apply State.raise_does)
    | with_reducible (apply State.inc_does)
    | with_reducible (apply State.withdrawLater_does)
    | with_reducible (apply State.dropEntry_does)
    | with_reducible (apply State.setCal_does)
    | with_reducible (apply State.withdrawFrom_does)
    | with_reducible (apply Does.ite)
    | (fail_if_no_progress extract_lets)
    | (fail_if_no_progress (with_reducible refine Does.mk' ?_ (by with_reducible rfl)))
    | split
    | dsimp only

theorem State.grant_does {W : Nat} {o : State} {s : State} (x1 : Nat) (hW : Within 0x200022000000000000000000000000000000000000000000000000000018000030300000000000000000000000000000000000000000100000010000000000000000000000000000000000000000000000000000000000000000000000000000000000000000000001dfc00600000000000000000000000000000000000000000 W) (h : Does W o s) :
    Does W o (State.grant s x1) := by
  have up := hW.up
  have ub := hW.ub
  unfold State.grant
  repeat' first
    | with_reducible assumption
    | exact up _ (by decide)
    | exact ub _ (by decide)
    | exact fun _ => ub _ (by decide)
    | intro _
    | with_reducible (apply State.inc_does)
    | with_reducible (apply State.cancelGrant_does)
    | with_reducible (apply State.grantChecks_does)
    | with_reducible (apply Does.ite)
    | (fail_if_no_progress extract_lets)
    | (fail_if_no_progress (with_reducible refine Does.mk' ?_ (by with_reducible rfl)))

theorem State.passOccurrence_does {W : Nat} {o : State} {s : State} (x1 : Nat) (x2 : Grant) (hW : Within 0x2000000000000000000000000000000000000000000000000000000000000000000000000000000000000000000000000000000000000000000000000000000000000000000000000000000000000000000000000000000000000000000000000000000000000000000600000000000000000000000000000000000000000 W) (h : Does W o s) :
    Does W o (State.passOccurrence s x1 x2) := by
  have up := hW.up
  have ub := hW.ub
  unfold State.passOccurrence
  repeat' first
    | with_reducible assumption
    | exact up _ (by decide)
    | exact ub _ (by decide)
    | exact fun _ => ub _ (by decide)
    | intro _
    | with_reducible (apply State.setCal_does)
    | with_reducible (apply State.dropEntry_does)
    | with_reducible (apply Does.ite)
    | (fail_if_no_progress extract_lets)
    | (fail_if_no_progress (with_reducible refine Does.mk' ?_ (by with_reducible rfl)))
    | split
    | dsimp only

theorem State.recheckEntry_does {W : Nat} {o : State} {s : State} (x1 : Nat) (x2 : Grant) (hW : Within 0x20002200000000000000000000000000000000000000000000000000001800003030000000000000000000000000000000000000000010000001000000000000000000000000000000000000000000000000000000000000000000000000000000000000000000000004000600000000000000000000000000000000000000000 W) (h : Does W o s) :
    Does W o (State.recheckEntry s x1 x2) := by
  have up := hW.up
  have ub := hW.ub
  unfold State.recheckEntry
  repeat' first
    | with_reducible assumption
    | exact up _ (by decide)
    | exact ub _ (by decide)
    | exact fun _ => ub _ (by decide)
    | intro _
    | with_reducible (apply State.discard_does)
    | with_reducible (apply State.setCal_does)
    | with_reducible (apply State.dropEntry_does)
    | with_reducible (apply Does.ite)
    | (fail_if_no_progress extract_lets)
    | (fail_if_no_progress (with_reducible refine Does.mk' ?_ (by with_reducible rfl)))
    | split
    | dsimp only

theorem State.burstGone_does {W : Nat} {o : State} {s : State} (x1 : Burst) (hW : Within 0x2000000000000000000000000000000000000000000000000000000000000000000000000000000000000000000000000000000000000000000000000000000000000000000000000000000000000000000000000000000000000000000000000000000000000000000600000000000000000000000000000000000000000 W) (h : Does W o s) :
    Does W o (State.burstGone s x1) := by
  have up := hW.up
  have ub := hW.ub
  unfold State.burstGone
  repeat' first
    | with_reducible assumption
    | exact up _ (by decide)
    | exact ub _ (by decide)
    | exact fun _ => ub _ (by decide)
    | intro _
    | with_reducible (apply State.setCal_does)
    | with_reducible (apply Does.ite)
    | (fail_if_no_progress extract_lets)
    | (fail_if_no_progress (with_reducible refine Does.mk' ?_ (by with_reducible rfl)))
    | split
    | dsimp only

theorem State.recheckBurst_does {W : Nat} {o : State} {s : State} (x1 : Burst) (hW : Within 0x2001a200000000000000000000000000000000000000000000000000001800003030000000000000000000000000000000000000000010000001000000000000000000000000000000000000000000000000000000000000060400000000000000000000000000000004000600000000000000000000000000000000000000000 W) (h : Does W o s) :
    Does W o (State.recheckBurst s x1) := by
  have up := hW.up
  have ub := hW.ub
  have b1009 := ub 1009 (by decide)
  unfold State.recheckBurst
  repeat' first
    | with_reducible assumption
    | exact up _ (by decide)
    | exact ub _ (by decide)
    | exact fun _ => ub _ (by decide)
    | intro _
    | with_reducible (apply State.discard_does)
    | with_reducible (apply State.returnBurst_does)
    | with_reducible (apply State.burstGone_does)
    | with_reducible (apply Does.ite)
    | (fail_if_no_progress extract_lets)
    | (fail_if_no_progress (with_reducible refine Does.mk' ?_ (by with_reducible rfl)))

theorem State.recheckGrants_does {W : Nat} {o : State} {s : State} (hW : Within 0x2001a200000000000000000000000000000000000000000000000000001800003030000000000000000000000000000000000000000010000001000000000000000000000000000000000000000000000000000000000000060400000000000000000000000000000004000600000000000000000000000000000000000000000 W) (h : Does W o s) :
    Does W o (State.recheckGrants s) := by
  have up := hW.up
  have ub := hW.ub
  unfold State.recheckGrants
  repeat' first
    | with_reducible assumption
    | exact up _ (by decide)
    | exact ub _ (by decide)
    | exact fun _ => ub _ (by decide)
    | intro _
    | with_reducible (apply State.recheckBurst_does)
    | with_reducible (apply State.recheckEntry_does)
    | with_reducible (apply Does.ite)
    | with_reducible (apply Does.foldl)
    | (fail_if_no_progress extract_lets)
    | (fail_if_no_progress (with_reducible refine Does.mk' ?_ (by with_reducible rfl)))
    | split
    | dsimp +zetaDelta only

theorem State.joinFail_does {W : Nat} {o : State} {s : State} (x1 : Nat) (hW : Within 0x2800460000000000000000000000000000000000000000000000000000180000303000058000000000000000000000000000000000001000000100000000000000000000000000000000000000000000000000000000000000000000000000000000000000000000000000000000000908c000000000000000000000000000000 W) (h : Does W o s) :
    Does W o (State.joinFail s x1) := by
  have up := hW.up
  have ub := hW.ub
  have b1010 := ub 1010 (by decide)
  unfold State.joinFail
  repeat' first
    | with_reducible assumption
    | exact up _ (by decide)
    | exact ub _ (by decide)
    | exact fun _ => ub _ (by decide)
    | intro _
    | with_reducible (apply State.wr_does)
    | with_reducible (apply State.raise_does)
    | with_reducible (apply State.setMode_does)
    | with_reducible (apply Does.ite)
    | (fail_if_no_progress extract_lets)
    | (fail_if_no_progress (with_reducible refine Does.mk' ?_ (by with_reducible rfl)))

theorem State.regLost_does {W : Nat} {o : State} {s : State} (x1 : Nat) (hW : Within 0x2081ea00000000000000000000000000000000000000000000000000001800003030000000000800000000000000000000000000000010000001000000000000000000000000000000000000000000000000000000000000060400000000000000000000000000000000000600000200088000000000000000000000001800000 W) (h : Does W o s) :
    Does W o (State.regLost s x1) := by
  have up := hW.up
  have ub := hW.ub
  have b1007 := ub 1007 (by decide)
  have b1010 := ub 1010 (by decide)
  unfold State.regLost
  repeat' first
    | with_reducible assumption
    | exact up _ (by decide)
    | exact ub _ (by decide)
    | exact fun _ => ub _ (by decide)
    | intro _
    | with_reducible (apply State.emptyCal_does)
    | with_reducible (apply State.dropCommitted_does)
    | with_reducible (apply State.wr_does)
    | with_reducible (apply State.startTransit_does)
    | with_reducible (apply State.raise_does)
    | with_reducible (apply Does.ite)
    | (fail_if_no_progress extract_lets)
    | (fail_if_no_progress (with_reducible refine Does.mk' ?_ (by with_reducible rfl)))

theorem State.ltToFree_does {W : Nat} {o : State} {s : State} (hW : Within 0x2885fe0000000000000000000000000000000000000000000000000000180000303000058000080000000000000000000000000000001000000100000000000000000000000000000000000000000000000000000000000006040000000000000000000000000000000000060000020908c210004380020000800580019840000 W) (h : Does W o s) :
    Does W o (State.ltToFree s) := by
  have up := hW.up
  have ub := hW.ub
  have b1007 := ub 1007 (by decide)
  unfold State.ltToFree
  repeat' first
    | with_reducible assumption
    | exact up _ (by decide)
    | exact ub _ (by decide)
    | exact fun _ => ub _ (by decide)
    | intro _
    | with_reducible (apply State.setRate_does)
    | with_reducible (apply State.emptyCal_does)
    | with_reducible (apply State.dropCommitted_does)
    | with_reducible (apply State.setLtState_does)
    | with_reducible (apply State.joinFail_does)
    | with_reducible (apply State.regLost_does)
    | with_reducible (apply Does.ite)
    | (fail_if_no_progress extract_lets)
    | (fail_if_no_progress (with_reducible refine Does.mk' ?_ (by with_reducible rfl)))

theorem State.ltUnlock_does {W : Nat} {o : State} {s : State} (x1 : Nat) (hW : Within 0x20000a00000000000000000000000000000000000000000000000000001800003030000000000000000000000000000000000000000010000001000000000000000000000000000000000000000000000000000000000000000000000000000000000000000000000000000000000000000000000000000000000000000040000 W) (h : Does W o s) :
    Does W o (State.ltUnlock s x1) := by
  have up := hW.up
  have ub := hW.ub
  have b1007 := ub 1007 (by decide)
  unfold State.ltUnlock
  repeat' first
    | with_reducible assumption
    | exact up _ (by decide)
    | exact ub _ (by decide)
    | exact fun _ => ub _ (by decide)
    | intro _
    | with_reducible (apply State.raise_does)
    | with_reducible (apply State.setLtState_does)
    | with_reducible (apply Does.ite)
    | (fail_if_no_progress extract_lets)
    | (fail_if_no_progress (with_reducible refine Does.mk' ?_ (by with_reducible rfl)))

theorem State.ctrlLost_does {W : Nat} {o : State} {s : State} (hW : Within 0x2885fe0000000000000000000000000000000000000000000000000000180000303000058000080000000000000000000000000000001000000100000000000000000000000000000000000000000000000000000000000006040000000000000000000000000000000000060000020908c210004380020000800580019840000 W) (h : Does W o s) :
    Does W o (State.ctrlLost s) := by
  have up := hW.up
  have ub := hW.ub
  have b1007 := ub 1007 (by decide)
  unfold State.ctrlLost
  repeat' first
    | with_reducible assumption
    | exact up _ (by decide)
    | exact ub _ (by decide)
    | exact fun _ => ub _ (by decide)
    | intro _
    | with_reducible (apply State.losePlace_does)
    | with_reducible (apply State.ltUnlock_does)
    | with_reducible (apply State.ltToFree_does)
    | with_reducible (apply Does.ite)
    | (fail_if_no_progress extract_lets)
    | (fail_if_no_progress (with_reducible refine Does.mk' ?_ (by with_reducible rfl)))

theorem State.changeRate_does {W : Nat} {o : State} {s : State} (x1 : Nat) (hW : Within 0x2885fe0000000000000000000000000000000000000000000000000000180000303000058000080000000000000000000000000000001000000100000000000000000000000000000000000000000000000000000000000006040000000000000000000000000000000000060000020908c210004380020000800580019840000 W) (h : Does W o s) :
    Does W o (State.changeRate s x1) := by
  have up := hW.up
  have ub := hW.ub
  unfold State.changeRate
  repeat' first
    | with_reducible assumption
    | exact up _ (by decide)
    | exact ub _ (by decide)
    | exact fun _ => ub _ (by decide)
    | intro _
    | with_reducible (apply State.setRate_does)
    | with_reducible (apply State.ctrlLost_does)
    | with_reducible (apply Does.ite)
    | (fail_if_no_progress extract_lets)
    | (fail_if_no_progress (with_reducible refine Does.mk' ?_ (by with_reducible rfl)))

theorem State.moveCtrl_does {W : Nat} {o : State} {s : State} (x1 : Nat) (hW : Within 0x2885fe0000000000000000000000000000000000000000000000000000180000303000058000080000000000000000000000000000001000000100000000000000000000000000000000000000000000000000000000000006040000000000000000000000000000000000060000020908c210004380020001800580419840000 W) (h : Does W o s) :
    Does W o (State.moveCtrl s x1) := by
  have up := hW.up
  have ub := hW.ub
  unfold State.moveCtrl
  repeat' first
    | with_reducible assumption
    | exact up _ (by decide)
    | exact ub _ (by decide)
    | exact fun _ => ub _ (by decide)
    | intro _
    | with_reducible (apply State.losePlace_does)
    | with_reducible (apply State.wr_does)
    | with_reducible (apply State.tryTrack_does)
    | with_reducible (apply State.ctrlLost_does)
    | with_reducible (apply Does.ite)
    | with_reducible (apply Does.foldl)
    | (fail_if_no_progress extract_lets)
    | (fail_if_no_progress (with_reducible refine Does.mk' ?_ (by with_reducible rfl)))
    | split
    | dsimp +zetaDelta only

end Sys2Proof.Machine
end

