-- ==== Sys2Proof/Laws/DCaveOps.lean ====
section
/-! SUPPORT. What the operations of CaveOps can change. -/

set_option linter.unreachableTactic false
set_option linter.unusedTactic false
set_option linter.unusedVariables false
set_option Elab.async false

namespace Sys2Proof.Machine

theorem State.setPool_does {W : Nat} {o : State} {s : State} (x1 : List Run) (x2 : List Run) (hW : Within 0x20010200000000000000000000000000000000000000000000000000001800003030000000000000000000000000000000000000000010000001000000000000000000000000000000000000000000000000000300000000000000000000000000000000000000000000000000000000000000000000000000000000000000000 W) (h : Does W o s) :
    Does W o (State.setPool s x1 x2) := by
  have up := hW.up
  have ub := hW.ub
  have b1012 := ub 1012 (by decide)
  unfold State.setPool
  repeat' first
    | with_reducible assumption
    | exact up _ (by decide)
    | exact ub _ (by decide)
    | exact fun _ => ub _ (by decide)
    | intro _
    | with_reducible (apply State.raiseIf_does)
    | with_reducible (apply State.wr_does)
    | with_reducible (apply Does.ite)
    | (fail_if_no_progress extract_lets)
    | (fail_if_no_progress (with_reducible refine Does.mk' ?_ (by with_reducible rfl)))

theorem State.setExp_does {W : Nat} {o : State} {s : State} (x1 : List Run) (hW : Within 0x10000000000000000000000000000000000000000000000000000000000000000000000000000000000000000000000000000000000000000000000000000000000000000000000000000000000000020000000000000000000000000000000000000000000000000000000000000000000000000000000000000000000000 W) (h : Does W o s) :
    Does W o (State.setExp s x1) := by
  have up := hW.up
  have ub := hW.ub
  have b1012 := ub 1012 (by decide)
  unfold State.setExp
  repeat' first
    | with_reducible assumption
    | exact up _ (by decide)
    | exact ub _ (by decide)
    | exact fun _ => ub _ (by decide)
    | intro _
    | with_reducible (apply State.wr_does)
    | with_reducible (apply Does.ite)
    | (fail_if_no_progress extract_lets)
    | (fail_if_no_progress (with_reducible refine Does.mk' ?_ (by with_reducible rfl)))

theorem State.ownCount_does {W : Nat} {o : State} {s : State} (x1 : Bool) (x2 : Nat) (x3 : Int) (hW : Within 0x1400000000000000000000000000000000000000000000000000000000000000000000000000000000000000000000000000 W) (h : Does W o s) :
    Does W o (State.ownCount s x1 x2 x3) := by
  have up := hW.up
  have ub := hW.ub
  unfold State.ownCount
  repeat' first
    | with_reducible assumption
    | exact up _ (by decide)
    | exact ub _ (by decide)
    | exact fun _ => ub _ (by decide)
    | intro _
    | with_reducible (apply State.wr_does)
    | with_reducible (apply Does.ite)
    | (fail_if_no_progress extract_lets)
    | (fail_if_no_progress (with_reducible refine Does.mk' ?_ (by with_reducible rfl)))
    | split
    | dsimp only

theorem State.kselCount_does {W : Nat} {o : State} {s : State} (x1 : Nat) (x2 : Int) (hW : Within 0xc0000000000000000000000000000000000000000000000000000000000000000000000000000000000000000000 W) (h : Does W o s) :
    Does W o (State.kselCount s x1 x2) := by
  have up := hW.up
  have ub := hW.ub
  unfold State.kselCount
  repeat' first
    | with_reducible assumption
    | exact up _ (by decide)
    | exact ub _ (by decide)
    | exact fun _ => ub _ (by decide)
    | intro _
    | with_reducible (apply State.wr_does)
    | with_reducible (apply Does.ite)
    | (fail_if_no_progress extract_lets)
    | (fail_if_no_progress (with_reducible refine Does.mk' ?_ (by with_reducible rfl)))
    | split
    | dsimp only

theorem State.pop1_does {W : Nat} {o : State} {s : State} (x1 : Bool) {r : _} (hW : Within 0x20010200000000000000000000000000000000000000000000000000001800003030000000000000000000000000000000000000000010000001000000000000000000000000000000000000000000000020000300000000000000000000000000000000000000000000000000000000000000000000000000000000000000000 W) (h : Does W o s) (e : State.pop1 s x1 = some r) :
    Does W o r.2 := by
  have up := hW.up
  have ub := hW.ub
  unfold State.pop1 at e
  repeat' first
    | (cases e; done)
    | (have e' := Option.some.inj e; clear e; subst e')
    | (fail_if_no_progress extract_lets at e)
    | split at e
  repeat' first
    | with_reducible assumption
    | exact up _ (by decide)
    | exact ub _ (by decide)
    | exact fun _ => ub _ (by decide)
    | intro _
    | with_reducible (apply State.setExp_does)
    | with_reducible (apply State.setPool_does)
    | with_reducible (apply Does.ite)
    | (fail_if_no_progress extract_lets)
    | (fail_if_no_progress (with_reducible refine Does.mk' ?_ (by with_reducible rfl)))

theorem State.popN_does {W : Nat} {o : State} (x0 : Nat) {s : State} (x2 : Bool) (hW : Within 0x2981a2000000000000000000000000000000000000000000000000fff07ff80370300fca00000000000000000000000000000000000010000001000000000000000000000000000000000000000000000420000300000000060400000000000000000000000000000000000680000000020000000000000000000000000000000 W) (h : Does W o s) :
    Does W o (State.popN x0 s x2).2 := by
  have up := hW.up
  have ub := hW.ub
  induction x0 generalizing s with
  | zero => exact h
  | succ n ih =>
    simp only [State.popN]
    split
    · exact h
    · rename_i hd t e
      have ht : Does W o t := State.pop1_does _ (up _ (by decide)) h e
      split
      · exact ht
      · exact ih (State.fault_does _ _ _ _ _ (up _ (by decide)) (State.inc_does _ _ _ (up _ (by decide)) ht (fun _ => ub _ (by decide))))

theorem State.keyAbort_does {W : Nat} {o : State} {s : State} (hW : Within 0x20000200000000000000000000000000000000000000000000000000001800003030000000000000000000000000000000000000000010000001000000000000000000000000000000000000100000000000000000000000000000000000000000000000000000000000000000000000000000000000000000000000000000000 W) (h : Does W o s) :
    Does W o (State.keyAbort s) := by
  have up := hW.up
  have ub := hW.ub
  unfold State.keyAbort
  repeat' first
    | with_reducible assumption
    | exact up _ (by decide)
    | exact ub _ (by decide)
    | exact fun _ => ub _ (by decide)
    | intro _
    | with_reducible (apply State.raise_does)
    | with_reducible (apply State.inc_does)
    | with_reducible (apply Does.ite)
    | (fail_if_no_progress extract_lets)
    | (fail_if_no_progress (with_reducible refine Does.mk' ?_ (by with_reducible rfl)))

theorem State.spoil_does {W : Nat} {o : State} {s : State} (x1 : Bool) (x2 : Nat) (hW : Within 0x2000000000000000000000000000000000000000000000000000000000000000000000000000000000000000000000000000000000000000000000000000000000000000000000000000000000000000000000000000000000000000000000000000000000000000000000000000000000000000000000000000000000000 W) (h : Does W o s) :
    Does W o (State.spoil s x1 x2) := by
  have up := hW.up
  have ub := hW.ub
  unfold State.spoil
  repeat' first
    | with_reducible assumption
    | exact up _ (by decide)
    | exact ub _ (by decide)
    | exact fun _ => ub _ (by decide)
    | intro _
    | with_reducible (apply State.mapBursts_does)
    | with_reducible (apply Does.ite)
    | (fail_if_no_progress extract_lets)
    | (fail_if_no_progress (with_reducible refine Does.mk' ?_ (by with_reducible rfl)))

theorem State.poison_does {W : Nat} {o : State} {s : State} (x1 : Bool) (x2 : Nat) (hW : Within 0x20012200000000000000000000000000000000000000000000000000001800003030000000000000000000000000000000000000000010000001000000000000000000000000000000000000000000002000000000000000000000000000000000000000000000000000000000000000000000000000000000000000000000000 W) (h : Does W o s) :
    Does W o (State.poison s x1 x2) := by
  have up := hW.up
  have ub := hW.ub
  unfold State.poison
  repeat' first
    | with_reducible assumption
    | exact up _ (by decide)
    | exact ub _ (by decide)
    | exact fun _ => ub _ (by decide)
    | intro _
    | with_reducible (apply State.raise_does)
    | with_reducible (apply State.inc_does)
    | with_reducible (apply State.spoil_does)
    | with_reducible (apply State.setOwn_does)
    | with_reducible (apply Does.ite)
    | (fail_if_no_progress extract_lets)
    | (fail_if_no_progress (with_reducible refine Does.mk' ?_ (by with_reducible rfl)))

theorem State.storeCont_does {W : Nat} {o : State} {s : State} (x1 : Bool) (x2 : Nat) (x3 : Nat) (x4 : List Nat) (hW : Within 0x20012200000000000000000000000000000000000000000000000000001800003030000000000000000000000000000000000000000010000001000000000000000000000000000000000000100000002000000000000000000000000000000000000000000000000000000000000000000000000000000000000000000000000 W) (h : Does W o s) :
    Does W o (State.storeCont s x1 x2 x3 x4) := by
  have up := hW.up
  have ub := hW.ub
  have b1012 := ub 1012 (by decide)
  unfold State.storeCont
  repeat' first
    | with_reducible assumption
    | exact up _ (by decide)
    | exact ub _ (by decide)
    | exact fun _ => ub _ (by decide)
    | intro _
    | with_reducible (apply State.poison_does)
    | with_reducible (apply State.keyAbort_does)
    | with_reducible (apply Does.ite)
    | (fail_if_no_progress extract_lets)
    | (fail_if_no_progress (with_reducible refine Does.mk' ?_ (by with_reducible rfl)))
    | split
    | dsimp only

theorem State.openCont_does {W : Nat} {o : State} {s : State} (x1 : Bool) (x2 : Nat) (hW : Within 0x10000000000000000000000000000000000000000000000000000000000000000000000000000000000000000000000000000000000000000000000000000000000000000000000000000000000000000000000000000000000000000000000000000000000000000000000000000000000000000000000000000000000000 W) (h : Does W o s) :
    Does W o (State.openCont s x1 x2) := by
  have up := hW.up
  have ub := hW.ub
  have b1012 := ub 1012 (by decide)
  unfold State.openCont
  repeat' first
    | with_reducible assumption
    | exact up _ (by decide)
    | exact ub _ (by decide)
    | exact fun _ => ub _ (by decide)
    | intro _
    | with_reducible (apply Does.ite)
    | (fail_if_no_progress extract_lets)
    | (fail_if_no_progress (with_reducible refine Does.mk' ?_ (by with_reducible rfl)))

theorem State.closeCont_does {W : Nat} {o : State} {s : State} (x1 : Bool) (x2 : Nat) (hW : Within 0x10000000000000000000000000000000000000000000000000000000000000000000000000000000000000000000000000000000000000000000000000000000000000000000000000000000000000000000000000000000000000000000000000000000000000000000000000000000000000000000000000000000000000 W) (h : Does W o s) :
    Does W o (State.closeCont s x1 x2) := by
  have up := hW.up
  have ub := hW.ub
  have b1012 := ub 1012 (by decide)
  unfold State.closeCont
  repeat' first
    | with_reducible assumption
    | exact up _ (by decide)
    | exact ub _ (by decide)
    | exact fun _ => ub _ (by decide)
    | intro _
    | with_reducible (apply Does.ite)
    | (fail_if_no_progress extract_lets)
    | (fail_if_no_progress (with_reducible refine Does.mk' ?_ (by with_reducible rfl)))

theorem State.accessViol_does {W : Nat} {o : State} {s : State} (hW : Within 0x2981a2000000000000000000000000000000000000000000000000fff07ff80370300fca00000000000000000000000000000000000010000001000000000000000000000000000000000000000000000800000000000000060400000000000000000000000000000000000680000000020000000000000000000000000000000 W) (h : Does W o s) :
    Does W o (State.accessViol s) := by
  have up := hW.up
  have ub := hW.ub
  unfold State.accessViol
  repeat' first
    | with_reducible assumption
    | exact up _ (by decide)
    | exact ub _ (by decide)
    | exact fun _ => ub _ (by decide)
    | intro _
    | with_reducible (apply State.raise_does)
    | with_reducible (apply State.fault_does)
    | with_reducible (apply State.inc_does)
    | with_reducible (apply Does.ite)
    | (fail_if_no_progress extract_lets)
    | (fail_if_no_progress (with_reducible refine Does.mk' ?_ (by with_reducible rfl)))

theorem State.readFor_does {W : Nat} {o : State} {s : State} (x1 : Nat) (x2 : Held) (hW : Within 0x2981a2000000000000000000000000000000000000000000000000fff07ff80370300fca00000000000000000000000000000000000010000001000000000000000000000000000000000000100000000800000000000000060400000000000000000000000000000000000680000000020000000000000000000000000000000 W) (h : Does W o s) :
    Does W o (State.readFor s x1 x2).2 := by
  have up := hW.up
  have ub := hW.ub
  unfold State.readFor
  repeat' first
    | with_reducible assumption
    | exact up _ (by decide)
    | exact ub _ (by decide)
    | exact fun _ => ub _ (by decide)
    | intro _
    | with_reducible (apply State.openCont_does)
    | with_reducible (apply State.accessViol_does)
    | with_reducible (apply State.keyAbort_does)
    | with_reducible (apply Does.ite)
    | (fail_if_no_progress extract_lets)
    | (fail_if_no_progress (with_reducible refine Does.mk' ?_ (by with_reducible rfl)))
    | split
    | dsimp only

theorem State.readPlace_does {W : Nat} {o : State} {s : State} (x1 : Burst) (x2 : Nat) (x3 : Held) (hW : Within 0x2981a2000000000000000000000000000000000000000000000000fff07ff80370300fca00000000000000000000000000000000000010000001000000000000000000000000000000000000100000000800000000000000060400000000000000000000000000000000000680000000020000000000000000000000000000000 W) (h : Does W o s) :
    Does W o (State.readPlace s x1 x2 x3) := by
  have up := hW.up
  have ub := hW.ub
  unfold State.readPlace
  repeat' first
    | with_reducible assumption
    | exact up _ (by decide)
    | exact ub _ (by decide)
    | exact fun _ => ub _ (by decide)
    | intro _
    | with_reducible (apply State.readFor_does)
    | with_reducible (apply State.mapBursts_does)
    | with_reducible (apply Does.ite)
    | (fail_if_no_progress extract_lets)
    | (fail_if_no_progress (with_reducible refine Does.mk' ?_ (by with_reducible rfl)))

theorem State.readMore_does {W : Nat} {o : State} {s : State} (hW : Within 0x2981a2000000000000000000000000000000000000000000000000fff07ff80370300fca00000000000000000000000000000000000010000001000000000000000000000000000000000000100000000800000000000000060400000000000000000000000000000000000680000000020000000000000000000000000000000 W) (h : Does W o s) :
    Does W o (State.readMore s) := by
  have up := hW.up
  have ub := hW.ub
  unfold State.readMore
  repeat' first
    | with_reducible assumption
    | exact up _ (by decide)
    | exact ub _ (by decide)
    | exact fun _ => ub _ (by decide)
    | intro _
    | with_reducible (apply State.readPlace_does)
    | with_reducible (apply Does.ite)
    | with_reducible (apply Does.foldl)
    | (fail_if_no_progress extract_lets)
    | (fail_if_no_progress (with_reducible refine Does.mk' ?_ (by with_reducible rfl)))
    | split
    | dsimp +zetaDelta only

theorem State.windowRead_does {W : Nat} {o : State} {s : State} (hW : Within 0x2981a2000000000000000000000000000000000000000000000000fff07ff80370300fca00000000000000000000000000000000000010000001000000000000000000000000000000000000100000000818000000000000060400000000000000000000000000000000000680000000020000000000000000000000000000000 W) (h : Does W o s) :
    Does W o (State.windowRead s) := by
  have up := hW.up
  have ub := hW.ub
  have b1012 := ub 1012 (by decide)
  unfold State.windowRead
  repeat' first
    | with_reducible assumption
    | exact up _ (by decide)
    | exact ub _ (by decide)
    | exact fun _ => ub _ (by decide)
    | intro _
    | with_reducible (apply State.wr_does)
    | with_reducible (apply State.openCont_does)
    | with_reducible (apply State.accessViol_does)
    | with_reducible (apply State.keyAbort_does)
    | with_reducible (apply Does.ite)
    | (fail_if_no_progress extract_lets)
    | (fail_if_no_progress (with_reducible refine Does.mk' ?_ (by with_reducible rfl)))
    | split
    | dsimp only

theorem State.setAsm_does {W : Nat} {o : State} {s : State} (x1 : Nat) (x2 : Asm) (hW : Within 0x20000000000000000000000000000000000000000000000000000000000000000000000000000000000000000000000000000000000000000000000000000000000000000000000000000000000000000000000000000001000000000000000000000000000000000000000000000000000000000000000000000000000000 W) (h : Does W o s) :
    Does W o (State.setAsm s x1 x2) := by
  have up := hW.up
  have ub := hW.ub
  have b1013 := ub 1013 (by decide)
  unfold State.setAsm
  repeat' first
    | with_reducible assumption
    | exact up _ (by decide)
    | exact ub _ (by decide)
    | exact fun _ => ub _ (by decide)
    | intro _
    | with_reducible (apply State.wr_does)
    | with_reducible (apply Does.ite)
    | (fail_if_no_progress extract_lets)
    | (fail_if_no_progress (with_reducible refine Does.mk' ?_ (by with_reducible rfl)))

theorem State.completeSeal_does {W : Nat} {o : State} {s : State} (x1 : Nat) (x2 : Bool) (x3 : Nat) (hW : Within 0x2003a2000000000000000000000000000000000000000000000000000018000030300000000000000000000000000000000000000000100000010000000000000000000000000000000000001000014020000c0000000000187c00000000000000000000000000000000000000000000000000000000000000000000000000000 W) (h : Does W o s) :
    Does W o (State.completeSeal s x1 x2 x3) := by
  have up := hW.up
  have ub := hW.ub
  unfold State.completeSeal
  repeat' first
    | with_reducible assumption
    | exact up _ (by decide)
    | exact ub _ (by decide)
    | exact fun _ => ub _ (by decide)
    | intro _
    | with_reducible (apply State.setOwn_does)
    | with_reducible (apply State.storeCont_does)
    | with_reducible (apply State.ownCount_does)
    | with_reducible (apply State.kselCount_does)
    | with_reducible (apply State.setAsm_does)
    | with_reducible (apply State.setHeld_does)
    | with_reducible (apply State.inc64_does)
    | with_reducible (apply State.inc_does)
    | with_reducible (apply State.perf_does)
    | with_reducible (apply Does.ite)
    | (fail_if_no_progress extract_lets)
    | (fail_if_no_progress (with_reducible refine Does.mk' ?_ (by with_reducible rfl)))
    | split
    | dsimp only

theorem State.firstServed_does {W : Nat} {o : State} {s : State} (x1 : Bool) (x2 : Waiter) (x3 : List Waiter) (hW : Within 0x10000000000000000000000000000000000000000000000000000000000000000000000000000000000000000000000000000000000000000000000000000000000000000000000000000000000000000000000000000000000000000000000000000000000000000000000000000000000000000000000000000000000000000 W) (h : Does W o s) :
    Does W o (State.firstServed s x1 x2 x3) := by
  have up := hW.up
  have ub := hW.ub
  unfold State.firstServed
  repeat' first
    | with_reducible assumption
    | exact up _ (by decide)
    | exact ub _ (by decide)
    | exact fun _ => ub _ (by decide)
    | intro _
    | with_reducible (apply State.won_does)
    | with_reducible (apply Does.ite)
    | (fail_if_no_progress extract_lets)
    | (fail_if_no_progress (with_reducible refine Does.mk' ?_ (by with_reducible rfl)))

theorem State.setWaiters_does {W : Nat} {o : State} {s : State} (x1 : Bool) (x2 : List Waiter) (hW : Within 0x10000000000000000000000000000000000000000000000000000000000000000000000000000000000000000000000000000000000000000000000000000000000000000000000000000000000000040000800000000000000000000000000000000000000000000000000000000000000000000000000000000000000000 W) (h : Does W o s) :
    Does W o (State.setWaiters s x1 x2) := by
  have up := hW.up
  have ub := hW.ub
  have b1012 := ub 1012 (by decide)
  unfold State.setWaiters
  repeat' first
    | with_reducible assumption
    | exact up _ (by decide)
    | exact ub _ (by decide)
    | exact fun _ => ub _ (by decide)
    | intro _
    | with_reducible (apply State.wr_does)
    | with_reducible (apply Does.ite)
    | (fail_if_no_progress extract_lets)
    | (fail_if_no_progress (with_reducible refine Does.mk' ?_ (by with_reducible rfl)))

theorem State.freeReject_does {W : Nat} {o : State} {s : State} (x1 : Fld) (hW : Within 0x2981a2000000000000000000000000000000000000000000000000fff07ff80370300fca00000000000000000000000000000000000010000001000000000000000000000000000000000000000000000000000000000000060400000000000000000000000000000000000680000000020000000000000000000000000000000 W) (h : Does W o s) (bx1 : x1.id < 1000 → Nat.testBit W x1.id = true) :
    Does W o (State.freeReject s x1) := by
  have up := hW.up
  have ub := hW.ub
  unfold State.freeReject
  repeat' first
    | with_reducible assumption
    | exact up _ (by decide)
    | exact ub _ (by decide)
    | exact fun _ => ub _ (by decide)
    | intro _
    | with_reducible (apply State.raise_does)
    | with_reducible (apply State.fault_does)
    | with_reducible (apply State.inc_does)
    | with_reducible (apply Does.ite)
    | (fail_if_no_progress extract_lets)
    | (fail_if_no_progress (with_reducible refine Does.mk' ?_ (by with_reducible rfl)))

theorem State.handOver_does {W : Nat} {o : State} {s : State} (x1 : Bool) (x2 : Nat) (hW : Within 0x3003a2000000000000000000000000000000000000000000000000000018000030300000000000000000000000000000000000000000100000010000000000000000000000000000000000001000014020600c0b00000000187c00000000000000000000000000000000000000000000000000000000000000000000000000000 W) (h : Does W o s) :
    Does W o (State.handOver s x1 x2) := by
  have up := hW.up
  have ub := hW.ub
  unfold State.handOver
  repeat' first
    | with_reducible assumption
    | exact up _ (by decide)
    | exact ub _ (by decide)
    | exact fun _ => ub _ (by decide)
    | intro _
    | with_reducible (apply State.completeSeal_does)
    | with_reducible (apply State.setWaiters_does)
    | with_reducible (apply State.firstServed_does)
    | with_reducible (apply State.setExp_does)
    | with_reducible (apply State.setPool_does)
    | with_reducible (apply Does.ite)
    | (fail_if_no_progress extract_lets)
    | (fail_if_no_progress (with_reducible refine Does.mk' ?_ (by with_reducible rfl)))
    | split
    | dsimp only

theorem State.freeCont_does {W : Nat} {o : State} {s : State} (x1 : Bool) (x2 : Nat) (x3 : Nat) (hW : Within 0x3983a2000000000000000000000000000000000000000000000000fff07ff80370300fca000000000000000000000000000000000000100000010000000000000000000000000000000000001000014123e00c0b000000001e7c00000000000000000000000000000000000680000000020000000000000000000000000000000 W) (h : Does W o s) :
    Does W o (State.freeCont s x1 x2 x3) := by
  have up := hW.up
  have ub := hW.ub
  unfold State.freeCont
  repeat' first
    | with_reducible assumption
    | exact up _ (by decide)
    | exact ub _ (by decide)
    | exact fun _ => ub _ (by decide)
    | intro _
    | with_reducible (apply State.freeReject_does)
    | with_reducible (apply State.ownCount_does)
    | with_reducible (apply State.inc_does)
    | with_reducible (apply State.setOwn_does)
    | with_reducible (apply State.kselCount_does)
    | with_reducible (apply State.perf_does)
    | with_reducible (apply State.handOver_does)
    | with_reducible (apply Does.ite)
    | (fail_if_no_progress extract_lets)
    | (fail_if_no_progress (with_reducible refine Does.mk' ?_ (by with_reducible rfl)))

theorem State.setRetained_does {W : Nat} {o : State} {s : State} (x1 : List Retained) (hW : Within 0x10000000000000000000000000000000000000000000000000000000000000000000000000000000000000000000000000000000000000000000000000000000000000000000000000000000000800000000000000000000000000000000000000000000000000000000000000000000000000000000000000000000000000 W) (h : Does W o s) :
    Does W o (State.setRetained s x1) := by
  have up := hW.up
  have ub := hW.ub
  have b1012 := ub 1012 (by decide)
  unfold State.setRetained
  repeat' first
    | with_reducible assumption
    | exact up _ (by decide)
    | exact ub _ (by decide)
    | exact fun _ => ub _ (by decide)
    | intro _
    | with_reducible (apply State.wr_does)
    | with_reducible (apply State.relink_does)
    | with_reducible (apply Does.ite)
    | with_reducible (apply Does.foldl)
    | (fail_if_no_progress extract_lets)
    | (fail_if_no_progress (with_reducible refine Does.mk' ?_ (by with_reducible rfl)))
    | split
    | dsimp +zetaDelta only

theorem State.serveWaiters_does {W : Nat} {o : State} (x0 : Nat) {s : State} (x2 : Bool) (hW : Within 0x3983a2000000000000000000000000000000000000000000000000fff07ff80370300fca000000000000000000000000000000000000100000010000000000000000000000000000000000001000014024600c0b000000001e7c00000000000000000000000000000000000680000000020000000000000000000000000000000 W) (h : Does W o s) :
    Does W o (State.serveWaiters x0 s x2) := by
  have up := hW.up
  have ub := hW.ub
  induction x0 generalizing s x2 <;> unfold State.serveWaiters
  all_goals
    repeat' first
      | with_reducible assumption
      | exact up _ (by decide)
      | exact ub _ (by decide)
      | exact fun _ => ub _ (by decide)
      | intro _
      | with_reducible (apply State.popN_does)
      | with_reducible (apply State.completeSeal_does)
      | with_reducible (apply State.setWaiters_does)
      | with_reducible (apply State.firstServed_does)
      | with_reducible (apply Does.ite)
      | (fail_if_no_progress extract_lets)
      | (fail_if_no_progress (with_reducible refine Does.mk' ?_ (by with_reducible rfl)))
      | (with_reducible (refine Does.snd (by assumption) ?_))
      | (with_reducible (refine Does.fst (by assumption) ?_))
      | (with_reducible apply_assumption)
      | split
      | dsimp only
      | dsimp +zetaDelta only

theorem State.pushZeroed_does {W : Nat} {o : State} {s : State} (x1 : Nat) (hW : Within 0x3983a2000000000000000000000000000000000000000000000000fff07ff80370300fca000000000000000000000000000000000000100000010000000000000000000000000000000000001000014024600c0b000000001e7c00000000000000000000000000000000000680000000020000000000000000000000000000000 W) (h : Does W o s) :
    Does W o (State.pushZeroed s x1) := by
  have up := hW.up
  have ub := hW.ub
  have b1012 := ub 1012 (by decide)
  unfold State.pushZeroed
  repeat' first
    | with_reducible assumption
    | exact up _ (by decide)
    | exact ub _ (by decide)
    | exact fun _ => ub _ (by decide)
    | intro _
    | with_reducible (apply State.serveWaiters_does)
    | with_reducible (apply State.setPool_does)
    | with_reducible (apply Does.ite)
    | (fail_if_no_progress extract_lets)
    | (fail_if_no_progress (with_reducible refine Does.mk' ?_ (by with_reducible rfl)))

theorem State.zeroSome_does {W : Nat} {o : State} {s : State} (hW : Within 0x7983a2000000000000000000000000000000000000000000000000fff07ff80370300fca000000000000000000000000000000000000100000010000000000000000000000000000000000001000014024600c0b000000001e7c00000000000000000000000000000000000680000000020000000000000000000000000000000 W) (h : Does W o s) :
    Does W o (State.zeroSome s) := by
  have up := hW.up
  have ub := hW.ub
  unfold State.zeroSome
  repeat' first
    | with_reducible assumption
    | exact up _ (by decide)
    | exact ub _ (by decide)
    | exact fun _ => ub _ (by decide)
    | intro _
    | with_reducible (apply State.fresh_does)
    | with_reducible (apply State.pushZeroed_does)
    | with_reducible (apply Does.ite)
    | (fail_if_no_progress extract_lets)
    | (fail_if_no_progress (with_reducible refine Does.mk' ?_ (by with_reducible rfl)))

theorem State.yieldRetained_does {W : Nat} {o : State} (x0 : Nat) {s : State} (x2 : Bool) (hW : Within 0x3983a2000000000000000000000000000000000000000000000000fff07ff80370300fca00000000000000000000000000000000000010000001000000000000000000000000000000000000100001c123e00c0b000000001e7c00000000000000000000000000000000000680000000020000000000000000000000000000000 W) (h : Does W o s) :
    Does W o (State.yieldRetained x0 s x2) := by
  have up := hW.up
  have ub := hW.ub
  induction x0 generalizing s with
  | zero => exact h
  | succ n ih =>
    simp only [State.yieldRetained]
    refine Does.ite h ?_
    split
    · exact ih (State.freeCont_does _ _ _ (up _ (by decide)) (State.setRetained_does _ (up _ (by decide)) h))
    · exact h

theorem State.offerRetained_does {W : Nat} {o : State} {s : State} (x1 : Bool) (hW : Within 0x3983a2000000000000000000000000000000000000000000000000fff07ff80370300fca00000000000000000000000000000000000010000001000000000000000000000000000000000000100001c123e00c0b000000001e7c00000000000000000000000000000000000680000000020000000000000000000000000000000 W) (h : Does W o s) :
    Does W o (State.offerRetained s x1) := by
  have up := hW.up
  have ub := hW.ub
  unfold State.offerRetained
  repeat' first
    | with_reducible assumption
    | exact up _ (by decide)
    | exact ub _ (by decide)
    | exact fun _ => ub _ (by decide)
    | intro _
    | with_reducible (apply State.yieldRetained_does)
    | with_reducible (apply Does.ite)
    | (fail_if_no_progress extract_lets)
    | (fail_if_no_progress (with_reducible refine Does.mk' ?_ (by with_reducible rfl)))

theorem State.takeFor_does {W : Nat} {o : State} {s : State} (x1 : Nat) (x2 : Bool) (hW : Within 0x7983a2000000000000000000000000000000000000000000000000fff07ff80370300fca00000000000000000000000000000000000010000001000000000000000000000000000000000000100001c127e00c0b000000001e7c00000000000000000000000000000000000680000000020000000000000000000000000000000 W) (h : Does W o s) :
    Does W o (State.takeFor s x1 x2) := by
  have up := hW.up
  have ub := hW.ub
  unfold State.takeFor
  repeat' first
    | with_reducible assumption
    | exact up _ (by decide)
    | exact ub _ (by decide)
    | exact fun _ => ub _ (by decide)
    | intro _
    | with_reducible (apply State.zeroSome_does)
    | with_reducible (apply State.setWaiters_does)
    | with_reducible (apply State.popN_does)
    | with_reducible (apply State.completeSeal_does)
    | with_reducible (apply State.offerRetained_does)
    | with_reducible (apply Does.ite)
    | (fail_if_no_progress extract_lets)
    | (fail_if_no_progress (with_reducible refine Does.mk' ?_ (by with_reducible rfl)))
    | (with_reducible (refine Does.snd (by assumption) ?_))
    | (with_reducible (refine Does.fst (by assumption) ?_))
    | split
    | dsimp only
    | dsimp +zetaDelta only

theorem State.takeAll_does {W : Nat} {o : State} {s : State} (x1 : Nat) (hW : Within 0x7983a2000000000000000000000000000000000000000000000000fff07ff80370300fca00000000000000000000000000000000000010000001000000000000000000000000000000000000100001c127e00c0b000000001e7c00000000000000000000000000000000000680000000020000000000000000000000000000000 W) (h : Does W o s) :
    Does W o (State.takeAll s x1) := by
  have up := hW.up
  have ub := hW.ub
  unfold State.takeAll
  repeat' first
    | with_reducible assumption
    | exact up _ (by decide)
    | exact ub _ (by decide)
    | exact fun _ => ub _ (by decide)
    | intro _
    | with_reducible (apply State.takeFor_does)
    | with_reducible (apply Does.ite)
    | with_reducible (apply Does.foldl)
    | (fail_if_no_progress extract_lets)
    | (fail_if_no_progress (with_reducible refine Does.mk' ?_ (by with_reducible rfl)))
    | split
    | dsimp +zetaDelta only

theorem State.sealOpen_does {W : Nat} {o : State} {s : State} (x1 : Nat) (x2 : Nat) (hW : Within 0x20000000000000000000000000000000000000000000000000000000000000000000000000000000000000000000000000000000000000000000000000000000000000000000000000000000000000000000000000000001000000000000000000000000000000000000000000000000000000000000000000000000000000 W) (h : Does W o s) :
    Does W o (State.sealOpen s x1 x2) := by
  have up := hW.up
  have ub := hW.ub
  unfold State.sealOpen
  repeat' first
    | with_reducible assumption
    | exact up _ (by decide)
    | exact ub _ (by decide)
    | exact fun _ => ub _ (by decide)
    | intro _
    | with_reducible (apply State.setAsm_does)
    | with_reducible (apply Does.ite)
    | (fail_if_no_progress extract_lets)
    | (fail_if_no_progress (with_reducible refine Does.mk' ?_ (by with_reducible rfl)))

theorem State.addSealFlags_does {W : Nat} {o : State} {s : State} (x1 : Nat) (x2 : Nat) (hW : Within 0x20032200000000000000000000000000000000000000000000000000001800003030000000000000000000000000000000000000000010000001000000000000000000000000000000000000100000002000000000000000181000000000000000000000000000000000000000000000000000000000000000000000000000000 W) (h : Does W o s) :
    Does W o (State.addSealFlags s x1 x2) := by
  have up := hW.up
  have ub := hW.ub
  unfold State.addSealFlags
  repeat' first
    | with_reducible assumption
    | exact up _ (by decide)
    | exact ub _ (by decide)
    | exact fun _ => ub _ (by decide)
    | intro _
    | with_reducible (apply State.storeCont_does)
    | with_reducible (apply State.mapBursts_does)
    | with_reducible (apply State.inc_does)
    | with_reducible (apply State.setAsm_does)
    | with_reducible (apply Does.ite)
    | (fail_if_no_progress extract_lets)
    | (fail_if_no_progress (with_reducible refine Does.mk' ?_ (by with_reducible rfl)))
    | split
    | dsimp only

theorem State.retire_does {W : Nat} {o : State} {s : State} (x1 : Nat) (x2 : Held) (hW : Within 0x3983a2000000000000000000000000000000000000000000000000fff07ff80370300fca00000000000000000000000000000000000010000001000000000000000000000000000000000000100001c123e00c0b000000001e7c00000000000000000000000000000000000680000000020000000000000000000000000000000 W) (h : Does W o s) :
    Does W o (State.retire s x1 x2) := by
  have up := hW.up
  have ub := hW.ub
  unfold State.retire
  repeat' first
    | with_reducible assumption
    | exact up _ (by decide)
    | exact ub _ (by decide)
    | exact fun _ => ub _ (by decide)
    | intro _
    | with_reducible (apply State.closeCont_does)
    | with_reducible (apply State.freeCont_does)
    | with_reducible (apply State.offerRetained_does)
    | with_reducible (apply State.setRetained_does)
    | with_reducible (apply Does.ite)
    | (fail_if_no_progress extract_lets)
    | (fail_if_no_progress (with_reducible refine Does.mk' ?_ (by with_reducible rfl)))

theorem State.purgeOne_does {W : Nat} {o : State} {s : State} (x1 : Nat) (x2 : Held) (hW : Within 0x3983a2000000000000000000000000000000000000000000000000fff07ff80370300fca000000000000000000000000000000000000100000010000000000000000000000000000000000001000074123e00c0b000000001ffc00000000000000000000000000000000000680000000020000000000000000000000000000000 W) (h : Does W o s) :
    Does W o (State.purgeOne s x1 x2) := by
  have up := hW.up
  have ub := hW.ub
  unfold State.purgeOne
  repeat' first
    | with_reducible assumption
    | exact up _ (by decide)
    | exact ub _ (by decide)
    | exact fun _ => ub _ (by decide)
    | intro _
    | with_reducible (apply State.setHeld_does)
    | with_reducible (apply State.freeCont_does)
    | with_reducible (apply State.inc64_does)
    | with_reducible (apply Does.ite)
    | (fail_if_no_progress extract_lets)
    | (fail_if_no_progress (with_reducible refine Does.mk' ?_ (by with_reducible rfl)))

end Sys2Proof.Machine
end

