-- ==== Sys2Proof/Laws/DBursts.lean ====
section
/-! SUPPORT. What the operations of Bursts can change. -/

set_option linter.unreachableTactic false
set_option linter.unusedTactic false
set_option linter.unusedVariables false
set_option Elab.async false

namespace Sys2Proof.Machine

theorem State.trip_does {W : Nat} {o : State} {s : State} (hW : Within 0x2981a2000000000000000000000000000000000000000000000000fff07ff80370300fca000000000000000000000000000000000000100000010000000000000000000000000000000000000000000000000000000000000604000000000000000000000000000010000006c0000000020000000000000000000000000000000 W) (h : Does W o s) :
    Does W o (State.trip s) := by
  have up := hW.up
  have ub := hW.ub
  unfold State.trip
  repeat' first
    | with_reducible assumption
    | exact up _ (by decide)
    | exact ub _ (by decide)
    | exact fun _ => ub _ (by decide)
    | intro _
    | with_reducible (apply State.raise_does)
    | with_reducible (apply State.inc_does)
    | with_reducible (apply State.wr_does)
    | with_reducible (apply State.assertTxdis_does)
    | with_reducible (apply State.fault_does)
    | with_reducible (apply Does.ite)
    | (fail_if_no_progress extract_lets)
    | (fail_if_no_progress (with_reducible refine Does.mk' ?_ (by with_reducible rfl)))

theorem guardTrip_does {W : Nat} {o : State} (x0 : Nat) (x1 : Nat) {s : State} (hW : Within 0x2981aa000000000000000000000000000000000000000000000000fff07ff80370300fca000000000000000000000000000000000000100000010000000000000000000000000000000000000000000000000000000000000604000000000000000000000000000010000006c0000000020000000000000000000000000200000 W) (h : Does W o s) :
    Does W o (guardTrip x0 x1 s) := by
  have up := hW.up
  have ub := hW.ub
  unfold guardTrip
  repeat' first
    | with_reducible assumption
    | exact up _ (by decide)
    | exact ub _ (by decide)
    | exact fun _ => ub _ (by decide)
    | intro _
    | with_reducible (apply State.advance_does)
    | with_reducible (apply State.trip_does)
    | with_reducible (apply Does.ite)
    | (fail_if_no_progress extract_lets)
    | (fail_if_no_progress (with_reducible refine Does.mk' ?_ (by with_reducible rfl)))

theorem State.grantSeal_does {W : Nat} {o : State} {s : State} (x1 : Nat) (hW : Within 0x7983a2000000000000000000000000000000000000000000000000fff07ff80370300fca00000000000000000000000000000000000010000001000000000000000000000000000000000000100001c127e00c0b000000001e7c00000000000000000000000000000000000680000000020000000000000000000000000000000 W) (h : Does W o s) :
    Does W o (State.grantSeal s x1) := by
  have up := hW.up
  have ub := hW.ub
  unfold State.grantSeal
  repeat' first
    | with_reducible assumption
    | exact up _ (by decide)
    | exact ub _ (by decide)
    | exact fun _ => ub _ (by decide)
    | intro _
    | with_reducible (apply State.addSealFlags_does)
    | with_reducible (apply State.takeAll_does)
    | with_reducible (apply State.sealOpen_does)
    | with_reducible (apply Does.ite)
    | (fail_if_no_progress extract_lets)
    | (fail_if_no_progress (with_reducible refine Does.mk' ?_ (by with_reducible rfl)))
    | split
    | dsimp only

theorem State.commit_does {W : Nat} {o : State} {s : State} (x1 : Nat) (x2 : Grant) (hW : Within 0x7983a2000000000000000000000000000000000000000000000000fff07ff80370300fca00000000000000000000000000000000000010000001000000000000000000000000000000000000100001c12fe00c0b000000001ffc000000000000000000000000000010000006c2000000020000000000000000000000000000000 W) (h : Does W o s) :
    Does W o (State.commit s x1 x2) := by
  have up := hW.up
  have ub := hW.ub
  have b1009 := ub 1009 (by decide)
  unfold State.commit
  repeat' first
    | with_reducible assumption
    | exact up _ (by decide)
    | exact ub _ (by decide)
    | exact fun _ => ub _ (by decide)
    | intro _
    | with_reducible (apply State.grantSeal_does)
    | with_reducible (apply State.inc64_does)
    | with_reducible (apply State.setHeld_does)
    | with_reducible (apply State.readMore_does)
    | with_reducible (apply State.setCal_does)
    | with_reducible (apply State.perf_does)
    | with_reducible (apply State.drainPush_does)
    | with_reducible (apply State.trip_does)
    | with_reducible (apply Does.ite)
    | (fail_if_no_progress extract_lets)
    | (fail_if_no_progress (with_reducible refine Does.mk' ?_ (by with_reducible rfl)))
    | split
    | dsimp only

theorem burstCommit_does {W : Nat} {o : State} (x0 : Nat) {s : State} (hW : Within 0x7983aa000000000000000000000000000000000000000000000000fff07ff80370300fca00000000000000000000000000000000000010000001000000000000000000000000000000000000100001c12fe00c0b000000001ffc000000000000000000000000000010210006c2000000020000000000000000000000000200000 W) (h : Does W o s) :
    Does W o (burstCommit x0 s) := by
  have up := hW.up
  have ub := hW.ub
  unfold burstCommit
  repeat' first
    | with_reducible assumption
    | exact up _ (by decide)
    | exact ub _ (by decide)
    | exact fun _ => ub _ (by decide)
    | intro _
    | with_reducible (apply State.advance_does)
    | with_reducible (apply State.passOccurrence_does)
    | with_reducible (apply State.discard_does)
    | with_reducible (apply State.commit_does)
    | with_reducible (apply Does.ite)
    | (fail_if_no_progress extract_lets)
    | (fail_if_no_progress (with_reducible refine Does.mk' ?_ (by with_reducible rfl)))
    | split
    | dsimp only

theorem State.mapBurst_does {W : Nat} {o : State} {s : State} (x1 : Nat) (x2 : Burst → Burst) (hW : Within 0x2000000000000000000000000000000000000000000000000000000000000000000000000000000000000000000000000000000000000000000000000000000000000000000000000000000000000000000000000000000000000000000000000000000000000000000000000000000000000000000000000000000000000 W) (h : Does W o s) :
    Does W o (State.mapBurst s x1 x2) := by
  have up := hW.up
  have ub := hW.ub
  have b1009 := ub 1009 (by decide)
  unfold State.mapBurst
  repeat' first
    | with_reducible assumption
    | exact up _ (by decide)
    | exact ub _ (by decide)
    | exact fun _ => ub _ (by decide)
    | intro _
    | with_reducible (apply Does.ite)
    | (fail_if_no_progress extract_lets)
    | (fail_if_no_progress (with_reducible refine Does.mk' ?_ (by with_reducible rfl)))

theorem State.openMore_does {W : Nat} {o : State} {s : State} (hW : Within 0x3983a2000000000000000000000000000000000000000000000000fff07ff80370300fca00000000000000000000000000000000000010000001000000000000000000000000000000000000100001402c780c0b000000001e7c00000000000000000000000000000000000680000000020000000000000000000000000000000 W) (h : Does W o s) :
    Does W o (State.openMore s) := by
  have up := hW.up
  have ub := hW.ub
  unfold State.openMore
  repeat' first
    | with_reducible assumption
    | exact up _ (by decide)
    | exact ub _ (by decide)
    | exact fun _ => ub _ (by decide)
    | intro _
    | with_reducible (apply State.readMore_does)
    | with_reducible (apply State.serveWaiters_does)
    | with_reducible (apply State.windowRead_does)
    | with_reducible (apply Does.ite)
    | (fail_if_no_progress extract_lets)
    | (fail_if_no_progress (with_reducible refine Does.mk' ?_ (by with_reducible rfl)))

theorem burstLaunch_does {W : Nat} {o : State} {s : State} (hW : Within 0x3983aa000000000000000000000000000000000000000000000000fff07ff80370300fca00000000000000000000000000000000000010000001000000000000000000000000000000000000100001402c780c0b000000001e7c00000000000000000000000000000820200680000000020000000000000000000000000200000 W) (h : Does W o s) :
    Does W o (burstLaunch s) := by
  have up := hW.up
  have ub := hW.ub
  have b1009 := ub 1009 (by decide)
  unfold burstLaunch
  repeat' first
    | with_reducible assumption
    | exact up _ (by decide)
    | exact ub _ (by decide)
    | exact fun _ => ub _ (by decide)
    | intro _
    | with_reducible (apply State.advance_does)
    | with_reducible (apply State.discard_does)
    | with_reducible (apply State.returnBurst_does)
    | with_reducible (apply State.when_does)
    | with_reducible (apply State.burstGone_does)
    | with_reducible (apply State.openMore_does)
    | with_reducible (apply State.emit_does)
    | with_reducible (apply State.mapBurst_does)
    | with_reducible (apply State.setCal_does)
    | with_reducible (apply State.inc_does)
    | with_reducible (apply State.wr_does)
    | with_reducible (apply State.raise_does)
    | with_reducible (apply Does.ite)
    | (fail_if_no_progress extract_lets)
    | (fail_if_no_progress (with_reducible refine Does.mk' ?_ (by with_reducible rfl)))
    | split
    | dsimp only

theorem State.zeroContainer_does {W : Nat} {o : State} {s : State} (x1 : Nat) (x2 : List Nat) (hW : Within 0x40000000000000000000000000000000000000000000000000000000000000000000000000000000000000000000000000000000000000000000000000000000000000000000000000000000000000000000000000000000000000000000000000000000000000000000000000000000000000000000000000000000000000000 W) (h : Does W o s) :
    Does W o (State.zeroContainer s x1 x2).2 := by
  have up := hW.up
  have ub := hW.ub
  unfold State.zeroContainer
  repeat' first
    | with_reducible assumption
    | exact up _ (by decide)
    | exact ub _ (by decide)
    | exact fun _ => ub _ (by decide)
    | intro _
    | with_reducible (apply State.fresh_does)
    | with_reducible (apply Does.ite)
    | (fail_if_no_progress extract_lets)
    | (fail_if_no_progress (with_reducible refine Does.mk' ?_ (by with_reducible rfl)))
    | split
    | dsimp only

theorem State.sendContainer_does {W : Nat} {o : State} {s : State} (x1 : Burst) (x2 : List Nat) (x3 : Nat) (hW : Within 0x6981a2000000000000000000000000000000000000000000000000fff07ff80370300fca0000000000000000000000000000000000001000000100000000000000000000000000000000000010000000c000000000000000060400000000000000000000000000000000000680000000020000000000000000000000000000000 W) (h : Does W o s) :
    Does W o (State.sendContainer s x1 x2 x3).2 := by
  have up := hW.up
  have ub := hW.ub
  unfold State.sendContainer
  repeat' first
    | with_reducible assumption
    | exact up _ (by decide)
    | exact ub _ (by decide)
    | exact fun _ => ub _ (by decide)
    | intro _
    | with_reducible (apply State.fault_does)
    | with_reducible (apply State.inc_does)
    | with_reducible (apply State.keyAbort_does)
    | with_reducible (apply State.zeroContainer_does)
    | with_reducible (apply State.raise_does)
    | with_reducible (apply Does.ite)
    | (fail_if_no_progress extract_lets)
    | (fail_if_no_progress (with_reducible refine Does.mk' ?_ (by with_reducible rfl)))
    | split
    | dsimp only

theorem State.sendAll_does {W : Nat} {o : State} {s : State} (x1 : Burst) (x2 : List Nat) (hW : Within 0x6981a2000000000000000000000000000000000000000000000000fff07ff80370300fca0000000000000000000000000000000000001000000100000000000000000000000000000000000010000000c000000000000000060400000000000000000000000000000000000680000000020000000000000000000000000000000 W) (h : Does W o s) :
    Does W o (State.sendAll s x1 x2).2 := by
  have up := hW.up
  have ub := hW.ub
  unfold State.sendAll
  repeat' first
    | with_reducible assumption
    | exact up _ (by decide)
    | exact ub _ (by decide)
    | exact fun _ => ub _ (by decide)
    | intro _
    | with_reducible (apply State.sendContainer_does)
    | with_reducible (apply Does.ite)
    | with_reducible (apply Does.foldl)
    | with_reducible (apply Does.foldl_snd)
    | with_reducible (apply Does.foldl_snd2)
    | with_reducible (apply Does.foldl_fst)
    | (fail_if_no_progress extract_lets)
    | (fail_if_no_progress (with_reducible refine Does.mk' ?_ (by with_reducible rfl)))
    | (with_reducible (refine Does.snd (by assumption) ?_))
    | (with_reducible (refine Does.snd2 (by assumption) ?_))
    | (with_reducible (refine Does.fst (by assumption) ?_))
    | split
    | dsimp only
    | dsimp +zetaDelta only

theorem State.lightOut_does {W : Nat} {o : State} {s : State} (x1 : Nat) (x2 : Nat) (x3 : Nat) (hW : Within 0x28002000000000000000000000000000000000000000000000000000000000000000000000000000000000000000000000000000000000000000000000000000000000000000000000000000000000000000000000000000000000000000000000000000000000000000000080000000000000000000000000000000000000000 W) (h : Does W o s) :
    Does W o (State.lightOut s x1 x2 x3) := by
  have up := hW.up
  have ub := hW.ub
  have b1009 := ub 1009 (by decide)
  unfold State.lightOut
  repeat' first
    | with_reducible assumption
    | exact up _ (by decide)
    | exact ub _ (by decide)
    | exact fun _ => ub _ (by decide)
    | intro _
    | with_reducible (apply State.emit_does)
    | with_reducible (apply State.updTxdis_does)
    | with_reducible (apply State.wr_does)
    | with_reducible (apply Does.ite)
    | (fail_if_no_progress extract_lets)
    | (fail_if_no_progress (with_reducible refine Does.mk' ?_ (by with_reducible rfl)))

theorem State.discoveryEnd_does {W : Nat} {o : State} {s : State} (hW : Within 0x28002800000000000000000000000000000000000000000000000000000000000000000000000000000000000000000000000000000000000000000000000000000000000000000000000000000000000000000000000000000000000000000000000000000000000000000080000000000000000000000000000000000200000 W) (h : Does W o s) :
    Does W o (State.discoveryEnd s) := by
  have up := hW.up
  have ub := hW.ub
  have b1009 := ub 1009 (by decide)
  unfold State.discoveryEnd
  repeat' first
    | with_reducible assumption
    | exact up _ (by decide)
    | exact ub _ (by decide)
    | exact fun _ => ub _ (by decide)
    | intro _
    | with_reducible (apply State.advance_does)
    | with_reducible (apply State.lightOut_does)
    | with_reducible (apply Does.ite)
    | (fail_if_no_progress extract_lets)
    | (fail_if_no_progress (with_reducible refine Does.mk' ?_ (by with_reducible rfl)))
    | split
    | dsimp only

theorem State.endBurst_does {W : Nat} {o : State} {s : State} (x1 : Burst) (x2 : Nat) (x3 : List Nat) (hW : Within 0x7983aa000000000000000000000000000000000000000000000000fff07ff80370300fca00000000000000000000000000000000000010000001000000000000000000000000000000000000100001c1eff80c0b000000001e7c00000000000000000000000000000600000680000000020000000000000000000000000200000 W) (h : Does W o s) :
    Does W o (State.endBurst s x1 x2 x3) := by
  have up := hW.up
  have ub := hW.ub
  have b1009 := ub 1009 (by decide)
  unfold State.endBurst
  repeat' first
    | with_reducible assumption
    | exact up _ (by decide)
    | exact ub _ (by decide)
    | exact fun _ => ub _ (by decide)
    | intro _
    | with_reducible (apply State.advance_does)
    | with_reducible (apply State.sendAll_does)
    | with_reducible (apply State.emit_does)
    | with_reducible (apply State.lightOut_does)
    | with_reducible (apply State.burstGone_does)
    | with_reducible (apply State.inc64_does)
    | with_reducible (apply State.retire_does)
    | with_reducible (apply State.perf_does)
    | with_reducible (apply State.when_does)
    | with_reducible (apply State.openMore_does)
    | with_reducible (apply Does.ite)
    | with_reducible (apply Does.foldl)
    | (fail_if_no_progress extract_lets)
    | (fail_if_no_progress (with_reducible refine Does.mk' ?_ (by with_reducible rfl)))
    | split
    | dsimp +zetaDelta only

theorem burstEnd_does {W : Nat} {o : State} (x0 : List Nat) {s : State} (hW : Within 0x7983aa000000000000000000000000000000000000000000000000fff07ff80370300fca00000000000000000000000000000000000010000001000000000000000000000000000000000000100001c1eff80c0b000000001e7c00000000000000000000000000000600000680000000020000000000000000000000000200000 W) (h : Does W o s) :
    Does W o (burstEnd x0 s) := by
  have up := hW.up
  have ub := hW.ub
  unfold burstEnd
  repeat' first
    | with_reducible assumption
    | exact up _ (by decide)
    | exact ub _ (by decide)
    | exact fun _ => ub _ (by decide)
    | intro _
    | with_reducible (apply State.discoveryEnd_does)
    | with_reducible (apply State.endBurst_does)
    | with_reducible (apply Does.ite)
    | with_reducible (apply Does.foldl)
    | (fail_if_no_progress extract_lets)
    | (fail_if_no_progress (with_reducible refine Does.mk' ?_ (by with_reducible rfl)))
    | split
    | dsimp +zetaDelta only

theorem txPathUngate_does {W : Nat} {o : State} {s : State} (hW : Within 0x800000000000000000000000000000000000000000000000000000000000000000000000000000000000000000000000000000000000000000000000000000000000000000000000000000000000000000000000000000000000000000000000000000000000000000100000000000000000000000000000000000200000 W) (h : Does W o s) :
    Does W o (txPathUngate s) := by
  have up := hW.up
  have ub := hW.ub
  unfold txPathUngate
  repeat' first
    | with_reducible assumption
    | exact up _ (by decide)
    | exact ub _ (by decide)
    | exact fun _ => ub _ (by decide)
    | intro _
    | with_reducible (apply State.wr_does)
    | with_reducible (apply State.advance_does)
    | with_reducible (apply Does.ite)
    | (fail_if_no_progress extract_lets)
    | (fail_if_no_progress (with_reducible refine Does.mk' ?_ (by with_reducible rfl)))
    | split
    | dsimp only

theorem txPathGate_does {W : Nat} {o : State} {s : State} (hW : Within 0x100000000000000000000000000000000000000000 W) (h : Does W o s) :
    Does W o (txPathGate s) := by
  have up := hW.up
  have ub := hW.ub
  unfold txPathGate
  repeat' first
    | with_reducible assumption
    | exact up _ (by decide)
    | exact ub _ (by decide)
    | exact fun _ => ub _ (by decide)
    | intro _
    | with_reducible (apply State.wr_does)
    | with_reducible (apply Does.ite)
    | (fail_if_no_progress extract_lets)
    | (fail_if_no_progress (with_reducible refine Does.mk' ?_ (by with_reducible rfl)))

theorem State.grantInRecord_does {W : Nat} {o : State} {s : State} (x1 : Rec) (x2 : Nat) (f3 : Nat → State → State) (hW : Within 0x20801200000000000000000000000000000000000000000000000000001800003030000010010000000000000000000000000000000010000001000000000000000000000000000000000000000000000000000000000000000000000000000000000000000000000000000000000000000000000016000000000000000000000 W) (h : Does W o s) (hf3 : ∀ y0 y1, Does W o y1 → Does W o (f3 y0 y1)) :
    Does W o (State.grantInRecord s x1 x2 f3) := by
  have up := hW.up
  have ub := hW.ub
  have b1008 := ub 1008 (by decide)
  unfold State.grantInRecord
  repeat' first
    | with_reducible assumption
    | exact up _ (by decide)
    | exact ub _ (by decide)
    | exact fun _ => ub _ (by decide)
    | intro _
    | with_reducible (apply State.meetPtr_does)
    | with_reducible (apply State.mapChain_does)
    | with_reducible (apply State.badHeader_does)
    | with_reducible (apply State.crossing_does)
    | with_reducible (apply State.recMet_does)
    | with_reducible (apply State.recOk_does)
    | with_reducible (apply State.recDiscard_does)
    | with_reducible (apply hf3)
    | with_reducible (apply Does.ite)
    | (fail_if_no_progress extract_lets)
    | (fail_if_no_progress (with_reducible refine Does.mk' ?_ (by with_reducible rfl)))
    | split
    | dsimp only

theorem grantEntry_does {W : Nat} {o : State} (x0 : Rec) (x1 : Nat) {s : State} (hW : Within 0x208032000000000000000000000000000000000000000000000000000018000030300000100100000000000000000000000000000000100000010000000000000000000000000000000000000000000000000000000000000000000000000000000000000000000001dfc00600000000000000000016000000000000000000000 W) (h : Does W o s) :
    Does W o (grantEntry x0 x1 s) := by
  have up := hW.up
  have ub := hW.ub
  unfold grantEntry
  repeat' first
    | with_reducible assumption
    | exact up _ (by decide)
    | exact ub _ (by decide)
    | exact fun _ => ub _ (by decide)
    | intro _
    | with_reducible (apply State.grantInRecord_does)
    | with_reducible (apply State.grant_does)
    | with_reducible (apply Does.ite)
    | (fail_if_no_progress extract_lets)
    | (fail_if_no_progress (with_reducible refine Does.mk' ?_ (by with_reducible rfl)))

theorem grantCancel_does {W : Nat} {o : State} (x0 : Rec) (x1 : Nat) {s : State} (hW : Within 0x208032000000000000000000000000000000000000000000000000000018000030300000100100000000000000000000000000000000100000010000000000000000000000000000000000000000000000000000000000000000000000000000000000000000000001dfc00600000000000000000016000000000000000000000 W) (h : Does W o s) :
    Does W o (grantCancel x0 x1 s) := by
  have up := hW.up
  have ub := hW.ub
  unfold grantCancel
  repeat' first
    | with_reducible assumption
    | exact up _ (by decide)
    | exact ub _ (by decide)
    | exact fun _ => ub _ (by decide)
    | intro _
    | with_reducible (apply State.grantInRecord_does)
    | with_reducible (apply State.grant_does)
    | with_reducible (apply Does.ite)
    | (fail_if_no_progress extract_lets)
    | (fail_if_no_progress (with_reducible refine Does.mk' ?_ (by with_reducible rfl)))

end Sys2Proof.Machine
end

