-- ==== Sys2Proof/Laws/DJoin.lean ====
section
/-! SUPPORT. What the operations of Join can change. -/

set_option linter.unreachableTactic false
set_option linter.unusedTactic false
set_option linter.unusedVariables false
set_option Elab.async false

namespace Sys2Proof.Machine

theorem State.keep_does {W : Nat} {o : State} {s : State} (x1 : Bool) (x2 : Nat) (x3 : Nat) (hW : Within 0x4000000000000000000000000000000000000000000000000000000000000000000000000000000000000000000000000000000000000000000000000000000000000000000000000000000000000000000000000000000000000000000000000000000000000000000000000000000000000000000000000000000000000 W) (h : Does W o s) :
    Does W o (State.keep s x1 x2 x3) := by
  have up := hW.up
  have ub := hW.ub
  have b1010 := ub 1010 (by decide)
  unfold State.keep
  repeat' first
    | with_reducible assumption
    | exact up _ (by decide)
    | exact ub _ (by decide)
    | exact fun _ => ub _ (by decide)
    | intro _
    | with_reducible (apply Does.ite)
    | (fail_if_no_progress extract_lets)
    | (fail_if_no_progress (with_reducible refine Does.mk' ?_ (by with_reducible rfl)))

theorem State.duplicate_does {W : Nat} {o : State} {s : State} (x1 : Bool) (x2 : Nat) (hW : Within 0x2000000000000000000000000000000000000000000000000000000000000000000000000000000000000000000000000000000000000000000000000000000000000000000000000000000000000000000000000000000000000000000000000000000000000000000000104000000000000000000000000000000000000 W) (h : Does W o s) :
    Does W o (State.duplicate s x1 x2) := by
  have up := hW.up
  have ub := hW.ub
  unfold State.duplicate
  repeat' first
    | with_reducible assumption
    | exact up _ (by decide)
    | exact ub _ (by decide)
    | exact fun _ => ub _ (by decide)
    | intro _
    | with_reducible (apply State.inc_does)
    | with_reducible (apply State.queueMsg_does)
    | with_reducible (apply Does.ite)
    | (fail_if_no_progress extract_lets)
    | (fail_if_no_progress (with_reducible refine Does.mk' ?_ (by with_reducible rfl)))
    | split
    | dsimp only

theorem State.msgBad_does {W : Nat} {o : State} {s : State} (x1 : Fld) (x2 : Bool) (x3 : Nat) (x4 : Nat) (x5 : Nat) (hW : Within 0x2000000000000000000000000000000000000000000000000000000000000000000000000000000000000000000000000000000000000000000000000000000000000000000000000000000000000000000000000000000000000000000000000000000000000000000000100000000000000000000000000000000000000 W) (h : Does W o s) (bx1 : x1.id < 1000 → Nat.testBit W x1.id = true) :
    Does W o (State.msgBad s x1 x2 x3 x4 x5) := by
  have up := hW.up
  have ub := hW.ub
  unfold State.msgBad
  repeat' first
    | with_reducible assumption
    | exact up _ (by decide)
    | exact ub _ (by decide)
    | exact fun _ => ub _ (by decide)
    | intro _
    | with_reducible (apply State.inc_does)
    | with_reducible (apply State.ack_does)
    | with_reducible (apply Does.ite)
    | (fail_if_no_progress extract_lets)
    | (fail_if_no_progress (with_reducible refine Does.mk' ?_ (by with_reducible rfl)))

theorem State.msgRecord_does {W : Nat} {o : State} {s : State} (x1 : Rec) (f2 : State → State) (hW : Within 0x20801200000000000000000000000000000000000000000000000000001800003030000010010000000000000000000000000000000010000001000000000000000000000000000000000000000000000000000000000000000000000000000000000000000000000000000000000000000000000016000000000000000000000 W) (h : Does W o s) (hf2 : ∀ y0, Does W o y0 → Does W o (f2 y0)) :
    Does W o (State.msgRecord s x1 f2) := by
  have up := hW.up
  have ub := hW.ub
  unfold State.msgRecord
  repeat' first
    | with_reducible assumption
    | exact up _ (by decide)
    | exact ub _ (by decide)
    | exact fun _ => ub _ (by decide)
    | intro _
    | with_reducible (apply State.recFor_does)
    | with_reducible (apply State.recOk_does)
    | with_reducible (apply hf2)
    | with_reducible (apply Does.ite)
    | (fail_if_no_progress extract_lets)
    | (fail_if_no_progress (with_reducible refine Does.mk' ?_ (by with_reducible rfl)))

theorem State.codeRecord_does {W : Nat} {o : State} {s : State} (x1 : Nat) (x2 : Rec) (f3 : Msg → State → State) (hW : Within 0x20801200000000000000000000000000000000000000000000000000001800003030000010010000000000000000000000000000000010000001000000000000000000000000000000000000000000000000000000000000000000000000000000000000000000000000000000000000000000000016000000000000000000000 W) (h : Does W o s) (hf3 : ∀ y0 y1, Does W o y1 → Does W o (f3 y0 y1)) :
    Does W o (State.codeRecord s x1 x2 f3) := by
  have up := hW.up
  have ub := hW.ub
  unfold State.codeRecord
  repeat' first
    | with_reducible assumption
    | exact up _ (by decide)
    | exact ub _ (by decide)
    | exact fun _ => ub _ (by decide)
    | intro _
    | with_reducible (apply State.msgRecord_does)
    | with_reducible (apply hf3)
    | with_reducible (apply Does.ite)
    | (fail_if_no_progress extract_lets)
    | (fail_if_no_progress (with_reducible refine Does.mk' ?_ (by with_reducible rfl)))

theorem State.judgeMsg_does {W : Nat} {o : State} {s : State} (x1 : Nat) (x2 : Msg) (f3 : Bool → State → State) (f4 : Bool → State → State) (hW : Within 0x600000000000000000000000000000000000000000000000000000000000000000000000000000000000000000000000000000000000000000000000000000000000000000000000000000000000000000000000000000000000000000000000000000000000000000000011e000000000000000000000000000000000000 W) (h : Does W o s) (hf3 : ∀ y0 y1, Does W o y1 → Does W o (f3 y0 y1)) (hf4 : ∀ y0 y1, Does W o y1 → Does W o (f4 y0 y1)) :
    Does W o (State.judgeMsg s x1 x2 f3 f4) := by
  have up := hW.up
  have ub := hW.ub
  have b1010 := ub 1010 (by decide)
  unfold State.judgeMsg
  repeat' first
    | with_reducible assumption
    | exact up _ (by decide)
    | exact ub _ (by decide)
    | exact fun _ => ub _ (by decide)
    | intro _
    | with_reducible (apply State.msgBad_does)
    | with_reducible (apply State.duplicate_does)
    | with_reducible (apply State.inc_does)
    | with_reducible (apply State.ack_does)
    | with_reducible (apply State.keep_does)
    | with_reducible (apply hf3)
    | with_reducible (apply hf4)
    | with_reducible (apply Does.ite)
    | (fail_if_no_progress extract_lets)
    | (fail_if_no_progress (with_reducible refine Does.mk' ?_ (by with_reducible rfl)))
    | split
    | dsimp only

theorem State.message_does {W : Nat} {o : State} {s : State} (x1 : Nat) (x2 : Rec) (f3 : Msg → Bool → State → State) (f4 : Msg → Bool → State → State) (hW : Within 0x2080720000000000000000000000000000000000000000000000000000180000303000001001000000000000000000000000000000001000000100000000000000000000000000000000000000000000000000000000000000000000000000000000000000000000000000000011e000000000000016000000000000000000000 W) (h : Does W o s) (hf3 : ∀ y0 y1 y2, Does W o y2 → Does W o (f3 y0 y1 y2)) (hf4 : ∀ y0 y1 y2, Does W o y2 → Does W o (f4 y0 y1 y2)) :
    Does W o (State.message s x1 x2 f3 f4) := by
  have up := hW.up
  have ub := hW.ub
  unfold State.message
  repeat' first
    | with_reducible assumption
    | exact up _ (by decide)
    | exact ub _ (by decide)
    | exact fun _ => ub _ (by decide)
    | intro _
    | with_reducible (apply State.codeRecord_does)
    | with_reducible (apply State.judgeMsg_does)
    | with_reducible (apply hf3)
    | with_reducible (apply hf4)
    | with_reducible (apply Does.ite)
    | (fail_if_no_progress extract_lets)
    | (fail_if_no_progress (with_reducible refine Does.mk' ?_ (by with_reducible rfl)))
    | split
    | dsimp only

theorem State.deliver_does {W : Nat} {o : State} {s : State} (x1 : Nat) (x2 : Msg) (x3 : Bool) (hW : Within 0x20004200000000000000000000000000000000002000000000000000001800003030000000000000000000000000000000000000000010000001000000000000000000000000000000000000000000000000000000000000000000000000000000000000000000000000000000482000000000000000000000000000000000000 W) (h : Does W o s) :
    Does W o (State.deliver s x1 x2 x3) := by
  have up := hW.up
  have ub := hW.ub
  have b1010 := ub 1010 (by decide)
  unfold State.deliver
  repeat' first
    | with_reducible assumption
    | exact up _ (by decide)
    | exact ub _ (by decide)
    | exact fun _ => ub _ (by decide)
    | intro _
    | with_reducible (apply State.inc_does)
    | with_reducible (apply State.keep_does)
    | with_reducible (apply State.wr_does)
    | with_reducible (apply State.raise_does)
    | with_reducible (apply Does.ite)
    | with_reducible (apply Does.foldl)
    | (fail_if_no_progress extract_lets)
    | (fail_if_no_progress (with_reducible refine Does.mk' ?_ (by with_reducible rfl)))
    | split
    | dsimp +zetaDelta only

theorem State.hostDuplicate_does {W : Nat} {o : State} {s : State} (x1 : Nat) (x2 : Nat) (x3 : Bool) (hW : Within 0x2000000000000000000000000000000000000000000000000000000000000000000000000000000000000000000000000000000000000000000000000000000000000000000000000000000000000000000000000000000000000000000000000000000000000000000000104000000000000000000000000000000000000 W) (h : Does W o s) :
    Does W o (State.hostDuplicate s x1 x2 x3) := by
  have up := hW.up
  have ub := hW.ub
  unfold State.hostDuplicate
  repeat' first
    | with_reducible assumption
    | exact up _ (by decide)
    | exact ub _ (by decide)
    | exact fun _ => ub _ (by decide)
    | intro _
    | with_reducible (apply State.inc_does)
    | with_reducible (apply State.queueMsg_does)
    | with_reducible (apply Does.ite)
    | (fail_if_no_progress extract_lets)
    | (fail_if_no_progress (with_reducible refine Does.mk' ?_ (by with_reducible rfl)))
    | split
    | dsimp only

theorem State.hostMessage_does {W : Nat} {o : State} {s : State} (x1 : Nat) (x2 : Rec) (hW : Within 0x2080720000000000000000000000000000000000200000000000000000180000303000001001000000000000000000000000000000001000000100000000000000000000000000000000000000000000000000000000000000000000000000000000000000000000000000000059e000000000000016000000000000000000000 W) (h : Does W o s) :
    Does W o (State.hostMessage s x1 x2) := by
  have up := hW.up
  have ub := hW.ub
  unfold State.hostMessage
  repeat' first
    | with_reducible assumption
    | exact up _ (by decide)
    | exact ub _ (by decide)
    | exact fun _ => ub _ (by decide)
    | intro _
    | with_reducible (apply State.codeRecord_does)
    | with_reducible (apply State.msgBad_does)
    | with_reducible (apply State.hostDuplicate_does)
    | with_reducible (apply State.ack_does)
    | with_reducible (apply State.inc_does)
    | with_reducible (apply State.deliver_does)
    | with_reducible (apply Does.ite)
    | (fail_if_no_progress extract_lets)
    | (fail_if_no_progress (with_reducible refine Does.mk' ?_ (by with_reducible rfl)))

theorem keyEpoch_does {W : Nat} {o : State} (x0 : Rec) {s : State} (hW : Within 0x2080720000000000000000000000000000000000200000000000000000180000303000001001000000000000000000000000000000001000000100000000000000000000000000000000000000000000000000000000000000000000000000000000000000000000000000000059e000000000000016000000000000000000000 W) (h : Does W o s) :
    Does W o (keyEpoch x0 s) := by
  have up := hW.up
  have ub := hW.ub
  unfold keyEpoch
  repeat' first
    | with_reducible assumption
    | exact up _ (by decide)
    | exact ub _ (by decide)
    | exact fun _ => ub _ (by decide)
    | intro _
    | with_reducible (apply State.hostMessage_does)
    | with_reducible (apply Does.ite)
    | (fail_if_no_progress extract_lets)
    | (fail_if_no_progress (with_reducible refine Does.mk' ?_ (by with_reducible rfl)))

theorem oamTunnel_does {W : Nat} {o : State} (x0 : Rec) {s : State} (hW : Within 0x2080720000000000000000000000000000000000200000000000000000180000303000001001000000000000000000000000000000001000000100000000000000000000000000000000000000000000000000000000000000000000000000000000000000000000000000000059e000000000000016000000000000000000000 W) (h : Does W o s) :
    Does W o (oamTunnel x0 s) := by
  have up := hW.up
  have ub := hW.ub
  unfold oamTunnel
  repeat' first
    | with_reducible assumption
    | exact up _ (by decide)
    | exact ub _ (by decide)
    | exact fun _ => ub _ (by decide)
    | intro _
    | with_reducible (apply State.hostMessage_does)
    | with_reducible (apply Does.ite)
    | (fail_if_no_progress extract_lets)
    | (fail_if_no_progress (with_reducible refine Does.mk' ?_ (by with_reducible rfl)))

theorem asymSet_does {W : Nat} {o : State} (x0 : Rec) {s : State} (hW : Within 0x2080720000000000000000000000000000000000200000000000000000180000303000001001000000000000000000000000000000001000000100000000000000000000000000000000000000000000000000000000000000000000000000000000000000000000000000000059e000000000000016000000000000000000000 W) (h : Does W o s) :
    Does W o (asymSet x0 s) := by
  have up := hW.up
  have ub := hW.ub
  unfold asymSet
  repeat' first
    | with_reducible assumption
    | exact up _ (by decide)
    | exact ub _ (by decide)
    | exact fun _ => ub _ (by decide)
    | intro _
    | with_reducible (apply State.hostMessage_does)
    | with_reducible (apply Does.ite)
    | (fail_if_no_progress extract_lets)
    | (fail_if_no_progress (with_reducible refine Does.mk' ?_ (by with_reducible rfl)))

theorem unknownMessage_does {W : Nat} {o : State} (x0 : Rec) {s : State} (hW : Within 0x20803200000000000000000000000000000000000000000000000000001800003030000010010000000000000000000000000000000010000001000000000000000000000000000000000000000000000000000000000000000000000000000000000000000000000000000000128000000000000016000000000000000000000 W) (h : Does W o s) :
    Does W o (unknownMessage x0 s) := by
  have up := hW.up
  have ub := hW.ub
  unfold unknownMessage
  repeat' first
    | with_reducible assumption
    | exact up _ (by decide)
    | exact ub _ (by decide)
    | exact fun _ => ub _ (by decide)
    | intro _
    | with_reducible (apply State.msgRecord_does)
    | with_reducible (apply State.inc_does)
    | with_reducible (apply State.msgBad_does)
    | with_reducible (apply Does.ite)
    | (fail_if_no_progress extract_lets)
    | (fail_if_no_progress (with_reducible refine Does.mk' ?_ (by with_reducible rfl)))
    | split
    | dsimp only

theorem hostLate_does {W : Nat} {o : State} {s : State} (hW : Within 0x20004a00000000000000000000000000000000000000000000000000001800003030000000000000000000000000000000000000000010000001000000000000000000000000000000000000000000000000000000000000000000000000000000000000000000000000000000040000000000000000000000000000000200000 W) (h : Does W o s) :
    Does W o (hostLate s) := by
  have up := hW.up
  have ub := hW.ub
  have b1010 := ub 1010 (by decide)
  unfold hostLate
  repeat' first
    | with_reducible assumption
    | exact up _ (by decide)
    | exact ub _ (by decide)
    | exact fun _ => ub _ (by decide)
    | intro _
    | with_reducible (apply State.advance_does)
    | with_reducible (apply State.raise_does)
    | with_reducible (apply State.inc_does)
    | with_reducible (apply Does.ite)
    | (fail_if_no_progress extract_lets)
    | (fail_if_no_progress (with_reducible refine Does.mk' ?_ (by with_reducible rfl)))
    | split
    | dsimp only

theorem inPop_does {W : Nat} {o : State} {s : State} (hW : Within 0xc00000000000000000000000000000000000000 W) (h : Does W o s) :
    Does W o (inPop s) := by
  have up := hW.up
  have ub := hW.ub
  unfold inPop
  repeat' first
    | with_reducible assumption
    | exact up _ (by decide)
    | exact ub _ (by decide)
    | exact fun _ => ub _ (by decide)
    | intro _
    | with_reducible (apply State.wr_does)
    | with_reducible (apply Does.ite)
    | (fail_if_no_progress extract_lets)
    | (fail_if_no_progress (with_reducible refine Does.mk' ?_ (by with_reducible rfl)))

theorem State.answer_does {W : Nat} {o : State} {s : State} (x1 : UMsg) (hW : Within 0x4000000000000000000000000000000000000000000000000000000000000000000000000000000000000000000000000000000000000000000000000000000000000000000000000000000000000000000000000000000000000000000000000000000000000000000000000000000000000000000000000000000000000 W) (h : Does W o s) :
    Does W o (State.answer s x1) := by
  have up := hW.up
  have ub := hW.ub
  have b1010 := ub 1010 (by decide)
  unfold State.answer
  repeat' first
    | with_reducible assumption
    | exact up _ (by decide)
    | exact ub _ (by decide)
    | exact fun _ => ub _ (by decide)
    | intro _
    | with_reducible (apply Does.ite)
    | (fail_if_no_progress extract_lets)
    | (fail_if_no_progress (with_reducible refine Does.mk' ?_ (by with_reducible rfl)))
    | split
    | dsimp only

theorem outPush_does {W : Nat} {o : State} {s : State} (hW : Within 0x6000000000000000000000000000000000000000000000000000000000000000000000000000000000000000000000000000000000000000000000000000000000000000000000000000000000000000000000000000000000000000000000000000000000000000000016000000000000000000000000000000000000000 W) (h : Does W o s) :
    Does W o (outPush s) := by
  have up := hW.up
  have ub := hW.ub
  have b1009 := ub 1009 (by decide)
  unfold outPush
  repeat' first
    | with_reducible assumption
    | exact up _ (by decide)
    | exact ub _ (by decide)
    | exact fun _ => ub _ (by decide)
    | intro _
    | with_reducible (apply State.wr_does)
    | with_reducible (apply State.answer_does)
    | with_reducible (apply State.drainPush_does)
    | with_reducible (apply Does.ite)
    | (fail_if_no_progress extract_lets)
    | (fail_if_no_progress (with_reducible refine Does.mk' ?_ (by with_reducible rfl)))

theorem State.actLineParams_does {W : Nat} {o : State} {s : State} (x1 : Msg) (hW : Within 0x2885fe0000000000000000000000000000000000000000000000000000180000303000058000080000000000000000000000000000001000000100000000000000000000000000000000000000000000000000000000000006040000000000000000000000000000000000060000020938c210004380020001800780419840000 W) (h : Does W o s) :
    Does W o (State.actLineParams s x1) := by
  have up := hW.up
  have ub := hW.ub
  have b1010 := ub 1010 (by decide)
  unfold State.actLineParams
  repeat' first
    | with_reducible assumption
    | exact up _ (by decide)
    | exact ub _ (by decide)
    | exact fun _ => ub _ (by decide)
    | intro _
    | with_reducible (apply State.joinFail_does)
    | with_reducible (apply State.regLost_does)
    | with_reducible (apply State.changeRate_does)
    | with_reducible (apply State.wr_does)
    | with_reducible (apply State.raiseIf_does)
    | with_reducible (apply State.moveCtrl_does)
    | with_reducible (apply Does.ite)
    | (fail_if_no_progress extract_lets)
    | (fail_if_no_progress (with_reducible refine Does.mk' ?_ (by with_reducible rfl)))

theorem lineParams_does {W : Nat} {o : State} (x0 : Rec) {s : State} (hW : Within 0x2885fe0000000000000000000000000000000000000000000000000000180000303000059001080000000000000000000000000000001000000100000000000000000000000000000000000000000000000000000000000006040000000000000000000000000000000000060011e20938c210004396020001800780419840000 W) (h : Does W o s) :
    Does W o (lineParams x0 s) := by
  have up := hW.up
  have ub := hW.ub
  unfold lineParams
  repeat' first
    | with_reducible assumption
    | exact up _ (by decide)
    | exact ub _ (by decide)
    | exact fun _ => ub _ (by decide)
    | intro _
    | with_reducible (apply State.message_does)
    | with_reducible (apply State.actLineParams_does)
    | with_reducible (apply Does.ite)
    | (fail_if_no_progress extract_lets)
    | (fail_if_no_progress (with_reducible refine Does.mk' ?_ (by with_reducible rfl)))

theorem joinEnSet_does {W : Nat} {o : State} {s : State} (hW : Within 0x1000000000000000000000000000000000 W) (h : Does W o s) :
    Does W o (joinEnSet s) := by
  have up := hW.up
  have ub := hW.ub
  unfold joinEnSet
  repeat' first
    | with_reducible assumption
    | exact up _ (by decide)
    | exact ub _ (by decide)
    | exact fun _ => ub _ (by decide)
    | intro _
    | with_reducible (apply State.wr_does)
    | with_reducible (apply Does.ite)
    | (fail_if_no_progress extract_lets)
    | (fail_if_no_progress (with_reducible refine Does.mk' ?_ (by with_reducible rfl)))

theorem joinAbort_does {W : Nat} {o : State} {s : State} (hW : Within 0x2800460000000000000000000000000000000000000000000000000000180000303000058000000000000000000000000000000000001000000100000000000000000000000000000000000000000000000000000000000000000000000000000000000000000000000000000000000908c000000000000000000000000000000 W) (h : Does W o s) :
    Does W o (joinAbort s) := by
  have up := hW.up
  have ub := hW.ub
  unfold joinAbort
  repeat' first
    | with_reducible assumption
    | exact up _ (by decide)
    | exact ub _ (by decide)
    | exact fun _ => ub _ (by decide)
    | intro _
    | with_reducible (apply State.joinFail_does)
    | with_reducible (apply State.wr_does)
    | with_reducible (apply Does.ite)
    | (fail_if_no_progress extract_lets)
    | (fail_if_no_progress (with_reducible refine Does.mk' ?_ (by with_reducible rfl)))

theorem joinEntry_does {W : Nat} {o : State} {s : State} (hW : Within 0x28004600000000000000000000000000000000000000000000000000001800003030000580000000000000000000000000000000000010000001000000000000000000000000000000000000000000000000000000000000000000000000000000000000000000000000000000000004304000000000000000000000000000000 W) (h : Does W o s) :
    Does W o (joinEntry s) := by
  have up := hW.up
  have ub := hW.ub
  have b1010 := ub 1010 (by decide)
  unfold joinEntry
  repeat' first
    | with_reducible assumption
    | exact up _ (by decide)
    | exact ub _ (by decide)
    | exact fun _ => ub _ (by decide)
    | intro _
    | with_reducible (apply State.setMode_does)
    | with_reducible (apply State.wr_does)
    | with_reducible (apply Does.ite)
    | (fail_if_no_progress extract_lets)
    | (fail_if_no_progress (with_reducible refine Does.mk' ?_ (by with_reducible rfl)))
    | split
    | dsimp only

theorem State.draw_does {W : Nat} {o : State} {s : State} (x1 : Nat) (hW : Within 0x4000000000000000000000000000000000000000000000000000000000000000000000000000000000000000000000000000000000000000000000000000000000000000000000000000000000000000000000000000000000000000000000000000000000000000000000000000000000000000000000000000000000000 W) (h : Does W o s) :
    Does W o (State.draw s x1).2 := by
  have up := hW.up
  have ub := hW.ub
  have b1010 := ub 1010 (by decide)
  unfold State.draw
  repeat' first
    | with_reducible assumption
    | exact up _ (by decide)
    | exact ub _ (by decide)
    | exact fun _ => ub _ (by decide)
    | intro _
    | with_reducible (apply Does.ite)
    | (fail_if_no_progress extract_lets)
    | (fail_if_no_progress (with_reducible refine Does.mk' ?_ (by with_reducible rfl)))

theorem State.drawWindow_does {W : Nat} {o : State} {s : State} (x1 : DiscWin) (hW : Within 0x4000000000000000000000000000000000000000000000000000000000000000000000000000000000000000000000000000000000000000000000000000000000000000000000000000000000000000000000000000000000000000000000000000000000000000000000000000000000000000000000000000000000000 W) (h : Does W o s) :
    Does W o (State.drawWindow s x1).2 := by
  have up := hW.up
  have ub := hW.ub
  unfold State.drawWindow
  repeat' first
    | with_reducible assumption
    | exact up _ (by decide)
    | exact ub _ (by decide)
    | exact fun _ => ub _ (by decide)
    | intro _
    | with_reducible (apply State.draw_does)
    | with_reducible (apply Does.ite)
    | (fail_if_no_progress extract_lets)
    | (fail_if_no_progress (with_reducible refine Does.mk' ?_ (by with_reducible rfl)))

theorem State.actDiscoveryOpen_does {W : Nat} {o : State} {s : State} (x1 : Msg) (hW : Within 0x2981e2000000000000000000000000000000000000000000000000fff07ff80370300fca000000000000000000000000000000000000100000010000000000000000000000000000000000000000000000000000000000000604000000000000000000000000000010000006c0001000020000000000000000000000000000000 W) (h : Does W o s) :
    Does W o (State.actDiscoveryOpen s x1) := by
  have up := hW.up
  have ub := hW.ub
  have b1010 := ub 1010 (by decide)
  unfold State.actDiscoveryOpen
  repeat' first
    | with_reducible assumption
    | exact up _ (by decide)
    | exact ub _ (by decide)
    | exact fun _ => ub _ (by decide)
    | intro _
    | with_reducible (apply State.inc_does)
    | with_reducible (apply State.drawWindow_does)
    | with_reducible (apply State.trip_does)
    | with_reducible (apply Does.ite)
    | (fail_if_no_progress extract_lets)
    | (fail_if_no_progress (with_reducible refine Does.mk' ?_ (by with_reducible rfl)))

theorem discoveryOpen_does {W : Nat} {o : State} (x0 : Rec) {s : State} (hW : Within 0x2981f2000000000000000000000000000000000000000000000000fff07ff80370300fca100100000000000000000000000000000000100000010000000000000000000000000000000000000000000000000000000000000604000000000000000000000000000010000006c011f000020000000016000000000000000000000 W) (h : Does W o s) :
    Does W o (discoveryOpen x0 s) := by
  have up := hW.up
  have ub := hW.ub
  unfold discoveryOpen
  repeat' first
    | with_reducible assumption
    | exact up _ (by decide)
    | exact ub _ (by decide)
    | exact fun _ => ub _ (by decide)
    | intro _
    | with_reducible (apply State.message_does)
    | with_reducible (apply State.actDiscoveryOpen_does)
    | with_reducible (apply Does.ite)
    | (fail_if_no_progress extract_lets)
    | (fail_if_no_progress (with_reducible refine Does.mk' ?_ (by with_reducible rfl)))

theorem State.sendDiscovery_does {W : Nat} {o : State} {s : State} (x1 : DiscWin) (hW : Within 0x20006000000000000000000000000000000000000000000000000000000000000000000000000000000000000000000000000000000000000000000000000000000000000000000000000000000000000000000000000000000000000000000000000000000000000000000080000404004000000000000000000000000000000 W) (h : Does W o s) :
    Does W o (State.sendDiscovery s x1) := by
  have up := hW.up
  have ub := hW.ub
  have b1009 := ub 1009 (by decide)
  have b1010 := ub 1010 (by decide)
  unfold State.sendDiscovery
  repeat' first
    | with_reducible assumption
    | exact up _ (by decide)
    | exact ub _ (by decide)
    | exact fun _ => ub _ (by decide)
    | intro _
    | with_reducible (apply State.drawWindow_does)
    | with_reducible (apply State.wr_does)
    | with_reducible (apply State.inc_does)
    | with_reducible (apply State.emit_does)
    | with_reducible (apply Does.ite)
    | (fail_if_no_progress extract_lets)
    | (fail_if_no_progress (with_reducible refine Does.mk' ?_ (by with_reducible rfl)))
    | split
    | dsimp only

theorem discoveryBurstStart_does {W : Nat} {o : State} {s : State} (hW : Within 0x20006800000000000000000000000000000000000000000000000000000000000000000000000000000000000000000000000000000000000000000000000000000000000000000000000000000000000000000000000000000000000000000000000000000000000000000080001404004000000000000000000000000200000 W) (h : Does W o s) :
    Does W o (discoveryBurstStart s) := by
  have up := hW.up
  have ub := hW.ub
  have b1010 := ub 1010 (by decide)
  unfold discoveryBurstStart
  repeat' first
    | with_reducible assumption
    | exact up _ (by decide)
    | exact ub _ (by decide)
    | exact fun _ => ub _ (by decide)
    | intro _
    | with_reducible (apply State.advance_does)
    | with_reducible (apply State.wr_does)
    | with_reducible (apply State.sendDiscovery_does)
    | with_reducible (apply State.inc_does)
    | with_reducible (apply Does.ite)
    | (fail_if_no_progress extract_lets)
    | (fail_if_no_progress (with_reducible refine Does.mk' ?_ (by with_reducible rfl)))
    | split
    | dsimp only

theorem discCollide_does {W : Nat} {o : State} {s : State} (hW : Within 0x28004e0000000000000000000000000000000000000000000000000000180000303000058000000000000000000000000000000000001000000100000000000000000000000000000000000000000000000000000000000000000000000000000000000000000000000000000000080908c000000000000000000000000200000 W) (h : Does W o s) :
    Does W o (discCollide s) := by
  have up := hW.up
  have ub := hW.ub
  have b1010 := ub 1010 (by decide)
  unfold discCollide
  repeat' first
    | with_reducible assumption
    | exact up _ (by decide)
    | exact ub _ (by decide)
    | exact fun _ => ub _ (by decide)
    | intro _
    | with_reducible (apply State.raise_does)
    | with_reducible (apply State.inc_does)
    | with_reducible (apply State.advance_does)
    | with_reducible (apply State.joinFail_does)
    | with_reducible (apply State.draw_does)
    | with_reducible (apply State.wr_does)
    | with_reducible (apply Does.ite)
    | (fail_if_no_progress extract_lets)
    | (fail_if_no_progress (with_reducible refine Does.mk' ?_ (by with_reducible rfl)))

theorem State.restartRange_does {W : Nat} {o : State} {s : State} (hW : Within 0x4000000000000000000000000000000000000000000000000000000000000000000000000000000000000000000000000000000000000000000000000000000000000000000000000000000000000000000000000000000000000000000000000000000000000000000000000000000000000000000000000000000000000 W) (h : Does W o s) :
    Does W o (State.restartRange s) := by
  have up := hW.up
  have ub := hW.ub
  have b1010 := ub 1010 (by decide)
  unfold State.restartRange
  repeat' first
    | with_reducible assumption
    | exact up _ (by decide)
    | exact ub _ (by decide)
    | exact fun _ => ub _ (by decide)
    | intro _
    | with_reducible (apply Does.ite)
    | (fail_if_no_progress extract_lets)
    | (fail_if_no_progress (with_reducible refine Does.mk' ?_ (by with_reducible rfl)))

theorem State.waitEqd_does {W : Nat} {o : State} {s : State} (x1 : Nat) (x2 : Bool) (x3 : Nat) (hW : Within 0x800000000000000000000000000000000000000000000000000000000000000000000000000000000000000000000000000000000000000000000000000000000000000000000000000000000000000000000000000000000000000000000000000000000000000000000000000000000000000000000000000000000000 W) (h : Does W o s) :
    Does W o (State.waitEqd s x1 x2 x3) := by
  have up := hW.up
  have ub := hW.ub
  have b1007 := ub 1007 (by decide)
  unfold State.waitEqd
  repeat' first
    | with_reducible assumption
    | exact up _ (by decide)
    | exact ub _ (by decide)
    | exact fun _ => ub _ (by decide)
    | intro _
    | with_reducible (apply Does.ite)
    | (fail_if_no_progress extract_lets)
    | (fail_if_no_progress (with_reducible refine Does.mk' ?_ (by with_reducible rfl)))

theorem State.actAssignId_does {W : Nat} {o : State} {s : State} (x1 : Msg) (hW : Within 0x68000000000000000000000000000000000000000000000000000000000000000000000000000000000000000000000000000000000000000000000000000000000000000000000000000000000000000000000000000000000000000000000000000000000000000000001000000c4000000000000000000000000000000 W) (h : Does W o s) :
    Does W o (State.actAssignId s x1) := by
  have up := hW.up
  have ub := hW.ub
  have b1010 := ub 1010 (by decide)
  unfold State.actAssignId
  repeat' first
    | with_reducible assumption
    | exact up _ (by decide)
    | exact ub _ (by decide)
    | exact fun _ => ub _ (by decide)
    | intro _
    | with_reducible (apply State.ackKept_does)
    | with_reducible (apply State.wr_does)
    | with_reducible (apply State.restartRange_does)
    | with_reducible (apply State.waitEqd_does)
    | with_reducible (apply Does.ite)
    | (fail_if_no_progress extract_lets)
    | (fail_if_no_progress (with_reducible refine Does.mk' ?_ (by with_reducible rfl)))

theorem assignId_does {W : Nat} {o : State} (x0 : Rec) {s : State} (hW : Within 0x20807a0000000000000000000000000000000000000000000000000000180000303000001001000000000000000000000000000000001000000100000000000000000000000000000000000000000000000000000000000000000000000000000000000000000000000000000010e0000c4000000016000000000000000000000 W) (h : Does W o s) :
    Does W o (assignId x0 s) := by
  have up := hW.up
  have ub := hW.ub
  unfold assignId
  repeat' first
    | with_reducible assumption
    | exact up _ (by decide)
    | exact ub _ (by decide)
    | exact fun _ => ub _ (by decide)
    | intro _
    | with_reducible (apply State.codeRecord_does)
    | with_reducible (apply State.msgBad_does)
    | with_reducible (apply State.inc_does)
    | with_reducible (apply State.duplicate_does)
    | with_reducible (apply State.actAssignId_does)
    | with_reducible (apply State.keep_does)
    | with_reducible (apply Does.ite)
    | (fail_if_no_progress extract_lets)
    | (fail_if_no_progress (with_reducible refine Does.mk' ?_ (by with_reducible rfl)))

theorem State.actRangeResult_does {W : Nat} {o : State} {s : State} (x1 : Msg) (hW : Within 0x2881ee0000000000000000000000000000000000000000000000000000180000303000058000080000000000000000000000000000001000000100000000000000000000000000000000000000000000000000000000000006040000000000000000000000000000000000060010020908c000000000000000000000001800000 W) (h : Does W o s) :
    Does W o (State.actRangeResult s x1) := by
  have up := hW.up
  have ub := hW.ub
  have b1010 := ub 1010 (by decide)
  unfold State.actRangeResult
  repeat' first
    | with_reducible assumption
    | exact up _ (by decide)
    | exact ub _ (by decide)
    | exact fun _ => ub _ (by decide)
    | intro _
    | with_reducible (apply State.waitEqd_does)
    | with_reducible (apply State.ackKept_does)
    | with_reducible (apply State.restartRange_does)
    | with_reducible (apply State.joinFail_does)
    | with_reducible (apply State.regLost_does)
    | with_reducible (apply Does.ite)
    | (fail_if_no_progress extract_lets)
    | (fail_if_no_progress (with_reducible refine Does.mk' ?_ (by with_reducible rfl)))
    | split
    | dsimp only

theorem rangeResult_does {W : Nat} {o : State} (x0 : Rec) {s : State} (hW : Within 0x2881fe0000000000000000000000000000000000000000000000000000180000303000059001080000000000000000000000000000001000000100000000000000000000000000000000000000000000000000000000000006040000000000000000000000000000000000060011e20908c000000016000000000000001800000 W) (h : Does W o s) :
    Does W o (rangeResult x0 s) := by
  have up := hW.up
  have ub := hW.ub
  unfold rangeResult
  repeat' first
    | with_reducible assumption
    | exact up _ (by decide)
    | exact ub _ (by decide)
    | exact fun _ => ub _ (by decide)
    | intro _
    | with_reducible (apply State.message_does)
    | with_reducible (apply State.actRangeResult_does)
    | with_reducible (apply Does.ite)
    | (fail_if_no_progress extract_lets)
    | (fail_if_no_progress (with_reducible refine Does.mk' ?_ (by with_reducible rfl)))

theorem rangeTimeout_does {W : Nat} {o : State} {s : State} (hW : Within 0x28004e0000000000000000000000000000000000000000000000000000180000303000058000000000000000000000000000000000001000000100000000000000000000000000000000000000000000000000000000000000000000000000000000000000000000000000000020000908c000000000000000000000000200000 W) (h : Does W o s) :
    Does W o (rangeTimeout s) := by
  have up := hW.up
  have ub := hW.ub
  have b1010 := ub 1010 (by decide)
  unfold rangeTimeout
  repeat' first
    | with_reducible assumption
    | exact up _ (by decide)
    | exact ub _ (by decide)
    | exact fun _ => ub _ (by decide)
    | intro _
    | with_reducible (apply State.advance_does)
    | with_reducible (apply State.joinFail_does)
    | with_reducible (apply State.wr_does)
    | with_reducible (apply State.inc_does)
    | with_reducible (apply Does.ite)
    | (fail_if_no_progress extract_lets)
    | (fail_if_no_progress (with_reducible refine Does.mk' ?_ (by with_reducible rfl)))
    | split
    | dsimp only

theorem State.actEqdAdjust_does {W : Nat} {o : State} {s : State} (x1 : Msg) (hW : Within 0x800000000000000000000000000000000000000000000000000000000000000000000000000000000000000000000000000000000000000000000000000000000000000000000000000000000000000000000000000000000000000000000000000000000000000000000000000000000000000000000000000001000000 W) (h : Does W o s) :
    Does W o (State.actEqdAdjust s x1) := by
  have up := hW.up
  have ub := hW.ub
  have b1007 := ub 1007 (by decide)
  unfold State.actEqdAdjust
  repeat' first
    | with_reducible assumption
    | exact up _ (by decide)
    | exact ub _ (by decide)
    | exact fun _ => ub _ (by decide)
    | intro _
    | with_reducible (apply State.wrS_does)
    | with_reducible (apply Does.ite)
    | (fail_if_no_progress extract_lets)
    | (fail_if_no_progress (with_reducible refine Does.mk' ?_ (by with_reducible rfl)))
    | split
    | dsimp only

theorem eqdAdjust_does {W : Nat} {o : State} (x0 : Rec) {s : State} (hW : Within 0x20807a0000000000000000000000000000000000000000000000000000180000303000001001000000000000000000000000000000001000000100000000000000000000000000000000000000000000000000000000000000000000000000000000000000000000000000000011e000000000000016000000000000001000000 W) (h : Does W o s) :
    Does W o (eqdAdjust x0 s) := by
  have up := hW.up
  have ub := hW.ub
  unfold eqdAdjust
  repeat' first
    | with_reducible assumption
    | exact up _ (by decide)
    | exact ub _ (by decide)
    | exact fun _ => ub _ (by decide)
    | intro _
    | with_reducible (apply State.message_does)
    | with_reducible (apply State.actEqdAdjust_does)
    | with_reducible (apply Does.ite)
    | (fail_if_no_progress extract_lets)
    | (fail_if_no_progress (with_reducible refine Does.mk' ?_ (by with_reducible rfl)))

theorem silence_does {W : Nat} {o : State} (x0 : Rec) {s : State} (hW : Within 0x2080720000000000000000000000000000000000000000000000000000180000303000001001000000000000000000000000000000001000000100000000000000000000000000000000000000000000000000000000000000000000000000000000000000000000000000000011e000000000000016000000000000000000000 W) (h : Does W o s) :
    Does W o (silence x0 s) := by
  have up := hW.up
  have ub := hW.ub
  have b1010 := ub 1010 (by decide)
  unfold silence
  repeat' first
    | with_reducible assumption
    | exact up _ (by decide)
    | exact ub _ (by decide)
    | exact fun _ => ub _ (by decide)
    | intro _
    | with_reducible (apply State.message_does)
    | with_reducible (apply Does.ite)
    | (fail_if_no_progress extract_lets)
    | (fail_if_no_progress (with_reducible refine Does.mk' ?_ (by with_reducible rfl)))

theorem release_does {W : Nat} {o : State} (x0 : Rec) {s : State} (hW : Within 0x2080720000000000000000000000000000000000000000000000000000180000303000001001000000000000000000000000000000001000000100000000000000000000000000000000000000000000000000000000000000000000000000000000000000000000000000000011e000000000000016000000000000000000000 W) (h : Does W o s) :
    Does W o (release x0 s) := by
  have up := hW.up
  have ub := hW.ub
  have b1010 := ub 1010 (by decide)
  unfold release
  repeat' first
    | with_reducible assumption
    | exact up _ (by decide)
    | exact ub _ (by decide)
    | exact fun _ => ub _ (by decide)
    | intro _
    | with_reducible (apply State.message_does)
    | with_reducible (apply Does.ite)
    | (fail_if_no_progress extract_lets)
    | (fail_if_no_progress (with_reducible refine Does.mk' ?_ (by with_reducible rfl)))

theorem State.beginSilence_does {W : Nat} {o : State} {s : State} (x1 : Nat) (x2 : Nat) (hW : Within 0x28004200000000000000000000000000000000000000000000000000001800003030000000000000000000000000000000000000000010000001000000000000000000000000000000000000000000000000000000000000000000000000000000000000000000000000000000000180010000000000000000000000000000000 W) (h : Does W o s) :
    Does W o (State.beginSilence s x1 x2) := by
  have up := hW.up
  have ub := hW.ub
  have b1010 := ub 1010 (by decide)
  unfold State.beginSilence
  repeat' first
    | with_reducible assumption
    | exact up _ (by decide)
    | exact ub _ (by decide)
    | exact fun _ => ub _ (by decide)
    | intro _
    | with_reducible (apply State.raise_does)
    | with_reducible (apply State.updTxdis_does)
    | with_reducible (apply State.wr_does)
    | with_reducible (apply Does.ite)
    | (fail_if_no_progress extract_lets)
    | (fail_if_no_progress (with_reducible refine Does.mk' ?_ (by with_reducible rfl)))

theorem State.endSilence_does {W : Nat} {o : State} {s : State} (hW : Within 0x8004000000000000000000000000000000000000000000000000000000000000000000000000000000000000000000000000000000000000000000000000000000000000000000000000000000000000000000000000000000000000000000000000000000000000000000000000080010000000000000000000000000000000 W) (h : Does W o s) :
    Does W o (State.endSilence s) := by
  have up := hW.up
  have ub := hW.ub
  have b1010 := ub 1010 (by decide)
  unfold State.endSilence
  repeat' first
    | with_reducible assumption
    | exact up _ (by decide)
    | exact ub _ (by decide)
    | exact fun _ => ub _ (by decide)
    | intro _
    | with_reducible (apply State.updTxdis_does)
    | with_reducible (apply State.wr_does)
    | with_reducible (apply Does.ite)
    | (fail_if_no_progress extract_lets)
    | (fail_if_no_progress (with_reducible refine Does.mk' ?_ (by with_reducible rfl)))

theorem State.actRelease_does {W : Nat} {o : State} {s : State} (x1 : Option Nat) (hW : Within 0x28006200000000000000000000000000000000000000000000000000001800013030000000000000000000000000000000000000000010000001000000000000000000000000000000000000000000000000000000000000000000000000000000000000000000000000000000100080010000000000000000000000000000000 W) (h : Does W o s) :
    Does W o (State.actRelease s x1) := by
  have up := hW.up
  have ub := hW.ub
  unfold State.actRelease
  repeat' first
    | with_reducible assumption
    | exact up _ (by decide)
    | exact ub _ (by decide)
    | exact fun _ => ub _ (by decide)
    | intro _
    | with_reducible (apply State.raise_does)
    | with_reducible (apply State.endSilence_does)
    | with_reducible (apply State.wr_does)
    | with_reducible (apply State.ackKept_does)
    | with_reducible (apply Does.ite)
    | (fail_if_no_progress extract_lets)
    | (fail_if_no_progress (with_reducible refine Does.mk' ?_ (by with_reducible rfl)))
    | split
    | dsimp only

theorem State.lineActs_does {W : Nat} {o : State} {s : State} (hW : Within 0x28006200000000000000000000000000000000000000000000000000001800013030000000000000000000000000000000000000000010000001000000000000000000000000000000000000000000000000000000000000000000000000000000000000000000000000000000100180010000000000000000000000000000000 W) (h : Does W o s) :
    Does W o (State.lineActs s) := by
  have up := hW.up
  have ub := hW.ub
  have b1010 := ub 1010 (by decide)
  unfold State.lineActs
  repeat' first
    | with_reducible assumption
    | exact up _ (by decide)
    | exact ub _ (by decide)
    | exact fun _ => ub _ (by decide)
    | intro _
    | with_reducible (apply State.beginSilence_does)
    | with_reducible (apply State.actRelease_does)
    | with_reducible (apply Does.ite)
    | with_reducible (apply Does.foldl)
    | (fail_if_no_progress extract_lets)
    | (fail_if_no_progress (with_reducible refine Does.mk' ?_ (by with_reducible rfl)))
    | split
    | dsimp +zetaDelta only

theorem silenceExpiry_does {W : Nat} {o : State} {s : State} (hW : Within 0x8004800000000000000000000000000000000000000000000000000000000000000000000000000000000000000000000000000000000000000000000000000000000000000000000000000000000000000000000000000000000000000000000000000000000000000000000000080010000000000000000000000000200000 W) (h : Does W o s) :
    Does W o (silenceExpiry s) := by
  have up := hW.up
  have ub := hW.ub
  unfold silenceExpiry
  repeat' first
    | with_reducible assumption
    | exact up _ (by decide)
    | exact ub _ (by decide)
    | exact fun _ => ub _ (by decide)
    | intro _
    | with_reducible (apply State.endSilence_does)
    | with_reducible (apply State.advance_does)
    | with_reducible (apply Does.ite)
    | (fail_if_no_progress extract_lets)
    | (fail_if_no_progress (with_reducible refine Does.mk' ?_ (by with_reducible rfl)))
    | split
    | dsimp only

theorem State.showSilence_does {W : Nat} {o : State} {s : State} (hW : Within 0x80000000000000000000000000000000000 W) (h : Does W o s) :
    Does W o (State.showSilence s) := by
  have up := hW.up
  have ub := hW.ub
  unfold State.showSilence
  repeat' first
    | with_reducible assumption
    | exact up _ (by decide)
    | exact ub _ (by decide)
    | exact fun _ => ub _ (by decide)
    | intro _
    | with_reducible (apply State.wr_does)
    | with_reducible (apply Does.ite)
    | (fail_if_no_progress extract_lets)
    | (fail_if_no_progress (with_reducible refine Does.mk' ?_ (by with_reducible rfl)))
    | split
    | dsimp only

theorem State.actDeregister_does {W : Nat} {o : State} {s : State} (x1 : Msg) (hW : Within 0x2881ee0000000000000000000000000000000000000000000000000000180000303000058000080000000000000000000000000000001000000100000000000000000000000000000000000000000000000000000000000006040000000000000000000000000000000000060000020908c000000000000000000000001800000 W) (h : Does W o s) :
    Does W o (State.actDeregister s x1) := by
  have up := hW.up
  have ub := hW.ub
  unfold State.actDeregister
  repeat' first
    | with_reducible assumption
    | exact up _ (by decide)
    | exact ub _ (by decide)
    | exact fun _ => ub _ (by decide)
    | intro _
    | with_reducible (apply State.regLost_does)
    | with_reducible (apply State.joinFail_does)
    | with_reducible (apply State.wr_does)
    | with_reducible (apply Does.ite)
    | (fail_if_no_progress extract_lets)
    | (fail_if_no_progress (with_reducible refine Does.mk' ?_ (by with_reducible rfl)))

theorem deregister_does {W : Nat} {o : State} (x0 : Rec) {s : State} (hW : Within 0x2881fe0000000000000000000000000000000000000000000000000000180000303000059001080000000000000000000000000000001000000100000000000000000000000000000000000000000000000000000000000006040000000000000000000000000000000000060011e20908c000000016000000000000001800000 W) (h : Does W o s) :
    Does W o (deregister x0 s) := by
  have up := hW.up
  have ub := hW.ub
  unfold deregister
  repeat' first
    | with_reducible assumption
    | exact up _ (by decide)
    | exact ub _ (by decide)
    | exact fun _ => ub _ (by decide)
    | intro _
    | with_reducible (apply State.message_does)
    | with_reducible (apply State.actDeregister_does)
    | with_reducible (apply Does.ite)
    | (fail_if_no_progress extract_lets)
    | (fail_if_no_progress (with_reducible refine Does.mk' ?_ (by with_reducible rfl)))

theorem State.actGroupSet_does {W : Nat} {o : State} {s : State} (x1 : Msg) (hW : Within 0x4000000000000000000000000000000000000000000000000000000000000000000000000000000000000000000000000000000000000000000000000000000000000000000000000000000000000000000000000000000000000000000000000000000000000000000000000000000000000000000000000000000000000 W) (h : Does W o s) :
    Does W o (State.actGroupSet s x1) := by
  have up := hW.up
  have ub := hW.ub
  have b1010 := ub 1010 (by decide)
  unfold State.actGroupSet
  repeat' first
    | with_reducible assumption
    | exact up _ (by decide)
    | exact ub _ (by decide)
    | exact fun _ => ub _ (by decide)
    | intro _
    | with_reducible (apply Does.ite)
    | (fail_if_no_progress extract_lets)
    | (fail_if_no_progress (with_reducible refine Does.mk' ?_ (by with_reducible rfl)))

theorem groupSet_does {W : Nat} {o : State} (x0 : Rec) {s : State} (hW : Within 0x2080720000000000000000000000000000000000000000000000000000180000303000001001000000000000000000000000000000001000000100000000000000000000000000000000000000000000000000000000000000000000000000000000000000000000000000000011e000000000000016000000000000000000000 W) (h : Does W o s) :
    Does W o (groupSet x0 s) := by
  have up := hW.up
  have ub := hW.ub
  unfold groupSet
  repeat' first
    | with_reducible assumption
    | exact up _ (by decide)
    | exact ub _ (by decide)
    | exact fun _ => ub _ (by decide)
    | intro _
    | with_reducible (apply State.ackKept_does)
    | with_reducible (apply State.message_does)
    | with_reducible (apply State.actGroupSet_does)
    | with_reducible (apply Does.ite)
    | (fail_if_no_progress extract_lets)
    | (fail_if_no_progress (with_reducible refine Does.mk' ?_ (by with_reducible rfl)))

end Sys2Proof.Machine
end

