-- ==== Sys2Proof/Laws/DCipher.lean ====
section
/-! SUPPORT. What the operations of Cipher can change. -/

set_option linter.unreachableTactic false
set_option linter.unusedTactic false
set_option linter.unusedVariables false
set_option Elab.async false

namespace Sys2Proof.Machine

theorem State.upKeyNow_does {W : Nat} {o : State} {s : State} (x1 : Nat) (x2 : List Nat) (hW : Within 0x2000000000000000000000000000000000000000000000000000000000000000000000000000000000000000000000000000000000000000000000000000000000000000000000000000000000000000000000000000000000000000000000000000000000000000000000000000000000000000000000000000000000000 W) (h : Does W o s) :
    Does W o (State.upKeyNow s x1 x2) := by
  have up := hW.up
  have ub := hW.ub
  unfold State.upKeyNow
  repeat' first
    | with_reducible assumption
    | exact up _ (by decide)
    | exact ub _ (by decide)
    | exact fun _ => ub _ (by decide)
    | intro _
    | with_reducible (apply State.mapBursts_does)
    | with_reducible (apply Does.ite)
    | (fail_if_no_progress extract_lets)
    | (fail_if_no_progress (with_reducible refine Does.mk' ?_ (by with_reducible rfl)))

theorem State.setSlot_does {W : Nat} {o : State} {s : State} (x1 : Nat) (x2 : List Nat) (hW : Within 0x42000000000000000000000000000000000000000000000000000000000000000000000000000000000000000000000000000000000000000000000000000000000000000000000000200000000000000000000000000000000000000000000000000000000000000000000000000000000000000000000000000000000000 W) (h : Does W o s) :
    Does W o (State.setSlot s x1 x2) := by
  have up := hW.up
  have ub := hW.ub
  have b1014 := ub 1014 (by decide)
  unfold State.setSlot
  repeat' first
    | with_reducible assumption
    | exact up _ (by decide)
    | exact ub _ (by decide)
    | exact fun _ => ub _ (by decide)
    | intro _
    | with_reducible (apply State.upKeyNow_does)
    | with_reducible (apply State.wr_does)
    | with_reducible (apply Does.ite)
    | (fail_if_no_progress extract_lets)
    | (fail_if_no_progress (with_reducible refine Does.mk' ?_ (by with_reducible rfl)))

theorem State.jobEnd_does {W : Nat} {o : State} {s : State} (x1 : Nat) (x2 : Nat) (x3 : Nat) (hW : Within 0x20840200000000000000000000000000000000000000000000000000001800003030000a0000000000000000000000000000000000001000000100000000000000000000000000000d020000000000000000000000000000000000000000000000000000000000000000000000000000000000000000000000000000000000000 W) (h : Does W o s) :
    Does W o (State.jobEnd s x1 x2 x3) := by
  have up := hW.up
  have ub := hW.ub
  have b1014 := ub 1014 (by decide)
  unfold State.jobEnd
  repeat' first
    | with_reducible assumption
    | exact up _ (by decide)
    | exact ub _ (by decide)
    | exact fun _ => ub _ (by decide)
    | intro _
    | with_reducible (apply State.inc_does)
    | with_reducible (apply State.wr_does)
    | with_reducible (apply State.giveLeave_does)
    | with_reducible (apply State.raiseIf_does)
    | with_reducible (apply State.raise_does)
    | with_reducible (apply Does.ite)
    | (fail_if_no_progress extract_lets)
    | (fail_if_no_progress (with_reducible refine Does.mk' ?_ (by with_reducible rfl)))

theorem State.jobRelease_does {W : Nat} {o : State} {s : State} (x1 : Nat) (x2 : Job) (x3 : Nat) (hW : Within 0x20000000000000000000000000000000000000000000000000000000000000000000000000000000000000000000000000000000000000000000000000000000000000000000000000000000000000000000000000000000000000000000000000000000000000000000000000000000000000000000000000000000000000000 W) (h : Does W o s) :
    Does W o (State.jobRelease s x1 x2 x3) := by
  have up := hW.up
  have ub := hW.ub
  unfold State.jobRelease
  repeat' first
    | with_reducible assumption
    | exact up _ (by decide)
    | exact ub _ (by decide)
    | exact fun _ => ub _ (by decide)
    | intro _
    | with_reducible (apply State.emit_does)
    | with_reducible (apply Does.ite)
    | (fail_if_no_progress extract_lets)
    | (fail_if_no_progress (with_reducible refine Does.mk' ?_ (by with_reducible rfl)))

theorem State.jobAbort_does {W : Nat} {o : State} {s : State} (x1 : Nat) (x2 : Job) (x3 : Nat) (hW : Within 0x60840200000000000000000000000000000000000000000000000000001800003030000a0000000000000000000000000000000000001000000100000000000000000000000000000d020000000000000000000000000000000000000000000000000000000000000000000000000000000000000000000000000000000000000 W) (h : Does W o s) :
    Does W o (State.jobAbort s x1 x2 x3) := by
  have up := hW.up
  have ub := hW.ub
  unfold State.jobAbort
  repeat' first
    | with_reducible assumption
    | exact up _ (by decide)
    | exact ub _ (by decide)
    | exact fun _ => ub _ (by decide)
    | intro _
    | with_reducible (apply State.fresh_does)
    | with_reducible (apply State.jobEnd_does)
    | with_reducible (apply State.jobRelease_does)
    | with_reducible (apply Does.ite)
    | (fail_if_no_progress extract_lets)
    | (fail_if_no_progress (with_reducible refine Does.mk' ?_ (by with_reducible rfl)))

theorem State.abortUp_does {W : Nat} {o : State} {s : State} (x1 : Nat) (hW : Within 0x20002200000000000000000000000000000000000000000000000000001800003030000000000000000000000000000000000000000010000001000000000000000000000000000000000000100000000000000000000000000000000000000000000000000000000000000000000000000000000000000000000000000000000 W) (h : Does W o s) :
    Does W o (State.abortUp s x1) := by
  have up := hW.up
  have ub := hW.ub
  unfold State.abortUp
  repeat' first
    | with_reducible assumption
    | exact up _ (by decide)
    | exact ub _ (by decide)
    | exact fun _ => ub _ (by decide)
    | intro _
    | with_reducible (apply State.mapBursts_does)
    | with_reducible (apply State.keyAbort_does)
    | with_reducible (apply Does.ite)
    | with_reducible (apply Does.foldl)
    | (fail_if_no_progress extract_lets)
    | (fail_if_no_progress (with_reducible refine Does.mk' ?_ (by with_reducible rfl)))
    | split
    | dsimp +zetaDelta only

theorem State.eraseSlot_does {W : Nat} {o : State} {s : State} (x1 : Nat) (hW : Within 0x60842200000000000000000000000000000000000000000000000000001800003030000a0000000000000000000000000000000000001000000100000000000000000000000000000d020200100000000000000000000000000000000000000000000000000000000000000000000000000000000000000000000000000000000 W) (h : Does W o s) :
    Does W o (State.eraseSlot s x1) := by
  have up := hW.up
  have ub := hW.ub
  have b1014 := ub 1014 (by decide)
  unfold State.eraseSlot
  repeat' first
    | with_reducible assumption
    | exact up _ (by decide)
    | exact ub _ (by decide)
    | exact fun _ => ub _ (by decide)
    | intro _
    | with_reducible (apply State.upKeyNow_does)
    | with_reducible (apply State.abortUp_does)
    | with_reducible (apply State.wr_does)
    | with_reducible (apply State.jobAbort_does)
    | with_reducible (apply State.keyAbort_does)
    | with_reducible (apply Does.ite)
    | with_reducible (apply Does.foldl)
    | (fail_if_no_progress extract_lets)
    | (fail_if_no_progress (with_reducible refine Does.mk' ?_ (by with_reducible rfl)))
    | split
    | dsimp +zetaDelta only

theorem State.eraseAllSlots_does {W : Nat} {o : State} {s : State} (hW : Within 0x60842200000000000000000000000000000000000000000000000000001800003030000a0000000000000000000000000000000000001000000100000000000000000000000000000d020200100000000000000000000000000000000000000000000000000000000000000000000000000000000000000000000000000000000 W) (h : Does W o s) :
    Does W o (State.eraseAllSlots s) := by
  have up := hW.up
  have ub := hW.ub
  unfold State.eraseAllSlots
  repeat' first
    | with_reducible assumption
    | exact up _ (by decide)
    | exact ub _ (by decide)
    | exact fun _ => ub _ (by decide)
    | intro _
    | with_reducible (apply State.eraseSlot_does)
    | with_reducible (apply Does.ite)
    | with_reducible (apply Does.foldl)
    | (fail_if_no_progress extract_lets)
    | (fail_if_no_progress (with_reducible refine Does.mk' ?_ (by with_reducible rfl)))
    | split
    | dsimp +zetaDelta only

theorem State.slotStart_does {W : Nat} {o : State} {s : State} (x1 : Nat) (x2 : Nat) (x3 : SlotCmd) (hW : Within 0x4000000000000000000000000000000000000000000000000000000000000000000000000000000000000000000000000000000000000000000000000000000000000000000000000000001a800000000000000000000000000000000000000000000000000000000000000000000000000000000000000000000000000000 W) (h : Does W o s) :
    Does W o (State.slotStart s x1 x2 x3) := by
  have up := hW.up
  have ub := hW.ub
  have b1014 := ub 1014 (by decide)
  unfold State.slotStart
  repeat' first
    | with_reducible assumption
    | exact up _ (by decide)
    | exact ub _ (by decide)
    | exact fun _ => ub _ (by decide)
    | intro _
    | with_reducible (apply State.wr_does)
    | with_reducible (apply Does.ite)
    | (fail_if_no_progress extract_lets)
    | (fail_if_no_progress (with_reducible refine Does.mk' ?_ (by with_reducible rfl)))

theorem slotLoad_does {W : Nat} {o : State} (x0 : Bool) (x1 : Nat) {s : State} (hW : Within 0x4000000000000000000000000000000000000000000000000000000000000000000000000000000000000000000000000000000000000000000000000000000000000000000000000000001b800000000000000000000000000000000000000000000000000000000000000000000000000000000000000000000000000000 W) (h : Does W o s) :
    Does W o (slotLoad x0 x1 s) := by
  have up := hW.up
  have ub := hW.ub
  unfold slotLoad
  repeat' first
    | with_reducible assumption
    | exact up _ (by decide)
    | exact ub _ (by decide)
    | exact fun _ => ub _ (by decide)
    | intro _
    | with_reducible (apply State.slotStart_does)
    | with_reducible (apply State.flag_does)
    | with_reducible (apply Does.ite)
    | (fail_if_no_progress extract_lets)
    | (fail_if_no_progress (with_reducible refine Does.mk' ?_ (by with_reducible rfl)))

theorem slotErase_does {W : Nat} {o : State} (x0 : Nat) {s : State} (hW : Within 0x60842200000000000000000000000000000000000000000000000000001800003030000a0000000000000000000000000000000000001000000100000000000000000000000000000d02020011a800000000000000000000000000000000000000000000000000000000000000000000000000000000000000000000000000000 W) (h : Does W o s) :
    Does W o (slotErase x0 s) := by
  have up := hW.up
  have ub := hW.ub
  unfold slotErase
  repeat' first
    | with_reducible assumption
    | exact up _ (by decide)
    | exact ub _ (by decide)
    | exact fun _ => ub _ (by decide)
    | intro _
    | with_reducible (apply State.eraseSlot_does)
    | with_reducible (apply State.slotStart_does)
    | with_reducible (apply Does.ite)
    | (fail_if_no_progress extract_lets)
    | (fail_if_no_progress (with_reducible refine Does.mk' ?_ (by with_reducible rfl)))

theorem slotUnwrap_does {W : Nat} {o : State} (x0 : Nat) (x1 : Nat) {s : State} (hW : Within 0x4004000000000000000000000000000000000000000000000000000000000000000000000000000000000000000000000000000000000000000000000000000000000000000000000000000001e800000000000000000000000000000000000000000000000000000000000000000000000000000000000000000000000000000 W) (h : Does W o s) :
    Does W o (slotUnwrap x0 x1 s) := by
  have up := hW.up
  have ub := hW.ub
  unfold slotUnwrap
  repeat' first
    | with_reducible assumption
    | exact up _ (by decide)
    | exact ub _ (by decide)
    | exact fun _ => ub _ (by decide)
    | intro _
    | with_reducible (apply State.wr_does)
    | with_reducible (apply State.slotStart_does)
    | with_reducible (apply State.fresh_does)
    | with_reducible (apply Does.ite)
    | (fail_if_no_progress extract_lets)
    | (fail_if_no_progress (with_reducible refine Does.mk' ?_ (by with_reducible rfl)))
    | split
    | dsimp only

theorem State.wipe_does {W : Nat} {o : State} {s : State} (x1 : Fld) (x2 : Nat) (hW : Within 0x0 W) (h : Does W o s) (bx1 : x1.id < 1000 → Nat.testBit W x1.id = true) :
    Does W o (State.wipe s x1 x2) := by
  have up := hW.up
  have ub := hW.ub
  unfold State.wipe
  repeat' first
    | with_reducible assumption
    | exact up _ (by decide)
    | exact ub _ (by decide)
    | exact fun _ => ub _ (by decide)
    | intro _
    | with_reducible (apply State.wr_does)
    | with_reducible (apply Does.ite)
    | with_reducible (apply Does.foldl)
    | (fail_if_no_progress extract_lets)
    | (fail_if_no_progress (with_reducible refine Does.mk' ?_ (by with_reducible rfl)))
    | split
    | dsimp +zetaDelta only

theorem slotCommandDone_does {W : Nat} {o : State} {s : State} (hW : Within 0x20042200000000000000000000000000000000000000000000000000001800003030000000000000000000000000000000000000000010000001000000000000000000000000000000000200c18000000000000000000000000000000000000000000000000000000000000000000000000000000000000000000000000000000 W) (h : Does W o s) :
    Does W o (slotCommandDone s) := by
  have up := hW.up
  have ub := hW.ub
  have b1014 := ub 1014 (by decide)
  unfold slotCommandDone
  repeat' first
    | with_reducible assumption
    | exact up _ (by decide)
    | exact ub _ (by decide)
    | exact fun _ => ub _ (by decide)
    | intro _
    | with_reducible (apply State.raise_does)
    | with_reducible (apply State.wr_does)
    | with_reducible (apply State.setSlot_does)
    | with_reducible (apply State.wipe_does)
    | with_reducible (apply Does.ite)
    | (fail_if_no_progress extract_lets)
    | (fail_if_no_progress (with_reducible refine Does.mk' ?_ (by with_reducible rfl)))
    | split
    | dsimp only

theorem lineKeyEntryWrite_does {W : Nat} {o : State} (x0 : Nat) (x1 : Nat) {s : State} (hW : Within 0x2000020000000000000000000000000000000000000000000000000000180000303000000000000000000000000000000000000000001000000100000000000000000000000000000000001f000000000000000000000000000000000000000000000000000000000000000000000000000000000000000000000000000000000 W) (h : Does W o s) :
    Does W o (lineKeyEntryWrite x0 x1 s) := by
  have up := hW.up
  have ub := hW.ub
  unfold lineKeyEntryWrite
  repeat' first
    | with_reducible assumption
    | exact up _ (by decide)
    | exact ub _ (by decide)
    | exact fun _ => ub _ (by decide)
    | intro _
    | with_reducible (unfold lineKeyFld)
    | with_reducible (apply State.raise_does)
    | with_reducible (apply State.wr_does)
    | with_reducible (apply Does.ite)
    | (fail_if_no_progress extract_lets)
    | (fail_if_no_progress (with_reducible refine Does.mk' ?_ (by with_reducible rfl)))
    | split
    | dsimp only

theorem arm_does {W : Nat} {o : State} {s : State} (hW : Within 0x40000000000000000000000000000000000000000000000000000000000000000000000000000000000000000000000000000000000000000000000000000000000000000000000000060000000000000000000000000000000000000000000000000000000000000000000000000000000000000000000000000000000000 W) (h : Does W o s) :
    Does W o (arm s) := by
  have up := hW.up
  have ub := hW.ub
  have b1014 := ub 1014 (by decide)
  unfold arm
  repeat' first
    | with_reducible assumption
    | exact up _ (by decide)
    | exact ub _ (by decide)
    | exact fun _ => ub _ (by decide)
    | intro _
    | with_reducible (unfold lineKeyFld)
    | with_reducible (apply State.wr_does)
    | with_reducible (apply Does.ite)
    | (fail_if_no_progress extract_lets)
    | (fail_if_no_progress (with_reducible refine Does.mk' ?_ (by with_reducible rfl)))
    | split
    | dsimp only

theorem State.upSwitch_does {W : Nat} {o : State} {s : State} (hW : Within 0x20040200000000000000000000000000000000000000000000000000001800003030000000000000000000000000000000000000000010000001000000000000000000000000000000000130000000000000000000000000000000000000000000000000000000000000000000000000000000000000000000000000000000000 W) (h : Does W o s) :
    Does W o (State.upSwitch s) := by
  have up := hW.up
  have ub := hW.ub
  have b1014 := ub 1014 (by decide)
  unfold State.upSwitch
  repeat' first
    | with_reducible assumption
    | exact up _ (by decide)
    | exact ub _ (by decide)
    | exact fun _ => ub _ (by decide)
    | intro _
    | with_reducible (apply State.wr_does)
    | with_reducible (apply State.raise_does)
    | with_reducible (apply Does.ite)
    | (fail_if_no_progress extract_lets)
    | (fail_if_no_progress (with_reducible refine Does.mk' ?_ (by with_reducible rfl)))
    | split
    | dsimp only

theorem State.streamStart_does {W : Nat} {o : State} {s : State} (x1 : Nat) (x2 : Nat) (hW : Within 0x20040200000000000000000000000000000000000000000000000000001800003030000000000000000000000000000000000000000010000001000000000000000000000000000000000000300000000000000000000000000000000000000000000000000000000000000000000000000000000000000000000000000000000 W) (h : Does W o s) :
    Does W o (State.streamStart s x1 x2).2 := by
  have up := hW.up
  have ub := hW.ub
  have b1014 := ub 1014 (by decide)
  unfold State.streamStart
  repeat' first
    | with_reducible assumption
    | exact up _ (by decide)
    | exact ub _ (by decide)
    | exact fun _ => ub _ (by decide)
    | intro _
    | with_reducible (unfold lineKeyFld)
    | with_reducible (apply State.raise_does)
    | with_reducible (apply State.inc_does)
    | with_reducible (apply State.keyAbort_does)
    | with_reducible (apply Does.ite)
    | (fail_if_no_progress extract_lets)
    | (fail_if_no_progress (with_reducible refine Does.mk' ?_ (by with_reducible rfl)))
    | split
    | dsimp only

theorem State.badContainer_does {W : Nat} {o : State} {s : State} (x1 : Bool) (x2 : Nat) (hW : Within 0x2000000000000000000000000000000000000000000000000000000000000000000000000000000000000000000000000000000000000000000000000000000000000000000000000000000000000000000000000000000000000000000000000000000000000000000000000000000000000000000000000000000000000 W) (h : Does W o s) :
    Does W o (State.badContainer s x1 x2) := by
  have up := hW.up
  have ub := hW.ub
  have b1009 := ub 1009 (by decide)
  unfold State.badContainer
  repeat' first
    | with_reducible assumption
    | exact up _ (by decide)
    | exact ub _ (by decide)
    | exact fun _ => ub _ (by decide)
    | intro _
    | with_reducible (apply Does.ite)
    | (fail_if_no_progress extract_lets)
    | (fail_if_no_progress (with_reducible refine Does.mk' ?_ (by with_reducible rfl)))
    | split
    | dsimp only

theorem State.mismatchAbort_does {W : Nat} {o : State} {s : State} (x1 : CipherOp) (hW : Within 0x60852200000000000000000000000000000000000000000000000000001800003030000a0000000000000000000000000000000000001000000100000000000000000000000000000d020000000000002010000000000000000000000000000000000000000000000000000000000000000000000000000000000000000000000 W) (h : Does W o s) :
    Does W o (State.mismatchAbort s x1) := by
  have up := hW.up
  have ub := hW.ub
  have b1012 := ub 1012 (by decide)
  have b1014 := ub 1014 (by decide)
  unfold State.mismatchAbort
  repeat' first
    | with_reducible assumption
    | exact up _ (by decide)
    | exact ub _ (by decide)
    | exact fun _ => ub _ (by decide)
    | intro _
    | with_reducible (apply State.jobAbort_does)
    | with_reducible (apply State.badContainer_does)
    | with_reducible (apply State.wr_does)
    | with_reducible (apply State.poison_does)
    | with_reducible (apply Does.ite)
    | (fail_if_no_progress extract_lets)
    | (fail_if_no_progress (with_reducible refine Does.mk' ?_ (by with_reducible rfl)))
    | split
    | dsimp only

theorem cipherMismatch_does {W : Nat} {o : State} (x0 : Nat) (x1 : CipherOp) {s : State} (hW : Within 0x6985a2000000000000000000000000000000000000000000000000fff07ff80370300fca0000000000000000000000000000000000001000000100000000000000000000000000000d0200000c0000002010000000000000060400000000000000000000000000000000000680000000020000000000000000000000000000000 W) (h : Does W o s) :
    Does W o (cipherMismatch x0 x1 s) := by
  have up := hW.up
  have ub := hW.ub
  unfold cipherMismatch
  repeat' first
    | with_reducible assumption
    | exact up _ (by decide)
    | exact ub _ (by decide)
    | exact fun _ => ub _ (by decide)
    | intro _
    | with_reducible (apply State.raise_does)
    | with_reducible (apply State.wr_does)
    | with_reducible (apply State.inc_does)
    | with_reducible (apply State.mismatchAbort_does)
    | with_reducible (apply State.fault_does)
    | with_reducible (apply Does.ite)
    | (fail_if_no_progress extract_lets)
    | (fail_if_no_progress (with_reducible refine Does.mk' ?_ (by with_reducible rfl)))

theorem State.jobRun_does {W : Nat} {o : State} {s : State} (x1 : Nat) (x2 : Job) (hW : Within 0x20840200000000000000000000000000000000000000000000000000001800003030000a0000000000000000000000000000000000001000000100000000000000000000000000000d020000100000000000000000000000000000000000000000000000000000000000000000000000000000000000000000000000000000000 W) (h : Does W o s) :
    Does W o (State.jobRun s x1 x2) := by
  have up := hW.up
  have ub := hW.ub
  have b1014 := ub 1014 (by decide)
  unfold State.jobRun
  repeat' first
    | with_reducible assumption
    | exact up _ (by decide)
    | exact ub _ (by decide)
    | exact fun _ => ub _ (by decide)
    | intro _
    | with_reducible (apply State.jobEnd_does)
    | with_reducible (apply State.keyAbort_does)
    | with_reducible (apply State.wr_does)
    | with_reducible (apply Does.ite)
    | (fail_if_no_progress extract_lets)
    | (fail_if_no_progress (with_reducible refine Does.mk' ?_ (by with_reducible rfl)))
    | split
    | dsimp only

theorem State.jobAsk_does {W : Nat} {o : State} {s : State} (x1 : Nat) (x2 : Job) (hW : Within 0x20840200000000000000000000000000000000000000000000000000001800003030003a0000000000000000000000000000000000001000000100000000000000000000000000000d020000100000000000000000000000000000000000000000000000000000000000000000000000000000000000000000000000000000000 W) (h : Does W o s) :
    Does W o (State.jobAsk s x1 x2) := by
  have up := hW.up
  have ub := hW.ub
  have b1014 := ub 1014 (by decide)
  unfold State.jobAsk
  repeat' first
    | with_reducible assumption
    | exact up _ (by decide)
    | exact ub _ (by decide)
    | exact fun _ => ub _ (by decide)
    | intro _
    | with_reducible (apply State.jobRun_does)
    | with_reducible (apply State.askLeave_does)
    | with_reducible (apply State.wr_does)
    | with_reducible (apply Does.ite)
    | (fail_if_no_progress extract_lets)
    | (fail_if_no_progress (with_reducible refine Does.mk' ?_ (by with_reducible rfl)))
    | (with_reducible (refine Does.snd (by assumption) ?_))
    | (with_reducible (refine Does.fst (by assumption) ?_))
    | split
    | dsimp only
    | dsimp +zetaDelta only

theorem cipJobStart_does {W : Nat} {o : State} (x0 : Nat) (x1 : List Nat) {s : State} (hW : Within 0x20840200000000000000000000000000000000000000000000000000001800003030003a0000000000000000000000000000000000001000000100000000000000000000000000000f020000100000000000000000000000000000000000000000000000000000000000000000000000000000000000000000000000000000000 W) (h : Does W o s) :
    Does W o (cipJobStart x0 x1 s) := by
  have up := hW.up
  have ub := hW.ub
  unfold cipJobStart
  repeat' first
    | with_reducible assumption
    | exact up _ (by decide)
    | exact ub _ (by decide)
    | exact fun _ => ub _ (by decide)
    | intro _
    | with_reducible (apply State.wr_does)
    | with_reducible (apply State.jobEnd_does)
    | with_reducible (apply State.jobAsk_does)
    | with_reducible (apply Does.ite)
    | (fail_if_no_progress extract_lets)
    | (fail_if_no_progress (with_reducible refine Does.mk' ?_ (by with_reducible rfl)))
    | split
    | dsimp only

theorem cipJobEnd_does {W : Nat} {o : State} (x0 : Nat) (x1 : Option Nat) {s : State} (hW : Within 0x20840200000000000000000000000000000000000000000000000000001800003030000a0000000000000000000000000000000000001000000100000000000000000000000000000d020000000000000000000000000000000000000000000000000000000000000000000000000000000000000000000000000000000000000 W) (h : Does W o s) :
    Does W o (cipJobEnd x0 x1 s) := by
  have up := hW.up
  have ub := hW.ub
  unfold cipJobEnd
  repeat' first
    | with_reducible assumption
    | exact up _ (by decide)
    | exact ub _ (by decide)
    | exact fun _ => ub _ (by decide)
    | intro _
    | with_reducible (apply State.jobEnd_does)
    | with_reducible (apply State.jobRelease_does)
    | with_reducible (apply Does.ite)
    | (fail_if_no_progress extract_lets)
    | (fail_if_no_progress (with_reducible refine Does.mk' ?_ (by with_reducible rfl)))
    | split
    | dsimp only

theorem cipLeaveRetry_does {W : Nat} {o : State} (x0 : Nat) {s : State} (hW : Within 0x20840a00000000000000000000000000000000000000000000000000001800003030003a0000000000000000000000000000000000001000000100000000000000000000000000000d020000100000000000000000000000000000000000000000000000000000000000000000000000000000000000000000000000000200000 W) (h : Does W o s) :
    Does W o (cipLeaveRetry x0 s) := by
  have up := hW.up
  have ub := hW.ub
  unfold cipLeaveRetry
  repeat' first
    | with_reducible assumption
    | exact up _ (by decide)
    | exact ub _ (by decide)
    | exact fun _ => ub _ (by decide)
    | intro _
    | with_reducible (apply State.jobAsk_does)
    | with_reducible (apply State.advance_does)
    | with_reducible (apply Does.ite)
    | (fail_if_no_progress extract_lets)
    | (fail_if_no_progress (with_reducible refine Does.mk' ?_ (by with_reducible rfl)))
    | split
    | dsimp only

end Sys2Proof.Machine
end

