-- ==== Sys2Proof/Laws/DRx.lean ====
section
/-! SUPPORT. What the operations of Rx can change. -/

set_option linter.unreachableTactic false
set_option linter.unusedTactic false
set_option linter.unusedVariables false
set_option Elab.async false

namespace Sys2Proof.Machine

theorem acqGainSettled_does {W : Nat} {o : State} (x0 : Nat) {s : State} (hW : Within 0x180000000000 W) (h : Does W o s) :
    Does W o (acqGainSettled x0 s) := by
  have up := hW.up
  have ub := hW.ub
  unfold acqGainSettled
  repeat' first
    | with_reducible assumption
    | exact up _ (by decide)
    | exact ub _ (by decide)
    | exact fun _ => ub _ (by decide)
    | intro _
    | with_reducible (unfold acqFld)
    | with_reducible (apply State.wr_does)
    | with_reducible (apply Does.ite)
    | (fail_if_no_progress extract_lets)
    | (fail_if_no_progress (with_reducible refine Does.mk' ?_ (by with_reducible rfl)))
    | split
    | dsimp only

theorem acqCdFound_does {W : Nat} {o : State} (x0 : Nat) (x1 : Nat) {s : State} (hW : Within 0x1e0000000000 W) (h : Does W o s) :
    Does W o (acqCdFound x0 x1 s) := by
  have up := hW.up
  have ub := hW.ub
  unfold acqCdFound
  repeat' first
    | with_reducible assumption
    | exact up _ (by decide)
    | exact ub _ (by decide)
    | exact fun _ => ub _ (by decide)
    | intro _
    | with_reducible (unfold acqFld)
    | with_reducible (apply State.wr_does)
    | with_reducible (apply Does.ite)
    | (fail_if_no_progress extract_lets)
    | (fail_if_no_progress (with_reducible refine Does.mk' ?_ (by with_reducible rfl)))
    | split
    | dsimp only

theorem acqCdHintMiss_does {W : Nat} {o : State} (x0 : Nat) {s : State} (hW : Within 0x1000000000000000000000000000000000000000000000000000000000000000000000000000000000000000000000000000000000000000000000000000000000000000000000000000000000000000000000000000000000000000000000000000000000000000000000000000000000000000000000000000000000000 W) (h : Does W o s) :
    Does W o (acqCdHintMiss x0 s) := by
  have up := hW.up
  have ub := hW.ub
  have b1008 := ub 1008 (by decide)
  unfold acqCdHintMiss
  repeat' first
    | with_reducible assumption
    | exact up _ (by decide)
    | exact ub _ (by decide)
    | exact fun _ => ub _ (by decide)
    | intro _
    | with_reducible (apply Does.ite)
    | (fail_if_no_progress extract_lets)
    | (fail_if_no_progress (with_reducible refine Does.mk' ?_ (by with_reducible rfl)))

theorem acqFreqAcquired_does {W : Nat} {o : State} (x0 : Nat) {s : State} (hW : Within 0x180000000000 W) (h : Does W o s) :
    Does W o (acqFreqAcquired x0 s) := by
  have up := hW.up
  have ub := hW.ub
  unfold acqFreqAcquired
  repeat' first
    | with_reducible assumption
    | exact up _ (by decide)
    | exact ub _ (by decide)
    | exact fun _ => ub _ (by decide)
    | intro _
    | with_reducible (unfold acqFld)
    | with_reducible (apply State.wr_does)
    | with_reducible (apply Does.ite)
    | (fail_if_no_progress extract_lets)
    | (fail_if_no_progress (with_reducible refine Does.mk' ?_ (by with_reducible rfl)))
    | split
    | dsimp only

theorem acqEqConverged_does {W : Nat} {o : State} (x0 : Nat) {s : State} (hW : Within 0x20001200000000000000000000000000000000000000000000000000001800003030000000000000000000000000000000000000000010000001000000000000000000000000000000000000000000000000000000000000000000000000000000000000000000000000000000000000000000000000000000800180000000000 W) (h : Does W o s) :
    Does W o (acqEqConverged x0 s) := by
  have up := hW.up
  have ub := hW.ub
  unfold acqEqConverged
  repeat' first
    | with_reducible assumption
    | exact up _ (by decide)
    | exact ub _ (by decide)
    | exact fun _ => ub _ (by decide)
    | intro _
    | with_reducible (unfold acqFld)
    | with_reducible (apply State.wr_does)
    | with_reducible (apply State.tryTrack_does)
    | with_reducible (apply Does.ite)
    | (fail_if_no_progress extract_lets)
    | (fail_if_no_progress (with_reducible refine Does.mk' ?_ (by with_reducible rfl)))
    | split
    | dsimp only

theorem State.carrierBack_does {W : Nat} {o : State} {s : State} (x1 : Nat) (x2 : Nat) (hW : Within 0x2885fe0000000000000000000000000000000000000000000000000000180000303000058000080000000000000000000000000000001000000100000000000000000000000000000000000000000000000000000000000006040000000000000000000000000000000000060000020908c210004380020000800580019840000 W) (h : Does W o s) :
    Does W o (State.carrierBack s x1 x2) := by
  have up := hW.up
  have ub := hW.ub
  unfold State.carrierBack
  repeat' first
    | with_reducible assumption
    | exact up _ (by decide)
    | exact ub _ (by decide)
    | exact fun _ => ub _ (by decide)
    | intro _
    | with_reducible (apply State.carrierTo_does)
    | with_reducible (apply State.ctrlLost_does)
    | with_reducible (apply Does.ite)
    | (fail_if_no_progress extract_lets)
    | (fail_if_no_progress (with_reducible refine Does.mk' ?_ (by with_reducible rfl)))

theorem acqStateOverrun_does {W : Nat} {o : State} (x0 : Nat) {s : State} (hW : Within 0x2885fe0000000000000000000000000000000000000000000000000000180000303000058000080000000000000000000000000000001000000100000000000000000000000000000000000000000000000000000000000006040000000000000000000000000000000000060000020908c210004380020000820580019840000 W) (h : Does W o s) :
    Does W o (acqStateOverrun x0 s) := by
  have up := hW.up
  have ub := hW.ub
  unfold acqStateOverrun
  repeat' first
    | with_reducible assumption
    | exact up _ (by decide)
    | exact ub _ (by decide)
    | exact fun _ => ub _ (by decide)
    | intro _
    | with_reducible (apply State.inc_does)
    | with_reducible (apply State.carrierBack_does)
    | with_reducible (apply Does.ite)
    | (fail_if_no_progress extract_lets)
    | (fail_if_no_progress (with_reducible refine Does.mk' ?_ (by with_reducible rfl)))

theorem coefBankWrite_does {W : Nat} {o : State} (x0 : Bool) (x1 : Nat) (x2 : Nat) (x3 : Nat) (x4 : Nat) {s : State} (hW : Within 0x20000200000000000000000000000000000000000800000000000000001800003030000000000000000000000000000000000000000010000001000000000000000000000000000000000000000000000000000000000000000000000000000000000000000000000000000000000000000000000000000000000000000000000 W) (h : Does W o s) :
    Does W o (coefBankWrite x0 x1 x2 x3 x4 s) := by
  have up := hW.up
  have ub := hW.ub
  unfold coefBankWrite
  repeat' first
    | with_reducible assumption
    | exact up _ (by decide)
    | exact ub _ (by decide)
    | exact fun _ => ub _ (by decide)
    | intro _
    | with_reducible (apply State.raise_does)
    | with_reducible (apply State.wr_does)
    | with_reducible (apply Does.ite)
    | (fail_if_no_progress extract_lets)
    | (fail_if_no_progress (with_reducible refine Does.mk' ?_ (by with_reducible rfl)))

theorem rsExpectWrite_does {W : Nat} {o : State} (x0 : Nat) {s : State} (hW : Within 0x2885fe0000000000000000000000000000000000000000000000000000180000303000058000080000000000000000000000000000001000000100000000000000000000000000000000000000000000000000000000000006040000000000000000000000000000000000060000020908c210004380020000800780019840000 W) (h : Does W o s) :
    Does W o (rsExpectWrite x0 s) := by
  have up := hW.up
  have ub := hW.ub
  unfold rsExpectWrite
  repeat' first
    | with_reducible assumption
    | exact up _ (by decide)
    | exact ub _ (by decide)
    | exact fun _ => ub _ (by decide)
    | intro _
    | with_reducible (apply State.wr_does)
    | with_reducible (apply State.changeRate_does)
    | with_reducible (apply Does.ite)
    | (fail_if_no_progress extract_lets)
    | (fail_if_no_progress (with_reducible refine Does.mk' ?_ (by with_reducible rfl)))

theorem State.takeBlock_does {W : Nat} {o : State} {s : State} (x1 : Blk) (hW : Within 0x1000000000000000000000000000000000000000000000000000000000000000000000000000000000000000000000000000000000000000000000000000000000000000000000000000000000000000000000000000000000000000000000000000000000000000000000000000000000000000000000000000000000000 W) (h : Does W o s) :
    Does W o (State.takeBlock s x1) := by
  have up := hW.up
  have ub := hW.ub
  have b1008 := ub 1008 (by decide)
  unfold State.takeBlock
  repeat' first
    | with_reducible assumption
    | exact up _ (by decide)
    | exact ub _ (by decide)
    | exact fun _ => ub _ (by decide)
    | intro _
    | with_reducible (apply Does.ite)
    | (fail_if_no_progress extract_lets)
    | (fail_if_no_progress (with_reducible refine Does.mk' ?_ (by with_reducible rfl)))

theorem State.blockOut_does {W : Nat} {o : State} {s : State} (x1 : Blk) (hW : Within 0x20201200000000000000000000000000000000000000000000000000001800003030000000000000000000000000000000000000000010000001000000000000000000000000000000000000000000000000000000000000000000000000000000000000000000000000000000000000000000000000000000000000000000000 W) (h : Does W o s) :
    Does W o (State.blockOut s x1) := by
  have up := hW.up
  have ub := hW.ub
  unfold State.blockOut
  repeat' first
    | with_reducible assumption
    | exact up _ (by decide)
    | exact ub _ (by decide)
    | exact fun _ => ub _ (by decide)
    | intro _
    | with_reducible (apply State.ctrlBlockOut_does)
    | with_reducible (apply State.takeBlock_does)
    | with_reducible (apply State.groupBlockOut_does)
    | with_reducible (apply Does.ite)
    | (fail_if_no_progress extract_lets)
    | (fail_if_no_progress (with_reducible refine Does.mk' ?_ (by with_reducible rfl)))

theorem blockDecoded_does {W : Nat} {o : State} (x0 : Nat) (x1 : Nat) (x2 : List Nat) (x3 : Nat) (x4 : Bool) {s : State} (hW : Within 0x202012000000000000000000000000000000000000000000000000000018000030300000000000000000000000000000000000000000100000010000000000000000000000000000000000000000000000000000000000000000000000000000000000000000000000000000000000000000000000000003e0000000000000000 W) (h : Does W o s) :
    Does W o (blockDecoded x0 x1 x2 x3 x4 s) := by
  have up := hW.up
  have ub := hW.ub
  unfold blockDecoded
  repeat' first
    | with_reducible assumption
    | exact up _ (by decide)
    | exact ub _ (by decide)
    | exact fun _ => ub _ (by decide)
    | intro _
    | with_reducible (apply State.perf_does)
    | with_reducible (apply State.inc64_does)
    | with_reducible (apply State.raise_does)
    | with_reducible (apply State.inc_does)
    | with_reducible (apply State.blockOut_does)
    | with_reducible (apply Does.ite)
    | (fail_if_no_progress extract_lets)
    | (fail_if_no_progress (with_reducible refine Does.mk' ?_ (by with_reducible rfl)))
    | split
    | dsimp only

theorem State.ltEdge_does {W : Nat} {o : State} {s : State} (x1 : Int) (x2 : Bool) (hW : Within 0x21ff7a20000000000000000000000000000000000000000000000000001800003030000020000000000000000000000000000000000010000001000000000000000000000000000000000000000000000000000000700000000000000000000000000000000000000000000000000000000000000000000000000000000040000 W) (h : Does W o s) :
    Does W o (State.ltEdge s x1 x2) := by
  have up := hW.up
  have ub := hW.ub
  have b1007 := ub 1007 (by decide)
  have b1008 := ub 1008 (by decide)
  unfold State.ltEdge
  repeat' first
    | with_reducible assumption
    | exact up _ (by decide)
    | exact ub _ (by decide)
    | exact fun _ => ub _ (by decide)
    | intro _
    | with_reducible (apply State.moveLt_does)
    | with_reducible (apply State.setLtState_does)
    | with_reducible (apply State.ltUnlock_does)
    | with_reducible (apply State.when_does)
    | with_reducible (apply State.inc_does)
    | with_reducible (apply Does.ite)
    | (fail_if_no_progress extract_lets)
    | (fail_if_no_progress (with_reducible refine Does.mk' ?_ (by with_reducible rfl)))
    | split
    | dsimp only

theorem State.goInFrame_does {W : Nat} {o : State} {s : State} (x1 : Nat) (x2 : Nat) (x3 : Nat) (x4 : Nat) (hW : Within 0x21ff7a20000000000000000000000000000000000000000000000000001800003030000020000000000000000000000000000000000010000001000000000000000000000000000000000000000000000000000000700000000000000000000000000000000000000000000000000000000000002280000000800180000040000 W) (h : Does W o s) :
    Does W o (State.goInFrame s x1 x2 x3 x4) := by
  have up := hW.up
  have ub := hW.ub
  unfold State.goInFrame
  repeat' first
    | with_reducible assumption
    | exact up _ (by decide)
    | exact ub _ (by decide)
    | exact fun _ => ub _ (by decide)
    | intro _
    | with_reducible (apply State.mapSub_does)
    | with_reducible (apply State.tryTrack_does)
    | with_reducible (apply State.wr_does)
    | with_reducible (apply State.ltEdge_does)
    | with_reducible (apply Does.ite)
    | (fail_if_no_progress extract_lets)
    | (fail_if_no_progress (with_reducible refine Does.mk' ?_ (by with_reducible rfl)))

theorem State.setCands_does {W : Nat} {o : State} {s : State} (x1 : Nat) (x2 : List Cand) (hW : Within 0x1000000000000000000000000000000000000000000000000000000000000000000000000000000000000000000000000000000000000000000000000000000000000000000000000000000000000000000000000000000000000000000000000000000000000000000000000000000000000200000000000000000000000 W) (h : Does W o s) :
    Does W o (State.setCands s x1 x2) := by
  have up := hW.up
  have ub := hW.ub
  unfold State.setCands
  repeat' first
    | with_reducible assumption
    | exact up _ (by decide)
    | exact ub _ (by decide)
    | exact fun _ => ub _ (by decide)
    | intro _
    | with_reducible (apply State.wr_does)
    | with_reducible (apply State.mapSub_does)
    | with_reducible (apply Does.ite)
    | (fail_if_no_progress extract_lets)
    | (fail_if_no_progress (with_reducible refine Does.mk' ?_ (by with_reducible rfl)))

theorem State.newCand_does {W : Nat} {o : State} {s : State} (x1 : Nat) (x2 : Cand) (hW : Within 0x1000000000000000000000000000000000000000000000000000000000000000000000000000000000000000000000000000000000000000000000000000000000000000000000000000000000000000000000000000000000000000000000000000000000000000000000000000000000000240000000000000000000000 W) (h : Does W o s) :
    Does W o (State.newCand s x1 x2) := by
  have up := hW.up
  have ub := hW.ub
  unfold State.newCand
  repeat' first
    | with_reducible assumption
    | exact up _ (by decide)
    | exact ub _ (by decide)
    | exact fun _ => ub _ (by decide)
    | intro _
    | with_reducible (apply State.setCands_does)
    | with_reducible (apply State.inc_does)
    | with_reducible (apply Does.ite)
    | (fail_if_no_progress extract_lets)
    | (fail_if_no_progress (with_reducible refine Does.mk' ?_ (by with_reducible rfl)))
    | split
    | dsimp only

theorem fawSearchWord_does {W : Nat} {o : State} (x0 : Nat) (x1 : Nat) (x2 : Nat) (x3 : Nat) {s : State} (hW : Within 0x21ff7a200000000000000000000000000000000000000000000000000018000030300000200000000000000000000000000000000000100000010000000000000000000000000000000000000000000000000000007000000000000000000000000000000000000000000000000000000000000122c0000000800180000240000 W) (h : Does W o s) :
    Does W o (fawSearchWord x0 x1 x2 x3 s) := by
  have up := hW.up
  have ub := hW.ub
  unfold fawSearchWord
  repeat' first
    | with_reducible assumption
    | exact up _ (by decide)
    | exact ub _ (by decide)
    | exact fun _ => ub _ (by decide)
    | intro _
    | with_reducible (apply State.advance_does)
    | with_reducible (apply State.goInFrame_does)
    | with_reducible (apply State.setCands_does)
    | with_reducible (apply State.inc_does)
    | with_reducible (apply State.newCand_does)
    | with_reducible (apply Does.ite)
    | (fail_if_no_progress extract_lets)
    | (fail_if_no_progress (with_reducible refine Does.mk' ?_ (by with_reducible rfl)))
    | split
    | dsimp only

theorem State.goOutOfFrame_does {W : Nat} {o : State} {s : State} (x1 : Nat) (hW : Within 0x2885fe0000000000000000000000000000000000000000000000000000180000303000058000080000000000000000000000000000001000000100000000000000000000000000000000000000000000000000000000000006040000000000000000000000000000000000060000020908c210004380020000800580019840000 W) (h : Does W o s) :
    Does W o (State.goOutOfFrame s x1) := by
  have up := hW.up
  have ub := hW.ub
  unfold State.goOutOfFrame
  repeat' first
    | with_reducible assumption
    | exact up _ (by decide)
    | exact ub _ (by decide)
    | exact fun _ => ub _ (by decide)
    | intro _
    | with_reducible (apply State.subDrop_does)
    | with_reducible (apply State.carrierTo_does)
    | with_reducible (apply State.ctrlLost_does)
    | with_reducible (apply Does.ite)
    | (fail_if_no_progress extract_lets)
    | (fail_if_no_progress (with_reducible refine Does.mk' ?_ (by with_reducible rfl)))

theorem fawInframeWord_does {W : Nat} {o : State} (x0 : Nat) (x1 : Nat) (x2 : Nat) {s : State} (hW : Within 0x29fffe200000000000000000000000000000000000000000000000000018000030300005a000080000000000000000000000000000001000000100000000000000000000000000000000000000000000000000000070000006040000000000000000000000000000000000060000020908c21000c380020000800580019a40000 W) (h : Does W o s) :
    Does W o (fawInframeWord x0 x1 x2 s) := by
  have up := hW.up
  have ub := hW.ub
  unfold fawInframeWord
  repeat' first
    | with_reducible assumption
    | exact up _ (by decide)
    | exact ub _ (by decide)
    | exact fun _ => ub _ (by decide)
    | intro _
    | with_reducible (apply State.advance_does)
    | with_reducible (apply State.mapSub_does)
    | with_reducible (apply State.ltEdge_does)
    | with_reducible (apply State.perf_does)
    | with_reducible (apply State.inc_does)
    | with_reducible (apply State.goOutOfFrame_does)
    | with_reducible (apply Does.ite)
    | (fail_if_no_progress extract_lets)
    | (fail_if_no_progress (with_reducible refine Does.mk' ?_ (by with_reducible rfl)))

theorem State.judgeMfi_does {W : Nat} {o : State} {s : State} (x1 : Nat) (x2 : Option Nat) (hW : Within 0x41000000000000000000000000000000000000000000000000000000000000000000000000000000000000000000000000000000000000000000000000000000000000000000000000000000000000000000000000000000000000000000000000000000000000000000000000000000210000100000000000000000000000 W) (h : Does W o s) :
    Does W o (State.judgeMfi s x1 x2) := by
  have up := hW.up
  have ub := hW.ub
  unfold State.judgeMfi
  repeat' first
    | with_reducible assumption
    | exact up _ (by decide)
    | exact ub _ (by decide)
    | exact fun _ => ub _ (by decide)
    | intro _
    | with_reducible (apply State.mapSub_does)
    | with_reducible (apply State.loseAlign_does)
    | with_reducible (apply State.wr_does)
    | with_reducible (apply Does.ite)
    | (fail_if_no_progress extract_lets)
    | (fail_if_no_progress (with_reducible refine Does.mk' ?_ (by with_reducible rfl)))
    | split
    | dsimp only

theorem State.judgeTrace_does {W : Nat} {o : State} {s : State} (x1 : Nat) (x2 : List Nat) (hW : Within 0x1000000000000000000000000000000000000000000000000000000000000000000000000000000000000000000000000000000000000000000000000000000000000000000000000000000000000000000000000000000000000000000000000000000000000000000000000000000000000000000000000000000000000 W) (h : Does W o s) :
    Does W o (State.judgeTrace s x1 x2) := by
  have up := hW.up
  have ub := hW.ub
  unfold State.judgeTrace
  repeat' first
    | with_reducible assumption
    | exact up _ (by decide)
    | exact ub _ (by decide)
    | exact fun _ => ub _ (by decide)
    | intro _
    | with_reducible (apply State.mapSub_does)
    | with_reducible (apply Does.ite)
    | (fail_if_no_progress extract_lets)
    | (fail_if_no_progress (with_reducible refine Does.mk' ?_ (by with_reducible rfl)))

theorem State.judgeAis_does {W : Nat} {o : State} {s : State} (x1 : Nat) (x2 : Bool) (hW : Within 0x1000000000000000000000000000000000000000000000000000000000000000000000000000000000000000000000000000000000000000000000000000000000000000000000000000000000000000000000000000000000000000000000000000000000000000000000000000000000000000000000000000000000000 W) (h : Does W o s) :
    Does W o (State.judgeAis s x1 x2) := by
  have up := hW.up
  have ub := hW.ub
  unfold State.judgeAis
  repeat' first
    | with_reducible assumption
    | exact up _ (by decide)
    | exact ub _ (by decide)
    | exact fun _ => ub _ (by decide)
    | intro _
    | with_reducible (apply State.mapSub_does)
    | with_reducible (apply State.meet_does)
    | with_reducible (apply Does.ite)
    | (fail_if_no_progress extract_lets)
    | (fail_if_no_progress (with_reducible refine Does.mk' ?_ (by with_reducible rfl)))

theorem State.ltLabel_does {W : Nat} {o : State} {s : State} (x1 : Nat) (x2 : Nat) (hW : Within 0x800000000000000000000000000000000000000000000000000000000000000000000000000000000000000000000000000000000000000000000000000000000000000000000000000000000000000000000000000000000000000000000000000000000000000000000000000000000000000000000000000000000000 W) (h : Does W o s) :
    Does W o (State.ltLabel s x1 x2) := by
  have up := hW.up
  have ub := hW.ub
  have b1007 := ub 1007 (by decide)
  unfold State.ltLabel
  repeat' first
    | with_reducible assumption
    | exact up _ (by decide)
    | exact ub _ (by decide)
    | exact fun _ => ub _ (by decide)
    | intro _
    | with_reducible (apply Does.ite)
    | (fail_if_no_progress extract_lets)
    | (fail_if_no_progress (with_reducible refine Does.mk' ?_ (by with_reducible rfl)))

theorem State.startStream_does {W : Nat} {o : State} {s : State} (x1 : Nat) (x2 : StreamMf) (hW : Within 0x20041200000000000000000000000000000000000000000000000000001800003030000000000000000000000000000000000000000010000001000000000000000000000000000000000000300000000000000000000000000000000000000000000000000000000000000000000000000000000000000000000000000000000 W) (h : Does W o s) :
    Does W o (State.startStream s x1 x2) := by
  have up := hW.up
  have ub := hW.ub
  have b1014 := ub 1014 (by decide)
  unfold State.startStream
  repeat' first
    | with_reducible assumption
    | exact up _ (by decide)
    | exact ub _ (by decide)
    | exact fun _ => ub _ (by decide)
    | intro _
    | with_reducible (apply State.streamStart_does)
    | with_reducible (apply State.mapChain_does)
    | with_reducible (apply Does.ite)
    | (fail_if_no_progress extract_lets)
    | (fail_if_no_progress (with_reducible refine Does.mk' ?_ (by with_reducible rfl)))
    | split
    | dsimp only

theorem State.lateEpoch_does {W : Nat} {o : State} {s : State} (x1 : Nat) (x2 : Nat) (hW : Within 0x20041200000000000000000000000000000000000000000000000000001800003030000000000000000000000000000000000000000010000001000000000000000000000000000000000000300000000000000000000000000000000000000000000000000000000000000000000000000000000000000000000000000000000 W) (h : Does W o s) :
    Does W o (State.lateEpoch s x1 x2) := by
  have up := hW.up
  have ub := hW.ub
  unfold State.lateEpoch
  repeat' first
    | with_reducible assumption
    | exact up _ (by decide)
    | exact ub _ (by decide)
    | exact fun _ => ub _ (by decide)
    | intro _
    | with_reducible (apply State.streamStart_does)
    | with_reducible (apply State.mapChain_does)
    | with_reducible (apply Does.ite)
    | (fail_if_no_progress extract_lets)
    | (fail_if_no_progress (with_reducible refine Does.mk' ?_ (by with_reducible rfl)))

theorem State.firstUnit_does {W : Nat} {o : State} {s : State} (x1 : Nat) (x2 : Nat) (x3 : Nat × Nat) (hW : Within 0x1000000000000000000000000000000000000000000000000000000000000000000000000000000000000000000000000000000000000000000000000000000000000000000000000000000000000000000000000000000000000000000000000000000000000000000000000000000000000000000000000000000000000 W) (h : Does W o s) :
    Does W o (State.firstUnit s x1 x2 x3) := by
  have up := hW.up
  have ub := hW.ub
  unfold State.firstUnit
  repeat' first
    | with_reducible assumption
    | exact up _ (by decide)
    | exact ub _ (by decide)
    | exact fun _ => ub _ (by decide)
    | intro _
    | with_reducible (apply State.mapChain_does)
    | with_reducible (apply Does.ite)
    | (fail_if_no_progress extract_lets)
    | (fail_if_no_progress (with_reducible refine Does.mk' ?_ (by with_reducible rfl)))
    | split
    | dsimp only

theorem State.ctlOverhead_does {W : Nat} {o : State} {s : State} (x1 : Nat) (x2 : Option Nat) (hW : Within 0x1000000000000000000000000000000000000000000000000000000000000000000000000000000000000000000000000000000000000000000000000000000000000000000000000000000000000000000000000000000000000000000000000000000000000000000000000000000000000000000000000000000000000 W) (h : Does W o s) :
    Does W o (State.ctlOverhead s x1 x2) := by
  have up := hW.up
  have ub := hW.ub
  have b1008 := ub 1008 (by decide)
  unfold State.ctlOverhead
  repeat' first
    | with_reducible assumption
    | exact up _ (by decide)
    | exact ub _ (by decide)
    | exact fun _ => ub _ (by decide)
    | intro _
    | with_reducible (apply State.mapChain_does)
    | with_reducible (apply State.firstUnit_does)
    | with_reducible (apply Does.ite)
    | (fail_if_no_progress extract_lets)
    | (fail_if_no_progress (with_reducible refine Does.mk' ?_ (by with_reducible rfl)))
    | split
    | dsimp only

theorem State.dataOverhead_does {W : Nat} {o : State} {s : State} (x1 : Nat) (x2 : Nat) (x3 : Option Nat) (hW : Within 0x20041200000000000000000000000000000000000000000000000000001800003030000000000000000000000000000000000000000010000001000000000000000000000000000000000000300000000000000000000000000000000000000000000000000000000000000000000000000000000000000000000000000000000 W) (h : Does W o s) :
    Does W o (State.dataOverhead s x1 x2 x3) := by
  have up := hW.up
  have ub := hW.ub
  unfold State.dataOverhead
  repeat' first
    | with_reducible assumption
    | exact up _ (by decide)
    | exact ub _ (by decide)
    | exact fun _ => ub _ (by decide)
    | intro _
    | with_reducible (apply State.startStream_does)
    | with_reducible (apply State.firstUnit_does)
    | with_reducible (apply Does.ite)
    | (fail_if_no_progress extract_lets)
    | (fail_if_no_progress (with_reducible refine Does.mk' ?_ (by with_reducible rfl)))
    | split
    | dsimp only

theorem State.dropBlocks_does {W : Nat} {o : State} {s : State} (x1 : Nat) (x2 : Nat) (hW : Within 0x1000000000000000000000000000000000000000000000000000000000000000000000000000000000000000000000000000000000000000000000000000000000000000000000000000000000000000000000000000000000000000000000000000000000000000000000000000000000000000000000000000000000000 W) (h : Does W o s) :
    Does W o (State.dropBlocks s x1 x2) := by
  have up := hW.up
  have ub := hW.ub
  have b1008 := ub 1008 (by decide)
  unfold State.dropBlocks
  repeat' first
    | with_reducible assumption
    | exact up _ (by decide)
    | exact ub _ (by decide)
    | exact fun _ => ub _ (by decide)
    | intro _
    | with_reducible (apply Does.ite)
    | (fail_if_no_progress extract_lets)
    | (fail_if_no_progress (with_reducible refine Does.mk' ?_ (by with_reducible rfl)))

theorem State.frameStart_does {W : Nat} {o : State} {s : State} (x1 : Nat) (x2 : Nat) (x3 : Option Nat) (hW : Within 0x20041200000000000000000000000000000000000000000000000000001800003030000000000000000000000000000000000000000010000001000000000000000000000000000000000000300000000000000000000000000000000000000000000000000000000000000000000000000000000000000000000000000000000 W) (h : Does W o s) :
    Does W o (State.frameStart s x1 x2 x3) := by
  have up := hW.up
  have ub := hW.ub
  unfold State.frameStart
  repeat' first
    | with_reducible assumption
    | exact up _ (by decide)
    | exact ub _ (by decide)
    | exact fun _ => ub _ (by decide)
    | intro _
    | with_reducible (apply State.mapSub_does)
    | with_reducible (apply State.dropBlocks_does)
    | with_reducible (apply State.ctlOverhead_does)
    | with_reducible (apply State.dataOverhead_does)
    | with_reducible (apply Does.ite)
    | (fail_if_no_progress extract_lets)
    | (fail_if_no_progress (with_reducible refine Does.mk' ?_ (by with_reducible rfl)))

theorem State.groupFields_does {W : Nat} {o : State} {s : State} (x1 : Nat) (x2 : List Nat) (hW : Within 0x1000000000000000000000000000000000000000000000000000000000000000000000000000000000000000000000000000000000000000000000000000000000000000000000000000000000000000000000000000000000000000000000000000000000000000000000000000000000f00000000000000000000000000 W) (h : Does W o s) :
    Does W o (State.groupFields s x1 x2) := by
  have up := hW.up
  have ub := hW.ub
  unfold State.groupFields
  repeat' first
    | with_reducible assumption
    | exact up _ (by decide)
    | exact ub _ (by decide)
    | exact fun _ => ub _ (by decide)
    | intro _
    | with_reducible (apply State.wr_does)
    | with_reducible (apply State.mapSub_does)
    | with_reducible (apply State.judgeTrace_does)
    | with_reducible (apply Does.ite)
    | (fail_if_no_progress extract_lets)
    | (fail_if_no_progress (with_reducible refine Does.mk' ?_ (by with_reducible rfl)))

theorem State.overheadFields_does {W : Nat} {o : State} {s : State} (x1 : Nat) (x2 : List Nat) (hW : Within 0x29fffe200000000000000000000000000000000000000000000000000018000030300005a000080000000000000000000000000000001000000100000000000000000000000000000000000030000000000000000070000006040000000000000000000000000000000000060000020908c210f04380020001800580419840000 W) (h : Does W o s) :
    Does W o (State.overheadFields s x1 x2) := by
  have up := hW.up
  have ub := hW.ub
  unfold State.overheadFields
  repeat' first
    | with_reducible assumption
    | exact up _ (by decide)
    | exact ub _ (by decide)
    | exact fun _ => ub _ (by decide)
    | intro _
    | with_reducible (apply State.groupFields_does)
    | with_reducible (apply State.judgeAis_does)
    | with_reducible (apply State.judgeMfi_does)
    | with_reducible (apply State.mapSub_does)
    | with_reducible (apply State.lateEpoch_does)
    | with_reducible (apply State.ltEdge_does)
    | with_reducible (apply State.moveCtrl_does)
    | with_reducible (apply State.ltLabel_does)
    | with_reducible (apply State.frameStart_does)
    | with_reducible (apply Does.ite)
    | (fail_if_no_progress extract_lets)
    | (fail_if_no_progress (with_reducible refine Does.mk' ?_ (by with_reducible rfl)))
    | split
    | dsimp only

theorem fillRecord_does {W : Nat} {o : State} (x0 : Rec) {s : State} (hW : Within 0x20801200000000000000000000000000000000000000000000000000001800003030000010010000000000000000000000000000000010000001000000000000000000000000000000000000000000000000000000000000000000000000000000000000000000000000000000000000000000000016000000000000000000000 W) (h : Does W o s) :
    Does W o (fillRecord x0 s) := by
  have up := hW.up
  have ub := hW.ub
  unfold fillRecord
  repeat' first
    | with_reducible assumption
    | exact up _ (by decide)
    | exact ub _ (by decide)
    | exact fun _ => ub _ (by decide)
    | intro _
    | with_reducible (apply State.recFor_does)
    | with_reducible (apply State.recOk_does)
    | with_reducible (apply Does.ite)
    | (fail_if_no_progress extract_lets)
    | (fail_if_no_progress (with_reducible refine Does.mk' ?_ (by with_reducible rfl)))

theorem reservedRecord_does {W : Nat} {o : State} (x0 : Rec) {s : State} (hW : Within 0x2080120000000000000000000000000000000000000000000000000000180000303000001001000000000000000000000000000000001000000100000000000000000000000000000000000000000000000000000000000000000000000000000000000000000000000000000000000000000000001c000000000000000000000 W) (h : Does W o s) :
    Does W o (reservedRecord x0 s) := by
  have up := hW.up
  have ub := hW.ub
  unfold reservedRecord
  repeat' first
    | with_reducible assumption
    | exact up _ (by decide)
    | exact ub _ (by decide)
    | exact fun _ => ub _ (by decide)
    | intro _
    | with_reducible (apply State.record_does)
    | with_reducible (apply State.inc_does)
    | with_reducible (apply Does.ite)
    | (fail_if_no_progress extract_lets)
    | (fail_if_no_progress (with_reducible refine Does.mk' ?_ (by with_reducible rfl)))

theorem recordHeaderError_does {W : Nat} {o : State} (x0 : Rec) {s : State} (hW : Within 0x801000000000000000000000000000000000000000000000000000000000000000000010010000000000000000000000000000000000000000000000000000000000000000000000000000000000000000000000000000000000000000000000000000000000000000000000000000000000000010000000000000000000000 W) (h : Does W o s) :
    Does W o (recordHeaderError x0 s) := by
  have up := hW.up
  have ub := hW.ub
  unfold recordHeaderError
  repeat' first
    | with_reducible assumption
    | exact up _ (by decide)
    | exact ub _ (by decide)
    | exact fun _ => ub _ (by decide)
    | intro _
    | with_reducible (apply State.badHeader_does)
    | with_reducible (apply Does.ite)
    | (fail_if_no_progress extract_lets)
    | (fail_if_no_progress (with_reducible refine Does.mk' ?_ (by with_reducible rfl)))

theorem State.table_does {W : Nat} {o : State} {s : State} (x1 : List Nat) (x2 : Bool) (f3 : Nat → State → State) (hW : Within 0x20000200000000000000000000000000000000000000000000000000001800003030000000000000000000000000000000000000000010000001000000000000000000000000000000000000000000000000000000000000000000000000000000000000000000000000000000000000000000000026000000000000000000000 W) (h : Does W o s) (hf3 : ∀ y0 y1, Does W o y1 → Does W o (f3 y0 y1)) :
    Does W o (State.table s x1 x2 f3) := by
  have up := hW.up
  have ub := hW.ub
  unfold State.table
  repeat' first
    | with_reducible assumption
    | exact up _ (by decide)
    | exact ub _ (by decide)
    | exact fun _ => ub _ (by decide)
    | intro _
    | with_reducible (apply State.recDiscard_does)
    | with_reducible (apply State.raise_does)
    | with_reducible (apply State.inc_does)
    | with_reducible (apply State.recOk_does)
    | with_reducible (apply hf3)
    | with_reducible (apply Does.ite)
    | (fail_if_no_progress extract_lets)
    | (fail_if_no_progress (with_reducible refine Does.mk' ?_ (by with_reducible rfl)))
    | split
    | dsimp only

theorem profileTable_does {W : Nat} {o : State} (x0 : Rec) {s : State} (hW : Within 0x20801200000000000000000000000000000000000000000000000000001800003030000010010000000000000000000000000000000010000001000000000000000000000000000000000000000000000000000000000000000000000000000000000000000000000000000000000000000000000036000000000000000000000 W) (h : Does W o s) :
    Does W o (profileTable x0 s) := by
  have up := hW.up
  have ub := hW.ub
  have b1008 := ub 1008 (by decide)
  unfold profileTable
  repeat' first
    | with_reducible assumption
    | exact up _ (by decide)
    | exact ub _ (by decide)
    | exact fun _ => ub _ (by decide)
    | intro _
    | with_reducible (apply State.recFor_does)
    | with_reducible (apply State.table_does)
    | with_reducible (apply Does.ite)
    | (fail_if_no_progress extract_lets)
    | (fail_if_no_progress (with_reducible refine Does.mk' ?_ (by with_reducible rfl)))

theorem allocMap_does {W : Nat} {o : State} (x0 : Rec) {s : State} (hW : Within 0x20801200000000000000000000000000000000000000000000000000001800003030000010010000000000000000000000000000000010000001000000000000000000000000000000000000000000000000000000000000000000000000000000000000000000000000000000000000000000000036000000000000000000000 W) (h : Does W o s) :
    Does W o (allocMap x0 s) := by
  have up := hW.up
  have ub := hW.ub
  have b1008 := ub 1008 (by decide)
  unfold allocMap
  repeat' first
    | with_reducible assumption
    | exact up _ (by decide)
    | exact ub _ (by decide)
    | exact fun _ => ub _ (by decide)
    | intro _
    | with_reducible (apply State.recFor_does)
    | with_reducible (apply State.table_does)
    | with_reducible (apply Does.ite)
    | (fail_if_no_progress extract_lets)
    | (fail_if_no_progress (with_reducible refine Does.mk' ?_ (by with_reducible rfl)))

theorem rdiList_does {W : Nat} {o : State} (x0 : Rec) {s : State} (hW : Within 0x20801200000000000000000000000000000000000000000000000000001800003030000010010000000000000000000000000000000010000001000000000000000000000000000000000000000000000000000000000000000000000000000000000000000000000000000000000000000000000016000000000000000000000 W) (h : Does W o s) :
    Does W o (rdiList x0 s) := by
  have up := hW.up
  have ub := hW.ub
  have b1008 := ub 1008 (by decide)
  unfold rdiList
  repeat' first
    | with_reducible assumption
    | exact up _ (by decide)
    | exact ub _ (by decide)
    | exact fun _ => ub _ (by decide)
    | intro _
    | with_reducible (apply State.recFor_does)
    | with_reducible (apply State.recOk_does)
    | with_reducible (apply State.meet_does)
    | with_reducible (apply Does.ite)
    | (fail_if_no_progress extract_lets)
    | (fail_if_no_progress (with_reducible refine Does.mk' ?_ (by with_reducible rfl)))

theorem State.showMask_does {W : Nat} {o : State} {s : State} (x1 : Fld) (x2 : Fld) (x3 : List Nat) (hW : Within 0x0 W) (h : Does W o s) (bx1 : x1.id < 1000 → Nat.testBit W x1.id = true) (bx2 : x2.id < 1000 → Nat.testBit W x2.id = true) :
    Does W o (State.showMask s x1 x2 x3) := by
  have up := hW.up
  have ub := hW.ub
  unfold State.showMask
  repeat' first
    | with_reducible assumption
    | exact up _ (by decide)
    | exact ub _ (by decide)
    | exact fun _ => ub _ (by decide)
    | intro _
    | with_reducible (apply State.wr_does)
    | with_reducible (apply Does.ite)
    | (fail_if_no_progress extract_lets)
    | (fail_if_no_progress (with_reducible refine Does.mk' ?_ (by with_reducible rfl)))

theorem State.workOut_does {W : Nat} {o : State} {s : State} (hW : Within 0x2000020000000000000000000000000000000000000000000000000000180000303000000000000000000000000000000000000000001000000100000000000000000000000000000000000000000000000000000000000000000000000000000000000000000000000000000000000000000000000000040171f800000000000 W) (h : Does W o s) :
    Does W o (State.workOut s) := by
  have up := hW.up
  have ub := hW.ub
  unfold State.workOut
  repeat' first
    | with_reducible assumption
    | exact up _ (by decide)
    | exact ub _ (by decide)
    | exact fun _ => ub _ (by decide)
    | intro _
    | with_reducible (apply State.showMask_does)
    | with_reducible (apply State.wr_does)
    | with_reducible (apply State.flag_does)
    | with_reducible (apply State.inc_does)
    | with_reducible (apply State.raise_does)
    | with_reducible (apply Does.ite)
    | with_reducible (apply Does.foldl)
    | (fail_if_no_progress extract_lets)
    | (fail_if_no_progress (with_reducible refine Does.mk' ?_ (by with_reducible rfl)))
    | split
    | dsimp +zetaDelta only

theorem State.takeTables_does {W : Nat} {o : State} {s : State} (x1 : Nat) (hW : Within 0x1000000000000000000000000000000000000000000000000000000000000000000000000000000000000000000000000000000000000000000000000000000000000000000000000000000000000000000000000000000000000000000000000000000000000000000000000000000000000000000000000000000000000 W) (h : Does W o s) :
    Does W o (State.takeTables s x1) := by
  have up := hW.up
  have ub := hW.ub
  have b1008 := ub 1008 (by decide)
  unfold State.takeTables
  repeat' first
    | with_reducible assumption
    | exact up _ (by decide)
    | exact ub _ (by decide)
    | exact fun _ => ub _ (by decide)
    | intro _
    | with_reducible (apply Does.ite)
    | with_reducible (apply Does.foldl)
    | (fail_if_no_progress extract_lets)
    | (fail_if_no_progress (with_reducible refine Does.mk' ?_ (by with_reducible rfl)))
    | split
    | dsimp +zetaDelta only

theorem State.setDelivery_does {W : Nat} {o : State} {s : State} (hW : Within 0x41000000000000000000000000000000000000000000000000000000000000000000000000000000000000000000000000000000000000000000000000000000000000000000000000000000000000000000000000000000000000000000000000000000000000000000000000000000000000000000000000000000000000 W) (h : Does W o s) :
    Does W o (State.setDelivery s) := by
  have up := hW.up
  have ub := hW.ub
  unfold State.setDelivery
  repeat' first
    | with_reducible assumption
    | exact up _ (by decide)
    | exact ub _ (by decide)
    | exact fun _ => ub _ (by decide)
    | intro _
    | with_reducible (apply State.mapSub_does)
    | with_reducible (apply State.endStream_does)
    | with_reducible (apply Does.ite)
    | with_reducible (apply Does.foldl)
    | (fail_if_no_progress extract_lets)
    | (fail_if_no_progress (with_reducible refine Does.mk' ?_ (by with_reducible rfl)))
    | split
    | dsimp +zetaDelta only

theorem State.rxMultiframe_does {W : Nat} {o : State} {s : State} (hW : Within 0x2004120000000000000000000000000000000000000000000000000000180000303000000000000000000000000000000000000000001000000100000000000000000000000000000000000000000000000000000000000000000000000000000000000000000000000000000000000000000000000000040171f800000000000 W) (h : Does W o s) :
    Does W o (State.rxMultiframe s) := by
  have up := hW.up
  have ub := hW.ub
  have b1008 := ub 1008 (by decide)
  unfold State.rxMultiframe
  repeat' first
    | with_reducible assumption
    | exact up _ (by decide)
    | exact ub _ (by decide)
    | exact fun _ => ub _ (by decide)
    | intro _
    | with_reducible (apply State.takeTables_does)
    | with_reducible (apply State.workOut_does)
    | with_reducible (apply State.setDelivery_does)
    | with_reducible (apply State.inc_does)
    | with_reducible (apply Does.ite)
    | (fail_if_no_progress extract_lets)
    | (fail_if_no_progress (with_reducible refine Does.mk' ?_ (by with_reducible rfl)))

theorem State.showTrace_does {W : Nat} {o : State} {s : State} (x1 : Nat) (hW : Within 0x800000000000000000000000000000 W) (h : Does W o s) :
    Does W o (State.showTrace s x1) := by
  have up := hW.up
  have ub := hW.ub
  unfold State.showTrace
  repeat' first
    | with_reducible assumption
    | exact up _ (by decide)
    | exact ub _ (by decide)
    | exact fun _ => ub _ (by decide)
    | intro _
    | with_reducible (apply State.wr_does)
    | with_reducible (apply Does.ite)
    | with_reducible (apply Does.foldl)
    | (fail_if_no_progress extract_lets)
    | (fail_if_no_progress (with_reducible refine Does.mk' ?_ (by with_reducible rfl)))
    | split
    | dsimp +zetaDelta only

theorem State.showTraces_does {W : Nat} {o : State} {s : State} (x1 : Nat) (hW : Within 0x800000000000000000000000000000 W) (h : Does W o s) :
    Does W o (State.showTraces s x1) := by
  have up := hW.up
  have ub := hW.ub
  unfold State.showTraces
  repeat' first
    | with_reducible assumption
    | exact up _ (by decide)
    | exact ub _ (by decide)
    | exact fun _ => ub _ (by decide)
    | intro _
    | with_reducible (apply State.showTrace_does)
    | with_reducible (apply Does.ite)
    | with_reducible (apply Does.foldl)
    | (fail_if_no_progress extract_lets)
    | (fail_if_no_progress (with_reducible refine Does.mk' ?_ (by with_reducible rfl)))
    | split
    | dsimp +zetaDelta only

theorem overheadBlock_does {W : Nat} {o : State} (x0 : Nat) (x1 : Nat) (x2 : Option (List Nat)) {s : State} (hW : Within 0x29fffe200000000000000000000000000000000000000000000000000018000030300005a000080000000000000000000000000000001000000100000000000000000000000000000000000030000000000000000070000006040000000000000000000000000000000000060000020908ca10f24380020001800580419840000 W) (h : Does W o s) :
    Does W o (overheadBlock x0 x1 x2 s) := by
  have up := hW.up
  have ub := hW.ub
  unfold overheadBlock
  repeat' first
    | with_reducible assumption
    | exact up _ (by decide)
    | exact ub _ (by decide)
    | exact fun _ => ub _ (by decide)
    | intro _
    | with_reducible (apply State.showTraces_does)
    | with_reducible (apply State.overheadFields_does)
    | with_reducible (apply State.mapSub_does)
    | with_reducible (apply State.judgeMfi_does)
    | with_reducible (apply State.inc_does)
    | with_reducible (apply State.frameStart_does)
    | with_reducible (apply Does.ite)
    | (fail_if_no_progress extract_lets)
    | (fail_if_no_progress (with_reducible refine Does.mk' ?_ (by with_reducible rfl)))
    | split
    | dsimp only

theorem State.groupMultiframe_does {W : Nat} {o : State} {s : State} (x1 : Nat) (hW : Within 0x20041200000000000000000000000000000000000000000000000000001800003030000000000000000000000000000000000000000010000001000000000000000000000000000000000000000000000000000000000000000000000000000000000000000000000000000000000000000bd0000000000000000000000000000 W) (h : Does W o s) :
    Does W o (State.groupMultiframe s x1) := by
  have up := hW.up
  have ub := hW.ub
  have b1008 := ub 1008 (by decide)
  unfold State.groupMultiframe
  repeat' first
    | with_reducible assumption
    | exact up _ (by decide)
    | exact ub _ (by decide)
    | exact fun _ => ub _ (by decide)
    | intro _
    | with_reducible (apply State.flag_does)
    | with_reducible (apply State.showTrace_does)
    | with_reducible (apply State.raiseIf_does)
    | with_reducible (apply State.wr_does)
    | with_reducible (apply State.endStream_does)
    | with_reducible (apply State.inc_does)
    | with_reducible (apply Does.ite)
    | (fail_if_no_progress extract_lets)
    | (fail_if_no_progress (with_reducible refine Does.mk' ?_ (by with_reducible rfl)))

theorem State.groupsMultiframe_does {W : Nat} {o : State} {s : State} (hW : Within 0x20041200000000000000000000000000000000000000000000000000001800003030000000000000000000000000000000000000000010000001000000000000000000000000000000000000000000000000000000000000000000000000000000000000000000000000000000000000000bd0000000000000000000000000000 W) (h : Does W o s) :
    Does W o (State.groupsMultiframe s) := by
  have up := hW.up
  have ub := hW.ub
  have b1008 := ub 1008 (by decide)
  unfold State.groupsMultiframe
  repeat' first
    | with_reducible assumption
    | exact up _ (by decide)
    | exact ub _ (by decide)
    | exact fun _ => ub _ (by decide)
    | intro _
    | with_reducible (apply State.wr_does)
    | with_reducible (apply State.groupMultiframe_does)
    | with_reducible (apply Does.ite)
    | with_reducible (apply Does.foldl)
    | (fail_if_no_progress extract_lets)
    | (fail_if_no_progress (with_reducible refine Does.mk' ?_ (by with_reducible rfl)))
    | split
    | dsimp +zetaDelta only

theorem State.showDefect_does {W : Nat} {o : State} {s : State} (x1 : Defect) (x2 : Bool) (hW : Within 0x20001c01000000000000000000000 W) (h : Does W o s) :
    Does W o (State.showDefect s x1 x2) := by
  have up := hW.up
  have ub := hW.ub
  unfold State.showDefect
  repeat' first
    | with_reducible assumption
    | exact up _ (by decide)
    | exact ub _ (by decide)
    | exact fun _ => ub _ (by decide)
    | intro _
    | with_reducible (apply State.wr_does)
    | with_reducible (apply State.flag_does)
    | with_reducible (apply Does.ite)
    | (fail_if_no_progress extract_lets)
    | (fail_if_no_progress (with_reducible refine Does.mk' ?_ (by with_reducible rfl)))
    | split
    | dsimp only

theorem State.putDefect_does {W : Nat} {o : State} {s : State} (x1 : Defect) (x2 : Bool) (hW : Within 0x2885fe0000000000000000000000000000000000000000000000000000180000303000058000080000000000000000000000000000001000000100000000000000000000000000000000000000000000000000000000000006040000000000000000000000000000000000060000020908c230005f81020000800580019840000 W) (h : Does W o s) :
    Does W o (State.putDefect s x1 x2) := by
  have up := hW.up
  have ub := hW.ub
  unfold State.putDefect
  repeat' first
    | with_reducible assumption
    | exact up _ (by decide)
    | exact ub _ (by decide)
    | exact fun _ => ub _ (by decide)
    | intro _
    | with_reducible (apply State.raise_does)
    | with_reducible (apply State.showDefect_does)
    | with_reducible (apply State.carrierBack_does)
    | with_reducible (apply State.losePlace_does)
    | with_reducible (apply State.groupStop_does)
    | with_reducible (apply Does.ite)
    | (fail_if_no_progress extract_lets)
    | (fail_if_no_progress (with_reducible refine Does.mk' ?_ (by with_reducible rfl)))
    | split
    | dsimp only

theorem State.suppress_does {W : Nat} {o : State} {s : State} (x1 : Defect) (hW : Within 0x1000000000000000000000000000000000000000000000000000000000000000000000000000000000000000000000000000000000000000000000000000000000000000000000000000000000000000000000000000000000000000000000000000000000000000000000000000000020001c01000000000000000000000 W) (h : Does W o s) :
    Does W o (State.suppress s x1) := by
  have up := hW.up
  have ub := hW.ub
  unfold State.suppress
  repeat' first
    | with_reducible assumption
    | exact up _ (by decide)
    | exact ub _ (by decide)
    | exact fun _ => ub _ (by decide)
    | intro _
    | with_reducible (apply State.showDefect_does)
    | with_reducible (apply State.mapSub_does)
    | with_reducible (apply Does.ite)
    | (fail_if_no_progress extract_lets)
    | (fail_if_no_progress (with_reducible refine Does.mk' ?_ (by with_reducible rfl)))
    | split
    | dsimp only

theorem State.judgeDefect_does {W : Nat} {o : State} {s : State} (x1 : Defect) (hW : Within 0x2885fe0000000000000000000000000000000000000000000000000000180000303000058000080000000000000000000000000000001000000100000000000000000000000000000000000000000000000000000000000006040000000000000000000000000000000000060000020908c230005f81020000800580019840000 W) (h : Does W o s) :
    Does W o (State.judgeDefect s x1) := by
  have up := hW.up
  have ub := hW.ub
  unfold State.judgeDefect
  repeat' first
    | with_reducible assumption
    | exact up _ (by decide)
    | exact ub _ (by decide)
    | exact fun _ => ub _ (by decide)
    | intro _
    | with_reducible (apply State.putDefect_does)
    | with_reducible (apply Does.ite)
    | (fail_if_no_progress extract_lets)
    | (fail_if_no_progress (with_reducible refine Does.mk' ?_ (by with_reducible rfl)))

theorem State.judgeSub_does {W : Nat} {o : State} {s : State} (x1 : Nat) (x2 : Nat) (hW : Within 0x2885fe0000000000000000000000000000000000000000000000000000180000303000058000080000000000000000000000000000001000000100000000000000000000000000000000000000000000000000000000000006040000000000000000000000000000000000060000020908c230005f81020000800580019840000 W) (h : Does W o s) :
    Does W o (State.judgeSub s x1 x2) := by
  have up := hW.up
  have ub := hW.ub
  unfold State.judgeSub
  repeat' first
    | with_reducible assumption
    | exact up _ (by decide)
    | exact ub _ (by decide)
    | exact fun _ => ub _ (by decide)
    | intro _
    | with_reducible (apply State.suppress_does)
    | with_reducible (apply State.judgeDefect_does)
    | with_reducible (apply Does.ite)
    | (fail_if_no_progress extract_lets)
    | (fail_if_no_progress (with_reducible refine Does.mk' ?_ (by with_reducible rfl)))

theorem State.judgeTim_does {W : Nat} {o : State} {s : State} (x1 : Nat) (hW : Within 0x2885fe0000000000000000000000000000000000000000000000000000180000303000058000080000000000000000000000000000001000000100000000000000000000000000000000000000000000000000000000000006040000000000000000000000000000000000060000020908c230005f81020000800580019840000 W) (h : Does W o s) :
    Does W o (State.judgeTim s x1) := by
  have up := hW.up
  have ub := hW.ub
  unfold State.judgeTim
  repeat' first
    | with_reducible assumption
    | exact up _ (by decide)
    | exact ub _ (by decide)
    | exact fun _ => ub _ (by decide)
    | intro _
    | with_reducible (apply State.suppress_does)
    | with_reducible (apply State.putDefect_does)
    | with_reducible (apply Does.ite)
    | (fail_if_no_progress extract_lets)
    | (fail_if_no_progress (with_reducible refine Does.mk' ?_ (by with_reducible rfl)))

theorem State.showDefects_does {W : Nat} {o : State} {s : State} (hW : Within 0x1000000000000000000000 W) (h : Does W o s) :
    Does W o (State.showDefects s) := by
  have up := hW.up
  have ub := hW.ub
  unfold State.showDefects
  repeat' first
    | with_reducible assumption
    | exact up _ (by decide)
    | exact ub _ (by decide)
    | exact fun _ => ub _ (by decide)
    | intro _
    | with_reducible (apply State.wr_does)
    | with_reducible (apply Does.ite)
    | (fail_if_no_progress extract_lets)
    | (fail_if_no_progress (with_reducible refine Does.mk' ?_ (by with_reducible rfl)))

theorem State.evalDefects_does {W : Nat} {o : State} {s : State} (hW : Within 0x2885fe0000000000000000000000000000000000000000000000000000180000303000058000080000000000000000000000000000001000000100000000000000000000000000000000000000000000000000000000000006040000000000000000000000000000000000060000020908c230005f81020000800580019840000 W) (h : Does W o s) :
    Does W o (State.evalDefects s) := by
  have up := hW.up
  have ub := hW.ub
  have b1008 := ub 1008 (by decide)
  unfold State.evalDefects
  repeat' first
    | with_reducible assumption
    | exact up _ (by decide)
    | exact ub _ (by decide)
    | exact fun _ => ub _ (by decide)
    | intro _
    | with_reducible (apply State.judgeDefect_does)
    | with_reducible (apply State.judgeSub_does)
    | with_reducible (apply State.judgeTim_does)
    | with_reducible (apply State.showDefects_does)
    | with_reducible (apply Does.ite)
    | with_reducible (apply Does.foldl)
    | (fail_if_no_progress extract_lets)
    | (fail_if_no_progress (with_reducible refine Does.mk' ?_ (by with_reducible rfl)))
    | split
    | dsimp +zetaDelta only

theorem defectConditionMet_does {W : Nat} {o : State} (x0 : Defect) (x1 : Bool) (x2 : Nat) (x3 : Bool) {s : State} (hW : Within 0x1800000000000000000000000000000000000000000000000000000000000000000000000000000000000000000000000000000000000000000000000000000000000000000000000000000000000000000000000000000000000000000000000000000000000000000000000000000000000000000000000000000200000 W) (h : Does W o s) :
    Does W o (defectConditionMet x0 x1 x2 x3 s) := by
  have up := hW.up
  have ub := hW.ub
  unfold defectConditionMet
  repeat' first
    | with_reducible assumption
    | exact up _ (by decide)
    | exact ub _ (by decide)
    | exact fun _ => ub _ (by decide)
    | intro _
    | with_reducible (apply State.meet_does)
    | with_reducible (apply State.advance_does)
    | with_reducible (apply Does.ite)
    | (fail_if_no_progress extract_lets)
    | (fail_if_no_progress (with_reducible refine Does.mk' ?_ (by with_reducible rfl)))
    | split
    | dsimp only

end Sys2Proof.Machine
end

