-- ==== Sys2Proof/Laws/DSerOps.lean ====
section
/-! SUPPORT. What the operations of SerOps can change. -/

set_option linter.unreachableTactic false
set_option linter.unusedTactic false
set_option linter.unusedVariables false
set_option Elab.async false

namespace Sys2Proof.Machine

theorem State.setSer_does {W : Nat} {o : State} {s : State} (x1 : Nat) (x2 : SerLane) (hW : Within 0x80000000000000000000000000000000000000000000000000000000000000000000000000000000000000000000000000000000000000000000000000000000000000000000000000000000000000000000000000000000000000000000000000000000000000000000000000000000000000000000000000000000000000 W) (h : Does W o s) :
    Does W o (State.setSer s x1 x2) := by
  have up := hW.up
  have ub := hW.ub
  have b1015 := ub 1015 (by decide)
  unfold State.setSer
  repeat' first
    | with_reducible assumption
    | exact up _ (by decide)
    | exact ub _ (by decide)
    | exact fun _ => ub _ (by decide)
    | intro _
    | with_reducible (apply Does.ite)
    | (fail_if_no_progress extract_lets)
    | (fail_if_no_progress (with_reducible refine Does.mk' ?_ (by with_reducible rfl)))

theorem State.lfSignal_does {W : Nat} {o : State} {s : State} (x1 : Nat) (x2 : Bool) (hW : Within 0x20000000000000000000000000000000000000000000000000000000000000000000000000000000000000000000000000000000000000000000000000000000000000000000000000000000000000000000000000000000000000000000000000000000002000000000000000000000000000000000000000000000000000000 W) (h : Does W o s) :
    Does W o (State.lfSignal s x1 x2) := by
  have up := hW.up
  have ub := hW.ub
  unfold State.lfSignal
  repeat' first
    | with_reducible assumption
    | exact up _ (by decide)
    | exact ub _ (by decide)
    | exact fun _ => ub _ (by decide)
    | intro _
    | with_reducible (apply State.emit_does)
    | with_reducible (apply State.flag_does)
    | with_reducible (apply Does.ite)
    | (fail_if_no_progress extract_lets)
    | (fail_if_no_progress (with_reducible refine Does.mk' ?_ (by with_reducible rfl)))

theorem State.linkEval_does {W : Nat} {o : State} {s : State} (x1 : Nat) (hW : Within 0x20080200000000000000000000000000000000000000000000000000001800003030000000000000000000000000000000000000000010000001000000000000000000000000000000000000000000000000000000000000000000000000000000000000040400800000000000000000000000000000000000000000000000000 W) (h : Does W o s) :
    Does W o (State.linkEval s x1) := by
  have up := hW.up
  have ub := hW.ub
  unfold State.linkEval
  repeat' first
    | with_reducible assumption
    | exact up _ (by decide)
    | exact ub _ (by decide)
    | exact fun _ => ub _ (by decide)
    | intro _
    | with_reducible (apply State.setPort_does)
    | with_reducible (apply State.portRaise_does)
    | with_reducible (apply State.wr_does)
    | with_reducible (apply Does.ite)
    | (fail_if_no_progress extract_lets)
    | (fail_if_no_progress (with_reducible refine Does.mk' ?_ (by with_reducible rfl)))

theorem State.portLanesChanged_does {W : Nat} {o : State} {s : State} (x1 : Nat) (hW : Within 0x20080200000000000000000000000000000000000000000000000000001800003030000000000000000000000000000000000000000010000001000000000000000000000000000000000000000000000000000000000000000000000000000000000000042c00800000000000000000000000000000000000000000000000000 W) (h : Does W o s) :
    Does W o (State.portLanesChanged s x1) := by
  have up := hW.up
  have ub := hW.ub
  unfold State.portLanesChanged
  repeat' first
    | with_reducible assumption
    | exact up _ (by decide)
    | exact ub _ (by decide)
    | exact fun _ => ub _ (by decide)
    | intro _
    | with_reducible (apply State.lfSignal_does)
    | with_reducible (apply State.wr_does)
    | with_reducible (apply State.linkEval_does)
    | with_reducible (apply Does.ite)
    | (fail_if_no_progress extract_lets)
    | (fail_if_no_progress (with_reducible refine Does.mk' ?_ (by with_reducible rfl)))

theorem State.showRing_does {W : Nat} {o : State} {s : State} (hW : Within 0x80000000000000000000000000000000000000000000000000000000000000000000000000000000000000000000000000000000000000000000000000000000000000000000000000000000000000000000000000000 W) (h : Does W o s) :
    Does W o (State.showRing s) := by
  have up := hW.up
  have ub := hW.ub
  unfold State.showRing
  repeat' first
    | with_reducible assumption
    | exact up _ (by decide)
    | exact ub _ (by decide)
    | exact fun _ => ub _ (by decide)
    | intro _
    | with_reducible (apply State.flag_does)
    | with_reducible (apply Does.ite)
    | (fail_if_no_progress extract_lets)
    | (fail_if_no_progress (with_reducible refine Does.mk' ?_ (by with_reducible rfl)))

theorem State.showLtSource_does {W : Nat} {o : State} {s : State} (hW : Within 0x20000200000000000000000000000000000000000000000000000000001800003030000000000000000600000000000000000000000010000001000000000000000000000000000000000000000000000000000000000000000000000000000000000000000000000000000000000000000000000000000000000000000000000 W) (h : Does W o s) :
    Does W o (State.showLtSource s) := by
  have up := hW.up
  have ub := hW.ub
  unfold State.showLtSource
  repeat' first
    | with_reducible assumption
    | exact up _ (by decide)
    | exact ub _ (by decide)
    | exact fun _ => ub _ (by decide)
    | intro _
    | with_reducible (apply State.raiseIf_does)
    | with_reducible (apply State.wr_does)
    | with_reducible (apply Does.ite)
    | (fail_if_no_progress extract_lets)
    | (fail_if_no_progress (with_reducible refine Does.mk' ?_ (by with_reducible rfl)))
    | split
    | dsimp only

theorem State.losePort_does {W : Nat} {o : State} {s : State} (x1 : Nat) (hW : Within 0x200000000000000000000000000000000000000000000000000000000000000000000000000200000000000000000000000000000000000000000000000000000000000000000000000000000000000000000000000000000000000000000000000000000000000000000000000000000000000000000000000000000000000 W) (h : Does W o s) :
    Does W o (State.losePort s x1) := by
  have up := hW.up
  have ub := hW.ub
  have b1017 := ub 1017 (by decide)
  unfold State.losePort
  repeat' first
    | with_reducible assumption
    | exact up _ (by decide)
    | exact ub _ (by decide)
    | exact fun _ => ub _ (by decide)
    | intro _
    | with_reducible (apply State.inc_does)
    | with_reducible (apply Does.ite)
    | (fail_if_no_progress extract_lets)
    | (fail_if_no_progress (with_reducible refine Does.mk' ?_ (by with_reducible rfl)))

theorem State.fkToDown_does {W : Nat} {o : State} {s : State} (x1 : Nat) (hW : Within 0x20200200000000000000000000000000000000000000000000000000001800003030000000000302000680000000000000000000000010000001000000000000000000000000000000000000000000000000000000000000000000000000000000000000000000000000000000000000000000000000000000000000000000000 W) (h : Does W o s) :
    Does W o (State.fkToDown s x1) := by
  have up := hW.up
  have ub := hW.ub
  unfold State.fkToDown
  repeat' first
    | with_reducible assumption
    | exact up _ (by decide)
    | exact ub _ (by decide)
    | exact fun _ => ub _ (by decide)
    | intro _
    | with_reducible (apply State.showLtSource_does)
    | with_reducible (apply State.losePort_does)
    | with_reducible (apply State.showRing_does)
    | with_reducible (apply State.wr_does)
    | with_reducible (apply State.raise_does)
    | with_reducible (apply State.inc_does)
    | with_reducible (apply Does.ite)
    | (fail_if_no_progress extract_lets)
    | (fail_if_no_progress (with_reducible refine Does.mk' ?_ (by with_reducible rfl)))

theorem State.laneChanged_does {W : Nat} {o : State} {s : State} (x1 : Nat) (hW : Within 0x20280200000000000000000000000000000000000000000000000000001800003030000000000302000680000000000000000000000010000001000000000000000000000000000000000000000000000000000000000000000000000000000000000000042c00800000000000000000000000000000000000000000000000000 W) (h : Does W o s) :
    Does W o (State.laneChanged s x1) := by
  have up := hW.up
  have ub := hW.ub
  unfold State.laneChanged
  repeat' first
    | with_reducible assumption
    | exact up _ (by decide)
    | exact ub _ (by decide)
    | exact fun _ => ub _ (by decide)
    | intro _
    | with_reducible (apply State.portLanesChanged_does)
    | with_reducible (apply State.fkToDown_does)
    | with_reducible (apply Does.ite)
    | (fail_if_no_progress extract_lets)
    | (fail_if_no_progress (with_reducible refine Does.mk' ?_ (by with_reducible rfl)))
    | split
    | dsimp only

theorem State.sendPattern_does {W : Nat} {o : State} {s : State} (x1 : Nat) (hW : Within 0x20000000000000000000000000000000000000000000000000000000000000000000000000000000000000000000000000000000000000000000000000000000000000000000000000000000000000000000000000000000000000000000000000000000000000000000000000000000000000000000000000000000000000000 W) (h : Does W o s) :
    Does W o (State.sendPattern s x1) := by
  have up := hW.up
  have ub := hW.ub
  unfold State.sendPattern
  repeat' first
    | with_reducible assumption
    | exact up _ (by decide)
    | exact ub _ (by decide)
    | exact fun _ => ub _ (by decide)
    | intro _
    | with_reducible (apply State.emit_does)
    | with_reducible (apply Does.ite)
    | with_reducible (apply Does.foldl)
    | with_reducible (apply Does.foldl_snd)
    | with_reducible (apply Does.foldl_snd2)
    | with_reducible (apply Does.foldl_fst)
    | (fail_if_no_progress extract_lets)
    | (fail_if_no_progress (with_reducible refine Does.mk' ?_ (by with_reducible rfl)))
    | (with_reducible (refine Does.snd (by assumption) ?_))
    | (with_reducible (refine Does.snd2 (by assumption) ?_))
    | (with_reducible (refine Does.fst (by assumption) ?_))
    | split
    | dsimp only
    | dsimp +zetaDelta only

theorem State.laneSync_does {W : Nat} {o : State} {s : State} (x1 : Nat) (hW : Within 0x20a80200000000000000000000000000000000000000000000000000001800003030000f80000302000680000002c00000000000000010000001000000000000000000000000000000000000000000000000000000000000000000000000000000000000042c00800000000000000000000000000000000000000000000000000 W) (h : Does W o s) :
    Does W o (State.laneSync s x1) := by
  have up := hW.up
  have ub := hW.ub
  unfold State.laneSync
  repeat' first
    | with_reducible assumption
    | exact up _ (by decide)
    | exact ub _ (by decide)
    | exact fun _ => ub _ (by decide)
    | intro _
    | with_reducible (apply State.flag_does)
    | with_reducible (apply State.showPower_does)
    | with_reducible (apply State.wr_does)
    | with_reducible (apply State.giveLeave_does)
    | with_reducible (apply State.setSer_does)
    | with_reducible (apply State.laneChanged_does)
    | with_reducible (apply Does.ite)
    | (fail_if_no_progress extract_lets)
    | (fail_if_no_progress (with_reducible refine Does.mk' ?_ (by with_reducible rfl)))

theorem State.lanesSync_does {W : Nat} {o : State} {s : State} (x1 : List Nat) (hW : Within 0x20a80200000000000000000000000000000000000000000000000000001800003030000f80000302000680000002c00000000000000010000001000000000000000000000000000000000000000000000000000000000000000000000000000000000000042c00800000000000000000000000000000000000000000000000000 W) (h : Does W o s) :
    Does W o (State.lanesSync s x1) := by
  have up := hW.up
  have ub := hW.ub
  unfold State.lanesSync
  repeat' first
    | with_reducible assumption
    | exact up _ (by decide)
    | exact ub _ (by decide)
    | exact fun _ => ub _ (by decide)
    | intro _
    | with_reducible (apply forEach_does)
    | with_reducible (apply State.laneSync_does)
    | with_reducible (apply Does.ite)
    | (fail_if_no_progress extract_lets)
    | (fail_if_no_progress (with_reducible refine Does.mk' ?_ (by with_reducible rfl)))

end Sys2Proof.Machine
end

