-- ==== Sys2Proof/Laws/DFkl.lean ====
section
/-! SUPPORT. What the operations of Fkl can change. -/

set_option linter.unreachableTactic false
set_option linter.unusedTactic false
set_option linter.unusedVariables false
set_option Elab.async false

namespace Sys2Proof.Machine

theorem fkPortAlign_does {W : Nat} {o : State} (x0 : Nat) {s : State} (hW : Within 0x2000000000000000000000000000000000000000000000000000000000000000000000000000000000000000000000000000000000000000000000000000000000000000000000000000000000000000000000000000000000 W) (h : Does W o s) :
    Does W o (fkPortAlign x0 s) := by
  have up := hW.up
  have ub := hW.ub
  unfold fkPortAlign
  repeat' first
    | with_reducible assumption
    | exact up _ (by decide)
    | exact ub _ (by decide)
    | exact fun _ => ub _ (by decide)
    | intro _
    | with_reducible (unfold fkEn)
    | with_reducible (apply State.wr_does)
    | with_reducible (apply Does.ite)
    | (fail_if_no_progress extract_lets)
    | (fail_if_no_progress (with_reducible refine Does.mk' ?_ (by with_reducible rfl)))

theorem State.showRelay_does {W : Nat} {o : State} {s : State} (hW : Within 0x201000000000000000000000000000000000000000000000000000000000000000000000000000001800000000000000000000000000000000000000000000000000000000000000000000000000000000000000000000000000000000000000000000000000000000000000000000000000000000000000000000000000000 W) (h : Does W o s) :
    Does W o (State.showRelay s) := by
  have up := hW.up
  have ub := hW.ub
  have b1017 := ub 1017 (by decide)
  unfold State.showRelay
  repeat' first
    | with_reducible assumption
    | exact up _ (by decide)
    | exact ub _ (by decide)
    | exact fun _ => ub _ (by decide)
    | intro _
    | with_reducible (apply State.wr_does)
    | with_reducible (apply State.flag_does)
    | with_reducible (apply State.losePlace_does)
    | with_reducible (apply Does.ite)
    | (fail_if_no_progress extract_lets)
    | (fail_if_no_progress (with_reducible refine Does.mk' ?_ (by with_reducible rfl)))

theorem fkPortDown_does {W : Nat} {o : State} (x0 : Nat) {s : State} (hW : Within 0x20201200000000000000000000000000000000000000000000000000001800003030000000000302001e80000000000000000000000010000001000000000000000000000000000000000000000000000000000000000000000000000000000000000000000000000000000000000000000000000000000000000000000000000 W) (h : Does W o s) :
    Does W o (fkPortDown x0 s) := by
  have up := hW.up
  have ub := hW.ub
  unfold fkPortDown
  repeat' first
    | with_reducible assumption
    | exact up _ (by decide)
    | exact ub _ (by decide)
    | exact fun _ => ub _ (by decide)
    | intro _
    | with_reducible (apply State.showRelay_does)
    | with_reducible (apply State.fkToDown_does)
    | with_reducible (apply Does.ite)
    | (fail_if_no_progress extract_lets)
    | (fail_if_no_progress (with_reducible refine Does.mk' ?_ (by with_reducible rfl)))

theorem State.cellOn_does {W : Nat} {o : State} {s : State} (x1 : Cell) (hW : Within 0x20000200000000000000000000000000000000000000000000000000001800003030000000000000000000000000000000000000000010000001000000000000000000000000000000000000000000000000000000000000000000000000000000000000000000000000000000000000000000000000000000000000000000000 W) (h : Does W o s) :
    Does W o (State.cellOn s x1) := by
  have up := hW.up
  have ub := hW.ub
  unfold State.cellOn
  repeat' first
    | with_reducible assumption
    | exact up _ (by decide)
    | exact ub _ (by decide)
    | exact fun _ => ub _ (by decide)
    | intro _
    | with_reducible (apply State.perf_does)
    | with_reducible (apply State.emit_does)
    | with_reducible (apply Does.ite)
    | (fail_if_no_progress extract_lets)
    | (fail_if_no_progress (with_reducible refine Does.mk' ?_ (by with_reducible rfl)))

theorem badCellRx_does {W : Nat} {o : State} (x0 : Cell) {s : State} (hW : Within 0x20000000000000000000000000000000000000000000000000000000000000000000000000000000000000000000000000000000000000000000000000000000000000000000000000000000000000000000000000000000000 W) (h : Does W o s) :
    Does W o (badCellRx x0 s) := by
  have up := hW.up
  have ub := hW.ub
  unfold badCellRx
  repeat' first
    | with_reducible assumption
    | exact up _ (by decide)
    | exact ub _ (by decide)
    | exact fun _ => ub _ (by decide)
    | intro _
    | with_reducible (apply State.inc_does)
    | with_reducible (apply Does.ite)
    | (fail_if_no_progress extract_lets)
    | (fail_if_no_progress (with_reducible refine Does.mk' ?_ (by with_reducible rfl)))

theorem State.takeCell_does {W : Nat} {o : State} {s : State} (x1 : Cell) (x2 : Nat) (f3 : State → State) (hW : Within 0x200002000000000000000000000000000000000000000000000000000018000030300000000000e0100000000000000000000000000010000001000000000000000000000000000000000000000000000000000000000000000000000000000000000000000000000000000000000000000000000000000000000000000000000 W) (h : Does W o s) (hf3 : ∀ y0, Does W o y0 → Does W o (f3 y0)) :
    Does W o (State.takeCell s x1 x2 f3) := by
  have up := hW.up
  have ub := hW.ub
  unfold State.takeCell
  repeat' first
    | with_reducible assumption
    | exact up _ (by decide)
    | exact ub _ (by decide)
    | exact fun _ => ub _ (by decide)
    | intro _
    | with_reducible (apply badCellRx_does)
    | with_reducible (apply State.perf_does)
    | with_reducible (apply State.inc64_does)
    | with_reducible (apply State.inc_does)
    | with_reducible (apply State.cellOn_does)
    | with_reducible (apply State.when_does)
    | with_reducible (apply hf3)
    | with_reducible (apply Does.ite)
    | (fail_if_no_progress extract_lets)
    | (fail_if_no_progress (with_reducible refine Does.mk' ?_ (by with_reducible rfl)))

theorem idleCellRx_does {W : Nat} {o : State} (x0 : Cell) {s : State} (hW : Within 0x200002000000000000000000000000000000000000000000000000000018000030300000000000e0000000000000000000000000000010000001000000000000000000000000000000000000000000000000000000000000000000000000000000000000000000000000000000000000000000000000000000000000000000000 W) (h : Does W o s) :
    Does W o (idleCellRx x0 s) := by
  have up := hW.up
  have ub := hW.ub
  unfold idleCellRx
  repeat' first
    | with_reducible assumption
    | exact up _ (by decide)
    | exact ub _ (by decide)
    | exact fun _ => ub _ (by decide)
    | intro _
    | with_reducible (apply badCellRx_does)
    | with_reducible (apply State.perf_does)
    | with_reducible (apply State.inc64_does)
    | with_reducible (apply Does.ite)
    | (fail_if_no_progress extract_lets)
    | (fail_if_no_progress (with_reducible refine Does.mk' ?_ (by with_reducible rfl)))

theorem State.piece_does {W : Nat} {o : State} {s : State} (x1 : Cell) (f2 : List Nat → Bool → State → State) (hW : Within 0x200000000000000000000000000000000000000000000000000000000000000000000000000200000000000000000000000000000000000000000000000000000000000000000000000000000000000000000000000000000000000000000000000000000000000000000000000000000000000000000000000000000000000 W) (h : Does W o s) (hf2 : ∀ y0 y1 y2, Does W o y2 → Does W o (f2 y0 y1 y2)) :
    Does W o (State.piece s x1 f2) := by
  have up := hW.up
  have ub := hW.ub
  have b1017 := ub 1017 (by decide)
  unfold State.piece
  repeat' first
    | with_reducible assumption
    | exact up _ (by decide)
    | exact ub _ (by decide)
    | exact fun _ => ub _ (by decide)
    | intro _
    | with_reducible (apply State.inc_does)
    | with_reducible (apply hf2)
    | with_reducible (apply Does.ite)
    | (fail_if_no_progress extract_lets)
    | (fail_if_no_progress (with_reducible refine Does.mk' ?_ (by with_reducible rfl)))
    | split
    | dsimp only

theorem unitCellRx_does {W : Nat} {o : State} (x0 : Cell) {s : State} (hW : Within 0x202802000000000000000000000000000000000000000000000000000018000030300000000002e0100000000000000000000000000010000001000000000000000000000000000000000000000000000000000000000000000000000000000000000000000000000000000000000000000000000000000000000000000000000 W) (h : Does W o s) :
    Does W o (unitCellRx x0 s) := by
  have up := hW.up
  have ub := hW.ub
  unfold unitCellRx
  repeat' first
    | with_reducible assumption
    | exact up _ (by decide)
    | exact ub _ (by decide)
    | exact fun _ => ub _ (by decide)
    | intro _
    | with_reducible (apply State.takeCell_does)
    | with_reducible (apply State.piece_does)
    | with_reducible (apply State.toParser_does)
    | with_reducible (apply Does.ite)
    | (fail_if_no_progress extract_lets)
    | (fail_if_no_progress (with_reducible refine Does.mk' ?_ (by with_reducible rfl)))

theorem State.remoteBlock_does {W : Nat} {o : State} {s : State} (x1 : Nat) (x2 : Nat) (x3 : Nat) (x4 : Nat) (hW : Within 0x1000000000000000000000000000000000000000000000000000000000000000000000000000000000000000000000000000000000000000000000000000000000000000000000000000000000000000000000000000000000000000000000000000000000000000000000000000000000000000000000000000000000000 W) (h : Does W o s) :
    Does W o (State.remoteBlock s x1 x2 x3 x4) := by
  have up := hW.up
  have ub := hW.ub
  have b1008 := ub 1008 (by decide)
  unfold State.remoteBlock
  repeat' first
    | with_reducible assumption
    | exact up _ (by decide)
    | exact ub _ (by decide)
    | exact fun _ => ub _ (by decide)
    | intro _
    | with_reducible (apply Does.ite)
    | (fail_if_no_progress extract_lets)
    | (fail_if_no_progress (with_reducible refine Does.mk' ?_ (by with_reducible rfl)))

theorem groupCellRx_does {W : Nat} {o : State} (x0 : Cell) {s : State} (hW : Within 0x202012000000000000000000000000000000000000000000000000000018000030300000000002e0100000000000000000000000000010000001000000000000000000000000000000000000000000000000000000000000000000000000000000000000000000000000000000000000000000000000000000000000000000000 W) (h : Does W o s) :
    Does W o (groupCellRx x0 s) := by
  have up := hW.up
  have ub := hW.ub
  unfold groupCellRx
  repeat' first
    | with_reducible assumption
    | exact up _ (by decide)
    | exact ub _ (by decide)
    | exact fun _ => ub _ (by decide)
    | intro _
    | with_reducible (apply State.takeCell_does)
    | with_reducible (apply State.piece_does)
    | with_reducible (apply State.dropBlocks_does)
    | with_reducible (apply State.remoteBlock_does)
    | with_reducible (apply State.takeBlock_does)
    | with_reducible (apply Does.ite)
    | (fail_if_no_progress extract_lets)
    | (fail_if_no_progress (with_reducible refine Does.mk' ?_ (by with_reducible rfl)))

theorem ctrlCellRx_does {W : Nat} {o : State} (x0 : Cell) {s : State} (hW : Within 0x202012000000000000000000000000000000000000000000000000000018000030300000000002e0100000000000000000000000000010000001000000000000000000000000000000000000000000000000000000000000000000000000000000000000000000000000000000000000000000000000000000000000000000000 W) (h : Does W o s) :
    Does W o (ctrlCellRx x0 s) := by
  have up := hW.up
  have ub := hW.ub
  have b1017 := ub 1017 (by decide)
  unfold ctrlCellRx
  repeat' first
    | with_reducible assumption
    | exact up _ (by decide)
    | exact ub _ (by decide)
    | exact fun _ => ub _ (by decide)
    | intro _
    | with_reducible (apply State.takeCell_does)
    | with_reducible (apply State.inc_does)
    | with_reducible (apply State.losePlace_does)
    | with_reducible (apply State.ctlOverhead_does)
    | with_reducible (apply State.firstUnit_does)
    | with_reducible (apply Does.ite)
    | (fail_if_no_progress extract_lets)
    | (fail_if_no_progress (with_reducible refine Does.mk' ?_ (by with_reducible rfl)))

theorem mgmtCellSend_does {W : Nat} {o : State} {s : State} (hW : Within 0x20200200000000000000000000000000000000000000000000000000001800003030000000000000000100000000000000000000000010000001000000000000000000000000000000000000000000000000000000000000000000000000000000000000000000000000000000000000000000000000000000000000000000000 W) (h : Does W o s) :
    Does W o (mgmtCellSend s) := by
  have up := hW.up
  have ub := hW.ub
  have b1017 := ub 1017 (by decide)
  unfold mgmtCellSend
  repeat' first
    | with_reducible assumption
    | exact up _ (by decide)
    | exact ub _ (by decide)
    | exact fun _ => ub _ (by decide)
    | intro _
    | with_reducible (apply forEach_does)
    | with_reducible (apply State.perf_does)
    | with_reducible (apply State.emit_does)
    | with_reducible (apply State.wr_does)
    | with_reducible (apply Does.ite)
    | (fail_if_no_progress extract_lets)
    | (fail_if_no_progress (with_reducible refine Does.mk' ?_ (by with_reducible rfl)))

theorem mboxGo_does {W : Nat} {o : State} {s : State} (hW : Within 0x100000000000000000000000000000000000000000000000000000000000000000000000000000000000000000000000000000000000000000000000000000000000000000000000000000000000000000000000000000 W) (h : Does W o s) :
    Does W o (mboxGo s) := by
  have up := hW.up
  have ub := hW.ub
  unfold mboxGo
  repeat' first
    | with_reducible assumption
    | exact up _ (by decide)
    | exact ub _ (by decide)
    | exact fun _ => ub _ (by decide)
    | intro _
    | with_reducible (apply State.wr_does)
    | with_reducible (apply Does.ite)
    | (fail_if_no_progress extract_lets)
    | (fail_if_no_progress (with_reducible refine Does.mk' ?_ (by with_reducible rfl)))

theorem State.showConflict_does {W : Nat} {o : State} {s : State} (hW : Within 0x20000200000000000000000000000000000000000000000000000000001800003030000000000000000040000000000000000000000010000001000000000000000000000000000000000000000000000000000000000000000000000000000000000000000000000000000000000000000000000000000000000000000000000 W) (h : Does W o s) :
    Does W o (State.showConflict s) := by
  have up := hW.up
  have ub := hW.ub
  unfold State.showConflict
  repeat' first
    | with_reducible assumption
    | exact up _ (by decide)
    | exact ub _ (by decide)
    | exact fun _ => ub _ (by decide)
    | intro _
    | with_reducible (apply State.raiseIf_does)
    | with_reducible (apply State.flag_does)
    | with_reducible (apply Does.ite)
    | (fail_if_no_progress extract_lets)
    | (fail_if_no_progress (with_reducible refine Does.mk' ?_ (by with_reducible rfl)))

theorem mgmtCellRx_does {W : Nat} {o : State} (x0 : Cell) (x1 : Mgmt) {s : State} (hW : Within 0x202012000000000000000000000000000000000000000000000000000018000030300000000000e710dec0000000000000000000000010000001000000000000000000000000000000000000000000000000000000000000000000000000000000000000000000000000000000000000000000000000000000000000000000000 W) (h : Does W o s) :
    Does W o (mgmtCellRx x0 x1 s) := by
  have up := hW.up
  have ub := hW.ub
  have b1017 := ub 1017 (by decide)
  unfold mgmtCellRx
  repeat' first
    | with_reducible assumption
    | exact up _ (by decide)
    | exact ub _ (by decide)
    | exact fun _ => ub _ (by decide)
    | intro _
    | with_reducible (apply State.takeCell_does)
    | with_reducible (apply State.raise_does)
    | with_reducible (apply State.wr_does)
    | with_reducible (apply State.showRelay_does)
    | with_reducible (apply State.showConflict_does)
    | with_reducible (apply State.showLtSource_does)
    | with_reducible (apply State.showRing_does)
    | with_reducible (apply Does.ite)
    | with_reducible (apply Does.foldl)
    | (fail_if_no_progress extract_lets)
    | (fail_if_no_progress (with_reducible refine Does.mk' ?_ (by with_reducible rfl)))
    | split
    | dsimp +zetaDelta only

theorem memberUnreachable_does {W : Nat} {o : State} (x0 : Nat) {s : State} (hW : Within 0x2020120000000000000000000000000000000000000000000000000000180000303000000000000000de00000000000000000000000010000001000000000000000000000000000000000000000000000000000000000000000000000000000000000000000000000000000000000000000000000000000000000000000000000 W) (h : Does W o s) :
    Does W o (memberUnreachable x0 s) := by
  have up := hW.up
  have ub := hW.ub
  have b1008 := ub 1008 (by decide)
  have b1017 := ub 1017 (by decide)
  unfold memberUnreachable
  repeat' first
    | with_reducible assumption
    | exact up _ (by decide)
    | exact ub _ (by decide)
    | exact fun _ => ub _ (by decide)
    | intro _
    | with_reducible (apply State.wr_does)
    | with_reducible (apply State.showRelay_does)
    | with_reducible (apply State.showLtSource_does)
    | with_reducible (apply State.raise_does)
    | with_reducible (apply Does.ite)
    | (fail_if_no_progress extract_lets)
    | (fail_if_no_progress (with_reducible refine Does.mk' ?_ (by with_reducible rfl)))

theorem State.actStackMap_does {W : Nat} {o : State} {s : State} (x1 : Bool) (x2 : Msg) (hW : Within 0x20006200000000000000000000000000000000000000000000000000001800003030000000000000030000000000000000000000000010000001000000000000000000000000000000000000000000000000000000000000000000000000000000000000000000000000000000100000000000000000000000000000000000000 W) (h : Does W o s) :
    Does W o (State.actStackMap s x1 x2) := by
  have up := hW.up
  have ub := hW.ub
  unfold State.actStackMap
  repeat' first
    | with_reducible assumption
    | exact up _ (by decide)
    | exact ub _ (by decide)
    | exact fun _ => ub _ (by decide)
    | intro _
    | with_reducible (apply State.wr_does)
    | with_reducible (apply State.ackKept_does)
    | with_reducible (apply State.raise_does)
    | with_reducible (apply Does.ite)
    | with_reducible (apply Does.foldl)
    | (fail_if_no_progress extract_lets)
    | (fail_if_no_progress (with_reducible refine Does.mk' ?_ (by with_reducible rfl)))
    | split
    | dsimp +zetaDelta only

theorem stackMap_does {W : Nat} {o : State} (x0 : Rec) {s : State} (hW : Within 0x2080720000000000000000000000000000000000000000000000000000180000303000001001000003000000000000000000000000001000000100000000000000000000000000000000000000000000000000000000000000000000000000000000000000000000000000000011e000000000000016000000000000000000000 W) (h : Does W o s) :
    Does W o (stackMap x0 s) := by
  have up := hW.up
  have ub := hW.ub
  unfold stackMap
  repeat' first
    | with_reducible assumption
    | exact up _ (by decide)
    | exact ub _ (by decide)
    | exact fun _ => ub _ (by decide)
    | intro _
    | with_reducible (apply State.message_does)
    | with_reducible (apply State.actStackMap_does)
    | with_reducible (apply Does.ite)
    | (fail_if_no_progress extract_lets)
    | (fail_if_no_progress (with_reducible refine Does.mk' ?_ (by with_reducible rfl)))

theorem State.setLink_does {W : Nat} {o : State} {s : State} (x1 : Nat) (x2 : LtLink) (hW : Within 0x200000000000000000000000000000000000000000000000000000000000000000000000000000000000000000000000000000000000000000000000000000000000000000000000000000000000000000000000000000000000000000000000000000000000000000000000000000000000000000000000000000000000000 W) (h : Does W o s) :
    Does W o (State.setLink s x1 x2) := by
  have up := hW.up
  have ub := hW.ub
  have b1017 := ub 1017 (by decide)
  unfold State.setLink
  repeat' first
    | with_reducible assumption
    | exact up _ (by decide)
    | exact ub _ (by decide)
    | exact fun _ => ub _ (by decide)
    | intro _
    | with_reducible (apply Does.ite)
    | (fail_if_no_progress extract_lets)
    | (fail_if_no_progress (with_reducible refine Does.mk' ?_ (by with_reducible rfl)))

theorem ltCellSend_does {W : Nat} {o : State} (x0 : Nat) {s : State} (hW : Within 0x20200a00000000000000000000000000000000000000000000000000001800003030000000000000000000000000000000000000000010000001000000000000000000000000000000000000000000000000000000000000000000000000000000000000000000000000000000000000000000000000000000000000000200000 W) (h : Does W o s) :
    Does W o (ltCellSend x0 s) := by
  have up := hW.up
  have ub := hW.ub
  have b1017 := ub 1017 (by decide)
  unfold ltCellSend
  repeat' first
    | with_reducible assumption
    | exact up _ (by decide)
    | exact ub _ (by decide)
    | exact fun _ => ub _ (by decide)
    | intro _
    | with_reducible (apply State.advance_does)
    | with_reducible (apply forEach_does)
    | with_reducible (apply State.sendCell_does)
    | with_reducible (apply State.setLink_does)
    | with_reducible (apply Does.ite)
    | (fail_if_no_progress extract_lets)
    | (fail_if_no_progress (with_reducible refine Does.mk' ?_ (by with_reducible rfl)))

theorem State.followLt_does {W : Nat} {o : State} {s : State} (x1 : Nat) (x2 : Int) (x3 : Option Int) (hW : Within 0x21ff7a20000000000000000000000000000000000000000000000000001800003030000000000000000020000000000000000000000010000001000000000000000000000000000000000000000000000000000000700000000000000000000000000000000000000000000000000000000000000000000000000000000040000 W) (h : Does W o s) :
    Does W o (State.followLt s x1 x2 x3) := by
  have up := hW.up
  have ub := hW.ub
  have b1007 := ub 1007 (by decide)
  have b1017 := ub 1017 (by decide)
  unfold State.followLt
  repeat' first
    | with_reducible assumption
    | exact up _ (by decide)
    | exact ub _ (by decide)
    | exact fun _ => ub _ (by decide)
    | intro _
    | with_reducible (apply State.wr_does)
    | with_reducible (apply State.ltUnlock_does)
    | with_reducible (apply State.moveLt_does)
    | with_reducible (apply State.setLtState_does)
    | with_reducible (apply Does.ite)
    | (fail_if_no_progress extract_lets)
    | (fail_if_no_progress (with_reducible refine Does.mk' ?_ (by with_reducible rfl)))
    | split
    | dsimp only

theorem ltCellRx_does {W : Nat} {o : State} (x0 : Cell) (x1 : Nat) {s : State} (hW : Within 0x21ff7a200000000000000000000000000000000000000000000000000018000030300000000000e8302060000000000000000000000010000001000000000000000000000000000000000000000000000000000000700000000000000000000000000000000000000000000000000000000000000000000000000000000240000 W) (h : Does W o s) :
    Does W o (ltCellRx x0 x1 s) := by
  have up := hW.up
  have ub := hW.ub
  unfold ltCellRx
  repeat' first
    | with_reducible assumption
    | exact up _ (by decide)
    | exact ub _ (by decide)
    | exact fun _ => ub _ (by decide)
    | intro _
    | with_reducible (apply State.takeCell_does)
    | with_reducible (apply State.advance_does)
    | with_reducible (apply State.setLink_does)
    | with_reducible (apply State.wrS_does)
    | with_reducible (apply State.showConflict_does)
    | with_reducible (apply State.inc_does)
    | with_reducible (apply State.followLt_does)
    | with_reducible (apply Does.ite)
    | (fail_if_no_progress extract_lets)
    | (fail_if_no_progress (with_reducible refine Does.mk' ?_ (by with_reducible rfl)))
    | split
    | dsimp only

theorem State.fkSlew_does {W : Nat} {o : State} {s : State} (hW : Within 0x21ff7a20000000000000000000000000000000000000000000000000001800003030000000000000000000000000000000000000000010000001000000000000000000000000000000000000000000000000000000700000000000000000000000000000000000000000000000000000000000000000000000000000000000000 W) (h : Does W o s) :
    Does W o (State.fkSlew s) := by
  have up := hW.up
  have ub := hW.ub
  have b1017 := ub 1017 (by decide)
  unfold State.fkSlew
  repeat' first
    | with_reducible assumption
    | exact up _ (by decide)
    | exact ub _ (by decide)
    | exact fun _ => ub _ (by decide)
    | intro _
    | with_reducible (apply State.moveLt_does)
    | with_reducible (apply Does.ite)
    | (fail_if_no_progress extract_lets)
    | (fail_if_no_progress (with_reducible refine Does.mk' ?_ (by with_reducible rfl)))

theorem masterLost_does {W : Nat} {o : State} {s : State} (hW : Within 0x28a5fe0000000000000000000000000000000000000000000000000000180000303000058000080040002000000000000000000000001000000100000000000000000000000000000000000000000000000000000000000006040000000000000000000000000000000000060000020908c210004380020000800580019840000 W) (h : Does W o s) :
    Does W o (masterLost s) := by
  have up := hW.up
  have ub := hW.ub
  have b1017 := ub 1017 (by decide)
  unfold masterLost
  repeat' first
    | with_reducible assumption
    | exact up _ (by decide)
    | exact ub _ (by decide)
    | exact fun _ => ub _ (by decide)
    | intro _
    | with_reducible (apply State.raise_does)
    | with_reducible (apply State.inc_does)
    | with_reducible (apply State.wr_does)
    | with_reducible (apply State.ltUnlock_does)
    | with_reducible (apply State.ltToFree_does)
    | with_reducible (apply Does.ite)
    | (fail_if_no_progress extract_lets)
    | (fail_if_no_progress (with_reducible refine Does.mk' ?_ (by with_reducible rfl)))

theorem State.roleApplied_does {W : Nat} {o : State} {s : State} (hW : Within 0x20201200000000000000000000000000000000000000000000000000001800003030000000000000001e60000000000000000000000010000001000000000000000000000000000000000000000000000000000000000000000000000000000000000000000000000000000000000000000000000000000000000000000000000 W) (h : Does W o s) :
    Does W o (State.roleApplied s) := by
  have up := hW.up
  have ub := hW.ub
  have b1017 := ub 1017 (by decide)
  unfold State.roleApplied
  repeat' first
    | with_reducible assumption
    | exact up _ (by decide)
    | exact ub _ (by decide)
    | exact fun _ => ub _ (by decide)
    | intro _
    | with_reducible (apply State.wr_does)
    | with_reducible (apply State.showRelay_does)
    | with_reducible (apply State.showLtSource_does)
    | with_reducible (apply State.showConflict_does)
    | with_reducible (apply Does.ite)
    | (fail_if_no_progress extract_lets)
    | (fail_if_no_progress (with_reducible refine Does.mk' ?_ (by with_reducible rfl)))

end Sys2Proof.Machine
end

