-- ==== Sys2Proof/Laws/DApply.lean ====
section
/-! SUPPORT. What the operations of Apply can change. -/

set_option linter.unreachableTactic false
set_option linter.unusedTactic false
set_option linter.unusedVariables false
set_option Elab.async false

namespace Sys2Proof.Machine

theorem State.applyReq_does {W : Nat} {o : State} {s : State} (x1 : Nat) (x2 : Nat) (hW : Within 0x3000000000000000000000000000000000000000000000000000000000000000000000000000000000000000000000000000000000000000000000000000000000000000000000000000000000000000000000000000000000000000000000000000000000000000000000000000000000000000000000000000000004e W) (h : Does W o s) :
    Does W o (State.applyReq s x1 x2) := by
  have up := hW.up
  have ub := hW.ub
  have b1000 := ub 1000 (by decide)
  have b1001 := ub 1001 (by decide)
  unfold State.applyReq
  repeat' first
    | with_reducible assumption
    | exact up _ (by decide)
    | exact ub _ (by decide)
    | exact fun _ => ub _ (by decide)
    | intro _
    | with_reducible (apply State.wr_does)
    | with_reducible (apply Does.ite)
    | (fail_if_no_progress extract_lets)
    | (fail_if_no_progress (with_reducible refine Does.mk' ?_ (by with_reducible rfl)))

theorem State.unseal_does {W : Nat} {o : State} {s : State} (x1 : Nat) (hW : Within 0x2000000000000000000000000000000000000000000000000000000000000000000000000000000000000000000000000000000000000000000000000000000000000000000000000000000000000000000000000000000000000000000000000000000000000000000000000000000000000000000000000000000000a W) (h : Does W o s) :
    Does W o (State.unseal s x1) := by
  have up := hW.up
  have ub := hW.ub
  have b1001 := ub 1001 (by decide)
  unfold State.unseal
  repeat' first
    | with_reducible assumption
    | exact up _ (by decide)
    | exact ub _ (by decide)
    | exact fun _ => ub _ (by decide)
    | intro _
    | with_reducible (apply State.wr_does)
    | with_reducible (apply Does.ite)
    | (fail_if_no_progress extract_lets)
    | (fail_if_no_progress (with_reducible refine Does.mk' ?_ (by with_reducible rfl)))

theorem State.applyCancel_does {W : Nat} {o : State} {s : State} (x1 : Nat) (hW : Within 0x8002000000000000000000000000000000000000000000000000000000000000000000000000000000000000000000000000000000000000000000000000000000000000000000000000000000000000000000000000000000000000000000000000000000000000000000000000000000000000000000000000000000000a W) (h : Does W o s) :
    Does W o (State.applyCancel s x1) := by
  have up := hW.up
  have ub := hW.ub
  unfold State.applyCancel
  repeat' first
    | with_reducible assumption
    | exact up _ (by decide)
    | exact ub _ (by decide)
    | exact fun _ => ub _ (by decide)
    | intro _
    | with_reducible (apply State.insertMarkers_does)
    | with_reducible (apply State.unseal_does)
    | with_reducible (apply Does.ite)
    | (fail_if_no_progress extract_lets)
    | (fail_if_no_progress (with_reducible refine Does.mk' ?_ (by with_reducible rfl)))
    | split
    | dsimp only

theorem State.applyField_does {W : Nat} {o : State} {s : State} (x1 : Shad) (hW : Within 0x2008020ffffffffffffffffffffffffffffffffffffffffffffffffffffffffffffffffffffffffffffffffffffffffffffffffffffffffffffffffffffffffffffffffffffffffffffffffffffffffffffffffffffffffffffffffffffffffffffffffffffffffffffffffffffffffffffffffffffffffffffffffffffffffff W) (h : Does W o s) :
    Does W o (State.applyField s x1) := by
  have up := hW.up
  have ub := hW.ub
  have full := hW.full (by decide)
  unfold State.applyField
  split
  · exact h
  · extract_lets i put
    have hp : ∀ t, Does W o t → Does W o (put t) := fun t ht => State.wr_does _ _ ht (full _)
    refine Does.ite (State.commitVer_does _ (up _ (by decide)) h) (Does.ite (State.repolice_does _ _ (up _ (by decide)) h hp) (Does.ite (State.reshape_does _ _ (up _ (by decide)) h hp) (hp _ h)))

theorem State.applyFields_does {W : Nat} {o : State} {s : State} (x1 : Nat) (x2 : Shad → Bool) (hW : Within 0x2028122ffffffffffffffffffffffffffffffffffffffffffffffffffffffffffffffffffffffffffffffffffffffffffffffffffffffffffffffffffffffffffffffffffffffffffffffffffffffffffffffffffffffffffffffffffffffffffffffffffffffffffffffffffffffffffffffffffffffffffffffffffffffffff W) (h : Does W o s) :
    Does W o (State.applyFields s x1 x2) := by
  have up := hW.up
  have ub := hW.ub
  have full := hW.full (by decide)
  have b1001 := ub 1001 (by decide)
  unfold State.applyFields
  repeat' first
    | with_reducible assumption
    | exact up _ (by decide)
    | exact ub _ (by decide)
    | exact fun _ => ub _ (by decide)
    | exact full _
    | intro _
    | with_reducible (apply forEach_does)
    | with_reducible (apply State.applyField_does)
    | with_reducible (apply State.when_does)
    | with_reducible (apply State.roleApplied_does)
    | with_reducible (apply Does.ite)
    | (fail_if_no_progress extract_lets)
    | (fail_if_no_progress (with_reducible refine Does.mk' ?_ (by with_reducible rfl)))
    | split
    | dsimp only

theorem State.releaseBody_does {W : Nat} {o : State} {s : State} (x1 : Nat) (hW : Within 0x2000022000000000000000000000000000000000000000000000000000180000303000000000000000000000000000000000000000001000000100000000000000000000000000000000000000000000000000000000000000000000000000000000000000000000000000000000000000000000000000000000000000000008a W) (h : Does W o s) :
    Does W o (State.release_ s x1) := by
  have up := hW.up
  have ub := hW.ub
  unfold State.release_
  repeat' first
    | with_reducible assumption
    | exact up _ (by decide)
    | exact ub _ (by decide)
    | exact fun _ => ub _ (by decide)
    | intro _
    | with_reducible (apply State.perf_does)
    | with_reducible (apply State.inc_does)
    | with_reducible (apply State.unseal_does)
    | with_reducible (apply Does.ite)
    | (fail_if_no_progress extract_lets)
    | (fail_if_no_progress (with_reducible refine Does.mk' ?_ (by with_reducible rfl)))
    | split
    | dsimp only

theorem State.takeSeal_does {W : Nat} {o : State} {s : State} (x1 : Nat) (hW : Within 0x2028122ffffffffffffffffffffffffffffffffffffffffffffffffffffffffffffffffffffffffffffffffffffffffffffffffffffffffffffffffffffffffffffffffffffffffffffffffffffffffffffffffffffffffffffffffffffffffffffffffffffffffffffffffffffffffffffffffffffffffffffffffffffffffff W) (h : Does W o s) :
    Does W o (State.takeSeal s x1) := by
  have up := hW.up
  have ub := hW.ub
  have full := hW.full (by decide)
  have b1001 := ub 1001 (by decide)
  unfold State.takeSeal
  repeat' first
    | with_reducible assumption
    | exact up _ (by decide)
    | exact ub _ (by decide)
    | exact fun _ => ub _ (by decide)
    | exact full _
    | intro _
    | with_reducible (apply State.applyFields_does)
    | with_reducible (apply Does.ite)
    | (fail_if_no_progress extract_lets)
    | (fail_if_no_progress (with_reducible refine Does.mk' ?_ (by with_reducible rfl)))

theorem State.pageEdge_does {W : Nat} {o : State} (x0 : List Nat) {s : State} (x2 : Nat) (hW : Within 0x2028122ffffffffffffffffffffffffffffffffffffffffffffffffffffffffffffffffffffffffffffffffffffffffffffffffffffffffffffffffffffffffffffffffffffffffffffffffffffffffffffffffffffffffffffffffffffffffffffffffffffffffffffffffffffffffffffffffffffffffffffffffffffffffff W) (h : Does W o s) :
    Does W o (State.pageEdge x0 s x2) := by
  have up := hW.up
  have ub := hW.ub
  have full := hW.full (by decide)
  unfold State.pageEdge
  repeat' first
    | with_reducible assumption
    | exact up _ (by decide)
    | exact ub _ (by decide)
    | exact fun _ => ub _ (by decide)
    | exact full _
    | intro _
    | with_reducible (apply State.takeSeal_does)
    | with_reducible (apply State.applyFields_does)
    | with_reducible (apply State.releaseBody_does)
    | with_reducible (apply Does.ite)
    | (fail_if_no_progress extract_lets)
    | (fail_if_no_progress (with_reducible refine Does.mk' ?_ (by with_reducible rfl)))
    | split
    | dsimp only

theorem State.applyEdge_does {W : Nat} {o : State} {s : State} (x1 : Nat) (hW : Within 0x2028122ffffffffffffffffffffffffffffffffffffffffffffffffffffffffffffffffffffffffffffffffffffffffffffffffffffffffffffffffffffffffffffffffffffffffffffffffffffffffffffffffffffffffffffffffffffffffffffffffffffffffffffffffffffffffffffffffffffffffffffffffffffffffff W) (h : Does W o s) :
    Does W o (State.applyEdge s x1) := by
  have up := hW.up
  have ub := hW.ub
  have full := hW.full (by decide)
  unfold State.applyEdge
  repeat' first
    | with_reducible assumption
    | exact up _ (by decide)
    | exact ub _ (by decide)
    | exact fun _ => ub _ (by decide)
    | exact full _
    | intro _
    | with_reducible (apply forEach_does)
    | with_reducible (apply State.pageEdge_does)
    | with_reducible (apply Does.ite)
    | (fail_if_no_progress extract_lets)
    | (fail_if_no_progress (with_reducible refine Does.mk' ?_ (by with_reducible rfl)))

theorem State.atLt_does {W : Nat} {o : State} {s : State} (hW : Within 0x20281a2ffffffffffffffffffffffffffffffffffffffffffffffffffffffffffffffffffffffffffffffffffffffffffffffffffffffffffffffffffffffffffffffffffffffffffffffffffffffffffffffffffffffffffffffffffffffffffffffffffffffffffffffffffffffffffffffffffffffffffffffffffffffffff W) (h : Does W o s) :
    Does W o (State.atLt s) := by
  have up := hW.up
  have ub := hW.ub
  have full := hW.full (by decide)
  have b1001 := ub 1001 (by decide)
  unfold State.atLt
  repeat' first
    | with_reducible assumption
    | exact up _ (by decide)
    | exact ub _ (by decide)
    | exact fun _ => ub _ (by decide)
    | exact full _
    | intro _
    | with_reducible (apply State.advance_does)
    | with_reducible (apply forEach_does)
    | with_reducible (apply State.releaseBody_does)
    | with_reducible (apply State.takeSeal_does)
    | with_reducible (apply Does.ite)
    | (fail_if_no_progress extract_lets)
    | (fail_if_no_progress (with_reducible refine Does.mk' ?_ (by with_reducible rfl)))
    | split
    | dsimp only

theorem State.resolveSeal_does {W : Nat} {o : State} {s : State} (x1 : Nat) (hW : Within 0x20000000000000000000000000000000000000000000000000000000000000000000000000000000000000000000000000000000000000000000000000000000000000000000000000000000000000000000000000000000000000000000000000000000000000000000000000000000000000000000000000000000040 W) (h : Does W o s) :
    Does W o (State.resolveSeal s x1) := by
  have up := hW.up
  have ub := hW.ub
  have b1001 := ub 1001 (by decide)
  unfold State.resolveSeal
  repeat' first
    | with_reducible assumption
    | exact up _ (by decide)
    | exact ub _ (by decide)
    | exact fun _ => ub _ (by decide)
    | intro _
    | with_reducible (apply State.wr_does)
    | with_reducible (apply Does.ite)
    | (fail_if_no_progress extract_lets)
    | (fail_if_no_progress (with_reducible refine Does.mk' ?_ (by with_reducible rfl)))
    | split
    | dsimp only

theorem State.reresolve_does {W : Nat} {o : State} {s : State} (hW : Within 0x20000000000000000000000000000000000000000000000000000000000000000000000000000000000000000000000000000000000000000000000000000000000000000000000000000000000000000000000000000000000000000000000000000000000000000000000000000000000000000000000000000000040 W) (h : Does W o s) :
    Does W o (State.reresolve s) := by
  have up := hW.up
  have ub := hW.ub
  unfold State.reresolve
  repeat' first
    | with_reducible assumption
    | exact up _ (by decide)
    | exact ub _ (by decide)
    | exact fun _ => ub _ (by decide)
    | intro _
    | with_reducible (apply forEach_does)
    | with_reducible (apply State.resolveSeal_does)
    | with_reducible (apply Does.ite)
    | (fail_if_no_progress extract_lets)
    | (fail_if_no_progress (with_reducible refine Does.mk' ?_ (by with_reducible rfl)))

theorem State.markerPass_does {W : Nat} {o : State} {s : State} (x1 : Nat) (x2 : Nat) (hW : Within 0x2028122ffffffffffffffffffffffffffffffffffffffffffffffffffffffffffffffffffffffffffffffffffffffffffffffffffffffffffffffffffffffffffffffffffffffffffffffffffffffffffffffffffffffffffffffffffffffffffffffffffffffffffffffffffffffffffffffffffffffffffffffffffffffffff W) (h : Does W o s) :
    Does W o (State.markerPass s x1 x2) := by
  have up := hW.up
  have ub := hW.ub
  have full := hW.full (by decide)
  unfold State.markerPass
  repeat' first
    | with_reducible assumption
    | exact up _ (by decide)
    | exact ub _ (by decide)
    | exact fun _ => ub _ (by decide)
    | exact full _
    | intro _
    | with_reducible (apply State.insertMarkers_does)
    | with_reducible (apply State.setLane_does)
    | with_reducible (apply State.applyFields_does)
    | with_reducible (apply State.takeSeal_does)
    | with_reducible (apply State.releaseBody_does)
    | with_reducible (apply Does.ite)
    | (fail_if_no_progress extract_lets)
    | (fail_if_no_progress (with_reducible refine Does.mk' ?_ (by with_reducible rfl)))
    | split
    | dsimp only

theorem State.commitDone_does {W : Nat} {o : State} {s : State} (hW : Within 0x2028122ffffffffffffffffffffffffffffffffffffffffffffffffffffffffffffffffffffffffffffffffffffffffffffffffffffffffffffffffffffffffffffffffffffffffffffffffffffffffffffffffffffffffffffffffffffffffffffffffffffffffffffffffffffffffffffffffffffffffffffffffffffffffff W) (h : Does W o s) :
    Does W o (State.commitDone s) := by
  have up := hW.up
  have ub := hW.ub
  have full := hW.full (by decide)
  unfold State.commitDone
  repeat' first
    | with_reducible assumption
    | exact up _ (by decide)
    | exact ub _ (by decide)
    | exact fun _ => ub _ (by decide)
    | exact full _
    | intro _
    | with_reducible (apply State.insertMarkers_does)
    | with_reducible (apply State.releaseBody_does)
    | with_reducible (apply State.applyFields_does)
    | with_reducible (apply State.takeSeal_does)
    | with_reducible (apply Does.ite)
    | (fail_if_no_progress extract_lets)
    | (fail_if_no_progress (with_reducible refine Does.mk' ?_ (by with_reducible rfl)))
    | split
    | dsimp only

end Sys2Proof.Machine
end

