-- ==== Sys2Proof/Laws/DResetOps.lean ====
section
/-! SUPPORT. What the operations of ResetOps can change. -/

set_option linter.unreachableTactic false
set_option linter.unusedTactic false
set_option linter.unusedVariables false
set_option Elab.async false

namespace Sys2Proof.Machine

theorem flashKept_wf (b : Boot) (h : smWf b.flash = true) : smWf b.flashKept = true := by
  unfold Boot.flashKept; split
  · exact filter_wf _ _ h
  · exact h

theorem keepRegs_wf (fs : List Fld) (r : List (Nat × Nat)) (h : smWf r = true) : smWf (keepRegs fs r) = true := filter_wf _ _ h


theorem State.strapFields_does {W : Nat} {o : State} {s : State} (x1 : Bool) (hW : Within 0x800000000000000000000000000000006000000000000000000000000000000000000000000000000000000000000000000000000000000000018000000000000000000000000000000000000000000000000000000000000000000000000000600018000000 W) (h : Does W o s) :
    Does W o (State.strapFields s x1) := by
  have up := hW.up
  have ub := hW.ub
  unfold State.strapFields
  repeat' first
    | with_reducible assumption
    | exact up _ (by decide)
    | exact ub _ (by decide)
    | exact fun _ => ub _ (by decide)
    | intro _
    | with_reducible (apply State.wr_does)
    | with_reducible (apply State.newLatency_does)
    | with_reducible (apply State.flag_does)
    | with_reducible (apply Does.ite)
    | (fail_if_no_progress extract_lets)
    | (fail_if_no_progress (with_reducible refine Does.mk' ?_ (by with_reducible rfl)))

theorem State.toReset_does {W : Nat} {o : State} {s : State} (x1 : Nat) (hW : Within 0x7ffffffffffffffffffffffffffffffffffffffffffffffffffffffffffffffffffffffffffffffffffffffffffffffffffffffffffffffffffffffffffffffffffffffffffffffffffffffffffffffffffffffffffffffffffffffffffffffffffffffffffffffffffffffffffffffffffffffffffffffffffffffffffffffff W) (h : Does W o s) :
    Does W o (State.toReset s x1) := by
  have up := hW.up
  have ub := hW.ub
  have full := hW.full (by decide)
  have b1000 := ub 1000 (by decide)
  have b1001 := ub 1001 (by decide)
  have b1002 := ub 1002 (by decide)
  have b1003 := ub 1003 (by decide)
  have b1004 := ub 1004 (by decide)
  have b1005 := ub 1005 (by decide)
  have b1006 := ub 1006 (by decide)
  have b1007 := ub 1007 (by decide)
  have b1008 := ub 1008 (by decide)
  have b1009 := ub 1009 (by decide)
  have b1010 := ub 1010 (by decide)
  have b1011 := ub 1011 (by decide)
  have b1012 := ub 1012 (by decide)
  have b1013 := ub 1013 (by decide)
  have b1014 := ub 1014 (by decide)
  have b1015 := ub 1015 (by decide)
  have b1016 := ub 1016 (by decide)
  have b1017 := ub 1017 (by decide)
  have b1018 := ub 1018 (by decide)
  have b1019 := ub 1019 (by decide)
  have b1020 := ub 1020 (by decide)
  have b1021 := ub 1021 (by decide)
  have b1022 := ub 1022 (by decide)
  have b1023 := ub 1023 (by decide)
  have b1024 := ub 1024 (by decide)
  have b1025 := ub 1025 (by decide)
  unfold State.toReset
  refine State.showPower_does (up _ (by decide)) (State.wr_does _ _ ?_ (fun _ => ub _ (by decide)))
  refine (State.cutAir_does (up _ (by decide)) h).tables (Keeps.tables (Keeps.refl _) rfl rfl rfl rfl fun w => ?_) fun w => ?_
  · simp only [State.wf, Bool.and_eq_true] at w ⊢
    exact ⟨⟨⟨⟨⟨keepRegs_wf _ _ w.1.1.1.1.1, rfl⟩, rfl⟩, rfl⟩, rfl⟩, flashKept_wf _ w.2⟩
  · exact ⟨keepRegs_wf _ _ w, fun f i hl hf => absurd hf (by rw [full _ hl]; decide)⟩

theorem State.railsOff_does {W : Nat} {o : State} {s : State} (hW : Within 0x7ffffffffffffffffffffffffffffffffffffffffffffffffffffffffffffffffffffffffffffffffffffffffffffffffffffffffffffffffffffffffffffffffffffffffffffffffffffffffffffffffffffffffffffffffffffffffffffffffffffffffffffffffffffffffffffffffffffffffffffffffffffffffffffffff W) (h : Does W o s) :
    Does W o (State.railsOff s) := by
  have up := hW.up
  have ub := hW.ub
  have full := hW.full (by decide)
  have b1000 := ub 1000 (by decide)
  have b1001 := ub 1001 (by decide)
  have b1002 := ub 1002 (by decide)
  have b1003 := ub 1003 (by decide)
  have b1004 := ub 1004 (by decide)
  have b1005 := ub 1005 (by decide)
  have b1006 := ub 1006 (by decide)
  have b1007 := ub 1007 (by decide)
  have b1008 := ub 1008 (by decide)
  have b1009 := ub 1009 (by decide)
  have b1010 := ub 1010 (by decide)
  have b1011 := ub 1011 (by decide)
  have b1012 := ub 1012 (by decide)
  have b1013 := ub 1013 (by decide)
  have b1014 := ub 1014 (by decide)
  have b1015 := ub 1015 (by decide)
  have b1016 := ub 1016 (by decide)
  have b1017 := ub 1017 (by decide)
  have b1018 := ub 1018 (by decide)
  have b1019 := ub 1019 (by decide)
  have b1020 := ub 1020 (by decide)
  have b1021 := ub 1021 (by decide)
  have b1022 := ub 1022 (by decide)
  have b1023 := ub 1023 (by decide)
  have b1024 := ub 1024 (by decide)
  have b1025 := ub 1025 (by decide)
  unfold State.railsOff
  refine State.strapFields_does _ (up _ (by decide)) ?_
  refine h.tables (Keeps.tables (Keeps.refl _) rfl rfl rfl rfl fun w => ?_) fun w => ?_
  · simp only [State.wf, Bool.and_eq_true] at w ⊢
    exact ⟨⟨⟨⟨⟨keepRegs_wf _ _ w.1.1.1.1.1, rfl⟩, rfl⟩, rfl⟩, rfl⟩, flashKept_wf _ w.2⟩
  · exact ⟨keepRegs_wf _ _ w, fun f i hl hf => absurd hf (by rw [full _ hl]; decide)⟩

end Sys2Proof.Machine
end

