-- ==== Sys2Proof/Laws/DCave.lean ====
section
/-! SUPPORT. What the operations of Cave can change. -/

set_option linter.unreachableTactic false
set_option linter.unusedTactic false
set_option linter.unusedVariables false
set_option Elab.async false

namespace Sys2Proof.Machine

theorem State.ddrTrain_does {W : Nat} {o : State} {s : State} (x1 : Nat) (hW : Within 0x38000000000000000000000000000000000000000000000000000000000000000000000000000000000000000000000000000 W) (h : Does W o s) :
    Does W o (State.ddrTrain s x1) := by
  have up := hW.up
  have ub := hW.ub
  unfold State.ddrTrain
  repeat' first
    | with_reducible assumption
    | exact up _ (by decide)
    | exact ub _ (by decide)
    | exact fun _ => ub _ (by decide)
    | intro _
    | with_reducible (apply State.wr_does)
    | with_reducible (apply State.flag_does)
    | with_reducible (apply Does.ite)
    | with_reducible (apply Does.foldl)
    | (fail_if_no_progress extract_lets)
    | (fail_if_no_progress (with_reducible refine Does.mk' ?_ (by with_reducible rfl)))
    | split
    | dsimp +zetaDelta only

theorem caveInit_does {W : Nat} {o : State} {s : State} (hW : Within 0x38000000000023000000000000000000000000000000000000000000000000000000000000000000000000000000000000000 W) (h : Does W o s) :
    Does W o (caveInit s) := by
  have up := hW.up
  have ub := hW.ub
  unfold caveInit
  repeat' first
    | with_reducible assumption
    | exact up _ (by decide)
    | exact ub _ (by decide)
    | exact fun _ => ub _ (by decide)
    | intro _
    | with_reducible (apply State.ddrTrain_does)
    | with_reducible (apply State.wr_does)
    | with_reducible (apply Does.ite)
    | (fail_if_no_progress extract_lets)
    | (fail_if_no_progress (with_reducible refine Does.mk' ?_ (by with_reducible rfl)))

theorem State.clearPool_does {W : Nat} {o : State} {s : State} (hW : Within 0x20018200000000000000000000000000000000000000000000000000001800003030000000000000000000000000000000000000000010000001000000000000000000000000000000000000000000c100000c03c0000000018400000000000000000000000000000000000000000000000000000000000000000000000000000 W) (h : Does W o s) :
    Does W o (State.clearPool s) := by
  have up := hW.up
  have ub := hW.ub
  have b1012 := ub 1012 (by decide)
  unfold State.clearPool
  repeat' first
    | with_reducible assumption
    | exact up _ (by decide)
    | exact ub _ (by decide)
    | exact fun _ => ub _ (by decide)
    | intro _
    | with_reducible (apply State.setRetained_does)
    | with_reducible (apply State.inc64_does)
    | with_reducible (apply State.setHeld_does)
    | with_reducible (apply State.wr_does)
    | with_reducible (apply State.setPool_does)
    | with_reducible (apply Does.ite)
    | with_reducible (apply Does.foldl)
    | (fail_if_no_progress extract_lets)
    | (fail_if_no_progress (with_reducible refine Does.mk' ?_ (by with_reducible rfl)))
    | split
    | dsimp +zetaDelta only

theorem caveTrainDone_does {W : Nat} {o : State} (x0 : List (Nat × Nat)) {s : State} (hW : Within 0x7983a2000000000000000000000000000000000000000000000000fff07ff80370300fca00000000000000000000000000000000000010000001000000000000000000000000000000000000100039c124600c0be50000001ffc00000000000000000000000000000000000680000000020000000000000000000000000000000 W) (h : Does W o s) :
    Does W o (caveTrainDone x0 s) := by
  have up := hW.up
  have ub := hW.ub
  unfold caveTrainDone
  repeat' first
    | with_reducible assumption
    | exact up _ (by decide)
    | exact ub _ (by decide)
    | exact fun _ => ub _ (by decide)
    | intro _
    | with_reducible (apply State.ddrTrain_does)
    | with_reducible (apply State.zeroSome_does)
    | with_reducible (apply State.wr_does)
    | with_reducible (apply State.clearPool_does)
    | with_reducible (apply State.raise_does)
    | with_reducible (apply Does.ite)
    | with_reducible (apply Does.foldl)
    | (fail_if_no_progress extract_lets)
    | (fail_if_no_progress (with_reducible refine Does.mk' ?_ (by with_reducible rfl)))
    | split
    | dsimp +zetaDelta only

theorem caveReady_does {W : Nat} {o : State} {s : State} (hW : Within 0x3983a2000000000000000000000000000000000000000000000000fff07ff80370300fca000000000000000000000000000000000000100000010000000000000000000000000000000000001000014024600c0b230000001e7c00000000000000000000000000000000000680000000020000000000000000000000000000000 W) (h : Does W o s) :
    Does W o (caveReady s) := by
  have up := hW.up
  have ub := hW.ub
  have b1012 := ub 1012 (by decide)
  unfold caveReady
  repeat' first
    | with_reducible assumption
    | exact up _ (by decide)
    | exact ub _ (by decide)
    | exact fun _ => ub _ (by decide)
    | intro _
    | with_reducible (apply State.pushZeroed_does)
    | with_reducible (apply State.wr_does)
    | with_reducible (apply State.raise_does)
    | with_reducible (apply Does.ite)
    | (fail_if_no_progress extract_lets)
    | (fail_if_no_progress (with_reducible refine Does.mk' ?_ (by with_reducible rfl)))

theorem containerTake_does {W : Nat} {o : State} (x0 : Nat) {s : State} (hW : Within 0x7983a2000000000000000000000000000000000000000000000000fff07ff80370300fca00000000000000000000000000000000000010000001000000000000000000000000000000000000100001c127e00c0b000000001e7c00000000000000000000000000000000000680000000020000000000000000000000000000000 W) (h : Does W o s) :
    Does W o (containerTake x0 s) := by
  have up := hW.up
  have ub := hW.ub
  unfold containerTake
  repeat' first
    | with_reducible assumption
    | exact up _ (by decide)
    | exact ub _ (by decide)
    | exact fun _ => ub _ (by decide)
    | intro _
    | with_reducible (apply State.takeAll_does)
    | with_reducible (apply Does.ite)
    | (fail_if_no_progress extract_lets)
    | (fail_if_no_progress (with_reducible refine Does.mk' ?_ (by with_reducible rfl)))

theorem State.offLists_does {W : Nat} {o : State} {s : State} (x1 : Bool) (x2 : Nat) (x3 : Nat) (hW : Within 0x20018200000000000000000000000000000000000000000000000000001800003030000000000000000000000000000000000000000010000001000000000000000000000000000000000000000000800000000000000000000400000000000000000000000000000000000000000000000000000000000000000000000000000 W) (h : Does W o s) :
    Does W o (State.offLists s x1 x2 x3) := by
  have up := hW.up
  have ub := hW.ub
  unfold State.offLists
  repeat' first
    | with_reducible assumption
    | exact up _ (by decide)
    | exact ub _ (by decide)
    | exact fun _ => ub _ (by decide)
    | intro _
    | with_reducible (apply State.setHeld_does)
    | with_reducible (apply State.setRetained_does)
    | with_reducible (apply Does.ite)
    | (fail_if_no_progress extract_lets)
    | (fail_if_no_progress (with_reducible refine Does.mk' ?_ (by with_reducible rfl)))

theorem containerFree_does {W : Nat} {o : State} (x0 : Bool) (x1 : Bool) (x2 : Nat) (x3 : Nat) {s : State} (hW : Within 0x3983a2000000000000000000000000000000000000000000000000fff07ff80370300fca00000000000000000000000000000000000010000001000000000000000000000000000000000000100007c123e00c0b000000001ffc00000000000000000000000000000000000680000000020000000000000000000000000000000 W) (h : Does W o s) :
    Does W o (containerFree x0 x1 x2 x3 s) := by
  have up := hW.up
  have ub := hW.ub
  unfold containerFree
  repeat' first
    | with_reducible assumption
    | exact up _ (by decide)
    | exact ub _ (by decide)
    | exact fun _ => ub _ (by decide)
    | intro _
    | with_reducible (apply State.purgeOne_does)
    | with_reducible (apply State.freeCont_does)
    | with_reducible (apply State.offLists_does)
    | with_reducible (apply Does.ite)
    | (fail_if_no_progress extract_lets)
    | (fail_if_no_progress (with_reducible refine Does.mk' ?_ (by with_reducible rfl)))
    | split
    | dsimp only

theorem waitLong_does {W : Nat} {o : State} (x0 : Bool) (x1 : Nat) {s : State} (hW : Within 0x20010a00000000000000000000000000000000000000000000000000001800003030000000000000000000000000000000000000000010000001000000000000000000000000000000000000000000001040000800000000000000000000000000000000000000000000000000000000000000000000000000000000000200000 W) (h : Does W o s) :
    Does W o (waitLong x0 x1 s) := by
  have up := hW.up
  have ub := hW.ub
  unfold waitLong
  repeat' first
    | with_reducible assumption
    | exact up _ (by decide)
    | exact ub _ (by decide)
    | exact fun _ => ub _ (by decide)
    | intro _
    | with_reducible (apply State.advance_does)
    | with_reducible (apply State.setWaiters_does)
    | with_reducible (apply State.raise_does)
    | with_reducible (apply State.inc_does)
    | with_reducible (apply Does.ite)
    | (fail_if_no_progress extract_lets)
    | (fail_if_no_progress (with_reducible refine Does.mk' ?_ (by with_reducible rfl)))
    | split
    | dsimp only

theorem retainExpiry_does {W : Nat} {o : State} {s : State} (hW : Within 0x3983aa000000000000000000000000000000000000000000000000fff07ff80370300fca00000000000000000000000000000000000010000001000000000000000000000000000000000000100001c123e00c0b000000001e7c00000000000000000000000000000000000680000000020000000000000000000000000200000 W) (h : Does W o s) :
    Does W o (retainExpiry s) := by
  have up := hW.up
  have ub := hW.ub
  unfold retainExpiry
  repeat' first
    | with_reducible assumption
    | exact up _ (by decide)
    | exact ub _ (by decide)
    | exact fun _ => ub _ (by decide)
    | intro _
    | with_reducible (apply State.advance_does)
    | with_reducible (apply State.freeCont_does)
    | with_reducible (apply State.setRetained_does)
    | with_reducible (apply Does.ite)
    | (fail_if_no_progress extract_lets)
    | (fail_if_no_progress (with_reducible refine Does.mk' ?_ (by with_reducible rfl)))
    | split
    | dsimp only

theorem purge_does {W : Nat} {o : State} {s : State} (hW : Within 0x10000000000000000000000000000000000000000000000000000000000000000000000000000000000000000000000000000000000000000000000000000000000000000000000000000000000000000300000000000000000000000000000000000000000000000000000000000000000000000000000000000000000000 W) (h : Does W o s) :
    Does W o (purge s) := by
  have up := hW.up
  have ub := hW.ub
  have b1012 := ub 1012 (by decide)
  unfold purge
  repeat' first
    | with_reducible assumption
    | exact up _ (by decide)
    | exact ub _ (by decide)
    | exact fun _ => ub _ (by decide)
    | intro _
    | with_reducible (apply State.wr_does)
    | with_reducible (apply Does.ite)
    | (fail_if_no_progress extract_lets)
    | (fail_if_no_progress (with_reducible refine Does.mk' ?_ (by with_reducible rfl)))

theorem purgeDone_does {W : Nat} {o : State} {s : State} (hW : Within 0x3983a2000000000000000000000000000000000000000000000000fff07ff80370300fca000000000000000000000000000000000000100000010000000000000000000000000000000000001000074123e02c0b000000001ffc00000000000000000000000000000000000680000000020000000000000000000000000000000 W) (h : Does W o s) :
    Does W o (purgeDone s) := by
  have up := hW.up
  have ub := hW.ub
  have b1012 := ub 1012 (by decide)
  unfold purgeDone
  repeat' first
    | with_reducible assumption
    | exact up _ (by decide)
    | exact ub _ (by decide)
    | exact fun _ => ub _ (by decide)
    | intro _
    | with_reducible (apply State.purgeOne_does)
    | with_reducible (apply State.raise_does)
    | with_reducible (apply State.wr_does)
    | with_reducible (apply Does.ite)
    | with_reducible (apply Does.foldl)
    | (fail_if_no_progress extract_lets)
    | (fail_if_no_progress (with_reducible refine Does.mk' ?_ (by with_reducible rfl)))
    | split
    | dsimp +zetaDelta only

theorem caveWindowRead_does {W : Nat} {o : State} {s : State} (hW : Within 0x2981a2000000000000000000000000000000000000000000000000fff07ff80370300fca00000000000000000000000000000000000010000001000000000000000000000000000000000000100000000818000000000000060400000000000000000000000000000000000680000000020000000000000000000000000000000 W) (h : Does W o s) :
    Does W o (caveWindowRead s) := by
  have up := hW.up
  have ub := hW.ub
  unfold caveWindowRead
  repeat' first
    | with_reducible assumption
    | exact up _ (by decide)
    | exact ub _ (by decide)
    | exact fun _ => ub _ (by decide)
    | intro _
    | with_reducible (apply State.windowRead_does)
    | with_reducible (apply Does.ite)
    | (fail_if_no_progress extract_lets)
    | (fail_if_no_progress (with_reducible refine Does.mk' ?_ (by with_reducible rfl)))
    | split
    | dsimp only

theorem caveEccError_does {W : Nat} {o : State} (x0 : Nat) (x1 : Nat) (x2 : EccKind) {s : State} (hW : Within 0x2981a2000000000000000000000000000000000000000000000000fff07ff80370300fca00000000000000000000000000000000000010000001000000000000000000000000000000000000000380002000000003000000060400000000000000000000000000000000000680000000020000000000000000000000000000000 W) (h : Does W o s) :
    Does W o (caveEccError x0 x1 x2 s) := by
  have up := hW.up
  have ub := hW.ub
  unfold caveEccError
  repeat' first
    | with_reducible assumption
    | exact up _ (by decide)
    | exact ub _ (by decide)
    | exact fun _ => ub _ (by decide)
    | intro _
    | with_reducible (apply State.wr_does)
    | with_reducible (apply State.inc_does)
    | with_reducible (apply State.raise_does)
    | with_reducible (apply State.fault_does)
    | with_reducible (apply State.poison_does)
    | with_reducible (apply Does.ite)
    | (fail_if_no_progress extract_lets)
    | (fail_if_no_progress (with_reducible refine Does.mk' ?_ (by with_reducible rfl)))
    | split
    | dsimp only

theorem State.scrubbed_does {W : Nat} {o : State} {s : State} (hW : Within 0x20010200000000000000000000000000000000000000000000000000001800003030000000000000000000000000000000000000000010000001000000000000000000000000000000000000000000180000000000000000000000000000000000000000000000000000000000000000000000000000000000000000000000000 W) (h : Does W o s) :
    Does W o (State.scrubbed s) := by
  have up := hW.up
  have ub := hW.ub
  have b1012 := ub 1012 (by decide)
  unfold State.scrubbed
  repeat' first
    | with_reducible assumption
    | exact up _ (by decide)
    | exact ub _ (by decide)
    | exact fun _ => ub _ (by decide)
    | intro _
    | with_reducible (apply State.wr_does)
    | with_reducible (apply State.raiseIf_does)
    | with_reducible (apply State.inc_does)
    | with_reducible (apply Does.ite)
    | (fail_if_no_progress extract_lets)
    | (fail_if_no_progress (with_reducible refine Does.mk' ?_ (by with_reducible rfl)))

theorem scrubStep_does {W : Nat} {o : State} {s : State} (hW : Within 0x20810a00000000000000000000000000000000000000000000000000001800003030003a00000000000000000000000000000000000010000001000000000000000000000000000000000000000000380000000000000000000000000000000000000000000000000000000000000000000000000000000000000000000200000 W) (h : Does W o s) :
    Does W o (scrubStep s) := by
  have up := hW.up
  have ub := hW.ub
  have b1012 := ub 1012 (by decide)
  unfold scrubStep
  repeat' first
    | with_reducible assumption
    | exact up _ (by decide)
    | exact ub _ (by decide)
    | exact fun _ => ub _ (by decide)
    | intro _
    | with_reducible (apply State.advance_does)
    | with_reducible (apply State.askLeave_does)
    | with_reducible (apply State.giveLeave_does)
    | with_reducible (apply State.scrubbed_does)
    | with_reducible (apply State.inc_does)
    | with_reducible (apply Does.ite)
    | (fail_if_no_progress extract_lets)
    | (fail_if_no_progress (with_reducible refine Does.mk' ?_ (by with_reducible rfl)))
    | (with_reducible (refine Does.snd (by assumption) ?_))
    | (with_reducible (refine Does.fst (by assumption) ?_))
    | split
    | dsimp only
    | dsimp +zetaDelta only

theorem ddrRetrainSlice_does {W : Nat} {o : State} (x0 : Nat) {s : State} (hW : Within 0x800000000000000000000000000000000000000000000000000000000000000000003a00000000000000000000000000000000000000000000000000000000000000000000000000000000000400000000000000000000000000000000000000000000000000000000000000000000000000000000000000000000000000000 W) (h : Does W o s) :
    Does W o (ddrRetrainSlice x0 s) := by
  have up := hW.up
  have ub := hW.ub
  unfold ddrRetrainSlice
  repeat' first
    | with_reducible assumption
    | exact up _ (by decide)
    | exact ub _ (by decide)
    | exact fun _ => ub _ (by decide)
    | intro _
    | with_reducible (apply State.askLeave_does)
    | with_reducible (apply State.giveLeave_does)
    | with_reducible (apply State.inc_does)
    | with_reducible (apply Does.ite)
    | (fail_if_no_progress extract_lets)
    | (fail_if_no_progress (with_reducible refine Does.mk' ?_ (by with_reducible rfl)))
    | (with_reducible (refine Does.snd (by assumption) ?_))
    | (with_reducible (refine Does.fst (by assumption) ?_))
    | split
    | dsimp only
    | dsimp +zetaDelta only

theorem dimmTempHot_does {W : Nat} {o : State} (x0 : Nat) (x1 : Nat) {s : State} (hW : Within 0x20000200000000000000000000000000000000000000000000000000001800003030000000000000000000000000000000000000000010000001000000000000000000000000000000000000000040000000000000000000000000000000000000000000000000000000000000000000000000000000000000000000000000000 W) (h : Does W o s) :
    Does W o (dimmTempHot x0 x1 s) := by
  have up := hW.up
  have ub := hW.ub
  unfold dimmTempHot
  repeat' first
    | with_reducible assumption
    | exact up _ (by decide)
    | exact ub _ (by decide)
    | exact fun _ => ub _ (by decide)
    | intro _
    | with_reducible (apply State.raiseIf_does)
    | with_reducible (apply State.wr_does)
    | with_reducible (apply Does.ite)
    | (fail_if_no_progress extract_lets)
    | (fail_if_no_progress (with_reducible refine Does.mk' ?_ (by with_reducible rfl)))

end Sys2Proof.Machine
end

