-- ==== Sys2Proof/Laws/DClients.lean ====
section
/-! SUPPORT. What the operations of Clients can change. -/

set_option linter.unreachableTactic false
set_option linter.unusedTactic false
set_option linter.unusedVariables false
set_option Elab.async false

namespace Sys2Proof.Machine

theorem State.portOff_does {W : Nat} {o : State} {s : State} (x1 : Nat) (hW : Within 0x20a80200000000000000000000000000000000000000000000000000001800003030000f80000302000680000002c00000000000000010000001000000000000000000000000000000000000000000000000000000000000000000000000000000000000042c01800000000000000000000000000000000000000000000000000 W) (h : Does W o s) :
    Does W o (State.portOff s x1) := by
  have up := hW.up
  have ub := hW.ub
  unfold State.portOff
  repeat' first
    | with_reducible assumption
    | exact up _ (by decide)
    | exact ub _ (by decide)
    | exact fun _ => ub _ (by decide)
    | intro _
    | with_reducible (apply State.wr_does)
    | with_reducible (apply State.linkEval_does)
    | with_reducible (apply State.lanesSync_does)
    | with_reducible (apply Does.ite)
    | (fail_if_no_progress extract_lets)
    | (fail_if_no_progress (with_reducible refine Does.mk' ?_ (by with_reducible rfl)))

theorem State.laneConflict_does {W : Nat} {o : State} {s : State} (x1 : Nat) (hW : Within 0x20000200000000000000000000000000000000000000000000000000001800003030000000000000000000000000000000000000000010000001000000000000000000000000000000000000000000000000000000000000000000000000000000000000080000800000000000000000000000000000000000000000000000000 W) (h : Does W o s) :
    Does W o (State.laneConflict s x1) := by
  have up := hW.up
  have ub := hW.ub
  unfold State.laneConflict
  repeat' first
    | with_reducible assumption
    | exact up _ (by decide)
    | exact ub _ (by decide)
    | exact fun _ => ub _ (by decide)
    | intro _
    | with_reducible (apply State.portRaise_does)
    | with_reducible (apply State.wr_does)
    | with_reducible (apply Does.ite)
    | (fail_if_no_progress extract_lets)
    | (fail_if_no_progress (with_reducible refine Does.mk' ?_ (by with_reducible rfl)))

theorem State.enablePort_does {W : Nat} {o : State} {s : State} (x1 : Nat) (hW : Within 0x60a80200000000000000000000000000000000000000000000000000001800003030000f80000302000680000002c000000000000000100000010000000000000000000000000000000000000000000000000000000000000000000000000000000000002c2c01800000000000000000000000000000000000000000000000000 W) (h : Does W o s) :
    Does W o (State.enablePort s x1) := by
  have up := hW.up
  have ub := hW.ub
  unfold State.enablePort
  repeat' first
    | with_reducible assumption
    | exact up _ (by decide)
    | exact ub _ (by decide)
    | exact fun _ => ub _ (by decide)
    | intro _
    | with_reducible (apply State.laneConflict_does)
    | with_reducible (apply State.wrFree_does)
    | with_reducible (apply State.wr_does)
    | with_reducible (apply State.linkEval_does)
    | with_reducible (apply State.lanesSync_does)
    | with_reducible (apply Does.ite)
    | (fail_if_no_progress extract_lets)
    | (fail_if_no_progress (with_reducible refine Does.mk' ?_ (by with_reducible rfl)))

theorem portEnable_does {W : Nat} {o : State} (x0 : Nat) (x1 : List Nat) {s : State} (hW : Within 0x60a80200000000000000000000000000000000000000000000000000001800003030000f80000302000680000002c000000000000000100000010000000000000000000000000000000000000000000000000000000000000000000000000000000000002c2c01800000000000000000000000000000000000000000000000000 W) (h : Does W o s) :
    Does W o (portEnable x0 x1 s) := by
  have up := hW.up
  have ub := hW.ub
  unfold portEnable
  repeat' first
    | with_reducible assumption
    | exact up _ (by decide)
    | exact ub _ (by decide)
    | exact fun _ => ub _ (by decide)
    | intro _
    | with_reducible (apply forEach_does)
    | with_reducible (apply State.enablePort_does)
    | with_reducible (apply Does.ite)
    | (fail_if_no_progress extract_lets)
    | (fail_if_no_progress (with_reducible refine Does.mk' ?_ (by with_reducible rfl)))

theorem amLockGained_does {W : Nat} {o : State} (x0 : Nat) {s : State} (hW : Within 0x20080200000000000000000000000000000000000000000000000000001800003030000000000000000000000000000000000000000010000001000000000000000000000000000000000000000000000000000000000000000000000000000000000000043c00800000000000000000000000000000000000000000000000000 W) (h : Does W o s) :
    Does W o (amLockGained x0 s) := by
  have up := hW.up
  have ub := hW.ub
  unfold amLockGained
  repeat' first
    | with_reducible assumption
    | exact up _ (by decide)
    | exact ub _ (by decide)
    | exact fun _ => ub _ (by decide)
    | intro _
    | with_reducible (apply State.linkEval_does)
    | with_reducible (apply State.lfSignal_does)
    | with_reducible (apply State.wr_does)
    | with_reducible (apply Does.ite)
    | (fail_if_no_progress extract_lets)
    | (fail_if_no_progress (with_reducible refine Does.mk' ?_ (by with_reducible rfl)))

theorem linkUpRise_does {W : Nat} {o : State} (x0 : Nat) {s : State} (hW : Within 0x20080a00000000000000000000000000000000000000000000000000001800003030000000000000000000000000000000000000000010000001000000000000000000000000000000000000000000000000000000000000000000000000000000000000045400800000000000000000000000000000000000000000000200000 W) (h : Does W o s) :
    Does W o (linkUpRise x0 s) := by
  have up := hW.up
  have ub := hW.ub
  unfold linkUpRise
  repeat' first
    | with_reducible assumption
    | exact up _ (by decide)
    | exact ub _ (by decide)
    | exact fun _ => ub _ (by decide)
    | intro _
    | with_reducible (apply State.linkEval_does)
    | with_reducible (apply State.wr_does)
    | with_reducible (apply State.portRaise_does)
    | with_reducible (apply State.advance_does)
    | with_reducible (apply Does.ite)
    | (fail_if_no_progress extract_lets)
    | (fail_if_no_progress (with_reducible refine Does.mk' ?_ (by with_reducible rfl)))

theorem linkUpFall_does {W : Nat} {o : State} (x0 : Nat) (x1 : Nat) {s : State} (hW : Within 0x20080200000000000000000000000000000000000000000000000000001800003030000000000000000000000000000000000000000010000001000000000000000000000000000000000000000000000000000000000000000000000000000000000000047c00800000000000000000000000000000000000000000000000000 W) (h : Does W o s) :
    Does W o (linkUpFall x0 x1 s) := by
  have up := hW.up
  have ub := hW.ub
  unfold linkUpFall
  repeat' first
    | with_reducible assumption
    | exact up _ (by decide)
    | exact ub _ (by decide)
    | exact fun _ => ub _ (by decide)
    | intro _
    | with_reducible (apply State.wr_does)
    | with_reducible (apply State.lfSignal_does)
    | with_reducible (apply State.linkEval_does)
    | with_reducible (apply Does.ite)
    | (fail_if_no_progress extract_lets)
    | (fail_if_no_progress (with_reducible refine Does.mk' ?_ (by with_reducible rfl)))
    | split
    | dsimp only

theorem State.sendPause_does {W : Nat} {o : State} {s : State} (x1 : Nat) (x2 : Nat) (x3 : Nat) (hW : Within 0x20000000000000000000000000000000000000000000000000000000000000000000000000000000000000000000000000000000000000000000000000000000000000000000000000000000000000000000000000000000000000000000000000000000000000400000000000000000000000000000000000000000000000000 W) (h : Does W o s) :
    Does W o (State.sendPause s x1 x2 x3) := by
  have up := hW.up
  have ub := hW.ub
  unfold State.sendPause
  repeat' first
    | with_reducible assumption
    | exact up _ (by decide)
    | exact ub _ (by decide)
    | exact fun _ => ub _ (by decide)
    | intro _
    | with_reducible (apply State.inc_does)
    | with_reducible (apply State.emit_does)
    | with_reducible (apply Does.ite)
    | (fail_if_no_progress extract_lets)
    | (fail_if_no_progress (with_reducible refine Does.mk' ?_ (by with_reducible rfl)))

theorem State.fcRise_does {W : Nat} {o : State} {s : State} (x1 : Nat) (hW : Within 0x20080200000000000000000000000000000000000000000000000000001800003030000000000000000000000000000000000000000010000001000000000000000000000000000000000000000000000000000000000000000000000000000000000000010000c00000000000000000000000000000000000000000000000000 W) (h : Does W o s) :
    Does W o (State.fcRise s x1) := by
  have up := hW.up
  have ub := hW.ub
  unfold State.fcRise
  repeat' first
    | with_reducible assumption
    | exact up _ (by decide)
    | exact ub _ (by decide)
    | exact fun _ => ub _ (by decide)
    | intro _
    | with_reducible (apply State.wr_does)
    | with_reducible (apply State.sendPause_does)
    | with_reducible (apply State.portRaise_does)
    | with_reducible (apply State.setPort_does)
    | with_reducible (apply Does.ite)
    | (fail_if_no_progress extract_lets)
    | (fail_if_no_progress (with_reducible refine Does.mk' ?_ (by with_reducible rfl)))

theorem State.fcStop_does {W : Nat} {o : State} {s : State} (x1 : Nat) (hW : Within 0x80000000000000000000000000000000000000000000000000000000000000000000000000000000000000000000000000000000000000000000000000000000000000000000000000000000000000000000000000000000000000000000000000000010000000000000000000000000000000000000000000000000000000 W) (h : Does W o s) :
    Does W o (State.fcStop s x1) := by
  have up := hW.up
  have ub := hW.ub
  unfold State.fcStop
  repeat' first
    | with_reducible assumption
    | exact up _ (by decide)
    | exact ub _ (by decide)
    | exact fun _ => ub _ (by decide)
    | intro _
    | with_reducible (apply State.wr_does)
    | with_reducible (apply State.setPort_does)
    | with_reducible (apply Does.ite)
    | (fail_if_no_progress extract_lets)
    | (fail_if_no_progress (with_reducible refine Does.mk' ?_ (by with_reducible rfl)))

theorem State.fcFall_does {W : Nat} {o : State} {s : State} (x1 : Nat) (hW : Within 0x20080000000000000000000000000000000000000000000000000000000000000000000000000000000000000000000000000000000000000000000000000000000000000000000000000000000000000000000000000000000000000000000000000000010000400000000000000000000000000000000000000000000000000 W) (h : Does W o s) :
    Does W o (State.fcFall s x1) := by
  have up := hW.up
  have ub := hW.ub
  unfold State.fcFall
  repeat' first
    | with_reducible assumption
    | exact up _ (by decide)
    | exact ub _ (by decide)
    | exact fun _ => ub _ (by decide)
    | intro _
    | with_reducible (apply State.fcStop_does)
    | with_reducible (apply State.sendPause_does)
    | with_reducible (apply Does.ite)
    | (fail_if_no_progress extract_lets)
    | (fail_if_no_progress (with_reducible refine Does.mk' ?_ (by with_reducible rfl)))

theorem State.paused_does {W : Nat} {o : State} {s : State} (x1 : Nat) (x2 : Option Nat) (x3 : Nat) (hW : Within 0x80000000000000000000000000000000000000000000000000000000000000000000000000000000000000000000000000000000000000000000000000000000000000000000000000000000000000000000000000000000000000000000000000000028000000000000000000000000000000000000000000000000000000 W) (h : Does W o s) :
    Does W o (State.paused s x1 x2 x3) := by
  have up := hW.up
  have ub := hW.ub
  unfold State.paused
  repeat' first
    | with_reducible assumption
    | exact up _ (by decide)
    | exact ub _ (by decide)
    | exact fun _ => ub _ (by decide)
    | intro _
    | with_reducible (apply State.flag_does)
    | with_reducible (apply State.setPort_does)
    | with_reducible (apply State.wr_does)
    | with_reducible (apply Does.ite)
    | (fail_if_no_progress extract_lets)
    | (fail_if_no_progress (with_reducible refine Does.mk' ?_ (by with_reducible rfl)))
    | split
    | dsimp only

theorem State.macControl_does {W : Nat} {o : State} {s : State} (x1 : Nat) (x2 : List Nat) (hW : Within 0x20080200000000000000000000000000000000000000000000000000001800003030000000000000000000000000000000000000000010000001000000000000000000000000000000000000000000000000000000000000000000000000000000000000c28000800000000000000000000000000000000000000000000000000 W) (h : Does W o s) :
    Does W o (State.macControl s x1 x2) := by
  have up := hW.up
  have ub := hW.ub
  unfold State.macControl
  repeat' first
    | with_reducible assumption
    | exact up _ (by decide)
    | exact ub _ (by decide)
    | exact fun _ => ub _ (by decide)
    | intro _
    | with_reducible (apply State.paused_does)
    | with_reducible (apply State.nibble_does)
    | with_reducible (apply forEach_does)
    | with_reducible (apply Does.ite)
    | (fail_if_no_progress extract_lets)
    | (fail_if_no_progress (with_reducible refine Does.mk' ?_ (by with_reducible rfl)))

theorem clientFrameRx_does {W : Nat} {o : State} (x0 : Nat) (x1 : List Nat) (x2 : Bool) {s : State} (hW : Within 0x20880a00000000000000000000000000000000000000000000000000001800003030000000010000000000000000000000000000000010000001000000000000000000000000000000000000000000000000000000000000000000000000000000000000c38000c00000000000000000000000000000000000000000000200000 W) (h : Does W o s) :
    Does W o (clientFrameRx x0 x1 x2 s) := by
  have up := hW.up
  have ub := hW.ub
  unfold clientFrameRx
  repeat' first
    | with_reducible assumption
    | exact up _ (by decide)
    | exact ub _ (by decide)
    | exact fun _ => ub _ (by decide)
    | intro _
    | with_reducible (apply State.nibble_does)
    | with_reducible (apply State.macControl_does)
    | with_reducible (apply State.advance_does)
    | with_reducible (apply State.setPort_does)
    | with_reducible (apply State.latchWake_does)
    | with_reducible (apply State.fcRise_does)
    | with_reducible (apply Does.ite)
    | (fail_if_no_progress extract_lets)
    | (fail_if_no_progress (with_reducible refine Does.mk' ?_ (by with_reducible rfl)))

theorem pauseTimerExpiry_does {W : Nat} {o : State} (x0 : Nat) (x1 : Option Nat) {s : State} (hW : Within 0x80800000000000000000000000000000000000000000000000000000000000000000000000000000000000000000000000000000000000000000000000000000000000000000000000000000000000000000000000000000000000000000000000000028000000000000000000000000000000000000000000000000200000 W) (h : Does W o s) :
    Does W o (pauseTimerExpiry x0 x1 s) := by
  have up := hW.up
  have ub := hW.ub
  unfold pauseTimerExpiry
  repeat' first
    | with_reducible assumption
    | exact up _ (by decide)
    | exact ub _ (by decide)
    | exact fun _ => ub _ (by decide)
    | intro _
    | with_reducible (apply State.paused_does)
    | with_reducible (apply State.advance_does)
    | with_reducible (apply Does.ite)
    | with_reducible (apply Does.foldl)
    | (fail_if_no_progress extract_lets)
    | (fail_if_no_progress (with_reducible refine Does.mk' ?_ (by with_reducible rfl)))
    | split
    | dsimp +zetaDelta only

theorem pauseRefresh_does {W : Nat} {o : State} (x0 : Nat) {s : State} (hW : Within 0x20080800000000000000000000000000000000000000000000000000000000000000000000000000000000000000000000000000000000000000000000000000000000000000000000000000000000000000000000000000000000000000000000000000010000400000000000000000000000000000000000000000000200000 W) (h : Does W o s) :
    Does W o (pauseRefresh x0 s) := by
  have up := hW.up
  have ub := hW.ub
  unfold pauseRefresh
  repeat' first
    | with_reducible assumption
    | exact up _ (by decide)
    | exact ub _ (by decide)
    | exact fun _ => ub _ (by decide)
    | intro _
    | with_reducible (apply State.advance_does)
    | with_reducible (apply State.when_does)
    | with_reducible (apply State.sendPause_does)
    | with_reducible (apply State.setPort_does)
    | with_reducible (apply State.fcFall_does)
    | with_reducible (apply Does.ite)
    | (fail_if_no_progress extract_lets)
    | (fail_if_no_progress (with_reducible refine Does.mk' ?_ (by with_reducible rfl)))
    | split
    | dsimp only

theorem ingressDrain_does {W : Nat} {o : State} (x0 : Nat) {s : State} (hW : Within 0x20080000000000000000000000000000000000000000000000000000000000000000000000000000000000000000000000000000000000000000000000000000000000000000000000000000000000000000000000000000000000000000000000000000010000400000000000000000000000000000000000000000000000000 W) (h : Does W o s) :
    Does W o (ingressDrain x0 s) := by
  have up := hW.up
  have ub := hW.ub
  unfold ingressDrain
  repeat' first
    | with_reducible assumption
    | exact up _ (by decide)
    | exact ub _ (by decide)
    | exact fun _ => ub _ (by decide)
    | intro _
    | with_reducible (apply State.fcFall_does)
    | with_reducible (apply State.toParser_does)
    | with_reducible (apply State.setPort_does)
    | with_reducible (apply Does.ite)
    | (fail_if_no_progress extract_lets)
    | (fail_if_no_progress (with_reducible refine Does.mk' ?_ (by with_reducible rfl)))
    | split
    | dsimp only

theorem flowControlDisable_does {W : Nat} {o : State} (x0 : Nat) (x1 : Bool) {s : State} (hW : Within 0x2008000000000000000000000000000000000000000000000000000000000000000000000000000000000000000000000000000000000000000000000000000000000000000000000000000000000000000000000000000000000000000000000000000001000c400000000000000000000000000000000000000000000000000 W) (h : Does W o s) :
    Does W o (flowControlDisable x0 x1 s) := by
  have up := hW.up
  have ub := hW.ub
  unfold flowControlDisable
  repeat' first
    | with_reducible assumption
    | exact up _ (by decide)
    | exact ub _ (by decide)
    | exact fun _ => ub _ (by decide)
    | intro _
    | with_reducible (apply State.wr_does)
    | with_reducible (apply State.fcStop_does)
    | with_reducible (apply State.sendPause_does)
    | with_reducible (apply Does.ite)
    | (fail_if_no_progress extract_lets)
    | (fail_if_no_progress (with_reducible refine Does.mk' ?_ (by with_reducible rfl)))

theorem State.dropTooBig_does {W : Nat} {o : State} {s : State} (x1 : Nat) (hW : Within 0x20080200000000000000000000000000000000000020000000000000001800003030000000000000000000000000000000000000000010000001000000000000000000000000000000000000000000000000000000800000000000000000c00000000000000000000000000000000000000000000000000000000000000000000 W) (h : Does W o s) :
    Does W o (State.dropTooBig s x1) := by
  have up := hW.up
  have ub := hW.ub
  unfold State.dropTooBig
  repeat' first
    | with_reducible assumption
    | exact up _ (by decide)
    | exact ub _ (by decide)
    | exact fun _ => ub _ (by decide)
    | intro _
    | with_reducible (apply forEach_does)
    | with_reducible (apply State.raise_does)
    | with_reducible (apply State.inc_does)
    | with_reducible (apply State.setEq_does)
    | with_reducible (apply Does.ite)
    | (fail_if_no_progress extract_lets)
    | (fail_if_no_progress (with_reducible refine Does.mk' ?_ (by with_reducible rfl)))
    | split
    | dsimp only

theorem State.correctFrame_does {W : Nat} {o : State} {s : State} (x1 : EFrm) (hW : Within 0x20000200000000000000000000000000000000000000000000000000001800003030000000000000000000000000000000000000000010000001000000000000000000070000000000000000000000000000000000000000000000000000000000000000000000000000000000000000000000000000000000000000000000000 W) (h : Does W o s) :
    Does W o (State.correctFrame s x1).2 := by
  have up := hW.up
  have ub := hW.ub
  unfold State.correctFrame
  repeat' first
    | with_reducible assumption
    | exact up _ (by decide)
    | exact ub _ (by decide)
    | exact fun _ => ub _ (by decide)
    | intro _
    | with_reducible (apply State.correct_does)
    | with_reducible (apply Does.ite)
    | (fail_if_no_progress extract_lets)
    | (fail_if_no_progress (with_reducible refine Does.mk' ?_ (by with_reducible rfl)))
    | split
    | dsimp only

theorem State.startFrame_does {W : Nat} {o : State} {s : State} (x1 : Nat) (x2 : Nat) (x3 : EFrm) (x4 : List EFrm) (hW : Within 0x20180200000000000000000000000000000000000020000000000000001800003030000000000000000000000000000000000000000010000001000000000000000000070000000000000000000000000000000000000000000000000000c00000000000c00000800000000000000000000000000000000000000000000000000 W) (h : Does W o s) :
    Does W o (State.startFrame s x1 x2 x3 x4) := by
  have up := hW.up
  have ub := hW.ub
  unfold State.startFrame
  repeat' first
    | with_reducible assumption
    | exact up _ (by decide)
    | exact ub _ (by decide)
    | exact fun _ => ub _ (by decide)
    | intro _
    | with_reducible (apply State.debit_does)
    | with_reducible (apply State.setEq_does)
    | with_reducible (apply State.correctFrame_does)
    | with_reducible (apply State.setTb_does)
    | with_reducible (apply State.emit_does)
    | with_reducible (apply State.nibble_does)
    | with_reducible (apply State.setPort_does)
    | with_reducible (apply Does.ite)
    | (fail_if_no_progress extract_lets)
    | (fail_if_no_progress (with_reducible refine Does.mk' ?_ (by with_reducible rfl)))
    | split
    | dsimp only

theorem egressFrameStart_does {W : Nat} {o : State} (x0 : Nat) {s : State} (hW : Within 0x20180a00000000000000000000000000000000000020000000000000001800003030000000000000000000000000000000000000000010000001000000000000000000070000000000000000000000000000000000800000000000000000c00000000000c00000800000000000000000000000000000000000000000000200000 W) (h : Does W o s) :
    Does W o (egressFrameStart x0 s) := by
  have up := hW.up
  have ub := hW.ub
  unfold egressFrameStart
  repeat' first
    | with_reducible assumption
    | exact up _ (by decide)
    | exact ub _ (by decide)
    | exact fun _ => ub _ (by decide)
    | intro _
    | with_reducible (apply State.advance_does)
    | with_reducible (apply State.nibble_does)
    | with_reducible (apply State.setEq_does)
    | with_reducible (apply State.setPort_does)
    | with_reducible (apply State.dropTooBig_does)
    | with_reducible (apply State.startFrame_does)
    | with_reducible (apply Does.ite)
    | (fail_if_no_progress extract_lets)
    | (fail_if_no_progress (with_reducible refine Does.mk' ?_ (by with_reducible rfl)))
    | split
    | dsimp only

end Sys2Proof.Machine
end

