-- ==== Sys2Proof/Laws/DVatOps.lean ====
section
/-! SUPPORT. What the operations of VatOps can change. -/

set_option linter.unreachableTactic false
set_option linter.unusedTactic false
set_option linter.unusedVariables false
set_option Elab.async false

namespace Sys2Proof.Machine

theorem State.setVcl_does {W : Nat} {o : State} {s : State} (x1 : Nat) (x2 : VCluster) (hW : Within 0x400000000000000000000000000000000000000000000000000000000000000000000000000000000000000000000000000000000000000000000000000000000000000000000000000000000000000000000000000000000000000000000000000000000000000000000000000000000000000000000000000000000000000 W) (h : Does W o s) :
    Does W o (State.setVcl s x1 x2) := by
  have up := hW.up
  have ub := hW.ub
  have b1018 := ub 1018 (by decide)
  unfold State.setVcl
  repeat' first
    | with_reducible assumption
    | exact up _ (by decide)
    | exact ub _ (by decide)
    | exact fun _ => ub _ (by decide)
    | intro _
    | with_reducible (apply Does.ite)
    | (fail_if_no_progress extract_lets)
    | (fail_if_no_progress (with_reducible refine Does.mk' ?_ (by with_reducible rfl)))

theorem State.mapVcl_does {W : Nat} {o : State} {s : State} (x1 : Nat) (x2 : VCluster → VCluster) (hW : Within 0x400000000000000000000000000000000000000000000000000000000000000000000000000000000000000000000000000000000000000000000000000000000000000000000000000000000000000000000000000000000000000000000000000000000000000000000000000000000000000000000000000000000000000 W) (h : Does W o s) :
    Does W o (State.mapVcl s x1 x2) := by
  have up := hW.up
  have ub := hW.ub
  unfold State.mapVcl
  repeat' first
    | with_reducible assumption
    | exact up _ (by decide)
    | exact ub _ (by decide)
    | exact fun _ => ub _ (by decide)
    | intro _
    | with_reducible (apply State.setVcl_does)
    | with_reducible (apply Does.ite)
    | (fail_if_no_progress extract_lets)
    | (fail_if_no_progress (with_reducible refine Does.mk' ?_ (by with_reducible rfl)))

theorem State.mapVu_does {W : Nat} {o : State} {s : State} (x1 : Nat) (x2 : Nat) (x3 : VUnit → VUnit) (hW : Within 0x400000000000000000000000000000000000000000000000000000000000000000000000000000000000000000000000000000000000000000000000000000000000000000000000000000000000000000000000000000000000000000000000000000000000000000000000000000000000000000000000000000000000000 W) (h : Does W o s) :
    Does W o (State.mapVu s x1 x2 x3) := by
  have up := hW.up
  have ub := hW.ub
  have b1018 := ub 1018 (by decide)
  unfold State.mapVu
  repeat' first
    | with_reducible assumption
    | exact up _ (by decide)
    | exact ub _ (by decide)
    | exact fun _ => ub _ (by decide)
    | intro _
    | with_reducible (apply Does.ite)
    | (fail_if_no_progress extract_lets)
    | (fail_if_no_progress (with_reducible refine Does.mk' ?_ (by with_reducible rfl)))

theorem State.setPgm_does {W : Nat} {o : State} {s : State} (x1 : Nat) (x2 : Nat) (x3 : Nat) (hW : Within 0x400000000000000000000000000000000000000000000000000000000000000000000000000000000000000000000000000000000000000000000000000000000000000000000000000000000000000000000000000000000000000000000000000000000000000000000000000000000000000000000000000000000000000 W) (h : Does W o s) :
    Does W o (State.setPgm s x1 x2 x3) := by
  have up := hW.up
  have ub := hW.ub
  unfold State.setPgm
  repeat' first
    | with_reducible assumption
    | exact up _ (by decide)
    | exact ub _ (by decide)
    | exact fun _ => ub _ (by decide)
    | intro _
    | with_reducible (apply State.mapVcl_does)
    | with_reducible (apply Does.ite)
    | (fail_if_no_progress extract_lets)
    | (fail_if_no_progress (with_reducible refine Does.mk' ?_ (by with_reducible rfl)))

theorem State.coefStore_does {W : Nat} {o : State} {s : State} (x1 : Nat) (x2 : Nat) (x3 : Nat) (hW : Within 0x800000000000000000000000000000000000000000000000000000000000000000000000000000001000000000000000000000000000000000000000000000000000000000000000000000000000000000000000000000000000000000000000000000000000000000000000 W) (h : Does W o s) :
    Does W o (State.coefStore s x1 x2 x3) := by
  have up := hW.up
  have ub := hW.ub
  unfold State.coefStore
  repeat' first
    | with_reducible assumption
    | exact up _ (by decide)
    | exact ub _ (by decide)
    | exact fun _ => ub _ (by decide)
    | intro _
    | with_reducible (apply State.inc_does)
    | with_reducible (apply State.wr_does)
    | with_reducible (apply Does.ite)
    | (fail_if_no_progress extract_lets)
    | (fail_if_no_progress (with_reducible refine Does.mk' ?_ (by with_reducible rfl)))

theorem State.uBankStore_does {W : Nat} {o : State} {s : State} (x1 : Nat) (x2 : Nat) (x3 : Nat) (hW : Within 0x400000000000000000000000000000000000000000000000000000000000000000000000000000000000000000000000000000000000000000000000000000000000000000000000000000000000000000000000000000000000000000000000000000000000000000000000000000000000000000000000000000000000000 W) (h : Does W o s) :
    Does W o (State.uBankStore s x1 x2 x3) := by
  have up := hW.up
  have ub := hW.ub
  have b1018 := ub 1018 (by decide)
  unfold State.uBankStore
  repeat' first
    | with_reducible assumption
    | exact up _ (by decide)
    | exact ub _ (by decide)
    | exact fun _ => ub _ (by decide)
    | intro _
    | with_reducible (apply Does.ite)
    | (fail_if_no_progress extract_lets)
    | (fail_if_no_progress (with_reducible refine Does.mk' ?_ (by with_reducible rfl)))

theorem State.commitBank_does {W : Nat} {o : State} {s : State} (x1 : Nat) (x2 : Nat) (hW : Within 0x402000000000000000000000000000000000000000000000000000000000000000000000000000000000000000000000000000000000000000000000000000000000000000000000000000000000000000000000000000000000000000000000000000000000000000000000000000000000000000000004000000000000000 W) (h : Does W o s) :
    Does W o (State.commitBank s x1 x2) := by
  have up := hW.up
  have ub := hW.ub
  have b1009 := ub 1009 (by decide)
  have b1018 := ub 1018 (by decide)
  unfold State.commitBank
  repeat' first
    | with_reducible assumption
    | exact up _ (by decide)
    | exact ub _ (by decide)
    | exact fun _ => ub _ (by decide)
    | intro _
    | with_reducible (apply State.flag_does)
    | with_reducible (apply Does.ite)
    | (fail_if_no_progress extract_lets)
    | (fail_if_no_progress (with_reducible refine Does.mk' ?_ (by with_reducible rfl)))

theorem State.lmsCommit_does {W : Nat} {o : State} {s : State} (x1 : Nat) (x2 : Nat) (x3 : List (Nat × Nat)) (hW : Within 0x40000000000000000000000000000000000000000000000000000000000000000000000000000000000000000000000000000000000000000000000000000000000000000000000000000000000000000000000000000000000000000000000000000000000000000000000000000000000000000007f800000000000000000 W) (h : Does W o s) :
    Does W o (State.lmsCommit s x1 x2 x3) := by
  have up := hW.up
  have ub := hW.ub
  have b1018 := ub 1018 (by decide)
  unfold State.lmsCommit
  repeat' first
    | with_reducible assumption
    | exact up _ (by decide)
    | exact ub _ (by decide)
    | exact fun _ => ub _ (by decide)
    | intro _
    | with_reducible (unfold lmsFld)
    | with_reducible (apply State.wr_does)
    | with_reducible (apply Does.ite)
    | with_reducible (apply Does.foldl)
    | (fail_if_no_progress extract_lets)
    | (fail_if_no_progress (with_reducible refine Does.mk' ?_ (by with_reducible rfl)))
    | split
    | dsimp +zetaDelta only

theorem State.cdStep_does {W : Nat} {o : State} {s : State} (x1 : Nat) (x2 : Int) (hW : Within 0x400000000000000000000000000000000000000000000000000000000000000000000000000000000000000000000000000000000000000000000000000000000000000000000000000000000000000000000000000000000000000000000000000000000000000000000000000000000000000000000000000060000000000 W) (h : Does W o s) :
    Does W o (State.cdStep s x1 x2) := by
  have up := hW.up
  have ub := hW.ub
  have b1018 := ub 1018 (by decide)
  unfold State.cdStep
  repeat' first
    | with_reducible assumption
    | exact up _ (by decide)
    | exact ub _ (by decide)
    | exact fun _ => ub _ (by decide)
    | intro _
    | with_reducible (apply State.wrS_does)
    | with_reducible (apply Does.ite)
    | (fail_if_no_progress extract_lets)
    | (fail_if_no_progress (with_reducible refine Does.mk' ?_ (by with_reducible rfl)))
    | split
    | dsimp only

theorem State.tbCommit_does {W : Nat} {o : State} {s : State} (x1 : Nat) (x2 : List (Nat × Nat)) (hW : Within 0x100000000000000000000000000000000000000000000000000000000000000000000000000000000000000000000000000000000000000000000000000000000400000000000000000000000000000000000000000000000000000000000000000000000000000000000000000000000000000000000000000000000000000 W) (h : Does W o s) :
    Does W o (State.tbCommit s x1 x2) := by
  have up := hW.up
  have ub := hW.ub
  unfold State.tbCommit
  repeat' first
    | with_reducible assumption
    | exact up _ (by decide)
    | exact ub _ (by decide)
    | exact fun _ => ub _ (by decide)
    | intro _
    | with_reducible (apply State.tbFreq_does)
    | with_reducible (apply State.tbSlew_does)
    | with_reducible (apply Does.ite)
    | (fail_if_no_progress extract_lets)
    | (fail_if_no_progress (with_reducible refine Does.mk' ?_ (by with_reducible rfl)))

theorem State.commitPort_does {W : Nat} {o : State} {s : State} (x1 : Nat) (x2 : Nat) (x3 : Nat) (hW : Within 0x2050220000000000000000000000000000000000000000000000000000180000303000000000000000000000000000000000000000001000000100000100000000040000000000000000000000000000000000000000000000000000000000000000000000000000000000000000000000000000000007f804000060000000000 W) (h : Does W o s) :
    Does W o (State.commitPort s x1 x2 x3) := by
  have up := hW.up
  have ub := hW.ub
  have b1018 := ub 1018 (by decide)
  unfold State.commitPort
  repeat' first
    | with_reducible assumption
    | exact up _ (by decide)
    | exact ub _ (by decide)
    | exact fun _ => ub _ (by decide)
    | intro _
    | with_reducible (apply State.perf_does)
    | with_reducible (apply State.mapVu_does)
    | with_reducible (apply State.inc_does)
    | with_reducible (apply State.commitBank_does)
    | with_reducible (apply State.lmsCommit_does)
    | with_reducible (apply State.cdStep_does)
    | with_reducible (apply State.tbCommit_does)
    | with_reducible (apply Does.ite)
    | (fail_if_no_progress extract_lets)
    | (fail_if_no_progress (with_reducible refine Does.mk' ?_ (by with_reducible rfl)))
    | split
    | dsimp only

theorem State.portStore_does {W : Nat} {o : State} {s : State} (x1 : Nat) (x2 : Nat) (x3 : Nat) (x4 : Nat) (x5 : Nat) (hW : Within 0x2050220000000000000000000000000000000000080000000000000000180000303000000000000000000000000000000000000000001000000100000100000000040000000000000000000000000000000000000000000000000000000000000000000000000000000000000000000000000000000007f804000060000000000 W) (h : Does W o s) :
    Does W o (State.portStore s x1 x2 x3 x4 x5) := by
  have up := hW.up
  have ub := hW.ub
  unfold State.portStore
  repeat' first
    | with_reducible assumption
    | exact up _ (by decide)
    | exact ub _ (by decide)
    | exact fun _ => ub _ (by decide)
    | intro _
    | with_reducible (apply State.perf_does)
    | with_reducible (apply State.commitPort_does)
    | with_reducible (apply State.coefStore_does)
    | with_reducible (apply State.uBankStore_does)
    | with_reducible (apply State.mapVu_does)
    | with_reducible (apply Does.ite)
    | (fail_if_no_progress extract_lets)
    | (fail_if_no_progress (with_reducible refine Does.mk' ?_ (by with_reducible rfl)))
    | split
    | dsimp only

theorem State.land_does {W : Nat} {o : State} {s : State} (x1 : Nat) (x2 : Nat) (x3 : Bool × Nat × Nat) (hW : Within 0x2050220000000000000000000000000000000000080000000000000000180000303000000000000000000000000000000000000000001000000100000100000000040000000000000000000000000000000000000000000000000000000000000000000000000000000000000000000000000000000007f804000060000000000 W) (h : Does W o s) :
    Does W o (State.land s x1 x2 x3) := by
  have up := hW.up
  have ub := hW.ub
  unfold State.land
  repeat' first
    | with_reducible assumption
    | exact up _ (by decide)
    | exact ub _ (by decide)
    | exact fun _ => ub _ (by decide)
    | intro _
    | with_reducible (apply State.mapVu_does)
    | with_reducible (apply State.portStore_does)
    | with_reducible (apply Does.ite)
    | (fail_if_no_progress extract_lets)
    | (fail_if_no_progress (with_reducible refine Does.mk' ?_ (by with_reducible rfl)))

theorem State.drainVat_does {W : Nat} {o : State} {s : State} (x1 : Nat) (hW : Within 0x2050220000000000000000000000000000000000080000000000000000180000303000000000000000000000000000000000000000001000000100000100000000040000000000000000000000000000000000000000000000000000000000000000000000000000000000000000000000000000000007f804000060000000000 W) (h : Does W o s) :
    Does W o (State.drainVat s x1) := by
  have up := hW.up
  have ub := hW.ub
  unfold State.drainVat
  repeat' first
    | with_reducible assumption
    | exact up _ (by decide)
    | exact ub _ (by decide)
    | exact fun _ => ub _ (by decide)
    | intro _
    | with_reducible (apply State.mapVcl_does)
    | with_reducible (apply forEach_does)
    | with_reducible (apply State.land_does)
    | with_reducible (apply State.mapVu_does)
    | with_reducible (apply Does.ite)
    | (fail_if_no_progress extract_lets)
    | (fail_if_no_progress (with_reducible refine Does.mk' ?_ (by with_reducible rfl)))

theorem State.startKernel_does {W : Nat} {o : State} {s : State} (x1 : Nat) (x2 : VStart) (hW : Within 0x20400200000000000000000000000000000000000000000000000000001800003030000000000000000000000000000000000000000010000003702000000000000000000000000000000000000000000000000000000000000000000000000000000000000000000000000000000000000000000000000000000000000000000 W) (h : Does W o s) :
    Does W o (State.startKernel s x1 x2) := by
  have up := hW.up
  have ub := hW.ub
  unfold State.startKernel
  repeat' first
    | with_reducible assumption
    | exact up _ (by decide)
    | exact ub _ (by decide)
    | exact fun _ => ub _ (by decide)
    | intro _
    | with_reducible (apply State.mapVcl_does)
    | with_reducible (apply forEach_does)
    | with_reducible (apply State.mapVu_does)
    | with_reducible (apply State.wr_does)
    | with_reducible (apply State.perf_does)
    | with_reducible (apply State.inc_does)
    | with_reducible (apply Does.ite)
    | (fail_if_no_progress extract_lets)
    | (fail_if_no_progress (with_reducible refine Does.mk' ?_ (by with_reducible rfl)))

theorem State.launchBusy_does {W : Nat} {o : State} {s : State} (x1 : Nat) (hW : Within 0x20000200000000000000000000000000000000000000000000000000001800003030000000000000000000000000000000000000000010000005000000000000000000000000000000000000000000000000000000000000000000000000000000000000000000000000000000000000000000000000000000000000000000000 W) (h : Does W o s) :
    Does W o (State.launchBusy s x1) := by
  have up := hW.up
  have ub := hW.ub
  unfold State.launchBusy
  repeat' first
    | with_reducible assumption
    | exact up _ (by decide)
    | exact ub _ (by decide)
    | exact fun _ => ub _ (by decide)
    | intro _
    | with_reducible (apply State.raise_does)
    | with_reducible (apply State.inc_does)
    | with_reducible (apply Does.ite)
    | (fail_if_no_progress extract_lets)
    | (fail_if_no_progress (with_reducible refine Does.mk' ?_ (by with_reducible rfl)))

theorem State.vatGiveLeave_does {W : Nat} {o : State} {s : State} (x1 : Nat) (hW : Within 0x800000000000000000000000000000000000000000000000000000000000000000000a00000000000000000000000000000000000000000000000000000000000000000000000000000000000000000000000000000000000000000000000000000000000000000000000000000000000000000000000000000000000000000 W) (h : Does W o s) :
    Does W o (State.vatGiveLeave s x1) := by
  have up := hW.up
  have ub := hW.ub
  unfold State.vatGiveLeave
  repeat' first
    | with_reducible assumption
    | exact up _ (by decide)
    | exact ub _ (by decide)
    | exact fun _ => ub _ (by decide)
    | intro _
    | with_reducible (apply State.giveLeave_does)
    | with_reducible (apply Does.ite)
    | (fail_if_no_progress extract_lets)
    | (fail_if_no_progress (with_reducible refine Does.mk' ?_ (by with_reducible rfl)))

theorem State.vatGiveNext_does {W : Nat} {o : State} {s : State} (x1 : Nat) (hW : Within 0x800000000000000000000000000000000000000000000000000000000000000000000a00000000000000000000000000000000000000000000000000000000000000000000000000000000000000000000000000000000000000000000000000000000000000000000000000000000000000000000000000000000000000000 W) (h : Does W o s) :
    Does W o (State.vatGiveNext s x1) := by
  have up := hW.up
  have ub := hW.ub
  unfold State.vatGiveNext
  repeat' first
    | with_reducible assumption
    | exact up _ (by decide)
    | exact ub _ (by decide)
    | exact fun _ => ub _ (by decide)
    | intro _
    | with_reducible (apply State.giveLeave_does)
    | with_reducible (apply Does.ite)
    | with_reducible (apply Does.foldl)
    | with_reducible (apply Does.foldl_snd)
    | with_reducible (apply Does.foldl_snd2)
    | with_reducible (apply Does.foldl_fst)
    | (fail_if_no_progress extract_lets)
    | (fail_if_no_progress (with_reducible refine Does.mk' ?_ (by with_reducible rfl)))
    | (with_reducible (refine Does.snd (by assumption) ?_))
    | (with_reducible (refine Does.snd2 (by assumption) ?_))
    | (with_reducible (refine Does.fst (by assumption) ?_))
    | split
    | dsimp only
    | dsimp +zetaDelta only

theorem State.startOrWait_does {W : Nat} {o : State} {s : State} (x1 : Nat) (x2 : VStart) (hW : Within 0x20c00200000000000000000000000000000000000000000000000000001800003030003a00000000000000000000000000000000000010000003702000000000000000000000000000000000000000000000000000000000000000000000000000000000000000000000000000000000000000000000000000000000000000000 W) (h : Does W o s) :
    Does W o (State.startOrWait s x1 x2) := by
  have up := hW.up
  have ub := hW.ub
  unfold State.startOrWait
  repeat' first
    | with_reducible assumption
    | exact up _ (by decide)
    | exact ub _ (by decide)
    | exact fun _ => ub _ (by decide)
    | intro _
    | with_reducible (apply State.startKernel_does)
    | with_reducible (apply State.askLeave_does)
    | with_reducible (apply State.wr_does)
    | with_reducible (apply State.mapVcl_does)
    | with_reducible (apply Does.ite)
    | (fail_if_no_progress extract_lets)
    | (fail_if_no_progress (with_reducible refine Does.mk' ?_ (by with_reducible rfl)))
    | (with_reducible (refine Does.snd (by assumption) ?_))
    | (with_reducible (refine Does.fst (by assumption) ?_))
    | split
    | dsimp only
    | dsimp +zetaDelta only

theorem State.goKernel_does {W : Nat} {o : State} {s : State} (x1 : Nat) (x2 : Nat) (hW : Within 0x20c00200000000000000000000000000000000000000000000000000001800003030003a00000000000000000000000000000000000010000007702000000000000000000000000000000000000000000000000000000000000000000000000000000000000000000000000000000000000000000000000000000000000000000 W) (h : Does W o s) :
    Does W o (State.goKernel s x1 x2) := by
  have up := hW.up
  have ub := hW.ub
  unfold State.goKernel
  repeat' first
    | with_reducible assumption
    | exact up _ (by decide)
    | exact ub _ (by decide)
    | exact fun _ => ub _ (by decide)
    | intro _
    | with_reducible (apply State.launchBusy_does)
    | with_reducible (apply State.startOrWait_does)
    | with_reducible (apply Does.ite)
    | (fail_if_no_progress extract_lets)
    | (fail_if_no_progress (with_reducible refine Does.mk' ?_ (by with_reducible rfl)))

theorem State.launchSlot_does {W : Nat} {o : State} {s : State} (x1 : Nat) (hW : Within 0x20c00200000000000000000000000000000000000000000000000000001800003030003a00000000000000000000000000000000000010000007702000800000000000000000000000000000000000000000000000000000000000000000000000000000000000000000000000000000000000000000000000000000000000000 W) (h : Does W o s) :
    Does W o (State.launchSlot s x1) := by
  have up := hW.up
  have ub := hW.ub
  unfold State.launchSlot
  repeat' first
    | with_reducible assumption
    | exact up _ (by decide)
    | exact ub _ (by decide)
    | exact fun _ => ub _ (by decide)
    | intro _
    | with_reducible (apply State.inc_does)
    | with_reducible (apply forEach_does)
    | with_reducible (apply State.goKernel_does)
    | with_reducible (apply Does.ite)
    | (fail_if_no_progress extract_lets)
    | (fail_if_no_progress (with_reducible refine Does.mk' ?_ (by with_reducible rfl)))

theorem State.vatLaunch_does {W : Nat} {o : State} {s : State} (x1 : Nat) (x2 : Nat) (hW : Within 0x400000000000000000000000000000000000000000000000000000000000000000000000000000000000000000000000000000000000000000000000800000000000000000000000000000000000000000000000000000000000000000000000000000000000000000000000000000000000000000000000000000000000000 W) (h : Does W o s) :
    Does W o (State.vatLaunch s x1 x2) := by
  have up := hW.up
  have ub := hW.ub
  have b1018 := ub 1018 (by decide)
  unfold State.vatLaunch
  repeat' first
    | with_reducible assumption
    | exact up _ (by decide)
    | exact ub _ (by decide)
    | exact fun _ => ub _ (by decide)
    | intro _
    | with_reducible (apply State.inc_does)
    | with_reducible (apply Does.ite)
    | (fail_if_no_progress extract_lets)
    | (fail_if_no_progress (with_reducible refine Does.mk' ?_ (by with_reducible rfl)))

theorem State.endKernel_does {W : Nat} {o : State} {s : State} (x1 : Nat) (x2 : Nat) (hW : Within 0x20d02200000000000000000000000000000000000800000000000000001800003030000a0000000000000000000000000000000000001000000180200100000000040000000000000000000000000000000000000000000000000000000000000000000000000000000000000000000000000000000007f804000060000000000 W) (h : Does W o s) :
    Does W o (State.endKernel s x1 x2) := by
  have up := hW.up
  have ub := hW.ub
  unfold State.endKernel
  repeat' first
    | with_reducible assumption
    | exact up _ (by decide)
    | exact ub _ (by decide)
    | exact fun _ => ub _ (by decide)
    | intro _
    | with_reducible (apply State.when_does)
    | with_reducible (apply State.wr_does)
    | with_reducible (apply State.drainVat_does)
    | with_reducible (apply State.vatGiveLeave_does)
    | with_reducible (apply State.mapVcl_does)
    | with_reducible (apply Does.ite)
    | (fail_if_no_progress extract_lets)
    | (fail_if_no_progress (with_reducible refine Does.mk' ?_ (by with_reducible rfl)))

theorem State.vatFault_does {W : Nat} {o : State} {s : State} (x1 : Nat) (x2 : Nat) (x3 : Nat) (hW : Within 0x29d1a2000000000000000000000000000000000008000000000000fff07ff80370300fca0000000000000000000000000000000000001000000180200100000000040000000000000000000000000000000000000000000006040000000000000000000000000000000000068000000002000000000007f804000060000000000 W) (h : Does W o s) :
    Does W o (State.vatFault s x1 x2 x3) := by
  have up := hW.up
  have ub := hW.ub
  unfold State.vatFault
  repeat' first
    | with_reducible assumption
    | exact up _ (by decide)
    | exact ub _ (by decide)
    | exact fun _ => ub _ (by decide)
    | intro _
    | with_reducible (apply State.fault_does)
    | with_reducible (apply State.endKernel_does)
    | with_reducible (apply Does.ite)
    | (fail_if_no_progress extract_lets)
    | (fail_if_no_progress (with_reducible refine Does.mk' ?_ (by with_reducible rfl)))

theorem State.regionOff_does {W : Nat} {o : State} {s : State} (x1 : Nat) (hW : Within 0x20d02200000000000000000000000000000000000800000000000000001800003030000a0000000000000000000000000000000000001000000180200100000000040000000000000000000000000000000000000000000000000000000000000000000000000000000000000000000000000000000007f804000060000000000 W) (h : Does W o s) :
    Does W o (State.regionOff s x1) := by
  have up := hW.up
  have ub := hW.ub
  have b1018 := ub 1018 (by decide)
  unfold State.regionOff
  repeat' first
    | with_reducible assumption
    | exact up _ (by decide)
    | exact ub _ (by decide)
    | exact fun _ => ub _ (by decide)
    | intro _
    | with_reducible (apply forEach_does)
    | with_reducible (apply State.mapVcl_does)
    | with_reducible (apply State.vatGiveNext_does)
    | with_reducible (apply State.endKernel_does)
    | with_reducible (apply Does.ite)
    | (fail_if_no_progress extract_lets)
    | (fail_if_no_progress (with_reducible refine Does.mk' ?_ (by with_reducible rfl)))

theorem State.regionOn_does {W : Nat} {o : State} {s : State} (x1 : Nat) (hW : Within 0x2000000000000000000000000000000000000000000000000000000000000000000000000000000000000000000000000000000000000000000000000000000000000000000 W) (h : Does W o s) :
    Does W o (State.regionOn s x1) := by
  have up := hW.up
  have ub := hW.ub
  unfold State.regionOn
  repeat' first
    | with_reducible assumption
    | exact up _ (by decide)
    | exact ub _ (by decide)
    | exact fun _ => ub _ (by decide)
    | intro _
    | with_reducible (apply forEach_does)
    | with_reducible (apply State.wr_does)
    | with_reducible (apply Does.ite)
    | (fail_if_no_progress extract_lets)
    | (fail_if_no_progress (with_reducible refine Does.mk' ?_ (by with_reducible rfl)))

theorem State.regions_does {W : Nat} {o : State} {s : State} (x1 : Nat) (hW : Within 0x20d02200000000000000000000000000000000000800000000000000001800003030000f8000000000000000000000000000000000001000000180200104000000040000000000000000000000000000000000000000000000000000000000000000000000000000000000000000000000000000000007f804000060000000000 W) (h : Does W o s) :
    Does W o (State.regions s x1) := by
  have up := hW.up
  have ub := hW.ub
  unfold State.regions
  repeat' first
    | with_reducible assumption
    | exact up _ (by decide)
    | exact ub _ (by decide)
    | exact fun _ => ub _ (by decide)
    | intro _
    | with_reducible (apply State.wr_does)
    | with_reducible (apply State.showPower_does)
    | with_reducible (apply forEach_does)
    | with_reducible (apply State.regionOff_does)
    | with_reducible (apply State.regionOn_does)
    | with_reducible (apply Does.ite)
    | (fail_if_no_progress extract_lets)
    | (fail_if_no_progress (with_reducible refine Does.mk' ?_ (by with_reducible rfl)))

theorem State.vatCycles_does {W : Nat} {o : State} {s : State} (x1 : Nat) (x2 : Nat) (hW : Within 0x20400200000000000000000000000000000000000000000000000000001800003030000000000000000000000000000000000000000010000001000000000000000000000000000000000000000000000000000000000000000000000000000000000000000000000000000000000000000000000000000000000000000000000 W) (h : Does W o s) :
    Does W o (State.vatCycles s x1 x2) := by
  have up := hW.up
  have ub := hW.ub
  unfold State.vatCycles
  repeat' first
    | with_reducible assumption
    | exact up _ (by decide)
    | exact ub _ (by decide)
    | exact fun _ => ub _ (by decide)
    | intro _
    | with_reducible (apply State.perf_does)
    | with_reducible (apply State.mapVcl_does)
    | with_reducible (apply Does.ite)
    | with_reducible (apply Does.foldl)
    | (fail_if_no_progress extract_lets)
    | (fail_if_no_progress (with_reducible refine Does.mk' ?_ (by with_reducible rfl)))
    | split
    | dsimp +zetaDelta only

theorem State.vatGoBody_does {W : Nat} {o : State} {s : State} (x1 : Nat) (x2 : List VLoop) (x3 : Nat) (hW : Within 0x29d1a2000000000000000000000000000000000008000000000000fff07ff80370300fca0000000000000000000000000000000000001000000190200100000000040000000000000000000000000000000000000000000006040000000000000000000000000000000000068000000002000000000007f804000060000000000 W) (h : Does W o s) :
    Does W o (State.vatGo_ s x1 x2 x3) := by
  have up := hW.up
  have ub := hW.ub
  unfold State.vatGo_
  repeat' first
    | with_reducible assumption
    | exact up _ (by decide)
    | exact ub _ (by decide)
    | exact fun _ => ub _ (by decide)
    | intro _
    | with_reducible (apply State.mapVcl_does)
    | with_reducible (apply State.vatFault_does)
    | with_reducible (apply State.wr_does)
    | with_reducible (apply Does.ite)
    | (fail_if_no_progress extract_lets)
    | (fail_if_no_progress (with_reducible refine Does.mk' ?_ (by with_reducible rfl)))

theorem State.vatNext_does {W : Nat} {o : State} {s : State} (x1 : Nat) (x2 : Nat) (x3 : Goes) (hW : Within 0x29d1a2000000000000000000000000000000000008000000000000fff07ff80370300fca0000000000000000000000000000000000001000000190200100000000040000000000000000000000000000000000000000000006040000000000000000000000000000000000068000000002000000000007f804000060000000000 W) (h : Does W o s) :
    Does W o (State.vatNext s x1 x2 x3) := by
  have up := hW.up
  have ub := hW.ub
  unfold State.vatNext
  repeat' first
    | with_reducible assumption
    | exact up _ (by decide)
    | exact ub _ (by decide)
    | exact fun _ => ub _ (by decide)
    | intro _
    | with_reducible (apply State.vatGoBody_does)
    | with_reducible (apply State.vatCycles_does)
    | with_reducible (apply State.wr_does)
    | with_reducible (apply State.mapVcl_does)
    | with_reducible (apply State.raiseIf_does)
    | with_reducible (apply State.endKernel_does)
    | with_reducible (apply Does.ite)
    | with_reducible (apply Does.foldl)
    | (fail_if_no_progress extract_lets)
    | (fail_if_no_progress (with_reducible refine Does.mk' ?_ (by with_reducible rfl)))
    | split
    | dsimp +zetaDelta only

theorem State.vatShift_does {W : Nat} {o : State} {s : State} (x1 : Nat) (x2 : List Nat) (x3 : List (Nat × List (Nat × Nat) × Nat)) (x4 : List (Nat × List (Bool × Nat × Nat))) (hW : Within 0x2050220000000000000000000000000000000000080000000000000000180000303000000000000000000000000000000000000000001000000100000100000000040000000000000000000000000000000000000000000000000000000000000000000000000000000000000000000000000000000007f804000060000000000 W) (h : Does W o s) :
    Does W o (State.vatShift s x1 x2 x3 x4) := by
  have up := hW.up
  have ub := hW.ub
  unfold State.vatShift
  repeat' first
    | with_reducible assumption
    | exact up _ (by decide)
    | exact ub _ (by decide)
    | exact fun _ => ub _ (by decide)
    | intro _
    | with_reducible (apply State.mapVcl_does)
    | with_reducible (apply forEach_does)
    | with_reducible (apply State.land_does)
    | with_reducible (apply State.mapVu_does)
    | with_reducible (apply Does.ite)
    | (fail_if_no_progress extract_lets)
    | (fail_if_no_progress (with_reducible refine Does.mk' ?_ (by with_reducible rfl)))

theorem State.issue_does {W : Nat} {o : State} {s : State} (x1 : Nat) (x2 : Nat → Bool) (x3 : Bool) (x4 : Issue → State → Option Nat) (f5 : Issue → State → State) (x6 : Issue → State → Goes) (hW : Within 0x29d1a2000000000000000000000000000000000008000000000000fff07ff80370300fca0000000000000000000000000000000000001000000190200100000000040000000000000000000000000000000000000000000006040000000000000000000000000000000000068000000002000000000007f804000060000000000 W) (h : Does W o s) (hf5 : ∀ y0 y1, Does W o y1 → Does W o (f5 y0 y1)) :
    Does W o (State.issue s x1 x2 x3 x4 f5 x6) := by
  have up := hW.up
  have ub := hW.ub
  unfold State.issue
  repeat' first
    | with_reducible assumption
    | exact up _ (by decide)
    | exact ub _ (by decide)
    | exact fun _ => ub _ (by decide)
    | intro _
    | with_reducible (apply State.vatFault_does)
    | with_reducible (apply State.mapVcl_does)
    | with_reducible (apply State.perf_does)
    | with_reducible (apply State.vatCycles_does)
    | with_reducible (apply forEach_does)
    | with_reducible (apply State.mapVu_does)
    | with_reducible (apply State.vatNext_does)
    | with_reducible (apply State.vatShift_does)
    | with_reducible (apply hf5)
    | with_reducible (apply Does.ite)
    | (fail_if_no_progress extract_lets)
    | (fail_if_no_progress (with_reducible refine Does.mk' ?_ (by with_reducible rfl)))
    | split
    | dsimp only

end Sys2Proof.Machine
end

