-- ==== Sys2Proof/Laws/DCollector.lean ====
section
/-! SUPPORT. What the operations of Collector can change. -/

set_option linter.unreachableTactic false
set_option linter.unusedTactic false
set_option linter.unusedVariables false
set_option Elab.async false

namespace Sys2Proof.Machine

theorem State.busErrStops_does {W : Nat} {o : State} {s : State} (x1 : Nat) (x2 : Nat) (x3 : Nat) (hW : Within 0x20d02200000000000000000000000000000000000800000000000000001800003030000a0000000000000000000000000000000000001000000180200100000000040000000000000000000000000000000000000000000000000000000000000000000000000000000000000000000000000000000007f804000060000000000 W) (h : Does W o s) :
    Does W o (State.busErrStops s x1 x2 x3) := by
  have up := hW.up
  have ub := hW.ub
  unfold State.busErrStops
  repeat' first
    | with_reducible assumption
    | exact up _ (by decide)
    | exact ub _ (by decide)
    | exact fun _ => ub _ (by decide)
    | intro _
    | with_reducible (apply State.endKernel_does)
    | with_reducible (apply Does.ite)
    | (fail_if_no_progress extract_lets)
    | (fail_if_no_progress (with_reducible refine Does.mk' ?_ (by with_reducible rfl)))

theorem State.noteReport_does {W : Nat} {o : State} {s : State} (x1 : Rep) (hW : Within 0x20d022000000000000000000000000000000000008000000000000000018000030300f8a0000000000000000000000000000000000001000000180200100000000040000000000000000000000000000000000000000000000000000000000000000000000000000000000000000000000000000000007f804000060000000000 W) (h : Does W o s) :
    Does W o (State.noteReport s x1) := by
  have up := hW.up
  have ub := hW.ub
  unfold State.noteReport
  repeat' first
    | with_reducible assumption
    | exact up _ (by decide)
    | exact ub _ (by decide)
    | exact fun _ => ub _ (by decide)
    | intro _
    | with_reducible (apply State.perf_does)
    | with_reducible (apply State.localFault_does)
    | with_reducible (apply State.busErrStops_does)
    | with_reducible (apply Does.ite)
    | (fail_if_no_progress extract_lets)
    | (fail_if_no_progress (with_reducible refine Does.mk' ?_ (by with_reducible rfl)))

theorem faultReport_does {W : Nat} {o : State} (x0 : List Rep) {s : State} (hW : Within 0x39d1a2000000000000000000000000000000000008000000000000fff07ff80370300fca0000000000000000000000000000000000001000000180200100000000040000000000000000000000000000000000000000000006040000000000000000000000000000000000068000000002000000000007f804000060000000000 W) (h : Does W o s) :
    Does W o (faultReport x0 s) := by
  have up := hW.up
  have ub := hW.ub
  unfold faultReport
  repeat' first
    | with_reducible assumption
    | exact up _ (by decide)
    | exact ub _ (by decide)
    | exact fun _ => ub _ (by decide)
    | intro _
    | with_reducible (apply forEach_does)
    | with_reducible (apply State.noteReport_does)
    | with_reducible (apply State.reportUp_does)
    | with_reducible (apply Does.ite)
    | (fail_if_no_progress extract_lets)
    | (fail_if_no_progress (with_reducible refine Does.mk' ?_ (by with_reducible rfl)))

theorem recordClose_does {W : Nat} {o : State} (x0 : Nat) {s : State} (hW : Within 0x3000008000000000000000000000000000000000000000000000000000000000000000000000000000000000000000000000000000000000000000000000000000000000000000000000000000000000000000000000000000000000000000000000000000 W) (h : Does W o s) :
    Does W o (recordClose x0 s) := by
  have up := hW.up
  have ub := hW.ub
  unfold recordClose
  repeat' first
    | with_reducible assumption
    | exact up _ (by decide)
    | exact ub _ (by decide)
    | exact fun _ => ub _ (by decide)
    | intro _
    | with_reducible (apply State.showOpen_does)
    | with_reducible (apply State.wr_does)
    | with_reducible (apply Does.ite)
    | (fail_if_no_progress extract_lets)
    | (fail_if_no_progress (with_reducible refine Does.mk' ?_ (by with_reducible rfl)))

theorem State.errSettle_does {W : Nat} {o : State} {s : State} (hW : Within 0x8000000000000000000000000000000000000000000000000000000000000020000000000000000000000000000000000000000000000000000000000000000000000000000000000000000000000000000000000000000000000000000000000000000000000000000000000000000000000000000000000000000000000000 W) (h : Does W o s) :
    Does W o (State.errSettle s) := by
  have up := hW.up
  have ub := hW.ub
  have b1023 := ub 1023 (by decide)
  unfold State.errSettle
  repeat' first
    | with_reducible assumption
    | exact up _ (by decide)
    | exact ub _ (by decide)
    | exact fun _ => ub _ (by decide)
    | intro _
    | with_reducible (apply State.wr_does)
    | with_reducible (apply Does.ite)
    | (fail_if_no_progress extract_lets)
    | (fail_if_no_progress (with_reducible refine Does.mk' ?_ (by with_reducible rfl)))

theorem errWidthExpiry_does {W : Nat} {o : State} {s : State} (hW : Within 0x9000800000000000000000000000000000000000000000000000000000000020000000000000000000000000000000000000000000000000000000000000000000000000000000000000000000000000000000000000000000000000000000000000000000000000000000000000000000000000000000000000000000200000 W) (h : Does W o s) :
    Does W o (errWidthExpiry s) := by
  have up := hW.up
  have ub := hW.ub
  have b1020 := ub 1020 (by decide)
  unfold errWidthExpiry
  repeat' first
    | with_reducible assumption
    | exact up _ (by decide)
    | exact ub _ (by decide)
    | exact fun _ => ub _ (by decide)
    | intro _
    | with_reducible (apply State.advance_does)
    | with_reducible (apply State.errSettle_does)
    | with_reducible (apply Does.ite)
    | (fail_if_no_progress extract_lets)
    | (fail_if_no_progress (with_reducible refine Does.mk' ?_ (by with_reducible rfl)))
    | split
    | dsimp only

theorem errRel_does {W : Nat} {o : State} {s : State} (hW : Within 0x9000000000000000000000000000000000000000000000000000000000000020000000000000000000000000000000000000000000000000000000000000000000000000000000000000000000000000000000000000000000000000000000000000000000000000000000000000000000000000000000000000000000000000 W) (h : Does W o s) :
    Does W o (errRel s) := by
  have up := hW.up
  have ub := hW.ub
  have b1020 := ub 1020 (by decide)
  unfold errRel
  repeat' first
    | with_reducible assumption
    | exact up _ (by decide)
    | exact ub _ (by decide)
    | exact fun _ => ub _ (by decide)
    | intro _
    | with_reducible (apply State.errSettle_does)
    | with_reducible (apply Does.ite)
    | (fail_if_no_progress extract_lets)
    | (fail_if_no_progress (with_reducible refine Does.mk' ?_ (by with_reducible rfl)))

theorem State.clrRefused_does {W : Nat} {o : State} {s : State} (x1 : Nat) (hW : Within 0x200002000000000000000000000000000000000000000000000000000018000c3030000000000000000000000000000000000000000010000001000000000000000000000000000000000000000000000000000000000000000000000000000000000000000000000000000000000000000000000000000000000000000000000 W) (h : Does W o s) :
    Does W o (State.clrRefused s x1) := by
  have up := hW.up
  have ub := hW.ub
  unfold State.clrRefused
  repeat' first
    | with_reducible assumption
    | exact up _ (by decide)
    | exact ub _ (by decide)
    | exact fun _ => ub _ (by decide)
    | intro _
    | with_reducible (apply State.raise_does)
    | with_reducible (apply State.wr_does)
    | with_reducible (apply Does.ite)
    | (fail_if_no_progress extract_lets)
    | (fail_if_no_progress (with_reducible refine Does.mk' ?_ (by with_reducible rfl)))

theorem State.emptyRecords_does {W : Nat} {o : State} {s : State} (hW : Within 0x10000000000000000000000000000000000000000000000000000fff00008000000000000000000000000000000000000000000000000000000000000000000000000000000000000000000000000000000000000000000000000000000000000000000000000000000000000000000000000000000000000000000000000000 W) (h : Does W o s) :
    Does W o (State.emptyRecords s) := by
  have up := hW.up
  have ub := hW.ub
  have b1020 := ub 1020 (by decide)
  unfold State.emptyRecords
  refine State.showOpen_does (up _ (by decide)) (Does.mk' ?_ (by with_reducible rfl))
  refine Does.foldl (fun t n ht => ?_) _ _ h
  refine Does.foldl_mem _ _ (fun u f hf hu => State.wr_does _ _ hu fun _ => ?_) ht
  exact ub _ (List.all_eq_true.1 (show List.all _ (fun f : Fld => Nat.testBit 0x10000000000000000000000000000000000000000000000000000fff00008000000000000000000000000000000000000000000000000000000000000000000000000000000000000000000000000000000000000000000000000000000000000000000000000000000000000000000000000000000000000000000000000000 f.id) = true by decide) _ hf)

theorem safeClr_does {W : Nat} {o : State} (x0 : Bool) {s : State} (hW : Within 0x210002000000000000000000000000000000000000000000000000fff018080cb030000000000000000000000000000000000000000010000001000000000000000000000000000000000000000000000000000000000000000000000000000000000000000000000000000000000000000000000000000000000000000000000 W) (h : Does W o s) :
    Does W o (safeClr x0 s) := by
  have up := hW.up
  have ub := hW.ub
  have b1020 := ub 1020 (by decide)
  unfold safeClr
  repeat' first
    | with_reducible assumption
    | exact up _ (by decide)
    | exact ub _ (by decide)
    | exact fun _ => ub _ (by decide)
    | intro _
    | with_reducible (apply State.clrRefused_does)
    | with_reducible (apply State.wr_does)
    | with_reducible (apply State.emptyRecords_does)
    | with_reducible (apply Does.ite)
    | (fail_if_no_progress extract_lets)
    | (fail_if_no_progress (with_reducible refine Does.mk' ?_ (by with_reducible rfl)))

theorem State.safeLeave_does {W : Nat} {o : State} {s : State} (hW : Within 0x29000200000000000000000000000000000000000000000000000000001800037030000000000000000000000000000000000000000010000001000000000000000000000000000000000000000000000000000000000000000000000000000000000000000000000000000040000000020000000000000000000000000000000 W) (h : Does W o s) :
    Does W o (State.safeLeave s) := by
  have up := hW.up
  have ub := hW.ub
  have b1020 := ub 1020 (by decide)
  unfold State.safeLeave
  repeat' first
    | with_reducible assumption
    | exact up _ (by decide)
    | exact ub _ (by decide)
    | exact fun _ => ub _ (by decide)
    | intro _
    | with_reducible (apply State.wr_does)
    | with_reducible (apply State.errSettle_does)
    | with_reducible (apply State.raise_does)
    | with_reducible (apply State.updTxdis_does)
    | with_reducible (apply Does.ite)
    | (fail_if_no_progress extract_lets)
    | (fail_if_no_progress (with_reducible refine Does.mk' ?_ (by with_reducible rfl)))

theorem State.selfFault_does {W : Nat} {o : State} {s : State} (hW : Within 0x2901a20000000000000000000000000000000000000000000000000000780003f030000000000000000000000000000000000000000010000001000000000000000000000000000000000000000000000000000000000000060400000000000000000000000000000000000680000000020000000000000000000000000000000 W) (h : Does W o s) :
    Does W o (State.selfFault s) := by
  have up := hW.up
  have ub := hW.ub
  have b1020 := ub 1020 (by decide)
  unfold State.selfFault
  repeat' first
    | with_reducible assumption
    | exact up _ (by decide)
    | exact ub _ (by decide)
    | exact fun _ => ub _ (by decide)
    | intro _
    | with_reducible (apply State.raise_does)
    | with_reducible (apply State.safeEntry_does)
    | with_reducible (apply State.wr_does)
    | with_reducible (apply Does.ite)
    | (fail_if_no_progress extract_lets)
    | (fail_if_no_progress (with_reducible refine Does.mk' ?_ (by with_reducible rfl)))

theorem collectorSelfFault_does {W : Nat} {o : State} {s : State} (hW : Within 0x2901a20000000000000000000000000000000000000000000000000000780003f030000000000000000000000000000000000000000010000001000000000000000000000000000000000000000000000000000000000000060400000000000000000000000000000000000680000000020000000000000000000000000000000 W) (h : Does W o s) :
    Does W o (collectorSelfFault s) := by
  have up := hW.up
  have ub := hW.ub
  unfold collectorSelfFault
  repeat' first
    | with_reducible assumption
    | exact up _ (by decide)
    | exact ub _ (by decide)
    | exact fun _ => ub _ (by decide)
    | intro _
    | with_reducible (apply State.selfFault_does)
    | with_reducible (apply Does.ite)
    | (fail_if_no_progress extract_lets)
    | (fail_if_no_progress (with_reducible refine Does.mk' ?_ (by with_reducible rfl)))

theorem fltHeartbeatLoss_does {W : Nat} {o : State} {s : State} (hW : Within 0x9000000000000000000000000000000000000000000000000000000000000020000000000000000000000000000000000000000000000000000000000000000000000000000000000000000000000000000000000000000000000000000000000000000000000000000000000000000000000000000000000000000000000000 W) (h : Does W o s) :
    Does W o (fltHeartbeatLoss s) := by
  have up := hW.up
  have ub := hW.ub
  have b1020 := ub 1020 (by decide)
  have b1023 := ub 1023 (by decide)
  unfold fltHeartbeatLoss
  repeat' first
    | with_reducible assumption
    | exact up _ (by decide)
    | exact ub _ (by decide)
    | exact fun _ => ub _ (by decide)
    | intro _
    | with_reducible (apply State.wr_does)
    | with_reducible (apply Does.ite)
    | (fail_if_no_progress extract_lets)
    | (fail_if_no_progress (with_reducible refine Does.mk' ?_ (by with_reducible rfl)))

theorem fltHeartbeatReturn_does {W : Nat} {o : State} {s : State} (hW : Within 0x2981a2000000000000000000000000000000000000000000000000fff07ff8037030004a00000000000000000000000000000000000010000001000000000000000000000000000000000000000000000000000000000000060400000000000000000000000000000000000680000000020000000000000000000000000000000 W) (h : Does W o s) :
    Does W o (fltHeartbeatReturn s) := by
  have up := hW.up
  have ub := hW.ub
  have b1020 := ub 1020 (by decide)
  unfold fltHeartbeatReturn
  repeat' first
    | with_reducible assumption
    | exact up _ (by decide)
    | exact ub _ (by decide)
    | exact fun _ => ub _ (by decide)
    | intro _
    | with_reducible (apply State.collect_does)
    | with_reducible (apply Does.ite)
    | (fail_if_no_progress extract_lets)
    | (fail_if_no_progress (with_reducible refine Does.mk' ?_ (by with_reducible rfl)))

theorem faultInject_does {W : Nat} {o : State} {s : State} (hW : Within 0x2981a2000000000000000000000000000000000000000000000000fff07ff8037030004a000000000000000000000000000000000000100000010000000000000000000000000000000000000000000000000000000000000604000000000000000000000000000010000006c0000000020000000000000000000000000000000 W) (h : Does W o s) :
    Does W o (faultInject s) := by
  have up := hW.up
  have ub := hW.ub
  unfold faultInject
  repeat' first
    | with_reducible assumption
    | exact up _ (by decide)
    | exact ub _ (by decide)
    | exact fun _ => ub _ (by decide)
    | intro _
    | with_reducible (apply State.collect_does)
    | with_reducible (apply State.raise_does)
    | with_reducible (apply State.inc_does)
    | with_reducible (apply State.wr_does)
    | with_reducible (apply State.assertTxdis_does)
    | with_reducible (apply Does.ite)
    | (fail_if_no_progress extract_lets)
    | (fail_if_no_progress (with_reducible refine Does.mk' ?_ (by with_reducible rfl)))

theorem injSelf_does {W : Nat} {o : State} {s : State} (hW : Within 0x2901a20000000000000000000000000000000000000000000000000000780003f030000000000000000000000000000000000000000010000001000000000000000000000000000000000000000000000000000000000000060400000000000000000000000000000000000680000000020000000000000000000000000000000 W) (h : Does W o s) :
    Does W o (injSelf s) := by
  have up := hW.up
  have ub := hW.ub
  unfold injSelf
  repeat' first
    | with_reducible assumption
    | exact up _ (by decide)
    | exact ub _ (by decide)
    | exact fun _ => ub _ (by decide)
    | intro _
    | with_reducible (apply State.selfFault_does)
    | with_reducible (apply Does.ite)
    | (fail_if_no_progress extract_lets)
    | (fail_if_no_progress (with_reducible refine Does.mk' ?_ (by with_reducible rfl)))

theorem lfClr_does {W : Nat} {o : State} (x0 : Nat) {s : State} (hW : Within 0xf8000000000000000000000000000000000000000000000000000000000000000000000000000000000000000000000000000000000000000000000000000000000000000000000000000000000000000000000000000000000000000000 W) (h : Does W o s) :
    Does W o (lfClr x0 s) := by
  have up := hW.up
  have ub := hW.ub
  unfold lfClr
  refine Does.foldl_mem _ _ (fun u f hf hu => State.wr_does _ _ hu fun _ => ?_) h
  exact ub _ (List.all_eq_true.1 (show List.all _ (fun f : Fld => Nat.testBit 0xf8000000000000000000000000000000000000000000000000000000000000000000000000000000000000000000000000000000000000000000000000000000000000000000000000000000000000000000000000000000000000000000 f.id) = true by decide) _ hf)

theorem perfClear_does {W : Nat} {o : State} (x0 : Nat) {s : State} (hW : Within 0x3001800000000000000000000000000000000000000000000000000000000000000000000000000000000000000000000000000000000000000000000000000000000000000000000000000000000000000000000000000000000000000000000 W) (h : Does W o s) :
    Does W o (perfClear x0 s) := by
  have up := hW.up
  have ub := hW.ub
  unfold perfClear
  repeat' first
    | with_reducible assumption
    | exact up _ (by decide)
    | exact ub _ (by decide)
    | exact fun _ => ub _ (by decide)
    | intro _
    | with_reducible (apply State.perfSet_does)
    | with_reducible (apply State.wr_does)
    | with_reducible (apply Does.ite)
    | with_reducible (apply Does.foldl)
    | (fail_if_no_progress extract_lets)
    | (fail_if_no_progress (with_reducible refine Does.mk' ?_ (by with_reducible rfl)))
    | split
    | dsimp +zetaDelta only

theorem freezeAllWrite_does {W : Nat} {o : State} (x0 : Bool) {s : State} (hW : Within 0x1000000000000000000000000000000000000000000000000000000000000400000000000000000000000000000000000000000000000000000000000000000000000000000000000000000000000000000000000000000000000000000000000000000000000000000000000000000000000000000000000000000000000000 W) (h : Does W o s) :
    Does W o (freezeAllWrite x0 s) := by
  have up := hW.up
  have ub := hW.ub
  have b1020 := ub 1020 (by decide)
  unfold freezeAllWrite
  repeat' first
    | with_reducible assumption
    | exact up _ (by decide)
    | exact ub _ (by decide)
    | exact fun _ => ub _ (by decide)
    | intro _
    | with_reducible (apply State.flag_does)
    | with_reducible (apply Does.ite)
    | (fail_if_no_progress extract_lets)
    | (fail_if_no_progress (with_reducible refine Does.mk' ?_ (by with_reducible rfl)))

theorem State.freezeEdge_does {W : Nat} {o : State} {s : State} (hW : Within 0x1000000000000000000000000000000000000000000000000000000000000000000000000000000000000000000000000000000000000000000000000000000000000000000000000000000000000000000000000000000000000000000000000000000000000000000000000000000000000000000000000000000000000000 W) (h : Does W o s) :
    Does W o (State.freezeEdge s) := by
  have up := hW.up
  have ub := hW.ub
  have b1020 := ub 1020 (by decide)
  unfold State.freezeEdge
  repeat' first
    | with_reducible assumption
    | exact up _ (by decide)
    | exact ub _ (by decide)
    | exact fun _ => ub _ (by decide)
    | intro _
    | with_reducible (apply Does.ite)
    | (fail_if_no_progress extract_lets)
    | (fail_if_no_progress (with_reducible refine Does.mk' ?_ (by with_reducible rfl)))
    | split
    | dsimp only

theorem perfCounterWrap_does {W : Nat} {o : State} (x0 : Nat) (x1 : Nat) (x2 : Nat) {s : State} (hW : Within 0x20000200000000000000000000000000000000000000000000000000001800003030000000000000000000000000000000000000000010000001000000000000000000000000000000000000000000000000000000000000000000000000000000000000000000000000000000000000000000000000000000000000000000000 W) (h : Does W o s) :
    Does W o (perfCounterWrap x0 x1 x2 s) := by
  have up := hW.up
  have ub := hW.ub
  unfold perfCounterWrap
  repeat' first
    | with_reducible assumption
    | exact up _ (by decide)
    | exact ub _ (by decide)
    | exact fun _ => ub _ (by decide)
    | intro _
    | with_reducible (apply State.perfWrapped_does)
    | with_reducible (apply State.perfSet_does)
    | with_reducible (apply Does.ite)
    | (fail_if_no_progress extract_lets)
    | (fail_if_no_progress (with_reducible refine Does.mk' ?_ (by with_reducible rfl)))

end Sys2Proof.Machine
end

