-- ==== Sys2Proof/Laws/DDmaOps.lean ====
section
/-! SUPPORT. What the operations of DmaOps can change. -/

set_option linter.unreachableTactic false
set_option linter.unusedTactic false
set_option linter.unusedVariables false
set_option Elab.async false

namespace Sys2Proof.Machine

theorem State.setDch_does {W : Nat} {o : State} {s : State} (x1 : Nat) (x2 : DmaCh) (hW : Within 0x400000000000000000000000000000000000000000000000000000000000000000000000000000000000000000000000000c100000000000000000000000000000000000000000000000000000000000000000000000000000000000000000000000000000000000000000000000000000000000000000000000000000000000 W) (h : Does W o s) :
    Does W o (State.setDch s x1 x2) := by
  have up := hW.up
  have ub := hW.ub
  have b1022 := ub 1022 (by decide)
  unfold State.setDch
  repeat' first
    | with_reducible assumption
    | exact up _ (by decide)
    | exact ub _ (by decide)
    | exact fun _ => ub _ (by decide)
    | intro _
    | with_reducible (apply State.wr_does)
    | with_reducible (apply State.flag_does)
    | with_reducible (apply Does.ite)
    | (fail_if_no_progress extract_lets)
    | (fail_if_no_progress (with_reducible refine Does.mk' ?_ (by with_reducible rfl)))
    | split
    | dsimp only

theorem State.raiseCh_does {W : Nat} {o : State} {s : State} (x1 : Nat) (x2 : Nat) (hW : Within 0x20000200000000000000000000000000000000000000000000000000000000000000000000000000000000000000000000040000000000000000000000000000000000000000000000000000000000000000000000000000000000000000000000000000000000000000000000000000000000000000000000000000000000000 W) (h : Does W o s) :
    Does W o (State.raiseCh s x1 x2) := by
  have up := hW.up
  have ub := hW.ub
  unfold State.raiseCh
  repeat' first
    | with_reducible assumption
    | exact up _ (by decide)
    | exact ub _ (by decide)
    | exact fun _ => ub _ (by decide)
    | intro _
    | with_reducible (apply State.wr_does)
    | with_reducible (apply State.sendMsix_does)
    | with_reducible (apply Does.ite)
    | (fail_if_no_progress extract_lets)
    | (fail_if_no_progress (with_reducible refine Does.mk' ?_ (by with_reducible rfl)))

theorem State.dmaForget_does {W : Nat} {o : State} {s : State} (x1 : Nat) (hW : Within 0x3e08000000000000000000000000000000000000000000000000000000000000000000000000000000000000000000000000000000000000000000000000000000000000000000000000000000000 W) (h : Does W o s) :
    Does W o (State.dmaForget s x1) := by
  have up := hW.up
  have ub := hW.ub
  unfold State.dmaForget
  refine Does.foldl_mem _ _ (fun u f hf hu => State.wr_does _ _ hu fun _ => ?_) h
  exact ub _ (List.all_eq_true.1 (show List.all _ (fun f : Fld => Nat.testBit 0x3e08000000000000000000000000000000000000000000000000000000000000000000000000000000000000000000000000000000000000000000000000000000000000000000000000000000000 f.id) = true by decide) _ hf)

theorem State.dmaHalt_does {W : Nat} {o : State} {s : State} (x1 : Nat) (x2 : Nat) (hW : Within 0x2400020000000000000000000000000000000000000000000000000000180000303000000000000000000000000000000004bf88000010000001000000000000000000000000000000000000000000000000000000000000000000000000000000000000000000000000000000000000000000000000000000000000000000000 W) (h : Does W o s) :
    Does W o (State.dmaHalt s x1 x2) := by
  have up := hW.up
  have ub := hW.ub
  have b1022 := ub 1022 (by decide)
  unfold State.dmaHalt
  repeat' first
    | with_reducible assumption
    | exact up _ (by decide)
    | exact ub _ (by decide)
    | exact fun _ => ub _ (by decide)
    | intro _
    | with_reducible (apply State.wr_does)
    | with_reducible (apply State.raise_does)
    | with_reducible (apply State.raiseCh_does)
    | with_reducible (apply State.dmaForget_does)
    | with_reducible (apply Does.ite)
    | (fail_if_no_progress extract_lets)
    | (fail_if_no_progress (with_reducible refine Does.mk' ?_ (by with_reducible rfl)))

theorem State.dmaSettle_does {W : Nat} {o : State} {s : State} (x1 : Nat) (hW : Within 0x2400020000000000000000000000000000000000000000000000000000180000303000000000000000000000000000000004bf88000010000001000000000000000000000000000000000000000000000000000000000000000000000000000000000000000000000000000000000000000000000000000000000000000000000 W) (h : Does W o s) :
    Does W o (State.dmaSettle s x1) := by
  have up := hW.up
  have ub := hW.ub
  unfold State.dmaSettle
  repeat' first
    | with_reducible assumption
    | exact up _ (by decide)
    | exact ub _ (by decide)
    | exact fun _ => ub _ (by decide)
    | intro _
    | with_reducible (apply State.dmaHalt_does)
    | with_reducible (apply Does.ite)
    | (fail_if_no_progress extract_lets)
    | (fail_if_no_progress (with_reducible refine Does.mk' ?_ (by with_reducible rfl)))
    | split
    | dsimp only

theorem State.dmaWillHalt_does {W : Nat} {o : State} {s : State} (x1 : Nat) (x2 : Nat) (hW : Within 0x2400020000000000000000000000000000000000000000000000000000180000303000000000000000000000000000000004ff88000010000001000000000000000000000000000000000000000000000000000000000000000000000000000000000000000000000000000000000000000000000000000000000000000000000 W) (h : Does W o s) :
    Does W o (State.dmaWillHalt s x1 x2) := by
  have up := hW.up
  have ub := hW.ub
  unfold State.dmaWillHalt
  repeat' first
    | with_reducible assumption
    | exact up _ (by decide)
    | exact ub _ (by decide)
    | exact fun _ => ub _ (by decide)
    | intro _
    | with_reducible (apply State.dmaSettle_does)
    | with_reducible (apply State.setDch_does)
    | with_reducible (apply Does.ite)
    | (fail_if_no_progress extract_lets)
    | (fail_if_no_progress (with_reducible refine Does.mk' ?_ (by with_reducible rfl)))

theorem State.dmaComplete_does {W : Nat} {o : State} {s : State} (x1 : Nat) (x2 : DmaDesc) (x3 : List DmaDesc) (hW : Within 0x2400020000000000000000000000000000000000000000000000000000000000000000000000000000000000000000000005e100000000000000000000000000000000000000000000000000000000000000000000000000000000000000000000000000000000000000000000000000000000000000000000000000000000000 W) (h : Does W o s) :
    Does W o (State.dmaComplete s x1 x2 x3) := by
  have up := hW.up
  have ub := hW.ub
  unfold State.dmaComplete
  repeat' first
    | with_reducible assumption
    | exact up _ (by decide)
    | exact ub _ (by decide)
    | exact fun _ => ub _ (by decide)
    | intro _
    | with_reducible (apply State.emit_does)
    | with_reducible (apply State.wr_does)
    | with_reducible (apply State.setDch_does)
    | with_reducible (apply State.inc_does)
    | with_reducible (apply State.raiseCh_does)
    | with_reducible (apply Does.ite)
    | (fail_if_no_progress extract_lets)
    | (fail_if_no_progress (with_reducible refine Does.mk' ?_ (by with_reducible rfl)))

theorem State.dmaDrain_does {W : Nat} {o : State} {s : State} (x1 : Nat) (x2 : List DmaDesc) (hW : Within 0x2400020000000000000000000000000000000000000000000000000000000000000000000000000000000000000000000005e100000000000000000000000000000000000000000000000000000000000000000000000000000000000000000000000000000000000000000000000000000000000000000000000000000000000 W) (h : Does W o s) :
    Does W o (State.dmaDrain s x1 x2) := by
  have up := hW.up
  have ub := hW.ub
  induction x2 generalizing s with
  | nil => exact h
  | cons d rest ih =>
    simp only [State.dmaDrain]
    split
    · exact ih (State.dmaComplete_does _ _ _ (up _ (by decide)) h)
    · exact h

theorem State.dmaNext_does {W : Nat} {o : State} {s : State} (x1 : Nat) (hW : Within 0x2400020000000000000000000000000000000000000000000000000000180000303000000000000000000000000000000005ff88000010000001000000000000000000000000000000000000000000000000000000000000000000000000000000000000000000000000000000000000000000000000000000000000000000000 W) (h : Does W o s) :
    Does W o (State.dmaNext s x1) := by
  have up := hW.up
  have ub := hW.ub
  unfold State.dmaNext
  repeat' first
    | with_reducible assumption
    | exact up _ (by decide)
    | exact ub _ (by decide)
    | exact fun _ => ub _ (by decide)
    | intro _
    | with_reducible (apply State.dmaSettle_does)
    | with_reducible (apply State.dmaDrain_does)
    | with_reducible (apply Does.ite)
    | (fail_if_no_progress extract_lets)
    | (fail_if_no_progress (with_reducible refine Does.mk' ?_ (by with_reducible rfl)))

theorem dmaRun_does {W : Nat} {o : State} (x0 : Nat) {s : State} (hW : Within 0x8000000000000000000000000000000000000000000000000000000000000000000000000000000000000000000000000000000000000000000000000000000000000000000000000000000000 W) (h : Does W o s) :
    Does W o (dmaRun x0 s) := by
  have up := hW.up
  have ub := hW.ub
  unfold dmaRun
  repeat' first
    | with_reducible assumption
    | exact up _ (by decide)
    | exact ub _ (by decide)
    | exact fun _ => ub _ (by decide)
    | intro _
    | with_reducible (apply State.wr_does)
    | with_reducible (apply Does.ite)
    | (fail_if_no_progress extract_lets)
    | (fail_if_no_progress (with_reducible refine Does.mk' ?_ (by with_reducible rfl)))

theorem dmaStop_does {W : Nat} {o : State} (x0 : Nat) {s : State} (hW : Within 0x2400020000000000000000000000000000000000000000000000000000180000303000000000000000000000000000000004ff88000010000001000000000000000000000000000000000000000000000000000000000000000000000000000000000000000000000000000000000000000000000000000000000000000000000 W) (h : Does W o s) :
    Does W o (dmaStop x0 s) := by
  have up := hW.up
  have ub := hW.ub
  unfold dmaStop
  repeat' first
    | with_reducible assumption
    | exact up _ (by decide)
    | exact ub _ (by decide)
    | exact fun _ => ub _ (by decide)
    | intro _
    | with_reducible (apply State.dmaWillHalt_does)
    | with_reducible (apply Does.ite)
    | (fail_if_no_progress extract_lets)
    | (fail_if_no_progress (with_reducible refine Does.mk' ?_ (by with_reducible rfl)))

theorem dmaHeadWrite_does {W : Nat} {o : State} (x0 : Nat) (x1 : Nat) {s : State} (hW : Within 0x2000000000000000000000000000000000000000000000000000000000000000000000000000000000000000000000000000000000000000000000000000000000000000000000000000000000000 W) (h : Does W o s) :
    Does W o (dmaHeadWrite x0 x1 s) := by
  have up := hW.up
  have ub := hW.ub
  unfold dmaHeadWrite
  repeat' first
    | with_reducible assumption
    | exact up _ (by decide)
    | exact ub _ (by decide)
    | exact fun _ => ub _ (by decide)
    | intro _
    | with_reducible (apply State.wr_does)
    | with_reducible (apply Does.ite)
    | (fail_if_no_progress extract_lets)
    | (fail_if_no_progress (with_reducible refine Does.mk' ?_ (by with_reducible rfl)))

theorem State.dmaFlr_does {W : Nat} {o : State} {s : State} (x1 : Nat) (hW : Within 0x2400020000000000000000000000000000000000000000000000000000180000303000000000000000000000000000000004ff88000010000001000000000000000000000000000000000000000000000000000000000000000000000000000000000000000000000000000000000000000000000000000000000000000000000 W) (h : Does W o s) :
    Does W o (State.dmaFlr s x1) := by
  have up := hW.up
  have ub := hW.ub
  unfold State.dmaFlr
  repeat' first
    | with_reducible assumption
    | exact up _ (by decide)
    | exact ub _ (by decide)
    | exact fun _ => ub _ (by decide)
    | intro _
    | with_reducible (apply State.dmaWillHalt_does)
    | with_reducible (apply State.dmaForget_does)
    | with_reducible (apply Does.ite)
    | (fail_if_no_progress extract_lets)
    | (fail_if_no_progress (with_reducible refine Does.mk' ?_ (by with_reducible rfl)))

end Sys2Proof.Machine
end

