-- ==== Sys2Proof/Laws/DLaunch.lean ====
section
/-! SUPPORT. What the operations of Launch can change. -/

set_option linter.unreachableTactic false
set_option linter.unusedTactic false
set_option linter.unusedVariables false
set_option Elab.async false

namespace Sys2Proof.Machine

theorem State.leReject_does {W : Nat} {o : State} {s : State} (x1 : Nat) (x2 : Nat) (hW : Within 0x2000020000000000000000000000000000000000000000000000000000180000303000000000000000000000000000000000000000001000000100000000000000000000000000000000000000000000000000000000000000000000000000000000000000000000000000000000000000000000000000000000000010000c000 W) (h : Does W o s) :
    Does W o (State.leReject s x1 x2) := by
  have up := hW.up
  have ub := hW.ub
  unfold State.leReject
  repeat' first
    | with_reducible assumption
    | exact up _ (by decide)
    | exact ub _ (by decide)
    | exact fun _ => ub _ (by decide)
    | intro _
    | with_reducible (apply State.raise_does)
    | with_reducible (apply State.inc_does)
    | with_reducible (apply State.wr_does)
    | with_reducible (apply Does.ite)
    | (fail_if_no_progress extract_lets)
    | (fail_if_no_progress (with_reducible refine Does.mk' ?_ (by with_reducible rfl)))

theorem State.leWord_does {W : Nat} {o : State} {s : State} (x1 : Nat) (x2 : Nat) (hW : Within 0x3000 W) (h : Does W o s) :
    Does W o (State.leWord s x1 x2) := by
  have up := hW.up
  have ub := hW.ub
  unfold State.leWord
  repeat' first
    | with_reducible assumption
    | exact up _ (by decide)
    | exact ub _ (by decide)
    | exact fun _ => ub _ (by decide)
    | intro _
    | with_reducible (apply State.wr_does)
    | with_reducible (apply Does.ite)
    | (fail_if_no_progress extract_lets)
    | (fail_if_no_progress (with_reducible refine Does.mk' ?_ (by with_reducible rfl)))

theorem launchEntryArm_does {W : Nat} {o : State} (x0 : Nat) (x1 : Nat) {s : State} (hW : Within 0x2000020000000000000000000000000000000000000000000000000000180000303000000000000000000000000000000000000000001000000100000000000000000000000000000000000000000000000000000000000000000000000000000000000000000000000000000000000000000000000000000000000010000f000 W) (h : Does W o s) :
    Does W o (launchEntryArm x0 x1 s) := by
  have up := hW.up
  have ub := hW.ub
  unfold launchEntryArm
  repeat' first
    | with_reducible assumption
    | exact up _ (by decide)
    | exact ub _ (by decide)
    | exact fun _ => ub _ (by decide)
    | intro _
    | with_reducible (apply State.leWord_does)
    | with_reducible (apply State.leReject_does)
    | with_reducible (apply State.wr_does)
    | with_reducible (apply Does.ite)
    | (fail_if_no_progress extract_lets)
    | (fail_if_no_progress (with_reducible refine Does.mk' ?_ (by with_reducible rfl)))

theorem State.turnBank_does {W : Nat} {o : State} {s : State} (x1 : Nat) (hW : Within 0x400000000000000000000000000000000000000000000000000000000000000000000000000000000000000000000000000000000000000000000000000000000000000000000000000000000000000000000000000000000000000000000000000000000000000000000000000000000000000000000002000000000000000 W) (h : Does W o s) :
    Does W o (State.turnBank s x1) := by
  have up := hW.up
  have ub := hW.ub
  have b1018 := ub 1018 (by decide)
  unfold State.turnBank
  repeat' first
    | with_reducible assumption
    | exact up _ (by decide)
    | exact ub _ (by decide)
    | exact fun _ => ub _ (by decide)
    | intro _
    | with_reducible (apply State.wr_does)
    | with_reducible (apply Does.ite)
    | (fail_if_no_progress extract_lets)
    | (fail_if_no_progress (with_reducible refine Does.mk' ?_ (by with_reducible rfl)))

theorem State.swapBank_does {W : Nat} {o : State} {s : State} (x1 : Nat) (hW : Within 0x20402200000000000000000000000000000000000000000000000000001800003030000000000000000000000000000000000000000010000001000000200000000000000000000000000000000000000000000000000000000000000000000000000000000000000000000000000000000000000000000006000000000000000 W) (h : Does W o s) :
    Does W o (State.swapBank s x1) := by
  have up := hW.up
  have ub := hW.ub
  have b1009 := ub 1009 (by decide)
  have b1018 := ub 1018 (by decide)
  unfold State.swapBank
  repeat' first
    | with_reducible assumption
    | exact up _ (by decide)
    | exact ub _ (by decide)
    | exact fun _ => ub _ (by decide)
    | intro _
    | with_reducible (apply State.turnBank_does)
    | with_reducible (apply State.raise_does)
    | with_reducible (apply State.inc_does)
    | with_reducible (apply State.wr_does)
    | with_reducible (apply Does.ite)
    | (fail_if_no_progress extract_lets)
    | (fail_if_no_progress (with_reducible refine Does.mk' ?_ (by with_reducible rfl)))

theorem State.leAct_does {W : Nat} {o : State} {s : State} (x1 : Nat) (hW : Within 0x20502200000000000000000000000000000000000000000000000000001800003030000000000000000000000000000000000000000010000001000000a00000700001000000200000000000000000000000000000000000000000000000000000000000000000000000000000000000000000000000000006000000200000000 W) (h : Does W o s) :
    Does W o (State.leAct s x1) := by
  have up := hW.up
  have ub := hW.ub
  unfold State.leAct
  repeat' first
    | with_reducible assumption
    | exact up _ (by decide)
    | exact ub _ (by decide)
    | exact fun _ => ub _ (by decide)
    | intro _
    | with_reducible (apply State.vatLaunch_does)
    | with_reducible (apply forEach_does)
    | with_reducible (apply State.swapBank_does)
    | with_reducible (apply State.raise_does)
    | with_reducible (apply State.wr_does)
    | with_reducible (apply State.capture_does)
    | with_reducible (apply Does.ite)
    | (fail_if_no_progress extract_lets)
    | (fail_if_no_progress (with_reducible refine Does.mk' ?_ (by with_reducible rfl)))

theorem State.leFire_does {W : Nat} {o : State} {s : State} (x1 : Nat) (x2 : Nat) (hW : Within 0x20502200000000000000000000000000000000000000000000000000001800003030000000000000000000000000000000000000000010000001000000a0000070000100000020000000000000000000000000000000000000000000000000000000000000000000000000000000000000000000000000000600000020000c600 W) (h : Does W o s) :
    Does W o (State.leFire s x1 x2) := by
  have up := hW.up
  have ub := hW.ub
  unfold State.leFire
  repeat' first
    | with_reducible assumption
    | exact up _ (by decide)
    | exact ub _ (by decide)
    | exact fun _ => ub _ (by decide)
    | intro _
    | with_reducible (apply State.leAct_does)
    | with_reducible (apply State.wr_does)
    | with_reducible (apply State.wr64_does)
    | with_reducible (apply Does.ite)
    | (fail_if_no_progress extract_lets)
    | (fail_if_no_progress (with_reducible refine Does.mk' ?_ (by with_reducible rfl)))

theorem State.leFireAll_does {W : Nat} {o : State} {s : State} (x1 : Nat) (x2 : List Nat) (x3 : List Nat) (hW : Within 0x20502200000000000000000000000000000000000000000000000000001800003030000000000000000000000000000000000000000010000001000000a0000070000100000020000000000000000000000000000000000000000000000000000000000000000000000000000000000000000000000000000600000030000c600 W) (h : Does W o s) :
    Does W o (State.leFireAll s x1 x2 x3) := by
  have up := hW.up
  have ub := hW.ub
  induction x2 generalizing s x3 with
  | nil => exact h
  | cons n rest ih =>
    simp only [State.leFireAll]
    split
    · exact ih _ (State.leReject_does _ _ (up _ (by decide)) h)
    · exact ih _ (State.leFire_does _ _ (up _ (by decide)) h)

theorem State.leFireNow_does {W : Nat} {o : State} {s : State} (x1 : Nat) (x2 : List Nat) (hW : Within 0x20502a00000000000000000000000000000000000000000000000000001800003030000000000000000000000000000000000000000010000001000000a0000070000100000020000000000000000000000000000000000000000000000000000000000000000000000000000000000000000000000000000600000030000c600 W) (h : Does W o s) :
    Does W o (State.leFireNow s x1 x2) := by
  have up := hW.up
  have ub := hW.ub
  have b1007 := ub 1007 (by decide)
  unfold State.leFireNow
  repeat' first
    | with_reducible assumption
    | exact up _ (by decide)
    | exact ub _ (by decide)
    | exact fun _ => ub _ (by decide)
    | intro _
    | with_reducible (apply State.leFireAll_does)
    | with_reducible (apply Does.ite)
    | (fail_if_no_progress extract_lets)
    | (fail_if_no_progress (with_reducible refine Does.mk' ?_ (by with_reducible rfl)))

theorem launchEntryFire_does {W : Nat} {o : State} {s : State} (hW : Within 0x20502a00000000000000000000000000000000000000000000000000001800003030000000000000000000000000000000000000000010000001000000a0000070000100000020000000000000000000000000000000000000000000000000000000000000000000000000000000000000000000000000000600000030020c600 W) (h : Does W o s) :
    Does W o (launchEntryFire s) := by
  have up := hW.up
  have ub := hW.ub
  unfold launchEntryFire
  repeat' first
    | with_reducible assumption
    | exact up _ (by decide)
    | exact ub _ (by decide)
    | exact fun _ => ub _ (by decide)
    | intro _
    | with_reducible (apply State.advance_does)
    | with_reducible (apply State.leFireNow_does)
    | with_reducible (apply Does.ite)
    | (fail_if_no_progress extract_lets)
    | (fail_if_no_progress (with_reducible refine Does.mk' ?_ (by with_reducible rfl)))
    | split
    | dsimp only

theorem State.leSkipped_does {W : Nat} {o : State} {s : State} (hW : Within 0x20502a00000000000000000000000000000000000000000000000000001800003030000000000000000000000000000000000000000010000001000000a0000070000100000020000000000000000000000000000000000000000000000000000000000000000000000000000000000000000000000000000600000030000c600 W) (h : Does W o s) :
    Does W o (State.leSkipped s) := by
  have up := hW.up
  have ub := hW.ub
  unfold State.leSkipped
  repeat' first
    | with_reducible assumption
    | exact up _ (by decide)
    | exact ub _ (by decide)
    | exact fun _ => ub _ (by decide)
    | intro _
    | with_reducible (apply forEach_does)
    | with_reducible (apply State.leFireNow_does)
    | with_reducible (apply Does.ite)
    | (fail_if_no_progress extract_lets)
    | (fail_if_no_progress (with_reducible refine Does.mk' ?_ (by with_reducible rfl)))

theorem launchEntryDisarm_does {W : Nat} {o : State} (x0 : Nat) (x1 : Nat) {s : State} (hW : Within 0x20502a00000000000000000000000000000000000000000000000000001800003030000000000000000000000000000000000000000010000001000000a0000070000100000020000000000000000000000000000000000000000000000000000000000000000000000000000000000000000000000000000600000030000f600 W) (h : Does W o s) :
    Does W o (launchEntryDisarm x0 x1 s) := by
  have up := hW.up
  have ub := hW.ub
  unfold launchEntryDisarm
  repeat' first
    | with_reducible assumption
    | exact up _ (by decide)
    | exact ub _ (by decide)
    | exact fun _ => ub _ (by decide)
    | intro _
    | with_reducible (apply State.leWord_does)
    | with_reducible (apply State.leFireNow_does)
    | with_reducible (apply State.wr_does)
    | with_reducible (apply Does.ite)
    | (fail_if_no_progress extract_lets)
    | (fail_if_no_progress (with_reducible refine Does.mk' ?_ (by with_reducible rfl)))

end Sys2Proof.Machine
end

