-- ==== Sys2Proof/Laws/DPower.lean ====
section
/-! SUPPORT. What the operations of Power can change. -/

set_option linter.unreachableTactic false
set_option linter.unusedTactic false
set_option linter.unusedVariables false
set_option Elab.async false

namespace Sys2Proof.Machine

theorem State.startEntry_does {W : Nat} {o : State} {s : State} (x1 : Mode) (hW : Within 0x800000000000000000000000000000000000000000000000000000000000000000000000010800000000000000000000000000000000000000000000000000000000000000000000000000000000000000000000000000000000000000000000000000000000000000000000000000000000000000000000000000000000000 W) (h : Does W o s) :
    Does W o (State.startEntry s x1) := by
  have up := hW.up
  have ub := hW.ub
  unfold State.startEntry
  repeat' first
    | with_reducible assumption
    | exact up _ (by decide)
    | exact ub _ (by decide)
    | exact fun _ => ub _ (by decide)
    | intro _
    | with_reducible (apply State.wr_does)
    | with_reducible (apply State.startTransit_does)
    | with_reducible (apply Does.ite)
    | (fail_if_no_progress extract_lets)
    | (fail_if_no_progress (with_reducible refine Does.mk' ?_ (by with_reducible rfl)))

theorem State.selfRefresh_does {W : Nat} {o : State} {s : State} (hW : Within 0x10000000000001000000000000000000000000000000000000000000000000000000000000000000000000000000000000000 W) (h : Does W o s) :
    Does W o (State.selfRefresh s) := by
  have up := hW.up
  have ub := hW.ub
  unfold State.selfRefresh
  repeat' first
    | with_reducible assumption
    | exact up _ (by decide)
    | exact ub _ (by decide)
    | exact fun _ => ub _ (by decide)
    | intro _
    | with_reducible (apply State.wr_does)
    | with_reducible (apply Does.ite)
    | with_reducible (apply Does.foldl)
    | (fail_if_no_progress extract_lets)
    | (fail_if_no_progress (with_reducible refine Does.mk' ?_ (by with_reducible rfl)))
    | split
    | dsimp +zetaDelta only

theorem State.refreshExit_does {W : Nat} {o : State} {s : State} (hW : Within 0x3983a2000000000000000000000000000000000000000000000000fff07ff80370300fca000000000000000000000000000000000000100000010000000000000000000000000000000000001000114024600c0b010000001e7c00000000000000000000000000000000000680000000020000000000000000000000000000000 W) (h : Does W o s) :
    Does W o (State.refreshExit s) := by
  have up := hW.up
  have ub := hW.ub
  unfold State.refreshExit
  repeat' first
    | with_reducible assumption
    | exact up _ (by decide)
    | exact ub _ (by decide)
    | exact fun _ => ub _ (by decide)
    | intro _
    | with_reducible (apply State.wr_does)
    | with_reducible (apply State.serveWaiters_does)
    | with_reducible (apply Does.ite)
    | with_reducible (apply Does.foldl)
    | (fail_if_no_progress extract_lets)
    | (fail_if_no_progress (with_reducible refine Does.mk' ?_ (by with_reducible rfl)))
    | split
    | dsimp +zetaDelta only

theorem State.restoreCarrier_does {W : Nat} {o : State} {s : State} (x1 : Nat) (hW : Within 0x41000000000000000000000000000000000000000000000000000000000000000000000000000000000000000000000000000000000000000000000000000000000000000000000000000000000000000000000000000000000000000000000000000000000000000000000000000000210004380020000800180000000000 W) (h : Does W o s) :
    Does W o (State.restoreCarrier s x1) := by
  have up := hW.up
  have ub := hW.ub
  unfold State.restoreCarrier
  repeat' first
    | with_reducible assumption
    | exact up _ (by decide)
    | exact ub _ (by decide)
    | exact fun _ => ub _ (by decide)
    | intro _
    | with_reducible (apply State.carrierTo_does)
    | with_reducible (apply Does.ite)
    | (fail_if_no_progress extract_lets)
    | (fail_if_no_progress (with_reducible refine Does.mk' ?_ (by with_reducible rfl)))

theorem State.sleep_does {W : Nat} {o : State} {s : State} (hW : Within 0x20841a00000000000000000000000000000000000000000000000000001800003030000000000000000000000000000000000000000010000001000000000000000000000000000000000000000000000000000000000000000000000000000000000000000000000000000000000000000210004380020000800180000040000 W) (h : Does W o s) :
    Does W o (State.sleep s) := by
  have up := hW.up
  have ub := hW.ub
  have b1019 := ub 1019 (by decide)
  unfold State.sleep
  repeat' first
    | with_reducible assumption
    | exact up _ (by decide)
    | exact ub _ (by decide)
    | exact fun _ => ub _ (by decide)
    | intro _
    | with_reducible (apply State.carriersOff_does)
    | with_reducible (apply State.ltUnlock_does)
    | with_reducible (apply Does.ite)
    | (fail_if_no_progress extract_lets)
    | (fail_if_no_progress (with_reducible refine Does.mk' ?_ (by with_reducible rfl)))

theorem State.sleepIfDue_does {W : Nat} {o : State} {s : State} (hW : Within 0x20841a00000000000000000000000000000000000000000000000000001800003030000000000000000000000000000000000000000010000001000000000000000000000000000000000000000000000000000000000000000000000000000000000000000000000000000000000000000210004380020000800180000040000 W) (h : Does W o s) :
    Does W o (State.sleepIfDue s) := by
  have up := hW.up
  have ub := hW.ub
  unfold State.sleepIfDue
  repeat' first
    | with_reducible assumption
    | exact up _ (by decide)
    | exact ub _ (by decide)
    | exact fun _ => ub _ (by decide)
    | intro _
    | with_reducible (apply State.sleep_does)
    | with_reducible (apply Does.ite)
    | (fail_if_no_progress extract_lets)
    | (fail_if_no_progress (with_reducible refine Does.mk' ?_ (by with_reducible rfl)))

theorem State.beginGrazeExit_does {W : Nat} {o : State} {s : State} (hW : Within 0x3997b2000000000000000000000000000000000000000000000000fff07ff80370300fca000208000000000000000000000000000000100000010020000000000000000000000000000000001000114024600c0b010000001e7c00000000000000000000000000000000000680000000020210004380020000800180000000000 W) (h : Does W o s) :
    Does W o (State.beginGrazeExit s) := by
  have up := hW.up
  have ub := hW.ub
  have b1016 := ub 1016 (by decide)
  have b1019 := ub 1019 (by decide)
  unfold State.beginGrazeExit
  repeat' first
    | with_reducible assumption
    | exact up _ (by decide)
    | exact ub _ (by decide)
    | exact fun _ => ub _ (by decide)
    | intro _
    | with_reducible (apply State.wr_does)
    | with_reducible (apply State.startTransit_does)
    | with_reducible (apply State.restoreCarrier_does)
    | with_reducible (apply State.refreshExit_does)
    | with_reducible (apply forEach_does)
    | with_reducible (apply State.regionOn_does)
    | with_reducible (apply Does.ite)
    | with_reducible (apply Does.foldl)
    | (fail_if_no_progress extract_lets)
    | (fail_if_no_progress (with_reducible refine Does.mk' ?_ (by with_reducible rfl)))
    | split
    | dsimp +zetaDelta only

theorem State.beginStableExit_does {W : Nat} {o : State} {s : State} (hW : Within 0x8800000000000000000000000000000000000000000000000000000000000000000000000020800000000000000000000000000000000000000000000000000000000000000000000000000000000000000000000000000000000000000000000000000000000000000000000000000000000000000000000000000000000000 W) (h : Does W o s) :
    Does W o (State.beginStableExit s) := by
  have up := hW.up
  have ub := hW.ub
  have b1019 := ub 1019 (by decide)
  have b1023 := ub 1023 (by decide)
  unfold State.beginStableExit
  repeat' first
    | with_reducible assumption
    | exact up _ (by decide)
    | exact ub _ (by decide)
    | exact fun _ => ub _ (by decide)
    | intro _
    | with_reducible (apply State.wr_does)
    | with_reducible (apply State.startTransit_does)
    | with_reducible (apply Does.ite)
    | (fail_if_no_progress extract_lets)
    | (fail_if_no_progress (with_reducible refine Does.mk' ?_ (by with_reducible rfl)))

theorem State.reqRefused_does {W : Nat} {o : State} {s : State} (hW : Within 0x20000200000000000000000000000000000000000000000000000000001800003030000000003000000000000000000000000000000010000001000000000000000000000000000000000000000000000000000000000000000000000000000000000000000000000000000000000000000000000000000000000000000000000 W) (h : Does W o s) :
    Does W o (State.reqRefused s) := by
  have up := hW.up
  have ub := hW.ub
  unfold State.reqRefused
  repeat' first
    | with_reducible assumption
    | exact up _ (by decide)
    | exact ub _ (by decide)
    | exact fun _ => ub _ (by decide)
    | intro _
    | with_reducible (apply State.raise_does)
    | with_reducible (apply State.wr_does)
    | with_reducible (apply Does.ite)
    | (fail_if_no_progress extract_lets)
    | (fail_if_no_progress (with_reducible refine Does.mk' ?_ (by with_reducible rfl)))

theorem State.leaveNotice_does {W : Nat} {o : State} {s : State} (hW : Within 0x802000000000000000000000000000000000000000000000000000000000000000000000000000000000000000000000000000000000000000000000000000000000000000000000000000000000000000000000000000000000000000000000000000000000000000000000100000000000000000000000000000000000000 W) (h : Does W o s) :
    Does W o (State.leaveNotice s) := by
  have up := hW.up
  have ub := hW.ub
  have b1019 := ub 1019 (by decide)
  unfold State.leaveNotice
  repeat' first
    | with_reducible assumption
    | exact up _ (by decide)
    | exact ub _ (by decide)
    | exact fun _ => ub _ (by decide)
    | intro _
    | with_reducible (apply State.queueMsg_does)
    | with_reducible (apply Does.ite)
    | (fail_if_no_progress extract_lets)
    | (fail_if_no_progress (with_reducible refine Does.mk' ?_ (by with_reducible rfl)))

theorem State.takeReq_does {W : Nat} {o : State} {s : State} (x1 : Nat) (hW : Within 0x20802200000000000000000000000000000000000000000000000000001800003030000000013800000000000000000000000000000010000001000000000000000000000000000000000000000000000000000000000000000000000000000000000000000000000000000000100000000000000000000000000000000000000 W) (h : Does W o s) :
    Does W o (State.takeReq s x1) := by
  have up := hW.up
  have ub := hW.ub
  have b1019 := ub 1019 (by decide)
  unfold State.takeReq
  repeat' first
    | with_reducible assumption
    | exact up _ (by decide)
    | exact ub _ (by decide)
    | exact fun _ => ub _ (by decide)
    | intro _
    | with_reducible (apply State.reqRefused_does)
    | with_reducible (apply State.queueMsg_does)
    | with_reducible (apply State.wr_does)
    | with_reducible (apply State.latchWake_does)
    | with_reducible (apply State.startEntry_does)
    | with_reducible (apply State.leaveNotice_does)
    | with_reducible (apply Does.ite)
    | (fail_if_no_progress extract_lets)
    | (fail_if_no_progress (with_reducible refine Does.mk' ?_ (by with_reducible rfl)))
    | split
    | dsimp only

theorem State.modeReq_does {W : Nat} {o : State} {s : State} (x1 : Nat) (hW : Within 0x20802200000000000000000000000000000000000000000000000000001800003030000000013800000000000000000000000000000010000001000000000000000000000000000000000000000000000000000000000000000000000000000000000000000000000000000000100000000000000000000000000000000000000 W) (h : Does W o s) :
    Does W o (State.modeReq s x1) := by
  have up := hW.up
  have ub := hW.ub
  unfold State.modeReq
  repeat' first
    | with_reducible assumption
    | exact up _ (by decide)
    | exact ub _ (by decide)
    | exact fun _ => ub _ (by decide)
    | intro _
    | with_reducible (apply State.wr_does)
    | with_reducible (apply State.takeReq_does)
    | with_reducible (apply Does.ite)
    | (fail_if_no_progress extract_lets)
    | (fail_if_no_progress (with_reducible refine Does.mk' ?_ (by with_reducible rfl)))

theorem modeReqGraze_does {W : Nat} {o : State} {s : State} (hW : Within 0x20802200000000000000000000000000000000000000000000000000001800003030000000013800000000000000000000000000000010000001000000000000000000000000000000000000000000000000000000000000000000000000000000000000000000000000000000100000000000000000000000000000000000000 W) (h : Does W o s) :
    Does W o (modeReqGraze s) := by
  have up := hW.up
  have ub := hW.ub
  unfold modeReqGraze
  repeat' first
    | with_reducible assumption
    | exact up _ (by decide)
    | exact ub _ (by decide)
    | exact fun _ => ub _ (by decide)
    | intro _
    | with_reducible (apply State.modeReq_does)
    | with_reducible (apply Does.ite)
    | (fail_if_no_progress extract_lets)
    | (fail_if_no_progress (with_reducible refine Does.mk' ?_ (by with_reducible rfl)))

theorem modeReqStable_does {W : Nat} {o : State} {s : State} (hW : Within 0x20802200000000000000000000000000000000000000000000000000001800003030000000013800000000000000000000000000000010000001000000000000000000000000000000000000000000000000000000000000000000000000000000000000000000000000000000100000000000000000000000000000000000000 W) (h : Does W o s) :
    Does W o (modeReqStable s) := by
  have up := hW.up
  have ub := hW.ub
  unfold modeReqStable
  repeat' first
    | with_reducible assumption
    | exact up _ (by decide)
    | exact ub _ (by decide)
    | exact fun _ => ub _ (by decide)
    | intro _
    | with_reducible (apply State.modeReq_does)
    | with_reducible (apply Does.ite)
    | (fail_if_no_progress extract_lets)
    | (fail_if_no_progress (with_reducible refine Does.mk' ?_ (by with_reducible rfl)))

theorem modeReqWake_does {W : Nat} {o : State} {s : State} (hW : Within 0x20802200000000000000000000000000000000000000000000000000001800003030000000013800000000000000000000000000000010000001000000000000000000000000000000000000000000000000000000000000000000000000000000000000000000000000000000100000000000000000000000000000000000000 W) (h : Does W o s) :
    Does W o (modeReqWake s) := by
  have up := hW.up
  have ub := hW.ub
  unfold modeReqWake
  repeat' first
    | with_reducible assumption
    | exact up _ (by decide)
    | exact ub _ (by decide)
    | exact fun _ => ub _ (by decide)
    | intro _
    | with_reducible (apply State.modeReq_does)
    | with_reducible (apply Does.ite)
    | (fail_if_no_progress extract_lets)
    | (fail_if_no_progress (with_reducible refine Does.mk' ?_ (by with_reducible rfl)))

theorem State.finish_does {W : Nat} {o : State} {s : State} (x1 : Mode) (hW : Within 0x3997b6000000000000000000000000000000000000000000000000fff07ff80370300fcf800738000000000000000000000000000000100000010020000000000000000000000000000000001000114024600c0b010000001e7c00000000000000000000000000000000000680100000020210004380020000800180000000000 W) (h : Does W o s) :
    Does W o (State.finish s x1) := by
  have up := hW.up
  have ub := hW.ub
  have b1019 := ub 1019 (by decide)
  unfold State.finish
  repeat' first
    | with_reducible assumption
    | exact up _ (by decide)
    | exact ub _ (by decide)
    | exact fun _ => ub _ (by decide)
    | intro _
    | with_reducible (apply State.setMode_does)
    | with_reducible (apply State.wr_does)
    | with_reducible (apply State.inc_does)
    | with_reducible (apply State.beginGrazeExit_does)
    | with_reducible (apply State.beginStableExit_does)
    | with_reducible (apply State.takeReq_does)
    | with_reducible (apply Does.ite)
    | (fail_if_no_progress extract_lets)
    | (fail_if_no_progress (with_reducible refine Does.mk' ?_ (by with_reducible rfl)))

theorem State.actGrazeAck_does {W : Nat} {o : State} {s : State} (x1 : Msg) (hW : Within 0x20804200000000000000000000000000000000000000000000000000001800003030000002000000000000000000000000000000000010000001000000000000000000000000000000000000000000000000000000000000000000000000000000000000000000000000000000012000000000000000000000000000000000000 W) (h : Does W o s) :
    Does W o (State.actGrazeAck s x1) := by
  have up := hW.up
  have ub := hW.ub
  have b1010 := ub 1010 (by decide)
  have b1019 := ub 1019 (by decide)
  unfold State.actGrazeAck
  repeat' first
    | with_reducible assumption
    | exact up _ (by decide)
    | exact ub _ (by decide)
    | exact fun _ => ub _ (by decide)
    | intro _
    | with_reducible (apply State.inc_does)
    | with_reducible (apply State.raise_does)
    | with_reducible (apply State.wr_does)
    | with_reducible (apply Does.ite)
    | (fail_if_no_progress extract_lets)
    | (fail_if_no_progress (with_reducible refine Does.mk' ?_ (by with_reducible rfl)))
    | split
    | dsimp only

theorem grazeAck_does {W : Nat} {o : State} (x0 : Rec) {s : State} (hW : Within 0x2080720000000000000000000000000000000000000000000000000000180000303000001201000000000000000000000000000000001000000100000000000000000000000000000000000000000000000000000000000000000000000000000000000000000000000000000011e000000000000016000000000000000000000 W) (h : Does W o s) :
    Does W o (grazeAck x0 s) := by
  have up := hW.up
  have ub := hW.ub
  unfold grazeAck
  repeat' first
    | with_reducible assumption
    | exact up _ (by decide)
    | exact ub _ (by decide)
    | exact fun _ => ub _ (by decide)
    | intro _
    | with_reducible (apply State.message_does)
    | with_reducible (apply State.actGrazeAck_does)
    | with_reducible (apply Does.ite)
    | (fail_if_no_progress extract_lets)
    | (fail_if_no_progress (with_reducible refine Does.mk' ?_ (by with_reducible rfl)))

theorem grazeAckTimeout_does {W : Nat} {o : State} {s : State} (hW : Within 0x20800a00000000000000000000000000000000000000000000000000001800003030000002000000000000000000000000000000000010000001000000000000000000000000000000000000000000000000000000000000000000000000000000000000000000000000000000000000000000000000000000000000000200000 W) (h : Does W o s) :
    Does W o (grazeAckTimeout s) := by
  have up := hW.up
  have ub := hW.ub
  have b1019 := ub 1019 (by decide)
  unfold grazeAckTimeout
  repeat' first
    | with_reducible assumption
    | exact up _ (by decide)
    | exact ub _ (by decide)
    | exact fun _ => ub _ (by decide)
    | intro _
    | with_reducible (apply State.advance_does)
    | with_reducible (apply State.raise_does)
    | with_reducible (apply State.wr_does)
    | with_reducible (apply Does.ite)
    | (fail_if_no_progress extract_lets)
    | (fail_if_no_progress (with_reducible refine Does.mk' ?_ (by with_reducible rfl)))
    | split
    | dsimp only

theorem State.beginGraze_does {W : Nat} {o : State} {s : State} (hW : Within 0x2081a200000000000000000000000000000000000000000000000000001800003030000001810800000000000000000000000000000010000001000000000000000000000000000000000000000000000000000000000000060400000000000000000000000000000000000600000000000000000000000000000000000000000 W) (h : Does W o s) :
    Does W o (State.beginGraze s) := by
  have up := hW.up
  have ub := hW.ub
  have b1019 := ub 1019 (by decide)
  unfold State.beginGraze
  repeat' first
    | with_reducible assumption
    | exact up _ (by decide)
    | exact ub _ (by decide)
    | exact fun _ => ub _ (by decide)
    | intro _
    | with_reducible (apply State.wr_does)
    | with_reducible (apply State.emptyCal_does)
    | with_reducible (apply State.dropCommitted_does)
    | with_reducible (apply State.startEntry_does)
    | with_reducible (apply Does.ite)
    | (fail_if_no_progress extract_lets)
    | (fail_if_no_progress (with_reducible refine Does.mk' ?_ (by with_reducible rfl)))
    | split
    | dsimp only

theorem State.sleepLocked_does {W : Nat} {o : State} {s : State} (hW : Within 0x20841a00000000000000000000000000000000000000000000000000001800003030000000000000000000000000000000000000000010000001000000000000000000000000000000000000000000000000000000000000000000000000000000000000000000000000000000000000000210004380020000800180000040000 W) (h : Does W o s) :
    Does W o (State.sleepLocked s) := by
  have up := hW.up
  have ub := hW.ub
  have b1019 := ub 1019 (by decide)
  unfold State.sleepLocked
  repeat' first
    | with_reducible assumption
    | exact up _ (by decide)
    | exact ub _ (by decide)
    | exact fun _ => ub _ (by decide)
    | intro _
    | with_reducible (apply State.carrierTo_does)
    | with_reducible (apply State.sleep_does)
    | with_reducible (apply Does.ite)
    | (fail_if_no_progress extract_lets)
    | (fail_if_no_progress (with_reducible refine Does.mk' ?_ (by with_reducible rfl)))

theorem State.resetDefectTimers_does {W : Nat} {o : State} {s : State} (hW : Within 0x1000000000000000000000000000000000000000000000000000000000000000000000000000000000000000000000000000000000000000000000000000000000000000000000000000000000000000000000000000000000000000000000000000000000000000000000000000000000000000000000000000000000000 W) (h : Does W o s) :
    Does W o (State.resetDefectTimers s) := by
  have up := hW.up
  have ub := hW.ub
  have b1008 := ub 1008 (by decide)
  unfold State.resetDefectTimers
  repeat' first
    | with_reducible assumption
    | exact up _ (by decide)
    | exact ub _ (by decide)
    | exact fun _ => ub _ (by decide)
    | intro _
    | with_reducible (apply State.mapSub_does)
    | with_reducible (apply Does.ite)
    | with_reducible (apply Does.foldl)
    | (fail_if_no_progress extract_lets)
    | (fail_if_no_progress (with_reducible refine Does.mk' ?_ (by with_reducible rfl)))
    | split
    | dsimp +zetaDelta only

theorem State.enterGraze_does {W : Nat} {o : State} {s : State} (hW : Within 0x39ffbe000000000000000000000000000000000008000000000000fff07ff80370300fcf80073b02000680000002c000000000000000100000018020010000000004000000000000000000001000114024600c0b010000001e7c00000000000000000000042c0080000000078010000002021000438007f8048001e0000040000 W) (h : Does W o s) :
    Does W o (State.enterGraze s) := by
  have up := hW.up
  have ub := hW.ub
  have b1006 := ub 1006 (by decide)
  have b1019 := ub 1019 (by decide)
  unfold State.enterGraze
  repeat' first
    | with_reducible assumption
    | exact up _ (by decide)
    | exact ub _ (by decide)
    | exact fun _ => ub _ (by decide)
    | intro _
    | with_reducible (apply State.resetDefectTimers_does)
    | with_reducible (apply forEach_does)
    | with_reducible (apply State.giveAllLeave_does)
    | with_reducible (apply State.regionOff_does)
    | with_reducible (apply State.sleepLocked_does)
    | with_reducible (apply State.selfRefresh_does)
    | with_reducible (apply State.wr_does)
    | with_reducible (apply State.raise_does)
    | with_reducible (apply State.lanesSync_does)
    | with_reducible (apply State.finish_does)
    | with_reducible (apply Does.ite)
    | (fail_if_no_progress extract_lets)
    | (fail_if_no_progress (with_reducible refine Does.mk' ?_ (by with_reducible rfl)))

theorem grazeEntry_does {W : Nat} {o : State} {s : State} (hW : Within 0x39ffbe000000000000000000000000000000000008000000000000fff07ff80370300fcf80073b02000680000002c000000000000000100000018020010000000004000000000000000000001000114024600c0b010000001e7c00000000000000000000042c0080000000078010000002021000438007f8048001e0000040000 W) (h : Does W o s) :
    Does W o (grazeEntry s) := by
  have up := hW.up
  have ub := hW.ub
  unfold grazeEntry
  repeat' first
    | with_reducible assumption
    | exact up _ (by decide)
    | exact ub _ (by decide)
    | exact fun _ => ub _ (by decide)
    | intro _
    | with_reducible (apply State.enterGraze_does)
    | with_reducible (apply Does.ite)
    | (fail_if_no_progress extract_lets)
    | (fail_if_no_progress (with_reducible refine Does.mk' ?_ (by with_reducible rfl)))

theorem grazeWakePowerup_does {W : Nat} {o : State} {s : State} (hW : Within 0x841800000000000000000000000000000000000000000000000000000000000000000008000000000000000000000000000000000000000000000000000000000000000000000000000000000000000000000000000000000000000000000000000000000000000000000000000000000210004380020000800180000200000 W) (h : Does W o s) :
    Does W o (grazeWakePowerup s) := by
  have up := hW.up
  have ub := hW.ub
  have b1019 := ub 1019 (by decide)
  unfold grazeWakePowerup
  repeat' first
    | with_reducible assumption
    | exact up _ (by decide)
    | exact ub _ (by decide)
    | exact fun _ => ub _ (by decide)
    | intro _
    | with_reducible (apply State.inc_does)
    | with_reducible (apply State.advance_does)
    | with_reducible (apply State.restoreCarrier_does)
    | with_reducible (apply State.wr_does)
    | with_reducible (apply Does.ite)
    | (fail_if_no_progress extract_lets)
    | (fail_if_no_progress (with_reducible refine Does.mk' ?_ (by with_reducible rfl)))
    | split
    | dsimp only

theorem State.mapMiss_does {W : Nat} {o : State} {s : State} (hW : Within 0x20841a00000000000000000000000000000000000000000000000000001800003030000000000000000000000000000000000000000010000001000000000000000000000000000000000000000000000000000000000000000000000000000000000000000000000000000000000000000210004380020000800180000040000 W) (h : Does W o s) :
    Does W o (State.mapMiss s) := by
  have up := hW.up
  have ub := hW.ub
  have b1019 := ub 1019 (by decide)
  unfold State.mapMiss
  repeat' first
    | with_reducible assumption
    | exact up _ (by decide)
    | exact ub _ (by decide)
    | exact fun _ => ub _ (by decide)
    | intro _
    | with_reducible (apply State.sleep_does)
    | with_reducible (apply Does.ite)
    | (fail_if_no_progress extract_lets)
    | (fail_if_no_progress (with_reducible refine Does.mk' ?_ (by with_reducible rfl)))

theorem wakeMap_does {W : Nat} {o : State} (x0 : Rec) {s : State} (hW : Within 0x20841a00000000000000000000000000000000000000000000000000001800003030000010010000000000000000000000000000000010000001000000000000000000000000000000000000000000000000000000000000000000000000000000000000000000000000000000000000000210004396020000800180000040000 W) (h : Does W o s) :
    Does W o (wakeMap x0 s) := by
  have up := hW.up
  have ub := hW.ub
  unfold wakeMap
  repeat' first
    | with_reducible assumption
    | exact up _ (by decide)
    | exact ub _ (by decide)
    | exact fun _ => ub _ (by decide)
    | intro _
    | with_reducible (apply State.record_does)
    | with_reducible (apply State.recOk_does)
    | with_reducible (apply State.recDiscard_does)
    | with_reducible (apply State.mapMiss_does)
    | with_reducible (apply State.mapHit_does)
    | with_reducible (apply Does.ite)
    | (fail_if_no_progress extract_lets)
    | (fail_if_no_progress (with_reducible refine Does.mk' ?_ (by with_reducible rfl)))

theorem grazeTimer_does {W : Nat} {o : State} {s : State} (hW : Within 0x800800000000000000000000000000000000000000000000000000000000000000000000010000000000000000000000000000000000000000000000000000000000000000000000000000000000000000000000000000000000000000000000000000000000000000000000000000000000000000000000000000000200000 W) (h : Does W o s) :
    Does W o (grazeTimer s) := by
  have up := hW.up
  have ub := hW.ub
  unfold grazeTimer
  repeat' first
    | with_reducible assumption
    | exact up _ (by decide)
    | exact ub _ (by decide)
    | exact fun _ => ub _ (by decide)
    | intro _
    | with_reducible (apply State.latchWake_does)
    | with_reducible (apply State.advance_does)
    | with_reducible (apply Does.ite)
    | (fail_if_no_progress extract_lets)
    | (fail_if_no_progress (with_reducible refine Does.mk' ?_ (by with_reducible rfl)))
    | split
    | dsimp only

theorem grazeExit_does {W : Nat} {o : State} {s : State} (hW : Within 0x3997b2000000000000000000000000000000000000000000000000fff07ff80370300fca000208000000000000000000000000000000100000010020000000000000000000000000000000001000114024600c0b010000001e7c00000000000000000000000000000000000680000000020210004380020000800180000000000 W) (h : Does W o s) :
    Does W o (grazeExit s) := by
  have up := hW.up
  have ub := hW.ub
  unfold grazeExit
  repeat' first
    | with_reducible assumption
    | exact up _ (by decide)
    | exact ub _ (by decide)
    | exact fun _ => ub _ (by decide)
    | intro _
    | with_reducible (apply State.beginGrazeExit_does)
    | with_reducible (apply Does.ite)
    | (fail_if_no_progress extract_lets)
    | (fail_if_no_progress (with_reducible refine Does.mk' ?_ (by with_reducible rfl)))

theorem State.purgeExpress_does {W : Nat} {o : State} {s : State} (hW : Within 0x3983a2000000000000000000000000000000000000000000000000fff07ff80370300fca00000000000000000000000000000000000010000001000000000000000000000000000000000000100007c123e00c0b000000001ffc00000000000000000000000000000000000680000000020000000000000000000000000000000 W) (h : Does W o s) :
    Does W o (State.purgeExpress s) := by
  have up := hW.up
  have ub := hW.ub
  unfold State.purgeExpress
  repeat' first
    | with_reducible assumption
    | exact up _ (by decide)
    | exact ub _ (by decide)
    | exact fun _ => ub _ (by decide)
    | intro _
    | with_reducible (apply State.purgeOne_does)
    | with_reducible (apply State.freeCont_does)
    | with_reducible (apply State.inc64_does)
    | with_reducible (apply State.setRetained_does)
    | with_reducible (apply Does.ite)
    | with_reducible (apply Does.foldl)
    | (fail_if_no_progress extract_lets)
    | (fail_if_no_progress (with_reducible refine Does.mk' ?_ (by with_reducible rfl)))
    | split
    | dsimp +zetaDelta only

theorem State.enterStable_does {W : Nat} {o : State} {s : State} (hW : Within 0x7ffffffffffffffffffffffffffffffffffffffffffffffffffffffffffffffffffffffffffffffffffffffffffffffffffffffffffffffffffffffffffffffffffffffffffffffffffffffffffffffffffffffffffffffffffffffffffffffffffffffffffffffffffffffffffffffffffffffffffffffffffffffffffffffff W) (h : Does W o s) :
    Does W o (State.enterStable s) := by
  have up := hW.up
  have ub := hW.ub
  have full := hW.full (by decide)
  have b1006 := ub 1006 (by decide)
  unfold State.enterStable
  repeat' first
    | with_reducible assumption
    | exact up _ (by decide)
    | exact ub _ (by decide)
    | exact fun _ => ub _ (by decide)
    | exact full _
    | intro _
    | with_reducible (apply State.regLost_does)
    | with_reducible (apply State.assertTxdis_does)
    | with_reducible (apply State.eraseAllSlots_does)
    | with_reducible (apply State.selfRefresh_does)
    | with_reducible (apply State.purgeExpress_does)
    | with_reducible (apply State.wr_does)
    | with_reducible (apply State.railsOff_does)
    | with_reducible (apply State.finish_does)
    | with_reducible (apply Does.ite)
    | (fail_if_no_progress extract_lets)
    | (fail_if_no_progress (with_reducible refine Does.mk' ?_ (by with_reducible rfl)))

theorem stableEntry_does {W : Nat} {o : State} {s : State} (hW : Within 0x7ffffffffffffffffffffffffffffffffffffffffffffffffffffffffffffffffffffffffffffffffffffffffffffffffffffffffffffffffffffffffffffffffffffffffffffffffffffffffffffffffffffffffffffffffffffffffffffffffffffffffffffffffffffffffffffffffffffffffffffffffffffffffffffffff W) (h : Does W o s) :
    Does W o (stableEntry s) := by
  have up := hW.up
  have ub := hW.ub
  have full := hW.full (by decide)
  have b1019 := ub 1019 (by decide)
  unfold stableEntry
  repeat' first
    | with_reducible assumption
    | exact up _ (by decide)
    | exact ub _ (by decide)
    | exact fun _ => ub _ (by decide)
    | exact full _
    | intro _
    | with_reducible (apply State.dropCommitted_does)
    | with_reducible (apply State.enterStable_does)
    | with_reducible (apply Does.ite)
    | (fail_if_no_progress extract_lets)
    | (fail_if_no_progress (with_reducible refine Does.mk' ?_ (by with_reducible rfl)))

theorem leaveWaitExpiry_does {W : Nat} {o : State} {s : State} (hW : Within 0x800800000000000000000000000000000000000000000000000000000000000000000000000000000000000000000000000000000000000000000000000000000000000000000000000000000000000000000000000000000000000000000000000000000000000000000000000000000000000000000000000000000200000 W) (h : Does W o s) :
    Does W o (leaveWaitExpiry s) := by
  have up := hW.up
  have ub := hW.ub
  have b1019 := ub 1019 (by decide)
  unfold leaveWaitExpiry
  repeat' first
    | with_reducible assumption
    | exact up _ (by decide)
    | exact ub _ (by decide)
    | exact fun _ => ub _ (by decide)
    | intro _
    | with_reducible (apply State.advance_does)
    | with_reducible (apply Does.ite)
    | (fail_if_no_progress extract_lets)
    | (fail_if_no_progress (with_reducible refine Does.mk' ?_ (by with_reducible rfl)))
    | split
    | dsimp only

theorem toneDetect_does {W : Nat} {o : State} {s : State} (hW : Within 0x800000000000000000000000000000000000000000000000000000000000000000000000010000000000000000000000000000000000000000000000000000000000000000000000000000000000000000000000000000000000000000000000000000000000000000000000000000000000000000000000000000000000000 W) (h : Does W o s) :
    Does W o (toneDetect s) := by
  have up := hW.up
  have ub := hW.ub
  unfold toneDetect
  repeat' first
    | with_reducible assumption
    | exact up _ (by decide)
    | exact ub _ (by decide)
    | exact fun _ => ub _ (by decide)
    | intro _
    | with_reducible (apply State.latchWake_does)
    | with_reducible (apply Does.ite)
    | (fail_if_no_progress extract_lets)
    | (fail_if_no_progress (with_reducible refine Does.mk' ?_ (by with_reducible rfl)))

theorem stableExit_does {W : Nat} {o : State} {s : State} (hW : Within 0x8800000000000000000000000000000000000000000000000000000000000000000000000020800000000000000000000000000000000000000000000000000000000000000000000000000000000000000000000000000000000000000000000000000000000000000000000000000000000000000000000000000000000000 W) (h : Does W o s) :
    Does W o (stableExit s) := by
  have up := hW.up
  have ub := hW.ub
  unfold stableExit
  repeat' first
    | with_reducible assumption
    | exact up _ (by decide)
    | exact ub _ (by decide)
    | exact fun _ => ub _ (by decide)
    | intro _
    | with_reducible (apply State.beginStableExit_does)
    | with_reducible (apply Does.ite)
    | (fail_if_no_progress extract_lets)
    | (fail_if_no_progress (with_reducible refine Does.mk' ?_ (by with_reducible rfl)))

theorem caveStateReload_does {W : Nat} {o : State} {s : State} (hW : Within 0x3983a2000000000000000000000000000000000000000000000000fff07ff80370300fca000000000000000000000000000000000000100000010000000000000000000000000000000000001000114024600c0b010000001e7c00000000000000000000000000000000000680000000020000000000000000000000000000000 W) (h : Does W o s) :
    Does W o (caveStateReload s) := by
  have up := hW.up
  have ub := hW.ub
  unfold caveStateReload
  repeat' first
    | with_reducible assumption
    | exact up _ (by decide)
    | exact ub _ (by decide)
    | exact fun _ => ub _ (by decide)
    | intro _
    | with_reducible (apply State.refreshExit_does)
    | with_reducible (apply Does.ite)
    | (fail_if_no_progress extract_lets)
    | (fail_if_no_progress (with_reducible refine Does.mk' ?_ (by with_reducible rfl)))

theorem State.enterListen_does {W : Nat} {o : State} {s : State} (hW : Within 0x39bff6000000000000000000000000000000000000000000000000fff07ff80370300fcf80073b02000680000002c000000000000000100000010020000000007004012000000000000000001000114024600c0b010000001e7c00000000000000000000042c00800000000680100000020210004380020000800180000000000 W) (h : Does W o s) :
    Does W o (State.enterListen s) := by
  have up := hW.up
  have ub := hW.ub
  have b1006 := ub 1006 (by decide)
  have b1010 := ub 1010 (by decide)
  unfold State.enterListen
  repeat' first
    | with_reducible assumption
    | exact up _ (by decide)
    | exact ub _ (by decide)
    | exact fun _ => ub _ (by decide)
    | intro _
    | with_reducible (apply State.tbRestart_does)
    | with_reducible (apply State.carriersOn_does)
    | with_reducible (apply State.finish_does)
    | with_reducible (apply State.raise_does)
    | with_reducible (apply State.lanesSync_does)
    | with_reducible (apply Does.ite)
    | (fail_if_no_progress extract_lets)
    | (fail_if_no_progress (with_reducible refine Does.mk' ?_ (by with_reducible rfl)))

theorem modeTransitionComplete_does {W : Nat} {o : State} {s : State} (hW : Within 0x7ffffffffffffffffffffffffffffffffffffffffffffffffffffffffffffffffffffffffffffffffffffffffffffffffffffffffffffffffffffffffffffffffffffffffffffffffffffffffffffffffffffffffffffffffffffffffffffffffffffffffffffffffffffffffffffffffffffffffffffffffffffffffffffffff W) (h : Does W o s) :
    Does W o (modeTransitionComplete s) := by
  have up := hW.up
  have ub := hW.ub
  have full := hW.full (by decide)
  have b1006 := ub 1006 (by decide)
  have b1009 := ub 1009 (by decide)
  unfold modeTransitionComplete
  repeat' first
    | with_reducible assumption
    | exact up _ (by decide)
    | exact ub _ (by decide)
    | exact fun _ => ub _ (by decide)
    | exact full _
    | intro _
    | with_reducible (apply State.enterGraze_does)
    | with_reducible (apply State.enterStable_does)
    | with_reducible (apply State.enterListen_does)
    | with_reducible (apply State.finish_does)
    | with_reducible (apply State.raise_does)
    | with_reducible (apply State.lanesSync_does)
    | with_reducible (apply Does.ite)
    | (fail_if_no_progress extract_lets)
    | (fail_if_no_progress (with_reducible refine Does.mk' ?_ (by with_reducible rfl)))
    | split
    | dsimp only

theorem sdChange_does {W : Nat} {o : State} (x0 : Bool) (x1 : Bool) {s : State} (hW : Within 0x8801000000000000000000000000000000000000000000000000000000000000000000000010000000000000000000000000000000000000000000000000000000000000000000000000000000000000000000000000000000000000000000000000000000000000000000000000000000000000000000000000000000000000 W) (h : Does W o s) :
    Does W o (sdChange x0 x1 s) := by
  have up := hW.up
  have ub := hW.ub
  have b1008 := ub 1008 (by decide)
  have b1023 := ub 1023 (by decide)
  unfold sdChange
  repeat' first
    | with_reducible assumption
    | exact up _ (by decide)
    | exact ub _ (by decide)
    | exact fun _ => ub _ (by decide)
    | intro _
    | with_reducible (apply State.latchWake_does)
    | with_reducible (apply State.meet_does)
    | with_reducible (apply Does.ite)
    | (fail_if_no_progress extract_lets)
    | (fail_if_no_progress (with_reducible refine Does.mk' ?_ (by with_reducible rfl)))

theorem leaveRequest_does {W : Nat} {o : State} (x0 : List LeaveReq) {s : State} (hW : Within 0x10800000000000000000000000000000000000000000000000000000000000000000003a00000000000000000000000000000000000000000000000000000000000000000000000000000000000000000000000000000000000000000000000000000000000000000000000000000000000000000000000000000000000000000 W) (h : Does W o s) :
    Does W o (leaveRequest x0 s) := by
  have up := hW.up
  have ub := hW.ub
  unfold leaveRequest
  repeat' first
    | with_reducible assumption
    | exact up _ (by decide)
    | exact ub _ (by decide)
    | exact fun _ => ub _ (by decide)
    | intro _
    | with_reducible (apply State.askAll_does)
    | with_reducible (apply Does.ite)
    | (fail_if_no_progress extract_lets)
    | (fail_if_no_progress (with_reducible refine Does.mk' ?_ (by with_reducible rfl)))

theorem leaveReturn_does {W : Nat} {o : State} (x0 : Nat) (x1 : Nat) (x2 : Nat) {s : State} (hW : Within 0x800000000000000000000000000000000000000000000000000000000000000000000a00000000000000000000000000000000000000000000000000000000000000000000000000000000000000000000000000000000000000000000000000000000000000000000000000000000000000000000000000000000000000000 W) (h : Does W o s) :
    Does W o (leaveReturn x0 x1 x2 s) := by
  have up := hW.up
  have ub := hW.ub
  unfold leaveReturn
  repeat' first
    | with_reducible assumption
    | exact up _ (by decide)
    | exact ub _ (by decide)
    | exact fun _ => ub _ (by decide)
    | intro _
    | with_reducible (apply State.giveLeave_does)
    | with_reducible (apply Does.ite)
    | (fail_if_no_progress extract_lets)
    | (fail_if_no_progress (with_reducible refine Does.mk' ?_ (by with_reducible rfl)))

theorem dieShareRefresh_does {W : Nat} {o : State} {s : State} (hW : Within 0x40800000000000000000000000000000000000000000000000000000000000000000000000000000000000000000000000000000000000000000000000000000000000000000000000000000000000000000000000000000000000000000000000000000000000000000000000000000000000000000000000000000000000000 W) (h : Does W o s) :
    Does W o (dieShareRefresh s) := by
  have up := hW.up
  have ub := hW.ub
  have b1019 := ub 1019 (by decide)
  unfold dieShareRefresh
  repeat' first
    | with_reducible assumption
    | exact up _ (by decide)
    | exact ub _ (by decide)
    | exact fun _ => ub _ (by decide)
    | intro _
    | with_reducible (apply State.fresh_does)
    | with_reducible (apply Does.ite)
    | with_reducible (apply Does.foldl)
    | with_reducible (apply Does.foldl_snd)
    | with_reducible (apply Does.foldl_snd2)
    | with_reducible (apply Does.foldl_fst)
    | (fail_if_no_progress extract_lets)
    | (fail_if_no_progress (with_reducible refine Does.mk' ?_ (by with_reducible rfl)))
    | (with_reducible (refine Does.snd (by assumption) ?_))
    | (with_reducible (refine Does.snd2 (by assumption) ?_))
    | (with_reducible (refine Does.fst (by assumption) ?_))
    | split
    | dsimp only
    | dsimp +zetaDelta only

end Sys2Proof.Machine
end

