-- ==== Sys2Proof/Laws/DQueues.lean ====
section
/-! SUPPORT. What the operations of Queues can change. -/

set_option linter.unreachableTactic false
set_option linter.unusedTactic false
set_option linter.unusedVariables false
set_option Elab.async false

namespace Sys2Proof.Machine

theorem uqAllocWrite_does {W : Nat} {o : State} (x0 : Nat) (x1 : Nat) {s : State} (hW : Within 0x20000200000000000000000000000000000000000000000000000000001800003030000000000000000000000000000000000000000010000001000000000000000000000000000000000000000000000000000000000000000002800004000000000000000000000000000000000000000000000000000000000000000000000 W) (h : Does W o s) :
    Does W o (uqAllocWrite x0 x1 s) := by
  have up := hW.up
  have ub := hW.ub
  unfold uqAllocWrite
  repeat' first
    | with_reducible assumption
    | exact up _ (by decide)
    | exact ub _ (by decide)
    | exact fun _ => ub _ (by decide)
    | intro _
    | with_reducible (apply State.wr_does)
    | with_reducible (apply State.raise_does)
    | with_reducible (apply State.inc_does)
    | with_reducible (apply Does.ite)
    | (fail_if_no_progress extract_lets)
    | (fail_if_no_progress (with_reducible refine Does.mk' ?_ (by with_reducible rfl)))

theorem admissionResume_does {W : Nat} {o : State} {s : State} (hW : Within 0x200802000000000000000000000000000000000000000000000000000018000030300000000000000000000000000000000000000000100000010000000000000000000000000000000000000000000000000000000000000000f0000001c00004000000000000000000000000000000000000000000000000000000000000000 W) (h : Does W o s) :
    Does W o (admissionResume s) := by
  have up := hW.up
  have ub := hW.ub
  have b1015 := ub 1015 (by decide)
  unfold admissionResume
  repeat' first
    | with_reducible assumption
    | exact up _ (by decide)
    | exact ub _ (by decide)
    | exact fun _ => ub _ (by decide)
    | intro _
    | with_reducible (apply State.showInFlight_does)
    | with_reducible (apply State.enqUq_does)
    | with_reducible (apply Does.ite)
    | (fail_if_no_progress extract_lets)
    | (fail_if_no_progress (with_reducible refine Does.mk' ?_ (by with_reducible rfl)))
    | split
    | dsimp only

theorem State.setSched_does {W : Nat} {o : State} {s : State} (x1 : Nat) (x2 : Sched) (hW : Within 0x80000000000000000000000000000000000000000000000000000000000000000000000000000000000000000000000000000000000000000000000000000000000000000000000000000000000000000000000000000000000000000000000000000000000000000000000000000000000000000000000000000000000000 W) (h : Does W o s) :
    Does W o (State.setSched s x1 x2) := by
  have up := hW.up
  have ub := hW.ub
  have b1015 := ub 1015 (by decide)
  unfold State.setSched
  repeat' first
    | with_reducible assumption
    | exact up _ (by decide)
    | exact ub _ (by decide)
    | exact fun _ => ub _ (by decide)
    | intro _
    | with_reducible (apply Does.ite)
    | (fail_if_no_progress extract_lets)
    | (fail_if_no_progress (with_reducible refine Does.mk' ?_ (by with_reducible rfl)))

theorem State.endTurn_does {W : Nat} {o : State} {s : State} (x1 : Nat) (x2 : Nat) (x3 : Nat) (hW : Within 0x80000000000000000000000000000000000000000000000000000000000000000000000000000000000000000000000000000000000000000000000000000000000000000000000000000000000000000000000000000000000000000000000000000000000000000000000000000000000000000000000000000000000000 W) (h : Does W o s) :
    Does W o (State.endTurn s x1 x2 x3) := by
  have up := hW.up
  have ub := hW.ub
  unfold State.endTurn
  repeat' first
    | with_reducible assumption
    | exact up _ (by decide)
    | exact ub _ (by decide)
    | exact fun _ => ub _ (by decide)
    | intro _
    | with_reducible (apply State.setSched_does)
    | with_reducible (apply Does.ite)
    | (fail_if_no_progress extract_lets)
    | (fail_if_no_progress (with_reducible refine Does.mk' ?_ (by with_reducible rfl)))

theorem State.beginTurn_does {W : Nat} {o : State} {s : State} (x1 : Nat) (x2 : Nat) (x3 : Nat) (x4 : List Nat) (hW : Within 0x80000000000000000000000000000000000000000000000000000000000000000000000000000000000000000000000000000000000000000000000000000000000000000000000000000000000000000000000000000000010000000000000000000000000000000000000000000000000000000000000000000000000000 W) (h : Does W o s) :
    Does W o (State.beginTurn s x1 x2 x3 x4) := by
  have up := hW.up
  have ub := hW.ub
  unfold State.beginTurn
  repeat' first
    | with_reducible assumption
    | exact up _ (by decide)
    | exact ub _ (by decide)
    | exact fun _ => ub _ (by decide)
    | intro _
    | with_reducible (apply State.setSched_does)
    | with_reducible (apply State.setUq_does)
    | with_reducible (apply Does.ite)
    | (fail_if_no_progress extract_lets)
    | (fail_if_no_progress (with_reducible refine Does.mk' ?_ (by with_reducible rfl)))

theorem State.sealFor_does {W : Nat} {o : State} {s : State} (x1 : Nat) (x2 : Nat) (hW : Within 0x7983a2000000000000000000000000000000000000000000000000fff07ff80370300fca00000000000000000000000000000000000010000001000000000000000000000000000000000000100001c127e00c0b000000001e7c00000000000000000000000000000000000680000000020000000000000000000000000000000 W) (h : Does W o s) :
    Does W o (State.sealFor s x1 x2) := by
  have up := hW.up
  have ub := hW.ub
  unfold State.sealFor
  repeat' first
    | with_reducible assumption
    | exact up _ (by decide)
    | exact ub _ (by decide)
    | exact fun _ => ub _ (by decide)
    | intro _
    | with_reducible (apply State.addSealFlags_does)
    | with_reducible (apply State.takeAll_does)
    | with_reducible (apply State.sealOpen_does)
    | with_reducible (apply Does.ite)
    | (fail_if_no_progress extract_lets)
    | (fail_if_no_progress (with_reducible refine Does.mk' ?_ (by with_reducible rfl)))
    | split
    | dsimp only

theorem State.moveUnit_does {W : Nat} {o : State} {s : State} (x1 : Nat) (x2 : Nat) (x3 : Nat) (x4 : UFrm) (x5 : List UFrm) (hW : Within 0x798ba2000000000000000000000000000000000000000000000000fff07ff80370300fca00000000000000000000000000000000000010000001000000000000000000000000000000000000100001c127e00c0b000000001e7c10000000c00000000000000000000000000680000000020000000000000000000000000000000 W) (h : Does W o s) :
    Does W o (State.moveUnit s x1 x2 x3 x4 x5) := by
  have up := hW.up
  have ub := hW.ub
  unfold State.moveUnit
  repeat' first
    | with_reducible assumption
    | exact up _ (by decide)
    | exact ub _ (by decide)
    | exact fun _ => ub _ (by decide)
    | intro _
    | with_reducible (apply State.sealFor_does)
    | with_reducible (apply State.setUq_does)
    | with_reducible (apply State.debit_does)
    | with_reducible (apply State.setAsm_does)
    | with_reducible (apply State.showBufs_does)
    | with_reducible (apply State.endTurn_does)
    | with_reducible (apply Does.ite)
    | (fail_if_no_progress extract_lets)
    | (fail_if_no_progress (with_reducible refine Does.mk' ?_ (by with_reducible rfl)))

theorem State.takeTurn_does {W : Nat} {o : State} {s : State} (x1 : Nat) (x2 : Nat) (x3 : Nat) (hW : Within 0x798ba2000000000000000000000000000000000000000000000000fff07ff80370300fca00000000000000000000000000000000000010000001000000000000000000000000000000000000100001c127e00c0b000000001e7c10000000c00000000000000000000000000680000000020000000000000000000000000000000 W) (h : Does W o s) :
    Does W o (State.takeTurn s x1 x2 x3) := by
  have up := hW.up
  have ub := hW.ub
  unfold State.takeTurn
  repeat' first
    | with_reducible assumption
    | exact up _ (by decide)
    | exact ub _ (by decide)
    | exact fun _ => ub _ (by decide)
    | intro _
    | with_reducible (apply State.endTurn_does)
    | with_reducible (apply State.moveUnit_does)
    | with_reducible (apply Does.ite)
    | (fail_if_no_progress extract_lets)
    | (fail_if_no_progress (with_reducible refine Does.mk' ?_ (by with_reducible rfl)))
    | split
    | dsimp only

theorem State.nextTurn_does {W : Nat} {o : State} {s : State} (x1 : Nat) (x2 : Nat) (x3 : Nat) (x4 : List Nat) (hW : Within 0x798ba2000000000000000000000000000000000000000000000000fff07ff80370300fca00000000000000000000000000000000000010000001000000000000000000000000000000000000100001c127e00c0b000000001e7c10000000c00000000000000000000000000680000000020000000000000000000000000000000 W) (h : Does W o s) :
    Does W o (State.nextTurn s x1 x2 x3 x4) := by
  have up := hW.up
  have ub := hW.ub
  unfold State.nextTurn
  repeat' first
    | with_reducible assumption
    | exact up _ (by decide)
    | exact ub _ (by decide)
    | exact fun _ => ub _ (by decide)
    | intro _
    | with_reducible (apply State.takeTurn_does)
    | with_reducible (apply State.beginTurn_does)
    | with_reducible (apply Does.ite)
    | (fail_if_no_progress extract_lets)
    | (fail_if_no_progress (with_reducible refine Does.mk' ?_ (by with_reducible rfl)))

theorem schedulerMoveUnit_does {W : Nat} {o : State} (x0 : Nat) (x1 : Nat) {s : State} (hW : Within 0x798ba2000000000000000000000000000000000000000000000000fff07ff80370300fca00000000000000000000000000000000000010000001000000000000000000000000000000000000100001c127e00c0b000000001e7c10000000c00000000000000000000000000680000000020000000000000000000000000000000 W) (h : Does W o s) :
    Does W o (schedulerMoveUnit x0 x1 s) := by
  have up := hW.up
  have ub := hW.ub
  unfold schedulerMoveUnit
  repeat' first
    | with_reducible assumption
    | exact up _ (by decide)
    | exact ub _ (by decide)
    | exact fun _ => ub _ (by decide)
    | intro _
    | with_reducible (apply State.takeTurn_does)
    | with_reducible (apply State.nextTurn_does)
    | with_reducible (apply State.endTurn_does)
    | with_reducible (apply Does.ite)
    | (fail_if_no_progress extract_lets)
    | (fail_if_no_progress (with_reducible refine Does.mk' ?_ (by with_reducible rfl)))
    | split
    | dsimp only

theorem sealTimeout_does {W : Nat} {o : State} (x0 : Nat) {s : State} (hW : Within 0x7983aa000000000000000000000000000000000000000000000000fff07ff80370300fca00000000000000000000000000000000000010000001000000000000000000000000000000000000100001c127e00c0b000000001e7c00000000000000000000000000000000000680000000020000000000000000000000000200000 W) (h : Does W o s) :
    Does W o (sealTimeout x0 s) := by
  have up := hW.up
  have ub := hW.ub
  unfold sealTimeout
  repeat' first
    | with_reducible assumption
    | exact up _ (by decide)
    | exact ub _ (by decide)
    | exact fun _ => ub _ (by decide)
    | intro _
    | with_reducible (apply State.takeAll_does)
    | with_reducible (apply State.sealOpen_does)
    | with_reducible (apply State.advance_does)
    | with_reducible (apply Does.ite)
    | (fail_if_no_progress extract_lets)
    | (fail_if_no_progress (with_reducible refine Does.mk' ?_ (by with_reducible rfl)))

end Sys2Proof.Machine
end

