-- ==== Sys2Proof/Laws/DRegRead.lean ====
section
/-! SUPPORT. What the operations of RegRead can change. -/

set_option linter.unreachableTactic false
set_option linter.unusedTactic false
set_option linter.unusedVariables false
set_option Elab.async false

namespace Sys2Proof.Machine

theorem State.setBank_does {W : Nat} {o : State} {s : State} (x1 : Nat) (x2 : Fld) (x3 : Nat) (x4 : Nat) (hW : Within 0x80000000000000000000000000000000000000000000000000000000000000000000000000000000000000000000000000000000000000000000000000000000000000000000000000000000000000000000000000000000000000000000000000000000000000000000000000000000000000000000000000000000000 W) (h : Does W o s) :
    Does W o (State.setBank s x1 x2 x3 x4) := by
  have up := hW.up
  have ub := hW.ub
  have b1003 := ub 1003 (by decide)
  refine h.tables (Keeps.tables (Keeps.refl s) rfl rfl rfl rfl fun w => ?_) fun w => ⟨w, fun _ _ _ _ => rfl⟩
  simp only [State.wf, State.setBank, Bool.and_eq_true] at w ⊢
  exact ⟨⟨⟨⟨⟨w.1.1.1.1.1, smSet_wf _ _ _ w.1.1.1.1.2⟩, w.1.1.1.2⟩, w.1.1.2⟩, w.1.2⟩, w.2⟩

theorem State.privCase_does {W : Nat} {o : State} {s : State} (x1 : Nat) (x2 : Bool) (hW : Within 0x20000200000000000000000000000000000000000000000000000000001800003030000000000000000000000000000000000001800010000001000000000000000000000000000000000000000000000000000000000000000000000000000000000000000000000000000000000000000000000000000000000000000000000 W) (h : Does W o s) :
    Does W o (State.privCase s x1 x2) := by
  have up := hW.up
  have ub := hW.ub
  unfold State.privCase
  repeat' first
    | with_reducible assumption
    | exact up _ (by decide)
    | exact ub _ (by decide)
    | exact fun _ => ub _ (by decide)
    | intro _
    | with_reducible (apply State.raise_does)
    | with_reducible (apply State.inc_does)
    | with_reducible (apply Does.ite)
    | (fail_if_no_progress extract_lets)
    | (fail_if_no_progress (with_reducible refine Does.mk' ?_ (by with_reducible rfl)))
    | split
    | dsimp only

theorem State.served_does {W : Nat} {o : State} {s : State} (x1 : Nat) (x2 : Nat) (hW : Within 0x20000200000000000000000000000000000000000000000000000000001800003030000000000000000000000000000000000006000010000001000000000000000000000000000000000000000000000000000000000000000000000000000000000000000000000000000000000000000000000000000000000000000000000 W) (h : Does W o s) :
    Does W o (State.served s x1 x2) := by
  have up := hW.up
  have ub := hW.ub
  unfold State.served
  repeat' first
    | with_reducible assumption
    | exact up _ (by decide)
    | exact ub _ (by decide)
    | exact fun _ => ub _ (by decide)
    | intro _
    | with_reducible (apply State.inc64_does)
    | with_reducible (apply State.perf_does)
    | with_reducible (apply Does.ite)
    | (fail_if_no_progress extract_lets)
    | (fail_if_no_progress (with_reducible refine Does.mk' ?_ (by with_reducible rfl)))

theorem State.cyclesSeen_does {W : Nat} {o : State} {s : State} (x1 : Nat) (x2 : Nat) (hW : Within 0x40000000000000000000000000000000000000000000000000000000000000003001800000000000000000000000000000000000000000000000000000000000000000000000000000000000000000000000000000000000000000000000000000000000000000000000000000000000000000000000000000000000000000000 W) (h : Does W o s) :
    Does W o (State.cyclesSeen s x1 x2) := by
  have up := hW.up
  have ub := hW.ub
  unfold State.cyclesSeen
  repeat' first
    | with_reducible assumption
    | exact up _ (by decide)
    | exact ub _ (by decide)
    | exact fun _ => ub _ (by decide)
    | intro _
    | with_reducible (apply State.inc64_does)
    | with_reducible (apply State.fresh_does)
    | with_reducible (apply State.perfSet_does)
    | with_reducible (apply Does.ite)
    | with_reducible (apply Does.foldl)
    | with_reducible (apply Does.foldl_snd)
    | with_reducible (apply Does.foldl_snd2)
    | with_reducible (apply Does.foldl_fst)
    | (fail_if_no_progress extract_lets)
    | (fail_if_no_progress (with_reducible refine Does.mk' ?_ (by with_reducible rfl)))
    | (with_reducible (refine Does.snd (by assumption) ?_))
    | (with_reducible (refine Does.snd2 (by assumption) ?_))
    | (with_reducible (refine Does.fst (by assumption) ?_))
    | split
    | dsimp only
    | dsimp +zetaDelta only

theorem State.readField_does {W : Nat} {o : State} {s : State} (x1 : Nat) (x2 : Fld) (x3 : Nat) (hW : Within 0x40000080000000000000000000000000000000000000000000000000000000003001800000000000000000000000000000000000000000000000000000000000000000000000000000000000000000000000000000000000000000000000000000000000000000000000000000000000000000000000000000000000000000000 W) (h : Does W o s) :
    Does W o (State.readField s x1 x2 x3).2 := by
  have up := hW.up
  have ub := hW.ub
  unfold State.readField
  repeat' first
    | with_reducible assumption
    | exact up _ (by decide)
    | exact ub _ (by decide)
    | exact fun _ => ub _ (by decide)
    | intro _
    | with_reducible (apply State.cyclesSeen_does)
    | with_reducible (apply forEach_does)
    | with_reducible (apply State.setBank_does)
    | with_reducible (apply Does.ite)
    | (fail_if_no_progress extract_lets)
    | (fail_if_no_progress (with_reducible refine Does.mk' ?_ (by with_reducible rfl)))

theorem State.readFields_does {W : Nat} {o : State} {s : State} (x1 : Nat) (x2 : List (Fld × Nat)) (hW : Within 0x40000080000000000000000000000000000000000000000000000000000000003001800000000000000000000000000000000000000000000000000000000000000000000000000000000000000000000000000000000000000000000000000000000000000000000000000000000000000000000000000000000000000000000 W) (h : Does W o s) :
    Does W o (State.readFields s x1 x2).2 := by
  have up := hW.up
  have ub := hW.ub
  induction x2 generalizing s with
  | nil => exact h
  | cons e rest ih =>
    obtain ⟨f, i⟩ := e
    simp only [State.readFields]
    split
    · exact ih (State.readField_does _ _ _ (up _ (by decide)) h)
    · exact ih h

theorem State.vatReadStall_does {W : Nat} {o : State} {s : State} (x1 : Nat) (x2 : Nat) (hW : Within 0x60400200000000000000000000000000000000000000000000000000001800003030000000000000000000000000000000000000000010000001000000000000000000000000000000000000000000000000000000000000000000000000000000000000000000000000000000000000000000000000000000000000000000000 W) (h : Does W o s) :
    Does W o (State.vatReadStall s x1 x2) := by
  have up := hW.up
  have ub := hW.ub
  unfold State.vatReadStall
  repeat' first
    | with_reducible assumption
    | exact up _ (by decide)
    | exact ub _ (by decide)
    | exact fun _ => ub _ (by decide)
    | intro _
    | with_reducible (apply State.when_does)
    | with_reducible (apply State.fresh_does)
    | with_reducible (apply State.perf_does)
    | with_reducible (apply State.vatCycles_does)
    | with_reducible (apply Does.ite)
    | with_reducible (apply Does.foldl)
    | with_reducible (apply Does.foldl_snd)
    | with_reducible (apply Does.foldl_snd2)
    | with_reducible (apply Does.foldl_fst)
    | (fail_if_no_progress extract_lets)
    | (fail_if_no_progress (with_reducible refine Does.mk' ?_ (by with_reducible rfl)))
    | (with_reducible (refine Does.snd (by assumption) ?_))
    | (with_reducible (refine Does.snd2 (by assumption) ?_))
    | (with_reducible (refine Does.fst (by assumption) ?_))
    | split
    | dsimp only
    | dsimp +zetaDelta only

theorem State.readLoc_does {W : Nat} {o : State} {s : State} (x1 : Nat) (x2 : Loc) (hW : Within 0x60400280000000000000000000000000000000000000000000000000001800003031800000000000000000000000000000000007800010000001000000000000000000000000000000000000000000000000000000000000000000000000000000000000000000000000000000000000000000000000000000000000000000000 W) (h : Does W o s) :
    Does W o (State.readLoc s x1 x2).2 := by
  have up := hW.up
  have ub := hW.ub
  unfold State.readLoc
  repeat' first
    | with_reducible assumption
    | exact up _ (by decide)
    | exact ub _ (by decide)
    | exact fun _ => ub _ (by decide)
    | intro _
    | with_reducible (apply State.privCase_does)
    | with_reducible (apply State.served_does)
    | with_reducible (apply State.readFields_does)
    | with_reducible (apply State.vatReadStall_does)
    | with_reducible (apply Does.ite)
    | with_reducible (apply Does.foldl)
    | (fail_if_no_progress extract_lets)
    | (fail_if_no_progress (with_reducible refine Does.mk' ?_ (by with_reducible rfl)))
    | split
    | dsimp +zetaDelta only

theorem State.readDword_does {W : Nat} {o : State} {s : State} (x1 : Nat) (x2 : Nat) {r : _} (hW : Within 0x60400280000000000000000000000000000000000000000000000000001800003031800000000000000000000000000000000007800010000001000000000000000000000000000000000000000000000000000000000000000000000000000000000000000000000000000000000000000000000000000000000000000000000 W) (h : Does W o s) (e : State.readDword s x1 x2 = some r) :
    Does W o r.2 := by
  have up := hW.up
  have ub := hW.ub
  simp only [State.readDword, Option.map_eq_some_iff] at e
  obtain ⟨l, _, e⟩ := e
  subst e
  exact State.readLoc_does _ _ (up _ (by decide)) h

theorem State.readWords_does {W : Nat} {o : State} {s : State} (x1 : Nat) (x2 : Nat) (x3 : Nat) {r : _} (hW : Within 0x60400280000000000000000000000000000000000000000000000000001800003031800000000000000000000000000000000007800010000001000000000000000000000000000000000000000000000000000000000000000000000000000000000000000000000000000000000000000000000000000000000000000000000 W) (h : Does W o s) (e : State.readWords s x1 x2 x3 = some r) :
    Does W o r.2 := by
  have up := hW.up
  have ub := hW.ub
  induction x3 generalizing s x2 r with
  | zero => cases e; exact h
  | succ k ih =>
    simp only [State.readWords] at e
    split at e
    · cases e
    · rename_i v t e1
      split at e
      · cases e
      · rename_i vs u e2
        cases e
        exact ih (r := (vs, u)) _ (State.readDword_does _ _ (up _ (by decide)) h e1) e2

theorem State.unsupported_does {W : Nat} {o : State} {s : State} (hW : Within 0x20000200000000000000000000000000000000000000000000000000001800003030000000000000000000000000000000000000080010000001000000000000000000000000000000000000000000000000000000000000000000000000000000000000000000000000000000000000000000000000000000000000000000000 W) (h : Does W o s) :
    Does W o (State.unsupported s) := by
  have up := hW.up
  have ub := hW.ub
  unfold State.unsupported
  repeat' first
    | with_reducible assumption
    | exact up _ (by decide)
    | exact ub _ (by decide)
    | exact fun _ => ub _ (by decide)
    | intro _
    | with_reducible (apply State.raise_does)
    | with_reducible (apply State.inc_does)
    | with_reducible (apply Does.ite)
    | (fail_if_no_progress extract_lets)
    | (fail_if_no_progress (with_reducible refine Does.mk' ?_ (by with_reducible rfl)))

theorem State.hostRead_does {W : Nat} {o : State} {s : State} (x1 : Nat) (x2 : Nat) (x3 : Nat) (hW : Within 0x60400280000000000000000000000000000000000000000000000000001800003031800000000000000000000000000000000007880010000001000000000000000000000000000000000000000000000000000000000000000000000000000000000000000000000000000000000000000000000000000000000000000000000 W) (h : Does W o s) :
    Does W o (State.hostRead s x1 x2 x3) := by
  have up := hW.up
  have ub := hW.ub
  unfold State.hostRead
  repeat' first
    | with_reducible assumption
    | exact up _ (by decide)
    | exact ub _ (by decide)
    | exact fun _ => ub _ (by decide)
    | intro _
    | with_reducible (apply State.emit_does)
    | with_reducible (apply State.unsupported_does)
    | with_reducible (refine Does.snd rfl (State.readWords_does _ _ _ ?_ ?_ (by assumption)))
    | with_reducible (apply Does.ite)
    | (fail_if_no_progress extract_lets)
    | (fail_if_no_progress (with_reducible refine Does.mk' ?_ (by with_reducible rfl)))
    | split
    | dsimp only

theorem ltSnapRead_does {W : Nat} {o : State} (x0 : Nat) {s : State} (hW : Within 0x60400280000000000000000000000000000000000000000000000000001800003031800000000000000000000000000000000007880010000001000000000000000000000000000000000000000000000000000000000000000000000000000000000000000000000000000000000000000000000000000000000000000000000 W) (h : Does W o s) :
    Does W o (ltSnapRead x0 s) := by
  have up := hW.up
  have ub := hW.ub
  unfold ltSnapRead
  repeat' first
    | with_reducible assumption
    | exact up _ (by decide)
    | exact ub _ (by decide)
    | exact fun _ => ub _ (by decide)
    | intro _
    | with_reducible (apply State.hostRead_does)
    | with_reducible (apply Does.ite)
    | (fail_if_no_progress extract_lets)
    | (fail_if_no_progress (with_reducible refine Does.mk' ?_ (by with_reducible rfl)))

theorem counterLoRead_does {W : Nat} {o : State} (x0 : Nat) (x1 : Nat) (x2 : Nat) {s : State} (hW : Within 0x60400280000000000000000000000000000000000000000000000000001800003031800000000000000000000000000000000007880010000001000000000000000000000000000000000000000000000000000000000000000000000000000000000000000000000000000000000000000000000000000000000000000000000 W) (h : Does W o s) :
    Does W o (counterLoRead x0 x1 x2 s) := by
  have up := hW.up
  have ub := hW.ub
  unfold counterLoRead
  repeat' first
    | with_reducible assumption
    | exact up _ (by decide)
    | exact ub _ (by decide)
    | exact fun _ => ub _ (by decide)
    | intro _
    | with_reducible (apply State.hostRead_does)
    | with_reducible (apply Does.ite)
    | (fail_if_no_progress extract_lets)
    | (fail_if_no_progress (with_reducible refine Does.mk' ?_ (by with_reducible rfl)))

theorem nowRead_does {W : Nat} {o : State} (x0 : Nat) {s : State} (hW : Within 0x60400280000000000000000000000000000000000000000000000000001800003031800000000000000000000000000000000007880010000001000000000000000000000000000000000000000000000000000000000000000000000000000000000000000000000000000000000000000000000000000000000000000000000 W) (h : Does W o s) :
    Does W o (nowRead x0 s) := by
  have up := hW.up
  have ub := hW.ub
  unfold nowRead
  repeat' first
    | with_reducible assumption
    | exact up _ (by decide)
    | exact ub _ (by decide)
    | exact fun _ => ub _ (by decide)
    | intro _
    | with_reducible (apply State.hostRead_does)
    | with_reducible (apply Does.ite)
    | (fail_if_no_progress extract_lets)
    | (fail_if_no_progress (with_reducible refine Does.mk' ?_ (by with_reducible rfl)))

theorem unsupportedRequest_does {W : Nat} {o : State} (x0 : Nat) {s : State} (hW : Within 0x20000200000000000000000000000000000000000000000000000000001800003030000000000000000000000000000000000000080010000001000000000000000000000000000000000000000000000000000000000000000000000000000000000000000000000000000000000000000000000000000000000000000000000 W) (h : Does W o s) :
    Does W o (unsupportedRequest x0 s) := by
  have up := hW.up
  have ub := hW.ub
  unfold unsupportedRequest
  repeat' first
    | with_reducible assumption
    | exact up _ (by decide)
    | exact ub _ (by decide)
    | exact fun _ => ub _ (by decide)
    | intro _
    | with_reducible (apply State.emit_does)
    | with_reducible (apply State.unsupported_does)
    | with_reducible (apply Does.ite)
    | (fail_if_no_progress extract_lets)
    | (fail_if_no_progress (with_reducible refine Does.mk' ?_ (by with_reducible rfl)))

end Sys2Proof.Machine
end

