-- ==== Sys2Proof/Laws/DSerial.lean ====
section
/-! SUPPORT. What the operations of Serial can change. -/

set_option linter.unreachableTactic false
set_option linter.unusedTactic false
set_option linter.unusedVariables false
set_option Elab.async false

namespace Sys2Proof.Machine

theorem refMonitor_does {W : Nat} {o : State} (x0 : Int) (x1 : Bool) {s : State} (hW : Within 0x2989a2000000000000000000000000000000000000000000000000fff07ff80370300fca00000000000000000000018000000000000010000001000000000000000000000000000000000000000000000000000000000000060400000000000000000000000000000000000680000000020000000000000000000000000000000 W) (h : Does W o s) :
    Does W o (refMonitor x0 x1 s) := by
  have up := hW.up
  have ub := hW.ub
  have b1015 := ub 1015 (by decide)
  unfold refMonitor
  repeat' first
    | with_reducible assumption
    | exact up _ (by decide)
    | exact ub _ (by decide)
    | exact fun _ => ub _ (by decide)
    | intro _
    | with_reducible (apply State.wrS_does)
    | with_reducible (apply State.fault_does)
    | with_reducible (apply State.raise_does)
    | with_reducible (apply State.wr_does)
    | with_reducible (apply Does.ite)
    | (fail_if_no_progress extract_lets)
    | (fail_if_no_progress (with_reducible refine Does.mk' ?_ (by with_reducible rfl)))

theorem txEqWrite_does {W : Nat} {o : State} (x0 : Nat) (x1 : Nat) (x2 : Nat) (x3 : Nat) {s : State} (hW : Within 0xf0000000000000000000000000000000000000000000000000000000000000000000000000000000000000000000000000000000000000000000000000000000000000000000000000000000000000000000000 W) (h : Does W o s) :
    Does W o (txEqWrite x0 x1 x2 x3 s) := by
  have up := hW.up
  have ub := hW.ub
  unfold txEqWrite
  repeat' first
    | with_reducible assumption
    | exact up _ (by decide)
    | exact ub _ (by decide)
    | exact fun _ => ub _ (by decide)
    | intro _
    | with_reducible (apply State.wr_does)
    | with_reducible (apply Does.ite)
    | (fail_if_no_progress extract_lets)
    | (fail_if_no_progress (with_reducible refine Does.mk' ?_ (by with_reducible rfl)))

theorem State.startRetrain_does {W : Nat} {o : State} {s : State} (x1 : Nat) (hW : Within 0x20280200000000000000000000000000000000000000000000000000001800003030000000000302000680000002000000000000000010000001000000000000000000000000000000000000000000000000000000000000000000000000000000000000042c00800000000000000000000000000000000000000000000000000 W) (h : Does W o s) :
    Does W o (State.startRetrain s x1) := by
  have up := hW.up
  have ub := hW.ub
  unfold State.startRetrain
  repeat' first
    | with_reducible assumption
    | exact up _ (by decide)
    | exact ub _ (by decide)
    | exact fun _ => ub _ (by decide)
    | intro _
    | with_reducible (apply State.setSer_does)
    | with_reducible (apply State.laneChanged_does)
    | with_reducible (apply State.raise_does)
    | with_reducible (apply State.wr_does)
    | with_reducible (apply Does.ite)
    | (fail_if_no_progress extract_lets)
    | (fail_if_no_progress (with_reducible refine Does.mk' ?_ (by with_reducible rfl)))

theorem State.askRetrain_does {W : Nat} {o : State} {s : State} (x1 : Nat) (hW : Within 0x20a80200000000000000000000000000000000000000000000000000001800003030003a00000302000680000002020000000000000010000001000000000000000000000000000000000000000000000000000000000000000000000000000000000000042c00800000000000000000000000000000000000000000000000000 W) (h : Does W o s) :
    Does W o (State.askRetrain s x1) := by
  have up := hW.up
  have ub := hW.ub
  unfold State.askRetrain
  repeat' first
    | with_reducible assumption
    | exact up _ (by decide)
    | exact ub _ (by decide)
    | exact fun _ => ub _ (by decide)
    | intro _
    | with_reducible (apply State.setSer_does)
    | with_reducible (apply State.startRetrain_does)
    | with_reducible (apply State.askLeave_does)
    | with_reducible (apply State.raise_does)
    | with_reducible (apply State.inc_does)
    | with_reducible (apply Does.ite)
    | (fail_if_no_progress extract_lets)
    | (fail_if_no_progress (with_reducible refine Does.mk' ?_ (by with_reducible rfl)))
    | (with_reducible (refine Does.snd (by assumption) ?_))
    | (with_reducible (refine Does.fst (by assumption) ?_))
    | split
    | dsimp only
    | dsimp +zetaDelta only

theorem retrain_does {W : Nat} {o : State} (x0 : Nat) {s : State} (hW : Within 0x20a80200000000000000000000000000000000000000000000000000001800003030003a00000302000680000002020000000000000010000001000000000000000000000000000000000000000000000000000000000000000000000000000000000000042c00800000000000000000000000000000000000000000000000000 W) (h : Does W o s) :
    Does W o (retrain x0 s) := by
  have up := hW.up
  have ub := hW.ub
  unfold retrain
  repeat' first
    | with_reducible assumption
    | exact up _ (by decide)
    | exact ub _ (by decide)
    | exact fun _ => ub _ (by decide)
    | intro _
    | with_reducible (apply State.askRetrain_does)
    | with_reducible (apply Does.ite)
    | (fail_if_no_progress extract_lets)
    | (fail_if_no_progress (with_reducible refine Does.mk' ?_ (by with_reducible rfl)))

theorem retrainSnrTrigger_does {W : Nat} {o : State} (x0 : Nat) (x1 : Nat) {s : State} (hW : Within 0x20a80200000000000000000000000000000000000000000000000000001800003030003a00000302000680000102020000000000000010000001000000000000000000000000000000000000000000000000000000000000000000000000000000000000042c00800000000000000000000000000000000000000000000000000 W) (h : Does W o s) :
    Does W o (retrainSnrTrigger x0 x1 s) := by
  have up := hW.up
  have ub := hW.ub
  unfold retrainSnrTrigger
  repeat' first
    | with_reducible assumption
    | exact up _ (by decide)
    | exact ub _ (by decide)
    | exact fun _ => ub _ (by decide)
    | intro _
    | with_reducible (apply State.wr_does)
    | with_reducible (apply State.askRetrain_does)
    | with_reducible (apply Does.ite)
    | (fail_if_no_progress extract_lets)
    | (fail_if_no_progress (with_reducible refine Does.mk' ?_ (by with_reducible rfl)))

theorem rtRefusedRetry_does {W : Nat} {o : State} (x0 : Nat) {s : State} (hW : Within 0x20a80a00000000000000000000000000000000000000000000000000001800003030003a00000302000680000002020000000000000010000001000000000000000000000000000000000000000000000000000000000000000000000000000000000000042c00800000000000000000000000000000000000000000000200000 W) (h : Does W o s) :
    Does W o (rtRefusedRetry x0 s) := by
  have up := hW.up
  have ub := hW.ub
  unfold rtRefusedRetry
  repeat' first
    | with_reducible assumption
    | exact up _ (by decide)
    | exact ub _ (by decide)
    | exact fun _ => ub _ (by decide)
    | intro _
    | with_reducible (apply State.askRetrain_does)
    | with_reducible (apply State.advance_does)
    | with_reducible (apply Does.ite)
    | (fail_if_no_progress extract_lets)
    | (fail_if_no_progress (with_reducible refine Does.mk' ?_ (by with_reducible rfl)))
    | split
    | dsimp only

theorem rxFreezeWrite_does {W : Nat} {o : State} (x0 : Nat) (x1 : Bool) {s : State} (hW : Within 0x2000020000000000000000000000000000000000000000000000000000180000303000000000000000000000000a000000000000000010000001000000000000000000000000000000000000000000000000000000000000000000000000000000000000000000000000000000000000000000000000000000000000000000000 W) (h : Does W o s) :
    Does W o (rxFreezeWrite x0 x1 s) := by
  have up := hW.up
  have ub := hW.ub
  unfold rxFreezeWrite
  repeat' first
    | with_reducible assumption
    | exact up _ (by decide)
    | exact ub _ (by decide)
    | exact fun _ => ub _ (by decide)
    | intro _
    | with_reducible (apply State.flag_does)
    | with_reducible (apply State.wr_does)
    | with_reducible (apply State.raise_does)
    | with_reducible (apply Does.ite)
    | (fail_if_no_progress extract_lets)
    | (fail_if_no_progress (with_reducible refine Does.mk' ?_ (by with_reducible rfl)))

theorem adaptDone_does {W : Nat} {o : State} (x0 : Nat) (x1 : Nat) (x2 : Nat) {s : State} (hW : Within 0x20a80200000000000000000000000000000000000000000000000000001800003030000a00000302000681000302000000000000000010000001000000000000000000000000000000000000000000000000000000000000000000000000000000000000042c00800000000000000000000000000000000000000000000000000 W) (h : Does W o s) :
    Does W o (adaptDone x0 x1 x2 s) := by
  have up := hW.up
  have ub := hW.ub
  unfold adaptDone
  repeat' first
    | with_reducible assumption
    | exact up _ (by decide)
    | exact ub _ (by decide)
    | exact fun _ => ub _ (by decide)
    | intro _
    | with_reducible (apply State.wr_does)
    | with_reducible (apply State.setSer_does)
    | with_reducible (apply State.inc_does)
    | with_reducible (apply State.giveLeave_does)
    | with_reducible (apply State.laneChanged_does)
    | with_reducible (apply State.raise_does)
    | with_reducible (apply Does.ite)
    | (fail_if_no_progress extract_lets)
    | (fail_if_no_progress (with_reducible refine Does.mk' ?_ (by with_reducible rfl)))

theorem sigDetChange_does {W : Nat} {o : State} (x0 : Nat) (x1 : Bool) {s : State} (hW : Within 0x1000000000000000000000000000000000000000000000000000000000000000000000000000000000000000000000000000000000000000000000000000000000000000000000000000000000000000000000 W) (h : Does W o s) :
    Does W o (sigDetChange x0 x1 s) := by
  have up := hW.up
  have ub := hW.ub
  unfold sigDetChange
  repeat' first
    | with_reducible assumption
    | exact up _ (by decide)
    | exact ub _ (by decide)
    | exact fun _ => ub _ (by decide)
    | intro _
    | with_reducible (apply State.flag_does)
    | with_reducible (apply Does.ite)
    | (fail_if_no_progress extract_lets)
    | (fail_if_no_progress (with_reducible refine Does.mk' ?_ (by with_reducible rfl)))

theorem laneSleepWrite_does {W : Nat} {o : State} (x0 : Nat) (x1 : Bool) (x2 : Bool) {s : State} (hW : Within 0x20a80200000000000000000000000000000000000000000000000000001800003030000f80000302000680000002cc0000000000000010000001000000000000000000000000000000000000000000000000000000000000000000000000000000000000042c00800000000000000000000000000000000000000000000000000 W) (h : Does W o s) :
    Does W o (laneSleepWrite x0 x1 x2 s) := by
  have up := hW.up
  have ub := hW.ub
  unfold laneSleepWrite
  repeat' first
    | with_reducible assumption
    | exact up _ (by decide)
    | exact ub _ (by decide)
    | exact fun _ => ub _ (by decide)
    | intro _
    | with_reducible (apply State.laneSync_does)
    | with_reducible (apply State.flag_does)
    | with_reducible (apply Does.ite)
    | (fail_if_no_progress extract_lets)
    | (fail_if_no_progress (with_reducible refine Does.mk' ?_ (by with_reducible rfl)))

theorem injGo_does {W : Nat} {o : State} (x0 : Nat) {s : State} (hW : Within 0x20000000000000000000000000000000000000000000000000000000000000000000000000000000000000010000000000000000000000000000000000000000000000000000000000000000000000000000000000000000000000000000000000000000000000000000000000000000000000000000000000000000000000000 W) (h : Does W o s) :
    Does W o (injGo x0 s) := by
  have up := hW.up
  have ub := hW.ub
  unfold injGo
  repeat' first
    | with_reducible assumption
    | exact up _ (by decide)
    | exact ub _ (by decide)
    | exact fun _ => ub _ (by decide)
    | intro _
    | with_reducible (apply State.wr_does)
    | with_reducible (apply State.emit_does)
    | with_reducible (apply Does.ite)
    | (fail_if_no_progress extract_lets)
    | (fail_if_no_progress (with_reducible refine Does.mk' ?_ (by with_reducible rfl)))

theorem injRateTick_does {W : Nat} {o : State} (x0 : Nat) {s : State} (hW : Within 0x20000000000000000000000000000000000000000000000000000000000000000000000000000000000000000000000000000000000000000000000000000000000000000000000000000000000000000000000000000000000000000000000000000000000000000000000000000000000000000000000000000000000000000 W) (h : Does W o s) :
    Does W o (injRateTick x0 s) := by
  have up := hW.up
  have ub := hW.ub
  unfold injRateTick
  repeat' first
    | with_reducible assumption
    | exact up _ (by decide)
    | exact ub _ (by decide)
    | exact fun _ => ub _ (by decide)
    | intro _
    | with_reducible (apply State.emit_does)
    | with_reducible (apply Does.ite)
    | (fail_if_no_progress extract_lets)
    | (fail_if_no_progress (with_reducible refine Does.mk' ?_ (by with_reducible rfl)))

theorem State.checked_does {W : Nat} {o : State} {s : State} (x1 : Nat) (x2 : Nat) (x3 : Nat) (hW : Within 0x780000000000000000000000000000000000000000000000000000000000000000000000000000000000000000000000000000000000000000000000000000000000000000000000000000000000000000000000000 W) (h : Does W o s) :
    Does W o (State.checked s x1 x2 x3) := by
  have up := hW.up
  have ub := hW.ub
  unfold State.checked
  repeat' first
    | with_reducible assumption
    | exact up _ (by decide)
    | exact ub _ (by decide)
    | exact fun _ => ub _ (by decide)
    | intro _
    | with_reducible (apply State.inc64_does)
    | with_reducible (apply Does.ite)
    | (fail_if_no_progress extract_lets)
    | (fail_if_no_progress (with_reducible refine Does.mk' ?_ (by with_reducible rfl)))

theorem checkerLockChange_does {W : Nat} {o : State} (x0 : Nat) (x1 : Bool) (x2 : Nat) (x3 : Nat) {s : State} (hW : Within 0x20000200000000000000000000000000000000000000000000000000001800003030000000000000000000f82000000000000000000010000001000000000000000000000000000000000000000000000000000000000000000000000000000000000000000000000000000000000000000000000000000000000000000000000 W) (h : Does W o s) :
    Does W o (checkerLockChange x0 x1 x2 x3 s) := by
  have up := hW.up
  have ub := hW.ub
  unfold checkerLockChange
  repeat' first
    | with_reducible assumption
    | exact up _ (by decide)
    | exact ub _ (by decide)
    | exact fun _ => ub _ (by decide)
    | intro _
    | with_reducible (apply State.raise_does)
    | with_reducible (apply State.wr_does)
    | with_reducible (apply State.checked_does)
    | with_reducible (apply State.inc_does)
    | with_reducible (apply Does.ite)
    | (fail_if_no_progress extract_lets)
    | (fail_if_no_progress (with_reducible refine Does.mk' ?_ (by with_reducible rfl)))
    | split
    | dsimp only

end Sys2Proof.Machine
end

