-- ==== Sys2Proof/Laws/DTim.lean ====
section
/-! SUPPORT. What the operations of Tim can change. -/

set_option linter.unreachableTactic false
set_option linter.unusedTactic false
set_option linter.unusedVariables false
set_option Elab.async false

namespace Sys2Proof.Machine

theorem tbModeWrite_does {W : Nat} {o : State} (x0 : Nat) (x1 : Nat) {s : State} (hW : Within 0x20100200000000000000000000000000000000000000000000000000001800003030000000000000000000000000000000000000000010000001000000000000000000280000000000000000000000000000000000000000000000000000000000000000000000000000000000000000000000000000000000000000000000000 W) (h : Does W o s) :
    Does W o (tbModeWrite x0 x1 s) := by
  have up := hW.up
  have ub := hW.ub
  unfold tbModeWrite
  repeat' first
    | with_reducible assumption
    | exact up _ (by decide)
    | exact ub _ (by decide)
    | exact fun _ => ub _ (by decide)
    | intro _
    | with_reducible (apply State.wr_does)
    | with_reducible (apply State.tbRebase_does)
    | with_reducible (apply State.tbTo_does)
    | with_reducible (apply State.setTb_does)
    | with_reducible (apply Does.ite)
    | (fail_if_no_progress extract_lets)
    | (fail_if_no_progress (with_reducible refine Does.mk' ?_ (by with_reducible rfl)))

theorem State.ifLocal_does {W : Nat} {o : State} {s : State} (x1 : Nat) (f2 : State → State) (hW : Within 0x800000000000000000000000000000000000000000000000000000000000000000000000000000000000000000000000000000000000000000000000000 W) (h : Does W o s) (hf2 : ∀ y0, Does W o y0 → Does W o (f2 y0)) :
    Does W o (State.ifLocal s x1 f2) := by
  have up := hW.up
  have ub := hW.ub
  unfold State.ifLocal
  repeat' first
    | with_reducible assumption
    | exact up _ (by decide)
    | exact ub _ (by decide)
    | exact fun _ => ub _ (by decide)
    | intro _
    | with_reducible (apply State.wr_does)
    | with_reducible (apply hf2)
    | with_reducible (apply Does.ite)
    | (fail_if_no_progress extract_lets)
    | (fail_if_no_progress (with_reducible refine Does.mk' ?_ (by with_reducible rfl)))

theorem setGo_does {W : Nat} {o : State} (x0 : Nat) {s : State} (hW : Within 0x20180200000000000000000000000000000000000000000000000000001800003030000000000000000000000000000000000000000010000001000000000000000000800000000000000000000000000000000000700000000000000000000000000000000000000000000000000000000000000000000000000000000000000 W) (h : Does W o s) :
    Does W o (setGo x0 s) := by
  have up := hW.up
  have ub := hW.ub
  unfold setGo
  repeat' first
    | with_reducible assumption
    | exact up _ (by decide)
    | exact ub _ (by decide)
    | exact fun _ => ub _ (by decide)
    | intro _
    | with_reducible (apply State.ifLocal_does)
    | with_reducible (apply State.gatesMoved_does)
    | with_reducible (apply State.tbSet_does)
    | with_reducible (apply Does.ite)
    | (fail_if_no_progress extract_lets)
    | (fail_if_no_progress (with_reducible refine Does.mk' ?_ (by with_reducible rfl)))

theorem adjGo_does {W : Nat} {o : State} (x0 : Nat) {s : State} (hW : Within 0x100000000000000000000000000000000000000000000000000000000000000000000000000000000000000000000000000000000000000000000000000000000000800000000000000000000000000000000000000000000000000000000000000000000000000000000000000000000000000000000000000000000000000 W) (h : Does W o s) :
    Does W o (adjGo x0 s) := by
  have up := hW.up
  have ub := hW.ub
  unfold adjGo
  repeat' first
    | with_reducible assumption
    | exact up _ (by decide)
    | exact ub _ (by decide)
    | exact fun _ => ub _ (by decide)
    | intro _
    | with_reducible (apply State.ifLocal_does)
    | with_reducible (apply State.tbSlew_does)
    | with_reducible (apply Does.ite)
    | (fail_if_no_progress extract_lets)
    | (fail_if_no_progress (with_reducible refine Does.mk' ?_ (by with_reducible rfl)))

theorem capGo_does {W : Nat} {o : State} {s : State} (hW : Within 0x20100200000000000000000000000000000000000000000000000000001800003030000000000000000000000000000000000000000010000001000000000000700001000000200000000000000000000000000000000000000000000000000000000000000000000000000000000000000000000000000000000000000000000 W) (h : Does W o s) :
    Does W o (capGo s) := by
  have up := hW.up
  have ub := hW.ub
  unfold capGo
  repeat' first
    | with_reducible assumption
    | exact up _ (by decide)
    | exact ub _ (by decide)
    | exact fun _ => ub _ (by decide)
    | intro _
    | with_reducible (apply State.capture_does)
    | with_reducible (apply Does.ite)
    | (fail_if_no_progress extract_lets)
    | (fail_if_no_progress (with_reducible refine Does.mk' ?_ (by with_reducible rfl)))

theorem State.sampleIn_does {W : Nat} {o : State} {s : State} (x1 : Nat) (x2 : Int) (hW : Within 0x100000000000000000000000000000000000000000000000000000000000000000000000000000000000000000000000000000000000000000000000000000000000000000000000000000000000000000000000000000000000000000000000000000000000000000000000000000000000000000000000000000000000000 W) (h : Does W o s) :
    Does W o (State.sampleIn s x1 x2) := by
  have up := hW.up
  have ub := hW.ub
  unfold State.sampleIn
  repeat' first
    | with_reducible assumption
    | exact up _ (by decide)
    | exact ub _ (by decide)
    | exact fun _ => ub _ (by decide)
    | intro _
    | with_reducible (apply State.setTb_does)
    | with_reducible (apply Does.ite)
    | (fail_if_no_progress extract_lets)
    | (fail_if_no_progress (with_reducible refine Does.mk' ?_ (by with_reducible rfl)))

theorem State.servo_does {W : Nat} {o : State} {s : State} (x1 : Nat) (x2 : Int) (hW : Within 0x100000000000000000000000000000000000000000000000000000000000000000000000000000000000000000000000000000000000000000000000000000000400000000000000000000000000000000000000000000000000000000000000000000000000000000000000000000000000000000000000000000000000000 W) (h : Does W o s) :
    Does W o (State.servo s x1 x2) := by
  have up := hW.up
  have ub := hW.ub
  unfold State.servo
  repeat' first
    | with_reducible assumption
    | exact up _ (by decide)
    | exact ub _ (by decide)
    | exact fun _ => ub _ (by decide)
    | intro _
    | with_reducible (apply State.tbFreq_does)
    | with_reducible (apply State.tbSlew_does)
    | with_reducible (apply Does.ite)
    | (fail_if_no_progress extract_lets)
    | (fail_if_no_progress (with_reducible refine Does.mk' ?_ (by with_reducible rfl)))

theorem State.sampleState_does {W : Nat} {o : State} {s : State} (x1 : Nat) (x2 : Int) (x3 : Bool) (hW : Within 0x20100200000000000000000000000000000000000000000000000000001800003030000000000000000000000000000000000000000010000001000000000000000000200000000000000000000000000000000000000000000000000000000000000000000000000000000000000000000000000000000000000000000000000 W) (h : Does W o s) :
    Does W o (State.sampleState s x1 x2 x3) := by
  have up := hW.up
  have ub := hW.ub
  unfold State.sampleState
  repeat' first
    | with_reducible assumption
    | exact up _ (by decide)
    | exact ub _ (by decide)
    | exact fun _ => ub _ (by decide)
    | intro _
    | with_reducible (apply State.tbTo_does)
    | with_reducible (apply State.setTb_does)
    | with_reducible (apply Does.ite)
    | (fail_if_no_progress extract_lets)
    | (fail_if_no_progress (with_reducible refine Does.mk' ?_ (by with_reducible rfl)))

theorem State.useSample_does {W : Nat} {o : State} {s : State} (x1 : Nat) (x2 : Int) (hW : Within 0x20180200000000000000000000000000000000000000000000000000001800003030000000000000000000000000000000000000000010000001000000020000001400600000000000000000000000000000000000700000000000000000000000000000000000000000000000000000000000000000000000000000000000000 W) (h : Does W o s) :
    Does W o (State.useSample s x1 x2) := by
  have up := hW.up
  have ub := hW.ub
  have b1016 := ub 1016 (by decide)
  unfold State.useSample
  repeat' first
    | with_reducible assumption
    | exact up _ (by decide)
    | exact ub _ (by decide)
    | exact fun _ => ub _ (by decide)
    | intro _
    | with_reducible (apply State.wrS_does)
    | with_reducible (apply State.gatesMoved_does)
    | with_reducible (apply State.tbStepBy_does)
    | with_reducible (apply State.servo_does)
    | with_reducible (apply State.sampleState_does)
    | with_reducible (apply State.setTb_does)
    | with_reducible (apply Does.ite)
    | (fail_if_no_progress extract_lets)
    | (fail_if_no_progress (with_reducible refine Does.mk' ?_ (by with_reducible rfl)))

theorem tbSample_does {W : Nat} {o : State} (x0 : Nat) {s : State} (hW : Within 0x20180200000000000000000000000000000000000000000000000000001800003030000000000000000000000000000000000000000010000001000000020000001400600000000000000000000000000000000000700000000000000000000000000000000000000000000000000000000000000000000000000000000000000 W) (h : Does W o s) :
    Does W o (tbSample x0 s) := by
  have up := hW.up
  have ub := hW.ub
  unfold tbSample
  repeat' first
    | with_reducible assumption
    | exact up _ (by decide)
    | exact ub _ (by decide)
    | exact fun _ => ub _ (by decide)
    | intro _
    | with_reducible (apply State.useSample_does)
    | with_reducible (apply State.setTb_does)
    | with_reducible (apply Does.ite)
    | (fail_if_no_progress extract_lets)
    | (fail_if_no_progress (with_reducible refine Does.mk' ?_ (by with_reducible rfl)))
    | split
    | dsimp only

theorem State.pairTo_does {W : Nat} {o : State} {s : State} (x1 : Bool) (hW : Within 0x20100200000000000000000000000000000000000000000000000000001800003030000000000000000000000000000000000000000010000001000000000000000000000021000000000000000000000000000000000000000000000000000000000000000000000000000000000000000000000000000000000000000000000 W) (h : Does W o s) :
    Does W o (State.pairTo s x1) := by
  have up := hW.up
  have ub := hW.ub
  have b1016 := ub 1016 (by decide)
  unfold State.pairTo
  repeat' first
    | with_reducible assumption
    | exact up _ (by decide)
    | exact ub _ (by decide)
    | exact fun _ => ub _ (by decide)
    | intro _
    | with_reducible (apply State.raise_does)
    | with_reducible (apply State.inc_does)
    | with_reducible (apply State.flag_does)
    | with_reducible (apply Does.ite)
    | (fail_if_no_progress extract_lets)
    | (fail_if_no_progress (with_reducible refine Does.mk' ?_ (by with_reducible rfl)))

theorem State.pairSwitch_does {W : Nat} {o : State} {s : State} (hW : Within 0x20100200000000000000000000000000000000000000000000000000001800003030000000000000000000000000000000000000000010000001000000000000000000000021000000000000000000000000000000000000000000000000000000000000000000000000000000000000000000000000000000000000000000000 W) (h : Does W o s) :
    Does W o (State.pairSwitch s) := by
  have up := hW.up
  have ub := hW.ub
  unfold State.pairSwitch
  repeat' first
    | with_reducible assumption
    | exact up _ (by decide)
    | exact ub _ (by decide)
    | exact fun _ => ub _ (by decide)
    | intro _
    | with_reducible (apply State.pairTo_does)
    | with_reducible (apply Does.ite)
    | (fail_if_no_progress extract_lets)
    | (fail_if_no_progress (with_reducible refine Does.mk' ?_ (by with_reducible rfl)))
    | split
    | dsimp only

theorem State.followSamples_does {W : Nat} {o : State} {s : State} (hW : Within 0x100000000000000000000000000000000000000000000000000000000000000000000000000000000000000000000000000000000000000000000000000000000000000000000000000000000000000000000000000000000000000000000000000000000000000000000000000000000000000000000000000000000000000 W) (h : Does W o s) :
    Does W o (State.followSamples s) := by
  have up := hW.up
  have ub := hW.ub
  unfold State.followSamples
  repeat' first
    | with_reducible assumption
    | exact up _ (by decide)
    | exact ub _ (by decide)
    | exact fun _ => ub _ (by decide)
    | intro _
    | with_reducible (apply forEach_does)
    | with_reducible (apply State.sampleIn_does)
    | with_reducible (apply Does.ite)
    | (fail_if_no_progress extract_lets)
    | (fail_if_no_progress (with_reducible refine Does.mk' ?_ (by with_reducible rfl)))

theorem syncToExpiry_does {W : Nat} {o : State} (x0 : Nat) {s : State} (hW : Within 0x20100a00000000000000000000000000000000000000000000000000001800003030000000000000000000000000000000000000000010000001000000010000000400200000000000000000000000000000000000000000000000000000000000000000000000000000000000000000000000000000000000000000000200000 W) (h : Does W o s) :
    Does W o (syncToExpiry x0 s) := by
  have up := hW.up
  have ub := hW.ub
  unfold syncToExpiry
  repeat' first
    | with_reducible assumption
    | exact up _ (by decide)
    | exact ub _ (by decide)
    | exact fun _ => ub _ (by decide)
    | intro _
    | with_reducible (apply State.advance_does)
    | with_reducible (apply State.inc_does)
    | with_reducible (apply State.tbTo_does)
    | with_reducible (apply State.tbFreq_does)
    | with_reducible (apply State.setTb_does)
    | with_reducible (apply Does.ite)
    | (fail_if_no_progress extract_lets)
    | (fail_if_no_progress (with_reducible refine Does.mk' ?_ (by with_reducible rfl)))

theorem holdMaxExpiry_does {W : Nat} {o : State} (x0 : Nat) {s : State} (hW : Within 0x20100a00000000000000000000000000000000000000000000000000001800003030000000000000000000000000000000000000000010000001000000000000000000200000000000000000000000000000000000000000000000000000000000000000000000000000000000000000000000000000000000000000000200000 W) (h : Does W o s) :
    Does W o (holdMaxExpiry x0 s) := by
  have up := hW.up
  have ub := hW.ub
  unfold holdMaxExpiry
  repeat' first
    | with_reducible assumption
    | exact up _ (by decide)
    | exact ub _ (by decide)
    | exact fun _ => ub _ (by decide)
    | intro _
    | with_reducible (apply State.tbTo_does)
    | with_reducible (apply State.advance_does)
    | with_reducible (apply Does.ite)
    | (fail_if_no_progress extract_lets)
    | (fail_if_no_progress (with_reducible refine Does.mk' ?_ (by with_reducible rfl)))

theorem State.f1Sample_does {W : Nat} {o : State} {s : State} (x1 : Int) (hW : Within 0x100000000000000000000000000000000000000000000000000000000000000000000000000000000000000000000000000000000000000000000000000000000000000000000000000000000000000000000000000000000000000000000000000000000000000000000000000000000000000000000000000000000000000 W) (h : Does W o s) :
    Does W o (State.f1Sample s x1) := by
  have up := hW.up
  have ub := hW.ub
  have b1016 := ub 1016 (by decide)
  unfold State.f1Sample
  repeat' first
    | with_reducible assumption
    | exact up _ (by decide)
    | exact ub _ (by decide)
    | exact fun _ => ub _ (by decide)
    | intro _
    | with_reducible (apply Does.ite)
    | (fail_if_no_progress extract_lets)
    | (fail_if_no_progress (with_reducible refine Does.mk' ?_ (by with_reducible rfl)))

theorem State.offsetSample_does {W : Nat} {o : State} {s : State} (x1 : Nat) (x2 : Int) (x3 : Int) (hW : Within 0x100000000000000000000000000000000000000000000000000000000000000000000000000000000000000000000000000000000000000000000000008000000000000000000000000000000000000000000000000000000000000000000000000000000000000000000000000000000000000000000000000000000000000 W) (h : Does W o s) :
    Does W o (State.offsetSample s x1 x2 x3) := by
  have up := hW.up
  have ub := hW.ub
  unfold State.offsetSample
  repeat' first
    | with_reducible assumption
    | exact up _ (by decide)
    | exact ub _ (by decide)
    | exact fun _ => ub _ (by decide)
    | intro _
    | with_reducible (apply State.setTb_does)
    | with_reducible (apply State.inc_does)
    | with_reducible (apply State.when_does)
    | with_reducible (apply State.f1Sample_does)
    | with_reducible (apply State.sampleIn_does)
    | with_reducible (apply Does.ite)
    | (fail_if_no_progress extract_lets)
    | (fail_if_no_progress (with_reducible refine Does.mk' ?_ (by with_reducible rfl)))

theorem ptpSyncRx_does {W : Nat} {o : State} (x0 : Nat) (x1 : Ptp) {s : State} (hW : Within 0x100000000000000000000000000000000000000000000000000000000000000000000000000000000000000000000000000000000000000000000000008000000000000000000000000000000000000000000000000000000000000000000000000000000000000000000000000000000000000000000000000000000000000 W) (h : Does W o s) :
    Does W o (ptpSyncRx x0 x1 s) := by
  have up := hW.up
  have ub := hW.ub
  unfold ptpSyncRx
  repeat' first
    | with_reducible assumption
    | exact up _ (by decide)
    | exact ub _ (by decide)
    | exact fun _ => ub _ (by decide)
    | intro _
    | with_reducible (apply State.offsetSample_does)
    | with_reducible (apply State.setTb_does)
    | with_reducible (apply Does.ite)
    | (fail_if_no_progress extract_lets)
    | (fail_if_no_progress (with_reducible refine Does.mk' ?_ (by with_reducible rfl)))
    | split
    | dsimp only

theorem delayReqTimer_does {W : Nat} {o : State} (x0 : Nat) {s : State} (hW : Within 0x20180a000000000000000000000000000000000001e0000000000000001800003030000000000000000000000000000000000000000010000001000000000000000000000000000000000000000000000000000000000000000000000002c00000000000000000000000000000000000000000000000000000000000000200000 W) (h : Does W o s) :
    Does W o (delayReqTimer x0 s) := by
  have up := hW.up
  have ub := hW.ub
  unfold delayReqTimer
  repeat' first
    | with_reducible assumption
    | exact up _ (by decide)
    | exact ub _ (by decide)
    | exact fun _ => ub _ (by decide)
    | intro _
    | with_reducible (apply State.advance_does)
    | with_reducible (apply State.setTb_does)
    | with_reducible (apply State.enqEq_does)
    | with_reducible (apply Does.ite)
    | with_reducible (apply Does.foldl)
    | (fail_if_no_progress extract_lets)
    | (fail_if_no_progress (with_reducible refine Does.mk' ?_ (by with_reducible rfl)))
    | split
    | dsimp +zetaDelta only

theorem State.setMpd_does {W : Nat} {o : State} {s : State} (x1 : Nat) (x2 : Int) (hW : Within 0x100000000000000000000000000000000000000000000000000000000000000000000000000000000000000000000000000000000000000000000000000000002000000000000000000000000000000000000000000000000000000000000000000000000000000000000000000000000000000000000000000000000000000 W) (h : Does W o s) :
    Does W o (State.setMpd s x1 x2) := by
  have up := hW.up
  have ub := hW.ub
  unfold State.setMpd
  repeat' first
    | with_reducible assumption
    | exact up _ (by decide)
    | exact ub _ (by decide)
    | exact fun _ => ub _ (by decide)
    | intro _
    | with_reducible (apply State.wr_does)
    | with_reducible (apply State.setTb_does)
    | with_reducible (apply Does.ite)
    | (fail_if_no_progress extract_lets)
    | (fail_if_no_progress (with_reducible refine Does.mk' ?_ (by with_reducible rfl)))

theorem ptpDelayRespRx_does {W : Nat} {o : State} (x0 : Nat) (x1 : Ptp) {s : State} (hW : Within 0x100000000000000000000000000000000000000000000000000000000000000000000000000000000000000000000000000000000000000000000000000000002000000000000000000000000000000000000000000000000000000000000000000000000000000000000000000000000000000000000000000000000000000 W) (h : Does W o s) :
    Does W o (ptpDelayRespRx x0 x1 s) := by
  have up := hW.up
  have ub := hW.ub
  unfold ptpDelayRespRx
  repeat' first
    | with_reducible assumption
    | exact up _ (by decide)
    | exact ub _ (by decide)
    | exact fun _ => ub _ (by decide)
    | intro _
    | with_reducible (apply State.setMpd_does)
    | with_reducible (apply State.setTb_does)
    | with_reducible (apply Does.ite)
    | (fail_if_no_progress extract_lets)
    | (fail_if_no_progress (with_reducible refine Does.mk' ?_ (by with_reducible rfl)))
    | split
    | dsimp only

theorem ptpPdelayReqRx_does {W : Nat} {o : State} (x0 : Nat) (x1 : Ptp) {s : State} (hW : Within 0x200802000000000000000000000000000000000001e0000000000000001800003030000000000000000000000000000000000000000010000001000000000000000000000000000000000000000000000000000000000000000000000002c00000000000000000000000000000000000000000000000000000000000000000000 W) (h : Does W o s) :
    Does W o (ptpPdelayReqRx x0 x1 s) := by
  have up := hW.up
  have ub := hW.ub
  unfold ptpPdelayReqRx
  repeat' first
    | with_reducible assumption
    | exact up _ (by decide)
    | exact ub _ (by decide)
    | exact fun _ => ub _ (by decide)
    | intro _
    | with_reducible (apply State.enqEq_does)
    | with_reducible (apply Does.ite)
    | (fail_if_no_progress extract_lets)
    | (fail_if_no_progress (with_reducible refine Does.mk' ?_ (by with_reducible rfl)))
    | split
    | dsimp only

theorem pairCompare_does {W : Nat} {o : State} {s : State} (hW : Within 0x100000000000000000000000000000000000000000000000000000000000000000000000000000000000000000000000000000000000000000000000000000000000000008000000000000000000000000000000000000000000000000000000000000000000000000000000000000000000000000000000000000000000000 W) (h : Does W o s) :
    Does W o (pairCompare s) := by
  have up := hW.up
  have ub := hW.ub
  unfold pairCompare
  repeat' first
    | with_reducible assumption
    | exact up _ (by decide)
    | exact ub _ (by decide)
    | exact fun _ => ub _ (by decide)
    | intro _
    | with_reducible (apply State.wrS_does)
    | with_reducible (apply State.sampleIn_does)
    | with_reducible (apply Does.ite)
    | (fail_if_no_progress extract_lets)
    | (fail_if_no_progress (with_reducible refine Does.mk' ?_ (by with_reducible rfl)))

theorem ppsInEdge_does {W : Nat} {o : State} {s : State} (hW : Within 0x20100200000000000000000000000000000000000000000000000000001800003030000000000000000000000000000000000000000010000001000000000003800000008000000000000000000000000000000000000000000000000000000000000000000000000000000000000000000000000000000000000000000000000 W) (h : Does W o s) :
    Does W o (ppsInEdge s) := by
  have up := hW.up
  have ub := hW.ub
  have b1016 := ub 1016 (by decide)
  unfold ppsInEdge
  repeat' first
    | with_reducible assumption
    | exact up _ (by decide)
    | exact ub _ (by decide)
    | exact fun _ => ub _ (by decide)
    | intro _
    | with_reducible (apply State.inc_does)
    | with_reducible (apply forEach_does)
    | with_reducible (apply State.wr_does)
    | with_reducible (apply State.wr64_does)
    | with_reducible (apply State.sampleIn_does)
    | with_reducible (apply State.raise_does)
    | with_reducible (apply Does.ite)
    | (fail_if_no_progress extract_lets)
    | (fail_if_no_progress (with_reducible refine Does.mk' ?_ (by with_reducible rfl)))

theorem ppsOutPulse_does {W : Nat} {o : State} (x0 : Nat) {s : State} (hW : Within 0x20100000000000000000000000000000000000000000000000000000000000000000000000000000000000000000000000000000000000000000000000000000000000000000000000000000000000000000000000000000000000000000000000000000000000000000000000000000000000000000000000000000000000000 W) (h : Does W o s) :
    Does W o (ppsOutPulse x0 s) := by
  have up := hW.up
  have ub := hW.ub
  have b1016 := ub 1016 (by decide)
  unfold ppsOutPulse
  repeat' first
    | with_reducible assumption
    | exact up _ (by decide)
    | exact ub _ (by decide)
    | exact fun _ => ub _ (by decide)
    | intro _
    | with_reducible (apply State.emit_does)
    | with_reducible (apply Does.ite)
    | (fail_if_no_progress extract_lets)
    | (fail_if_no_progress (with_reducible refine Does.mk' ?_ (by with_reducible rfl)))

theorem todMessage_does {W : Nat} {o : State} {s : State} (hW : Within 0x20100000000000000000000000000000000000000000000000000000000000000000000000000000000000000000000000000000000000000000000000000000000000000000000000000000000000000000000000000000000000000000000000000000000000000000000000000000000000000000000000000000000000000 W) (h : Does W o s) :
    Does W o (todMessage s) := by
  have up := hW.up
  have ub := hW.ub
  have b1016 := ub 1016 (by decide)
  unfold todMessage
  repeat' first
    | with_reducible assumption
    | exact up _ (by decide)
    | exact ub _ (by decide)
    | exact fun _ => ub _ (by decide)
    | intro _
    | with_reducible (apply State.emit_does)
    | with_reducible (apply Does.ite)
    | (fail_if_no_progress extract_lets)
    | (fail_if_no_progress (with_reducible refine Does.mk' ?_ (by with_reducible rfl)))

theorem State.actTimeInfo_does {W : Nat} {o : State} {s : State} (x1 : Msg) (hW : Within 0x200002000000000000000000000000000000000000000000000000000018000030300000000000000000000000000000000000000000100000010000000000000000000000000007f0000000000000000000000000000000000000000000000000000000000000000000000000000000000000000000000000000000000000000 W) (h : Does W o s) :
    Does W o (State.actTimeInfo s x1) := by
  have up := hW.up
  have ub := hW.ub
  unfold State.actTimeInfo
  repeat' first
    | with_reducible assumption
    | exact up _ (by decide)
    | exact ub _ (by decide)
    | exact fun _ => ub _ (by decide)
    | intro _
    | with_reducible (apply State.wr_does)
    | with_reducible (apply State.wr64_does)
    | with_reducible (apply State.raise_does)
    | with_reducible (apply Does.ite)
    | (fail_if_no_progress extract_lets)
    | (fail_if_no_progress (with_reducible refine Does.mk' ?_ (by with_reducible rfl)))

theorem timeInfo_does {W : Nat} {o : State} (x0 : Rec) {s : State} (hW : Within 0x208072000000000000000000000000000000000000000000000000000018000030300000100100000000000000000000000000000000100000010000000000000000000000000007f000000000000000000000000000000000000000000000000000000000000000000000000011e000000000000016000000000000000000000 W) (h : Does W o s) :
    Does W o (timeInfo x0 s) := by
  have up := hW.up
  have ub := hW.ub
  unfold timeInfo
  repeat' first
    | with_reducible assumption
    | exact up _ (by decide)
    | exact ub _ (by decide)
    | exact fun _ => ub _ (by decide)
    | intro _
    | with_reducible (apply State.message_does)
    | with_reducible (apply State.actTimeInfo_does)
    | with_reducible (apply Does.ite)
    | (fail_if_no_progress extract_lets)
    | (fail_if_no_progress (with_reducible refine Does.mk' ?_ (by with_reducible rfl)))

end Sys2Proof.Machine
end

