-- ==== Sys2Proof/Laws/DVat.lean ====
section
/-! SUPPORT. What the operations of Vat can change. -/

set_option linter.unreachableTactic false
set_option linter.unusedTactic false
set_option linter.unusedVariables false
set_option Elab.async false

namespace Sys2Proof.Machine

theorem vatGo_does {W : Nat} {o : State} (x0 : Nat) {s : State} (hW : Within 0x20c00200000000000000000000000000000000000000000000000000001800003030003a00000000000000000000000000000000000010000007702000800000000000000000000000000000000000000000000000000000000000000000000000000000000000000000000000000000000000000000000000000000000000000 W) (h : Does W o s) :
    Does W o (vatGo x0 s) := by
  have up := hW.up
  have ub := hW.ub
  unfold vatGo
  repeat' first
    | with_reducible assumption
    | exact up _ (by decide)
    | exact ub _ (by decide)
    | exact fun _ => ub _ (by decide)
    | intro _
    | with_reducible (apply State.inc_does)
    | with_reducible (apply State.goKernel_does)
    | with_reducible (apply Does.ite)
    | (fail_if_no_progress extract_lets)
    | (fail_if_no_progress (with_reducible refine Does.mk' ?_ (by with_reducible rfl)))

theorem vatStop_does {W : Nat} {o : State} (x0 : Nat) {s : State} (hW : Within 0x20d02200000000000000000000000000000000000800000000000000001800003030000a0000000000000000000000000000000000001000000580200100000000040000000000000000000000000000000000000000000000000000000000000000000000000000000000000000000000000000000007f804000060000000000 W) (h : Does W o s) :
    Does W o (vatStop x0 s) := by
  have up := hW.up
  have ub := hW.ub
  have b1018 := ub 1018 (by decide)
  unfold vatStop
  repeat' first
    | with_reducible assumption
    | exact up _ (by decide)
    | exact ub _ (by decide)
    | exact fun _ => ub _ (by decide)
    | intro _
    | with_reducible (apply State.vatGiveNext_does)
    | with_reducible (apply State.launchBusy_does)
    | with_reducible (apply State.endKernel_does)
    | with_reducible (apply Does.ite)
    | (fail_if_no_progress extract_lets)
    | (fail_if_no_progress (with_reducible refine Does.mk' ?_ (by with_reducible rfl)))
    | split
    | dsimp only

theorem vatLeaveRequest_does {W : Nat} {o : State} (x0 : Nat) (x1 : Nat) {s : State} (hW : Within 0x800800000000000000000000000000000000000000000000000000000000000000003a00000000000000000000000000000000000000000000000000000000000000000000000000000000000000000000000000000000000000000000000000000000000000000000000000000000000000000000000000000000000200000 W) (h : Does W o s) :
    Does W o (vatLeaveRequest x0 x1 s) := by
  have up := hW.up
  have ub := hW.ub
  unfold vatLeaveRequest
  repeat' first
    | with_reducible assumption
    | exact up _ (by decide)
    | exact ub _ (by decide)
    | exact fun _ => ub _ (by decide)
    | intro _
    | with_reducible (apply State.askLeave_does)
    | with_reducible (apply State.advance_does)
    | with_reducible (apply Does.ite)
    | (fail_if_no_progress extract_lets)
    | (fail_if_no_progress (with_reducible refine Does.mk' ?_ (by with_reducible rfl)))

theorem vatClusterStart_does {W : Nat} {o : State} (x0 : Nat) {s : State} (hW : Within 0x20c00200000000000000000000000000000000000000000000000000001800003030000a00000000000000000000000000000000000010000007702000400000000000000000000000000000000000000000000000000000000000000000000000000000000000000000000000000000000000000000000000000000000000000 W) (h : Does W o s) :
    Does W o (vatClusterStart x0 s) := by
  have up := hW.up
  have ub := hW.ub
  have b1018 := ub 1018 (by decide)
  unfold vatClusterStart
  repeat' first
    | with_reducible assumption
    | exact up _ (by decide)
    | exact ub _ (by decide)
    | exact fun _ => ub _ (by decide)
    | intro _
    | with_reducible (apply State.vatGiveNext_does)
    | with_reducible (apply State.launchBusy_does)
    | with_reducible (apply State.startKernel_does)
    | with_reducible (apply State.raise_does)
    | with_reducible (apply State.inc_does)
    | with_reducible (apply State.passLeave_does)
    | with_reducible (apply Does.ite)
    | (fail_if_no_progress extract_lets)
    | (fail_if_no_progress (with_reducible refine Does.mk' ?_ (by with_reducible rfl)))
    | split
    | dsimp only

theorem vatLeaveRetry_does {W : Nat} {o : State} (x0 : Nat) {s : State} (hW : Within 0x20c00a00000000000000000000000000000000000000000000000000001800003030003a00000000000000000000000000000000000010000003702000000000000000000000000000000000000000000000000000000000000000000000000000000000000000000000000000000000000000000000000000000000000200000 W) (h : Does W o s) :
    Does W o (vatLeaveRetry x0 s) := by
  have up := hW.up
  have ub := hW.ub
  unfold vatLeaveRetry
  repeat' first
    | with_reducible assumption
    | exact up _ (by decide)
    | exact ub _ (by decide)
    | exact fun _ => ub _ (by decide)
    | intro _
    | with_reducible (apply State.startOrWait_does)
    | with_reducible (apply State.advance_does)
    | with_reducible (apply Does.ite)
    | (fail_if_no_progress extract_lets)
    | (fail_if_no_progress (with_reducible refine Does.mk' ?_ (by with_reducible rfl)))
    | split
    | dsimp only

theorem vatMaxrun_does {W : Nat} {o : State} (x0 : Nat) {s : State} (hW : Within 0x20d02200000000000000000000000000000000000800000000000000001800003030000a0000000000000000000000000000000000001000000180200300000000040000000000000000000000000000000000000000000000000000000000000000000000000000000000000000000000000000000007f804000060000000000 W) (h : Does W o s) :
    Does W o (vatMaxrun x0 s) := by
  have up := hW.up
  have ub := hW.ub
  unfold vatMaxrun
  repeat' first
    | with_reducible assumption
    | exact up _ (by decide)
    | exact ub _ (by decide)
    | exact fun _ => ub _ (by decide)
    | intro _
    | with_reducible (apply State.raise_does)
    | with_reducible (apply State.inc_does)
    | with_reducible (apply State.endKernel_does)
    | with_reducible (apply Does.ite)
    | (fail_if_no_progress extract_lets)
    | (fail_if_no_progress (with_reducible refine Does.mk' ?_ (by with_reducible rfl)))

theorem vatHostWrite_does {W : Nat} {o : State} (x0 : Nat) (x1 : Nat) (x2 : Nat) (x3 : Nat) {s : State} (hW : Within 0x400000000000000000000000000000000000000000000000000000000000000000000000000000000000000000000000000000000000000000000004000000000000000000000000000000000000000000000000000000000000000000000000000000000000000000000000000000000000000000000000000000000000000 W) (h : Does W o s) :
    Does W o (vatHostWrite x0 x1 x2 x3 s) := by
  have up := hW.up
  have ub := hW.ub
  unfold vatHostWrite
  repeat' first
    | with_reducible assumption
    | exact up _ (by decide)
    | exact ub _ (by decide)
    | exact fun _ => ub _ (by decide)
    | intro _
    | with_reducible (apply State.inc_does)
    | with_reducible (apply State.setPgm_does)
    | with_reducible (apply State.mapVu_does)
    | with_reducible (apply Does.ite)
    | (fail_if_no_progress extract_lets)
    | (fail_if_no_progress (with_reducible refine Does.mk' ?_ (by with_reducible rfl)))

theorem vatParityError_does {W : Nat} {o : State} (x0 : Nat) (x1 : Option Nat) {s : State} (hW : Within 0x29d1a2000000000000000000000000000000000008000000000000fff07ff80370300fca0000000000000000000000000000000000001000000188200100000000040000000000000000000000000000000000000000000006040000000000000000000000000000000000068000000002000000000007f804000060000000000 W) (h : Does W o s) :
    Does W o (vatParityError x0 x1 s) := by
  have up := hW.up
  have ub := hW.ub
  unfold vatParityError
  repeat' first
    | with_reducible assumption
    | exact up _ (by decide)
    | exact ub _ (by decide)
    | exact fun _ => ub _ (by decide)
    | intro _
    | with_reducible (apply State.wr_does)
    | with_reducible (apply State.fault_does)
    | with_reducible (apply State.raiseIf_does)
    | with_reducible (apply State.vatFault_does)
    | with_reducible (apply Does.ite)
    | (fail_if_no_progress extract_lets)
    | (fail_if_no_progress (with_reducible refine Does.mk' ?_ (by with_reducible rfl)))
    | split
    | dsimp only

theorem tapCapture_does {W : Nat} {o : State} (x0 : Nat) (x1 : Nat) (x2 : List (List Nat)) {s : State} (hW : Within 0x400800000000000000000000000000000000000000000000000000000000000000000000000000000000000000000000000000000000000000000000000000000000000000000000000000000000000000000000000000000000000000000000000000000000000000000000000000000000000000000000000000000200000 W) (h : Does W o s) :
    Does W o (tapCapture x0 x1 x2 s) := by
  have up := hW.up
  have ub := hW.ub
  have b1018 := ub 1018 (by decide)
  unfold tapCapture
  repeat' first
    | with_reducible assumption
    | exact up _ (by decide)
    | exact ub _ (by decide)
    | exact fun _ => ub _ (by decide)
    | intro _
    | with_reducible (apply State.advance_does)
    | with_reducible (apply Does.ite)
    | (fail_if_no_progress extract_lets)
    | (fail_if_no_progress (with_reducible refine Does.mk' ?_ (by with_reducible rfl)))

theorem tapDelivery_does {W : Nat} {o : State} (x0 : Nat) (x1 : Nat) {s : State} (hW : Within 0x20400200000000000000000000000000000000000000000000000000001800003030000000000000000000000000000000000000000010000001000000000000000000000000000000000000000000000000000000000000000000000000000000000000000000000000000000000000000000000000000000000000000000000 W) (h : Does W o s) :
    Does W o (tapDelivery x0 x1 s) := by
  have up := hW.up
  have ub := hW.ub
  have b1018 := ub 1018 (by decide)
  unfold tapDelivery
  repeat' first
    | with_reducible assumption
    | exact up _ (by decide)
    | exact ub _ (by decide)
    | exact fun _ => ub _ (by decide)
    | intro _
    | with_reducible (apply forEach_does)
    | with_reducible (apply State.mapVu_does)
    | with_reducible (apply State.perf_does)
    | with_reducible (apply Does.ite)
    | (fail_if_no_progress extract_lets)
    | (fail_if_no_progress (with_reducible refine Does.mk' ?_ (by with_reducible rfl)))
    | split
    | dsimp only

end Sys2Proof.Machine
end

