-- ==== Sys2Proof/Laws/DRegWrite.lean ====
section
/-! SUPPORT. What the operations of RegWrite can change. -/

set_option linter.unreachableTactic false
set_option linter.unusedTactic false
set_option linter.unusedVariables false
set_option Elab.async false

namespace Sys2Proof.Machine

theorem State.assignLine_does {W : Nat} {o : State} {s : State} (x1 : Nat) (x2 : Fld) (x3 : Nat) (x4 : Nat) {r : State} (hW : Within 0x28d5fe80000000000000000000000000000000000800000000000000001800003030000f80000800000000000000000000000000000010000001802001040000000400a8000003000000000000000000000000000000000006040000000000000000000000000000000000060000020908c21000438007f8048007e0019840000 W) (h : Does W o s) (bx2 : x2.id < 1000 → Nat.testBit W x2.id = true) (e : State.assignLine s x1 x2 x3 x4 = some r) :
    Does W o r := by
  have up := hW.up
  have ub := hW.ub
  suffices hh : ∀ q, State.assignLine s x1 x2 x3 x4 = some q → Does W o q from hh r e
  clear e
  unfold State.assignLine
  dsimp only
  repeat' first
    | with_reducible refine Does.oite ?_ ?_
    | with_reducible refine Does.osome ?_
    | with_reducible exact Does.onone
  repeat' first
    | with_reducible assumption
    | exact up _ (by decide)
    | exact ub _ (by decide)
    | exact fun _ => ub _ (by decide)
    | intro _
    | with_reducible (apply State.wr_does)
    | with_reducible (apply rsExpectWrite_does)
    | with_reducible (apply coefBankWrite_does)
    | with_reducible (apply joinEnSet_does)
    | with_reducible (apply joinAbort_does)
    | with_reducible (apply State.updTxdis_does)
    | with_reducible (apply tbModeWrite_does)
    | with_reducible (apply State.ifLocal_does)
    | with_reducible (apply State.tbFreq_does)
    | with_reducible (apply State.regions_does)
    | with_reducible (apply State.setBank_does)
    | with_reducible (apply State.showPower_does)
    | with_reducible (apply Does.ite)
    | (fail_if_no_progress extract_lets)
    | (fail_if_no_progress (with_reducible refine Does.mk' ?_ (by with_reducible rfl)))

theorem State.assignPath_does {W : Nat} {o : State} {s : State} (x1 : Fld) (x2 : Nat) (x3 : Nat) {r : State} (hW : Within 0x60a80200000000000000000000000000000000000000000000000000001800003030000f80000302000680000002c000000000000000100000010000000000000000000000000000000000000000000000000000000002200000028000040000000000003d2c0dc00000000000000000000000000000000000000000000000000 W) (h : Does W o s) (bx1 : x1.id < 1000 → Nat.testBit W x1.id = true) (e : State.assignPath s x1 x2 x3 = some r) :
    Does W o r := by
  have up := hW.up
  have ub := hW.ub
  suffices hh : ∀ q, State.assignPath s x1 x2 x3 = some q → Does W o q from hh r e
  clear e
  unfold State.assignPath
  dsimp only
  repeat' first
    | with_reducible refine Does.oite ?_ ?_
    | with_reducible refine Does.osome ?_
    | with_reducible exact Does.onone
  repeat' first
    | with_reducible assumption
    | exact up _ (by decide)
    | exact ub _ (by decide)
    | exact fun _ => ub _ (by decide)
    | intro _
    | with_reducible (apply portEnable_does)
    | with_reducible (apply State.portOff_does)
    | with_reducible (apply State.wr_does)
    | with_reducible (apply flowControlDisable_does)
    | with_reducible (apply State.reslow_does)
    | with_reducible (apply uqAllocWrite_does)
    | with_reducible (apply State.bindLists_does)
    | with_reducible (apply Does.ite)
    | (fail_if_no_progress extract_lets)
    | (fail_if_no_progress (with_reducible refine Does.mk' ?_ (by with_reducible rfl)))

theorem State.slotGo_does {W : Nat} {o : State} {s : State} (hW : Within 0x60842200000000000000000000000000000000000000000000000000001800003030000a0000000000000000000000000000000000001000000100000000000000000000000000000d02020011f800000000000000000000000000000000000000000000000000000000000000000000000000000000000000000000000000000 W) (h : Does W o s) :
    Does W o (State.slotGo s) := by
  have up := hW.up
  have ub := hW.ub
  unfold State.slotGo
  repeat' first
    | with_reducible assumption
    | exact up _ (by decide)
    | exact ub _ (by decide)
    | exact fun _ => ub _ (by decide)
    | intro _
    | with_reducible (apply slotLoad_does)
    | with_reducible (apply slotErase_does)
    | with_reducible (apply slotUnwrap_does)
    | with_reducible (apply Does.ite)
    | (fail_if_no_progress extract_lets)
    | (fail_if_no_progress (with_reducible refine Does.mk' ?_ (by with_reducible rfl)))
    | split
    | dsimp only

theorem State.assignStore_does {W : Nat} {o : State} {s : State} (x1 : Env) (x2 : Fld) (x3 : Nat) (x4 : Nat) {r : State} (hW : Within 0x6985a2000000000000000000000000000000000000000000000000fff07ff80370300ffa0000000000000000000000000000000000001000000100000000000000000000000000000f02027f11f838000818300023000000060400000000000000000000000000000000000680000000020000000000000000000000000000000 W) (h : Does W o s) (bx2 : x2.id < 1000 → Nat.testBit W x2.id = true) (e : State.assignStore s x1 x2 x3 x4 = some r) :
    Does W o r := by
  have up := hW.up
  have ub := hW.ub
  suffices hh : ∀ q, State.assignStore s x1 x2 x3 x4 = some q → Does W o q from hh r e
  clear e
  unfold State.assignStore
  dsimp only
  repeat' first
    | with_reducible refine Does.oite ?_ ?_
    | with_reducible refine Does.osome ?_
    | with_reducible exact Does.onone
  repeat' first
    | with_reducible assumption
    | exact up _ (by decide)
    | exact ub _ (by decide)
    | exact fun _ => ub _ (by decide)
    | intro _
    | with_reducible (apply caveInit_does)
    | with_reducible (apply purge_does)
    | with_reducible (apply caveWindowRead_does)
    | with_reducible (apply State.wr_does)
    | with_reducible (apply State.slotGo_does)
    | with_reducible (apply lineKeyEntryWrite_does)
    | with_reducible (apply arm_does)
    | with_reducible (apply cipJobStart_does)
    | with_reducible (apply Does.ite)
    | (fail_if_no_progress extract_lets)
    | (fail_if_no_progress (with_reducible refine Does.mk' ?_ (by with_reducible rfl)))

theorem State.assignHost_does {W : Nat} {o : State} {s : State} (x1 : Fld) (x2 : Nat) (x3 : Nat) {r : State} (hW : Within 0x2ba82200000000000000000000000000000000000000000023080000001800423030000f80013b0200078000208acc0000002008000010000001000000000000000000000000000000000000000000000000000000000000000000000000000000000000042c00800000000000100000000000000000000000000000000000000 W) (h : Does W o s) (bx1 : x1.id < 1000 → Nat.testBit W x1.id = true) (e : State.assignHost s x1 x2 x3 = some r) :
    Does W o r := by
  have up := hW.up
  have ub := hW.ub
  suffices hh : ∀ q, State.assignHost s x1 x2 x3 = some q → Does W o q from hh r e
  clear e
  unfold State.assignHost
  dsimp only
  repeat' first
    | with_reducible refine Does.oite ?_ ?_
    | with_reducible refine Does.osome ?_
    | with_reducible exact Does.onone
  repeat' first
    | with_reducible assumption
    | exact up _ (by decide)
    | exact ub _ (by decide)
    | exact fun _ => ub _ (by decide)
    | intro _
    | with_reducible (apply dmaRun_does)
    | with_reducible (apply dmaHeadWrite_does)
    | with_reducible (apply State.wr_does)
    | with_reducible (apply State.sendMsix_does)
    | with_reducible (apply State.raise_does)
    | with_reducible (apply laneSleepWrite_does)
    | with_reducible (apply rxFreezeWrite_does)
    | with_reducible (apply State.when_does)
    | with_reducible (apply State.laneChanged_does)
    | with_reducible (apply State.sendPattern_does)
    | with_reducible (apply State.lanesSync_does)
    | with_reducible (apply mboxGo_does)
    | with_reducible (apply State.modeReq_does)
    | with_reducible (apply State.showPower_does)
    | with_reducible (apply freezeAllWrite_does)
    | with_reducible (apply State.errSettle_does)
    | with_reducible (apply hostGo_does)
    | with_reducible (apply recGo_does)
    | with_reducible (apply State.stageWrite_does)
    | with_reducible (apply Does.ite)
    | (fail_if_no_progress extract_lets)
    | (fail_if_no_progress (with_reducible refine Does.mk' ?_ (by with_reducible rfl)))

theorem State.assign_does {W : Nat} {o : State} {s : State} (x1 : Nat) (x2 : Nat) (x3 : Env) (x4 : Fld) (x5 : Nat) (x6 : Nat) (hW : Within 0x6bfdfebffffffffffffffffffffffffffffffffffffffffffffffffffffffffffffffffffffffffffffffffffffffffffffffffffffffffffffffffffffffffffffffffffffffffffffffffffffffffffffffffffffffffffffffffffffffffffffffffffffffffffffffffffffffffffffffffffffffffffffffffffffffffff W) (h : Does W o s) (bx4 : x4.id < 1000 → Nat.testBit W x4.id = true) :
    Does W o (State.assign s x1 x2 x3 x4 x5 x6) := by
  have up := hW.up
  have ub := hW.ub
  have full := hW.full (by decide)
  unfold State.assign
  repeat' first
    | with_reducible assumption
    | exact up _ (by decide)
    | exact fun _ => ub _ (by decide)
    | exact full _
    | with_reducible (apply State.applyReq_does)
    | with_reducible (apply State.setBank_does)
    | with_reducible (apply State.wr_does)
    | with_reducible (apply Does.ite)
    | (with_reducible (refine State.assignLine_does _ _ _ _ ?_ ?_ ?_ (by assumption)))
    | (with_reducible (refine State.assignPath_does _ _ _ ?_ ?_ ?_ (by assumption)))
    | (with_reducible (refine State.assignStore_does _ _ _ _ ?_ ?_ ?_ (by assumption)))
    | split
  cases e : State.assignHost s x4 x5 x6 with
  | none => exact State.wr_does _ _ h bx4
  | some t => exact State.assignHost_does _ _ _ (up _ (by decide)) h bx4 e

theorem State.stickyClr_does {W : Nat} {o : State} {s : State} (x1 : Nat) (hW : Within 0x6000000000000000000000000000000000000000000000000000000000000000000000000000000000000000000000000000000000000000000000000000000000000000000000000000 W) (h : Does W o s) :
    Does W o (State.stickyClr s x1) := by
  have up := hW.up
  have ub := hW.ub
  unfold State.stickyClr
  repeat' first
    | with_reducible assumption
    | exact up _ (by decide)
    | exact ub _ (by decide)
    | exact fun _ => ub _ (by decide)
    | intro _
    | with_reducible (apply State.wr_does)
    | with_reducible (apply Does.ite)
    | (fail_if_no_progress extract_lets)
    | (fail_if_no_progress (with_reducible refine Does.mk' ?_ (by with_reducible rfl)))

theorem State.strobe_does {W : Nat} {o : State} {s : State} (x1 : Nat) (x2 : Env) (x3 : Fld) (x4 : Nat) (x5 : Nat) (hW : Within 0x7ffffffffffffffffffffffffffffffffffffffffffffffffffffffffffffffffffffffffffffffffffffffffffffffffffffffffffffffffffffffffffffffffffffffffffffffffffffffffffffffffffffffffffffffffffffffffffffffffffffffffffffffffffffffffffffffffffffffffffffffffffffffffffffffff W) (h : Does W o s) (bx3 : x3.id < 1000 → Nat.testBit W x3.id = true) :
    Does W o (State.strobe s x1 x2 x3 x4 x5) := by
  have up := hW.up
  have ub := hW.ub
  have full := hW.full (by decide)
  unfold State.strobe
  repeat' first
    | with_reducible assumption
    | exact up _ (by decide)
    | exact ub _ (by decide)
    | exact fun _ => ub _ (by decide)
    | exact full _
    | intro _
    | with_reducible (apply State.applyCancel_does)
    | with_reducible (apply State.stickyClr_does)
    | with_reducible (apply lfClr_does)
    | with_reducible (apply perfClear_does)
    | with_reducible (apply inPop_does)
    | with_reducible (apply outPush_does)
    | with_reducible (apply stage_does)
    | with_reducible (apply abandon_does)
    | with_reducible (apply gateListCommit_does)
    | with_reducible (apply gateListCancel_does)
    | with_reducible (apply capGo_does)
    | with_reducible (apply setGo_does)
    | with_reducible (apply adjGo_does)
    | with_reducible (apply vatGo_does)
    | with_reducible (apply vatStop_does)
    | with_reducible (apply dmaStop_does)
    | with_reducible (apply retrain_does)
    | with_reducible (apply injGo_does)
    | with_reducible (apply safeClr_does)
    | with_reducible (apply errRel_does)
    | with_reducible (apply injSelf_does)
    | with_reducible (apply faultInject_does)
    | with_reducible (apply swReset_does)
    | with_reducible (apply twFifoWrite_does)
    | with_reducible (apply Does.ite)
    | (fail_if_no_progress extract_lets)
    | (fail_if_no_progress (with_reducible refine Does.mk' ?_ (by with_reducible rfl)))

theorem State.intForce_does {W : Nat} {o : State} {s : State} (x1 : Nat) (x2 : Nat) (hW : Within 0x20000200000000000000000000000000000000000000000000000000001800003030000000000000000000000000002000000000000010000001000000000000000000000000000000000000000000000000000000000000000000000000000000000000000000000000000000000000000000000000000000000000000000000 W) (h : Does W o s) :
    Does W o (State.intForce s x1 x2) := by
  have up := hW.up
  have ub := hW.ub
  unfold State.intForce
  repeat' first
    | with_reducible assumption
    | exact up _ (by decide)
    | exact ub _ (by decide)
    | exact fun _ => ub _ (by decide)
    | intro _
    | with_reducible (apply forEach_does)
    | with_reducible (apply State.raiseRing_does)
    | with_reducible (apply State.raise0_does)
    | with_reducible (apply Does.ite)
    | (fail_if_no_progress extract_lets)
    | (fail_if_no_progress (with_reducible refine Does.mk' ?_ (by with_reducible rfl)))

theorem State.writeOnes_does {W : Nat} {o : State} {s : State} (x1 : Fld) (x2 : Nat) (x3 : Nat) (x4 : Nat) (hW : Within 0x8000000000000000000000000000000000000000000000000000000000000000000000000000000000000000000002000000000000000000000000000000000000000000000000000000000000000000000000000000000000000000000000000000000000000000000000000000000000000000000000000000000000000000 W) (h : Does W o s) (bx1 : x1.id < 1000 → Nat.testBit W x1.id = true) :
    Does W o (State.writeOnes s x1 x2 x3 x4) := by
  have up := hW.up
  have ub := hW.ub
  unfold State.writeOnes
  repeat' first
    | with_reducible assumption
    | exact up _ (by decide)
    | exact ub _ (by decide)
    | exact fun _ => ub _ (by decide)
    | intro _
    | with_reducible (apply State.wr_does)
    | with_reducible (apply State.tripUp_does)
    | with_reducible (apply Does.ite)
    | (fail_if_no_progress extract_lets)
    | (fail_if_no_progress (with_reducible refine Does.mk' ?_ (by with_reducible rfl)))

theorem State.buffer_does {W : Nat} {o : State} {s : State} (x1 : Nat) (x2 : Fld) (x3 : Nat) (x4 : Nat) (x5 : Nat) (hW : Within 0x2000021ffffffffffffffffffffffffffffffffffffffffffffffffffffffffffffffffffffffffffffffffffffffffffffffffffffffffffffffffffffffffffffffffffffffffffffffffffffffffffffffffffffffffffffffffffffffffffffffffffffffffffffffffffffffffffffffffffffffffffffffffffffffffff W) (h : Does W o s) (bx2 : x2.id < 1000 → Nat.testBit W x2.id = true) :
    Does W o (State.buffer s x1 x2 x3 x4 x5) := by
  have up := hW.up
  have ub := hW.ub
  have full := hW.full (by decide)
  have b1000 := ub 1000 (by decide)
  unfold State.buffer
  repeat' first
    | with_reducible assumption
    | exact up _ (by decide)
    | exact ub _ (by decide)
    | exact fun _ => ub _ (by decide)
    | exact full _
    | intro _
    | with_reducible (apply State.wr_does)
    | with_reducible (apply State.clsRefuse_does)
    | with_reducible (apply Does.ite)
    | (fail_if_no_progress extract_lets)
    | (fail_if_no_progress (with_reducible refine Does.mk' ?_ (by with_reducible rfl)))

theorem State.put_does {W : Nat} {o : State} {s : State} (x1 : Nat) (x2 : Nat) (x3 : Env) (x4 : Option Nat) (x5 : Nat) (x6 : Fld) (x7 : Nat) (hW : Within 0x7ffffffffffffffffffffffffffffffffffffffffffffffffffffffffffffffffffffffffffffffffffffffffffffffffffffffffffffffffffffffffffffffffffffffffffffffffffffffffffffffffffffffffffffffffffffffffffffffffffffffffffffffffffffffffffffffffffffffffffffffffffffffffffffffff W) (h : Does W o s) (bx6 : x6.id < 1000 → Nat.testBit W x6.id = true) :
    Does W o (State.put s x1 x2 x3 x4 x5 x6 x7) := by
  have up := hW.up
  have ub := hW.ub
  have full := hW.full (by decide)
  unfold State.put
  repeat' first
    | with_reducible assumption
    | exact up _ (by decide)
    | exact ub _ (by decide)
    | exact fun _ => ub _ (by decide)
    | exact full _
    | intro _
    | with_reducible (apply State.putNibbles_does)
    | with_reducible (apply State.wr_does)
    | with_reducible (apply State.writeOnes_does)
    | with_reducible (apply recordClose_does)
    | with_reducible (apply State.intForce_does)
    | with_reducible (apply State.strobe_does)
    | with_reducible (apply State.buffer_does)
    | with_reducible (apply State.assign_does)
    | with_reducible (apply Does.ite)
    | (fail_if_no_progress extract_lets)
    | (fail_if_no_progress (with_reducible refine Does.mk' ?_ (by with_reducible rfl)))
    | split
    | dsimp only

theorem State.lockViol_does {W : Nat} {o : State} {s : State} (x1 : Nat) (hW : Within 0x2981a2000000000000000000000000000000000000000000000000fff07ff80370300fca00000000000000000000000000000000400012000001000000000000000000000000000000000000000000000000000000000000060400000000000000000000000000000000000680000000020000000000000000000000000000000 W) (h : Does W o s) :
    Does W o (State.lockViol s x1) := by
  have up := hW.up
  have ub := hW.ub
  unfold State.lockViol
  repeat' first
    | with_reducible assumption
    | exact up _ (by decide)
    | exact ub _ (by decide)
    | exact fun _ => ub _ (by decide)
    | intro _
    | with_reducible (apply State.raise_does)
    | with_reducible (apply State.inc_does)
    | with_reducible (apply State.wr_does)
    | with_reducible (apply State.fault_does)
    | with_reducible (apply Does.ite)
    | (fail_if_no_progress extract_lets)
    | (fail_if_no_progress (with_reducible refine Does.mk' ?_ (by with_reducible rfl)))

theorem State.lockField_does {W : Nat} {o : State} {s : State} (x1 : Fld) (x2 : Nat) (x3 : Nat) (hW : Within 0x40000000000000000000000000000000000000000000000000000000000000000000000000000000000000000000000000000000000000000000000000000000000000000000000000000000000000000000000000000000000000000000000000000000000000000000000000000000000000000000000000000000000 W) (h : Does W o s) (bx1 : x1.id < 1000 → Nat.testBit W x1.id = true) :
    Does W o (State.lockField s x1 x2 x3) := by
  have up := hW.up
  have ub := hW.ub
  have b1002 := ub 1002 (by decide)
  refine (State.wr_does x3 x2 h bx1).tables (Keeps.tables (Keeps.refl _) rfl rfl rfl rfl fun w => ?_) fun w => ⟨w, fun _ _ _ _ => rfl⟩
  simp only [State.wf, Bool.and_eq_true, State.lockField] at w ⊢
  exact ⟨⟨⟨⟨w.1.1.1.1, smSet_wf _ _ _ w.1.1.1.2⟩, w.1.1.2⟩, w.1.2⟩, w.2⟩

theorem State.writePage_does {W : Nat} {o : State} {s : State} (x1 : Nat) (x2 : Env) (x3 : Option Nat) (x4 : Page) (x5 : Nat) (x6 : Nat) (x7 : Nat) (hW : Within 0x7ffffffffffffffffffffffffffffffffffffffffffffffffffffffffffffffffffffffffffffffffffffffffffffffffffffffffffffffffffffffffffffffffffffffffffffffffffffffffffffffffffffffffffffffffffffffffffffffffffffffffffffffffffffffffffffffffffffffffffffffffffffffffffffffff W) (h : Does W o s) :
    Does W o (State.writePage s x1 x2 x3 x4 x5 x6 x7) := by
  have up := hW.up
  have ub := hW.ub
  have full := hW.full (by decide)
  unfold State.writePage
  repeat' first
    | with_reducible assumption
    | exact up _ (by decide)
    | exact ub _ (by decide)
    | exact fun _ => ub _ (by decide)
    | exact full _
    | intro _
    | with_reducible (apply State.privCase_does)
    | with_reducible (apply State.served_does)
    | with_reducible (apply State.lockViol_does)
    | with_reducible (apply forEach_does)
    | with_reducible (apply State.lockField_does)
    | with_reducible (apply State.put_does)
    | with_reducible (apply State.sendMsix_does)
    | with_reducible (apply Does.ite)
    | (fail_if_no_progress extract_lets)
    | (fail_if_no_progress (with_reducible refine Does.mk' ?_ (by with_reducible rfl)))

theorem State.writeRule_does {W : Nat} {o : State} {s : State} (x1 : Nat) (x2 : Nat) (x3 : Nat) (x4 : Nat) (hW : Within 0x2008020000000000000000000000000000000000ffffffffffffffffffffffffffffffffffffffffffffffffffffffffffffffffffffffffffffffffffffffffffffffffffffffffffffffffffffffffffffffffffffffffffffffffffffffffffffffffffffffffffffffffffffffffffffffffffffffffffffffffffffffffe W) (h : Does W o s) :
    Does W o (State.writeRule s x1 x2 x3 x4) := by
  have up := hW.up
  have ub := hW.ub
  unfold State.writeRule
  extract_lets fs t
  have ht : Does W o t := State.served_does _ _ (up _ (by decide)) h
  refine Does.ite (Does.ite (State.privCase_does _ _ (up _ (by decide)) ht) ht) (Does.ite (ruleEntryWrite_does _ _ _ (up _ (by decide)) ht)
    (Does.ite (ruleEntryWrite_does _ _ _ (up _ (by decide)) ht) (Does.ite (vmaskWrite_does _ _ (up _ (by decide)) ht) ?_)))
  refine Does.foldl_mem _ _ (fun u e he hu => State.wr_does _ _ hu fun _ => ?_) ht
  have hm : e.1 ∈ pageFields .CLSE := by
    have := List.mem_of_mem_filter he
    simp only [fs, ruleFields, List.mem_filterMap] at this
    obtain ⟨f, hf, hfe⟩ := this
    split at hfe
    · cases hfe; exact hf
    · cases hfe
  exact ub _ (List.all_eq_true.1 (show List.all _ (fun f : Fld => Nat.testBit 0x2008020000000000000000000000000000000000ffffffffffffffffffffffffffffffffffffffffffffffffffffffffffffffffffffffffffffffffffffffffffffffffffffffffffffffffffffffffffffffffffffffffffffffffffffffffffffffffffffffffffffffffffffffffffffffffffffffffffffffffffffffffe f.id) = true by decide) _ hm)

theorem State.writeVat_does {W : Nat} {o : State} {s : State} (x1 : Nat) (x2 : Nat) (x3 : Nat) (x4 : Nat) (hW : Within 0x20400200000000000000000000000000000000000000000000000000001800003030000000000000000000000000000000000007800010000001000004000000000000000000000000000000000000000000000000000000000000000000000000000000000000000000000000000000000000000000000000000000000000000 W) (h : Does W o s) :
    Does W o (State.writeVat s x1 x2 x3 x4) := by
  have up := hW.up
  have ub := hW.ub
  unfold State.writeVat
  repeat' first
    | with_reducible assumption
    | exact up _ (by decide)
    | exact ub _ (by decide)
    | exact fun _ => ub _ (by decide)
    | intro _
    | with_reducible (apply State.served_does)
    | with_reducible (apply State.privCase_does)
    | with_reducible (apply vatHostWrite_does)
    | with_reducible (apply Does.ite)
    | (fail_if_no_progress extract_lets)
    | (fail_if_no_progress (with_reducible refine Does.mk' ?_ (by with_reducible rfl)))

theorem State.writeLoc_does {W : Nat} {o : State} {s : State} (x1 : Nat) (x2 : Env) (x3 : Option Nat) (x4 : Loc) (x5 : Nat) (hW : Within 0x7ffffffffffffffffffffffffffffffffffffffffffffffffffffffffffffffffffffffffffffffffffffffffffffffffffffffffffffffffffffffffffffffffffffffffffffffffffffffffffffffffffffffffffffffffffffffffffffffffffffffffffffffffffffffffffffffffffffffffffffffffffffffffffffffff W) (h : Does W o s) :
    Does W o (State.writeLoc s x1 x2 x3 x4 x5) := by
  have up := hW.up
  have ub := hW.ub
  have full := hW.full (by decide)
  unfold State.writeLoc
  repeat' first
    | with_reducible assumption
    | exact up _ (by decide)
    | exact ub _ (by decide)
    | exact fun _ => ub _ (by decide)
    | exact full _
    | intro _
    | with_reducible (apply State.privCase_does)
    | with_reducible (apply State.writeVat_does)
    | with_reducible (apply State.writeRule_does)
    | with_reducible (apply launchEntryArm_does)
    | with_reducible (apply State.served_does)
    | with_reducible (apply launchEntryDisarm_does)
    | with_reducible (apply State.writePage_does)
    | with_reducible (apply Does.ite)
    | (fail_if_no_progress extract_lets)
    | (fail_if_no_progress (with_reducible refine Does.mk' ?_ (by with_reducible rfl)))
    | split
    | dsimp only

theorem State.writeDword_does {W : Nat} {o : State} {s : State} (x1 : Nat) (x2 : Env) (x3 : Option Nat) (x4 : Nat) (x5 : Nat) {r : State} (hW : Within 0x7ffffffffffffffffffffffffffffffffffffffffffffffffffffffffffffffffffffffffffffffffffffffffffffffffffffffffffffffffffffffffffffffffffffffffffffffffffffffffffffffffffffffffffffffffffffffffffffffffffffffffffffffffffffffffffffffffffffffffffffffffffffffffffffffff W) (h : Does W o s) (e : State.writeDword s x1 x2 x3 x4 x5 = some r) :
    Does W o r := by
  have up := hW.up
  have ub := hW.ub
  have full := hW.full (by decide)
  simp only [State.writeDword, Option.map_eq_some_iff] at e
  obtain ⟨l, _, e⟩ := e
  subst e
  exact State.writeLoc_does _ _ _ _ _ (up _ (by decide)) h

end Sys2Proof.Machine
end

