-- ==== Sys2Proof/Laws/DBoot.lean ====
section
/-! SUPPORT. What the operations of Boot can change. -/

set_option linter.unreachableTactic false
set_option linter.unusedTactic false
set_option linter.unusedVariables false
set_option Elab.async false

namespace Sys2Proof.Machine

theorem resetAssert_does {W : Nat} {o : State} (x0 : Nat) {s : State} (hW : Within 0x7ffffffffffffffffffffffffffffffffffffffffffffffffffffffffffffffffffffffffffffffffffffffffffffffffffffffffffffffffffffffffffffffffffffffffffffffffffffffffffffffffffffffffffffffffffffffffffffffffffffffffffffffffffffffffffffffffffffffffffffffffffffffffffffffff W) (h : Does W o s) :
    Does W o (resetAssert x0 s) := by
  have up := hW.up
  have ub := hW.ub
  have full := hW.full (by decide)
  have b1023 := ub 1023 (by decide)
  unfold resetAssert
  repeat' first
    | with_reducible assumption
    | exact up _ (by decide)
    | exact ub _ (by decide)
    | exact fun _ => ub _ (by decide)
    | exact full _
    | intro _
    | with_reducible (apply State.toReset_does)
    | with_reducible (apply Does.ite)
    | (fail_if_no_progress extract_lets)
    | (fail_if_no_progress (with_reducible refine Does.mk' ?_ (by with_reducible rfl)))

theorem vddAonRise_does {W : Nat} {o : State} {s : State} (hW : Within 0x8000000000000000000000000000000000000000000000000000100000000000000000000000000000000000000000000000000000000000000000000000000000000000000000000000000000000000000000000000000000000000000000000000000000000000000000000000000000000000000000000000000000000000 W) (h : Does W o s) :
    Does W o (vddAonRise s) := by
  have up := hW.up
  have ub := hW.ub
  have b1023 := ub 1023 (by decide)
  unfold vddAonRise
  repeat' first
    | with_reducible assumption
    | exact up _ (by decide)
    | exact ub _ (by decide)
    | exact fun _ => ub _ (by decide)
    | intro _
    | with_reducible (apply State.wr_does)
    | with_reducible (apply Does.ite)
    | (fail_if_no_progress extract_lets)
    | (fail_if_no_progress (with_reducible refine Does.mk' ?_ (by with_reducible rfl)))

theorem pgoodRise_does {W : Nat} {o : State} {s : State} (hW : Within 0x8000000000000000000000000000000000000000000000000000000000000000000000000000000000000000000000000000000000000000000000000000000000000000000000000000000000000000000000000000000000000000000000000000000000000000000000000000000000000000000000000000000000000000 W) (h : Does W o s) :
    Does W o (pgoodRise s) := by
  have up := hW.up
  have ub := hW.ub
  have b1023 := ub 1023 (by decide)
  unfold pgoodRise
  repeat' first
    | with_reducible assumption
    | exact up _ (by decide)
    | exact ub _ (by decide)
    | exact fun _ => ub _ (by decide)
    | intro _
    | with_reducible (apply Does.ite)
    | (fail_if_no_progress extract_lets)
    | (fail_if_no_progress (with_reducible refine Does.mk' ?_ (by with_reducible rfl)))

theorem pgoodFall_does {W : Nat} {o : State} {s : State} (hW : Within 0x7ffffffffffffffffffffffffffffffffffffffffffffffffffffffffffffffffffffffffffffffffffffffffffffffffffffffffffffffffffffffffffffffffffffffffffffffffffffffffffffffffffffffffffffffffffffffffffffffffffffffffffffffffffffffffffffffffffffffffffffffffffffffffffffffff W) (h : Does W o s) :
    Does W o (pgoodFall s) := by
  have up := hW.up
  have ub := hW.ub
  have full := hW.full (by decide)
  have b1023 := ub 1023 (by decide)
  unfold pgoodFall
  repeat' first
    | with_reducible assumption
    | exact up _ (by decide)
    | exact ub _ (by decide)
    | exact fun _ => ub _ (by decide)
    | exact full _
    | intro _
    | with_reducible (apply State.wr_does)
    | with_reducible (apply State.toReset_does)
    | with_reducible (apply Does.ite)
    | (fail_if_no_progress extract_lets)
    | (fail_if_no_progress (with_reducible refine Does.mk' ?_ (by with_reducible rfl)))

theorem pgoodExitTimeout_does {W : Nat} {o : State} {s : State} (hW : Within 0x7ffffffffffffffffffffffffffffffffffffffffffffffffffffffffffffffffffffffffffffffffffffffffffffffffffffffffffffffffffffffffffffffffffffffffffffffffffffffffffffffffffffffffffffffffffffffffffffffffffffffffffffffffffffffffffffffffffffffffffffffffffffffffffffffff W) (h : Does W o s) :
    Does W o (pgoodExitTimeout s) := by
  have up := hW.up
  have ub := hW.ub
  have full := hW.full (by decide)
  unfold pgoodExitTimeout
  repeat' first
    | with_reducible assumption
    | exact up _ (by decide)
    | exact ub _ (by decide)
    | exact fun _ => ub _ (by decide)
    | exact full _
    | intro _
    | with_reducible (apply State.toReset_does)
    | with_reducible (apply State.advance_does)
    | with_reducible (apply Does.ite)
    | (fail_if_no_progress extract_lets)
    | (fail_if_no_progress (with_reducible refine Does.mk' ?_ (by with_reducible rfl)))
    | split
    | dsimp only

theorem vddAonFall_does {W : Nat} {o : State} {s : State} (hW : Within 0x7ffffffffffffffffffffffffffffffffffffffffffffffffffffffffffffffffffffffffffffffffffffffffffffffffffffffffffffffffffffffffffffffffffffffffffffffffffffffffffffffffffffffffffffffffffffffffffffffffffffffffffffffffffffffffffffffffffffffffffffffffffffffffffffffff W) (h : Does W o s) :
    Does W o (vddAonFall s) := by
  have up := hW.up
  have ub := hW.ub
  have full := hW.full (by decide)
  have b1023 := ub 1023 (by decide)
  unfold vddAonFall
  split
  · exact h
  · refine (State.toReset_does rcPowerOn (up _ (by decide)) h).tables (Keeps.tables (Keeps.refl _) rfl rfl rfl rfl fun w => ?_) fun w => ?_
    · simp only [State.wf, Bool.and_eq_true] at w ⊢
      exact ⟨⟨⟨⟨⟨rfl, w.1.1.1.1.2⟩, w.1.1.1.2⟩, w.1.1.2⟩, w.1.2⟩, w.2⟩
    · exact ⟨rfl, fun f i hl hf => absurd hf (by rw [full _ hl]; decide)⟩

theorem resetRelease_does {W : Nat} {o : State} (x0 : Nat) {s : State} (hW : Within 0x28100600000000000000000000000000000000000000000000000e00001800003030000580000000000006000000000000000000000010000001000000000000700401200000000000000000000000000000000018000000000000000000000000000000000000000000000000000000000000000000000000000600018000000 W) (h : Does W o s) :
    Does W o (resetRelease x0 s) := by
  have up := hW.up
  have ub := hW.ub
  have b1023 := ub 1023 (by decide)
  unfold resetRelease
  repeat' first
    | with_reducible assumption
    | exact up _ (by decide)
    | exact ub _ (by decide)
    | exact fun _ => ub _ (by decide)
    | intro _
    | with_reducible (apply State.tripUp_does)
    | with_reducible (apply State.wr_does)
    | with_reducible (apply State.flag_does)
    | with_reducible (apply State.strapFields_does)
    | with_reducible (apply State.setMode_does)
    | with_reducible (apply State.tbRestart_does)
    | with_reducible (apply Does.ite)
    | (fail_if_no_progress extract_lets)
    | (fail_if_no_progress (with_reducible refine Does.mk' ?_ (by with_reducible rfl)))

theorem State.bootFails_does {W : Nat} {o : State} {s : State} (x1 : Nat) (hW : Within 0x20000200000000000000000000000000000000000000000000001000001800003030000000000000000000000000000000000000000010000001000000000000000000000000000000000000000000000000000000000000000000000000000000000000000000000000000000000000000000000000000000000000000000000 W) (h : Does W o s) :
    Does W o (State.bootFails s x1) := by
  have up := hW.up
  have ub := hW.ub
  unfold State.bootFails
  repeat' first
    | with_reducible assumption
    | exact up _ (by decide)
    | exact ub _ (by decide)
    | exact fun _ => ub _ (by decide)
    | intro _
    | with_reducible (apply State.raise_does)
    | with_reducible (apply State.wr_does)
    | with_reducible (apply Does.ite)
    | (fail_if_no_progress extract_lets)
    | (fail_if_no_progress (with_reducible refine Does.mk' ?_ (by with_reducible rfl)))

theorem memorySelftestDone_does {W : Nat} {o : State} (x0 : Option (Nat × Nat)) {s : State} (hW : Within 0x22000200000000000000000000000000000000000000000000009000001800003030000000000000000000000000000000000000000010000001000000000000000000000000000000000000000000000000000000000000000000000000000000000000000000000000000000000000000000000000000000000000000000000 W) (h : Does W o s) :
    Does W o (memorySelftestDone x0 s) := by
  have up := hW.up
  have ub := hW.ub
  have b1021 := ub 1021 (by decide)
  unfold memorySelftestDone
  repeat' first
    | with_reducible assumption
    | exact up _ (by decide)
    | exact ub _ (by decide)
    | exact fun _ => ub _ (by decide)
    | intro _
    | with_reducible (apply State.bootFails_does)
    | with_reducible (apply State.wr_does)
    | with_reducible (apply Does.ite)
    | (fail_if_no_progress extract_lets)
    | (fail_if_no_progress (with_reducible refine Does.mk' ?_ (by with_reducible rfl)))
    | split
    | dsimp only

theorem State.bootPairs_does {W : Nat} {o : State} {s : State} (x1 : List Nat) (hW : Within 0x7ffffffffffffffffffffffffffffffffffffffffffffffffffffffffffffffffffffffffffffffffffffffffffffffffffffffffffffffffffffffffffffffffffffffffffffffffffffffffffffffffffffffffffffffffffffffffffffffffffffffffffffffffffffffffffffffffffffffffffffffffffffffffffffffff W) (h : Does W o s) :
    Does W o (State.bootPairs s x1).1 := by
  have up := hW.up
  have ub := hW.ub
  have full := hW.full (by decide)
  fun_induction State.bootPairs s x1 with
  | case1 s a v rest t e ih =>
    refine ih ?_
    split at e
    · exact State.writeDword_does _ _ _ _ _ (up _ (by decide)) h e
    · cases e
  | case2 => exact h
  | case3 => exact h

theorem State.bootBlock_does {W : Nat} {o : State} {s : State} (x1 : Nat) (x2 : List Nat) (hW : Within 0x7ffffffffffffffffffffffffffffffffffffffffffffffffffffffffffffffffffffffffffffffffffffffffffffffffffffffffffffffffffffffffffffffffffffffffffffffffffffffffffffffffffffffffffffffffffffffffffffffffffffffffffffffffffffffffffffffffffffffffffffffffffffffffffffffff W) (h : Does W o s) :
    Does W o (State.bootBlock s x1 x2).1 := by
  have up := hW.up
  have ub := hW.ub
  have full := hW.full (by decide)
  fun_induction State.bootBlock s x1 x2 with
  | case1 => exact h
  | case2 s a v rest t e ih =>
    refine ih ?_
    split at e
    · exact State.writeDword_does _ _ _ _ _ (up _ (by decide)) h e
    · cases e
  | case3 => exact h

theorem State.bootSections_does {W : Nat} {o : State} {s : State} (x1 : Nat) (x2 : List Nat) (hW : Within 0x7ffffffffffffffffffffffffffffffffffffffffffffffffffffffffffffffffffffffffffffffffffffffffffffffffffffffffffffffffffffffffffffffffffffffffffffffffffffffffffffffffffffffffffffffffffffffffffffffffffffffffffffffffffffffffffffffffffffffffffffffffffffffffffffffff W) (h : Does W o s) :
    Does W o (State.bootSections s x1 x2).1 := by
  have up := hW.up
  have ub := hW.ub
  have full := hW.full (by decide)
  fun_induction State.bootSections s x1 x2
  all_goals first
    | exact h
    | (rename_i e ih; exact ih (Does.fst e (State.bootPairs_does _ (up _ (by decide)) h)))
    | (rename_i e ih; exact ih (Does.fst e (State.bootBlock_does _ _ (up _ (by decide)) h)))
    | exact State.bootPairs_does _ (up _ (by decide)) h
    | exact State.bootBlock_does _ _ (up _ (by decide)) h

theorem State.bootApply_does {W : Nat} {o : State} {s : State} (hW : Within 0x2028123ffffffffffffffffffffffffffffffffffffffffffffffffffffffffffffffffffffffffffffffffffffffffffffffffffffffffffffffffffffffffffffffffffffffffffffffffffffffffffffffffffffffffffffffffffffffffffffffffffffffffffffffffffffffffffffffffffffffffffffffffffffffffff W) (h : Does W o s) :
    Does W o (State.bootApply s) := by
  have up := hW.up
  have ub := hW.ub
  have full := hW.full (by decide)
  have b1000 := ub 1000 (by decide)
  unfold State.bootApply
  repeat' first
    | with_reducible assumption
    | exact up _ (by decide)
    | exact ub _ (by decide)
    | exact fun _ => ub _ (by decide)
    | exact full _
    | intro _
    | with_reducible (apply forEach_does)
    | with_reducible (apply State.releaseBody_does)
    | with_reducible (apply State.applyFields_does)
    | with_reducible (apply State.takeSeal_does)
    | with_reducible (apply State.applyField_does)
    | with_reducible (apply Does.ite)
    | (fail_if_no_progress extract_lets)
    | (fail_if_no_progress (with_reducible refine Does.mk' ?_ (by with_reducible rfl)))

theorem State.setRecSlot_does {W : Nat} {o : State} {s : State} (x1 : Nat) (x2 : Option (List Nat)) (hW : Within 0x2000000000000000000000000000000000000000000000000000000000000000000000000000000000000000000000000000000000000000000000000000000000000000000000000000000000000000000000000000000000000000000000000000000000000000000000000000000000000000000000000000000000000000 W) (h : Does W o s) :
    Does W o (State.setRecSlot s x1 x2) := by
  have up := hW.up
  have ub := hW.ub
  have b1021 := ub 1021 (by decide)
  refine h.tables (Keeps.tables (Keeps.refl _) rfl rfl rfl rfl fun w => ?_) fun w => ⟨w, fun _ _ _ _ => rfl⟩
  have hf : ∀ (l : List (Nat × Nat)) (m : List (Nat × Nat)), smWf m = true →
      smWf (l.foldl (fun m (e : Nat × Nat) => smSet m (x1 * 1024 + e.2) (e.1 % 2 ^ 32 ^^^ 0xFFFFFFFF)) m) = true := by
    intro l
    induction l with
    | nil => intro m h; exact h
    | cons e l ih => intro m h; exact ih _ (smSet_wf _ _ _ h)
  simp only [State.wf, State.setRecSlot, Bool.and_eq_true] at w ⊢
  exact ⟨w.1, hf _ _ (filter_wf _ _ w.2)⟩

theorem State.showSlot_does {W : Nat} {o : State} {s : State} (x1 : Nat) (hW : Within 0x18600000000000000000000000000000000000000000000000000000000000000000000000000000000000000000000000000000000000000000000000000000000000000000000000000000000000000000000000000000000000000000000000000000000000000 W) (h : Does W o s) :
    Does W o (State.showSlot s x1) := by
  have up := hW.up
  have ub := hW.ub
  unfold State.showSlot
  repeat' first
    | with_reducible assumption
    | exact up _ (by decide)
    | exact ub _ (by decide)
    | exact fun _ => ub _ (by decide)
    | intro _
    | with_reducible (apply State.wr_does)
    | with_reducible (apply forEach_does)
    | with_reducible (apply Does.ite)
    | (fail_if_no_progress extract_lets)
    | (fail_if_no_progress (with_reducible refine Does.mk' ?_ (by with_reducible rfl)))

theorem State.restoreRecord_does {W : Nat} {o : State} {s : State} (hW : Within 0x2885fe00000000000000000000000000000000000000000018e0000000180000303000058000080000000000000000000000000000001000000100000000000000000000000000000000000000000000000000000000000006040000000000000000000000000000000000060000020908c21000438002000080079f819840000 W) (h : Does W o s) :
    Does W o (State.restoreRecord s) := by
  have up := hW.up
  have ub := hW.ub
  unfold State.restoreRecord
  repeat' first
    | with_reducible assumption
    | exact up _ (by decide)
    | exact ub _ (by decide)
    | exact fun _ => ub _ (by decide)
    | intro _
    | with_reducible (apply State.wr_does)
    | with_reducible (apply State.flag_does)
    | with_reducible (apply State.showSlot_does)
    | with_reducible (apply rsExpectWrite_does)
    | with_reducible (apply Does.ite)
    | (fail_if_no_progress extract_lets)
    | (fail_if_no_progress (with_reducible refine Does.mk' ?_ (by with_reducible rfl)))
    | split
    | dsimp only

theorem recCommitDone_does {W : Nat} {o : State} (x0 : Nat) {s : State} (hW : Within 0x2200020000000000000000000000000000000000000000001d600000001800003030000000000000000000000000000000000000000010000001000000000000000000000000000000000000000000000000000000000000000000000000000000000000000000000000000000000000000000000000000000000000000000000 W) (h : Does W o s) :
    Does W o (recCommitDone x0 s) := by
  have up := hW.up
  have ub := hW.ub
  have b1021 := ub 1021 (by decide)
  unfold recCommitDone
  repeat' first
    | with_reducible assumption
    | exact up _ (by decide)
    | exact ub _ (by decide)
    | exact fun _ => ub _ (by decide)
    | intro _
    | with_reducible (apply State.wr_does)
    | with_reducible (apply State.raise_does)
    | with_reducible (apply State.showSlot_does)
    | with_reducible (apply State.setRecSlot_does)
    | with_reducible (apply Does.ite)
    | (fail_if_no_progress extract_lets)
    | (fail_if_no_progress (with_reducible refine Does.mk' ?_ (by with_reducible rfl)))
    | split
    | dsimp only

theorem State.bootEnds_does {W : Nat} {o : State} {s : State} (hW : Within 0x28adfe3ffffffffffffffffffffffffffffffffffffffffffffffffffffffffffffffffffffffffffffffffffffffffffffffffffffffffffffffffffffffffffffffffffffffffffffffffffffffffffffffffffffffffffffffffffffffffffffffffffffffffffffffffffffffffffffffffffffffffffffffffffffffffff W) (h : Does W o s) :
    Does W o (State.bootEnds s) := by
  have up := hW.up
  have ub := hW.ub
  have full := hW.full (by decide)
  unfold State.bootEnds
  repeat' first
    | with_reducible assumption
    | exact up _ (by decide)
    | exact ub _ (by decide)
    | exact fun _ => ub _ (by decide)
    | exact full _
    | intro _
    | with_reducible (apply State.raise_does)
    | with_reducible (apply State.wr_does)
    | with_reducible (apply State.restoreRecord_does)
    | with_reducible (apply State.bootApply_does)
    | with_reducible (apply State.raiseIf_does)
    | with_reducible (apply State.lanesSync_does)
    | with_reducible (apply State.setMode_does)
    | with_reducible (apply State.carriersOn_does)
    | with_reducible (apply Does.ite)
    | (fail_if_no_progress extract_lets)
    | (fail_if_no_progress (with_reducible refine Does.mk' ?_ (by with_reducible rfl)))

theorem State.takeImage_does {W : Nat} {o : State} {s : State} (x1 : Nat) (x2 : List Nat) (hW : Within 0x7ffffffffffffffffffffffffffffffffffffffffffffffffffffffffffffffffffffffffffffffffffffffffffffffffffffffffffffffffffffffffffffffffffffffffffffffffffffffffffffffffffffffffffffffffffffffffffffffffffffffffffffffffffffffffffffffffffffffffffffffffffffffffffffffff W) (h : Does W o s) :
    Does W o (State.takeImage s x1 x2) := by
  have up := hW.up
  have ub := hW.ub
  have full := hW.full (by decide)
  unfold State.takeImage
  repeat' first
    | with_reducible assumption
    | exact up _ (by decide)
    | exact ub _ (by decide)
    | exact fun _ => ub _ (by decide)
    | exact full _
    | intro _
    | with_reducible (apply State.wr_does)
    | with_reducible (apply State.bootSections_does)
    | with_reducible (apply State.bootEnds_does)
    | with_reducible (apply State.bootFails_does)
    | with_reducible (apply Does.ite)
    | (fail_if_no_progress extract_lets)
    | (fail_if_no_progress (with_reducible refine Does.mk' ?_ (by with_reducible rfl)))
    | (with_reducible (refine Does.snd (by assumption) ?_))
    | (with_reducible (refine Does.fst (by assumption) ?_))
    | split
    | dsimp only
    | dsimp +zetaDelta only

theorem imageCheck_does {W : Nat} {o : State} (x0 : Option (List Nat)) {s : State} (hW : Within 0x7ffffffffffffffffffffffffffffffffffffffffffffffffffffffffffffffffffffffffffffffffffffffffffffffffffffffffffffffffffffffffffffffffffffffffffffffffffffffffffffffffffffffffffffffffffffffffffffffffffffffffffffffffffffffffffffffffffffffffffffffffffffffffffffffff W) (h : Does W o s) :
    Does W o (imageCheck x0 s) := by
  have up := hW.up
  have ub := hW.ub
  have full := hW.full (by decide)
  have b1021 := ub 1021 (by decide)
  unfold imageCheck
  repeat' first
    | with_reducible assumption
    | exact up _ (by decide)
    | exact ub _ (by decide)
    | exact fun _ => ub _ (by decide)
    | exact full _
    | intro _
    | with_reducible (apply State.takeImage_does)
    | with_reducible (apply State.bootFails_does)
    | with_reducible (apply State.wr_does)
    | with_reducible (apply Does.ite)
    | (fail_if_no_progress extract_lets)
    | (fail_if_no_progress (with_reducible refine Does.mk' ?_ (by with_reducible rfl)))
    | split
    | dsimp only

theorem State.warmDie_does {W : Nat} {o : State} {s : State} (x1 : Nat) (x2 : Int) (hW : Within 0x2981a2000000000000000000000000000000000000000000000000fff07ff80370300fca00000000000000000000000000000000000010000001000000000000000000000000000000000000000000000000000000000000060400000000000000000000000000000000000680000000020000000000000000000000000000000 W) (h : Does W o s) :
    Does W o (State.warmDie s x1 x2) := by
  have up := hW.up
  have ub := hW.ub
  unfold State.warmDie
  repeat' first
    | with_reducible assumption
    | exact up _ (by decide)
    | exact ub _ (by decide)
    | exact fun _ => ub _ (by decide)
    | intro _
    | with_reducible (apply State.raise_does)
    | with_reducible (apply State.fault_does)
    | with_reducible (apply Does.ite)
    | (fail_if_no_progress extract_lets)
    | (fail_if_no_progress (with_reducible refine Does.mk' ?_ (by with_reducible rfl)))

theorem thermalSample_does {W : Nat} {o : State} (x0 : Int) (x1 : Int) (x2 : Int) (x3 : Int) {s : State} (hW : Within 0x7ffffffffffffffffffffffffffffffffffffffffffffffffffffffffffffffffffffffffffffffffffffffffffffffffffffffffffffffffffffffffffffffffffffffffffffffffffffffffffffffffffffffffffffffffffffffffffffffffffffffffffffffffffffffffffffffffffffffffffffffffffffffffffffffff W) (h : Does W o s) :
    Does W o (thermalSample x0 x1 x2 x3 s) := by
  have up := hW.up
  have ub := hW.ub
  have full := hW.full (by decide)
  have b1019 := ub 1019 (by decide)
  have b1023 := ub 1023 (by decide)
  unfold thermalSample
  repeat' first
    | with_reducible assumption
    | exact up _ (by decide)
    | exact ub _ (by decide)
    | exact fun _ => ub _ (by decide)
    | exact full _
    | intro _
    | with_reducible (apply forEach_does)
    | with_reducible (apply State.wrS_does)
    | with_reducible (apply State.warmDie_does)
    | with_reducible (apply State.toReset_does)
    | with_reducible (apply State.wr_does)
    | with_reducible (apply State.fault_does)
    | with_reducible (apply Does.ite)
    | (fail_if_no_progress extract_lets)
    | (fail_if_no_progress (with_reducible refine Does.mk' ?_ (by with_reducible rfl)))

theorem lifeTick_does {W : Nat} {o : State} {s : State} (hW : Within 0x28000200000000000000000000000000000000000000001000000000001800003030000000000000000000000000000000000000000010000001000000000000000000000000000000000000000000000000000000000000000000000000000000000000000000000000000000000000000000000000000000000000000000000 W) (h : Does W o s) :
    Does W o (lifeTick s) := by
  have up := hW.up
  have ub := hW.ub
  have b1023 := ub 1023 (by decide)
  unfold lifeTick
  repeat' first
    | with_reducible assumption
    | exact up _ (by decide)
    | exact ub _ (by decide)
    | exact fun _ => ub _ (by decide)
    | intro _
    | with_reducible (apply State.raiseIf_does)
    | with_reducible (apply State.wr_does)
    | with_reducible (apply Does.ite)
    | (fail_if_no_progress extract_lets)
    | (fail_if_no_progress (with_reducible refine Does.mk' ?_ (by with_reducible rfl)))

end Sys2Proof.Machine
end

