-- ==== Sys2Proof/Laws/DRegAccess.lean ====
section
/-! SUPPORT. What the operations of RegAccess can change. -/

set_option linter.unreachableTactic false
set_option linter.unusedTactic false
set_option linter.unusedVariables false
set_option Elab.async false

namespace Sys2Proof.Machine

theorem State.writeWords_does {W : Nat} {o : State} {s : State} (x1 : Nat) (x2 : Env) (x3 : Option Nat) (x4 : Nat) (x5 : List Nat) (hW : Within 0x7ffffffffffffffffffffffffffffffffffffffffffffffffffffffffffffffffffffffffffffffffffffffffffffffffffffffffffffffffffffffffffffffffffffffffffffffffffffffffffffffffffffffffffffffffffffffffffffffffffffffffffffffffffffffffffffffffffffffffffffffffffffffffffffffff W) (h : Does W o s) :
    Does W o (State.writeWords s x1 x2 x3 x4 x5) := by
  have up := hW.up
  have ub := hW.ub
  have full := hW.full (by decide)
  induction x5 generalizing s x3 x4 with
  | nil => exact h
  | cons w ws ih =>
    simp only [State.writeWords]
    refine ih _ _ ?_
    cases e : s.writeDword x1 x2 x3 x4 w with
    | none => exact h
    | some t => exact State.writeDword_does _ _ _ _ _ (up _ (by decide)) h e

theorem State.hostWriteReq_does {W : Nat} {o : State} {s : State} (x1 : Nat) (x2 : Nat) (x3 : Bool) (x4 : List Nat) (x5 : Option Nat) (x6 : Env) (hW : Within 0x7ffffffffffffffffffffffffffffffffffffffffffffffffffffffffffffffffffffffffffffffffffffffffffffffffffffffffffffffffffffffffffffffffffffffffffffffffffffffffffffffffffffffffffffffffffffffffffffffffffffffffffffffffffffffffffffffffffffffffffffffffffffffffffffffff W) (h : Does W o s) :
    Does W o (State.hostWriteReq s x1 x2 x3 x4 x5 x6) := by
  have up := hW.up
  have ub := hW.ub
  have full := hW.full (by decide)
  unfold State.hostWriteReq
  repeat' first
    | with_reducible assumption
    | exact up _ (by decide)
    | exact ub _ (by decide)
    | exact fun _ => ub _ (by decide)
    | exact full _
    | intro _
    | with_reducible (apply State.emit_does)
    | with_reducible (apply State.unsupported_does)
    | with_reducible (apply State.inc_does)
    | with_reducible (apply State.writeWords_does)
    | with_reducible (apply Does.ite)
    | (fail_if_no_progress extract_lets)
    | (fail_if_no_progress (with_reducible refine Does.mk' ?_ (by with_reducible rfl)))

theorem registerWrite_does {W : Nat} {o : State} (x0 : Nat) (x1 : Nat) (x2 : Bool) (x3 : List Nat) (x4 : Option Nat) (x5 : Env) (x6 : List HostWrite) {s : State} (hW : Within 0x7ffffffffffffffffffffffffffffffffffffffffffffffffffffffffffffffffffffffffffffffffffffffffffffffffffffffffffffffffffffffffffffffffffffffffffffffffffffffffffffffffffffffffffffffffffffffffffffffffffffffffffffffffffffffffffffffffffffffffffffffffffffffffffffffff W) (h : Does W o s) :
    Does W o (registerWrite x0 x1 x2 x3 x4 x5 x6 s) := by
  have up := hW.up
  have ub := hW.ub
  have full := hW.full (by decide)
  unfold registerWrite
  repeat' first
    | with_reducible assumption
    | exact up _ (by decide)
    | exact ub _ (by decide)
    | exact fun _ => ub _ (by decide)
    | exact full _
    | intro _
    | with_reducible (apply State.serveAll_does)
    | with_reducible (apply State.hostWriteReq_does)
    | with_reducible (apply Does.ite)
    | with_reducible (apply Does.foldl)
    | (fail_if_no_progress extract_lets)
    | (fail_if_no_progress (with_reducible refine Does.mk' ?_ (by with_reducible rfl)))
    | split
    | dsimp +zetaDelta only

theorem lockFieldWrite_does {W : Nat} {o : State} (x0 : Nat) (x1 : Nat) (x2 : Nat) {s : State} (hW : Within 0x7ffffffffffffffffffffffffffffffffffffffffffffffffffffffffffffffffffffffffffffffffffffffffffffffffffffffffffffffffffffffffffffffffffffffffffffffffffffffffffffffffffffffffffffffffffffffffffffffffffffffffffffffffffffffffffffffffffffffffffffffffffffffffffffffff W) (h : Does W o s) :
    Does W o (lockFieldWrite x0 x1 x2 s) := by
  have up := hW.up
  have ub := hW.ub
  have full := hW.full (by decide)
  unfold lockFieldWrite
  repeat' first
    | with_reducible assumption
    | exact up _ (by decide)
    | exact ub _ (by decide)
    | exact fun _ => ub _ (by decide)
    | exact full _
    | intro _
    | with_reducible (apply State.hostWriteReq_does)
    | with_reducible (apply Does.ite)
    | (fail_if_no_progress extract_lets)
    | (fail_if_no_progress (with_reducible refine Does.mk' ?_ (by with_reducible rfl)))

theorem stickyClr_does {W : Nat} {o : State} (x0 : Nat) (x1 : Nat) (x2 : Bool) {s : State} (hW : Within 0x7ffffffffffffffffffffffffffffffffffffffffffffffffffffffffffffffffffffffffffffffffffffffffffffffffffffffffffffffffffffffffffffffffffffffffffffffffffffffffffffffffffffffffffffffffffffffffffffffffffffffffffffffffffffffffffffffffffffffffffffffffffffffffffffffff W) (h : Does W o s) :
    Does W o (Sys2Proof.Machine.stickyClr x0 x1 x2 s) := by
  have up := hW.up
  have ub := hW.ub
  have full := hW.full (by decide)
  unfold stickyClr
  repeat' first
    | with_reducible assumption
    | exact up _ (by decide)
    | exact ub _ (by decide)
    | exact fun _ => ub _ (by decide)
    | exact full _
    | intro _
    | with_reducible (apply State.hostWriteReq_does)
    | with_reducible (apply Does.ite)
    | (fail_if_no_progress extract_lets)
    | (fail_if_no_progress (with_reducible refine Does.mk' ?_ (by with_reducible rfl)))

theorem intRegisterWrite_does {W : Nat} {o : State} (x0 : Nat) (x1 : Nat) (x2 : Bool) (x3 : Nat) (x4 : Option Nat) {s : State} (hW : Within 0x7ffffffffffffffffffffffffffffffffffffffffffffffffffffffffffffffffffffffffffffffffffffffffffffffffffffffffffffffffffffffffffffffffffffffffffffffffffffffffffffffffffffffffffffffffffffffffffffffffffffffffffffffffffffffffffffffffffffffffffffffffffffffffffffffff W) (h : Does W o s) :
    Does W o (intRegisterWrite x0 x1 x2 x3 x4 s) := by
  have up := hW.up
  have ub := hW.ub
  have full := hW.full (by decide)
  unfold intRegisterWrite
  repeat' first
    | with_reducible assumption
    | exact up _ (by decide)
    | exact ub _ (by decide)
    | exact fun _ => ub _ (by decide)
    | exact full _
    | intro _
    | with_reducible (apply State.hostWriteReq_does)
    | with_reducible (apply Does.ite)
    | (fail_if_no_progress extract_lets)
    | (fail_if_no_progress (with_reducible refine Does.mk' ?_ (by with_reducible rfl)))

theorem intForce_does {W : Nat} {o : State} (x0 : Nat) (x1 : Nat) (x2 : Nat) {s : State} (hW : Within 0x7ffffffffffffffffffffffffffffffffffffffffffffffffffffffffffffffffffffffffffffffffffffffffffffffffffffffffffffffffffffffffffffffffffffffffffffffffffffffffffffffffffffffffffffffffffffffffffffffffffffffffffffffffffffffffffffffffffffffffffffffffffffffffffffffff W) (h : Does W o s) :
    Does W o (Sys2Proof.Machine.intForce x0 x1 x2 s) := by
  have up := hW.up
  have ub := hW.ub
  have full := hW.full (by decide)
  unfold intForce
  repeat' first
    | with_reducible assumption
    | exact up _ (by decide)
    | exact ub _ (by decide)
    | exact fun _ => ub _ (by decide)
    | exact full _
    | intro _
    | with_reducible (apply State.hostWriteReq_does)
    | with_reducible (apply Does.ite)
    | (fail_if_no_progress extract_lets)
    | (fail_if_no_progress (with_reducible refine Does.mk' ?_ (by with_reducible rfl)))

theorem msixVectorUnmask_does {W : Nat} {o : State} (x0 : Nat) (x1 : Nat) {s : State} (hW : Within 0x20000300000000000000000000000000000000000000000000000000000000000000000000000000000000000000000000000000000000000000000000000000000000000000000000000000000000000000000000000000000000000000000000000000000000000000000000000000000000000000000000000000000000000 W) (h : Does W o s) :
    Does W o (msixVectorUnmask x0 x1 s) := by
  have up := hW.up
  have ub := hW.ub
  have b1004 := ub 1004 (by decide)
  have b1005 := ub 1005 (by decide)
  unfold msixVectorUnmask
  have hk : ∀ (k : Nat), Does W o { s with msixOn := smSet s.msixOn k 1, msixPend := smSet s.msixPend k 0 } := fun k =>
    h.tables (Keeps.tables (Keeps.refl _) rfl rfl rfl rfl fun w => by
      simp only [State.wf, Bool.and_eq_true] at w ⊢
      exact ⟨⟨⟨w.1.1.1, smSet_wf _ _ _ w.1.1.2⟩, smSet_wf _ _ _ w.1.2⟩, w.2⟩) fun w => ⟨w, fun _ _ _ _ => rfl⟩
  refine Does.ite h ?_
  extract_lets
  exact Does.ite (State.emit_does _ (hk _) (ub _ (by decide))) (hk _)

theorem pcieLinkUp_does {W : Nat} {o : State} (x0 : Nat) (x1 : Nat) (x2 : Nat) {s : State} (hW : Within 0xf000000000000000000000000000000000000000000000000000000000000000000000000000000000000000000000000000000000000000000000000000000000000000000000000000000 W) (h : Does W o s) :
    Does W o (pcieLinkUp x0 x1 x2 s) := by
  have up := hW.up
  have ub := hW.ub
  unfold pcieLinkUp
  repeat' first
    | with_reducible assumption
    | exact up _ (by decide)
    | exact ub _ (by decide)
    | exact fun _ => ub _ (by decide)
    | intro _
    | with_reducible (apply State.wr_does)
    | with_reducible (apply Does.ite)
    | (fail_if_no_progress extract_lets)
    | (fail_if_no_progress (with_reducible refine Does.mk' ?_ (by with_reducible rfl)))

theorem pcieLinkDown_does {W : Nat} {o : State} {s : State} (hW : Within 0x20000200000000000000000000000000000000000000000000000000001800003030000000000000000000000000000000000000007010000001000000000000000000000000000000000000000000000000000000000000000000000000000000000000000000000000000000000000000000000000000000000000000000000 W) (h : Does W o s) :
    Does W o (pcieLinkDown s) := by
  have up := hW.up
  have ub := hW.ub
  unfold pcieLinkDown
  repeat' first
    | with_reducible assumption
    | exact up _ (by decide)
    | exact ub _ (by decide)
    | exact fun _ => ub _ (by decide)
    | intro _
    | with_reducible (apply State.raise_does)
    | with_reducible (apply State.wr_does)
    | with_reducible (apply Does.ite)
    | (fail_if_no_progress extract_lets)
    | (fail_if_no_progress (with_reducible refine Does.mk' ?_ (by with_reducible rfl)))

theorem State.jobFlr_does {W : Nat} {o : State} {s : State} (x1 : Nat) (hW : Within 0x60840200000000000000000000000000000000000000000000000000001800003030000a0000000000000000000000000000000000001000000100000000000000000000000000000d020000000000000000000000000000000000000000000000000000000000000000000000000000000000000000000000000000000000000 W) (h : Does W o s) :
    Does W o (State.jobFlr s x1) := by
  have up := hW.up
  have ub := hW.ub
  unfold State.jobFlr
  repeat' first
    | with_reducible assumption
    | exact up _ (by decide)
    | exact ub _ (by decide)
    | exact fun _ => ub _ (by decide)
    | intro _
    | with_reducible (apply State.jobEnd_does)
    | with_reducible (apply cipJobEnd_does)
    | with_reducible (apply State.fresh_does)
    | with_reducible (apply Does.ite)
    | (fail_if_no_progress extract_lets)
    | (fail_if_no_progress (with_reducible refine Does.mk' ?_ (by with_reducible rfl)))
    | split
    | dsimp only

theorem State.ringsFlr_does {W : Nat} {o : State} {s : State} (x1 : Nat) (hW : Within 0x8000000000000000000000000000000000000000000000000007ffffffff8000000000000000000000000000000000000000000000000000000000000000000000000000000000000000000000000000000000000000000000000000000000000000000000000000000000 W) (h : Does W o s) :
    Does W o (State.ringsFlr s x1) := by
  have up := hW.up
  have ub := hW.ub
  unfold State.ringsFlr
  refine Does.foldl_mem _ _ (fun u f hf hu => State.wr_does _ _ hu fun _ => ?_) h
  exact ub _ (List.all_eq_true.1 (by decide : (ringFields.all fun f => Nat.testBit 0x8000000000000000000000000000000000000000000000000007ffffffff8000000000000000000000000000000000000000000000000000000000000000000000000000000000000000000000000000000000000000000000000000000000000000000000000000000000 f.id) = true) _ hf)

theorem State.flrOne_does {W : Nat} {o : State} {s : State} (x1 : Nat) (hW : Within 0x64840380000000000000000000000000000000000008000000000000001800003030000a00000000000000000000007ffffffff800001000000100000000000000000000000000000d020000000000000000000000000000000000000000000000000000000000000000000000000000000000000000000000000000000000000 W) (h : Does W o s) :
    Does W o (State.flrOne s x1) := by
  have up := hW.up
  have ub := hW.ub
  have b1003 := ub 1003 (by decide)
  have b1004 := ub 1004 (by decide)
  have b1005 := ub 1005 (by decide)
  have hm : ∀ t, Does W o t → Does W o { t with msixPend := t.msixPend.filter fun e => e.1 / 256 != x1 } := fun t ht =>
    ht.tables (Keeps.tables (Keeps.refl _) rfl rfl rfl rfl fun w => by
      simp only [State.wf, Bool.and_eq_true] at w ⊢
      exact ⟨⟨w.1.1, filter_wf _ _ w.1.2⟩, w.2⟩) fun w => ⟨w, fun _ _ _ _ => rfl⟩
  have hk : Does W o { s with msixOn := s.msixOn.filter fun e => e.1 / 256 != x1, msixPend := s.msixPend.filter fun e => e.1 / 256 != x1
                              banked := s.banked.filter fun e => e.1 / 2 ^ 32 != x1 } :=
    h.tables (Keeps.tables (Keeps.refl _) rfl rfl rfl rfl fun w => by
      simp only [State.wf, Bool.and_eq_true] at w ⊢
      exact ⟨⟨⟨⟨⟨w.1.1.1.1.1, filter_wf _ _ w.1.1.1.1.2⟩, w.1.1.1.2⟩, filter_wf _ _ w.1.1.2⟩, filter_wf _ _ w.1.2⟩, w.2⟩)
      fun w => ⟨w, fun _ _ _ _ => rfl⟩
  unfold State.flrOne
  refine hm _ (forEach_does _ _ ?_ fun _ _ h => State.dmaFlr_does _ (up _ (by decide)) h)
  refine Does.ite hk (State.ringsFlr_does _ (up _ (by decide)) (State.jobFlr_does _ (up _ (by decide)) hk))

theorem State.flr_does {W : Nat} {o : State} {s : State} (x1 : Nat) (hW : Within 0x64840380000000000000000000000000000000000008000000000000001800003030000a00000000000000000000007ffffffff800801000000100000000000000000000000000000d020000000000000000000000000000000000000000000000000000000000000000000000000000000000000000000000000000000000000 W) (h : Does W o s) :
    Does W o (State.flr s x1) := by
  have up := hW.up
  have ub := hW.ub
  unfold State.flr
  repeat' first
    | with_reducible assumption
    | exact up _ (by decide)
    | exact ub _ (by decide)
    | exact fun _ => ub _ (by decide)
    | intro _
    | with_reducible (apply State.wr_does)
    | with_reducible (apply State.flrOne_does)
    | with_reducible (apply forEach_does)
    | with_reducible (apply Does.ite)
    | (fail_if_no_progress extract_lets)
    | (fail_if_no_progress (with_reducible refine Does.mk' ?_ (by with_reducible rfl)))

theorem functionLevelReset_does {W : Nat} {o : State} (x0 : Nat) {s : State} (hW : Within 0x64840380000000000000000000000000000000000008000000000000001800003030000a00000000000000000000007ffffffff800801000000100000000000000000000000000000d020000000000000000000000000000000000000000000000000000000000000000000000000000000000000000000000000000000000000 W) (h : Does W o s) :
    Does W o (functionLevelReset x0 s) := by
  have up := hW.up
  have ub := hW.ub
  unfold functionLevelReset
  repeat' first
    | with_reducible assumption
    | exact up _ (by decide)
    | exact ub _ (by decide)
    | exact fun _ => ub _ (by decide)
    | intro _
    | with_reducible (apply State.flr_does)
    | with_reducible (apply Does.ite)
    | (fail_if_no_progress extract_lets)
    | (fail_if_no_progress (with_reducible refine Does.mk' ?_ (by with_reducible rfl)))

theorem pciePerst_does {W : Nat} {o : State} {s : State} (hW : Within 0x64840380000000000000000000000000000000000008000000000000001800003030000a00000000000000000000007ffffffff800801000000100000000000000000000000000000d020000000000000000000000000000000000000000000000000000000000000000000000000000000000000000000000000000000000000 W) (h : Does W o s) :
    Does W o (pciePerst s) := by
  have up := hW.up
  have ub := hW.ub
  unfold pciePerst
  repeat' first
    | with_reducible assumption
    | exact up _ (by decide)
    | exact ub _ (by decide)
    | exact fun _ => ub _ (by decide)
    | intro _
    | with_reducible (apply State.flr_does)
    | with_reducible (apply Does.ite)
    | (fail_if_no_progress extract_lets)
    | (fail_if_no_progress (with_reducible refine Does.mk' ?_ (by with_reducible rfl)))

theorem State.twMiss_does {W : Nat} {o : State} {s : State} (hW : Within 0x80000000000000000000000000000000000000000000000000000000000000000000000000000000000000000000000000000000000000000000000000000000000000000000000000000000 W) (h : Does W o s) :
    Does W o (State.twMiss s) := by
  have up := hW.up
  have ub := hW.ub
  unfold State.twMiss
  repeat' first
    | with_reducible assumption
    | exact up _ (by decide)
    | exact ub _ (by decide)
    | exact fun _ => ub _ (by decide)
    | intro _
    | with_reducible (apply State.inc_does)
    | with_reducible (apply Does.ite)
    | (fail_if_no_progress extract_lets)
    | (fail_if_no_progress (with_reducible refine Does.mk' ?_ (by with_reducible rfl)))

theorem State.twMatch_does {W : Nat} {o : State} {s : State} (hW : Within 0x800000000000000000000000000000000000000000000000000000000000000000000000010000000000000000000000000000000000000000000000000000000000000000000000000000000000000000000000000000000000000000000000000000000000000000000000000000000000000000000000000000000000000 W) (h : Does W o s) :
    Does W o (State.twMatch s) := by
  have up := hW.up
  have ub := hW.ub
  unfold State.twMatch
  repeat' first
    | with_reducible assumption
    | exact up _ (by decide)
    | exact ub _ (by decide)
    | exact fun _ => ub _ (by decide)
    | intro _
    | with_reducible (apply State.latchWake_does)
    | with_reducible (apply Does.ite)
    | (fail_if_no_progress extract_lets)
    | (fail_if_no_progress (with_reducible refine Does.mk' ?_ (by with_reducible rfl)))

theorem State.twWords_does {W : Nat} {o : State} {s : State} (x1 : Env) (x2 : Bool) (x3 : Nat) (x4 : Nat) (x5 : List Nat) (hW : Within 0x7ffffffffffffffffffffffffffffffffffffffffffffffffffffffffffffffffffffffffffffffffffffffffffffffffffffffffffffffffffffffffffffffffffffffffffffffffffffffffffffffffffffffffffffffffffffffffffffffffffffffffffffffffffffffffffffffffffffffffffffffffffffffffffffffff W) (h : Does W o s) :
    Does W o (State.twWords s x1 x2 x3 x4 x5) := by
  have up := hW.up
  have ub := hW.ub
  have full := hW.full (by decide)
  induction x5 generalizing s x3 x4 with
  | nil =>
    simp only [State.twWords]
    exact Does.ite h (Does.ite (Does.ite h (State.inc_does _ _ _ (up _ (by decide)) h (fun _ => ub _ (by decide)))) (State.emit_does _ (State.twMiss_does (up _ (by decide)) h) (ub _ (by decide))))
  | cons w ws ih =>
    simp only [State.twWords]
    refine Does.ite (ih _ _ ?_) (State.emit_does _ (State.twMiss_does (up _ (by decide)) h) (ub _ (by decide)))
    cases e : s.writeDword twMaster x1 none x4 w with
    | none => exact h
    | some t => exact State.writeDword_does _ _ _ _ _ (up _ (by decide)) h e

theorem State.twPec_does {W : Nat} {o : State} {s : State} (x1 : Env) (x2 : Nat) (x3 : List Nat) (hW : Within 0x7ffffffffffffffffffffffffffffffffffffffffffffffffffffffffffffffffffffffffffffffffffffffffffffffffffffffffffffffffffffffffffffffffffffffffffffffffffffffffffffffffffffffffffffffffffffffffffffffffffffffffffffffffffffffffffffffffffffffffffffffffffffffffffffffff W) (h : Does W o s) :
    Does W o (State.twPec s x1 x2 x3) := by
  have up := hW.up
  have ub := hW.ub
  have full := hW.full (by decide)
  unfold State.twPec
  repeat' first
    | with_reducible assumption
    | exact up _ (by decide)
    | exact ub _ (by decide)
    | exact fun _ => ub _ (by decide)
    | exact full _
    | intro _
    | with_reducible (apply State.emit_does)
    | with_reducible (apply State.twMiss_does)
    | with_reducible (apply State.raise_does)
    | with_reducible (apply State.inc_does)
    | with_reducible (apply State.twWords_does)
    | with_reducible (apply Does.ite)
    | (fail_if_no_progress extract_lets)
    | (fail_if_no_progress (with_reducible refine Does.mk' ?_ (by with_reducible rfl)))
    | split
    | dsimp only

theorem twoWireWrite_does {W : Nat} {o : State} (x0 : Nat) (x1 : List Nat) (x2 : Env) {s : State} (hW : Within 0x7ffffffffffffffffffffffffffffffffffffffffffffffffffffffffffffffffffffffffffffffffffffffffffffffffffffffffffffffffffffffffffffffffffffffffffffffffffffffffffffffffffffffffffffffffffffffffffffffffffffffffffffffffffffffffffffffffffffffffffffffffffffffffffffffff W) (h : Does W o s) :
    Does W o (twoWireWrite x0 x1 x2 s) := by
  have up := hW.up
  have ub := hW.ub
  have full := hW.full (by decide)
  unfold twoWireWrite
  repeat' first
    | with_reducible assumption
    | exact up _ (by decide)
    | exact ub _ (by decide)
    | exact fun _ => ub _ (by decide)
    | exact full _
    | intro _
    | with_reducible (apply State.twMatch_does)
    | with_reducible (apply State.emit_does)
    | with_reducible (apply State.twPec_does)
    | with_reducible (apply State.twWords_does)
    | with_reducible (apply Does.ite)
    | (fail_if_no_progress extract_lets)
    | (fail_if_no_progress (with_reducible refine Does.mk' ?_ (by with_reducible rfl)))

theorem State.twReadWords_does {W : Nat} {o : State} {s : State} (x1 : Nat) (x2 : Nat) (hW : Within 0x60400280000000000000000000000000000000000000000000000000001800003031800000000000000000000000000000000007880010000001000000000000000000000000000000000000000000000000000000000000000000000000000000000000000000000000000000000000000000000000000000000000000000000 W) (h : Does W o s) :
    Does W o (State.twReadWords s x1 x2).2 := by
  have up := hW.up
  have ub := hW.ub
  induction x2 generalizing s x1 with
  | zero => exact h
  | succ n ih =>
    simp only [State.twReadWords]
    refine ih _ ?_
    split
    · cases e : s.readDword twMaster x1 with
      | none => exact h
      | some r => exact State.readDword_does _ _ (up _ (by decide)) h e
    · exact State.twMiss_does (up _ (by decide)) h

theorem twoWireRead_does {W : Nat} {o : State} (x0 : Nat) (x1 : Nat) {s : State} (hW : Within 0x60c00280000000000000000000000000000000000000000000000000001800003031800000010000000000000000000000000007880010000001000000000000000000000000000000000000000000000000000000000000000000000000000000000000000000000000000000000000000000000000000000000000000000000 W) (h : Does W o s) :
    Does W o (twoWireRead x0 x1 s) := by
  have up := hW.up
  have ub := hW.ub
  unfold twoWireRead
  repeat' first
    | with_reducible assumption
    | exact up _ (by decide)
    | exact ub _ (by decide)
    | exact fun _ => ub _ (by decide)
    | intro _
    | with_reducible (apply State.twMatch_does)
    | with_reducible (apply State.emit_does)
    | with_reducible (apply State.twReadWords_does)
    | with_reducible (apply Does.ite)
    | (fail_if_no_progress extract_lets)
    | (fail_if_no_progress (with_reducible refine Does.mk' ?_ (by with_reducible rfl)))

end Sys2Proof.Machine
end

