-- ==== Sys2Proof/Laws/DDma.lean ====
section
/-! SUPPORT. What the operations of Dma can change. -/

set_option linter.unreachableTactic false
set_option linter.unusedTactic false
set_option linter.unusedVariables false
set_option Elab.async false

namespace Sys2Proof.Machine

theorem descriptorFetch_does {W : Nat} {o : State} (x0 : Nat) (x1 : Option (List Nat)) {s : State} (hW : Within 0x2400020000000000000000000000000000000000000000000000000000180000303000000000000000000000000000000006ff88000010000001000000000000000000000000000000000000000000000000000000000000000000000000000000000000000000000000000000000000000000000000000000000000000000000 W) (h : Does W o s) :
    Does W o (descriptorFetch x0 x1 s) := by
  have up := hW.up
  have ub := hW.ub
  unfold descriptorFetch
  repeat' first
    | with_reducible assumption
    | exact up _ (by decide)
    | exact ub _ (by decide)
    | exact fun _ => ub _ (by decide)
    | intro _
    | with_reducible (apply State.dmaWillHalt_does)
    | with_reducible (apply State.inc_does)
    | with_reducible (apply State.setDch_does)
    | with_reducible (apply Does.ite)
    | (fail_if_no_progress extract_lets)
    | (fail_if_no_progress (with_reducible refine Does.mk' ?_ (by with_reducible rfl)))
    | split
    | dsimp only

theorem State.dmaIssue_does {W : Nat} {o : State} {s : State} (x1 : Nat) (x2 : Nat) (hW : Within 0x3400020000000000000000000000000000000000000000000000000000180000303000000000000000000000000000000000c100000010000001000000000000000000000000000000000000000000000000000000000000000000000000000000000000000000000000000000000000000000000000000000000000000000000 W) (h : Does W o s) :
    Does W o (State.dmaIssue s x1 x2) := by
  have up := hW.up
  have ub := hW.ub
  unfold State.dmaIssue
  repeat' first
    | with_reducible assumption
    | exact up _ (by decide)
    | exact ub _ (by decide)
    | exact fun _ => ub _ (by decide)
    | intro _
    | with_reducible (apply State.won_does)
    | with_reducible (apply State.perf_does)
    | with_reducible (apply State.setDch_does)
    | with_reducible (apply Does.ite)
    | (fail_if_no_progress extract_lets)
    | (fail_if_no_progress (with_reducible refine Does.mk' ?_ (by with_reducible rfl)))
    | split
    | dsimp only

theorem copy_does {W : Nat} {o : State} (x0 : Nat) {s : State} (hW : Within 0x3400020000000000000000000000000000000000000000000000000000180000303000000000000000000000000000000000c100000010000001000000000000000000000000000000000000000000000000000000000000000000000000000000000000000000000000000000000000000000000000000000000000000000000 W) (h : Does W o s) :
    Does W o (copy x0 s) := by
  have up := hW.up
  have ub := hW.ub
  unfold copy
  repeat' first
    | with_reducible assumption
    | exact up _ (by decide)
    | exact ub _ (by decide)
    | exact fun _ => ub _ (by decide)
    | intro _
    | with_reducible (apply State.dmaIssue_does)
    | with_reducible (apply Does.ite)
    | (fail_if_no_progress extract_lets)
    | (fail_if_no_progress (with_reducible refine Does.mk' ?_ (by with_reducible rfl)))

theorem fill_does {W : Nat} {o : State} (x0 : Nat) {s : State} (hW : Within 0x3400020000000000000000000000000000000000000000000000000000180000303000000000000000000000000000000000c100000010000001000000000000000000000000000000000000000000000000000000000000000000000000000000000000000000000000000000000000000000000000000000000000000000000 W) (h : Does W o s) :
    Does W o (fill x0 s) := by
  have up := hW.up
  have ub := hW.ub
  unfold fill
  repeat' first
    | with_reducible assumption
    | exact up _ (by decide)
    | exact ub _ (by decide)
    | exact fun _ => ub _ (by decide)
    | intro _
    | with_reducible (apply State.dmaIssue_does)
    | with_reducible (apply Does.ite)
    | (fail_if_no_progress extract_lets)
    | (fail_if_no_progress (with_reducible refine Does.mk' ?_ (by with_reducible rfl)))

theorem compare_does {W : Nat} {o : State} (x0 : Nat) {s : State} (hW : Within 0x3400020000000000000000000000000000000000000000000000000000180000303000000000000000000000000000000000c100000010000001000000000000000000000000000000000000000000000000000000000000000000000000000000000000000000000000000000000000000000000000000000000000000000000 W) (h : Does W o s) :
    Does W o (compare x0 s) := by
  have up := hW.up
  have ub := hW.ub
  unfold compare
  repeat' first
    | with_reducible assumption
    | exact up _ (by decide)
    | exact ub _ (by decide)
    | exact fun _ => ub _ (by decide)
    | intro _
    | with_reducible (apply State.dmaIssue_does)
    | with_reducible (apply Does.ite)
    | (fail_if_no_progress extract_lets)
    | (fail_if_no_progress (with_reducible refine Does.mk' ?_ (by with_reducible rfl)))

theorem nopDescriptor_does {W : Nat} {o : State} (x0 : Nat) {s : State} (hW : Within 0x2400020000000000000000000000000000000000000000000000000000180000303000000000000000000000000000000005ff88000010000001000000000000000000000000000000000000000000000000000000000000000000000000000000000000000000000000000000000000000000000000000000000000000000000 W) (h : Does W o s) :
    Does W o (nopDescriptor x0 s) := by
  have up := hW.up
  have ub := hW.ub
  unfold nopDescriptor
  repeat' first
    | with_reducible assumption
    | exact up _ (by decide)
    | exact ub _ (by decide)
    | exact fun _ => ub _ (by decide)
    | intro _
    | with_reducible (apply State.dmaNext_does)
    | with_reducible (apply State.setDch_does)
    | with_reducible (apply Does.ite)
    | (fail_if_no_progress extract_lets)
    | (fail_if_no_progress (with_reducible refine Does.mk' ?_ (by with_reducible rfl)))
    | split
    | dsimp only

theorem State.beatRead_does {W : Nat} {o : State} {s : State} (x1 : Nat) (x2 : Nat) (x3 : Nat) {r : _} (hW : Within 0x60400280000000000000000000000000000000000000000000000000001800003031800000000000000000000000000000000007800010000001000000000000000000000000000000000000000000000000000000000000000000000000000000000000000000000000000000000000000000000000000000000000000000000 W) (h : Does W o s) (e : State.beatRead s x1 x2 x3 = some r) :
    Does W o r.2 := by
  have up := hW.up
  have ub := hW.ub
  simp only [State.beatRead, Option.map_eq_some_iff] at e
  obtain ⟨l, e1, e⟩ := e
  subst e
  exact State.readWords_does (r := l) _ _ _ (up _ (by decide)) h e1

theorem State.beatSide_does {W : Nat} {o : State} {s : State} (x1 : Nat) (x2 : Bool) (x3 : Nat) (x4 : List Nat) {r : _} (hW : Within 0x60400280000000000000000000000000000000000000000000000000001800003031800000000000000000000000000000000007800010000001000000000000000000000000000000000000000000000000000000000000000000000000000000000000000000000000000000000000000000000000000000000000000000000 W) (h : Does W o s) (e : State.beatSide s x1 x2 x3 x4 = some r) :
    Does W o r.2 := by
  have up := hW.up
  have ub := hW.ub
  unfold State.beatSide at e
  repeat' first
    | (cases e; done)
    | (have e' := Option.some.inj e; clear e; subst e')
    | (fail_if_no_progress extract_lets at e)
    | split at e
  repeat' first
    | with_reducible assumption
    | exact up _ (by decide)
    | exact ub _ (by decide)
    | exact fun _ => ub _ (by decide)
    | intro _
    | with_reducible (refine Does.snd rfl (State.beatRead_does _ _ _ ?_ ?_ (by assumption)))
    | with_reducible (apply Does.ite)
    | (fail_if_no_progress extract_lets)
    | (fail_if_no_progress (with_reducible refine Does.mk' ?_ (by with_reducible rfl)))

theorem State.beatWrite_does {W : Nat} {o : State} {s : State} (x1 : Nat) (x2 : Env) (x3 : Bool) (x4 : Nat) (x5 : List Nat) {r : State} (hW : Within 0x7ffffffffffffffffffffffffffffffffffffffffffffffffffffffffffffffffffffffffffffffffffffffffffffffffffffffffffffffffffffffffffffffffffffffffffffffffffffffffffffffffffffffffffffffffffffffffffffffffffffffffffffffffffffffffffffffffffffffffffffffffffffffffffffffff W) (h : Does W o s) (e : State.beatWrite s x1 x2 x3 x4 x5 = some r) :
    Does W o r := by
  have up := hW.up
  have ub := hW.ub
  have full := hW.full (by decide)
  unfold State.beatWrite at e
  repeat' first
    | (cases e; done)
    | (have e' := Option.some.inj e; clear e; subst e')
    | (fail_if_no_progress extract_lets at e)
    | split at e
  repeat' first
    | with_reducible assumption
    | exact up _ (by decide)
    | exact ub _ (by decide)
    | exact fun _ => ub _ (by decide)
    | exact full _
    | intro _
    | with_reducible (apply State.emit_does)
    | with_reducible (apply State.writeWords_does)
    | with_reducible (apply Does.ite)
    | (fail_if_no_progress extract_lets)
    | (fail_if_no_progress (with_reducible refine Does.mk' ?_ (by with_reducible rfl)))

theorem State.beatRun_does {W : Nat} {o : State} {s : State} (x1 : Nat) (x2 : Env) (x3 : DmaDesc) (x4 : Nat) (x5 : Bool) (x6 : List Nat) (x7 : List Nat) {r : _} (hW : Within 0x7ffffffffffffffffffffffffffffffffffffffffffffffffffffffffffffffffffffffffffffffffffffffffffffffffffffffffffffffffffffffffffffffffffffffffffffffffffffffffffffffffffffffffffffffffffffffffffffffffffffffffffffffffffffffffffffffffffffffffffffffffffffffffffffffff W) (h : Does W o s) (e : State.beatRun s x1 x2 x3 x4 x5 x6 x7 = some r) :
    Does W o r.1 := by
  have up := hW.up
  have ub := hW.ub
  have full := hW.full (by decide)
  unfold State.beatRun at e
  dsimp only at e
  split at e
  · split at e
    · cases e
    · simp only [Option.bind_eq_some_iff, Option.map_eq_some_iff] at e
      obtain ⟨r1, e1, t, e2, e3⟩ := e
      subst e3
      exact State.beatWrite_does _ _ _ _ _ (up _ (by decide)) (State.beatSide_does _ _ _ _ (up _ (by decide)) h e1) e2
  · simp only [Option.map_eq_some_iff] at e
    obtain ⟨t, e2, e3⟩ := e
    subst e3
    exact State.beatWrite_does _ _ _ _ _ (up _ (by decide)) h e2
  · split at e
    · cases e
    · simp only [Option.bind_eq_some_iff, Option.map_eq_some_iff] at e
      obtain ⟨r1, e1, q, e2, e3⟩ := e
      subst e3
      exact State.beatSide_does _ _ _ _ (up _ (by decide)) (State.beatSide_does _ _ _ _ (up _ (by decide)) h e1) e2

theorem State.beatReadBy_does {W : Nat} {o : State} {s : State} (x1 : Nat) (x2 : Nat) (hW : Within 0x60400280000000000000000000000000000000000000000000000000001800003031800000000000000000000000000000000007800010000001000000000000000000000000000000000000000000000000000000000000000000000000000000000000000000000000000000000000000000000000000000000000000000000 W) (h : Does W o s) :
    Does W o (State.beatReadBy s x1 x2) := by
  have up := hW.up
  have ub := hW.ub
  unfold State.beatReadBy
  repeat' first
    | with_reducible assumption
    | exact up _ (by decide)
    | exact ub _ (by decide)
    | exact fun _ => ub _ (by decide)
    | intro _
    | with_reducible (refine Does.snd rfl (State.beatRead_does _ _ _ ?_ ?_ (by assumption)))
    | with_reducible (apply Does.ite)
    | (fail_if_no_progress extract_lets)
    | (fail_if_no_progress (with_reducible refine Does.mk' ?_ (by with_reducible rfl)))
    | split
    | dsimp only

theorem State.beatTried_does {W : Nat} {o : State} {s : State} (x1 : Nat) (x2 : DmaDesc) (x3 : Nat) (hW : Within 0x60400280000000000000000000000000000000000000000000000000001800003031800000000000000000000000000000000007800010000001000000000000000000000000000000000000000000000000000000000000000000000000000000000000000000000000000000000000000000000000000000000000000000000 W) (h : Does W o s) :
    Does W o (State.beatTried s x1 x2 x3) := by
  have up := hW.up
  have ub := hW.ub
  unfold State.beatTried
  repeat' first
    | with_reducible assumption
    | exact up _ (by decide)
    | exact ub _ (by decide)
    | exact fun _ => ub _ (by decide)
    | intro _
    | with_reducible (apply State.beatReadBy_does)
    | with_reducible (apply Does.ite)
    | (fail_if_no_progress extract_lets)
    | (fail_if_no_progress (with_reducible refine Does.mk' ?_ (by with_reducible rfl)))

theorem dmaBeatAnswer_does {W : Nat} {o : State} (x0 : Nat) (x1 : Nat) (x2 : Nat) (x3 : Bool) (x4 : List Nat) (x5 : List Nat) (x6 : Env) {s : State} (hW : Within 0x7ffffffffffffffffffffffffffffffffffffffffffffffffffffffffffffffffffffffffffffffffffffffffffffffffffffffffffffffffffffffffffffffffffffffffffffffffffffffffffffffffffffffffffffffffffffffffffffffffffffffffffffffffffffffffffffffffffffffffffffffffffffffffffffffff W) (h : Does W o s) :
    Does W o (dmaBeatAnswer x0 x1 x2 x3 x4 x5 x6 s) := by
  have up := hW.up
  have ub := hW.ub
  have full := hW.full (by decide)
  unfold dmaBeatAnswer
  repeat' first
    | with_reducible assumption
    | exact up _ (by decide)
    | exact ub _ (by decide)
    | exact fun _ => ub _ (by decide)
    | exact full _
    | intro _
    | with_reducible (apply State.setDch_does)
    | with_reducible (refine Does.fst rfl (State.beatRun_does _ _ _ _ _ _ _ ?_ ?_ (by assumption)))
    | with_reducible (apply State.dmaNext_does)
    | with_reducible (apply State.beatTried_does)
    | with_reducible (apply State.inc_does)
    | with_reducible (apply State.dmaWillHalt_does)
    | with_reducible (apply Does.ite)
    | (fail_if_no_progress extract_lets)
    | (fail_if_no_progress (with_reducible refine Does.mk' ?_ (by with_reducible rfl)))
    | split
    | dsimp only

theorem State.injSend_does {W : Nat} {o : State} {s : State} (x1 : Nat) (x2 : Nat) (x3 : List Nat) (hW : Within 0x600802000000000000000000000000000000000001e00000000000000018000030300000000000000000000000000000000000000000100000010000000000000000000000000000000000000000000000000000000000000000f0000003c00000000000000000080000000000000000000000000000000000000000000000000 W) (h : Does W o s) :
    Does W o (State.injSend s x1 x2 x3) := by
  have up := hW.up
  have ub := hW.ub
  unfold State.injSend
  repeat' first
    | with_reducible assumption
    | exact up _ (by decide)
    | exact ub _ (by decide)
    | exact fun _ => ub _ (by decide)
    | intro _
    | with_reducible (apply State.fresh_does)
    | with_reducible (apply State.toParser_does)
    | with_reducible (apply State.tagTo_does)
    | with_reducible (apply State.enqEq_does)
    | with_reducible (apply Does.ite)
    | (fail_if_no_progress extract_lets)
    | (fail_if_no_progress (with_reducible refine Does.mk' ?_ (by with_reducible rfl)))
    | split
    | dsimp only

theorem State.injAnswer_does {W : Nat} {o : State} {s : State} (x1 : Nat) (x2 : Nat) (x3 : Bool) (hW : Within 0x20000200000000000000000000000000000000000000000000000000001800003030000000000000000000000000003880000000000010000001000000000000000000000000000000000000000000000000000000000000000000000000000000000000000000000000000000000000000000000000000000000000000000000 W) (h : Does W o s) :
    Does W o (State.injAnswer s x1 x2 x3) := by
  have up := hW.up
  have ub := hW.ub
  unfold State.injAnswer
  repeat' first
    | with_reducible assumption
    | exact up _ (by decide)
    | exact ub _ (by decide)
    | exact fun _ => ub _ (by decide)
    | intro _
    | with_reducible (apply State.emit_does)
    | with_reducible (apply State.wr_does)
    | with_reducible (apply State.inc_does)
    | with_reducible (apply State.raiseRing_does)
    | with_reducible (apply Does.ite)
    | (fail_if_no_progress extract_lets)
    | (fail_if_no_progress (with_reducible refine Does.mk' ?_ (by with_reducible rfl)))

theorem injectionTake_does {W : Nat} {o : State} (x0 : Nat) (x1 : List Nat) (x2 : Option (List Nat)) {s : State} (hW : Within 0x700802000000000000000000000000000000000001e00000000000000018000030300000000000000000000000000038800000000000100000010000000000000000000000000000000000000000000000000000000000000000f0000003c00000000000000000080000000000000000000000000000000000000000000000000 W) (h : Does W o s) :
    Does W o (injectionTake x0 x1 x2 s) := by
  have up := hW.up
  have ub := hW.ub
  unfold injectionTake
  repeat' first
    | with_reducible assumption
    | exact up _ (by decide)
    | exact ub _ (by decide)
    | exact fun _ => ub _ (by decide)
    | intro _
    | with_reducible (apply State.won_does)
    | with_reducible (apply State.injAnswer_does)
    | with_reducible (apply State.injSend_does)
    | with_reducible (apply Does.ite)
    | (fail_if_no_progress extract_lets)
    | (fail_if_no_progress (with_reducible refine Does.mk' ?_ (by with_reducible rfl)))
    | split
    | dsimp only

end Sys2Proof.Machine
end

