-- ==== Sys2Proof/Laws/DFraming.lean ====
section
/-! SUPPORT. What the operations of Framing can change. -/

set_option linter.unreachableTactic false
set_option linter.unusedTactic false
set_option linter.unusedVariables false
set_option Elab.async false

namespace Sys2Proof.Machine

theorem State.tagFilter_does {W : Nat} {o : State} {s : State} (x1 : List Nat) (x2 : Nat) (hW : Within 0x202802000000000000000000000000000000000000000000000000000018000030300000000000000c0000000000000000000000000010000001000000000000000000000000000000000000000000000000000000000000000000000000000000000000000000300000000000000000000000000000000000000000000000000 W) (h : Does W o s) :
    Does W o (State.tagFilter s x1 x2) := by
  have up := hW.up
  have ub := hW.ub
  unfold State.tagFilter
  repeat' first
    | with_reducible assumption
    | exact up _ (by decide)
    | exact ub _ (by decide)
    | exact fun _ => ub _ (by decide)
    | intro _
    | with_reducible (apply State.inc_does)
    | with_reducible (apply State.toParser_does)
    | with_reducible (apply State.forwardUnit_does)
    | with_reducible (apply Does.ite)
    | (fail_if_no_progress extract_lets)
    | (fail_if_no_progress (with_reducible refine Does.mk' ?_ (by with_reducible rfl)))

theorem State.delinLoss_does {W : Nat} {o : State} {s : State} (x1 : Nat) (hW : Within 0x80000000000000000000000000 W) (h : Does W o s) :
    Does W o (State.delinLoss s x1) := by
  have up := hW.up
  have ub := hW.ub
  unfold State.delinLoss
  repeat' first
    | with_reducible assumption
    | exact up _ (by decide)
    | exact ub _ (by decide)
    | exact fun _ => ub _ (by decide)
    | intro _
    | with_reducible (apply State.inc_does)
    | with_reducible (apply Does.ite)
    | (fail_if_no_progress extract_lets)
    | (fail_if_no_progress (with_reducible refine Does.mk' ?_ (by with_reducible rfl)))
    | split
    | dsimp only

theorem State.meetDataPtr_does {W : Nat} {o : State} {s : State} (x1 : Nat) (hW : Within 0x1000000000000000000000000000000000000000000000000000000000000000000000000000000000000000000000000000000000000000000000000000000000000000000000000000000000000000000000000000000000000000000000000000000000000000000000000000000000080000000000000000000000000 W) (h : Does W o s) :
    Does W o (State.meetDataPtr s x1) := by
  have up := hW.up
  have ub := hW.ub
  unfold State.meetDataPtr
  repeat' first
    | with_reducible assumption
    | exact up _ (by decide)
    | exact ub _ (by decide)
    | exact fun _ => ub _ (by decide)
    | intro _
    | with_reducible (apply State.mapChain_does)
    | with_reducible (apply State.delinLoss_does)
    | with_reducible (apply Does.ite)
    | (fail_if_no_progress extract_lets)
    | (fail_if_no_progress (with_reducible refine Does.mk' ?_ (by with_reducible rfl)))
    | split
    | dsimp only

theorem State.placeOn_does {W : Nat} {o : State} {s : State} (x1 : Nat) (x2 : Nat) (hW : Within 0x1000000000000000000000000000000000000000000000000000000000000000000000000000000000000000000000000000000000000000000000000000000000000000000000000000000000000000000000000000000000000000000000000000000000000000000000000000000000000000000000000000000000000 W) (h : Does W o s) :
    Does W o (State.placeOn s x1 x2) := by
  have up := hW.up
  have ub := hW.ub
  unfold State.placeOn
  repeat' first
    | with_reducible assumption
    | exact up _ (by decide)
    | exact ub _ (by decide)
    | exact fun _ => ub _ (by decide)
    | intro _
    | with_reducible (apply State.mapChain_does)
    | with_reducible (apply Does.ite)
    | (fail_if_no_progress extract_lets)
    | (fail_if_no_progress (with_reducible refine Does.mk' ?_ (by with_reducible rfl)))

theorem delineateUnit_does {W : Nat} {o : State} (x0 : Nat) {s : State} (hW : Within 0x202812000000000000000000000000000000000000000000000000000018000030300000000000000c00000000000000000000000000100000010000000000000000000000000000000000000000000000000000000000000000000000000000000000000000003000000000000000000000000c0000000000000000000000000 W) (h : Does W o s) :
    Does W o (delineateUnit x0 s) := by
  have up := hW.up
  have ub := hW.ub
  unfold delineateUnit
  repeat' first
    | with_reducible assumption
    | exact up _ (by decide)
    | exact ub _ (by decide)
    | exact fun _ => ub _ (by decide)
    | intro _
    | with_reducible (apply State.meetDataPtr_does)
    | with_reducible (apply State.placeOn_does)
    | with_reducible (apply State.delinLoss_does)
    | with_reducible (apply State.losePlace_does)
    | with_reducible (apply State.perf_does)
    | with_reducible (apply State.inc_does)
    | with_reducible (apply State.tagFilter_does)
    | with_reducible (apply Does.ite)
    | with_reducible (apply Does.foldl)
    | (fail_if_no_progress extract_lets)
    | (fail_if_no_progress (with_reducible refine Does.mk' ?_ (by with_reducible rfl)))
    | split
    | dsimp +zetaDelta only

end Sys2Proof.Machine
end

