-- ==== Sys2Proof/Laws/DIsa.lean ====
section
/-! SUPPORT. What the operations of Isa can change. -/

set_option linter.unreachableTactic false
set_option linter.unusedTactic false
set_option linter.unusedVariables false
set_option Elab.async false

namespace Sys2Proof.Machine

theorem inUnits_does {W : Nat} {o : State} (x0 : Nat → VUnit → VUnit) (x1 : Issue) {s : State} (hW : Within 0x400000000000000000000000000000000000000000000000000000000000000000000000000000000000000000000000000000000000000000000000000000000000000000000000000000000000000000000000000000000000000000000000000000000000000000000000000000000000000000000000000000000000000 W) (h : Does W o s) :
    Does W o (inUnits x0 x1 s) := by
  have up := hW.up
  have ub := hW.ub
  unfold inUnits
  repeat' first
    | with_reducible assumption
    | exact up _ (by decide)
    | exact ub _ (by decide)
    | exact fun _ => ub _ (by decide)
    | intro _
    | with_reducible (apply forEach_does)
    | with_reducible (apply State.mapVu_does)
    | with_reducible (apply Does.ite)
    | (fail_if_no_progress extract_lets)
    | (fail_if_no_progress (with_reducible refine Does.mk' ?_ (by with_reducible rfl)))

theorem dual_does {W : Nat} {o : State} (x0 : Int → Int → Int) (x1 : Issue) {s : State} (hW : Within 0x20400200000000000000000000000000000000000000000000000000001800003030000000000000000000000000000000000000000010000001000000000000000000000000000000000000000000000000000000000000000000000000000000000000000000000000000000000000000000000000000000000000000000000 W) (h : Does W o s) :
    Does W o (dual x0 x1 s) := by
  have up := hW.up
  have ub := hW.ub
  unfold dual
  repeat' first
    | with_reducible assumption
    | exact up _ (by decide)
    | exact ub _ (by decide)
    | exact fun _ => ub _ (by decide)
    | intro _
    | with_reducible (apply State.perf_does)
    | with_reducible (apply State.mapVcl_does)
    | with_reducible (apply State.vatCycles_does)
    | with_reducible (apply forEach_does)
    | with_reducible (apply State.mapVu_does)
    | with_reducible (apply Does.ite)
    | (fail_if_no_progress extract_lets)
    | (fail_if_no_progress (with_reducible refine Does.mk' ?_ (by with_reducible rfl)))

theorem vDualMove_does {W : Nat} {o : State} (x0 : Nat) {s : State} (hW : Within 0x29d1a2000000000000000000000000000000000008000000000000fff07ff80370300fca0000000000000000000000000000000000001000000190200100000000040000000000000000000000000000000000000000000006040000000000000000000000000000000000068000000002000000000007f804000060000000000 W) (h : Does W o s) :
    Does W o (vDualMove x0 s) := by
  have up := hW.up
  have ub := hW.ub
  unfold vDualMove
  repeat' first
    | with_reducible assumption
    | exact up _ (by decide)
    | exact ub _ (by decide)
    | exact fun _ => ub _ (by decide)
    | intro _
    | with_reducible (apply State.issue_does)
    | with_reducible (apply inUnits_does)
    | with_reducible (apply Does.ite)
    | (fail_if_no_progress extract_lets)
    | (fail_if_no_progress (with_reducible refine Does.mk' ?_ (by with_reducible rfl)))

theorem vMpy_does {W : Nat} {o : State} (x0 : Nat) {s : State} (hW : Within 0x29d1a2000000000000000000000000000000000008000000000000fff07ff80370300fca0000000000000000000000000000000000001000000190200100000000040000000000000000000000000000000000000000000006040000000000000000000000000000000000068000000002000000000007f804000060000000000 W) (h : Does W o s) :
    Does W o (vMpy x0 s) := by
  have up := hW.up
  have ub := hW.ub
  unfold vMpy
  repeat' first
    | with_reducible assumption
    | exact up _ (by decide)
    | exact ub _ (by decide)
    | exact fun _ => ub _ (by decide)
    | intro _
    | with_reducible (apply State.issue_does)
    | with_reducible (apply dual_does)
    | with_reducible (apply Does.ite)
    | (fail_if_no_progress extract_lets)
    | (fail_if_no_progress (with_reducible refine Does.mk' ?_ (by with_reducible rfl)))

theorem vMac_does {W : Nat} {o : State} (x0 : Nat) {s : State} (hW : Within 0x29d1a2000000000000000000000000000000000008000000000000fff07ff80370300fca0000000000000000000000000000000000001000000190200100000000040000000000000000000000000000000000000000000006040000000000000000000000000000000000068000000002000000000007f804000060000000000 W) (h : Does W o s) :
    Does W o (vMac x0 s) := by
  have up := hW.up
  have ub := hW.ub
  unfold vMac
  repeat' first
    | with_reducible assumption
    | exact up _ (by decide)
    | exact ub _ (by decide)
    | exact fun _ => ub _ (by decide)
    | intro _
    | with_reducible (apply State.issue_does)
    | with_reducible (apply dual_does)
    | with_reducible (apply Does.ite)
    | (fail_if_no_progress extract_lets)
    | (fail_if_no_progress (with_reducible refine Does.mk' ?_ (by with_reducible rfl)))

theorem vMsu_does {W : Nat} {o : State} (x0 : Nat) {s : State} (hW : Within 0x29d1a2000000000000000000000000000000000008000000000000fff07ff80370300fca0000000000000000000000000000000000001000000190200100000000040000000000000000000000000000000000000000000006040000000000000000000000000000000000068000000002000000000007f804000060000000000 W) (h : Does W o s) :
    Does W o (vMsu x0 s) := by
  have up := hW.up
  have ub := hW.ub
  unfold vMsu
  repeat' first
    | with_reducible assumption
    | exact up _ (by decide)
    | exact ub _ (by decide)
    | exact fun _ => ub _ (by decide)
    | intro _
    | with_reducible (apply State.issue_does)
    | with_reducible (apply dual_does)
    | with_reducible (apply Does.ite)
    | (fail_if_no_progress extract_lets)
    | (fail_if_no_progress (with_reducible refine Does.mk' ?_ (by with_reducible rfl)))

theorem vMov_does {W : Nat} {o : State} (x0 : Nat) {s : State} (hW : Within 0x29d1a2000000000000000000000000000000000008000000000000fff07ff80370300fca0000000000000000000000000000000000001000000190200100000000040000000000000000000000000000000000000000000006040000000000000000000000000000000000068000000002000000000007f804000060000000000 W) (h : Does W o s) :
    Does W o (vMov x0 s) := by
  have up := hW.up
  have ub := hW.ub
  unfold vMov
  repeat' first
    | with_reducible assumption
    | exact up _ (by decide)
    | exact ub _ (by decide)
    | exact fun _ => ub _ (by decide)
    | intro _
    | with_reducible (apply State.issue_does)
    | with_reducible (apply inUnits_does)
    | with_reducible (apply Does.ite)
    | (fail_if_no_progress extract_lets)
    | (fail_if_no_progress (with_reducible refine Does.mk' ?_ (by with_reducible rfl)))

theorem vAdd_does {W : Nat} {o : State} (x0 : Nat) {s : State} (hW : Within 0x29d1a2000000000000000000000000000000000008000000000000fff07ff80370300fca0000000000000000000000000000000000001000000190200100000000040000000000000000000000000000000000000000000006040000000000000000000000000000000000068000000002000000000007f804000060000000000 W) (h : Does W o s) :
    Does W o (vAdd x0 s) := by
  have up := hW.up
  have ub := hW.ub
  unfold vAdd
  repeat' first
    | with_reducible assumption
    | exact up _ (by decide)
    | exact ub _ (by decide)
    | exact fun _ => ub _ (by decide)
    | intro _
    | with_reducible (apply State.issue_does)
    | with_reducible (apply inUnits_does)
    | with_reducible (apply Does.ite)
    | (fail_if_no_progress extract_lets)
    | (fail_if_no_progress (with_reducible refine Does.mk' ?_ (by with_reducible rfl)))

theorem vAdds_does {W : Nat} {o : State} (x0 : Nat) {s : State} (hW : Within 0x29d1a2000000000000000000000000000000000008000000000000fff07ff80370300fca0000000000000000000000000000000000001000000190200100000000040000000000000000000000000000000000000000000006040000000000000000000000000000000000068000000002000000000007f804000060000000000 W) (h : Does W o s) :
    Does W o (vAdds x0 s) := by
  have up := hW.up
  have ub := hW.ub
  unfold vAdds
  repeat' first
    | with_reducible assumption
    | exact up _ (by decide)
    | exact ub _ (by decide)
    | exact fun _ => ub _ (by decide)
    | intro _
    | with_reducible (apply State.issue_does)
    | with_reducible (apply inUnits_does)
    | with_reducible (apply Does.ite)
    | (fail_if_no_progress extract_lets)
    | (fail_if_no_progress (with_reducible refine Does.mk' ?_ (by with_reducible rfl)))

theorem vSub_does {W : Nat} {o : State} (x0 : Nat) {s : State} (hW : Within 0x29d1a2000000000000000000000000000000000008000000000000fff07ff80370300fca0000000000000000000000000000000000001000000190200100000000040000000000000000000000000000000000000000000006040000000000000000000000000000000000068000000002000000000007f804000060000000000 W) (h : Does W o s) :
    Does W o (vSub x0 s) := by
  have up := hW.up
  have ub := hW.ub
  unfold vSub
  repeat' first
    | with_reducible assumption
    | exact up _ (by decide)
    | exact ub _ (by decide)
    | exact fun _ => ub _ (by decide)
    | intro _
    | with_reducible (apply State.issue_does)
    | with_reducible (apply inUnits_does)
    | with_reducible (apply Does.ite)
    | (fail_if_no_progress extract_lets)
    | (fail_if_no_progress (with_reducible refine Does.mk' ?_ (by with_reducible rfl)))

theorem vSubs_does {W : Nat} {o : State} (x0 : Nat) {s : State} (hW : Within 0x29d1a2000000000000000000000000000000000008000000000000fff07ff80370300fca0000000000000000000000000000000000001000000190200100000000040000000000000000000000000000000000000000000006040000000000000000000000000000000000068000000002000000000007f804000060000000000 W) (h : Does W o s) :
    Does W o (vSubs x0 s) := by
  have up := hW.up
  have ub := hW.ub
  unfold vSubs
  repeat' first
    | with_reducible assumption
    | exact up _ (by decide)
    | exact ub _ (by decide)
    | exact fun _ => ub _ (by decide)
    | intro _
    | with_reducible (apply State.issue_does)
    | with_reducible (apply inUnits_does)
    | with_reducible (apply Does.ite)
    | (fail_if_no_progress extract_lets)
    | (fail_if_no_progress (with_reducible refine Does.mk' ?_ (by with_reducible rfl)))

theorem vAnd_does {W : Nat} {o : State} (x0 : Nat) {s : State} (hW : Within 0x29d1a2000000000000000000000000000000000008000000000000fff07ff80370300fca0000000000000000000000000000000000001000000190200100000000040000000000000000000000000000000000000000000006040000000000000000000000000000000000068000000002000000000007f804000060000000000 W) (h : Does W o s) :
    Does W o (vAnd x0 s) := by
  have up := hW.up
  have ub := hW.ub
  unfold vAnd
  repeat' first
    | with_reducible assumption
    | exact up _ (by decide)
    | exact ub _ (by decide)
    | exact fun _ => ub _ (by decide)
    | intro _
    | with_reducible (apply State.issue_does)
    | with_reducible (apply inUnits_does)
    | with_reducible (apply Does.ite)
    | (fail_if_no_progress extract_lets)
    | (fail_if_no_progress (with_reducible refine Does.mk' ?_ (by with_reducible rfl)))

theorem vOr_does {W : Nat} {o : State} (x0 : Nat) {s : State} (hW : Within 0x29d1a2000000000000000000000000000000000008000000000000fff07ff80370300fca0000000000000000000000000000000000001000000190200100000000040000000000000000000000000000000000000000000006040000000000000000000000000000000000068000000002000000000007f804000060000000000 W) (h : Does W o s) :
    Does W o (vOr x0 s) := by
  have up := hW.up
  have ub := hW.ub
  unfold vOr
  repeat' first
    | with_reducible assumption
    | exact up _ (by decide)
    | exact ub _ (by decide)
    | exact fun _ => ub _ (by decide)
    | intro _
    | with_reducible (apply State.issue_does)
    | with_reducible (apply inUnits_does)
    | with_reducible (apply Does.ite)
    | (fail_if_no_progress extract_lets)
    | (fail_if_no_progress (with_reducible refine Does.mk' ?_ (by with_reducible rfl)))

theorem vXor_does {W : Nat} {o : State} (x0 : Nat) {s : State} (hW : Within 0x29d1a2000000000000000000000000000000000008000000000000fff07ff80370300fca0000000000000000000000000000000000001000000190200100000000040000000000000000000000000000000000000000000006040000000000000000000000000000000000068000000002000000000007f804000060000000000 W) (h : Does W o s) :
    Does W o (vXor x0 s) := by
  have up := hW.up
  have ub := hW.ub
  unfold vXor
  repeat' first
    | with_reducible assumption
    | exact up _ (by decide)
    | exact ub _ (by decide)
    | exact fun _ => ub _ (by decide)
    | intro _
    | with_reducible (apply State.issue_does)
    | with_reducible (apply inUnits_does)
    | with_reducible (apply Does.ite)
    | (fail_if_no_progress extract_lets)
    | (fail_if_no_progress (with_reducible refine Does.mk' ?_ (by with_reducible rfl)))

theorem vShl_does {W : Nat} {o : State} (x0 : Nat) {s : State} (hW : Within 0x29d1a2000000000000000000000000000000000008000000000000fff07ff80370300fca0000000000000000000000000000000000001000000190200100000000040000000000000000000000000000000000000000000006040000000000000000000000000000000000068000000002000000000007f804000060000000000 W) (h : Does W o s) :
    Does W o (vShl x0 s) := by
  have up := hW.up
  have ub := hW.ub
  unfold vShl
  repeat' first
    | with_reducible assumption
    | exact up _ (by decide)
    | exact ub _ (by decide)
    | exact fun _ => ub _ (by decide)
    | intro _
    | with_reducible (apply State.issue_does)
    | with_reducible (apply inUnits_does)
    | with_reducible (apply Does.ite)
    | (fail_if_no_progress extract_lets)
    | (fail_if_no_progress (with_reducible refine Does.mk' ?_ (by with_reducible rfl)))

theorem vShr_does {W : Nat} {o : State} (x0 : Nat) {s : State} (hW : Within 0x29d1a2000000000000000000000000000000000008000000000000fff07ff80370300fca0000000000000000000000000000000000001000000190200100000000040000000000000000000000000000000000000000000006040000000000000000000000000000000000068000000002000000000007f804000060000000000 W) (h : Does W o s) :
    Does W o (vShr x0 s) := by
  have up := hW.up
  have ub := hW.ub
  unfold vShr
  repeat' first
    | with_reducible assumption
    | exact up _ (by decide)
    | exact ub _ (by decide)
    | exact fun _ => ub _ (by decide)
    | intro _
    | with_reducible (apply State.issue_does)
    | with_reducible (apply inUnits_does)
    | with_reducible (apply Does.ite)
    | (fail_if_no_progress extract_lets)
    | (fail_if_no_progress (with_reducible refine Does.mk' ?_ (by with_reducible rfl)))

theorem vShrl_does {W : Nat} {o : State} (x0 : Nat) {s : State} (hW : Within 0x29d1a2000000000000000000000000000000000008000000000000fff07ff80370300fca0000000000000000000000000000000000001000000190200100000000040000000000000000000000000000000000000000000006040000000000000000000000000000000000068000000002000000000007f804000060000000000 W) (h : Does W o s) :
    Does W o (vShrl x0 s) := by
  have up := hW.up
  have ub := hW.ub
  unfold vShrl
  repeat' first
    | with_reducible assumption
    | exact up _ (by decide)
    | exact ub _ (by decide)
    | exact fun _ => ub _ (by decide)
    | intro _
    | with_reducible (apply State.issue_does)
    | with_reducible (apply inUnits_does)
    | with_reducible (apply Does.ite)
    | (fail_if_no_progress extract_lets)
    | (fail_if_no_progress (with_reducible refine Does.mk' ?_ (by with_reducible rfl)))

theorem vMin_does {W : Nat} {o : State} (x0 : Nat) {s : State} (hW : Within 0x29d1a2000000000000000000000000000000000008000000000000fff07ff80370300fca0000000000000000000000000000000000001000000190200100000000040000000000000000000000000000000000000000000006040000000000000000000000000000000000068000000002000000000007f804000060000000000 W) (h : Does W o s) :
    Does W o (vMin x0 s) := by
  have up := hW.up
  have ub := hW.ub
  unfold vMin
  repeat' first
    | with_reducible assumption
    | exact up _ (by decide)
    | exact ub _ (by decide)
    | exact fun _ => ub _ (by decide)
    | intro _
    | with_reducible (apply State.issue_does)
    | with_reducible (apply inUnits_does)
    | with_reducible (apply Does.ite)
    | (fail_if_no_progress extract_lets)
    | (fail_if_no_progress (with_reducible refine Does.mk' ?_ (by with_reducible rfl)))

theorem vMax_does {W : Nat} {o : State} (x0 : Nat) {s : State} (hW : Within 0x29d1a2000000000000000000000000000000000008000000000000fff07ff80370300fca0000000000000000000000000000000000001000000190200100000000040000000000000000000000000000000000000000000006040000000000000000000000000000000000068000000002000000000007f804000060000000000 W) (h : Does W o s) :
    Does W o (vMax x0 s) := by
  have up := hW.up
  have ub := hW.ub
  unfold vMax
  repeat' first
    | with_reducible assumption
    | exact up _ (by decide)
    | exact ub _ (by decide)
    | exact fun _ => ub _ (by decide)
    | intro _
    | with_reducible (apply State.issue_does)
    | with_reducible (apply inUnits_does)
    | with_reducible (apply Does.ite)
    | (fail_if_no_progress extract_lets)
    | (fail_if_no_progress (with_reducible refine Does.mk' ?_ (by with_reducible rfl)))

theorem vAbs_does {W : Nat} {o : State} (x0 : Nat) {s : State} (hW : Within 0x29d1a2000000000000000000000000000000000008000000000000fff07ff80370300fca0000000000000000000000000000000000001000000190200100000000040000000000000000000000000000000000000000000006040000000000000000000000000000000000068000000002000000000007f804000060000000000 W) (h : Does W o s) :
    Does W o (vAbs x0 s) := by
  have up := hW.up
  have ub := hW.ub
  unfold vAbs
  repeat' first
    | with_reducible assumption
    | exact up _ (by decide)
    | exact ub _ (by decide)
    | exact fun _ => ub _ (by decide)
    | intro _
    | with_reducible (apply State.issue_does)
    | with_reducible (apply inUnits_does)
    | with_reducible (apply Does.ite)
    | (fail_if_no_progress extract_lets)
    | (fail_if_no_progress (with_reducible refine Does.mk' ?_ (by with_reducible rfl)))

theorem vNeg_does {W : Nat} {o : State} (x0 : Nat) {s : State} (hW : Within 0x29d1a2000000000000000000000000000000000008000000000000fff07ff80370300fca0000000000000000000000000000000000001000000190200100000000040000000000000000000000000000000000000000000006040000000000000000000000000000000000068000000002000000000007f804000060000000000 W) (h : Does W o s) :
    Does W o (vNeg x0 s) := by
  have up := hW.up
  have ub := hW.ub
  unfold vNeg
  repeat' first
    | with_reducible assumption
    | exact up _ (by decide)
    | exact ub _ (by decide)
    | exact fun _ => ub _ (by decide)
    | intro _
    | with_reducible (apply State.issue_does)
    | with_reducible (apply inUnits_does)
    | with_reducible (apply Does.ite)
    | (fail_if_no_progress extract_lets)
    | (fail_if_no_progress (with_reducible refine Does.mk' ?_ (by with_reducible rfl)))

theorem predOp_does {W : Nat} {o : State} (x0 : Nat → VUnit → Bool) (x1 : Issue) {s : State} (hW : Within 0x400000000000000000000000000000000000000000000000000000000000000000000000000000000000000000000000000000000000000000000000000000000000000000000000000000000000000000000000000000000000000000000000000000000000000000000000000000000000000000000000000000000000000 W) (h : Does W o s) :
    Does W o (predOp x0 x1 s) := by
  have up := hW.up
  have ub := hW.ub
  unfold predOp
  repeat' first
    | with_reducible assumption
    | exact up _ (by decide)
    | exact ub _ (by decide)
    | exact fun _ => ub _ (by decide)
    | intro _
    | with_reducible (apply State.mapVcl_does)
    | with_reducible (apply inUnits_does)
    | with_reducible (apply Does.ite)
    | (fail_if_no_progress extract_lets)
    | (fail_if_no_progress (with_reducible refine Does.mk' ?_ (by with_reducible rfl)))

theorem vCmpEq_does {W : Nat} {o : State} (x0 : Nat) {s : State} (hW : Within 0x29d1a2000000000000000000000000000000000008000000000000fff07ff80370300fca0000000000000000000000000000000000001000000190200100000000040000000000000000000000000000000000000000000006040000000000000000000000000000000000068000000002000000000007f804000060000000000 W) (h : Does W o s) :
    Does W o (vCmpEq x0 s) := by
  have up := hW.up
  have ub := hW.ub
  unfold vCmpEq
  repeat' first
    | with_reducible assumption
    | exact up _ (by decide)
    | exact ub _ (by decide)
    | exact fun _ => ub _ (by decide)
    | intro _
    | with_reducible (apply State.issue_does)
    | with_reducible (apply predOp_does)
    | with_reducible (apply Does.ite)
    | (fail_if_no_progress extract_lets)
    | (fail_if_no_progress (with_reducible refine Does.mk' ?_ (by with_reducible rfl)))

theorem vCmpNe_does {W : Nat} {o : State} (x0 : Nat) {s : State} (hW : Within 0x29d1a2000000000000000000000000000000000008000000000000fff07ff80370300fca0000000000000000000000000000000000001000000190200100000000040000000000000000000000000000000000000000000006040000000000000000000000000000000000068000000002000000000007f804000060000000000 W) (h : Does W o s) :
    Does W o (vCmpNe x0 s) := by
  have up := hW.up
  have ub := hW.ub
  unfold vCmpNe
  repeat' first
    | with_reducible assumption
    | exact up _ (by decide)
    | exact ub _ (by decide)
    | exact fun _ => ub _ (by decide)
    | intro _
    | with_reducible (apply State.issue_does)
    | with_reducible (apply predOp_does)
    | with_reducible (apply Does.ite)
    | (fail_if_no_progress extract_lets)
    | (fail_if_no_progress (with_reducible refine Does.mk' ?_ (by with_reducible rfl)))

theorem vCmpLt_does {W : Nat} {o : State} (x0 : Nat) {s : State} (hW : Within 0x29d1a2000000000000000000000000000000000008000000000000fff07ff80370300fca0000000000000000000000000000000000001000000190200100000000040000000000000000000000000000000000000000000006040000000000000000000000000000000000068000000002000000000007f804000060000000000 W) (h : Does W o s) :
    Does W o (vCmpLt x0 s) := by
  have up := hW.up
  have ub := hW.ub
  unfold vCmpLt
  repeat' first
    | with_reducible assumption
    | exact up _ (by decide)
    | exact ub _ (by decide)
    | exact fun _ => ub _ (by decide)
    | intro _
    | with_reducible (apply State.issue_does)
    | with_reducible (apply predOp_does)
    | with_reducible (apply Does.ite)
    | (fail_if_no_progress extract_lets)
    | (fail_if_no_progress (with_reducible refine Does.mk' ?_ (by with_reducible rfl)))

theorem vCmpLe_does {W : Nat} {o : State} (x0 : Nat) {s : State} (hW : Within 0x29d1a2000000000000000000000000000000000008000000000000fff07ff80370300fca0000000000000000000000000000000000001000000190200100000000040000000000000000000000000000000000000000000006040000000000000000000000000000000000068000000002000000000007f804000060000000000 W) (h : Does W o s) :
    Does W o (vCmpLe x0 s) := by
  have up := hW.up
  have ub := hW.ub
  unfold vCmpLe
  repeat' first
    | with_reducible assumption
    | exact up _ (by decide)
    | exact ub _ (by decide)
    | exact fun _ => ub _ (by decide)
    | intro _
    | with_reducible (apply State.issue_does)
    | with_reducible (apply predOp_does)
    | with_reducible (apply Does.ite)
    | (fail_if_no_progress extract_lets)
    | (fail_if_no_progress (with_reducible refine Does.mk' ?_ (by with_reducible rfl)))

theorem vCmpGt_does {W : Nat} {o : State} (x0 : Nat) {s : State} (hW : Within 0x29d1a2000000000000000000000000000000000008000000000000fff07ff80370300fca0000000000000000000000000000000000001000000190200100000000040000000000000000000000000000000000000000000006040000000000000000000000000000000000068000000002000000000007f804000060000000000 W) (h : Does W o s) :
    Does W o (vCmpGt x0 s) := by
  have up := hW.up
  have ub := hW.ub
  unfold vCmpGt
  repeat' first
    | with_reducible assumption
    | exact up _ (by decide)
    | exact ub _ (by decide)
    | exact fun _ => ub _ (by decide)
    | intro _
    | with_reducible (apply State.issue_does)
    | with_reducible (apply predOp_does)
    | with_reducible (apply Does.ite)
    | (fail_if_no_progress extract_lets)
    | (fail_if_no_progress (with_reducible refine Does.mk' ?_ (by with_reducible rfl)))

theorem vCmpGe_does {W : Nat} {o : State} (x0 : Nat) {s : State} (hW : Within 0x29d1a2000000000000000000000000000000000008000000000000fff07ff80370300fca0000000000000000000000000000000000001000000190200100000000040000000000000000000000000000000000000000000006040000000000000000000000000000000000068000000002000000000007f804000060000000000 W) (h : Does W o s) :
    Does W o (vCmpGe x0 s) := by
  have up := hW.up
  have ub := hW.ub
  unfold vCmpGe
  repeat' first
    | with_reducible assumption
    | exact up _ (by decide)
    | exact ub _ (by decide)
    | exact fun _ => ub _ (by decide)
    | intro _
    | with_reducible (apply State.issue_does)
    | with_reducible (apply predOp_does)
    | with_reducible (apply Does.ite)
    | (fail_if_no_progress extract_lets)
    | (fail_if_no_progress (with_reducible refine Does.mk' ?_ (by with_reducible rfl)))

theorem vCmpLtu_does {W : Nat} {o : State} (x0 : Nat) {s : State} (hW : Within 0x29d1a2000000000000000000000000000000000008000000000000fff07ff80370300fca0000000000000000000000000000000000001000000190200100000000040000000000000000000000000000000000000000000006040000000000000000000000000000000000068000000002000000000007f804000060000000000 W) (h : Does W o s) :
    Does W o (vCmpLtu x0 s) := by
  have up := hW.up
  have ub := hW.ub
  unfold vCmpLtu
  repeat' first
    | with_reducible assumption
    | exact up _ (by decide)
    | exact ub _ (by decide)
    | exact fun _ => ub _ (by decide)
    | intro _
    | with_reducible (apply State.issue_does)
    | with_reducible (apply predOp_does)
    | with_reducible (apply Does.ite)
    | (fail_if_no_progress extract_lets)
    | (fail_if_no_progress (with_reducible refine Does.mk' ?_ (by with_reducible rfl)))

theorem vCmpGeu_does {W : Nat} {o : State} (x0 : Nat) {s : State} (hW : Within 0x29d1a2000000000000000000000000000000000008000000000000fff07ff80370300fca0000000000000000000000000000000000001000000190200100000000040000000000000000000000000000000000000000000006040000000000000000000000000000000000068000000002000000000007f804000060000000000 W) (h : Does W o s) :
    Does W o (vCmpGeu x0 s) := by
  have up := hW.up
  have ub := hW.ub
  unfold vCmpGeu
  repeat' first
    | with_reducible assumption
    | exact up _ (by decide)
    | exact ub _ (by decide)
    | exact fun _ => ub _ (by decide)
    | intro _
    | with_reducible (apply State.issue_does)
    | with_reducible (apply predOp_does)
    | with_reducible (apply Does.ite)
    | (fail_if_no_progress extract_lets)
    | (fail_if_no_progress (with_reducible refine Does.mk' ?_ (by with_reducible rfl)))

theorem vFand_does {W : Nat} {o : State} (x0 : Nat) {s : State} (hW : Within 0x29d1a2000000000000000000000000000000000008000000000000fff07ff80370300fca0000000000000000000000000000000000001000000190200100000000040000000000000000000000000000000000000000000006040000000000000000000000000000000000068000000002000000000007f804000060000000000 W) (h : Does W o s) :
    Does W o (vFand x0 s) := by
  have up := hW.up
  have ub := hW.ub
  unfold vFand
  repeat' first
    | with_reducible assumption
    | exact up _ (by decide)
    | exact ub _ (by decide)
    | exact fun _ => ub _ (by decide)
    | intro _
    | with_reducible (apply State.issue_does)
    | with_reducible (apply predOp_does)
    | with_reducible (apply Does.ite)
    | (fail_if_no_progress extract_lets)
    | (fail_if_no_progress (with_reducible refine Does.mk' ?_ (by with_reducible rfl)))

theorem vFor_does {W : Nat} {o : State} (x0 : Nat) {s : State} (hW : Within 0x29d1a2000000000000000000000000000000000008000000000000fff07ff80370300fca0000000000000000000000000000000000001000000190200100000000040000000000000000000000000000000000000000000006040000000000000000000000000000000000068000000002000000000007f804000060000000000 W) (h : Does W o s) :
    Does W o (vFor x0 s) := by
  have up := hW.up
  have ub := hW.ub
  unfold vFor
  repeat' first
    | with_reducible assumption
    | exact up _ (by decide)
    | exact ub _ (by decide)
    | exact fun _ => ub _ (by decide)
    | intro _
    | with_reducible (apply State.issue_does)
    | with_reducible (apply predOp_does)
    | with_reducible (apply Does.ite)
    | (fail_if_no_progress extract_lets)
    | (fail_if_no_progress (with_reducible refine Does.mk' ?_ (by with_reducible rfl)))

theorem vFnot_does {W : Nat} {o : State} (x0 : Nat) {s : State} (hW : Within 0x29d1a2000000000000000000000000000000000008000000000000fff07ff80370300fca0000000000000000000000000000000000001000000190200100000000040000000000000000000000000000000000000000000006040000000000000000000000000000000000068000000002000000000007f804000060000000000 W) (h : Does W o s) :
    Does W o (vFnot x0 s) := by
  have up := hW.up
  have ub := hW.ub
  unfold vFnot
  repeat' first
    | with_reducible assumption
    | exact up _ (by decide)
    | exact ub _ (by decide)
    | exact fun _ => ub _ (by decide)
    | intro _
    | with_reducible (apply State.issue_does)
    | with_reducible (apply predOp_does)
    | with_reducible (apply Does.ite)
    | (fail_if_no_progress extract_lets)
    | (fail_if_no_progress (with_reducible refine Does.mk' ?_ (by with_reducible rfl)))

theorem vClra_does {W : Nat} {o : State} (x0 : Nat) {s : State} (hW : Within 0x29d1a2000000000000000000000000000000000008000000000000fff07ff80370300fca0000000000000000000000000000000000001000000190200100000000040000000000000000000000000000000000000000000006040000000000000000000000000000000000068000000002000000000007f804000060000000000 W) (h : Does W o s) :
    Does W o (vClra x0 s) := by
  have up := hW.up
  have ub := hW.ub
  unfold vClra
  repeat' first
    | with_reducible assumption
    | exact up _ (by decide)
    | exact ub _ (by decide)
    | exact fun _ => ub _ (by decide)
    | intro _
    | with_reducible (apply State.issue_does)
    | with_reducible (apply inUnits_does)
    | with_reducible (apply Does.ite)
    | (fail_if_no_progress extract_lets)
    | (fail_if_no_progress (with_reducible refine Does.mk' ?_ (by with_reducible rfl)))

theorem vLda_does {W : Nat} {o : State} (x0 : Nat) {s : State} (hW : Within 0x29d1a2000000000000000000000000000000000008000000000000fff07ff80370300fca0000000000000000000000000000000000001000000190200100000000040000000000000000000000000000000000000000000006040000000000000000000000000000000000068000000002000000000007f804000060000000000 W) (h : Does W o s) :
    Does W o (vLda x0 s) := by
  have up := hW.up
  have ub := hW.ub
  unfold vLda
  repeat' first
    | with_reducible assumption
    | exact up _ (by decide)
    | exact ub _ (by decide)
    | exact fun _ => ub _ (by decide)
    | intro _
    | with_reducible (apply State.issue_does)
    | with_reducible (apply inUnits_does)
    | with_reducible (apply Does.ite)
    | (fail_if_no_progress extract_lets)
    | (fail_if_no_progress (with_reducible refine Does.mk' ?_ (by with_reducible rfl)))

theorem vAdda_does {W : Nat} {o : State} (x0 : Nat) {s : State} (hW : Within 0x29d1a2000000000000000000000000000000000008000000000000fff07ff80370300fca0000000000000000000000000000000000001000000190200100000000040000000000000000000000000000000000000000000006040000000000000000000000000000000000068000000002000000000007f804000060000000000 W) (h : Does W o s) :
    Does W o (vAdda x0 s) := by
  have up := hW.up
  have ub := hW.ub
  unfold vAdda
  repeat' first
    | with_reducible assumption
    | exact up _ (by decide)
    | exact ub _ (by decide)
    | exact fun _ => ub _ (by decide)
    | intro _
    | with_reducible (apply State.issue_does)
    | with_reducible (apply inUnits_does)
    | with_reducible (apply Does.ite)
    | (fail_if_no_progress extract_lets)
    | (fail_if_no_progress (with_reducible refine Does.mk' ?_ (by with_reducible rfl)))

theorem vSha_does {W : Nat} {o : State} (x0 : Nat) {s : State} (hW : Within 0x29d1a2000000000000000000000000000000000008000000000000fff07ff80370300fca0000000000000000000000000000000000001000000190200100000000040000000000000000000000000000000000000000000006040000000000000000000000000000000000068000000002000000000007f804000060000000000 W) (h : Does W o s) :
    Does W o (vSha x0 s) := by
  have up := hW.up
  have ub := hW.ub
  unfold vSha
  repeat' first
    | with_reducible assumption
    | exact up _ (by decide)
    | exact ub _ (by decide)
    | exact fun _ => ub _ (by decide)
    | intro _
    | with_reducible (apply State.issue_does)
    | with_reducible (apply inUnits_does)
    | with_reducible (apply Does.ite)
    | (fail_if_no_progress extract_lets)
    | (fail_if_no_progress (with_reducible refine Does.mk' ?_ (by with_reducible rfl)))

theorem vMovh_does {W : Nat} {o : State} (x0 : Nat) {s : State} (hW : Within 0x29d1a2000000000000000000000000000000000008000000000000fff07ff80370300fca0000000000000000000000000000000000001000000190200100000000040000000000000000000000000000000000000000000006040000000000000000000000000000000000068000000002000000000007f804000060000000000 W) (h : Does W o s) :
    Does W o (vMovh x0 s) := by
  have up := hW.up
  have ub := hW.ub
  unfold vMovh
  repeat' first
    | with_reducible assumption
    | exact up _ (by decide)
    | exact ub _ (by decide)
    | exact fun _ => ub _ (by decide)
    | intro _
    | with_reducible (apply State.issue_does)
    | with_reducible (apply inUnits_does)
    | with_reducible (apply Does.ite)
    | (fail_if_no_progress extract_lets)
    | (fail_if_no_progress (with_reducible refine Does.mk' ?_ (by with_reducible rfl)))

theorem vMovl_does {W : Nat} {o : State} (x0 : Nat) {s : State} (hW : Within 0x29d1a2000000000000000000000000000000000008000000000000fff07ff80370300fca0000000000000000000000000000000000001000000190200100000000040000000000000000000000000000000000000000000006040000000000000000000000000000000000068000000002000000000007f804000060000000000 W) (h : Does W o s) :
    Does W o (vMovl x0 s) := by
  have up := hW.up
  have ub := hW.ub
  unfold vMovl
  repeat' first
    | with_reducible assumption
    | exact up _ (by decide)
    | exact ub _ (by decide)
    | exact fun _ => ub _ (by decide)
    | intro _
    | with_reducible (apply State.issue_does)
    | with_reducible (apply inUnits_does)
    | with_reducible (apply Does.ite)
    | (fail_if_no_progress extract_lets)
    | (fail_if_no_progress (with_reducible refine Does.mk' ?_ (by with_reducible rfl)))

theorem vMove_does {W : Nat} {o : State} (x0 : Nat) {s : State} (hW : Within 0x29d1a2000000000000000000000000000000000008000000000000fff07ff80370300fca0000000000000000000000000000000000001000000190200100000000040000000000000000000000000000000000000000000006040000000000000000000000000000000000068000000002000000000007f804000060000000000 W) (h : Does W o s) :
    Does W o (vMove x0 s) := by
  have up := hW.up
  have ub := hW.ub
  unfold vMove
  repeat' first
    | with_reducible assumption
    | exact up _ (by decide)
    | exact ub _ (by decide)
    | exact fun _ => ub _ (by decide)
    | intro _
    | with_reducible (apply State.issue_does)
    | with_reducible (apply inUnits_does)
    | with_reducible (apply Does.ite)
    | (fail_if_no_progress extract_lets)
    | (fail_if_no_progress (with_reducible refine Does.mk' ?_ (by with_reducible rfl)))

theorem vAbsa_does {W : Nat} {o : State} (x0 : Nat) {s : State} (hW : Within 0x29d1a2000000000000000000000000000000000008000000000000fff07ff80370300fca0000000000000000000000000000000000001000000190200100000000040000000000000000000000000000000000000000000006040000000000000000000000000000000000068000000002000000000007f804000060000000000 W) (h : Does W o s) :
    Does W o (vAbsa x0 s) := by
  have up := hW.up
  have ub := hW.ub
  unfold vAbsa
  repeat' first
    | with_reducible assumption
    | exact up _ (by decide)
    | exact ub _ (by decide)
    | exact fun _ => ub _ (by decide)
    | intro _
    | with_reducible (apply State.issue_does)
    | with_reducible (apply inUnits_does)
    | with_reducible (apply Does.ite)
    | (fail_if_no_progress extract_lets)
    | (fail_if_no_progress (with_reducible refine Does.mk' ?_ (by with_reducible rfl)))

theorem vNega_does {W : Nat} {o : State} (x0 : Nat) {s : State} (hW : Within 0x29d1a2000000000000000000000000000000000008000000000000fff07ff80370300fca0000000000000000000000000000000000001000000190200100000000040000000000000000000000000000000000000000000006040000000000000000000000000000000000068000000002000000000007f804000060000000000 W) (h : Does W o s) :
    Does W o (vNega x0 s) := by
  have up := hW.up
  have ub := hW.ub
  unfold vNega
  repeat' first
    | with_reducible assumption
    | exact up _ (by decide)
    | exact ub _ (by decide)
    | exact fun _ => ub _ (by decide)
    | intro _
    | with_reducible (apply State.issue_does)
    | with_reducible (apply inUnits_does)
    | with_reducible (apply Does.ite)
    | (fail_if_no_progress extract_lets)
    | (fail_if_no_progress (with_reducible refine Does.mk' ?_ (by with_reducible rfl)))

theorem vCmpa_does {W : Nat} {o : State} (x0 : Nat) {s : State} (hW : Within 0x29d1a2000000000000000000000000000000000008000000000000fff07ff80370300fca0000000000000000000000000000000000001000000190200100000000040000000000000000000000000000000000000000000006040000000000000000000000000000000000068000000002000000000007f804000060000000000 W) (h : Does W o s) :
    Does W o (vCmpa x0 s) := by
  have up := hW.up
  have ub := hW.ub
  unfold vCmpa
  repeat' first
    | with_reducible assumption
    | exact up _ (by decide)
    | exact ub _ (by decide)
    | exact fun _ => ub _ (by decide)
    | intro _
    | with_reducible (apply State.issue_does)
    | with_reducible (apply predOp_does)
    | with_reducible (apply Does.ite)
    | (fail_if_no_progress extract_lets)
    | (fail_if_no_progress (with_reducible refine Does.mk' ?_ (by with_reducible rfl)))

theorem vLd_does {W : Nat} {o : State} (x0 : Nat) {s : State} (hW : Within 0x29d1a2000000000000000000000000000000000008000000000000fff07ff80370300fca0000000000000000000000000000000000001000000190200100000000040000000000000000000000000000000000000000000006040000000000000000000000000000000000068000000002000000000007f804000060000000000 W) (h : Does W o s) :
    Does W o (vLd x0 s) := by
  have up := hW.up
  have ub := hW.ub
  unfold vLd
  repeat' first
    | with_reducible assumption
    | exact up _ (by decide)
    | exact ub _ (by decide)
    | exact fun _ => ub _ (by decide)
    | intro _
    | with_reducible (apply State.issue_does)
    | with_reducible (apply inUnits_does)
    | with_reducible (apply Does.ite)
    | (fail_if_no_progress extract_lets)
    | (fail_if_no_progress (with_reducible refine Does.mk' ?_ (by with_reducible rfl)))

theorem vSt_does {W : Nat} {o : State} (x0 : Nat) {s : State} (hW : Within 0x29d1a2000000000000000000000000000000000008000000000000fff07ff80370300fca0000000000000000000000000000000000001000000190200100000000040000000000000000000000000000000000000000000006040000000000000000000000000000000000068000000002000000000007f804000060000000000 W) (h : Does W o s) :
    Does W o (vSt x0 s) := by
  have up := hW.up
  have ub := hW.ub
  unfold vSt
  repeat' first
    | with_reducible assumption
    | exact up _ (by decide)
    | exact ub _ (by decide)
    | exact fun _ => ub _ (by decide)
    | intro _
    | with_reducible (apply State.issue_does)
    | with_reducible (apply inUnits_does)
    | with_reducible (apply Does.ite)
    | (fail_if_no_progress extract_lets)
    | (fail_if_no_progress (with_reducible refine Does.mk' ?_ (by with_reducible rfl)))

theorem State.clusterWrite_does {W : Nat} {o : State} {s : State} (x1 : Issue) (x2 : Nat) (hW : Within 0x400000000000000000000000000000000000000000000000000000000000000000000000000000000000000000000000000000000000000000000000000000000000000000000000000000000000000000000000000000000000000000000000000000000000000000000000000000000000000000000000000000000000000 W) (h : Does W o s) :
    Does W o (State.clusterWrite s x1 x2) := by
  have up := hW.up
  have ub := hW.ub
  unfold State.clusterWrite
  repeat' first
    | with_reducible assumption
    | exact up _ (by decide)
    | exact ub _ (by decide)
    | exact fun _ => ub _ (by decide)
    | intro _
    | with_reducible (apply State.mapVcl_does)
    | with_reducible (apply Does.ite)
    | (fail_if_no_progress extract_lets)
    | (fail_if_no_progress (with_reducible refine Does.mk' ?_ (by with_reducible rfl)))

theorem State.srWritten_does {W : Nat} {o : State} {s : State} (x1 : Issue) (hW : Within 0x400000000000000000000000000000000000000000000000000000000000000000000000000000000000000000000000000000000000000000000000000000000000000000000000000000000000000000000000000000000000000000000000000000000000000000000000000000000000000000000000000000000000000 W) (h : Does W o s) :
    Does W o (State.srWritten s x1) := by
  have up := hW.up
  have ub := hW.ub
  unfold State.srWritten
  repeat' first
    | with_reducible assumption
    | exact up _ (by decide)
    | exact ub _ (by decide)
    | exact fun _ => ub _ (by decide)
    | intro _
    | with_reducible (apply State.mapVcl_does)
    | with_reducible (apply Does.ite)
    | (fail_if_no_progress extract_lets)
    | (fail_if_no_progress (with_reducible refine Does.mk' ?_ (by with_reducible rfl)))

theorem vMovi_does {W : Nat} {o : State} (x0 : Nat) {s : State} (hW : Within 0x29d1a2000000000000000000000000000000000008000000000000fff07ff80370300fca0000000000000000000000000000000000001000000190200100000000040000000000000000000000000000000000000000000006040000000000000000000000000000000000068000000002000000000007f804000060000000000 W) (h : Does W o s) :
    Does W o (vMovi x0 s) := by
  have up := hW.up
  have ub := hW.ub
  unfold vMovi
  repeat' first
    | with_reducible assumption
    | exact up _ (by decide)
    | exact ub _ (by decide)
    | exact fun _ => ub _ (by decide)
    | intro _
    | with_reducible (apply State.issue_does)
    | with_reducible (apply inUnits_does)
    | with_reducible (apply Does.ite)
    | (fail_if_no_progress extract_lets)
    | (fail_if_no_progress (with_reducible refine Does.mk' ?_ (by with_reducible rfl)))

theorem vMoviSreg_does {W : Nat} {o : State} (x0 : Nat) {s : State} (hW : Within 0x29d1a2000000000000000000000000000000000008000000000000fff07ff80370300fca0000000000000000000000000000000000001000000190200100000000040000000000000000000000000000000000000000000006040000000000000000000000000000000000068000000002000000000007f804000060000000000 W) (h : Does W o s) :
    Does W o (vMoviSreg x0 s) := by
  have up := hW.up
  have ub := hW.ub
  unfold vMoviSreg
  repeat' first
    | with_reducible assumption
    | exact up _ (by decide)
    | exact ub _ (by decide)
    | exact fun _ => ub _ (by decide)
    | intro _
    | with_reducible (apply State.issue_does)
    | with_reducible (apply State.clusterWrite_does)
    | with_reducible (apply State.srWritten_does)
    | with_reducible (apply inUnits_does)
    | with_reducible (apply Does.ite)
    | (fail_if_no_progress extract_lets)
    | (fail_if_no_progress (with_reducible refine Does.mk' ?_ (by with_reducible rfl)))

theorem State.lowestG_does {W : Nat} {o : State} {s : State} (x1 : Issue) (x2 : VUnit → Nat) (hW : Within 0x40000000000000000000000000000000000000000000000000000000000000000000000000000000000000000000000000000000000000000000000000000000000000000000000000000000000000000000000000000000000000000000000000000000000000000000000000000000000000000000000000000000000000000 W) (h : Does W o s) :
    Does W o (State.lowestG s x1 x2).2 := by
  have up := hW.up
  have ub := hW.ub
  unfold State.lowestG
  repeat' first
    | with_reducible assumption
    | exact up _ (by decide)
    | exact ub _ (by decide)
    | exact fun _ => ub _ (by decide)
    | intro _
    | with_reducible (apply State.fresh_does)
    | with_reducible (apply Does.ite)
    | (fail_if_no_progress extract_lets)
    | (fail_if_no_progress (with_reducible refine Does.mk' ?_ (by with_reducible rfl)))
    | split
    | dsimp only

theorem vMovsToSreg_does {W : Nat} {o : State} (x0 : Nat) {s : State} (hW : Within 0x69d1a2000000000000000000000000000000000008000000000000fff07ff80370300fca0000000000000000000000000000000000001000000190200100000000040000000000000000000000000000000000000000000006040000000000000000000000000000000000068000000002000000000007f804000060000000000 W) (h : Does W o s) :
    Does W o (vMovsToSreg x0 s) := by
  have up := hW.up
  have ub := hW.ub
  unfold vMovsToSreg
  repeat' first
    | with_reducible assumption
    | exact up _ (by decide)
    | exact ub _ (by decide)
    | exact fun _ => ub _ (by decide)
    | intro _
    | with_reducible (apply State.issue_does)
    | with_reducible (apply State.lowestG_does)
    | with_reducible (apply State.clusterWrite_does)
    | with_reducible (apply State.srWritten_does)
    | with_reducible (apply inUnits_does)
    | with_reducible (apply Does.ite)
    | (fail_if_no_progress extract_lets)
    | (fail_if_no_progress (with_reducible refine Does.mk' ?_ (by with_reducible rfl)))

theorem vMovsFromSreg_does {W : Nat} {o : State} (x0 : Nat) {s : State} (hW : Within 0x29d1a2000000000000000000000000000000000008000000000000fff07ff80370300fca0000000000000000000000000000000000001000000190200100000000040000000000000000000000000000000000000000000006040000000000000000000000000000000000068000000002000000000007f804000060000000000 W) (h : Does W o s) :
    Does W o (vMovsFromSreg x0 s) := by
  have up := hW.up
  have ub := hW.ub
  unfold vMovsFromSreg
  repeat' first
    | with_reducible assumption
    | exact up _ (by decide)
    | exact ub _ (by decide)
    | exact fun _ => ub _ (by decide)
    | intro _
    | with_reducible (apply State.issue_does)
    | with_reducible (apply inUnits_does)
    | with_reducible (apply Does.ite)
    | (fail_if_no_progress extract_lets)
    | (fail_if_no_progress (with_reducible refine Does.mk' ?_ (by with_reducible rfl)))

theorem noEff_does {W : Nat} {o : State} (x0 : Issue) {s : State} (hW : Within 0x0 W) (h : Does W o s) :
    Does W o (noEff x0 s) := by
  have up := hW.up
  have ub := hW.ub
  unfold noEff
  repeat' first
    | with_reducible assumption
    | exact up _ (by decide)
    | exact ub _ (by decide)
    | exact fun _ => ub _ (by decide)
    | intro _
    | with_reducible (apply Does.ite)
    | (fail_if_no_progress extract_lets)
    | (fail_if_no_progress (with_reducible refine Does.mk' ?_ (by with_reducible rfl)))

theorem vDo_does {W : Nat} {o : State} (x0 : Nat) {s : State} (hW : Within 0x29d1a2000000000000000000000000000000000008000000000000fff07ff80370300fca0000000000000000000000000000000000001000000190200100000000040000000000000000000000000000000000000000000006040000000000000000000000000000000000068000000002000000000007f804000060000000000 W) (h : Does W o s) :
    Does W o (vDo x0 s) := by
  have up := hW.up
  have ub := hW.ub
  unfold vDo
  repeat' first
    | with_reducible assumption
    | exact up _ (by decide)
    | exact ub _ (by decide)
    | exact fun _ => ub _ (by decide)
    | intro _
    | with_reducible (apply State.issue_does)
    | with_reducible (apply noEff_does)
    | with_reducible (apply Does.ite)
    | (fail_if_no_progress extract_lets)
    | (fail_if_no_progress (with_reducible refine Does.mk' ?_ (by with_reducible rfl)))

theorem vDog_does {W : Nat} {o : State} (x0 : Nat) {s : State} (hW : Within 0x69d1a2000000000000000000000000000000000008000000000000fff07ff80370300fca0000000000000000000000000000000000001000000190200100000000040000000000000000000000000000000000000000000006040000000000000000000000000000000000068000000002000000000007f804000060000000000 W) (h : Does W o s) :
    Does W o (vDog x0 s) := by
  have up := hW.up
  have ub := hW.ub
  unfold vDog
  repeat' first
    | with_reducible assumption
    | exact up _ (by decide)
    | exact ub _ (by decide)
    | exact fun _ => ub _ (by decide)
    | intro _
    | with_reducible (apply State.issue_does)
    | with_reducible (apply State.fresh_does)
    | with_reducible (apply Does.ite)
    | (fail_if_no_progress extract_lets)
    | (fail_if_no_progress (with_reducible refine Does.mk' ?_ (by with_reducible rfl)))

theorem vNop_does {W : Nat} {o : State} (x0 : Nat) {s : State} (hW : Within 0x29d1a2000000000000000000000000000000000008000000000000fff07ff80370300fca0000000000000000000000000000000000001000000190200100000000040000000000000000000000000000000000000000000006040000000000000000000000000000000000068000000002000000000007f804000060000000000 W) (h : Does W o s) :
    Does W o (vNop x0 s) := by
  have up := hW.up
  have ub := hW.ub
  unfold vNop
  repeat' first
    | with_reducible assumption
    | exact up _ (by decide)
    | exact ub _ (by decide)
    | exact fun _ => ub _ (by decide)
    | intro _
    | with_reducible (apply State.issue_does)
    | with_reducible (apply noEff_does)
    | with_reducible (apply Does.ite)
    | (fail_if_no_progress extract_lets)
    | (fail_if_no_progress (with_reducible refine Does.mk' ?_ (by with_reducible rfl)))

theorem vHalt_does {W : Nat} {o : State} (x0 : Nat) {s : State} (hW : Within 0x29d1a2000000000000000000000000000000000008000000000000fff07ff80370300fca0000000000000000000000000000000000001000000190200100000000040000000000000000000000000000000000000000000006040000000000000000000000000000000000068000000002000000000007f804000060000000000 W) (h : Does W o s) :
    Does W o (vHalt x0 s) := by
  have up := hW.up
  have ub := hW.ub
  unfold vHalt
  repeat' first
    | with_reducible assumption
    | exact up _ (by decide)
    | exact ub _ (by decide)
    | exact fun _ => ub _ (by decide)
    | intro _
    | with_reducible (apply State.issue_does)
    | with_reducible (apply noEff_does)
    | with_reducible (apply Does.ite)
    | (fail_if_no_progress extract_lets)
    | (fail_if_no_progress (with_reducible refine Does.mk' ?_ (by with_reducible rfl)))

theorem vBr_does {W : Nat} {o : State} (x0 : Nat) {s : State} (hW : Within 0x29d1a2000000000000000000000000000000000008000000000000fff07ff80370300fca0000000000000000000000000000000000001000000190200100000000040000000000000000000000000000000000000000000006040000000000000000000000000000000000068000000002000000000007f804000060000000000 W) (h : Does W o s) :
    Does W o (vBr x0 s) := by
  have up := hW.up
  have ub := hW.ub
  unfold vBr
  repeat' first
    | with_reducible assumption
    | exact up _ (by decide)
    | exact ub _ (by decide)
    | exact fun _ => ub _ (by decide)
    | intro _
    | with_reducible (apply State.issue_does)
    | with_reducible (apply noEff_does)
    | with_reducible (apply Does.ite)
    | (fail_if_no_progress extract_lets)
    | (fail_if_no_progress (with_reducible refine Does.mk' ?_ (by with_reducible rfl)))

theorem vBrany_does {W : Nat} {o : State} (x0 : Nat) {s : State} (hW : Within 0x29d1a2000000000000000000000000000000000008000000000000fff07ff80370300fca0000000000000000000000000000000000001000000190200100000000040000000000000000000000000000000000000000000006040000000000000000000000000000000000068000000002000000000007f804000060000000000 W) (h : Does W o s) :
    Does W o (vBrany x0 s) := by
  have up := hW.up
  have ub := hW.ub
  unfold vBrany
  repeat' first
    | with_reducible assumption
    | exact up _ (by decide)
    | exact ub _ (by decide)
    | exact fun _ => ub _ (by decide)
    | intro _
    | with_reducible (apply State.issue_does)
    | with_reducible (apply State.vatCycles_does)
    | with_reducible (apply Does.ite)
    | (fail_if_no_progress extract_lets)
    | (fail_if_no_progress (with_reducible refine Does.mk' ?_ (by with_reducible rfl)))

theorem vBrall_does {W : Nat} {o : State} (x0 : Nat) {s : State} (hW : Within 0x29d1a2000000000000000000000000000000000008000000000000fff07ff80370300fca0000000000000000000000000000000000001000000190200100000000040000000000000000000000000000000000000000000006040000000000000000000000000000000000068000000002000000000007f804000060000000000 W) (h : Does W o s) :
    Does W o (vBrall x0 s) := by
  have up := hW.up
  have ub := hW.ub
  unfold vBrall
  repeat' first
    | with_reducible assumption
    | exact up _ (by decide)
    | exact ub _ (by decide)
    | exact fun _ => ub _ (by decide)
    | intro _
    | with_reducible (apply State.issue_does)
    | with_reducible (apply State.vatCycles_does)
    | with_reducible (apply Does.ite)
    | (fail_if_no_progress extract_lets)
    | (fail_if_no_progress (with_reducible refine Does.mk' ?_ (by with_reducible rfl)))

theorem vLeave_does {W : Nat} {o : State} (x0 : Nat) {s : State} (hW : Within 0x29d1a2000000000000000000000000000000000008000000000000fff07ff80370300fca0000000000000000000000000000000000001000000190200100000000040000000000000000000000000000000000000000000006040000000000000000000000000000000000068000000002000000000007f804000060000000000 W) (h : Does W o s) :
    Does W o (vLeave x0 s) := by
  have up := hW.up
  have ub := hW.ub
  unfold vLeave
  repeat' first
    | with_reducible assumption
    | exact up _ (by decide)
    | exact ub _ (by decide)
    | exact fun _ => ub _ (by decide)
    | intro _
    | with_reducible (apply State.issue_does)
    | with_reducible (apply noEff_does)
    | with_reducible (apply Does.ite)
    | (fail_if_no_progress extract_lets)
    | (fail_if_no_progress (with_reducible refine Does.mk' ?_ (by with_reducible rfl)))

end Sys2Proof.Machine
end

