-- ==== Sys2Proof/Laws/DLtm.lean ====
section
/-! SUPPORT. What the operations of Ltm can change. -/

set_option linter.unreachableTactic false
set_option linter.unusedTactic false
set_option linter.unusedVariables false
set_option Elab.async false

namespace Sys2Proof.Machine

theorem ltHoldoverExpiry_does {W : Nat} {o : State} {s : State} (hW : Within 0x2885fe0000000000000000000000000000000000000000000000000000180000303000058000080000000000000000000000000000001000000100000000000000000000000000000000000000000000000000000000000006040000000000000000000000000000000000060000020908c210004380020000800580019a40000 W) (h : Does W o s) :
    Does W o (ltHoldoverExpiry s) := by
  have up := hW.up
  have ub := hW.ub
  unfold ltHoldoverExpiry
  repeat' first
    | with_reducible assumption
    | exact up _ (by decide)
    | exact ub _ (by decide)
    | exact fun _ => ub _ (by decide)
    | intro _
    | with_reducible (apply State.ltToFree_does)
    | with_reducible (apply State.advance_does)
    | with_reducible (apply Does.ite)
    | (fail_if_no_progress extract_lets)
    | (fail_if_no_progress (with_reducible refine Does.mk' ?_ (by with_reducible rfl)))
    | split
    | dsimp only

theorem fineRangeReq_does {W : Nat} {o : State} {s : State} (hW : Within 0x800000000000000000000000000000000000000000000000000000000000000000000000000000000000000000000000000000000000000000000000000000000000000000000000000000000000000000000000000000000000000000000000000000000000000000000000000000000000000000000000000000300000 W) (h : Does W o s) :
    Does W o (fineRangeReq s) := by
  have up := hW.up
  have ub := hW.ub
  unfold fineRangeReq
  repeat' first
    | with_reducible assumption
    | exact up _ (by decide)
    | exact ub _ (by decide)
    | exact fun _ => ub _ (by decide)
    | intro _
    | with_reducible (apply State.advance_does)
    | with_reducible (apply State.wr_does)
    | with_reducible (apply Does.ite)
    | (fail_if_no_progress extract_lets)
    | (fail_if_no_progress (with_reducible refine Does.mk' ?_ (by with_reducible rfl)))

theorem clockMonitorFault_does {W : Nat} {o : State} (x0 : Nat) {s : State} (hW : Within 0x2981b2000000000000000000000000000000000000000000000000fff07ff80370300fca00000000000000000000000000000000000010000001000000000000000000000000000000000000000000000000000000000000060400000000000000000000000000000000000680000000020000000000000000000000000000000 W) (h : Does W o s) :
    Does W o (clockMonitorFault x0 s) := by
  have up := hW.up
  have ub := hW.ub
  unfold clockMonitorFault
  repeat' first
    | with_reducible assumption
    | exact up _ (by decide)
    | exact ub _ (by decide)
    | exact fun _ => ub _ (by decide)
    | intro _
    | with_reducible (apply State.fault_does)
    | with_reducible (apply State.meet_does)
    | with_reducible (apply Does.ite)
    | (fail_if_no_progress extract_lets)
    | (fail_if_no_progress (with_reducible refine Does.mk' ?_ (by with_reducible rfl)))

theorem ltSkew_does {W : Nat} {o : State} (x0 : Nat) (x1 : Nat) (x2 : Nat) {s : State} (hW : Within 0x2981aa000000000000000000000000000000000000000000000000fff07ff80370300fca00000000000000000000000000000000000010000001000000000000000000000000000000000000000000000000000000000000060400000000000000000000000000000000000680000000020000000000000000000000000000000 W) (h : Does W o s) :
    Does W o (ltSkew x0 x1 x2 s) := by
  have up := hW.up
  have ub := hW.ub
  have b1007 := ub 1007 (by decide)
  unfold ltSkew
  repeat' first
    | with_reducible assumption
    | exact up _ (by decide)
    | exact ub _ (by decide)
    | exact fun _ => ub _ (by decide)
    | intro _
    | with_reducible (apply State.fault_does)
    | with_reducible (apply Does.ite)
    | (fail_if_no_progress extract_lets)
    | (fail_if_no_progress (with_reducible refine Does.mk' ?_ (by with_reducible rfl)))

theorem State.acceptProfile_does {W : Nat} {o : State} {s : State} (x1 : Msg) (x2 : Nat) (hW : Within 0x20c06200000000000000000000000000000000000000000000000000001800003030003a00000000000000000000000000000000000010000007702000800000000000000000000000000000000000000000000000000000000000000000000000000000000000000000000000100000000000000000000000000000000000000 W) (h : Does W o s) :
    Does W o (State.acceptProfile s x1 x2) := by
  have up := hW.up
  have ub := hW.ub
  have b1009 := ub 1009 (by decide)
  unfold State.acceptProfile
  repeat' first
    | with_reducible assumption
    | exact up _ (by decide)
    | exact ub _ (by decide)
    | exact fun _ => ub _ (by decide)
    | intro _
    | with_reducible (apply State.ackKept_does)
    | with_reducible (apply State.launchSlot_does)
    | with_reducible (apply Does.ite)
    | (fail_if_no_progress extract_lets)
    | (fail_if_no_progress (with_reducible refine Does.mk' ?_ (by with_reducible rfl)))

theorem profileSet_does {W : Nat} {o : State} (x0 : Rec) {s : State} (hW : Within 0x20c07200000000000000000000000000000000000000000000000000001800003030003a1001000000000000000000000000000000001000000770200080000000000000000000000000000000000000000000000000000000000000000000000000000000000000000000000011e000000000000016000000000000000000000 W) (h : Does W o s) :
    Does W o (profileSet x0 s) := by
  have up := hW.up
  have ub := hW.ub
  have b1010 := ub 1010 (by decide)
  unfold profileSet
  repeat' first
    | with_reducible assumption
    | exact up _ (by decide)
    | exact ub _ (by decide)
    | exact fun _ => ub _ (by decide)
    | intro _
    | with_reducible (apply State.codeRecord_does)
    | with_reducible (apply State.ack_does)
    | with_reducible (apply State.judgeMsg_does)
    | with_reducible (apply State.acceptProfile_does)
    | with_reducible (apply State.inc_does)
    | with_reducible (apply Does.ite)
    | (fail_if_no_progress extract_lets)
    | (fail_if_no_progress (with_reducible refine Does.mk' ?_ (by with_reducible rfl)))

theorem State.profileEdge_does {W : Nat} {o : State} {s : State} (hW : Within 0x204022000000000000000000000000000000000000000000000000000018000030300000000000000000000000000000000000000000100000010000002000000000000000000000000000000000000000000000000000000000000000000000000000000000000000001f8000000000000000000000000006000000000000000 W) (h : Does W o s) :
    Does W o (State.profileEdge s) := by
  have up := hW.up
  have ub := hW.ub
  have b1009 := ub 1009 (by decide)
  unfold State.profileEdge
  repeat' first
    | with_reducible assumption
    | exact up _ (by decide)
    | exact ub _ (by decide)
    | exact fun _ => ub _ (by decide)
    | intro _
    | with_reducible (apply forEach_does)
    | with_reducible (apply State.swapBank_does)
    | with_reducible (apply State.wr_does)
    | with_reducible (apply State.raise_does)
    | with_reducible (apply Does.ite)
    | with_reducible (apply Does.foldl)
    | (fail_if_no_progress extract_lets)
    | (fail_if_no_progress (with_reducible refine Does.mk' ?_ (by with_reducible rfl)))
    | split
    | dsimp +zetaDelta only

theorem slotBoundary_does {W : Nat} {o : State} {s : State} (hW : Within 0x21281a2ffffffffffffffffffffffffffffffffffffffffffffffffffffffffffffffffffffffffffffffffffffffffffffffffffffffffffffffffffffffffffffffffffffffffffffffffffffffffffffffffffffffffffffffffffffffffffffffffffffffffffffffffffffffffffffffffffffffffffffffffffffffffff W) (h : Does W o s) :
    Does W o (slotBoundary s) := by
  have up := hW.up
  have ub := hW.ub
  have full := hW.full (by decide)
  have b1007 := ub 1007 (by decide)
  unfold slotBoundary
  repeat' first
    | with_reducible assumption
    | exact up _ (by decide)
    | exact ub _ (by decide)
    | exact fun _ => ub _ (by decide)
    | exact full _
    | intro _
    | with_reducible (apply State.advance_does)
    | with_reducible (apply State.applyEdge_does)
    | with_reducible (apply State.freezeEdge_does)
    | with_reducible (apply Does.ite)
    | (fail_if_no_progress extract_lets)
    | (fail_if_no_progress (with_reducible refine Does.mk' ?_ (by with_reducible rfl)))

theorem State.ltStep_does {W : Nat} {o : State} {s : State} (x1 : Int) (hW : Within 0x21fffa20000000000000000000000000000000000000000000000000001800003030000000000000000000000000000000000000000010000001000000000000000000000000000000000000000000000000000000700000060400000000000000000000000000000004000600000000000000000000000000000000080440040 W) (h : Does W o s) :
    Does W o (State.ltStep s x1) := by
  have up := hW.up
  have ub := hW.ub
  have b1007 := ub 1007 (by decide)
  unfold State.ltStep
  repeat' first
    | with_reducible assumption
    | exact up _ (by decide)
    | exact ub _ (by decide)
    | exact fun _ => ub _ (by decide)
    | intro _
    | with_reducible (apply State.moveLt_does)
    | with_reducible (apply State.setLtState_does)
    | with_reducible (apply State.raise_does)
    | with_reducible (apply State.inc_does)
    | with_reducible (apply State.wrS_does)
    | with_reducible (apply State.recheckGrants_does)
    | with_reducible (apply State.reresolve_does)
    | with_reducible (apply Does.ite)
    | (fail_if_no_progress extract_lets)
    | (fail_if_no_progress (with_reducible refine Does.mk' ?_ (by with_reducible rfl)))

theorem State.ranged_does {W : Nat} {o : State} {s : State} (x1 : Nat) (hW : Within 0x28006e0000000000000000000000000000000000000000000000000000180000303000058000000000000000000000000000000000001000000100000000000000000000000000000000000000000000000000000000000000000000000000000000000000000000000000000010000100c000000000000000000000000300000 W) (h : Does W o s) :
    Does W o (State.ranged s x1) := by
  have up := hW.up
  have ub := hW.ub
  have b1007 := ub 1007 (by decide)
  unfold State.ranged
  repeat' first
    | with_reducible assumption
    | exact up _ (by decide)
    | exact ub _ (by decide)
    | exact fun _ => ub _ (by decide)
    | intro _
    | with_reducible (apply State.raise_does)
    | with_reducible (apply State.ackKept_does)
    | with_reducible (apply State.ack_does)
    | with_reducible (apply State.wr_does)
    | with_reducible (apply State.setMode_does)
    | with_reducible (apply Does.ite)
    | (fail_if_no_progress extract_lets)
    | (fail_if_no_progress (with_reducible refine Does.mk' ?_ (by with_reducible rfl)))

theorem State.followEqd_does {W : Nat} {o : State} {s : State} (hW : Within 0x2000000000000000000000000000000000000000000000000000000000000000000000000000000000000000000000000000000000000000000000000000000000000000000000000000000000000000000000000000000000000000000000000000000000000000000000000000000000000000000000000000000000000 W) (h : Does W o s) :
    Does W o (State.followEqd s) := by
  have up := hW.up
  have ub := hW.ub
  have b1009 := ub 1009 (by decide)
  unfold State.followEqd
  repeat' first
    | with_reducible assumption
    | exact up _ (by decide)
    | exact ub _ (by decide)
    | exact fun _ => ub _ (by decide)
    | intro _
    | with_reducible (apply Does.ite)
    | (fail_if_no_progress extract_lets)
    | (fail_if_no_progress (with_reducible refine Does.mk' ?_ (by with_reducible rfl)))

theorem State.eqdEdge_does {W : Nat} {o : State} {s : State} (hW : Within 0x2801ee0000000000000000000000000000000000000000000000000000180000303000058000000000000000000000000000000000001000000100000000000000000000000000000000000000000000000000000000000006040000000000000000000000000000000400060010000100c000000000000000000000061b00000 W) (h : Does W o s) :
    Does W o (State.eqdEdge s) := by
  have up := hW.up
  have ub := hW.ub
  have b1007 := ub 1007 (by decide)
  have b1009 := ub 1009 (by decide)
  unfold State.eqdEdge
  repeat' first
    | with_reducible assumption
    | exact up _ (by decide)
    | exact ub _ (by decide)
    | exact fun _ => ub _ (by decide)
    | intro _
    | with_reducible (apply State.inc_does)
    | with_reducible (apply State.recheckGrants_does)
    | with_reducible (apply State.wrS_does)
    | with_reducible (apply State.wr_does)
    | with_reducible (apply State.ranged_does)
    | with_reducible (apply State.followEqd_does)
    | with_reducible (apply State.raise_does)
    | with_reducible (apply Does.ite)
    | (fail_if_no_progress extract_lets)
    | (fail_if_no_progress (with_reducible refine Does.mk' ?_ (by with_reducible rfl)))
    | split
    | dsimp only

theorem State.agc_does {W : Nat} {o : State} {s : State} (x1 : Nat) (x2 : Nat) (hW : Within 0x60001000000000000000000000000000000000000000000000000000000000000000000000000000000000000000000000000000000000000000000000000000000000000000000000000000000000000000000000000000000000000000000000000000000000000000000000000000000000000000000000000000000000000 W) (h : Does W o s) :
    Does W o (State.agc s x1 x2) := by
  have up := hW.up
  have ub := hW.ub
  have b1008 := ub 1008 (by decide)
  unfold State.agc
  repeat' first
    | with_reducible assumption
    | exact up _ (by decide)
    | exact ub _ (by decide)
    | exact fun _ => ub _ (by decide)
    | intro _
    | with_reducible (apply State.fresh_does)
    | with_reducible (apply State.emit_does)
    | with_reducible (apply Does.ite)
    | (fail_if_no_progress extract_lets)
    | (fail_if_no_progress (with_reducible refine Does.mk' ?_ (by with_reducible rfl)))

theorem frameBoundary_does {W : Nat} {o : State} (x0 : Nat) (x1 : List (Nat × Nat)) {s : State} (hW : Within 0x69fffe2ffffffffffffffffffffffffffffffffffffffffffffffffffffffffffffffffffffffffffffffffffffffffffffffffffffffffffffffffffffffffffffffffffffffffffffffffffffffffffffffffffffffffffffffffffffffffffffffffffffffffffffffffffffffffffffffffffffffffffffffffffffffffff W) (h : Does W o s) :
    Does W o (frameBoundary x0 x1 s) := by
  have up := hW.up
  have ub := hW.ub
  have full := hW.full (by decide)
  have b1007 := ub 1007 (by decide)
  unfold frameBoundary
  repeat' first
    | with_reducible assumption
    | exact up _ (by decide)
    | exact ub _ (by decide)
    | exact fun _ => ub _ (by decide)
    | exact full _
    | intro _
    | with_reducible (apply State.advance_does)
    | with_reducible (apply State.ltStep_does)
    | with_reducible (apply State.freezeEdge_does)
    | with_reducible (apply State.eqdEdge_does)
    | with_reducible (apply State.fkSlew_does)
    | with_reducible (apply State.profileEdge_does)
    | with_reducible (apply State.applyEdge_does)
    | with_reducible (apply State.followSamples_does)
    | with_reducible (apply State.pairSwitch_does)
    | with_reducible (apply State.safeLeave_does)
    | with_reducible (apply State.showSilence_does)
    | with_reducible (apply State.lineActs_does)
    | with_reducible (apply State.raiseIf_does)
    | with_reducible (apply State.showRelay_does)
    | with_reducible (apply State.evalDefects_does)
    | with_reducible (apply State.agc_does)
    | with_reducible (apply State.sleepIfDue_does)
    | with_reducible (apply State.leSkipped_does)
    | with_reducible (apply Does.ite)
    | with_reducible (apply Does.foldl)
    | (fail_if_no_progress extract_lets)
    | (fail_if_no_progress (with_reducible refine Does.mk' ?_ (by with_reducible rfl)))
    | split
    | dsimp +zetaDelta only

theorem State.actPending_does {W : Nat} {o : State} {s : State} (x1 : Nat) (x2 : Msg) (hW : Within 0x2885fe000000000000000000000000000000000000000000000000000018000030300005818108000000000000000000000000000000100000010000000000000000000000000007f000000000000000000000000000000006040000000000000000000000000000000000060000220938c210004380020001800780419840000 W) (h : Does W o s) :
    Does W o (State.actPending s x1 x2) := by
  have up := hW.up
  have ub := hW.ub
  have b1010 := ub 1010 (by decide)
  unfold State.actPending
  repeat' first
    | with_reducible assumption
    | exact up _ (by decide)
    | exact ub _ (by decide)
    | exact fun _ => ub _ (by decide)
    | intro _
    | with_reducible (apply State.inc_does)
    | with_reducible (apply State.actLineParams_does)
    | with_reducible (apply State.actTimeInfo_does)
    | with_reducible (apply State.actGroupSet_does)
    | with_reducible (apply State.beginGraze_does)
    | with_reducible (apply Does.ite)
    | (fail_if_no_progress extract_lets)
    | (fail_if_no_progress (with_reducible refine Does.mk' ?_ (by with_reducible rfl)))

theorem State.pendingAct_does {W : Nat} {o : State} {s : State} (hW : Within 0x2885fe000000000000000000000000000000000000000000000000000018000030300005818108000000000000000000000000000000100000010000000000000000000000000007f000000000000000000000000000000006040000000000000000000000000000000000060000220938c210004380020001800780419840000 W) (h : Does W o s) :
    Does W o (State.pendingAct s) := by
  have up := hW.up
  have ub := hW.ub
  unfold State.pendingAct
  repeat' first
    | with_reducible assumption
    | exact up _ (by decide)
    | exact ub _ (by decide)
    | exact fun _ => ub _ (by decide)
    | intro _
    | with_reducible (apply forEach_does)
    | with_reducible (apply State.actPending_does)
    | with_reducible (apply Does.ite)
    | (fail_if_no_progress extract_lets)
    | (fail_if_no_progress (with_reducible refine Does.mk' ?_ (by with_reducible rfl)))

theorem State.lmsEdge_does {W : Nat} {o : State} {s : State} (hW : Within 0x20000000000000000000 W) (h : Does W o s) :
    Does W o (State.lmsEdge s) := by
  have up := hW.up
  have ub := hW.ub
  unfold State.lmsEdge
  repeat' first
    | with_reducible assumption
    | exact up _ (by decide)
    | exact ub _ (by decide)
    | exact fun _ => ub _ (by decide)
    | intro _
    | with_reducible (apply forEach_does)
    | with_reducible (apply State.wr_does)
    | with_reducible (apply Does.ite)
    | with_reducible (apply Does.foldl)
    | (fail_if_no_progress extract_lets)
    | (fail_if_no_progress (with_reducible refine Does.mk' ?_ (by with_reducible rfl)))
    | split
    | dsimp +zetaDelta only

theorem State.snrEdge_does {W : Nat} {o : State} {s : State} (x1 : List (Nat × Nat)) (hW : Within 0x18000000000000000 W) (h : Does W o s) :
    Does W o (State.snrEdge s x1) := by
  have up := hW.up
  have ub := hW.ub
  unfold State.snrEdge
  repeat' first
    | with_reducible assumption
    | exact up _ (by decide)
    | exact ub _ (by decide)
    | exact fun _ => ub _ (by decide)
    | intro _
    | with_reducible (apply forEach_does)
    | with_reducible (apply State.wr_does)
    | with_reducible (apply Does.ite)
    | (fail_if_no_progress extract_lets)
    | (fail_if_no_progress (with_reducible refine Does.mk' ?_ (by with_reducible rfl)))
    | split
    | dsimp only

theorem multiframeBoundary_does {W : Nat} {o : State} (x0 : List (Nat × Nat)) {s : State} (hW : Within 0x28bdfe2ffffffffffffffffffffffffffffffffffffffffffffffffffffffffffffffffffffffffffffffffffffffffffffffffffffffffffffffffffffffffffffffffffffffffffffffffffffffffffffffffffffffffffffffffffffffffffffffffffffffffffffffffffffffffffffffffffffffffffffffffffffffffff W) (h : Does W o s) :
    Does W o (multiframeBoundary x0 s) := by
  have up := hW.up
  have ub := hW.ub
  have full := hW.full (by decide)
  have b1007 := ub 1007 (by decide)
  have b1008 := ub 1008 (by decide)
  unfold multiframeBoundary
  repeat' first
    | with_reducible assumption
    | exact up _ (by decide)
    | exact ub _ (by decide)
    | exact fun _ => ub _ (by decide)
    | exact full _
    | intro _
    | with_reducible (apply State.advance_does)
    | with_reducible (apply State.pendingAct_does)
    | with_reducible (apply State.upSwitch_does)
    | with_reducible (apply State.applyEdge_does)
    | with_reducible (apply State.groupsMultiframe_does)
    | with_reducible (apply State.rxMultiframe_does)
    | with_reducible (apply State.setGd_does)
    | with_reducible (apply State.snrEdge_does)
    | with_reducible (apply State.lmsEdge_does)
    | with_reducible (apply Does.ite)
    | (fail_if_no_progress extract_lets)
    | (fail_if_no_progress (with_reducible refine Does.mk' ?_ (by with_reducible rfl)))

theorem superframeBoundary_does {W : Nat} {o : State} (x0 : List Nat) {s : State} (hW : Within 0x20281a2ffffffffffffffffffffffffffffffffffffffffffffffffffffffffffffffffffffffffffffffffffffffffffffffffffffffffffffffffffffffffffffffffffffffffffffffffffffffffffffffffffffffffffffffffffffffffffffffffffffffffffffffffffffffffffffffffffffffffffffffffffffffffff W) (h : Does W o s) :
    Does W o (superframeBoundary x0 s) := by
  have up := hW.up
  have ub := hW.ub
  have full := hW.full (by decide)
  have b1007 := ub 1007 (by decide)
  unfold superframeBoundary
  repeat' first
    | with_reducible assumption
    | exact up _ (by decide)
    | exact ub _ (by decide)
    | exact fun _ => ub _ (by decide)
    | exact full _
    | intro _
    | with_reducible (apply State.advance_does)
    | with_reducible (apply State.applyEdge_does)
    | with_reducible (apply forEach_does)
    | with_reducible (apply State.wr_does)
    | with_reducible (apply State.wrS_does)
    | with_reducible (apply State.raiseIf_does)
    | with_reducible (apply Does.ite)
    | (fail_if_no_progress extract_lets)
    | (fail_if_no_progress (with_reducible refine Does.mk' ?_ (by with_reducible rfl)))

theorem applyReq_does {W : Nat} {o : State} (x0 : Nat) (x1 : Nat) {s : State} (hW : Within 0x3000000000000000000000000000000000000000000000000000000000000000000000000000000000000000000000000000000000000000000000000000000000000000000000000000000000000000000000000000000000000000000000000000000000000000000000000000000000000000000000000000000004e W) (h : Does W o s) :
    Does W o (Sys2Proof.Machine.applyReq x0 x1 s) := by
  have up := hW.up
  have ub := hW.ub
  unfold applyReq
  repeat' first
    | with_reducible assumption
    | exact up _ (by decide)
    | exact ub _ (by decide)
    | exact fun _ => ub _ (by decide)
    | intro _
    | with_reducible (apply State.applyReq_does)
    | with_reducible (apply Does.ite)
    | (fail_if_no_progress extract_lets)
    | (fail_if_no_progress (with_reducible refine Does.mk' ?_ (by with_reducible rfl)))

theorem applyCancel_does {W : Nat} {o : State} (x0 : Nat) {s : State} (hW : Within 0x8002000000000000000000000000000000000000000000000000000000000000000000000000000000000000000000000000000000000000000000000000000000000000000000000000000000000000000000000000000000000000000000000000000000000000000000000000000000000000000000000000000000000a W) (h : Does W o s) :
    Does W o (Sys2Proof.Machine.applyCancel x0 s) := by
  have up := hW.up
  have ub := hW.ub
  unfold applyCancel
  repeat' first
    | with_reducible assumption
    | exact up _ (by decide)
    | exact ub _ (by decide)
    | exact fun _ => ub _ (by decide)
    | intro _
    | with_reducible (apply State.applyCancel_does)
    | with_reducible (apply Does.ite)
    | (fail_if_no_progress extract_lets)
    | (fail_if_no_progress (with_reducible refine Does.mk' ?_ (by with_reducible rfl)))

theorem applyMarkerPass_does {W : Nat} {o : State} (x0 : Nat) (x1 : Nat) {s : State} (hW : Within 0x2028122ffffffffffffffffffffffffffffffffffffffffffffffffffffffffffffffffffffffffffffffffffffffffffffffffffffffffffffffffffffffffffffffffffffffffffffffffffffffffffffffffffffffffffffffffffffffffffffffffffffffffffffffffffffffffffffffffffffffffffffffffffffffffff W) (h : Does W o s) :
    Does W o (applyMarkerPass x0 x1 s) := by
  have up := hW.up
  have ub := hW.ub
  have full := hW.full (by decide)
  unfold applyMarkerPass
  repeat' first
    | with_reducible assumption
    | exact up _ (by decide)
    | exact ub _ (by decide)
    | exact fun _ => ub _ (by decide)
    | exact full _
    | intro _
    | with_reducible (apply State.markerPass_does)
    | with_reducible (apply Does.ite)
    | (fail_if_no_progress extract_lets)
    | (fail_if_no_progress (with_reducible refine Does.mk' ?_ (by with_reducible rfl)))

theorem atLtApply_does {W : Nat} {o : State} {s : State} (hW : Within 0x20281a2ffffffffffffffffffffffffffffffffffffffffffffffffffffffffffffffffffffffffffffffffffffffffffffffffffffffffffffffffffffffffffffffffffffffffffffffffffffffffffffffffffffffffffffffffffffffffffffffffffffffffffffffffffffffffffffffffffffffffffffffffffffffffff W) (h : Does W o s) :
    Does W o (atLtApply s) := by
  have up := hW.up
  have ub := hW.ub
  have full := hW.full (by decide)
  unfold atLtApply
  repeat' first
    | with_reducible assumption
    | exact up _ (by decide)
    | exact ub _ (by decide)
    | exact fun _ => ub _ (by decide)
    | exact full _
    | intro _
    | with_reducible (apply State.atLt_does)
    | with_reducible (apply Does.ite)
    | (fail_if_no_progress extract_lets)
    | (fail_if_no_progress (with_reducible refine Does.mk' ?_ (by with_reducible rfl)))

theorem commitComplete_does {W : Nat} {o : State} {s : State} (hW : Within 0x2028122ffffffffffffffffffffffffffffffffffffffffffffffffffffffffffffffffffffffffffffffffffffffffffffffffffffffffffffffffffffffffffffffffffffffffffffffffffffffffffffffffffffffffffffffffffffffffffffffffffffffffffffffffffffffffffffffffffffffffffffffffffffffffff W) (h : Does W o s) :
    Does W o (commitComplete s) := by
  have up := hW.up
  have ub := hW.ub
  have full := hW.full (by decide)
  unfold commitComplete
  repeat' first
    | with_reducible assumption
    | exact up _ (by decide)
    | exact ub _ (by decide)
    | exact fun _ => ub _ (by decide)
    | exact full _
    | intro _
    | with_reducible (apply State.commitDone_does)
    | with_reducible (apply Does.ite)
    | (fail_if_no_progress extract_lets)
    | (fail_if_no_progress (with_reducible refine Does.mk' ?_ (by with_reducible rfl)))

end Sys2Proof.Machine
end

