-- ==== Sys2Proof/Tests/Slice0.lean ====
section
/-! SUPPORT. Own tests: an ill-formed command for each check of well-formedness, worked examples of the manual, single steps, and for
every statement of the obligations that has hypotheses a state and operands that meet them, clause by clause. -/

set_option Elab.async false

namespace Sys2Proof.Tests

open Sys2Proof Sys2Proof.Machine

def S0 : State := State.reset
def setL (s : State) (l : List (Fld × Nat × Nat)) : State := l.foldl (fun u e => u.wr e.1 e.2.1 e.2.2) s
def recOf (ty tid : Nat) (body : List Nat) : Rec :=
  let h := ty * 2 ^ 40 + tid * 2 ^ 20 + body.length
  { hdr := h * 2 ^ 16 + crc16 (bytesBE 6 h), body := body, crc := crc32 body }
def msgRec (code seq tid : Nat) (body : List Nat) (eff : Bool := false) (effWord : Nat := 0) : Rec :=
  recOf 5 tid (bytesBE 8 (code * 2 ^ 56 + seq * 2 ^ 48 + b2n eff * 2 ^ 47 + effWord) ++ body)
/-- A cell as it stands on the line, with its CRC. -/
def cellOf (port ty src dst hops len : Nat) (sou eou err : Bool) (seq stamp : Nat) (payload : List Nat) : Cell :=
  let h := cellHeader ty src dst hops len sou eou err seq stamp
  { port := port, hdr := ofBytesBE h, payload := payload, crc := crc32 (bytesBE 16 (ofBytesBE h) ++ payload) }
theorem cellOf_ok (port ty src dst hops len : Nat) (sou eou err : Bool) (seq stamp : Nat) (p : List Nat) :
    cellOk (cellOf port ty src dst hops len sou eou err seq stamp p) = true := by simp [cellOk, cellOf]
theorem takes_cellOf (s : State) (port ty src dst hops len : Nat) (sou eou err : Bool) (seq stamp : Nat) (p : List Nat) (k : Nat)
    (h : (decide (port < 2) && s.fkIsUp port && cType (cellOf port ty src dst hops len sou eou err seq stamp p) == k) = true) :
    s.takesCell (cellOf port ty src dst hops len sou eou err seq stamp p) k = true := by
  simp only [State.takesCell, cellOf_ok, Bool.and_true]
  exact h

/-! Well-formedness: one ill-formed command for each check of WellFormed.lean -/

def r0 : Rec := { hdr := 0, body := [], crc := 0 }
def c0 : Cell := { port := 0, hdr := 0, payload := [], crc := 0 }
def p0 : Ptp := { fup := false, port := 0, domain := 0, master := 0, seq := 0, twoStep := false, sec := 0, ns := 0, cf := 0, entry := none }
def g0 : Mgmt := { mem := 0, role := 0, rxOk := true, tid := 0, tidValid := true }

theorem test_wf_refuses_reset_boot_and_record : List.all (α := Instr)
  [.resetAssert 3, .resetRelease 65536, .memorySelftestDone (some (32, 0)), .imageCheck (some [256]), .twFifoWrite (2 ^ 32),
   .recCommitDone 5]
  (fun c => !c.wf) = true := by decide

theorem test_wf_refuses_host_interface_and_registers : List.all (α := Instr)
  [.functionLevelReset 17, .registerWrite 34 1 false [] none {} [], .registerWrite 1 (2 ^ 32) false [] none {} [],
   .registerWrite 1 1 false [2 ^ 32] none {} [], .registerWrite 1 1 false [] (some (2 ^ 32)) {} [],
   .registerWrite 1 1 false [] none {} [⟨34, 1, true, []⟩], .registerWrite 1 1 false [] none {} [⟨1, 2 ^ 32, true, []⟩],
   .registerWrite 1 1 false [] none {} [⟨1, 1, true, [2 ^ 32]⟩], .unsupportedRequest 34,
   .counterLoRead 34 1 1, .counterLoRead 1 (2 ^ 32) 1, .counterLoRead 1 1 1025, .lockFieldWrite 34 1 1, .lockFieldWrite 1 (2 ^ 32) 1, .lockFieldWrite 1 1 (2 ^ 32),
   .stickyClr 34 1 false, .stickyClr 1 (2 ^ 32) false, .intRegisterWrite 34 1 false 1 none, .intRegisterWrite 1 (2 ^ 32) false 1 none,
   .intRegisterWrite 1 1 false (2 ^ 32) none, .intRegisterWrite 1 1 false 1 (some (2 ^ 32)), .msixVectorUnmask 17 1,
   .msixVectorUnmask 1 256, .intForce 34 1 1, .intForce 1 (2 ^ 32) 1, .intForce 1 1 (2 ^ 32), .twoWireWrite (2 ^ 32) [] {},
   .twoWireWrite 1 [256] {}, .twoWireRead (2 ^ 32) 1, .pcieLinkUp 5 1 1, .pcieLinkUp 1 5 1, .pcieLinkUp 1 1 16]
  (fun c => !c.wf) = true := by decide

theorem test_wf_refuses_the_terminal_on_its_line : List.all (α := Instr)
  [.clockMonitorFault 60, .ltSkew 4 1 1, .ltSkew 1 32 1, .ltSkew 1 1 128]
  (fun c => !c.wf) = true := by decide

theorem test_wf_refuses_line_time : List.all (α := Instr)
  [.frameBoundary 4 [], .frameBoundary 1 [(2, 0)], .frameBoundary 1 [(0, 256)], .multiframeBoundary [(32, 0)], .superframeBoundary [], .applyReq 38 1, .applyReq 1 8, .applyCancel 38,
   .applyMarkerPass 38 1, .applyMarkerPass 1 19, .ltSnapRead 34, .launchEntryArm 256 1, .launchEntryArm 1 (2 ^ 32),
   .launchEntryDisarm 256 1, .launchEntryDisarm 1 (2 ^ 32)]
  (fun c => !c.wf) = true := by decide

theorem test_wf_refuses_downstream_receiver : List.all (α := Instr)
  [.rsExpectWrite (2 ^ 32), .coefBankWrite false 32 1 1 1, .coefBankWrite false 1 2 1 1, .coefBankWrite false 1 1 52 1,
   .coefBankWrite false 1 1 1 (2 ^ 32), .acqGainSettled 2, .acqCdFound 2 1, .acqCdFound 1 (2 ^ 18), .acqCdHintMiss 2, .acqFreqAcquired 2,
   .acqEqConverged 32, .acqStateOverrun 2, .blockDecoded 32 1 [] 0 false, .blockDecoded 1 (2 ^ 17) [] 0 false,
   .blockDecoded 1 1 [256] 0 false]
  (fun c => !c.wf) = true := by decide

theorem test_wf_refuses_line_framing : List.all (α := Instr)
  [.fawSearchWord 32 1 1 1, .fawSearchWord 1 1 (2 ^ 256) 1, .fawInframeWord 32 1 1, .fawInframeWord 1 (2 ^ 256) 1,
   .overheadBlock 32 1 none, .overheadBlock 1 64 none, .overheadBlock 1 1 (some [256]), .delineateUnit 512,
   .fillRecord { r0 with hdr := 2 ^ 64 }, .profileTable { r0 with hdr := 2 ^ 64 }, .allocMap { r0 with hdr := 2 ^ 64 },
   .rdiList { r0 with hdr := 2 ^ 64 }, .reservedRecord { r0 with hdr := 2 ^ 64 }, .recordHeaderError { r0 with hdr := 2 ^ 64 }, .defectConditionMet (.lof 32) false 0 false, .defectConditionMet (.los 1) false 256 false]
  (fun c => !c.wf) = true := by decide

theorem test_wf_refuses_power_and_wake : List.all (α := Instr)
  [.wakeMap { r0 with hdr := 2 ^ 64 }, .leaveRequest [⟨6, 1, 1, 0⟩], .leaveRequest [⟨1, 32, 1, 0⟩], .leaveReturn 6 1 1, .leaveReturn 1 32 1]
  (fun c => !c.wf) = true := by decide

theorem test_wf_refuses_upstream_bursts : List.all (α := Instr)
  [.grantEntry { r0 with hdr := 2 ^ 64 } 0, .grantCancel { r0 with hdr := 2 ^ 64 } 0, .profileSet { r0 with hdr := 2 ^ 64 }, .burstCommit 8192, .guardTrip 1 65536]
  (fun c => !c.wf) = true := by decide

theorem test_wf_refuses_joining_and_ranging : List.all (α := Instr)
  [.lineParams { r0 with hdr := 2 ^ 64 }, .discoveryOpen { r0 with hdr := 2 ^ 64 }, .assignId { r0 with hdr := 2 ^ 64 },
   .rangeResult { r0 with hdr := 2 ^ 64 }, .eqdAdjust { r0 with hdr := 2 ^ 64 }, .silence { r0 with hdr := 2 ^ 64 },
   .release { r0 with hdr := 2 ^ 64 }, .deregister { r0 with hdr := 2 ^ 64 }, .grazeAck { r0 with hdr := 2 ^ 64 },
   .oamTunnel { r0 with hdr := 2 ^ 64 }, .groupSet { r0 with hdr := 2 ^ 64 }, .unknownMessage { r0 with hdr := 2 ^ 64 }]
  (fun c => !c.wf) = true := by decide

theorem test_wf_refuses_cipher_engine : List.all (α := Instr)
  [.keyEpoch { r0 with hdr := 2 ^ 64 }, .slotLoad false 64, .slotErase 64, .slotUnwrap 64 1, .slotUnwrap 1 64, .lineKeyEntryWrite 4 1,
   .lineKeyEntryWrite 1 (2 ^ 32), .cipherMismatch 8 .window, .cipJobStart 16 [], .cipJobStart 1 [256], .cipJobEnd 16 none,
   .cipLeaveRetry 16]
  (fun c => !c.wf) = true := by decide

theorem test_wf_refuses_network_time : List.all (α := Instr)
  [.timeInfo { r0 with hdr := 2 ^ 64 }, .asymSet { r0 with hdr := 2 ^ 64 }, .tbModeWrite 4 1, .tbModeWrite 1 (2 ^ 32), .setGo 4, .adjGo 4,
   .tbSample 4, .syncToExpiry 4, .holdMaxExpiry 4, .ptpSyncRx 0 p0, .ptpSyncRx 4 p0, .ptpSyncRx 1 { p0 with port := 16 },
   .delayReqTimer 0, .delayReqTimer 4, .ptpDelayRespRx 0 p0, .ptpDelayRespRx 4 p0, .ptpDelayRespRx 1 { p0 with port := 16 },
   .ptpPdelayReqRx 0 p0, .ptpPdelayReqRx 4 p0, .ptpPdelayReqRx 1 { p0 with port := 16 }, .ppsOutPulse 2, .nowRead 34]
  (fun c => !c.wf) = true := by decide

theorem test_wf_refuses_serial_lanes_and_stacking : List.all (α := Instr)
  [.stackMap { r0 with hdr := 2 ^ 64 }, .txEqWrite 24 1 1 1, .laneSleepWrite 24 false false, .retrain 24, .retrainSnrTrigger 24 1,
   .rtRefusedRetry 24, .rxFreezeWrite 24 false, .adaptDone 24 1 1, .injGo 24, .injRateTick 24, .checkerLockChange 24 false 1 1,
   .ltCellRx { c0 with port := 2 } 1, .ctrlCellRx { c0 with port := 2 }, .mgmtCellRx { c0 with port := 2 } g0,
   .mgmtCellRx c0 { g0 with mem := 8 }, .groupCellRx { c0 with port := 2 }, .unitCellRx { c0 with port := 2 },
   .idleCellRx { c0 with port := 2 }, .badCellRx { c0 with port := 2 }, .fkPortAlign 2, .fkPortDown 2, .memberUnreachable 8, .sigDetChange 24 false]
  (fun c => !c.wf) = true := by decide

theorem test_wf_refuses_client_ports : List.all (α := Instr)
  [.portEnable 16 [], .portEnable 1 [16], .linkUpRise 16, .linkUpFall 16 1, .linkUpFall 1 4, .clientFrameRx 16 [] false, .clientFrameRx 1 [256] false,
   .pauseTimerExpiry 16 none, .pauseTimerExpiry 1 (some 8), .pauseRefresh 16, .ingressDrain 16, .flowControlDisable 16 false,
   .amLockGained 16]
  (fun c => !c.wf) = true := by decide

theorem test_wf_refuses_queues_shaping_gates : List.all (α := Instr)
  [.egressFrameStart 16, .uqAllocWrite 4096 1, .uqAllocWrite 1 (2 ^ 32), .schedulerMoveUnit 64 1, .schedulerMoveUnit 1 4096,
   .sealTimeout 64, .gateListCommit 16, .gateListCancel 16, .gateListStart 16, .gateEntryAdvance 16]
  (fun c => !c.wf) = true := by decide

theorem test_wf_refuses_classification : List.all (α := Instr)
  [.classifyFrame 19 [], .classifyFrame 1 [16384], .reorderRelease 19 1 1 [], .reorderRelease 1 1 1 [⟨19, 0, 0⟩], .versionRetire 4, .ruleEntryWrite 16384 1 1,
   .ruleEntryWrite 1 35 1, .ruleEntryWrite 1 1 (2 ^ 32), .vmaskWrite 16384 1, .vmaskWrite 1 (2 ^ 32)]
  (fun c => !c.wf) = true := by decide

theorem test_wf_refuses_the_cave : List.all (α := Instr)
  [.caveTrainDone [(16, 0)], .containerTake 64, .containerFree false false (2 ^ 32) 1, .containerFree false false 1 256,
   .waitLong false 64, .caveEccError 16 1 .corrected, .caveEccError 1 (2 ^ 32) .corrected, .ddrRetrainSlice 16, .dimmTempHot 16 1,
   .dimmTempHot 1 256]
  (fun c => !c.wf) = true := by decide

theorem test_wf_refuses_signal_engine_array : List.all (α := Instr)
  [.vatGo 128, .vatStop 128, .vatLeaveRequest 256 1, .vatLeaveRequest 1 128, .vatClusterStart 128, .vatMaxrun 128,
   .vatHostWrite 128 1 1 1, .vatHostWrite 1 131072 1 1, .vatHostWrite 1 1 (2 ^ 32) 1, .vatHostWrite 1 1 1 4, .vatParityError 128 none,
   .vatParityError 1 (some 16), .tapCapture 128 1 [], .tapCapture 1 4 [], .tapCapture 1 1 [[65536]], .tapDelivery 128 1,
   .tapDelivery 1 4, .vHalt 128, .vatLeaveRetry 128]
  (fun c => !c.wf) = true := by decide

theorem test_wf_refuses_engine_instruction_set_1 : List.all (α := Instr)
  [.vDualMove 128, .vMpy 128, .vMac 128, .vMsu 128, .vMov 128, .vAdd 128, .vAdds 128, .vSub 128, .vSubs 128, .vAnd 128, .vOr 128,
   .vXor 128, .vShl 128, .vShr 128, .vShrl 128, .vMin 128, .vMax 128, .vAbs 128, .vNeg 128, .vCmpEq 128, .vCmpNe 128, .vCmpLt 128,
   .vCmpLe 128, .vCmpGt 128, .vCmpGe 128, .vCmpLtu 128, .vCmpGeu 128, .vFand 128, .vFor 128, .vFnot 128, .vClra 128, .vLda 128,
   .vAdda 128, .vSha 128, .vMovh 128, .vMovl 128, .vMove 128, .vAbsa 128, .vNega 128, .vCmpa 128]
  (fun c => !c.wf) = true := by decide

theorem test_wf_refuses_engine_instruction_set_2 : List.all (α := Instr)
  [.vLd 128, .vSt 128, .vMovi 128, .vMoviSreg 128, .vMovsToSreg 128, .vMovsFromSreg 128, .vDo 128, .vDog 128, .vNop 128, .vBr 128,
   .vBrany 128, .vBrall 128, .vLeave 128]
  (fun c => !c.wf) = true := by decide

theorem test_wf_refuses_dma : List.all (α := Instr)
  [.dmaRun 16, .dmaStop 16, .dmaHeadWrite 16 1, .dmaHeadWrite 1 (2 ^ 32), .descriptorFetch 16 none, .descriptorFetch 1 (some [2 ^ 32]),
   .copy 16, .fill 16, .compare 16, .nopDescriptor 16, .dmaBeatAnswer 16 1 1 false [] [] {}, .dmaBeatAnswer 1 1 1 false [256] [] {},
   .dmaBeatAnswer 1 1 1 false [] [256] {}, .injectionTake 16 [] none, .injectionTake 1 [2 ^ 32] none, .injectionTake 1 [] (some [256])]
  (fun c => !c.wf) = true := by decide

theorem test_wf_refuses_faults_and_counters : List.all (α := Instr)
  [.faultReport [{ cause := 256, level := 1, region := 1 }], .faultReport [{ cause := 1, level := 8, region := 1 }],
   .faultReport [{ cause := 1, level := 1, region := 32 }], .faultReport [{ cause := 1, level := 1, region := 1, pg := 38 }],
   .recordClose 64, .lfClr 38, .perfClear 80, .perfCounterWrap 80 1 1, .perfCounterWrap 1 8 1, .perfCounterWrap 1 1 (2 ^ 48)]
  (fun c => !c.wf) = true := by decide

theorem test_wf_accepts_1 : List.all (α := Instr)
  [.resetAssert 1, .resetRelease 1, .functionLevelReset 1, .memorySelftestDone none, .imageCheck none, .twFifoWrite 1, .recCommitDone 1,
   .clockMonitorFault 1, .ltSkew 1 1 1, .frameBoundary 1 [], .multiframeBoundary [], .superframeBoundary [0, 0, 0, 0], .applyReq 1 1,
   .applyCancel 1, .applyMarkerPass 1 1, .ltSnapRead 1, .launchEntryArm 1 1, .launchEntryDisarm 1 1, .rsExpectWrite 1,
   .coefBankWrite false 1 1 1 1, .acqGainSettled 1, .acqCdFound 1 1, .acqCdHintMiss 1, .acqFreqAcquired 1, .acqEqConverged 1,
   .acqStateOverrun 1, .blockDecoded 1 1 [] 0 false, .fawSearchWord 1 1 1 1, .fawInframeWord 1 1 1, .overheadBlock 1 1 none,
   .delineateUnit 1, .fillRecord r0, .wakeMap r0, .profileTable r0, .allocMap r0, .rdiList r0, .reservedRecord r0, .recordHeaderError r0,
   .defectConditionMet .rdi false 0 false, .sdChange false false, .grantEntry r0 1, .grantCancel r0 1, .lineParams r0, .discoveryOpen r0,
   .assignId r0, .rangeResult r0, .eqdAdjust r0, .profileSet r0, .keyEpoch r0, .silence r0, .release r0, .deregister r0, .grazeAck r0,
   .oamTunnel r0, .timeInfo r0, .stackMap r0, .asymSet r0, .groupSet r0, .unknownMessage r0, .burstCommit 1, .burstEnd []]
  (fun c => c.wf) = true := by decide

theorem test_wf_accepts_2 : List.all (α := Instr)
  [.guardTrip 1 1, .portEnable 1 [], .linkUpRise 1, .linkUpFall 1 1, .clientFrameRx 1 [] false, .pauseTimerExpiry 1 none, .pauseRefresh 1,
   .ingressDrain 1, .flowControlDisable 1 false, .egressFrameStart 1, .classifyFrame 1 [], .reorderRelease 1 1 1 [], .versionRetire 1,
   .ruleEntryWrite 1 1 1, .vmaskWrite 1 1, .uqAllocWrite 1 1, .schedulerMoveUnit 1 1, .sealTimeout 1, .gateListCommit 1,
   .gateListCancel 1, .gateListStart 1, .gateEntryAdvance 1, .caveTrainDone [], .containerTake 1, .containerFree false false 1 1,
   .waitLong false 1, .caveEccError 1 1 .corrected, .ddrRetrainSlice 1, .slotLoad false 1, .slotErase 1, .slotUnwrap 1 1,
   .lineKeyEntryWrite 1 1, .cipherMismatch 1 .window, .cipJobStart 1 [], .cipJobEnd 1 none, .tbModeWrite 1 1, .setGo 1, .adjGo 1,
   .tbSample 1, .syncToExpiry 1, .holdMaxExpiry 1, .ptpSyncRx 1 p0, .delayReqTimer 1, .ptpDelayRespRx 1 p0, .ptpPdelayReqRx 1 p0,
   .ppsOutPulse 1, .vatGo 1, .vatStop 1, .vatLeaveRequest 1 1, .vatClusterStart 1, .vatMaxrun 1, .vatHostWrite 1 1 1 1,
   .vatParityError 1 none, .tapCapture 1 1 [], .tapDelivery 1 1, .vDualMove 1, .vMpy 1, .vMac 1, .vMsu 1, .vMov 1]
  (fun c => c.wf) = true := by decide

theorem test_wf_accepts_3 : List.all (α := Instr)
  [.vAdd 1, .vAdds 1, .vSub 1, .vSubs 1, .vAnd 1, .vOr 1, .vXor 1, .vShl 1, .vShr 1, .vShrl 1, .vMin 1, .vMax 1, .vAbs 1, .vNeg 1,
   .vCmpEq 1, .vCmpNe 1, .vCmpLt 1, .vCmpLe 1, .vCmpGt 1, .vCmpGe 1, .vCmpLtu 1, .vCmpGeu 1, .vFand 1, .vFor 1, .vFnot 1, .vClra 1,
   .vLda 1, .vAdda 1, .vSha 1, .vMovh 1, .vMovl 1, .vMove 1, .vAbsa 1, .vNega 1, .vCmpa 1, .vLd 1, .vSt 1, .vMovi 1, .vMoviSreg 1,
   .vMovsToSreg 1, .vMovsFromSreg 1, .vDo 1, .vDog 1, .vNop 1, .vHalt 1, .vBr 1, .vBrany 1, .vBrall 1, .vLeave 1,
   .registerWrite 1 1 false [] none {} [], .unsupportedRequest 1, .counterLoRead 1 1 1, .nowRead 1, .lockFieldWrite 1 1 1,
   .stickyClr 1 1 false, .intRegisterWrite 1 1 false 1 none, .msixVectorUnmask 1 1, .intForce 1 1 1, .twoWireWrite 1 [] {},
   .twoWireRead 1 1]
  (fun c => c.wf) = true := by decide

theorem test_wf_accepts_4 : List.all (α := Instr)
  [.dmaRun 1, .dmaStop 1, .dmaHeadWrite 1 1, .descriptorFetch 1 none, .copy 1, .fill 1, .compare 1, .nopDescriptor 1,
   .dmaBeatAnswer 1 1 1 false [] [] {}, .injectionTake 1 [] none, .refMonitor 0 false, .txEqWrite 1 1 1 1, .laneSleepWrite 1 false false,
   .retrain 1, .retrainSnrTrigger 1 1, .rtRefusedRetry 1, .rxFreezeWrite 1 false, .adaptDone 1 1 1, .injGo 1, .injRateTick 1,
   .checkerLockChange 1 false 1 1, .ltCellSend 1, .ltCellRx c0 1, .ctrlCellRx c0, .mgmtCellRx c0 g0, .groupCellRx c0,
   .unitCellRx c0, .idleCellRx c0, .badCellRx c0, .fkPortAlign 1, .fkPortDown 1, .memberUnreachable 1, .leaveRequest [⟨1, 1, 1, 0⟩],
   .leaveReturn 1 1 1, .faultReport [{ cause := 1, level := 1, region := 1 }], .recordClose 1, .safeClr false, .lfClr 1, .perfClear 1, .freezeAllWrite false,
   .perfCounterWrap 1 1 1, .thermalSample 0 0 0 0, .lifeTick, .cipLeaveRetry 1, .vatLeaveRetry 1, .amLockGained 1,
   .sigDetChange 1 false, .pcieLinkUp 1 1 1, .dimmTempHot 1 1]
  (fun c => c.wf) = true := by decide

theorem test_wf_refuses_fields :
    (([{ r0 with hdr := 2 ^ 64 }, { r0 with body := [256] }, { r0 with crc := 2 ^ 32 }] : List Rec).all (fun r => !r.wf)
      && ([{ p0 with port := 16 }, { p0 with domain := 256 }, { p0 with master := 2 ^ 80 }, { p0 with seq := 65536 }, { p0 with sec := 2 ^ 48 },
        { p0 with ns := 2 ^ 32 }, { p0 with entry := some 16384 }] : List Ptp).all (fun p => !p.wf)
      && ([.los 2, .lof 32, .lom 32, .ais 32, .tim 2] : List Defect).all (fun d => !d.wf)
      && ([{ c0 with port := 2 }, { c0 with hdr := 2 ^ 128 }, { c0 with payload := [256] },
        { c0 with payload := List.replicate 237 0 }, { c0 with crc := 2 ^ 32 }] : List Cell).all (fun c => !c.wf)
      && ([{ g0 with mem := 8 }, { g0 with role := 4 }, { g0 with tid := 2 ^ 18 }, { g0 with mbox := some [2 ^ 32] }] : List Mgmt).all (fun m => !m.wf)) = true := by decide +kernel

/-! Worked examples and tables of the manual -/

/-- R476's check values. -/
theorem test_crc_check_values : crc8 0 crcCheckBytes = 0xF4 ∧ crc16 crcCheckBytes = 0x29B1 ∧ crc32 crcCheckBytes = 0xCBF43926 := by decide +kernel
/-- R4's example: LT 1742.017.05.031.32768. -/
theorem test_lt_to_ticks : fieldTime 1742 17 5 31 + 32768 = 114172667920384 := by decide +kernel
/-- R72's example: one multiframe at 144 GBd delivers 252,958,720 bits at p = 1 and 238,080,000 at p = 0. -/
theorem test_payload_mf : mfPayload 9000 1 = 252958720 ∧ mfPayload 9000 0 = 238080000 := by decide +kernel
/-- R44's example: G = LT 2731.040.10.100 with EqD 872,484,700 launches at LT 2731.041.53.038.03932. -/
theorem test_grant_launch :
    (setL State.reset [(LTM_EQD, 872484700, 0)]).launchOf (fieldTime 2731 40 10 100) = fieldTime 2731 41 53 38 + 3932 := by decide +kernel
/-- R186's example: the tag of an upstream frame and its extension. -/
theorem test_line_tag :
    (tagUnit 0xBC53 0x123 5 0 335649751040000 true (List.replicate 1518 0)).take 16
      = [0x2F, 0x14, 0xC1, 0x23, 0x17, 0xBA, 0xC0, 0x9C] ++ bytesBE 8 335649751040000 := by decide +kernel
/-- R32's example: three channels contend, and three ties are served. -/
theorem test_arbitration_rotates :
    let a := State.reset
    let b := a.won rtDma 3 0
    let c := b.won rtDma 3 2
    a.winner rtDma 3 [0, 1, 2] = some 0 ∧ b.order rtDma 3 = [1, 2, 0] ∧ b.winner rtDma 3 [0, 2] = some 2 ∧ c.order rtDma 3 = [1, 0, 2]
      ∧ c.winner rtDma 3 [0, 1] = some 1 := by decide +kernel
/-- R217's example: a shaper in debt repays at the rate of the time, and is eligible again at 0 (rates in bytes per ns times 8,000,000). -/
theorem test_shaper_debt :
    let b : Bal := { v := -7016 * byteUnits, at_ := 0 }
    let c := b.accrue 10000000 (2000 * 8192 / 125) (4000 * byteUnits)
    balBytes c = -4516 ∧ balBytes (c.accrue 2000000 (20064 * 8192 / 125 + 1) (4000 * byteUnits)) = 0 := by decide +kernel
/-- R288's example: GD and DDOWN_A of a span of 2,412 km. -/
theorem test_ddown :
    cdTicks 41004 (-2400) = -6449
      ∧ (setL State.reset [(UPB_TRESP, 2048000000, 0), (LTM_EQD, 498757796, 0), (TIM_ASYM, 128451, 0), (TIM_GD, 2 ^ 32 - 6449, 0)]).ddownA
        = 774560101 := by decide +kernel
/-- R329's example: circular steps through a buffer of 13 words. -/
theorem test_circular_steps :
    [circ 0x10B 5 0x100 13 4096, circ 0x103 5 0x100 13 4096, circ 0x108 5 0x100 13 4096, circ 0x100 (-1) 0x100 13 4096, circ 0x10C (-30) 0x100 13 4096]
      = [0x103, 0x108, 0x100, 0x10C, 0xFB] := by decide +kernel
/-- R470's example: where four offsets lead. -/
theorem test_four_offsets :
    decodeAddr 0x01823A04 = some (.vat 65 0x3A04) ∧ decodeAddr 0x02032088 = some (.rule 200 0x88) ∧ decodeAddr 0x00500030 = some (.page .CIPU 34 0x30)
      ∧ decodeAddr 0x00510000 = none := by decide +kernel
/-- The S-box of AES at 0x53 (FIPS 197). -/
theorem test_aes_sbox : sbox 0x53 = 0xED ∧ sboxInv 0xED = 0x53 := by decide +kernel
/-- The classes of the fault causes named in R422 that are fatal or corrected. -/
theorem test_fault_classes : faultClass cPgmParity = 2 ∧ faultClass cLockViol = 2 ∧ faultClass cSelf = 3 ∧ faultClass cThermCrit = 3 := by decide +kernel

/-- 28 single steps of R94's scrambler are the step that the model takes at once. -/
theorem test_scrambler_steps :
    Nat.repeat scrShift 28 0x5A5A1234 = scrStep 0x5A5A1234 ∧ Nat.repeat scrShift 28 (scrSeed true 19 37 1041) = scrStep (scrSeed true 19 37 1041) := by
  decide +kernel
/-- R466's acceleration factors: exactly 1 at 90 °C, and the two of its example, to four places. -/
theorem test_life_rate :
    lifeRate 90 = 2 ^ 32 ∧ (lifeRate 80 * 10000 + 2 ^ 31) / 2 ^ 32 = 5308 ∧ (lifeRate 105 * 10000 + 2 ^ 31) / 2 ^ 32 = 24285 := by decide +kernel

/-! The machine -/

/-- What a command leaves. -/
def after (c : Instr) (s : State) : State :=
  match exec c s with
  | .next t => t
  | _ => s

/-- A step runs the front command; on an empty queue the block idles. -/
theorem test_step_takes_front :
    ((match step { State.reset with pending := [.dmaRun 3, .dmaRun 4] } with
      | .next t => some (t.pending, t.rd DMA_CH_RUN 3, t.rd DMA_CH_RUN 4)
      | _ => none) = some ([.dmaRun 4], 1, 0)) ∧ step State.reset = .next State.reset := ⟨by decide +kernel, rfl⟩
/-- HEAD is written while RUN is 0, and ignored while it is 1 (R366). -/
theorem test_dma_head_write :
    (after (.dmaHeadWrite 3 7) State.reset).rd DMA_CH_HEAD 3 = 7 ∧ (after (.dmaHeadWrite 3 7) (after (.dmaRun 3) State.reset)).rd DMA_CH_HEAD 3 = 0 := by
  decide +kernel
/-- CFG_LOCK takes its first write, even of 0, and is then locked (R349). -/
theorem test_cfg_lock_first_write :
    let s := after (.lockFieldWrite 0 0x2000C 0) { State.reset with mode := .listen }
    let t := after (.lockFieldWrite 0 0x2000C 1) s
    t.rd C_CFG_LOCK 2 = 0 ∧ t.rd C_LOCK_VIOL 2 = 1 ∧ t.rd PCI_LOCK_VIOLS = 1 := by decide +kernel
/-- PF1 may not change a PRV field, and the case is counted (R347, R348). -/
theorem test_priv_write_dropped :
    let s := after (.registerWrite 1 0x2010C true [60] none {} []) { State.reset with mode := .listen }
    s.rd FLT_TJ_WARN = 105 ∧ s.rd PCI_M_PRIV_WRITE 1 = 1 := by decide +kernel
/-- A read in a gap of the map ends as an Unsupported Request (R338). -/
theorem test_gap_read :
    let s := after (.counterLoRead 0 0x510000 1) { State.reset with mode := .listen }
    s.out = [.completion 0 1] ∧ s.rd PCI_UR_COUNT = 1 := by decide +kernel
/-- A request of two DWORDs gives LO and HI of one counter; one across a 64-byte boundary ends as an Unsupported Request (R338). -/
theorem test_pair_read :
    let s := ({ State.reset with mode := .listen }.wr LRX_BLOCKS_LO 5 0).wr LRX_BLOCKS_HI 7 0
    (after (.counterLoRead 0 (0x110000 + LRX_BLOCKS_LO.off) 2) s).out = [.readData 0 [5, 7]] ∧
    (after (.counterLoRead 0 0x11003C 2) s).out = [.completion 0 1] := by decide +kernel
/-- A write of GEN_MODE starts the square wave of R379, USER its 32 symbols, bit 63 first. -/
theorem test_patterns :
    let s := (({ State.reset with mode := .listen }.wr SER_L_GEN_USER_HI 0x1B000000 3).wr SER_L_GEN_MODE 6 3)
    (s.wr SER_L_GEN_MODE 5 3).patternOf 3 = [0, 0, 0, 0, 0, 0, 0, 0, 3, 3, 3, 3, 3, 3, 3, 3] ∧
    (s.patternOf 3).length = 32 ∧ (s.patternOf 3).take 5 = [0, 1, 3, 2, 0] := by decide +kernel

/-! Witnesses: the machine -/

def on_00 : State := { S0 with mode := .service, pending := [.swReset, .dmaRun 1], pins := { pgood := true, vddAon := true, pwrMainEn := true, resetN := true } }
def irq_00 (m : Nat) : State := { setL on_00 [(C_INT_EN, 4, 17), (PCI_IR_EN, 1, 17), (PCI_IR_FUNC, 1, 17), (PCI_IR_VECTOR, 5, 17), (C_PERF_FREEZE, 1, 17)] with msixOn := if m = 1 then [(261, 1)] else [] }

/-- The hypotheses of StepTakesFront's idling clause. -/
theorem witness_StepTakesFront : S0.pending = [] := rfl

/-- The hypotheses of StepKeepsCanonical: a step that leaves the mode behind. -/
theorem witness_StepKeepsCanonical : on_00.wf = true ∧ ∃ t, step on_00 = .next t ∧ t.mode ≠ on_00.mode :=
  ⟨by decide +kernel, swReset { on_00 with pending := [.dmaRun 1] }, rfl, by decide +kernel⟩

/-- The hypotheses of RegisterReadsBack and of CommandsStayInTheirParts: a canonical state; two copies below 2^20; two fields. -/
theorem witness_RegisterReadsBack : on_00.wf = true ∧ (3 < 2 ^ 20 ∧ 2 ^ 20 - 1 < 2 ^ 20 ∧ 2 ^ 20 - 1 ≠ 3) ∧ C_INT_EN.id ≠ C_INT_STAT.id := by decide +kernel

/-- The hypotheses of CommandsStayInTheirParts, and of ModeChangesOnlyHere: a software reset in SERVICE. -/
theorem witness_CommandsStayInTheirParts : on_00.wf = true := by decide +kernel
theorem witness_ModeChangesOnlyHere : on_00.wf = true ∧ ∃ t, exec .swReset on_00 = .next t ∧ t.mode ≠ on_00.mode :=
  ⟨by decide +kernel, swReset on_00, rfl, by decide +kernel⟩

/-- The hypotheses of InterruptRaised, with the vector unmasked and masked. -/
theorem witness_InterruptRaised :
    ((irq_00 1).wf = true ∧ 17 < 64 ∧ 2 < 32 ∧ (irq_00 1).perfStopped 17 = true ∧ (17 < 20 ∨ 34 < 17) ∧ (irq_00 1).rd C_INT_STAT 17 &&& (irq_00 1).rd C_INT_EN 17 = 0
      ∧ bit ((irq_00 1).rd C_INT_EN 17) 2 = true ∧ (irq_00 1).rd PCI_IR_EN 17 = 1
      ∧ smGet (irq_00 1).msixOn ((irq_00 1).rd PCI_IR_FUNC 17 * 256 + (irq_00 1).rd PCI_IR_VECTOR 17) = 1) ∧
    ((irq_00 0).wf = true ∧ 0 < 64 ∧ 31 < 32 ∧ (irq_00 0).perfStopped 17 = true ∧ (irq_00 0).rd C_INT_STAT 17 &&& (irq_00 0).rd C_INT_EN 17 = 0
      ∧ bit ((irq_00 0).rd C_INT_EN 17) 2 = true ∧ (irq_00 0).rd PCI_IR_EN 17 = 1
      ∧ smGet (irq_00 0).msixOn ((irq_00 0).rd PCI_IR_FUNC 17 * 256 + (irq_00 0).rd PCI_IR_VECTOR 17) ≠ 1) := by decide +kernel

/-- The hypotheses of ArbitrationRotates: DC2 wins among two channels that contend, and a table in which nothing has won. -/
theorem witness_ArbitrationRotates :
    (S0.won rtDma 16 0).winner rtDma 16 [0, 2] = some 2 ∧ (S0.won rtDma 16 0).order rtDma 16 = [1] ++ 2 :: (List.range 16).drop 3 ++ [0] ∧ S0.orders = []
      ∧ rtRings ≠ rtDma := by decide +kernel

/-! Witnesses: reset, boot and the record -/

def P0_02 : Pins := { pgood := true, vddAon := true, pwrMainEn := true, resetN := true, txdisN := true }
def SV_02 : State := { S0 with mode := .service, pins := P0_02 }
def BT_02 : State := { S0 with mode := .boot, pins := P0_02, boot := { tested := true } }
def w02_1 : State := SV_02
def w02_4 : State := { SV_02 with mode := .stable, pwr := { exitAt := some 5 }, pins := { P0_02 with pgood := false } }
def w02_6 : State := S0
def w02_7 : State := { S0 with pins := { vddAon := true, pwrMainEn := true } }
def w02_8 : State := { SV_02 with pwr := { transit := some .stable } }
def w02_9 : State := { S0 with pins := P0_02 }
def w02_12 : State := { S0 with pins := { vddAon := true } }.wr GLB_THERM_TRIP 1
def w02_15 : State := { S0 with mode := .boot, pins := P0_02 }
def w02_16 : State := (BT_02.wr BOT_STRAPS 1).wr BOT_HOST_GO 1
def w02_17 : State := BT_02.wr BOT_STRAPS 1
def w02_18 : State := (BT_02.wr BOT_STRAPS 2).wr BOT_BOOT_STATUS 10
def w02_19 : State := { S0 with mode := .listen, pins := P0_02 }
def w02_20 : State := { SV_02 with boot := { commit := some (1, [5]) } }
def w02_21 : State := { BT_02 with boot := {} }
def w02_23 : State := { BT_02 with boot := {} }.wr BOT_STRAPS 3
def w02_24 : State := { BT_02 with boot := {} }.wr BOT_STRAPS 2
def w02_26 : State := BT_02.wr BOT_STRAPS 2
def w02_27 : State := BT_02
def w02_28 : State := { BT_02 with boot := { tested := true, tried := 1 } }
def w02_30 : State := { BT_02 with boot := { tested := true, fifo := List.replicate 128 0 } }.wr BOT_STRAPS 2
def w02_31 : State := SV_02.wr BOT_REC_STAGE 7 955
def w02_32 : State := { SV_02 with boot := { flash := [(3,4)], commit := some (1, List.replicate 956 5) } }
def w02_33 : State := { SV_02 with boot := { flash := [(3,4),(1027,7)], commit := some (0, List.replicate 956 5) } }.wr BOT_REC_VALID 1
def w02_36 : State := setL SV_02 [(GLB_TJ_LD, 25, 0), (GLB_TJ_HD, 20, 0)]
def w02_37 : State := { SV_02 with boot := { flash := [(3,4),(1027,7)], commit := some (1, List.replicate 956 5) } }
def w02_38 : State := { SV_02 with boot := { flash := [(3,4),(1027,7)], commit := some (0, List.replicate 956 5) } }

/-- Hypotheses of ResetEntered that a state meets, clause by clause. -/
theorem witness_ResetEntered :
    (w02_1.wf = true ∧ 2 < 3 ∧ w02_1.mode ≠ Mode.reset) ∧
    (w02_1.wf = true) ∧
    (w02_1.wf = true ∧ w02_1.pins.pgood = true ∧ w02_1.pwr.transit ≠ some Mode.stable ∧ w02_1.mode ≠ Mode.reset) ∧
    (w02_4.wf = true ∧ w02_4.pwr.exitAt = some 5 ∧ w02_4.mode = Mode.stable ∧ w02_4.pins.pgood = false) ∧
    (w02_1.pins.vddAon = true) :=
  by refine ⟨?_, ?_, ?_, ?_, ?_⟩ <;> decide +kernel

/-- Hypotheses of PowerUpSequence that a state meets, clause by clause. -/
theorem witness_PowerUpSequence_1 :
    (w02_6.wf = true ∧ w02_6.pins.vddAon = false) ∧
    (w02_7.pins.vddAon = true ∧ w02_7.pins.pwrMainEn = true) ∧
    (w02_8.pins.pgood = true ∧ w02_8.pwr.transit = some Mode.stable) ∧
    (w02_9.wf = true ∧ w02_9.pins.pgood = true ∧ w02_9.pwr.transit ≠ some Mode.stable ∧ w02_9.mode = Mode.reset) ∧
    (w02_9.wf = true ∧ 65535 < 2 ^ 16 ∧ w02_9.mode = Mode.reset ∧ w02_9.pins.vddAon = true ∧ w02_9.pins.pwrMainEn = true ∧
      w02_9.pins.pgood = true) ∧
    (w02_9.wf = true ∧ 39749 < 2 ^ 16 ∧ w02_9.mode = Mode.reset ∧ w02_9.pins.vddAon = true ∧ w02_9.pins.pwrMainEn = true ∧
      w02_9.pins.pgood = true) ∧
    (w02_12.mode = Mode.reset ∧ w02_12.pins.vddAon = true ∧ w02_12.pins.pwrMainEn = false ∧ w02_12.on GLB_THERM_TRIP = true) ∧
    (w02_12.wf = true ∧ w02_12.pins.vddAon = true) :=
  by refine ⟨?_, ?_, ?_, ?_, ?_, ?_, ?_, ?_⟩ <;> decide +kernel

/-- Hypotheses of PowerUpSequence that a state meets, clause by clause. -/
theorem witness_PowerUpSequence_2 :
    (w02_1.wf = true ∧ w02_1.pins.vddAon = true) ∧
    (w02_15.mode = Mode.boot ∧ w02_15.boot.tested = false ∧ w02_15.rd BOT_BOOT_STATUS = 0 ∧ w02_15.bootSrc = 0) ∧
    (w02_16.wf = true ∧ w02_16.hostLoads = true ∧ w02_16.rd BOT_HOST_GO = 1 ∧ ([] : List Nat).length < 512) ∧
    (w02_17.wf = true ∧ w02_17.hostLoads = true) ∧
    (w02_18.mode = Mode.boot ∧ w02_18.boot.tested = true ∧ w02_18.bootSrc = 2 ∧ w02_18.rd BOT_BOOT_STATUS = 10 ∧
      w02_18.boot.fifo.length < 128) ∧
    (w02_19.wf = true ∧ w02_19.mode = Mode.listen ∧ w02_19.rd BOT_REC_GO = 0) ∧
    (w02_20.wf = true ∧ w02_20.boot.commit = some (1, [5])) :=
  by refine ⟨?_, ?_, ?_, ?_, ?_, ?_, ?_⟩ <;> decide +kernel

/-- Hypotheses of BootLoadsItsImage that a state meets, clause by clause. -/
theorem witness_BootLoadsItsImage :
    (w02_21.wf = true ∧ 31 < 32 ∧ 3 < 2 ^ 20 ∧ w02_21.mode = Mode.boot ∧ w02_21.boot.tested = false ∧ w02_21.rd BOT_BOOT_STATUS = 0) ∧
    (w02_21.wf = true ∧ w02_21.mode = Mode.boot ∧ w02_21.boot.tested = false ∧ w02_21.rd BOT_BOOT_STATUS = 0) ∧
    (w02_23.wf = true ∧ w02_23.mode = Mode.boot ∧ w02_23.boot.tested = false ∧ w02_23.rd BOT_BOOT_STATUS = 0) ∧
    (w02_24.wf = true ∧ w02_24.mode = Mode.boot ∧ w02_24.boot.tested = false ∧ w02_24.rd BOT_BOOT_STATUS = 0) ∧
    (w02_17.wf = true ∧ w02_17.hostLoads = true) ∧
    (w02_26.mode = Mode.boot ∧ w02_26.boot.tested = true ∧ w02_26.bootSrc = 2 ∧ w02_26.rd BOT_BOOT_STATUS ≠ 8 ∧
      w02_26.fifoFull = false) ∧
    (w02_27.wf = true ∧ w02_27.mode = Mode.boot ∧ w02_27.boot.tested = true ∧ w02_27.rd BOT_BOOT_STATUS ≠ 8 ∧ w02_27.bootSrc = 0 ∧
      w02_27.boot.tried < 2) ∧
    (w02_28.wf = true ∧ w02_28.mode = Mode.boot ∧ w02_28.boot.tested = true ∧ w02_28.rd BOT_BOOT_STATUS ≠ 8 ∧ w02_28.bootSrc = 0 ∧
      w02_28.boot.tried < 2) ∧
    (w02_16.wf = true ∧ w02_16.hostLoads = true ∧ w02_16.rd BOT_HOST_GO = 1) ∧
    (w02_30.wf = true ∧ w02_30.mode = Mode.boot ∧ w02_30.boot.tested = true ∧ w02_30.bootSrc = 2 ∧ w02_30.rd BOT_BOOT_STATUS ≠ 8 ∧
      w02_30.fifoFull = true) :=
  by refine ⟨?_, ?_, ?_, ?_, ?_, ?_, ?_, ?_, ?_, ?_⟩ <;> decide +kernel

/-- Hypotheses of RecordCommit that a state meets, clause by clause. -/
theorem witness_RecordCommit :
    (w02_31.wf = true ∧ w02_31.rd BOT_REC_GO = 0 ∧ w02_31.dark = false) ∧
    (w02_32.wf = true ∧ 1 < 2 ∧ (List.replicate 956 5).length = 956 ∧ w02_32.boot.commit = some (1, List.replicate 956 5)) ∧
    (w02_33.wf = true ∧ 0 < 2 ∧ (List.replicate 956 5).length = 956 ∧ w02_33.boot.commit = some (0, List.replicate 956 5)) ∧
    (w02_37.wf = true ∧ 1 < 2 ∧ w02_37.boot.commit = some (1, List.replicate 956 5) ∧ 0 < 3 ∧ 3 < 5) ∧
    (w02_38.wf = true ∧ 0 < 2 ∧ w02_38.boot.commit = some (0, List.replicate 956 5) ∧ 0 < 4 ∧ 4 < 5) :=
  by refine ⟨?_, ?_, ?_, ?_, ?_⟩ <;> decide +kernel

/-- Hypotheses of TemperatureAndWear that a state meets, clause by clause. -/
theorem witness_TemperatureAndWear :
    (w02_1.wf = true ∧ w02_1.dark = false ∧ ∀ (x : Int), x ∈ [104, -200, -128, 3] → satS 8 x < ↑(w02_1.rd FLT_TJ_WARN) ∧ x < 120) ∧
    (w02_1.wf = true ∧ w02_1.dark = false ∧ (125 ≤ 104 ∨ 125 ≤ 125 ∨ 125 ≤ -128 ∨ 125 ≤ 3)) ∧
    (w02_36.wf = true ∧ w02_36.mode ≠ Mode.stable ∧ w02_36.pins.vddAon = true ∧ 25 ∈ List.map (fun f => w02_36.rdS f) dieTemps ∧
      ∀ (x : Int), x ∈ List.map (fun f => w02_36.rdS f) dieTemps → x ≤ 25) :=
  by refine ⟨?_, ?_, ?_⟩ <;> decide +kernel

/-! Witnesses: modes -/

def HR_03 (m : Mode) : State := { S0 with mode := m, pins := { pgood := true, vddAon := true, pwrMainEn := true, resetN := true }, time := { lt := 1000 * mfTicks + 70 }, rx := { chains := [(0x200, { place := some 100 })], first := false } }
def H1_03 (m : Mode) : State := setL (HR_03 m) [(LRX_SYM_RATE, 144000, 0), (UPB_TID_VALID, 1, 0), (UPB_TID, 5, 0), (LTM_STATE, 2, 0)]
def gack_03 (res : Nat) : Rec := msgRec 0x0B 9 5 (bytesBE 4 (res * 2 ^ 30 + 125 * 2 ^ 19 + 7 * 2 ^ 8)) true (12 * 2 ^ 28 + 3 * 2 ^ 21)
def gz_03 : State := { H1_03 .graze with pwr := { grazeE := some 5000, awake := true, mapDone := false }, rx := { chains := [(0x200, { place := some 100 })], first := true } }
def w03_1 : State := H1_03 .service
def w03_2 : State := H1_03 .listen
def w03_3 : State := H1_03 .graze
def w03_7 : State := H1_03 .join
def w03_8 : State := (H1_03 .listen).wr PWR_WAKE_EN 0
def w03_10 : State := (H1_03 .graze).wr LTM_FINE_RANGE_REQ 1
def w03_11 : State := { H1_03 .service with pwr := { transit := some .graze } }
def w03_12 : State := { H1_03 .service with pwr := { grazeReq := some 4 } }
def w03_16 : State := { H1_03 .service with pwr := { transit := some .graze, leaves := [⟨1,2,3,4⟩] } }.wr CAV_STATE 3
def w03_17 : State := { H1_03 .service with pwr := { transit := some .graze, leaves := [⟨1,2,3,4⟩] } }.wr PWR_WAKE_LATCH 8
def w03_18 : State := { H1_03 .graze with pwr := { wake := 9 } }.wr CAV_STATE 4
def w03_19 : State := { H1_03 .graze with pwr := { transit := some .service } }
def w03_21 : State := { H1_03 .graze with pwr := { grazeE := some 5000 } }
def w03_22 : State := gz_03
def w03_24 : State := { H1_03 .graze with pwr := { grazeE := some 5000 } }.wr PWR_GRAZE_TMO 3
def w03_25 : State := { H1_03 .listen with pwr := { transit := some .stable }, cip := { keys := [(0, [1]), (7, [2])] } }
def w03_26 : State := { H1_03 .service with pwr := { transit := some .stable }, cip := { keys := [(0, [1]), (7, [2])] } }.wr PWR_WAKE_LATCH 4
def w03_27 : State := { H1_03 .service with pwr := { transit := some .stable, notice := some (3, some 4) } }
def w03_28 : State := { H1_03 .stable with time := {} }.wr PWR_WAKE_EN 2
def w03_29 : State := { H1_03 .service with pwr := { transit := some .stable } }.wr PWR_WAKE_EN 7
def w03_30 : State := (H1_03 .stable).wr PWR_WAKE_EN 1
def w03_31 : State := { H1_03 .stable with pwr := { wake := 2 } }
def w03_32 : State := { H1_03 .stable with pwr := { transit := some .listen } }
def w03_33 : State := { H1_03 .service with pwr := { transit := some .listen } }
def w03_34 : State := (H1_03 .listen).wr CAV_STATE 4
def w03_37 : State := (H1_03 .service).wr PWR_PKG_BUDGET 0
def w03_38 : State := { H1_03 .service with pwr := { leaves := [⟨1,2,3,4⟩, ⟨1,20,3,5⟩, ⟨2,2,3,4⟩] } }
def w03_40 : State := (H1_03 .service).wr PWR_PKG_BUDGET 1750

/-- Hypotheses of ModeRequestsJudged that a state meets, clause by clause. -/
theorem witness_ModeRequestsJudged_1 :
    (w03_1.wf = true ∧ w03_1.pwr.transit = none ∧ w03_1.rd LTM_FINE_RANGE_REQ = 0 ∧ w03_1.mode = Mode.service ∧
      w03_1.queueOpen = true) ∧
    (w03_2.wf = true ∧ w03_2.pwr.transit = none ∧ w03_2.rd LTM_FINE_RANGE_REQ = 0 ∧
      (w03_2.mode = Mode.listen ∨ w03_2.mode = Mode.graze) ∧ w03_2.rd PWR_WAKE_EN ≠ 0) ∧
    (w03_3.wf = true ∧ w03_3.pwr.transit = none ∧ w03_3.rd LTM_FINE_RANGE_REQ = 0 ∧
      (w03_3.mode = Mode.listen ∨ w03_3.mode = Mode.graze) ∧ w03_3.rd PWR_WAKE_EN ≠ 0) ∧
    (w03_1.wf = true ∧ w03_1.pwr.transit = none ∧ w03_1.rd LTM_FINE_RANGE_REQ = 0 ∧ w03_1.mode = Mode.service ∧
      w03_1.rd PWR_WAKE_EN ≠ 0 ∧ w03_1.queueOpen = true) ∧
    (w03_3.wf = true ∧ w03_3.pwr.transit = none ∧ w03_3.rd LTM_FINE_RANGE_REQ = 0 ∧ w03_3.mode = Mode.graze) ∧
    (w03_2.wf = true ∧ (Instr.modeReqGraze = Instr.modeReqGraze ∧ 1 = 1 ∨ Instr.modeReqGraze = Instr.modeReqStable ∧
      1 = 2 ∨ Instr.modeReqGraze = Instr.modeReqWake ∧ 1 = 3) ∧ w03_2.pwr.transit = none ∧ (w03_2.rd LTM_FINE_RANGE_REQ ≠ 0 ∨ 1 = 1 ∧
      w03_2.mode ≠ Mode.service ∨ 1 = 3 ∧ w03_2.mode ≠ Mode.graze ∨ 1 = 2 ∧ (w03_2.rd PWR_WAKE_EN = 0 ∨ w03_2.mode ≠ Mode.listen ∧
      w03_2.mode ≠ Mode.service ∧ w03_2.mode ≠ Mode.graze))) ∧
    (w03_7.wf = true ∧ (Instr.modeReqStable = Instr.modeReqGraze ∧ 2 = 1 ∨ Instr.modeReqStable = Instr.modeReqStable ∧
      2 = 2 ∨ Instr.modeReqStable = Instr.modeReqWake ∧ 2 = 3) ∧ w03_7.pwr.transit = none ∧
      (w03_7.rd LTM_FINE_RANGE_REQ ≠ 0 ∨ 2 = 1 ∧ w03_7.mode ≠ Mode.service ∨ 2 = 3 ∧ w03_7.mode ≠ Mode.graze ∨ 2 = 2 ∧
      (w03_7.rd PWR_WAKE_EN = 0 ∨ w03_7.mode ≠ Mode.listen ∧ w03_7.mode ≠ Mode.service ∧ w03_7.mode ≠ Mode.graze))) ∧
    (w03_8.wf = true ∧ (Instr.modeReqStable = Instr.modeReqGraze ∧ 2 = 1 ∨ Instr.modeReqStable = Instr.modeReqStable ∧
      2 = 2 ∨ Instr.modeReqStable = Instr.modeReqWake ∧ 2 = 3) ∧ w03_8.pwr.transit = none ∧
      (w03_8.rd LTM_FINE_RANGE_REQ ≠ 0 ∨ 2 = 1 ∧ w03_8.mode ≠ Mode.service ∨ 2 = 3 ∧ w03_8.mode ≠ Mode.graze ∨ 2 = 2 ∧
      (w03_8.rd PWR_WAKE_EN = 0 ∨ w03_8.mode ≠ Mode.listen ∧ w03_8.mode ≠ Mode.service ∧ w03_8.mode ≠ Mode.graze))) :=
  by refine ⟨?_, ?_, ?_, ?_, ?_, ?_, ?_, ?_⟩ <;> decide +kernel

/-- Hypotheses of ModeRequestsJudged that a state meets, clause by clause. -/
theorem witness_ModeRequestsJudged_2 :
    (w03_1.wf = true ∧ (Instr.modeReqWake = Instr.modeReqGraze ∧ 3 = 1 ∨ Instr.modeReqWake = Instr.modeReqStable ∧
      3 = 2 ∨ Instr.modeReqWake = Instr.modeReqWake ∧ 3 = 3) ∧ w03_1.pwr.transit = none ∧ (w03_1.rd LTM_FINE_RANGE_REQ ≠ 0 ∨ 3 = 1 ∧
      w03_1.mode ≠ Mode.service ∨ 3 = 3 ∧ w03_1.mode ≠ Mode.graze ∨ 3 = 2 ∧ (w03_1.rd PWR_WAKE_EN = 0 ∨ w03_1.mode ≠ Mode.listen ∧
      w03_1.mode ≠ Mode.service ∧ w03_1.mode ≠ Mode.graze))) ∧
    (w03_10.wf = true ∧ (Instr.modeReqWake = Instr.modeReqGraze ∧ 3 = 1 ∨ Instr.modeReqWake = Instr.modeReqStable ∧
      3 = 2 ∨ Instr.modeReqWake = Instr.modeReqWake ∧ 3 = 3) ∧ w03_10.pwr.transit = none ∧
      (w03_10.rd LTM_FINE_RANGE_REQ ≠ 0 ∨ 3 = 1 ∧ w03_10.mode ≠ Mode.service ∨ 3 = 3 ∧ w03_10.mode ≠ Mode.graze ∨ 3 = 2 ∧
      (w03_10.rd PWR_WAKE_EN = 0 ∨ w03_10.mode ≠ Mode.listen ∧ w03_10.mode ≠ Mode.service ∧ w03_10.mode ≠ Mode.graze))) ∧
    (w03_11.wf = true ∧ (Instr.modeReqStable = Instr.modeReqGraze ∧ 2 = 1 ∨ Instr.modeReqStable = Instr.modeReqStable ∧
      2 = 2 ∨ Instr.modeReqStable = Instr.modeReqWake ∧ 2 = 3) ∧ w03_11.pwr.transit ≠ none) :=
  by refine ⟨?_, ?_, ?_⟩ <;> decide +kernel

/-- Hypotheses of GrazeAnswered that a state meets, clause by clause. -/
theorem witness_GrazeAnswered :
    (w03_12.wf = true ∧ w03_12.takesMessage 11 (gack_03 0) = true ∧
      w03_12.effBoundary (msgOf (gack_03 0)).effWord = some (((H1_03 Mode.service).effBoundary (12 * 2 ^ 28 + 3 * 2 ^ 21)).getD 0) ∧
      w03_12.pwr.grazeReq ≠ none ∧ bits (msgWord (msgOf (gack_03 0)) 0) 31 30 = 0) ∧
    (w03_12.wf = true ∧ w03_12.takesMessage 11 (gack_03 1) = true ∧ w03_12.pwr.grazeReq ≠ none ∧
      bits (msgWord (msgOf (gack_03 1)) 0) 31 30 = 1) ∧
    (w03_1.wf = true ∧ w03_1.takesMessage 11 (gack_03 1) = true ∧ w03_1.pwr.grazeReq = none) ∧
    (w03_12.wf = true ∧ w03_12.pwr.grazeReq = some 4) :=
  by refine ⟨?_, ?_, ?_, ?_⟩ <;> decide +kernel

/-- Hypotheses of GrazeEnteredAndLeft that a state meets, clause by clause. -/
theorem witness_GrazeEnteredAndLeft :
    ((Instr.grazeEntry = Instr.grazeEntry ∨ Instr.grazeEntry = Instr.modeTransitionComplete) ∧ w03_16.wf = true ∧
      w03_16.pwr.transit = some Mode.graze ∧ w03_16.inAir = false) ∧
    ((Instr.modeTransitionComplete = Instr.grazeEntry ∨ Instr.modeTransitionComplete = Instr.modeTransitionComplete) ∧
      w03_17.wf = true ∧ w03_17.pwr.transit = some Mode.graze ∧ w03_17.inAir = false) ∧
    (w03_18.wf = true ∧ w03_18.mode = Mode.graze ∧ w03_18.pwr.transit = none ∧ w03_18.pwr.wake ≠ 0 ∧ w03_18.join.toListen = false) ∧
    (w03_19.wf = true ∧ w03_19.pwr.transit = some Mode.service ∧ w03_19.join.toListen = false ∧ w03_19.rd LTM_STATE = ltLocked ∧
      w03_19.rd PWR_MODE_REQ = 0) ∧
    (w03_16.wf = true ∧ w03_16.pwr.transit = some Mode.graze ∧ w03_16.inAir = false) :=
  by refine ⟨?_, ?_, ?_, ?_, ?_⟩ <;> decide +kernel

/-- Hypotheses of GrazeWakes that a state meets, clause by clause. -/
theorem witness_GrazeWakes :
    (w03_21.wf = true ∧ w03_21.mode = Mode.graze ∧ w03_21.pwr.awake = false ∧ w03_21.pwr.transit = none ∧
      w03_21.pwr.grazeE = some 5000) ∧
    (w03_22.wf = true ∧ w03_22.hears = true ∧ w03_22.wakeWindow = true ∧ w03_22.pwr.transit = none ∧ w03_22.pwr.wake = 0 ∧
      w03_22.rx.first = true ∧ w03_22.parserOn = true ∧ (w03_22.chain ctlStream).ptr = none ∧
      (w03_22.chain ctlStream).place = some 100 ∧ recType (recOf 1 5 (bytesBE 4 6)) = 1 ∧
      recHeadOk (recOf 1 5 (bytesBE 4 6)) = true ∧ recBodyOk (recOf 1 5 (bytesBE 4 6)) = true ∧
      w03_22.addressed (recTid (recOf 1 5 (bytesBE 4 6))) = true ∧ recEnd 100 (recOf 1 5 (bytesBE 4 6)) ≤ w03_22.ctlBytes ∧
      w03_22.rd LTM_STATE = ltLocked ∧ recEnd 100 (recOf 1 5 (bytesBE 4 6)) ≤ (frameRange w03_22.symPerSlot 0 1 0).snd ∧
      w03_22.mapNames (recOf 1 5 (bytesBE 4 6)).body = false) ∧
    (w03_22.wf = true ∧ w03_22.hears = true ∧ w03_22.wakeWindow = true ∧ w03_22.pwr.transit = none ∧ w03_22.pwr.wake = 0 ∧
      w03_22.rx.first = true ∧ w03_22.parserOn = true ∧ (w03_22.chain ctlStream).ptr = none ∧
      (w03_22.chain ctlStream).place = some 100 ∧ recType (recOf 1 5 (bytesBE 4 5)) = 1 ∧
      recHeadOk (recOf 1 5 (bytesBE 4 5)) = true ∧ recBodyOk (recOf 1 5 (bytesBE 4 5)) = true ∧
      w03_22.addressed (recTid (recOf 1 5 (bytesBE 4 5))) = true ∧ recEnd 100 (recOf 1 5 (bytesBE 4 5)) ≤ w03_22.ctlBytes ∧
      w03_22.rd LTM_STATE = ltLocked ∧
      ((frameRange w03_22.symPerSlot 0 1 0).snd < recEnd 100 (recOf 1 5 (bytesBE 4 5)) ∨ w03_22.mapNames (recOf 1 5 (bytesBE 4 5)).body = true)) ∧
    (w03_24.wf = true ∧ w03_24.pwr.grazeE = some 5000 ∧ w03_24.rd PWR_GRAZE_TMO ≠ 0 ∧ w03_24.mode = Mode.graze ∧
      w03_24.pwr.transit = none) :=
  by refine ⟨?_, ?_, ?_, ?_⟩ <;> decide +kernel

/-- Hypotheses of StableEnteredAndLeft that a state meets, clause by clause. -/
theorem witness_StableEnteredAndLeft_1 :
    ((Instr.stableEntry = Instr.stableEntry ∨ Instr.stableEntry = Instr.modeTransitionComplete) ∧ w03_25.wf = true ∧
      w03_25.pwr.transit = some Mode.stable ∧ w03_25.pwr.notice = none ∧ w03_25.up.bursts = [] ∧ w03_25.up.disc = none ∧
      w03_25.rd PWR_MODE_REQ = 0) ∧
    ((Instr.modeTransitionComplete = Instr.stableEntry ∨ Instr.modeTransitionComplete = Instr.modeTransitionComplete) ∧
      w03_26.wf = true ∧ w03_26.pwr.transit = some Mode.stable ∧ w03_26.pwr.notice = none ∧ w03_26.up.bursts = [] ∧
      w03_26.up.disc = none ∧ w03_26.rd PWR_MODE_REQ = 0) ∧
    (w03_27.wf = true ∧ w03_27.pwr.notice = some (3, some 4)) ∧
    (bit (w03_28.rd PWR_WAKE_EN) wkTone = true ∧ w03_28.mode = Mode.stable ∧ w03_28.pwr.transit = none) ∧
    (w03_29.wf = true ∧ bit (w03_29.rd PWR_WAKE_EN) wkTone = true ∧ w03_29.pwr.transit = some Mode.stable) ∧
    (w03_30.wf = true ∧ w03_30.pins.sd = false ∧ bit (w03_30.rd PWR_WAKE_EN) wkSd = true ∧ w03_30.mode = Mode.stable ∧
      w03_30.pwr.transit = none) ∧
    (w03_31.wf = true ∧ w03_31.mode = Mode.stable ∧ w03_31.pwr.transit = none ∧ w03_31.pwr.wake ≠ 0) ∧
    (w03_32.wf = true ∧ w03_32.pwr.transit = some Mode.listen ∧ w03_32.inAir = false ∧
      (w03_32.mode = Mode.stable → w03_32.pins.pgood = true) ∧ w03_32.rd PWR_MODE_REQ = 0) :=
  by refine ⟨?_, ?_, ?_, ?_, ?_, ?_, ?_, ?_⟩ <;> decide +kernel

/-- Hypotheses of StableEnteredAndLeft that a state meets, clause by clause. -/
theorem witness_StableEnteredAndLeft_2 :
    (w03_33.wf = true ∧ w03_33.pwr.transit = some Mode.listen ∧ w03_33.inAir = false ∧
      (w03_33.mode = Mode.stable → w03_33.pins.pgood = true) ∧ w03_33.rd PWR_MODE_REQ = 0) ∧
    (w03_34.wf = true ∧ w03_34.mode = Mode.listen ∧ w03_34.pwr.transit = none ∧ w03_34.rd CAV_STATE = cavRefresh ∧
      w03_34.cave.waiters = []) ∧
    (w03_25.wf = true ∧ w03_25.pwr.transit = some Mode.stable ∧ w03_25.pwr.notice = none ∧ w03_25.up.bursts = [] ∧
      w03_25.up.disc = none ∧ w03_25.rd PWR_MODE_REQ = 0) :=
  by refine ⟨?_, ?_, ?_⟩ <;> decide +kernel

/-- Hypotheses of LeaveAgainstBudget that a state meets, clause by clause. -/
theorem witness_LeaveAgainstBudget :
    (w03_1.wf = true ∧ 0 < 6 ∧ w03_1.dark = false) ∧
    (w03_37.wf = true ∧ 5 < 6 ∧ w03_37.dark = false) ∧
    (w03_38.wf = true ∧ 1 < 6) ∧
    (w03_1.dark = false) ∧
    (w03_40.wf = true ∧ { cls := 1, region := 2, block := 3 : LeaveReq }.cls < 6 ∧
      { cls := 4, region := 5, block := 6 : LeaveReq }.cls < 6 ∧
      { cls := 1, region := 2, block := 3 : LeaveReq }.cls ≠ { cls := 4, region := 5, block := 6 : LeaveReq }.cls ∧
      w03_40.dark = false ∧
      List.filter (fun c => c == { cls := 1, region := 2, block := 3 : LeaveReq }.cls || c == { cls := 4, region := 5, block := 6 : LeaveReq }.cls) (w03_40.order rtGov 6) = [{ cls := 1, region := 2, block := 3 : LeaveReq }.cls, { cls := 4, region := 5, block := 6 : LeaveReq }.cls] ∧
      w03_40.shareOf { cls := 1, region := 2, block := 3 : LeaveReq }.region < leavePowerOf { cls := 1, region := 2, block := 3 : LeaveReq }.cls { cls := 1, region := 2, block := 3 : LeaveReq }.watts ∧
      w03_40.shareOf { cls := 4, region := 5, block := 6 : LeaveReq }.region < leavePowerOf { cls := 4, region := 5, block := 6 : LeaveReq }.cls { cls := 4, region := 5, block := 6 : LeaveReq }.watts ∧
      w03_40.entering = false ∧ w03_40.tooWarm = false ∧ w03_40.pwr.faulted = [] ∧
      w03_40.basePower + w03_40.allotPower + w03_40.leavePower + leavePowerOf { cls := 1, region := 2, block := 3 : LeaveReq }.cls { cls := 1, region := 2, block := 3 : LeaveReq }.watts ≤ w03_40.budget ∧
      w03_40.budget < w03_40.basePower + w03_40.allotPower + w03_40.leavePower + leavePowerOf { cls := 1, region := 2, block := 3 : LeaveReq }.cls { cls := 1, region := 2, block := 3 : LeaveReq }.watts + leavePowerOf { cls := 4, region := 5, block := 6 : LeaveReq }.cls { cls := 4, region := 5, block := 6 : LeaveReq }.watts) :=
  by refine ⟨?_, ?_, ?_, ?_, ?_⟩ <;> decide +kernel

/-! Witnesses: line time -/

def HR_04 (m : Mode) : State := { S0 with mode := m, pins := { pgood := true, vddAon := true, pwrMainEn := true, resetN := true }, time := { lt := 1000 * mfTicks + 70 }, rx := { chains := [(0x200, { place := some 100, cur := { bytes := 50000 } })], first := false } }
def H1_04 (m : Mode) : State := setL (HR_04 m) [(LRX_SYM_RATE, 144000, 0), (UPB_TID_VALID, 1, 0), (UPB_TID, 5, 0), (LTM_STATE, 2, 0)]
def Hold_04 (m : Mode) : State := (let s := H1_04 m; { s with time := { s.time with holdStart := some 1000, holdTicks := 77 }, up := { cal := [(3, { bits := 5, g := 100, est := 1 })] } }).wr LTM_STATE 3
def pm_04 (p1 : Nat) : Rec := msgRec 6 9 5 (bytesBE 4 (5*2^14) ++ bytesBE 4 p1 ++ List.replicate 20 0)
def w04_1 : State := H1_04 .service
def w04_2 : State := (H1_04 .service).wr LTM_EQD_PEND 7000
def w04_3 : State := { (H1_04 .listen).wr LTM_EQD_PEND 3 with up := { lastEnd := some (nextEdge frameTicks (1000 * mfTicks + 70) none - 5) } }
def w04_5 : State := (H1_04 .service).wr CIP_MISMATCH_SF 5
def w04_7 : State := { (H1_04 .service).wr C_APPLY_LT 0xFFFF0000 11 with shadow := [{ page := 11, key := TIM_ASYM.key 0, val := 3, ap := .page }] }
def w04_8 : State := { H1_04 .service with seals := [{ page := 11, kind := 0, req := 5, target := none, taken := none, fields := [] }] }
def w04_9 : State := { H1_04 .service with seals := [{ page := 11, kind := bkAtLt, req := 5, target := some (1000 * mfTicks + 3000), taken := none, fields := [] }] }
def w04_10 : State := { H1_04 .service with seals := [{ page := 11, kind := bkSlot, req := 5, target := none, taken := none, fields := [{ page := 11, key := TIM_ASYM.key 3, val := 77, ap := .page }] }] }
def w04_11 : State := { H1_04 .service with seals := [{ page := 11, kind := bkAtLt, req := 5, target := some (1000 * mfTicks + 3000), taken := none, fields := [{ page := 11, key := TIM_ASYM.key 3, val := 77, ap := .page }] }] }
def w04_12 : State := { H1_04 .service with seals := [{ page := 14, kind := bkPacket, req := 5, target := none, taken := none, fields := [{ page := 14, key := QSH_UQ_QUANTUM.key 3, val := 77, ap := .page }], marked := true }], pk := { lanes := [(4, { items := [.marker 14] })] } }
def w04_13 : State := { (H1_04 .service).wr CLS_VSTATE (1 * 16 + 2) with seals := [{ page := 13, kind := bkPacket, req := 5, target := none, taken := none, fields := [{ page := 13, key := CLS_CUR_VER.key 0, val := 2, ap := .packet }], marked := true }] }
def w04_15 : State := { H1_04 .service with seals := [{ page := 13, kind := bkPacket, req := 1000 * mfTicks, target := none, taken := none, fields := [] }] }
def w04_16 : State := { H1_04 .service with seals := [{ page := 13, kind := bkPacket, req := 5, target := none, taken := none, fields := [], marked := true }], pk := { lanes := [(4, { items := [.marker 13] })] } }
def w04_17 : State := (Hold_04 .service).wr UPB_REGISTERED 1
def w04_18 : State := Hold_04 .join
def w04_19 : State := Hold_04 .service
def w04_25 : State := (H1_04 .service).wr64 LTM_LE_TARGET_LO LTM_LE_TARGET_HI (1001 * mfTicks) 7
def w04_26 : State := (H1_04 .service).wr64 LTM_LE_TARGET_LO LTM_LE_TARGET_HI (1001 * mfTicks + 5) 7
def w04_27 : State := (H1_04 .service).wr LTM_LE_ARMED 1 7
def w04_28 : State := setL ((H1_04 .service).wr64 LTM_LE_TARGET_LO LTM_LE_TARGET_HI (1001 * mfTicks) 7) [(LTM_LE_ARMED, 1, 7), (LTM_LE_ACTION, 3, 7)]
def w04_29 : State := setL ((H1_04 .service).wr64 LTM_LE_TARGET_LO LTM_LE_TARGET_HI (1001 * mfTicks) 7) [(LTM_LE_ARMED, 1, 7), (LTM_LE_ACTION, 3, 7), (LTM_LE_PERIOD, 6, 7)]
def w04_30 : State := setL ((H1_04 .service).wr64 LTM_LE_TARGET_LO LTM_LE_TARGET_HI (1000 * mfTicks + 70) 7) [(LTM_LE_ARMED, 1, 7), (LTM_LE_ACTION, 3, 7)]

/-- Hypotheses of BoundariesOnTheGrid that a state meets, clause by clause. -/
theorem witness_BoundariesOnTheGrid :
    (w04_1.wf = true ∧ w04_1.dark = false ∧ w04_1.seals = [] ∧ w04_1.flt.freezePend = none) ∧
    (w04_2.wf = true ∧ w04_2.dark = false ∧ w04_2.seals = [] ∧ w04_2.time.step = none ∧ w04_2.time.eqdLoad = none ∧
      w04_2.join.acts = [] ∧ w04_2.rx.met = [] ∧ w04_2.rdS LTM_EQD_PEND ≠ 0 ∧ w04_2.rd FKL_ROLE = 0 ∧
      0 ≤ ↑(w04_2.rd LTM_EQD) + clampI (-4194) 4194 (w04_2.rdS LTM_EQD_PEND) ∧
      ↑(w04_2.rd LTM_EQD) + clampI (-4194) 4194 (w04_2.rdS LTM_EQD_PEND) < 2 ^ 32) ∧
    (w04_3.wf = true ∧ w04_3.dark = false ∧ w04_3.seals = [] ∧ w04_3.time.step = none ∧ w04_3.time.eqdLoad = none ∧
      w04_3.join.acts = [] ∧ w04_3.rx.met = [] ∧ w04_3.rdS LTM_EQD_PEND ≠ 0 ∧ w04_3.rd FKL_ROLE = 0 ∧
      0 ≤ ↑(w04_3.rd LTM_EQD) + clampI (-4194) 4194 (w04_3.rdS LTM_EQD_PEND) ∧
      ↑(w04_3.rd LTM_EQD) + clampI (-4194) 4194 (w04_3.rdS LTM_EQD_PEND) < 2 ^ 32) ∧
    (w04_1.wf = true ∧ w04_1.dark = false ∧ w04_1.rd LTM_STATE ≠ ltFree ∧ w04_1.rd LTM_STATE ≠ ltAcq ∧ w04_1.seals = [] ∧
      w04_1.join.pend = []) ∧
    (w04_5.wf = true ∧ w04_5.dark = false ∧ w04_5.rd LTM_STATE ≠ ltFree ∧ w04_5.rd LTM_STATE ≠ ltAcq ∧ w04_5.seals = [] ∧
      (w04_5.mode = Mode.listen ∨ w04_5.mode = Mode.join ∨ w04_5.mode = Mode.service)) ∧
    (w04_9.wf = true ∧ 11 < 64 ∧ w04_9.rd LTM_STATE ≠ ltFree ∧ w04_9.rd LTM_STATE ≠ ltAcq ∧ w04_9.now ≤ 1000 * mfTicks + 3000 ∧
      w04_9.seals = [{ page := 11, kind := bkAtLt, req := 5, target := some (1000 * mfTicks + 3000), taken := none, fields := [] : Sealed }]) :=
  by refine ⟨?_, ?_, ?_, ?_, ?_, ?_⟩ <;> decide +kernel

/-- Hypotheses of SealedAndApplied that a state meets, clause by clause. -/
theorem witness_SealedAndApplied :
    (w04_1.wf = true ∧ 11 < 64 ∧ hasApply 11 = true ∧ w04_1.sealOf 11 = none ∧ 2 < 6 ∧ listsKind 11 2 = true) ∧
    (w04_7.wf = true ∧ 11 < 64 ∧ hasApply 11 = true ∧ w04_7.sealOf 11 = none ∧ 5 < 6 ∧ listsKind 11 5 = true) ∧
    (w04_8.wf = true ∧ w04_8.seals = [{ page := 11, kind := 0, req := 5, target := none, taken := none, fields := [] : Sealed }] ∧
      { page := 11, kind := 0, req := 5, target := none, taken := none, fields := [] : Sealed }.taken = none ∧
      { page := 11, kind := 0, req := 5, target := none, taken := none, fields := [] : Sealed }.marked = false ∧
      ({ page := 11, kind := 0, req := 5, target := none, taken := none, fields := [] : Sealed }.kind ≠ bkPacket ∨ w04_8.now < { page := 11, kind := 0, req := 5, target := none, taken := none, fields := [] : Sealed }.req + 131072)) ∧
    (w04_10.wf = true ∧ 11 < 64 ∧ TIM_ASYM ∈ [TIM_ASYM, QSH_UQ_LEVEL, QSH_UQ_QUANTUM] ∧ 3 < 16 ∧
      w04_10.seals = [{ page := 11, kind := bkSlot, req := 5, target := none, taken := none, fields := [{ page := 11, key := TIM_ASYM.key 3, val := 77, ap := Ap.page : Shad }] : Sealed }] ∧
      w04_10.dark = false ∧ w04_10.mode ≠ Mode.graze ∧ w04_10.flt.freezePend = none ∧ 11 ≠ 35 ∧
      5 + 131072 ≤ nextEdge slotTicks w04_10.now w04_10.time.lastSlot) ∧
    (w04_11.wf = true ∧ 11 < 64 ∧ TIM_ASYM ∈ [TIM_ASYM, QSH_UQ_LEVEL, QSH_UQ_QUANTUM] ∧ 3 < 16 ∧
      w04_11.seals = [{ page := 11, kind := bkAtLt, req := 5, target := some (1000 * mfTicks + 3000), taken := none, fields := [{ page := 11, key := TIM_ASYM.key 3, val := 77, ap := Ap.page : Shad }] : Sealed }] ∧
      w04_11.mode ≠ Mode.graze ∧ 11 ≠ 35 ∧ w04_11.rd LTM_STATE ≠ ltFree ∧ w04_11.rd LTM_STATE ≠ ltAcq ∧
      w04_11.now ≤ 1000 * mfTicks + 3000) ∧
    (w04_12.wf = true ∧ QSH_UQ_QUANTUM ∈ [QSH_UQ_LEVEL, QSH_UQ_QUANTUM] ∧ 3 < 16 ∧ 4 < 19 ∧
      w04_12.seals = [{ page := 14, kind := bkPacket, req := 5, target := none, taken := none, fields := [{ page := 14, key := QSH_UQ_QUANTUM.key 3, val := 77, ap := Ap.page : Shad }], marked := true : Sealed }] ∧
      (w04_12.lane 4).items = [LaneItem.marker 14] ∧ w04_12.markerHeldBack 4 = false ∧
      (w04_12.setLane 4 (have __src := w04_12.lane 4; { inq := __src.inq, next := __src.next : Lane })).markerHeld 14 = false ∧
      w04_12.mode ≠ Mode.graze) :=
  by refine ⟨?_, ?_, ?_, ?_, ?_, ?_⟩ <;> decide +kernel

/-- Hypotheses of ClassifierCommit that a state meets, clause by clause. -/
theorem witness_ClassifierCommit :
    (w04_13.wf = true ∧ 2 < 4 ∧ 0 < 4 ∧ 2 ≠ 0 ∧ w04_13.vstate 2 = vsStaging ∧ w04_13.verIn vsCurrent = some 0 ∧
      w04_13.rd CLS_VSTATE < 256 ∧ w04_13.mode ≠ Mode.graze ∧
      w04_13.seals = [{ page := 13, kind := bkPacket, req := 5, target := none, taken := none, fields := [{ page := 13, key := CLS_CUR_VER.key 0, val := 2, ap := Ap.packet : Shad }], marked := true : Sealed }] ∧
      w04_13.markerHeld 13 = false) ∧
    (w04_1.wf = true ∧ w04_1.sealOf 13 = none) ∧
    (w04_15.wf = true ∧ w04_15.now < 1000 * mfTicks + 131072 ∧
      w04_15.seals = [{ page := 13, kind := bkPacket, req := 1000 * mfTicks, target := none, taken := none, fields := [] : Sealed }]) ∧
    (4 < 19 ∧
      w04_16.seals = [{ page := 13, kind := bkPacket, req := 5, target := none, taken := none, fields := [], marked := true : Sealed }] ∧
      (w04_16.lane 4).items = [LaneItem.marker 13] ∧ w04_16.markerHeldBack 4 = false) :=
  by refine ⟨?_, ?_, ?_, ?_⟩ <;> decide +kernel

/-- Hypotheses of HoldoverAndMonitors that a state meets, clause by clause. -/
theorem witness_HoldoverAndMonitors :
    (w04_17.wf = true ∧ w04_17.time.holdStart = some 1000 ∧ w04_17.rd LTM_STATE = ltHoldover) ∧
    (w04_18.wf = true ∧ w04_18.time.holdStart = some 1000 ∧ w04_18.rd LTM_STATE = ltHoldover) ∧
    (w04_19.wf = true ∧ w04_19.rd LTM_FINE_RANGE_REQ = 0 ∧ w04_19.rd LTM_STATE = ltHoldover ∧ w04_19.time.holdTicks ≤ 2 * sfTicks) ∧
    (w04_1.wf = true ∧ 4 < 60 ∧ 4 ≠ 57 ∧ 4 ≠ 58 ∧ w04_1.domainEnabled 4 = true ∧
      w04_1.freshRecord 0 cClkStop (domainRegion 4) = true ∧ w04_1.rd C_MASK_CONT (domainPage 4) = 0) ∧
    (w04_1.wf = true ∧ 3 < 5 ∧ 4 < 32 ∧ 5 < 128 ∧ w04_1.freshRecord 0 cLtSkew 4 = true ∧ w04_1.rd C_MASK_CORR 6 = 0) ∧
    (w04_1.wf = true ∧ w04_1.takesMessage 6 (pm_04 0) = true ∧ profileOk (msgOf (pm_04 0)) = true ∧ w04_1.queueOpen = true) ∧
    (w04_1.wf = true ∧ w04_1.takesMessage 6 (pm_04 (501 * 2 ^ 22)) = true ∧ profileOk (msgOf (pm_04 (501 * 2 ^ 22))) = false ∧
      w04_1.queueOpen = true) :=
  by refine ⟨?_, ?_, ?_, ?_, ?_, ?_, ?_⟩ <;> decide +kernel

/-- Hypotheses of LaunchTable that a state meets, clause by clause. -/
theorem witness_LaunchTable :
    (w04_1.wf = true ∧ 7 < 256 ∧ w04_1.rd LTM_LE_ARMED 7 = 0 ∧ bits (3 * 2 ^ 24 + 5 * 2 ^ 8) 27 24 ≤ 4) ∧
    (w04_25.wf = true ∧ 7 < 256 ∧ w04_25.rd LTM_LE_ARMED 7 = 0 ∧ bits (3 * 2 ^ 24 + 5 * 2 ^ 8) 27 24 ≤ 4) ∧
    (w04_26.wf = true ∧ 7 < 256 ∧ w04_26.rd LTM_LE_ARMED 7 = 0 ∧ bits (3 * 2 ^ 24 + 5 * 2 ^ 8) 27 24 ≤ 4) ∧
    (w04_27.wf = true ∧ 7 < 256 ∧ w04_27.rd LTM_LE_ARMED 7 = 1 ∧ bits (3 * 2 ^ 24 + 5 * 2 ^ 8) 27 24 ≤ 4 ∧ w04_27.leDue 7 = false ∧
      (w04_27.time.firedAt ≠ w04_27.now ∨ ¬7 ∈ w04_27.time.fired)) ∧
    (w04_28.wf = true ∧ 7 < 256 ∧ w04_28.rd LTM_STATE ≠ ltFree ∧ w04_28.rd LTM_STATE ≠ ltAcq ∧ w04_28.armed = [7] ∧
      w04_28.now ≤ w04_28.leTarget 7 ∧ w04_28.leTarget 7 < w04_28.now + 2 ^ 62 ∧ w04_28.rd LTM_LE_ACTION 7 = actInterrupt) ∧
    (w04_29.wf = true ∧ 7 < 256 ∧ w04_29.rd LTM_STATE ≠ ltFree ∧ w04_29.rd LTM_STATE ≠ ltAcq ∧ w04_29.armed = [7] ∧
      w04_29.now ≤ w04_29.leTarget 7 ∧ w04_29.leTarget 7 < w04_29.now + 2 ^ 62 ∧ w04_29.rd LTM_LE_ACTION 7 = actInterrupt) ∧
    (w04_30.wf = true ∧ 7 < 256 ∧ w04_30.armed = [7] ∧ w04_30.leDue 7 = true ∧ bits (3 * 2 ^ 24 + 5 * 2 ^ 8) 27 24 = actInterrupt ∧
      w04_30.rd LTM_LE_PERIOD 7 = 0) :=
  by refine ⟨?_, ?_, ?_, ?_, ?_, ?_, ?_⟩ <;> decide +kernel

/-! Witnesses: the receiver -/

def HR_05 (m : Mode) : State := { S0 with mode := m, pins := { pgood := true, vddAon := true, pwrMainEn := true, resetN := true }, time := { lt := 1000 * mfTicks + 70 }, rx := { chains := [(0x200, { place := some 100, cur := { bytes := 50000 } })], first := false } }
def H1_05 (m : Mode) : State := setL (HR_05 m) [(LRX_SYM_RATE, 144000, 0), (UPB_TID_VALID, 1, 0), (UPB_TID, 5, 0), (LTM_STATE, 2, 0)]
def W_05 (h : Nat) : Nat := (fawUnder h).foldl (fun a b => 2*a + b2n b) 0
def SE_05 (l : List Cand) : State := (let s := H1_05 .service; { s with rx := { s.rx with subs := [(3, { cands := l })] } }).wr LRX_ACQ_STATE_A 5
def IF_05 (sc r : Nat) : State := (let s := H1_05 .service; { s with rx := { s.rx with subs := [(sc, { run := r, mfi := some 62, bad := 1 })] } }) |> (setL · [(LRX_ACQ_STATE_A, 6, 0), (FRM_SC_IN_FRAME, 1, sc), (FRM_SC_MF_ALIGNED, 1, sc), (LRX_ADMITTED, 1, sc)])
def BK_05 (bs : List Nat) : Blk := { src := 3, mf := 0, idx := 3, bits := ofBytesBE (List.replicate 160 0 ++ bs) * 2 ^ (8 * (1120 - bs.length)), len := 10240, err := false }
def DS_05 (bs : List Nat) : State := (let s := IF_05 3 0; { s with rx := { s.rx with chains := (3, { place := some 4000, cur := { bytes := 50000, usable := true } }) :: s.rx.chains, blocks := [BK_05 bs] } }).wr FRM_SC_CG_SIZE 0 3
def tbl_05 (ty mf sf : Nat) (rest : List Nat) : Rec := recOf ty 262143 (bytesBE 4 ((sf * 128 + mf) * 2 ^ 21) ++ rest)
def OH_05 (m : Nat) : List Nat := (List.range 1280).map fun i => if i == 0 then m else if i == 3 then 0xA0 else (i * 7) % 256
def U_05 (tid ts : Nat) : List Nat := let v := tid * 2 ^ 46 + 64 * 2 ^ 18 + ts * 2 ^ 14; let b := bytesBE 7 (v / 256); b ++ [crc8 0 b] ++ List.replicate (64 + 8 * ts) 9
def w05_1 : State := (H1_05 .listen).wr LRX_ACQ_STATE_B 1
def w05_2 : State := (H1_05 .listen).wr LRX_ACQ_STATE_A 2
def w05_3 : State := setL (H1_05 .listen) [(LRX_ACQ_STATE_A, 2, 0), (LRX_CD_HINT_A_VALID, 1, 0), (LRX_CD_HINT_A, 9000, 0)]
def w05_4 : State := setL (H1_05 .listen) [(LRX_ACQ_STATE_A, 2, 0), (LRX_CD_HINT_A_VALID, 1, 0)]
def w05_5 : State := (H1_05 .listen).wr LRX_ACQ_STATE_B 3
def w05_6 : State := (H1_05 .listen).wr LRX_ACQ_STATE_B 4
def w05_7 : State := (H1_05 .listen).wr LRX_ACQ_STATE_B 6
def w05_8 : State := H1_05 .listen
def w05_10 : State := (H1_05 .listen).wr LRX_COEF_OWNER 1
def w05_12 : State := SE_05 [⟨7, 1, 2⟩]
def w05_13 : State := (SE_05 [⟨500, 6, 1⟩]).wr FRM_FAW_N 4
def w05_14 : State := (SE_05 [⟨500, 6, 1⟩]).wr FRM_FAW_N 2
def w05_15 : State := ((SE_05 [⟨500, 6, 1⟩]).wr FRM_FAW_N 2).wr LRX_CTRL_SC 3
def w05_16 : State := SE_05 [⟨500, 6, 1⟩]
def w05_17 : State := IF_05 3 1
def w05_18 : State := (IF_05 3 1).wr FRM_FAW_M 5
def w05_19 : State := (IF_05 3 1).wr FRM_FAW_M 2
def w05_20 : State := (IF_05 0 1).wr FRM_FAW_M 2
def w05_21 : State := setL { H1_05 .listen with rx := {} } (((List.range 16).map fun k => (FRM_SC_IN_FRAME, 1, 16 + k)) ++ ((List.range 16).map fun k => (LRX_EQ_CONV, 1, 16 + k)) ++ [(LRX_ACQ_STATE_B, 5, 0)])
def w05_22 : State := (IF_05 3 0).wr LRX_ACQ_STATE_A 5
def w05_23 : State := ((IF_05 0 0).wr LRX_ACQ_STATE_A 5).wr LTM_STATE 1
def w05_24 : State := (H1_05 .listen).wr LTM_STATE 3
def w05_26 : State := ((IF_05 3 0).wr LTM_STATE 1).wr LRX_CTRL_SC 5
def w05_27 : State := ((IF_05 3 0).wr LTM_STATE 0).wr LRX_CTRL_SC 5
def w05_30 : State := { IF_05 3 1 with rx := { subs := [(3, { mfi := some 6, label := some (2, 9) })] } }
def w05_33 : State := (IF_05 3 1).wr FRM_SC_MF_ALIGNED 0 3
def w05_36 : State := DS_05 []
def w05_37 : State := DS_05 [0, 0, 0, 1, 0, 0, 0, 1]
def w05_38 : State := DS_05 (U_05 5 1)
def w05_39 : State := DS_05 (U_05 5 0)
def w05_40 : State := DS_05 (U_05 7 0)
def w05_41 : State := H1_05 .service
def w05_48 : State := (let s := H1_05 .service; { s with rx := { s.rx with rdiOn := 1 } })
def w05_49 : State := (let s := H1_05 .service; { s with rx := { s.rx with rdiOff := 1 } })
def w05_50 : State := IF_05 3 0
def w05_52 : State := (IF_05 3 0).wr FRM_LOS_LEVEL 8
def w05_53 : State := ({ IF_05 3 0 with pins := { sd := true } }).wr FRM_LOS_LEVEL 8

/-- What holds of the sixteen subcarriers of carrier `c`. -/
theorem of_carrier (c : Nat) {P : Nat → Prop} (h : ∀ i, i < 16 → P (16 * c + i)) (k : Nat) (e : k / 16 = c) : P k :=
  (show 16 * c + k % 16 = k by omega) ▸ h (k % 16) (by omega)

/-- Hypotheses of CarrierAcquires that a state meets, clause by clause. -/
theorem witness_CarrierAcquires_1 :
    (w05_1.wf = true ∧ 1 < 2 ∧ w05_1.acq 1 = 1) ∧
    (w05_2.wf = true ∧ 0 < 2 ∧ w05_2.acq 0 = 2 ∧ w05_2.cdSought 0 90000 = true) ∧
    (w05_3.rd (hintFld 0).snd = 1 ∧ bit w05_3.rx.fullSearch 0 = false ∧ 5000 < (toS 18 131071 - w05_3.rdS (hintFld 0).fst).natAbs) ∧
    (w05_4.wf = true ∧ 0 < 2 ∧ w05_4.acq 0 = 2 ∧ w05_4.rd (if 0 = 0 then LRX_CD_HINT_A_VALID else LRX_CD_HINT_B_VALID) = 1) ∧
    (w05_5.wf = true ∧ 1 < 2 ∧ w05_5.acq 1 = 3) ∧
    (w05_6.wf = true ∧ 17 < 32 ∧ 4 ≤ w05_6.acq (17 / 16) ∧ ∀ (k : Nat), k / 16 = 17 / 16 → w05_6.inFrame k = false) ∧
    (w05_7.wf = true ∧ 17 < 32 ∧ 4 ≤ w05_7.acq (17 / 16) ∧ ∀ (k : Nat), k / 16 = 17 / 16 → w05_7.inFrame k = false) ∧
    (w05_8.wf = true ∧ 3 < 32 ∧ 1 < 2 ∧ 51 < 52) :=
  by refine ⟨?_, ?_, ?_, ?_, ?_, by refine ⟨?_, ?_, ?_, of_carrier _ (by decide +kernel)⟩ <;> decide +kernel, by refine ⟨?_, ?_, ?_, of_carrier _ (by decide +kernel)⟩ <;> decide +kernel, ?_⟩ <;> decide +kernel

/-- Hypotheses of CarrierAcquires that a state meets, clause by clause. -/
theorem witness_CarrierAcquires_2 :
    (w05_8.wf = true ∧ 3 < 32 ∧ 0 < 2 ∧ 51 < 52) ∧
    (w05_10.wf = true ∧ 3 < 32 ∧ 1 < 2 ∧ 51 < 52) ∧
    (w05_21.wf = true ∧ 17 < 32 ∧ w05_21.acq (17 / 16) = 5 ∧ w05_21.ctrlSc / 16 ≠ 17 / 16 ∧
      ∀ (k : Nat), k / 16 = 17 / 16 → w05_21.inFrame k = true ∧ (k = 17 ∨ w05_21.rd LRX_EQ_CONV k = 1)) ∧
    (w05_22.wf = true ∧ 0 < 2 ∧ 1 ≤ w05_22.acq 0 ∧ w05_22.acq 0 ≤ 5) ∧
    (w05_23.wf = true ∧ 0 < 2 ∧ 1 ≤ w05_23.acq 0 ∧ w05_23.acq 0 ≤ 5) ∧
    (w05_24.wf = true ∧ 60000 ≤ 100000 ∧ 100000 ≤ 150000 ∧ 100000 ≠ w05_24.rd LRX_SYM_RATE ∧
      (w05_24.rd LTM_STATE = ltLocked ∨ w05_24.rd LTM_STATE = ltHoldover)) ∧
    (w05_26.wf = true ∧ 60000 ≤ 100000 ∧ 100000 ≤ 150000 ∧ (w05_26.rd LTM_STATE = ltFree ∨ w05_26.rd LTM_STATE = ltAcq) ∧
      100000 ≠ w05_26.rd LRX_SYM_RATE ∧ w05_26.inFrame w05_26.ctrlSc = false) ∧
    (w05_27.wf = true ∧ 60000 ≤ 100000 ∧ 100000 ≤ 150000 ∧ (w05_27.rd LTM_STATE = ltFree ∨ w05_27.rd LTM_STATE = ltAcq) ∧
      100000 ≠ w05_27.rd LRX_SYM_RATE ∧ w05_27.inFrame w05_27.ctrlSc = false) :=
  by refine ⟨?_, ?_, by refine ⟨?_, ?_, ?_, ?_, of_carrier _ (by decide +kernel)⟩ <;> decide +kernel, ?_, ?_, ?_, ?_, ?_⟩ <;> decide +kernel

/-- Hypotheses of FramesFound that a state meets, clause by clause. -/
theorem witness_FramesFound :
    (w05_12.wf = true ∧ 3 < 32 ∧ 5 ≤ w05_12.acq (3 / 16) ∧ w05_12.inFrame 3 = false ∧ 500 < w05_12.framePeriod ∧
      w05_12.outsideWindow 3 500 = false ∧ (∀ (x : Cand), x ∈ (w05_12.subOf 3).cands → x.pos ≠ 500) ∧
      (w05_12.subOf 3).cands.length < 4 ∧ 2 ≤ w05_12.rd FRM_FAW_N ∧ 5 < 8 ∧ fawDist (W_05 5) 5 ≤ w05_12.rd FRM_FAW_TOL ∧
      ∀ (k : Nat), k < 8 → k ≠ 5 → w05_12.rd FRM_FAW_TOL < fawDist (W_05 5) k) ∧
    (w05_13.wf = true ∧ 3 < 32 ∧ 5 ≤ w05_13.acq (3 / 16) ∧ w05_13.inFrame 3 = false ∧
      { pos := 500, hyp := 6, count := 1 : Cand }.pos < w05_13.framePeriod ∧
      w05_13.outsideWindow 3 { pos := 500, hyp := 6, count := 1 : Cand }.pos = false ∧
      (w05_13.subOf 3).cands = [{ pos := 500, hyp := 6, count := 1 : Cand }] ∧
      fawDist (W_05 6) { pos := 500, hyp := 6, count := 1 : Cand }.hyp ≤ w05_13.rd FRM_FAW_TOL ∧
      { pos := 500, hyp := 6, count := 1 : Cand }.count + 1 < w05_13.rd FRM_FAW_N) ∧
    (w05_14.wf = true ∧ 3 < 32 ∧ 5 ≤ w05_14.acq (3 / 16) ∧ w05_14.inFrame 3 = false ∧
      { pos := 500, hyp := 6, count := 1 : Cand }.pos < w05_14.framePeriod ∧
      w05_14.outsideWindow 3 { pos := 500, hyp := 6, count := 1 : Cand }.pos = false ∧
      (w05_14.subOf 3).cands = [{ pos := 500, hyp := 6, count := 1 : Cand }] ∧ { pos := 500, hyp := 6, count := 1 : Cand }.hyp < 8 ∧
      fawDist (W_05 6) { pos := 500, hyp := 6, count := 1 : Cand }.hyp ≤ w05_14.rd FRM_FAW_TOL ∧
      w05_14.rd FRM_FAW_N ≤ { pos := 500, hyp := 6, count := 1 : Cand }.count + 1) ∧
    (w05_15.wf = true ∧ 3 < 32 ∧ 5 ≤ w05_15.acq (3 / 16) ∧ w05_15.inFrame 3 = false ∧
      { pos := 500, hyp := 6, count := 1 : Cand }.pos < w05_15.framePeriod ∧
      w05_15.outsideWindow 3 { pos := 500, hyp := 6, count := 1 : Cand }.pos = false ∧
      (w05_15.subOf 3).cands = [{ pos := 500, hyp := 6, count := 1 : Cand }] ∧ { pos := 500, hyp := 6, count := 1 : Cand }.hyp < 8 ∧
      fawDist (W_05 6) { pos := 500, hyp := 6, count := 1 : Cand }.hyp ≤ w05_15.rd FRM_FAW_TOL ∧
      w05_15.rd FRM_FAW_N ≤ { pos := 500, hyp := 6, count := 1 : Cand }.count + 1) ∧
    (w05_16.wf = true ∧ 3 < 32 ∧ 5 ≤ w05_16.acq (3 / 16) ∧ w05_16.inFrame 3 = false ∧
      { pos := 500, hyp := 6, count := 1 : Cand }.pos < w05_16.framePeriod ∧
      w05_16.outsideWindow 3 { pos := 500, hyp := 6, count := 1 : Cand }.pos = false ∧
      (w05_16.subOf 3).cands = [{ pos := 500, hyp := 6, count := 1 : Cand }] ∧
      w05_16.rd FRM_FAW_TOL < fawDist (W_05 5) { pos := 500, hyp := 6, count := 1 : Cand }.hyp) ∧
    (w05_17.wf = true ∧ 3 < 32 ∧ w05_17.inFrame 3 = true ∧ 3 ≠ w05_17.ctrlSc ∧ 5 < 8 ∧ fawDist (W_05 5) 5 ≤ w05_17.rd FRM_FAW_TOL) ∧
    (w05_18.wf = true ∧ 3 < 32 ∧ w05_18.inFrame 3 = true ∧ (∀ (h : Nat), h < 8 → w05_18.rd FRM_FAW_TOL < fawDist 0 h) ∧
      (w05_18.subOf 3).run + 1 < w05_18.rd FRM_FAW_M) ∧
    (w05_19.wf = true ∧ 3 < 32 ∧ w05_19.inFrame 3 = true ∧ (∀ (h : Nat), h < 8 → w05_19.rd FRM_FAW_TOL < fawDist 0 h) ∧
      w05_19.rd FRM_FAW_M ≤ (w05_19.subOf 3).run + 1) ∧
    (w05_20.wf = true ∧ 0 < 32 ∧ w05_20.inFrame 0 = true ∧ (∀ (h : Nat), h < 8 → w05_20.rd FRM_FAW_TOL < fawDist 0 h) ∧
      w05_20.rd FRM_FAW_M ≤ (w05_20.subOf 0).run + 1) :=
  by refine ⟨?_, ?_, ?_, ?_, ?_, ?_, ?_, ?_, ?_⟩ <;> decide +kernel

/-- Hypotheses of StreamsRead that a state meets, clause by clause. -/
theorem witness_StreamsRead_1 :
    (w05_17.wf = true ∧ 3 < 32 ∧ (w05_17.rd LRX_ADMITTED 3 = 1 ∨ 3 = w05_17.ctrlSc) ∧ w05_17.inFrame 3 = true ∧
      w05_17.rd FKL_ROLE = 0) ∧
    (w05_30.wf = true ∧ 3 < 32 ∧ w05_30.rd LRX_ADMITTED 3 = 1 ∧ 3 ≠ w05_30.ctrlSc ∧ w05_30.inFrame 3 = true ∧
      w05_30.aligned 3 = true ∧ w05_30.rd FKL_ROLE = 0 ∧ (w05_30.subOf 3).label = some (2, 9) ∧
      5 < mfCoded w05_30.symPerSlot (w05_30.profOf 3) / 12288 ∧ (List.replicate 1280 7).length = 1280 ∧
      ∀ (x : Nat), x ∈ List.replicate 1280 7 → x < 256) ∧
    (w05_17.wf = true ∧ 3 < 32 ∧ w05_17.inFrame 3 = true ∧ w05_17.mode ≠ Mode.graze ∧ w05_17.aligned 3 = true ∧
      (w05_17.subOf 3).bad < 2) ∧
    (w05_17.wf = true ∧ 3 < 32 ∧ w05_17.inFrame 3 = true ∧ w05_17.mode ≠ Mode.graze ∧ 3 ≠ w05_17.ctrlSc ∧
      w05_17.rd LTM_STATE ≠ ltFree ∧ (scrambleBytes (scrSeed false 3 63 0) (OH_05 63)).length = 1280 ∧
      OH_05 63 = scrambleBytes (scrSeed false 3 63 0) (scrambleBytes (scrSeed false 3 63 0) (OH_05 63))) ∧
    (w05_33.wf = true ∧ 3 < 32 ∧ w05_33.inFrame 3 = true ∧ w05_33.mode ≠ Mode.graze ∧ 3 ≠ w05_33.ctrlSc ∧
      w05_33.rd LTM_STATE ≠ ltFree ∧ (scrambleBytes (scrSeed false 3 63 0) (OH_05 63)).length = 1280 ∧
      OH_05 63 = scrambleBytes (scrSeed false 3 63 0) (scrambleBytes (scrSeed false 3 63 0) (OH_05 63))) ∧
    (w05_33.wf = true ∧ 3 < 32 ∧ w05_33.inFrame 3 = true ∧ w05_33.mode ≠ Mode.graze ∧ 3 ≠ w05_33.ctrlSc ∧
      w05_33.rd LTM_STATE ≠ ltFree ∧ (scrambleBytes (scrSeed false 3 6 0) (OH_05 6)).length = 1280 ∧
      OH_05 6 = scrambleBytes (scrSeed false 3 6 0) (scrambleBytes (scrSeed false 3 6 0) (OH_05 6))) ∧
    (w05_17.wf = true ∧ 3 < 32 ∧ w05_17.inFrame 3 = true ∧ w05_17.mode ≠ Mode.graze ∧ 3 ≠ w05_17.ctrlSc ∧
      w05_17.rd LTM_STATE ≠ ltFree ∧ (scrambleBytes (scrSeed false 3 0 0) (OH_05 0)).length = 1280 ∧
      OH_05 0 = scrambleBytes (scrSeed false 3 0 0) (scrambleBytes (scrSeed false 3 0 0) (OH_05 0))) ∧
    (w05_36.wf = true ∧ 3 < 32 ∧ (w05_36.chain 3).place = some 4000 ∧ (w05_36.chain 3).ptr = none ∧
      (w05_36.chain 3).behind = false ∧ (w05_36.chain 3).cur.epoch = 0 ∧ (w05_36.chain 3).cur.n = 1 ∧ w05_36.withheld 3 = false ∧
      4000 + 8 ≤ (w05_36.chain 3).cur.bytes ∧ 4000 / 1280 < mfCoded w05_36.symPerSlot (w05_36.chain 3).cur.prof / 12288 ∧
      4000 % 1280 + 8 ≤ 1280 ∧ (BK_05 []).len = 10240 ∧
      List.find? (fun y => y.src == 3 && y.mf == (w05_36.chain 3).cur.mf && y.idx == 4000 / 1280) w05_36.rx.blocks = some (BK_05 []) ∧
      (BK_05 []).bits / 2 ^ (10240 - 8 * (4000 % 1280 + 8)) % 2 ^ 64 = 0) :=
  by refine ⟨?_, ?_, ?_, ?_, ?_, ?_, ?_, ?_⟩ <;> decide +kernel

/-- Hypotheses of StreamsRead that a state meets, clause by clause. -/
theorem witness_StreamsRead_2 :
    (w05_37.wf = true ∧ 3 < 32 ∧ (w05_37.chain 3).place = some 4000 ∧ (w05_37.chain 3).ptr = none ∧ w05_37.withheld 3 = false ∧
      w05_37.unitData 3 8 = some ([0, 0, 0, 1, 0, 0, 0, 1], false) ∧ ofBytesBE [0, 0, 0, 1, 0, 0, 0, 1] ≠ 0 ∧
      tagOk [0, 0, 0, 1, 0, 0, 0, 1] = false) ∧
    (w05_38.wf = true ∧ 3 < 32 ∧ (w05_38.chain 3).place = some 4000 ∧ (w05_38.chain 3).ptr = none ∧
      (w05_38.chain 3).behind = false ∧ w05_38.withheld 3 = false ∧ w05_38.unitData 3 8 = some (List.take 8 (U_05 5 1), false) ∧
      w05_38.unitData 3 (U_05 5 1).length = some (U_05 5 1, false) ∧ tagOk (U_05 5 1) = true ∧ ofBytesBE (List.take 8 (U_05 5 1)) ≠ 0 ∧
      (U_05 5 1).length = unitLen (ofBytesBE (List.take 8 (U_05 5 1)))) ∧
    (w05_39.wf = true ∧ 3 < 32 ∧ (w05_39.chain 3).place = some 4000 ∧ (w05_39.chain 3).ptr = none ∧
      (w05_39.chain 3).behind = false ∧ w05_39.withheld 3 = false ∧ w05_39.unitData 3 8 = some (List.take 8 (U_05 5 0), false) ∧
      w05_39.unitData 3 (U_05 5 0).length = some (U_05 5 0, false) ∧ tagOk (U_05 5 0) = true ∧ ofBytesBE (List.take 8 (U_05 5 0)) ≠ 0 ∧
      (U_05 5 0).length = unitLen (ofBytesBE (List.take 8 (U_05 5 0)))) ∧
    (w05_40.wf = true ∧ 3 < 32 ∧ (w05_40.chain 3).place = some 4000 ∧ (w05_40.chain 3).ptr = none ∧
      (w05_40.chain 3).behind = false ∧ w05_40.withheld 3 = false ∧ w05_40.unitData 3 8 = some (List.take 8 (U_05 7 0), false) ∧
      w05_40.unitData 3 (U_05 7 0).length = some (U_05 7 0, false) ∧ tagOk (U_05 7 0) = true ∧ ofBytesBE (List.take 8 (U_05 7 0)) ≠ 0 ∧
      (U_05 7 0).length = unitLen (ofBytesBE (List.take 8 (U_05 7 0)))) :=
  by refine ⟨?_, ?_, ?_, ?_⟩ <;> decide +kernel

/-- Hypotheses of RecordsUsed that a state meets, clause by clause. -/
theorem witness_RecordsUsed_1 :
    (w05_41.wf = true ∧ w05_41.takesRecord 0 (recOf 0 262143 [1, 2, 3, 4]) = true ∧
      w05_41.addressed (recTid (recOf 0 262143 [1, 2, 3, 4])) = true ∧ recBodyOk (recOf 0 262143 [1, 2, 3, 4]) = true) ∧
    (w05_8.wf = true ∧ 7 ≤ 40 ∧ w05_8.takesRecord 40 (recOf 40 262143 [1, 2, 3, 4]) = true) ∧
    (w05_8.wf = true ∧ w05_8.parserOn = true ∧ w05_8.parsing = true ∧ w05_8.rx.first = false ∧
      recHeadOk { hdr := 5, body := [], crc := 0 : Rec } = false) ∧
    (w05_41.wf = true ∧ w05_41.takesRecord 2 (tbl_05 2 7 15 (List.range 32)) = true ∧ recLen (tbl_05 2 7 15 (List.range 32)) = 36 ∧
      w05_41.addressed (recTid (tbl_05 2 7 15 (List.range 32))) = true ∧ recBodyOk (tbl_05 2 7 15 (List.range 32)) = true ∧
      bits (recWord (tbl_05 2 7 15 (List.range 32)).body 0) 27 21 ≤ 124) ∧
    (w05_41.wf = true ∧ w05_41.takesRecord 2 (tbl_05 2 0 8 (List.range 32)) = true ∧ recLen (tbl_05 2 0 8 (List.range 32)) = 36 ∧
      w05_41.addressed (recTid (tbl_05 2 0 8 (List.range 32))) = true ∧ recBodyOk (tbl_05 2 0 8 (List.range 32)) = true ∧
      bits (recWord (tbl_05 2 0 8 (List.range 32)).body 0) 27 21 ≤ 124) ∧
    (w05_41.wf = true ∧ w05_41.takesRecord 2 (tbl_05 2 9 12 (List.range 32)) = true ∧ recLen (tbl_05 2 9 12 (List.range 32)) = 36 ∧
      w05_41.addressed (recTid (tbl_05 2 9 12 (List.range 32))) = true ∧ recBodyOk (tbl_05 2 9 12 (List.range 32)) = true ∧
      bits (recWord (tbl_05 2 9 12 (List.range 32)).body 0) 27 21 ≤ 124) ∧
    (w05_41.wf = true ∧
      w05_41.takesRecord 3 (tbl_05 3 9 12 (bytesBE 4 (5 * 2 ^ 14) ++ bytesBE 4 196609 ++ bytesBE 4 (5 * 2 ^ 14) ++ bytesBE 4 2147483904 ++ bytesBE 4 (6 * 2 ^ 14) ++ bytesBE 4 2147483904)) = true ∧
      (tbl_05 3 9 12 (bytesBE 4 (5 * 2 ^ 14) ++ bytesBE 4 196609 ++ bytesBE 4 (5 * 2 ^ 14) ++ bytesBE 4 2147483904 ++ bytesBE 4 (6 * 2 ^ 14) ++ bytesBE 4 2147483904)).body.length = 4 + 8 * 3 ∧
      w05_41.addressed (recTid (tbl_05 3 9 12 (bytesBE 4 (5 * 2 ^ 14) ++ bytesBE 4 196609 ++ bytesBE 4 (5 * 2 ^ 14) ++ bytesBE 4 2147483904 ++ bytesBE 4 (6 * 2 ^ 14) ++ bytesBE 4 2147483904))) = true ∧
      recBodyOk (tbl_05 3 9 12 (bytesBE 4 (5 * 2 ^ 14) ++ bytesBE 4 196609 ++ bytesBE 4 (5 * 2 ^ 14) ++ bytesBE 4 2147483904 ++ bytesBE 4 (6 * 2 ^ 14) ++ bytesBE 4 2147483904)) = true ∧
      bits (recWord (tbl_05 3 9 12 (bytesBE 4 (5 * 2 ^ 14) ++ bytesBE 4 196609 ++ bytesBE 4 (5 * 2 ^ 14) ++ bytesBE 4 2147483904 ++ bytesBE 4 (6 * 2 ^ 14) ++ bytesBE 4 2147483904)).body 0) 27 21 ≤ 124 ∧
      w05_41.mfEnd < (resolveG w05_41.now 0 (bits (recWord (tbl_05 3 9 12 (bytesBE 4 (5 * 2 ^ 14) ++ bytesBE 4 196609 ++ bytesBE 4 (5 * 2 ^ 14) ++ bytesBE 4 2147483904 ++ bytesBE 4 (6 * 2 ^ 14) ++ bytesBE 4 2147483904)).body 0) 31 28 * sfTicks + bits (recWord (tbl_05 3 9 12 (bytesBE 4 (5 * 2 ^ 14) ++ bytesBE 4 196609 ++ bytesBE 4 (5 * 2 ^ 14) ++ bytesBE 4 2147483904 ++ bytesBE 4 (6 * 2 ^ 14) ++ bytesBE 4 2147483904)).body 0) 27 21 * mfTicks)).toNat) ∧
    (w05_48.wf = true ∧ w05_48.takesRecord 6 (recOf 6 262143 [0, 0, 0, 3, 0, 0, 0, 5]) = true ∧
      w05_48.addressed (recTid (recOf 6 262143 [0, 0, 0, 3, 0, 0, 0, 5])) = true ∧
      recBodyOk (recOf 6 262143 [0, 0, 0, 3, 0, 0, 0, 5]) = true ∧ w05_48.rx.rdiMf ≠ some (w05_48.carrying / mfTicks) ∧
      w05_48.rd UPB_TID_VALID = 1) :=
  by refine ⟨?_, ?_, ?_, ?_, ?_, ?_, ?_, ?_⟩ <;> decide +kernel

/-- Hypotheses of RecordsUsed that a state meets, clause by clause. -/
theorem witness_RecordsUsed_2 :
    (w05_49.wf = true ∧ w05_49.takesRecord 6 (recOf 6 262143 [0, 0, 0, 3, 0, 0, 0, 6]) = true ∧
      w05_49.addressed (recTid (recOf 6 262143 [0, 0, 0, 3, 0, 0, 0, 6])) = true ∧
      recBodyOk (recOf 6 262143 [0, 0, 0, 3, 0, 0, 0, 6]) = true ∧ w05_49.rx.rdiMf ≠ some (w05_49.carrying / mfTicks) ∧
      w05_49.rd UPB_TID_VALID = 1) ∧
    (w05_50.wf = true ∧ 3 < 32) ∧
    (w05_50.wf = true ∧ 4 < 32) ∧
    (1 < 2 ∧ (w05_52.pins.sd = false ∨ true = true ∧ 7 < w05_52.rd FRM_LOS_LEVEL)) ∧
    (w05_53.pins.sd = true ∧ (true = false ∨ w05_53.rd FRM_LOS_LEVEL ≤ 9)) ∧
    (w05_53.pins.sd = true ∧ (false = false ∨ w05_53.rd FRM_LOS_LEVEL ≤ 3)) :=
  by refine ⟨?_, ?_, ?_, ?_, ?_, ?_⟩ <;> decide +kernel

/-! Witnesses: records and messages -/

def HR_06 (m : Mode) : State := { S0 with mode := m, fuses := { serial := 0x1234567887654321, keyHash := 0, rollback := 0, factoryAllow := false, vendorId := 0 }, pins := { pgood := true, vddAon := true, pwrMainEn := true, resetN := true }, time := { lt := 1000 * mfTicks + 70 }, rx := { chains := [(0x200, { place := some 100, cur := { bytes := 50000 } })], first := false } }
def H1_06 (m : Mode) : State := setL (HR_06 m) [(LRX_SYM_RATE, 144000, 0), (UPB_TID_VALID, 1, 0), (UPB_TID, 5, 0), (LTM_STATE, 2, 0)]
def J_06 (st : Nat) : State := setL (H1_06 .join) [(UPB_JOIN_STATE, st, 0), (UPB_JOIN_EN, 1, 0)]
def hm_06 : HostMsg := { code := 12, seq := 3, own := true, deadline := 1000 * mfTicks + 700, late := false, answer := none }
def dw_06 : DiscWin := { g := 1000 * mfTicks + 40000000, wlen := 400, w := 6, mask := 0xF0, launch := 1000 * mfTicks + 50000000, eqd := 10000000, sc := some 5, record := List.replicate 64 7 }
def lp_06 (eff : Bool) : Rec := msgRec 1 4 262143 (bytesBE 4 77 ++ bytesBE 4 10000000 ++ bytesBE 4 (120000 * 2 ^ 14 + 3 * 2 ^ 9) ++ bytesBE 4 (24000 * 2 ^ 16)) eff (b2n eff * (12 * 2 ^ 28 + 9 * 2 ^ 21))
def rr_06 (k : Nat) : Rec := msgRec 4 4 5 (bytesBE 4 (k * 2 ^ 30) ++ bytesBE 4 123456)
def sr_06 (code : Nat) (l : List Nat) (tid : Nat) : Rec := msgRec code 4 tid (l.flatMap (bytesBE 4))
def w06_1 : State := (H1_06 .service).wr UPB_IN_COUNT 3
def w06_3 : State := setL (H1_06 .service) [(UPB_IN_COUNT, 5, 0), (UPB_IN_HEAD, 5, 0)]
def w06_7 : State := (let s := H1_06 .service; { s with join := { s.join with host := [hm_06] } })
def w06_9 : State := (let s := H1_06 .service; { s with join := { s.join with host := [hm_06] } }) |> (setL · [(UPB_OUT_TAIL, 7, 0), (UPB_OUT_SLOT, 0x20000008, 7 * 512), (UPB_OUT_SLOT, 0x0C030000, 7 * 512 + 4)])
def w06_10 : State := setL (H1_06 .service) [(UPB_OUT_TAIL, 6, 0), (UPB_OUT_SLOT, 0x2200000C, 6 * 512), (UPB_OUT_SLOT, 0x0C030000, 6 * 512 + 4)]
def w06_11 : State := setL (H1_06 .service) [(UPB_OUT_TAIL, 6, 0), (UPB_OUT_SLOT, 0x2300000C, 6 * 512)]
def w06_12 : State := H1_06 .service
def w06_14 : State := H1_06 .listen
def w06_15 : State := J_06 4
def w06_16 : State := (let s := (H1_06 .listen).wr UPB_JOIN_EN 1; { s with join := { s.join with params := some [5, 6, 7, 8, 9] } })
def w06_17 : State := (let s := (J_06 1).wr UPB_TRESP 10000000; { s with join := { s.join with span := 20000, lfsr := 77 } }.wr UPB_DIST_HINT 0xFFFF)
def w06_18 : State := (let s := (J_06 1).wr UPB_TX_EN 1; { s with join := { s.join with wins := [dw_06] } })
def w06_19 : State := (let s := (J_06 2); { s with join := { s.join with deadline := 1000 * mfTicks + 5000, w := 6, lfsr := 0x1234 } }.wr UPB_ATTEMPT 3)
def w06_20 : State := (let s := (J_06 2); { s with join := { s.join with deadline := 1000 * mfTicks + 5000, w := 6, lfsr := 0x1234 } }.wr UPB_ATTEMPT 255)
def w06_21 : State := (J_06 2).wr UPB_TID_VALID 0
def w06_22 : State := (let s := (J_06 4); { s with join := { s.join with rangeDue := some (1000 * mfTicks + 5000) } })
def w06_23 : State := (let s := (J_06 4).wr UPB_ATTEMPT 255; { s with join := { s.join with rangeDue := some (1000 * mfTicks + 5000) } })
def w06_25 : State := (H1_06 .listen).wr LTM_STATE 1
def w06_29 : State := (H1_06 .service).wr LTM_EQD_PEND 3
def w06_30 : State := (H1_06 .service).wr LTM_EQD_PEND 8388000
def w06_34 : State := (let s := (H1_06 .service).wr UPB_SILENCED 1; { s with join := { s.join with silEnd := some (1000 * mfTicks + 5000) } })
def w06_35 : State := (H1_06 .service).wr UPB_REGISTERED 1

/-- Hypotheses of HostMessagesPass that a state meets, clause by clause. -/
theorem witness_HostMessagesPass_1 :
    (msgOf (sr_06 7 [2 + 3 * 2 ^ 8, 7, 8] 5) = msgOf (sr_06 7 [2 + 3 * 2 ^ 8, 7, 8] 5) ∧
      (Instr.keyEpoch (sr_06 7 [2 + 3 * 2 ^ 8, 7, 8] 5), 7) ∈ [(Instr.keyEpoch (sr_06 7 [2 + 3 * 2 ^ 8, 7, 8] 5), 7), (Instr.oamTunnel (sr_06 7 [2 + 3 * 2 ^ 8, 7, 8] 5), 12), (Instr.asymSet (sr_06 7 [2 + 3 * 2 ^ 8, 7, 8] 5), 15)] ∧
      w06_1.wf = true ∧ w06_1.takesMessage 7 (sr_06 7 [2 + 3 * 2 ^ 8, 7, 8] 5) = true ∧ w06_1.rd UPB_IN_COUNT < 8 ∧
      3 = (w06_1.rd UPB_IN_HEAD + w06_1.rd UPB_IN_COUNT) % 8) ∧
    (w06_1.wf = true ∧ w06_1.takesMessage 7 (sr_06 7 [2 + 3 * 2 ^ 8, 7, 8] 5) = true ∧ w06_1.rd UPB_IN_COUNT < 8) ∧
    (msgOf (sr_06 12 [99, 7, 8] 5) = msgOf (sr_06 12 [99, 7, 8] 5) ∧
      (Instr.oamTunnel (sr_06 12 [99, 7, 8] 5), 12) ∈ [(Instr.keyEpoch (sr_06 12 [99, 7, 8] 5), 7), (Instr.oamTunnel (sr_06 12 [99, 7, 8] 5), 12), (Instr.asymSet (sr_06 12 [99, 7, 8] 5), 15)] ∧
      w06_3.wf = true ∧ w06_3.takesMessage 12 (sr_06 12 [99, 7, 8] 5) = true ∧ w06_3.rd UPB_IN_COUNT < 8 ∧
      2 = (w06_3.rd UPB_IN_HEAD + w06_3.rd UPB_IN_COUNT) % 8) ∧
    (w06_3.wf = true ∧ w06_3.takesMessage 12 (sr_06 12 [99, 7, 8] 5) = true ∧ w06_3.rd UPB_IN_COUNT < 8) ∧
    (msgOf (sr_06 15 [99] 5) = msgOf (sr_06 15 [99] 5) ∧
      (Instr.asymSet (sr_06 15 [99] 5), 15) ∈ [(Instr.keyEpoch (sr_06 15 [99] 5), 7), (Instr.oamTunnel (sr_06 15 [99] 5), 12), (Instr.asymSet (sr_06 15 [99] 5), 15)] ∧
      w06_3.wf = true ∧ w06_3.takesMessage 15 (sr_06 15 [99] 5) = true ∧ w06_3.rd UPB_IN_COUNT < 8 ∧
      2 = (w06_3.rd UPB_IN_HEAD + w06_3.rd UPB_IN_COUNT) % 8) ∧
    (w06_3.wf = true ∧ w06_3.takesMessage 15 (sr_06 15 [99] 5) = true ∧ w06_3.rd UPB_IN_COUNT < 8) ∧
    (w06_7.wf = true ∧ w06_7.join.host = [hm_06] ∧ hm_06.answer = none ∧ hm_06.late = false) ∧
    (w06_1.wf = true ∧ w06_1.rd UPB_IN_COUNT ≠ 0) :=
  by refine ⟨?_, ?_, ?_, ?_, ?_, ?_, ?_, ?_⟩ <;> decide +kernel

/-- Hypotheses of HostMessagesPass that a state meets, clause by clause. -/
theorem witness_HostMessagesPass_2 :
    (w06_9.wf = true ∧ w06_9.rd UPB_OUT_FREE ≠ 0 ∧ w06_9.queueOpen = true ∧
      8 = w06_9.rd UPB_OUT_SLOT (512 * w06_9.rd UPB_OUT_TAIL) % 2 ^ 16 ∧
      (bits (w06_9.rd UPB_OUT_SLOT (512 * w06_9.rd UPB_OUT_TAIL)) 31 24 = 32 ∧
      8 = 8 ∨ bits (w06_9.rd UPB_OUT_SLOT (512 * w06_9.rd UPB_OUT_TAIL)) 31 24 = 34 ∧ 4 ≤ 8 ∧ 8 ≤ 1024 ∧ 8 % 4 = 0)) ∧
    (w06_10.wf = true ∧ w06_10.rd UPB_OUT_FREE ≠ 0 ∧ w06_10.queueOpen = true ∧
      12 = w06_10.rd UPB_OUT_SLOT (512 * w06_10.rd UPB_OUT_TAIL) % 2 ^ 16 ∧
      (bits (w06_10.rd UPB_OUT_SLOT (512 * w06_10.rd UPB_OUT_TAIL)) 31 24 = 32 ∧
      12 = 8 ∨ bits (w06_10.rd UPB_OUT_SLOT (512 * w06_10.rd UPB_OUT_TAIL)) 31 24 = 34 ∧ 4 ≤ 12 ∧ 12 ≤ 1024 ∧ 12 % 4 = 0)) ∧
    (w06_11.wf = true ∧ w06_11.rd UPB_OUT_FREE ≠ 0 ∧ w06_11.up.waitPush = [] ∧
      bits (w06_11.rd UPB_OUT_SLOT (512 * w06_11.rd UPB_OUT_TAIL)) 31 24 ≠ 32 ∧
      bits (w06_11.rd UPB_OUT_SLOT (512 * w06_11.rd UPB_OUT_TAIL)) 31 24 ≠ 34) ∧
    (msgOf (sr_06 32 [99] 5) = msgOf (sr_06 32 [99] 5) ∧ w06_12.wf = true ∧ 8 ≤ recLen (sr_06 32 [99] 5) ∧
      ((msgOf (sr_06 32 [99] 5)).code = 0 ∨ 17 ≤ (msgOf (sr_06 32 [99] 5)).code) ∧ w06_12.takesRecord 5 (sr_06 32 [99] 5) = true ∧
      recBodyOk (sr_06 32 [99] 5) = true ∧ w06_12.addressed (msgOf (sr_06 32 [99] 5)).tid = true ∧ w06_12.queueOpen = true) ∧
    (msgOf (sr_06 0 [] 262143) = msgOf (sr_06 0 [] 262143) ∧ w06_12.wf = true ∧ 8 ≤ recLen (sr_06 0 [] 262143) ∧
      ((msgOf (sr_06 0 [] 262143)).code = 0 ∨ 17 ≤ (msgOf (sr_06 0 [] 262143)).code) ∧ w06_12.takesRecord 5 (sr_06 0 [] 262143) = true ∧
      recBodyOk (sr_06 0 [] 262143) = true ∧ w06_12.addressed (msgOf (sr_06 0 [] 262143)).tid = true ∧ w06_12.queueOpen = true) ∧
    (w06_12.wf = true ∧ recLen (recOf 5 5 [1, 2, 3, 4]) < 8 ∧ w06_12.takesRecord 5 (recOf 5 5 [1, 2, 3, 4]) = true ∧
      recBodyOk (recOf 5 5 [1, 2, 3, 4]) = true ∧ w06_12.addressed (recTid (recOf 5 5 [1, 2, 3, 4])) = true) :=
  by refine ⟨?_, ?_, ?_, ?_, ?_, ?_⟩ <;> decide +kernel

/-- Hypotheses of JoinProceeds that a state meets, clause by clause. -/
theorem witness_JoinProceeds :
    (w06_14.wf = true) ∧
    (w06_15.wf = true ∧ w06_15.mode = Mode.join) ∧
    (w06_16.wf = true ∧ w06_16.join.params = some [5, 6, 7, 8, 9] ∧ w06_16.mode = Mode.listen ∧ w06_16.pwr.transit = none ∧
      w06_16.rd UPB_JOIN_EN = 1 ∧ w06_16.rd LTM_STATE = ltLocked) ∧
    (msgOf (sr_06 2 [12 * 2 ^ 28 + 4 * 2 ^ 21 + 5 * 2 ^ 15 + 6 * 2 ^ 8, 400 * 2 ^ 16 + 240, 30000, 6 * 2 ^ 24] 262143) = msgOf (sr_06 2 [12 * 2 ^ 28 + 4 * 2 ^ 21 + 5 * 2 ^ 15 + 6 * 2 ^ 8, 400 * 2 ^ 16 + 240, 30000, 6 * 2 ^ 24] 262143) ∧
      w06_17.wf = true ∧
      w06_17.takesMessage 2 (sr_06 2 [12 * 2 ^ 28 + 4 * 2 ^ 21 + 5 * 2 ^ 15 + 6 * 2 ^ 8, 400 * 2 ^ 16 + 240, 30000, 6 * 2 ^ 24] 262143) = true ∧
      w06_17.mode = Mode.join ∧ w06_17.rd UPB_JOIN_STATE = 1 ∧ w06_17.rd UPB_DIST_HINT = 65535 ∧
      bits (msgWord (msgOf (sr_06 2 [12 * 2 ^ 28 + 4 * 2 ^ 21 + 5 * 2 ^ 15 + 6 * 2 ^ 8, 400 * 2 ^ 16 + 240, 30000, 6 * 2 ^ 24] 262143)) 2) 31 16 = 0 ∧
      w06_17.join.span ≤ bits (msgWord (msgOf (sr_06 2 [12 * 2 ^ 28 + 4 * 2 ^ 21 + 5 * 2 ^ 15 + 6 * 2 ^ 8, 400 * 2 ^ 16 + 240, 30000, 6 * 2 ^ 24] 262143)) 2) 15 0 ∧
      bits (msgWord (msgOf (sr_06 2 [12 * 2 ^ 28 + 4 * 2 ^ 21 + 5 * 2 ^ 15 + 6 * 2 ^ 8, 400 * 2 ^ 16 + 240, 30000, 6 * 2 ^ 24] 262143)) 1) 15 0 ≠ 0 ∧
      w06_17.join.wins = [] ∧ w06_17.join.sent = none ∧ w06_17.up.bursts = [] ∧
      ↑w06_17.now + 250 * ↑usTicks ≤ resolveG w06_17.now (↑(w06_17.rd UPB_TRESP)) (fieldTime (bits (msgWord (msgOf (sr_06 2 [12 * 2 ^ 28 + 4 * 2 ^ 21 + 5 * 2 ^ 15 + 6 * 2 ^ 8, 400 * 2 ^ 16 + 240, 30000, 6 * 2 ^ 24] 262143)) 0) 31 28) (bits (msgWord (msgOf (sr_06 2 [12 * 2 ^ 28 + 4 * 2 ^ 21 + 5 * 2 ^ 15 + 6 * 2 ^ 8, 400 * 2 ^ 16 + 240, 30000, 6 * 2 ^ 24] 262143)) 0) 27 21) (bits (msgWord (msgOf (sr_06 2 [12 * 2 ^ 28 + 4 * 2 ^ 21 + 5 * 2 ^ 15 + 6 * 2 ^ 8, 400 * 2 ^ 16 + 240, 30000, 6 * 2 ^ 24] 262143)) 0) 20 15) (bits (msgWord (msgOf (sr_06 2 [12 * 2 ^ 28 + 4 * 2 ^ 21 + 5 * 2 ^ 15 + 6 * 2 ^ 8, 400 * 2 ^ 16 + 240, 30000, 6 * 2 ^ 24] 262143)) 0) 14 8)) + ↑(w06_17.rd UPB_TRESP)) ∧
    (w06_18.wf = true ∧ w06_18.join.wins = [dw_06] ∧ dw_06.sc = some 5 ∧ w06_18.mode = Mode.join ∧ w06_18.rd UPB_JOIN_STATE = 1 ∧
      w06_18.rd LTM_STATE = ltLocked ∧ w06_18.rd UPB_SILENCED = 0 ∧ w06_18.rd FLT_SAFE = 0 ∧ w06_18.rd UPB_TX_EN = 1) ∧
    (w06_19.wf = true ∧ w06_19.mode = Mode.join ∧ w06_19.rd UPB_JOIN_STATE = 2) ∧
    (w06_20.wf = true ∧ w06_20.mode = Mode.join ∧ w06_20.rd UPB_JOIN_STATE = 2) ∧
    (msgOf (sr_06 3 [305419896, 2271560481, 48211 * 2 ^ 14, 999] 262143) = msgOf (sr_06 3 [305419896, 2271560481, 48211 * 2 ^ 14, 999] 262143) ∧
      w06_21.wf = true ∧ w06_21.takesMessage 3 (sr_06 3 [305419896, 2271560481, 48211 * 2 ^ 14, 999] 262143) = true ∧
      w06_21.ownTid (msgOf (sr_06 3 [305419896, 2271560481, 48211 * 2 ^ 14, 999] 262143)).tid = false ∧
      msgWord (msgOf (sr_06 3 [305419896, 2271560481, 48211 * 2 ^ 14, 999] 262143)) 0 * 2 ^ 32 + msgWord (msgOf (sr_06 3 [305419896, 2271560481, 48211 * 2 ^ 14, 999] 262143)) 1 = w06_21.fuses.serial % 2 ^ 64 ∧
      w06_21.mode = Mode.join ∧ w06_21.rd UPB_JOIN_STATE ∈ [2, 3, 4] ∧ w06_21.queueOpen = true) ∧
    (w06_22.wf = true ∧ w06_22.join.rangeDue = some (1000 * mfTicks + 5000) ∧ w06_22.mode = Mode.join ∧ w06_22.rd UPB_JOIN_STATE = 4) ∧
    (w06_23.wf = true ∧ w06_23.join.rangeDue = some (1000 * mfTicks + 5000) ∧ w06_23.mode = Mode.join ∧ w06_23.rd UPB_JOIN_STATE = 4) :=
  by refine ⟨?_, ?_, ?_, ?_, ?_, ?_, ?_, ?_, ?_, ?_⟩ <;> decide +kernel

/-- Hypotheses of LineMessagesAct that a state meets, clause by clause. -/
theorem witness_LineMessagesAct_1 :
    (msgOf (lp_06 false) = msgOf (lp_06 false) ∧ w06_14.wf = true ∧ w06_14.takesMessage 1 (lp_06 false) = true ∧
      (msgOf (lp_06 false)).eff = false ∧ w06_14.mode = Mode.listen ∧ w06_14.rd UPB_REGISTERED = 0) ∧
    (msgOf (lp_06 false) = msgOf (lp_06 false) ∧ w06_25.wf = true ∧ w06_25.takesMessage 1 (lp_06 false) = true ∧
      (msgOf (lp_06 false)).eff = false ∧ w06_25.mode = Mode.listen ∧ w06_25.rd UPB_REGISTERED = 0) ∧
    (msgOf (rr_06 0) = msgOf (rr_06 0) ∧ w06_15.wf = true ∧ w06_15.takesMessage 4 (rr_06 0) = true ∧ (msgOf (rr_06 0)).eff = false ∧
      w06_15.mode = Mode.join ∧ w06_15.rd UPB_JOIN_STATE = 4 ∧ w06_15.queueOpen = true) ∧
    (msgOf (rr_06 1) = msgOf (rr_06 1) ∧ w06_15.wf = true ∧ w06_15.takesMessage 4 (rr_06 1) = true ∧ (msgOf (rr_06 1)).eff = false ∧
      w06_15.mode = Mode.join ∧ w06_15.rd UPB_JOIN_STATE = 4 ∧ w06_15.queueOpen = true) ∧
    (msgOf (rr_06 2) = msgOf (rr_06 2) ∧ w06_15.wf = true ∧ w06_15.takesMessage 4 (rr_06 2) = true ∧ (msgOf (rr_06 2)).eff = false ∧
      w06_15.mode = Mode.join ∧ w06_15.rd UPB_JOIN_STATE = 4 ∧ w06_15.queueOpen = true) ∧
    (msgOf (sr_06 5 [4294963200] 5) = msgOf (sr_06 5 [4294963200] 5) ∧ w06_29.wf = true ∧
      w06_29.takesMessage 5 (sr_06 5 [4294963200] 5) = true ∧ (msgOf (sr_06 5 [4294963200] 5)).eff = false) ∧
    (msgOf (sr_06 5 [2147479552] 5) = msgOf (sr_06 5 [2147479552] 5) ∧ w06_30.wf = true ∧
      w06_30.takesMessage 5 (sr_06 5 [2147479552] 5) = true ∧ (msgOf (sr_06 5 [2147479552] 5)).eff = false) ∧
    (msgOf (sr_06 8 [328448] 5) = msgOf (sr_06 8 [328448] 5) ∧ w06_12.wf = true ∧ w06_12.takesMessage 8 (sr_06 8 [328448] 5) = true ∧
      (msgOf (sr_06 8 [328448] 5)).eff = false) :=
  by refine ⟨?_, ?_, ?_, ?_, ?_, ?_, ?_, ?_⟩ <;> decide +kernel

/-- Hypotheses of LineMessagesAct that a state meets, clause by clause. -/
theorem witness_LineMessagesAct_2 :
    (msgOf (sr_06 9 [] 262143) = msgOf (sr_06 9 [] 262143) ∧ w06_12.wf = true ∧ w06_12.takesMessage 9 (sr_06 9 [] 262143) = true ∧
      (msgOf (sr_06 9 [] 262143)).eff = false) ∧
    (msgOf (sr_06 9 [] 5) = msgOf (sr_06 9 [] 5) ∧ w06_12.wf = true ∧ w06_12.takesMessage 9 (sr_06 9 [] 5) = true ∧
      (msgOf (sr_06 9 [] 5)).eff = false) ∧
    (w06_34.wf = true ∧ w06_34.join.silEnd = some (1000 * mfTicks + 5000) ∧ w06_34.rd UPB_SILENCED = 1) ∧
    (msgOf (sr_06 10 [855638016] 5) = msgOf (sr_06 10 [855638016] 5) ∧ w06_35.wf = true ∧
      w06_35.takesMessage 10 (sr_06 10 [855638016] 5) = true ∧ (msgOf (sr_06 10 [855638016] 5)).eff = false) ∧
    (msgOf (sr_06 10 [855638016] 5) = msgOf (sr_06 10 [855638016] 5) ∧ w06_15.wf = true ∧
      w06_15.takesMessage 10 (sr_06 10 [855638016] 5) = true ∧ (msgOf (sr_06 10 [855638016] 5)).eff = false) ∧
    (msgOf (sr_06 16 [3, 250001, 250007, 250001] 5) = msgOf (sr_06 16 [3, 250001, 250007, 250001] 5) ∧ w06_12.wf = true ∧
      w06_12.takesMessage 16 (sr_06 16 [3, 250001, 250007, 250001] 5) = true ∧
      (msgOf (sr_06 16 [3, 250001, 250007, 250001] 5)).eff = false ∧ w06_12.queueOpen = true) ∧
    (msgOf (lp_06 true) = msgOf (lp_06 true) ∧
      (Instr.lineParams (lp_06 true), 1) ∈ [(Instr.lineParams (lp_06 true), 1), (Instr.groupSet (lp_06 true), 16)] ∧ w06_14.wf = true ∧
      w06_14.takesMessage 1 (lp_06 true) = true ∧ (msgOf (lp_06 true)).eff = true ∧
      w06_14.effBoundary (msgOf (lp_06 true)).effWord = some (((H1_06 Mode.listen).effBoundary (12 * 2 ^ 28 + 9 * 2 ^ 21)).getD 0)) ∧
    (msgOf (msgRec 16 4 5 (List.flatMap (bytesBE 4) [1, 250001]) true (12 * 2 ^ 28 + 9 * 2 ^ 21)) = msgOf (msgRec 16 4 5 (List.flatMap (bytesBE 4) [1, 250001]) true (12 * 2 ^ 28 + 9 * 2 ^ 21)) ∧
      (Instr.groupSet (msgRec 16 4 5 (List.flatMap (bytesBE 4) [1, 250001]) true (12 * 2 ^ 28 + 9 * 2 ^ 21)), 16) ∈ [(Instr.lineParams (msgRec 16 4 5 (List.flatMap (bytesBE 4) [1, 250001]) true (12 * 2 ^ 28 + 9 * 2 ^ 21)), 1), (Instr.groupSet (msgRec 16 4 5 (List.flatMap (bytesBE 4) [1, 250001]) true (12 * 2 ^ 28 + 9 * 2 ^ 21)), 16)] ∧
      w06_12.wf = true ∧
      w06_12.takesMessage 16 (msgRec 16 4 5 (List.flatMap (bytesBE 4) [1, 250001]) true (12 * 2 ^ 28 + 9 * 2 ^ 21)) = true ∧
      (msgOf (msgRec 16 4 5 (List.flatMap (bytesBE 4) [1, 250001]) true (12 * 2 ^ 28 + 9 * 2 ^ 21))).eff = true ∧
      w06_12.effBoundary (msgOf (msgRec 16 4 5 (List.flatMap (bytesBE 4) [1, 250001]) true (12 * 2 ^ 28 + 9 * 2 ^ 21))).effWord = some (((H1_06 Mode.listen).effBoundary (12 * 2 ^ 28 + 9 * 2 ^ 21)).getD 0)) :=
  by refine ⟨?_, ?_, ?_, ?_, ?_, ?_, ?_, ?_⟩ <;> decide +kernel

/-! Witnesses: joining and bursts -/

def HR_07 (m : Mode) : State := { S0 with mode := m, pins := { pgood := true, vddAon := true, pwrMainEn := true, resetN := true }, time := { lt := 1000 * mfTicks + 70 }, rx := { chains := [(0x200, { place := some 100, cur := { bytes := 50000 } })], first := false, grants := 0 } }
def H1_07 (m : Mode) : State := setL (HR_07 m) [(LRX_SYM_RATE, 144000, 0), (UPB_TID_VALID, 1, 0), (UPB_TID, 5, 0), (LTM_STATE, 2, 0), (UPB_TX_EN, 1, 0), (QSH_AL_SEAL_ON_GRANT, 0, 7)]
def GB_07 (mf len kind cancel : Nat) : Nat := let x := 5 * 2 ^ 110 + 7 * 2 ^ 104 + 8 * 2 ^ 100 + mf * 2 ^ 93 + 4 * 2 ^ 87 + 9 * 2 ^ 80 + len * 2 ^ 70 + 3 * 2 ^ 54 + kind * 2 ^ 46 + cancel * 2 ^ 42; x + crc16 (bytesBE 14 (x / 2 ^ 16))
def gr_07 (b : Nat) : Rec := recOf 4 5 (bytesBE 16 b)
def gg_07 (b : Nat) : Int := resolveG (1000 * mfTicks + 70) 0 (gTime b)
def C1_07 (b : Nat) (e : Nat) : State := (let s := H1_07 .service; { s with up := { s.up with cal := [(3, { bits := b, g := gg_07 b, est := e })] } })
def BU_07 (b : Nat) (air : Bool) (cs : List Held) (d : List (Nat × List Nat)) : Burst := { entry := 3, g := gg_07 b, bits := b, hdr := List.replicate 64 3, conts := cs, msgs := [⟨0x20, 4, [1, 2], 5⟩], epoch := 0, key := 0, pre := 256, blocks := 9, launch := (gg_07 b).toNat, inAir := air, data := d }
def B1_07 (b : Nat) (air : Bool) (cs : List Held) (d : List (Nat × List Nat)) : State := (let s := H1_07 .service; { s with up := { s.up with bursts := [BU_07 b air cs d], cal := [(3, { bits := b, g := gg_07 b, est := 2 })] } })
def w07_1 : State := H1_07 .service
def w07_4 : State := C1_07 (GB_07 12 100 0 0) 1
def w07_10 : State := C1_07 (GB_07 0 100 0 0) 1
def w07_11 : State := B1_07 (GB_07 12 100 0 0) false [] []
def w07_12 : State := (let s := C1_07 (GB_07 12 100 0 0) 1; { s with held := [(7, [⟨5, false, 1⟩, ⟨9, false, 2⟩])], up := { s.up with umq := [⟨0x20, 4, [1, 2], 5⟩, ⟨0x22, 5, [1, 2], 5⟩], discN := 4 } })
def w07_13 : State := (let s := C1_07 (GB_07 12 10 0 0) 1; { s with held := [(7, (List.range 90).map fun k => ⟨k, false, k⟩)], up := { s.up with umq := [⟨0x20, 4, [1, 2], 5⟩, ⟨0x22, 5, [1, 2], 2 ^ 60⟩], discN := 4 } })
def w07_14 : State := (C1_07 (GB_07 12 100 0 0) 1).wr UPB_SILENCED 1
def w07_15 : State := (C1_07 (GB_07 12 100 0 0) 1).wr LTM_STATE 3
def w07_17 : State := B1_07 (GB_07 12 100 0 0) false [⟨5, true, 1⟩, ⟨7, true, 1⟩] []
def w07_18 : State := B1_07 (GB_07 12 100 0 0) true [] []
def w07_19 : State := B1_07 (GB_07 12 100 0 0) true [⟨5, true, 1⟩] [(0, [7, 8, 9])]

/-- Hypotheses of GrantsJudged that a state meets, clause by clause. -/
theorem witness_GrantsJudged_1 :
    (w07_1.wf = true ∧ GB_07 12 100 0 0 + 1 < 2 ^ 128 ∧ gCancel (GB_07 12 100 0 0 + 1) = false ∧
      w07_1.takesGrant (gr_07 (GB_07 12 100 0 0 + 1)) 0 = true ∧ GB_07 12 100 0 0 + 1 = grantBits (gr_07 (GB_07 12 100 0 0 + 1)) 0 ∧
      w07_1.mode ≠ Mode.graze ∧ w07_1.pwr.transit ≠ some Mode.graze ∧
      crc16 (bytesBE 14 ((GB_07 12 100 0 0 + 1) / 2 ^ 16)) ≠ gCrc (GB_07 12 100 0 0 + 1)) ∧
    (w07_1.wf = true ∧ GB_07 12 100 0 0 < 2 ^ 128 ∧ gCancel (GB_07 12 100 0 0) = false ∧ w07_1.takesGrant (gr_07 (GB_07 12 100 0 0)) 0 = true ∧
      GB_07 12 100 0 0 = grantBits (gr_07 (GB_07 12 100 0 0)) 0 ∧ w07_1.mode = Mode.service ∧ w07_1.pwr.transit ≠ some Mode.graze ∧
      crc16 (bytesBE 14 (GB_07 12 100 0 0 / 2 ^ 16)) = gCrc (GB_07 12 100 0 0) ∧ w07_1.rd UPB_TID_VALID = 1 ∧
      w07_1.rd UPB_TID = gTid (GB_07 12 100 0 0) ∧ gMf (GB_07 12 100 0 0) ≤ 124 ∧ gSl (GB_07 12 100 0 0) ≤ 124 ∧ 1 ≤ gLen (GB_07 12 100 0 0) ∧
      gLen (GB_07 12 100 0 0) ≤ 1000 ∧ gScmask (GB_07 12 100 0 0) ≠ 0 ∧ gKind (GB_07 12 100 0 0) = 0 ∧
      (gStanding (GB_07 12 100 0 0) = true → gLen (GB_07 12 100 0 0) * slotTicks ≤ gPeriod (GB_07 12 100 0 0)) ∧
      w07_1.blocksOf (GB_07 12 100 0 0) ≠ 0 ∧
      bit (w07_1.rd UPB_EXP_MASK_LO + w07_1.rd UPB_EXP_MASK_HI * 2 ^ 32) (gAlloc (GB_07 12 100 0 0)) = false ∧
      gg_07 (GB_07 12 100 0 0) = resolveG w07_1.now (↑(w07_1.rd LTM_EQD)) (gTime (GB_07 12 100 0 0)) ∧ 0 < 8192 ∧
      amGet? w07_1.up.cal 0 = none ∧ (∀ (k : Nat), k < 0 → amGet? w07_1.up.cal k ≠ none) ∧ w07_1.rd UPB_STANDING_COUNT < 64) ∧
    (w07_1.wf = true ∧ GB_07 0 100 0 0 < 2 ^ 128 ∧ gCancel (GB_07 0 100 0 0) = false ∧ w07_1.takesGrant (gr_07 (GB_07 0 100 0 0)) 0 = true ∧
      GB_07 0 100 0 0 = grantBits (gr_07 (GB_07 0 100 0 0)) 0 ∧ w07_1.mode = Mode.service ∧ w07_1.pwr.transit ≠ some Mode.graze ∧
      crc16 (bytesBE 14 (GB_07 0 100 0 0 / 2 ^ 16)) = gCrc (GB_07 0 100 0 0) ∧ w07_1.rd UPB_TID_VALID = 1 ∧
      w07_1.rd UPB_TID = gTid (GB_07 0 100 0 0) ∧ gMf (GB_07 0 100 0 0) ≤ 124 ∧ gSl (GB_07 0 100 0 0) ≤ 124 ∧ 1 ≤ gLen (GB_07 0 100 0 0) ∧
      gLen (GB_07 0 100 0 0) ≤ 1000 ∧ gScmask (GB_07 0 100 0 0) ≠ 0 ∧ gKind (GB_07 0 100 0 0) = 0 ∧
      (gStanding (GB_07 0 100 0 0) = true → gLen (GB_07 0 100 0 0) * slotTicks ≤ gPeriod (GB_07 0 100 0 0)) ∧
      w07_1.blocksOf (GB_07 0 100 0 0) ≠ 0 ∧
      bit (w07_1.rd UPB_EXP_MASK_LO + w07_1.rd UPB_EXP_MASK_HI * 2 ^ 32) (gAlloc (GB_07 0 100 0 0)) = false ∧
      gg_07 (GB_07 0 100 0 0) = resolveG w07_1.now (↑(w07_1.rd LTM_EQD)) (gTime (GB_07 0 100 0 0)) ∧ 0 < 8192 ∧ amGet? w07_1.up.cal 0 = none ∧
      (∀ (k : Nat), k < 0 → amGet? w07_1.up.cal k ≠ none) ∧ w07_1.rd UPB_STANDING_COUNT < 64) ∧
    (w07_4.wf = true ∧ GB_07 12 100 0 0 < 2 ^ 128 ∧ gCancel (GB_07 12 100 0 0) = false ∧ w07_4.takesGrant (gr_07 (GB_07 12 100 0 0)) 0 = true ∧
      GB_07 12 100 0 0 = grantBits (gr_07 (GB_07 12 100 0 0)) 0 ∧ w07_4.mode = Mode.service ∧ w07_4.pwr.transit ≠ some Mode.graze ∧
      crc16 (bytesBE 14 (GB_07 12 100 0 0 / 2 ^ 16)) = gCrc (GB_07 12 100 0 0) ∧ w07_4.rd UPB_TID_VALID = 1 ∧
      w07_4.rd UPB_TID = gTid (GB_07 12 100 0 0) ∧ gMf (GB_07 12 100 0 0) ≤ 124 ∧ gSl (GB_07 12 100 0 0) ≤ 124 ∧ 1 ≤ gLen (GB_07 12 100 0 0) ∧
      gLen (GB_07 12 100 0 0) ≤ 1000 ∧ gScmask (GB_07 12 100 0 0) ≠ 0 ∧ gKind (GB_07 12 100 0 0) = 0 ∧
      (gStanding (GB_07 12 100 0 0) = true → gLen (GB_07 12 100 0 0) * slotTicks ≤ gPeriod (GB_07 12 100 0 0)) ∧
      w07_4.blocksOf (GB_07 12 100 0 0) ≠ 0 ∧
      bit (w07_4.rd UPB_EXP_MASK_LO + w07_4.rd UPB_EXP_MASK_HI * 2 ^ 32) (gAlloc (GB_07 12 100 0 0)) = false ∧
      gg_07 (GB_07 12 100 0 0) = resolveG w07_4.now (↑(w07_4.rd LTM_EQD)) (gTime (GB_07 12 100 0 0)) ∧ 0 < 8192 ∧
      amGet? w07_4.up.cal 0 = none ∧ (∀ (k : Nat), k < 0 → amGet? w07_4.up.cal k ≠ none) ∧ w07_4.rd UPB_STANDING_COUNT < 64) ∧
    (w07_1.wf = true ∧ GB_07 125 100 0 0 < 2 ^ 128 ∧ gCancel (GB_07 125 100 0 0) = false ∧
      w07_1.takesGrant (gr_07 (GB_07 125 100 0 0)) 0 = true ∧ GB_07 125 100 0 0 = grantBits (gr_07 (GB_07 125 100 0 0)) 0 ∧
      w07_1.mode ≠ Mode.graze ∧ w07_1.pwr.transit ≠ some Mode.graze ∧
      crc16 (bytesBE 14 (GB_07 125 100 0 0 / 2 ^ 16)) = gCrc (GB_07 125 100 0 0) ∧ w07_1.rd UPB_TID_VALID = 1 ∧
      w07_1.rd UPB_TID = gTid (GB_07 125 100 0 0) ∧
      (125 ≤ gMf (GB_07 125 100 0 0) ∨ 125 ≤ gSl (GB_07 125 100 0 0) ∨ gLen (GB_07 125 100 0 0) = 0 ∨ 1000 < gLen (GB_07 125 100 0 0) ∨ gScmask (GB_07 125 100 0 0) = 0 ∨ gKind (GB_07 125 100 0 0) ∈ [3, 5, 6, 7] ∨ gStanding (GB_07 125 100 0 0) = true ∧
      gPeriod (GB_07 125 100 0 0) < gLen (GB_07 125 100 0 0) * slotTicks ∨ w07_1.blocksOf (GB_07 125 100 0 0) = 0)) ∧
    (w07_1.wf = true ∧ GB_07 12 100 3 0 < 2 ^ 128 ∧ gCancel (GB_07 12 100 3 0) = false ∧ w07_1.takesGrant (gr_07 (GB_07 12 100 3 0)) 0 = true ∧
      GB_07 12 100 3 0 = grantBits (gr_07 (GB_07 12 100 3 0)) 0 ∧ w07_1.mode ≠ Mode.graze ∧ w07_1.pwr.transit ≠ some Mode.graze ∧
      crc16 (bytesBE 14 (GB_07 12 100 3 0 / 2 ^ 16)) = gCrc (GB_07 12 100 3 0) ∧ w07_1.rd UPB_TID_VALID = 1 ∧
      w07_1.rd UPB_TID = gTid (GB_07 12 100 3 0) ∧
      (125 ≤ gMf (GB_07 12 100 3 0) ∨ 125 ≤ gSl (GB_07 12 100 3 0) ∨ gLen (GB_07 12 100 3 0) = 0 ∨ 1000 < gLen (GB_07 12 100 3 0) ∨ gScmask (GB_07 12 100 3 0) = 0 ∨ gKind (GB_07 12 100 3 0) ∈ [3, 5, 6, 7] ∨ gStanding (GB_07 12 100 3 0) = true ∧
      gPeriod (GB_07 12 100 3 0) < gLen (GB_07 12 100 3 0) * slotTicks ∨ w07_1.blocksOf (GB_07 12 100 3 0) = 0)) ∧
    (w07_1.wf = true ∧ GB_07 12 0 0 0 < 2 ^ 128 ∧ gCancel (GB_07 12 0 0 0) = false ∧ w07_1.takesGrant (gr_07 (GB_07 12 0 0 0)) 0 = true ∧
      GB_07 12 0 0 0 = grantBits (gr_07 (GB_07 12 0 0 0)) 0 ∧ w07_1.mode ≠ Mode.graze ∧ w07_1.pwr.transit ≠ some Mode.graze ∧
      crc16 (bytesBE 14 (GB_07 12 0 0 0 / 2 ^ 16)) = gCrc (GB_07 12 0 0 0) ∧ w07_1.rd UPB_TID_VALID = 1 ∧
      w07_1.rd UPB_TID = gTid (GB_07 12 0 0 0) ∧
      (125 ≤ gMf (GB_07 12 0 0 0) ∨ 125 ≤ gSl (GB_07 12 0 0 0) ∨ gLen (GB_07 12 0 0 0) = 0 ∨ 1000 < gLen (GB_07 12 0 0 0) ∨ gScmask (GB_07 12 0 0 0) = 0 ∨ gKind (GB_07 12 0 0 0) ∈ [3, 5, 6, 7] ∨ gStanding (GB_07 12 0 0 0) = true ∧
      gPeriod (GB_07 12 0 0 0) < gLen (GB_07 12 0 0 0) * slotTicks ∨ w07_1.blocksOf (GB_07 12 0 0 0) = 0)) ∧
    (w07_4.wf = true ∧ GB_07 12 100 0 1 < 2 ^ 128 ∧ gCancel (GB_07 12 100 0 1) = true ∧ w07_4.takesGrant (gr_07 (GB_07 12 100 0 1)) 0 = true ∧
      GB_07 12 100 0 1 = grantBits (gr_07 (GB_07 12 100 0 1)) 0 ∧ w07_4.mode ≠ Mode.graze ∧ w07_4.pwr.transit ≠ some Mode.graze ∧
      crc16 (bytesBE 14 (GB_07 12 100 0 1 / 2 ^ 16)) = gCrc (GB_07 12 100 0 1) ∧ w07_4.rd UPB_TID_VALID = 1 ∧
      w07_4.rd UPB_TID = gTid (GB_07 12 100 0 1) ∧
      w07_4.up.cal = [(3, { bits := GB_07 12 100 0 0, g := gg_07 (GB_07 12 100 0 0), est := 1 : Grant })] ∧ w07_4.up.bursts = [] ∧
      { bits := GB_07 12 100 0 0, g := gg_07 (GB_07 12 100 0 0), est := 1 : Grant }.est = 1 ∧
      { bits := GB_07 12 100 0 0, g := gg_07 (GB_07 12 100 0 0), est := 1 : Grant }.stop = none ∧
      gStanding { bits := GB_07 12 100 0 0, g := gg_07 (GB_07 12 100 0 0), est := 1 : Grant }.bits = false) :=
  by refine ⟨?_, ?_, ?_, ?_, ?_, ?_, ?_, ?_⟩ <;> decide +kernel

/-- Hypotheses of GrantsJudged that a state meets, clause by clause. -/
theorem witness_GrantsJudged_2 :
    (w07_4.wf = true ∧ GB_07 13 100 0 1 < 2 ^ 128 ∧ gCancel (GB_07 13 100 0 1) = true ∧ w07_4.takesGrant (gr_07 (GB_07 13 100 0 1)) 0 = true ∧
      GB_07 13 100 0 1 = grantBits (gr_07 (GB_07 13 100 0 1)) 0 ∧ w07_4.mode ≠ Mode.graze ∧ w07_4.pwr.transit ≠ some Mode.graze ∧
      crc16 (bytesBE 14 (GB_07 13 100 0 1 / 2 ^ 16)) = gCrc (GB_07 13 100 0 1) ∧ w07_4.rd UPB_TID_VALID = 1 ∧
      w07_4.rd UPB_TID = gTid (GB_07 13 100 0 1) ∧
      w07_4.up.cal = [(3, { bits := GB_07 12 100 0 0, g := gg_07 (GB_07 12 100 0 0), est := 1 : Grant })] ∧ w07_4.up.bursts = [] ∧
      { bits := GB_07 12 100 0 0, g := gg_07 (GB_07 12 100 0 0), est := 1 : Grant }.est = 1 ∧
      { bits := GB_07 12 100 0 0, g := gg_07 (GB_07 12 100 0 0), est := 1 : Grant }.stop = none ∧
      gStanding { bits := GB_07 12 100 0 0, g := gg_07 (GB_07 12 100 0 0), est := 1 : Grant }.bits = false) ∧
    (w07_10.wf = true ∧ GB_07 0 100 0 1 < 2 ^ 128 ∧ gCancel (GB_07 0 100 0 1) = true ∧ w07_10.takesGrant (gr_07 (GB_07 0 100 0 1)) 0 = true ∧
      GB_07 0 100 0 1 = grantBits (gr_07 (GB_07 0 100 0 1)) 0 ∧ w07_10.mode ≠ Mode.graze ∧ w07_10.pwr.transit ≠ some Mode.graze ∧
      crc16 (bytesBE 14 (GB_07 0 100 0 1 / 2 ^ 16)) = gCrc (GB_07 0 100 0 1) ∧ w07_10.rd UPB_TID_VALID = 1 ∧
      w07_10.rd UPB_TID = gTid (GB_07 0 100 0 1) ∧
      w07_10.up.cal = [(3, { bits := GB_07 0 100 0 0, g := gg_07 (GB_07 0 100 0 0), est := 1 : Grant })] ∧ w07_10.up.bursts = [] ∧
      { bits := GB_07 0 100 0 0, g := gg_07 (GB_07 0 100 0 0), est := 1 : Grant }.est = 1 ∧
      { bits := GB_07 0 100 0 0, g := gg_07 (GB_07 0 100 0 0), est := 1 : Grant }.stop = none ∧
      gStanding { bits := GB_07 0 100 0 0, g := gg_07 (GB_07 0 100 0 0), est := 1 : Grant }.bits = false) ∧
    (w07_11.wf = true ∧ GB_07 12 100 0 1 < 2 ^ 128 ∧ gCancel (GB_07 12 100 0 1) = true ∧ w07_11.takesGrant (gr_07 (GB_07 12 100 0 1)) 0 = true ∧
      GB_07 12 100 0 1 = grantBits (gr_07 (GB_07 12 100 0 1)) 0 ∧ w07_11.mode ≠ Mode.graze ∧ w07_11.pwr.transit ≠ some Mode.graze ∧
      crc16 (bytesBE 14 (GB_07 12 100 0 1 / 2 ^ 16)) = gCrc (GB_07 12 100 0 1) ∧ w07_11.rd UPB_TID_VALID = 1 ∧
      w07_11.rd UPB_TID = gTid (GB_07 12 100 0 1) ∧ w07_11.up.bursts = [BU_07 (GB_07 12 100 0 0) false [] []] ∧ gMf (GB_07 12 100 0 1) ≤ 124 ∧
      gSl (GB_07 12 100 0 1) ≤ 124 ∧ gTid (GB_07 12 100 0 1) = gTid (BU_07 (GB_07 12 100 0 0) false [] []).bits ∧
      gAlloc (GB_07 12 100 0 1) = gAlloc (BU_07 (GB_07 12 100 0 0) false [] []).bits ∧
      gScmask (GB_07 12 100 0 1) = gScmask (BU_07 (GB_07 12 100 0 0) false [] []).bits ∧
      gKind (GB_07 12 100 0 1) = gKind (BU_07 (GB_07 12 100 0 0) false [] []).bits ∧
      (↑(gTime (GB_07 12 100 0 1)) - (BU_07 (GB_07 12 100 0 0) false [] []).g) % gSpan = 0) :=
  by refine ⟨?_, ?_, ?_⟩ <;> decide +kernel

/-- Hypotheses of BurstsRun that a state meets, clause by clause. -/
theorem witness_BurstsRun_1 :
    (w07_12.wf = true ∧ w07_12.up.cal = [(3, { bits := GB_07 12 100 0 0, g := gg_07 (GB_07 12 100 0 0), est := 1 : Grant })] ∧
      { bits := GB_07 12 100 0 0, g := gg_07 (GB_07 12 100 0 0), est := 1 : Grant }.est = 1 ∧
      gStanding { bits := GB_07 12 100 0 0, g := gg_07 (GB_07 12 100 0 0), est := 1 : Grant }.bits = false ∧
      gKind { bits := GB_07 12 100 0 0, g := gg_07 (GB_07 12 100 0 0), est := 1 : Grant }.bits = 0 ∧
      w07_12.heldNow { bits := GB_07 12 100 0 0, g := gg_07 (GB_07 12 100 0 0), est := 1 : Grant }.bits = false ∧
      w07_12.blocksOf { bits := GB_07 12 100 0 0, g := gg_07 (GB_07 12 100 0 0), est := 1 : Grant }.bits ≠ 0 ∧
      w07_12.rd QSH_AL_SEAL_ON_GRANT (gAlloc { bits := GB_07 12 100 0 0, g := gg_07 (GB_07 12 100 0 0), est := 1 : Grant }.bits) = 0 ∧
      w07_12.up.bursts = [] ∧ w07_12.up.waitPush = [] ∧ w07_12.join.wins = [] ∧ w07_12.join.sent = none) ∧
    (w07_13.wf = true ∧ w07_13.up.cal = [(3, { bits := GB_07 12 10 0 0, g := gg_07 (GB_07 12 10 0 0), est := 1 : Grant })] ∧
      { bits := GB_07 12 10 0 0, g := gg_07 (GB_07 12 10 0 0), est := 1 : Grant }.est = 1 ∧
      gStanding { bits := GB_07 12 10 0 0, g := gg_07 (GB_07 12 10 0 0), est := 1 : Grant }.bits = false ∧
      gKind { bits := GB_07 12 10 0 0, g := gg_07 (GB_07 12 10 0 0), est := 1 : Grant }.bits = 0 ∧
      w07_13.heldNow { bits := GB_07 12 10 0 0, g := gg_07 (GB_07 12 10 0 0), est := 1 : Grant }.bits = false ∧
      w07_13.blocksOf { bits := GB_07 12 10 0 0, g := gg_07 (GB_07 12 10 0 0), est := 1 : Grant }.bits ≠ 0 ∧
      w07_13.rd QSH_AL_SEAL_ON_GRANT (gAlloc { bits := GB_07 12 10 0 0, g := gg_07 (GB_07 12 10 0 0), est := 1 : Grant }.bits) = 0 ∧
      w07_13.up.bursts = [] ∧ w07_13.up.waitPush = [] ∧ w07_13.join.wins = [] ∧ w07_13.join.sent = none) ∧
    (w07_14.wf = true ∧ w07_14.up.cal = [(3, { bits := GB_07 12 100 0 0, g := gg_07 (GB_07 12 100 0 0), est := 1 : Grant })] ∧
      { bits := GB_07 12 100 0 0, g := gg_07 (GB_07 12 100 0 0), est := 1 : Grant }.est = 1 ∧
      gStanding { bits := GB_07 12 100 0 0, g := gg_07 (GB_07 12 100 0 0), est := 1 : Grant }.bits = false ∧ w07_14.up.bursts = [] ∧
      gKind { bits := GB_07 12 100 0 0, g := gg_07 (GB_07 12 100 0 0), est := 1 : Grant }.bits = 0 ∧
      (w07_14.rd LTM_STATE ≠ ltLocked ∨ w07_14.rd UPB_SILENCED = 1 ∨ w07_14.rd FLT_SAFE = 1 ∨ w07_14.rd UPB_TX_EN = 0 ∨ w07_14.mode ≠ Mode.service)) ∧
    (w07_15.wf = true ∧ w07_15.up.cal = [(3, { bits := GB_07 12 100 0 0, g := gg_07 (GB_07 12 100 0 0), est := 1 : Grant })] ∧
      { bits := GB_07 12 100 0 0, g := gg_07 (GB_07 12 100 0 0), est := 1 : Grant }.est = 1 ∧
      gStanding { bits := GB_07 12 100 0 0, g := gg_07 (GB_07 12 100 0 0), est := 1 : Grant }.bits = false ∧ w07_15.up.bursts = [] ∧
      gKind { bits := GB_07 12 100 0 0, g := gg_07 (GB_07 12 100 0 0), est := 1 : Grant }.bits = 0 ∧
      (w07_15.rd LTM_STATE ≠ ltLocked ∨ w07_15.rd UPB_SILENCED = 1 ∨ w07_15.rd FLT_SAFE = 1 ∨ w07_15.rd UPB_TX_EN = 0 ∨ w07_15.mode ≠ Mode.service)) ∧
    (w07_11.wf = true ∧ w07_11.up.bursts = [BU_07 (GB_07 12 100 0 0) false [] []] ∧ (BU_07 (GB_07 12 100 0 0) false [] []).inAir = false ∧
      w07_11.heldNow (BU_07 (GB_07 12 100 0 0) false [] []).bits = false) ∧
    (w07_17.wf = true ∧
      w07_17.up.bursts = [BU_07 (GB_07 12 100 0 0) false [{ handle := 5, exp := true, seq := 1 : Held }, { handle := 7, exp := true, seq := 1 : Held }] []] ∧
      (BU_07 (GB_07 12 100 0 0) false [{ handle := 5, exp := true, seq := 1 : Held }, { handle := 7, exp := true, seq := 1 : Held }] []).inAir = false ∧
      w07_17.heldNow (BU_07 (GB_07 12 100 0 0) false [{ handle := 5, exp := true, seq := 1 : Held }, { handle := 7, exp := true, seq := 1 : Held }] []).bits = false) ∧
    (w07_18.wf = true ∧ w07_18.up.bursts = [BU_07 (GB_07 12 100 0 0) true [] []] ∧ (BU_07 (GB_07 12 100 0 0) true [] []).inAir = true ∧
      w07_18.up.disc = none ∧ (BU_07 (GB_07 12 100 0 0) true [] []).epoch = 0 ∧ (BU_07 (GB_07 12 100 0 0) true [] []).bad = [] ∧
      ∀ (i : Nat), i < (BU_07 (GB_07 12 100 0 0) true [] []).conts.length → (amGet? (BU_07 (GB_07 12 100 0 0) true [] []).data i).isSome = true) ∧
    (w07_19.wf = true ∧
      w07_19.up.bursts = [BU_07 (GB_07 12 100 0 0) true [{ handle := 5, exp := true, seq := 1 : Held }] [(0, [7, 8, 9])]] ∧
      (BU_07 (GB_07 12 100 0 0) true [{ handle := 5, exp := true, seq := 1 : Held }] [(0, [7, 8, 9])]).inAir = true ∧
      w07_19.up.disc = none ∧ (BU_07 (GB_07 12 100 0 0) true [{ handle := 5, exp := true, seq := 1 : Held }] [(0, [7, 8, 9])]).epoch = 0 ∧
      (BU_07 (GB_07 12 100 0 0) true [{ handle := 5, exp := true, seq := 1 : Held }] [(0, [7, 8, 9])]).bad = [] ∧
      ∀ (i : Nat), i < (BU_07 (GB_07 12 100 0 0) true [{ handle := 5, exp := true, seq := 1 : Held }] [(0, [7, 8, 9])]).conts.length → (amGet? (BU_07 (GB_07 12 100 0 0) true [{ handle := 5, exp := true, seq := 1 : Held }] [(0, [7, 8, 9])]).data i).isSome = true) :=
  by refine ⟨?_, ?_, ?_, ?_, ?_, ?_, ?_, ?_⟩ <;> decide +kernel

/-- Hypotheses of BurstsRun that a state meets, clause by clause. -/
theorem witness_BurstsRun_2 :
    (w07_1.wf = true ∧ w07_1.up.bursts = [] ∧ w07_1.join.wins = [] ∧ w07_1.join.sent = none ∧ 48 % 2 ^ 16 ≠ 0 ∧
      w07_1.rd FLT_SAFE = 0 ∧ w07_1.freshRecord 0 cGuardTrip 9 = true) ∧
    (w07_4.wf = true ∧ w07_4.up.cal = [(3, { bits := GB_07 12 100 0 0, g := gg_07 (GB_07 12 100 0 0), est := 1 : Grant })] ∧
      { bits := GB_07 12 100 0 0, g := gg_07 (GB_07 12 100 0 0), est := 1 : Grant }.est = 1 ∧ w07_4.up.bursts = [] ∧ w07_4.join.wins = [] ∧
      w07_4.join.sent = none ∧ w07_4.now ≤ w07_4.launchOf { bits := GB_07 12 100 0 0, g := gg_07 (GB_07 12 100 0 0), est := 1 : Grant }.g) ∧
    (w07_4.wf = true ∧ w07_4.up.bursts = [] ∧ w07_4.up.disc = none ∧ w07_4.join.wins = [] ∧ w07_4.join.sent = none ∧
      ∀ (e : Nat × Grant), e ∈ w07_4.up.cal → w07_4.now + msTicks < w07_4.launchOf e.snd.g) :=
  by refine ⟨?_, ?_, ?_⟩ <;> decide +kernel

/-! Witnesses: faults -/

def HR_08 (m : Mode) : State := { S0 with mode := m, pins := { pgood := true, vddAon := true, pwrMainEn := true, resetN := true }, time := { lt := 1000 * mfTicks + 70 } }
def RC_08 (st cause reg : Nat) : State := setL (HR_08 .service) [(FLT_REC_RSTATE, 1, 0), (FLT_REC_CAUSE, 9, 0), (FLT_REC_CLASS, 2, 0), (FLT_REC_RSTATE, st, 1), (FLT_REC_CAUSE, cause, 1), (FLT_REC_REGION, reg, 1), (FLT_REC_CLASS, faultClass cause, 1)]
def w08_1 : State := RC_08 1 0x0C 18
def w08_2 : State := { RC_08 1 0x0C 18 with pwr := { leaves := [⟨1, 3, 48, 5⟩, ⟨1, 3, 49, 5⟩] } }
def w08_4 : State := (RC_08 1 0x0C 18).wr C_MASK_CORR 1 16
def w08_8 : State := { HR_08 .service with flt := { errUntil := some (1000 * mfTicks + 900) }, pins := { errN := false } }
def w08_9 : State := { (HR_08 .service).wr FLT_ERR_MODE 1 with flt := { errUntil := some (1000 * mfTicks + 900) }, pins := { errN := false } }
def w08_10 : State := { (HR_08 .service).wr FLT_ERR_MODE 1 with pins := { errN := false } }
def w08_11 : State := HR_08 .service
def w08_12 : State := HR_08 .factory
def w08_14 : State := { RC_08 1 0x0C 18 with flt := { hbLost := true } }
def w08_15 : State := setL (HR_08 .factory) [(FLT_INJ_CAUSE, 5, 0), (FLT_INJ_SOURCE, 0x554603, 0)]
def w08_17 : State := (RC_08 1 0x0C 18).wr FLT_SAFE 1
def w08_18 : State := (RC_08 1 0x0F 18).wr FLT_SAFE 1
def w08_19 : State := (RC_08 2 0x0F 18).wr FLT_SAFE 1
def w08_20 : State := setL (RC_08 2 0x0F 18) [(FLT_SAFE, 1, 0), (FLT_RELEASE_SEEN, 1, 0)]
def w08_21 : State := setL (HR_08 .service) [(C_LF_VALID, 1, 16), (C_LF_DUP, 7, 16)]
def w08_24 : State := (HR_08 .service).wr C_PERF_EN 1 131

/-- Hypotheses of FaultsCollected that a state meets, clause by clause. -/
theorem witness_FaultsCollected_1 :
    (w08_1.wf = true ∧
      faultClass { cause := 12, level := 2, region := 17, cluster := 3, unit := 4, detail := 5, pg := 16, ch := 6, dup := 7 : Rep }.cause ∈ [1, 2] ∧
      { cause := 12, level := 2, region := 17, cluster := 3, unit := 4, detail := 5, pg := 16, ch := 6, dup := 7 : Rep }.cause ≠ cBusErr ∧
      { cause := 12, level := 2, region := 17, cluster := 3, unit := 4, detail := 5, pg := 16, ch := 6, dup := 7 : Rep }.pg < 64 ∧
      { cause := 12, level := 2, region := 17, cluster := 3, unit := 4, detail := 5, pg := 16, ch := 6, dup := 7 : Rep }.level < 8 ∧
      { cause := 12, level := 2, region := 17, cluster := 3, unit := 4, detail := 5, pg := 16, ch := 6, dup := 7 : Rep }.region < 32 ∧
      { cause := 12, level := 2, region := 17, cluster := 3, unit := 4, detail := 5, pg := 16, ch := 6, dup := 7 : Rep }.cluster < 128 ∧
      { cause := 12, level := 2, region := 17, cluster := 3, unit := 4, detail := 5, pg := 16, ch := 6, dup := 7 : Rep }.unit < 16 ∧
      { cause := 12, level := 2, region := 17, cluster := 3, unit := 4, detail := 5, pg := 16, ch := 6, dup := 7 : Rep }.detail < 256 ∧
      w08_1.freshRecord 2 { cause := 12, level := 2, region := 17, cluster := 3, unit := 4, detail := 5, pg := 16, ch := 6, dup := 7 : Rep }.cause { cause := 12, level := 2, region := 17, cluster := 3, unit := 4, detail := 5, pg := 16, ch := 6, dup := 7 : Rep }.region = true ∧
      w08_1.faultMasked { cause := 12, level := 2, region := 17, cluster := 3, unit := 4, detail := 5, pg := 16, ch := 6, dup := 7 : Rep }.cause { cause := 12, level := 2, region := 17, cluster := 3, unit := 4, detail := 5, pg := 16, ch := 6, dup := 7 : Rep }.pg = false) ∧
    (w08_2.wf = true ∧
      faultClass { cause := 5, level := 1, region := 3, cluster := 48, detail := 5, pg := 35, ch := 48 : Rep }.cause ∈ [1, 2] ∧
      { cause := 5, level := 1, region := 3, cluster := 48, detail := 5, pg := 35, ch := 48 : Rep }.cause ≠ cBusErr ∧
      { cause := 5, level := 1, region := 3, cluster := 48, detail := 5, pg := 35, ch := 48 : Rep }.pg < 64 ∧
      { cause := 5, level := 1, region := 3, cluster := 48, detail := 5, pg := 35, ch := 48 : Rep }.level < 8 ∧
      { cause := 5, level := 1, region := 3, cluster := 48, detail := 5, pg := 35, ch := 48 : Rep }.region < 32 ∧
      { cause := 5, level := 1, region := 3, cluster := 48, detail := 5, pg := 35, ch := 48 : Rep }.cluster < 128 ∧
      { cause := 5, level := 1, region := 3, cluster := 48, detail := 5, pg := 35, ch := 48 : Rep }.unit < 16 ∧
      { cause := 5, level := 1, region := 3, cluster := 48, detail := 5, pg := 35, ch := 48 : Rep }.detail < 256 ∧
      w08_2.freshRecord 2 { cause := 5, level := 1, region := 3, cluster := 48, detail := 5, pg := 35, ch := 48 : Rep }.cause { cause := 5, level := 1, region := 3, cluster := 48, detail := 5, pg := 35, ch := 48 : Rep }.region = true ∧
      w08_2.faultMasked { cause := 5, level := 1, region := 3, cluster := 48, detail := 5, pg := 35, ch := 48 : Rep }.cause { cause := 5, level := 1, region := 3, cluster := 48, detail := 5, pg := 35, ch := 48 : Rep }.pg = false) ∧
    (w08_1.wf = true ∧ faultClass 5 = 2 ∧ 5 ≠ cBusErr ∧ 3 < 17 ∧ 48 < 128 ∧ 2 < 16 ∧ 9 < 16 ∧ 2 ≠ 9 ∧
      w08_1.freshRecord 2 5 3 = true ∧ w08_1.faultMasked 5 2 = false) ∧
    (w08_4.wf = true ∧
      faultClass { cause := 12, level := 2, region := 17, cluster := 3, unit := 4, detail := 5, pg := 16, ch := 6, dup := 7 : Rep }.cause ∈ [1, 2] ∧
      { cause := 12, level := 2, region := 17, cluster := 3, unit := 4, detail := 5, pg := 16, ch := 6, dup := 7 : Rep }.cause ≠ cBusErr ∧
      w08_4.dark = false ∧
      { cause := 12, level := 2, region := 17, cluster := 3, unit := 4, detail := 5, pg := 16, ch := 6, dup := 7 : Rep }.pg < 64 ∧
      w08_4.faultMasked { cause := 12, level := 2, region := 17, cluster := 3, unit := 4, detail := 5, pg := 16, ch := 6, dup := 7 : Rep }.cause { cause := 12, level := 2, region := 17, cluster := 3, unit := 4, detail := 5, pg := 16, ch := 6, dup := 7 : Rep }.pg = true) ∧
    (w08_1.wf = true ∧
      faultClass { cause := 12, level := 2, region := 18, cluster := 3, unit := 4, detail := 5, pg := 16, ch := 6, dup := 7 : Rep }.cause = 1 ∧
      w08_1.dark = false ∧
      { cause := 12, level := 2, region := 18, cluster := 3, unit := 4, detail := 5, pg := 16, ch := 6, dup := 7 : Rep }.pg < 64 ∧
      1 < 64 ∧ w08_1.recState 1 = 1 ∧
      w08_1.rd FLT_REC_CAUSE 1 = { cause := 12, level := 2, region := 18, cluster := 3, unit := 4, detail := 5, pg := 16, ch := 6, dup := 7 : Rep }.cause ∧
      w08_1.rd FLT_REC_REGION 1 = { cause := 12, level := 2, region := 18, cluster := 3, unit := 4, detail := 5, pg := 16, ch := 6, dup := 7 : Rep }.region ∧
      (∀ (k : Nat), k < 1 → ¬(w08_1.recState k = 1 ∧
      w08_1.rd FLT_REC_CAUSE k = { cause := 12, level := 2, region := 18, cluster := 3, unit := 4, detail := 5, pg := 16, ch := 6, dup := 7 : Rep }.cause ∧
      w08_1.rd FLT_REC_REGION k = { cause := 12, level := 2, region := 18, cluster := 3, unit := 4, detail := 5, pg := 16, ch := 6, dup := 7 : Rep }.region)) ∧
      w08_1.faultMasked { cause := 12, level := 2, region := 18, cluster := 3, unit := 4, detail := 5, pg := 16, ch := 6, dup := 7 : Rep }.cause { cause := 12, level := 2, region := 18, cluster := 3, unit := 4, detail := 5, pg := 16, ch := 6, dup := 7 : Rep }.pg = false) ∧
    (w08_1.wf = true ∧
      faultClass { cause := 15, level := 2, region := 13, cluster := 3, unit := 4, detail := 5, pg := 16, ch := 6, dup := 7 : Rep }.cause = 3 ∧
      { cause := 15, level := 2, region := 13, cluster := 3, unit := 4, detail := 5, pg := 16, ch := 6, dup := 7 : Rep }.pg < 64 ∧
      { cause := 15, level := 2, region := 13, cluster := 3, unit := 4, detail := 5, pg := 16, ch := 6, dup := 7 : Rep }.level < 8 ∧
      { cause := 15, level := 2, region := 13, cluster := 3, unit := 4, detail := 5, pg := 16, ch := 6, dup := 7 : Rep }.region < 32 ∧
      { cause := 15, level := 2, region := 13, cluster := 3, unit := 4, detail := 5, pg := 16, ch := 6, dup := 7 : Rep }.cluster < 128 ∧
      { cause := 15, level := 2, region := 13, cluster := 3, unit := 4, detail := 5, pg := 16, ch := 6, dup := 7 : Rep }.unit < 16 ∧
      { cause := 15, level := 2, region := 13, cluster := 3, unit := 4, detail := 5, pg := 16, ch := 6, dup := 7 : Rep }.detail < 256 ∧
      w08_1.freshRecord 2 { cause := 15, level := 2, region := 13, cluster := 3, unit := 4, detail := 5, pg := 16, ch := 6, dup := 7 : Rep }.cause { cause := 15, level := 2, region := 13, cluster := 3, unit := 4, detail := 5, pg := 16, ch := 6, dup := 7 : Rep }.region = true ∧
      w08_1.rd FLT_SAFE = 0) ∧
    (w08_1.wf = true ∧ 1 < 64 ∧ w08_1.recState 1 = 1) ∧
    (w08_8.wf = true ∧ w08_8.flt.errUntil = some (1000 * mfTicks + 900) ∧ w08_8.rd FLT_SAFE = 0 ∧ w08_8.flt.hbLost = false) :=
  by refine ⟨?_, ?_, ?_, ?_, ?_, ?_, ?_, ?_⟩ <;> decide +kernel

/-- Hypotheses of FaultsCollected that a state meets, clause by clause. -/
theorem witness_FaultsCollected_2 :
    (w08_9.wf = true ∧ w08_9.flt.errUntil = some (1000 * mfTicks + 900) ∧ w08_9.rd FLT_SAFE = 0 ∧ w08_9.flt.hbLost = false) ∧
    (w08_10.wf = true ∧ w08_10.dark = false ∧ w08_10.rd FLT_ERR_MODE = 1 ∧ w08_10.pins.errN = false ∧ w08_10.flt.errUntil = none ∧
      w08_10.rd FLT_SAFE = 0 ∧ w08_10.flt.hbLost = false) ∧
    (w08_11.wf = true ∧ w08_11.dark = false ∧ w08_11.rd FLT_SAFE = 0) ∧
    (w08_12.wf = true ∧ w08_12.mode = Mode.factory ∧ w08_12.rd FLT_SAFE = 0) ∧
    (w08_11.wf = true ∧ w08_11.dark = false) ∧
    (w08_14.wf = true ∧ w08_14.flt.hbLost = true ∧ w08_14.rd FLT_SAFE = 0 ∧ w08_14.freshRecord 2 cFltClock 28 = true) ∧
    (w08_15.wf = true ∧ w08_15.mode = Mode.factory ∧ w08_15.rd FLT_INJ_CAUSE = 5 ∧ bits (w08_15.rd FLT_INJ_SOURCE) 4 0 = 3 ∧
      faultClass 5 = 2 ∧ w08_15.freshRecord 0 5 3 = true) :=
  by refine ⟨?_, ?_, ?_, ?_, ?_, ?_, ?_⟩ <;> decide +kernel

/-- Hypotheses of SafeStateCleared that a state meets, clause by clause. -/
theorem witness_SafeStateCleared :
    (w08_1.wf = true ∧ w08_1.dark = false ∧
      1 = if w08_1.rd FLT_SAFE = 0 then 1 else if true = false then 2 else if ((List.range 64).any fun n => w08_1.recState n == 1 && w08_1.rd FLT_REC_CLASS n == 3) = true then 3 else if w08_1.rd FLT_RELEASE_SEEN = 0 ∧
      w08_1.mode ≠ Mode.listen then 4 else 0) ∧
    (w08_17.wf = true ∧ w08_17.dark = false ∧
      2 = if w08_17.rd FLT_SAFE = 0 then 1 else if false = false then 2 else if ((List.range 64).any fun n => w08_17.recState n == 1 && w08_17.rd FLT_REC_CLASS n == 3) = true then 3 else if w08_17.rd FLT_RELEASE_SEEN = 0 ∧
      w08_17.mode ≠ Mode.listen then 4 else 0) ∧
    (w08_18.wf = true ∧ w08_18.dark = false ∧
      3 = if w08_18.rd FLT_SAFE = 0 then 1 else if true = false then 2 else if ((List.range 64).any fun n => w08_18.recState n == 1 && w08_18.rd FLT_REC_CLASS n == 3) = true then 3 else if w08_18.rd FLT_RELEASE_SEEN = 0 ∧
      w08_18.mode ≠ Mode.listen then 4 else 0) ∧
    (w08_19.wf = true ∧ w08_19.dark = false ∧
      4 = if w08_19.rd FLT_SAFE = 0 then 1 else if true = false then 2 else if ((List.range 64).any fun n => w08_19.recState n == 1 && w08_19.rd FLT_REC_CLASS n == 3) = true then 3 else if w08_19.rd FLT_RELEASE_SEEN = 0 ∧
      w08_19.mode ≠ Mode.listen then 4 else 0) ∧
    (w08_20.wf = true ∧ w08_20.dark = false ∧
      0 = if w08_20.rd FLT_SAFE = 0 then 1 else if true = false then 2 else if ((List.range 64).any fun n => w08_20.recState n == 1 && w08_20.rd FLT_REC_CLASS n == 3) = true then 3 else if w08_20.rd FLT_RELEASE_SEEN = 0 ∧
      w08_20.mode ≠ Mode.listen then 4 else 0) ∧
    (w08_21.wf = true ∧ 16 < 128) ∧
    (w08_11.wf = true ∧ 16 < 256) ∧
    (w08_11.wf = true) ∧
    (w08_24.wf = true ∧ w08_24.dark = false ∧ 3 < 8 ∧ 16 < 256 ∧ w08_24.rd C_PERF_FREEZE 16 = 0 ∧ w08_24.flt.frozen = false ∧
      w08_24.rd C_PERF_EN (8 * 16 + 3) = 1 ∧ w08_24.rd C_PERF_CHAIN (8 * 16 + 3) = 0 ∧ w08_24.rd C_PERF_CHAIN (8 * 16 + 3 + 1) = 0 ∧
      w08_24.rd C_PERF_SAMPLE (8 * 16 + 3) = 0) :=
  by refine ⟨?_, ?_, ?_, ?_, ?_, ?_, ?_, ?_, ?_⟩ <;> decide +kernel

/-! Witnesses: client ports -/

def HR_09 (m : Mode) : State := { S0 with mode := m, pins := { pgood := true, vddAon := true, pwrMainEn := true, resetN := true }, time := { lt := 1000 * mfTicks + 70 } }
def P_09 (n : Nat) (m : Nat) : State := setL (HR_09 .service) [(CLP_P_EN, 1, n), (CLP_P_MODE, m, n), (CLP_P_AM_LOCK, 1, n), (CLP_P_MAX_LEN, 9000, n), (CLP_P_PAUSE_QUANTA, 65535, n), (CLP_P_XOFF_TH, 2, n), (CLP_P_XON_TH, 1, n)]
def FR_09 (len et op : Nat) : List Nat := let b := (List.replicate 12 7) ++ bytesBE 2 et ++ bytesBE 2 op ++ bytesBE 2 100 ++ List.replicate (len - 22) 3; b ++ fcsBytes (crc32 b)
def PP_09 (n : Nat) (p : Port) (s : State) : State := { s with pk := { s.pk with ports := [(n, p)] } }
def big_09 (k : Nat) : RxFrame := { bytes := List.replicate k 0, isrc := 4 }
def w09_1 : State := setL (HR_09 .service) [(CLP_P_MODE, 2, 4), (CLP_P_EN, 1, 8)]
def w09_2 : State := setL (HR_09 .service) [(CLP_P_MODE, 2, 4), (CLP_P_EN, 1, 4)]
def w09_3 : State := setL (HR_09 .service) [(CLP_P_MODE, 2, 4)]
def w09_4 : State := setL (P_09 4 1) [(SER_L_ADAPT_STATE, 3, 4), (SER_L_ADAPT_STATE, 4, 5), (CLP_P_LOCAL_FAULT, 1, 4), (CLP_P_AM_LOCK, 0, 4)]
def w09_5 : State := PP_09 4 { goodSince := some (1000 * mfTicks) } (P_09 4 1)
def w09_6 : State := (P_09 4 1).wr CLP_P_LINK_UP 1 4
def w09_8 : State := P_09 4 2
def w09_9 : State := (P_09 4 2).wr CLP_P_EVENTS_0_0 0x5F 4
def w09_10 : State := setL (P_09 4 2) [(CLP_P_MAX_LEN, 70, 4), (CLP_P_EVENTS_0_0, 0xE0, 4)]
def w09_12 : State := (P_09 4 2).wr CLP_P_FC_MODE 1 4
def w09_14 : State := PP_09 4 { ingress := [big_09 9000] } (setL (P_09 4 2) [(CLP_P_FC_MODE, 2, 4), (CLP_P_PAUSE_TX_EN, 1, 4)])
def w09_15 : State := PP_09 4 { pause := some (1000 * mfTicks + 99) } (P_09 4 2)
def w09_16 : State := PP_09 4 { pfc := [(2, 7), (3, 1000 * mfTicks + 99)] } ((P_09 4 2).wr CLP_P_PFC_PAUSED 0xFF 4)
def w09_17 : State := PP_09 4 { ingress := [big_09 9000], refresh := some (1000 * mfTicks + 99) } (setL (P_09 4 2) [(CLP_P_FC_MODE, 2, 4), (CLP_P_PAUSE_TX_EN, 1, 4)])
def w09_18 : State := PP_09 4 { ingress := [big_09 70, big_09 80] } (P_09 4 2)
def w09_19 : State := setL (P_09 4 2) [(CLP_P_FC_MODE, 2, 4), (CLP_P_PAUSE_TX_EN, 1, 4), (CLP_P_XOFF_SENT, 1, 4)]
def w09_20 : State := setL (P_09 4 2) [(CLP_P_FC_MODE, 1, 4), (CLP_P_PAUSE_TX_EN, 1, 4), (CLP_P_XOFF_SENT, 1, 4)]
def w09_21 : State := (let s := (P_09 4 2).wr CLP_P_LINK_UP 1 4; { s with pk := { s.pk with eqs := [(37, [{ bytes := FR_09 80 0x800 0 }]), (36, [{ bytes := FR_09 90 0x800 0 }])] } })
def w09_22 : State := (let s := (P_09 4 2); { s with pk := { s.pk with eqs := [(37, [{ bytes := FR_09 80 0x800 0 }]), (36, [{ bytes := FR_09 90 0x800 0 }])] } })

/-- Hypotheses of PortsAndLinks that a state meets, clause by clause. -/
theorem witness_PortsAndLinks :
    (w09_1.wf = true ∧ 4 < 16 ∧ w09_1.rd CLP_P_EN 4 = 0 ∧
      ∀ (p : Nat), p < 16 → p ≠ 4 → w09_1.rd CLP_P_EN p = 1 → 4 + w09_1.portLanes 4 ≤ p ∨ p + w09_1.portLanes p ≤ 4) ∧
    (w09_2.wf = true ∧ 5 < 16 ∧ w09_2.rd CLP_P_EN 5 = 0 ∧ 4 < 16 ∧ 4 ≠ 5 ∧ w09_2.rd CLP_P_EN 4 = 1 ∧ 5 < 4 + w09_2.portLanes 4 ∧
      4 < 5 + w09_2.portLanes 5) ∧
    (w09_3.wf = true ∧ 4 < 6 ∧ 6 < 16 ∧ (∀ (q : Nat), q < 16 → w09_3.rd CLP_P_EN q = 0) ∧ 6 < 4 + w09_3.portLanes 4) ∧
    (w09_4.wf = true ∧ 4 < 16 ∧ w09_4.rd CLP_P_EN 4 = 1 ∧ w09_4.mode ≠ Mode.graze ∧
      ∀ (l : Nat), l < w09_4.portLanes 4 → w09_4.rd SER_L_ADAPT_STATE (4 + l) = 3 ∨ w09_4.rd SER_L_ADAPT_STATE (4 + l) = 4) ∧
    (w09_5.wf = true ∧ 4 < 16 ∧ w09_5.rd CLP_P_EN 4 = 1 ∧ w09_5.rd CLP_P_AM_LOCK 4 = 1 ∧ w09_5.rd CLP_P_LOCAL_FAULT 4 = 0 ∧
      w09_5.rd CLP_P_LINK_UP 4 = 0 ∧ (w09_5.port 4).goodSince = some (1000 * mfTicks)) ∧
    (w09_6.wf = true ∧ 4 < 16 ∧ 0 < 4 ∧ w09_6.rd CLP_P_EN 4 = 1 ∧ w09_6.rd CLP_P_LINK_UP 4 = 1) ∧
    (w09_6.wf = true ∧ 4 < 16 ∧ 3 < 4 ∧ w09_6.rd CLP_P_EN 4 = 1 ∧ w09_6.rd CLP_P_LINK_UP 4 = 1) :=
  by refine ⟨?_, ?_, ?_, ?_, ?_, ?_, ?_⟩ <;> decide +kernel

/-- Hypotheses of FramesAndPause that a state meets, clause by clause. -/
theorem witness_FramesAndPause_1 :
    (w09_8.wf = true ∧ 4 < 16 ∧ w09_8.rd CLP_P_EN 4 = 1 ∧ w09_8.rd CLP_P_AM_LOCK 4 = 1 ∧ w09_8.mode = Mode.service ∧ (true = true ∧
      3 = 3 ∨ true = false ∧ (FR_09 80 2048 0).length < 64 ∧ 3 = 0 ∨ true = false ∧ 64 ≤ (FR_09 80 2048 0).length ∧
      w09_8.rd CLP_P_MAX_LEN 4 < (FR_09 80 2048 0).length ∧ 3 = 1 ∨ true = false ∧ 64 ≤ (FR_09 80 2048 0).length ∧
      (FR_09 80 2048 0).length ≤ w09_8.rd CLP_P_MAX_LEN 4 ∧ fcsOk (FR_09 80 2048 0) = false ∧ 3 = 2)) ∧
    (w09_9.wf = true ∧ 4 < 16 ∧ w09_9.rd CLP_P_EN 4 = 1 ∧ w09_9.rd CLP_P_AM_LOCK 4 = 1 ∧ w09_9.mode = Mode.service ∧ (false = true ∧
      0 = 3 ∨ false = false ∧ (FR_09 60 2048 0).length < 64 ∧ 0 = 0 ∨ false = false ∧ 64 ≤ (FR_09 60 2048 0).length ∧
      w09_9.rd CLP_P_MAX_LEN 4 < (FR_09 60 2048 0).length ∧ 0 = 1 ∨ false = false ∧ 64 ≤ (FR_09 60 2048 0).length ∧
      (FR_09 60 2048 0).length ≤ w09_9.rd CLP_P_MAX_LEN 4 ∧ fcsOk (FR_09 60 2048 0) = false ∧ 0 = 2)) ∧
    (w09_10.wf = true ∧ 4 < 16 ∧ w09_10.rd CLP_P_EN 4 = 1 ∧ w09_10.rd CLP_P_AM_LOCK 4 = 1 ∧ w09_10.mode = Mode.service ∧
      (false = true ∧ 1 = 3 ∨ false = false ∧ (FR_09 80 2048 0).length < 64 ∧ 1 = 0 ∨ false = false ∧ 64 ≤ (FR_09 80 2048 0).length ∧
      w09_10.rd CLP_P_MAX_LEN 4 < (FR_09 80 2048 0).length ∧ 1 = 1 ∨ false = false ∧ 64 ≤ (FR_09 80 2048 0).length ∧
      (FR_09 80 2048 0).length ≤ w09_10.rd CLP_P_MAX_LEN 4 ∧ fcsOk (FR_09 80 2048 0) = false ∧ 1 = 2)) ∧
    (w09_8.wf = true ∧ 4 < 16 ∧ w09_8.rd CLP_P_EN 4 = 1 ∧ w09_8.rd CLP_P_AM_LOCK 4 = 1 ∧ w09_8.mode = Mode.service ∧ (false = true ∧
      2 = 3 ∨ false = false ∧ (FR_09 80 2048 0 ++ [1]).length < 64 ∧ 2 = 0 ∨ false = false ∧ 64 ≤ (FR_09 80 2048 0 ++ [1]).length ∧
      w09_8.rd CLP_P_MAX_LEN 4 < (FR_09 80 2048 0 ++ [1]).length ∧ 2 = 1 ∨ false = false ∧ 64 ≤ (FR_09 80 2048 0 ++ [1]).length ∧
      (FR_09 80 2048 0 ++ [1]).length ≤ w09_8.rd CLP_P_MAX_LEN 4 ∧ fcsOk (FR_09 80 2048 0 ++ [1]) = false ∧ 2 = 2)) ∧
    (w09_12.wf = true ∧ 4 < 16 ∧ w09_12.rd CLP_P_EN 4 = 1 ∧ w09_12.rd CLP_P_AM_LOCK 4 = 1 ∧ w09_12.mode = Mode.service ∧
      64 ≤ (FR_09 80 34824 1).length ∧ (FR_09 80 34824 1).length ≤ w09_12.rd CLP_P_MAX_LEN 4 ∧ fcsOk (FR_09 80 34824 1) = true ∧
      be (FR_09 80 34824 1) 12 2 = 34824 ∧ be (FR_09 80 34824 1) 14 2 = 1 ∧ w09_12.rd CLP_P_FC_MODE 4 = 1 ∧ be (FR_09 80 34824 1) 16 2 ≠ 0) ∧
    (w09_8.wf = true ∧ 4 < 16 ∧ w09_8.rd CLP_P_EN 4 = 1 ∧ w09_8.rd CLP_P_AM_LOCK 4 = 1 ∧ w09_8.mode = Mode.service ∧
      64 ≤ (FR_09 80 2048 1).length ∧ (FR_09 80 2048 1).length ≤ w09_8.rd CLP_P_MAX_LEN 4 ∧ fcsOk (FR_09 80 2048 1) = true ∧
      be (FR_09 80 2048 1) 12 2 ≠ 34824 ∧ w09_8.ingressFill 4 + (FR_09 80 2048 1).length ≤ 262144 * w09_8.portLanes 4 ∧
      w09_8.pwr.transit ≠ some Mode.graze) ∧
    (w09_14.wf = true ∧ 4 < 16 ∧ w09_14.rd CLP_P_EN 4 = 1 ∧ w09_14.rd CLP_P_AM_LOCK 4 = 1 ∧ w09_14.mode = Mode.service ∧
      64 ≤ (FR_09 80 2048 1).length ∧ (FR_09 80 2048 1).length ≤ w09_14.rd CLP_P_MAX_LEN 4 ∧ fcsOk (FR_09 80 2048 1) = true ∧
      be (FR_09 80 2048 1) 12 2 ≠ 34824 ∧ w09_14.ingressFill 4 + (FR_09 80 2048 1).length ≤ 262144 * w09_14.portLanes 4 ∧
      w09_14.pwr.transit ≠ some Mode.graze) ∧
    (w09_15.wf = true ∧ (w09_15.port 4).pause = some (1000 * mfTicks + 99)) :=
  by refine ⟨?_, ?_, ?_, ?_, ?_, ?_, ?_, ?_⟩ <;> decide +kernel

/-- Hypotheses of FramesAndPause that a state meets, clause by clause. -/
theorem witness_FramesAndPause_2 :
    (w09_16.wf = true ∧ 3 < 8 ∧ amGet? (w09_16.port 4).pfc 3 = some (1000 * mfTicks + 99)) ∧
    (w09_17.wf = true ∧ (w09_17.port 4).refresh = some (1000 * mfTicks + 99) ∧ w09_17.fcSends 4 = true ∧
      w09_17.rd CLP_P_XON_TH 4 * 1024 * w09_17.portLanes 4 < w09_17.ingressFill 4) ∧
    (w09_18.wf = true ∧ (w09_18.port 4).ingress = [big_09 70, big_09 80] ∧ w09_18.mode ≠ Mode.graze ∧ w09_18.parserRoom 4 = true ∧
      w09_18.rd CLP_P_XOFF_SENT 4 = 0) ∧
    (w09_19.wf = true ∧ w09_19.rd CLP_P_XOFF_SENT 4 = 1 ∧ w09_19.rd CLP_P_PAUSE_QUANTA 4 ≠ 0 ∧
      (w09_19.rd CLP_P_FC_MODE 4 = 1 ∨ w09_19.rd CLP_P_FC_MODE 4 = 2)) ∧
    (w09_20.wf = true ∧ w09_20.rd CLP_P_XOFF_SENT 4 = 1 ∧ w09_20.rd CLP_P_PAUSE_QUANTA 4 ≠ 0 ∧
      (w09_20.rd CLP_P_FC_MODE 4 = 1 ∨ w09_20.rd CLP_P_FC_MODE 4 = 2)) ∧
    (w09_21.wf = true ∧ 4 < 16 ∧ 5 < 8 ∧ w09_21.mode = Mode.service ∧ w09_21.rd CLP_P_LINK_UP 4 = 1 ∧
      w09_21.eq (8 * 4 + 5) = [{ bytes := FR_09 80 2048 0 : EFrm }] ∧ (∀ (h : Nat), h < 8 → 5 < h → w09_21.eq (8 * 4 + h) = []) ∧
      (∀ (l : Nat), l < 16 → w09_21.rd GAT_EN l = 0) ∧ w09_21.rd QSH_SH_SH_EN (4160 + (8 * 4 + 5)) = 0 ∧
      w09_21.rd QSH_SH_SH_EN (4288 + 4) = 0 ∧ (w09_21.port 4).pause = none ∧ (w09_21.port 4).pfc = [] ∧
      { bytes := FR_09 80 2048 0 : EFrm }.corr = none ∧ { bytes := FR_09 80 2048 0 : EFrm }.own = none ∧
      { bytes := FR_09 80 2048 0 : EFrm }.turn = none ∧ fcsOk { bytes := FR_09 80 2048 0 : EFrm }.bytes = true ∧
      4 ≤ { bytes := FR_09 80 2048 0 : EFrm }.bytes.length ∧ ∀ (x : Nat), x ∈ { bytes := FR_09 80 2048 0 : EFrm }.bytes → x < 256) ∧
    (w09_22.wf = true ∧ 4 < 16 ∧ 5 < 8 ∧ w09_22.mode = Mode.service ∧ w09_22.rd CLP_P_LINK_UP 4 = 0 ∧
      w09_22.eq (8 * 4 + 5) = [{ bytes := FR_09 80 2048 0 : EFrm }] ∧ ∀ (h : Nat), h < 8 → 5 < h → w09_22.eq (8 * 4 + h) = []) ∧
    (w09_8.wf = true ∧ w09_8.rd CLP_P_XOFF_SENT 4 = 0) :=
  by refine ⟨?_, ?_, ?_, ?_, ?_, ?_, ?_, ?_⟩ <;> decide +kernel

/-! Witnesses: classification and queues -/

def HR_10 (m : Mode) : State := { S0 with mode := m, pins := { pgood := true, vddAon := true, pwrMainEn := true, resetN := true }, time := { lt := 1000 * mfTicks + 70 } }
def V_10 (vs : Nat) : State := (HR_10 .service).wr CLS_VSTATE vs
def fr_10 : RxFrame := { bytes := List.replicate 12 7 ++ bytesBE 2 0x88B5 ++ [0x45] ++ List.replicate 70 3, isrc := 4, lt := 99 }
def fr2_10 : RxFrame := { fr_10 with bytes := [1, 2, 3] }
def L_10 (n : Nat) (l : Lane) (s : State) : State := { s with pk := { s.pk with lanes := [(n, l)] } }
def jd_10 (fwd : Bool) (a1 : Nat) : Judged := { f := fr_10, ver := 0, entry := some 3, fwd := fwd, slow := none, pf := 0, func := 0, a0 := 0, a1 := a1, a2 := 0, ptp := false, at_ := 5 }
def U1_10 : UFrm := { len := 90, data := List.replicate 98 5 }
def Q1_10 : State := (let s := setL (HR_10 .service) [(QSH_UQ_ALLOC, 7, 9), (QSH_UQ_QUANTUM, 2000, 9)]; { s with pk := { s.pk with uqs := [(9, { frames := [U1_10, U1_10], deficit := 3 })] } })
def GL_10 : State := setL (HR_10 .service) [(GAT_P_CYCLE, 1000000, 3), (GAT_P_COUNT, 2, 3), (GAT_PB_GATES, 0xF0, 768), (GAT_PB_INTERVAL, 400000, 768), (GAT_PB_INTERVAL, 600000, 769)]
def GR_10 : State := setL (HR_10 .service) [(GAT_A_CYCLE, 1000000, 3), (GAT_A_COUNT, 2, 3), (GAT_AB_GATES, 0xF0, 768), (GAT_AB_INTERVAL, 400000, 768), (GAT_AB_GATES, 0x0F, 769), (GAT_AB_INTERVAL, 600000, 769), (GAT_RUNNING, 1, 3)]
def ge_10 : Slice := ((fromPos (GR_10.gatePos 3) (GR_10.gateList 3))[0]?).getD ⟨0, 0, 0⟩
def gf_10 : Slice := ((fromPos (GR_10.gatePos 3) (GR_10.gateList 3))[1]?).getD ⟨0, 0, 0⟩
def w10_1 : State := setL (V_10 2) [(CLSE_VMASK, 1, 5), (CLSE_VMASK, 2, 6), (CLSE_VMASK, 9, 700)]
def w10_2 : State := (V_10 6).wr CLS_STAGE_VALID 1
def w10_3 : State := (V_10 6).wr CLS_STAGE_BUSY 1
def w10_4 : State := setL (V_10 6) [(CLS_STAGE_VALID, 1, 0), (CLS_STAGE_VER, 1, 0)]
def w10_5 : State := setL (V_10 6) [(CLS_STAGE_VALID, 1, 0), (CLS_STAGE_BUSY, 1, 0)]
def w10_6 : State := V_10 (2 + 48)
def w10_7 : State := (V_10 2).wr CLSE_VMASK 3 5
def w10_8 : State := (V_10 2).wr CLSE_VMASK 2 5
def w10_10 : State := L_10 4 { inq := [fr_10], next := 65535 } (V_10 2)
def w10_11 : State := L_10 4 { inq := [fr_10, fr_10], next := 65535 } (setL (V_10 2) [(CLSE_VMASK, 1, 7), (CLSE_VMASK, 2, 5)])
def w10_12 : State := L_10 4 { inq := [fr2_10, fr_10], next := 65535 } (V_10 2)
def w10_13 : State := L_10 4 { items := [.frame 6 (jd_10 false 0), .marker 13] } (V_10 2)
def w10_14 : State := L_10 4 { items := [.frame 6 (jd_10 true (9 * 2 ^ 14))] } (V_10 2)
def w10_15 : State := L_10 4 { items := [.frame 6 (jd_10 true (9 * 2 ^ 14))] } (setL (V_10 2) [(UPB_TID_VALID, 1, 0), (QSH_UQ_EN, 1, 9)])
def w10_16 : State := L_10 4 { inq := [fr_10, fr_10], next := 65535 } (V_10 2)
def w10_17 : State := (HR_10 .service).wr QSH_UQ_EN 0 9
def w10_18 : State := setL (HR_10 .service) [(QSH_UQ_EN, 1, 9)]
def w10_19 : State := (let s := setL (HR_10 .service) [(QSH_UQ_EN, 1, 9)]; { s with pk := { s.pk with stalled := some (9, U1_10) } })
def w10_20 : State := Q1_10
def w10_21 : State := (let s := Q1_10; { s with asm := [(7, { payload := [1, 2], fcount := 1, since := 77 })], pk := { s.pk with uqs := [(9, { frames := [U1_10], deficit := 3 })] } })
def w10_22 : State := (let s := (HR_10 .service).wr QSH_AL_SEAL_TO 50 7; { s with asm := [(7, { payload := [1, 2], fcount := 1, since := 1000 * mfTicks })] })
def w10_23 : State := HR_10 .service
def w10_24 : State := GL_10
def w10_25 : State := setL GL_10 [(GAT_P_BASE_NS, 5, 3), (GAT_P_BASE_S_LO, GL_10.tbNow 0 / 1000000000 + 5, 3)]
def w10_26 : State := setL GL_10 [(GAT_PEND, 1, 3), (GAT_ACT_S_LO, GL_10.tbNow 0 / 1000000000 + 5, 3)]
def w10_28 : State := GR_10

/-- No entry of the classifier is valid in a state without registers. -/
theorem vmask_clear (n : Nat) : w10_10.rd CLSE_VMASK n = 0 := by
  have hr : w10_10.regs = [] := by decide +kernel
  have hz : CLSE_VMASK.resetAt n = 0 := rfl
  simp only [State.rd, hr, smGet, hz]
  rfl

/-- Hypotheses of ClassifierVersions that a state meets, clause by clause. -/
theorem witness_ClassifierVersions :
    (w10_1.wf = true ∧ (∀ (x : Nat), x < 4 → w10_1.vstate x = vsDraining → w10_1.inFlight x ≠ 0) ∧ w10_1.rd CLS_VSTATE < 256 ∧
      w10_1.rd CLS_STAGE_VALID = 0 ∧ 1 < 4 ∧ w10_1.vstate 1 = vsFree ∧ (∀ (x : Nat), x < 1 → w10_1.vstate x ≠ vsFree) ∧
      w10_1.curVer ≠ 1) ∧
    (w10_2.wf = true ∧ (∀ (x : Nat), x < 4 → w10_2.vstate x = vsDraining → w10_2.inFlight x ≠ 0) ∧ w10_2.rd CLS_STAGE_VALID = 1) ∧
    (w10_3.wf = true ∧ w10_3.rd CLS_STAGE_BUSY = 1) ∧
    (w10_4.wf = true ∧ (∀ (x : Nat), x < 4 → w10_4.vstate x = vsDraining → w10_4.inFlight x ≠ 0) ∧ w10_4.rd CLS_VSTATE < 256 ∧
      w10_4.rd CLS_STAGE_VALID = 1 ∧ w10_4.rd CLS_STAGE_BUSY = 0 ∧ w10_4.sealedCommit = none) ∧
    (w10_5.wf = true ∧ (∀ (x : Nat), x < 4 → w10_5.vstate x = vsDraining → w10_5.inFlight x ≠ 0) ∧
      (w10_5.rd CLS_STAGE_VALID = 0 ∨ w10_5.rd CLS_STAGE_BUSY = 1 ∨ w10_5.sealedCommit ≠ none)) ∧
    (w10_6.wf = true ∧ 2 < 4 ∧ w10_6.rd CLS_VSTATE < 256 ∧ w10_6.vstate 2 = vsDraining ∧ w10_6.inFlight 2 = 0) ∧
    (w10_7.wf = true ∧ (∀ (x : Nat), x < 4 → w10_7.vstate x = vsDraining → w10_7.inFlight x ≠ 0) ∧ 5 < 16384 ∧ 33 < 35 ∧
      w10_7.rd CLSE_VMASK 5 &&& w10_7.liveMask ≠ 0) ∧
    (w10_8.wf = true ∧ (∀ (x : Nat), x < 4 → w10_8.vstate x = vsDraining → w10_8.inFlight x ≠ 0) ∧ 5 < 16384 ∧ 31 < 32 ∧
      w10_8.rd CLSE_VMASK 5 &&& w10_8.liveMask = 0 ∧ w10_8.rd CLSE_ERR 5 = 0) ∧
    (w10_7.wf = true ∧ (∀ (x : Nat), x < 4 → w10_7.vstate x = vsDraining → w10_7.inFlight x ≠ 0) ∧ 5 < 16384 ∧
      w10_7.rd CLS_STAGE_BUSY = 0) :=
  by refine ⟨?_, ?_, ?_, ?_, ?_, ?_, ?_, ?_, ?_⟩ <;> decide +kernel

/-- Hypotheses of FramesClassified that a state meets, clause by clause. -/
theorem witness_FramesClassified :
    (w10_10.wf = true ∧ w10_10.seals = [] ∧ 4 < 18 ∧ (w10_10.lane 4).inq = [fr_10] ∧ fr_10.isrc = 4 ∧ w10_10.parserTurn = some 4 ∧
      (parse fr_10.bytes fr_10.isrc fr_10.dir fr_10.ltid).pf = 0 ∧ ∀ (n : Nat), n < 16384 → w10_10.rd CLSE_VMASK n = 0) ∧
    (w10_11.wf = true ∧ w10_11.seals = [] ∧ 4 < 18 ∧ (w10_11.lane 4).inq = [fr_10, fr_10] ∧ fr_10.isrc = 4 ∧ w10_11.parserTurn = some 4 ∧
      (parse fr_10.bytes fr_10.isrc fr_10.dir fr_10.ltid).pf = 0 ∧ 7 < 16384 ∧
      (∀ (k : Nat), k < 7 → bit (w10_11.rd CLSE_VMASK k) w10_11.curVer = false) ∧ bit (w10_11.rd CLSE_VMASK 7) w10_11.curVer = true ∧
      w10_11.rd CLSE_ERR 7 = 0 ∧
      ((parse fr_10.bytes fr_10.isrc fr_10.dir fr_10.ltid).key ^^^ w10_11.entryKey CLSE_KEY 7) &&& w10_11.entryKey CLSE_MASK 7 = 0 ∧
      w10_11.rd CLSE_DISP 7 = 0) ∧
    (w10_12.wf = true ∧ w10_12.seals = [] ∧ 4 < 18 ∧ (w10_12.lane 4).inq = [fr2_10, fr_10] ∧ fr2_10.isrc = 4 ∧ w10_12.parserTurn = some 4 ∧
      (parse fr2_10.bytes fr2_10.isrc fr2_10.dir fr2_10.ltid).pf ≠ 0) ∧
    (w10_13.wf = true ∧ w10_13.seals = [] ∧ 4 < 19 ∧ (w10_13.lane 4).items = [LaneItem.frame 6 (jd_10 false 0), LaneItem.marker 13] ∧
      w10_13.heldBack 4 = false ∧ (jd_10 false 0).fwd = false ∧ (jd_10 false 0).slow = none) ∧
    (w10_14.wf = true ∧ w10_14.seals = [] ∧ 4 < 19 ∧ (w10_14.lane 4).items = [LaneItem.frame 6 (jd_10 true (9 * 2 ^ 14))] ∧
      w10_14.heldBack 4 = false ∧ (jd_10 true (9 * 2 ^ 14)).fwd = true ∧ (jd_10 true (9 * 2 ^ 14)).slow = none ∧
      (jd_10 true (9 * 2 ^ 14)).f.dir = 0 ∧ bit (jd_10 true (9 * 2 ^ 14)).a0 4 = false) ∧
    (w10_15.wf = true ∧ w10_15.seals = [] ∧ 4 < 19 ∧ (w10_15.lane 4).items = [LaneItem.frame 6 (jd_10 true (9 * 2 ^ 14))] ∧
      w10_15.heldBack 4 = false ∧ (jd_10 true (9 * 2 ^ 14)).fwd = true ∧ (jd_10 true (9 * 2 ^ 14)).slow = none ∧
      (jd_10 true (9 * 2 ^ 14)).f.dir = 0 ∧ bit (jd_10 true (9 * 2 ^ 14)).a0 4 = false) ∧
    (w10_16.wf = true ∧ w10_16.seals = [] ∧ w10_16.parserTurn ≠ some 5) :=
  by refine ⟨by refine ⟨?_, ?_, ?_, ?_, ?_, ?_, ?_, fun n _ => vmask_clear n⟩ <;> decide +kernel, ?_, ?_, ?_, ?_, ?_, ?_⟩ <;> decide +kernel

/-- Hypotheses of QueuesServed that a state meets, clause by clause. -/
theorem witness_QueuesServed :
    (w10_17.wf = true ∧ 9 < 4096 ∧ 5 % 64 ≠ w10_17.rd QSH_UQ_ALLOC 9) ∧
    (w10_18.wf = true ∧ 9 < 4096 ∧ 5 % 64 ≠ w10_18.rd QSH_UQ_ALLOC 9) ∧
    (w10_19.wf = true ∧ 9 < 4096 ∧ w10_19.pk.stalled = some (9, U1_10) ∧ w10_19.ubuf + U1_10.len ≤ 33554432 ∧ w10_19.rd QSH_UQ_EN 9 = 1 ∧
      w10_19.rd QSH_UQ_QMAX 9 = 0) ∧
    (w10_20.wf = true ∧ 7 < 64 ∧ 9 < 4096 ∧ w10_20.pk.uqs = [(9, { frames := [U1_10, U1_10], deficit := 3 : UQueue })] ∧
      { frames := [U1_10, U1_10], deficit := 3 : UQueue }.frames = [U1_10, U1_10] ∧ w10_20.rd QSH_UQ_ALLOC 9 = 7 ∧ w10_20.rd QSH_SH_SH_EN 9 = 0 ∧
      w10_20.rd QSH_SH_SH_EN (4096 + 7) = 0 ∧ w10_20.rd QSH_AL_SEAL_TO 7 = 0 ∧ (w10_20.asmOf 7).seals = [] ∧
      w10_20.sealedNow 7 = none ∧ (w10_20.sched 7).turns = [] ∧ (w10_20.sched 7).served = [] ∧
      U1_10.len ≤ { frames := [U1_10, U1_10], deficit := 3 : UQueue }.deficit + w10_20.rd QSH_UQ_QUANTUM 9 ∧
      (w10_20.asmOf 7).payload.length + U1_10.data.length ≤ 16336) ∧
    (w10_21.wf = true ∧ 7 < 64 ∧ 9 < 4096 ∧ w10_21.pk.uqs = [(9, { frames := [U1_10], deficit := 3 : UQueue })] ∧
      { frames := [U1_10], deficit := 3 : UQueue }.frames = [U1_10] ∧ w10_21.rd QSH_UQ_ALLOC 9 = 7 ∧ w10_21.rd QSH_SH_SH_EN 9 = 0 ∧
      w10_21.rd QSH_SH_SH_EN (4096 + 7) = 0 ∧ w10_21.rd QSH_AL_SEAL_TO 7 = 0 ∧ (w10_21.asmOf 7).seals = [] ∧
      w10_21.sealedNow 7 = none ∧ (w10_21.sched 7).turns = [] ∧ (w10_21.sched 7).served = [] ∧
      U1_10.len ≤ { frames := [U1_10], deficit := 3 : UQueue }.deficit + w10_21.rd QSH_UQ_QUANTUM 9 ∧
      (w10_21.asmOf 7).payload.length + U1_10.data.length ≤ 16336) ∧
    (w10_22.wf = true ∧ 7 < 64 ∧ w10_22.rd QSH_AL_SEAL_TO 7 ≠ 0 ∧ (w10_22.asmOf 7).payload ≠ [] ∧ (w10_22.asmOf 7).seals = [] ∧
      w10_22.isExpress 7 = false ∧ w10_22.rd CAV_STATE ≠ cavInit ∧ w10_22.cave.ring = [] ∧ w10_22.cave.rack = [] ∧
      w10_22.cave.waiters = [] ∧ w10_22.cave.retained = []) :=
  by refine ⟨?_, ?_, ?_, ?_, ?_, ?_⟩ <;> decide +kernel

/-- Hypotheses of GatesRun that a state meets, clause by clause. -/
theorem witness_GatesRun :
    (w10_23.wf = true ∧ 3 < 16 ∧ w10_23.rd GAT_PEND 3 = 0 ∧
      (w10_23.rd GAT_P_CYCLE 3 = 0 ∨ w10_23.rd GAT_P_COUNT 3 = 0 ∨ 256 < w10_23.rd GAT_P_COUNT 3)) ∧
    (w10_24.wf = true ∧ 3 < 16 ∧ w10_24.rd GAT_PEND 3 = 0 ∧ w10_24.rd GAT_P_CYCLE 3 ≠ 0 ∧ 1 ≤ w10_24.rd GAT_P_COUNT 3 ∧
      w10_24.rd GAT_P_COUNT 3 ≤ 256 ∧ 0 = w10_24.rd64 GAT_P_BASE_S_LO GAT_P_BASE_S_HI 3 * 1000000000 + w10_24.rd GAT_P_BASE_NS 3 ∧
      GL_10.tbNow 0 + 125000 = w10_24.tbNow (w10_24.rd GAT_P_TBASE 3) + 125000 ∧ w10_24.rd GAT_P_BASE_S_HI 3 < 2 ^ 15 ∧
      GL_10.tbNow 0 + 125000 < 2 ^ 47 * 1000000000 ∧ w10_24.rd GAT_P_BASE_NS 3 < 1000000000) ∧
    (w10_25.wf = true ∧ 3 < 16 ∧ w10_25.rd GAT_PEND 3 = 0 ∧ w10_25.rd GAT_P_CYCLE 3 ≠ 0 ∧ 1 ≤ w10_25.rd GAT_P_COUNT 3 ∧
      w10_25.rd GAT_P_COUNT 3 ≤ 256 ∧
      GL_10.tbNow 0 / 1000000000 * 1000000000 + 5000000005 = w10_25.rd64 GAT_P_BASE_S_LO GAT_P_BASE_S_HI 3 * 1000000000 + w10_25.rd GAT_P_BASE_NS 3 ∧
      GL_10.tbNow 0 + 125000 = w10_25.tbNow (w10_25.rd GAT_P_TBASE 3) + 125000 ∧ w10_25.rd GAT_P_BASE_S_HI 3 < 2 ^ 15 ∧
      GL_10.tbNow 0 + 125000 < 2 ^ 47 * 1000000000 ∧ w10_25.rd GAT_P_BASE_NS 3 < 1000000000) ∧
    (w10_26.wf = true ∧ 3 < 16 ∧ w10_26.rd GAT_PEND 3 = 1) ∧
    (w10_26.wf = true ∧ 3 < 16 ∧ w10_26.rd GAT_PEND 3 = 1 ∧ w10_26.tbNow (w10_26.rd GAT_P_TBASE 3) < w10_26.gateStart 3) ∧
    (w10_28.wf = true ∧ 3 < 16 ∧ w10_28.rd GAT_RUNNING 3 = 1 ∧ fromPos (w10_28.gatePos 3) (w10_28.gateList 3) = [ge_10, gf_10]) :=
  by refine ⟨?_, ?_, ?_, ?_, ?_, ?_⟩ <;> decide +kernel

/-! Witnesses: the cave -/

def HR_11 (m : Mode) : State := { S0 with mode := m, pins := { pgood := true, vddAon := true, pwrMainEn := true, resetN := true }, time := { lt := 1000 * mfTicks + 70 } }
def C1_11 (st : Nat) : State := setL (HR_11 .service) [(CAV_STATE, st, 0), (CAV_C_TOT, 16777216, 0), (CAV_POOL_BASE, 24660, 0), (CAV_CHANNELS, 0, 0), (PWR_PKG_BUDGET, 20000, 0), (FLT_TJ_WARN, 100, 0)]
def sr_11 : SealReq := { payload := [1, 2, 3], fcount := 1, flags := 2, lt := 77, tid := 5, mem := 0, exp := false }
def kA_11 : List Nat := List.replicate 16 7
def kB_11 : List Nat := List.range 16
def TK_11 : State := (let s := setL (C1_11 3) [(CAV_ACTIVE_KSEL, 1, 0), (CAV_XTS_256, 0, 0), (CAV_XTS_SLOT1, 8, 0), (QSH_AL_SEQ_NEXT, 500, 9)]; { s with asm := [(9, { seals := [sr_11] })], cip := { s.cip with keys := [(8, kA_11), (9, kB_11)] }, cave := { s.cave with rack := [⟨30000, 1, 0⟩, ⟨31000, 2500, 0⟩], ring := [⟨40000, 5000, 0⟩] } })
def cv_11 (f : Cave → Cave) (s : State) : State := { s with cave := f s.cave }
def FR_11 : State := cv_11 (fun c => { c with own := [(30005, { owner := 9, ksel := 1, gen := 31 })], rack := [⟨30000, 5, 0⟩, ⟨31000, 2500, 0⟩] }) (C1_11 3)
def PG_11 : State := (let s := cv_11 (fun c => { c with purge := [(9, ⟨handleOf 4095 31, true, 6⟩)], expOwn := [(4095, { owner := 9, gen := 31 })] }) ((C1_11 3).wr CAV_CMD_GO 1); { s with held := [(9, [⟨handleOf 4095 31, true, 6⟩])] })
def w11_1 : State := C1_11 0
def w11_2 : State := (C1_11 5).wr CAV_CHANNELS 1
def w11_3 : State := C1_11 3
def w11_4 : State := C1_11 1
def w11_6 : State := cv_11 (fun c => { c with zeroed := 24660 }) (C1_11 2)
def w11_7 : State := (C1_11 4).wr DDR_TRAIN_STATE 4 3
def w11_8 : State := setL (C1_11 3) [(CAV_SCRUB_EN, 1, 0)]
def w11_9 : State := setL (C1_11 3) [(CAV_SCRUB_EN, 1, 0), (PWR_PKG_BUDGET, 100, 0)]
def w11_10 : State := (C1_11 3).wr DDR_TRAIN_STATE 2 15
def w11_14 : State := TK_11
def w11_15 : State := { C1_11 3 with asm := [(9, { seals := [sr_11] })] }
def w11_16 : State := FR_11
def w11_21 : State := cv_11 (fun c => { c with waiters := [⟨9, 77, false⟩] }) (setL (C1_11 3) [(CAV_WAIT_TH, 65535, 0)])
def w11_22 : State := cv_11 (fun c => { c with retained := [⟨handleOf 4095 31, true, 9, 99⟩], expFree := [], expOwn := [(4095, { owner := 9, gen := 31 })] }) (C1_11 3)
def w11_23 : State := (let s := setL (C1_11 3) [(CAV_PURGE_MASK_LO, 0x200, 0)]; { s with held := [(9, [⟨5, true, 6⟩]), (10, [⟨6, true, 6⟩])] })
def w11_24 : State := cv_11 (fun c => { c with purge := [(9, ⟨5, true, 6⟩)] }) ((C1_11 3).wr CAV_CMD_GO 1)
def w11_25 : State := PG_11
def w11_26 : State := cv_11 (fun c => { c with expData := [(4095, [1, 2, 3])], expOwn := [(4095, { owner := 9, gen := 31 })] }) (setL (C1_11 3) [(CAV_WIN_EXP, 1, 0), (CAV_WIN_HANDLE, handleOf 4095 31, 0), (CAV_WIN_OWNER, 9, 0)])
def w11_27 : State := setL (C1_11 3) [(CAV_WIN_EXP, 1, 0), (CAV_WIN_HANDLE, handleOf 4095 31, 0), (CAV_WIN_OWNER, 9, 0)]
def w11_28 : State := cv_11 (fun c => { c with opens := List.replicate 65536 ⟨0, false, 0⟩ }) (C1_11 3)
def w11_32 : State := S0

/-- An open table of 65,536 entries is full. -/
theorem openFull_full : w11_28.openFull = true := by
  have h : w11_28.cave.opens = List.replicate 65536 ⟨0, false, 0⟩ := rfl
  rw [State.openFull, h, List.length_replicate]
  decide

/-- Hypotheses of PoolBroughtUp that a state meets, clause by clause. -/
theorem witness_PoolBroughtUp_1 :
    (w11_1.wf = true ∧ (w11_1.rd CAV_STATE = cavOff ∨ w11_1.rd CAV_STATE = cavFail)) ∧
    (w11_2.wf = true ∧ (w11_2.rd CAV_STATE = cavOff ∨ w11_2.rd CAV_STATE = cavFail)) ∧
    (w11_3.rd CAV_STATE ≠ cavOff ∧ w11_3.rd CAV_STATE ≠ cavFail) ∧
    (w11_4.wf = true ∧ w11_4.rd CAV_STATE = cavTrain ∧ w11_4.rd CAV_DIMM_SIZE < 3) ∧
    (w11_4.wf = true ∧ w11_4.rd CAV_STATE = cavTrain ∧ 7 < w11_4.cavN ∧ (3 = 1 ∨ 3 = 2 ∨ 3 = 3)) ∧
    (w11_6.wf = true ∧ w11_6.rd CAV_STATE = cavInit ∧ w11_6.cave.ring = [] ∧ w11_6.cave.rack = [] ∧ w11_6.cave.waiters = [] ∧
      w11_6.cave.zeroed = w11_6.rd CAV_POOL_BASE ∧ w11_6.rd CAV_POOL_BASE + 2048 ≤ w11_6.rd CAV_C_TOT) ∧
    (w11_7.wf = true ∧ (w11_7.mode = Mode.service ∨ w11_7.mode = Mode.listen) ∧ w11_7.dark = false ∧ w11_7.entering = false ∧
      w11_7.rd CAV_STATE = cavRefresh) ∧
    (w11_8.wf = true ∧ w11_8.rd CAV_SCRUB_EN = 1 ∧ w11_8.rd CAV_STATE = cavReady ∧ w11_8.cave.scrubRetry = none ∧
      w11_8.leaveFits 200 = true ∧ w11_8.blockFaulted { cls := lcScrub, watts := 200, region := 13, block := 0 : Leave } = false ∧
      w11_8.rd CAV_SCRUB_POS + 64 < w11_8.rd CAV_C_TOT ∧ w11_8.pwr.leaves = []) :=
  by refine ⟨?_, ?_, ?_, ?_, ?_, ?_, ?_, ?_⟩ <;> decide +kernel

/-- Hypotheses of PoolBroughtUp that a state meets, clause by clause. -/
theorem witness_PoolBroughtUp_2 :
    (w11_9.wf = true ∧ w11_9.rd CAV_SCRUB_EN = 1 ∧ w11_9.rd CAV_STATE = cavReady ∧ w11_9.cave.scrubRetry = none ∧
      w11_9.leaveFits 200 = false) ∧
    (w11_10.wf = true ∧ 15 < 16 ∧ w11_10.rd DDR_TRAIN_STATE 15 = 2 ∧ w11_10.leaveFits 300 = true ∧
      w11_10.blockFaulted { cls := lcDdrRetrain, watts := 300, region := ddrRegion 15, block := 0 : Leave } = false ∧
      w11_10.pwr.leaves = []) ∧
    (w11_3.wf = true ∧ 15 < 16 ∧ 85 < 256) ∧
    (w11_3.wf = true ∧ 15 < 16 ∧ 84 < 256) ∧
    (w11_3.wf = true ∧ 15 < 16 ∧ 128 < 256) :=
  by refine ⟨?_, ?_, ?_, ?_, ?_⟩ <;> decide +kernel

/-- Hypotheses of ContainersTakenAndFreed that a state meets, clause by clause. -/
theorem witness_ContainersTakenAndFreed_1 :
    (w11_14.wf = true ∧ 9 < 64 ∧ (w11_14.asmOf 9).seals = [sr_11] ∧ sr_11.exp = false ∧ w11_14.rd CAV_STATE = cavReady ∧
      w11_14.cave.waiters = [] ∧ w11_14.openFull = false ∧
      rackPop w11_14.cave.rack = some (handleOf 30000 0, [{ first := 31000, n := 2500, gen := 0 : Run }]) ∧
      w11_14.popOk false (handleOf 30000 0) = true ∧ 2048 ≤ runCount [{ first := 31000, n := 2500, gen := 0 : Run }] ∧
      runCount [{ first := 31000, n := 2500, gen := 0 : Run }] ≤ 6144 ∧ w11_14.xtsPair (w11_14.rd CAV_ACTIVE_KSEL) = some (kA_11, kB_11) ∧
      w11_14.heldOf 9 = [] ∧ runCount w11_14.cave.ring + runCount [{ first := 31000, n := 2500, gen := 0 : Run }] < 2 ^ 27) ∧
    (w11_15.wf = true ∧ 9 < 64 ∧ (w11_15.asmOf 9).seals = [sr_11] ∧ sr_11.exp = false ∧ w11_15.rd CAV_STATE = cavReady ∧
      w11_15.cave.waiters = [] ∧ w11_15.cave.rack = [] ∧ w11_15.cave.retained = [] ∧
      List.filter (fun x => x == 9) (w11_15.order (rtTake false) 64) = [9]) ∧
    (w11_16.wf = true ∧ 9 < 64 ∧ hIndex (handleOf 30005 31) < w11_16.rd CAV_C_TOT ∧
      w11_16.ownOf false (hIndex (handleOf 30005 31)) = { owner := 9, ksel := 1, gen := 31 : Own } ∧
      { owner := 9, ksel := 1, gen := 31 : Own }.owner = 9 ∧
      { owner := 9, ksel := 1, gen := 31 : Own }.gen = hGen (handleOf 30005 31) ∧
      { owner := 9, ksel := 1, gen := 31 : Own }.poison = false ∧ w11_16.cave.waiters = [] ∧ w11_16.cave.retained = [] ∧
      w11_16.heldOf 9 = [] ∧ 2048 ≤ runCount w11_16.cave.rack ∧ runCount w11_16.cave.rack < 6144) ∧
    (w11_16.wf = true ∧ w11_16.freeOk false (handleOf 30005 30) 9 = false) ∧
    (w11_16.wf = true ∧ w11_16.freeOk false (handleOf 30005 31) 8 = false) ∧
    (w11_16.wf = true ∧ w11_16.freeOk true (handleOf 4096 0) 8 = false) ∧
    (w11_16.wf = true ∧ w11_16.freeOk true (handleOf 4095 0) 8 = false) ∧
    (w11_21.wf = true ∧ w11_21.waitersOf false = [{ al := 9, since := 77, counted := false : Waiter }] ∧ w11_21.rd CAV_WAIT_TH ≠ 0) :=
  by refine ⟨?_, ?_, ?_, ?_, ?_, ?_, ?_, ?_⟩ <;> decide +kernel

/-- Hypotheses of ContainersTakenAndFreed that a state meets, clause by clause. -/
theorem witness_ContainersTakenAndFreed_2 :
    (w11_22.wf = true ∧ 9 < 64 ∧
      w11_22.cave.retained = [{ handle := handleOf 4095 31, exp := true, al := 9, due := 99 : Retained }] ∧
      hIndex (handleOf 4095 31) < 4096 ∧
      w11_22.ownOf true (hIndex (handleOf 4095 31)) = { owner := 9, gen := hGen (handleOf 4095 31) : Own } ∧
      w11_22.cave.expWaiters = [] ∧ w11_22.cave.expFree = []) ∧
    (w11_23.wf = true ∧ w11_23.rd CAV_CMD_GO = 0) ∧
    (w11_24.wf = true ∧ w11_24.rd CAV_CMD_GO = 1 ∧ (w11_24.cave.purge.all fun e => !(w11_24.heldOf e.fst).contains e.snd) = true) ∧
    (w11_25.wf = true ∧ 9 < 64 ∧ w11_25.rd CAV_CMD_GO = 1 ∧
      w11_25.cave.purge = [(9, { handle := handleOf 4095 31, exp := true, seq := 6 : Held })] ∧
      w11_25.heldOf 9 = [{ handle := handleOf 4095 31, exp := true, seq := 6 : Held }] ∧
      { handle := handleOf 4095 31, exp := true, seq := 6 : Held }.exp = true ∧
      hIndex { handle := handleOf 4095 31, exp := true, seq := 6 : Held }.handle < 4096 ∧
      handleOf 4095 31 = { handle := handleOf 4095 31, exp := true, seq := 6 : Held }.handle ∧
      w11_25.ownOf true (hIndex (handleOf 4095 31)) = { owner := 9, gen := hGen (handleOf 4095 31) : Own } ∧
      w11_25.cave.expWaiters = []) ∧
    (w11_26.wf = true ∧ true = decide (w11_26.rd CAV_WIN_EXP = 1) ∧ handleOf 4095 31 = w11_26.rd CAV_WIN_HANDLE ∧
      (hIndex (handleOf 4095 31) < if true = true then 4096 else w11_26.rd CAV_C_TOT) ∧
      (w11_26.ownOf true (hIndex (handleOf 4095 31))).owner = w11_26.rd CAV_WIN_OWNER ∧
      (w11_26.ownOf true (hIndex (handleOf 4095 31))).gen = hGen (handleOf 4095 31) ∧
      w11_26.loadCont true (hIndex (handleOf 4095 31)) = some [1, 2, 3] ∧ w11_26.openFull = false) ∧
    (w11_27.wf = true ∧ true = decide (w11_27.rd CAV_WIN_EXP = 1) ∧ handleOf 4095 31 = w11_27.rd CAV_WIN_HANDLE ∧
      w11_27.openFull = false ∧ w11_27.accessOk true (handleOf 4095 31) (w11_27.rd CAV_WIN_OWNER) = false ∧
      ((if true = true then 4096 else w11_27.rd CAV_C_TOT) ≤ hIndex (handleOf 4095 31) ∨ (w11_27.ownOf true (hIndex (handleOf 4095 31))).owner ≠ w11_27.rd CAV_WIN_OWNER ∨ (w11_27.ownOf true (hIndex (handleOf 4095 31))).gen ≠ hGen (handleOf 4095 31))) ∧
    (w11_28.wf = true ∧ w11_28.openFull = true) ∧
    (w11_16.wf = true ∧ 7 < 16 ∧ 960160 < 2 ^ 31 ∧ 30005 = w11_16.eccIndex 7 960160 ∧
      cavRegionOf w11_16.cavN (w11_16.rd CAV_C_TOT) 30005 = CavRegion.pool) :=
  by refine ⟨?_, ?_, ?_, ?_, ?_, ?_, ⟨by decide +kernel, openFull_full⟩, ?_⟩ <;> decide +kernel

/-- Hypotheses of ContainersTakenAndFreed that a state meets, clause by clause. -/
theorem witness_ContainersTakenAndFreed_3 :
    (w11_16.wf = true ∧ 0 < 16 ∧ 960161 < 2 ^ 31 ∧ 30005 = w11_16.eccIndex 0 960161 ∧
      cavRegionOf w11_16.cavN (w11_16.rd CAV_C_TOT) 30005 = CavRegion.pool) ∧
    (w11_16.wf = true ∧ 7 < 16 ∧ 0 < 2 ^ 31 ∧
      ∃ copyB, cavRegionOf w11_16.cavN (w11_16.rd CAV_C_TOT) (w11_16.eccIndex 7 0) = CavRegion.owners copyB ∨ cavRegionOf w11_16.cavN (w11_16.rd CAV_C_TOT) (w11_16.eccIndex 7 0) = CavRegion.ring copyB) ∧
    (16 = 8 ∨ 16 = 16) ∧
    (8 = 8 ∨ 8 = 16) ∧
    (w11_16.wf = true ∧ 3 < 16 ∧ 786880 < 2 ^ 31 ∧
      cavRegionOf w11_16.cavN (w11_16.rd CAV_C_TOT) (w11_16.eccIndex 3 786880) = CavRegion.scratch) :=
  by refine ⟨?_, ?_, ?_, ?_, ?_⟩ <;> decide +kernel

/-! Witnesses: lanes -/

def HR_12 (m : Mode) : State := { S0 with mode := m, pins := { pgood := true, vddAon := true, pwrMainEn := true, resetN := true }, time := { lt := 1000 * mfTicks + 70 } }
def B1_12 : State := setL (HR_12 .service) [(PWR_PKG_BUDGET, 20000, 0), (FLT_TJ_WARN, 100, 0)]
def RF_12 (s : State) : State := { s with pk := { s.pk with refAt := s.now } }
def LN_12 (l a : Nat) : State := setL B1_12 [(SER_L_ADAPT_STATE, a, l), (SER_L_RX_AWAKE, 1, l), (SER_L_SIG_DET, 1, l), (FKL_FK0_EN, 1, 0), (FKL_FK1_EN, 1, 0), (FKL_K_PSTATE, 2, 0), (FKL_K_PSTATE, 2, 1)]
def w12_1 : State := RF_12 B1_12
def w12_5 : State := setL (RF_12 B1_12) [(SER_REF_BAD, 1, 0)]
def w12_6 : State := setL B1_12 [(SER_REF_BAD, 1, 0)]
def w12_7 : State := B1_12
def w12_10 : State := LN_12 20 3
def w12_11 : State := LN_12 15 3
def w12_12 : State := (LN_12 15 3).wr PWR_PKG_BUDGET 1000
def w12_13 : State := (LN_12 15 3).setSer 15 { retry := some (1000 * mfTicks + 99) }
def w12_15 : State := LN_12 16 3
def w12_17 : State := LN_12 16 4
def w12_19 : State := LN_12 3 1
def w12_20 : State := (let s := LN_12 3 5; { s with pwr := { s.pwr with leaves := [⟨5, 150, 11, 3⟩] } })
def w12_21 : State := LN_12 3 5
def w12_23 : State := (LN_12 20 0).wr SER_L_RX_AWAKE 0 20
def w12_24 : State := ((LN_12 20 0).wr SER_L_RX_AWAKE 0 20).setSer 20 { stored := true }
def w12_26 : State := (LN_12 20 3).wr SER_L_GEN_MODE 3 20
def w12_27 : State := setL (LN_12 20 3) [(SER_L_GEN_MODE, 3, 20), (SER_L_INJ_RATE, 10, 20)]
def w12_28 : State := setL (LN_12 20 3) [(SER_L_GEN_MODE, 3, 20), (SER_L_INJ_RATE, 9, 20)]
def w12_29 : State := setL (LN_12 20 3) [(SER_L_CHK_MODE, 3, 20)]
def w12_30 : State := setL (LN_12 20 3) [(SER_L_CHK_MODE, 3, 20), (SER_L_CHK_LOCK, 1, 20)]

/-- Hypotheses of LanesAdaptAndSleep that a state meets, clause by clause. -/
theorem witness_LanesAdaptAndSleep_1 :
    (w12_1.wf = true ∧ w12_1.dark = false ∧ w12_1.rd SER_REF_BAD = 0 ∧ -32768 ≤ 1000 ∧ 1000 < 32768) ∧
    (w12_1.wf = true ∧ w12_1.dark = false ∧ w12_1.rd SER_REF_BAD = 0 ∧ -32768 ≤ 1001 ∧ 1001 < 32768) ∧
    (w12_1.wf = true ∧ w12_1.dark = false ∧ w12_1.rd SER_REF_BAD = 0 ∧ -32768 ≤ 0 ∧ 0 < 32768) ∧
    (w12_1.wf = true ∧ w12_1.dark = false ∧ w12_1.rd SER_REF_BAD = 0 ∧ -32768 ≤ -1001 ∧ -1001 < 32768) ∧
    (w12_5.wf = true ∧ w12_5.dark = false ∧ w12_5.rd SER_REF_BAD = 1 ∧ -1000 ≤ 1000 ∧ 1000 ≤ 1000) ∧
    (w12_6.wf = true ∧ w12_6.dark = false ∧ w12_6.rd SER_REF_BAD = 1 ∧ -1000 ≤ 1000 ∧ 1000 ≤ 1000) ∧
    (w12_7.wf = true ∧ 23 < 24 ∧ 15 < 16 ∧ 48 < 64 ∧ 56 < 64) ∧
    (w12_7.wf = true ∧ 23 < 24 ∧ 15 < 16 ∧ 48 < 64 ∧ 55 < 64) :=
  by refine ⟨?_, ?_, ?_, ?_, ?_, ?_, ?_, ?_⟩ <;> decide +kernel

/-- Hypotheses of LanesAdaptAndSleep that a state meets, clause by clause. -/
theorem witness_LanesAdaptAndSleep_2 :
    (w12_7.wf = true ∧ 23 < 24 ∧ 15 < 16 ∧ 0 < 64 ∧ 40 < 64) ∧
    (w12_10.wf = true ∧ 16 ≤ 20 ∧ 20 < 24 ∧ w12_10.rd SER_L_ADAPT_STATE 20 = adTrack) ∧
    (w12_11.wf = true ∧ 15 < 16 ∧ w12_11.rd SER_L_ADAPT_STATE 15 = adTrack ∧ w12_11.claimant 15 = none ∧
      w12_11.leaveFits 150 = true ∧ w12_11.blockFaulted { cls := lcPhy, watts := 150, region := 11, block := 15 : Leave } = false) ∧
    (w12_12.wf = true ∧ 15 < 16 ∧ w12_12.rd SER_L_ADAPT_STATE 15 = adTrack ∧ w12_12.leaveFits 150 = false) ∧
    (w12_13.wf = true ∧ 15 < 16 ∧ (w12_13.ser 15).retry = some (1000 * mfTicks + 99) ∧ w12_13.now ≤ 1000 * mfTicks + 99 ∧
      w12_13.pwr.faultedAt ≠ 1000 * mfTicks + 99 ∧ w12_13.rd SER_L_ADAPT_STATE 15 = adTrack ∧ w12_13.leaveFits 150 = true ∧
      w12_13.claimant 15 = none) ∧
    (w12_11.wf = true ∧ 15 < 24 ∧ w12_11.rd SER_L_RX_AWAKE 15 = 1 ∧ 170 < 65536 ∧ w12_11.rd SER_L_RETRAIN_SNR 15 ≤ 170) ∧
    (w12_15.wf = true ∧ 16 ≤ 16 ∧ 16 < 24 ∧ w12_15.rd SER_L_RX_AWAKE 16 = 1 ∧ 169 < w12_15.rd SER_L_RETRAIN_SNR 16 ∧
      w12_15.rd SER_L_ADAPT_STATE 16 = adTrack) ∧
    (w12_15.wf = true ∧ 16 < 24) :=
  by refine ⟨?_, ?_, ?_, ?_, ?_, ?_, ?_, ?_⟩ <;> decide +kernel

/-- Hypotheses of LanesAdaptAndSleep that a state meets, clause by clause. -/
theorem witness_LanesAdaptAndSleep_3 :
    (w12_17.wf = true ∧ 16 < 24) ∧
    (w12_19.wf = true ∧ 3 < 16 ∧ (w12_19.rd SER_L_ADAPT_STATE 3 = adCold ∨ w12_19.rd SER_L_ADAPT_STATE 3 = adWarm) ∧
      w12_19.rd SER_L_SIG_DET 3 = 1 ∧ w12_19.claimant 3 = none ∧ 200 < 65536 ∧ 31 < 32) ∧
    (w12_20.wf = true ∧ 3 < 16 ∧ w12_20.rd SER_L_ADAPT_STATE 3 = adRetrain ∧ w12_20.claimant 3 = none) ∧
    (w12_21.wf = true ∧ 3 < 24) ∧
    (w12_10.wf = true ∧ 16 ≤ 20 ∧ 20 < 24 ∧ w12_10.laneUsed 20 = true ∧ w12_10.rd SER_L_RX_AWAKE 20 = 1) ∧
    (w12_23.wf = true ∧ 16 ≤ 20 ∧ 20 < 24 ∧ w12_23.laneUsed 20 = true ∧ w12_23.rd SER_L_RX_AWAKE 20 = 0) ∧
    (w12_24.wf = true ∧ 16 ≤ 20 ∧ 20 < 24 ∧ w12_24.laneUsed 20 = true ∧ w12_24.rd SER_L_RX_AWAKE 20 = 0) ∧
    (w12_10.wf = true ∧ 20 < 24) :=
  by refine ⟨?_, ?_, ?_, ?_, ?_, ?_, ?_, ?_⟩ <;> decide +kernel

/-- Hypotheses of LanesAdaptAndSleep that a state meets, clause by clause. -/
theorem witness_LanesAdaptAndSleep_4 :
    (w12_26.wf = true ∧ 20 < 24) ∧
    (20 < 24 ∧ w12_27.rd SER_L_GEN_MODE 20 ≠ 0 ∧ 10 ≤ w12_27.rd SER_L_INJ_RATE 20) ∧
    (20 < 24 ∧ (w12_28.rd SER_L_GEN_MODE 20 = 0 ∨ w12_28.rd SER_L_INJ_RATE 20 < 10)) ∧
    (w12_29.wf = true ∧ 20 < 24 ∧ w12_29.rd SER_L_CHK_MODE 20 ≠ 0 ∧ w12_29.rd SER_L_CHK_LOCK 20 = 0) ∧
    (w12_30.wf = true ∧ 20 < 24 ∧ w12_30.rd SER_L_CHK_MODE 20 ≠ 0 ∧ w12_30.rd SER_L_CHK_LOCK 20 = 1) :=
  by refine ⟨?_, ?_, ?_, ?_, ?_⟩ <;> decide +kernel

/-! Witnesses: the Fenkai Link -/

def HR_13 (m : Mode) : State := { S0 with mode := m, pins := { pgood := true, vddAon := true, pwrMainEn := true, resetN := true }, time := { lt := 1000 * mfTicks + 70 }, rx := { chains := [(0x200, { place := some 100, cur := { bytes := 50000 } })], first := false } }
def H1_13 (m : Mode) : State := setL (HR_13 m) [(LRX_SYM_RATE, 144000, 0), (UPB_TID_VALID, 1, 0), (UPB_TID, 5, 0), (LTM_STATE, 2, 0)]
def P_13 (role mem ps : Nat) : State := setL (HR_13 .service) [(FKL_ROLE, role, 0), (FKL_MEM_ID, mem, 0), (FKL_K_PSTATE, ps, 1), (FKL_FK0_EN, 1, 0), (FKL_FK1_EN, 1, 0), (LTM_STATE, 2, 0)]
def fkd_13 (f : Fenkai → Fenkai) (s : State) : State := { s with fk := f s.fk }
def TR_13 (k : Nat) (s : State) : State := setL s ((List.range 4).map fun i => (SER_L_ADAPT_STATE, 3, 16 + 4 * k + i))
def pad_13 (l : List Nat) : List Nat := l ++ List.replicate (236 - l.length) 0
def ce_13 (ty dst hops len : Nat) (sou eou : Bool) (seq stamp : Nat) (p : List Nat) : Cell := cellOf 1 ty 3 dst hops len sou eou false seq stamp (pad_13 p)
def tg_13 (len : Nat) : List Nat := (let a := bytesBE 7 (len * 2 ^ 10); a ++ [crc8 0 a])
def mg_13 (b : Option (List Nat)) : Mgmt := { mem := 5, role := 2, rxOk := true, tid := 77, tidValid := true, mbox := b }
def lk_13 (l : LtLink) (s : State) : State := fkd_13 (fun f => { f with links := [(1, l)] }) s
def ls_13 (s : State) : State := fkd_13 (fun f => { f with hops := [(8, 1)] }) s
def sr_13 (l : List Nat) (tid : Nat) : Rec := msgRec 14 4 tid (l.flatMap (bytesBE 4))
def k6_13 : Cell := ce_13 1 4 0 16 true true 0 (1000 * mfTicks + 170 + 56286) (bytesBE 8 (1000 * mfTicks + 170 + 16286) ++ bytesBE 8 (1000 * mfTicks + 170))
def k7_13 : Cell := ce_13 1 4 0 16 true true 0 (777 * mfTicks) (bytesBE 8 5 ++ bytesBE 8 6)
def w13_1 : State := TR_13 1 (P_13 1 0 0)
def w13_2 : State := fkd_13 (fun f => { f with hops := [(11, 3)] }) ((P_13 1 0 2).wr FRM_SC_IN_FRAME 1 0)
def w13_3 : State := P_13 1 0 2
def w13_4 : State := P_13 1 0 1
def w13_7 : State := fkd_13 (fun f => { f with asms := [(asmKey (ce_13 5 1 0 2 false true 77 6 [1, 2]), { next := some 76, bytes := [1], whole := true })] }) (P_13 1 0 2)
def w13_9 : State := (let s := setL (P_13 1 0 2) [(FKL_CTRL_VALID, 1, 0), (FKL_CTRL_SRC, 3, 0)]; { s with rx := { s.rx with chains := [] } })
def w13_10 : State := setL (P_13 1 0 2) [(FKL_CTRL_VALID, 1, 0), (FKL_CTRL_SRC, 2, 0)]
def w13_11 : State := (P_13 1 0 1).wr FRM_SC_IN_FRAME 1 0
def w13_12 : State := setL (P_13 1 0 0) [(FKL_K_PSTATE, 2, 0), (FKL_MBOX_GO, 1, 0), (FKL_MBOX_TX, 5, 7)]
def w13_13 : State := P_13 1 0 0
def w13_14 : State := fkd_13 (fun f => { f with hops := [(11, 3)] }) (setL (P_13 1 0 0) [(FKL_REACH, 0xFF, 0), (FRM_SC_IN_FRAME, 1, 0)])
def w13_15 : State := lk_13 { t2 := 99, stamp := 88 } ((P_13 1 0 2).wr FKL_K_NBR_MEM 3 1)
def w13_16 : State := ls_13 (lk_13 { sent := some (1000 * mfTicks + 170, 1000 * mfTicks + 170) } (P_13 2 2 2))
def w13_17 : State := ls_13 ((P_13 2 2 2).wr LTM_STATE 0)
def w13_18 : State := fkd_13 (fun f => { f with ltAt := 3 }) (P_13 2 2 2)
def w13_19 : State := H1_13 .service

/-- Hypotheses of CellsCarried that a state meets, clause by clause. -/
theorem witness_CellsCarried_1 :
    (w13_1.wf = true ∧ 1 < 2 ∧ w13_1.dark = false ∧ w13_1.rd (fkEn 1) = 1 ∧ w13_1.rd FKL_K_PSTATE 1 = fkDown ∧
      ∀ (i : Nat), i < 4 → w13_1.rd SER_L_ADAPT_STATE (16 + 4 * 1 + i) = adTrack ∧ w13_1.rd SER_L_GEN_MODE (16 + 4 * 1 + i) = 0) ∧
    (w13_2.wf = true ∧ 1 < 2 ∧ w13_2.rd FKL_K_PSTATE 1 = fkUp ∧ w13_2.rd FKL_ROLE = 1 ∧ w13_2.rd FKL_CTRL_VALID = 0 ∧
      w13_2.inFrame w13_2.ctrlSc = true) ∧
    (w13_3.wf = true ∧ w13_3.takesCell (ce_13 0 0 0 0 false false 5 6 []) 0 = true) ∧
    (w13_4.wf = true ∧ (ce_13 6 0 0 0 false false 5 6 []).port < 2 ∧
      w13_4.rd FKL_K_PSTATE (ce_13 6 0 0 0 false false 5 6 []).port ≠ fkDown ∧
      (cellOk (ce_13 6 0 0 0 false false 5 6 []) = false ∨ 6 ≤ cType (ce_13 6 0 0 0 false false 5 6 []))) ∧
    (w13_3.wf = true ∧ w13_3.takesCell (ce_13 5 1 7 0 true true 5 6 []) 5 = true ∧ 7 ≤ cHops (ce_13 5 1 7 0 true true 5 6 [])) ∧
    (w13_3.wf = true ∧ w13_3.takesCell (ce_13 5 1 0 72 true true 5 6 (tg_13 64 ++ List.replicate 64 9)) 5 = true ∧
      cHops (ce_13 5 1 0 72 true true 5 6 (tg_13 64 ++ List.replicate 64 9)) < 7 ∧
      cDst (ce_13 5 1 0 72 true true 5 6 (tg_13 64 ++ List.replicate 64 9)) = 2 ^ w13_3.rd FKL_MEM_ID ∧ w13_3.rd FKL_MEM_ID < 8 ∧
      cSou (ce_13 5 1 0 72 true true 5 6 (tg_13 64 ++ List.replicate 64 9)) = true ∧
      cEou (ce_13 5 1 0 72 true true 5 6 (tg_13 64 ++ List.replicate 64 9)) = true ∧
      tg_13 64 ++ List.replicate 64 9 = List.take (cLen (ce_13 5 1 0 72 true true 5 6 (tg_13 64 ++ List.replicate 64 9))) (ce_13 5 1 0 72 true true 5 6 (tg_13 64 ++ List.replicate 64 9)).payload ∧
      w13_3.fk.asms = [] ∧ tagOk (tg_13 64 ++ List.replicate 64 9) = true ∧
      (tg_13 64 ++ List.replicate 64 9).length = unitLen (ofBytesBE (List.take 8 (tg_13 64 ++ List.replicate 64 9)))) ∧
    (w13_7.wf = true ∧ w13_7.takesCell (ce_13 5 1 0 2 false true 77 6 [1, 2]) 5 = true ∧
      cHops (ce_13 5 1 0 2 false true 77 6 [1, 2]) < 7 ∧ cDst (ce_13 5 1 0 2 false true 77 6 [1, 2]) = 2 ^ w13_7.rd FKL_MEM_ID ∧
      w13_7.rd FKL_MEM_ID < 8 ∧ cSou (ce_13 5 1 0 2 false true 77 6 [1, 2]) = false ∧ cEou (ce_13 5 1 0 2 false true 77 6 [1, 2]) = true ∧
      w13_7.fk.asms = [(asmKey (ce_13 5 1 0 2 false true 77 6 [1, 2]), { next := some 76, bytes := [1], whole := true : CellAsm })] ∧
      { next := some 76, bytes := [1], whole := true : CellAsm }.next ≠ some (cSeq (ce_13 5 1 0 2 false true 77 6 [1, 2]))) ∧
    (w13_3.wf = true ∧ w13_3.takesCell (ce_13 4 1 0 2 true true 5 1234605322945953792 [1, 2]) 4 = true ∧
      cHops (ce_13 4 1 0 2 true true 5 1234605322945953792 [1, 2]) < 7 ∧
      cDst (ce_13 4 1 0 2 true true 5 1234605322945953792 [1, 2]) = 2 ^ w13_3.rd FKL_MEM_ID ∧ w13_3.rd FKL_MEM_ID < 8 ∧
      cSou (ce_13 4 1 0 2 true true 5 1234605322945953792 [1, 2]) = true ∧
      cEou (ce_13 4 1 0 2 true true 5 1234605322945953792 [1, 2]) = true ∧ w13_3.fk.asms = [] ∧ w13_3.rx.remotes = []) :=
  by refine ⟨?_, ?_, ⟨by decide +kernel, takes_cellOf _ _ _ _ _ _ _ _ _ _ _ _ _ _ (by decide +kernel)⟩, by refine ⟨?_, ?_, ?_, Or.inr (by decide +kernel)⟩ <;> decide +kernel, by refine ⟨?_, takes_cellOf _ _ _ _ _ _ _ _ _ _ _ _ _ _ (by decide +kernel), ?_⟩ <;> decide +kernel, by refine ⟨?_, takes_cellOf _ _ _ _ _ _ _ _ _ _ _ _ _ _ (by decide +kernel), ?_⟩ <;> decide +kernel, by refine ⟨?_, takes_cellOf _ _ _ _ _ _ _ _ _ _ _ _ _ _ (by decide +kernel), ?_⟩ <;> decide +kernel, by refine ⟨?_, takes_cellOf _ _ _ _ _ _ _ _ _ _ _ _ _ _ (by decide +kernel), ?_⟩ <;> decide +kernel⟩ <;> decide +kernel

/-- Hypotheses of CellsCarried that a state meets, clause by clause. -/
theorem witness_CellsCarried_2 :
    (w13_9.wf = true ∧ w13_9.takesCell (ce_13 2 1 0 2 true false 5 18764712116229 [1, 2]) 2 = true ∧
      cHops (ce_13 2 1 0 2 true false 5 18764712116229 [1, 2]) < 7 ∧
      cDst (ce_13 2 1 0 2 true false 5 18764712116229 [1, 2]) = 2 ^ w13_9.rd FKL_MEM_ID ∧ w13_9.rd FKL_MEM_ID < 8 ∧
      w13_9.rd FKL_CTRL_VALID = 1 ∧ w13_9.rd FKL_CTRL_SRC = cSrc (ce_13 2 1 0 2 true false 5 18764712116229 [1, 2]) ∧
      cSou (ce_13 2 1 0 2 true false 5 18764712116229 [1, 2]) = true ∧ w13_9.fk.asms = [] ∧ w13_9.fk.ctl = none ∧
      w13_9.parsing = false ∧ bits (cStamp (ce_13 2 1 0 2 true false 5 18764712116229 [1, 2])) 63 32 ≠ 4294967295) ∧
    (w13_10.wf = true ∧ w13_10.takesCell (ce_13 2 1 0 2 true false 5 18764712116229 [1, 2]) 2 = true ∧
      cHops (ce_13 2 1 0 2 true false 5 18764712116229 [1, 2]) < 7 ∧
      cDst (ce_13 2 1 0 2 true false 5 18764712116229 [1, 2]) = 2 ^ w13_10.rd FKL_MEM_ID ∧ w13_10.rd FKL_MEM_ID < 8 ∧
      (w13_10.rd FKL_CTRL_VALID = 0 ∨ w13_10.rd FKL_CTRL_SRC ≠ cSrc (ce_13 2 1 0 2 true false 5 18764712116229 [1, 2]))) ∧
    (w13_11.wf = true ∧ (ce_13 3 255 0 72 true true 5 6 [1, 2]).port < 2 ∧ cellOk (ce_13 3 255 0 72 true true 5 6 [1, 2]) = true ∧
      cType (ce_13 3 255 0 72 true true 5 6 [1, 2]) = 3 ∧ w13_11.rd FKL_K_PSTATE (ce_13 3 255 0 72 true true 5 6 [1, 2]).port = fkAlign ∧
      cHops (ce_13 3 255 0 72 true true 5 6 [1, 2]) = 0 ∧ cDst (ce_13 3 255 0 72 true true 5 6 [1, 2]) = 255 ∧
      (mg_13 (some (List.range 16))).mem < 8 ∧ (mg_13 (some (List.range 16))).mbox = some (List.range 16) ∧ (List.range 16).length = 16 ∧
      w13_11.rd FKL_ROLE = 1 ∧ w13_11.rd FKL_CTRL_VALID = 0 ∧ w13_11.inFrame w13_11.ctrlSc = true) ∧
    (w13_12.wf = true ∧ w13_12.rd FKL_K_PSTATE = fkUp ∧ w13_12.rd FKL_K_PSTATE 1 = fkDown ∧
      w13_12.fk.mgmtSent ≠ some (w13_12.now / frameTicks)) ∧
    (w13_13.wf = true ∧ w13_13.dark = false) ∧
    (w13_14.wf = true ∧ 3 < 8 ∧ bit (w13_14.rd FKL_REACH) 3 = true ∧ w13_14.fk.seen = [] ∧ 4 * frameTicks ≤ w13_14.now ∧
      w13_14.rd FKL_ROLE = 1 ∧ w13_14.rd FKL_CTRL_VALID = 0 ∧ w13_14.inFrame w13_14.ctrlSc = true) :=
  by refine ⟨by refine ⟨?_, takes_cellOf _ _ _ _ _ _ _ _ _ _ _ _ _ _ (by decide +kernel), ?_⟩ <;> decide +kernel, by refine ⟨?_, takes_cellOf _ _ _ _ _ _ _ _ _ _ _ _ _ _ (by decide +kernel), ?_⟩ <;> decide +kernel, by refine ⟨?_, ?_, cellOf_ok .., ?_⟩ <;> decide +kernel, ?_, ?_, ?_⟩ <;> decide +kernel

/-- Hypotheses of StackKeepsLineTime that a state meets, clause by clause. -/
theorem witness_StackKeepsLineTime :
    (w13_15.wf = true ∧ (w13_15.rd FKL_ROLE = 1 ∨ w13_15.rd FKL_ROLE = 2) ∧ w13_15.rd FKL_K_PSTATE = fkDown ∧
      w13_15.rd FKL_K_PSTATE 1 = fkUp ∧ w13_15.now ≤ 1000 * mfTicks + 62 * slotTicks + 5 ∧
      (1000 * mfTicks + 62 * slotTicks + 5) / slotTicks % 125 = 62 ∧
      (1000 * mfTicks + 62 * slotTicks + 5) / frameTicks = w13_15.now / frameTicks ∧ w13_15.fk.ltSent ≠ some (w13_15.now / frameTicks)) ∧
    (w13_16.wf = true ∧ w13_16.takesCell k6_13 1 = true ∧ cHops k6_13 = 0 ∧ cDst k6_13 = 2 ^ w13_16.rd FKL_MEM_ID ∧
      w13_16.rd FKL_MEM_ID < 8 ∧ w13_16.rd FKL_ROLE = 2 ∧ w13_16.rd FKL_MASTER_CONFLICT = 0 ∧ w13_16.twoMasters = false ∧
      w13_16.fk.nbrs = [] ∧ Option.map Prod.fst w13_16.ltSource = some k6_13.port ∧ w13_16.rd LTM_STATE = ltLocked ∧
      w13_16.now ≤ 1000 * mfTicks + 170 + 72768 ∧ 1000 * mfTicks + 170 + 16286 = ofBytesBE (List.take 8 k6_13.payload) ∧
      1000 * mfTicks + 170 = ofBytesBE (List.take 8 (List.drop 8 k6_13.payload)) ∧
      (w13_16.link k6_13.port).sent = some (1000 * mfTicks + 170, 1000 * mfTicks + 170) ∧ (w13_16.link k6_13.port).hist = [] ∧
      32768 = ↑(1000 * mfTicks + 170 + 72768) - ↑(1000 * mfTicks + 170) - ltDiff (cStamp k6_13) (1000 * mfTicks + 170 + 16286) + w13_16.rdS FKL_K_FK_ASYM k6_13.port ∧
      16384 = divRound 32768 2 ∧ 98 = ltDiff (1000 * mfTicks + 170 + 72768) (cStamp k6_13) - 16384 ∧ (-2 ^ 31 : Int) ≤ 16384 ∧
      16384 < 2 ^ 31 ∧ -(usTicks : Int) ≤ 98 ∧ 98 ≤ ↑usTicks) ∧
    (w13_17.wf = true ∧ w13_17.takesCell k7_13 1 = true ∧ cHops k7_13 = 0 ∧ cDst k7_13 = 2 ^ w13_17.rd FKL_MEM_ID ∧
      w13_17.rd FKL_MEM_ID < 8 ∧ w13_17.rd FKL_ROLE = 2 ∧ w13_17.rd FKL_MASTER_CONFLICT = 0 ∧ w13_17.twoMasters = false ∧
      w13_17.fk.nbrs = [] ∧ Option.map Prod.fst w13_17.ltSource = some k7_13.port ∧ w13_17.rd LTM_STATE = ltFree ∧
      w13_17.now ≤ 1000 * mfTicks + 170 ∧ (w13_17.link k7_13.port).sent = none ∧ (w13_17.link k7_13.port).hist = [] ∧
      1000 * mfTicks + 170 < 2 ^ 64) ∧
    (w13_18.wf = true ∧ w13_18.dark = false ∧ w13_18.rd FKL_ROLE = 2 ∧ w13_18.rd FKL_MASTER_LOST = 0 ∧
      w13_18.rd LTM_STATE = ltLocked ∧ w13_18.fk.ltAt + 4 * frameTicks ≤ w13_18.now / frameTicks * frameTicks) ∧
    (msgOf (sr_13 ([2, 2147483653, 2147483654] ++ List.replicate 6 0) 5) = msgOf (sr_13 ([2, 2147483653, 2147483654] ++ List.replicate 6 0) 5) ∧
      w13_19.wf = true ∧ w13_19.takesMessage mStackMap (sr_13 ([2, 2147483653, 2147483654] ++ List.replicate 6 0) 5) = true ∧
      (msgOf (sr_13 ([2, 2147483653, 2147483654] ++ List.replicate 6 0) 5)).eff = false ∧ w13_19.queueOpen = true ∧
      w13_19.mapOk (msgOf (sr_13 ([2, 2147483653, 2147483654] ++ List.replicate 6 0) 5)) = true) ∧
    (msgOf (sr_13 ([2, 2147483653, 2147483654] ++ List.replicate 5 0 ++ [2147483648]) 5) = msgOf (sr_13 ([2, 2147483653, 2147483654] ++ List.replicate 5 0 ++ [2147483648]) 5) ∧
      w13_19.wf = true ∧
      w13_19.takesMessage mStackMap (sr_13 ([2, 2147483653, 2147483654] ++ List.replicate 5 0 ++ [2147483648]) 5) = true ∧
      (msgOf (sr_13 ([2, 2147483653, 2147483654] ++ List.replicate 5 0 ++ [2147483648]) 5)).eff = false ∧ w13_19.queueOpen = true ∧
      w13_19.mapOk (msgOf (sr_13 ([2, 2147483653, 2147483654] ++ List.replicate 5 0 ++ [2147483648]) 5)) = false) :=
  by refine ⟨?_, by refine ⟨?_, takes_cellOf _ _ _ _ _ _ _ _ _ _ _ _ _ _ (by decide +kernel), ?_⟩ <;> decide +kernel, by refine ⟨?_, takes_cellOf _ _ _ _ _ _ _ _ _ _ _ _ _ _ (by decide +kernel), ?_⟩ <;> decide +kernel, ?_, ?_, ?_⟩ <;> decide +kernel

/-! Witnesses: the cipher engine -/

def HR_14 (m : Mode) : State := { S0 with mode := m, pins := { pgood := true, vddAon := true, pwrMainEn := true, resetN := true }, time := { lt := 1000 * mfTicks + 70 } }
def kA_14 : List Nat := List.replicate 16 7
def kB_14 : List Nat := List.range 32
def KS_14 : State := (let s := setL (HR_14 .service) [(PWR_PKG_BUDGET, 20000, 0), (FLT_TJ_WARN, 100, 0)]; { s with cip := { s.cip with keys := [(8, kA_14), (9, kB_14)] } })
def stg_14 (s : State) : State := setL s ((List.range 8).map fun i => (CIP_KEY_STAGE, 0x01020304 + i, i))
def cmdS_14 (c : SlotCmd) (s : State) : State := { s with cip := { s.cip with cmd := some c } }
def kw_14 : State := setL KS_14 [(CIP_WRAP_WORDS, 6, 0), (CIP_WRAP_STAGE, 531008266, 0), (CIP_WRAP_STAGE, 2165486663, 1), (CIP_WRAP_STAGE, 2935180248, 2), (CIP_WRAP_STAGE, 4217011074, 3), (CIP_WRAP_STAGE, 2638120483, 4), (CIP_WRAP_STAGE, 1909641189, 5)]
def kwk_14 : State := { kw_14 with cip := { kw_14.cip with keys := [(8, List.range 16)] } }
def JB_14 : State := setL KS_14 [(CIPU_LEN, 20, 3), (CIPU_KEY1, 8, 3), (CIP_SLOT_MASK_LO, 0x100, 3), (CIPU_DST_LO, 4096, 3)]
def jb_14 (w : Bool) : Job := { slot1 := 8, slot2 := 0, key1 := kA_14, key2 := [], xts := false, dec := false, unit := 0, len := if w then 70000 else 20, tweak := 0, dst := 77, src := List.replicate 20 3, waiting := w, asked := 1000 * mfTicks }
def JJ_14 (w : Bool) : State := { KS_14 with cip := { KS_14.cip with jobs := [(3, jb_14 w)] } }
def w14_1 : State := stg_14 KS_14
def w14_3 : State := cmdS_14 { status := 0, load := some (63, kA_14), wipeKey := true } ((stg_14 KS_14).wr CIP_GO 1)
def w14_4 : State := cmdS_14 { status := 0, load := some (8, kB_14), wipeKey := true } ((stg_14 KS_14).wr CIP_GO 1)
def w14_5 : State := kwk_14
def w14_6 : State := kwk_14.wr CIP_WRAP_STAGE 5 1
def w14_8 : State := cmdS_14 { status := 4, load := none } (KS_14.wr CIP_GO 1)
def w14_9 : State := KS_14.wr CIP_SLOT_STAT 7 8
def w14_10 : State := { (JJ_14 false).wr CIP_SLOT_STAT 7 8 with up := {} }
def w14_11 : State := KS_14.wr CIP_UP_CUR 1
def w14_12 : State := { KS_14 with cip := { KS_14.cip with dnUsed := [(3, 1)] } }
def w14_14 : State := setL KS_14 [(CIP_UP1, 0x80000000, 0), (CIP_UP_SWITCH, 8 * 2 ^ 28 + 9 * 2 ^ 21, 0)]
def w14_15 : State := KS_14
def w14_16 : State := KS_14.wr CIP_MISMATCH_SF 1
def w14_17 : State := JB_14
def w14_18 : State := JB_14.wr CIP_SLOT_MASK_LO 0 3
def w14_19 : State := JB_14.wr CIPU_GO 1 3
def w14_20 : State := (JJ_14 true).wr PWR_PKG_BUDGET 10
def w14_21 : State := JJ_14 true
def w14_22 : State := JJ_14 false
def w14_24 : State := (let s := setL KS_14 [(CAV_C_TOT, 16777216, 0), (CAV_WIN_HANDLE, handleOf 30000 2, 0), (CAV_WIN_OWNER, 5, 0), (CAV_XTS_SLOT0, 8, 0), (CAV_XTS_256, 0, 0)]; { s with cave := { s.cave with own := [(30000, { owner := 5, gen := 2 })] } })

/-- Hypotheses of KeysAndJobsServed that a state meets, clause by clause. -/
theorem witness_KeysAndJobsServed_1 :
    (w14_1.wf = true ∧ 63 < 64 ∧ w14_1.rd CIP_GO = 0) ∧
    (w14_3.wf = true ∧ 63 < 64 ∧ w14_3.cip.cmd = some { status := csOk, load := some (63, kA_14), wipeKey := true : SlotCmd }) ∧
    (w14_4.wf = true ∧ 8 < 64 ∧ w14_4.cip.cmd = some { status := csOk, load := some (8, kB_14), wipeKey := true : SlotCmd }) ∧
    (w14_5.wf = true ∧ 63 < 64 ∧ 8 < 64 ∧ w14_5.rd CIP_GO = 0 ∧ (w14_5.rd CIP_WRAP_WORDS = 6 ∨ w14_5.rd CIP_WRAP_WORDS = 10) ∧
      amGet? w14_5.cip.keys 8 = some (List.range 16)) ∧
    (w14_6.wf = true ∧ 63 < 64 ∧ 8 < 64 ∧ w14_6.rd CIP_GO = 0 ∧ (w14_6.rd CIP_WRAP_WORDS = 6 ∨ w14_6.rd CIP_WRAP_WORDS = 10) ∧
      amGet? w14_6.cip.keys 8 = some (List.range 16)) ∧
    (w14_5.wf = true ∧ 63 < 64 ∧ 10 < 64 ∧ w14_5.rd CIP_GO = 0 ∧ (w14_5.rd CIP_WRAP_WORDS = 6 ∨ w14_5.rd CIP_WRAP_WORDS = 10) ∧
      amGet? w14_5.cip.keys 10 = none) ∧
    (w14_8.wf = true ∧ 4 < 8 ∧ w14_8.cip.cmd = some { status := 4, load := none : SlotCmd }) ∧
    (w14_9.wf = true ∧ 8 < 64 ∧ w14_9.rd CIP_GO = 0 ∧ w14_9.cip.jobs = [] ∧ w14_9.cip.streams = [] ∧ w14_9.up.bursts = []) :=
  by refine ⟨?_, ?_, ?_, ?_, ?_, ?_, ?_, ?_⟩ <;> decide +kernel

/-- Hypotheses of KeysAndJobsServed that a state meets, clause by clause. -/
theorem witness_KeysAndJobsServed_2 :
    (w14_10.wf = true ∧ 8 < 64 ∧ w14_10.rd CIP_GO = 0) ∧
    (w14_11.wf = true ∧ 3 < 4 ∧ (if 3 < 2 then w14_11.cip.dnUsed.any fun x => x.snd == 3 else w14_11.rd CIP_UP_CUR == 3 - 2) = true) ∧
    (w14_12.wf = true ∧ 1 < 4 ∧ (if 1 < 2 then w14_12.cip.dnUsed.any fun x => x.snd == 1 else w14_12.rd CIP_UP_CUR == 1 - 2) = true) ∧
    (w14_11.wf = true ∧ 2 < 4 ∧ (if 2 < 2 then w14_11.cip.dnUsed.any fun x => x.snd == 2 else w14_11.rd CIP_UP_CUR == 2 - 2) = false) ∧
    (w14_14.wf = true ∧ leValid (w14_14.rd (lineKeyFld (3 - w14_14.rd CIP_UP_CUR))) = true ∧
      bits (w14_14.rd CIP_UP_SWITCH) 27 21 ≤ 124 ∧
      (resolveG KS_14.now 0 (8 * sfTicks + 9 * mfTicks)).toNat = (resolveG w14_14.now 0 (bits (w14_14.rd CIP_UP_SWITCH) 31 28 * sfTicks + bits (w14_14.rd CIP_UP_SWITCH) 27 21 * mfTicks)).toNat ∧
      w14_14.now < (resolveG KS_14.now 0 (8 * sfTicks + 9 * mfTicks)).toNat) ∧
    (w14_15.wf = true ∧ leValid (w14_15.rd (lineKeyFld (3 - w14_15.rd CIP_UP_CUR))) = false) ∧
    (w14_16.wf = true ∧ 63 < 64 ∧ w14_16.rd CIP_MISMATCH_SF < 2) ∧
    (w14_17.wf = true ∧ 3 < 16 ∧ w14_17.rd CIPU_GO 3 = 0 ∧ w14_17.rd CIPU_LEN 3 ≤ 65536 ∧
      (JB_14.wr CIPU_GO 1 3).jobOf 3 (List.replicate 20 3) = (w14_17.wr CIPU_GO 1 3).jobOf 3 (List.replicate 20 3) ∧
      (w14_17.wr CIPU_GO 1 3).jobCheck 3 ((JB_14.wr CIPU_GO 1 3).jobOf 3 (List.replicate 20 3)) = none) :=
  by refine ⟨?_, ?_, ?_, ?_, ?_, ?_, ?_, ?_⟩ <;> decide +kernel

/-- Hypotheses of KeysAndJobsServed that a state meets, clause by clause. -/
theorem witness_KeysAndJobsServed_3 :
    (w14_18.wf = true ∧ 3 < 16 ∧ w14_18.rd CIPU_GO 3 = 0 ∧ w14_18.pwr.leaves = [] ∧
      (w14_18.wr CIPU_GO 1 3).jobCheck 3 ((w14_18.wr CIPU_GO 1 3).jobOf 3 []) = some 5) ∧
    (w14_19.wf = true ∧ 3 < 16 ∧ w14_19.rd CIPU_GO 3 = 1) ∧
    (w14_20.wf = true ∧ 3 < 16 ∧ w14_20.cip.jobs = [(3, jb_14 true)] ∧ (jb_14 true).waiting = true ∧ 65536 < (jb_14 true).len ∧
      w14_20.leaveFits 800 = false ∧ w14_20.rd LTM_STATE ≠ ltHoldover ∧ w14_20.now ≤ (jb_14 true).asked + 100 * usTicks) ∧
    (w14_21.wf = true ∧ 3 < 16 ∧ w14_21.cip.jobs = [(3, jb_14 true)] ∧ (jb_14 true).waiting = true ∧ (jb_14 true).xts = false ∧
      amGet? w14_21.cip.keys (jb_14 true).slot1 = some kA_14 ∧ 65536 < (jb_14 true).len ∧ w14_21.leaveFits 800 = true ∧
      w14_21.pwr.faulted = [] ∧ w14_21.rd LTM_STATE ≠ ltHoldover) ∧
    (w14_22.wf = true ∧ 3 < 16 ∧ w14_22.cip.jobs = [(3, jb_14 false)] ∧ (jb_14 false).waiting = false ∧ 0 < (jb_14 false).output.length ∧
      (jb_14 false).output.length < 2 ^ 25 ∧ w14_22.pwr.leaves = []) ∧
    (w14_22.wf = true ∧ 3 < 16 ∧ w14_22.cip.jobs = [(3, jb_14 false)] ∧ (jb_14 false).waiting = false ∧ 31 < (jb_14 false).output.length ∧
      (jb_14 false).output.length < 2 ^ 25) ∧
    (w14_24.wf = true ∧ w14_24.rd CAV_WIN_EXP = 0 ∧ w14_24.openFull = false ∧ handleOf 30000 2 = w14_24.rd CAV_WIN_HANDLE ∧
      hIndex (handleOf 30000 2) < w14_24.rd CAV_C_TOT ∧
      (w14_24.ownOf false (hIndex (handleOf 30000 2))).owner = w14_24.rd CAV_WIN_OWNER ∧
      (w14_24.ownOf false (hIndex (handleOf 30000 2))).gen = hGen (handleOf 30000 2) ∧
      ∀ (b : Nat), (b = if (w14_24.ownOf false (hIndex (handleOf 30000 2))).ksel = 0 then w14_24.rd CAV_XTS_SLOT0 else w14_24.rd CAV_XTS_SLOT1) → Option.map List.length (amGet? w14_24.cip.keys b) ≠ some (if w14_24.rd CAV_XTS_256 = 1 then 32 else 16) ∨ Option.map List.length (amGet? w14_24.cip.keys ((b + 1) % 64)) ≠ some (if w14_24.rd CAV_XTS_256 = 1 then 32 else 16)) :=
  by refine ⟨?_, ?_, ?_, ?_, ?_, ?_, by refine ⟨?_, ?_, ?_, ?_, ?_, ?_, ?_, fun b e => e ▸ by decide +kernel⟩ <;> decide +kernel⟩ <;> decide +kernel

/-! Witnesses: time -/

def HR_15 (m : Mode) : State := { S0 with mode := m, pins := { pgood := true, vddAon := true, pwrMainEn := true, resetN := true }, time := { lt := 1000 * mfTicks + 70 }, rx := { chains := [(0x200, { place := some 100, cur := { bytes := 50000 } })], first := false } }
def H1_15 (m : Mode) : State := setL (HR_15 m) [(LRX_SYM_RATE, 144000, 0), (UPB_TID_VALID, 1, 0), (UPB_TID, 5, 0), (LTM_STATE, 2, 0)]
def B_15 (n mode st : Nat) (b : TimeBase) : State := setL ({ HR_15 .service with tim := { tbs := [(n, b)] } }) [(TIM_TB_MODE, mode, n), (TIM_TB_STATE, st, n), (TIM_TB_STEP_NS, 1000, n), (TIM_TB_LOCK_NS, 100, n), (TIM_TB_SYNC_TO, 3000, n), (TIM_TB_HOLD_MAX, 3, n), (TIM_TB_KI_SHIFT, 2, n)]
def tb1_15 : TimeBase := { base := 7 * 65536000000000 + 65536 * 600000000, at_ := 999 * mfTicks, samples := [200000000, 5], slews := [(1000000, 999 * mfTicks, 10 * mfTicks)] }
def now4_15 (s : State) : State := { s with tim := { s.tim with tbs := (List.range 4).map fun k => (k, { tb1_15 with at_ := 1000 * mfTicks + 70 }) } }
def F_15 (n : Nat) (b : TimeBase) (p2p : Nat) : State := setL (B_15 n 1 2 b) ([(TIM_TB_F_EN, 1, n), (TIM_TB_F_PORT, 3, n), (TIM_TB_F_DOMAIN, 4, n), (TIM_TB_F_P2P, p2p, n), (CLSE_PTPC, 1, 5), (CLSE_PTP_TB, n, 5), (QSH_EQ_EN, 1, 31), (TIM_TEMPLATE, 70, (n - 1) * 128 + 63), (TIM_TEMPLATE, 80, (n - 1) * 128 + 64 + 63)] )
def pm_15 : Ptp := { fup := false, port := 3, domain := 4, master := 99, seq := 17, twoStep := false, sec := 7, ns := 500000000, cf := 77, entry := some 5 }
def ti_15 : Rec := msgRec 13 4 262143 ([0x00001234, 0x5678FFDB, 2 * 2 ^ 30 + 6 * 2 ^ 16 + 0x21 * 256, 0].flatMap (bytesBE 4))
def fb_15 : TimeBase := { tb1_15 with mpd := 65536000, mpdAt := some (990 * mfTicks), at_ := 1000 * mfTicks + 70 }
def off1_15 : Int := (fb_15.base : Int) - ((7 * 65536000000000 + 500000000 * 65536 : Nat) + (77 : Int)) - 65536000
def w15_1 : State := B_15 2 1 2 tb1_15
def w15_4 : State := setL (B_15 3 0 2 tb1_15) [(TIM_TB_SET_S_LO, 9, 3), (TIM_TB_SET_S_HI, 1, 3), (TIM_TB_SET_NS, 999999999, 3)]
def w15_5 : State := setL (B_15 3 0 2 tb1_15) [(TIM_TB_ADJ_NS, 0xFFFFFFF0, 3)]
def w15_6 : State := B_15 3 2 2 tb1_15
def w15_8 : State := now4_15 (B_15 3 2 2 tb1_15)
def w15_9 : State := B_15 1 1 2 { tb1_15 with at_ := 1000 * mfTicks + 70 }
def w15_10 : State := B_15 1 1 1 { tb1_15 with samples := [-6000000, 5], good := 15 }
def w15_11 : State := B_15 2 1 1 { tb1_15 with lastValid := 999 * mfTicks }
def w15_12 : State := B_15 2 1 2 { tb1_15 with lastValid := 999 * mfTicks }
def w15_13 : State := B_15 2 1 3 { tb1_15 with holdSince := 999 * mfTicks }
def w15_14 : State := setL (B_15 2 1 3 { tb1_15 with at_ := 1000 * mfTicks + 70 }) [(TIM_PAIR_EN, 1, 0), (TIM_TB_MODE, 1, 1)]
def w15_15 : State := F_15 2 { fb_15 with slews := [] } 0
def w15_16 : State := F_15 2 fb_15 0
def w15_17 : State := F_15 2 { fb_15 with sync := some { seq := 17, t2 := fb_15.base, cf := 3, at_ := 1000 * mfTicks } } 0
def w15_18 : State := F_15 2 { fb_15 with reqSeq := 65535 } 0
def w15_19 : State := F_15 2 { fb_15 with req := some { seq := 17, t3 := some 1000 }, lastSync := some (5000, 300) } 0
def w15_20 : State := F_15 2 { fb_15 with req := some { seq := 17, t3 := some 1000 } } 1
def w15_21 : State := F_15 2 fb_15 1
def w15_22 : State := setL (H1_15 .service) [(TIM_PO_EN, 1, 1), (TIM_OFS, 1000, 1), (TIM_WIDTH, 500000, 1)]
def w15_23 : State := (let s := setL (H1_15 .service) [(TIM_PO_EN, 1, 1), (TIM_OFS, 1000, 1), (TIM_WIDTH, 500000, 1)]; { s with tim := { s.tim with ppsSec := [(4, [(8, 9)])] } })
def w15_24 : State := setL (H1_15 .service) [(TIM_TOD_EN, 1, 0)]
def w15_25 : State := H1_15 .service
def w15_26 : State := now4_15 (B_15 2 2 2 tb1_15)
def w15_27 : State := (let s := B_15 2 2 2 { tb1_15 with at_ := 1000 * mfTicks + 70 }; { s with tim := { s.tim with ppsAt := some (1000 * mfTicks) } })

/-- Hypotheses of TimeBasesServed that a state meets, clause by clause. -/
theorem witness_TimeBasesServed_1 :
    (w15_1.wf = true ∧ 1 ≤ 2 ∧ 2 < 4 ∧ 3 < 4) ∧
    (0 = 0 ∨ 4 ≤ 3) ∧
    (1 = 0 ∨ 4 ≤ 4) ∧
    (w15_4.wf = true ∧ 1 ≤ 3 ∧ 3 < 4 ∧ w15_4.rd TIM_TB_MODE 3 = tmLocal ∧ ∀ (g : Nat), g < 16 → w15_4.rd GAT_RUNNING g = 0) ∧
    (w15_5.wf = true ∧ 1 ≤ 3 ∧ 3 < 4 ∧ w15_5.rd TIM_TB_MODE 3 = tmLocal ∧ w15_5.rdS TIM_TB_ADJ_NS 3 ≠ 0) ∧
    (w15_6.wf = true ∧ 1 ≤ 3 ∧ 3 < 4 ∧ w15_6.rd TIM_TB_MODE 3 ≠ tmLocal) ∧
    (w15_8.wf = true ∧ w15_8.tim.capAt ≠ some w15_8.now ∧ ∀ (n : Nat), n < 4 → w15_8.tbReading n < 2 ^ 48 * tbSecond) ∧
    (w15_9.wf = true ∧ 1 ≤ 1 ∧ 1 < 4 ∧ w15_9.rd TIM_TB_MODE 1 = tmDomain ∧ w15_9.tim.limited = 0 ∧
      (w15_9.tb 1).samples = [200000000, 5] ∧ w15_9.rd TIM_TB_STEP_NS 1 ≠ 0 ∧
      w15_9.rd TIM_TB_STEP_NS 1 * 65536 < Int.natAbs 200000000 ∧ 0 ≤ ↑(w15_9.tbReading 1) - 200000000 ∧
      (-2 ^ 31 : Int) ≤ 200000000 / 65536 ∧ 200000000 / 65536 < 2 ^ 31 ∧ ∀ (g : Nat), g < 16 → w15_9.rd GAT_RUNNING g = 0) :=
  by refine ⟨?_, ?_, ?_, ?_, ?_, ?_, ?_, ?_⟩ <;> decide +kernel

/-- Hypotheses of TimeBasesServed that a state meets, clause by clause. -/
theorem witness_TimeBasesServed_2 :
    (w15_10.wf = true ∧ 1 ≤ 1 ∧ 1 < 4 ∧ w15_10.rd TIM_TB_MODE 1 ≠ tmLocal ∧ w15_10.tim.limited = 0 ∧
      (w15_10.tb 1).samples = [-6000000, 5] ∧ (-6000000).natAbs ≤ w15_10.rd TIM_TB_STEP_NS 1 * 65536 ∧
      (-6000000).natAbs ≤ w15_10.rd TIM_TB_LOCK_NS 1 * 65536 ∧ w15_10.rd TIM_TB_STATE 1 = tsAcq) ∧
    (w15_11.wf = true ∧ 1 ≤ 2 ∧ 2 < 4 ∧ w15_11.rd TIM_TB_MODE 2 = tmDomain ∧ w15_11.mode ≠ Mode.graze ∧ w15_11.dark = false ∧
      (w15_11.rd TIM_TB_STATE 2 = tsAcq ∨ w15_11.rd TIM_TB_STATE 2 = tsLocked) ∧ w15_11.paired = false ∧
      999 * mfTicks + 3000 * msTicks = (w15_11.tb 2).lastValid + w15_11.rd TIM_TB_SYNC_TO 2 * msTicks ∧
      w15_11.now ≤ 999 * mfTicks + 3000 * msTicks) ∧
    (w15_12.wf = true ∧ 1 ≤ 2 ∧ 2 < 4 ∧ w15_12.rd TIM_TB_MODE 2 = tmDomain ∧ w15_12.mode ≠ Mode.graze ∧ w15_12.dark = false ∧
      (w15_12.rd TIM_TB_STATE 2 = tsAcq ∨ w15_12.rd TIM_TB_STATE 2 = tsLocked) ∧ w15_12.paired = false ∧
      999 * mfTicks + 3000 * msTicks = (w15_12.tb 2).lastValid + w15_12.rd TIM_TB_SYNC_TO 2 * msTicks ∧
      w15_12.now ≤ 999 * mfTicks + 3000 * msTicks) ∧
    (w15_13.wf = true ∧ 1 ≤ 2 ∧ 2 < 4 ∧ w15_13.mode ≠ Mode.graze ∧ w15_13.rd TIM_TB_HOLD_MAX 2 ≠ 0 ∧
      w15_13.rd TIM_TB_STATE 2 = tsHold) ∧
    (w15_14.wf = true ∧ w15_14.rd TIM_PAIR_EN = 1 ∧ w15_14.rd TIM_TB_MODE 1 = tmDomain ∧ w15_14.rd TIM_TB_MODE 2 = tmDomain ∧
      w15_14.rd TIM_ACTIVE = 0) :=
  by refine ⟨?_, ?_, ?_, ?_, ?_⟩ <;> decide +kernel

/-- Hypotheses of FollowersAndPins that a state meets, clause by clause. -/
theorem witness_FollowersAndPins_1 :
    (w15_15.wf = true ∧ w15_15.receives 2 pm_15 = true ∧ pm_15.fup = false ∧ pm_15.twoStep = false ∧
      (w15_15.tb 2).mpdAt = some (990 * mfTicks) ∧ w15_15.now ≤ 990 * mfTicks + 16 * sfTicks ∧ w15_15.paired = false ∧
      off1_15 = ↑(w15_15.tbReading 2) - (↑(pm_15.sec * 65536000000000 + pm_15.ns * 65536) + pm_15.cf) - ((w15_15.tb 2).mpd + w15_15.rdS TIM_TB_F_LINK_ASYM 2 * 65536)) ∧
    (w15_16.wf = true ∧
      w15_16.receives 2 (let __src := pm_15; { fup := __src.fup, port := __src.port, domain := __src.domain, master := __src.master, seq := __src.seq, twoStep := true, sec := __src.sec, ns := __src.ns, cf := __src.cf, entry := __src.entry : Ptp }) = true ∧
      (let __src := pm_15; { fup := __src.fup, port := __src.port, domain := __src.domain, master := __src.master, seq := __src.seq, twoStep := true, sec := __src.sec, ns := __src.ns, cf := __src.cf, entry := __src.entry : Ptp }).fup = false ∧
      (let __src := pm_15; { fup := __src.fup, port := __src.port, domain := __src.domain, master := __src.master, seq := __src.seq, twoStep := true, sec := __src.sec, ns := __src.ns, cf := __src.cf, entry := __src.entry : Ptp }).twoStep = true) ∧
    (w15_17.wf = true ∧
      w15_17.receives 2 (let __src := pm_15; { fup := true, port := __src.port, domain := __src.domain, master := __src.master, seq := __src.seq, twoStep := __src.twoStep, sec := __src.sec, ns := __src.ns, cf := __src.cf, entry := __src.entry : Ptp }) = true ∧
      (let __src := pm_15; { fup := true, port := __src.port, domain := __src.domain, master := __src.master, seq := __src.seq, twoStep := __src.twoStep, sec := __src.sec, ns := __src.ns, cf := __src.cf, entry := __src.entry : Ptp }).fup = true ∧
      (w15_17.tb 2).sync = some { seq := 17, t2 := fb_15.base, cf := 3, at_ := 1000 * mfTicks : SyncWait } ∧
      { seq := 17, t2 := fb_15.base, cf := 3, at_ := 1000 * mfTicks : SyncWait }.seq = (let __src := pm_15; { fup := true, port := __src.port, domain := __src.domain, master := __src.master, seq := __src.seq, twoStep := __src.twoStep, sec := __src.sec, ns := __src.ns, cf := __src.cf, entry := __src.entry : Ptp }).seq ∧
      w15_17.now ≤ { seq := 17, t2 := fb_15.base, cf := 3, at_ := 1000 * mfTicks : SyncWait }.at_ + sfTicks ∧
      (w15_17.tb 2).mpdAt = some (990 * mfTicks) ∧ w15_17.now ≤ 990 * mfTicks + 16 * sfTicks ∧ w15_17.paired = false ∧
      off1_15 - 3 = ↑{ seq := 17, t2 := fb_15.base, cf := 3, at_ := 1000 * mfTicks : SyncWait }.t2 - (↑((let __src := pm_15; { fup := true, port := __src.port, domain := __src.domain, master := __src.master, seq := __src.seq, twoStep := __src.twoStep, sec := __src.sec, ns := __src.ns, cf := __src.cf, entry := __src.entry : Ptp }).sec * 65536000000000 + (let __src := pm_15; { fup := true, port := __src.port, domain := __src.domain, master := __src.master, seq := __src.seq, twoStep := __src.twoStep, sec := __src.sec, ns := __src.ns, cf := __src.cf, entry := __src.entry : Ptp }).ns * 65536) + { seq := 17, t2 := fb_15.base, cf := 3, at_ := 1000 * mfTicks : SyncWait }.cf + (let __src := pm_15; { fup := true, port := __src.port, domain := __src.domain, master := __src.master, seq := __src.seq, twoStep := __src.twoStep, sec := __src.sec, ns := __src.ns, cf := __src.cf, entry := __src.entry : Ptp }).cf) - ((w15_17.tb 2).mpd + w15_17.rdS TIM_TB_F_LINK_ASYM 2 * 65536)) ∧
    (w15_18.wf = true ∧ w15_18.follows 2 = true ∧ (w15_18.tb 2).reqAt = none ∧ w15_18.templateLen 2 0 = some 70 ∧
      31 = w15_18.rd TIM_TB_F_PORT 2 * 8 + w15_18.rd TIM_TB_F_TC 2 ∧ w15_18.rd QSH_EQ_EN 31 = 1 ∧ w15_18.rd QSH_EQ_QMAX 31 = 0 ∧
      w15_18.dbuf + 128 ≤ dbufSize) ∧
    (w15_19.wf = true ∧ w15_19.receives 2 pm_15 = true ∧ w15_19.rd TIM_TB_F_P2P 2 = 0 ∧
      (w15_19.tb 2).req = some { seq := pm_15.seq, t3 := some 1000 : DelayReq } ∧ (w15_19.tb 2).lastSync = some (5000, 300)) ∧
    (w15_20.wf = true ∧ w15_20.receives 2 pm_15 = true ∧ w15_20.rd TIM_TB_F_P2P 2 = 1 ∧ pm_15.fup = false ∧ pm_15.twoStep = false ∧
      (w15_20.tb 2).req = some { seq := pm_15.seq, t3 := some 1000 : DelayReq }) ∧
    (w15_21.wf = true ∧ w15_21.follows 2 = true ∧ w15_21.copied 2 pm_15 = true ∧ w15_21.rd TIM_TB_F_P2P 2 = 1 ∧
      pm_15.port = w15_21.rd TIM_TB_F_PORT 2 ∧ w15_21.templateLen 2 1 = some 80 ∧
      31 = w15_21.rd TIM_TB_F_PORT 2 * 8 + w15_21.rd TIM_TB_F_TC 2 ∧ w15_21.rd QSH_EQ_EN 31 = 1 ∧ w15_21.rd QSH_EQ_QMAX 31 = 0 ∧
      w15_21.dbuf + 128 ≤ dbufSize) ∧
    (w15_22.wf = true ∧ 1 < 2 ∧ w15_22.dark = false ∧ w15_22.rd TIM_PO_EN 1 = 1 ∧ w15_22.qualOk 1 = true ∧
      9 = ceilDiv (↑(w15_22.tbNow (w15_22.rd TIM_PO_TB 1)) + w15_22.rdS TIM_OFS 1).toNat 1000000000 ∧ w15_22.given 1 9 = false) :=
  by refine ⟨?_, ?_, ?_, ?_, ?_, ?_, ?_, ?_⟩ <;> decide +kernel

/-- Hypotheses of FollowersAndPins that a state meets, clause by clause. -/
theorem witness_FollowersAndPins_2 :
    (1 < 2 ∧ 9 = ceilDiv (↑(w15_23.tbNow (w15_23.rd TIM_PO_TB 1)) + w15_23.rdS TIM_OFS 1).toNat 1000000000 ∧ w15_23.given 1 9 = true) ∧
    (w15_24.wf = true ∧ w15_24.dark = false ∧ w15_24.rd TIM_TOD_EN = 1 ∧
      8 = w15_24.tbReading (w15_24.rd TIM_TOD_TB) / 65536000000000 ∧ w15_24.tim.todSec ≠ some (8 * 4 + w15_24.rd TIM_TOD_TB) ∧
      w15_24.tim.todEnd ≤ w15_24.now) ∧
    (msgOf ti_15 = msgOf ti_15 ∧ w15_25.wf = true ∧ w15_25.takesMessage mTimeInfo ti_15 = true ∧ (msgOf ti_15).eff = false) :=
  by refine ⟨?_, ?_, ?_⟩ <;> decide +kernel

/-- Hypotheses of PpsInEdges that a state meets, clause by clause. -/
theorem witness_PpsInEdges :
    (w15_26.wf = true ∧ w15_26.dark = false ∧
      (∀ (a : Nat), w15_26.tim.ppsAt = some a → a + w15_26.rd TIM_PPSIN_MIN * msTicks ≤ w15_26.now) ∧
      ∀ (n : Nat), n < 4 → w15_26.tbReading n < 2 ^ 48 * tbSecond) ∧
    (w15_27.wf = true ∧ w15_27.dark = false ∧ w15_27.tim.ppsAt = some (1000 * mfTicks) ∧
      w15_27.now < 1000 * mfTicks + w15_27.rd TIM_PPSIN_MIN * msTicks) :=
  by refine ⟨?_, ?_⟩ <;> decide +kernel

/-! Witnesses: arithmetic of the engine array -/

def HR_16 (m : Mode) : State := { S0 with mode := m, pins := { pgood := true, vddAon := true, pwrMainEn := true, resetN := true }, time := { lt := 1000 * mfTicks + 70 } }
def un_16 (k : Nat) : VUnit := { g := [(1, 0x8000 + k), (2, 7 * k + 1), (3, 65535), (9, 5), (12, 3)], acc := 0x7FFFFF8000 - 2 ^ 39 * (k % 2), ar := [(0, 0x105), (2, 0x10B), (3, 0xFFF), (4, 0x100), (8, 13)], f := 2 * (k % 8), x := [(0x105, 77 + k)], y := [(0x10B, 99), (0xFFF, 3)], h1 := ([(2, 5)], 2), h2 := ([(9, 5), (14, 5), (12, 0xFFF0)], 2 * (k % 4)) }
def R_16 (w : Nat) : State := setL ({ HR_16 .service with vat := { units := (List.range 16).map fun k => (16 * 5 + k, un_16 k), cls := [(5, { pgm := [(0x1FF, w), (0x100, 0x12345678)], pr := [(0, 0x200), (1, 0x1F0), (2, 17)], cyc := 40, fAt := 39 })] } }) [(VAT_C_CSTATE, 3, 5), (VAT_C_PC, 0x1FF, 5), (VAT_C_UNIT_EN, 0xFFFD, 5)]
def w16_1 : State := R_16 0x4040100
def w16_2 : State := R_16 0xA4043FFD
def w16_3 : State := R_16 0x4143100
def w16_4 : State := R_16 0xA4143FFD
def w16_5 : State := R_16 0x4241080
def w16_6 : State := R_16 0xA4243FFD
def w16_7 : State := R_16 0x4311100
def w16_8 : State := R_16 0xA4343FFD
def w16_9 : State := R_16 0x4441100
def w16_10 : State := R_16 0xA4443FFD
def w16_11 : State := R_16 0x4541100
def w16_12 : State := R_16 0xA4543FFD
def w16_13 : State := R_16 0x4641100
def w16_14 : State := R_16 0xA4643FFD
def w16_15 : State := R_16 0x4741180
def w16_16 : State := R_16 0xA4743FFD
def w16_17 : State := R_16 0x484280F
def w16_18 : State := R_16 0xA4843FFD
def w16_19 : State := R_16 0x4941803
def w16_20 : State := R_16 0xA4943FFD
def w16_21 : State := R_16 0x4A41803
def w16_22 : State := R_16 0xA4A43FFD
def w16_23 : State := R_16 0x4B41100
def w16_24 : State := R_16 0xA4B43FFD
def w16_25 : State := R_16 0x4C41100
def w16_26 : State := R_16 0xA4C43FFD
def w16_27 : State := R_16 0x4D41000
def w16_28 : State := R_16 0xA4D43FFD
def w16_29 : State := R_16 0x4E41000
def w16_30 : State := R_16 0xA4E43FFD
def w16_31 : State := R_16 0x5F40100

/-- Hypotheses of EngineArithmetic that a state meets, clause by clause. -/
theorem witness_EngineArithmetic_1 :
    (w16_1.wf = true ∧ w16_1.issues 5 67371264 = true ∧ isAlu 0 67371264 = true) ∧
    (w16_2.wf = true ∧ w16_2.issues 5 2751741949 = true ∧ isAlu 0 2751741949 = true) ∧
    (w16_3.wf = true ∧ w16_3.issues 5 68432128 = true ∧ isAlu 1 68432128 = true) ∧
    (w16_4.wf = true ∧ w16_4.issues 5 2752790525 = true ∧ isAlu 1 2752790525 = true) ∧
    (w16_5.wf = true ∧ w16_5.issues 5 69472384 = true ∧ isAlu 2 69472384 = true) ∧
    (w16_6.wf = true ∧ w16_6.issues 5 2753839101 = true ∧ isAlu 2 2753839101 = true) ∧
    (w16_7.wf = true ∧ w16_7.issues 5 70324480 = true ∧ isAlu 3 70324480 = true) ∧
    (w16_8.wf = true ∧ w16_8.issues 5 2754887677 = true ∧ isAlu 3 2754887677 = true) :=
  by refine ⟨?_, ?_, ?_, ?_, ?_, ?_, ?_, ?_⟩ <;> decide +kernel

/-- Hypotheses of EngineArithmetic that a state meets, clause by clause. -/
theorem witness_EngineArithmetic_2 :
    (w16_9.wf = true ∧ w16_9.issues 5 71569664 = true ∧ isAlu 4 71569664 = true) ∧
    (w16_10.wf = true ∧ w16_10.issues 5 2755936253 = true ∧ isAlu 4 2755936253 = true) ∧
    (w16_11.wf = true ∧ w16_11.issues 5 72618240 = true ∧ isAlu 5 72618240 = true) ∧
    (w16_12.wf = true ∧ w16_12.issues 5 2756984829 = true ∧ isAlu 5 2756984829 = true) ∧
    (w16_13.wf = true ∧ w16_13.issues 5 73666816 = true ∧ isAlu 6 73666816 = true) ∧
    (w16_14.wf = true ∧ w16_14.issues 5 2758033405 = true ∧ isAlu 6 2758033405 = true) ∧
    (w16_15.wf = true ∧ w16_15.issues 5 74715520 = true ∧ isAlu 7 74715520 = true) ∧
    (w16_16.wf = true ∧ w16_16.issues 5 2759081981 = true ∧ isAlu 7 2759081981 = true) :=
  by refine ⟨?_, ?_, ?_, ?_, ?_, ?_, ?_, ?_⟩ <;> decide +kernel

/-- Hypotheses of EngineArithmetic that a state meets, clause by clause. -/
theorem witness_EngineArithmetic_3 :
    (w16_17.wf = true ∧ w16_17.issues 5 75769871 = true ∧ isAlu 8 75769871 = true) ∧
    (w16_18.wf = true ∧ w16_18.issues 5 2760130557 = true ∧ isAlu 8 2760130557 = true) ∧
    (w16_19.wf = true ∧ w16_19.issues 5 76814339 = true ∧ isAlu 9 76814339 = true) ∧
    (w16_20.wf = true ∧ w16_20.issues 5 2761179133 = true ∧ isAlu 9 2761179133 = true) ∧
    (w16_21.wf = true ∧ w16_21.issues 5 77862915 = true ∧ isAlu 10 77862915 = true) ∧
    (w16_22.wf = true ∧ w16_22.issues 5 2762227709 = true ∧ isAlu 10 2762227709 = true) ∧
    (w16_23.wf = true ∧ w16_23.issues 5 78909696 = true ∧ isAlu 11 78909696 = true) ∧
    (w16_24.wf = true ∧ w16_24.issues 5 2763276285 = true ∧ isAlu 11 2763276285 = true) :=
  by refine ⟨?_, ?_, ?_, ?_, ?_, ?_, ?_, ?_⟩ <;> decide +kernel

/-- Hypotheses of EngineArithmetic that a state meets, clause by clause. -/
theorem witness_EngineArithmetic_4 :
    (w16_25.wf = true ∧ w16_25.issues 5 79958272 = true ∧ isAlu 12 79958272 = true) ∧
    (w16_26.wf = true ∧ w16_26.issues 5 2764324861 = true ∧ isAlu 12 2764324861 = true) ∧
    (w16_27.wf = true ∧ w16_27.issues 5 81006592 = true ∧ isAlu 13 81006592 = true) ∧
    (w16_28.wf = true ∧ w16_28.issues 5 2765373437 = true ∧ isAlu 13 2765373437 = true) ∧
    (w16_29.wf = true ∧ w16_29.issues 5 82055168 = true ∧ isAlu 14 82055168 = true) ∧
    (w16_30.wf = true ∧ w16_30.issues 5 2766422013 = true ∧ isAlu 14 2766422013 = true) ∧
    (w16_31.wf = true ∧ w16_31.issues 5 99877120 = true ∧ vFmt 99877120 = 1 ∧ aluDefined (bits 99877120 25 20) = false ∧
      w16_31.freshRecord 0 cVatProg (5 / 16) = true ∧ w16_31.faultMasked cVatProg 35 = false) :=
  by refine ⟨?_, ?_, ?_, ?_, ?_, ?_, ?_⟩ <;> decide +kernel

/-! Witnesses: predicates -/

def HR_17 (m : Mode) : State := { S0 with mode := m, pins := { pgood := true, vddAon := true, pwrMainEn := true, resetN := true }, time := { lt := 1000 * mfTicks + 70 } }
def un_17 (k : Nat) : VUnit := { g := [(1, 0x8000 + k), (2, 7 * k + 1), (3, 65535), (9, 5), (12, 3)], acc := 0x7FFFFF8000 - 2 ^ 39 * (k % 2), ar := [(0, 0x105), (2, 0x10B), (3, 0xFFF), (4, 0x100), (8, 13)], f := 2 * (k % 8), x := [(0x105, 77 + k)], y := [(0x10B, 99), (0xFFF, 3)], h1 := ([(2, 5)], 2), h2 := ([(9, 5), (14, 5), (12, 0xFFF0)], 2 * (k % 4)) }
def R_17 (w : Nat) : State := setL ({ HR_17 .service with vat := { units := (List.range 16).map fun k => (16 * 5 + k, un_17 k), cls := [(5, { pgm := [(0x1FF, w), (0x100, 0x12345678)], pr := [(0, 0x200), (1, 0x1F0), (2, 17)], cyc := 40, fAt := 39 })] } }) [(VAT_C_CSTATE, 3, 5), (VAT_C_PC, 0x1FF, 5), (VAT_C_UNIT_EN, 0xFFFD, 5)]
def w17_1 : State := R_17 0x5021100
def w17_2 : State := R_17 0x45033FFF
def w17_3 : State := R_17 0x5121100
def w17_4 : State := R_17 0x45133FFF
def w17_5 : State := R_17 0x5221100
def w17_6 : State := R_17 0x45233FFF
def w17_7 : State := R_17 0x5321100
def w17_8 : State := R_17 0x45333FFF
def w17_9 : State := R_17 0x5421100
def w17_10 : State := R_17 0x45433FFF
def w17_11 : State := R_17 0x5521100
def w17_12 : State := R_17 0x45533FFF
def w17_13 : State := R_17 0x5621100
def w17_14 : State := R_17 0x45633FFF
def w17_15 : State := R_17 0x5721100
def w17_16 : State := R_17 0x45733FFF
def w17_17 : State := R_17 0x5821100
def w17_18 : State := R_17 0x5830180
def w17_19 : State := R_17 0x5921100
def w17_20 : State := R_17 0x5930180
def w17_21 : State := R_17 0x5A21100
def w17_22 : State := R_17 0x5A30180
def w17_23 : State := R_17 0x6920803
def w17_24 : State := R_17 0x6910805
def w17_25 : State := R_17 0x6021100
def w17_26 : State := R_17 0x66011080
def w17_27 : State := R_17 0x6121100
def w17_28 : State := R_17 0x66111080
def w17_29 : State := R_17 0x6221100
def w17_30 : State := R_17 0x66211080
def w17_31 : State := R_17 0x632181F
def w17_32 : State := R_17 0x6321820
def w17_33 : State := R_17 0x6721100
def w17_34 : State := R_17 0x66711080
def w17_35 : State := R_17 0x6821100
def w17_36 : State := R_17 0x66811080
def w17_37 : State := R_17 0x6421800
def w17_38 : State := R_17 0x6421801
def w17_39 : State := R_17 0x6421802
def w17_40 : State := R_17 0x6421804
def w17_41 : State := R_17 0x6421805
def w17_42 : State := R_17 0x6421806
def w17_43 : State := R_17 0x6521100
def w17_44 : State := R_17 0x66511080
def w17_45 : State := R_17 0x6621100
def w17_46 : State := R_17 0x66611080
def w17_47 : State := R_17 0x5041100

/-- Hypotheses of EnginePredicatesAndAccumulator that a state meets, clause by clause. -/
theorem witness_EnginePredicatesAndAccumulator_1 :
    (w17_1.wf = true ∧ w17_1.issues 5 84021504 = true ∧ isAlu 16 84021504 = true ∧ bits 84021504 17 16 ≠ 0) ∧
    (w17_2.wf = true ∧ w17_2.issues 5 1157840895 = true ∧ isAlu 16 1157840895 = true ∧ bits 1157840895 17 16 ≠ 0) ∧
    (w17_3.wf = true ∧ w17_3.issues 5 85070080 = true ∧ isAlu 17 85070080 = true ∧ bits 85070080 17 16 ≠ 0) ∧
    (w17_4.wf = true ∧ w17_4.issues 5 1158889471 = true ∧ isAlu 17 1158889471 = true ∧ bits 1158889471 17 16 ≠ 0) ∧
    (w17_5.wf = true ∧ w17_5.issues 5 86118656 = true ∧ isAlu 18 86118656 = true ∧ bits 86118656 17 16 ≠ 0) ∧
    (w17_6.wf = true ∧ w17_6.issues 5 1159938047 = true ∧ isAlu 18 1159938047 = true ∧ bits 1159938047 17 16 ≠ 0) ∧
    (w17_7.wf = true ∧ w17_7.issues 5 87167232 = true ∧ isAlu 19 87167232 = true ∧ bits 87167232 17 16 ≠ 0) ∧
    (w17_8.wf = true ∧ w17_8.issues 5 1160986623 = true ∧ isAlu 19 1160986623 = true ∧ bits 1160986623 17 16 ≠ 0) :=
  by refine ⟨?_, ?_, ?_, ?_, ?_, ?_, ?_, ?_⟩ <;> decide +kernel

/-- Hypotheses of EnginePredicatesAndAccumulator that a state meets, clause by clause. -/
theorem witness_EnginePredicatesAndAccumulator_2 :
    (w17_9.wf = true ∧ w17_9.issues 5 88215808 = true ∧ isAlu 20 88215808 = true ∧ bits 88215808 17 16 ≠ 0) ∧
    (w17_10.wf = true ∧ w17_10.issues 5 1162035199 = true ∧ isAlu 20 1162035199 = true ∧ bits 1162035199 17 16 ≠ 0) ∧
    (w17_11.wf = true ∧ w17_11.issues 5 89264384 = true ∧ isAlu 21 89264384 = true ∧ bits 89264384 17 16 ≠ 0) ∧
    (w17_12.wf = true ∧ w17_12.issues 5 1163083775 = true ∧ isAlu 21 1163083775 = true ∧ bits 1163083775 17 16 ≠ 0) ∧
    (w17_13.wf = true ∧ w17_13.issues 5 90312960 = true ∧ isAlu 22 90312960 = true ∧ bits 90312960 17 16 ≠ 0) ∧
    (w17_14.wf = true ∧ w17_14.issues 5 1164132351 = true ∧ isAlu 22 1164132351 = true ∧ bits 1164132351 17 16 ≠ 0) ∧
    (w17_15.wf = true ∧ w17_15.issues 5 91361536 = true ∧ isAlu 23 91361536 = true ∧ bits 91361536 17 16 ≠ 0) ∧
    (w17_16.wf = true ∧ w17_16.issues 5 1165180927 = true ∧ isAlu 23 1165180927 = true ∧ bits 1165180927 17 16 ≠ 0) :=
  by refine ⟨?_, ?_, ?_, ?_, ?_, ?_, ?_, ?_⟩ <;> decide +kernel

/-- Hypotheses of EnginePredicatesAndAccumulator that a state meets, clause by clause. -/
theorem witness_EnginePredicatesAndAccumulator_3 :
    (w17_17.wf = true ∧ w17_17.issues 5 92410112 = true ∧ isAlu 24 92410112 = true ∧ bits 92410112 17 16 ≠ 0 ∧
      bit 92410112 11 = false) ∧
    (w17_18.wf = true ∧ w17_18.issues 5 92471680 = true ∧ isAlu 24 92471680 = true ∧ bits 92471680 17 16 ≠ 0 ∧
      bit 92471680 11 = false) ∧
    (w17_19.wf = true ∧ w17_19.issues 5 93458688 = true ∧ isAlu 25 93458688 = true ∧ bits 93458688 17 16 ≠ 0 ∧
      bit 93458688 11 = false) ∧
    (w17_20.wf = true ∧ w17_20.issues 5 93520256 = true ∧ isAlu 25 93520256 = true ∧ bits 93520256 17 16 ≠ 0 ∧
      bit 93520256 11 = false) ∧
    (w17_21.wf = true ∧ w17_21.issues 5 94507264 = true ∧ isAlu 26 94507264 = true ∧ bits 94507264 17 16 ≠ 0 ∧
      bit 94507264 11 = false) ∧
    (w17_22.wf = true ∧ w17_22.issues 5 94568832 = true ∧ isAlu 26 94568832 = true ∧ bits 94568832 17 16 ≠ 0 ∧
      bit 94568832 11 = false) ∧
    (w17_23.wf = true ∧ w17_23.issues 5 110233603 = true ∧ isAlu 41 110233603 = true ∧ bits 110233603 17 16 ≠ 0 ∧
      bit 110233603 11 = true ∧ bits 110233603 2 0 < 6) ∧
    (w17_24.wf = true ∧ w17_24.issues 5 110168069 = true ∧ isAlu 41 110168069 = true ∧ bits 110168069 17 16 ≠ 0 ∧
      bit 110168069 11 = true ∧ bits 110168069 2 0 < 6) :=
  by refine ⟨?_, ?_, ?_, ?_, ?_, ?_, ?_, ?_⟩ <;> decide +kernel

/-- Hypotheses of EnginePredicatesAndAccumulator that a state meets, clause by clause. -/
theorem witness_EnginePredicatesAndAccumulator_4 :
    (w17_25.wf = true ∧ w17_25.issues 5 100798720 = true ∧ isAlu 32 100798720 = true) ∧
    (w17_26.wf = true ∧ w17_26.issues 5 1711345792 = true ∧ isAlu 32 1711345792 = true) ∧
    (w17_27.wf = true ∧ w17_27.issues 5 101847296 = true ∧ isAlu 33 101847296 = true) ∧
    (w17_28.wf = true ∧ w17_28.issues 5 1712394368 = true ∧ isAlu 33 1712394368 = true) ∧
    (w17_29.wf = true ∧ w17_29.issues 5 102895872 = true ∧ isAlu 34 102895872 = true) ∧
    (w17_30.wf = true ∧ w17_30.issues 5 1713442944 = true ∧ isAlu 34 1713442944 = true) ∧
    (w17_31.wf = true ∧ w17_31.issues 5 103946271 = true ∧ isAlu 35 103946271 = true) ∧
    (w17_32.wf = true ∧ w17_32.issues 5 103946272 = true ∧ isAlu 35 103946272 = true) :=
  by refine ⟨?_, ?_, ?_, ?_, ?_, ?_, ?_, ?_⟩ <;> decide +kernel

/-- Hypotheses of EnginePredicatesAndAccumulator that a state meets, clause by clause. -/
theorem witness_EnginePredicatesAndAccumulator_5 :
    (w17_33.wf = true ∧ w17_33.issues 5 108138752 = true ∧ isAlu 39 108138752 = true) ∧
    (w17_34.wf = true ∧ w17_34.issues 5 1718685824 = true ∧ isAlu 39 1718685824 = true) ∧
    (w17_35.wf = true ∧ w17_35.issues 5 109187328 = true ∧ isAlu 40 109187328 = true) ∧
    (w17_36.wf = true ∧ w17_36.issues 5 1719734400 = true ∧ isAlu 40 1719734400 = true) ∧
    (w17_37.wf = true ∧ w17_37.issues 5 104994816 = true ∧ isAlu 36 104994816 = true ∧ bit 104994816 11 = true ∧
      bits 104994816 1 0 ≠ 3 ∧ bit 104994816 2 = false) ∧
    (w17_38.wf = true ∧ w17_38.issues 5 104994817 = true ∧ isAlu 36 104994817 = true ∧ bit 104994817 11 = true ∧
      bits 104994817 1 0 ≠ 3 ∧ bit 104994817 2 = false) ∧
    (w17_39.wf = true ∧ w17_39.issues 5 104994818 = true ∧ isAlu 36 104994818 = true ∧ bit 104994818 11 = true ∧
      bits 104994818 1 0 ≠ 3 ∧ bit 104994818 2 = false) ∧
    (w17_40.wf = true ∧ w17_40.issues 5 104994820 = true ∧ isAlu 36 104994820 = true ∧ bit 104994820 11 = true ∧
      bits 104994820 1 0 ≠ 3 ∧ bit 104994820 2 = true) :=
  by refine ⟨?_, ?_, ?_, ?_, ?_, ?_, ?_, ?_⟩ <;> decide +kernel

/-- Hypotheses of EnginePredicatesAndAccumulator that a state meets, clause by clause. -/
theorem witness_EnginePredicatesAndAccumulator_6 :
    (w17_41.wf = true ∧ w17_41.issues 5 104994821 = true ∧ isAlu 36 104994821 = true ∧ bit 104994821 11 = true ∧
      bits 104994821 1 0 ≠ 3 ∧ bit 104994821 2 = true) ∧
    (w17_42.wf = true ∧ w17_42.issues 5 104994822 = true ∧ isAlu 36 104994822 = true ∧ bit 104994822 11 = true ∧
      bits 104994822 1 0 ≠ 3 ∧ bit 104994822 2 = true) ∧
    (w17_43.wf = true ∧ w17_43.issues 5 106041600 = true ∧ isAlu 37 106041600 = true) ∧
    (w17_44.wf = true ∧ w17_44.issues 5 1716588672 = true ∧ isAlu 37 1716588672 = true) ∧
    (w17_45.wf = true ∧ w17_45.issues 5 107090176 = true ∧ isAlu 38 107090176 = true) ∧
    (w17_46.wf = true ∧ w17_46.issues 5 1717637248 = true ∧ isAlu 38 1717637248 = true) ∧
    (w17_47.wf = true ∧ w17_47.issues 5 84152576 = true ∧ isAlu 16 84152576 = true ∧ bits 84152576 17 16 = 0 ∧
      w17_47.freshRecord 0 cVatProg (5 / 16) = true ∧ w17_47.faultMasked cVatProg 35 = false) :=
  by refine ⟨?_, ?_, ?_, ?_, ?_, ?_, ?_⟩ <;> decide +kernel

/-! Witnesses: moves -/

def HR_18 (m : Mode) : State := { S0 with mode := m, pins := { pgood := true, vddAon := true, pwrMainEn := true, resetN := true }, time := { lt := 1000 * mfTicks + 70 } }
def un_18 (k : Nat) : VUnit := { g := [(1, 0x8000 + k), (2, 7 * k + 1), (3, 65535), (9, 5), (12, 3)], acc := 0x7FFFFF8000 - 2 ^ 39 * (k % 2), ar := [(0, 0x105), (2, 0x10B), (3, 0xFFF), (4, 0x100), (8, 13)], f := 2 * (k % 8), x := [(0x105, 77 + k)], y := [(0x10B, 99), (0xFFF, 3)], h1 := ([(2, 5)], 2), h2 := ([(9, 5), (14, 5), (12, 0xFFF0)], 2 * (k % 4)) }
def R_18 (w : Nat) : State := setL ({ HR_18 .service with vat := { units := (List.range 16).map fun k => (16 * 5 + k, un_18 k), cls := [(5, { pgm := [(0x1FF, w), (0x100, 0x12345678)], pr := [(0, 0x200), (1, 0x1F0), (2, 17)], cyc := 40, fAt := 39 })] } }) [(VAT_C_CSTATE, 3, 5), (VAT_C_PC, 0x1FF, 5), (VAT_C_UNIT_EN, 0xFFFD, 5)]
def w18_1 : State := R_18 0x82000
def w18_2 : State := R_18 0x8A000
def w18_3 : State := R_18 0x92000
def w18_4 : State := R_18 0x9A000
def w18_5 : State := R_18 0x600AA000
def w18_6 : State := R_18 0xC8C10
def w18_7 : State := R_18 0xC8C50
def w18_8 : State := R_18 0xC8CD0
def w18_9 : State := R_18 0x1600804
def w18_10 : State := R_18 0x1E00804
def w18_11 : State := R_18 0x2600804
def w18_12 : State := R_18 0x2E00804
def w18_13 : State := R_18 0x3600808
def w18_14 : State := R_18 0x3E00808
def w18_15 : State := R_18 0x208A494
def w18_16 : State := R_18 0x208A594
def w18_17 : State := (let s := R_18 0x1500800; s.mapVcl 5 fun x => { x with pr := [(0, 512), (1, 0x1F0), (2, 17)] })
def w18_18 : State := (let s := R_18 0x1500800; s.mapVcl 5 fun x => { x with pr := [(0, 513), (1, 0x1F0), (2, 17)] })
def w18_19 : State := R_18 0x2200000
def w18_20 : State := R_18 0x9820009
def w18_21 : State := R_18 0x98A0009
def w18_22 : State := R_18 0x9920009
def w18_23 : State := R_18 0x99A0009
def w18_24 : State := R_18 0x9A20009
def w18_25 : State := R_18 0x82A0105
def w18_26 : State := R_18 0xB808009
def w18_27 : State := R_18 0xB888009
def w18_28 : State := R_18 0xB908009
def w18_29 : State := R_18 0xB988009
def w18_30 : State := R_18 0xBA08009
def w18_31 : State := R_18 0xA288F05
def w18_32 : State := R_18 0xC408001
def w18_33 : State := R_18 0x4C408001
def w18_34 : State := R_18 0xE80FFFF
def w18_35 : State := R_18 0x4EB00003
def w18_36 : State := R_18 0xEC0FEDC
def w18_37 : State := R_18 0x4EC00013
def w18_38 : State := R_18 0xED0FEDC
def w18_39 : State := R_18 0x4ED00013
def w18_40 : State := R_18 0xEE0FEDC
def w18_41 : State := R_18 0x4EE00013
def w18_42 : State := R_18 0xEF0FEDC
def w18_43 : State := R_18 0x4EF00013
def w18_44 : State := R_18 0xF00FFFF
def w18_45 : State := R_18 0xF203FFF
def w18_46 : State := R_18 0x10810000
def w18_47 : State := R_18 0x50B30000
def w18_48 : State := R_18 0x10C10000
def w18_49 : State := R_18 0x50C30000
def w18_50 : State := R_18 0x10D10000
def w18_51 : State := R_18 0x50D30000
def w18_52 : State := R_18 0x10E10000
def w18_53 : State := R_18 0x50E30000
def w18_54 : State := R_18 0x10F10000
def w18_55 : State := R_18 0x50F30000
def w18_56 : State := R_18 0x11010000
def w18_57 : State := R_18 0x11220000
def w18_58 : State := R_18 0x12010000
def w18_59 : State := R_18 0x52830000
def w18_60 : State := R_18 0x12C40000
def w18_61 : State := R_18 0x12D40000
def w18_62 : State := R_18 0x12E40000
def w18_63 : State := R_18 0x12F40000
def w18_64 : State := R_18 0x13040000
def w18_65 : State := R_18 0x13240000
def w18_66 : State := R_18 0x13340000
def w18_67 : State := R_18 0x13440000
def w18_68 : State := S0

/-- Hypotheses of EngineMovesAndProducts that a state meets, clause by clause. -/
theorem witness_EngineMovesAndProducts_1 :
    (w18_1.wf = true ∧ w18_1.issues 5 532480 = true ∧ isDual 0 532480 = true ∧ bit 532480 19 = true ∧ bit 532480 18 = false ∧
      bit 532480 10 = false) ∧
    (w18_2.wf = true ∧ w18_2.issues 5 565248 = true ∧ isDual 0 565248 = true ∧ bit 565248 19 = true ∧ bit 565248 18 = false ∧
      bit 565248 10 = false) ∧
    (w18_3.wf = true ∧ w18_3.issues 5 598016 = true ∧ isDual 0 598016 = true ∧ bit 598016 19 = true ∧ bit 598016 18 = false ∧
      bit 598016 10 = false) ∧
    (w18_4.wf = true ∧ w18_4.issues 5 630784 = true ∧ isDual 0 630784 = true ∧ bit 630784 19 = true ∧ bit 630784 18 = false ∧
      bit 630784 10 = false) ∧
    (w18_5.wf = true ∧ w18_5.issues 5 1611309056 = true ∧ isDual 0 1611309056 = true ∧ bit 1611309056 19 = true ∧
      bit 1611309056 18 = false ∧ bit 1611309056 10 = false) ∧
    (w18_6.wf = true ∧ w18_6.issues 5 822288 = true ∧ isDual 0 822288 = true ∧ bit 822288 19 = true ∧ bit 822288 18 = true ∧
      bit 822288 10 = true ∧ bit 822288 9 = false) ∧
    (w18_7.wf = true ∧ w18_7.issues 5 822352 = true ∧ isDual 0 822352 = true ∧ bit 822352 19 = true ∧ bit 822352 18 = true ∧
      bit 822352 10 = true ∧ bit 822352 9 = false) ∧
    (w18_8.wf = true ∧ w18_8.issues 5 822480 = true ∧ isDual 0 822480 = true ∧ bit 822480 19 = true ∧ bit 822480 18 = true ∧
      bit 822480 10 = true ∧ bit 822480 9 = false) :=
  by refine ⟨?_, ?_, ?_, ?_, ?_, ?_, ?_, ?_⟩ <;> decide +kernel

/-- Hypotheses of EngineMovesAndProducts that a state meets, clause by clause. -/
theorem witness_EngineMovesAndProducts_2 :
    (w18_9.wf = true ∧ w18_9.issues 5 23070724 = true ∧ isDual 1 23070724 = true ∧ bit 23070724 22 = true ∧
      bits 23070724 21 20 = 2 ∧ bit 23070724 19 = false ∧ bit 23070724 10 = false) ∧
    (w18_10.wf = true ∧ w18_10.issues 5 31459332 = true ∧ isDual 1 31459332 = true ∧ bit 31459332 22 = true ∧
      bits 31459332 21 20 = 2 ∧ bit 31459332 19 = false ∧ bit 31459332 10 = false) ∧
    (w18_11.wf = true ∧ w18_11.issues 5 39847940 = true ∧ isDual 2 39847940 = true ∧ bit 39847940 22 = true ∧
      bits 39847940 21 20 = 2 ∧ bit 39847940 19 = false ∧ bit 39847940 10 = false) ∧
    (w18_12.wf = true ∧ w18_12.issues 5 48236548 = true ∧ isDual 2 48236548 = true ∧ bit 48236548 22 = true ∧
      bits 48236548 21 20 = 2 ∧ bit 48236548 19 = false ∧ bit 48236548 10 = false) ∧
    (w18_13.wf = true ∧ w18_13.issues 5 56625160 = true ∧ isDual 3 56625160 = true ∧ bit 56625160 22 = true ∧
      bits 56625160 21 20 = 2 ∧ bit 56625160 19 = false ∧ bit 56625160 10 = false) ∧
    (w18_14.wf = true ∧ w18_14.issues 5 65013768 = true ∧ isDual 3 65013768 = true ∧ bit 65013768 22 = true ∧
      bits 65013768 21 20 = 2 ∧ bit 65013768 19 = false ∧ bit 65013768 10 = false) ∧
    (w18_15.wf = true ∧ w18_15.issues 5 34120852 = true ∧ isDual 2 34120852 = true ∧ bit 34120852 22 = false ∧
      bits 34120852 21 20 = 0 ∧ bit 34120852 19 = true ∧ bit 34120852 18 = false ∧ bit 34120852 10 = true ∧ bit 34120852 9 = false) ∧
    (w18_16.wf = true ∧ w18_16.issues 5 34121108 = true ∧ isDual 2 34121108 = true ∧ bit 34121108 22 = false ∧
      bits 34121108 21 20 = 0 ∧ bit 34121108 19 = true ∧ bit 34121108 18 = false ∧ bit 34121108 10 = true ∧ bit 34121108 9 = false) :=
  by refine ⟨?_, ?_, ?_, ?_, ?_, ?_, ?_, ?_⟩ <;> decide +kernel

/-- Hypotheses of EngineMovesAndProducts that a state meets, clause by clause. -/
theorem witness_EngineMovesAndProducts_3 :
    (w18_17.wf = true ∧ w18_17.issues 5 22022144 = true ∧ isDual 1 22022144 = true ∧ bit 22022144 22 = true ∧
      bits 22022144 21 20 = 1 ∧ bit 22022144 19 = false ∧ bit 22022144 10 = false ∧ (w18_17.vcl 5).cache = none ∧
      512 = smGet (w18_17.vcl 5).pr 0) ∧
    (w18_18.wf = true ∧ w18_18.issues 5 22022144 = true ∧ isDual 1 22022144 = true ∧ bit 22022144 22 = true ∧
      bits 22022144 21 20 = 1 ∧ bit 22022144 19 = false ∧ bit 22022144 10 = false ∧ (w18_18.vcl 5).cache = none ∧
      513 = smGet (w18_18.vcl 5).pr 0) ∧
    (w18_19.wf = true ∧ w18_19.issues 5 35651584 = true ∧ isDual 2 35651584 = true ∧ bit 35651584 22 = false ∧
      bit 35651584 19 = false ∧ w18_19.freshRecord 0 cVatProg (5 / 16) = true ∧ w18_19.faultMasked cVatProg 35 = false) ∧
    (w18_20.wf = true ∧ w18_20.issues 5 159514633 = true ∧ vFmt 159514633 = 2 ∧ bit 159514633 25 = false ∧ bits 159514633 21 19 < 6) ∧
    (w18_21.wf = true ∧ w18_21.issues 5 160038921 = true ∧ vFmt 160038921 = 2 ∧ bit 160038921 25 = false ∧ bits 160038921 21 19 < 6) ∧
    (w18_22.wf = true ∧ w18_22.issues 5 160563209 = true ∧ vFmt 160563209 = 2 ∧ bit 160563209 25 = false ∧ bits 160563209 21 19 < 6) ∧
    (w18_23.wf = true ∧ w18_23.issues 5 161087497 = true ∧ vFmt 161087497 = 2 ∧ bit 161087497 25 = false ∧ bits 161087497 21 19 < 6) ∧
    (w18_24.wf = true ∧ w18_24.issues 5 161611785 = true ∧ vFmt 161611785 = 2 ∧ bit 161611785 25 = false ∧ bits 161611785 21 19 < 6) :=
  by refine ⟨?_, ?_, ?_, ?_, ?_, ?_, ?_, ?_⟩ <;> decide +kernel

/-- Hypotheses of EngineMovesAndProducts that a state meets, clause by clause. -/
theorem witness_EngineMovesAndProducts_4 :
    (w18_25.wf = true ∧ w18_25.issues 5 136970501 = true ∧ vFmt 136970501 = 2 ∧ bit 136970501 25 = false ∧ bits 136970501 21 19 < 6) ∧
    (w18_26.wf = true ∧ w18_26.issues 5 192970761 = true ∧ vFmt 192970761 = 2 ∧ bit 192970761 25 = true ∧ bits 192970761 21 19 < 6) ∧
    (w18_27.wf = true ∧ w18_27.issues 5 193495049 = true ∧ vFmt 193495049 = 2 ∧ bit 193495049 25 = true ∧ bits 193495049 21 19 < 6) ∧
    (w18_28.wf = true ∧ w18_28.issues 5 194019337 = true ∧ vFmt 194019337 = 2 ∧ bit 194019337 25 = true ∧ bits 194019337 21 19 < 6) ∧
    (w18_29.wf = true ∧ w18_29.issues 5 194543625 = true ∧ vFmt 194543625 = 2 ∧ bit 194543625 25 = true ∧ bits 194543625 21 19 < 6) ∧
    (w18_30.wf = true ∧ w18_30.issues 5 195067913 = true ∧ vFmt 195067913 = 2 ∧ bit 195067913 25 = true ∧ bits 195067913 21 19 < 6) ∧
    (w18_31.wf = true ∧ w18_31.issues 5 170430213 = true ∧ vFmt 170430213 = 2 ∧ bit 170430213 25 = true ∧ bits 170430213 21 19 < 6) ∧
    (w18_32.wf = true ∧ w18_32.issues 5 205553665 = true ∧ vFmt 205553665 = 3 ∧ bit 205553665 25 = false) :=
  by refine ⟨?_, ?_, ?_, ?_, ?_, ?_, ?_, ?_⟩ <;> decide +kernel

/-- Hypotheses of EngineMovesAndProducts that a state meets, clause by clause. -/
theorem witness_EngineMovesAndProducts_5 :
    (w18_33.wf = true ∧ w18_33.issues 5 1279295489 = true ∧ vFmt 1279295489 = 3 ∧ bit 1279295489 25 = false) ∧
    (w18_34.wf = true ∧ w18_34.issues 5 243335167 = true ∧ vFmt 243335167 = 3 ∧ bit 243335167 25 = true ∧ bits 243335167 24 20 < 12) ∧
    (w18_35.wf = true ∧ w18_35.issues 5 1320157187 = true ∧ vFmt 1320157187 = 3 ∧ bit 1320157187 25 = true ∧
      bits 1320157187 24 20 < 12) ∧
    (w18_36.wf = true ∧ w18_36.issues 5 247529180 = true ∧ vFmt 247529180 = 3 ∧ bit 247529180 25 = true ∧ bits 247529180 24 20 = 12) ∧
    (w18_37.wf = true ∧ w18_37.issues 5 1321205779 = true ∧ vFmt 1321205779 = 3 ∧ bit 1321205779 25 = true ∧
      bits 1321205779 24 20 = 12) ∧
    (w18_38.wf = true ∧ w18_38.issues 5 248577756 = true ∧ vFmt 248577756 = 3 ∧ bit 248577756 25 = true ∧ bits 248577756 24 20 = 13) ∧
    (w18_39.wf = true ∧ w18_39.issues 5 1322254355 = true ∧ vFmt 1322254355 = 3 ∧ bit 1322254355 25 = true ∧
      bits 1322254355 24 20 = 13) ∧
    (w18_40.wf = true ∧ w18_40.issues 5 249626332 = true ∧ vFmt 249626332 = 3 ∧ bit 249626332 25 = true ∧ bits 249626332 24 20 = 14) :=
  by refine ⟨?_, ?_, ?_, ?_, ?_, ?_, ?_, ?_⟩ <;> decide +kernel

/-- Hypotheses of EngineMovesAndProducts that a state meets, clause by clause. -/
theorem witness_EngineMovesAndProducts_6 :
    (w18_41.wf = true ∧ w18_41.issues 5 1323302931 = true ∧ vFmt 1323302931 = 3 ∧ bit 1323302931 25 = true ∧
      bits 1323302931 24 20 = 14) ∧
    (w18_42.wf = true ∧ w18_42.issues 5 250674908 = true ∧ vFmt 250674908 = 3 ∧ bit 250674908 25 = true ∧ bits 250674908 24 20 = 15) ∧
    (w18_43.wf = true ∧ w18_43.issues 5 1324351507 = true ∧ vFmt 1324351507 = 3 ∧ bit 1324351507 25 = true ∧
      bits 1324351507 24 20 = 15) ∧
    (w18_44.wf = true ∧ w18_44.issues 5 251723775 = true ∧ vFmt 251723775 = 3 ∧ bit 251723775 25 = true ∧ bits 251723775 31 29 = 0 ∧
      16 ≤ bits 251723775 24 20 ∧ bits 251723775 24 20 ≤ 18) ∧
    (w18_45.wf = true ∧ w18_45.issues 5 253771775 = true ∧ vFmt 253771775 = 3 ∧ bit 253771775 25 = true ∧ bits 253771775 31 29 = 0 ∧
      16 ≤ bits 253771775 24 20 ∧ bits 253771775 24 20 ≤ 18) ∧
    (w18_46.wf = true ∧ w18_46.issues 5 276889600 = true ∧ vFmt 276889600 = 4 ∧ bit 276889600 25 = false ∧ bits 276889600 24 20 < 12) ∧
    (w18_47.wf = true ∧ w18_47.issues 5 1353908224 = true ∧ vFmt 1353908224 = 4 ∧ bit 1353908224 25 = false ∧
      bits 1353908224 24 20 < 12) ∧
    (w18_48.wf = true ∧ w18_48.issues 5 281083904 = true ∧ vFmt 281083904 = 4 ∧ bit 281083904 25 = false ∧ bits 281083904 24 20 = 12) :=
  by refine ⟨?_, ?_, ?_, ?_, ?_, ?_, ?_, ?_⟩ <;> decide +kernel

/-- Hypotheses of EngineMovesAndProducts that a state meets, clause by clause. -/
theorem witness_EngineMovesAndProducts_7 :
    (w18_49.wf = true ∧ w18_49.issues 5 1354956800 = true ∧ vFmt 1354956800 = 4 ∧ bit 1354956800 25 = false ∧
      bits 1354956800 24 20 = 12) ∧
    (w18_50.wf = true ∧ w18_50.issues 5 282132480 = true ∧ vFmt 282132480 = 4 ∧ bit 282132480 25 = false ∧ bits 282132480 24 20 = 13) ∧
    (w18_51.wf = true ∧ w18_51.issues 5 1356005376 = true ∧ vFmt 1356005376 = 4 ∧ bit 1356005376 25 = false ∧
      bits 1356005376 24 20 = 13) ∧
    (w18_52.wf = true ∧ w18_52.issues 5 283181056 = true ∧ vFmt 283181056 = 4 ∧ bit 283181056 25 = false ∧ bits 283181056 24 20 = 14) ∧
    (w18_53.wf = true ∧ w18_53.issues 5 1357053952 = true ∧ vFmt 1357053952 = 4 ∧ bit 1357053952 25 = false ∧
      bits 1357053952 24 20 = 14) ∧
    (w18_54.wf = true ∧ w18_54.issues 5 284229632 = true ∧ vFmt 284229632 = 4 ∧ bit 284229632 25 = false ∧ bits 284229632 24 20 = 15) ∧
    (w18_55.wf = true ∧ w18_55.issues 5 1358102528 = true ∧ vFmt 1358102528 = 4 ∧ bit 1358102528 25 = false ∧
      bits 1358102528 24 20 = 15) ∧
    (w18_56.wf = true ∧ w18_56.issues 5 285278208 = true ∧ vFmt 285278208 = 4 ∧ bit 285278208 25 = false ∧
      bits 285278208 31 29 = 0 ∧ 16 ≤ bits 285278208 24 20 ∧ bits 285278208 24 20 ≤ 18 ∧ 0 < 16 ∧
      bit (w18_56.rd VAT_C_UNIT_EN 5) 0 = true ∧ ∀ (k : Nat), k < 0 → bit (w18_56.rd VAT_C_UNIT_EN 5) k = false) :=
  by refine ⟨?_, ?_, ?_, ?_, ?_, ?_, ?_, ?_⟩ <;> decide +kernel

/-- Hypotheses of EngineMovesAndProducts that a state meets, clause by clause. -/
theorem witness_EngineMovesAndProducts_8 :
    (w18_57.wf = true ∧ w18_57.issues 5 287440896 = true ∧ vFmt 287440896 = 4 ∧ bit 287440896 25 = false ∧
      bits 287440896 31 29 = 0 ∧ 16 ≤ bits 287440896 24 20 ∧ bits 287440896 24 20 ≤ 18 ∧ 0 < 16 ∧
      bit (w18_57.rd VAT_C_UNIT_EN 5) 0 = true ∧ ∀ (k : Nat), k < 0 → bit (w18_57.rd VAT_C_UNIT_EN 5) k = false) ∧
    (w18_58.wf = true ∧ w18_58.issues 5 302055424 = true ∧ vFmt 302055424 = 4 ∧ bit 302055424 25 = true ∧ bits 302055424 24 20 < 12) ∧
    (w18_59.wf = true ∧ w18_59.issues 5 1384316928 = true ∧ vFmt 1384316928 = 4 ∧ bit 1384316928 25 = true ∧
      bits 1384316928 24 20 < 12) ∧
    (w18_60.wf = true ∧ w18_60.issues 5 314834944 = true ∧ vFmt 314834944 = 4 ∧ bit 314834944 25 = true ∧ bits 314834944 24 20 = 12) ∧
    (w18_61.wf = true ∧ w18_61.issues 5 315883520 = true ∧ vFmt 315883520 = 4 ∧ bit 315883520 25 = true ∧ bits 315883520 24 20 = 13) ∧
    (w18_62.wf = true ∧ w18_62.issues 5 316932096 = true ∧ vFmt 316932096 = 4 ∧ bit 316932096 25 = true ∧ bits 316932096 24 20 = 14) ∧
    (w18_63.wf = true ∧ w18_63.issues 5 317980672 = true ∧ vFmt 317980672 = 4 ∧ bit 317980672 25 = true ∧ bits 317980672 24 20 = 15) ∧
    (w18_64.wf = true ∧ w18_64.issues 5 319029248 = true ∧ vFmt 319029248 = 4 ∧ bit 319029248 25 = true ∧
      16 ≤ bits 319029248 24 20 ∧ bits 319029248 24 20 ≤ 18) :=
  by refine ⟨?_, ?_, ?_, ?_, ?_, ?_, ?_, ?_⟩ <;> decide +kernel

/-- Hypotheses of EngineMovesAndProducts that a state meets, clause by clause. -/
theorem witness_EngineMovesAndProducts_9 :
    (w18_65.wf = true ∧ w18_65.issues 5 321126400 = true ∧ vFmt 321126400 = 4 ∧ bit 321126400 25 = true ∧
      16 ≤ bits 321126400 24 20 ∧ bits 321126400 24 20 ≤ 18) ∧
    (w18_66.wf = true ∧ w18_66.issues 5 322174976 = true ∧ vFmt 322174976 = 4 ∧ bit 322174976 25 = true ∧
      (bits 322174976 24 20 = 19 ∨ bits 322174976 24 20 = 20)) ∧
    (w18_67.wf = true ∧ w18_67.issues 5 323223552 = true ∧ vFmt 323223552 = 4 ∧ bit 323223552 25 = true ∧
      (bits 323223552 24 20 = 19 ∨ bits 323223552 24 20 = 20)) ∧
    (0 < 4096) :=
  by refine ⟨?_, ?_, ?_, ?_⟩ <;> decide +kernel

/-! Witnesses: flow -/

def HR_19 (m : Mode) : State := { S0 with mode := m, pins := { pgood := true, vddAon := true, pwrMainEn := true, resetN := true }, time := { lt := 1000 * mfTicks + 70 } }
def un_19 (k : Nat) : VUnit := { g := [(1, 0x8000 + k), (2, 7 * k + 1), (3, 65535), (9, 5), (12, 3)], acc := 0x7FFFFF8000 - 2 ^ 39 * (k % 2), ar := [(0, 0x105), (2, 0x10B), (3, 0xFFF), (4, 0x100), (8, 13)], f := 2 * (k % 8), x := [(0x105, 77 + k)], y := [(0x10B, 99), (0xFFF, 3)], h1 := ([(2, 5)], 2), h2 := ([(9, 5), (14, 5), (12, 0xFFF0)], 2 * (k % 4)) }
def R_19 (w : Nat) : State := setL ({ HR_19 .service with vat := { units := (List.range 16).map fun k => (16 * 5 + k, un_19 k), cls := [(5, { pgm := [(0x1FF, w), (0x100, 0x12345678)], pr := [(0, 0x200), (1, 0x1F0), (2, 17)], cyc := 40, fAt := 39 })] } }) [(VAT_C_CSTATE, 3, 5), (VAT_C_PC, 0x1FF, 5), (VAT_C_UNIT_EN, 0xFFFD, 5)]
def w19_1 : State := R_19 0x18000000
def w19_2 : State := (let s := R_19 0x18000000; s.mapVcl 5 fun x => { x with loops := [{ start := 500, last := 511, count := 2, cap := false }] })
def w19_3 : State := (let s := R_19 0x18000000; s.mapVcl 5 fun x => { x with loops := [{ start := 500, last := 511, count := 1, cap := false }] })
def w19_4 : State := (let s := R_19 0x18000000; s.mapVu 5 4 fun x => { x with st := [(true, 0xFEF, 77)] })
def w19_5 : State := (let s := R_19 0x18400000; s.mapVcl 5 fun x => { x with irq := true, loops := [{ start := 500, last := 511, count := 1, cap := false }] })
def w19_6 : State := (let s := R_19 0x18801FFF; s.mapVcl 5 fun x => { x with fAt := 0 })
def w19_7 : State := (let s := R_19 0x18C00015; s.mapVcl 5 fun x => { x with fAt := 0 })
def w19_8 : State := (let s := R_19 0x19000015; s.mapVcl 5 fun x => { x with fAt := 0 })
def w19_9 : State := ((let s := R_19 0x18C00015; s.mapVcl 5 fun x => { x with fAt := 0 }).wr VAT_C_UNIT_EN 0x20 5)
def w19_10 : State := ((let s := R_19 0x19000015; s.mapVcl 5 fun x => { x with fAt := 0 }).wr VAT_C_UNIT_EN 0x20 5)
def w19_11 : State := (let s := R_19 0x18D00015; s.mapVcl 5 fun x => { x with fAt := 0 })
def w19_12 : State := (let s := R_19 0x19100015; s.mapVcl 5 fun x => { x with fAt := 0 })
def w19_13 : State := ((let s := R_19 0x18D00015; s.mapVcl 5 fun x => { x with fAt := 0 }).wr VAT_C_UNIT_EN 0x20 5)
def w19_14 : State := ((let s := R_19 0x19100015; s.mapVcl 5 fun x => { x with fAt := 0 }).wr VAT_C_UNIT_EN 0x20 5)
def w19_15 : State := (let s := R_19 0x18E00015; s.mapVcl 5 fun x => { x with fAt := 0 })
def w19_16 : State := (let s := R_19 0x19200015; s.mapVcl 5 fun x => { x with fAt := 0 })
def w19_17 : State := ((let s := R_19 0x18E00015; s.mapVcl 5 fun x => { x with fAt := 0 }).wr VAT_C_UNIT_EN 0x20 5)
def w19_18 : State := ((let s := R_19 0x19200015; s.mapVcl 5 fun x => { x with fAt := 0 }).wr VAT_C_UNIT_EN 0x20 5)
def w19_19 : State := (let s := R_19 0x18F00015; s.mapVcl 5 fun x => { x with fAt := 0 })
def w19_20 : State := (let s := R_19 0x19300015; s.mapVcl 5 fun x => { x with fAt := 0 })
def w19_21 : State := ((let s := R_19 0x18F00015; s.mapVcl 5 fun x => { x with fAt := 0 }).wr VAT_C_UNIT_EN 0x20 5)
def w19_22 : State := ((let s := R_19 0x19300015; s.mapVcl 5 fun x => { x with fAt := 0 }).wr VAT_C_UNIT_EN 0x20 5)
def w19_23 : State := R_19 0x14000C20
def w19_24 : State := R_19 0x17FFFC21
def w19_25 : State := R_19 0x14000021
def w19_26 : State := R_19 0x19490020
def w19_27 : State := R_19 0x19480020
def w19_28 : State := (let s := R_19 0x19800000; s.mapVcl 5 fun x => { x with loops := [{ start := 500, last := 517, count := 3, cap := false }, { start := 400, last := 518, count := 2, cap := false }] })
def w19_29 : State := (let s := R_19 0x19800000; s.mapVcl 5 fun x => { x with loops := [{ start := 500, last := 517, count := 3, cap := false }, { start := 400, last := 517, count := 2, cap := false }] })
def w19_30 : State := R_19 0x19800000
def w19_31 : State := R_19 0x1C000000
def w19_32 : State := R_19 0x38000000
def w19_33 : State := R_19 0x14000C00
def w19_34 : State := (let s := R_19 0x14000C04; s.mapVcl 5 fun x => { x with loops := [{ start := 500, last := 517, count := 3, cap := false }, { start := 500, last := 517, count := 3, cap := false }, { start := 500, last := 517, count := 3, cap := false }, { start := 500, last := 517, count := 3, cap := false }] })
def w19_35 : State := (let s := R_19 0x188001F4; s.mapVcl 5 fun x => { x with loops := [{ start := 500, last := 511, count := 3, cap := false }] })
def w19_36 : State := (let s := R_19 0x188001F3; s.mapVcl 5 fun x => { x with loops := [{ start := 500, last := 517, count := 3, cap := false }] })

/-- Hypotheses of EngineFlow that a state meets, clause by clause. -/
theorem witness_EngineFlow_1 :
    (w19_1.wf = true ∧ w19_1.issues 5 402653184 = true ∧ isFlow 0 402653184 = true ∧ bits 402653184 31 29 = 0) ∧
    (w19_2.wf = true ∧ w19_2.runsWord 5 402653184 = true ∧ isFlow 0 402653184 = true ∧ bits 402653184 31 29 = 0 ∧
      (w19_2.vcl 5).loops = [{ start := 500, last := 511, count := 2, cap := false : VLoop }] ∧
      { start := 500, last := 511, count := 2, cap := false : VLoop }.last = w19_2.rd VAT_C_PC 5 ∧
      1 < { start := 500, last := 511, count := 2, cap := false : VLoop }.count ∧
      { start := 500, last := 511, count := 2, cap := false : VLoop }.start ≤ 8191) ∧
    (w19_3.wf = true ∧ w19_3.runsWord 5 402653184 = true ∧ isFlow 0 402653184 = true ∧ bits 402653184 31 29 = 0 ∧
      (w19_3.vcl 5).loops = [{ start := 500, last := 511, count := 1, cap := false : VLoop }] ∧
      { start := 500, last := 511, count := 1, cap := false : VLoop }.last = w19_3.rd VAT_C_PC 5 ∧
      { start := 500, last := 511, count := 1, cap := false : VLoop }.count ≤ 1) ∧
    (w19_4.wf = true ∧ 4 < 16 ∧ 4079 < 4080 ∧
      (w19_4.mapVu 5 4 fun x => { g := x.g, acc := x.acc, ar := x.ar, f := x.f, sv := x.sv, as_ := x.as_, x := x.x, y := x.y, h1 := x.h1, h2 := x.h2, pend := x.pend, staged := x.staged : VUnit }).issues 5 402653184 = true ∧
      (w19_4.vu 5 4).st = [(true, 4079, 77)] ∧ bit (w19_4.rd VAT_C_UNIT_EN 5) 4 = true ∧ isFlow 0 402653184 = true ∧
      bits 402653184 31 29 = 0) ∧
    (w19_5.wf = true ∧ w19_5.runsWord 5 406847488 = true ∧ isFlow 1 406847488 = true ∧ bits 406847488 31 29 = 0 ∧
      w19_5.pwr.leaves = [] ∧ (w19_5.vcl 5).cyc + 1 < 2 ^ 32) ∧
    (w19_6.wf = true ∧ w19_6.issues 5 411049983 = true ∧ isFlow 2 411049983 = true ∧ bits 411049983 31 29 = 0 ∧ (w19_6.vcl 5).fAt = 0) ∧
    (w19_7.wf = true ∧ w19_7.issues 5 415236117 = true ∧ isFlow 3 415236117 = true ∧ bits 415236117 31 29 = 0 ∧ (w19_7.vcl 5).fAt = 0) ∧
    (w19_8.wf = true ∧ w19_8.issues 5 419430421 = true ∧ isFlow 4 419430421 = true ∧ bits 419430421 31 29 = 0 ∧ (w19_8.vcl 5).fAt = 0) :=
  by refine ⟨?_, ?_, ?_, ?_, ?_, ?_, ?_, ?_⟩ <;> decide +kernel

/-- Hypotheses of EngineFlow that a state meets, clause by clause. -/
theorem witness_EngineFlow_2 :
    (w19_9.wf = true ∧ w19_9.issues 5 415236117 = true ∧ isFlow 3 415236117 = true ∧ bits 415236117 31 29 = 0 ∧ (w19_9.vcl 5).fAt = 0) ∧
    (w19_10.wf = true ∧ w19_10.issues 5 419430421 = true ∧ isFlow 4 419430421 = true ∧ bits 419430421 31 29 = 0 ∧
      (w19_10.vcl 5).fAt = 0) ∧
    (w19_11.wf = true ∧ w19_11.issues 5 416284693 = true ∧ isFlow 3 416284693 = true ∧ bits 416284693 31 29 = 0 ∧
      (w19_11.vcl 5).fAt = 0) ∧
    (w19_12.wf = true ∧ w19_12.issues 5 420478997 = true ∧ isFlow 4 420478997 = true ∧ bits 420478997 31 29 = 0 ∧
      (w19_12.vcl 5).fAt = 0) ∧
    (w19_13.wf = true ∧ w19_13.issues 5 416284693 = true ∧ isFlow 3 416284693 = true ∧ bits 416284693 31 29 = 0 ∧
      (w19_13.vcl 5).fAt = 0) ∧
    (w19_14.wf = true ∧ w19_14.issues 5 420478997 = true ∧ isFlow 4 420478997 = true ∧ bits 420478997 31 29 = 0 ∧
      (w19_14.vcl 5).fAt = 0) ∧
    (w19_15.wf = true ∧ w19_15.issues 5 417333269 = true ∧ isFlow 3 417333269 = true ∧ bits 417333269 31 29 = 0 ∧
      (w19_15.vcl 5).fAt = 0) ∧
    (w19_16.wf = true ∧ w19_16.issues 5 421527573 = true ∧ isFlow 4 421527573 = true ∧ bits 421527573 31 29 = 0 ∧
      (w19_16.vcl 5).fAt = 0) :=
  by refine ⟨?_, ?_, ?_, ?_, ?_, ?_, ?_, ?_⟩ <;> decide +kernel

/-- Hypotheses of EngineFlow that a state meets, clause by clause. -/
theorem witness_EngineFlow_3 :
    (w19_17.wf = true ∧ w19_17.issues 5 417333269 = true ∧ isFlow 3 417333269 = true ∧ bits 417333269 31 29 = 0 ∧
      (w19_17.vcl 5).fAt = 0) ∧
    (w19_18.wf = true ∧ w19_18.issues 5 421527573 = true ∧ isFlow 4 421527573 = true ∧ bits 421527573 31 29 = 0 ∧
      (w19_18.vcl 5).fAt = 0) ∧
    (w19_19.wf = true ∧ w19_19.issues 5 418381845 = true ∧ isFlow 3 418381845 = true ∧ bits 418381845 31 29 = 0 ∧
      (w19_19.vcl 5).fAt = 0) ∧
    (w19_20.wf = true ∧ w19_20.issues 5 422576149 = true ∧ isFlow 4 422576149 = true ∧ bits 422576149 31 29 = 0 ∧
      (w19_20.vcl 5).fAt = 0) ∧
    (w19_21.wf = true ∧ w19_21.issues 5 418381845 = true ∧ isFlow 3 418381845 = true ∧ bits 418381845 31 29 = 0 ∧
      (w19_21.vcl 5).fAt = 0) ∧
    (w19_22.wf = true ∧ w19_22.issues 5 422576149 = true ∧ isFlow 4 422576149 = true ∧ bits 422576149 31 29 = 0 ∧
      (w19_22.vcl 5).fAt = 0) ∧
    (w19_23.wf = true ∧ w19_23.issues 5 335547424 = true ∧ vFmt 335547424 = 5 ∧ bits 335547424 31 29 = 0 ∧
      (w19_23.vcl 5).cache = none ∧ 1 ≤ bits 335547424 9 0 ∧ w19_23.rd VAT_C_PC 5 + bits 335547424 9 0 ≤ 8191 ∧
      bits 335547424 25 10 ≠ 0) ∧
    (w19_24.wf = true ∧ w19_24.issues 5 402652193 = true ∧ vFmt 402652193 = 5 ∧ bits 402652193 31 29 = 0 ∧
      (w19_24.vcl 5).cache = none ∧ 1 ≤ bits 402652193 9 0 ∧ w19_24.rd VAT_C_PC 5 + bits 402652193 9 0 ≤ 8191 ∧
      bits 402652193 25 10 ≠ 0) :=
  by refine ⟨?_, ?_, ?_, ?_, ?_, ?_, ?_, ?_⟩ <;> decide +kernel

/-- Hypotheses of EngineFlow that a state meets, clause by clause. -/
theorem witness_EngineFlow_4 :
    (w19_25.wf = true ∧ w19_25.issues 5 335544353 = true ∧ vFmt 335544353 = 5 ∧ bits 335544353 31 29 = 0 ∧ 1 ≤ bits 335544353 9 0 ∧
      w19_25.rd VAT_C_PC 5 + bits 335544353 9 0 < 8191 ∧ bits 335544353 25 10 = 0) ∧
    (w19_26.wf = true ∧ w19_26.issues 5 424214560 = true ∧ isFlow 5 424214560 = true ∧ 0 < 16 ∧
      bit (w19_26.rd VAT_C_UNIT_EN 5) 0 = true ∧ (∀ (k : Nat), k < 0 → bit (w19_26.rd VAT_C_UNIT_EN 5) k = false) ∧
      bits 424214560 31 29 = 0 ∧ (w19_26.vcl 5).cache = none ∧ 1 ≤ bits 424214560 9 0 ∧
      w19_26.rd VAT_C_PC 5 + bits 424214560 9 0 ≤ 8191 ∧ smGet (w19_26.vu 5 0).h2.fst (bits 424214560 19 16) % 2 ^ 16 ≠ 0) ∧
    (w19_27.wf = true ∧ w19_27.issues 5 424149024 = true ∧ isFlow 5 424149024 = true ∧ 0 < 16 ∧
      bit (w19_27.rd VAT_C_UNIT_EN 5) 0 = true ∧ (∀ (k : Nat), k < 0 → bit (w19_27.rd VAT_C_UNIT_EN 5) k = false) ∧
      bits 424149024 31 29 = 0 ∧ 1 ≤ bits 424149024 9 0 ∧ w19_27.rd VAT_C_PC 5 + bits 424149024 9 0 < 8191 ∧
      smGet (w19_27.vu 5 0).h2.fst (bits 424149024 19 16) % 2 ^ 16 = 0) ∧
    (w19_28.wf = true ∧ w19_28.runsWord 5 427819008 = true ∧ isFlow 6 427819008 = true ∧ bits 427819008 31 29 = 0 ∧
      (w19_28.vcl 5).loops = [{ start := 500, last := 517, count := 3, cap := false : VLoop }, { start := 400, last := 518, count := 2, cap := false : VLoop }] ∧
      { start := 400, last := 518, count := 2, cap := false : VLoop }.last ≠ { start := 500, last := 517, count := 3, cap := false : VLoop }.last ∧
      { start := 500, last := 517, count := 3, cap := false : VLoop }.last < 8191) ∧
    (w19_29.wf = true ∧ w19_29.runsWord 5 427819008 = true ∧ isFlow 6 427819008 = true ∧ bits 427819008 31 29 = 0 ∧
      (w19_29.vcl 5).loops = [{ start := 500, last := 517, count := 3, cap := false : VLoop }, { start := 400, last := 517, count := 2, cap := false : VLoop }] ∧
      { start := 400, last := 517, count := 2, cap := false : VLoop }.last = { start := 500, last := 517, count := 3, cap := false : VLoop }.last ∧
      1 < { start := 400, last := 517, count := 2, cap := false : VLoop }.count ∧
      { start := 400, last := 517, count := 2, cap := false : VLoop }.start ≤ 8191) ∧
    (w19_30.wf = true ∧ w19_30.issues 5 427819008 = true ∧ isFlow 6 427819008 = true ∧
      w19_30.freshRecord 0 cVatProg (5 / 16) = true ∧ w19_30.faultMasked cVatProg 35 = false) ∧
    (w19_31.wf = true ∧ w19_31.issues 5 469762048 = true ∧ vFmt 469762048 = 7 ∧ w19_31.freshRecord 0 cVatProg (5 / 16) = true ∧
      w19_31.faultMasked cVatProg 35 = false) ∧
    (w19_32.wf = true ∧ w19_32.issues 5 939524096 = true ∧ isFlow 0 939524096 = true ∧ bits 939524096 31 29 ≠ 0 ∧
      w19_32.freshRecord 0 cVatProg (5 / 16) = true ∧ w19_32.faultMasked cVatProg 35 = false) :=
  by refine ⟨?_, ?_, ?_, ?_, ?_, ?_, ?_, ?_⟩ <;> decide +kernel

/-- Hypotheses of EngineFlow that a state meets, clause by clause. -/
theorem witness_EngineFlow_5 :
    (w19_33.wf = true ∧ w19_33.issues 5 335547392 = true ∧ vFmt 335547392 = 5 ∧ bits 335547392 31 29 = 0 ∧ bits 335547392 9 0 = 0 ∧
      w19_33.freshRecord 0 cVatProg (5 / 16) = true ∧ w19_33.faultMasked cVatProg 35 = false) ∧
    (w19_34.wf = true ∧ w19_34.runsWord 5 335547396 = true ∧ vFmt 335547396 = 5 ∧ bits 335547396 31 29 = 0 ∧
      bits 335547396 9 0 ≠ 0 ∧ bits 335547396 25 10 ≠ 0 ∧ w19_34.rd VAT_C_PC 5 + bits 335547396 9 0 ≤ 8191 ∧
      (w19_34.vcl 5).loops.length = 4 ∧ ((w19_34.vcl 5).loops.all fun l => l.last != w19_34.rd VAT_C_PC 5) = true ∧
      w19_34.freshRecord 0 cVatProg (5 / 16) = true ∧ w19_34.faultMasked cVatProg 35 = false) ∧
    (w19_35.wf = true ∧ w19_35.runsWord 5 411042292 = true ∧ isFlow 2 411042292 = true ∧ bits 411042292 31 29 = 0 ∧
      ((w19_35.vcl 5).loops.any fun l => l.last == w19_35.rd VAT_C_PC 5) = true ∧ w19_35.freshRecord 0 cVatProg (5 / 16) = true ∧
      w19_35.faultMasked cVatProg 35 = false) ∧
    (w19_36.wf = true ∧ w19_36.runsWord 5 411042291 = true ∧ isFlow 2 411042291 = true ∧ bits 411042291 31 29 = 0 ∧
      ((w19_36.vcl 5).loops.all fun l => l.last != w19_36.rd VAT_C_PC 5 && decide (bits 411042291 12 0 < l.start)) = true ∧
      (w19_36.vcl 5).loops ≠ [] ∧ w19_36.freshRecord 0 cVatProg (5 / 16) = true ∧ w19_36.faultMasked cVatProg 35 = false) :=
  by refine ⟨?_, ?_, ?_, ?_⟩ <;> decide +kernel

/-! Witnesses: kernels -/

def HR_20 (m : Mode) : State := { S0 with mode := m, pins := { pgood := true, vddAon := true, pwrMainEn := true, resetN := true }, time := { lt := 1000 * mfTicks + 70 } }
def un_20 (k : Nat) : VUnit := { g := [(1, 0x8000 + k), (2, 7 * k + 1), (3, 65535), (9, 5), (12, 3)], acc := 0x7FFFFF8000 - 2 ^ 39 * (k % 2), ar := [(0, 0x105), (2, 0x10B), (3, 0xFFF), (4, 0x100), (8, 13)], f := 2 * (k % 8), x := [(0x105, 77 + k)], y := [(0x10B, 99), (0xFFF, 3)], h1 := ([(2, 5)], 2), h2 := ([(9, 5), (14, 5), (12, 0xFFF0)], 2 * (k % 4)) }
def R_20 (w : Nat) : State := setL ({ HR_20 .service with vat := { units := (List.range 16).map fun k => (16 * 5 + k, un_20 k), cls := [(5, { pgm := [(0x1FF, w), (0x100, 0x12345678)], pr := [(0, 0x200), (1, 0x1F0), (2, 17)], cyc := 40, fAt := 39 })] } }) [(VAT_C_CSTATE, 3, 5), (VAT_C_PC, 0x1FF, 5), (VAT_C_UNIT_EN, 0xFFFD, 5)]
def G_20 (st pc bud : Nat) : State := setL (R_20 0) [(VAT_C_CSTATE, st, 5), (VAT_C_HOST_KSLOT, 9, 5), (VAT_K_VALID, 1, 9), (VAT_K_PCLASS, pc, 9), (VAT_K_ENTRY, 0x1234, 9), (VAT_K_KARG, 0xBEEF, 9), (VAT_K_IRQ, 1, 9), (VAT_K_MAXRUN, 77, 9), (PWR_PKG_BUDGET, bud, 0), (FLT_TJ_WARN, 100, 0)]
def ks_20 (pc : Nat) : VStart := { kslot := 9, entry := 0x1234, pclass := pc, irq := true, maxrun := 0, arg := 0xABCD, target := 1000 * mfTicks + 5000 }
def vv_20 (f : Vat → Vat) (s : State) : State := { s with vat := f s.vat }
def cap1_20 : VCap := { frame := 63999, valid := true, blocks := (List.range 16).map fun u => (List.range 64).map fun i => i * 7 + u }
def w20_1 : State := G_20 1 0 20000
def w20_2 : State := (G_20 1 0 20000).wr VAT_K_VALID 0 9
def w20_3 : State := G_20 3 0 20000
def w20_4 : State := G_20 1 2 10
def w20_5 : State := (G_20 2 2 20000).mapVcl 5 fun x => { x with wait := some (ks_20 3, 1000 * mfTicks + 90) }
def w20_6 : State := vv_20 (fun v => { v with starts := [(5, ks_20 0)] }) (G_20 1 0 20000)
def w20_7 : State := vv_20 (fun v => { v with starts := [(5, ks_20 3)] }) (G_20 1 0 20000)
def w20_8 : State := { vv_20 (fun v => { v with starts := [(5, ks_20 3)] }) (G_20 1 0 20000) with pwr := { leaves := [⟨lcVat, 30, 0, vatNext 5⟩] } }
def w20_9 : State := setL (G_20 1 3 20000) [(LTM_LE_ARMED, 1, 3), (LTM_LE_ACTION, 1, 3), (LTM_LE_ARG, 9, 3), (VAT_K_CMASK0, 0x20, 9), (LTM_LE_TARGET_LO, (1000 * mfTicks + 100 * usTicks + 500) % 2 ^ 32, 3), (LTM_LE_TARGET_HI, (1000 * mfTicks + 100 * usTicks + 500) / 2 ^ 32, 3)]
def w20_10 : State := G_20 4 0 20000
def w20_12 : State := (G_20 3 0 20000).mapVcl 5 fun x => { x with maxrun := 2, cyc := 512 }
def w20_17 : State := G_20 2 0 20000
def w20_20 : State := setL (G_20 3 0 20000) [(VAT_C_TI_EN, 1, 22), (VAT_C_TI_TSRC, 1, 22), (VAT_C_TI_SIDE, 1, 22)]
def w20_21 : State := vv_20 (fun v => { v with caps := [(22, cap1_20)] }) (setL (G_20 3 0 20000) [(VAT_C_TI_EN, 1, 22), (VAT_C_TI_TSRC, 1, 22), (VAT_C_TI_DST, 500, 22)])

/-- Hypotheses of KernelsLaunchedAndStopped that a state meets, clause by clause. -/
theorem witness_KernelsLaunchedAndStopped_1 :
    (w20_1.wf = true ∧ 5 < 128 ∧ 9 = w20_1.rd VAT_C_HOST_KSLOT 5 ∧ w20_1.rd VAT_K_VALID 9 = 1 ∧ w20_1.rd VAT_C_CSTATE 5 = csIdle ∧
      w20_1.regionKeeps (5 / 16) = false ∧ w20_1.rd VAT_K_PCLASS 9 ≤ w20_1.rd VAT_C_STD_CLASS 5) ∧
    (w20_2.wf = true ∧ 5 < 128 ∧ w20_2.rd VAT_K_VALID (w20_2.rd VAT_C_HOST_KSLOT 5) = 0) ∧
    (w20_3.wf = true ∧ 5 < 128 ∧ w20_3.rd VAT_K_VALID (w20_3.rd VAT_C_HOST_KSLOT 5) = 1 ∧
      (w20_3.rd VAT_C_CSTATE 5 ≠ csIdle ∨ w20_3.regionKeeps (5 / 16) = true)) ∧
    (w20_4.wf = true ∧ 5 < 128 ∧ 9 = w20_4.rd VAT_C_HOST_KSLOT 5 ∧ w20_4.rd VAT_K_VALID 9 = 1 ∧ w20_4.rd VAT_C_CSTATE 5 = csIdle ∧
      w20_4.regionKeeps (5 / 16) = false ∧ w20_4.rd VAT_C_STD_CLASS 5 < w20_4.rd VAT_K_PCLASS 9 ∧ w20_4.rd VAT_K_PCLASS 9 < 4 ∧
      w20_4.leaveFits (15 * (w20_4.rd VAT_K_PCLASS 9 - w20_4.rd VAT_C_STD_CLASS 5)) = false) ∧
    (w20_5.wf = true ∧ 5 < 128 ∧ (w20_5.vcl 5).wait = some (ks_20 3, 1000 * mfTicks + 90) ∧ w20_5.rd VAT_C_CSTATE 5 = csWait ∧
      w20_5.now ≤ 1000 * mfTicks + 90 ∧ w20_5.rd VAT_C_STD_CLASS 5 < (ks_20 3).pclass ∧ (ks_20 3).pclass < 4 ∧
      w20_5.rd LTM_STATE ≠ ltHoldover ∧ (ks_20 3).entry < 8192 ∧
      w20_5.leaveFits (15 * ((ks_20 3).pclass - w20_5.rd VAT_C_STD_CLASS 5)) = true ∧ w20_5.pwr.faulted = []) ∧
    (w20_6.wf = true ∧ 5 < 128 ∧ w20_6.vat.starts = [(5, ks_20 0)] ∧ w20_6.rd VAT_C_CSTATE 5 = csIdle ∧
      w20_6.regionKeeps (5 / 16) = false ∧ (ks_20 0).pclass ≤ w20_6.rd VAT_C_STD_CLASS 5 ∧ (ks_20 0).entry < 8192) ∧
    (w20_7.wf = true ∧ 5 < 128 ∧ w20_7.vat.starts = [(5, ks_20 3)] ∧ w20_7.rd VAT_C_CSTATE 5 = csIdle ∧
      w20_7.regionKeeps (5 / 16) = false ∧ w20_7.rd VAT_C_STD_CLASS 5 < (ks_20 3).pclass ∧ (ks_20 3).pclass < 4 ∧
      w20_7.hasLeave lcVat (5 / 16) (vatNext 5) = false) ∧
    (w20_8.wf = true ∧ 5 < 128 ∧ w20_8.vat.starts = [(5, ks_20 3)] ∧ w20_8.rd VAT_C_CSTATE 5 = csIdle ∧
      w20_8.regionKeeps (5 / 16) = false ∧ w20_8.rd VAT_C_STD_CLASS 5 < (ks_20 3).pclass ∧ (ks_20 3).pclass < 4 ∧ (ks_20 3).entry < 8192 ∧
      w20_8.hasLeave lcVat (5 / 16) (vatNext 5) = true) :=
  by refine ⟨?_, ?_, ?_, ?_, ?_, ?_, ?_, ?_⟩ <;> decide +kernel

/-- Hypotheses of KernelsLaunchedAndStopped that a state meets, clause by clause. -/
theorem witness_KernelsLaunchedAndStopped_2 :
    (w20_9.wf = true ∧ 3 < 256 ∧ 5 < 128 ∧ w20_9.rd LTM_LE_ARMED 3 = 1 ∧ w20_9.rd LTM_LE_ACTION 3 = 1 ∧
      9 = w20_9.rd LTM_LE_ARG 3 % 64 ∧ w20_9.rd VAT_K_VALID 9 = 1 ∧ (w20_9.kernelMask 9).contains 5 = true ∧
      1000 * mfTicks + 100 * usTicks + 500 = ltNear w20_9.now (w20_9.rd64 LTM_LE_TARGET_LO LTM_LE_TARGET_HI 3) ∧
      w20_9.now + 100 * usTicks ≤ 1000 * mfTicks + 100 * usTicks + 500 ∧ w20_9.rd VAT_C_CSTATE 5 ≠ csOff ∧
      w20_9.hasLeave lcVat (5 / 16) (vatNext 5) = false ∧ w20_9.rd VAT_C_STD_CLASS 5 < w20_9.rd VAT_K_PCLASS 9 ∧
      w20_9.rd VAT_K_PCLASS 9 < 4 ∧ w20_9.pwr.faulted = [] ∧ w20_9.rd LTM_STATE ≠ ltHoldover ∧
      w20_9.leaveFits (15 * (w20_9.rd VAT_K_PCLASS 9 - w20_9.rd VAT_C_STD_CLASS 5)) = true) ∧
    (w20_10.wf = true ∧ 5 < 128 ∧ (w20_10.rd VAT_C_CSTATE 5 = csFault ∨ w20_10.rd VAT_C_CSTATE 5 = csWait) ∧
      w20_10.pwr.leaves = [] ∧ amGet? w20_10.vat.starts 5 = none) ∧
    (w20_3.wf = true ∧ w20_3.runsWord 5 0 = true ∧ w20_3.pwr.leaves = [] ∧ amGet? w20_3.vat.starts 5 = none ∧
      (w20_3.vcl 5).cyc < 2 ^ 32) ∧
    (w20_12.wf = true ∧ 5 < 128 ∧ w20_12.rd VAT_C_CSTATE 5 = csRun ∧ (w20_12.vcl 5).maxrun ≠ 0 ∧
      (w20_12.vcl 5).cyc = (w20_12.vcl 5).maxrun * 256 ∧ (w20_12.vcl 5).maxrun < 65536 ∧
      (∀ (u : Nat), u < 16 → (w20_12.vu 5 u).st = []) ∧ w20_12.pwr.leaves = []) ∧
    (w20_1.wf = true ∧ 5 < 128 ∧ 8191 < 8192 ∧ (w20_1.rd VAT_C_CSTATE 5 = csIdle ∨ w20_1.rd VAT_C_CSTATE 5 = csFault)) ∧
    (w20_10.wf = true ∧ 5 < 128 ∧ 256 < 8192 ∧ (w20_10.rd VAT_C_CSTATE 5 = csIdle ∨ w20_10.rd VAT_C_CSTATE 5 = csFault)) ∧
    (w20_1.wf = true ∧ 5 < 128 ∧ 3 < 4 ∧ 2 < 4 ∧ 2047 < 2048 ∧ (w20_1.rd VAT_C_CSTATE 5 = csIdle ∨ w20_1.rd VAT_C_CSTATE 5 = csFault)) ∧
    (w20_3.wf = true ∧ 5 < 128 ∧ 131068 < 131072 ∧ (131068 < 32768 ∨ 65536 ≤ 131068) ∧
      (w20_3.rd VAT_C_CSTATE 5 = csRun ∨ w20_3.rd VAT_C_CSTATE 5 = csWait)) :=
  by refine ⟨?_, ?_, ?_, ?_, ?_, ?_, ?_, ?_⟩ <;> decide +kernel

/-- Hypotheses of KernelsLaunchedAndStopped that a state meets, clause by clause. -/
theorem witness_KernelsLaunchedAndStopped_3 :
    (w20_17.wf = true ∧ 5 < 128 ∧ 0 < 131072 ∧ (0 < 32768 ∨ 65536 ≤ 0) ∧
      (w20_17.rd VAT_C_CSTATE 5 = csRun ∨ w20_17.rd VAT_C_CSTATE 5 = csWait)) ∧
    (w20_3.wf = true ∧ 5 < 128 ∧ 4 < 16 ∧ w20_3.rd VAT_C_CSTATE 5 ≠ csOff ∧ w20_3.freshRecord 0 cUnitParity (5 / 16) = true ∧
      w20_3.faultMasked cUnitParity 35 = false) ∧
    (w20_3.wf = true ∧ 5 < 128 ∧ w20_3.rd VAT_C_CSTATE 5 ≠ csOff ∧ w20_3.freshRecord 0 cPgmParity (5 / 16) = true ∧
      w20_3.faultMasked cPgmParity 35 = false) ∧
    (w20_20.wf = true ∧ 5 < 128 ∧ 2 < 4 ∧ w20_20.rd VAT_C_CSTATE 5 ≠ csOff ∧ w20_20.rd VAT_C_TI_EN (5 * 4 + 2) = 1 ∧
      w20_20.rd VAT_C_TI_TSRC (5 * 4 + 2) = 1 ∧ w20_20.rd VAT_C_TI_SIDE (5 * 4 + 2) < 2 ∧
      amGet? w20_20.vat.capAt (5 * 4 + 2) = none ∧ w20_20.rd LTM_STATE ≠ ltHoldover) ∧
    (w20_21.wf = true ∧ 5 < 128 ∧ 2 < 4 ∧ amGet? w20_21.vat.caps (5 * 4 + 2) = some cap1_20 ∧ w20_21.rd VAT_C_TI_TSRC (5 * 4 + 2) ≠ 6 ∧
      (∀ (u : Nat), u < 16 → (w20_21.vu 5 u).st = []) ∧
      564 = w20_21.rd VAT_C_TI_DST (5 * 4 + 2) + w20_21.rd VAT_C_TI_BLK (5 * 4 + 2) * (cap1_20.frame % 2) ∧
      w20_21.rd VAT_C_TI_DST (5 * 4 + 2) + 2 * w20_21.rd VAT_C_TI_BLK (5 * 4 + 2) ≤ 4080) ∧
    (w20_7.wf = true ∧ 5 < 128 ∧ amGet? w20_7.vat.starts 5 = some (ks_20 3) ∧ w20_7.rd VAT_C_CSTATE 5 = csIdle) :=
  by refine ⟨?_, ?_, ?_, ?_, ?_, ?_⟩ <;> decide +kernel

/-! Witnesses: registers -/

def HR_21 (m : Mode) : State := { S0 with mode := m, pins := { pgood := true, vddAon := true, pwrMainEn := true, resetN := true }, time := { lt := 5 * 2 ^ 32 + 1000 * mfTicks + 70 } }
def A_21 : State := setL { HR_21 .service with banked := [(3, 7), (2 ^ 32 + 5, 9), (16 * 2 ^ 32 + 1, 8)] } [(PCI_NUM_VFS, 15, 0)]
def chs_21 (m idx v : Nat) (s : State) : State := s.setBank m C_CH_SEL idx v
def TB_21 : State := chs_21 1 11 2 { A_21 with tim := { tbs := [(2, { base := 0x123456789ABCD * 65536000000000 + 65536 * 600000000, at_ := 5 * 2 ^ 32 + 999 * mfTicks })] } }
def RF_21 (fn n : Nat) (air : List (Nat × Nat)) : State := setL { A_21 with msixOn := [(3, 1), (256, 1), (770, 1)], msixPend := [(5, 1), (257, 1), (771, 1)], dma := if air.isEmpty then [] else [(n, { descs := [{ idx := 3, op := 1, barrier := false, irq := true, srcReg := false, dstReg := false, tag := 7, len := 256, src := 0, dst := 64, pattern := 0, issued := 2, air := air }] })] } [(DMA_CH_OWNER, fn, n), (DMA_CH_RUN, 1, n), (DMA_CH_HEAD, 3, n), (DMA_CH_TAIL, 5, n), (DMA_CH_RING_SIZE, 100, n), (DMA_CH_RING_BASE_LO, 64, n)]
def J_21 : Job := { xts := false, dec := false, key1 := [1, 2, 3, 4, 5, 6, 7, 8, 9, 10, 11, 12, 13, 14, 15, 16], key2 := [], slot1 := 1, slot2 := 0, src := List.replicate 64 3, dst := 0x1000, len := 64, unit := 0, tweak := 0, waiting := false, asked := 0 }
def sealed_21 : State := { A_21 with seals := [{ page := 6, kind := 0, req := 0, target := none, taken := none, fields := [] }] }
def w21_1 : State := A_21
def w21_2 : State := A_21.wr PCI_M_ACCESSES_LO (2 ^ 32 - 1) 0
def w21_3 : State := TB_21
def w21_4 : State := chs_21 1 36 4 ((A_21.wr SER_L_BITS_LO 99 4).wr SER_L_BITS_HI 3 4)
def w21_5 : State := ((A_21.wr C_PERF_CYC_LO 99 2).wr C_PERF_CYC_HI 3 2).wr C_PERF_FREEZE 1 2
def w21_7 : State := (A_21.wr C_PERF_CYC_LO 99 2).wr C_PERF_CYC_HI 3 2
def w21_10 : State := (A_21.wr CLSE_HITS_LO 99 7).wr CLSE_HITS_HI 3 7
def w21_15 : State := A_21.wr GLB_LIFE_USED 0x10203 0
def w21_16 : State := ({ A_21 with mode := .stable }.wr GLB_LIFE_USED 0x10203 0).wr PWR_WAKE_EN 7 0
def w21_17 : State := (({ A_21 with mode := .reset }.wr GLB_LIFE_USED 0x10203 0).wr PWR_WAKE_EN 7 0).wr PCI_TW_PEC_EN 1 0
def w21_19 : State := { A_21 with mode := .stable }
def w21_27 : State := A_21.wr C_CFG_LOCK 1 2
def w21_29 : State := sealed_21
def w21_32 : State := { A_21 with locked := [(C_CFG_LOCK.key 17, 1)] }
def w21_34 : State := { A_21 with locked := [(C_CFG_LOCK.key 17, 1)] }.wr C_LOCK_VIOL 1 17
def w21_35 : State := setL A_21 [(C_INT_STAT, 7, 17), (PCI_IR_EN, 1, 17), (PCI_IR_VECTOR, 9, 17)]
def w21_36 : State := { setL A_21 [(C_INT_STAT, 7, 17), (C_INT_EN, 15, 17), (PCI_IR_EN, 1, 17), (PCI_IR_VECTOR, 9, 17)] with msixOn := [(9, 1)] }
def w21_37 : State := setL { A_21 with mode := .factory } [(C_INT_STAT, 2, 17), (C_INT_EN, 15, 17), (PCI_IR_EN, 1, 17), (PCI_IR_VECTOR, 9, 17)]
def w21_39 : State := { A_21 with msixPend := [(775, 1), (776, 1)] }
def w21_41 : State := A_21.wr PCI_LINK_UP 1
def w21_43 : State := A_21.wr PCI_TW_PEC_EN 1
def w21_47 : State := RF_21 1 4 []
def w21_48 : State := { RF_21 3 4 [(0, 0)] with cip := { jobs := [(0, J_21), (2, J_21)], keys := [(1, [1, 2])] } }
def w21_49 : State := setL (RF_21 2 4 []) [(DMA_RS_RX_TAIL, 7, 2)]
def w21_51 : State := { setL (RF_21 2 4 []) [(DMA_RS_RX_TAIL, 7, 2)] with cip := { jobs := [(2, J_21)], keys := [(1, [1, 2])] } }
def w21_53 : State := RF_21 1 4 [(0, 0), (1, 0)]
def w21_54 : State := setL (RF_21 1 4 []) [(DMA_RS_RX_TAIL, 7, 2)]
def w21_55 : State := (chs_21 0 12 3 A_21).wr CLP_P_EVENTS_0_0 0x7 3
def w21_56 : State := chs_21 0 12 3 A_21

/-- Hypotheses of RegistersRead that a state meets, clause by clause. -/
theorem witness_RegistersRead_1 :
    (w21_1.wf = true ∧ w21_1.dark = false ∧ 1 ≤ 1) ∧
    (w21_2.wf = true ∧ w21_2.dark = false ∧ 0 ≤ 1) ∧
    (w21_3.wf = true ∧ w21_3.dark = false ∧ 1 ≤ 1 ∧ w21_3.chSel 1 11 = 2 ∧ 2 < 4) ∧
    (w21_4.wf = true ∧ w21_4.dark = false ∧ 1 ≤ 16 ∧ State.locate 1 (7341088 / 4 * 4) = some (Loc.page Page.SER 36 1056) ∧
      w21_4.reaches 1 36 = true ∧ ¬(Page.SER = Page.CAV ∧ 16384 ≤ 1056 ∧ 1056 < 32768) ∧
      fieldsIn Page.SER 36 1056 (w21_4.chSel 1 36) = [(SER_L_BITS_LO, 4)] ∧ (SER_L_BITS_LO, SER_L_BITS_HI) ∈ latchPairs ∧
      SER_L_BITS_LO.counting = false ∧ SER_L_BITS_LO ≠ TIM_TB_NOW_S_LO ∧ SER_L_BITS_LO ≠ PCI_M_ACCESSES_LO ∧
      (SER_L_BITS_LO ≠ C_PERF_CYC_LO ∨ w21_4.perfStopped 4 = true) ∧ w21_4.mayUse 1 SER_L_BITS_LO 4 = true) ∧
    (w21_5.wf = true ∧ w21_5.dark = false ∧ 0 ≤ 16 ∧ State.locate 0 (133120 / 4 * 4) = some (Loc.page Page.FLT 2 2048) ∧
      w21_5.reaches 0 2 = true ∧ ¬(Page.FLT = Page.CAV ∧ 16384 ≤ 2048 ∧ 2048 < 32768) ∧
      fieldsIn Page.FLT 2 2048 (w21_5.chSel 0 2) = [(C_PERF_CYC_LO, 2)] ∧ (C_PERF_CYC_LO, C_PERF_CYC_HI) ∈ latchPairs ∧
      C_PERF_CYC_LO.counting = false ∧ C_PERF_CYC_LO ≠ TIM_TB_NOW_S_LO ∧ C_PERF_CYC_LO ≠ PCI_M_ACCESSES_LO ∧
      (C_PERF_CYC_LO ≠ C_PERF_CYC_LO ∨ w21_5.perfStopped 2 = true) ∧ w21_5.mayUse 0 C_PERF_CYC_LO 2 = true) ∧
    (w21_4.wf = true ∧ w21_4.dark = false ∧ 1 ≤ 16 ∧ State.locate 1 (7341088 / 4 * 4) = some (Loc.page Page.SER 36 1056) ∧
      State.locate 1 (7341088 / 4 * 4 + 4) = some (Loc.page Page.SER 36 (1056 + 4)) ∧ w21_4.reaches 1 36 = true ∧
      7341088 / 4 * 4 % 64 ≤ 56 ∧ ¬(Page.SER = Page.CAV ∧ 16384 ≤ 1056 + 4 ∧ 1056 < 32768) ∧
      fieldsIn Page.SER 36 1056 (w21_4.chSel 1 36) = [(SER_L_BITS_LO, 4)] ∧
      fieldsIn Page.SER 36 (1056 + 4) (w21_4.chSel 1 36) = [(SER_L_BITS_HI, 4)] ∧ (SER_L_BITS_LO, SER_L_BITS_HI) ∈ latchPairs ∧
      SER_L_BITS_LO.counting = false ∧ SER_L_BITS_LO ≠ TIM_TB_NOW_S_LO ∧ SER_L_BITS_LO ≠ PCI_M_ACCESSES_LO ∧
      (SER_L_BITS_LO ≠ C_PERF_CYC_LO ∨ w21_4.perfStopped 4 = true) ∧ w21_4.mayUse 1 SER_L_BITS_LO 4 = true ∧
      w21_4.mayUse 1 SER_L_BITS_HI 4 = true) ∧
    (w21_7.wf = true ∧ w21_7.dark = false ∧ 0 ≤ 16 ∧ State.locate 0 (133120 / 4 * 4) = some (Loc.page Page.FLT 2 2048) ∧
      w21_7.reaches 0 2 = true ∧ fieldsIn Page.FLT 2 2048 (w21_7.chSel 0 2) = [(C_PERF_CYC_LO, 2)] ∧ w21_7.perfStopped 2 = false) ∧
    (w21_1.wf = true ∧ w21_1.dark = false ∧ 0 ≤ 16 ∧ claims 0 (133168 / 4 * 4) = true ∧ 0 < 5 ∧
      (16 < 5 ∨ 64 < 133168 / 4 * 4 % 64 + 4 * 5)) :=
  by refine ⟨?_, ?_, ?_, ?_, ?_, ?_, ?_, ?_⟩ <;> decide +kernel

/-- Hypotheses of RegistersRead that a state meets, clause by clause. -/
theorem witness_RegistersRead_2 :
    (w21_1.wf = true ∧ w21_1.dark = false ∧ 1 ≤ 16 ∧ claims 1 (4128770 / 4 * 4) = true ∧ 0 < 17 ∧
      (16 < 17 ∨ 64 < 4128770 / 4 * 4 % 64 + 4 * 17)) ∧
    (w21_10.wf = true ∧ w21_10.dark = false ∧ 0 ≤ 1 ∧ decodeAddr ((33554432 + 1024 * 7 + 192) / 4 * 4) = some (Loc.rule 7 192) ∧
      ruleFields 7 192 = [(CLSE_HITS_LO, 7)] ∧ (CLSE_HITS_LO, CLSE_HITS_HI) ∈ latchPairs ∧ hasRight 0 CLSE_HITS_LO.attr = true) ∧
    (w21_1.wf = true ∧ w21_1.dark = false ∧ 0 ≤ 16 ∧ State.locate 0 (4325636 / 4 * 4) = some (Loc.page Page.CIPU 20 260) ∧
      w21_1.reaches 0 (Loc.page Page.CIPU 20 260).idx = false) ∧
    (w21_1.wf = true ∧ w21_1.dark = false ∧ 1 ≤ 16 ∧ State.locate 1 (4260100 / 4 * 4) = some (Loc.page Page.CIPU 19 260) ∧
      w21_1.reaches 1 (Loc.page Page.CIPU 19 260).idx = false) ∧
    (w21_1.wf = true ∧ w21_1.dark = false ∧ 0 ≤ 16 ∧ claims 0 4128768 = true ∧ State.locate 0 (4128768 / 4 * 4) = none) ∧
    (w21_1.wf = true ∧ w21_1.dark = false) ∧
    (w21_15.wf = true ∧ w21_15.pins.vddAon = true ∧ [0, 1, 2, 3] = bytesBE 4 (w21_15.rd GLB_LIFE_USED)) ∧
    (w21_16.wf = true ∧ w21_16.pins.vddAon = true ∧ [0, 1, 2, 3] = bytesBE 4 (w21_16.rd GLB_LIFE_USED)) :=
  by refine ⟨?_, ?_, ?_, ?_, ?_, ?_, ?_, ?_⟩ <;> decide +kernel

/-- Hypotheses of RegistersRead that a state meets, clause by clause. -/
theorem witness_RegistersRead_3 :
    (w21_17.wf = true ∧ w21_17.pins.vddAon = true ∧ [0, 1, 2, 3] = bytesBE 4 (w21_17.rd GLB_LIFE_USED)) ∧
    (w21_1.wf = true ∧ w21_1.pins.vddAon = true ∧ w21_1.dark = false ∧ 4128768 % 4 = 0 ∧ 4128768 < 2 ^ 32 ∧
      decodeAddr 4128768 = none ∧ w21_1.on PCI_TW_PEC_EN = false) ∧
    (w21_19.wf = true ∧ w21_19.pins.vddAon = true ∧ w21_19.mode = Mode.stable ∧ 65856 % 4 = 0 ∧ 65856 < 2 ^ 32 ∧ 65856 ≠ 264 ∧
      65856 ≠ 268 ∧ (65856 < 65792 ∨ 65856 ≤ 65856) ∧ w21_19.on PCI_TW_PEC_EN = false) :=
  by refine ⟨?_, ?_, ?_⟩ <;> decide +kernel

/-- Hypotheses of RegistersWritten that a state meets, clause by clause. -/
theorem witness_RegistersWritten_1 :
    (w21_1.wf = true ∧ w21_1.dark = false ∧ 3 ≤ 16 ∧ [1] ≠ [] ∧ [1].length ≤ 16 ∧ 264 / 4 * 4 % 64 + 4 * [1].length ≤ 64 ∧
      allMapped 3 (264 / 4 * 4) [1].length = true) ∧
    (w21_1.wf = true ∧ w21_1.dark = false ∧ 0 ≤ 16 ∧ claims 0 (131380 / 4 * 4) = true ∧ [1, 2, 3, 4] ≠ [] ∧
      (16 < [1, 2, 3, 4].length ∨ 64 < 131380 / 4 * 4 % 64 + 4 * [1, 2, 3, 4].length ∨ allMapped 0 (131380 / 4 * 4) [1, 2, 3, 4].length = false)) ∧
    (w21_1.wf = true ∧ w21_1.dark = false ∧ 1 ≤ 16 ∧ claims 1 (2359296 / 4 * 4) = true ∧ [1] ≠ [] ∧
      (16 < [1].length ∨ 64 < 2359296 / 4 * 4 % 64 + 4 * [1].length ∨ allMapped 1 (2359296 / 4 * 4) [1].length = false)) ∧
    (w21_1.wf = true ∧ w21_1.dark = false ∧ 0 ≤ 16 ∧ State.locate 0 (262420 / 4 * 4) = some (Loc.page Page.PCI 4 276) ∧
      w21_1.reaches 0 4 = true ∧ fieldsIn Page.PCI 4 276 (w21_1.chSel 0 4) = [(PCI_UR_COUNT, 0)] ∧ PCI_UR_COUNT.ty = Acc.cnt ∧
      PCI_UR_COUNT.counting = false ∧ PCI_UR_COUNT ≠ PCI_M_ACCESSES_LO ∧ PCI_UR_COUNT ≠ PCI_M_ACCESSES_HI ∧
      PCI_UR_COUNT ≠ CLP_P_EVENTS_0_0 ∧ PCI_UR_COUNT ≠ CLP_P_EVENTS_1_0 ∧ ¬(PCI_UR_COUNT.page = Page.TIM ∧
      PCI_UR_COUNT.kind = FKind.win ∧ 0 = 0) ∧ w21_1.mayUse 0 PCI_UR_COUNT 0 = true) ∧
    (w21_1.wf = true ∧ w21_1.dark = false ∧ w21_1.rd C_CFG_LOCK 2 = 0 ∧ 115 < 2 ^ 32) ∧
    (w21_1.wf = true ∧ w21_1.dark = false ∧ w21_1.rd C_CFG_LOCK 2 = 0 ∧ 59 < 2 ^ 32) ∧
    (w21_1.wf = true ∧ w21_1.dark = false ∧ 80 % 256 ≠ 0) ∧
    (w21_27.wf = true ∧ w21_27.dark = false ∧ w21_27.rd C_CFG_LOCK 2 = 1 ∧ 80 < 256 ∧ 80 ≠ w21_27.rd FLT_TJ_WARN ∧
      w21_27.freshRecord 0 cLockViol (pageInfo 2).region = true ∧ w21_27.faultMasked cLockViol 2 = false) :=
  by refine ⟨?_, ?_, ?_, ?_, ?_, ?_, ?_, ?_⟩ <;> decide +kernel

/-- Hypotheses of RegistersWritten that a state meets, clause by clause. -/
theorem witness_RegistersWritten_2 :
    (w21_1.wf = true ∧ w21_1.dark = false ∧ w21_1.rd C_CFG_LOCK 6 = 0 ∧ w21_1.sealOf 6 = none ∧ 11259375 < 2 ^ 24) ∧
    (w21_29.wf = true ∧ w21_29.dark = false ∧ w21_29.rd C_CFG_LOCK 6 = 0 ∧ w21_29.sealOf 6 ≠ none ∧ 11259375 < 2 ^ 24) ∧
    (w21_1.wf = true ∧ w21_1.dark = false ∧ 1 ≤ 16 ∧ State.locate 1 (4260100 / 4 * 4) = some (Loc.page Page.CIPU 19 260) ∧
      w21_1.reaches 1 (Loc.page Page.CIPU 19 260).idx = false) ∧
    (w21_1.wf = true ∧ w21_1.dark = false ∧ pageAt 49 = some (Page.DDR, 17) ∧ w21_1.reaches 0 17 = true ∧ 1 < 2 ∧
      smGet w21_1.locked (C_CFG_LOCK.key 17) = 0) ∧
    (w21_32.wf = true ∧ w21_32.dark = false ∧ pageAt 49 = some (Page.DDR, 17) ∧ w21_32.reaches 0 17 = true ∧
      w21_32.rd C_CFG_LOCK 17 < 2 ∧ smGet w21_32.locked (C_CFG_LOCK.key 17) = 1) ∧
    (w21_32.wf = true ∧ w21_32.dark = false ∧ pageAt 49 = some (Page.DDR, 17) ∧ w21_32.reaches 0 17 = true ∧ 1 < 2 ∧
      1 ≠ w21_32.rd C_CFG_LOCK 17 ∧ smGet w21_32.locked (C_CFG_LOCK.key 17) = 1 ∧
      w21_32.freshRecord 0 cLockViol (pageInfo 17).region = true ∧ w21_32.faultMasked cLockViol 17 = false) ∧
    (w21_34.wf = true ∧ w21_34.dark = false ∧ pageAt 49 = some (Page.DDR, 17) ∧ w21_34.reaches 0 17 = true ∧
      smGet w21_34.locked (C_CFG_LOCK.key 17) = 1 ∧ w21_34.rd C_CFG_LOCK 17 = b2n false) ∧
    (w21_35.wf = true ∧ w21_35.dark = false ∧ 1 ≤ 1 ∧ pageAt 49 = some (Page.DDR, 17) ∧ w21_35.reaches 1 17 = true) :=
  by refine ⟨?_, ?_, ?_, ?_, ?_, ?_, ?_, ?_⟩ <;> decide +kernel

/-- Hypotheses of RegistersWritten that a state meets, clause by clause. -/
theorem witness_RegistersWritten_3 :
    (w21_36.wf = true ∧ w21_36.dark = false ∧ 1 ≤ 1 ∧ pageAt 49 = some (Page.DDR, 17) ∧ w21_36.reaches 1 17 = true) ∧
    (w21_37.wf = true ∧ w21_37.dark = false ∧ pageAt 49 = some (Page.DDR, 17) ∧ w21_37.reaches 0 17 = true) ∧
    (w21_1.wf = true ∧ w21_1.dark = false ∧ pageAt 49 = some (Page.DDR, 17) ∧ w21_1.reaches 0 17 = true) ∧
    (w21_39.wf = true ∧ w21_39.dark = false ∧ 3 < 17 ∧ 7 < vectorCount 3 ∧ 775 = 3 * 256 + 7) ∧
    (w21_1.wf = true ∧ w21_1.dark = false ∧ 1 ≤ 4 ∧ 4 ≤ 4 ∧ 2 ∈ [1, 2, 4] ∧ 3 < 16) ∧
    (w21_41.wf = true ∧ w21_41.rd PCI_LINK_UP = 1) ∧
    (w21_1.wf = true ∧ w21_1.dark = false ∧ w21_1.pins.vddAon = true ∧ w21_1.rd C_CFG_LOCK 2 = 0 ∧ 60 ≤ 99 ∧ 99 ≤ 115 ∧
      ([0, 0, 0, 99] = [0, 0, 0, 99] ∧
      w21_1.on PCI_TW_PEC_EN = false ∨ [0, 0, 0, 99] = [0, 0, 0, 99, crc8 0 (w21_1.twHead 131340 ++ [0, 0, 0, 99])] ∧
      w21_1.on PCI_TW_PEC_EN = true)) ∧
    (w21_43.wf = true ∧ w21_43.dark = false ∧ w21_43.pins.vddAon = true ∧ w21_43.rd C_CFG_LOCK 2 = 0 ∧ 60 ≤ 99 ∧ 99 ≤ 115 ∧
      ([0, 0, 0, 99, crc8 0 [176, 0, 2, 1, 12, 0, 0, 0, 99]] = [0, 0, 0, 99] ∧
      w21_43.on PCI_TW_PEC_EN = false ∨ [0, 0, 0, 99, crc8 0 [176, 0, 2, 1, 12, 0, 0, 0, 99]] = [0, 0, 0, 99, crc8 0 (w21_43.twHead 131340 ++ [0, 0, 0, 99])] ∧
      w21_43.on PCI_TW_PEC_EN = true)) :=
  by refine ⟨?_, ?_, ?_, ?_, ?_, ?_, ?_, ?_⟩ <;> decide +kernel

/-- Hypotheses of RegistersWritten that a state meets, clause by clause. -/
theorem witness_RegistersWritten_4 :
    (w21_1.wf = true ∧ w21_1.dark = false ∧ w21_1.pins.vddAon = true ∧ 131340 % 4 = 0 ∧ 131340 < 2 ^ 32 ∧
      (decodeAddr 131340).isSome = true ∧ [1, 2] ≠ [] ∧ [1, 2].length < 4 ∧ w21_1.on PCI_TW_PEC_EN = false) ∧
    (w21_1.wf = true ∧ w21_1.dark = false ∧ w21_1.pins.vddAon = true ∧ 4128768 % 4 = 0 ∧ 4128768 < 2 ^ 32 ∧
      decodeAddr 4128768 = none ∧ [1, 2, 3, 4, 5, 6] ≠ [] ∧ w21_1.on PCI_TW_PEC_EN = false) ∧
    (w21_43.wf = true ∧ w21_43.dark = false ∧ w21_43.pins.vddAon = true ∧ 131340 % 4 = 0 ∧ 131340 < 2 ^ 32 ∧
      w21_43.on PCI_TW_PEC_EN = true ∧ [0, 0, 0, 99].length ≤ 64 ∧ ([0, 0, 0, 99].all fun x => decide (x < 256)) = true ∧ 5 < 256 ∧
      ((List.range (([0, 0, 0, 99].length + 3) / 4)).all fun k => (decodeAddr (131340 + 4 * k)).isSome) = true ∧
      5 ≠ crc8 0 (w21_43.twHead 131340 ++ [0, 0, 0, 99])) ∧
    (w21_55.wf = true ∧ w21_55.dark = false ∧ State.locate 0 (2098192 / 4 * 4) = some (Loc.page Page.CLP 12 1040) ∧
      fieldsIn Page.CLP 12 1040 (w21_55.chSel 0 12) = [(CLP_P_EVENTS_0_0, 3)] ∧ (CLP_P_EVENTS_0_0 = CLP_P_EVENTS_0_0 ∧
      8 = 8 ∨ CLP_P_EVENTS_0_0 = CLP_P_EVENTS_1_0 ∧ 8 = 2) ∧ 3 < 16) ∧
    (w21_56.wf = true ∧ w21_56.dark = false ∧ State.locate 0 (2098196 / 4 * 4) = some (Loc.page Page.CLP 12 1044) ∧
      fieldsIn Page.CLP 12 1044 (w21_56.chSel 0 12) = [(CLP_P_EVENTS_1_0, 3)] ∧ (CLP_P_EVENTS_1_0 = CLP_P_EVENTS_0_0 ∧
      2 = 8 ∨ CLP_P_EVENTS_1_0 = CLP_P_EVENTS_1_0 ∧ 2 = 2) ∧ 3 < 16) :=
  by refine ⟨?_, ?_, ?_, ?_, ?_⟩ <;> decide +kernel

/-- Hypotheses of FunctionsReset that a state meets, clause by clause. -/
theorem witness_FunctionsReset :
    (w21_47.wf = true) ∧
    (w21_48.wf = true) ∧
    (w21_49.wf = true ∧ w21_49.dark = false ∧ (1 = 1 ∨ 2 ≤ 1 ∧ 1 - 1 ≤ w21_49.rd PCI_NUM_VFS ∧ 1 ≤ 16) ∧
      (∀ (n : Nat), n < 16 → w21_49.rd DMA_CH_OWNER n ≠ 1) ∧ (1 ≠ 1 → amGet? w21_49.cip.jobs (1 - 1) = none)) ∧
    (w21_49.wf = true ∧ w21_49.dark = false ∧ (3 = 1 ∨ 2 ≤ 3 ∧ 3 - 1 ≤ w21_49.rd PCI_NUM_VFS ∧ 3 ≤ 16) ∧
      (∀ (n : Nat), n < 16 → w21_49.rd DMA_CH_OWNER n ≠ 3) ∧ (3 ≠ 1 → amGet? w21_49.cip.jobs (3 - 1) = none)) ∧
    (w21_51.wf = true ∧ w21_51.dark = false ∧ 2 ≤ 3 ∧ 3 ≤ 16 ∧ 3 - 1 ≤ w21_51.rd PCI_NUM_VFS ∧
      amGet? w21_51.cip.jobs (3 - 1) = some J_21 ∧ J_21.waiting = false ∧ ∀ (n : Nat), n < 16 → w21_51.rd DMA_CH_OWNER n ≠ 3) ∧
    (w21_47.wf = true ∧ w21_47.dark = false ∧ 1 = 1 ∧ 4 < 16 ∧ (∀ (k : Nat), k < 16 → (w21_47.rd DMA_CH_OWNER k = 1 ↔ k = 4)) ∧
      w21_47.rd DMA_CH_RUN 4 = 1) ∧
    (w21_53.wf = true ∧ w21_53.dark = false ∧ 1 = 1 ∧ 4 < 16 ∧ (∀ (k : Nat), k < 16 → (w21_53.rd DMA_CH_OWNER k = 1 ↔ k = 4)) ∧
      w21_53.rd DMA_CH_RUN 4 = 1) ∧
    (w21_54.wf = true ∧ w21_54.dark = false ∧ 2 < 16 ∧ 2 ≤ w21_54.rd PCI_NUM_VFS) :=
  by refine ⟨?_, ?_, ?_, ?_, ?_, ?_, ?_, ?_⟩ <;> decide +kernel

/-! Witnesses: DMA -/

def HR_22 (m : Mode) : State := { S0 with mode := m, pins := { pgood := true, vddAon := true, pwrMainEn := true, resetN := true }, time := { lt := 5 * 2 ^ 32 + 1000 * mfTicks + 70 } }
def D_22 (op len issued : Nat) (air : List (Nat × Nat)) : DmaDesc := { idx := 3, op := op, barrier := false, irq := true, srcReg := false, dstReg := false, tag := 0x1234, len := len, src := 0x40, dst := 0x123456789000, pattern := 0x1122334455667788, issued := issued, air := air }
def dB_22 : DmaDesc := { idx := 3, op := 1, barrier := true, irq := true, srcReg := false, dstReg := false, tag := 0x1234, len := 256, src := 0x40, dst := 2 ^ 32 + 0x80, pattern := 5 + 6 * 2 ^ 32 }
def dN_22 : DmaDesc := { idx := 3, op := 0, barrier := true, irq := false, srcReg := false, dstReg := false, tag := 0, len := 3, src := 0x40, dst := 2 ^ 32 + 0x81, pattern := 5 + 6 * 2 ^ 32 }
def dF_22 : DmaDesc := { D_22 2 64 0 [] with barrier := true }
def dN0_22 : DmaDesc := { D_22 0 0 0 [] with irq := false }
def dF1_22 : DmaDesc := { D_22 2 256 4 [(3, 0)] with irq := false }
def dC1_22 : DmaDesc := { D_22 3 256 3 [(2, 0)] with irq := false }
def dR_22 : DmaDesc := { D_22 1 256 4 [(3, 2)] with dstReg := true, dst := 0x240000 }
def dA_22 : DmaDesc := (D_22 1 256 2 [(0, 0), (1, 0)])
def C_22 (l : List DmaDesc) (tries : Nat) : State := setL { HR_22 .service with dma := [(5, { descs := l, tries := tries })] } [(DMA_CH_RUN, 1, 5), (DMA_CH_HEAD, 3, 5), (DMA_CH_TAIL, 9, 5), (DMA_CH_RING_SIZE, 4, 5), (DMA_CH_RING_BASE_LO, 0x1000, 5), (DMA_CH_RETRY, 2, 5)]
def B64_22 (k : Nat) : List Nat := (List.range 64).map fun i => (i * 7 + k) % 256
def wsd_22 (w0 len src dst : Nat) : List Nat := [w0, len, src, 0, dst, 1, 5, 6, 0, 0, 0, 0]
def I_22 (e : Nat) : State := setL (HR_22 .service) [(DMA_RS_TX_EN, 1, 4), (DMA_RS_TX_HEAD, 3, 4), (DMA_RS_TX_TAIL, 1, 4), (DMA_RS_TX_SIZE, 4, 4), (DMA_RS_TX_BASE_LO, 0x8000, 4), (DMA_RS_INJ_DIRECT, e, 4), (DMA_RS_INJ_CLASSIFY, 1, 4), (QSH_EQ_EN, 1, 127)]
def w22_1 : State := S0
def w22_3 : State := C_22 [] 0
def w22_4 : State := C_22 [D_22 1 256 2 [(0, 0), (1, 0)]] 0
def w22_7 : State := C_22 [] 1
def w22_13 : State := C_22 [] 2
def w22_15 : State := C_22 [D_22 3 64 0 []] 0
def w22_16 : State := C_22 [D_22 1 256 4 [(3, 0)], dF_22] 0
def w22_17 : State := C_22 [D_22 0 0 0 []] 0
def w22_18 : State := C_22 [dN0_22] 0
def w22_19 : State := C_22 [dF1_22] 0
def w22_20 : State := C_22 [D_22 1 256 4 [(3, 0)]] 0
def w22_21 : State := C_22 [D_22 1 256 4 [(1, 0), (0, 0)]] 0
def w22_22 : State := C_22 [dC1_22] 0
def w22_23 : State := C_22 [D_22 3 256 3 [(2, 1)]] 0
def w22_24 : State := C_22 [D_22 1 256 4 [(3, 2)]] 0
def w22_25 : State := C_22 [dR_22] 0
def w22_26 : State := I_22 0
def w22_27 : State := I_22 1
def w22_30 : State := C_22 [D_22 2 64 0 []] 0

/-- Hypotheses of DmaRuns that a state meets, clause by clause. -/
theorem witness_DmaRuns_1 :
    (w22_1.wf = true ∧ 15 < 16) ∧
    (w22_1.wf = true ∧ 15 < 16 ∧ w22_1.rd DMA_CH_RUN 15 = 0) ∧
    (w22_3.wf = true ∧ 5 < 16 ∧ w22_3.rd DMA_CH_RUN 5 = 1 ∧ (w22_3.dch 5).out = 0 ∧
      (Option.map (fun d => d.remain) (w22_3.dch 5).descs.getLast?).getD (w22_3.rd DMA_CH_REMAIN 5) = w22_3.rd DMA_CH_REMAIN 5) ∧
    (w22_4.wf = true ∧ 5 < 16 ∧ w22_4.rd DMA_CH_RUN 5 = 1 ∧ (w22_4.dch 5).out ≠ 0 ∧ (w22_4.dch 5).halting = none) ∧
    (w22_3.wf = true ∧ 5 < 16) ∧
    (w22_3.wf = true ∧ 6 < 16) ∧
    (w22_7.wf = true ∧ 5 < 16 ∧ w22_7.rd DMA_CH_RUN 5 = 1 ∧ w22_7.dch 5 = { tries := 1 : DmaCh } ∧
      w22_7.rd DMA_CH_HEAD 5 ≠ w22_7.rd DMA_CH_TAIL 5 ∧
      dB_22 = { idx := w22_7.rd DMA_CH_HEAD 5, op := (wsd_22 305397809 256 64 128).getD 0 0 % 2 ^ 32 % 16, barrier := bit ((wsd_22 305397809 256 64 128).getD 0 0) 4, irq := bit ((wsd_22 305397809 256 64 128).getD 0 0) 5, srcReg := bit ((wsd_22 305397809 256 64 128).getD 0 0) 6, dstReg := bit ((wsd_22 305397809 256 64 128).getD 0 0) 7, tag := (wsd_22 305397809 256 64 128).getD 0 0 / 2 ^ 16 % 2 ^ 16, len := (wsd_22 305397809 256 64 128).getD 1 0 % 2 ^ 32, src := (wsd_22 305397809 256 64 128).getD 2 0 % 2 ^ 32 + (wsd_22 305397809 256 64 128).getD 3 0 % 2 ^ 32 * 2 ^ 32, dst := (wsd_22 305397809 256 64 128).getD 4 0 % 2 ^ 32 + (wsd_22 305397809 256 64 128).getD 5 0 % 2 ^ 32 * 2 ^ 32, pattern := (wsd_22 305397809 256 64 128).getD 6 0 % 2 ^ 32 + (wsd_22 305397809 256 64 128).getD 7 0 % 2 ^ 32 * 2 ^ 32 : DmaDesc } ∧
      dB_22.op < 4 ∧ ((wsd_22 305397809 256 64 128).getD 0 0 / 256 % 256 = 0 ∧
      ∀ (k : Nat), k < 4 → (wsd_22 305397809 256 64 128).getD (8 + k) 0 % 2 ^ 32 = 0) ∧ (dB_22.op = 0 ∨ dB_22.len ≠ 0 ∧ dB_22.len % 64 = 0 ∧
      (dB_22.op ≠ 2 → dB_22.src % 64 = 0 ∧ (dB_22.srcReg = true → dB_22.src + dB_22.len ≤ 67108864)) ∧ dB_22.dst % 64 = 0 ∧
      (dB_22.dstReg = true → dB_22.dst + dB_22.len ≤ 67108864) ∧
      (dB_22.op = 1 → dB_22.srcReg = dB_22.dstReg → dB_22.src = dB_22.dst ∨ dB_22.src + dB_22.len ≤ dB_22.dst ∨ dB_22.dst + dB_22.len ≤ dB_22.src))) ∧
    (w22_3.wf = true ∧ 5 < 16 ∧ w22_3.rd DMA_CH_RUN 5 = 1 ∧ w22_3.dch 5 = { : DmaCh } ∧
      w22_3.rd DMA_CH_HEAD 5 ≠ w22_3.rd DMA_CH_TAIL 5 ∧
      dN_22 = { idx := w22_3.rd DMA_CH_HEAD 5, op := (wsd_22 16 3 64 129).getD 0 0 % 2 ^ 32 % 16, barrier := bit ((wsd_22 16 3 64 129).getD 0 0) 4, irq := bit ((wsd_22 16 3 64 129).getD 0 0) 5, srcReg := bit ((wsd_22 16 3 64 129).getD 0 0) 6, dstReg := bit ((wsd_22 16 3 64 129).getD 0 0) 7, tag := (wsd_22 16 3 64 129).getD 0 0 / 2 ^ 16 % 2 ^ 16, len := (wsd_22 16 3 64 129).getD 1 0 % 2 ^ 32, src := (wsd_22 16 3 64 129).getD 2 0 % 2 ^ 32 + (wsd_22 16 3 64 129).getD 3 0 % 2 ^ 32 * 2 ^ 32, dst := (wsd_22 16 3 64 129).getD 4 0 % 2 ^ 32 + (wsd_22 16 3 64 129).getD 5 0 % 2 ^ 32 * 2 ^ 32, pattern := (wsd_22 16 3 64 129).getD 6 0 % 2 ^ 32 + (wsd_22 16 3 64 129).getD 7 0 % 2 ^ 32 * 2 ^ 32 : DmaDesc } ∧
      dN_22.op < 4 ∧ ((wsd_22 16 3 64 129).getD 0 0 / 256 % 256 = 0 ∧ ∀ (k : Nat), k < 4 → (wsd_22 16 3 64 129).getD (8 + k) 0 % 2 ^ 32 = 0) ∧
      (dN_22.op = 0 ∨ dN_22.len ≠ 0 ∧ dN_22.len % 64 = 0 ∧ (dN_22.op ≠ 2 → dN_22.src % 64 = 0 ∧ (dN_22.srcReg = true → dN_22.src + dN_22.len ≤ 67108864)) ∧
      dN_22.dst % 64 = 0 ∧ (dN_22.dstReg = true → dN_22.dst + dN_22.len ≤ 67108864) ∧
      (dN_22.op = 1 → dN_22.srcReg = dN_22.dstReg → dN_22.src = dN_22.dst ∨ dN_22.src + dN_22.len ≤ dN_22.dst ∨ dN_22.dst + dN_22.len ≤ dN_22.src))) :=
  by refine ⟨?_, ?_, ?_, ?_, ?_, ?_, ?_, ?_⟩ <;> decide +kernel

/-- Hypotheses of DmaRuns that a state meets, clause by clause. -/
theorem witness_DmaRuns_2 :
    (w22_7.wf = true ∧ 5 < 16 ∧ w22_7.rd DMA_CH_RUN 5 = 1 ∧ w22_7.dch 5 = { tries := 1 : DmaCh } ∧
      w22_7.rd DMA_CH_HEAD 5 ≠ w22_7.rd DMA_CH_TAIL 5 ∧ (1 = 1 ∧ (wsd_22 305397809 255 64 128).getD 0 0 % 16 ≠ 0 ∧
      ((wsd_22 305397809 255 64 128).getD 1 0 % 64 ≠ 0 ∨ (wsd_22 305397809 255 64 128).getD 0 0 % 16 ∈ [1, 3] ∧
      (wsd_22 305397809 255 64 128).getD 2 0 % 64 ≠ 0 ∨ (wsd_22 305397809 255 64 128).getD 0 0 % 16 ∈ [1, 2, 3] ∧
      (wsd_22 305397809 255 64 128).getD 4 0 % 64 ≠ 0) ∨ 1 = 2 ∧ (wsd_22 305397809 255 64 128).getD 0 0 % 16 = 0 ∧
      ¬((wsd_22 305397809 255 64 128).getD 0 0 / 256 % 256 = 0 ∧
      ∀ (k : Nat), k < 4 → (wsd_22 305397809 255 64 128).getD (8 + k) 0 % 2 ^ 32 = 0) ∨ 1 = 2 ∧
      (wsd_22 305397809 255 64 128).getD 0 0 % 16 ≠ 0 ∧ (wsd_22 305397809 255 64 128).getD 1 0 % 64 = 0 ∧
      (wsd_22 305397809 255 64 128).getD 2 0 % 64 = 0 ∧ (wsd_22 305397809 255 64 128).getD 4 0 % 64 = 0 ∧
      (4 ≤ (wsd_22 305397809 255 64 128).getD 0 0 % 16 ∨ (wsd_22 305397809 255 64 128).getD 1 0 % 2 ^ 32 = 0 ∨ ¬((wsd_22 305397809 255 64 128).getD 0 0 / 256 % 256 = 0 ∧
      ∀ (k : Nat), k < 4 → (wsd_22 305397809 255 64 128).getD (8 + k) 0 % 2 ^ 32 = 0) ∨ bit ((wsd_22 305397809 255 64 128).getD 0 0) 7 = true ∧
      (wsd_22 305397809 255 64 128).getD 0 0 % 16 ∈ [1, 2, 3] ∧
      67108864 < (wsd_22 305397809 255 64 128).getD 4 0 % 2 ^ 32 + (wsd_22 305397809 255 64 128).getD 5 0 % 2 ^ 32 * 2 ^ 32 + (wsd_22 305397809 255 64 128).getD 1 0 % 2 ^ 32 ∨ bit ((wsd_22 305397809 255 64 128).getD 0 0) 6 = true ∧
      (wsd_22 305397809 255 64 128).getD 0 0 % 16 ∈ [1, 3] ∧
      67108864 < (wsd_22 305397809 255 64 128).getD 2 0 % 2 ^ 32 + (wsd_22 305397809 255 64 128).getD 3 0 % 2 ^ 32 * 2 ^ 32 + (wsd_22 305397809 255 64 128).getD 1 0 % 2 ^ 32))) ∧
    (w22_7.wf = true ∧ 5 < 16 ∧ w22_7.rd DMA_CH_RUN 5 = 1 ∧ w22_7.dch 5 = { tries := 1 : DmaCh } ∧
      w22_7.rd DMA_CH_HEAD 5 ≠ w22_7.rd DMA_CH_TAIL 5 ∧ (2 = 1 ∧ (wsd_22 305397812 256 64 128).getD 0 0 % 16 ≠ 0 ∧
      ((wsd_22 305397812 256 64 128).getD 1 0 % 64 ≠ 0 ∨ (wsd_22 305397812 256 64 128).getD 0 0 % 16 ∈ [1, 3] ∧
      (wsd_22 305397812 256 64 128).getD 2 0 % 64 ≠ 0 ∨ (wsd_22 305397812 256 64 128).getD 0 0 % 16 ∈ [1, 2, 3] ∧
      (wsd_22 305397812 256 64 128).getD 4 0 % 64 ≠ 0) ∨ 2 = 2 ∧ (wsd_22 305397812 256 64 128).getD 0 0 % 16 = 0 ∧
      ¬((wsd_22 305397812 256 64 128).getD 0 0 / 256 % 256 = 0 ∧
      ∀ (k : Nat), k < 4 → (wsd_22 305397812 256 64 128).getD (8 + k) 0 % 2 ^ 32 = 0) ∨ 2 = 2 ∧
      (wsd_22 305397812 256 64 128).getD 0 0 % 16 ≠ 0 ∧ (wsd_22 305397812 256 64 128).getD 1 0 % 64 = 0 ∧
      (wsd_22 305397812 256 64 128).getD 2 0 % 64 = 0 ∧ (wsd_22 305397812 256 64 128).getD 4 0 % 64 = 0 ∧
      (4 ≤ (wsd_22 305397812 256 64 128).getD 0 0 % 16 ∨ (wsd_22 305397812 256 64 128).getD 1 0 % 2 ^ 32 = 0 ∨ ¬((wsd_22 305397812 256 64 128).getD 0 0 / 256 % 256 = 0 ∧
      ∀ (k : Nat), k < 4 → (wsd_22 305397812 256 64 128).getD (8 + k) 0 % 2 ^ 32 = 0) ∨ bit ((wsd_22 305397812 256 64 128).getD 0 0) 7 = true ∧
      (wsd_22 305397812 256 64 128).getD 0 0 % 16 ∈ [1, 2, 3] ∧
      67108864 < (wsd_22 305397812 256 64 128).getD 4 0 % 2 ^ 32 + (wsd_22 305397812 256 64 128).getD 5 0 % 2 ^ 32 * 2 ^ 32 + (wsd_22 305397812 256 64 128).getD 1 0 % 2 ^ 32 ∨ bit ((wsd_22 305397812 256 64 128).getD 0 0) 6 = true ∧
      (wsd_22 305397812 256 64 128).getD 0 0 % 16 ∈ [1, 3] ∧
      67108864 < (wsd_22 305397812 256 64 128).getD 2 0 % 2 ^ 32 + (wsd_22 305397812 256 64 128).getD 3 0 % 2 ^ 32 * 2 ^ 32 + (wsd_22 305397812 256 64 128).getD 1 0 % 2 ^ 32))) ∧
    (w22_7.wf = true ∧ 5 < 16 ∧ w22_7.rd DMA_CH_RUN 5 = 1 ∧ w22_7.dch 5 = { tries := 1 : DmaCh } ∧
      w22_7.rd DMA_CH_HEAD 5 ≠ w22_7.rd DMA_CH_TAIL 5 ∧ (2 = 1 ∧ (wsd_22 305398145 256 64 128).getD 0 0 % 16 ≠ 0 ∧
      ((wsd_22 305398145 256 64 128).getD 1 0 % 64 ≠ 0 ∨ (wsd_22 305398145 256 64 128).getD 0 0 % 16 ∈ [1, 3] ∧
      (wsd_22 305398145 256 64 128).getD 2 0 % 64 ≠ 0 ∨ (wsd_22 305398145 256 64 128).getD 0 0 % 16 ∈ [1, 2, 3] ∧
      (wsd_22 305398145 256 64 128).getD 4 0 % 64 ≠ 0) ∨ 2 = 2 ∧ (wsd_22 305398145 256 64 128).getD 0 0 % 16 = 0 ∧
      ¬((wsd_22 305398145 256 64 128).getD 0 0 / 256 % 256 = 0 ∧
      ∀ (k : Nat), k < 4 → (wsd_22 305398145 256 64 128).getD (8 + k) 0 % 2 ^ 32 = 0) ∨ 2 = 2 ∧
      (wsd_22 305398145 256 64 128).getD 0 0 % 16 ≠ 0 ∧ (wsd_22 305398145 256 64 128).getD 1 0 % 64 = 0 ∧
      (wsd_22 305398145 256 64 128).getD 2 0 % 64 = 0 ∧ (wsd_22 305398145 256 64 128).getD 4 0 % 64 = 0 ∧
      (4 ≤ (wsd_22 305398145 256 64 128).getD 0 0 % 16 ∨ (wsd_22 305398145 256 64 128).getD 1 0 % 2 ^ 32 = 0 ∨ ¬((wsd_22 305398145 256 64 128).getD 0 0 / 256 % 256 = 0 ∧
      ∀ (k : Nat), k < 4 → (wsd_22 305398145 256 64 128).getD (8 + k) 0 % 2 ^ 32 = 0) ∨ bit ((wsd_22 305398145 256 64 128).getD 0 0) 7 = true ∧
      (wsd_22 305398145 256 64 128).getD 0 0 % 16 ∈ [1, 2, 3] ∧
      67108864 < (wsd_22 305398145 256 64 128).getD 4 0 % 2 ^ 32 + (wsd_22 305398145 256 64 128).getD 5 0 % 2 ^ 32 * 2 ^ 32 + (wsd_22 305398145 256 64 128).getD 1 0 % 2 ^ 32 ∨ bit ((wsd_22 305398145 256 64 128).getD 0 0) 6 = true ∧
      (wsd_22 305398145 256 64 128).getD 0 0 % 16 ∈ [1, 3] ∧
      67108864 < (wsd_22 305398145 256 64 128).getD 2 0 % 2 ^ 32 + (wsd_22 305398145 256 64 128).getD 3 0 % 2 ^ 32 * 2 ^ 32 + (wsd_22 305398145 256 64 128).getD 1 0 % 2 ^ 32))) ∧
    (w22_7.wf = true ∧ 5 < 16 ∧ w22_7.rd DMA_CH_RUN 5 = 1 ∧ w22_7.dch 5 = { tries := 1 : DmaCh } ∧
      w22_7.rd DMA_CH_HEAD 5 ≠ w22_7.rd DMA_CH_TAIL 5) ∧
    (w22_13.wf = true ∧ 5 < 16 ∧ w22_13.rd DMA_CH_RUN 5 = 1 ∧ w22_13.dch 5 = { tries := 2 : DmaCh } ∧
      w22_13.rd DMA_CH_HEAD 5 ≠ w22_13.rd DMA_CH_TAIL 5) ∧
    (w22_4.wf = true ∧ 5 < 16 ∧ dA_22.op = 1 ∧ w22_4.dch 5 = { descs := [dA_22] : DmaCh } ∧ w22_4.rd DMA_CH_RUN 5 = 1 ∧
      (∀ (b : Nat × Nat), b ∈ dA_22.air → b.snd = 0) ∧ dA_22.air.length < 32 ∧ dA_22.issued < dA_22.len / 64 ∧ dA_22.len < 2 ^ 32 ∧ dA_22.diff = none ∧
      ∀ (k : Nat), k < 16 → k ≠ 5 → w22_4.dmaCanIssue k = false) ∧
    (w22_15.wf = true ∧ 5 < 16 ∧ (D_22 3 64 0 []).op = 3 ∧ w22_15.dch 5 = { descs := [D_22 3 64 0 []] : DmaCh } ∧
      w22_15.rd DMA_CH_RUN 5 = 1 ∧ (∀ (b : Nat × Nat), b ∈ (D_22 3 64 0 []).air → b.snd = 0) ∧ (D_22 3 64 0 []).air.length < 32 ∧
      (D_22 3 64 0 []).issued < (D_22 3 64 0 []).len / 64 ∧ (D_22 3 64 0 []).len < 2 ^ 32 ∧ (D_22 3 64 0 []).diff = none ∧
      ∀ (k : Nat), k < 16 → k ≠ 5 → w22_15.dmaCanIssue k = false) ∧
    (w22_16.wf = true ∧ 5 < 16 ∧ (Instr.fill 5, 2) ∈ [(Instr.copy 5, 1), (Instr.fill 5, 2), (Instr.compare 5, 3)] ∧
      (w22_16.dch 5).descs.getLast? = some dF_22 ∧ w22_16.rd DMA_CH_RUN 5 = 1 ∧ dF_22.barrier = true ∧ (w22_16.dch 5).descs.length ≠ 1) :=
  by refine ⟨?_, ?_, ?_, ?_, ?_, ?_, ?_, ?_⟩ <;> decide +kernel

/-- Hypotheses of DmaRuns that a state meets, clause by clause. -/
theorem witness_DmaRuns_3 :
    (w22_17.wf = true ∧ 5 < 16 ∧ w22_17.dch 5 = { descs := [D_22 0 0 0 []] : DmaCh } ∧ w22_17.rd DMA_CH_RUN 5 = 1 ∧
      (D_22 0 0 0 []).idx < 65536 ∧ (D_22 0 0 0 []).op = 0 ∧ (D_22 0 0 0 []).ready = false ∧ (D_22 0 0 0 []).air = [] ∧
      (D_22 0 0 0 []).failed = false ∧ (D_22 0 0 0 []).diff = none) ∧
    (w22_18.wf = true ∧ 5 < 16 ∧ w22_18.dch 5 = { descs := [dN0_22] : DmaCh } ∧ w22_18.rd DMA_CH_RUN 5 = 1 ∧ dN0_22.idx < 65536 ∧
      dN0_22.op = 0 ∧ dN0_22.ready = false ∧ dN0_22.air = [] ∧ dN0_22.failed = false ∧ dN0_22.diff = none) ∧
    (w22_19.wf = true ∧ 5 < 16 ∧ w22_19.dch 5 = { descs := [dF1_22] : DmaCh } ∧ w22_19.rd DMA_CH_RUN 5 = 1 ∧ dF1_22.idx < 65536 ∧
      (dF1_22.op = 1 ∨ dF1_22.op = 2) ∧ dF1_22.srcReg = false ∧ dF1_22.dstReg = false ∧ dF1_22.air = [(3, 0)] ∧ dF1_22.issued = dF1_22.len / 64 ∧
      dF1_22.failed = false ∧ dF1_22.diff = none ∧ (B64_22 3).length = 64 ∧ ((B64_22 3).all fun x => decide (x < 256)) = true ∧
      dF1_22.pattern < 2 ^ 64) ∧
    (w22_20.wf = true ∧ 5 < 16 ∧ w22_20.dch 5 = { descs := [D_22 1 256 4 [(3, 0)]] : DmaCh } ∧ w22_20.rd DMA_CH_RUN 5 = 1 ∧
      (D_22 1 256 4 [(3, 0)]).idx < 65536 ∧ ((D_22 1 256 4 [(3, 0)]).op = 1 ∨ (D_22 1 256 4 [(3, 0)]).op = 2) ∧
      (D_22 1 256 4 [(3, 0)]).srcReg = false ∧ (D_22 1 256 4 [(3, 0)]).dstReg = false ∧ (D_22 1 256 4 [(3, 0)]).air = [(3, 0)] ∧
      (D_22 1 256 4 [(3, 0)]).issued = (D_22 1 256 4 [(3, 0)]).len / 64 ∧ (D_22 1 256 4 [(3, 0)]).failed = false ∧
      (D_22 1 256 4 [(3, 0)]).diff = none ∧ (B64_22 3).length = 64 ∧ ((B64_22 3).all fun x => decide (x < 256)) = true ∧
      (D_22 1 256 4 [(3, 0)]).pattern < 2 ^ 64) ∧
    (w22_21.wf = true ∧ 5 < 16 ∧ w22_21.dch 5 = { descs := [D_22 1 256 4 [(1, 0), (0, 0)]] : DmaCh } ∧ w22_21.rd DMA_CH_RUN 5 = 1 ∧
      (D_22 1 256 4 [(1, 0), (0, 0)]).idx < 65536 ∧ (D_22 1 256 4 [(1, 0), (0, 0)]).op = 1 ∧ (D_22 1 256 4 [(1, 0), (0, 0)]).srcReg = false ∧
      (D_22 1 256 4 [(1, 0), (0, 0)]).dstReg = false ∧ (D_22 1 256 4 [(1, 0), (0, 0)]).air = [(1, 0), (0, 0)] ∧ 1 ≠ 0 ∧
      (D_22 1 256 4 [(1, 0), (0, 0)]).failed = false ∧ (D_22 1 256 4 [(1, 0), (0, 0)]).diff = none ∧ (B64_22 3).length = 64 ∧
      ((B64_22 3).all fun x => decide (x < 256)) = true) ∧
    (w22_22.wf = true ∧ 5 < 16 ∧ w22_22.dch 5 = { descs := [dC1_22] : DmaCh } ∧ w22_22.rd DMA_CH_RUN 5 = 1 ∧ dC1_22.idx < 65536 ∧
      dC1_22.op = 3 ∧ dC1_22.srcReg = false ∧ dC1_22.dstReg = false ∧ dC1_22.air = [(2, 0)] ∧ dC1_22.failed = false ∧ dC1_22.diff = none ∧
      (B64_22 3).length = 64 ∧ ((B64_22 3).all fun x => decide (x < 256)) = true ∧ ((B64_22 3).set 9 1).length = 64 ∧
      (((B64_22 3).set 9 1).all fun x => decide (x < 256)) = true ∧ 9 < 64 ∧ (B64_22 3).getD 9 0 ≠ ((B64_22 3).set 9 1).getD 9 0 ∧
      List.take 9 (B64_22 3) = List.take 9 ((B64_22 3).set 9 1)) ∧
    (w22_23.wf = true ∧ 5 < 16 ∧ w22_23.dch 5 = { descs := [D_22 3 256 3 [(2, 1)]] : DmaCh } ∧ w22_23.rd DMA_CH_RUN 5 = 1 ∧
      (D_22 3 256 3 [(2, 1)]).idx < 65536 ∧ ((D_22 3 256 3 [(2, 1)]).op = 1 ∨ (D_22 3 256 3 [(2, 1)]).op = 3) ∧
      (D_22 3 256 3 [(2, 1)]).srcReg = false ∧ ((D_22 3 256 3 [(2, 1)]).op = 3 → (D_22 3 256 3 [(2, 1)]).dstReg = false) ∧
      (D_22 3 256 3 [(2, 1)]).air = [(2, 1)] ∧ (D_22 3 256 3 [(2, 1)]).issued ≤ (D_22 3 256 3 [(2, 1)]).len / 64 ∧
      (D_22 3 256 3 [(2, 1)]).len < 2 ^ 32) ∧
    (w22_24.wf = true ∧ 5 < 16 ∧ w22_24.dch 5 = { descs := [D_22 1 256 4 [(3, 2)]] : DmaCh } ∧ w22_24.rd DMA_CH_RUN 5 = 1 ∧
      (D_22 1 256 4 [(3, 2)]).idx < 65536 ∧ ((D_22 1 256 4 [(3, 2)]).op = 1 ∨ (D_22 1 256 4 [(3, 2)]).op = 3) ∧
      (D_22 1 256 4 [(3, 2)]).srcReg = false ∧ ((D_22 1 256 4 [(3, 2)]).op = 3 → (D_22 1 256 4 [(3, 2)]).dstReg = false) ∧
      (D_22 1 256 4 [(3, 2)]).air = [(3, 2)] ∧ (D_22 1 256 4 [(3, 2)]).issued ≤ (D_22 1 256 4 [(3, 2)]).len / 64 ∧
      (D_22 1 256 4 [(3, 2)]).len < 2 ^ 32) :=
  by refine ⟨?_, ?_, ?_, ?_, ?_, ?_, ?_, ?_⟩ <;> decide +kernel

/-- Hypotheses of DmaRuns that a state meets, clause by clause. -/
theorem witness_DmaRuns_4 :
    (w22_25.wf = true ∧ 5 < 16 ∧ w22_25.dch 5 = { descs := [dR_22] : DmaCh } ∧ w22_25.rd DMA_CH_RUN 5 = 1 ∧ dR_22.idx < 65536 ∧
      (dR_22.op = 1 ∨ dR_22.op = 2) ∧ dR_22.srcReg = false ∧ dR_22.dstReg = true ∧ decodeAddr ((dR_22.dst + 64 * 3) / 4 * 4) = none ∧
      w22_25.rd DMA_CH_OWNER 5 = 0 ∧ dR_22.air = [(3, w22_25.rd DMA_CH_RETRY 5)] ∧ dR_22.issued = dR_22.len / 64) ∧
    (w22_26.wf = true ∧ 4 < 16 ∧ w22_26.dark = false ∧ w22_26.rd DMA_RS_TX_EN 4 = 1 ∧
      w22_26.rd DMA_RS_TX_HEAD 4 ≠ w22_26.rd DMA_RS_TX_TAIL 4 ∧ (∀ (k : Nat), k < 16 → k ≠ 4 → w22_26.injReady k = false) ∧ (1 = 1 ∧
      ([0, 0, 98368, 0].getD 2 0 / 2 ^ 16 % 4 = 0 ∧
      w22_26.rd DMA_RS_INJ_CLASSIFY 4 = 0 ∨ [0, 0, 98368, 0].getD 2 0 / 2 ^ 16 % 4 ∈ [1, 2] ∧
      w22_26.rd DMA_RS_INJ_DIRECT 4 = 0) ∨ 1 = 2 ∧
      ([0, 0, 98368, 0].getD 2 0 / 2 ^ 16 % 4 = 3 ∨ ([0, 0, 98368, 0].getD 2 0 / 2 ^ 16 % 4 ≠ 0 ∨ w22_26.rd DMA_RS_INJ_CLASSIFY 4 = 1) ∧
      ([0, 0, 98368, 0].getD 2 0 / 2 ^ 16 % 4 = 0 ∨ w22_26.rd DMA_RS_INJ_DIRECT 4 = 1) ∧
      ([0, 0, 98368, 0].getD 2 0 % 2 ^ 14 < 64 ∨ 16000 < [0, 0, 98368, 0].getD 2 0 % 2 ^ 14 ∨ [0, 0, 98368, 0].getD 2 0 / 2 ^ 16 % 4 = 2 ∧
      128 ≤ [0, 0, 98368, 0].getD 3 0 % 2 ^ 12)) ∨ 1 = 3 ∧ (none : Option (List Nat)) = none ∧
      [0, 0, 98368, 0].getD 2 0 / 2 ^ 16 % 4 = 2 ∧ w22_26.rd DMA_RS_INJ_DIRECT 4 = 1 ∧ 64 ≤ [0, 0, 98368, 0].getD 2 0 % 2 ^ 14 ∧
      [0, 0, 98368, 0].getD 2 0 % 2 ^ 14 ≤ 16000 ∧ [0, 0, 98368, 0].getD 3 0 % 2 ^ 12 < 128)) ∧
    (w22_27.wf = true ∧ 4 < 16 ∧ w22_27.dark = false ∧ w22_27.rd DMA_RS_TX_EN 4 = 1 ∧
      w22_27.rd DMA_RS_TX_HEAD 4 ≠ w22_27.rd DMA_RS_TX_TAIL 4 ∧ (∀ (k : Nat), k < 16 → k ≠ 4 → w22_27.injReady k = false) ∧ (2 = 1 ∧
      ([0, 0, 163903, 0].getD 2 0 / 2 ^ 16 % 4 = 0 ∧
      w22_27.rd DMA_RS_INJ_CLASSIFY 4 = 0 ∨ [0, 0, 163903, 0].getD 2 0 / 2 ^ 16 % 4 ∈ [1, 2] ∧
      w22_27.rd DMA_RS_INJ_DIRECT 4 = 0) ∨ 2 = 2 ∧
      ([0, 0, 163903, 0].getD 2 0 / 2 ^ 16 % 4 = 3 ∨ ([0, 0, 163903, 0].getD 2 0 / 2 ^ 16 % 4 ≠ 0 ∨ w22_27.rd DMA_RS_INJ_CLASSIFY 4 = 1) ∧
      ([0, 0, 163903, 0].getD 2 0 / 2 ^ 16 % 4 = 0 ∨ w22_27.rd DMA_RS_INJ_DIRECT 4 = 1) ∧
      ([0, 0, 163903, 0].getD 2 0 % 2 ^ 14 < 64 ∨ 16000 < [0, 0, 163903, 0].getD 2 0 % 2 ^ 14 ∨ [0, 0, 163903, 0].getD 2 0 / 2 ^ 16 % 4 = 2 ∧
      128 ≤ [0, 0, 163903, 0].getD 3 0 % 2 ^ 12)) ∨ 2 = 3 ∧ (none : Option (List Nat)) = none ∧
      [0, 0, 163903, 0].getD 2 0 / 2 ^ 16 % 4 = 2 ∧ w22_27.rd DMA_RS_INJ_DIRECT 4 = 1 ∧ 64 ≤ [0, 0, 163903, 0].getD 2 0 % 2 ^ 14 ∧
      [0, 0, 163903, 0].getD 2 0 % 2 ^ 14 ≤ 16000 ∧ [0, 0, 163903, 0].getD 3 0 % 2 ^ 12 < 128)) ∧
    (w22_27.wf = true ∧ 4 < 16 ∧ w22_27.dark = false ∧ w22_27.rd DMA_RS_TX_EN 4 = 1 ∧
      w22_27.rd DMA_RS_TX_HEAD 4 ≠ w22_27.rd DMA_RS_TX_TAIL 4 ∧ (∀ (k : Nat), k < 16 → k ≠ 4 → w22_27.injReady k = false) ∧ (3 = 1 ∧
      ([0, 0, 131136, 127].getD 2 0 / 2 ^ 16 % 4 = 0 ∧
      w22_27.rd DMA_RS_INJ_CLASSIFY 4 = 0 ∨ [0, 0, 131136, 127].getD 2 0 / 2 ^ 16 % 4 ∈ [1, 2] ∧
      w22_27.rd DMA_RS_INJ_DIRECT 4 = 0) ∨ 3 = 2 ∧
      ([0, 0, 131136, 127].getD 2 0 / 2 ^ 16 % 4 = 3 ∨ ([0, 0, 131136, 127].getD 2 0 / 2 ^ 16 % 4 ≠ 0 ∨ w22_27.rd DMA_RS_INJ_CLASSIFY 4 = 1) ∧
      ([0, 0, 131136, 127].getD 2 0 / 2 ^ 16 % 4 = 0 ∨ w22_27.rd DMA_RS_INJ_DIRECT 4 = 1) ∧
      ([0, 0, 131136, 127].getD 2 0 % 2 ^ 14 < 64 ∨ 16000 < [0, 0, 131136, 127].getD 2 0 % 2 ^ 14 ∨ [0, 0, 131136, 127].getD 2 0 / 2 ^ 16 % 4 = 2 ∧
      128 ≤ [0, 0, 131136, 127].getD 3 0 % 2 ^ 12)) ∨ 3 = 3 ∧ (none : Option (List Nat)) = none ∧
      [0, 0, 131136, 127].getD 2 0 / 2 ^ 16 % 4 = 2 ∧ w22_27.rd DMA_RS_INJ_DIRECT 4 = 1 ∧
      64 ≤ [0, 0, 131136, 127].getD 2 0 % 2 ^ 14 ∧ [0, 0, 131136, 127].getD 2 0 % 2 ^ 14 ≤ 16000 ∧
      [0, 0, 131136, 127].getD 3 0 % 2 ^ 12 < 128)) ∧
    (w22_27.wf = true ∧ 4 < 16 ∧ w22_27.dark = false ∧ w22_27.rd DMA_RS_TX_EN 4 = 1 ∧
      w22_27.rd DMA_RS_TX_HEAD 4 ≠ w22_27.rd DMA_RS_TX_TAIL 4 ∧ (∀ (k : Nat), k < 16 → k ≠ 4 → w22_27.injReady k = false) ∧
      [0, 0, 147520, 127].getD 2 0 / 2 ^ 16 % 4 = 2 ∧ w22_27.rd DMA_RS_INJ_DIRECT 4 = 1 ∧
      (B64_22 5).length = [0, 0, 147520, 127].getD 2 0 % 2 ^ 14 ∧ 64 ≤ (B64_22 5).length ∧ (B64_22 5).length ≤ 16000 ∧
      ((B64_22 5).all fun x => decide (x < 256)) = true ∧ 127 = [0, 0, 147520, 127].getD 3 0 % 2 ^ 12 ∧ 127 < 128 ∧
      w22_27.rd QSH_EQ_EN 127 = 1 ∧ w22_27.rd QSH_EQ_QMAX 127 = 0 ∧ w22_27.dbuf + (B64_22 5).length ≤ dbufSize) ∧
    (w22_30.wf = true ∧ 5 < 16 ∧ (D_22 2 64 0 []).op = 2 ∧ w22_30.dch 5 = { descs := [D_22 2 64 0 []] : DmaCh } ∧
      w22_30.rd DMA_CH_RUN 5 = 1 ∧ (∀ (b : Nat × Nat), b ∈ (D_22 2 64 0 []).air → b.snd = 0) ∧ (D_22 2 64 0 []).air.length < 32 ∧
      (D_22 2 64 0 []).issued < (D_22 2 64 0 []).len / 64 ∧ (D_22 2 64 0 []).len < 2 ^ 32 ∧ (D_22 2 64 0 []).diff = none ∧
      ∀ (k : Nat), k < 16 → k ≠ 5 → w22_30.dmaCanIssue k = false) :=
  by refine ⟨?_, ?_, ?_, ?_, ?_, ?_⟩ <;> decide +kernel

end Sys2Proof.Tests
end

section
namespace Sys2Proof.Machine

/-! Tables of records read back what was written -/

theorem amGet?_amSet_same {α : Type} (m : List (Nat × α)) (k : Nat) (v : α) : amGet? (amSet m k v) k = some v := by
  induction m with
  | nil => simp [amSet, amGet?]
  | cons e m ih =>
    obtain ⟨a, x⟩ := e
    by_cases hk : k = a
    · simp [amSet, amGet?, hk]
    · by_cases hl : k < a <;> simp [amSet, amGet?, hk, hl, ih]

theorem amGet?_amSet_ne {α : Type} (m : List (Nat × α)) {k j : Nat} (v : α) (h : j ≠ k) : amGet? (amSet m k v) j = amGet? m j := by
  induction m with
  | nil => simp [amSet, amGet?, h]
  | cons e m ih =>
    obtain ⟨a, x⟩ := e
    by_cases hk : k = a
    · subst hk; simp [amSet, amGet?, h]
    · by_cases hl : k < a <;> simp [amSet, amGet?, hk, hl, h, ih]

/-! The arbitration order (R32) -/

theorem State.order_won_same (s : State) (t n w : Nat) : (s.won t n w).order t n = (s.order t n).filter (· != w) ++ [w] := by
  simp [State.won, State.order, amGetD, amGet?_amSet_same]

theorem State.order_won_ne (s : State) {t t' : Nat} (n w : Nat) (h : t' ≠ t) : (s.won t n w).order t' n = s.order t' n := by
  simp [State.won, State.order, amGetD, amGet?_amSet_ne _ _ h]

theorem State.order_unmoved {s : State} (t n : Nat) (h : s.orders = []) : s.order t n = List.range n := by
  simp [State.order, h, amGetD, amGet?]

/-- The winner is the lone contender, or the first of the order that contends. -/
theorem State.winner_eq_some {s : State} {t n w : Nat} {cs : List Nat} (h : s.winner t n cs = some w) :
    cs = [w] ∨ (w ∈ cs ∧ ∃ l r, s.order t n = l ++ w :: r ∧ ∀ x ∈ l, x ∉ cs) := by
  unfold State.winner at h
  split at h
  next hc =>
    left
    match cs, hc, h with
    | [c], _, h => simpa using h
  next =>
    right
    obtain ⟨hw, l, r, ho, hl⟩ := List.find?_eq_some_iff_append.mp h
    exact ⟨by simpa using hw, l, r, ho, fun x hx => by simpa using hl x hx⟩

/-- What stands before the first place of `w` in a list is determined by the list. -/
theorem eq_of_append_cons_eq {α : Type} {w : α} {l l' r r' : List α} (hw : w ∉ l) (hw' : w ∉ l') (e : l ++ w :: r = l' ++ w :: r') :
    l = l' := by
  rcases List.append_eq_append_iff.mp e with ⟨c, h1, h2⟩ | ⟨c, h1, h2⟩ <;> cases c with
  | nil => simp [h1]
  | cons y c =>
    obtain ⟨rfl, _⟩ := List.cons.inj h2
    simp [h1] at hw hw'

/-- No contender stands before the winner. -/
theorem State.winner_first {s : State} {t n w : Nat} {cs l r : List Nat} (h : s.winner t n cs = some w) (ho : s.order t n = l ++ w :: r)
    (hw : w ∉ l) : ∀ x ∈ l, x ∉ cs := by
  rcases State.winner_eq_some h with rfl | ⟨hc, l', r', ho', hl'⟩
  · intro x hx hm
    exact hw (List.mem_singleton.mp hm ▸ hx)
  · exact eq_of_append_cons_eq hw (fun hm => hl' w hm hc) (ho ▸ ho') ▸ hl'


/-! The commands that move the mode (R35, R36) -/

/-- The commands whose meaning can change the mode: resets, boundaries, transitions, losses of line time or of registration, and accesses
that can carry one of these. -/
def movesMode : Instr → Bool
  | .resetAssert _ | .resetRelease _ | .pgoodFall | .swReset | .imageCheck _ | .modeTransitionComplete | .frameBoundary _ _
  | .multiframeBoundary _ | .ltHoldoverExpiry | .rsExpectWrite _ | .acqStateOverrun _ | .fawInframeWord _ _ _
  | .overheadBlock _ _ _ | .lineParams _ | .rangeResult _ | .deregister _ | .joinAbort | .joinEntry | .discCollide
  | .rangeTimeout | .registerWrite _ _ _ _ _ _ _ | .lockFieldWrite _ _ _ | .stickyClr _ _ _ | .intRegisterWrite _ _ _ _ _
  | .intForce _ _ _ | .twoWireWrite _ _ _ | .dmaBeatAnswer _ _ _ _ _ _ _ | .masterLost | .grazeEntry | .stableEntry
  | .thermalSample _ _ _ _ | .vddAonFall | .pgoodExitTimeout => true
  | _ => false

/-- Every command completes, and the frame of its meaning names the mode only where `movesMode` does. -/
theorem exec_frame (c : Instr) (s : State) :
    ∃ W t, exec c s = .next t ∧ Does W s t ∧ (Nat.testBit W 1006 = false ∨ movesMode c = true) :=
  match c with
  | .resetAssert _ => ⟨_, _, rfl, resetAssert_does _ (Nat.or_self _) (.refl _ s), .inr rfl⟩
  | .resetRelease _ => ⟨_, _, rfl, resetRelease_does _ (Nat.or_self _) (.refl _ s), .inr rfl⟩
  | .vddAonRise => ⟨_, _, rfl, vddAonRise_does (Nat.or_self _) (.refl _ s), .inl (by decide)⟩
  | .pgoodRise => ⟨_, _, rfl, pgoodRise_does (Nat.or_self _) (.refl _ s), .inl (by decide)⟩
  | .pgoodFall => ⟨_, _, rfl, pgoodFall_does (Nat.or_self _) (.refl _ s), .inr rfl⟩
  | .swReset => ⟨_, _, rfl, swReset_does (Nat.or_self _) (.refl _ s), .inr rfl⟩
  | .pciePerst => ⟨_, _, rfl, pciePerst_does (Nat.or_self _) (.refl _ s), .inl (by decide)⟩
  | .functionLevelReset _ => ⟨_, _, rfl, functionLevelReset_does _ (Nat.or_self _) (.refl _ s), .inl (by decide)⟩
  | .memorySelftestDone _ => ⟨_, _, rfl, memorySelftestDone_does _ (Nat.or_self _) (.refl _ s), .inl (by decide)⟩
  | .imageCheck _ => ⟨_, _, rfl, imageCheck_does _ (Nat.or_self _) (.refl _ s), .inr rfl⟩
  | .hostGo => ⟨_, _, rfl, hostGo_does (Nat.or_self _) (.refl _ s), .inl (by decide)⟩
  | .twFifoWrite _ => ⟨_, _, rfl, twFifoWrite_does _ (Nat.or_self _) (.refl _ s), .inl (by decide)⟩
  | .recGo => ⟨_, _, rfl, recGo_does (Nat.or_self _) (.refl _ s), .inl (by decide)⟩
  | .recCommitDone _ => ⟨_, _, rfl, recCommitDone_does _ (Nat.or_self _) (.refl _ s), .inl (by decide)⟩
  | .modeTransitionComplete => ⟨_, _, rfl, modeTransitionComplete_does (Nat.or_self _) (.refl _ s), .inr rfl⟩
  | .clockMonitorFault _ => ⟨_, _, rfl, clockMonitorFault_does _ (Nat.or_self _) (.refl _ s), .inl (by decide)⟩
  | .ltSkew _ _ _ => ⟨_, _, rfl, ltSkew_does _ _ _ (Nat.or_self _) (.refl _ s), .inl (by decide)⟩
  | .slotBoundary => ⟨_, _, rfl, slotBoundary_does (Nat.or_self _) (.refl _ s), .inl (by decide)⟩
  | .frameBoundary _ _ => ⟨_, _, rfl, frameBoundary_does _ _ (Nat.or_self _) (.refl _ s), .inr rfl⟩
  | .multiframeBoundary _ => ⟨_, _, rfl, multiframeBoundary_does _ (Nat.or_self _) (.refl _ s), .inr rfl⟩
  | .superframeBoundary _ => ⟨_, _, rfl, superframeBoundary_does _ (Nat.or_self _) (.refl _ s), .inl (by decide)⟩
  | .ltHoldoverExpiry => ⟨_, _, rfl, ltHoldoverExpiry_does (Nat.or_self _) (.refl _ s), .inr rfl⟩
  | .fineRangeReq => ⟨_, _, rfl, fineRangeReq_does (Nat.or_self _) (.refl _ s), .inl (by decide)⟩
  | .applyReq _ _ => ⟨_, _, rfl, applyReq_does _ _ (Nat.or_self _) (.refl _ s), .inl (by decide)⟩
  | .applyCancel _ => ⟨_, _, rfl, applyCancel_does _ (Nat.or_self _) (.refl _ s), .inl (by decide)⟩
  | .applyMarkerPass _ _ => ⟨_, _, rfl, applyMarkerPass_does _ _ (Nat.or_self _) (.refl _ s), .inl (by decide)⟩
  | .atLtApply => ⟨_, _, rfl, atLtApply_does (Nat.or_self _) (.refl _ s), .inl (by decide)⟩
  | .ltSnapRead _ => ⟨_, _, rfl, ltSnapRead_does _ (Nat.or_self _) (.refl _ s), .inl (by decide)⟩
  | .launchEntryArm _ _ => ⟨_, _, rfl, launchEntryArm_does _ _ (Nat.or_self _) (.refl _ s), .inl (by decide)⟩
  | .launchEntryDisarm _ _ => ⟨_, _, rfl, launchEntryDisarm_does _ _ (Nat.or_self _) (.refl _ s), .inl (by decide)⟩
  | .launchEntryFire => ⟨_, _, rfl, launchEntryFire_does (Nat.or_self _) (.refl _ s), .inl (by decide)⟩
  | .rsExpectWrite _ => ⟨_, _, rfl, rsExpectWrite_does _ (Nat.or_self _) (.refl _ s), .inr rfl⟩
  | .coefBankWrite _ _ _ _ _ => ⟨_, _, rfl, coefBankWrite_does _ _ _ _ _ (Nat.or_self _) (.refl _ s), .inl (by decide)⟩
  | .acqGainSettled _ => ⟨_, _, rfl, acqGainSettled_does _ (Nat.or_self _) (.refl _ s), .inl (by decide)⟩
  | .acqCdFound _ _ => ⟨_, _, rfl, acqCdFound_does _ _ (Nat.or_self _) (.refl _ s), .inl (by decide)⟩
  | .acqCdHintMiss _ => ⟨_, _, rfl, acqCdHintMiss_does _ (Nat.or_self _) (.refl _ s), .inl (by decide)⟩
  | .acqFreqAcquired _ => ⟨_, _, rfl, acqFreqAcquired_does _ (Nat.or_self _) (.refl _ s), .inl (by decide)⟩
  | .acqEqConverged _ => ⟨_, _, rfl, acqEqConverged_does _ (Nat.or_self _) (.refl _ s), .inl (by decide)⟩
  | .acqStateOverrun _ => ⟨_, _, rfl, acqStateOverrun_does _ (Nat.or_self _) (.refl _ s), .inr rfl⟩
  | .blockDecoded _ _ _ _ _ => ⟨_, _, rfl, blockDecoded_does _ _ _ _ _ (Nat.or_self _) (.refl _ s), .inl (by decide)⟩
  | .fawSearchWord _ _ _ _ => ⟨_, _, rfl, fawSearchWord_does _ _ _ _ (Nat.or_self _) (.refl _ s), .inl (by decide)⟩
  | .fawInframeWord _ _ _ => ⟨_, _, rfl, fawInframeWord_does _ _ _ (Nat.or_self _) (.refl _ s), .inr rfl⟩
  | .overheadBlock _ _ _ => ⟨_, _, rfl, overheadBlock_does _ _ _ (Nat.or_self _) (.refl _ s), .inr rfl⟩
  | .delineateUnit _ => ⟨_, _, rfl, delineateUnit_does _ (Nat.or_self _) (.refl _ s), .inl (by decide)⟩
  | .fillRecord _ => ⟨_, _, rfl, fillRecord_does _ (Nat.or_self _) (.refl _ s), .inl (by decide)⟩
  | .wakeMap _ => ⟨_, _, rfl, wakeMap_does _ (Nat.or_self _) (.refl _ s), .inl (by decide)⟩
  | .profileTable _ => ⟨_, _, rfl, profileTable_does _ (Nat.or_self _) (.refl _ s), .inl (by decide)⟩
  | .allocMap _ => ⟨_, _, rfl, allocMap_does _ (Nat.or_self _) (.refl _ s), .inl (by decide)⟩
  | .rdiList _ => ⟨_, _, rfl, rdiList_does _ (Nat.or_self _) (.refl _ s), .inl (by decide)⟩
  | .reservedRecord _ => ⟨_, _, rfl, reservedRecord_does _ (Nat.or_self _) (.refl _ s), .inl (by decide)⟩
  | .recordHeaderError _ => ⟨_, _, rfl, recordHeaderError_does _ (Nat.or_self _) (.refl _ s), .inl (by decide)⟩
  | .defectConditionMet _ _ _ _ => ⟨_, _, rfl, defectConditionMet_does _ _ _ _ (Nat.or_self _) (.refl _ s), .inl (by decide)⟩
  | .sdChange _ _ => ⟨_, _, rfl, sdChange_does _ _ (Nat.or_self _) (.refl _ s), .inl (by decide)⟩
  | .grantEntry _ _ => ⟨_, _, rfl, grantEntry_does _ _ (Nat.or_self _) (.refl _ s), .inl (by decide)⟩
  | .grantCancel _ _ => ⟨_, _, rfl, grantCancel_does _ _ (Nat.or_self _) (.refl _ s), .inl (by decide)⟩
  | .lineParams _ => ⟨_, _, rfl, lineParams_does _ (Nat.or_self _) (.refl _ s), .inr rfl⟩
  | .discoveryOpen _ => ⟨_, _, rfl, discoveryOpen_does _ (Nat.or_self _) (.refl _ s), .inl (by decide)⟩
  | .assignId _ => ⟨_, _, rfl, assignId_does _ (Nat.or_self _) (.refl _ s), .inl (by decide)⟩
  | .rangeResult _ => ⟨_, _, rfl, rangeResult_does _ (Nat.or_self _) (.refl _ s), .inr rfl⟩
  | .eqdAdjust _ => ⟨_, _, rfl, eqdAdjust_does _ (Nat.or_self _) (.refl _ s), .inl (by decide)⟩
  | .profileSet _ => ⟨_, _, rfl, profileSet_does _ (Nat.or_self _) (.refl _ s), .inl (by decide)⟩
  | .keyEpoch _ => ⟨_, _, rfl, keyEpoch_does _ (Nat.or_self _) (.refl _ s), .inl (by decide)⟩
  | .silence _ => ⟨_, _, rfl, silence_does _ (Nat.or_self _) (.refl _ s), .inl (by decide)⟩
  | .release _ => ⟨_, _, rfl, release_does _ (Nat.or_self _) (.refl _ s), .inl (by decide)⟩
  | .deregister _ => ⟨_, _, rfl, deregister_does _ (Nat.or_self _) (.refl _ s), .inr rfl⟩
  | .grazeAck _ => ⟨_, _, rfl, grazeAck_does _ (Nat.or_self _) (.refl _ s), .inl (by decide)⟩
  | .oamTunnel _ => ⟨_, _, rfl, oamTunnel_does _ (Nat.or_self _) (.refl _ s), .inl (by decide)⟩
  | .timeInfo _ => ⟨_, _, rfl, timeInfo_does _ (Nat.or_self _) (.refl _ s), .inl (by decide)⟩
  | .stackMap _ => ⟨_, _, rfl, stackMap_does _ (Nat.or_self _) (.refl _ s), .inl (by decide)⟩
  | .asymSet _ => ⟨_, _, rfl, asymSet_does _ (Nat.or_self _) (.refl _ s), .inl (by decide)⟩
  | .groupSet _ => ⟨_, _, rfl, groupSet_does _ (Nat.or_self _) (.refl _ s), .inl (by decide)⟩
  | .unknownMessage _ => ⟨_, _, rfl, unknownMessage_does _ (Nat.or_self _) (.refl _ s), .inl (by decide)⟩
  | .hostLate => ⟨_, _, rfl, hostLate_does (Nat.or_self _) (.refl _ s), .inl (by decide)⟩
  | .inPop => ⟨_, _, rfl, inPop_does (Nat.or_self _) (.refl _ s), .inl (by decide)⟩
  | .outPush => ⟨_, _, rfl, outPush_does (Nat.or_self _) (.refl _ s), .inl (by decide)⟩
  | .joinEnSet => ⟨_, _, rfl, joinEnSet_does (Nat.or_self _) (.refl _ s), .inl (by decide)⟩
  | .joinAbort => ⟨_, _, rfl, joinAbort_does (Nat.or_self _) (.refl _ s), .inr rfl⟩
  | .joinEntry => ⟨_, _, rfl, joinEntry_does (Nat.or_self _) (.refl _ s), .inr rfl⟩
  | .discoveryBurstStart => ⟨_, _, rfl, discoveryBurstStart_does (Nat.or_self _) (.refl _ s), .inl (by decide)⟩
  | .discCollide => ⟨_, _, rfl, discCollide_does (Nat.or_self _) (.refl _ s), .inr rfl⟩
  | .rangeTimeout => ⟨_, _, rfl, rangeTimeout_does (Nat.or_self _) (.refl _ s), .inr rfl⟩
  | .silenceExpiry => ⟨_, _, rfl, silenceExpiry_does (Nat.or_self _) (.refl _ s), .inl (by decide)⟩
  | .grazeAckTimeout => ⟨_, _, rfl, grazeAckTimeout_does (Nat.or_self _) (.refl _ s), .inl (by decide)⟩
  | .burstCommit _ => ⟨_, _, rfl, burstCommit_does _ (Nat.or_self _) (.refl _ s), .inl (by decide)⟩
  | .burstLaunch => ⟨_, _, rfl, burstLaunch_does (Nat.or_self _) (.refl _ s), .inl (by decide)⟩
  | .burstEnd _ => ⟨_, _, rfl, burstEnd_does _ (Nat.or_self _) (.refl _ s), .inl (by decide)⟩
  | .guardTrip _ _ => ⟨_, _, rfl, guardTrip_does _ _ (Nat.or_self _) (.refl _ s), .inl (by decide)⟩
  | .txPathUngate => ⟨_, _, rfl, txPathUngate_does (Nat.or_self _) (.refl _ s), .inl (by decide)⟩
  | .txPathGate => ⟨_, _, rfl, txPathGate_does (Nat.or_self _) (.refl _ s), .inl (by decide)⟩
  | .portEnable _ _ => ⟨_, _, rfl, portEnable_does _ _ (Nat.or_self _) (.refl _ s), .inl (by decide)⟩
  | .linkUpRise _ => ⟨_, _, rfl, linkUpRise_does _ (Nat.or_self _) (.refl _ s), .inl (by decide)⟩
  | .linkUpFall _ _ => ⟨_, _, rfl, linkUpFall_does _ _ (Nat.or_self _) (.refl _ s), .inl (by decide)⟩
  | .clientFrameRx _ _ _ => ⟨_, _, rfl, clientFrameRx_does _ _ _ (Nat.or_self _) (.refl _ s), .inl (by decide)⟩
  | .pauseTimerExpiry _ _ => ⟨_, _, rfl, pauseTimerExpiry_does _ _ (Nat.or_self _) (.refl _ s), .inl (by decide)⟩
  | .pauseRefresh _ => ⟨_, _, rfl, pauseRefresh_does _ (Nat.or_self _) (.refl _ s), .inl (by decide)⟩
  | .ingressDrain _ => ⟨_, _, rfl, ingressDrain_does _ (Nat.or_self _) (.refl _ s), .inl (by decide)⟩
  | .flowControlDisable _ _ => ⟨_, _, rfl, flowControlDisable_does _ _ (Nat.or_self _) (.refl _ s), .inl (by decide)⟩
  | .egressFrameStart _ => ⟨_, _, rfl, egressFrameStart_does _ (Nat.or_self _) (.refl _ s), .inl (by decide)⟩
  | .classifyFrame _ _ => ⟨_, _, rfl, classifyFrame_does _ _ (Nat.or_self _) (.refl _ s), .inl (by decide)⟩
  | .reorderRelease _ _ _ _ => ⟨_, _, rfl, reorderRelease_does _ _ _ _ (Nat.or_self _) (.refl _ s), .inl (by decide)⟩
  | .stage => ⟨_, _, rfl, stage_does (Nat.or_self _) (.refl _ s), .inl (by decide)⟩
  | .stageDone => ⟨_, _, rfl, stageDone_does (Nat.or_self _) (.refl _ s), .inl (by decide)⟩
  | .abandon => ⟨_, _, rfl, abandon_does (Nat.or_self _) (.refl _ s), .inl (by decide)⟩
  | .commitComplete => ⟨_, _, rfl, commitComplete_does (Nat.or_self _) (.refl _ s), .inl (by decide)⟩
  | .versionRetire _ => ⟨_, _, rfl, versionRetire_does _ (Nat.or_self _) (.refl _ s), .inl (by decide)⟩
  | .ruleEntryWrite _ _ _ => ⟨_, _, rfl, ruleEntryWrite_does _ _ _ (Nat.or_self _) (.refl _ s), .inl (by decide)⟩
  | .vmaskWrite _ _ => ⟨_, _, rfl, vmaskWrite_does _ _ (Nat.or_self _) (.refl _ s), .inl (by decide)⟩
  | .uqAllocWrite _ _ => ⟨_, _, rfl, uqAllocWrite_does _ _ (Nat.or_self _) (.refl _ s), .inl (by decide)⟩
  | .admissionResume => ⟨_, _, rfl, admissionResume_does (Nat.or_self _) (.refl _ s), .inl (by decide)⟩
  | .schedulerMoveUnit _ _ => ⟨_, _, rfl, schedulerMoveUnit_does _ _ (Nat.or_self _) (.refl _ s), .inl (by decide)⟩
  | .sealTimeout _ => ⟨_, _, rfl, sealTimeout_does _ (Nat.or_self _) (.refl _ s), .inl (by decide)⟩
  | .gateListCommit _ => ⟨_, _, rfl, gateListCommit_does _ (Nat.or_self _) (.refl _ s), .inl (by decide)⟩
  | .gateListCancel _ => ⟨_, _, rfl, gateListCancel_does _ (Nat.or_self _) (.refl _ s), .inl (by decide)⟩
  | .gateListStart _ => ⟨_, _, rfl, gateListStart_does _ (Nat.or_self _) (.refl _ s), .inl (by decide)⟩
  | .gateEntryAdvance _ => ⟨_, _, rfl, gateEntryAdvance_does _ (Nat.or_self _) (.refl _ s), .inl (by decide)⟩
  | .caveInit => ⟨_, _, rfl, caveInit_does (Nat.or_self _) (.refl _ s), .inl (by decide)⟩
  | .caveTrainDone _ => ⟨_, _, rfl, caveTrainDone_does _ (Nat.or_self _) (.refl _ s), .inl (by decide)⟩
  | .caveReady => ⟨_, _, rfl, caveReady_does (Nat.or_self _) (.refl _ s), .inl (by decide)⟩
  | .containerTake _ => ⟨_, _, rfl, containerTake_does _ (Nat.or_self _) (.refl _ s), .inl (by decide)⟩
  | .containerFree _ _ _ _ => ⟨_, _, rfl, containerFree_does _ _ _ _ (Nat.or_self _) (.refl _ s), .inl (by decide)⟩
  | .waitLong _ _ => ⟨_, _, rfl, waitLong_does _ _ (Nat.or_self _) (.refl _ s), .inl (by decide)⟩
  | .retainExpiry => ⟨_, _, rfl, retainExpiry_does (Nat.or_self _) (.refl _ s), .inl (by decide)⟩
  | .purge => ⟨_, _, rfl, purge_does (Nat.or_self _) (.refl _ s), .inl (by decide)⟩
  | .purgeDone => ⟨_, _, rfl, purgeDone_does (Nat.or_self _) (.refl _ s), .inl (by decide)⟩
  | .caveWindowRead => ⟨_, _, rfl, caveWindowRead_does (Nat.or_self _) (.refl _ s), .inl (by decide)⟩
  | .caveEccError _ _ _ => ⟨_, _, rfl, caveEccError_does _ _ _ (Nat.or_self _) (.refl _ s), .inl (by decide)⟩
  | .scrubStep => ⟨_, _, rfl, scrubStep_does (Nat.or_self _) (.refl _ s), .inl (by decide)⟩
  | .ddrRetrainSlice _ => ⟨_, _, rfl, ddrRetrainSlice_does _ (Nat.or_self _) (.refl _ s), .inl (by decide)⟩
  | .slotLoad _ _ => ⟨_, _, rfl, slotLoad_does _ _ (Nat.or_self _) (.refl _ s), .inl (by decide)⟩
  | .slotErase _ => ⟨_, _, rfl, slotErase_does _ (Nat.or_self _) (.refl _ s), .inl (by decide)⟩
  | .slotUnwrap _ _ => ⟨_, _, rfl, slotUnwrap_does _ _ (Nat.or_self _) (.refl _ s), .inl (by decide)⟩
  | .slotCommandDone => ⟨_, _, rfl, slotCommandDone_does (Nat.or_self _) (.refl _ s), .inl (by decide)⟩
  | .lineKeyEntryWrite _ _ => ⟨_, _, rfl, lineKeyEntryWrite_does _ _ (Nat.or_self _) (.refl _ s), .inl (by decide)⟩
  | .arm => ⟨_, _, rfl, arm_does (Nat.or_self _) (.refl _ s), .inl (by decide)⟩
  | .cipherMismatch _ _ => ⟨_, _, rfl, cipherMismatch_does _ _ (Nat.or_self _) (.refl _ s), .inl (by decide)⟩
  | .cipJobStart _ _ => ⟨_, _, rfl, cipJobStart_does _ _ (Nat.or_self _) (.refl _ s), .inl (by decide)⟩
  | .cipJobEnd _ _ => ⟨_, _, rfl, cipJobEnd_does _ _ (Nat.or_self _) (.refl _ s), .inl (by decide)⟩
  | .tbModeWrite _ _ => ⟨_, _, rfl, tbModeWrite_does _ _ (Nat.or_self _) (.refl _ s), .inl (by decide)⟩
  | .setGo _ => ⟨_, _, rfl, setGo_does _ (Nat.or_self _) (.refl _ s), .inl (by decide)⟩
  | .adjGo _ => ⟨_, _, rfl, adjGo_does _ (Nat.or_self _) (.refl _ s), .inl (by decide)⟩
  | .capGo => ⟨_, _, rfl, capGo_does (Nat.or_self _) (.refl _ s), .inl (by decide)⟩
  | .tbSample _ => ⟨_, _, rfl, tbSample_does _ (Nat.or_self _) (.refl _ s), .inl (by decide)⟩
  | .syncToExpiry _ => ⟨_, _, rfl, syncToExpiry_does _ (Nat.or_self _) (.refl _ s), .inl (by decide)⟩
  | .holdMaxExpiry _ => ⟨_, _, rfl, holdMaxExpiry_does _ (Nat.or_self _) (.refl _ s), .inl (by decide)⟩
  | .ptpSyncRx _ _ => ⟨_, _, rfl, ptpSyncRx_does _ _ (Nat.or_self _) (.refl _ s), .inl (by decide)⟩
  | .delayReqTimer _ => ⟨_, _, rfl, delayReqTimer_does _ (Nat.or_self _) (.refl _ s), .inl (by decide)⟩
  | .ptpDelayRespRx _ _ => ⟨_, _, rfl, ptpDelayRespRx_does _ _ (Nat.or_self _) (.refl _ s), .inl (by decide)⟩
  | .ptpPdelayReqRx _ _ => ⟨_, _, rfl, ptpPdelayReqRx_does _ _ (Nat.or_self _) (.refl _ s), .inl (by decide)⟩
  | .pairCompare => ⟨_, _, rfl, pairCompare_does (Nat.or_self _) (.refl _ s), .inl (by decide)⟩
  | .ppsInEdge => ⟨_, _, rfl, ppsInEdge_does (Nat.or_self _) (.refl _ s), .inl (by decide)⟩
  | .ppsOutPulse _ => ⟨_, _, rfl, ppsOutPulse_does _ (Nat.or_self _) (.refl _ s), .inl (by decide)⟩
  | .todMessage => ⟨_, _, rfl, todMessage_does (Nat.or_self _) (.refl _ s), .inl (by decide)⟩
  | .vatGo _ => ⟨_, _, rfl, vatGo_does _ (Nat.or_self _) (.refl _ s), .inl (by decide)⟩
  | .vatStop _ => ⟨_, _, rfl, vatStop_does _ (Nat.or_self _) (.refl _ s), .inl (by decide)⟩
  | .vatLeaveRequest _ _ => ⟨_, _, rfl, vatLeaveRequest_does _ _ (Nat.or_self _) (.refl _ s), .inl (by decide)⟩
  | .vatClusterStart _ => ⟨_, _, rfl, vatClusterStart_does _ (Nat.or_self _) (.refl _ s), .inl (by decide)⟩
  | .vatMaxrun _ => ⟨_, _, rfl, vatMaxrun_does _ (Nat.or_self _) (.refl _ s), .inl (by decide)⟩
  | .vatHostWrite _ _ _ _ => ⟨_, _, rfl, vatHostWrite_does _ _ _ _ (Nat.or_self _) (.refl _ s), .inl (by decide)⟩
  | .vatParityError _ _ => ⟨_, _, rfl, vatParityError_does _ _ (Nat.or_self _) (.refl _ s), .inl (by decide)⟩
  | .tapCapture _ _ _ => ⟨_, _, rfl, tapCapture_does _ _ _ (Nat.or_self _) (.refl _ s), .inl (by decide)⟩
  | .tapDelivery _ _ => ⟨_, _, rfl, tapDelivery_does _ _ (Nat.or_self _) (.refl _ s), .inl (by decide)⟩
  | .vDualMove _ => ⟨_, _, rfl, vDualMove_does _ (Nat.or_self _) (.refl _ s), .inl (by decide)⟩
  | .vMpy _ => ⟨_, _, rfl, vMpy_does _ (Nat.or_self _) (.refl _ s), .inl (by decide)⟩
  | .vMac _ => ⟨_, _, rfl, vMac_does _ (Nat.or_self _) (.refl _ s), .inl (by decide)⟩
  | .vMsu _ => ⟨_, _, rfl, vMsu_does _ (Nat.or_self _) (.refl _ s), .inl (by decide)⟩
  | .vMov _ => ⟨_, _, rfl, vMov_does _ (Nat.or_self _) (.refl _ s), .inl (by decide)⟩
  | .vAdd _ => ⟨_, _, rfl, vAdd_does _ (Nat.or_self _) (.refl _ s), .inl (by decide)⟩
  | .vAdds _ => ⟨_, _, rfl, vAdds_does _ (Nat.or_self _) (.refl _ s), .inl (by decide)⟩
  | .vSub _ => ⟨_, _, rfl, vSub_does _ (Nat.or_self _) (.refl _ s), .inl (by decide)⟩
  | .vSubs _ => ⟨_, _, rfl, vSubs_does _ (Nat.or_self _) (.refl _ s), .inl (by decide)⟩
  | .vAnd _ => ⟨_, _, rfl, vAnd_does _ (Nat.or_self _) (.refl _ s), .inl (by decide)⟩
  | .vOr _ => ⟨_, _, rfl, vOr_does _ (Nat.or_self _) (.refl _ s), .inl (by decide)⟩
  | .vXor _ => ⟨_, _, rfl, vXor_does _ (Nat.or_self _) (.refl _ s), .inl (by decide)⟩
  | .vShl _ => ⟨_, _, rfl, vShl_does _ (Nat.or_self _) (.refl _ s), .inl (by decide)⟩
  | .vShr _ => ⟨_, _, rfl, vShr_does _ (Nat.or_self _) (.refl _ s), .inl (by decide)⟩
  | .vShrl _ => ⟨_, _, rfl, vShrl_does _ (Nat.or_self _) (.refl _ s), .inl (by decide)⟩
  | .vMin _ => ⟨_, _, rfl, vMin_does _ (Nat.or_self _) (.refl _ s), .inl (by decide)⟩
  | .vMax _ => ⟨_, _, rfl, vMax_does _ (Nat.or_self _) (.refl _ s), .inl (by decide)⟩
  | .vAbs _ => ⟨_, _, rfl, vAbs_does _ (Nat.or_self _) (.refl _ s), .inl (by decide)⟩
  | .vNeg _ => ⟨_, _, rfl, vNeg_does _ (Nat.or_self _) (.refl _ s), .inl (by decide)⟩
  | .vCmpEq _ => ⟨_, _, rfl, vCmpEq_does _ (Nat.or_self _) (.refl _ s), .inl (by decide)⟩
  | .vCmpNe _ => ⟨_, _, rfl, vCmpNe_does _ (Nat.or_self _) (.refl _ s), .inl (by decide)⟩
  | .vCmpLt _ => ⟨_, _, rfl, vCmpLt_does _ (Nat.or_self _) (.refl _ s), .inl (by decide)⟩
  | .vCmpLe _ => ⟨_, _, rfl, vCmpLe_does _ (Nat.or_self _) (.refl _ s), .inl (by decide)⟩
  | .vCmpGt _ => ⟨_, _, rfl, vCmpGt_does _ (Nat.or_self _) (.refl _ s), .inl (by decide)⟩
  | .vCmpGe _ => ⟨_, _, rfl, vCmpGe_does _ (Nat.or_self _) (.refl _ s), .inl (by decide)⟩
  | .vCmpLtu _ => ⟨_, _, rfl, vCmpLtu_does _ (Nat.or_self _) (.refl _ s), .inl (by decide)⟩
  | .vCmpGeu _ => ⟨_, _, rfl, vCmpGeu_does _ (Nat.or_self _) (.refl _ s), .inl (by decide)⟩
  | .vFand _ => ⟨_, _, rfl, vFand_does _ (Nat.or_self _) (.refl _ s), .inl (by decide)⟩
  | .vFor _ => ⟨_, _, rfl, vFor_does _ (Nat.or_self _) (.refl _ s), .inl (by decide)⟩
  | .vFnot _ => ⟨_, _, rfl, vFnot_does _ (Nat.or_self _) (.refl _ s), .inl (by decide)⟩
  | .vClra _ => ⟨_, _, rfl, vClra_does _ (Nat.or_self _) (.refl _ s), .inl (by decide)⟩
  | .vLda _ => ⟨_, _, rfl, vLda_does _ (Nat.or_self _) (.refl _ s), .inl (by decide)⟩
  | .vAdda _ => ⟨_, _, rfl, vAdda_does _ (Nat.or_self _) (.refl _ s), .inl (by decide)⟩
  | .vSha _ => ⟨_, _, rfl, vSha_does _ (Nat.or_self _) (.refl _ s), .inl (by decide)⟩
  | .vMovh _ => ⟨_, _, rfl, vMovh_does _ (Nat.or_self _) (.refl _ s), .inl (by decide)⟩
  | .vMovl _ => ⟨_, _, rfl, vMovl_does _ (Nat.or_self _) (.refl _ s), .inl (by decide)⟩
  | .vMove _ => ⟨_, _, rfl, vMove_does _ (Nat.or_self _) (.refl _ s), .inl (by decide)⟩
  | .vAbsa _ => ⟨_, _, rfl, vAbsa_does _ (Nat.or_self _) (.refl _ s), .inl (by decide)⟩
  | .vNega _ => ⟨_, _, rfl, vNega_does _ (Nat.or_self _) (.refl _ s), .inl (by decide)⟩
  | .vCmpa _ => ⟨_, _, rfl, vCmpa_does _ (Nat.or_self _) (.refl _ s), .inl (by decide)⟩
  | .vLd _ => ⟨_, _, rfl, vLd_does _ (Nat.or_self _) (.refl _ s), .inl (by decide)⟩
  | .vSt _ => ⟨_, _, rfl, vSt_does _ (Nat.or_self _) (.refl _ s), .inl (by decide)⟩
  | .vMovi _ => ⟨_, _, rfl, vMovi_does _ (Nat.or_self _) (.refl _ s), .inl (by decide)⟩
  | .vMoviSreg _ => ⟨_, _, rfl, vMoviSreg_does _ (Nat.or_self _) (.refl _ s), .inl (by decide)⟩
  | .vMovsToSreg _ => ⟨_, _, rfl, vMovsToSreg_does _ (Nat.or_self _) (.refl _ s), .inl (by decide)⟩
  | .vMovsFromSreg _ => ⟨_, _, rfl, vMovsFromSreg_does _ (Nat.or_self _) (.refl _ s), .inl (by decide)⟩
  | .vDo _ => ⟨_, _, rfl, vDo_does _ (Nat.or_self _) (.refl _ s), .inl (by decide)⟩
  | .vDog _ => ⟨_, _, rfl, vDog_does _ (Nat.or_self _) (.refl _ s), .inl (by decide)⟩
  | .vNop _ => ⟨_, _, rfl, vNop_does _ (Nat.or_self _) (.refl _ s), .inl (by decide)⟩
  | .vHalt _ => ⟨_, _, rfl, vHalt_does _ (Nat.or_self _) (.refl _ s), .inl (by decide)⟩
  | .vBr _ => ⟨_, _, rfl, vBr_does _ (Nat.or_self _) (.refl _ s), .inl (by decide)⟩
  | .vBrany _ => ⟨_, _, rfl, vBrany_does _ (Nat.or_self _) (.refl _ s), .inl (by decide)⟩
  | .vBrall _ => ⟨_, _, rfl, vBrall_does _ (Nat.or_self _) (.refl _ s), .inl (by decide)⟩
  | .vLeave _ => ⟨_, _, rfl, vLeave_does _ (Nat.or_self _) (.refl _ s), .inl (by decide)⟩
  | .registerWrite _ _ _ _ _ _ _ => ⟨_, _, rfl, registerWrite_does _ _ _ _ _ _ _ (Nat.or_self _) (.refl _ s), .inr rfl⟩
  | .unsupportedRequest _ => ⟨_, _, rfl, unsupportedRequest_does _ (Nat.or_self _) (.refl _ s), .inl (by decide)⟩
  | .counterLoRead _ _ _ => ⟨_, _, rfl, counterLoRead_does _ _ _ (Nat.or_self _) (.refl _ s), .inl (by decide)⟩
  | .nowRead _ => ⟨_, _, rfl, nowRead_does _ (Nat.or_self _) (.refl _ s), .inl (by decide)⟩
  | .lockFieldWrite _ _ _ => ⟨_, _, rfl, lockFieldWrite_does _ _ _ (Nat.or_self _) (.refl _ s), .inr rfl⟩
  | .stickyClr _ _ _ => ⟨_, _, rfl, stickyClr_does _ _ _ (Nat.or_self _) (.refl _ s), .inr rfl⟩
  | .intRegisterWrite _ _ _ _ _ => ⟨_, _, rfl, intRegisterWrite_does _ _ _ _ _ (Nat.or_self _) (.refl _ s), .inr rfl⟩
  | .msixVectorUnmask _ _ => ⟨_, _, rfl, msixVectorUnmask_does _ _ (Nat.or_self _) (.refl _ s), .inl (by decide)⟩
  | .intForce _ _ _ => ⟨_, _, rfl, intForce_does _ _ _ (Nat.or_self _) (.refl _ s), .inr rfl⟩
  | .twoWireWrite _ _ _ => ⟨_, _, rfl, twoWireWrite_does _ _ _ (Nat.or_self _) (.refl _ s), .inr rfl⟩
  | .twoWireRead _ _ => ⟨_, _, rfl, twoWireRead_does _ _ (Nat.or_self _) (.refl _ s), .inl (by decide)⟩
  | .dmaRun _ => ⟨_, _, rfl, dmaRun_does _ (Nat.or_self _) (.refl _ s), .inl (by decide)⟩
  | .dmaStop _ => ⟨_, _, rfl, dmaStop_does _ (Nat.or_self _) (.refl _ s), .inl (by decide)⟩
  | .dmaHeadWrite _ _ => ⟨_, _, rfl, dmaHeadWrite_does _ _ (Nat.or_self _) (.refl _ s), .inl (by decide)⟩
  | .descriptorFetch _ _ => ⟨_, _, rfl, descriptorFetch_does _ _ (Nat.or_self _) (.refl _ s), .inl (by decide)⟩
  | .copy _ => ⟨_, _, rfl, copy_does _ (Nat.or_self _) (.refl _ s), .inl (by decide)⟩
  | .fill _ => ⟨_, _, rfl, fill_does _ (Nat.or_self _) (.refl _ s), .inl (by decide)⟩
  | .compare _ => ⟨_, _, rfl, compare_does _ (Nat.or_self _) (.refl _ s), .inl (by decide)⟩
  | .nopDescriptor _ => ⟨_, _, rfl, nopDescriptor_does _ (Nat.or_self _) (.refl _ s), .inl (by decide)⟩
  | .dmaBeatAnswer _ _ _ _ _ _ _ => ⟨_, _, rfl, dmaBeatAnswer_does _ _ _ _ _ _ _ (Nat.or_self _) (.refl _ s), .inr rfl⟩
  | .injectionTake _ _ _ => ⟨_, _, rfl, injectionTake_does _ _ _ (Nat.or_self _) (.refl _ s), .inl (by decide)⟩
  | .refMonitor _ _ => ⟨_, _, rfl, refMonitor_does _ _ (Nat.or_self _) (.refl _ s), .inl (by decide)⟩
  | .txEqWrite _ _ _ _ => ⟨_, _, rfl, txEqWrite_does _ _ _ _ (Nat.or_self _) (.refl _ s), .inl (by decide)⟩
  | .laneSleepWrite _ _ _ => ⟨_, _, rfl, laneSleepWrite_does _ _ _ (Nat.or_self _) (.refl _ s), .inl (by decide)⟩
  | .retrain _ => ⟨_, _, rfl, retrain_does _ (Nat.or_self _) (.refl _ s), .inl (by decide)⟩
  | .retrainSnrTrigger _ _ => ⟨_, _, rfl, retrainSnrTrigger_does _ _ (Nat.or_self _) (.refl _ s), .inl (by decide)⟩
  | .rtRefusedRetry _ => ⟨_, _, rfl, rtRefusedRetry_does _ (Nat.or_self _) (.refl _ s), .inl (by decide)⟩
  | .rxFreezeWrite _ _ => ⟨_, _, rfl, rxFreezeWrite_does _ _ (Nat.or_self _) (.refl _ s), .inl (by decide)⟩
  | .adaptDone _ _ _ => ⟨_, _, rfl, adaptDone_does _ _ _ (Nat.or_self _) (.refl _ s), .inl (by decide)⟩
  | .injGo _ => ⟨_, _, rfl, injGo_does _ (Nat.or_self _) (.refl _ s), .inl (by decide)⟩
  | .injRateTick _ => ⟨_, _, rfl, injRateTick_does _ (Nat.or_self _) (.refl _ s), .inl (by decide)⟩
  | .checkerLockChange _ _ _ _ => ⟨_, _, rfl, checkerLockChange_does _ _ _ _ (Nat.or_self _) (.refl _ s), .inl (by decide)⟩
  | .ltCellSend _ => ⟨_, _, rfl, ltCellSend_does _ (Nat.or_self _) (.refl _ s), .inl (by decide)⟩
  | .mgmtCellSend => ⟨_, _, rfl, mgmtCellSend_does (Nat.or_self _) (.refl _ s), .inl (by decide)⟩
  | .ltCellRx _ _ => ⟨_, _, rfl, ltCellRx_does _ _ (Nat.or_self _) (.refl _ s), .inl (by decide)⟩
  | .ctrlCellRx _ => ⟨_, _, rfl, ctrlCellRx_does _ (Nat.or_self _) (.refl _ s), .inl (by decide)⟩
  | .mgmtCellRx _ _ => ⟨_, _, rfl, mgmtCellRx_does _ _ (Nat.or_self _) (.refl _ s), .inl (by decide)⟩
  | .groupCellRx _ => ⟨_, _, rfl, groupCellRx_does _ (Nat.or_self _) (.refl _ s), .inl (by decide)⟩
  | .unitCellRx _ => ⟨_, _, rfl, unitCellRx_does _ (Nat.or_self _) (.refl _ s), .inl (by decide)⟩
  | .idleCellRx _ => ⟨_, _, rfl, idleCellRx_does _ (Nat.or_self _) (.refl _ s), .inl (by decide)⟩
  | .badCellRx _ => ⟨_, _, rfl, badCellRx_does _ (Nat.or_self _) (.refl _ s), .inl (by decide)⟩
  | .fkPortAlign _ => ⟨_, _, rfl, fkPortAlign_does _ (Nat.or_self _) (.refl _ s), .inl (by decide)⟩
  | .fkPortDown _ => ⟨_, _, rfl, fkPortDown_does _ (Nat.or_self _) (.refl _ s), .inl (by decide)⟩
  | .memberUnreachable _ => ⟨_, _, rfl, memberUnreachable_does _ (Nat.or_self _) (.refl _ s), .inl (by decide)⟩
  | .masterLost => ⟨_, _, rfl, masterLost_does (Nat.or_self _) (.refl _ s), .inr rfl⟩
  | .mboxGo => ⟨_, _, rfl, mboxGo_does (Nat.or_self _) (.refl _ s), .inl (by decide)⟩
  | .modeReqGraze => ⟨_, _, rfl, modeReqGraze_does (Nat.or_self _) (.refl _ s), .inl (by decide)⟩
  | .modeReqStable => ⟨_, _, rfl, modeReqStable_does (Nat.or_self _) (.refl _ s), .inl (by decide)⟩
  | .modeReqWake => ⟨_, _, rfl, modeReqWake_does (Nat.or_self _) (.refl _ s), .inl (by decide)⟩
  | .grazeEntry => ⟨_, _, rfl, grazeEntry_does (Nat.or_self _) (.refl _ s), .inr rfl⟩
  | .grazeWakePowerup => ⟨_, _, rfl, grazeWakePowerup_does (Nat.or_self _) (.refl _ s), .inl (by decide)⟩
  | .grazeTimer => ⟨_, _, rfl, grazeTimer_does (Nat.or_self _) (.refl _ s), .inl (by decide)⟩
  | .grazeExit => ⟨_, _, rfl, grazeExit_does (Nat.or_self _) (.refl _ s), .inl (by decide)⟩
  | .stableEntry => ⟨_, _, rfl, stableEntry_does (Nat.or_self _) (.refl _ s), .inr rfl⟩
  | .leaveWaitExpiry => ⟨_, _, rfl, leaveWaitExpiry_does (Nat.or_self _) (.refl _ s), .inl (by decide)⟩
  | .toneDetect => ⟨_, _, rfl, toneDetect_does (Nat.or_self _) (.refl _ s), .inl (by decide)⟩
  | .stableExit => ⟨_, _, rfl, stableExit_does (Nat.or_self _) (.refl _ s), .inl (by decide)⟩
  | .caveStateReload => ⟨_, _, rfl, caveStateReload_does (Nat.or_self _) (.refl _ s), .inl (by decide)⟩
  | .leaveRequest _ => ⟨_, _, rfl, leaveRequest_does _ (Nat.or_self _) (.refl _ s), .inl (by decide)⟩
  | .leaveReturn _ _ _ => ⟨_, _, rfl, leaveReturn_does _ _ _ (Nat.or_self _) (.refl _ s), .inl (by decide)⟩
  | .dieShareRefresh => ⟨_, _, rfl, dieShareRefresh_does (Nat.or_self _) (.refl _ s), .inl (by decide)⟩
  | .faultReport _ => ⟨_, _, rfl, faultReport_does _ (Nat.or_self _) (.refl _ s), .inl (by decide)⟩
  | .recordClose _ => ⟨_, _, rfl, recordClose_does _ (Nat.or_self _) (.refl _ s), .inl (by decide)⟩
  | .errWidthExpiry => ⟨_, _, rfl, errWidthExpiry_does (Nat.or_self _) (.refl _ s), .inl (by decide)⟩
  | .errRel => ⟨_, _, rfl, errRel_does (Nat.or_self _) (.refl _ s), .inl (by decide)⟩
  | .safeClr _ => ⟨_, _, rfl, safeClr_does _ (Nat.or_self _) (.refl _ s), .inl (by decide)⟩
  | .collectorSelfFault => ⟨_, _, rfl, collectorSelfFault_does (Nat.or_self _) (.refl _ s), .inl (by decide)⟩
  | .fltHeartbeatLoss => ⟨_, _, rfl, fltHeartbeatLoss_does (Nat.or_self _) (.refl _ s), .inl (by decide)⟩
  | .faultInject => ⟨_, _, rfl, faultInject_does (Nat.or_self _) (.refl _ s), .inl (by decide)⟩
  | .injSelf => ⟨_, _, rfl, injSelf_does (Nat.or_self _) (.refl _ s), .inl (by decide)⟩
  | .lfClr _ => ⟨_, _, rfl, lfClr_does _ (Nat.or_self _) (.refl _ s), .inl (by decide)⟩
  | .perfClear _ => ⟨_, _, rfl, perfClear_does _ (Nat.or_self _) (.refl _ s), .inl (by decide)⟩
  | .freezeAllWrite _ => ⟨_, _, rfl, freezeAllWrite_does _ (Nat.or_self _) (.refl _ s), .inl (by decide)⟩
  | .perfCounterWrap _ _ _ => ⟨_, _, rfl, perfCounterWrap_does _ _ _ (Nat.or_self _) (.refl _ s), .inl (by decide)⟩
  | .thermalSample _ _ _ _ => ⟨_, _, rfl, thermalSample_does _ _ _ _ (Nat.or_self _) (.refl _ s), .inr rfl⟩
  | .thermTripClear => ⟨_, _, rfl, thermTripClear_does (Nat.or_self _) (.refl _ s), .inl (by decide)⟩
  | .lifeTick => ⟨_, _, rfl, lifeTick_does (Nat.or_self _) (.refl _ s), .inl (by decide)⟩
  | .cipLeaveRetry _ => ⟨_, _, rfl, cipLeaveRetry_does _ (Nat.or_self _) (.refl _ s), .inl (by decide)⟩
  | .vatLeaveRetry _ => ⟨_, _, rfl, vatLeaveRetry_does _ (Nat.or_self _) (.refl _ s), .inl (by decide)⟩
  | .amLockGained _ => ⟨_, _, rfl, amLockGained_does _ (Nat.or_self _) (.refl _ s), .inl (by decide)⟩
  | .sigDetChange _ _ => ⟨_, _, rfl, sigDetChange_does _ _ (Nat.or_self _) (.refl _ s), .inl (by decide)⟩
  | .fltHeartbeatReturn => ⟨_, _, rfl, fltHeartbeatReturn_does (Nat.or_self _) (.refl _ s), .inl (by decide)⟩
  | .vddAonFall => ⟨_, _, rfl, vddAonFall_does (Nat.or_self _) (.refl _ s), .inr rfl⟩
  | .pgoodExitTimeout => ⟨_, _, rfl, pgoodExitTimeout_does (Nat.or_self _) (.refl _ s), .inr rfl⟩
  | .pcieLinkUp _ _ _ => ⟨_, _, rfl, pcieLinkUp_does _ _ _ (Nat.or_self _) (.refl _ s), .inl (by decide)⟩
  | .pcieLinkDown => ⟨_, _, rfl, pcieLinkDown_does (Nat.or_self _) (.refl _ s), .inl (by decide)⟩
  | .dimmTempHot _ _ => ⟨_, _, rfl, dimmTempHot_does _ _ (Nat.or_self _) (.refl _ s), .inl (by decide)⟩

/-- A command that does not move the mode leaves it. -/
theorem exec_keeps_mode {c : Instr} {s t : State} (h : exec c s = .next t) (hc : movesMode c = false) : t.mode = s.mode := by
  obtain ⟨W, u, hu, hd, hm⟩ := exec_frame c s
  obtain rfl : t = u := Host.Outcome.next.inj (h.symm.trans hu)
  rcases hm with hm | hm
  · exact hd.mode_eq hm
  · rw [hc] at hm; cases hm

end Sys2Proof.Machine

namespace Sys2Proof
open Sys2Proof.Machine

/-- Settles O7: the winner is the first contender of the order, and a win moves it behind the others of its table. -/
theorem arbitrationRotates : Obligations.ArbitrationRotates := by
  unfold Obligations.ArbitrationRotates
  intro s t n w cs h
  refine ⟨?_, fun l r ho hw => State.winner_first h ho hw, State.order_won_same s t n w, fun t' => State.order_won_ne s n w,
    State.order_unmoved t n⟩
  rcases State.winner_eq_some h with rfl | ⟨hc, _⟩
  · exact List.mem_singleton.mpr rfl
  · exact hc

/-- Settles O9: the frame of every other command's meaning leaves the mode out. -/
theorem modeChangesOnlyHere : Obligations.ModeChangesOnlyHere := by
  unfold Obligations.ModeChangesOnlyHere
  intro c s t _ h hne
  have hm : movesMode c = true := by
    cases hc : movesMode c with
    | true => rfl
    | false => exact absurd (exec_keeps_mode h hc) hne
  clear h
  split <;> simp_all [movesMode]

end Sys2Proof
end

section
/-! The collector: the statement, refuted (chapter 19) -/

namespace Sys2Proof
open Sys2Proof.Machine

/-- A report of a corrected cause from the fault collector's own page. -/
def correctedRep : Rep := { cause := 12, level := 2, region := 9 }

/-- A terminal in SERVICE whose one-bit VALID of the collector's page holds 2: the tables are canonical, but no write puts the value there. -/
def validOverWide : State := { State.reset with mode := .service, regs := [(C_LF_VALID.key 2, 2)] }

/-- Every hypothesis of the first clause holds there. -/
theorem validOverWide_meets : validOverWide.wf = true ∧ faultClass correctedRep.cause ∈ [1, 2] ∧ correctedRep.cause ≠ cBusErr
    ∧ validOverWide.freshRecord 0 correctedRep.cause correctedRep.region = true
    ∧ validOverWide.faultMasked correctedRep.cause correctedRep.pg = false := by
  refine ⟨?_, ?_, ?_, ?_, ?_⟩ <;> decide +kernel

/-- VALID is set already, so the report leaves it as it reads. -/
theorem validOverWide_reported : (faultReport [correctedRep] validOverWide).rd C_LF_VALID 2 = 2 := by decide +kernel

/-- Refutes O35: the canonical form bounds no field by its width. Where C_LF_VALID of a page reads 2, a report counts in C_LF_DUP and leaves
VALID at 2, and not at the 1 that the clause of the record gives. -/
theorem not_faultsCollected : ¬ Obligations.FaultsCollected := by
  unfold Obligations.FaultsCollected
  rintro ⟨hmade, -⟩
  obtain ⟨hw, hclass, hbus, hfresh, hmask⟩ := validOverWide_meets
  obtain ⟨t, hexec, -, -, -, -, -, -, -, hvalid⟩ := hmade correctedRep 0 validOverWide hw hclass hbus (by decide) (by decide) (by decide)
    (by decide) (by decide) (by decide) hfresh hmask
  cases hexec
  exact absurd (validOverWide_reported.symm.trans hvalid) (by decide)

end Sys2Proof
end

section
namespace Sys2Proof.Machine

/-! Frames: a wider one, and that of two operations in a row -/

theorem Does.mono {V W : Nat} {s t : State} (hV : Within V W) (h : Does V s t) : Does W s t :=
  ⟨h.keeps, fun w => ⟨(h.regs w).1, fun f i hl hf => (h.regs w).2 f i hl <| by
    cases hb : Nat.testBit V f.id with
    | false => rfl
    | true => rw [hV.ub _ hb] at hf; cases hf⟩,
   h.shadow.imp_left (hV.ub _), h.seals.imp_left (hV.ub _), h.locked.imp_left (hV.ub _), h.banked.imp_left (hV.ub _),
   h.msixOn.imp_left (hV.ub _), h.msixPend.imp_left (hV.ub _), h.mode.imp_left (hV.ub _), h.time.imp_left (hV.ub _), h.rx.imp_left
   (hV.ub _), h.up.imp_left (hV.ub _), h.join.imp_left (hV.ub _), h.held.imp_left (hV.ub _), h.cave.imp_left (hV.ub _),
   h.asm.imp_left (hV.ub _), h.cip.imp_left (hV.ub _), h.pk.imp_left (hV.ub _), h.tim.imp_left (hV.ub _), h.fk.imp_left (hV.ub _),
   h.vat.imp_left (hV.ub _), h.pwr.imp_left (hV.ub _), h.flt.imp_left (hV.ub _), h.boot.imp_left (hV.ub _), h.dma.imp_left (hV.ub
   _), h.pins.imp_left (hV.ub _), h.orders.imp_left (hV.ub _), h.out.imp_left (hV.ub _), h.freeCtr.imp_left (hV.ub _)⟩

/-- The frame of two operations in a row. -/
theorem Does.comp {V W : Nat} {s t u : State} (h : Does V s t) (k : Does W t u) : Does (V ||| W) s u :=
  (h.mono (by rw [Within, ← Nat.or_assoc, Nat.or_self])).trans (k.mono (by rw [Within, Nat.or_comm V, ← Nat.or_assoc, Nat.or_self]))

theorem Does.now_eq {W : Nat} {s t : State} (h : Does W s t) (hb : Nat.testBit W 1007 = false := by decide) : t.now = s.now :=
  congrArg LineTime.lt (h.time_eq hb)

/-! Reading one field through updates: what was written last stands, and an operation whose frame leaves the field out keeps it -/

/-- A write of another field leaves a register alone. -/
@[simp] theorem rdR_wrR_fld {r : List (Nat × Nat)} {f g : Fld} (v i j : Nat) (h : smWf r = true) (hk : g.id ≠ f.id) :
    rdR (wrR r f v i) g j = rdR r g j := rdR_wrR_ne v h (Fld.key_ne hk)

/-- A write of another copy leaves a register alone. -/
theorem rdR_wrR_copy {r : List (Nat × Nat)} {f : Fld} (v : Nat) {i j : Nat} (h : smWf r = true) (hk : j ≠ i) (hi : i < 2 ^ 20)
    (hj : j < 2 ^ 20) : rdR (wrR r f v i) f j = rdR r f j := rdR_wrR_ne v h (Fld.key_ne_copy hk hj hi)

theorem State.wr_wf {s : State} (f : Fld) (v i : Nat) (w : s.wf = true) : (s.wr f v i).wf = true := (State.wr_keeps f v i (Keeps.refl s)).wf w

theorem State.rd_wr_same {s : State} (f : Fld) (v i : Nat) (w : s.wf = true) : (s.wr f v i).rd f i = v % 2 ^ f.w :=
  rdR_wrR_same f v i (State.wf_regs w)

theorem State.rd_wr_fld {s : State} {f g : Fld} (v i j : Nat) (w : s.wf = true) (h : g.id ≠ f.id := by decide) :
    (s.wr f v i).rd g j = s.rd g j := rdR_wrR_fld v i j (State.wf_regs w) h

/-- What was written stands through operations whose frame leaves the field out. -/
theorem State.rd_written {s t : State} {f : Fld} {v i W : Nat} (w : s.wf = true) (h : Does W (s.wr f v i) t)
    (hf : Nat.testBit W f.id = false := by decide) (hl : f.id < 1000 := by decide) : t.rd f i = v % 2 ^ f.w :=
  (h.rd (State.wr_wf f v i w) i hf hl).trans (State.rd_wr_same f v i w)

/-! `Only` from one state to the next -/

theorem Only.trans {cs : List Touch} {s t u : State} (h : Only cs s t) (k : Only cs t u) : Only cs s u :=
  ⟨h.rest.trans k.rest, fun f i hc hn => (k.rd f i hc hn).trans (h.rd f i hc hn)⟩

theorem Only.mono {cs ds : List Touch} {s t : State} (h : Only cs s t) (hs : cs ⊆ ds) : Only ds s t :=
  ⟨h.rest, fun f i hc hn => h.rd f i hc fun e he => hn e (hs he)⟩

/-- `Only` between states with the same registers. -/
theorem Only.swap {cs : List Touch} {s t s' t' : State} (h : Only cs s t) (hs : s'.regs = s.regs) (ht : t'.regs = t.regs)
    (hr : SameRest s' t') : Only cs s' t' :=
  ⟨hr, fun f i hc hn => by
    have hk := h.rd f i hc hn
    rw [State.rd_eq, State.rd_eq] at hk ⊢
    rw [hs, ht, hk]⟩

/-- A write of a copy that is named. -/
theorem Only.wr_mem {cs : List Touch} {s t : State} {g : Fld} (v : Nat) {i : Nat} (h : Only cs s t) (w : t.wf = true) (hg : g.one i ∈ cs) :
    Only cs s (t.wr g v i) :=
  h.wr v i (State.wf_regs w) (List.any_eq_true.mpr ⟨g.one i, hg, by simp [Touch.covers, Fld.one]⟩)

theorem State.raise_only {cs : List Touch} {s t : State} (p b : Nat) (h : Only cs s t) (w : t.wf = true) : Only cs s (t.raise p b) :=
  h.aside (State.wf_regs w) (raise_aside _ _ _)

theorem State.perf_only {cs : List Touch} {s t : State} (p c v : Nat) (h : Only cs s t) (w : t.wf = true) : Only cs s (t.perf p c v) :=
  h.aside (State.wf_regs w) (perf_aside _ _ _ _)

/-! Line time goes on -/

theorem State.advance_now (s : State) (t : Nat) : (s.advance t).now = max s.now t := by
  unfold State.advance
  split
  · next h => exact (Nat.max_eq_left h).symm
  · next h =>
    have hmax : max s.now t = t := Nat.max_eq_right (Nat.not_le.mp h).le
    rw [hmax]
    dsimp only
    split <;> rfl

theorem State.advance_eq (s : State) (t : Nat) : s.advance t = { s with time := (s.advance t).time, regs := (s.advance t).regs } := by
  unfold State.advance
  split
  · rfl
  · dsimp only
    split <;> rfl

/-- Line time going on changes HOLD_MF alone of the registers. -/
theorem State.advance_only {s : State} (t : Nat) (w : s.wf = true) : Only [LTM_HOLD_MF.one] { s with time := (s.advance t).time } (s.advance t) := by
  have h := Only.refl [LTM_HOLD_MF.one] s
  unfold State.advance
  split
  · exact h
  · split
    · exact (h.wr_mem (g := LTM_HOLD_MF) _ (i := 0) w (by simp)).swap rfl rfl rfl
    · exact h.swap rfl rfl rfl

/-- A command completes with what its meaning comes to. -/
theorem completes_of {c : Instr} {s u t : State} {P : State → Prop} (he : exec c s = .next u) (hu : u = t) (hp : P t) : Completes c s P :=
  ⟨t, he.trans (congrArg _ hu), hp⟩

end Sys2Proof.Machine
end

section
namespace Sys2Proof.Machine

/-! A request of MODE_REQ (R401) -/

section
variable {s : State}

/-- With room in the queue a message joins it. -/
theorem State.queueMsg_open (code : Nat) (body : List Nat) (h : s.queueOpen = true) : s.queueMsg code body
    = { s with up := { s.up with umq := s.up.umq ++ [{ code := code, seq := s.up.umSeq, body := body, at_ := s.now }], umSeq := s.up.umSeq + 1 } } := by
  simp only [State.queueOpen, Bool.and_eq_true, decide_eq_true_eq] at h
  obtain ⟨hlen, hpush⟩ := h
  simp [State.queueMsg, hpush, Nat.not_le.mpr hlen]

/-- During a transition a request is only read back. -/
theorem State.modeReq_held (v : Nat) (h : s.pwr.transit ≠ none) : s.modeReq v = s.wr PWR_MODE_REQ v :=
  if_pos (Option.isSome_iff_ne_none.mpr h)

theorem State.modeReq_judged (v : Nat) (h : s.pwr.transit = none) : s.modeReq v = (s.wr PWR_MODE_REQ v).takeReq v :=
  if_neg (by rw [h]; decide)

/-- FINE_RANGE_REQ bars every request. -/
theorem State.takeReq_barred (v : Nat) (h : s.rd LTM_FINE_RANGE_REQ ≠ 0) : s.takeReq v = s.reqRefused :=
  if_pos (by simpa [State.on] using h)

theorem State.fineRange_off (h : s.rd LTM_FINE_RANGE_REQ = 0) : s.on LTM_FINE_RANGE_REQ = false := by rw [State.on, h]; rfl

/-- GRAZE is taken in SERVICE. -/
theorem State.takeReq_graze (hf : s.rd LTM_FINE_RANGE_REQ = 0) (hm : s.mode = .service) (hq : s.queueOpen = true) : s.takeReq 1
    = { (s.wr PWR_MODE_REQ 0).queueMsg 0x21 [s.rd PWR_GRAZE_N * 2 ^ 21] with pwr := { s.pwr with grazeReq := some s.now } } := by
  have hq' : (s.wr PWR_MODE_REQ 0).queueOpen = true := hq
  simp only [State.takeReq, State.fineRange_off hf, hm, Bool.false_eq_true, if_false]
  rw [State.queueMsg_open _ _ hq']
  rfl

/-- WAKE is taken in GRAZE. -/
theorem State.takeReq_wake (hf : s.rd LTM_FINE_RANGE_REQ = 0) (hm : s.mode = .graze) : s.takeReq 3 = (s.wr PWR_MODE_REQ 0).latchWake wkTimer := by
  simp only [State.takeReq, State.fineRange_off hf, hm, Bool.false_eq_true, if_false]

/-- STABLE is taken in LISTEN, GRAZE and SERVICE with a source to wake it. -/
theorem State.takeReq_stable (hf : s.rd LTM_FINE_RANGE_REQ = 0) (hm : s.mode = .listen ∨ s.mode = .service ∨ s.mode = .graze)
    (hw : s.rd PWR_WAKE_EN ≠ 0) : s.takeReq 2 = if s.mode = .service then ((s.wr PWR_MODE_REQ 0).startEntry .stable).leaveNotice
      else (s.wr PWR_MODE_REQ 0).startEntry .stable := by
  have hw' : (s.rd PWR_WAKE_EN == 0) = false := by simpa using hw
  rcases hm with hm | hm | hm <;> simp [State.takeReq, State.fineRange_off hf, hm, hw']

/-- The notice of leaving joins the queue. -/
theorem State.leaveNotice_open (h : s.queueOpen = true) : s.leaveNotice = { s with
    up := { s.up with umq := s.up.umq ++ [{ code := 0x23, seq := s.up.umSeq, body := [0], at_ := s.now }], umSeq := s.up.umSeq + 1 }
    pwr := { s.pwr with notice := some (s.now, some s.up.umSeq) } } := by
  have hfull : (decide (32 ≤ s.up.umq.length) || !s.up.waitPush.isEmpty) = false := by
    simp only [State.queueOpen, Bool.and_eq_true, decide_eq_true_eq] at h
    simp [h.2, h.1]
  simp only [State.leaveNotice, hfull, State.queueMsg_open _ _ h]
  rfl

/-- In GRAZE, outside a transition, a source that wakes it is latched. -/
theorem State.latchWake_inGraze {b : Nat} (hb : 2 < b) (hm : s.mode = .graze) (ht : s.pwr.transit = none) :
    s.latchWake b = { s with pwr := { s.pwr with wake := setBit s.pwr.wake b } } := by
  simp [State.latchWake, Nat.not_le.mpr hb, hm, ht]

/-- What bars request `v` in the state it meets. -/
def State.bars (s : State) (v : Nat) : Prop :=
  s.rd LTM_FINE_RANGE_REQ ≠ 0 ∨ (v = 1 ∧ s.mode ≠ .service) ∨ (v = 3 ∧ s.mode ≠ .graze)
    ∨ (v = 2 ∧ (s.rd PWR_WAKE_EN = 0 ∨ (s.mode ≠ .listen ∧ s.mode ≠ .service ∧ s.mode ≠ .graze)))

theorem State.takeReq_refused {v : Nat} (h : s.bars v) : s.takeReq v = s.reqRefused := by
  rcases h with h | ⟨rfl, hm⟩ | ⟨rfl, hm⟩ | ⟨rfl, hw⟩
  · exact State.takeReq_barred v h
  · cases hs : s.mode with
    | service => exact absurd hs hm
    | _ => simp [State.takeReq, hs]
  · cases hs : s.mode with
    | graze => exact absurd hs hm
    | _ => simp [State.takeReq, hs]
  · simp only [State.takeReq]
    split
    · rfl
    · refine if_pos ?_
      rcases hw with hw | ⟨h1, h2, h3⟩
      · simp [hw]
      · simp [h1, h2, h3]

end

/-- A request is written and then cleared. -/
theorem modeReq_cleared {cs : List Touch} {s : State} (v : Nat) (w : s.wf = true) (hm : PWR_MODE_REQ.one ∈ cs) :
    Only cs s ((s.wr PWR_MODE_REQ v).wr PWR_MODE_REQ 0) :=
  ((Only.refl cs s).wr_mem v w hm).wr_mem 0 (State.wr_wf _ _ _ w) hm

section
variable {s : State} (w : s.wf = true) (ht : s.pwr.transit = none) (hf : s.rd LTM_FINE_RANGE_REQ = 0)
include w ht hf

theorem modeReqGraze_inService (hm : s.mode = .service) (hq : s.queueOpen = true) : Completes .modeReqGraze s fun t =>
    Only [PWR_MODE_REQ.one] { s with pwr := { s.pwr with grazeReq := some s.now }, up := t.up } t ∧ t.rd PWR_MODE_REQ = 0
      ∧ Queued 0x21 [s.rd PWR_GRAZE_N * 2 ^ 21] s t := by
  have w1 := State.wr_wf PWR_MODE_REQ 1 0 w
  have hf' : (s.wr PWR_MODE_REQ 1).rd LTM_FINE_RANGE_REQ = 0 := (State.rd_wr_fld 1 0 0 w).trans hf
  have hq' : ((s.wr PWR_MODE_REQ 1).wr PWR_MODE_REQ 0).queueOpen = true := hq
  refine completes_of rfl ((State.modeReq_judged 1 ht).trans (State.takeReq_graze hf' hm hq)) ?_
  rw [State.queueMsg_open _ _ hq', State.rd_wr_fld 1 0 0 w]
  exact ⟨(modeReq_cleared 1 w (by simp)).swap rfl rfl rfl, State.rd_wr_same (s := s.wr PWR_MODE_REQ 1) PWR_MODE_REQ 0 0 w1, rfl, rfl⟩

theorem modeReqWake_inGraze (hm : s.mode = .graze) : Completes .modeReqWake s fun t =>
    Only [PWR_MODE_REQ.one] { s with pwr := { s.pwr with wake := setBit s.pwr.wake wkTimer } } t ∧ t.rd PWR_MODE_REQ = 0 := by
  have w1 := State.wr_wf PWR_MODE_REQ 3 0 w
  have hf' : (s.wr PWR_MODE_REQ 3).rd LTM_FINE_RANGE_REQ = 0 := (State.rd_wr_fld 3 0 0 w).trans hf
  refine completes_of rfl ((State.modeReq_judged 3 ht).trans ((State.takeReq_wake hf' hm).trans (State.latchWake_inGraze (by decide) hm ht))) ?_
  exact ⟨(modeReq_cleared 3 w (by simp)).swap rfl rfl rfl, State.rd_wr_same (s := s.wr PWR_MODE_REQ 3) PWR_MODE_REQ 0 0 w1⟩

end

/-- Once the request is cleared, an entry into STABLE starts. -/
def State.stableStarts (s : State) : State := ((s.wr PWR_MODE_REQ 2).wr PWR_MODE_REQ 0).startEntry .stable

/-- What is judged when STABLE is asked for. -/
theorem State.modeReq_stable {s : State} (w : s.wf = true) (ht : s.pwr.transit = none) (hf : s.rd LTM_FINE_RANGE_REQ = 0)
    (hm : s.mode = .listen ∨ s.mode = .service ∨ s.mode = .graze) (hw : s.rd PWR_WAKE_EN ≠ 0) :
    s.modeReq 2 = if s.mode = .service then s.stableStarts.leaveNotice else s.stableStarts := by
  have hf' : (s.wr PWR_MODE_REQ 2).rd LTM_FINE_RANGE_REQ = 0 := (State.rd_wr_fld 2 0 0 w).trans hf
  have hw' : (s.wr PWR_MODE_REQ 2).rd PWR_WAKE_EN ≠ 0 := by rwa [State.rd_wr_fld 2 0 0 w]
  exact (State.modeReq_judged 2 ht).trans (State.takeReq_stable hf' hm hw')

/-- The registers with which an entry into STABLE starts. -/
structure StableStarts (t : State) : Prop where
  req : t.rd PWR_MODE_REQ = 0
  transit : t.rd PWR_IN_TRANSIT = 1
  latch : t.rd PWR_WAKE_LATCH = 0

section
variable {s : State} (w : s.wf = true)
include w

theorem State.stableStarts_only : Only [PWR_MODE_REQ.one, PWR_IN_TRANSIT.one, PWR_WAKE_LATCH.one]
    { s with pwr := { s.pwr with transit := some .stable } } s.stableStarts := by
  have w2 := State.wr_wf PWR_MODE_REQ 0 0 (State.wr_wf PWR_MODE_REQ 2 0 w)
  have h := (modeReq_cleared (cs := [PWR_MODE_REQ.one, PWR_IN_TRANSIT.one, PWR_WAKE_LATCH.one]) 2 w (by simp)).wr_mem (g := PWR_IN_TRANSIT) 1 (i := 0) w2
    (by simp)
  exact (h.wr_mem (g := PWR_WAKE_LATCH) 0 (i := 0) (State.wr_wf _ _ _ w2) (by simp)).swap rfl rfl rfl

theorem State.stableStarts_fields : StableStarts s.stableStarts := by
  have w' := State.wf_regs w
  constructor <;>
    simp (disch := first | decide | (repeat first | exact w' | apply wrR_wf)) only [State.stableStarts, State.startEntry, State.startTransit,
      State.rd_eq, State.wr_regs, rdR_wrR_same, rdR_wrR_fld] <;> rfl

end

section
variable {s : State} (w : s.wf = true) (ht : s.pwr.transit = none) (hf : s.rd LTM_FINE_RANGE_REQ = 0) (hw : s.rd PWR_WAKE_EN ≠ 0)
include w ht hf hw

theorem modeReqStable_starts (hm : s.mode = .listen ∨ s.mode = .graze) : Completes .modeReqStable s fun t =>
    Only [PWR_MODE_REQ.one, PWR_IN_TRANSIT.one, PWR_WAKE_LATCH.one] { s with pwr := { s.pwr with transit := some .stable } } t
      ∧ t.rd PWR_MODE_REQ = 0 ∧ t.rd PWR_IN_TRANSIT = 1 ∧ t.rd PWR_WAKE_LATCH = 0 := by
  have hns : s.mode ≠ .service := by rcases hm with h | h <;> rw [h] <;> decide
  obtain ⟨hreq, htr, hlatch⟩ := State.stableStarts_fields w
  exact completes_of rfl ((State.modeReq_stable w ht hf (hm.imp_right .inr) hw).trans (if_neg hns)) ⟨State.stableStarts_only w, hreq, htr, hlatch⟩

theorem modeReqStable_notifies (hm : s.mode = .service) (hq : s.queueOpen = true) : Completes .modeReqStable s fun t =>
    Only [PWR_MODE_REQ.one, PWR_IN_TRANSIT.one, PWR_WAKE_LATCH.one]
        { s with pwr := { s.pwr with transit := some .stable, notice := some (s.now, some s.up.umSeq) }, up := t.up } t
      ∧ t.rd PWR_MODE_REQ = 0 ∧ t.rd PWR_IN_TRANSIT = 1 ∧ t.rd PWR_WAKE_LATCH = 0 ∧ Queued 0x23 [0] s t := by
  obtain ⟨hreq, htr, hlatch⟩ := State.stableStarts_fields w
  refine completes_of rfl (((State.modeReq_stable w ht hf (.inr (.inl hm)) hw).trans (if_pos hm)).trans (State.leaveNotice_open hq)) ?_
  exact ⟨(State.stableStarts_only w).swap rfl rfl rfl, hreq, htr, hlatch, rfl, rfl⟩

end

/-- What `v` asks for, command by command. -/
theorem exec_modeReq {c : Instr} {v : Nat} (s : State)
    (hc : (c = .modeReqGraze ∧ v = 1) ∨ (c = .modeReqStable ∧ v = 2) ∨ (c = .modeReqWake ∧ v = 3)) : exec c s = .next (s.modeReq v) := by
  rcases hc with ⟨rfl, rfl⟩ | ⟨rfl, rfl⟩ | ⟨rfl, rfl⟩ <;> rfl

section
variable {c : Instr} {v : Nat} {s : State} (w : s.wf = true)
  (hc : (c = .modeReqGraze ∧ v = 1) ∨ (c = .modeReqStable ∧ v = 2) ∨ (c = .modeReqWake ∧ v = 3))
include w hc

theorem modeReq_refused (ht : s.pwr.transit = none) (hb : s.bars v) : Completes c s fun t =>
    Only [PWR_MODE_REQ.one, PWR_REQ_REFUSED.one] s t ∧ t.rd PWR_MODE_REQ = 0 ∧ t.rd PWR_REQ_REFUSED = 1 := by
  have hb' : (s.wr PWR_MODE_REQ v).bars v := by
    simpa only [State.bars, State.wr_mode, State.rd_wr_fld (f := PWR_MODE_REQ) (g := LTM_FINE_RANGE_REQ) v 0 0 w,
      State.rd_wr_fld (f := PWR_MODE_REQ) (g := PWR_WAKE_EN) v 0 0 w] using hb
  have w1 := State.wr_wf PWR_MODE_REQ v 0 w
  have w2 := State.wr_wf PWR_MODE_REQ 0 0 w1
  have w3 := State.wr_wf PWR_REQ_REFUSED 1 0 w2
  refine completes_of (exec_modeReq s hc) ((State.modeReq_judged v ht).trans (State.takeReq_refused hb')) ⟨?_, ?_, ?_⟩
  · exact State.raise_only 1 0 ((modeReq_cleared v w (by simp)).wr_mem 1 w2 (by simp)) w3
  · exact ((raise_rd 1 0 0 (State.wf_regs w3) (by decide)).trans (State.rd_wr_fld 1 0 0 w2)).trans (State.rd_wr_same PWR_MODE_REQ 0 0 w1)
  · exact (raise_rd 1 0 0 (State.wf_regs w3) (by decide)).trans (State.rd_wr_same PWR_REQ_REFUSED 1 0 w2)

theorem modeReq_readBack (ht : s.pwr.transit ≠ none) : Completes c s fun t => Only [PWR_MODE_REQ.one] s t ∧ t.rd PWR_MODE_REQ = v := by
  have hv : v % 2 ^ PWR_MODE_REQ.w = v := by rcases hc with ⟨-, rfl⟩ | ⟨-, rfl⟩ | ⟨-, rfl⟩ <;> decide
  exact completes_of (exec_modeReq s hc) (State.modeReq_held v ht) ⟨(Only.refl _ s).wr_mem v w (by simp), (State.rd_wr_same _ v 0 w).trans hv⟩

end

end Sys2Proof.Machine

namespace Sys2Proof
open Sys2Proof.Machine

/-- Settles O15: outside a transition a request is judged by FINE_RANGE_REQ, the mode and the wake sources; during one it is only read back. -/
theorem modeRequestsJudged : Obligations.ModeRequestsJudged := by
  unfold Obligations.ModeRequestsJudged
  refine ⟨fun s w ht hf hm hq => modeReqGraze_inService w ht hf hm hq, fun s w ht hf hm hw => modeReqStable_starts w ht hf hw hm,
    fun s w ht hf hm hw hq => modeReqStable_notifies w ht hf hw hm hq, fun s w ht hf hm => modeReqWake_inGraze w ht hf hm,
    fun c v s w hc ht hb => modeReq_refused w hc ht hb, fun c v s w hc ht => modeReq_readBack w hc ht⟩

end Sys2Proof
end

section
namespace Sys2Proof.Machine

/-! A transition ends (R36) -/

/-- The transition is over, in the mode it found. -/
def State.transitOver (s : State) : State := { s with pwr := { s.pwr with transit := none, exitAt := none } }.wr PWR_IN_TRANSIT 0

/-- The transition is over in mode `m`, before what waits for it is taken up. -/
def State.finished (s : State) (m : Mode) : State := s.transitOver.setMode m

/-- Mode `m` is one that a latched cause leaves again. -/
def sleepsIn (m : Mode) : Bool := m == .graze || m == .stable

/-- The frame of a change of mode. -/
def modeFrame : Nat :=
  0x28000600000000000000000000000000000000000000000000000000001800003030000580000000000000000000000000000000000010000001000000000000000000000000000000000000000000000000000000000000000000000000000000000000000000000000000000000000000000000000000000000000000000000

theorem State.setMode_mode (s : State) (m : Mode) : (s.setMode m).mode = m :=
  ((State.updTxdis_does (Nat.or_self _) (.refl _ _)).comp (State.showPower_does (Nat.or_self _) (.refl _ _))).mode_eq (by decide)

/-- In a mode without a transmitter TXDIS_N stays low. -/
theorem State.setMode_dark {s : State} {m : Mode} (hm : m ≠ .join ∧ m ≠ .service ∧ m ≠ .factory) (h : s.pins.txdisN = false) :
    (s.setMode m).pins.txdisN = false := by
  have hno : ({ s with mode := m } : State).txAllowed = false := by simp [State.txAllowed, State.inMode, hm]
  have hkeep : ({ s with mode := m } : State).updTxdis.pins.txdisN = false := by simp [State.updTxdis, hno, h]
  rw [← hkeep]
  exact congrArg Pins.txdisN ((State.showPower_does (Nat.or_self _) (.refl _ _)).pins_eq (by decide))

section
variable (s : State) (m : Mode)

theorem State.finished_mode : (s.finished m).mode = m := State.setMode_mode _ m

theorem State.finished_pwr : (s.finished m).pwr = { s.pwr with transit := none, exitAt := none } :=
  (State.setMode_does m (Nat.or_self _) (.refl _ s.transitOver)).pwr_eq (by decide)

variable {s} (w : s.wf = true)
include w

theorem State.transitOver_wf : s.transitOver.wf = true := State.wr_wf (s := { s with pwr := _ }) PWR_IN_TRANSIT 0 0 w

theorem State.finished_wf : (s.finished m).wf = true :=
  (State.setMode_does m (Nat.or_self _) (.refl _ _)).wf (State.transitOver_wf w)

theorem State.finished_inTransit : (s.finished m).rd PWR_IN_TRANSIT = 0 :=
  ((State.setMode_does m (Nat.or_self _) (.refl _ _)).rd (State.transitOver_wf w) 0 (by decide)).trans
    (State.rd_wr_same (s := { s with pwr := _ }) PWR_IN_TRANSIT 0 0 w)

/-- The end of a transition keeps the registers of the requests and causes. -/
theorem State.finished_rd {f : Fld} (i : Nat)
    (hf : Nat.testBit modeFrame f.id = false := by decide)
    (hl : f.id < 1000 := by decide) (hn : f.id ≠ PWR_IN_TRANSIT.id := by decide) : (s.finished m).rd f i = s.rd f i :=
  ((State.setMode_does m (Nat.or_self _) (.refl _ _)).rd (State.transitOver_wf w) i hf hl).trans
    (State.rd_wr_fld (s := { s with pwr := _ }) 0 0 i w hn)

/-- With no cause latched and no request held nothing more happens. -/
theorem State.finish_quiet (hw : sleepsIn m = false ∨ s.rd PWR_WAKE_LATCH = 0) (hr : s.rd PWR_MODE_REQ = 0) : s.finish m = s.finished m := by
  have hw' : (sleepsIn m && (s.finished m).rd PWR_WAKE_LATCH != 0) = false := by
    rw [State.finished_rd m w]
    rcases hw with h | h <;> simp [h]
  have hr' : ((s.finished m).rd PWR_MODE_REQ == 0) = true := by
    rw [State.finished_rd m w, hr]
    rfl
  exact (if_neg (ne_true_of_eq_false hw')).trans (if_pos hr')

end

/-- The end of a transition finds causes latched: they become the causes that wake the terminal, and EARLY_WAKE counts. -/
def State.earlyWake (s : State) (m : Mode) : State :=
  { s.finished m with pwr := { s.pwr with transit := none, exitAt := none, wake := s.rd PWR_WAKE_LATCH } }.inc PWR_EARLY_WAKE

/-- A cause latched during the entry starts the exit at its end. -/
theorem State.finish_woken {s : State} {m : Mode} (w : s.wf = true) (hm : sleepsIn m = true) (hw : s.rd PWR_WAKE_LATCH ≠ 0) :
    s.finish m = if m = .graze then (s.earlyWake m).beginGrazeExit else (s.earlyWake m).beginStableExit := by
  have hw' : (sleepsIn m && (s.finished m).rd PWR_WAKE_LATCH != 0) = true := by
    rw [State.finished_rd m w]
    simp [hm, hw]
  have he : { s.finished m with pwr := { (s.finished m).pwr with wake := (s.finished m).rd PWR_WAKE_LATCH } }.inc PWR_EARLY_WAKE = s.earlyWake m := by
    rw [State.finished_rd m w, State.finished_pwr]
    rfl
  refine (if_pos hw').trans ?_
  cases m with
  | graze => exact congrArg State.beginGrazeExit he
  | stable => exact congrArg State.beginStableExit he
  | _ => cases hm

section
variable {s : State} (m : Mode) (w : s.wf = true)
include w

theorem State.earlyWake_wf : (s.earlyWake m).wf = true := State.wr_wf (s := { s.finished m with pwr := _ }) _ _ 0 (State.finished_wf m w)

theorem State.earlyWake_count : (s.earlyWake m).rd PWR_EARLY_WAKE = (s.rd PWR_EARLY_WAKE + 1) % 2 ^ 32 := by
  rw [← State.finished_rd m w]
  exact State.rd_wr_same (s := { s.finished m with pwr := _ }) PWR_EARLY_WAKE _ 0 (State.finished_wf m w)

end

end Sys2Proof.Machine
end

section
namespace Sys2Proof.Machine

/-! STABLE (R409 to R412): what the entry leaves -/

theorem smWf_of_above {lo : Nat} {m : List (Nat × Nat)} (h : smWfAbove lo m = true) : smWf m = true := by
  cases m with
  | nil => rfl
  | cons e t =>
    simp only [smWfAbove, smWf, Bool.and_eq_true] at h ⊢
    exact ⟨h.1.2, h.2⟩

/-- Entries of a canonical table under other keys do not matter to a key's entry. -/
theorem smGet_filter (p : Nat × Nat → Bool) {k : Nat} (hp : ∀ v, p (k, v) = true) (m : List (Nat × Nat)) (h : smWf m = true) :
    smGet (m.filter p) k = smGet m k := by
  induction m with
  | nil => rfl
  | cons e t ih =>
    obtain ⟨a, v⟩ := e
    have ht : smWfAbove a t = true := by
      simp only [smWf, Bool.and_eq_true] at h
      exact h.2
    by_cases hka : k = a
    · subst hka
      simp [hp, smGet]
    · by_cases hlt : k < a
      · have h0 := smGet_below _ a k (filter_wfAbove p t a ht) hlt.le
        simp only [List.filter_cons]
        split <;> simp [smGet, hka, hlt, h0]
      · simp only [List.filter_cons]
        split <;> simp [smGet, hka, hlt, ih (smWf_of_above ht)]

/-- The fields that are kept keep their values. -/
theorem rdR_keepRegs {fs : List Fld} {r : List (Nat × Nat)} {f : Fld} (i : Nat) (h : smWf r = true) (hf : f.id ∈ fs.map Fld.id) :
    rdR (keepRegs fs r) f i = rdR r f i := by
  have hk : f.key i / 2 ^ 20 = f.id := by
    simp only [Fld.key]
    omega
  exact congrArg (· ^^^ f.resetAt i) (smGet_filter _ (fun v => by rw [hk]; exact List.contains_iff_mem.mpr hf) r h)

/-- The frame of the fields that follow the straps. -/
def strapFrame : Nat :=
  0x800000000000000000000000000000006000000000000000000000000000000000000000000000000000000000000000000000000000000000018000000000000000000000000000000000000000000000000000000000000000000000000000600018000000

/-- The state without its rails, before the fields that follow the straps are set. -/
def State.unpowered (s : State) : State :=
  { State.reset with
    mode := s.mode, pwr := { transit := s.pwr.transit, wake := s.pwr.wake }
    pending := s.pending, regs := keepRegs stableKeeps s.regs, fuses := s.fuses, time := { lt := s.time.lt, run := s.time.run }
    held := s.held, vat := s.vat.lostAll, boot := { flash := s.boot.flashKept }
    cave := { s.cave with waiters := [], expWaiters := [], opens := [], purge := [], window := [], scrubRetry := none }
    pins := { s.pins with txdisN := false, pwrMainEn := false, pgood := false, errN := true }, freeCtr := s.freeCtr, out := s.out }

theorem State.railsOff_frame (s : State) : Does strapFrame s.unpowered s.railsOff := State.strapFields_does false (Nat.or_self _) (.refl _ _)

/-- With the rails off nothing of the registers is left but what the manual names (R411). -/
theorem State.railsOff_rd {s : State} {f : Fld} (i : Nat) (w : s.wf = true) (hf : f.id ∈ stableKeeps.map Fld.id := by decide)
    (hs : Nat.testBit strapFrame f.id = false := by decide) (hl : f.id < 1000 := by decide) : s.railsOff.rd f i = s.rd f i :=
  ((s.railsOff_frame.regs (keepRegs_wf _ _ (State.wf_regs w))).2 f i hl hs).trans (rdR_keepRegs i (State.wf_regs w) hf)

theorem State.railsOff_wf {s : State} (w : s.wf = true) : s.railsOff.wf = true := (State.railsOff_does (Nat.or_self _) (.refl _ s)).wf w

/-- What an entry into STABLE does before the rails go: the registration is lost, express containers and keys are gone, the transmitter is off. -/
def State.stableStripped (s : State) : State :=
  (((if s.on UPB_REGISTERED then s.regLost 0xFF else s).purgeExpress.selfRefresh).eraseAllSlots).assertTxdis

/-- The state in which the transition into STABLE ends. -/
def State.stableReached (s : State) : State := ({ s.stableStripped with mode := .stable }.railsOff).wr PWR_STABLE_IN 1

theorem State.enterStable_eq (s : State) : s.enterStable = s.stableReached.finish .stable := rfl

section
variable {s : State} (w : s.wf = true)
include w

theorem State.stableStripped_regLost : (if s.on UPB_REGISTERED then s.regLost 0xFF else s).wf = true := by
  split
  · exact (State.regLost_does 0xFF (Nat.or_self _) (.refl _ s)).wf w
  · exact w

theorem State.stableStripped_wf : s.stableStripped.wf = true :=
  (((State.purgeExpress_does (Nat.or_self _) (.refl _ _)).comp (State.selfRefresh_does (Nat.or_self _) (.refl _ _))).comp
    (State.eraseAllSlots_does (Nat.or_self _) (.refl _ _))).wf (State.stableStripped_regLost w)

/-- Requests and causes of the wake stay until the rails go. -/
theorem State.stableStripped_rd {f : Fld} (hf : f = PWR_WAKE_LATCH ∨ f = PWR_MODE_REQ) : s.stableStripped.rd f = s.rd f := by
  have h := ((State.purgeExpress_does (Nat.or_self _) (.refl _ (if s.on UPB_REGISTERED then s.regLost 0xFF else s))).comp
    (State.selfRefresh_does (Nat.or_self _) (.refl _ _))).comp (State.eraseAllSlots_does (Nat.or_self _) (.refl _ _))
  have hr : s.stableStripped.rd f = (if s.on UPB_REGISTERED then s.regLost 0xFF else s).rd f := by
    rcases hf with rfl | rfl <;> exact h.rd (State.stableStripped_regLost w) 0 (by decide)
  rw [hr]
  split
  · rcases hf with rfl | rfl <;> exact (State.regLost_does 0xFF (Nat.or_self _) (.refl _ s)).rd w 0 (by decide)
  · rfl

theorem State.stableReached_wf : s.stableReached.wf = true :=
  State.wr_wf _ _ _ (State.railsOff_wf (s := { s.stableStripped with mode := .stable }) (State.stableStripped_wf w))

theorem State.stableReached_rd {f : Fld} (hf : f = PWR_WAKE_LATCH ∨ f = PWR_MODE_REQ) : s.stableReached.rd f = s.rd f := by
  have w1 : ({ s.stableStripped with mode := .stable } : State).wf = true := State.stableStripped_wf w
  rw [← State.stableStripped_rd w hf]
  rcases hf with rfl | rfl <;>
    exact (State.rd_wr_fld 1 0 0 (State.railsOff_wf w1)).trans (State.railsOff_rd 0 w1)

theorem State.stableReached_stableIn : s.stableReached.rd PWR_STABLE_IN = 1 :=
  State.rd_wr_same PWR_STABLE_IN 1 0 (State.railsOff_wf (s := { s.stableStripped with mode := .stable }) (State.stableStripped_wf w))

end

/-- STABLE: the keys are gone, STABLE_IN shows, and the transmitter is off. -/
structure InStable (t : State) : Prop where
  mode : t.mode = .stable
  keys : t.cip.keys = []
  stableIn : t.rd PWR_STABLE_IN = 1
  dark : t.pins.txdisN = false

theorem State.updTxdis_pwrMainEn (s : State) : s.updTxdis.pins.pwrMainEn = s.pins.pwrMainEn := by
  unfold State.updTxdis
  split
  · rfl
  · split <;> rfl

/-- The rails are not the mode's. -/
theorem State.setMode_pwrMainEn (s : State) (m : Mode) : (s.setMode m).pins.pwrMainEn = s.pins.pwrMainEn := by
  rw [← State.updTxdis_pwrMainEn { s with mode := m }]
  exact congrArg Pins.pwrMainEn ((State.showPower_does (Nat.or_self _) (.refl _ _)).pins_eq (by decide))

/-- The exit from STABLE: the registers it writes (R411). -/
theorem State.beginStableExit_only {s : State} (w : s.wf = true) : Only [PWR_IN_TRANSIT.one, PWR_WAKE_CAUSE.one]
    { s with pwr := { s.pwr with transit := some .listen, wake := 0, exitAt := some s.now }, pins := { s.pins with pwrMainEn := true } }
    s.beginStableExit :=
  (((Only.refl [PWR_IN_TRANSIT.one, PWR_WAKE_CAUSE.one] s).wr_mem (g := PWR_IN_TRANSIT) 1 (i := 0) w (by simp)).wr_mem (g := PWR_WAKE_CAUSE)
    s.pwr.wake (i := 0) (State.wr_wf _ _ _ w) (by simp)).swap rfl rfl rfl

theorem State.beginStableExit_inTransit {s : State} (w : s.wf = true) : s.beginStableExit.rd PWR_IN_TRANSIT = 1 :=
  (State.rd_wr_fld (s := s.startTransit .listen) (f := PWR_WAKE_CAUSE) s.pwr.wake 0 0 (State.wr_wf _ _ _ w)).trans
    (State.rd_wr_same (s := { s with pwr := _ }) PWR_IN_TRANSIT 1 0 w)

theorem State.beginStableExit_cause {s : State} (w : s.wf = true) : s.beginStableExit.rd PWR_WAKE_CAUSE = s.pwr.wake % 64 :=
  State.rd_wr_same (s := s.startTransit .listen) PWR_WAKE_CAUSE s.pwr.wake 0 (State.wr_wf _ _ _ w)

theorem InStable.beginStableExit {s : State} (w : s.wf = true) (h : InStable s) : InStable s.beginStableExit :=
  ⟨h.mode, h.keys, ((State.beginStableExit_does (Nat.or_self _) (.refl _ s)).rd w 0 (by decide)).trans h.stableIn, h.dark⟩

/-- The end of the transition changes neither. -/
theorem State.finished_inStable {s : State} (w : s.wf = true) (hk : s.cip.keys = []) (hi : s.rd PWR_STABLE_IN = 1) (hd : s.pins.txdisN = false) :
    InStable (s.finished .stable) :=
  ⟨State.finished_mode _ _, (congrArg Cipher.keys ((State.setMode_does .stable (Nat.or_self _) (.refl _ s.transitOver)).cip_eq (by decide))).trans hk,
    (State.finished_rd .stable w 0).trans hi, State.setMode_dark (by decide) hd⟩

section
variable {s : State} (w : s.wf = true)
include w

/-- The end of an entry into STABLE. -/
theorem State.stableReached_inStable : InStable (s.stableReached.finished .stable) :=
  State.finished_inStable (State.stableReached_wf w) rfl (State.stableReached_stableIn w) rfl

/-- An entry into STABLE with nothing latched ends there, without its rails. -/
theorem State.enterStable_quiet (hw : s.rd PWR_WAKE_LATCH = 0) (hr : s.rd PWR_MODE_REQ = 0) :
    InStable s.enterStable ∧ s.enterStable.pwr.transit = none ∧ s.enterStable.pins.pwrMainEn = false := by
  rw [State.enterStable_eq, State.finish_quiet _ (State.stableReached_wf w) (.inr ((State.stableReached_rd w (.inl rfl)).trans hw))
    ((State.stableReached_rd w (.inr rfl)).trans hr)]
  exact ⟨State.stableReached_inStable w, congrArg Power.transit (State.finished_pwr _ _), State.setMode_pwrMainEn _ _⟩

/-- A cause latched during the entry powers the terminal up again. -/
theorem State.enterStable_woken (hw : s.rd PWR_WAKE_LATCH ≠ 0) :
    InStable s.enterStable ∧ s.enterStable.pwr.transit = some .listen ∧ s.enterStable.pins.pwrMainEn = true
      ∧ s.enterStable.rd PWR_WAKE_CAUSE = s.rd PWR_WAKE_LATCH % 64 := by
  have w1 := State.stableReached_wf w
  have hl := State.stableReached_rd w (.inl rfl)
  have h := State.stableReached_inStable w
  have he : InStable (s.stableReached.earlyWake .stable) :=
    ⟨h.mode, h.keys, (State.rd_wr_fld (s := { s.stableReached.finished .stable with pwr := _ }) (f := PWR_EARLY_WAKE) _ 0 0
      (State.finished_wf _ w1)).trans h.stableIn, h.dark⟩
  rw [State.enterStable_eq, State.finish_woken w1 rfl (hl.trans_ne hw), if_neg (by decide)]
  refine ⟨he.beginStableExit (State.earlyWake_wf _ w1), rfl, rfl, ?_⟩
  rw [State.beginStableExit_cause (State.earlyWake_wf _ w1), ← hl]
  rfl

end

/-! The commands of STABLE -/

/-- With no burst pending or in the air nothing committed is dropped. -/
theorem State.inAir_of_quiet {s : State} (hb : s.up.bursts = []) (hd : s.up.disc = none) : s.inAir = false := by simp [State.inAir, hb, hd]

theorem State.dropCommitted_none {s : State} (hb : s.up.bursts = []) : s.dropCommitted = s := by
  simp only [State.dropCommitted, hb, List.filter_nil, List.foldl_nil]
  rw [← hb]

theorem stableEntry_eq {s : State} (ht : s.pwr.transit = some .stable) (hn : s.pwr.notice = none) (hb : s.up.bursts = []) (hd : s.up.disc = none) :
    stableEntry s = s.enterStable := by
  have h1 : (s.pwr.transit == some .stable && s.noticeSent) = true := by simp [ht, State.noticeSent, hn]
  have h2 : { s with pwr := { s.pwr with notice := none } }.dropCommitted = s := by
    rw [← hn]
    exact State.dropCommitted_none hb
  simp only [stableEntry, h1, if_true, h2, State.inAir_of_quiet hb hd, Bool.false_eq_true, if_false]

theorem modeTransitionComplete_stable {s : State} (ht : s.pwr.transit = some .stable) (hn : s.pwr.notice = none) (hb : s.up.bursts = [])
    (hd : s.up.disc = none) : modeTransitionComplete s = s.enterStable := by
  simp [modeTransitionComplete, ht, hn, State.inAir_of_quiet hb hd]

/-- Both commands that end an entry into STABLE end it alike. -/
theorem exec_stableEnd {c : Instr} {s : State} (hc : c = .stableEntry ∨ c = .modeTransitionComplete) (ht : s.pwr.transit = some .stable)
    (hn : s.pwr.notice = none) (hb : s.up.bursts = []) (hd : s.up.disc = none) : exec c s = .next s.enterStable := by
  rcases hc with rfl | rfl
  · exact congrArg _ (stableEntry_eq ht hn hb hd)
  · exact congrArg _ (modeTransitionComplete_stable ht hn hb hd)

theorem leaveWaitExpiry_eq {s : State} {q : Nat} {n : Option Nat} (hq : s.pwr.notice = some (q, n)) : leaveWaitExpiry s
    = { s with time := (s.advance (q + s.rd PWR_LEAVE_WAIT * msTicks)).time, regs := (s.advance (q + s.rd PWR_LEAVE_WAIT * msTicks)).regs
               pwr := { s.pwr with notice := none } } := by
  simp only [leaveWaitExpiry, hq]
  rw [State.advance_eq]

/-- The entry's wait ends at an instant, and no notice is waited for any longer. -/
theorem leaveWaitExpiry_completes {s : State} {q : Nat} {n : Option Nat} {P : State → Nat → Prop} (hq : s.pwr.notice = some (q, n))
    (hP : ∀ x, P { s with time := (s.advance x).time, regs := (s.advance x).regs, pwr := { s.pwr with notice := none } } x) :
    Completes .leaveWaitExpiry s fun t => P t (q + s.rd PWR_LEAVE_WAIT * msTicks) :=
  completes_of rfl (leaveWaitExpiry_eq hq) (hP _)

/-- The notice is given up at instant `x`. -/
theorem State.advance_givesUp {s : State} (x : Nat) (w : s.wf = true) :
    Only [LTM_HOLD_MF.one] { s with time := (s.advance x).time, pwr := { s.pwr with notice := none } }
        { s with time := (s.advance x).time, regs := (s.advance x).regs, pwr := { s.pwr with notice := none } }
      ∧ (s.advance x).time.lt = max s.now x :=
  ⟨(State.advance_only x w).swap rfl rfl rfl, State.advance_now s x⟩

section
variable {s : State} (w : s.wf = true)
include w

theorem State.enterStable_inStable (hr : s.rd PWR_MODE_REQ = 0) : InStable s.enterStable := by
  by_cases hw : s.rd PWR_WAKE_LATCH = 0
  · exact (State.enterStable_quiet w hw hr).1
  · exact (State.enterStable_woken w hw).1

theorem leaveWaitExpiry_gives_up {q : Nat} {n : Option Nat} (hq : s.pwr.notice = some (q, n)) : Completes .leaveWaitExpiry s fun t =>
    Only [LTM_HOLD_MF.one] { s with time := t.time, pwr := { s.pwr with notice := none } } t
      ∧ t.now = max s.now (q + s.rd PWR_LEAVE_WAIT * msTicks) := by
  exact leaveWaitExpiry_completes (P := fun t x => Only [LTM_HOLD_MF.one] { s with time := t.time, pwr := { s.pwr with notice := none } } t
    ∧ t.now = max s.now x) hq fun x => State.advance_givesUp x w

end

/-- During the entry a source shows in WAKE_LATCH, and in STABLE it is latched. -/
theorem State.latchWake_entering {s : State} {b : Nat} (hb : b ≤ 2) (he : bit (s.rd PWR_WAKE_EN) b = true) (ht : s.pwr.transit = some .stable) :
    s.latchWake b = s.wr PWR_WAKE_LATCH (setBit (s.rd PWR_WAKE_LATCH) b) := by
  simp [State.latchWake, hb, he, ht]

theorem State.latchWake_inStable {s : State} {b : Nat} (hb : b ≤ 2) (he : bit (s.rd PWR_WAKE_EN) b = true) (hm : s.mode = .stable)
    (ht : s.pwr.transit = none) : s.latchWake b = { s with pwr := { s.pwr with wake := setBit s.pwr.wake b } } := by
  simp [State.latchWake, hb, he, hm, ht]

section
variable {s : State} (w : s.wf = true)
include w

/-- What precedes the end of the transition into LISTEN keeps the request. -/
theorem State.enterListen_ends (hr : s.rd PWR_MODE_REQ = 0) : ∃ u : State, s.enterListen = u.finish .listen ∧ u.wf = true
    ∧ u.rd PWR_MODE_REQ = 0 ∧ u.join.toListen = false := by
  by_cases hs : s.mode = .stable
  · have h := (((State.carriersOn_does (Nat.or_self _) (.refl _ { s with mode := .listen, join := { s.join with toListen := false } })).comp
      (State.tbRestart_does (Nat.or_self _) (.refl _ _))).comp (State.lanesSync_does (List.range 24) (Nat.or_self _) (.refl _ _))).comp
      (State.raise_does 1 4 (Nat.or_self _) (.refl _ _))
    exact ⟨_, if_pos (by simp [hs]), h.wf w, (h.rd w 0 (by decide)).trans hr, congrArg Join.toListen (h.join_eq (by decide))⟩
  · by_cases hg : s.mode = .graze
    · have h := (State.lanesSync_does (List.range 24) (Nat.or_self _) (.refl _ { s with mode := .listen, join := { s.join with toListen := false } })).comp
        (State.raise_does 1 2 (Nat.or_self _) (.refl _ _))
      exact ⟨_, (if_neg (by simp [hs])).trans (if_pos (by simp [hg])), h.wf w, (h.rd w 0 (by decide)).trans hr,
        congrArg Join.toListen (h.join_eq (by decide))⟩
    · exact ⟨_, (if_neg (by simp [hs])).trans (if_neg (by simp [hg])), w, hr, rfl⟩

theorem modeTransitionComplete_listen (ht : s.pwr.transit = some .listen) (ha : s.inAir = false) (hp : s.mode = .stable → s.pins.pgood = true)
    (hr : s.rd PWR_MODE_REQ = 0) : Completes .modeTransitionComplete s fun t =>
      t.mode = .listen ∧ t.pwr.transit = none ∧ t.rd PWR_IN_TRANSIT = 0 ∧ t.join.toListen = false := by
  obtain ⟨u, hu, wu, hru, hju⟩ := State.enterListen_ends w hr
  have hg : (s.mode == .stable && !s.pins.pgood) = false := by
    by_cases hm : s.mode = .stable
    · simp [hp hm]
    · simp [hm]
  have he : modeTransitionComplete s = u.finished .listen := by
    simp only [modeTransitionComplete, ht, ha, hg, Bool.or_self, Bool.false_eq_true, if_false, hu]
    exact State.finish_quiet .listen wu (.inl rfl) hru
  refine completes_of rfl he ⟨State.finished_mode _ _, congrArg Power.transit (State.finished_pwr _ _), State.finished_inTransit _ wu, ?_⟩
  exact (congrArg Join.toListen ((State.setMode_does .listen (Nat.or_self _) (.refl _ u.transitOver)).join_eq (by decide))).trans hju

end

/-- A channel in self-refresh trains again. -/
def State.refreshEnds (s : State) (ch : Nat) : State := if s.rd DDR_TRAIN_STATE ch == 4 then s.wr DDR_TRAIN_STATE 2 ch else s

/-- What the first `n` channels of the self-refresh come to. -/
theorem State.refreshEnds_channels {s : State} (w : s.wf = true) (n : Nat) (hn : n ≤ 16) :
    ((List.range n).foldl State.refreshEnds s).wf = true
      ∧ Only [DDR_TRAIN_STATE.any] s ((List.range n).foldl State.refreshEnds s)
      ∧ ∀ ch, ch < 16 → ((List.range n).foldl State.refreshEnds s).rd DDR_TRAIN_STATE ch
          = if ch < n ∧ s.rd DDR_TRAIN_STATE ch = 4 then 2 else s.rd DDR_TRAIN_STATE ch := by
  induction n with
  | zero => exact ⟨w, .refl _ _, fun ch _ => (if_neg (by simp)).symm⟩
  | succ n ih =>
    obtain ⟨hw, ho, hr⟩ := ih (by omega)
    rw [List.range_succ, List.foldl_append, List.foldl_cons, List.foldl_nil]
    generalize (List.range n).foldl State.refreshEnds s = t at hw ho hr
    have hn4 : t.rd DDR_TRAIN_STATE n = s.rd DDR_TRAIN_STATE n := (hr n (by omega)).trans (if_neg (by simp))
    by_cases h4 : s.rd DDR_TRAIN_STATE n = 4
    · have he : t.refreshEnds n = t.wr DDR_TRAIN_STATE 2 n := if_pos (by rw [hn4, h4]; rfl)
      rw [he]
      refine ⟨State.wr_wf _ _ _ hw, ho.wr _ _ (State.wf_regs hw) (by simp [Touch.covers, Fld.any]), fun ch hch => ?_⟩
      by_cases hcn : ch = n
      · subst hcn
        rw [State.rd_wr_same _ _ _ hw, if_pos ⟨by omega, h4⟩]
        rfl
      · have hk : (t.wr DDR_TRAIN_STATE 2 n).rd DDR_TRAIN_STATE ch = t.rd DDR_TRAIN_STATE ch :=
          rdR_wrR_copy 2 (State.wf_regs hw) hcn (by omega) (by omega)
        rw [hk, hr ch hch]
        have : ch < n + 1 ↔ ch < n := by omega
        simp only [this]
    · have he : t.refreshEnds n = t := if_neg (by rw [hn4]; simpa using h4)
      rw [he]
      refine ⟨hw, ho, fun ch hch => ?_⟩
      rw [hr ch hch]
      by_cases hcn : ch = n
      · subst hcn
        simp [h4]
      · have : ch < n + 1 ↔ ch < n := by omega
        simp only [this]

theorem State.serveWaiters_idle {s : State} {exp : Bool} (n : Nat) (h : s.waitersOf exp = []) : State.serveWaiters n s exp = s := by
  cases n with
  | zero => rfl
  | succ n => simp only [State.serveWaiters, h]

/-- With no take waiting the cave only returns to READY, and its channels to their training. -/
theorem State.refreshExit_idle {s : State} (w : s.wf = true) (hc : s.rd CAV_STATE = cavRefresh) (hw : s.cave.waiters = []) :
    Only [CAV_STATE.one, DDR_TRAIN_STATE.any] s s.refreshExit ∧ s.refreshExit.rd CAV_STATE = cavReady
      ∧ ∀ ch, ch < 16 → s.refreshExit.rd DDR_TRAIN_STATE ch = (if s.rd DDR_TRAIN_STATE ch = 4 then 2 else s.rd DDR_TRAIN_STATE ch) := by
  obtain ⟨ht, ho, hr⟩ := State.refreshEnds_channels w 16 (Nat.le_refl _)
  have hcav : ((List.range 16).foldl State.refreshEnds s).rd CAV_STATE = cavRefresh := (ho.rd CAV_STATE 0 (by decide) (by decide)).trans hc
  have hwait : ((List.range 16).foldl State.refreshEnds s).cave.waiters = [] := (congrArg (fun t : State => t.cave.waiters) ho.rest).trans hw
  have he : s.refreshExit = ((List.range 16).foldl State.refreshEnds s).wr CAV_STATE cavReady := by
    refine (if_pos (by rw [← hcav]; exact beq_self_eq_true _)).trans ?_
    exact State.serveWaiters_idle 64 hwait
  rw [he]
  refine ⟨(ho.mono (by simp)).wr_mem _ ht (by simp), State.rd_wr_same _ _ 0 ht, fun ch hch => ?_⟩
  rw [State.rd_wr_fld _ 0 ch ht, hr ch hch]
  simp only [hch, true_and]

theorem caveStateReload_eq {s : State} (hm : s.mode = .listen) (ht : s.pwr.transit = none) (hc : s.rd CAV_STATE = cavRefresh) :
    caveStateReload s = s.refreshExit := by
  simp [caveStateReload, State.dark, State.entering, hm, ht, hc]

theorem stableExit_eq {s : State} (hm : s.mode = .stable) (ht : s.pwr.transit = none) (hw : s.pwr.wake ≠ 0) : stableExit s = s.beginStableExit := by
  simp [stableExit, hm, ht, hw]

/-- SD rising after at least 1 ms low is a source that wakes. -/
theorem sdChange_rises {s : State} (hs : s.pins.sd = false) (he : bit (s.rd PWR_WAKE_EN) wkSd = true) (hm : s.mode = .stable)
    (ht : s.pwr.transit = none) : sdChange true true s
      = { s with pins := { s.pins with sd := true }, rx := { s.rx with sdHighSince := s.now }
                 pwr := { s.pwr with wake := setBit s.pwr.wake wkSd } } := by
  have hup : (true == s.pins.sd) = false := by rw [hs]; rfl
  simp only [sdChange, hup, Bool.false_eq_true, if_false, if_true]
  exact State.latchWake_inStable (s := { s with pins := { s.pins with sd := true }, rx := { s.rx with sdHighSince := s.now } }) (by decide) he hm ht

end Sys2Proof.Machine

namespace Sys2Proof
open Sys2Proof.Machine

/-- Settles O19: the entry strips the terminal and takes its rails, causes latched meanwhile start the exit at once, and the exit ends in LISTEN. -/
theorem stableEnteredAndLeft : Obligations.StableEnteredAndLeft := by
  unfold Obligations.StableEnteredAndLeft
  refine ⟨fun c s hc w ht hn hb hd hr => ?_, fun q n s w hq => leaveWaitExpiry_gives_up w hq, fun s he hm ht => ?_, fun s w he ht => ?_,
    fun s w hs he hm ht => ?_, fun s w hm ht hw => ?_, fun s w ht ha hp hr => modeTransitionComplete_listen w ht ha hp hr,
    fun s w hm ht hc hw => ?_, fun s w ht hn hb hd hr => ?_⟩
  · obtain ⟨hmode, hkeys, hin, hdark⟩ := State.enterStable_inStable w hr
    exact ⟨_, exec_stableEnd hc ht hn hb hd, hmode, hkeys, hin, hdark, fun hw => (State.enterStable_quiet w hw hr).2,
      fun hw => (State.enterStable_woken w hw).2⟩
  · exact completes_of rfl (State.latchWake_inStable (by decide) he hm ht) rfl
  · exact completes_of rfl (State.latchWake_entering (b := wkTone) (by decide) he ht)
      ⟨(Only.refl _ s).wr_mem _ w (by simp), State.rd_wr_same _ _ 0 w⟩
  · exact completes_of rfl (sdChange_rises hs he hm ht) rfl
  · exact completes_of rfl (stableExit_eq hm ht hw)
      ⟨State.beginStableExit_only w, State.beginStableExit_inTransit w, State.beginStableExit_cause w⟩
  · exact completes_of rfl (caveStateReload_eq hm ht hc) (State.refreshExit_idle w hc hw)
  · obtain ⟨hmode, hkeys, hin, hdark⟩ := State.enterStable_inStable w hr
    exact ⟨_, exec_stableEnd (.inl rfl) ht hn hb hd, hmode, hkeys, hin, hdark⟩

end Sys2Proof
end

section
namespace Sys2Proof.Machine

/-! The collector (R423, R424): what a report that makes a record leaves -/

/-- A source whose numbers fit the fields of a record (R438). -/
structure FaultSrc.Fits (src : FaultSrc) : Prop where
  level : src.level < 8
  region : src.region < 32
  cluster : src.cluster < 128
  unit : src.unit < 16
  detail : src.detail < 256

/-- Causes that occur fit their field. -/
theorem cause_lt_of_faultClass {c : Nat} (h : faultClass c ≠ 0) : c < 256 := by
  by_contra hc
  have : ∀ k, k < 256 → (c == k) = false := fun k hk => by simp; omega
  simp [faultClass, this] at h
  omega

theorem faultClass_le_three (c : Nat) : faultClass c ≤ 3 := by
  unfold faultClass
  split <;> [omega; split] <;> [omega; split] <;> omega

/-- What a report that makes a record at entry `n` changes before the action of its class (R424, R437). -/
def State.newRecord (s : State) (n cause dup : Nat) (src : FaultSrc) (inj : Bool) : State :=
  (((s.writeRec n cause (faultClass cause) dup src inj).inc (classCount (faultClass cause))).inc FLT_DUP_TOTAL dup).showOpen

theorem State.freshRecord_dark {s : State} {n cause region : Nat} (h : s.freshRecord n cause region = true) : s.dark = false := by
  simp only [State.freshRecord, Bool.and_eq_true, Bool.not_eq_true'] at h
  exact h.1.1

theorem State.freshRecord_empty {s : State} {n cause region : Nat} (h : s.freshRecord n cause region = true) :
    (List.range 64).find? (fun k => s.recState k == 0) = some n := by
  simp only [State.freshRecord, Bool.and_eq_true, beq_iff_eq] at h
  exact h.2

theorem State.freshRecord_unmatched {s : State} {n cause region : Nat} (h : s.freshRecord n cause region = true) :
    (List.range 64).find? (fun k => s.recState k == 1 && s.rd FLT_REC_CAUSE k == cause && s.rd FLT_REC_REGION k == region) = none := by
  simp only [State.freshRecord, Bool.and_eq_true] at h
  rw [List.find?_eq_none]
  intro k hk
  have := List.all_eq_true.mp h.1.2 k hk
  simpa only [Bool.not_eq_true', Bool.not_eq_true] using this

/-- The collector's answer hangs on the mode and on the record table alone. -/
theorem State.freshRecord_congr {s t : State} (n cause region : Nat) (hm : t.mode = s.mode)
    (hr : ∀ k, t.rd FLT_REC_RSTATE k = s.rd FLT_REC_RSTATE k) (hc : ∀ k, t.rd FLT_REC_CAUSE k = s.rd FLT_REC_CAUSE k)
    (hg : ∀ k, t.rd FLT_REC_REGION k = s.rd FLT_REC_REGION k) : t.freshRecord n cause region = s.freshRecord n cause region := by
  simp only [State.freshRecord, State.dark, State.recState, hm, hr, hc, hg]

/-- A report of a cause that occurs and matches no OPEN record makes one at the first EMPTY entry, and its class acts. -/
theorem State.collect_of_fresh {s : State} {n cause : Nat} (dup : Nat) {src : FaultSrc} (inj : Bool) (hc : faultClass cause ≠ 0)
    (h : s.freshRecord n cause src.region = true) :
    s.collect cause dup src inj = (s.newRecord n cause dup src inj).classAction cause (faultClass cause) src := by
  have hc' : (faultClass cause == 0) = false := by simpa using hc
  have hp : s.recPlace (faultClass cause) = some n := by simp only [State.recPlace, State.freshRecord_empty h]
  simp only [State.collect, State.freshRecord_dark h, hc', Bool.or_self, Bool.false_eq_true, if_false, State.freshRecord_unmatched h, hp,
    State.newRecord]

/-! A new record -/

/-- The counter of a class is one of three. -/
theorem classCount_cases (c : Nat) : classCount c = FLT_CORR_COUNT ∨ classCount c = FLT_CONT_COUNT ∨ classCount c = FLT_FATAL_COUNT := by
  unfold classCount
  split
  · exact .inl rfl
  · split
    · exact .inr (.inl rfl)
    · exact .inr (.inr rfl)

/-- After a record is written, the counts follow. -/
theorem State.newRecord_counts (s : State) (n cause dup : Nat) (src : FaultSrc) (inj : Bool) :
    Does 0xf8000000000000000000000000000000000000000000000000000000000000000000000000000000000000000000000000000000000000000000000000000000000000000000000000000000000000000000000000000000000000000000000000000
      (s.writeRec n cause (faultClass cause) dup src inj) (s.newRecord n cause dup src inj) := by
  refine State.showOpen_does (by decide) (State.inc_does _ _ _ (by decide) (State.inc_does _ _ _ (by decide) (.refl _ _) fun _ => ?_)
    fun _ => by decide)
  rcases classCount_cases (faultClass cause) with h | h | h <;> rw [h] <;> decide

/-- The frame of a new record: the table of records, the counts and the collector's order. -/
theorem State.newRecord_does (s : State) (n cause dup : Nat) (src : FaultSrc) (inj : Bool) :
    Does 0x10000000000000000000000000000000000000000000000000000fff000f8000000000000000000000000000000000000000000000000000000000000000000000000000000000000000000000000000000000000000000000000000000000000000000000000000000000000000000000000000000000000000000000000000 s
      (s.newRecord n cause dup src inj) :=
  ((State.writeRec_does n cause (faultClass cause) dup src inj (Nat.or_self _) (.refl _ s)).comp (State.newRecord_counts ..)).mono (by decide)

/-- The fields by which a record tells of its report. -/
def toldFields : List Fld :=
  [FLT_REC_RSTATE, FLT_REC_CAUSE, FLT_REC_CLASS, FLT_REC_DUP, FLT_REC_LEVEL, FLT_REC_REGION, FLT_REC_CLUSTER, FLT_REC_UNIT, FLT_REC_DETAIL]

/-- What leaves the record table out keeps what a record tells. -/
theorem Recorded.kept {W n cause dup : Nat} {src : FaultSrc} {s t : State} (r : Recorded n cause dup src s) (h : Does W s t) (w : s.wf = true)
    (hW : ∀ f ∈ toldFields, Nat.testBit W f.id = false := by decide) : Recorded n cause dup src t := by
  have k : ∀ f ∈ toldFields, t.rd f n = s.rd f n := fun f hf => h.rd w n (hW f hf) ((by decide : ∀ f ∈ toldFields, f.id < 1000) f hf)
  simp only [toldFields, List.forall_mem_cons] at k
  obtain ⟨k1, k2, k3, k4, k5, k6, k7, k8, k9, -⟩ := k
  exact ⟨by rw [k1, k2, k3, k4]; exact r.what, by rw [k5, k6, k7, k8, k9]; exact r.source⟩

section
variable {s : State} {n cause dup : Nat} {src : FaultSrc} {inj : Bool}

theorem State.writeRec_recorded (w : s.wf = true) (hc : cause < 256) (hs : src.Fits) :
    Recorded n cause dup src (s.writeRec n cause (faultClass cause) dup src inj) := by
  have w' := State.wf_regs w
  have hcl : faultClass cause < 4 := by have := faultClass_le_three cause; omega
  have hd : satU 16 dup < 65536 := by unfold satU; split <;> omega
  constructor <;>
    simp (disch := first | decide | (repeat first | exact w' | apply wrR_wf)) only [State.writeRec, State.rd_eq, State.flag_eq, State.wr_regs,
      rdR_wrR_same, rdR_wrR_fld]
  · exact ⟨rfl, Nat.mod_eq_of_lt hc, Nat.mod_eq_of_lt hcl, Nat.mod_eq_of_lt hd⟩
  · exact ⟨Nat.mod_eq_of_lt hs.level, Nat.mod_eq_of_lt hs.region, Nat.mod_eq_of_lt hs.cluster, Nat.mod_eq_of_lt hs.unit,
      Nat.mod_eq_of_lt hs.detail⟩

theorem State.newRecord_recorded (w : s.wf = true) (hc : cause < 256) (hs : src.Fits) :
    Recorded n cause dup src (s.newRecord n cause dup src inj) :=
  (State.writeRec_recorded w hc hs).kept (State.newRecord_counts ..)
    ((State.writeRec_does n cause _ dup src inj (Nat.or_self _) (.refl _ s)).wf w)

end

/-! The action of a class (R424, R425, R427) -/

section
variable (s : State) (cause : Nat) (src : FaultSrc)

/-- The leave that the source holds is withdrawn. -/
theorem State.withdrawLeave_leaves : (s.withdrawLeave src).pwr.leaves = s.pwr.leaves.filter fun l => !leaveOf src l :=
  congrArg Power.leaves ((Does.foldl (W := 0x4a00000000000000000000000000000000000000000000000000000000000000000000000000000000000000000000000000000000000000000000000000000000000000000000000000000000000000000000000000000000000000000)
    (fun u l h => State.showLeave_does l.cls (by decide) (State.inc_does _ _ _ (by decide) h fun _ => by decide)) _ _ (.refl _ _)).pwr_eq (by decide))

theorem State.classAction_corrected : (s.classAction cause 1 src).pwr.leaves = s.pwr.leaves := by
  show (if (s.raise 2 0).on FLT_ERR_CORR = true then (s.raise 2 0).errEvent else s.raise 2 0).pwr.leaves = _
  split <;> simp [State.errEvent]

/-- A contained report withdraws leave and pulls ERR_N low. -/
theorem State.classAction_contained : (s.classAction cause 2 src).pwr.leaves = (s.pwr.leaves.filter fun l => !leaveOf src l)
    ∧ (s.classAction cause 2 src).pins.errN = false := by
  have he : s.classAction cause 2 src = (s.raise 2 1).errEvent.withdrawLeave src := rfl
  rw [he]
  constructor
  · rw [State.withdrawLeave_leaves]
    simp [State.errEvent]
  · rw [(State.withdrawLeave_does src (Nat.or_self _) (.refl _ _)).pins_eq (by decide)]
    rfl

end

section
variable {s : State} {n cause dup : Nat} {src : FaultSrc} {inj : Bool} (w : s.wf = true) (hc : faultClass cause ≠ 0)
  (h : s.freshRecord n cause src.region = true)
include w hc h

/-- A report that makes a record leaves it in the table. -/
theorem State.collect_recorded (hs : src.Fits) : Recorded n cause dup src (s.collect cause dup src inj) := by
  have hn := State.newRecord_does s n cause dup src inj
  rw [State.collect_of_fresh dup inj hc h]
  exact (State.newRecord_recorded w (cause_lt_of_faultClass hc) hs).kept (State.classAction_does _ _ _ (Nat.or_self _) (.refl _ _)) (hn.wf w)

omit w hc in
theorem State.collect_corrected (h1 : faultClass cause = 1) : (s.collect cause dup src inj).pwr.leaves = s.pwr.leaves := by
  rw [State.collect_of_fresh dup inj (by omega) h, h1, State.classAction_corrected, (State.newRecord_does s n cause dup src inj).pwr_eq (by decide)]

omit w hc in
theorem State.collect_contained (h2 : faultClass cause = 2) :
    (s.collect cause dup src inj).pwr.leaves = (s.pwr.leaves.filter fun l => !leaveOf src l) ∧ (s.collect cause dup src inj).pins.errN = false := by
  rw [State.collect_of_fresh dup inj (by omega) h, h2]
  have hl := State.classAction_contained (s.newRecord n cause dup src inj) cause src
  rwa [(State.newRecord_does s n cause dup src inj).pwr_eq (by decide)] at hl

end

/-- What an operation leaves out of mode and record table, the collector's answer does not see. -/
theorem State.freshRecord_kept {W : Nat} {s t : State} (n cause region : Nat) (w : s.wf = true) (h : Does W s t)
    (hm : Nat.testBit W 1006 = false := by decide) (hr : Nat.testBit W FLT_REC_RSTATE.id = false := by decide)
    (hc : Nat.testBit W FLT_REC_CAUSE.id = false := by decide) (hg : Nat.testBit W FLT_REC_REGION.id = false := by decide) :
    t.freshRecord n cause region = s.freshRecord n cause region :=
  State.freshRecord_congr n cause region (h.mode_eq hm) (fun k => h.rd w k hr) (fun k => h.rd w k hc) (fun k => h.rd w k hg)

/-! A page's own fault (R431, R436) -/

/-- A report shows in its page's own status and counts as an event there. -/
def State.noted (s : State) (cause pg ch : Nat) : State := (s.localFault cause pg ch).perf pg 0xF4

section
variable {s : State} {cause pg ch dup : Nat} {src : FaultSrc}

theorem State.fault_eq (h : s.faultMasked cause pg = false) : s.fault cause src pg ch dup = (s.noted cause pg ch).collect cause dup src :=
  if_neg (ne_true_of_eq_false h)

theorem State.noted_frame (s : State) (cause pg ch : Nat) : Does 0x200002000000000000000000000000000000000000000000000000000018000030300f8000000000000000000000000000000000000010000001000000000000000000000000000000000000000000000000000000000000000000000000000000000000000000000000000000000000000000000000000000000000000000000 s (s.noted cause pg ch) :=
  State.perf_does _ _ _ (by decide) (State.localFault_does _ _ _ (by decide) (.refl _ s))

theorem State.noted_fresh {n : Nat} (w : s.wf = true) (h : s.freshRecord n cause src.region = true) : (s.noted cause pg ch).freshRecord n cause src.region = true :=
  (State.freshRecord_kept n cause src.region w (s.noted_frame cause pg ch)).trans h

variable {n : Nat} (w : s.wf = true) (hc : faultClass cause ≠ 0)
  (h : s.freshRecord n cause src.region = true) (hm : s.faultMasked cause pg = false)
include w h hm

include hc in
theorem State.fault_recorded (hs : src.Fits) : Recorded n cause dup src (s.fault cause src pg ch dup) := by
  rw [State.fault_eq hm]
  exact State.collect_recorded ((s.noted_frame cause pg ch).wf w) hc (State.noted_fresh w h) hs

theorem State.fault_corrected (h1 : faultClass cause = 1) : (s.fault cause src pg ch dup).pwr.leaves = s.pwr.leaves := by
  rw [State.fault_eq hm, State.collect_corrected (State.noted_fresh w h) h1, (s.noted_frame cause pg ch).pwr_eq (by decide)]

theorem State.fault_contained (h2 : faultClass cause = 2) : (s.fault cause src pg ch dup).pwr.leaves
      = (s.pwr.leaves.filter fun l => !leaveOf src l) ∧ (s.fault cause src pg ch dup).pins.errN = false := by
  rw [State.fault_eq hm, ← (s.noted_frame cause pg ch).pwr_eq (by decide)]
  exact State.collect_contained (State.noted_fresh w h) h2

end

end Sys2Proof.Machine
end

section
namespace Sys2Proof.Machine

/-! Holdover ends (R39, R40) -/

/-- In holdover the time in holdover goes on with line time. -/
theorem State.advance_holdTicks {s : State} {x : Nat} (hl : s.rd LTM_STATE = ltHoldover) (hx : s.now < x) :
    (s.advance x).time.holdTicks = s.time.holdTicks + (x - s.now) := by
  have hh : s.ltIs ltHoldover = true := by rw [State.ltIs, hl]; rfl
  unfold State.advance
  rw [if_neg (Nat.not_le.mpr hx)]
  simp only [hh, if_true]
  rfl

theorem State.setLtState_state {s : State} (x : Nat) (w : s.wf = true) : (s.setLtState x).rd LTM_STATE = x % 2 ^ LTM_STATE.w :=
  State.rd_written w ((State.raiseIf_does _ 11 0 (Nat.or_self _) (.refl _ (s.wr LTM_STATE x))).comp
    (State.raiseIf_does _ 11 1 (Nat.or_self _) (.refl _ _)))

/-- Holdover has no start any more, and no label or step is under way. -/
def State.unheld (s : State) : State := { s with time := { s.time with holdStart := none, step := none, label := none, labelRun := 0 } }

/-- LT is FREE and nothing is granted: what precedes the loss of the join or of the registration. -/
def State.freed (s : State) : State := ((s.unheld.setLtState ltFree).dropCommitted.emptyCal).setRate (s.rd LRX_RS_EXPECT)

/-- The frame of what follows once LT shows FREE. -/
def freedFrame : Nat :=
  0x2005b200000000000000000000000000000000000000000000000000001800003030000000000000000000000000000000000000000010000001000000000000000000000000000000000000000000000000000000000000060400000000000000000000000000000000000600000000000210004380020000800580018000000

theorem State.freed_frame (s : State) : Does freedFrame (s.unheld.setLtState ltFree) s.freed :=
  State.setRate_does _ (by decide) (State.emptyCal_does (by decide) (State.dropCommitted_does (by decide) (.refl _ _)))

theorem State.ltToFree_eq (s : State) : s.ltToFree = if s.mode == .join then s.freed.joinFail 6
    else if s.on UPB_REGISTERED then s.freed.regLost 0xFF else s.freed := rfl

/-- LT is FREE at instant `n`, with nothing in the calendar. -/
structure LtFree (n : Nat) (t : State) : Prop where
  state : t.rd LTM_STATE = ltFree
  now : t.now = n
  cal : t.up.cal = []

theorem LtFree.launchOk {n : Nat} {t : State} (h : LtFree n t) : t.launchOk = false := by
  simp [State.launchOk, State.ltIs, h.state, ltFree, ltLocked]

section
variable {s : State} (w : s.wf = true)
include w

theorem State.unheld_set_wf : (s.unheld.setLtState ltFree).wf = true :=
  (State.setLtState_does ltFree (Nat.or_self _) (.refl _ s.unheld)).wf w

theorem State.freed_wf : s.freed.wf = true := s.freed_frame.wf (State.unheld_set_wf w)

theorem State.freed_free : LtFree s.now s.freed :=
  ⟨(s.freed_frame.rd (State.unheld_set_wf w) 0 (by decide)).trans (State.setLtState_state (s := s.unheld) ltFree w),
    s.freed_frame.now_eq.trans (State.setLtState_does ltFree (Nat.or_self _) (.refl _ s.unheld)).now_eq,
    congrArg Upstream.cal ((State.setRate_does (s.rd LRX_RS_EXPECT) (Nat.or_self _) (.refl _ _)).up_eq (by decide))⟩

end

/-! A join fails (R144) -/

/-- A join fails: its registers, before the mode becomes LISTEN. -/
def State.joinCleared (s : State) (cause : Nat) : State :=
  { (((s.wr UPB_JOIN_EN 0).wr UPB_TID_VALID 0).wr UPB_REGISTERED 0).wr UPB_FAIL_CAUSE cause with
    join := { s.join with wins := [], skip := 0, rangeDue := none } }.wr UPB_JOIN_STATE 0

section
variable {s : State} {cause : Nat} (w : s.wf = true)
include w

theorem State.joinCleared_wf : (s.joinCleared cause).wf = true :=
  State.wr_wf (s := { (((s.wr UPB_JOIN_EN 0).wr UPB_TID_VALID 0).wr UPB_REGISTERED 0).wr UPB_FAIL_CAUSE cause with join := _ }) _ _ _
    (State.wr_wf _ _ _ (State.wr_wf _ _ _ (State.wr_wf _ _ _ (State.wr_wf _ _ _ w))))

theorem State.joinFail_shows : (s.joinFail cause).mode = .listen ∧ (s.joinFail cause).rd UPB_FAIL_CAUSE = cause % 2 ^ UPB_FAIL_CAUSE.w
    ∧ (s.joinFail cause).rd UPB_JOIN_EN = 0 := by
  have w' := State.wf_regs w
  have hframe := (State.setMode_does .listen (Nat.or_self _) (.refl _ (s.joinCleared cause))).comp (State.raise_does 10 1 (Nat.or_self _) (.refl _ _))
  refine ⟨(State.raise_mode _ _ _).trans (State.setMode_mode _ _), (hframe.rd (State.joinCleared_wf w) 0 (by decide)).trans ?_,
    (hframe.rd (State.joinCleared_wf w) 0 (by decide)).trans ?_⟩ <;>
    simp (disch := first | decide | (repeat first | exact w' | apply wrR_wf)) only [State.joinCleared, State.rd_eq, State.wr_regs, rdR_wrR_same,
      rdR_wrR_fld]
  rfl

theorem LtFree.joinFail {n : Nat} (h : LtFree n s) : LtFree n (s.joinFail cause) := by
  have hframe := State.joinFail_does cause (Nat.or_self _) (.refl _ s)
  exact ⟨(hframe.rd w 0 (by decide)).trans h.state, hframe.now_eq.trans h.now,
    (congrArg Upstream.cal (hframe.up_eq (by decide))).trans h.cal⟩

end

/-! The registration is lost (R145) -/

/-- The registration is lost: its registers, before what follows from the mode. -/
def State.regCleared (s : State) (cause : Nat) : State :=
  let t := s.dropCommitted.emptyCal
  { ((((t.wr UPB_TID_VALID 0).wr UPB_REGISTERED 0).wr UPB_DEREG_CAUSE cause).wr LTM_EQD 0).wr LTM_EQD_PEND 0 with
    join := { t.join with groups := [], kept := [], resp := [], toListen := true }
    time := { t.time with eqdLoad := none } }

theorem State.regLost_eq (s : State) (cause : Nat) : s.regLost cause = (if s.mode == .service && s.pwr.transit.isNone
    then (s.regCleared cause).startTransit .listen else s.regCleared cause).raise 10 2 := rfl

/-- The frame of what follows the loss in SERVICE, and of the interrupt. -/
theorem State.regLost_frame (s : State) (cause : Nat) : Does 0x20800200000000000000000000000000000000000000000000000000001800003030000000000800000000000000000000000000000010000001000000000000000000000000000000000000000000000000000000000000000000000000000000000000000000000000000000000000000000000000000000000000000000000 (s.regCleared cause) (s.regLost cause) := by
  rw [State.regLost_eq]
  exact State.raise_does _ _ (by decide) (.ite (State.startTransit_does _ (by decide) (.refl _ _)) (.refl _ _))

section
variable {s : State} {cause : Nat} (w : s.wf = true)
include w

theorem State.dropped_wf : s.dropCommitted.emptyCal.wf = true :=
  ((State.dropCommitted_does (Nat.or_self _) (.refl _ s)).comp (State.emptyCal_does (Nat.or_self _) (.refl _ _))).wf w

theorem State.regCleared_wf : (s.regCleared cause).wf = true :=
  show (((((s.dropCommitted.emptyCal.wr UPB_TID_VALID 0).wr UPB_REGISTERED 0).wr UPB_DEREG_CAUSE cause).wr LTM_EQD 0).wr LTM_EQD_PEND 0).wf = true
  from State.wr_wf _ _ _ (State.wr_wf _ _ _ (State.wr_wf _ _ _ (State.wr_wf _ _ _ (State.wr_wf _ _ _ (State.dropped_wf w)))))

theorem State.regLost_shows (hc : cause < 256) : (s.regLost cause).rd UPB_REGISTERED = 0 ∧ (s.regLost cause).rd UPB_DEREG_CAUSE = cause
    ∧ (s.regLost cause).rd UPB_TID_VALID = 0 ∧ (s.regLost cause).rd LTM_EQD = 0 := by
  have w' := State.wf_regs (State.dropped_wf w)
  have hread {f : Fld} (hf : f ∈ [UPB_REGISTERED, UPB_DEREG_CAUSE, UPB_TID_VALID, LTM_EQD]) :
      (s.regLost cause).rd f = (s.regCleared cause).rd f := by
    simp only [List.mem_cons, List.not_mem_nil, or_false] at hf
    rcases hf with rfl | rfl | rfl | rfl <;> exact (s.regLost_frame cause).rd (State.regCleared_wf w) 0 (by decide)
  rw [hread (by simp), hread (by simp), hread (by simp), hread (by simp)]
  simp (disch := first | decide | (repeat first | exact w' | apply wrR_wf)) only [State.regCleared, State.rd_eq, State.wr_regs, rdR_wrR_same,
    rdR_wrR_fld]
  exact ⟨rfl, Nat.mod_eq_of_lt hc, rfl, rfl⟩

theorem LtFree.regLost {n : Nat} (h : LtFree n s) : LtFree n (s.regLost cause) := by
  have hdrop := (State.dropCommitted_does (Nat.or_self _) (.refl _ s)).comp (State.emptyCal_does (Nat.or_self _) (.refl _ _))
  exact ⟨((State.regLost_does cause (Nat.or_self _) (.refl _ s)).rd w 0 (by decide)).trans h.state,
    (s.regLost_frame cause).now_eq.trans (hdrop.now_eq.trans h.now),
    congrArg Upstream.cal ((s.regLost_frame cause).up_eq (by decide))⟩

end

/-! Line time is lost -/

section
variable {s : State} (w : s.wf = true)
include w

theorem State.ltToFree_free : LtFree s.now s.ltToFree := by
  rw [State.ltToFree_eq]
  split
  · exact (State.freed_free w).joinFail (State.freed_wf w)
  · split
    · exact (State.freed_free w).regLost (State.freed_wf w)
    · exact State.freed_free w

theorem State.ltToFree_join (hm : s.mode = .join) : s.ltToFree.mode = .listen ∧ s.ltToFree.rd UPB_FAIL_CAUSE = 6 ∧ s.ltToFree.rd UPB_JOIN_EN = 0 := by
  rw [State.ltToFree_eq, if_pos (by rw [hm]; rfl)]
  exact State.joinFail_shows (State.freed_wf w)

theorem State.ltToFree_registered (hm : s.mode ≠ .join) (hr : s.rd UPB_REGISTERED = 1) : s.ltToFree.rd UPB_REGISTERED = 0
    ∧ s.ltToFree.rd UPB_DEREG_CAUSE = 0xFF ∧ s.ltToFree.rd UPB_TID_VALID = 0 ∧ s.ltToFree.rd LTM_EQD = 0 := by
  rw [State.ltToFree_eq, if_neg (by simpa using hm), if_pos (by rw [State.on, hr]; rfl)]
  exact State.regLost_shows (State.freed_wf w) (by decide)

end

/-- Holdover ends at an instant at which line time is lost. -/
theorem ltHoldoverExpiry_completes {h : Nat} {s : State} {P : State → Nat → Prop} (hs : s.time.holdStart = some h)
    (hl : s.rd LTM_STATE = ltHoldover) (hP : ∀ x, P (s.advance x).ltToFree x) :
    Completes .ltHoldoverExpiry s fun t => P t (h + 10 * sfTicks) := by
  have he : ltHoldoverExpiry s = (s.advance (h + 10 * sfTicks)).ltToFree := by
    simp only [ltHoldoverExpiry, hs]
    exact if_pos (by rw [State.ltIs, hl]; rfl)
  exact completes_of rfl he (hP _)

/-- What the end of holdover at `x` leaves. -/
theorem State.advance_freed {s : State} (x : Nat) (w : s.wf = true) : LtFree (max s.now x) (s.advance x).ltToFree
    ∧ (s.mode = .join → (s.advance x).ltToFree.mode = .listen ∧ (s.advance x).ltToFree.rd UPB_FAIL_CAUSE = 6
        ∧ (s.advance x).ltToFree.rd UPB_JOIN_EN = 0)
    ∧ (s.mode ≠ .join → s.rd UPB_REGISTERED = 1 → (s.advance x).ltToFree.rd UPB_REGISTERED = 0 ∧ (s.advance x).ltToFree.rd UPB_DEREG_CAUSE = 0xFF
        ∧ (s.advance x).ltToFree.rd UPB_TID_VALID = 0 ∧ (s.advance x).ltToFree.rd LTM_EQD = 0) := by
  have ha := State.advance_does x (Nat.or_self _) (.refl _ s)
  have hm : (s.advance x).mode = s.mode := ha.mode_eq (by decide)
  have hr : (s.advance x).rd UPB_REGISTERED = s.rd UPB_REGISTERED := ha.rd w 0 (by decide)
  rw [← State.advance_now, ← hm, ← hr]
  exact ⟨State.ltToFree_free (ha.wf w), State.ltToFree_join (ha.wf w), State.ltToFree_registered (ha.wf w)⟩

theorem ltHoldoverExpiry_frees {h : Nat} {s : State} (w : s.wf = true) (hs : s.time.holdStart = some h) (hl : s.rd LTM_STATE = ltHoldover) :
    Completes .ltHoldoverExpiry s fun t =>
      t.rd LTM_STATE = ltFree ∧ t.launchOk = false ∧ t.now = max s.now (h + 10 * sfTicks) ∧ t.up.cal = []
      ∧ (s.mode = .join → t.mode = .listen ∧ t.rd UPB_FAIL_CAUSE = 6 ∧ t.rd UPB_JOIN_EN = 0)
      ∧ (s.mode ≠ .join → s.rd UPB_REGISTERED = 1 → t.rd UPB_REGISTERED = 0 ∧ t.rd UPB_DEREG_CAUSE = 0xFF ∧ t.rd UPB_TID_VALID = 0
        ∧ t.rd LTM_EQD = 0) :=
  ltHoldoverExpiry_completes (P := fun t x => t.rd LTM_STATE = ltFree ∧ t.launchOk = false ∧ t.now = max s.now x ∧ t.up.cal = []
      ∧ (s.mode = .join → t.mode = .listen ∧ t.rd UPB_FAIL_CAUSE = 6 ∧ t.rd UPB_JOIN_EN = 0)
      ∧ (s.mode ≠ .join → s.rd UPB_REGISTERED = 1 → t.rd UPB_REGISTERED = 0 ∧ t.rd UPB_DEREG_CAUSE = 0xFF ∧ t.rd UPB_TID_VALID = 0
        ∧ t.rd LTM_EQD = 0)) hs hl fun x => by
    obtain ⟨hfree, hjoin, hreg⟩ := State.advance_freed x w
    exact ⟨hfree.state, hfree.launchOk, hfree.now, hfree.cal, hjoin, hreg⟩

/-! Holdover asks for fine ranging (R40) -/

/-- More than `k` ticks of holdover have accumulated at `x`. -/
theorem fineRange_asked {s : State} (w : s.wf = true) {k : Nat} (hl : s.rd LTM_STATE = ltHoldover) (hk : s.time.holdTicks ≤ k) :
    Only [LTM_HOLD_MF.one, LTM_FINE_RANGE_REQ.one] { s with time := (s.advance (s.now + (k + 1 - s.time.holdTicks))).time }
        ((s.advance (s.now + (k + 1 - s.time.holdTicks))).wr LTM_FINE_RANGE_REQ 1)
      ∧ (s.advance (s.now + (k + 1 - s.time.holdTicks))).now = s.now + (k + 1 - s.time.holdTicks)
      ∧ k < (s.advance (s.now + (k + 1 - s.time.holdTicks))).time.holdTicks := by
  have hx : s.now < s.now + (k + 1 - s.time.holdTicks) := by omega
  have ha := State.advance_holdTicks hl hx
  have wa := (State.advance_does (s.now + (k + 1 - s.time.holdTicks)) (Nat.or_self _) (.refl _ s)).wf w
  exact ⟨((State.advance_only _ w).mono (by simp)).wr_mem 1 wa (by simp), (State.advance_now _ _).trans (Nat.max_eq_right hx.le), by omega⟩

theorem fineRangeReq_completes {s : State} {P : State → Nat → Prop} (hf : s.rd LTM_FINE_RANGE_REQ = 0) (hl : s.rd LTM_STATE = ltHoldover)
    (hlt : ∀ k, s.time.holdTicks ≤ k → k < (s.advance (s.now + (k + 1 - s.time.holdTicks))).time.holdTicks)
    (hk : s.time.holdTicks ≤ 2 * sfTicks)
    (hP : ∀ k, s.time.holdTicks ≤ k → P ((s.advance (s.now + (k + 1 - s.time.holdTicks))).wr LTM_FINE_RANGE_REQ 1) k) :
    Completes .fineRangeReq s fun t => P t (2 * sfTicks) := by
  have hoff : s.on LTM_FINE_RANGE_REQ = false := by rw [State.on, hf]; rfl
  have hh : s.ltIs ltHoldover = true := by rw [State.ltIs, hl]; rfl
  have he : fineRangeReq s = (s.advance (s.now + (2 * sfTicks + 1 - s.time.holdTicks))).wr LTM_FINE_RANGE_REQ 1 := by
    simp only [fineRangeReq, hoff, hh, if_true, Bool.false_eq_true, if_false]
    exact if_pos (hlt _ hk)
  exact completes_of rfl he (hP _ hk)

theorem fineRangeReq_asks {s : State} (w : s.wf = true) (hf : s.rd LTM_FINE_RANGE_REQ = 0) (hl : s.rd LTM_STATE = ltHoldover)
    (hk : s.time.holdTicks ≤ 2 * sfTicks) : Completes .fineRangeReq s fun t =>
      Only [LTM_HOLD_MF.one, LTM_FINE_RANGE_REQ.one] { s with time := t.time } t ∧ t.rd LTM_FINE_RANGE_REQ = 1
      ∧ t.now = s.now + (2 * sfTicks + 1 - s.time.holdTicks) ∧ 2 * sfTicks < t.time.holdTicks :=
  fineRangeReq_completes (P := fun t k => Only [LTM_HOLD_MF.one, LTM_FINE_RANGE_REQ.one] { s with time := t.time } t
      ∧ t.rd LTM_FINE_RANGE_REQ = 1 ∧ t.now = s.now + (k + 1 - s.time.holdTicks) ∧ k < t.time.holdTicks) hf hl
    (fun k hk => (fineRange_asked w hl hk).2.2) hk fun k hk => by
    obtain ⟨honly, hnow, hticks⟩ := fineRange_asked w hl hk
    exact ⟨honly, State.rd_wr_same _ 1 0 ((State.advance_does _ (Nat.or_self _) (.refl _ s)).wf w), hnow, hticks⟩

end Sys2Proof.Machine
end

section
namespace Sys2Proof.Machine

/-! The monitors (R27, R34) -/

theorem domainRegion_lt {d : Nat} (h : d < 60) : domainRegion d < 32 := by
  have : ∀ d < 60, domainRegion d < 32 := by decide
  exact this d h

theorem srcRegion_fits {r : Nat} (h : r < 32) : (srcRegion r).Fits := by
  constructor <;> simp [srcRegion, h]

theorem State.meet_met (s : State) (d : Defect) (set : Bool) : (d, set) ∈ (s.meet d set).rx.met := by
  unfold State.meet
  split
  · next h => exact List.contains_iff_mem.mp h
  · exact List.mem_append_right _ (List.mem_singleton_self _)

/-- A defect met changes neither records, leave nor pins. -/
theorem State.meet_frame (s : State) (d : Defect) (set : Bool) : Does 0x1000000000000000000000000000000000000000000000000000000000000000000000000000000000000000000000000000000000000000000000000000000000000000000000000000000000000000000000000000000000000000000000000000000000000000000000000000000000000000000000000000000000000 s (s.meet d set) := State.meet_does d set (by decide) (.refl _ s)

/-- The clock of domain `d` stops where a monitor watches it. -/
theorem clockMonitorFault_eq {d : Nat} {s : State} (hs : s.dark = false) (hd : d < 60) (h57 : d ≠ 57) (h58 : d ≠ 58)
    (he : s.domainEnabled d = true) : clockMonitorFault d s =
      if d = 0 then (s.fault cClkStop (srcRegion (domainRegion d)) (domainPage d) d).meet (.los 0) true
      else if d = 2 then (s.fault cClkStop (srcRegion (domainRegion d)) (domainPage d) d).meet (.los 1) true
      else s.fault cClkStop (srcRegion (domainRegion d)) (domainPage d) d := by
  simp [clockMonitorFault, hs, Nat.not_le.mpr hd, h57, h58, he]

/-- What is left of a fault of a clock. -/
structure ClockStopped (n d : Nat) (s t : State) : Prop where
  recorded : Recorded n cClkStop 0 (srcRegion (domainRegion d)) t
  leaves : t.pwr.leaves = s.pwr.leaves.filter (fun l => !leaveOf (srcRegion (domainRegion d)) l)
  err : t.pins.errN = false

theorem ClockStopped.meet {n d : Nat} {s t : State} (w : t.wf = true) (h : ClockStopped n d s t) (x : Defect) : ClockStopped n d s (t.meet x true) := by
  have hf := t.meet_frame x true
  exact ⟨h.recorded.kept hf w, (congrArg Power.leaves (hf.pwr_eq (by decide))).trans h.leaves, (congrArg Pins.errN (hf.pins_eq (by decide))).trans h.err⟩

section
variable {s : State} (w : s.wf = true)
include w

theorem clockMonitorFault_records {d n : Nat} (hd : d < 60) (h57 : d ≠ 57) (h58 : d ≠ 58) (he : s.domainEnabled d = true)
    (hr : s.freshRecord n cClkStop (domainRegion d) = true) (hm : s.rd C_MASK_CONT (domainPage d) = 0) :
    Completes (.clockMonitorFault d) s fun t => Recorded n cClkStop 0 (srcRegion (domainRegion d)) t
      ∧ t.pwr.leaves = s.pwr.leaves.filter (fun l => !leaveOf (srcRegion (domainRegion d)) l) ∧ t.pins.errN = false
      ∧ (d = 0 → (Defect.los 0, true) ∈ t.rx.met) ∧ (d = 2 → (Defect.los 1, true) ∈ t.rx.met) := by
  have hmask : s.faultMasked cClkStop (domainPage d) = false := by
    simp only [State.faultMasked, State.on, hm]
    rfl
  have hr' : s.freshRecord n cClkStop (srcRegion (domainRegion d)).region = true := hr
  have wf := (State.fault_does cClkStop (srcRegion (domainRegion d)) (domainPage d) d 0 (Nat.or_self _) (.refl _ s)).wf w
  have hcont := State.fault_contained (ch := d) (dup := 0) w hr' hmask (by decide)
  have hstop : ClockStopped n d s (s.fault cClkStop (srcRegion (domainRegion d)) (domainPage d) d) :=
    ⟨State.fault_recorded w (by decide) hr' hmask (srcRegion_fits (domainRegion_lt hd)), hcont.1, hcont.2⟩
  refine completes_of rfl (clockMonitorFault_eq (State.freshRecord_dark hr) hd h57 h58 he) ?_
  by_cases h0 : d = 0
  · rw [if_pos h0]
    obtain ⟨hrec, hleave, herr⟩ := hstop.meet wf (.los 0)
    exact ⟨hrec, hleave, herr, fun _ => State.meet_met _ _ _, fun h2 => by omega⟩
  · by_cases h2 : d = 2
    · rw [if_neg h0, if_pos h2]
      obtain ⟨hrec, hleave, herr⟩ := hstop.meet wf (.los 1)
      exact ⟨hrec, hleave, herr, fun h => absurd h h0, fun _ => State.meet_met _ _ _⟩
    · rw [if_neg h0, if_neg h2]
      exact ⟨hstop.recorded, hstop.leaves, hstop.err, fun h => absurd h h0, fun h => absurd h h2⟩

theorem ltSkew_records {level region cluster n : Nat} (hl : level < 5) (hg : region < 32) (hc : cluster < 128)
    (hr : s.freshRecord n cLtSkew region = true) (hm : s.rd C_MASK_CORR 6 = 0) : Completes (.ltSkew level region cluster) s fun t =>
      Recorded n cLtSkew 0 { level := level, region := region, cluster := cluster } t
      ∧ t.time.skew = s.time.skew ++ [{ level := level, region := region, cluster := cluster }] ∧ t.pwr.leaves = s.pwr.leaves := by
  have hmask : ({ s with time := { s.time with skew := s.time.skew ++ [{ level := level, region := region, cluster := cluster }] } } : State).faultMasked
      cLtSkew 6 = false := by
    show ((faultClass cLtSkew == 1 && (s.rd C_MASK_CORR 6 != 0)) || (faultClass cLtSkew == 2 && s.on C_MASK_CONT 6)) = false
    rw [hm]
    rfl
  have hframe := State.fault_does cLtSkew { level := level, region := region, cluster := cluster } 6 0 0 (Nat.or_self _)
    (.refl _ { s with time := { s.time with skew := s.time.skew ++ [{ level := level, region := region, cluster := cluster }] } })
  have he : ltSkew level region cluster s = _ := if_neg (ne_true_of_eq_false (State.freshRecord_dark hr))
  have hfits : FaultSrc.Fits { level := level, region := region, cluster := cluster } := ⟨hl.trans (by decide), hg, hc, by simp, by simp⟩
  exact completes_of rfl he ⟨State.fault_recorded w (by decide) hr hmask hfits,
    congrArg LineTime.skew (hframe.time_eq (by decide)), State.fault_corrected w hr hmask (by decide)⟩

end

end Sys2Proof.Machine
end

section
namespace Sys2Proof.Machine

/-! A record of the control stream that the terminal takes (R119, R120) -/

/-- The state in which a record that ends at its place is judged: the place moves past it, and it counts. -/
def State.atRecord (s : State) (r : Rec) (p : Nat) : State := (s.mapChain ctlStream fun x => { x with place := some (recEnd p r) }).recOk

/-- A message that is taken is a record in its place, addressed to the terminal, whole and in format, in time, and no duplicate. -/
structure Taken (s : State) (code : Nat) (r : Rec) : Prop where
  parser : s.parserOn = true
  type : recType r = 5
  head : recHeadOk r = true
  first : s.rx.first = false
  ptr : (s.chain ctlStream).ptr = none
  place : ∃ p, (s.chain ctlStream).place = some p ∧ recEnd p r ≤ s.ctlBytes
  body : recBodyOk r = true
  len : 8 ≤ recLen r
  named : (msgOf r).code = code
  addressed : s.addressed (recTid r) = true
  format : s.msgFormatOk code (msgOf r) = true
  fresh : s.keptIs (s.ownTid (msgOf r).tid) code (msgOf r).seq = false
  inTime : s.msgLate (msgOf r) = false

theorem State.takesMessage_taken {s : State} {code : Nat} {r : Rec} (h : s.takesMessage code r = true) : Taken s code r := by
  simp only [State.takesMessage, State.takesRecord, Bool.and_eq_true, decide_eq_true_eq, beq_iff_eq, Bool.not_eq_true', Option.isNone_iff_eq_none] at h
  obtain ⟨⟨⟨⟨⟨⟨⟨⟨⟨⟨⟨⟨hparser, htype⟩, hhead⟩, hfirst⟩, hptr⟩, hplace⟩, hbody⟩, hlen⟩, hcode⟩,
    haddr⟩, hformat⟩, hfresh⟩, hlate⟩ := h
  refine ⟨hparser, htype, hhead, hfirst, hptr, ?_, hbody, hlen, hcode, haddr, hformat, hfresh, hlate⟩
  split at hplace
  · cases hplace
  · next p hp => exact ⟨p, hp, by simpa using hplace⟩

/-- A message that is taken is judged in its place. -/
theorem State.codeRecord_taken {s : State} {code : Nat} {r : Rec} {f : Msg → State → State} (h : Taken s code r) :
    ∃ p, s.codeRecord code r f = (f (msgOf r) (s.atRecord r p)).recMet false := by
  obtain ⟨p, hp, hend⟩ := h.place
  have hfit : ¬ s.ctlBytes ≤ p := by
    unfold recEnd at hend
    omega
  have hmeet : s.meetPtr = s := by simp only [State.meetPtr, hp, h.ptr]
  have hcode : (decide (recLen r < 8) || (msgOf r).code != code) = false := by simp [h.named, h.len]
  have haddr : (s.mapChain ctlStream fun x => { x with place := some (recEnd p r) }).addressed (recTid r) = true := h.addressed
  refine ⟨p, ?_⟩
  simp only [State.codeRecord, hcode, State.msgRecord, State.recFor, State.record, h.parser, h.type, hmeet, hp, hfit, h.head, Nat.not_lt.mpr hend,
    haddr, h.body, State.atRecord, beq_self_eq_true, Bool.not_true, Bool.or_self, Bool.false_eq_true, if_false]

section
variable (s : State) (r : Rec) (p : Nat)

/-- Where a record is judged nothing but the chains and the count of records differs. -/
theorem State.atRecord_frame : Does 0x20000200000000000000000000000000000000000000000000000000001800003030000000000000000000000000000000000000000010000001000000000000000000000000000000000000000000000000000000000000000000000000000000000000000000000000000000000000000000000002000000000000000000000 (s.mapChain ctlStream fun x => { x with place := some (recEnd p r) }) (s.atRecord r p) :=
  State.recOk_does (by decide) (.refl _ _)

theorem State.atRecord_up : (s.atRecord r p).up = s.up := (s.atRecord_frame r p).up_eq (by decide)

theorem State.atRecord_join : (s.atRecord r p).join = s.join := (s.atRecord_frame r p).join_eq (by decide)

theorem State.atRecord_now : (s.atRecord r p).now = s.now := (s.atRecord_frame r p).now_eq

variable {s} (w : s.wf = true)
include w

theorem State.atRecord_wf : (s.atRecord r p).wf = true := (s.atRecord_frame r p).wf w

theorem State.atRecord_rd {f : Fld} (i : Nat) (hf : Nat.testBit 0x20000200000000000000000000000000000000000000000000000000001800003030000000000000000000000000000000000000000010000001000000000000000000000000000000000000000000000000000000000000000000000000000000000000000000000000000000000000000000000002000000000000000000000 f.id = false := by decide) (hl : f.id < 1000 := by decide) :
    (s.atRecord r p).rd f i = s.rd f i := (s.atRecord_frame r p).rd w i hf hl

theorem State.atRecord_ownTid (tid : Nat) : (s.atRecord r p).ownTid tid = s.ownTid tid := by
  rw [State.ownTid, State.on, State.atRecord_rd r p w 0, State.atRecord_rd r p w 0]
  rfl

theorem State.atRecord_format (code : Nat) (m : Msg) : (s.atRecord r p).msgFormatOk code m = s.msgFormatOk code m := by
  simp only [State.msgFormatOk, State.atRecord_ownTid r p w]

omit w in
theorem State.atRecord_keptIs (own : Bool) (code seq : Nat) : (s.atRecord r p).keptIs own code seq = s.keptIs own code seq := by
  simp only [State.keptIs, State.atRecord_join]

theorem State.atRecord_carrying : (s.atRecord r p).carrying = s.carrying := by
  have hrx : (s.atRecord r p).rx.subs = s.rx.subs := by
    rw [(s.atRecord_frame r p).rx_eq (by decide)]
    rfl
  have hfk : (s.atRecord r p).fk = s.fk := (s.atRecord_frame r p).fk_eq (by decide)
  have hvalid : (s.atRecord r p).rd FKL_CTRL_VALID = s.rd FKL_CTRL_VALID := State.atRecord_rd r p w 0
  have hctrl : (s.atRecord r p).rd LRX_CTRL_SC = s.rd LRX_CTRL_SC := State.atRecord_rd r p w 0
  unfold State.carrying State.subOf State.ctrlSc State.on
  rw [hvalid, hctrl, State.atRecord_now, hrx, hfk]

theorem State.atRecord_msgLate (m : Msg) : (s.atRecord r p).msgLate m = s.msgLate m := by
  have hb : (s.atRecord r p).effBoundary m.effWord = s.effBoundary m.effWord := by
    simp only [State.effBoundary, State.atRecord_now]
  have he : (s.atRecord r p).mfEnd = s.mfEnd := congrArg (· + mfTicks) (State.atRecord_carrying r p w)
  rw [State.msgLate, hb, he]
  rfl

end

/-! PROFILE_SET (R166, R167) -/

/-- The message of a PROFILE_SET that is taken is the terminal's own. -/
theorem Taken.ownTid {s : State} {r : Rec} (h : Taken s mProfileSet r) : s.ownTid (msgOf r).tid = true := by
  have hk : (msgRule mProfileSet).kind = 0 := rfl
  have hf := h.format
  simp only [State.msgFormatOk, hk, Bool.and_eq_true] at hf
  simpa using hf.1.2

/-- A PROFILE_SET that is taken was accepted in the state `s`. -/
structure ProfileTaken (m : Msg) (s t : State) : Prop where
  queued : Queued 0x20 (ackBody mProfileSet m.seq 0 0) s t
  unready : t.up.uReady = 0
  kept : (t.up.profile.any fun p => p.body == (List.range 7).map (msgWord m) && p.accepted == s.now) = true

/-- Whatever leaves the upstream out keeps the profile. -/
theorem ProfileTaken.kept_by {m : Msg} {s t u : State} (h : ProfileTaken m s t) (hu : u.up = t.up) : ProfileTaken m s u :=
  ⟨by unfold Queued; rw [hu]; exact h.queued, by rw [hu]; exact h.unready, by rw [hu]; exact h.kept⟩

section
variable {s : State}

/-- With room in the queue a kept response joins it. -/
theorem State.ackKept_open (own : Bool) (code seq status data : Nat) (h : s.queueOpen = true) : (s.ackKept own code seq status data).up = { s.up with
    umq := s.up.umq ++ [{ code := 0x20, seq := s.up.umSeq, body := ackBody code seq status data, at_ := s.now }], umSeq := s.up.umSeq + 1 } := by
  unfold State.ackKept State.ack
  rw [State.queueMsg_open _ _ (by exact h)]
  rfl

/-- An accepted profile is acknowledged, and waits with no bank ready. -/
theorem State.acceptProfile_taken (m : Msg) (b : Nat) (h : s.queueOpen = true) : ProfileTaken m s (s.acceptProfile m b) := by
  have hup := State.ackKept_open true mProfileSet m.seq ackOk 0 h
  have hnow : (s.ackKept true mProfileSet m.seq ackOk 0).now = s.now := (State.ackKept_does true mProfileSet m.seq ackOk 0 (Nat.or_self _) (.refl _ s)).now_eq
  unfold State.acceptProfile
  generalize s.ackKept true mProfileSet m.seq ackOk 0 = t at hup hnow
  refine ProfileTaken.kept_by ⟨⟨?_, ?_⟩, rfl, ?_⟩ ((State.launchSlot_does 1 (Nat.or_self _) (.refl _ _)).up_eq (by decide))
  · exact (congrArg Upstream.umq hup)
  · exact (congrArg Upstream.umSeq hup)
  · simp [hnow]

/-- Accepting counts nothing. -/
theorem State.acceptProfile_frame (s : State) (m : Msg) (b : Nat) : Does 0x20c06200000000000000000000000000000000000000000000000000001800003030003a00000000000000000000000000000000000010000007702000800000000000000000000000000000000000000000000000000000000000000000000000000000000000000000000000100000000000000000000000000000000000000 s (s.acceptProfile m b) :=
  State.acceptProfile_does m b (by decide) (.refl _ s)

end

/-- No PROFILE_SET waits for its boundary any more. -/
def State.unpended (s : State) : State := { s with join := { s.join with pend := amDel s.join.pend mProfileSet } }

/-- A PROFILE_SET acts at once, -/
def State.profileAct (m : Msg) (_ : Bool) (u : State) : State := u.acceptProfile m 0

/-- or is accepted for its boundary. -/
def State.profileArm (m : Msg) (_ : Bool) (u : State) : State := (u.unpended.acceptProfile m ((u.effBoundary m.effWord).getD 0)).inc UPB_MSG_OK

theorem profileSet_eq (r : Rec) (s : State) : profileSet r s = s.codeRecord mProfileSet r fun m t =>
    if t.msgFormatOk mProfileSet m && !t.keptIs true mProfileSet m.seq && !profileOk m then t.ack mProfileSet m.seq ackBadFormat 0
    else t.judgeMsg mProfileSet m (State.profileAct m) (State.profileArm m) := rfl

/-- A PROFILE_SET accepted, and counted as a message that came in order. -/
structure ProfileCounted (m : Msg) (s t : State) : Prop where
  taken : ProfileTaken m s t
  count : t.rd UPB_MSG_OK = (s.rd UPB_MSG_OK + 1) % 2 ^ 32
  wf : t.wf = true

section
variable {s : State} (m : Msg) (w : s.wf = true) (hq : s.queueOpen = true)
include w hq

theorem State.profileAct_counted (j : Join) : ProfileCounted m s (State.profileAct m true ({ s with join := j }.inc UPB_MSG_OK)) := by
  have h := State.acceptProfile_taken (s := { s with join := j }.inc UPB_MSG_OK) m 0 hq
  exact ⟨⟨h.queued, h.unready, h.kept⟩, State.rd_written (s := { s with join := j }) w (State.acceptProfile_frame _ m 0),
    (State.acceptProfile_frame _ m 0).wf (State.wr_wf (s := { s with join := j }) _ _ 0 w)⟩

theorem State.profileArm_counted (j : Join) : ProfileCounted m s (State.profileArm m true { s with join := j }) := by
  have h := State.acceptProfile_taken (s := ({ s with join := j } : State).unpended) m ((s.effBoundary m.effWord).getD 0) hq
  have hf := State.acceptProfile_frame ({ s with join := j } : State).unpended m ((s.effBoundary m.effWord).getD 0)
  have hcount := hf.rd (f := UPB_MSG_OK) w 0 (by decide)
  refine ⟨⟨h.queued, h.unready, h.kept⟩, (State.rd_wr_same UPB_MSG_OK _ 0 (hf.wf w)).trans ?_, State.wr_wf _ _ 0 (hf.wf w)⟩
  exact congrArg (fun x => (x + 1) % 2 ^ 32) hcount

/-- A PROFILE_SET that is judged and taken is accepted, at once or for its boundary. -/
theorem State.judgeProfile_counted (hown : s.ownTid m.tid = true) (hf : s.msgFormatOk mProfileSet m = true)
    (hk : s.keptIs true mProfileSet m.seq = false) (hl : s.msgLate m = false) :
    ProfileCounted m s (s.judgeMsg mProfileSet m (State.profileAct m) (State.profileArm m)) := by
  simp only [State.judgeMsg, hown, hf, hk, hl, Bool.not_true, Bool.false_eq_true, if_false]
  split
  · exact State.profileArm_counted m w hq _
  · exact State.profileAct_counted m w hq _

end

/-- A state that differs in neither queue, instant nor count stands for the other. -/
theorem ProfileCounted.of_same {m : Msg} {a s t : State} (h : ProfileCounted m a t) (hu : a.up = s.up) (hn : a.now = s.now)
    (hr : a.rd UPB_MSG_OK = s.rd UPB_MSG_OK) : ProfileCounted m s t := by
  obtain ⟨⟨hq, hready, hkept⟩, hcount, hw⟩ := h
  unfold Queued at hq
  rw [hu, hn] at hq
  rw [hn] at hkept
  rw [hr] at hcount
  exact ⟨⟨hq, hready, hkept⟩, hcount, hw⟩

/-- Meeting the record's end changes neither. -/
theorem ProfileCounted.recMet {m : Msg} {s t : State} (h : ProfileCounted m s t) : ProfileCounted m s (t.recMet false) := by
  have hf := State.recMet_does false (Nat.or_self _) (.refl _ t)
  exact ⟨h.taken.kept_by (hf.up_eq (by decide)), (hf.rd h.wf 0 (by decide)).trans h.count, hf.wf h.wf⟩

theorem State.recMet_quiet {s : State} (h : s.rx.first = false) : s.recMet false = { s with rx := { s.rx with first := false } } := by
  simp [State.recMet, State.when_, h]

/-- `Only` with the receiver and the upstream exchanged on both sides. -/
theorem Only.rx_up {cs : List Touch} {s t : State} (h : Only cs s t) (x : Rx) (u : Upstream) :
    Only cs { s with rx := x, up := u } { t with rx := x, up := u } :=
  ⟨congrArg (fun y : State => { y with rx := x, up := u }) h.rest, h.rd⟩

section
variable {r : Rec} {s : State} (w : s.wf = true)
include w

/-- A record that is judged counts in FRM_REC_OK alone. -/
theorem State.atRecord_only (p : Nat) : Only [FRM_REC_OK.one] (s.mapChain ctlStream fun x => { x with place := some (recEnd p r) }) (s.atRecord r p) :=
  State.perf_only 8 0 1 ((Only.refl _ _).wr_mem (g := FRM_REC_OK) _ (i := 0) w (by simp)) (State.wr_wf _ _ _ w)

variable (h : Taken s mProfileSet r) (hq : s.queueOpen = true)
include h hq

omit w h in
theorem State.atRecord_queueOpen (p : Nat) : (s.atRecord r p).queueOpen = true := by
  rw [State.queueOpen, State.atRecord_up]
  exact hq

omit w hq in
theorem Taken.unkept : s.keptIs true mProfileSet (msgOf r).seq = false := by
  have hf := h.fresh
  rwa [h.ownTid] at hf

theorem profileSet_accepts (ho : profileOk (msgOf r) = true) : Completes (.profileSet r) s fun t =>
      Queued 0x20 (ackBody 0x06 (msgOf r).seq 0 0) s t ∧ t.up.uReady = 0
      ∧ (t.up.profile.any fun p => p.body == (List.range 7).map (msgWord (msgOf r)) && p.accepted == s.now) = true
      ∧ t.rd UPB_MSG_OK = (s.rd UPB_MSG_OK + 1) % 2 ^ 32 := by
  obtain ⟨p, hp⟩ := State.codeRecord_taken h
  have wa := State.atRecord_wf r p w
  have hcount := State.judgeProfile_counted (msgOf r) wa (State.atRecord_queueOpen hq p) ((State.atRecord_ownTid r p w _).trans h.ownTid)
    ((State.atRecord_format r p w _ _).trans h.format) ((State.atRecord_keptIs r p _ _ _).trans h.unkept) ((State.atRecord_msgLate r p w _).trans h.inTime)
  have hgood : ((s.atRecord r p).msgFormatOk mProfileSet (msgOf r) && !(s.atRecord r p).keptIs true mProfileSet (msgOf r).seq && !profileOk (msgOf r))
      = false := by simp [ho]
  obtain ⟨⟨hqueued, hready, hkept⟩, hok, -⟩ := hcount.recMet.of_same (State.atRecord_up s r p) (State.atRecord_now s r p) (State.atRecord_rd r p w 0)
  exact completes_of rfl ((profileSet_eq r s).trans (hp.trans (congrArg (State.recMet · false) (if_neg (ne_true_of_eq_false hgood)))))
    ⟨hqueued, hready, hkept, hok⟩

theorem profileSet_refuses (ho : profileOk (msgOf r) = false) : Completes (.profileSet r) s fun t =>
      Only [FRM_REC_OK.one] { s with rx := t.rx, up := t.up } t ∧ Queued 0x20 (ackBody 0x06 (msgOf r).seq 4 0) s t := by
  obtain ⟨p, hp⟩ := State.codeRecord_taken h
  have hbad : ((s.atRecord r p).msgFormatOk mProfileSet (msgOf r) && !(s.atRecord r p).keptIs true mProfileSet (msgOf r).seq && !profileOk (msgOf r))
      = true := by simp [State.atRecord_format r p w, State.atRecord_keptIs, h.format, h.unkept, ho]
  have hfirst : (s.atRecord r p).rx.first = false := by
    rw [(s.atRecord_frame r p).rx_eq (by decide)]
    exact h.first
  have hack := State.queueMsg_open 0x20 (ackBody mProfileSet (msgOf r).seq ackBadFormat 0) (State.atRecord_queueOpen (r := r) hq p)
  have he : profileSet r s = _ := (profileSet_eq r s).trans (hp.trans ((congrArg (State.recMet · false) ((if_pos hbad).trans hack)).trans
    (State.recMet_quiet hfirst)))
  refine completes_of rfl he ⟨(State.atRecord_only w p).rx_up _ _, ?_⟩
  rw [State.atRecord_up, State.atRecord_now]
  exact ⟨rfl, rfl⟩

end

end Sys2Proof.Machine

namespace Sys2Proof
open Sys2Proof.Machine

/-- Settles O24: the end of holdover frees line time, the monitors record, and a PROFILE_SET is accepted or acknowledged as of bad format. -/
theorem holdoverAndMonitors : Obligations.HoldoverAndMonitors := by
  unfold Obligations.HoldoverAndMonitors
  exact ⟨fun h s w hs hl => ltHoldoverExpiry_frees w hs hl, fun s w hf hl hk => fineRangeReq_asks w hf hl hk,
    fun d n s w hd h57 h58 he hr hm => clockMonitorFault_records w hd h57 h58 he hr hm,
    fun level region cluster n s w hl hg hc hr hm => ltSkew_records w hl hg hc hr hm,
    fun r s w ht ho hq => profileSet_accepts w (State.takesMessage_taken ht) hq ho,
    fun r s w ht ho hq => profileSet_refuses w (State.takesMessage_taken ht) hq ho⟩

end Sys2Proof
end

section
namespace Sys2Proof.Machine

/-! Operations that touch the power state only by giving up leave (R27, R414) -/

/-- From `s` to `t` leave may have gone, and the transition and the causes that wake stay. -/
structure LeaveOnly (s t : State) : Prop where
  transit : t.pwr.transit = s.pwr.transit
  wake : t.pwr.wake = s.pwr.wake
  leaves : t.pwr.leaves.Sublist s.pwr.leaves

theorem LeaveOnly.of_eq {s t : State} (h : t.pwr = s.pwr) : LeaveOnly s t := ⟨by rw [h], by rw [h], by rw [h]⟩

theorem LeaveOnly.refl (s : State) : LeaveOnly s s := .of_eq rfl

theorem LeaveOnly.trans {s t u : State} (h : LeaveOnly s t) (k : LeaveOnly t u) : LeaveOnly s u :=
  ⟨k.transit.trans h.transit, k.wake.trans h.wake, k.leaves.trans h.leaves⟩

/-- An operation whose frame leaves the power state out. -/
theorem LeaveOnly.op {W : Nat} {s t u : State} (h : LeaveOnly s t) (k : Does W t u) (hW : Nat.testBit W 1019 = false := by decide) :
    LeaveOnly s u := h.trans (.of_eq (k.pwr_eq hW))

theorem LeaveOnly.wr {s t : State} (h : LeaveOnly s t) (f : Fld) (v i : Nat) : LeaveOnly s (t.wr f v i) := ⟨h.transit, h.wake, h.leaves⟩

theorem LeaveOnly.mapVcl {s t : State} (h : LeaveOnly s t) (c : Nat) (f : VCluster → VCluster) : LeaveOnly s (t.mapVcl c f) :=
  ⟨h.transit, h.wake, h.leaves⟩

theorem LeaveOnly.foldl {α : Type} {f : State → α → State} (hf : ∀ t x, LeaveOnly t (f t x)) (l : List α) (s : State) :
    LeaveOnly s (l.foldl f s) := by
  induction l generalizing s with
  | nil => exact .refl s
  | cons x l ih => exact (hf s x).trans (ih (f s x))

theorem LeaveOnly.ite {s t u : State} {c : Prop} [Decidable c] (h : LeaveOnly s t) (k : LeaveOnly s u) : LeaveOnly s (if c then t else u) := by
  split <;> assumption

theorem LeaveOnly.none_left {s t : State} (h : LeaveOnly s t) (hs : s.pwr.leaves = []) : t.pwr.leaves = [] :=
  List.sublist_nil.mp (hs ▸ h.leaves)

section
variable (s : State)

theorem State.giveLeave_leaveOnly (cls region block : Nat) : LeaveOnly s (s.giveLeave cls region block) :=
  LeaveOnly.op (t := { s with pwr := { s.pwr with leaves := s.pwr.leaves.filter fun l => !(l.cls == cls && l.region == region && l.block == block) } })
    ⟨rfl, rfl, List.filter_sublist⟩ (State.showLeave_does cls (Nat.or_self _) (.refl _ _))

theorem State.giveAllLeave_leaves : s.giveAllLeave.pwr.leaves = [] :=
  (LeaveOnly.foldl (fun t c => LeaveOnly.op (.refl t) (State.showLeave_does c (Nat.or_self _) (.refl _ _))) _ _).none_left rfl

theorem State.withdrawLeave_leaveOnly (src : FaultSrc) : LeaveOnly s (s.withdrawLeave src) := by
  have h : LeaveOnly s { s with pwr := { s.pwr with
      leaves := s.pwr.leaves.filter fun l => !leaveOf src l
      faulted := if s.pwr.faultedAt == s.now then s.pwr.faulted ++ [src] else [src], faultedAt := s.now } } := ⟨rfl, rfl, List.filter_sublist⟩
  have hgone : ∀ (t : State) (l : Leave), LeaveOnly t ((t.inc PWR_LC_WITHDRAWN 1 l.cls).showLeave l.cls) := fun t l =>
    ((LeaveOnly.refl t).wr PWR_LC_WITHDRAWN _ l.cls).op (State.showLeave_does l.cls (Nat.or_self _) (.refl _ _))
  exact h.trans (.foldl hgone _ _)

/-! Regions and lanes -/

theorem State.vatGiveLeave_leaveOnly (c : Nat) : LeaveOnly s (s.vatGiveLeave c) := .ite (s.giveLeave_leaveOnly _ _ _) (.refl s)

theorem State.vatGiveNext_leaveOnly (c : Nat) : LeaveOnly s (s.vatGiveNext c) := .ite (s.giveLeave_leaveOnly _ _ _) (.refl s)

theorem State.endKernel_leaveOnly (c goal : Nat) : LeaveOnly s (s.endKernel c goal) := by
  have h : LeaveOnly s (s.when_ (s.cstate c == csRun) fun t => (t.drainVat c).wr VAT_C_LAST_CYCLES (t.vcl c).cyc c) := by
    unfold State.when_
    exact .ite (((LeaveOnly.refl s).op (State.drainVat_does c (Nat.or_self _) (.refl _ s))).wr _ _ _) (.refl s)
  unfold State.endKernel
  refine LeaveOnly.wr (.trans ?_ (State.vatGiveLeave_leaveOnly _ c)) _ _ _
  exact h.mapVcl _ _

/-- A cluster of a region that is gated. -/
def State.clusterOff (o s : State) (c : Nat) : State :=
  let t := ((s.endKernel c csOff).vatGiveNext c).mapVcl c fun x =>
    if o.on VAT_RETAIN then { pgm := x.pgm, lost := x.lost } else { lost := x.lost + 1 }
  { t with vat := { t.vat with units := t.vat.units.filter fun e => e.1 / 16 != c
                               starts := amDel t.vat.starts c
                               caps := t.vat.caps.filter fun e => e.1 / 4 != c } }

theorem State.clusterOff_leaveOnly (o : State) (c : Nat) : LeaveOnly s (o.clusterOff s c) := by
  obtain ⟨ht, hw, hl⟩ := (s.endKernel_leaveOnly c csOff).trans (State.vatGiveNext_leaveOnly _ c)
  exact ⟨ht, hw, hl⟩

theorem State.regionOff_leaveOnly (r : Nat) : LeaveOnly s (s.regionOff r) :=
  LeaveOnly.foldl (f := s.clusterOff) (fun t c => t.clusterOff_leaveOnly s c) _ s

theorem State.laneSync_leaveOnly (l : Nat) : LeaveOnly s (s.laneSync l) := by
  have hpow : ∀ t : State, LeaveOnly t t.showPower := fun t => (LeaveOnly.refl t).op (State.showPower_does (Nat.or_self _) (.refl _ t))
  have hlane : ∀ t : State, LeaveOnly t (t.laneChanged l) := fun t => (LeaveOnly.refl t).op (State.laneChanged_does l (Nat.or_self _) (.refl _ t))
  unfold State.laneSync
  dsimp only
  split
  · refine LeaveOnly.trans ?_ (hpow _)
    exact (LeaveOnly.refl s).wr _ _ _
  · refine LeaveOnly.trans (LeaveOnly.trans ?_ (hlane _)) (hpow _)
    split
    · exact (((LeaveOnly.refl s).wr _ _ _).wr _ _ _).wr _ _ _
    · refine LeaveOnly.trans ?_ (State.giveLeave_leaveOnly _ _ _ _)
      exact ⟨rfl, rfl, List.Sublist.refl _⟩

theorem State.lanesSync_leaveOnly (ls : List Nat) : LeaveOnly s (s.lanesSync ls) := .foldl State.laneSync_leaveOnly ls s

/-! Faults -/

theorem State.classAction_leaveOnly (cause cls : Nat) (src : FaultSrc) : LeaveOnly s (s.classAction cause cls src) := by
  have hraise := (LeaveOnly.refl s).op (State.raise_does 2 (cls - 1) (Nat.or_self _) (.refl _ s))
  have herr : ∀ {t : State}, LeaveOnly s t → LeaveOnly s t.errEvent := fun h => h.op (State.errEvent_does (Nat.or_self _) (.refl _ _))
  have hsafe : ∀ {t : State}, LeaveOnly s t → LeaveOnly s (t.safeEntry cause) := fun h => h.op (State.safeEntry_does cause (Nat.or_self _) (.refl _ _))
  have hleave : ∀ {t : State}, LeaveOnly s t → LeaveOnly s (t.withdrawLeave src) := fun h => h.trans (State.withdrawLeave_leaveOnly _ src)
  have hboth : ∀ {t : State}, LeaveOnly s t → LeaveOnly s (if 2 ≤ cls then t.withdrawLeave src else t) := fun h => .ite (hleave h) h
  unfold State.classAction
  exact .ite (hsafe (hboth (.ite (herr hraise) hraise))) (hboth (.ite (herr hraise) hraise))

theorem State.collect_leaveOnly (cause dup : Nat) (src : FaultSrc) (inj : Bool) : LeaveOnly s (s.collect cause dup src inj) := by
  unfold State.collect
  dsimp only
  split
  · exact .refl s
  · split
    · next n _ =>
      have hmatch : LeaveOnly s (if 2 ≤ faultClass cause then ((s.incSat FLT_REC_DUP (1 + dup) n).inc FLT_DUP_TOTAL (1 + dup)).withdrawLeave src
          else (s.incSat FLT_REC_DUP (1 + dup) n).inc FLT_DUP_TOTAL (1 + dup)) :=
        have hcount : LeaveOnly s ((s.incSat FLT_REC_DUP (1 + dup) n).inc FLT_DUP_TOTAL (1 + dup)) := ((LeaveOnly.refl s).wr _ _ _).wr _ _ _
        .ite (hcount.trans (State.withdrawLeave_leaveOnly _ src)) hcount
      exact .ite (hmatch.op (State.safeEntry_does cause (Nat.or_self _) (.refl _ _))) hmatch
    · split
      · next n _ =>
        exact ((LeaveOnly.refl s).op (State.newRecord_does s n cause dup src inj)).trans (State.classAction_leaveOnly _ _ _ _)
      · refine LeaveOnly.trans ?_ (State.classAction_leaveOnly _ _ _ _)
        exact ((LeaveOnly.refl s).wr _ _ _).op (State.raise_does 2 3 (Nat.or_self _) (.refl _ _))

theorem State.fault_leaveOnly (cause : Nat) (src : FaultSrc) (pg ch dup : Nat) : LeaveOnly s (s.fault cause src pg ch dup) := by
  have h := (LeaveOnly.refl s).op (s.noted_frame cause pg ch)
  exact .ite h (h.trans (State.collect_leaveOnly _ cause dup src false))

end

/-! The cave returns from self-refresh -/

theorem State.popN_leaveOnly (n : Nat) (s : State) (exp : Bool) : LeaveOnly s (State.popN n s exp).2 := by
  induction n generalizing s with
  | zero => exact .refl s
  | succ n ih =>
    simp only [State.popN]
    split
    · exact .refl s
    · next hd t he =>
      have ht := (LeaveOnly.refl s).op (State.pop1_does exp (Nat.or_self _) (.refl _ s) he)
      split
      · exact ht
      · exact (ht.wr _ _ _).trans ((State.fault_leaveOnly _ _ _ _ _ _).trans (ih _))

theorem State.serveWaiters_leaveOnly (n : Nat) (s : State) (exp : Bool) : LeaveOnly s (State.serveWaiters n s exp) := by
  induction n generalizing s with
  | zero => exact .refl s
  | succ n ih =>
    simp only [State.serveWaiters]
    split
    · exact .refl s
    · next x rest _ =>
      have hpop := State.popN_leaveOnly 8192 s exp
      split
      · next h t he =>
        rw [he] at hpop
        have hserve := ((State.firstServed_does exp x rest (Nat.or_self _) (.refl _ t)).comp (State.setWaiters_does exp rest (Nat.or_self _) (.refl _ _))).comp
          (State.completeSeal_does x.al exp h (Nat.or_self _) (.refl _ _))
        exact (hpop.op hserve).trans (ih _)
      · next t he =>
        rw [he] at hpop
        exact hpop

theorem State.refreshExit_leaveOnly (s : State) : LeaveOnly s s.refreshExit := by
  have hch : LeaveOnly s ((List.range 16).foldl State.refreshEnds s) := .foldl (fun t ch => .ite ((LeaveOnly.refl t).wr _ _ _) (.refl t)) _ s
  exact .ite ((hch.wr _ _ _).trans (State.serveWaiters_leaveOnly 64 _ false)) hch

/-- A cave in self-refresh returns to READY. -/
theorem State.refreshExit_ready {s : State} (w : s.wf = true) (hc : s.rd CAV_STATE = cavRefresh) : s.refreshExit.rd CAV_STATE = cavReady := by
  obtain ⟨hw, ho, -⟩ := State.refreshEnds_channels w 16 (Nat.le_refl _)
  have hcav : ((List.range 16).foldl State.refreshEnds s).rd CAV_STATE = cavRefresh := (ho.rd CAV_STATE 0 (by decide) (by decide)).trans hc
  have he : s.refreshExit = State.serveWaiters 64 (((List.range 16).foldl State.refreshEnds s).wr CAV_STATE cavReady) false :=
    if_pos (by rw [← hcav]; exact beq_self_eq_true _)
  rw [he]
  exact State.rd_written hw (State.serveWaiters_does 64 false (Nat.or_self _) (.refl _ _))

end Sys2Proof.Machine
end

section
namespace Sys2Proof.Machine

/-! GRAZE (R403, R407, R412): what the entry leaves -/

/-- The entry's first steps: the defect timers start anew, and leave and the regions are given up. -/
def State.regionsGated (s : State) : State :=
  forEach (bitList 8 (s.resetDefectTimers.rd VAT_REGION_EN)) s.resetDefectTimers.giveAllLeave State.regionOff

/-- Then the transmit path is gated, and the cave refreshes itself. -/
def State.pathGated (s : State) : State := (s.regionsGated.wr UPB_TX_GATED 1).selfRefresh

/-- The instant of the sleep is noted. -/
def State.sleepNoted (s : State) : State := { s with pwr := { s.pwr with grazeAt := s.now, mapDone := true } }

/-- Then line time goes into holdover, and the mode is GRAZE. -/
def State.asleepNow (s : State) : State := { s.pathGated.sleepLocked.sleepNoted.raise 1 1 with mode := .graze }

/-- The state in which the transition into GRAZE ends. -/
def State.grazeReached (s : State) : State := s.asleepNow.lanesSync (List.range 24)

theorem State.enterGraze_eq (s : State) : s.enterGraze = s.grazeReached.finish .graze := rfl

section
variable (s : State)

/-- The frame of the steps before the gating, -/
def gatedFrame : Nat :=
  0x20d03200000000000000000000000000000000000800000000000000001800003030000a0000000000000000000000000000000000001000000180200100000000040000000000000000000000000000000000000000000000000000000000000000000000000000000000000000000000000000000007f804000060000000000

/-- and of those after it. -/
def sleepFrame : Nat :=
  0x20ac1e00000000000000000000000000000000000000000000000000001800003030000f80000302000680000002c00000000000000010000001000000000000000000000000000000000000000000000000000000000000000000000000000000000000042c00800000000000000000000210004380020000800180000040000

theorem State.regionsGated_frame : Does gatedFrame s s.regionsGated :=
  forEach_does _ _ (State.giveAllLeave_does (by decide) (State.resetDefectTimers_does (by decide) (.refl _ s))) fun _ r h =>
    State.regionOff_does r (by decide) h

theorem State.grazeReached_frame : Does sleepFrame s.pathGated s.grazeReached := by
  have b1006 : Nat.testBit sleepFrame 1006 = true := by decide
  have b1019 : Nat.testBit sleepFrame 1019 = true := by decide
  refine State.lanesSync_does _ (by decide) (Does.mk' (State.raise_does 1 1 (by decide) (Does.mk' ?_ rfl)) rfl)
  exact State.sleepLocked_does (by decide) (.refl _ _)

theorem State.regionsGated_leaves : s.regionsGated.pwr.leaves = [] :=
  (LeaveOnly.foldl State.regionOff_leaveOnly _ _).none_left (State.giveAllLeave_leaves _)

end

/-- A trained channel refreshes itself. -/
def State.refreshBegins (s : State) (ch : Nat) : State := if s.rd DDR_TRAIN_STATE ch == 2 then s.wr DDR_TRAIN_STATE 4 ch else s

/-- The frame of the channels' training. -/
def trainFrame : Nat :=
  0x10000000000000000000000000000000000000000000000000000000000000000000000000000000000000000000000000000

section
variable {s : State} (w : s.wf = true)
include w

/-- A READY cave refreshes itself. -/
theorem State.selfRefresh_ready (hc : s.rd CAV_STATE = cavReady) : s.selfRefresh.rd CAV_STATE = cavRefresh := by
  have hf : Does trainFrame s ((List.range 16).foldl State.refreshBegins s) :=
    Does.foldl (fun t ch h => .ite (State.wr_does _ _ h fun _ => by decide) h) _ _ (.refl _ s)
  have hcav : ((List.range 16).foldl State.refreshBegins s).rd CAV_STATE = cavReady := (hf.rd w 0 (by decide)).trans hc
  have he : s.selfRefresh = ((List.range 16).foldl State.refreshBegins s).wr CAV_STATE cavRefresh :=
    if_pos (by rw [← hcav]; exact beq_self_eq_true _)
  rw [he]
  exact State.rd_wr_same _ _ 0 (hf.wf w)

/-- Line time that was LOCKED goes into holdover. -/
theorem State.sleepLocked_holdover (hl : s.rd LTM_STATE = ltLocked) : s.sleepLocked.rd LTM_STATE = ltHoldover := by
  have hf := State.carriersOff_does (Nat.or_self _) (.refl _ s)
  have hc : s.carriersOff.rd LTM_STATE = ltLocked := (hf.rd w 0 (by decide)).trans hl
  have hacq : s.ltIs ltAcq = false := by rw [State.ltIs, hl]; rfl
  have hlock : s.carriersOff.ltIs ltLocked = true := by rw [State.ltIs, hc]; rfl
  have wr := (State.raise_does 6 1 (Nat.or_self _) (.refl _ s.carriersOff)).wf (hf.wf w)
  have he : s.sleepLocked.rd LTM_STATE = ((s.carriersOff.raise 6 1).setLtState ltHoldover).rd LTM_STATE := by
    simp only [State.sleepLocked, hacq, Bool.false_eq_true, if_false, State.sleep, hlock, if_true, State.ltUnlock]
    rfl
  exact he.trans (State.setLtState_state ltHoldover wr)

end

theorem State.sleepLocked_leaves (s : State) : s.sleepLocked.pwr.leaves = s.pwr.leaves := by
  unfold State.sleepLocked
  split
  · dsimp only
    split
    · rfl
    · exact congrArg Power.leaves ((State.carrierTo_does _ 0 (Nat.or_self _) (.refl _ s)).pwr_eq (by decide))
  · have hoff := (State.carriersOff_does (Nat.or_self _) (.refl _ s)).pwr_eq (by decide)
    unfold State.sleep
    dsimp only
    split
    · exact congrArg Power.leaves (((State.ltUnlock_does ltHoldover (Nat.or_self _) (.refl _ _)).pwr_eq (by decide)).trans hoff)
    · exact congrArg Power.leaves hoff

/-- Asleep in GRAZE, the transmit path is gated and no leave is held. -/
structure Gated (t : State) : Prop where
  path : t.rd UPB_TX_GATED = 1
  leaves : t.pwr.leaves = []

section
variable {s : State} (w : s.wf = true)
include w

theorem State.regionsGated_wf : s.regionsGated.wf = true := s.regionsGated_frame.wf w

theorem State.pathGated_wf : s.pathGated.wf = true :=
  (State.selfRefresh_does (Nat.or_self _) (.refl _ (s.regionsGated.wr UPB_TX_GATED 1))).wf (State.wr_wf _ _ _ (State.regionsGated_wf w))

theorem State.grazeReached_wf : s.grazeReached.wf = true := s.grazeReached_frame.wf (State.pathGated_wf w)

/-- The steps before the mode changes keep the other registers. -/
theorem State.pathGated_rd {f : Fld} (hg : Nat.testBit gatedFrame f.id = false := by decide) (hn : f.id ≠ UPB_TX_GATED.id := by decide)
    (hr : Nat.testBit 0x10000000000001000000000000000000000000000000000000000000000000000000000000000000000000000000000000000 f.id = false := by decide) (hl : f.id < 1000 := by decide) : s.pathGated.rd f = s.rd f :=
  ((State.selfRefresh_does (Nat.or_self _) (.refl _ (s.regionsGated.wr UPB_TX_GATED 1))).rd (State.wr_wf _ _ _ (State.regionsGated_wf w)) 0 hr hl).trans
    ((State.rd_wr_fld 1 0 0 (State.regionsGated_wf w) hn).trans (s.regionsGated_frame.rd w 0 hg hl))

/-- Requests and latched causes stay through the entry. -/
theorem State.grazeReached_rd {f : Fld} (hf : f = PWR_WAKE_LATCH ∨ f = PWR_MODE_REQ ∨ f = PWR_EARLY_WAKE) : s.grazeReached.rd f = s.rd f := by
  rcases hf with rfl | rfl | rfl <;>
    exact (s.grazeReached_frame.rd (State.pathGated_wf w) 0 (by decide)).trans (State.pathGated_rd w)

theorem State.grazeReached_gated : Gated s.grazeReached := by
  have hpath : s.pathGated.rd UPB_TX_GATED = 1 :=
    State.rd_written (State.regionsGated_wf w) (State.selfRefresh_does (Nat.or_self _) (.refl _ _))
  have hleaves : s.pathGated.pwr.leaves = [] :=
    (congrArg Power.leaves ((State.selfRefresh_does (Nat.or_self _) (.refl _ (s.regionsGated.wr UPB_TX_GATED 1))).pwr_eq (by decide))).trans
      s.regionsGated_leaves
  have hnow : s.asleepNow.pwr.leaves = [] := by
    have hr := congrArg Power.leaves (State.raise_pwr s.pathGated.sleepLocked.sleepNoted 1 1)
    exact hr.trans (s.pathGated.sleepLocked_leaves.trans hleaves)
  have hkept : s.grazeReached.rd UPB_TX_GATED = s.pathGated.rd UPB_TX_GATED := s.grazeReached_frame.rd (State.pathGated_wf w) 0 (by decide)
  have hlanes : LeaveOnly s.asleepNow s.grazeReached := s.asleepNow.lanesSync_leaveOnly (List.range 24)
  exact ⟨hkept.trans hpath, hlanes.none_left hnow⟩

theorem State.grazeReached_holdover (hl : s.rd LTM_STATE = ltLocked) : s.grazeReached.rd LTM_STATE = ltHoldover := by
  have hs := State.sleepLocked_holdover (State.pathGated_wf w) ((State.pathGated_rd w).trans hl)
  have ws : s.pathGated.sleepLocked.sleepNoted.wf = true := (State.sleepLocked_does (Nat.or_self _) (.refl _ s.pathGated)).wf (State.pathGated_wf w)
  have wa : s.asleepNow.wf = true := (State.raise_does 1 1 (Nat.or_self _) (.refl _ s.pathGated.sleepLocked.sleepNoted)).wf ws
  exact ((State.lanesSync_does (List.range 24) (Nat.or_self _) (.refl _ s.asleepNow)).rd wa 0 (by decide)).trans
    ((raise_rd 1 1 0 (State.wf_regs ws) (by decide)).trans hs)

theorem State.grazeReached_refresh (hc : s.rd CAV_STATE = cavReady) : s.grazeReached.rd CAV_STATE = cavRefresh := by
  have hg : (s.regionsGated.wr UPB_TX_GATED 1).rd CAV_STATE = cavReady :=
    (State.rd_wr_fld 1 0 0 (State.regionsGated_wf w)).trans ((s.regionsGated_frame.rd w 0 (by decide)).trans hc)
  exact (s.grazeReached_frame.rd (State.pathGated_wf w) 0 (by decide)).trans (State.selfRefresh_ready (State.wr_wf _ _ _ (State.regionsGated_wf w)) hg)

end

theorem State.grazeReached_join (s : State) : s.grazeReached.join = s.join := by
  have hrefresh := (State.selfRefresh_does (Nat.or_self _) (.refl _ (s.regionsGated.wr UPB_TX_GATED 1))).join_eq (by decide)
  exact (s.grazeReached_frame.join_eq (by decide)).trans (hrefresh.trans (s.regionsGated_frame.join_eq (by decide)))

end Sys2Proof.Machine
end

section
namespace Sys2Proof.Machine

/-! The exit from GRAZE (R412) -/

/-- The exit has begun towards SERVICE, or towards LISTEN without a registration; its cause shows. -/
def State.exitBegun (s : State) : State :=
  let t := (s.startTransit (if s.join.toListen then .listen else .service)).wr PWR_WAKE_CAUSE s.pwr.wake
  { t with pwr := { t.pwr with wake := 0, sleepDue := false, awake := true } }

/-- The regions are powered, the cave returns, and the carriers are restored. -/
def State.exitPowered (s : State) : State :=
  [0, 1].foldl State.restoreCarrier ((forEach (bitList 8 (s.exitBegun.rd VAT_REGION_EN)) s.exitBegun State.regionOn).refreshExit)

/-- The frame of the regions that are powered. -/
def regionOnFrame : Nat :=
  0x2000000000000000000000000000000000000000000000000000000000000000000000000000000000000000000000000000000000000000000000000000000000000000000

section
variable (s : State)

theorem State.regionsOn_frame (l : List Nat) : Does regionOnFrame s (forEach l s State.regionOn) :=
  forEach_does _ _ (.refl _ s) fun _ r h => State.regionOn_does r (by decide) h

/-- From the start of the exit on only leave goes. -/
theorem State.exitPowered_leaveOnly : LeaveOnly s.exitBegun s.exitPowered := by
  have hon := (LeaveOnly.refl s.exitBegun).op (s.exitBegun.regionsOn_frame (bitList 8 (s.exitBegun.rd VAT_REGION_EN)))
  exact (hon.trans (State.refreshExit_leaveOnly _)).trans
    (.foldl (fun t c => (LeaveOnly.refl t).op (State.restoreCarrier_does c (Nat.or_self _) (.refl _ t))) _ _)

theorem State.beginGrazeExit_pwr : s.beginGrazeExit.pwr = s.exitPowered.pwr := rfl

theorem State.beginGrazeExit_leaveOnly : s.beginGrazeExit.pwr.transit = some (if s.join.toListen then .listen else .service)
    ∧ s.beginGrazeExit.pwr.wake = 0 ∧ s.beginGrazeExit.pwr.leaves.Sublist s.pwr.leaves := by
  obtain ⟨ht, hw, hl⟩ := s.exitPowered_leaveOnly
  rw [State.beginGrazeExit_pwr]
  exact ⟨ht, hw, hl⟩

/-- What the exit does once it has begun. -/
theorem State.exitPowered_frame : Does 0x3987b2000000000000000000000000000000000000000000000000fff07ff80370300fca000000000000000000000000000000000000100000010020000000000000000000000000000000001000114024600c0b010000001e7c00000000000000000000000000000000000680000000020210004380020000800180000000000 s.exitBegun s.exitPowered :=
  Does.foldl (fun _ c h => State.restoreCarrier_does c (by decide) h) _ _
    (State.refreshExit_does (by decide) ((s.exitBegun.regionsOn_frame _).mono (by decide)))

variable {s} (w : s.wf = true)
include w

theorem State.startTransit_wf (m : Mode) : (s.startTransit m).wf = true := State.wr_wf (s := { s with pwr := _ }) _ _ _ w

theorem State.startTransit_rd {f : Fld} (m : Mode) (h : f.id ≠ PWR_IN_TRANSIT.id := by decide) : (s.startTransit m).rd f = s.rd f :=
  State.rd_wr_fld (s := { s with pwr := _ }) (f := PWR_IN_TRANSIT) 1 0 0 w h

theorem State.startTransit_shows (m : Mode) : (s.startTransit m).rd PWR_IN_TRANSIT = 1 :=
  State.rd_wr_same (s := { s with pwr := _ }) PWR_IN_TRANSIT 1 0 w

theorem State.exitBegun_wf : s.exitBegun.wf = true := State.wr_wf (s := s.startTransit _) PWR_WAKE_CAUSE s.pwr.wake 0 (State.startTransit_wf w _)

theorem State.beginGrazeExit_shows : s.beginGrazeExit.rd PWR_IN_TRANSIT = 1 ∧ s.beginGrazeExit.rd PWR_WAKE_CAUSE = s.pwr.wake % 64 := by
  have wt := State.startTransit_wf w (if s.join.toListen then .listen else .service)
  have hf := s.exitPowered_frame
  constructor
  · exact (hf.rd (State.exitBegun_wf w) 0 (by decide)).trans ((State.rd_wr_fld _ 0 0 wt).trans (State.startTransit_shows w _))
  · exact (hf.rd (State.exitBegun_wf w) 0 (by decide)).trans (State.rd_wr_same PWR_WAKE_CAUSE s.pwr.wake 0 wt)

/-- A cave in self-refresh is READY again. -/
theorem State.beginGrazeExit_ready (hc : s.rd CAV_STATE = cavRefresh) : s.beginGrazeExit.rd CAV_STATE = cavReady := by
  have wt := State.startTransit_wf w (if s.join.toListen then .listen else .service)
  have hbegun : s.exitBegun.rd CAV_STATE = cavRefresh :=
    (State.rd_wr_fld (f := PWR_WAKE_CAUSE) s.pwr.wake 0 0 wt).trans ((State.startTransit_rd w _).trans hc)
  have hon := s.exitBegun.regionsOn_frame (bitList 8 (s.exitBegun.rd VAT_REGION_EN))
  have won := hon.wf (State.exitBegun_wf w)
  have hready := State.refreshExit_ready won ((hon.rd (State.exitBegun_wf w) 0 (by decide)).trans hbegun)
  have hcarrier := Does.foldl (fun _ c h => State.restoreCarrier_does c (Nat.or_self _) h) [0, 1] _
    (.refl _ (forEach (bitList 8 (s.exitBegun.rd VAT_REGION_EN)) s.exitBegun State.regionOn).refreshExit)
  exact (hcarrier.rd ((State.refreshExit_does (Nat.or_self _) (.refl _ _)).wf won) 0 (by decide)).trans hready

theorem Gated.beginGrazeExit (h : Gated s) : Gated s.beginGrazeExit :=
  ⟨((State.beginGrazeExit_does (Nat.or_self _) (.refl _ s)).rd w 0 (by decide)).trans h.path,
    List.sublist_nil.mp (h.leaves ▸ s.beginGrazeExit_leaveOnly.2.2)⟩

end

/-! A request held through the entry (R36) -/

theorem State.latchWake_leaves (s : State) (b : Nat) : (s.latchWake b).pwr.leaves = s.pwr.leaves := by
  unfold State.latchWake
  dsimp only
  repeat' split
  all_goals rfl

/-- Judging a request gives up no leave. -/
theorem State.takeReq_leaves (s : State) (v : Nat) : (s.takeReq v).pwr.leaves = s.pwr.leaves := by
  have hqueue : ∀ (t : State) (code : Nat) (body : List Nat), (t.queueMsg code body).pwr.leaves = t.pwr.leaves := fun t code body =>
    congrArg Power.leaves ((State.queueMsg_does code body (Nat.or_self _) (.refl _ t)).pwr_eq (by decide))
  have href : s.reqRefused.pwr.leaves = s.pwr.leaves := congrArg Power.leaves (State.raise_pwr _ _ _)
  unfold State.takeReq
  split
  · exact href
  · split
    · exact hqueue _ _ _
    · exact State.latchWake_leaves _ _
    · split
      · exact href
      · dsimp only
        split
        · exact hqueue _ _ _
        · rfl
    · exact href

/-- With no cause latched a request that is held is judged in the new mode. -/
theorem State.finish_held {s : State} {m : Mode} (w : s.wf = true) (hw : s.rd PWR_WAKE_LATCH = 0) (hr : s.rd PWR_MODE_REQ ≠ 0) :
    s.finish m = (s.finished m).takeReq ((s.finished m).rd PWR_MODE_REQ) := by
  have hw' : (sleepsIn m && (s.finished m).rd PWR_WAKE_LATCH != 0) = false := by
    rw [State.finished_rd m w, hw]
    simp
  have hr' : ((s.finished m).rd PWR_MODE_REQ == 0) = false := by
    rw [State.finished_rd m w]
    simpa using hr
  exact (if_neg (ne_true_of_eq_false hw')).trans (if_neg (ne_true_of_eq_false hr'))

/-! The end of a transition and leave -/

theorem State.finished_leaves (s : State) (m : Mode) : (s.finished m).pwr.leaves = s.pwr.leaves := by rw [s.finished_pwr m]

theorem State.finished_join (s : State) (m : Mode) : (s.finished m).join = s.join :=
  (State.setMode_does m (Nat.or_self _) (.refl _ s.transitOver)).join_eq (by decide)

theorem State.earlyWake_join (s : State) (m : Mode) : (s.earlyWake m).join = s.join := s.finished_join m

theorem State.earlyWake_leaves (s : State) (m : Mode) : (s.earlyWake m).pwr.leaves = s.pwr.leaves := rfl

theorem State.earlyWake_wake (s : State) (m : Mode) : (s.earlyWake m).pwr.wake = s.rd PWR_WAKE_LATCH := rfl

theorem State.earlyWake_mode (s : State) (m : Mode) : (s.earlyWake m).mode = m := s.finished_mode m

/-- A latched cause keeps the other registers. -/
theorem State.earlyWake_rd {s : State} {f : Fld} (m : Mode) (w : s.wf = true) (h : f.id ≠ PWR_EARLY_WAKE.id := by decide) :
    (s.earlyWake m).rd f = (s.finished m).rd f := State.rd_wr_fld (s := { s.finished m with pwr := _ }) (f := PWR_EARLY_WAKE) _ 0 0 (State.finished_wf m w) h

/-! The commands of GRAZE -/

/-- Both commands that end an entry into GRAZE end it alike. -/
theorem exec_grazeEnd {c : Instr} {s : State} (hc : c = .grazeEntry ∨ c = .modeTransitionComplete) (ht : s.pwr.transit = some .graze)
    (ha : s.inAir = false) : exec c s = .next s.enterGraze := by
  have hentry : grazeEntry s = s.enterGraze := by simp [grazeEntry, ht, ha]
  have hend : modeTransitionComplete s = s.enterGraze := by simp [modeTransitionComplete, ht, ha]
  rcases hc with rfl | rfl
  · exact congrArg _ hentry
  · exact congrArg _ hend

/-- In GRAZE: the path is gated, no leave is held, and line time is in holdover if it was LOCKED in `s`. -/
structure InGraze (s t : State) : Prop where
  mode : t.mode = .graze
  gated : Gated t
  holdover : s.rd LTM_STATE = ltLocked → t.rd LTM_STATE = ltHoldover

theorem InGraze.op {W : Nat} {s t u : State} (w : t.wf = true) (h : InGraze s t) (k : Does W t u) (hl : u.pwr.leaves = [])
    (hm : Nat.testBit W 1006 = false := by decide) (hp : Nat.testBit W UPB_TX_GATED.id = false := by decide)
    (ht : Nat.testBit W LTM_STATE.id = false := by decide) : InGraze s u :=
  ⟨(k.mode_eq hm).trans h.mode, ⟨(k.rd w 0 hp).trans h.gated.path, hl⟩, fun hs => (k.rd w 0 ht).trans (h.holdover hs)⟩

section
variable {s : State} (w : s.wf = true)
include w

/-- The transition into GRAZE is over. -/
theorem State.grazeFinished_inGraze : InGraze s (s.grazeReached.finished .graze) := by
  have wg := State.grazeReached_wf w
  have hg := State.grazeReached_gated w
  exact ⟨State.finished_mode _ _, ⟨(State.finished_rd .graze wg 0).trans hg.path, (State.finished_leaves _ _).trans hg.leaves⟩,
    fun hs => (State.finished_rd .graze wg 0).trans (State.grazeReached_holdover w hs)⟩

/-- With nothing latched and no request held the terminal stays in GRAZE. -/
theorem State.enterGraze_quiet (hw : s.rd PWR_WAKE_LATCH = 0) (hr : s.rd PWR_MODE_REQ = 0) : s.enterGraze = s.grazeReached.finished .graze :=
  State.finish_quiet .graze (State.grazeReached_wf w) (.inr ((State.grazeReached_rd w (.inl rfl)).trans hw))
    ((State.grazeReached_rd w (.inr (.inl rfl))).trans hr)

/-- A cause latched during the entry starts the exit at once. -/
theorem State.enterGraze_woken (hw : s.rd PWR_WAKE_LATCH ≠ 0) : s.enterGraze = (s.grazeReached.earlyWake .graze).beginGrazeExit := by
  have hl := State.grazeReached_rd w (f := PWR_WAKE_LATCH) (.inl rfl)
  rw [State.enterGraze_eq, State.finish_woken (State.grazeReached_wf w) rfl (hl.trans_ne hw), if_pos rfl]

/-- The causes latched have become those that wake the terminal. -/
theorem State.earlyWake_inGraze : InGraze s (s.grazeReached.earlyWake .graze) := by
  have wg := State.grazeReached_wf w
  have h := State.grazeFinished_inGraze w
  exact ⟨State.earlyWake_mode _ _, ⟨(State.earlyWake_rd .graze wg).trans h.gated.path,
    (State.earlyWake_leaves _ _).trans (State.grazeReached_gated w).leaves⟩, fun hs => (State.earlyWake_rd .graze wg).trans (h.holdover hs)⟩

theorem State.enterGraze_inGraze : InGraze s s.enterGraze := by
  have wg := State.grazeReached_wf w
  by_cases hw : s.rd PWR_WAKE_LATCH = 0
  · by_cases hr : s.rd PWR_MODE_REQ = 0
    · rw [State.enterGraze_quiet w hw hr]
      exact State.grazeFinished_inGraze w
    · have hheld := State.finish_held (m := .graze) wg ((State.grazeReached_rd w (.inl rfl)).trans hw)
        ((State.grazeReached_rd w (f := PWR_MODE_REQ) (.inr (.inl rfl))).trans_ne hr)
      have h := State.grazeFinished_inGraze w
      rw [State.enterGraze_eq, hheld]
      exact h.op (State.finished_wf .graze wg) (State.takeReq_does _ (Nat.or_self _) (.refl _ _)) ((State.takeReq_leaves _ _).trans h.gated.leaves)
  · have h := State.earlyWake_inGraze w
    have we := State.earlyWake_wf .graze wg
    rw [State.enterGraze_woken w hw]
    exact h.op we (State.beginGrazeExit_does (Nat.or_self _) (.refl _ _)) (h.gated.beginGrazeExit we).leaves

/-- The transition is over when nothing wakes the terminal, and a READY cave refreshes itself. -/
theorem State.enterGraze_stays (hw : s.rd PWR_WAKE_LATCH = 0) (hr : s.rd PWR_MODE_REQ = 0) : s.enterGraze.pwr.transit = none
    ∧ s.enterGraze.rd PWR_IN_TRANSIT = 0 ∧ (s.rd CAV_STATE = cavReady → s.enterGraze.rd CAV_STATE = cavRefresh) := by
  have wg := State.grazeReached_wf w
  rw [State.enterGraze_quiet w hw hr]
  exact ⟨congrArg Power.transit (State.finished_pwr _ _), State.finished_inTransit _ wg,
    fun hc => (State.finished_rd .graze wg 0).trans (State.grazeReached_refresh w hc)⟩

/-- A cause latched shows, the exit has begun, and EARLY_WAKE has counted. -/
theorem State.enterGraze_wakes (hw : s.rd PWR_WAKE_LATCH ≠ 0) : s.enterGraze.pwr.transit = some (if s.join.toListen then .listen else .service)
    ∧ s.enterGraze.rd PWR_WAKE_CAUSE = s.rd PWR_WAKE_LATCH % 64 ∧ s.enterGraze.rd PWR_EARLY_WAKE = (s.rd PWR_EARLY_WAKE + 1) % 2 ^ 32 := by
  have wg := State.grazeReached_wf w
  have we := State.earlyWake_wf .graze wg
  have hjoin : (s.grazeReached.earlyWake .graze).join = s.join := (State.earlyWake_join _ _).trans s.grazeReached_join
  have hcause : (s.grazeReached.earlyWake .graze).pwr.wake = s.rd PWR_WAKE_LATCH :=
    (State.earlyWake_wake _ _).trans (State.grazeReached_rd w (.inl rfl))
  rw [State.enterGraze_woken w hw]
  refine ⟨?_, ?_, ?_⟩
  · rw [(State.beginGrazeExit_leaveOnly _).1, hjoin]
  · rw [(State.beginGrazeExit_shows we).2, hcause]
  · rw [(State.beginGrazeExit_does (Nat.or_self _) (.refl _ (s.grazeReached.earlyWake .graze))).rd we 0 (by decide), State.earlyWake_count .graze wg,
      State.grazeReached_rd w (.inr (.inr rfl))]

theorem grazeExit_begins (hm : s.mode = .graze) (ht : s.pwr.transit = none) (hw : s.pwr.wake ≠ 0) (hj : s.join.toListen = false) :
    Completes .grazeExit s fun t =>
      t.mode = .graze ∧ t.pwr.transit = some .service ∧ t.rd PWR_IN_TRANSIT = 1 ∧ t.rd PWR_WAKE_CAUSE = s.pwr.wake % 64
      ∧ t.pwr.wake = 0 ∧ (s.rd CAV_STATE = cavRefresh → t.rd CAV_STATE = cavReady) := by
  have he : grazeExit s = s.beginGrazeExit := by simp [grazeExit, hm, ht, hw]
  obtain ⟨htransit, hwake, -⟩ := s.beginGrazeExit_leaveOnly
  obtain ⟨hin, hcause⟩ := State.beginGrazeExit_shows w
  rw [hj] at htransit
  exact completes_of rfl he ⟨((State.beginGrazeExit_does (Nat.or_self _) (.refl _ s)).mode_eq (by decide)).trans hm, htransit, hin, hcause, hwake,
    State.beginGrazeExit_ready w⟩

/-- In SERVICE again, WAKE is due in the next header. -/
theorem modeTransitionComplete_service (ht : s.pwr.transit = some .service) (hj : s.join.toListen = false) (hl : s.rd LTM_STATE = ltLocked)
    (hr : s.rd PWR_MODE_REQ = 0) : Completes .modeTransitionComplete s fun t =>
      t.mode = .service ∧ t.pwr.transit = none ∧ t.rd PWR_IN_TRANSIT = 0 ∧ t.up.wakeFlag = true := by
  have hlock : s.ltIs ltLocked = true := by rw [State.ltIs, hl]; rfl
  have hf := (State.lanesSync_does (List.range 24) (Nat.or_self _) (.refl _ { s with mode := .service, up := { s.up with wakeFlag := true } })).comp
    (State.raise_does 1 2 (Nat.or_self _) (.refl _ _))
  have hquiet := State.finish_quiet .service (hf.wf w) (.inl rfl) ((hf.rd w 0 (by decide)).trans hr)
  have he : modeTransitionComplete s = (({ s with mode := .service, up := { s.up with wakeFlag := true } } : State).lanesSync (List.range 24)
      |>.raise 1 2).finished .service := by
    simp only [modeTransitionComplete, ht, hj, hlock, Bool.not_true, Bool.false_eq_true, if_false]
    exact hquiet
  refine completes_of rfl he ⟨State.finished_mode _ _, congrArg Power.transit (State.finished_pwr _ _), State.finished_inTransit _ (hf.wf w), ?_⟩
  exact (congrArg Upstream.wakeFlag ((State.setMode_does .service (Nat.or_self _) (.refl _ (State.transitOver _))).up_eq (by decide))).trans
    (congrArg Upstream.wakeFlag (hf.up_eq (by decide)))

end

end Sys2Proof.Machine

namespace Sys2Proof
open Sys2Proof.Machine

/-- Settles O17: the entry gates the terminal, a cause latched meanwhile starts the exit at its end, and the exit ends in SERVICE once LT is LOCKED. -/
theorem grazeEnteredAndLeft : Obligations.GrazeEnteredAndLeft := by
  unfold Obligations.GrazeEnteredAndLeft
  refine ⟨fun c s hc w ht ha => ?_, fun s w hm ht hw hj => grazeExit_begins w hm ht hw hj,
    fun s w ht hj hl hr => modeTransitionComplete_service w ht hj hl hr, fun s w ht ha => ?_⟩
  · obtain ⟨hmode, ⟨hpath, hleaves⟩, hhold⟩ := State.enterGraze_inGraze w
    exact ⟨_, exec_grazeEnd hc ht ha, hmode, hpath, hleaves, hhold, State.enterGraze_stays w, State.enterGraze_wakes w⟩
  · obtain ⟨hmode, ⟨hpath, hleaves⟩, hhold⟩ := State.enterGraze_inGraze w
    exact ⟨_, exec_grazeEnd (.inl rfl) ht ha, hmode, hpath, hleaves, hhold⟩

end Sys2Proof
end

section
/-! The symbol rate expected: the statement, refuted (chapter 03) -/

namespace Sys2Proof
open Sys2Proof.Machine

/-- A terminal with LT LOCKED whose SYM_RATE reads 2^18 + 100,000: the tables are canonical, but no write puts a value over the field's 18
bits there. -/
def symRateOverWide : State :=
  { State.reset with mode := .listen, regs := [(LTM_STATE.key 0, ltLocked), (LRX_SYM_RATE.key 0, 362144 ^^^ LRX_SYM_RATE.reset)] }

/-- The tables are canonical all the same, and SYM_RATE reads as said. -/
theorem symRateOverWide_meets : symRateOverWide.wf = true ∧ symRateOverWide.rd LRX_SYM_RATE = 362144 := by
  constructor <;> decide +kernel

/-- A write of that value is taken in its low 18 bits, 100,000: another rate than SYM_RATE reads, so RS_EXPECT takes it. -/
theorem symRateOverWide_written : (rsExpectWrite 362144 symRateOverWide).rd LRX_RS_EXPECT = 100000
    ∧ symRateOverWide.rd LRX_RS_EXPECT ≠ 100000 := by
  constructor <;> decide +kernel

/-- Refutes O26: the canonical form bounds no field by its width. Where SYM_RATE reads 2^18 + 100,000, a write of RS_EXPECT with that value is
taken as 100,000 and changes the state, and does not leave it as the clause of the value already in SYM_RATE gives. -/
theorem not_carrierAcquires : ¬ Obligations.CarrierAcquires := by
  unfold Obligations.CarrierAcquires
  rintro ⟨-, -, -, -, -, -, -, -, -, hsame, -⟩
  obtain ⟨-, hrate⟩ := symRateOverWide_meets
  obtain ⟨t, hexec, ht⟩ := hrate ▸ hsame symRateOverWide
  cases hexec
  obtain ⟨hwritten, hother⟩ := symRateOverWide_written
  exact hother ((congrArg (fun u : State => u.rd LRX_RS_EXPECT) ht).symm.trans hwritten)

end Sys2Proof
end

section
namespace Sys2Proof.Machine

/-! Tables of records that hold a default until written -/

section
variable {α : Type}

theorem amGet?_amDel_same (m : List (Nat × α)) (k : Nat) : amGet? (amDel m k) k = none := by
  induction m with
  | nil => rfl
  | cons e m ih =>
    obtain ⟨a, x⟩ := e
    by_cases h : k = a
    · subst h; simpa [amDel] using ih
    · simpa [amDel, amGet?, h, Ne.symm h] using ih

theorem amGet?_amDel_ne (m : List (Nat × α)) {k j : Nat} (h : j ≠ k) : amGet? (amDel m k) j = amGet? m j := by
  induction m with
  | nil => rfl
  | cons e m ih =>
    obtain ⟨a, x⟩ := e
    by_cases ha : a = k
    · subst ha; simpa [amDel, amGet?, h] using ih
    · by_cases hj : j = a
      · simp [amDel, amGet?, ha, hj]
      · simpa [amDel, amGet?, ha, hj] using ih

theorem amGet?_map {β : Type} (g : α → β) (m : List (Nat × α)) (k : Nat) : amGet? (m.map fun e => (e.1, g e.2)) k = (amGet? m k).map g := by
  induction m with
  | nil => rfl
  | cons e m ih => by_cases h : k = e.1 <;> simp [amGet?, h, ih]

variable [BEq α]

@[simp] theorem amGetD_amPut_same [LawfulBEq α] (d : α) (m : List (Nat × α)) (k : Nat) (v : α) : amGetD d (amPut d m k v) k = v := by
  unfold amPut
  split
  · next h => simp [amGetD, amGet?_amDel_same, eq_of_beq h]
  · simp [amGetD, amGet?_amSet_same]

theorem amGetD_amPut_ne (d : α) (m : List (Nat × α)) {k j : Nat} (v : α) (h : j ≠ k) : amGetD d (amPut d m k v) j = amGetD d m j := by
  unfold amPut
  split
  · simp [amGetD, amGet?_amDel_ne m h]
  · simp [amGetD, amGet?_amSet_ne m v h]

end

/-! Subcarriers, streams and lanes read back what was written -/

section
variable (s : State)

@[simp] theorem State.subOf_mapSub (sc : Nat) (f : Sub → Sub) : (s.mapSub sc f).subOf sc = f (s.subOf sc) := amGetD_amPut_same _ _ _ _

@[simp] theorem State.chain_mapChain (st : Nat) (f : Chain → Chain) : (s.mapChain st f).chain st = f (s.chain st) := amGetD_amPut_same _ _ _ _

theorem State.chain_mapChain_ne {st k : Nat} (f : Chain → Chain) (h : k ≠ st) : (s.mapChain st f).chain k = s.chain k := amGetD_amPut_ne _ _ _ h

@[simp] theorem State.lane_setLane (i : Nat) (l : Lane) : (s.setLane i l).lane i = l := amGetD_amPut_same _ _ _ _

variable {s} {t : State}

theorem State.subOf_congr (h : t.rx.subs = s.rx.subs) (sc : Nat) : t.subOf sc = s.subOf sc := by rw [State.subOf, h, State.subOf]

theorem State.chain_congr (h : t.rx.chains = s.rx.chains) (st : Nat) : t.chain st = s.chain st := by rw [State.chain, h, State.chain]

theorem State.lane_congr (h : t.pk.lanes = s.pk.lanes) (i : Nat) : t.lane i = s.lane i := by rw [State.lane, h, State.lane]

end

/-! Counter pairs -/

section
variable {s : State} {lo hi : Fld} (w : s.wf = true) (hne : hi.id ≠ lo.id) (hlo : lo.w = 32) (hhi : hi.w = 32)
include w hne hlo hhi

/-- A LO and HI pair reads back the low 64 bits of what was written. -/
theorem State.rd64_wr64 (v i : Nat) : (s.wr64 lo hi v i).rd64 lo hi i = v % 2 ^ 64 := by
  have w1 := State.wr_wf lo v i w
  rw [State.rd64, State.wr64_eq, State.rd_wr_fld _ _ _ w1 hne.symm, State.rd_wr_same _ _ _ w, State.rd_wr_same _ _ _ w1, hlo, hhi]
  omega

/-- A counter pair counts modulo 2^64. -/
theorem State.rd64_inc64 (n i : Nat) : (s.inc64 lo hi n i).rd64 lo hi i = (s.rd64 lo hi i + n) % 2 ^ 64 := State.rd64_wr64 w hne hlo hhi _ i

end

theorem State.wr64_wf {s : State} (lo hi : Fld) (v i : Nat) (w : s.wf = true) : (s.wr64 lo hi v i).wf = true :=
  State.wr_wf _ _ _ (State.wr_wf _ _ _ w)

/-- A pair whose two fields read as before reads as before. -/
theorem State.rd64_congr {s t : State} {lo hi : Fld} {i : Nat} (hl : t.rd lo i = s.rd lo i) (hh : t.rd hi i = s.rd hi i) :
    t.rd64 lo hi i = s.rd64 lo hi i := by rw [State.rd64, State.rd64, hl, hh]

/-- A count in a pair that is named. -/
theorem Only.inc64_mem {cs : List Touch} {s t : State} {lo hi : Fld} (n : Nat) {i : Nat} (h : Only cs s t) (w : t.wf = true)
    (hl : lo.one i ∈ cs) (hh : hi.one i ∈ cs) : Only cs s (t.inc64 lo hi n i) :=
  (h.wr_mem _ w hl).wr_mem _ (State.wr_wf _ _ _ w) hh

theorem State.perf_canonical {s : State} (p c v : Nat) (w : s.wf = true) : (s.perf p c v).wf = true :=
  (State.perf_does p c v (Nat.or_self _) (.refl _ s)).wf w

theorem State.raise_canonical {s : State} (p b : Nat) (w : s.wf = true) : (s.raise p b).wf = true :=
  (State.raise_does p b (Nat.or_self _) (.refl _ s)).wf w

theorem State.rd_perf {s : State} (p c v : Nat) {f : Fld} (i : Nat) (w : s.wf = true) (hf : f.counting = false := by decide) :
    (s.perf p c v).rd f i = s.rd f i := perf_rd p c v i (State.wf_regs w) hf

theorem State.rd_raise {s : State} (p b : Nat) {f : Fld} (i : Nat) (w : s.wf = true) (hf : f.counting = false := by decide) :
    (s.raise p b).rd f i = s.rd f i := raise_rd p b i (State.wf_regs w) hf

/-- A pair that is written leaves every other field alone. -/
theorem State.rd_wr64_fld {s : State} {lo hi f : Fld} (v i j : Nat) (w : s.wf = true) (hl : f.id ≠ lo.id := by decide)
    (hh : f.id ≠ hi.id := by decide) : (s.wr64 lo hi v i).rd f j = s.rd f j :=
  (State.rd_wr_fld _ _ _ (State.wr_wf _ _ _ w) hh).trans (State.rd_wr_fld _ _ _ w hl)

/-- A register whose field none of the copies belongs to reads as before. -/
theorem Only.rd_fld {cs : List Touch} {s t : State} (h : Only cs s t) {f : Fld} (i : Nat) (hn : ∀ e ∈ cs, e.fld.id ≠ f.id)
    (hf : f.counting = false := by decide) : t.rd f i = s.rd f i :=
  h.rd f i hf fun e he => by simp [Touch.covers, hn e he]

/-- What `Only` leaves of the receiver. -/
theorem Only.rx_eq {cs : List Touch} {s t : State} (h : Only cs s t) : t.rx = s.rx := by
  have hr := congrArg State.rx h.rest
  exact hr

/-- `Only` with the receiver exchanged on both sides. -/
theorem Only.rx_both {cs : List Touch} {s t : State} (h : Only cs s t) (x : Rx) : Only cs { s with rx := x } { t with rx := x } :=
  ⟨congrArg (fun y : State => { y with rx := x }) h.rest, h.rd⟩

/-- `Only` with the packet path exchanged on both sides. -/
theorem Only.pk_both {cs : List Touch} {s t : State} (h : Only cs s t) (x : Packet) : Only cs { s with pk := x } { t with pk := x } :=
  ⟨congrArg (fun y : State => { y with pk := x }) h.rest, h.rd⟩

/-- `Only` with the blocks kept for the streams exchanged on both sides. -/
theorem Only.blocks {cs : List Touch} {s t : State} (h : Only cs s t) (bs : List Blk) :
    Only cs { s with rx := { s.rx with blocks := bs } } { t with rx := { t.rx with blocks := bs } } := by
  rw [h.rx_eq]
  exact h.rx_both _

end Sys2Proof.Machine
end

section
namespace Sys2Proof.Machine

/-! A block is decoded (R74, R86, R91, R94) -/

section
variable {s : State}

/-- A decoded block of `sc` counts in BLOCKS (R86). -/
def State.blockTallied (s : State) (sc : Nat) : State := (s.inc64 LRX_BLOCKS_LO LRX_BLOCKS_HI 1 sc).perf 7 0x00

/-- A decoded block of `sc` is counted, with its corrected bits or as uncorrectable (R86). -/
def State.blockCounted (s : State) (sc corr : Nat) (uncorr : Bool) : State :=
  if uncorr then (((s.blockTallied sc).inc LRX_UNCORR 1 sc).raise 7 3).perf 7 0x01 else (s.blockTallied sc).inc64 LRX_CORR_LO LRX_CORR_HI corr sc

/-- Block decoding of a carried subcarrier in frame: the block is counted, and joins its stream when it is one of a multiframe. -/
theorem blockDecoded_eq {sc : Nat} (idx corr : Nat) (info : List Nat) (uncorr : Bool) (hsc : sc < 32)
    (ha : s.rd LRX_ADMITTED sc = 1 ∨ sc = s.ctrlSc) (hf : s.inFrame sc = true) :
    blockDecoded sc idx info corr uncorr s = (((s.blockCounted sc corr uncorr).blockOf sc idx info uncorr).elim (s.blockCounted sc corr uncorr)
      (s.blockCounted sc corr uncorr).blockOut) := by
  have hcarried : (s.on LRX_ADMITTED sc || sc == s.ctrlSc) = true := by
    rcases ha with h | h
    · simp [State.on, h]
    · simp [h]
  simp only [blockDecoded, hcarried, hf, Nat.not_le.mpr hsc, decide_false, Bool.not_true, Bool.or_self, Bool.false_eq_true, if_false]
  change (match (s.blockCounted sc corr uncorr).blockOf sc idx info uncorr with
    | some x => (s.blockCounted sc corr uncorr).blockOut x
    | none => s.blockCounted sc corr uncorr) = _
  cases (s.blockCounted sc corr uncorr).blockOf sc idx info uncorr <;> rfl

/-- A stand-alone terminal relays no block: one of the control subcarrier is used no further, and any other joins its stream. -/
theorem State.blockOut_alone (h : s.rd FKL_ROLE = 0) (x : Blk) : s.blockOut x = if x.src == s.ctrlSc then s else s.takeBlock x := by
  simp [State.blockOut, State.ctrlBlockOut, State.groupBlockOut, h]

/-- What a block that is used does beside being counted: the blocks kept for the streams may change. -/
theorem blockDecoded_blocks {sc : Nat} (idx corr : Nat) (info : List Nat) (uncorr : Bool) (hsc : sc < 32)
    (ha : s.rd LRX_ADMITTED sc = 1 ∨ sc = s.ctrlSc) (hf : s.inFrame sc = true) (hr : (s.blockCounted sc corr uncorr).rd FKL_ROLE = 0) :
    ∃ bs, blockDecoded sc idx info corr uncorr s
      = { s.blockCounted sc corr uncorr with rx := { (s.blockCounted sc corr uncorr).rx with blocks := bs } } := by
  rw [blockDecoded_eq idx corr info uncorr hsc ha hf]
  cases (s.blockCounted sc corr uncorr).blockOf sc idx info uncorr with
  | none => exact ⟨_, rfl⟩
  | some x =>
    rw [Option.elim_some, State.blockOut_alone hr]
    split
    · exact ⟨_, rfl⟩
    · exact ⟨_, rfl⟩

end

section
variable {s : State} (w : s.wf = true)
include w

theorem State.blockTallied_wf (sc : Nat) : (s.blockTallied sc).wf = true :=
  State.perf_canonical _ _ _ (State.wr64_wf _ _ _ _ w)

theorem State.blockTallied_only {cs : List Touch} (sc : Nat) (hl : LRX_BLOCKS_LO.one sc ∈ cs) (hh : LRX_BLOCKS_HI.one sc ∈ cs) :
    Only cs s (s.blockTallied sc) :=
  State.perf_only _ _ _ ((Only.refl cs s).inc64_mem 1 w hl hh) (State.wr64_wf _ _ _ _ w)

/-- Copies that counting a good block may change. -/
theorem State.blockCounted_good (sc corr : Nat) :
    Only [LRX_BLOCKS_LO.one sc, LRX_BLOCKS_HI.one sc, LRX_CORR_LO.one sc, LRX_CORR_HI.one sc] s (s.blockCounted sc corr false) :=
  (State.blockTallied_only w sc (by simp) (by simp)).inc64_mem corr (State.blockTallied_wf w sc) (by simp) (by simp)

/-- Copies that counting an uncorrectable block may change. -/
theorem State.blockCounted_uncorr (sc corr : Nat) :
    Only [LRX_BLOCKS_LO.one sc, LRX_BLOCKS_HI.one sc, LRX_UNCORR.one sc] s (s.blockCounted sc corr true) := by
  have w2 := State.wr_wf LRX_UNCORR ((s.blockTallied sc).rd LRX_UNCORR sc + 1) sc (State.blockTallied_wf w sc)
  exact State.perf_only 7 1 1 (State.raise_only 7 3 ((State.blockTallied_only w sc (by simp) (by simp)).wr_mem _ (State.blockTallied_wf w sc)
    (by simp)) w2) (State.raise_canonical 7 3 w2)

theorem State.blockTallied_blocks (sc : Nat) : (s.blockTallied sc).rd64 LRX_BLOCKS_LO LRX_BLOCKS_HI sc
    = (s.rd64 LRX_BLOCKS_LO LRX_BLOCKS_HI sc + 1) % 2 ^ 64 := by
  have w1 := State.wr64_wf LRX_BLOCKS_LO LRX_BLOCKS_HI (s.rd64 LRX_BLOCKS_LO LRX_BLOCKS_HI sc + 1) sc w
  exact (State.rd64_congr (State.rd_perf _ _ _ _ w1) (State.rd_perf _ _ _ _ w1)).trans (State.rd64_inc64 w (by decide) rfl rfl 1 sc)

/-- Every decoded block counts in BLOCKS. -/
theorem State.blockCounted_blocks (sc corr : Nat) (uncorr : Bool) : (s.blockCounted sc corr uncorr).rd64 LRX_BLOCKS_LO LRX_BLOCKS_HI sc
    = (s.rd64 LRX_BLOCKS_LO LRX_BLOCKS_HI sc + 1) % 2 ^ 64 := by
  have w1 := State.blockTallied_wf w sc
  refine Eq.trans ?_ (State.blockTallied_blocks w sc)
  cases uncorr with
  | false => exact State.rd64_congr (State.rd_wr64_fld _ _ _ w1) (State.rd_wr64_fld _ _ _ w1)
  | true =>
    have w2 := State.wr_wf LRX_UNCORR ((s.blockTallied sc).rd LRX_UNCORR sc + 1) sc w1
    have hkept {f : Fld} (hf : f.counting = false) (hne : f.id ≠ LRX_UNCORR.id) :
        (s.blockCounted sc corr true).rd f sc = (s.blockTallied sc).rd f sc :=
      (State.rd_perf 7 1 1 sc (State.raise_canonical 7 3 w2) hf).trans ((State.rd_raise 7 3 sc w2 hf).trans (State.rd_wr_fld _ _ _ w1 hne))
    exact State.rd64_congr (hkept (by decide) (by decide)) (hkept (by decide) (by decide))

theorem State.blockCounted_corr (sc corr : Nat) : (s.blockCounted sc corr false).rd64 LRX_CORR_LO LRX_CORR_HI sc
    = (s.rd64 LRX_CORR_LO LRX_CORR_HI sc + corr) % 2 ^ 64 := by
  have hkept : (s.blockTallied sc).rd64 LRX_CORR_LO LRX_CORR_HI sc = s.rd64 LRX_CORR_LO LRX_CORR_HI sc :=
    State.rd64_congr ((State.rd_perf _ _ _ _ (State.wr64_wf _ _ _ _ w)).trans (State.rd_wr64_fld _ _ _ w))
      ((State.rd_perf _ _ _ _ (State.wr64_wf _ _ _ _ w)).trans (State.rd_wr64_fld _ _ _ w))
  exact (State.rd64_inc64 (State.blockTallied_wf w sc) (by decide) rfl rfl corr sc).trans (by rw [hkept])

theorem State.blockCounted_uncorrectable (sc corr : Nat) : (s.blockCounted sc corr true).rd LRX_UNCORR sc = (s.rd LRX_UNCORR sc + 1) % 2 ^ 32 := by
  have w1 := State.blockTallied_wf w sc
  have w2 := State.wr_wf LRX_UNCORR ((s.blockTallied sc).rd LRX_UNCORR sc + 1) sc w1
  have hkept : (s.blockTallied sc).rd LRX_UNCORR sc = s.rd LRX_UNCORR sc :=
    (State.rd_perf _ _ _ _ (State.wr64_wf _ _ _ _ w)).trans (State.rd_wr64_fld _ _ _ w)
  exact (State.rd_perf 7 1 1 sc (State.raise_canonical 7 3 w2)).trans ((State.rd_raise 7 3 sc w2).trans
    ((State.rd_wr_same _ _ _ w1).trans (by rw [hkept]; rfl)))

/-- Counting changes counts alone: every register of another field reads as before. -/
theorem State.blockCounted_rd {f : Fld} (sc corr : Nat) (uncorr : Bool) (i : Nat)
    (hn : ∀ g ∈ [LRX_BLOCKS_LO, LRX_BLOCKS_HI, LRX_CORR_LO, LRX_CORR_HI, LRX_UNCORR], g.id ≠ f.id := by decide)
    (hf : f.counting = false := by decide) : (s.blockCounted sc corr uncorr).rd f i = s.rd f i := by
  simp only [List.forall_mem_cons] at hn
  obtain ⟨hbl, hbh, hcl, hch, hu, -⟩ := hn
  cases uncorr with
  | false => exact (State.blockCounted_good w sc corr).rd_fld i (by simp [Fld.one, hbl, hbh, hcl, hch]) hf
  | true => exact (State.blockCounted_uncorr w sc corr).rd_fld i (by simp [Fld.one, hbl, hbh, hu]) hf

theorem State.blockCounted_rx (sc corr : Nat) (uncorr : Bool) : (s.blockCounted sc corr uncorr).rx = s.rx := by
  cases uncorr with
  | false => exact (State.blockCounted_good w sc corr).rx_eq
  | true => exact (State.blockCounted_uncorr w sc corr).rx_eq

variable {sc idx corr : Nat} {info : List Nat} (hsc : sc < 32) (ha : s.rd LRX_ADMITTED sc = 1 ∨ sc = s.ctrlSc) (hf : s.inFrame sc = true)
  (hr : s.rd FKL_ROLE = 0)
include hsc ha hf hr

theorem blockDecoded_good : Completes (.blockDecoded sc idx info corr false) s fun t =>
    Only [LRX_BLOCKS_LO.one sc, LRX_BLOCKS_HI.one sc, LRX_CORR_LO.one sc, LRX_CORR_HI.one sc]
      { s with rx := { s.rx with blocks := t.rx.blocks } } t
    ∧ t.rd64 LRX_BLOCKS_LO LRX_BLOCKS_HI sc = (s.rd64 LRX_BLOCKS_LO LRX_BLOCKS_HI sc + 1) % 2 ^ 64
    ∧ t.rd64 LRX_CORR_LO LRX_CORR_HI sc = (s.rd64 LRX_CORR_LO LRX_CORR_HI sc + corr) % 2 ^ 64 := by
  obtain ⟨bs, he⟩ := blockDecoded_blocks idx corr info false hsc ha hf ((State.blockCounted_rd w sc corr false 0).trans hr)
  exact completes_of rfl he ⟨(State.blockCounted_good w sc corr).blocks bs, State.blockCounted_blocks w sc corr false,
    State.blockCounted_corr w sc corr⟩

theorem blockDecoded_uncorr : Completes (.blockDecoded sc idx info corr true) s fun t =>
    Only [LRX_BLOCKS_LO.one sc, LRX_BLOCKS_HI.one sc, LRX_UNCORR.one sc] { s with rx := { s.rx with blocks := t.rx.blocks } } t
    ∧ t.rd64 LRX_BLOCKS_LO LRX_BLOCKS_HI sc = (s.rd64 LRX_BLOCKS_LO LRX_BLOCKS_HI sc + 1) % 2 ^ 64
    ∧ t.rd LRX_UNCORR sc = (s.rd LRX_UNCORR sc + 1) % 2 ^ 32 := by
  obtain ⟨bs, he⟩ := blockDecoded_blocks idx corr info true hsc ha hf ((State.blockCounted_rd w sc corr true 0).trans hr)
  exact completes_of rfl he ⟨(State.blockCounted_uncorr w sc corr).blocks bs, State.blockCounted_blocks w sc corr true,
    State.blockCounted_uncorrectable w sc corr⟩

end

/-! The bits of a block -/

/-- Each further byte of a number takes eight bits. -/
theorem bytesFold_lt (bs : List Nat) {a k : Nat} (h : a < 2 ^ (8 * k)) : bs.foldl (fun a b => a * 256 + b % 256) a < 2 ^ (8 * (k + bs.length)) := by
  induction bs generalizing a k with
  | nil => simpa using h
  | cons b bs ih =>
    have hstep : a * 256 + b % 256 < 2 ^ (8 * (k + 1)) := by
      have hp : 2 ^ (8 * (k + 1)) = 2 ^ (8 * k) * 256 := Nat.pow_add 2 (8 * k) 8
      omega
    simpa [Nat.add_assoc, Nat.add_comm 1] using ih hstep

theorem ofBytesBE_lt (bs : List Nat) : ofBytesBE bs < 2 ^ (8 * bs.length) := by
  rw [← Nat.zero_add bs.length]
  exact bytesFold_lt bs (by simp)

theorem blockBits_whole {sym p idx : Nat} (h : idx < mfCoded sym p / 12288) : blockBits sym p idx = 10240 := if_pos h

section
variable {s : State} {sc idx corr sf mf : Nat} {info : List Nat} {uncorr : Bool}

/-- A whole block of an aligned subcarrier, descrambled under its label (R94). -/
theorem State.blockOf_whole (hal : s.aligned sc = true) (hlabel : (s.subOf sc).label = some (sf, mf))
    (hidx : idx < mfCoded s.symPerSlot (s.profOf sc) / 12288) (hlen : info.length = 1280) :
    s.blockOf sc idx info uncorr = some { src := sc, mf := mf, idx := idx, bits := ofBytesBE info ^^^ scrBits (scrSeed true sc mf idx) 10240
                                          len := 10240, err := uncorr || (s.subOf sc).epochBad } := by
  have hbits := blockBits_whole hidx
  have hinfo := ofBytesBE_lt info
  rw [hlen, show 8 * 1280 = 10240 from rfl] at hinfo
  replace hinfo := Nat.mod_eq_of_lt hinfo
  have htake : info.take 1280 = info := List.take_of_length_le hlen.le
  simp only [State.blockOf, hlabel, hal, hbits, scramble, ceilDiv, Nat.reduceAdd, Nat.reduceSub, Nat.reduceDiv, Nat.reduceMul, htake,
    pow_zero, Nat.div_one, hinfo]
  rfl

theorem blockDecoded_kept (w : s.wf = true) (hsc : sc < 32) (ha : s.rd LRX_ADMITTED sc = 1) (hne : sc ≠ s.ctrlSc) (hf : s.inFrame sc = true)
    (hal : s.aligned sc = true) (hr : s.rd FKL_ROLE = 0) (hlabel : (s.subOf sc).label = some (sf, mf))
    (hidx : idx < mfCoded s.symPerSlot (s.profOf sc) / 12288) (hlen : info.length = 1280) :
    Completes (.blockDecoded sc idx info corr uncorr) s fun t =>
      { src := sc, mf := mf, idx := idx, bits := ofBytesBE info ^^^ scrBits (scrSeed true sc mf idx) 10240, len := 10240
        err := uncorr || (s.subOf sc).epochBad : Blk } ∈ t.rx.blocks := by
  have hrx := State.blockCounted_rx w sc corr uncorr
  have hrd (f : Fld) (i : Nat) (hn : ∀ g ∈ [LRX_BLOCKS_LO, LRX_BLOCKS_HI, LRX_CORR_LO, LRX_CORR_HI, LRX_UNCORR], g.id ≠ f.id := by decide)
      (hc : f.counting = false := by decide) : (s.blockCounted sc corr uncorr).rd f i = s.rd f i := State.blockCounted_rd w sc corr uncorr i hn hc
  have hsub := State.subOf_congr (congrArg Rx.subs hrx) sc
  have hctrl : (s.blockCounted sc corr uncorr).ctrlSc = s.ctrlSc := hrd LRX_CTRL_SC 0
  have hal' : (s.blockCounted sc corr uncorr).aligned sc = true := by rw [State.aligned, State.on, hrd FRM_SC_MF_ALIGNED sc]; exact hal
  have hsym : (s.blockCounted sc corr uncorr).symPerSlot = s.symPerSlot := by rw [State.symPerSlot, hrd LRX_SYM_RATE 0, State.symPerSlot]
  have hprof : (s.blockCounted sc corr uncorr).profOf sc = s.profOf sc := by rw [State.profOf, hctrl, hrx, State.profOf]
  have hblock := State.blockOf_whole (uncorr := uncorr) hal' (by rw [hsub]; exact hlabel) (by rw [hsym, hprof]; exact hidx) hlen
  refine completes_of rfl (blockDecoded_eq idx corr info uncorr hsc (.inl ha) hf) ?_
  rw [hblock, Option.elim_some, State.blockOut_alone ((hrd FKL_ROLE 0).trans hr), hctrl, if_neg (by simpa using hne), hsub]
  exact List.mem_cons_self

end
end Sys2Proof.Machine
end

section
namespace Sys2Proof.Machine

/-! Delineation (R100 to R102): the place of a stream and what stands there -/

/-- Delineation of the subcarrier stream `st` stands at `p`: no pointer is still to be met, and no defect withholds the stream. -/
structure StandsAt (st p : Nat) (s : State) : Prop where
  stream : st < 32
  place : (s.chain st).place = some p
  noPtr : (s.chain st).ptr = none
  free : s.withheld st = false

/-- With no pointer to be met none is compared. -/
theorem State.meetDataPtr_none {s : State} {st : Nat} (h : (s.chain st).ptr = none) : s.meetDataPtr st = s := by
  simp only [State.meetDataPtr, h]
  cases (s.chain st).place <;> rfl

theorem State.placeOn_ahead {s : State} {st p : Nat} (n : Nat) (hp : (s.chain st).place = some p) (hb : (s.chain st).behind = false) :
    (s.placeOn st n).chain st = { s.chain st with place := some (p + n) } := by
  simp [State.placeOn, hb, hp]

/-- A place that moves on leaves all but the receiver. -/
theorem State.placeOn_only (cs : List Touch) (s : State) (st n : Nat) : Only cs { s with rx := (s.placeOn st n).rx } (s.placeOn st n) :=
  (Only.refl cs s).swap rfl rfl rfl

theorem State.losePlace_only (cs : List Touch) (s : State) (st : Nat) : Only cs { s with rx := (s.losePlace st).rx } (s.losePlace st) := by
  unfold State.losePlace
  split <;> exact (Only.refl cs s).swap rfl rfl rfl

/-- A stream of a subcarrier whose place is lost. -/
theorem State.losePlace_place {s : State} {st : Nat} (h : st < 32) : ((s.losePlace st).chain st).place = none := by
  have hc : (st == ctlStream) = false := beq_false_of_ne (by rw [ctlStream]; omega)
  simp [State.losePlace, hc]

section
variable {s : State} {st p : Nat} (h : StandsAt st p s)
include h

/-- The loss of a subcarrier's stream counts under that subcarrier. -/
theorem StandsAt.delinLoss (t : State) : t.delinLoss st = t.inc FRM_SC_DELIN_LOSS 1 st := by
  simp only [State.delinLoss, State.streamSc, if_pos h.stream]

theorem StandsAt.streamCar : s.streamCar st = st / 16 := by
  simp only [State.streamCar, State.streamSc, if_pos h.stream, Option.getD_some]

/-- What a unit position is read for, once eight bytes have come. -/
theorem StandsAt.delineate {tag : List Nat} {err : Bool} (hd : s.unitData st 8 = some (tag, err)) : delineateUnit st s =
    if ofBytesBE tag == 0 then s.placeOn st 8
    else if !tagOk tag then (s.losePlace st).delinLoss st
    else match s.unitData st (unitLen (ofBytesBE tag)) with
      | none => s
      | some (unit, e) =>
        if e then
          let t := (s.inc FRM_SC_ERR_FRAMES 1 st).perf 8 0x03
          if err then t.losePlace st else t.placeOn st (unitLen (ofBytesBE tag))
        else ((s.placeOn st (unitLen (ofBytesBE tag))).perf 8 0x02).tagFilter unit (s.streamCar st) := by
  have hc : (st == ctlStream) = false := beq_false_of_ne (by have := h.stream; rw [ctlStream]; omega)
  have hw : s.streamWithheld st = false := (if_pos h.stream).trans h.free
  have hsc : s.streamSc st = some st := if_pos h.stream
  simp only [delineateUnit, State.meetDataPtr_none h.noPtr, h.place, hc, hw, hd, hsc, Option.isNone_some,
    Bool.or_self, Bool.false_eq_true, if_false] <;> rfl

theorem StandsAt.idle {tag : List Nat} {err : Bool} (hd : s.unitData st 8 = some (tag, err)) (hz : ofBytesBE tag = 0) :
    delineateUnit st s = s.placeOn st 8 := by
  rw [h.delineate hd, hz]
  rfl

theorem StandsAt.noTag {tag : List Nat} {err : Bool} (hd : s.unitData st 8 = some (tag, err)) (hz : ofBytesBE tag ≠ 0) (ht : tagOk tag = false) :
    delineateUnit st s = (s.losePlace st).inc FRM_SC_DELIN_LOSS 1 st := by
  rw [h.delineate hd, if_neg (by simpa using hz), ht, h.delinLoss]
  rfl

theorem StandsAt.unit {unit : List Nat} {err : Bool} (hd : s.unitData st 8 = some (unit.take 8, err))
    (hu : s.unitData st unit.length = some (unit, false)) (ht : tagOk unit = true)
    (hz : ofBytesBE (unit.take 8) ≠ 0) (hl : unit.length = unitLen (ofBytesBE (unit.take 8))) :
    delineateUnit st s = ((s.placeOn st unit.length).perf 8 0x02).tagFilter unit (st / 16) := by
  have ht' : tagOk (unit.take 8) = true := by simpa [tagOk, List.take_take] using ht
  rw [h.delineate hd, if_neg (by simpa using hz), ht', ← hl, hu, h.streamCar]
  rfl

end

/-! The tag filter (R186) -/

section
variable {s : State} {unit : List Nat}

/-- Who a unit can be for: the terminal, its groups, or all. -/
def State.tagWanted (s : State) (tid : Nat) : Bool := s.ownTid tid || s.join.groups.contains tid || tid == broadcastTid

theorem State.tagWanted_of_addressed {tid : Nat} (h : s.addressed tid = true) : s.tagWanted tid = true := by
  simp only [State.addressed, State.tagWanted, Bool.or_eq_true, Bool.and_eq_true] at h ⊢
  exact h.imp_left fun k => k.imp_right And.right

theorem State.tagFilter_missed (car : Nat) (h : s.tagWanted (tagTid (ofBytesBE (unit.take 8))) = false) :
    s.tagFilter unit car = s.inc CLP_TAG_MISS := by
  rw [State.tagWanted] at h
  simp only [State.tagFilter, h]
  rfl

theorem State.tagFilter_own (car : Nat) (h : s.tagWanted (tagTid (ofBytesBE (unit.take 8))) = true)
    (hm : tagMem (ofBytesBE (unit.take 8)) = s.rd FKL_MEM_ID) : s.tagFilter unit car = s.toParser (unitFrame unit 16 car) := by
  rw [State.tagWanted] at h
  simp only [State.tagFilter, h, hm, beq_self_eq_true]
  rfl

/-- What becomes of a unit does not move the place in its stream. -/
theorem State.tagFilter_rx (s : State) (unit : List Nat) (car : Nat) : (s.tagFilter unit car).rx = s.rx :=
  (State.tagFilter_does unit car (Nat.or_self _) (.refl _ s)).rx_eq (by decide)

theorem State.toParser_inq (s : State) (f : RxFrame) : ((s.toParser f).lane f.isrc).inq = (s.lane f.isrc).inq ++ [f] :=
  congrArg Lane.inq (s.lane_setLane _ _)

/-- The frame of a whole unit: what follows its tag and extension. -/
theorem unitFrame_whole (car : Nat) (hl : unit.length = unitLen (ofBytesBE (unit.take 8))) : unitFrame unit 16 car =
    { bytes := unit.drop (8 + if tagTs (ofBytesBE (unit.take 8)) then 8 else 0), isrc := 16, dir := 1
      lt := if tagTs (ofBytesBE (unit.take 8)) then ofBytesBE ((unit.drop 8).take 8) else 0
      ts := tagTs (ofBytesBE (unit.take 8)), ltid := tagTid (ofBytesBE (unit.take 8)), car := car } := by
  rw [unitFrame, List.take_of_length_le (by rw [List.length_drop, hl, unitLen]; omega)]

end

/-! The commands of delineation -/

section
variable {s : State} {st p : Nat} (w : s.wf = true) (h : StandsAt st p s)
include h

theorem delineateUnit_idle {tag : List Nat} {err : Bool} (hb : (s.chain st).behind = false) (hd : s.unitData st 8 = some (tag, err))
    (hz : ofBytesBE tag = 0) : Completes (.delineateUnit st) s fun t =>
      Only [] { s with rx := t.rx } t ∧ t.chain st = { s.chain st with place := some (p + 8) } ∧ ∀ k, k ≠ st → t.chain k = s.chain k :=
  completes_of rfl (h.idle hd hz) ⟨State.placeOn_only [] s st 8, State.placeOn_ahead 8 h.place hb, fun _ hk => s.chain_mapChain_ne _ hk⟩

include w

theorem delineateUnit_noTag {tag : List Nat} {err : Bool} (hd : s.unitData st 8 = some (tag, err)) (hz : ofBytesBE tag ≠ 0)
    (ht : tagOk tag = false) : Completes (.delineateUnit st) s fun t =>
      Only [FRM_SC_DELIN_LOSS.one st] { s with rx := t.rx } t ∧ (t.chain st).place = none
      ∧ t.rd FRM_SC_DELIN_LOSS st = (s.rd FRM_SC_DELIN_LOSS st + 1) % 2 ^ FRM_SC_DELIN_LOSS.w := by
  have hlost := State.losePlace_does st (Nat.or_self _) (.refl _ s)
  have w1 := hlost.wf w
  refine completes_of rfl (h.noTag hd hz ht) ⟨(State.losePlace_only _ s st).wr_mem _ w1 (by simp), State.losePlace_place h.stream, ?_⟩
  exact (State.rd_wr_same FRM_SC_DELIN_LOSS _ st w1).trans (congrArg (fun v => (v + 1) % 2 ^ FRM_SC_DELIN_LOSS.w) (hlost.rd w st (by decide)))

theorem delineateUnit_unit {unit : List Nat} {err : Bool} (hb : (s.chain st).behind = false) (hd : s.unitData st 8 = some (unit.take 8, err))
    (hu : s.unitData st unit.length = some (unit, false)) (ht : tagOk unit = true) (hz : ofBytesBE (unit.take 8) ≠ 0)
    (hl : unit.length = unitLen (ofBytesBE (unit.take 8))) : Completes (.delineateUnit st) s fun t =>
      (t.chain st).place = some (p + unit.length)
      ∧ (s.tagWanted (tagTid (ofBytesBE (unit.take 8))) = false →
          Only [CLP_TAG_MISS.one] { s with rx := t.rx } t ∧ t.rd CLP_TAG_MISS = (s.rd CLP_TAG_MISS + 1) % 2 ^ 32)
      ∧ (s.addressed (tagTid (ofBytesBE (unit.take 8))) = true → tagMem (ofBytesBE (unit.take 8)) = s.rd FKL_MEM_ID →
          Only [] { s with rx := t.rx, pk := t.pk } t ∧ (t.lane 16).inq = (s.lane 16).inq ++
            [{ bytes := unit.drop (8 + if tagTs (ofBytesBE (unit.take 8)) then 8 else 0), isrc := 16, dir := 1
               lt := if tagTs (ofBytesBE (unit.take 8)) then ofBytesBE ((unit.drop 8).take 8) else 0
               ts := tagTs (ofBytesBE (unit.take 8)), ltid := tagTid (ofBytesBE (unit.take 8)), car := st / 16 }]) := by
  have w1 : (s.placeOn st unit.length).wf = true := w
  have w2 := State.perf_canonical 8 0x02 1 w1
  have hmoved : Only [] { s with rx := ((s.placeOn st unit.length).perf 8 0x02).rx } ((s.placeOn st unit.length).perf 8 0x02) := by
    rw [State.perf_rx]
    exact State.perf_only 8 0x02 1 (State.placeOn_only [] s st _) w1
  have hrd (f : Fld) (hf : f.counting = false := by decide) : ((s.placeOn st unit.length).perf 8 0x02).rd f = s.rd f := State.rd_perf 8 0x02 1 0 w1 hf
  have hwanted (tid : Nat) : ((s.placeOn st unit.length).perf 8 0x02).tagWanted tid = s.tagWanted tid := by
    simp only [State.tagWanted, State.ownTid, State.on, hrd UPB_TID_VALID, hrd UPB_TID, State.perf_join]
    rfl
  refine completes_of rfl (h.unit hd hu ht hz hl) ⟨?_, fun hmiss => ?_, fun hadd hm => ?_⟩
  · rw [State.chain_congr (congrArg Rx.chains ((State.tagFilter_rx _ unit _).trans (State.perf_rx _ 8 0x02 1))), State.placeOn_ahead _ h.place hb]
  · rw [State.tagFilter_missed _ ((hwanted _).trans hmiss)]
    refine ⟨(hmoved.mono (List.nil_subset _)).wr_mem _ w2 (by simp), ?_⟩
    exact (State.rd_wr_same CLP_TAG_MISS _ 0 w2).trans (congrArg (fun v => (v + 1) % 2 ^ 32) (hrd CLP_TAG_MISS))
  · rw [State.tagFilter_own _ ((hwanted _).trans (State.tagWanted_of_addressed hadd)) (hm.trans (hrd FKL_MEM_ID).symm), unitFrame_whole _ hl]
    refine ⟨hmoved.pk_both _, ?_⟩
    rw [State.toParser_inq, State.lane_congr (congrArg Packet.lanes (State.perf_pk _ 8 0x02 1))]
    rfl

end

end Sys2Proof.Machine
end

section
namespace Sys2Proof.Machine

/-! The bytes of a stream (R100, R109, R266) -/

theorem aesCtr_length_le (key : List Nat) (ctr : Nat) {data : List Nat} (h : data.length ≤ 16) : (aesCtr key ctr data).length ≤ data.length := by
  cases data with
  | nil => simp [aesCtr, blocks16]
  | cons b bs =>
    have hone : ((b :: bs).length + 15) / 16 = 1 := by rw [List.length_cons] at h ⊢; omega
    simp only [aesCtr, blocks16, hone, List.range_one, List.map_cons, List.map_nil, List.zipIdx_cons, List.zipIdx_nil, List.flatten_cons,
      List.flatten_nil, List.append_nil, xorBytes, List.length_zipWith, List.length_take, List.length_drop]
    omega

section
variable {s : State}

/-- No bytes of a multiframe decipher to none. -/
theorem State.plain_nil (st : Nat) (prev : Bool) (m : StreamMf) (off : Nat) : (s.plain st prev m off []).1 = [] := by
  unfold State.plain
  split
  · rfl
  · split
    · rfl
    · refine List.drop_eq_nil_of_le ((aesCtr_length_le _ _ ?_).trans ?_)
      · simp only [List.append_nil, List.length_replicate]; omega
      · simp

/-- An unencrypted multiframe is read as it stands. -/
theorem State.plain_clear (st : Nat) (prev : Bool) {m : StreamMf} (off : Nat) (data : List Nat) (h : m.epoch = 0) :
    s.plain st prev m off data = (data, m.usable) := if_pos (by rw [h]; rfl)

theorem State.mfData_zero (st : Nat) (m : StreamMf) (off : Nat) : s.mfData st m off 0 = some ([], false) := rfl

/-- Bytes that lie within the present multiframe are read from it alone. -/
theorem State.unitData_ahead {st p n : Nat} {data : List Nat} {err : Bool} (hp : (s.chain st).place = some p) (hb : (s.chain st).behind = false)
    (hn : p + n ≤ (s.chain st).cur.bytes) (hd : s.mfData st (s.chain st).cur p n = some (data, err)) :
    s.unitData st n = some ((s.plain st false (s.chain st).cur p data).1,
      err || (n != 0 && !(s.plain st false (s.chain st).cur p data).2)) := by
  have hk : ¬ (s.chain st).cur.bytes < p + n := Nat.not_lt.mpr hn
  simp [State.unitData, hp, hb, hk, hd, State.mfData_zero, State.plain_nil]

end

/-! The place of bytes among whole blocks -/

theorem blockAt_whole {sym p n i : Nat} (h : i < mfCoded sym p / 12288 * n * 10240) : blockAt sym p n i = i / 10240 := if_pos h

theorem blockStart_whole {sym p n b : Nat} (h : b ≤ mfCoded sym p / 12288 * n) : blockStart sym p n b = b * 10240 := if_pos h

/-- Eight bytes within one whole block of a subcarrier's stream are the bits that the block holds there. -/
theorem State.mfData_block {s : State} {st p : Nat} {m : StreamMf} {x : Blk} (hst : st < 32) (hn : m.n = 1)
    (hw : p / 1280 < mfCoded s.symPerSlot m.prof / 12288) (hin : p % 1280 + 8 ≤ 1280)
    (hx : (s.rx.blocks.find? fun y => y.src == st && y.mf == m.mf && y.idx == p / 1280) = some x) :
    s.mfData st m p 8 = some (bytesBE 8 (x.bits / 2 ^ (10240 - 8 * (p % 1280 + 8)) % 2 ^ 64), x.err) := by
  have hfirst : blockAt s.symPerSlot m.prof 1 (8 * p) = p / 1280 := by rw [blockAt_whole (by omega)]; omega
  have hlast : blockAt s.symPerSlot m.prof 1 (8 * (p + 8) - 1) = p / 1280 := by rw [blockAt_whole (by omega)]; omega
  have hstart : blockStart s.symPerSlot m.prof 1 (p / 1280 + 1) - 8 * (p + 8) = 10240 - 8 * (p % 1280 + 8) := by
    rw [blockStart_whole (by omega)]; omega
  have hsrc (pos : Nat) : s.srcOf st pos = st := if_pos hst
  simp [State.mfData, hn, hfirst, hlast, hstart, State.blocksFrom, hsrc, hx]

/-- Eight zero bytes of an unencrypted stream of one subcarrier are an idle word (R102). -/
theorem delineateUnit_zeros {s : State} {st p : Nat} {x : Blk} (h : StandsAt st p s) (hb : (s.chain st).behind = false)
    (he : (s.chain st).cur.epoch = 0) (hn : (s.chain st).cur.n = 1) (hbytes : p + 8 ≤ (s.chain st).cur.bytes)
    (hw : p / 1280 < mfCoded s.symPerSlot (s.chain st).cur.prof / 12288) (hin : p % 1280 + 8 ≤ 1280)
    (hx : (s.rx.blocks.find? fun y => y.src == st && y.mf == (s.chain st).cur.mf && y.idx == p / 1280) = some x)
    (hz : x.bits / 2 ^ (10240 - 8 * (p % 1280 + 8)) % 2 ^ 64 = 0) : Completes (.delineateUnit st) s fun t =>
      Only [] { s with rx := t.rx } t ∧ t.chain st = { s.chain st with place := some (p + 8) } ∧ ∀ k, k ≠ st → t.chain k = s.chain k := by
  have hd := State.unitData_ahead h.place hb hbytes (State.mfData_block h.stream hn hw hin hx)
  rw [State.plain_clear st false p _ he, hz] at hd
  exact delineateUnit_idle h hb hd rfl

end Sys2Proof.Machine
end

section
namespace Sys2Proof.Machine

/-! Frames begin for their streams (R99 to R101): what that leaves of the subcarriers -/

section
variable {s : State}

theorem State.streamStart_rx (s : State) (st epoch : Nat) : (s.streamStart st epoch).2.rx = s.rx :=
  (State.streamStart_does st epoch (Nat.or_self _) (.refl _ s)).rx_eq (by decide)

theorem State.startStream_subs (s : State) (st : Nat) (m : StreamMf) : (s.startStream st m).rx.subs = s.rx.subs := by
  have hrx := congrArg Rx.subs (s.streamStart_rx st m.epoch)
  simp only [State.startStream]
  split <;> exact hrx

theorem State.lateEpoch_subs (s : State) (st epoch : Nat) : (s.lateEpoch st epoch).rx.subs = s.rx.subs := by
  have hrx := congrArg Rx.subs (s.streamStart_rx st epoch)
  unfold State.lateEpoch
  split
  · rfl
  · split
    next h =>
    rw [h] at hrx
    exact hrx

theorem State.firstUnit_subs (s : State) (st v : Nat) (r : Nat × Nat) : (s.firstUnit st v r).rx.subs = s.rx.subs := by
  unfold State.firstUnit
  split
  · split <;> rfl
  · rfl

theorem State.ctlOverhead_subs (s : State) (mfi : Nat) (fu : Option Nat) : (s.ctlOverhead mfi fu).rx.subs = s.rx.subs := by
  unfold State.ctlOverhead
  extract_lets u _ t
  have ht : t.rx.subs = s.rx.subs := by
    unfold t
    split
    · show u.rx.subs = s.rx.subs
      unfold u
      split <;> rfl
    · rfl
  split
  · split
    · exact (State.firstUnit_subs _ _ _ _).trans ht
    · exact ht
  · exact ht

theorem State.dataOverhead_subs (s : State) (sc mfi : Nat) (fu : Option Nat) : (s.dataOverhead sc mfi fu).rx.subs = s.rx.subs := by
  unfold State.dataOverhead
  split
  · rfl
  · extract_lets b p l t
    have ht : t.rx.subs = s.rx.subs := by
      unfold t
      split
      · exact State.startStream_subs _ _ _
      · rfl
    split
    · split
      · exact ht
      · exact (State.firstUnit_subs _ _ _ _).trans ht
    · exact ht

/-- The frame that begins leaves its FIRST_UNIT with the subcarrier. -/
theorem State.frameStart_sub (s : State) (sc mfi : Nat) (fu : Option Nat) :
    (s.frameStart sc mfi fu).subOf sc = { s.subOf sc with fu := fu.getD 0xFFFFFFFF } := by
  unfold State.frameStart
  extract_lets s1 s2
  have h2 : s2.rx.subs = s1.rx.subs := by
    unfold s2
    split <;> rfl
  have h1 : s1.subOf sc = { s.subOf sc with fu := fu.getD 0xFFFFFFFF } := State.subOf_mapSub _ _ _
  rw [← h1]
  split
  · exact State.subOf_congr ((State.ctlOverhead_subs _ _ _).trans h2) sc
  · exact State.subOf_congr ((State.dataOverhead_subs _ _ _ _).trans h2) sc

/-- A later frame of a multiframe whose overhead is uncorrectable begins with no field of it. -/
theorem State.frameStart_bare {sc mfi : Nat} (h : mfi ≠ 0) :
    s.frameStart sc mfi none = s.mapSub sc fun b => { b with fu := 0xFFFFFFFF } := by
  unfold State.frameStart
  extract_lets s1 s2
  have h2 : s2 = s1 := if_neg (by simpa using h)
  rw [h2]
  split
  · exact if_neg (by simpa using h)
  · unfold State.dataOverhead
    split
    · rfl
    · exact if_neg (by simpa using h)

end

/-! The MFI of a frame is judged (R99) -/

section
variable {s : State} {sc : Nat}

/-- The MFI that an aligned subcarrier is to show next. -/
def State.mfiDue (s : State) (sc : Nat) : Nat := ((s.subOf sc).mfi.getD 0 + 1) % 64

/-- An aligned subcarrier passes over one and a second frame in a row whose MFI does not follow. -/
theorem State.judgeMfi_passes {m : Option Nat} (ha : s.aligned sc = true) (hb : (s.subOf sc).bad < 2) (hm : m ≠ some (s.mfiDue sc)) :
    s.judgeMfi sc m = s.mapSub sc fun x => { x with mfi := some (s.mfiDue sc), bad := x.bad + 1 } := by
  rw [State.mfiDue] at *
  simp only [State.judgeMfi, ha, if_true]
  rw [if_neg (by simpa using hm), if_neg (by omega)]

theorem State.judgeMfi_aligned (m : Option Nat) (ha : s.aligned sc = true) (hb : (s.subOf sc).bad < 2) : (s.judgeMfi sc m).aligned sc = true := by
  by_cases hm : m = some (s.mfiDue sc)
  · rw [State.mfiDue] at hm
    simp only [State.judgeMfi, ha, if_true, hm, beq_self_eq_true]
    exact ha
  · rw [State.judgeMfi_passes ha hb hm]
    exact ha

/-- A subcarrier that seeks alignment has it when an MFI follows the last one. -/
theorem State.judgeMfi_seeks (v : Nat) (w : s.wf = true) (ha : s.aligned sc = false) :
    (s.judgeMfi sc (some v)).aligned sc = ((s.subOf sc).mfi.any fun l => v == (l + 1) % 64) := by
  cases hl : (s.subOf sc).mfi with
  | none =>
    simp only [State.judgeMfi, ha, hl, Bool.false_eq_true, if_false]
    exact ha
  | some l =>
    simp only [State.judgeMfi, ha, hl, Bool.false_eq_true, if_false, Option.any_some]
    split
    · next hv =>
      rw [hv, State.aligned, State.on, State.rd_wr_same]
      · rfl
      · exact w
    · next hv => exact ha.trans (Bool.not_eq_true _ ▸ hv).symm

end

/-- Outside GRAZE the overhead of a subcarrier in frame is decoded (R91). -/
theorem overheadBlock_heard {s : State} {sc : Nat} (hsc : sc < 32) (hf : s.inFrame sc = true) (hg : s.mode ≠ .graze) :
    (decide (32 ≤ sc) || !s.inFrame sc || (s.mode == .graze && sc != s.ctrlSc)) = false := by
  simp [Nat.not_le.mpr hsc, hf, hg]

/-! An uncorrectable overhead block (R99) -/

section
variable {s : State} {sc : Nat}

/-- An aligned subcarrier whose overhead block is uncorrectable: it is counted, and the MFI that was due stands for its own. -/
def State.overheadMissed (s : State) (sc : Nat) : State :=
  ((s.inc FRM_SC_OH_UNCORR 1 sc).mapSub sc fun x => { x with mfi := some (s.mfiDue sc), bad := x.bad + 1 }).mapSub sc fun b =>
    { b with trace := [], traceRun := 0 }

theorem State.overheadMissed_sub (s : State) (sc : Nat) : (s.overheadMissed sc).subOf sc
    = { s.subOf sc with mfi := some (s.mfiDue sc), bad := (s.subOf sc).bad + 1, trace := [], traceRun := 0 } := by
  rw [State.overheadMissed, State.subOf_mapSub, State.subOf_mapSub]
  rfl

theorem State.overheadMissed_only (w : s.wf = true) (r : Rx) :
    Only [FRM_SC_OH_UNCORR.one sc] { s with rx := r } { s.overheadMissed sc with rx := r } :=
  ((Only.refl [FRM_SC_OH_UNCORR.one sc] s).wr_mem (g := FRM_SC_OH_UNCORR) _ (i := sc) w (by simp)).rx_both r

theorem State.overheadMissed_counts (w : s.wf = true) :
    (s.overheadMissed sc).rd FRM_SC_OH_UNCORR sc = (s.rd FRM_SC_OH_UNCORR sc + 1) % 2 ^ FRM_SC_OH_UNCORR.w := State.rd_wr_same _ _ _ w

variable (w : s.wf = true) (hsc : sc < 32) (hf : s.inFrame sc = true) (hg : s.mode ≠ .graze) (ha : s.aligned sc = true)
  (hb : (s.subOf sc).bad < 2)
include w hsc hf hg ha hb

/-- The frame begins all the same, with none of the block's fields. -/
theorem overheadBlock_missed (mfi : Nat) : overheadBlock sc mfi none s =
    (if s.mfiDue sc == 0 then (s.overheadMissed sc).mapSub sc fun b => b.newMf none none
      else s.overheadMissed sc).frameStart sc (s.mfiDue sc) none := by
  have hrd (f : Fld) (i : Nat) (h : f.id ≠ FRM_SC_OH_UNCORR.id := by decide) : (s.inc FRM_SC_OH_UNCORR 1 sc).rd f i = s.rd f i :=
    State.rd_wr_fld _ _ _ w h
  have ha1 : (s.inc FRM_SC_OH_UNCORR 1 sc).aligned sc = true := by rw [State.aligned, State.on, hrd FRM_SC_MF_ALIGNED]; exact ha
  have hjudge : (s.inc FRM_SC_OH_UNCORR 1 sc).judgeMfi sc none = _ := State.judgeMfi_passes ha1 hb (by simp)
  have ha2 : (s.overheadMissed sc).aligned sc = true := ha1
  have hmfi : ((s.overheadMissed sc).subOf sc).mfi.getD 0 = s.mfiDue sc := by rw [State.overheadMissed_sub]; rfl
  simp only [overheadBlock, overheadBlock_heard hsc hf hg, Bool.false_eq_true, if_false, hjudge]
  exact (if_pos ha2).trans (by rw [← hmfi]; rfl)

theorem overheadBlock_uncorr (mfi : Nat) : Completes (.overheadBlock sc mfi none) s fun t =>
    (s.mfiDue sc ≠ 0 → Only [FRM_SC_OH_UNCORR.one sc] { s with rx := t.rx } t)
    ∧ t.rd FRM_SC_OH_UNCORR sc = (s.rd FRM_SC_OH_UNCORR sc + 1) % 2 ^ FRM_SC_OH_UNCORR.w
    ∧ (t.subOf sc).bad = (s.subOf sc).bad + 1 ∧ (t.subOf sc).mfi = some (s.mfiDue sc) := by
  have w1 : (s.overheadMissed sc).wf = true := State.wr_wf _ _ _ w
  have hcount := State.overheadMissed_counts (sc := sc) w
  refine completes_of rfl (overheadBlock_missed w hsc hf hg ha hb mfi) ?_
  by_cases h0 : s.mfiDue sc = 0
  · rw [h0, beq_self_eq_true, if_pos rfl]
    have hstart := State.frameStart_does sc 0 none (Nat.or_self _) (.refl _ ((s.overheadMissed sc).mapSub sc fun b => b.newMf none none))
    rw [State.frameStart_sub, State.subOf_mapSub, State.overheadMissed_sub, h0]
    exact ⟨fun h => absurd rfl h, (hstart.rd w1 sc (by decide)).trans hcount, rfl, rfl⟩
  · rw [if_neg (by simpa using h0), State.frameStart_bare h0, State.subOf_mapSub, State.overheadMissed_sub]
    exact ⟨fun _ => State.overheadMissed_only w _, hcount, rfl, rfl⟩

end
end Sys2Proof.Machine
end

section
namespace Sys2Proof.Machine

/-! What a decoded overhead block shows, and operations that leave it (R92) -/

/-- PROF and SCID of subcarrier `sc` are in `t` what they are in `s`. -/
structure FieldsKept (sc : Nat) (s t : State) : Prop where
  prof : (t.subOf sc).prof = (s.subOf sc).prof
  scid : (t.subOf sc).scid = (s.subOf sc).scid

theorem FieldsKept.trans {sc : Nat} {s t u : State} (h : FieldsKept sc s t) (k : FieldsKept sc t u) : FieldsKept sc s u :=
  ⟨k.prof.trans h.prof, k.scid.trans h.scid⟩

theorem FieldsKept.of_subs {sc : Nat} {s t : State} (h : t.rx.subs = s.rx.subs) : FieldsKept sc s t := by
  have hsub := State.subOf_congr h sc
  exact ⟨congrArg Sub.prof hsub, congrArg Sub.scid hsub⟩

/-- The fields of a subcarrier's frame and overhead. -/
def shownFields : List Fld := [FRM_SC_IN_FRAME, FRM_SC_MF_ALIGNED, FRM_SC_CG_SIZE, FRM_SC_KEY_EPOCH]

/-- What subcarrier `sc` shows of its frame and its overhead is in `t` what it is in the canonical state `s`. -/
structure OverheadKept (sc : Nat) (s t : State) : Prop extends FieldsKept sc s t where
  wf : t.wf = true
  shown : ∀ f ∈ shownFields, t.rd f sc = s.rd f sc

theorem OverheadKept.refl {sc : Nat} {s : State} (w : s.wf = true) : OverheadKept sc s s := ⟨⟨rfl, rfl⟩, w, fun _ _ => rfl⟩

theorem OverheadKept.trans {sc : Nat} {s t u : State} (h : OverheadKept sc s t) (k : OverheadKept sc t u) : OverheadKept sc s u :=
  ⟨h.toFieldsKept.trans k.toFieldsKept, k.wf, fun f hf => (k.shown f hf).trans (h.shown f hf)⟩

/-- An operation whose frame leaves those fields out keeps them. -/
theorem OverheadKept.of_does {W sc : Nat} {s t : State} (w : s.wf = true) (h : Does W s t) (hf : FieldsKept sc s t)
    (hW : ∀ f ∈ shownFields, Nat.testBit W f.id = false ∧ f.id < 1000 := by decide) : OverheadKept sc s t :=
  ⟨hf, h.wf w, fun f hm => h.rd w sc (hW f hm).1 (hW f hm).2⟩

theorem OverheadKept.aligned {sc : Nat} {s t : State} (h : OverheadKept sc s t) : t.aligned sc = s.aligned sc :=
  congrArg (· != 0) (h.shown FRM_SC_MF_ALIGNED (by simp [shownFields]))

theorem OverheadKept.inFrame {sc : Nat} {s t : State} (h : OverheadKept sc s t) : t.inFrame sc = s.inFrame sc :=
  congrArg (· != 0) (h.shown FRM_SC_IN_FRAME (by simp [shownFields]))

/-! Line time moves (R38, R41) -/

/-- The timers of a subcarrier, moved. -/
def Sub.moved (d : Int) (b : Sub) : Sub :=
  { b with since := movedBy d b.since, alignSince := movedBy d b.alignSince, edge := movedBy d b.edge, edgeAt := movedBy d b.edgeAt }

theorem Rx.shift_subs (d : Int) (r : Rx) : (r.shift d).subs = r.subs.map fun e => (e.1, e.2.moved d) := rfl

section
variable (s : State) (sc : Nat)

theorem State.shiftLt_fields (d : Int) : FieldsKept sc s (s.shiftLt d) := by
  unfold State.shiftLt
  split
  · exact .of_subs rfl
  · constructor <;> simp only [State.subOf, Rx.shift_subs, amGetD, amGet?_map] <;> cases amGet? s.rx.subs sc <;> rfl

theorem State.moveLt_fields (d : Int) : FieldsKept sc s (s.moveLt d) := by
  have hgates := (State.gatesMoved_does 0 (Nat.or_self _) (.refl _ (s.shiftLt d))).rx_eq (by decide)
  exact (s.shiftLt_fields sc d).trans (.of_subs (congrArg Rx.subs hgates))

/-- An edge of the control subcarrier leaves what every subcarrier shows, whatever it makes of line time. -/
theorem State.ltEdge_fields (e : Int) (first : Bool) : FieldsKept sc s (s.ltEdge e first) := by
  unfold State.ltEdge
  extract_lets err _ t big
  have ht : FieldsKept sc s t := .of_subs rfl
  have hmove (u : State) (d : Int) (hu : u.rx = t.rx) : FieldsKept sc s (u.moveLt d) :=
    (ht.trans (.of_subs (congrArg Rx.subs hu))).trans (u.moveLt_fields sc d)
  have hunlock : (t.ltUnlock ltAcq).rx = t.rx := (State.ltUnlock_does ltAcq (Nat.or_self _) (.refl _ t)).rx_eq (by decide)
  have hacq : (t.setLtState ltAcq).rx = t.rx := (State.setLtState_does ltAcq (Nat.or_self _) (.refl _ t)).rx_eq (by decide)
  split
  · exact ht
  split
  · exact hmove _ _ hacq
  split
  · exact hmove _ _ rfl
  split
  · split
    · exact hmove _ _ hunlock
    · exact hmove _ _ rfl
  split
  · split
    · unfold State.when_
      split
      · exact (hmove _ _ hunlock).trans (.of_subs rfl)
      · exact hmove _ _ hunlock
    · exact ht.trans (.of_subs rfl)
  · split
    · exact ht.trans (.of_subs rfl)
    · exact ht

variable {s sc} (w : s.wf = true)
include w

theorem State.ltEdge_kept (e : Int) (first : Bool) : OverheadKept sc s (s.ltEdge e first) :=
  .of_does w (State.ltEdge_does e first (Nat.or_self _) (.refl _ s)) (s.ltEdge_fields sc e first)

/-! Another control subcarrier (R81) -/

theorem State.tryTrack_kept (c : Nat) : OverheadKept sc s (s.tryTrack c) := by
  refine .of_does w (State.tryTrack_does c (Nat.or_self _) (.refl _ s)) (.of_subs ?_)
  unfold State.tryTrack
  extract_lets
  split
  · exact (congrArg Rx.subs (State.raise_rx _ 7 c)).trans rfl
  · rfl

theorem State.losePlace_kept (st : Nat) : OverheadKept sc s (s.losePlace st) := by
  refine .of_does w (State.losePlace_does st (Nat.or_self _) (.refl _ s)) (.of_subs ?_)
  unfold State.losePlace
  dsimp only
  split <;> rfl

theorem State.wr_kept {f : Fld} (v i : Nat) (hf : ∀ g ∈ shownFields, g.id ≠ f.id := by decide) : OverheadKept sc s (s.wr f v i) :=
  ⟨.of_subs rfl, State.wr_wf _ _ _ w, fun _ hg => State.rd_wr_fld _ _ _ w (hf _ hg)⟩

/-- A subcarrier in frame that becomes the control subcarrier loses nothing of what it shows. -/
theorem State.moveCtrl_kept (hf : s.inFrame sc = true) : OverheadKept sc s (s.moveCtrl sc) := by
  unfold State.moveCtrl
  split
  · exact .refl w
  · extract_lets t u
    have h1 := State.wr_kept (sc := sc) (f := LRX_IS_CTRL) w 0 s.ctrlSc
    have h2 := h1.trans (State.wr_kept (f := LRX_CTRL_SC) h1.wf sc 0)
    have h3 := h2.trans (State.wr_kept (f := LRX_IS_CTRL) h2.wf 1 sc)
    have ht : OverheadKept sc s t := h3.trans (State.losePlace_kept h3.wf ctlStream)
    have h4 := ht.trans (State.tryTrack_kept ht.wf 0)
    have hu : OverheadKept sc s u := h4.trans (State.tryTrack_kept h4.wf 1)
    rw [hu.inFrame, hf, Bool.not_true, Bool.and_false, if_neg Bool.false_ne_true]
    exact hu

end

/-! The stages in which a decoded overhead block is used -/

/-- What a decoded overhead block leaves with its subcarrier (R92, R93). -/
def Sub.withFields (oh : List Nat) (b : Sub) : Sub :=
  let b := { b with prof := ohByte oh 2 % 32, scid := ohByte oh 1 % 32, ctrl := bit (ohByte oh 3) 6 }
  if ohByte oh 0 % 64 == 0 then { b.newMf (ohLabel oh) (some (ohByte oh 4)) with noLabel := (ohLabel oh).isNone } else b.epochIn (ohByte oh 4)

/-- MFI and AIS are judged, and the fields of the group are shown. -/
def State.overheadJudged (s : State) (sc : Nat) (oh : List Nat) : State :=
  ((s.judgeMfi sc (some (ohByte oh 0 % 64))).judgeAis sc (bit (ohByte oh 3) 7)).groupFields sc oh

/-- KEY_EPOCH that comes with a later frame reaches the stream that the subcarrier drives. -/
def State.epochTaken (s : State) (sc epoch : Nat) (late : Bool) : State :=
  match late, s.drives sc with
  | true, some (st, _) => s.lateEpoch st epoch
  | _, _ => s

/-- The label may make the subcarrier the control subcarrier. -/
def State.ctrlTaken (s : State) (sc : Nat) (label : Option (Nat × Nat)) : State :=
  if label.isSome && s.ctrlSc != sc && s.ctrlFound sc then (s.moveCtrl sc).ltEdge ((s.subOf sc).edge : Int) true else s

/-- The label of the control subcarrier reaches line time. -/
def State.labelTaken (s : State) (sc : Nat) (label : Option (Nat × Nat)) : State :=
  match label with
  | some l => if sc == s.ctrlSc then s.ltLabel l.1 l.2 else s
  | none => s

/-- The frame of an aligned subcarrier begins for its stream. -/
def State.frameTaken (s : State) (sc : Nat) (oh : List Nat) : State :=
  if s.aligned sc then s.frameStart sc (ohByte oh 0 % 64) (some (ohWord oh 16)) else s

theorem State.overheadFields_eq (s : State) (sc : Nat) (oh : List Nat) : s.overheadFields sc oh =
    (((((s.overheadJudged sc oh).mapSub sc (Sub.withFields oh)).epochTaken sc (ohByte oh 4)
      (ohByte oh 0 % 64 != 0 && !((s.overheadJudged sc oh).subOf sc).epochSet)).ctrlTaken sc (ohLabel oh)).labelTaken sc (ohLabel oh)).frameTaken
        sc oh := rfl

@[simp] theorem Sub.withFields_prof (oh : List Nat) (b : Sub) : (b.withFields oh).prof = ohByte oh 2 % 32 := by
  unfold Sub.withFields Sub.newMf Sub.epochIn
  dsimp only
  split
  · rfl
  · split <;> rfl

@[simp] theorem Sub.withFields_scid (oh : List Nat) (b : Sub) : (b.withFields oh).scid = ohByte oh 1 % 32 := by
  unfold Sub.withFields Sub.newMf Sub.epochIn
  dsimp only
  split
  · rfl
  · split <;> rfl

section
variable {s : State} {sc : Nat} (w : s.wf = true)
include w

theorem State.epochTaken_kept (epoch : Nat) (late : Bool) : OverheadKept sc s (s.epochTaken sc epoch late) := by
  unfold State.epochTaken
  split
  · exact .of_does w (State.lateEpoch_does _ epoch (Nat.or_self _) (.refl _ s)) (.of_subs (s.lateEpoch_subs _ epoch))
  · exact .refl w

/-- Only a subcarrier in frame becomes the control subcarrier. -/
theorem State.ctrlTaken_kept (label : Option (Nat × Nat)) (hf : s.inFrame sc = true) : OverheadKept sc s (s.ctrlTaken sc label) := by
  unfold State.ctrlTaken
  split
  · have hm := State.moveCtrl_kept w hf
    exact hm.trans (State.ltEdge_kept hm.wf _ true)
  · exact .refl w

theorem State.labelTaken_kept (label : Option (Nat × Nat)) : OverheadKept sc s (s.labelTaken sc label) := by
  unfold State.labelTaken
  split
  · next l =>
    split
    · refine .of_does w (State.ltLabel_does l.1 l.2 (Nat.or_self _) (.refl _ s)) (.of_subs ?_)
      exact congrArg Rx.subs ((State.ltLabel_does l.1 l.2 (Nat.or_self _) (.refl _ s)).rx_eq (by decide))
    · exact .refl w
  · exact .refl w

theorem State.frameTaken_kept (oh : List Nat) : OverheadKept sc s (s.frameTaken sc oh) := by
  unfold State.frameTaken
  split
  · have hsub := s.frameStart_sub sc (ohByte oh 0 % 64) (some (ohWord oh 16))
    exact .of_does w (State.frameStart_does sc _ _ (Nat.or_self _) (.refl _ s)) ⟨by rw [hsub], by rw [hsub]⟩
  · exact .refl w

theorem State.showTraces_kept : OverheadKept sc s (s.showTraces sc) := by
  have hd := State.showTraces_does sc (Nat.or_self _) (.refl _ s)
  exact .of_does w hd (.of_subs (congrArg Rx.subs (hd.rx_eq (by decide))))

/-- The group fields of the block are shown. -/
theorem State.groupFields_shows (oh : List Nat) : (s.groupFields sc oh).rd FRM_SC_CG_SIZE sc = ohByte oh 22 % 2 ^ 8
    ∧ (s.groupFields sc oh).rd FRM_SC_KEY_EPOCH sc = ohByte oh 4 % 2 ^ 8 := by
  have w1 := State.wr_wf FRM_SC_CG_SIZE (ohByte oh 22) sc w
  have w2 := State.wr_wf FRM_SC_KEY_EPOCH (ohByte oh 4) sc w1
  have hsize := (State.rd_wr_fld (g := FRM_SC_CG_SIZE) (f := FRM_SC_KEY_EPOCH) (ohByte oh 4) sc sc w1).trans
    (State.rd_wr_same FRM_SC_CG_SIZE (ohByte oh 22) sc w)
  have hepoch := State.rd_wr_same FRM_SC_KEY_EPOCH (ohByte oh 4) sc w1
  unfold State.groupFields
  dsimp only
  split
  · exact ⟨hsize, hepoch⟩
  · have w3 := State.wr_wf FRM_SC_CG (ohByte oh 20) sc w2
    exact ⟨(State.rd_wr_fld _ _ _ w3).trans ((State.rd_wr_fld _ _ _ w2).trans hsize),
      (State.rd_wr_fld _ _ _ w3).trans ((State.rd_wr_fld _ _ _ w2).trans hepoch)⟩

/-- Once MFI, AIS and group fields are judged, the frame is as it was, and alignment as the MFI left it. -/
theorem State.overheadJudged_frame (oh : List Nat) : (s.overheadJudged sc oh).wf = true ∧ (s.overheadJudged sc oh).inFrame sc = s.inFrame sc
    ∧ (s.overheadJudged sc oh).aligned sc = (s.judgeMfi sc (some (ohByte oh 0 % 64))).aligned sc := by
  have hmfi := State.judgeMfi_does sc (some (ohByte oh 0 % 64)) (Nat.or_self _) (.refl _ s)
  have hais := State.judgeAis_does sc (bit (ohByte oh 3) 7) (Nat.or_self _) (.refl _ (s.judgeMfi sc (some (ohByte oh 0 % 64))))
  have hgroup := State.groupFields_does sc oh (Nat.or_self _) (.refl _ ((s.judgeMfi sc (some (ohByte oh 0 % 64))).judgeAis sc (bit (ohByte oh 3) 7)))
  have w1 := hmfi.wf w
  have w2 := hais.wf w1
  refine ⟨hgroup.wf w2, congrArg (· != 0) ?_, congrArg (· != 0) ?_⟩
  · exact (hgroup.rd w2 sc (by decide)).trans ((hais.rd w1 sc (by decide)).trans (hmfi.rd w sc (by decide)))
  · exact (hgroup.rd w2 sc (by decide)).trans (hais.rd w1 sc (by decide))

theorem State.overheadJudged_shows (oh : List Nat) : (s.overheadJudged sc oh).rd FRM_SC_CG_SIZE sc = ohByte oh 22 % 2 ^ 8
    ∧ (s.overheadJudged sc oh).rd FRM_SC_KEY_EPOCH sc = ohByte oh 4 % 2 ^ 8 := by
  have hmfi := State.judgeMfi_does sc (some (ohByte oh 0 % 64)) (Nat.or_self _) (.refl _ s)
  exact State.groupFields_shows ((State.judgeAis_does sc (bit (ohByte oh 3) 7) (Nat.or_self _) (.refl _ _)).wf (hmfi.wf w)) oh

/-- What the block is used for after its fields are shown leaves them. -/
theorem State.overheadFields_kept (oh : List Nat) (hf : s.inFrame sc = true) :
    OverheadKept sc ((s.overheadJudged sc oh).mapSub sc (Sub.withFields oh)) ((s.overheadFields sc oh).showTraces sc) := by
  obtain ⟨wj, hframe, -⟩ := State.overheadJudged_frame (sc := sc) w oh
  have w1 : ((s.overheadJudged sc oh).mapSub sc (Sub.withFields oh)).wf = true := wj
  have hf1 : ((s.overheadJudged sc oh).mapSub sc (Sub.withFields oh)).inFrame sc = true := hframe.trans hf
  rw [State.overheadFields_eq]
  have hepoch := State.epochTaken_kept (sc := sc) w1 (ohByte oh 4) (ohByte oh 0 % 64 != 0 && !((s.overheadJudged sc oh).subOf sc).epochSet)
  have hctrl := hepoch.trans (State.ctrlTaken_kept hepoch.wf (ohLabel oh) (hepoch.inFrame.trans hf1))
  have hlabel := hctrl.trans (State.labelTaken_kept hctrl.wf (ohLabel oh))
  have hstart := hlabel.trans (State.frameTaken_kept hlabel.wf oh)
  exact hstart.trans (State.showTraces_kept hstart.wf)

end

/-- Scrambled bytes are bytes. -/
theorem ohByte_scrambled (seed k : Nat) (bs : List Nat) : ohByte (scrambleBytes seed bs) k = (scrambleBytes seed bs).getD k 0 := by
  refine Nat.mod_eq_of_lt ?_
  rw [List.getD_eq_getElem?_getD, scrambleBytes, bytesBE, List.getElem?_map]
  cases (List.range bs.length)[k]? with
  | none => exact Nat.zero_lt_succ 255
  | some i => exact Nat.mod_lt _ (by decide)

/-- A decoded overhead block of another subcarrier than the control subcarrier shows its fields, and aligns the subcarrier that seeks alignment
when its MFI follows the last (R92, R94, R99). -/
theorem overheadBlock_decoded {s : State} {sc mfi : Nat} {oh b : List Nat} (w : s.wf = true) (hsc : sc < 32) (hf : s.inFrame sc = true)
    (hg : s.mode ≠ .graze) (hb : b = scrambleBytes (scrSeed false sc mfi 0) oh) : Completes (.overheadBlock sc mfi (some oh)) s fun t =>
      t.rd FRM_SC_CG_SIZE sc = b.getD 22 0 ∧ t.rd FRM_SC_KEY_EPOCH sc = b.getD 4 0
      ∧ (t.subOf sc).prof = b.getD 2 0 % 32 ∧ (t.subOf sc).scid = b.getD 1 0 % 32
      ∧ (s.aligned sc = false → t.aligned sc = ((s.subOf sc).mfi.any fun l => b.getD 0 0 % 64 == (l + 1) % 64))
      ∧ (s.aligned sc = true → (s.subOf sc).bad < 2 → t.aligned sc = true) := by
  have hbyte (k : Nat) : ohByte b k = b.getD k 0 := by rw [hb]; exact ohByte_scrambled _ k oh
  have hlt (k : Nat) : b.getD k 0 % 2 ^ 8 = b.getD k 0 := by rw [← hbyte k]; exact Nat.mod_mod _ _
  have he : overheadBlock sc mfi (some oh) s = (s.overheadFields sc b).showTraces sc := by
    simp only [overheadBlock, overheadBlock_heard hsc hf hg, Bool.false_eq_true, if_false, hb]
  obtain ⟨-, -, halign⟩ := State.overheadJudged_frame (sc := sc) w b
  obtain ⟨hsize, hepoch⟩ := State.overheadJudged_shows (sc := sc) w b
  have hkept := State.overheadFields_kept w b hf
  have haligned : ((s.overheadFields sc b).showTraces sc).aligned sc = _ := hkept.aligned.trans halign
  rw [hbyte] at hsize hepoch haligned
  refine completes_of rfl he ⟨?_, ?_, ?_, ?_, fun ha => ?_, fun ha hbad => ?_⟩
  · exact (hkept.shown FRM_SC_CG_SIZE (by simp [shownFields])).trans (hsize.trans (hlt 22))
  · exact (hkept.shown FRM_SC_KEY_EPOCH (by simp [shownFields])).trans (hepoch.trans (hlt 4))
  · rw [hkept.prof, State.subOf_mapSub, Sub.withFields_prof, hbyte]
  · rw [hkept.scid, State.subOf_mapSub, Sub.withFields_scid, hbyte]
  · exact haligned.trans (State.judgeMfi_seeks _ w ha)
  · exact haligned.trans (State.judgeMfi_aligned _ ha hbad)

end Sys2Proof.Machine

namespace Sys2Proof
open Sys2Proof.Machine

/-- Settles O28: counts, overhead fields and units, each by the rule of the command that brings it. -/
theorem streamsRead : Obligations.StreamsRead := by
  unfold Obligations.StreamsRead
  refine ⟨fun sc idx corr info s w hsc ha hf hr => blockDecoded_good w hsc ha hf hr,
    fun sc idx corr info s w hsc ha hf hr => blockDecoded_uncorr w hsc ha hf hr,
    fun sc idx corr sf mf info uncorr s w hsc ha hne hf hal hr hlabel hidx hlen _ => blockDecoded_kept w hsc ha hne hf hal hr hlabel hidx hlen,
    fun sc mfi s w hsc hf hg ha hb => overheadBlock_uncorr w hsc hf hg ha hb mfi,
    fun sc mfi oh b s w hsc hf hg _ _ _ hb => overheadBlock_decoded w hsc hf hg hb,
    fun st p x s _ hst hp hptr hbehind he hn hfree hbytes hw hin _ hx hz =>
      delineateUnit_zeros ⟨hst, hp, hptr, hfree⟩ hbehind he hn hbytes hw hin hx hz,
    fun st p data err s w hst hp hptr hfree hd hz ht => delineateUnit_noTag w ⟨hst, hp, hptr, hfree⟩ hd hz ht,
    fun st p data err s w hst hp hptr hbehind hfree hd hu ht hz hl => delineateUnit_unit w ⟨hst, hp, hptr, hfree⟩ hbehind hd hu ht hz hl⟩

end Sys2Proof
end

section
namespace Sys2Proof.Machine

/-! A record that is taken (R103, R104): the place moves past it, and its own use follows -/

/-- Record `r` stands at the parser's place `p` with a good header, and ends within the multiframe; no FIRST_UNIT is still to be met, and it is
not the first record of the multiframe. -/
structure RecordAt (s : State) (r : Rec) (p : Nat) : Prop where
  parser : s.parserOn = true
  head : recHeadOk r = true
  first : s.rx.first = false
  ptr : (s.chain ctlStream).ptr = none
  place : (s.chain ctlStream).place = some p
  fits : recEnd p r ≤ s.ctlBytes

theorem State.takesRecord_at {s : State} {ty : Nat} {r : Rec} (h : s.takesRecord ty r = true) : recType r = ty ∧ ∃ p, RecordAt s r p := by
  simp only [State.takesRecord, Bool.and_eq_true, beq_iff_eq, Bool.not_eq_true', Option.isNone_iff_eq_none] at h
  obtain ⟨⟨⟨⟨⟨hparser, htype⟩, hhead⟩, hfirst⟩, hptr⟩, hplace⟩ := h
  split at hplace
  · cases hplace
  · next p hp => exact ⟨htype, p, hparser, hhead, hfirst, hptr, hp, by simpa using hplace⟩

/-- The state in which a record at place `p` is used: the place has moved past it. -/
def State.pastPlace (s : State) (r : Rec) (p : Nat) : State := s.mapChain ctlStream fun x => { x with place := some (recEnd p r) }

/-- The record has been met: the next one of the multiframe is not its first. -/
def State.notFirst (s : State) : State := { s with rx := { s.rx with first := false } }

theorem State.notFirst_rx (s : State) : s.notFirst.rx = { s.rx with first := false } := rfl

/-- What the use of a record may change: the copies `cs` of register fields and the receiver, but neither the place nor the mark of the first
record. -/
structure Uses (cs : List Touch) (a u : State) : Prop where
  only : Only cs { a with rx := u.rx } u
  chains : u.rx.chains = a.rx.chains
  first : u.rx.first = a.rx.first

/-- A use that leaves the receiver alone. -/
theorem Only.uses {cs : List Touch} {a u : State} (h : Only cs a u) : Uses cs a u :=
  ⟨by rw [h.rx_eq]; exact h, congrArg Rx.chains h.rx_eq, congrArg Rx.first h.rx_eq⟩

/-- A use goes on with what else the receiver keeps. -/
theorem Uses.with_rx {cs : List Touch} {a u : State} (h : Uses cs a u) {x : Rx} (hc : x.chains = u.rx.chains) (hf : x.first = u.rx.first) :
    Uses cs a { u with rx := x } :=
  ⟨h.only.rx_both x, hc.trans h.chains, hf.trans h.first⟩

theorem Uses.trans {cs : List Touch} {a u v : State} (h : Uses cs a u) (k : Uses cs u v) : Uses cs a v :=
  ⟨(h.only.rx_both v.rx).trans k.only, k.chains.trans h.chains, k.first.trans h.first⟩

theorem Uses.mono {cs ds : List Touch} {a u : State} (h : Uses cs a u) (hs : cs ⊆ ds) : Uses ds a u := ⟨h.only.mono hs, h.chains, h.first⟩

section
variable {s : State} {r : Rec} {p : Nat} (h : RecordAt s r p)
include h

/-- A record of an accepted type that is in its place is used there. -/
theorem RecordAt.record {is : Nat → Bool} (ht : is (recType r) = true) (f : State → State) :
    s.record is r f = (f (s.pastPlace r p)).recMet false := by
  have hend := h.fits
  have hfit : ¬ s.ctlBytes ≤ p := by
    unfold recEnd at hend
    omega
  have hmeet : s.meetPtr = s := by simp only [State.meetPtr, h.place, h.ptr]
  simp only [State.record, h.parser, ht, hmeet, h.place, hfit, h.head, Nat.not_lt.mpr hend, Bool.not_true, Bool.or_self, Bool.false_eq_true, if_false]
  rfl

/-- One that is addressed to the terminal and whole is used by its own rule. -/
theorem RecordAt.recFor {ty : Nat} (ht : recType r = ty) (ha : s.addressed (recTid r) = true) (hb : recBodyOk r = true) (f : State → State) :
    s.recFor ty r f = (f (s.pastPlace r p)).recMet false := by
  have haddr : (s.pastPlace r p).addressed (recTid r) = true := ha
  rw [State.recFor, h.record (by simpa using ht)]
  simp only [haddr, hb, Bool.not_true, Bool.false_eq_true, if_false]

variable {cs : List Touch} {u : State}

theorem RecordAt.notFirst_place (hc : u.rx.chains = (s.pastPlace r p).rx.chains) : PastRecord r s u.notFirst := by
  have hchain : u.notFirst.chain ctlStream = (s.pastPlace r p).chain ctlStream := State.chain_congr hc ctlStream
  rw [PastRecord, hchain, h.place, State.pastPlace, State.chain_mapChain]
  rfl

/-- A command whose meaning is a use of the record leaves the place past it and only the copies of its use changed. -/
theorem RecordAt.completes {c : Instr} {t : State} {P : State → Prop} (hu : Uses cs (s.pastPlace r p) u) (he : exec c s = .next t)
    (ht : t = u.recMet false) (hP : P u.notFirst) : Completes c s fun t => PastRecord r s t ∧ Only cs { s with rx := t.rx } t ∧ P t :=
  completes_of he (ht.trans (State.recMet_quiet (hu.first.trans h.first))) ⟨h.notFirst_place hu.chains, hu.only.rx_both _, hP⟩

end

/-- The control stream whose place is lost. -/
theorem State.losePlace_ctl (s : State) : ((s.losePlace ctlStream).chain ctlStream).place = none
    ∧ (s.losePlace ctlStream).rx.first = s.rx.first := by
  have hc : (s.losePlace ctlStream).chain ctlStream
      = (s.mapChain ctlStream fun c => { c with place := none, ptr := none, behind := false }).chain ctlStream := State.chain_congr rfl ctlStream
  refine ⟨?_, rfl⟩
  rw [hc, State.chain_mapChain]

/-! Records that only count (R104, R105) -/

section
variable {s : State} (w : s.wf = true)
include w

/-- A count of a field, and nothing else. -/
theorem State.inc_only (f : Fld) (n i : Nat) : Only [f.one i] s (s.inc f n i) := (Only.refl _ s).wr_mem _ w (List.mem_singleton_self _)

theorem State.recOk_only : Only [FRM_REC_OK.one] s s.recOk := State.perf_only 8 0 1 (State.inc_only w FRM_REC_OK 1 0) (State.wr_wf _ _ _ w)

theorem State.recOk_count : s.recOk.rd FRM_REC_OK = (s.rd FRM_REC_OK + 1) % 2 ^ 32 :=
  (State.rd_perf 8 0 1 0 (State.wr_wf _ _ _ w)).trans (State.rd_wr_same FRM_REC_OK _ 0 w)

variable {r : Rec}

theorem fillRecord_counts (ht : s.takesRecord 0 r = true) (ha : s.addressed (recTid r) = true) (hb : recBodyOk r = true) :
    Completes (.fillRecord r) s fun t => PastRecord r s t
      ∧ Only [FRM_REC_OK.one] { s with rx := t.rx } t ∧ t.rd FRM_REC_OK = (s.rd FRM_REC_OK + 1) % 2 ^ 32 := by
  obtain ⟨hty, p, h⟩ := State.takesRecord_at ht
  have wp : (s.pastPlace r p).wf = true := w
  exact h.completes (State.recOk_only wp).uses rfl (h.recFor hty ha hb State.recOk) (State.recOk_count wp)

theorem reservedRecord_counts {ty : Nat} (hr : 7 ≤ ty) (ht : s.takesRecord ty r = true) : Completes (.reservedRecord r) s fun t =>
      PastRecord r s t ∧ Only [FRM_REC_UNKNOWN.one] { s with rx := t.rx } t ∧ t.rd FRM_REC_UNKNOWN = (s.rd FRM_REC_UNKNOWN + 1) % 2 ^ 32 := by
  obtain ⟨hty, p, h⟩ := State.takesRecord_at ht
  have wp : (s.pastPlace r p).wf = true := w
  exact h.completes (State.inc_only wp FRM_REC_UNKNOWN 1 0).uses rfl (h.record (decide_eq_true (hty ▸ hr)) fun t => t.inc FRM_REC_UNKNOWN)
    (State.rd_wr_same FRM_REC_UNKNOWN _ 0 wp)

theorem recordHeaderError_resyncs (hon : s.parserOn = true) (hp : s.parsing = true) (hf : s.rx.first = false) (hh : recHeadOk r = false) :
    Completes (.recordHeaderError r) s fun t =>
      Only [FRM_RESYNC.one] { s with rx := t.rx } t ∧ (t.chain ctlStream).place = none ∧ t.rd FRM_RESYNC = (s.rd FRM_RESYNC + 1) % 2 ^ 32 := by
  have hlost := State.losePlace_does ctlStream (Nat.or_self _) (.refl _ s)
  have wl := hlost.wf w
  obtain ⟨hplace, hfirst⟩ := State.losePlace_ctl s
  have he : recordHeaderError r s = s.badHeader := by simp [recordHeaderError, hon, hp, hh]
  have hmet : s.badHeader = ((s.losePlace ctlStream).inc FRM_RESYNC).notFirst := State.recMet_quiet (hfirst.trans hf)
  refine completes_of rfl (he.trans hmet) ⟨?_, (congrArg Chain.place (State.chain_congr rfl ctlStream)).trans hplace, ?_⟩
  · exact ((State.losePlace_only _ s ctlStream).rx_both _).trans ((State.inc_only wl FRM_RESYNC 1 0).rx_both _)
  · exact (State.rd_wr_same FRM_RESYNC _ 0 wl).trans (congrArg (fun v => (v + 1) % 2 ^ 32) (hlost.rd w 0 (by decide)))

end

end Sys2Proof.Machine
end

section
namespace Sys2Proof.Machine

/-! Tables held for their boundary (R106) -/

/-- The boundary that the first word of a table names: the start of its multiframe that lies nearest to now. -/
def State.namedBoundary (s : State) (w : Nat) : Nat := (resolveG s.now 0 (bits w 31 28 * sfTicks + bits w 27 21 * mfTicks)).toNat

theorem State.tableBoundary_named (s : State) {w : Nat} (h : bits w 27 21 ≤ 124) : s.tableBoundary w = some (s.namedBoundary w) :=
  if_neg (Nat.not_lt.mpr h)

section
variable {s : State} {b : List Nat} (hm : bits (recWord b 0) 27 21 ≤ 124) (keep : Nat → State → State)
include hm

theorem State.table_late (h : s.namedBoundary (recWord b 0) ≤ s.mfEnd) : s.table b true keep = (s.inc FRM_TBL_LATE).raise 8 10 := by
  simp only [State.table, State.tableBoundary_named s hm, h, Bool.not_true, Bool.false_eq_true, if_false, if_true]

theorem State.table_kept (h : s.mfEnd < s.namedBoundary (recWord b 0)) : s.table b true keep = (keep (s.namedBoundary (recWord b 0)) s).recOk := by
  simp only [State.table, State.tableBoundary_named s hm, Nat.not_le.mpr h, Bool.not_true, Bool.false_eq_true, if_false]

end

/-- A table kept in the receiver `x` counts in FRM_REC_OK. -/
theorem State.keep_uses {s : State} (w : s.wf = true) {x : Rx} (hc : x.chains = s.rx.chains) (hf : x.first = s.rx.first) :
    Uses [FRM_REC_OK.one] s ({ s with rx := x } : State).recOk :=
  ((Only.refl _ s).uses.with_rx hc hf).trans (State.recOk_only (s := { s with rx := x }) w).uses

theorem State.recOk_rx (s : State) : s.recOk.rx = s.rx := State.perf_rx _ _ _ _

theorem recBodyOk_length {r : Rec} (h : recBodyOk r = true) : r.body.length = recLen r := by
  simp only [recBodyOk, Bool.and_eq_true, beq_iff_eq] at h
  obtain ⟨⟨hlen, -⟩, -⟩ := h
  exact hlen

/-- A profile table is held with the rest of the receiver as it is. -/
def State.keepProf (r : Rec) (b : Nat) (u : State) : State := { u with rx := { u.rx with pendProf := some (b, (r.body.drop 4).take 32) } }

theorem profileTable_eq (r : Rec) (s : State) : profileTable r s = s.recFor 2 r fun t =>
    t.table r.body (r.body.length == 36) (State.keepProf r) := rfl

theorem profileTable_judged {s : State} {r : Rec} (w : s.wf = true) (ht : s.takesRecord 2 r = true) (hl : recLen r = 36)
    (ha : s.addressed (recTid r) = true) (hb : recBodyOk r = true) (hm : bits (recWord r.body 0) 27 21 ≤ 124) :
    Completes (.profileTable r) s fun t => PastRecord r s t
      ∧ Only [FRM_REC_OK.one, FRM_TBL_LATE.one] { s with rx := t.rx } t ∧ t.rx.prof = s.rx.prof
      ∧ (if s.namedBoundary (recWord r.body 0) ≤ s.mfEnd then
          t.rx.pendProf = s.rx.pendProf ∧ t.rd FRM_TBL_LATE = (s.rd FRM_TBL_LATE + 1) % 2 ^ 32 ∧ t.rd FRM_REC_OK = s.rd FRM_REC_OK
        else t.rd FRM_REC_OK = (s.rd FRM_REC_OK + 1) % 2 ^ 32
          ∧ t.rx.pendProf = some (s.namedBoundary (recWord r.body 0), r.body.drop 4)) := by
  obtain ⟨hty, p, h⟩ := State.takesRecord_at ht
  have wp : (s.pastPlace r p).wf = true := w
  have hlen : r.body.length = 36 := (recBodyOk_length hb).trans hl
  have he := (profileTable_eq r s).trans (h.recFor hty ha hb _)
  rw [hlen] at he
  by_cases hlate : s.namedBoundary (recWord r.body 0) ≤ s.mfEnd
  · have wi := State.wr_wf FRM_TBL_LATE ((s.pastPlace r p).rd FRM_TBL_LATE + 1) 0 wp
    have hu : Only [FRM_TBL_LATE.one] (s.pastPlace r p) (((s.pastPlace r p).inc FRM_TBL_LATE).raise 8 10) :=
      State.raise_only 8 10 (State.inc_only wp FRM_TBL_LATE 1 0) wi
    refine h.completes (hu.uses.mono (by simp)) rfl (he.trans (congrArg (State.recMet · false) (State.table_late hm _ hlate))) ?_
    rw [if_pos hlate, State.notFirst_rx, hu.rx_eq]
    refine ⟨rfl, rfl, ?_, hu.rd_fld (f := FRM_REC_OK) 0 (by decide)⟩
    exact (State.rd_raise 8 10 0 wi).trans (State.rd_wr_same FRM_TBL_LATE _ 0 wp)
  · have hkeep : Uses [FRM_REC_OK.one] (s.pastPlace r p) (State.keepProf r (s.namedBoundary (recWord r.body 0)) (s.pastPlace r p)).recOk :=
      State.keep_uses wp rfl rfl
    refine h.completes (hkeep.mono (by simp)) rfl
      (he.trans (congrArg (State.recMet · false) (State.table_kept hm _ (Nat.not_le.mp hlate)))) ?_
    have htake : (r.body.drop 4).take 32 = r.body.drop 4 := List.take_of_length_le (by rw [List.length_drop, hlen])
    rw [if_neg hlate, State.notFirst_rx, State.recOk_rx, State.keepProf, htake]
    exact ⟨rfl, State.recOk_count wp, rfl⟩

/-! The map of an ALLOC_MAP (R5, R106) -/

theorem bit_eq_testBit (v i : Nat) : bit v i = v.testBit i := Nat.testBit_eq_decide_div_mod_eq.symm

theorem bit_or (a b i : Nat) : bit (a ||| b) i = (bit a i || bit b i) := by simp only [bit_eq_testBit, Nat.testBit_or]

/-- The subcarriers of an entry's second word: bits 31 to 16 are the low half. -/
def entryMask (lo : Nat) : Nat := bits lo 31 16 + bits lo 15 0 * 2 ^ 16

section
variable {k : Nat} (hk : k < 16) (lo : Nat)
include hk

theorem bit_entryMask_low : bit (entryMask lo) k = bit lo (16 + k) := by
  have hlt : bits lo 31 16 < 2 ^ 16 := Nat.mod_lt _ (by decide)
  rw [entryMask, Nat.add_comm, Nat.mul_comm, bit_eq_testBit, Nat.testBit_two_pow_mul_add _ hlt, if_pos hk, bits, Nat.testBit_mod_two_pow,
    Nat.testBit_div_two_pow, bit_eq_testBit, Nat.add_comm 16 k, decide_eq_true hk, Bool.true_and]

theorem bit_entryMask_high : bit (entryMask lo) (16 + k) = bit lo k := by
  have hlt : bits lo 31 16 < 2 ^ 16 := Nat.mod_lt _ (by decide)
  rw [entryMask, Nat.add_comm (bits lo 31 16), Nat.mul_comm, bit_eq_testBit, Nat.testBit_two_pow_mul_add _ hlt, if_neg (by omega),
    Nat.add_sub_cancel_left, bits, Nat.testBit_mod_two_pow, Nat.testBit_div_two_pow, bit_eq_testBit, decide_eq_true hk, Bool.true_and]
  rfl

end

/-- The entries of a TID are combined by OR. -/
theorem bit_mapOf (es : List (Nat × Nat)) (m : List (Nat × Nat)) (tid k : Nat) : bit (amGetD 0 (mapOf m es) tid) k
    = (bit (amGetD 0 m tid) k || es.any fun e => e.1 / 2 ^ 14 == tid && bit (entryMask e.2) k) := by
  induction es generalizing m with
  | nil => simp [mapOf]
  | cons e es ih =>
    rw [mapOf, ih, List.any_cons, ← Bool.or_assoc]
    congr 1
    by_cases h : tid = e.1 / 2 ^ 14
    · simp [amGetD, amGet?_amSet_same, bit_or, entryMask, h]
    · have he : (e.1 / 2 ^ 14 == tid) = false := beq_false_of_ne (Ne.symm h)
      rw [he, Bool.false_and, Bool.or_false, amGetD, amGet?_amSet_ne _ _ h, amGetD]

/-- The entries of a body of `n` of them. -/
def mapEntries (b : List Nat) (n : Nat) : List (Nat × Nat) := (List.range n).map fun i => (recWord b (4 + 8 * i), recWord b (8 + 8 * i))

theorem bit_mapEntries (b : List Nat) (n tid k : Nat) : bit (amGetD 0 (mapOf [] (mapEntries b n)) tid) k
    = (List.range n).any fun i => recWord b (4 + 8 * i) / 2 ^ 14 == tid && bit (entryMask (recWord b (8 + 8 * i))) k := by
  have h0 : bit (amGetD 0 [] tid) k = false := by simp [amGetD, amGet?, bit]
  rw [bit_mapOf, h0, Bool.false_or, mapEntries, List.any_map]
  rfl

/-- A map is held with the rest of the receiver as it is. -/
def State.keepMap (es : List (Nat × Nat)) (b : Nat) (u : State) : State := { u with rx := { u.rx with pendMap := some (b, mapOf [] es) } }

theorem allocMap_eq (r : Rec) (s : State) : allocMap r s = s.recFor 3 r fun t =>
    t.table r.body (decide (4 ≤ r.body.length) && (r.body.length - 4) % 8 == 0) (State.keepMap (mapEntries r.body ((r.body.length - 4) / 8))) := rfl

theorem allocMap_held {s : State} {r : Rec} {n : Nat} (w : s.wf = true) (ht : s.takesRecord 3 r = true) (hl : r.body.length = 4 + 8 * n)
    (ha : s.addressed (recTid r) = true) (hb : recBodyOk r = true) (hm : bits (recWord r.body 0) 27 21 ≤ 124)
    (hlate : s.mfEnd < s.namedBoundary (recWord r.body 0)) :
    Completes (.allocMap r) s fun t => PastRecord r s t ∧ Only [FRM_REC_OK.one] { s with rx := t.rx } t ∧ t.rx.map = s.rx.map
      ∧ t.rx.pendMap = some (s.namedBoundary (recWord r.body 0), mapOf [] (mapEntries r.body n)) := by
  obtain ⟨hty, p, h⟩ := State.takesRecord_at ht
  have wp : (s.pastPlace r p).wf = true := w
  have hsize : (decide (4 ≤ 4 + 8 * n) && (4 + 8 * n - 4) % 8 == 0) = true := by simp
  have hn : (4 + 8 * n - 4) / 8 = n := by omega
  have he := (allocMap_eq r s).trans (h.recFor hty ha hb _)
  rw [hl, hsize, hn] at he
  have hkeep : Uses [FRM_REC_OK.one] (s.pastPlace r p)
      (State.keepMap (mapEntries r.body n) (s.namedBoundary (recWord r.body 0)) (s.pastPlace r p)).recOk := State.keep_uses wp rfl rfl
  refine h.completes hkeep rfl (he.trans (congrArg (State.recMet · false) (State.table_kept hm _ hlate))) ?_
  rw [State.notFirst_rx, State.recOk_rx]
  exact ⟨rfl, rfl⟩

end Sys2Proof.Machine
end

section
namespace Sys2Proof.Machine

/-! RDI_LIST (R112) -/

/-- Defects met are all that a condition met adds. -/
theorem State.meet_eq (s : State) (d : Defect) (set : Bool) : s.meet d set = { s with rx := { s.rx with met := (s.meet d set).rx.met } } := by
  unfold State.meet
  split <;> rfl

theorem Uses.meet {cs : List Touch} {a u : State} (h : Uses cs a u) (d : Defect) (set : Bool) : Uses cs a (u.meet d set) := by
  rw [State.meet_eq]
  exact h.with_rx rfl rfl

/-- The counts of lists after one that names the terminal, or one that does not. -/
def Rx.listHeard (x : Rx) (mf : Nat) (named : Bool) : Rx :=
  { x with rdiMf := some mf, rdiOn := if named then min 2 (x.rdiOn + 1) else 0, rdiOff := if named then 0 else min 2 (x.rdiOff + 1) }

/-- Two lists in a row meet a condition of RDI. -/
def State.rdiJudged (s : State) : State := if s.rx.rdiOn == 2 then s.meet .rdi true else if s.rx.rdiOff == 2 then s.meet .rdi false else s

/-- A list is counted and judged. -/
def State.listTaken (s : State) (mf : Nat) (named : Bool) : State := ({ s with rx := s.rx.listHeard mf named } : State).rdiJudged

/-- The body of an RDI_LIST names the terminal. -/
def State.listNames (s : State) (b : List Nat) : Bool := (List.range (b.length / 4)).any fun i => s.ownTid (recWord b (4 * i) % 2 ^ 18)

theorem rdiList_eq (r : Rec) (s : State) : rdiList r s = s.recFor 6 r fun t =>
    if t.recOk.rx.rdiMf == some (t.recOk.carrying / mfTicks) then t.recOk
    else t.recOk.listTaken (t.recOk.carrying / mfTicks) (t.recOk.listNames r.body) := rfl

/-- A terminal with a TID is named by that TID. -/
theorem State.listNames_tid {s : State} (h : s.rd UPB_TID_VALID = 1) (b : List Nat) :
    s.listNames b = (List.range (b.length / 4)).any fun i => recWord b (4 * i) % 2 ^ 18 == s.rd UPB_TID := by
  have hown (tid : Nat) : s.ownTid tid = (tid == s.rd UPB_TID) := by
    rw [State.ownTid, State.on, h, Bool.beq_comm]
    rfl
  simp only [State.listNames, hown]

/-- What a list counts where the two counts stood at `on` and `off`, and that a second one in a row meets its condition. -/
def ListCounted (on off : Nat) (named : Bool) (y : Rx) : Prop :=
  if named then y.rdiOn = min 2 (on + 1) ∧ y.rdiOff = 0 ∧ (1 ≤ on → (.rdi, true) ∈ y.met)
  else y.rdiOff = min 2 (off + 1) ∧ y.rdiOn = 0 ∧ (1 ≤ off → (.rdi, false) ∈ y.met)

theorem State.rdiJudged_eq (s : State) : s.rdiJudged = { s with rx := { s.rx with met := s.rdiJudged.rx.met } } := by
  unfold State.rdiJudged
  split
  · exact s.meet_eq .rdi true
  · split
    · exact s.meet_eq .rdi false
    · rfl

theorem Uses.rdiJudged {cs : List Touch} {a u : State} (h : Uses cs a u) : Uses cs a u.rdiJudged := by
  rw [State.rdiJudged_eq]
  exact h.with_rx rfl rfl

/-- Judging leaves the counts. -/
theorem State.rdiJudged_counts (s : State) : s.rdiJudged.rx.rdiOn = s.rx.rdiOn ∧ s.rdiJudged.rx.rdiOff = s.rx.rdiOff := by
  rw [State.rdiJudged_eq]
  exact ⟨rfl, rfl⟩

theorem State.rdiJudged_on {s : State} (h : s.rx.rdiOn = 2) : (.rdi, true) ∈ s.rdiJudged.rx.met := by
  rw [State.rdiJudged, if_pos (beq_of_eq h)]
  exact State.meet_met _ _ _

theorem State.rdiJudged_off {s : State} (hon : s.rx.rdiOn = 0) (h : s.rx.rdiOff = 2) : (.rdi, false) ∈ s.rdiJudged.rx.met := by
  rw [State.rdiJudged, hon, if_neg (by decide), if_pos (beq_of_eq h)]
  exact State.meet_met _ _ _

theorem Uses.listTaken {cs : List Touch} {a u : State} (h : Uses cs a u) (mf : Nat) (named : Bool) : Uses cs a (u.listTaken mf named) :=
  (h.with_rx (x := u.rx.listHeard mf named) rfl rfl).rdiJudged

theorem State.listTaken_counted (s : State) (mf : Nat) (named : Bool) :
    ListCounted s.rx.rdiOn s.rx.rdiOff named (s.listTaken mf named).rx := by
  obtain ⟨hon, hoff⟩ := State.rdiJudged_counts { s with rx := s.rx.listHeard mf named }
  cases named with
  | true => exact ⟨hon, hoff, fun h1 => State.rdiJudged_on (Nat.min_eq_left (by omega))⟩
  | false => exact ⟨hoff, hon, fun h1 => State.rdiJudged_off rfl (Nat.min_eq_left (by omega))⟩

/-- Taking a list leaves every register as it is. -/
theorem State.listTaken_rd (s : State) (mf : Nat) (named : Bool) (f : Fld) (hf : f.counting = false := by decide) :
    (s.listTaken mf named).rd f = s.rd f :=
  ((Only.refl [] s).uses.listTaken mf named).only.rd_fld 0 (fun _ h => absurd h (List.not_mem_nil)) hf

theorem rdiList_counts {s : State} {r : Rec} (w : s.wf = true) (ht : s.takesRecord 6 r = true) (ha : s.addressed (recTid r) = true)
    (hb : recBodyOk r = true) (hnew : s.rx.rdiMf ≠ some (s.carrying / mfTicks)) (hv : s.rd UPB_TID_VALID = 1) :
    Completes (.rdiList r) s fun t => PastRecord r s t
      ∧ Only [FRM_REC_OK.one] { s with rx := t.rx } t ∧ t.rd FRM_REC_OK = (s.rd FRM_REC_OK + 1) % 2 ^ 32
      ∧ ListCounted s.rx.rdiOn s.rx.rdiOff
          ((List.range (r.body.length / 4)).any fun i => recWord r.body (4 * i) % 2 ^ 18 == s.rd UPB_TID) t.rx := by
  obtain ⟨hty, p, h⟩ := State.takesRecord_at ht
  have wp : (s.pastPlace r p).wf = true := w
  have hok : Uses [FRM_REC_OK.one] (s.pastPlace r p) (s.atRecord r p) := (State.recOk_only wp).uses
  have hrx : (s.atRecord r p).rx = (s.pastPlace r p).rx := State.recOk_rx _
  have hmf : (s.atRecord r p).rx.rdiMf = s.rx.rdiMf := by rw [hrx]; rfl
  have hon : (s.atRecord r p).rx.rdiOn = s.rx.rdiOn := by rw [hrx]; rfl
  have hoff : (s.atRecord r p).rx.rdiOff = s.rx.rdiOff := by rw [hrx]; rfl
  have hnew' : ((s.atRecord r p).rx.rdiMf == some ((s.atRecord r p).carrying / mfTicks)) = false := by
    rw [hmf, State.atRecord_carrying r p w]
    exact beq_false_of_ne hnew
  have hnamed : (s.atRecord r p).listNames r.body = s.listNames r.body := by simp only [State.listNames, State.atRecord_ownTid r p w]
  have he : rdiList r s = ((s.atRecord r p).listTaken ((s.atRecord r p).carrying / mfTicks) ((s.atRecord r p).listNames r.body)).recMet false :=
    ((rdiList_eq r s).trans (h.recFor hty ha hb _)).trans (congrArg (State.recMet · false) (if_neg (ne_true_of_eq_false hnew')))
  have hcounted := (s.atRecord r p).listTaken_counted ((s.atRecord r p).carrying / mfTicks) ((s.atRecord r p).listNames r.body)
  rw [hon, hoff, hnamed] at hcounted
  rw [hnamed] at he
  rw [← State.listNames_tid hv]
  exact h.completes (hok.listTaken _ _) rfl he ⟨(State.listTaken_rd _ _ _ FRM_REC_OK).trans (State.recOk_count wp), hcounted⟩

/-! Conditions of a defect (R112) -/

theorem lofConditionMet_eq {s : State} {sc : Nat} (hsc : sc < 32) (rms : Nat) (top : Bool) :
    defectConditionMet (.lof sc) (!s.inFrame sc) rms top s = (s.advance ((s.subOf sc).since + 3 * msTicks)).meet (.lof sc) (!s.inFrame sc) := by
  simp [defectConditionMet, hsc]

/-- A condition met after line time has gone on. -/
theorem Only.meet_later {cs : List Touch} {s u : State} (h : Only cs { s with time := u.time } u) (d : Defect) (set : Bool) :
    Only cs { s with time := (u.meet d set).time, rx := (u.meet d set).rx } (u.meet d set) := by
  rw [(State.meet_frame u d set).time_eq (by decide)]
  exact (h.rx_both _).trans ((Only.refl cs u).uses.meet d set).only

/-- Where line time and the receiver alone are set aside, a field that is not named reads as before. -/
theorem Only.rd_later {cs : List Touch} {s t : State} {x : LineTime} {y : Rx} (h : Only cs { s with time := x, rx := y } t) {f : Fld} (i : Nat)
    (hn : ∀ e ∈ cs, e.fld.id ≠ f.id) (hf : f.counting = false := by decide) : t.rd f i = s.rd f i := h.rd_fld i hn hf

theorem lofConditionMet_waits {s : State} (w : s.wf = true) {sc : Nat} (hsc : sc < 32) (rms : Nat) (top : Bool) :
    Completes (.defectConditionMet (.lof sc) (!s.inFrame sc) rms top) s fun t =>
      Only [LTM_HOLD_MF.one] { s with time := t.time, rx := t.rx } t ∧ t.now = max s.now ((s.subOf sc).since + 3 * msTicks)
      ∧ (Defect.lof sc, !s.inFrame sc) ∈ t.rx.met ∧ t.rd FRM_DEFECTS = s.rd FRM_DEFECTS := by
  have hall := (State.advance_only ((s.subOf sc).since + 3 * msTicks) w).meet_later (.lof sc) (!s.inFrame sc)
  have hnow := (State.meet_frame (s.advance ((s.subOf sc).since + 3 * msTicks)) (.lof sc) (!s.inFrame sc)).now_eq
  exact completes_of rfl (lofConditionMet_eq hsc rms top) ⟨hall, hnow.trans (State.advance_now s _), State.meet_met _ _ _,
    hall.rd_later (f := FRM_DEFECTS) 0 (by decide)⟩

section
variable {s : State} {c rms : Nat} {top : Bool}

theorem losConditionMet_waits (hc : c < 2) (h : s.pins.sd = false ∨ top = true ∧ rms < s.rd FRM_LOS_LEVEL) :
    Completes (.defectConditionMet (.los c) true rms top) s fun t => t = { s with rx := t.rx } ∧ (Defect.los c, true) ∈ t.rx.met := by
  have hmet : s.losMet rms top = true := by simpa [State.losMet] using h
  have he : defectConditionMet (.los c) true rms top s = s.meet (.los c) true := by simp [defectConditionMet, hc, hmet]
  refine completes_of rfl he ⟨?_, State.meet_met _ _ _⟩
  rw [State.meet_eq]

theorem losConditionMet_unmet (hs : s.pins.sd = true) (h : top = false ∨ s.rd FRM_LOS_LEVEL ≤ rms) :
    Completes (.defectConditionMet (.los c) true rms top) s fun t => t = s := by
  have hmet : s.losMet rms top = false := by simpa [State.losMet, hs, ← Bool.not_eq_true, imp_iff_not_or] using h
  exact completes_of rfl (by simp [defectConditionMet, hmet]) rfl

end

end Sys2Proof.Machine

namespace Sys2Proof
open Sys2Proof.Machine

/-- Settles O29: each record that is taken is used in its place by the rule of its type, a bad header loses the place, and a condition of a
defect that is met is kept for the frame boundary. -/
theorem recordsUsed : Obligations.RecordsUsed := by
  unfold Obligations.RecordsUsed
  refine ⟨fun r s w ht ha hb => fillRecord_counts w ht ha hb,
    fun ty r s w hr ht => reservedRecord_counts w hr ht,
    fun r s w hon hp hf hh => recordHeaderError_resyncs w hon hp hf hh,
    fun r s w ht hl ha hb hm => profileTable_judged w ht hl ha hb hm,
    fun r n s w ht hl ha hb hm hlate => ?_,
    fun r s w ht ha hb hnew hv => rdiList_counts w ht ha hb hnew hv,
    fun sc rms top s w hsc => lofConditionMet_waits w hsc rms top,
    fun c rms top s hc h => losConditionMet_waits hc h,
    fun c rms top s hs h => losConditionMet_unmet hs h⟩
  obtain ⟨t, he, hpast, honly, hmap, hpend⟩ := allocMap_held w ht hl ha hb hm hlate
  refine ⟨t, he, hpast, honly, hmap, congrArg (Option.map Prod.fst) hpend, fun tid k hk => ?_⟩
  simp only [hpend, Option.getD_some, bit_mapEntries, bit_entryMask_low hk, bit_entryMask_high hk, and_self]

end Sys2Proof
end

section
namespace Sys2Proof.Machine

/-! `Only` with a part of the state exchanged on both sides -/

section
variable {cs : List Touch} {s t : State} (h : Only cs s t)
include h

theorem Only.join_both (x : Join) : Only cs { s with join := x } { t with join := x } :=
  ⟨congrArg (fun y : State => { y with join := x }) h.rest, h.rd⟩

theorem Only.pwr_both (x : Power) : Only cs { s with pwr := x } { t with pwr := x } :=
  ⟨congrArg (fun y : State => { y with pwr := x }) h.rest, h.rd⟩

theorem Only.up_both (x : Upstream) : Only cs { s with up := x } { t with up := x } :=
  ⟨congrArg (fun y : State => { y with up := x }) h.rest, h.rd⟩

theorem Only.time_both (x : LineTime) : Only cs { s with time := x } { t with time := x } :=
  ⟨congrArg (fun y : State => { y with time := x }) h.rest, h.rd⟩

theorem Only.join_eq : t.join = s.join := by
  have hr := congrArg State.join h.rest
  exact hr

theorem Only.pwr_eq : t.pwr = s.pwr := by
  have hr := congrArg State.pwr h.rest
  exact hr

theorem Only.up_eq : t.up = s.up := by
  have hr := congrArg State.up h.rest
  exact hr

theorem Only.mode_eq : t.mode = s.mode := by
  have hr := congrArg State.mode h.rest
  exact hr

theorem Only.time_eq : t.time = s.time := by
  have hr := congrArg State.time h.rest
  exact hr

theorem Only.now_eq : t.now = s.now := congrArg LineTime.lt h.time_eq

end

/-! Line time going on keeps what is not line time, and all registers but HOLD_MF -/

section
variable (s : State) (x : Nat)

theorem State.advance_out : (s.advance x).out = s.out := by rw [State.advance_eq]

theorem State.advance_join : (s.advance x).join = s.join := by rw [State.advance_eq]

theorem State.advance_mode : (s.advance x).mode = s.mode := by rw [State.advance_eq]

variable {s} (w : s.wf = true)
include w

theorem State.advance_wf : (s.advance x).wf = true := (State.advance_does x (Nat.or_self _) (.refl _ s)).wf w

theorem State.advance_rd {f : Fld} (i : Nat) (hf : LTM_HOLD_MF.id ≠ f.id := by decide) (hc : f.counting = false := by decide) :
    (s.advance x).rd f i = s.rd f i :=
  (State.advance_only x w).rd_fld i (by simpa [Fld.one] using hf) hc

end

end Sys2Proof.Machine
end

section
namespace Sys2Proof.Machine

/-! A message that is taken is judged in its place, and acts or is held for its boundary (R120, R121) -/

/-- `a` is a state in which the message of record `r`, taken in `s`, is judged: the place has moved past the record, the record counts, and
nothing but the SEQs, the responses and the waiting messages that are kept differs besides. -/
structure JudgedIn (r : Rec) (s a : State) : Prop where
  only : Only [FRM_REC_OK.one] { s with rx := a.rx, join := a.join } a
  past : PastRecord r s a.notFirst
  first : a.rx.first = false
  wf : a.wf = true
  join_eq : a.join = { s.join with kept := a.join.kept, resp := a.join.resp, pend := a.join.pend }

namespace JudgedIn
variable {r : Rec} {s a u v : State} (j : JudgedIn r s a)
include j

/-- Other SEQs, responses and waiting messages are kept. -/
theorem keeps (kept : List (Nat × Nat)) (resp : List (Nat × UMsg)) (pend : List (Nat × (Nat × Bool × Msg))) :
    JudgedIn r s { a with join := { a.join with kept := kept, resp := resp, pend := pend } } :=
  ⟨j.only.join_both _, j.past, j.first, j.wf, by
    have h := congrArg (fun x : Join => { x with kept := kept, resp := resp, pend := pend }) j.join_eq
    exact h⟩

theorem pwr_eq : a.pwr = s.pwr := j.only.pwr_eq

theorem now_eq : a.now = s.now := j.only.now_eq

theorem rd_eq {f : Fld} (i : Nat) (hf : FRM_REC_OK.id ≠ f.id := by decide) (hc : f.counting = false := by decide) : a.rd f i = s.rd f i :=
  j.only.rd_fld i (by simpa [Fld.one] using hf) hc

theorem rd_inc (f : Fld) (hf : FRM_REC_OK.id ≠ f.id := by decide) (hc : f.counting = false := by decide) :
    (a.inc f).rd f = (s.rd f + 1) % 2 ^ f.w := by
  rw [← j.rd_eq 0 hf hc]
  exact State.rd_wr_same f _ 0 j.wf

theorem ownTid_eq (tid : Nat) : a.ownTid tid = s.ownTid tid := by
  rw [State.ownTid, State.on, j.rd_eq 0, j.rd_eq 0]
  rfl

theorem effBoundary_eq (x : Nat) : a.effBoundary x = s.effBoundary x := by rw [State.effBoundary, j.now_eq, State.effBoundary]

theorem pastRecord (hrx : u.rx = a.rx) : PastRecord r s u.notFirst :=
  (congrArg Chain.place (State.chain_congr (congrArg Rx.chains hrx) ctlStream)).trans j.past

/-- A command that leaves the receiver to the record is over once the record is met. -/
theorem completes {c : Instr} {P : State → Prop} (he : exec c s = .next v) (hv : v = u.recMet false) (hrx : u.rx = a.rx)
    (hP : P u.notFirst) : Completes c s P :=
  completes_of he (hv.trans (State.recMet_quiet ((congrArg Rx.first hrx).trans j.first))) hP

end JudgedIn

/-- A message in format has EFF where its code needs it, and not where its code takes none. -/
theorem State.msgFormatOk_eff {s : State} {code : Nat} {m : Msg} (h : s.msgFormatOk code m = true) :
    ((msgRule code).eff = 2 → m.eff = true) ∧ ((msgRule code).eff = 0 → m.eff = false) := by
  simp only [State.msgFormatOk, Bool.and_eq_true] at h
  obtain ⟨⟨⟨⟨-, hallowed⟩, hneeded⟩, -⟩, -⟩ := h
  exact ⟨fun he => by simpa [he] using hneeded, fun he => by simpa [he] using hallowed⟩

section
variable {s : State} {code : Nat} {r : Rec} (h : Taken s code r) (w : s.wf = true)
include h

theorem Taken.recordAt : ∃ p, RecordAt s r p := by
  obtain ⟨p, hp, hend⟩ := h.place
  exact ⟨p, h.parser, h.head, h.first, h.ptr, hp, hend⟩

theorem Taken.format_eff : ((msgRule code).eff = 2 → (msgOf r).eff = true) ∧ ((msgRule code).eff = 0 → (msgOf r).eff = false) :=
  State.msgFormatOk_eff h.format

/-- A message with EFF that is in time names a boundary. -/
theorem Taken.boundary (he : (msgOf r).eff = true) : ∃ b, s.effBoundary (msgOf r).effWord = some b := by
  have hl := h.inTime
  cases hb : s.effBoundary (msgOf r).effWord with
  | some b => exact ⟨b, rfl⟩
  | none => simp [State.msgLate, he, hb] at hl

include w

/-- The message of a record is judged in its place; the judgement finds it in format, new and in time, as the record was taken. -/
theorem Taken.codeRecord (f : Msg → State → State) : ∃ a, JudgedIn r s a ∧ a.msgFormatOk code (msgOf r) = true
    ∧ a.keptIs (s.ownTid (msgOf r).tid) code (msgOf r).seq = false ∧ a.msgLate (msgOf r) = false
    ∧ s.codeRecord code r f = (f (msgOf r) a).recMet false := by
  obtain ⟨p, hp⟩ := h.recordAt
  have hrx : (s.atRecord r p).rx = (s.pastPlace r p).rx := State.recOk_rx _
  have hjoin : (s.atRecord r p).join = s.join := State.atRecord_join s r p
  have hcode : ¬ (decide (recLen r < 8) || (msgOf r).code != code) = true := by simp [h.named, h.len]
  refine ⟨s.atRecord r p, ⟨?_, hp.notFirst_place (congrArg Rx.chains hrx), (congrArg Rx.first hrx).trans h.first, State.atRecord_wf r p w, ?_⟩,
    (State.atRecord_format r p w _ _).trans h.format, (State.atRecord_keptIs r p _ _ _).trans h.fresh,
    (State.atRecord_msgLate r p w _).trans h.inTime, (if_neg hcode).trans (hp.recFor h.type h.addressed h.body _)⟩
  · rw [hjoin]
    exact (State.atRecord_only w p).rx_both _
  · rw [hjoin]

variable (act arm : Msg → Bool → State → State)

/-- A message that acts at once is counted, and acts. -/
theorem Taken.message_acts (he : (msgOf r).eff = false) : ∃ a, JudgedIn r s a
    ∧ s.message code r act arm = (act (msgOf r) (s.ownTid (msgOf r).tid) (a.inc UPB_MSG_OK)).recMet false := by
  obtain ⟨a, ja, hformat, hkept, hlate, heq⟩ := h.codeRecord w fun m t => t.judgeMsg code m (act m) (arm m)
  refine ⟨_, ja.keeps (amSet a.join.kept (keptKey (s.ownTid (msgOf r).tid) code) (msgOf r).seq)
    (amDel a.join.resp (keptKey (s.ownTid (msgOf r).tid) code)) (amDel a.join.pend code), heq.trans (congrArg (State.recMet · false) ?_)⟩
  simp only [State.judgeMsg, hformat, ja.ownTid_eq, hkept, hlate, he, Bool.not_true, Bool.false_eq_true, if_false, State.keep]

/-- A message with a boundary is held for it. -/
theorem Taken.message_held (he : (msgOf r).eff = true) {b : Nat} (hb : s.effBoundary (msgOf r).effWord = some b) : ∃ a, JudgedIn r s a
    ∧ a.keptIs (s.ownTid (msgOf r).tid) code (msgOf r).seq = true
    ∧ s.message code r act arm = (arm (msgOf r) (s.ownTid (msgOf r).tid) a).recMet false := by
  obtain ⟨a, ja, hformat, hkept, hlate, heq⟩ := h.codeRecord w fun m t => t.judgeMsg code m (act m) (arm m)
  refine ⟨_, ja.keeps (amSet a.join.kept (keptKey (s.ownTid (msgOf r).tid) code) (msgOf r).seq)
    (amDel a.join.resp (keptKey (s.ownTid (msgOf r).tid) code)) (amSet a.join.pend code (b, s.ownTid (msgOf r).tid, msgOf r)),
    beq_iff_eq.mpr (amGet?_amSet_same _ _ _), heq.trans (congrArg (State.recMet · false) ?_)⟩
  simp only [State.judgeMsg, hformat, ja.ownTid_eq, hkept, hlate, he, ja.effBoundary_eq, hb, Bool.not_true, Bool.false_eq_true, if_false,
    State.keep]

end

/-! GRAZE_ACK (R139, R408) -/

/-- The request is over. -/
def State.unasked (s : State) : State := { s with pwr := { s.pwr with grazeReq := none } }

/-- The request is granted for boundary `b`, with N and POLL. -/
def State.grazeGranted (s : State) (b n poll : Nat) : State :=
  { s with pwr := { s.pwr with grazeReq := none, grazeAck := some (b, n, poll) } }

/-- No GRAZE_ACK waits for its boundary. -/
def State.noGrazeAck (s : State) : State := { s with join := { s.join with pend := amDel s.join.pend mGrazeAck } }

/-- The request has failed with this value of GRAZE_FAIL. -/
def State.grazeFails (s : State) (v : Nat) : State := (s.unasked.wr PWR_GRAZE_FAIL v).raise 1 3

section
variable {s : State} {m : Msg}

theorem State.actGrazeAck_grants {b : Nat} (hr : s.pwr.grazeReq ≠ none) (h0 : bits (msgWord m 0) 31 30 = 0)
    (hb : s.effBoundary m.effWord = some b) :
    s.actGrazeAck m = s.grazeGranted b (bits (msgWord m 0) 29 19) (bits (msgWord m 0) 18 8) := by
  simp only [State.actGrazeAck, Option.isNone_eq_false_iff.mpr (Option.isSome_iff_ne_none.mpr hr), h0, hb, beq_self_eq_true, Bool.false_eq_true,
    if_false, if_true, State.grazeGranted]

theorem State.actGrazeAck_refuses (hr : s.pwr.grazeReq ≠ none) (h1 : bits (msgWord m 0) 31 30 = 1) :
    s.actGrazeAck m = (s.noGrazeAck.inc UPB_MSG_OK).grazeFails 1 := by
  simp only [State.actGrazeAck, Option.isNone_eq_false_iff.mpr (Option.isSome_iff_ne_none.mpr hr), h1, Bool.false_eq_true, if_false]
  rfl

theorem State.actGrazeAck_unasked (hr : s.pwr.grazeReq = none) : s.actGrazeAck m = s.noGrazeAck.inc UPB_MSG_LATE := by
  simp only [State.actGrazeAck, hr, Option.isNone_none, if_true, State.noGrazeAck]

end

section
variable {s a : State} {cs : List Touch} {v : Nat}

/-- A failed request changes GRAZE_FAIL alone of the registers. -/
theorem State.grazeFails_only (h : Only cs s a) (wa : a.wf = true) (hm : PWR_GRAZE_FAIL.one ∈ cs) :
    Only cs s.unasked (a.grazeFails v) := by
  have ho : Only cs s.unasked a.unasked := by
    rw [State.unasked, ← h.pwr_eq]
    exact h.pwr_both _
  exact State.raise_only 1 3 (ho.wr_mem _ wa hm) (State.wr_wf _ _ _ wa)

theorem State.grazeFails_rd (wa : a.wf = true) {f : Fld} (i : Nat) (hf : PWR_GRAZE_FAIL.id ≠ f.id := by decide)
    (hc : f.counting = false := by decide) : (a.grazeFails v).rd f i = a.rd f i :=
  (State.grazeFails_only (Only.refl [PWR_GRAZE_FAIL.one] a) wa (List.mem_singleton_self _)).rd_fld i (by simpa [Fld.one] using hf) hc

theorem State.grazeFails_shows (wa : a.wf = true) : (a.grazeFails v).rd PWR_GRAZE_FAIL = v % 2 ^ PWR_GRAZE_FAIL.w :=
  (State.rd_raise 1 3 0 (State.wr_wf (s := a.unasked) _ _ _ wa)).trans (State.rd_wr_same (s := a.unasked) PWR_GRAZE_FAIL v 0 wa)

end

theorem grazeAckTimeout_eq {s : State} {q : Nat} (hr : s.pwr.grazeReq = some q) :
    grazeAckTimeout s = (s.advance (q + 200 * msTicks)).grazeFails 2 := by
  simp only [grazeAckTimeout, hr, State.grazeFails, State.unasked]

section
variable {s : State} {r : Rec} (w : s.wf = true)
include w

/-- The request is given up at instant `x`. -/
theorem State.advance_grazeFails (x : Nat) : Only [LTM_HOLD_MF.one, PWR_GRAZE_FAIL.one]
      { s with time := ((s.advance x).grazeFails 2).time, pwr := { s.pwr with grazeReq := none } } ((s.advance x).grazeFails 2)
    ∧ ((s.advance x).grazeFails 2).now = max s.now x ∧ ((s.advance x).grazeFails 2).rd PWR_GRAZE_FAIL = 2 := by
  have wa := State.advance_wf x w
  have hadv := (State.advance_only x w).mono (ds := [LTM_HOLD_MF.one, PWR_GRAZE_FAIL.one]) (by simp)
  have honly := State.grazeFails_only (v := 2) hadv wa (by simp)
  refine ⟨?_, honly.now_eq.trans (State.advance_now s x), State.grazeFails_shows wa⟩
  rw [honly.time_eq]
  exact honly

theorem grazeAckTimeout_fails {q : Nat} (hr : s.pwr.grazeReq = some q) : Completes .grazeAckTimeout s fun t =>
      Only [LTM_HOLD_MF.one, PWR_GRAZE_FAIL.one] { s with time := t.time, pwr := { s.pwr with grazeReq := none } } t
      ∧ t.now = max s.now (q + 200 * msTicks) ∧ t.rd PWR_GRAZE_FAIL = 2 :=
  completes_of rfl (grazeAckTimeout_eq hr) (State.advance_grazeFails w _)

variable (h : Taken s mGrazeAck r)
include h

theorem grazeAck_judged : ∃ a b, JudgedIn r s a ∧ s.effBoundary (msgOf r).effWord = some b
    ∧ a.keptIs (s.ownTid (msgOf r).tid) mGrazeAck (msgOf r).seq = true ∧ grazeAck r s = (a.actGrazeAck (msgOf r)).recMet false := by
  obtain ⟨b, hb⟩ := h.boundary (h.format_eff.1 rfl)
  obtain ⟨a, ja, hk, he⟩ := h.message_held w (fun _ _ t => t) (fun m _ t => t.actGrazeAck m) (h.format_eff.1 rfl) hb
  exact ⟨a, b, ja, hb, hk, he⟩

theorem grazeAck_grants {b : Nat} (hb : s.effBoundary (msgOf r).effWord = some b) (hr : s.pwr.grazeReq ≠ none)
    (h0 : bits (msgWord (msgOf r) 0) 31 30 = 0) : Completes (.grazeAck r) s fun t =>
      Only [FRM_REC_OK.one]
        { s with
          rx := t.rx, join := t.join
          pwr := { s.pwr with grazeReq := none, grazeAck := some (b, bits (msgWord (msgOf r) 0) 29 19, bits (msgWord (msgOf r) 0) 18 8) } } t
      ∧ PastRecord r s t ∧ t.keptIs (s.ownTid (recTid r)) 0x0B (msgOf r).seq = true := by
  obtain ⟨a, b', ja, hb', hk, he⟩ := grazeAck_judged w h
  obtain rfl : b = b' := Option.some.inj (hb.symm.trans hb')
  rw [← ja.pwr_eq] at hr ⊢
  have hact := State.actGrazeAck_grants hr h0 ((ja.effBoundary_eq _).trans hb)
  exact ja.completes rfl (he.trans (congrArg (State.recMet · false) hact)) rfl
    ⟨(ja.only.rx_both a.notFirst.rx).pwr_both (a.grazeGranted b _ _).pwr, ja.pastRecord rfl, hk⟩

theorem grazeAck_refuses (hr : s.pwr.grazeReq ≠ none) (h1 : bits (msgWord (msgOf r) 0) 31 30 = 1) : Completes (.grazeAck r) s fun t =>
      Only [FRM_REC_OK.one, UPB_MSG_OK.one, PWR_GRAZE_FAIL.one]
        { s with rx := t.rx, join := t.join, pwr := { s.pwr with grazeReq := none } } t
      ∧ t.rd PWR_GRAZE_FAIL = 1 ∧ t.rd UPB_MSG_OK = (s.rd UPB_MSG_OK + 1) % 2 ^ 32 := by
  obtain ⟨a, b, ja, -, -, he⟩ := grazeAck_judged w h
  have hact := State.actGrazeAck_refuses (by rwa [ja.pwr_eq]) h1
  have jn : JudgedIn r s a.noGrazeAck := ja.keeps _ _ _
  generalize a.noGrazeAck = n at jn hact
  have wi : (n.inc UPB_MSG_OK).wf = true := State.wr_wf _ _ 0 jn.wf
  have hall := jn.only.mono (ds := [FRM_REC_OK.one, UPB_MSG_OK.one, PWR_GRAZE_FAIL.one]) (by simp)
  have honly := State.grazeFails_only (v := 1) (hall.wr_mem (g := UPB_MSG_OK) (n.rd UPB_MSG_OK + 1) (i := 0) jn.wf (by simp)) wi (by simp)
  refine jn.completes rfl (he.trans (congrArg (State.recMet · false) hact)) honly.rx_eq
    ⟨?_, State.grazeFails_shows wi, (State.grazeFails_rd wi 0).trans (jn.rd_inc UPB_MSG_OK)⟩
  have hj := honly.join_eq
  exact hj ▸ honly.rx_both _

theorem grazeAck_unasked (hr : s.pwr.grazeReq = none) : Completes (.grazeAck r) s fun t =>
      Only [FRM_REC_OK.one, UPB_MSG_LATE.one] { s with rx := t.rx, join := t.join } t
      ∧ t.rd UPB_MSG_LATE = (s.rd UPB_MSG_LATE + 1) % 2 ^ 32 := by
  obtain ⟨a, b, ja, -, -, he⟩ := grazeAck_judged w h
  have hact := State.actGrazeAck_unasked (m := msgOf r) (ja.pwr_eq ▸ hr)
  have jn : JudgedIn r s a.noGrazeAck := ja.keeps _ _ _
  generalize a.noGrazeAck = n at jn hact
  have hall := jn.only.mono (ds := [FRM_REC_OK.one, UPB_MSG_LATE.one]) (by simp)
  exact jn.completes rfl (he.trans (congrArg (State.recMet · false) hact)) rfl
    ⟨(hall.wr_mem (g := UPB_MSG_LATE) (n.rd UPB_MSG_LATE + 1) (i := 0) jn.wf (by simp)).rx_both _, jn.rd_inc UPB_MSG_LATE⟩

end

end Sys2Proof.Machine

namespace Sys2Proof
open Sys2Proof.Machine

/-- Settles O16: a GRAZE_ACK is held for its boundary, where it answers the request in progress, and the request fails 200 ms after it was made. -/
theorem grazeAnswered : Obligations.GrazeAnswered := by
  unfold Obligations.GrazeAnswered
  exact ⟨fun r b s w ht hb hr h0 => grazeAck_grants w (State.takesMessage_taken ht) hb hr h0,
    fun r s w ht hr h1 => grazeAck_refuses w (State.takesMessage_taken ht) hr h1,
    fun r s w ht hr => grazeAck_unasked w (State.takesMessage_taken ht) hr,
    fun q s w hr => grazeAckTimeout_fails w hr⟩

end Sys2Proof
end

section
/-! The mailboxes: the statement, refuted (chapter 05) -/

namespace Sys2Proof
open Sys2Proof.Machine

/-- A terminal in SERVICE whose four-bit IN_COUNT holds 17: the tables are canonical, but no write puts the value there. -/
def inCountOverWide : State := { State.reset with mode := .service, regs := [(UPB_IN_COUNT.key 0, 17)] }

theorem inCountOverWide_meets : inCountOverWide.wf = true ∧ inCountOverWide.rd UPB_IN_COUNT = 17 := by
  constructor <;> decide +kernel

/-- A pop writes the low four bits of 16. -/
theorem inCountOverWide_popped : (inPop inCountOverWide).rd UPB_IN_COUNT = 0 := by decide +kernel

/-- Refutes O30: the canonical form bounds no field by its width. Where IN_COUNT reads 17, IN_POP leaves it at 0, and not at the 16 that the
clause of the pop gives. -/
theorem not_hostMessagesPass : ¬ Obligations.HostMessagesPass := by
  unfold Obligations.HostMessagesPass
  rintro ⟨-, -, -, -, -, hpop, -⟩
  obtain ⟨hw, hcount⟩ := inCountOverWide_meets
  obtain ⟨t, hexec, -, hleft, -⟩ := hpop inCountOverWide hw (by rw [hcount]; decide)
  cases hexec
  rw [hcount] at hleft
  exact absurd (inCountOverWide_popped.symm.trans hleft) (by decide)

end Sys2Proof
end

section
namespace Sys2Proof.Machine

/-! A join fails (R136), with its registers and what is waited for -/

/-- A join has failed: no TID and no registration are left, and nothing is waited for. -/
structure JoinFailed (cause : Nat) (t : State) : Prop where
  mode : t.mode = .listen
  cause : t.rd UPB_FAIL_CAUSE = cause % 2 ^ UPB_FAIL_CAUSE.w
  enabled : t.rd UPB_JOIN_EN = 0
  state : t.rd UPB_JOIN_STATE = 0
  tid : t.rd UPB_TID_VALID = 0
  registered : t.rd UPB_REGISTERED = 0
  wins : t.join.wins = []
  rangeDue : t.join.rangeDue = none

section
variable {s : State} (cause : Nat) (w : s.wf = true)
include w

/-- What the change of mode and the interrupt leave alone reads as when the registers are cleared. -/
theorem State.joinFail_rd {f : Fld} (i : Nat) (hf : Nat.testBit modeFrame f.id = false := by decide) (hl : f.id < 1000 := by decide) :
    (s.joinFail cause).rd f i = (s.joinCleared cause).rd f i :=
  ((State.setMode_does .listen (Nat.or_self _) (.refl _ (s.joinCleared cause))).comp
    (State.raise_does 10 1 (by decide) (.refl modeFrame _))).rd (State.joinCleared_wf w) i hf hl

theorem State.joinFail_failed : JoinFailed cause (s.joinFail cause) := by
  obtain ⟨hmode, hcause, hen⟩ := State.joinFail_shows (cause := cause) w
  have w' := State.wf_regs w
  have hjoin : (s.joinFail cause).join = (s.joinCleared cause).join :=
    ((State.setMode_does .listen (Nat.or_self _) (.refl _ (s.joinCleared cause))).comp (State.raise_does 10 1 (Nat.or_self _) (.refl _ _))).join_eq
      (by decide)
  refine ⟨hmode, hcause, hen, (State.joinFail_rd cause w 0).trans ?_, (State.joinFail_rd cause w 0).trans ?_,
    (State.joinFail_rd cause w 0).trans ?_, congrArg Join.wins hjoin, congrArg Join.rangeDue hjoin⟩ <;>
    simp (disch := first | decide | (repeat first | exact w' | apply wrR_wf)) only [State.joinCleared, State.rd_eq, State.wr_regs, rdR_wrR_same,
      rdR_wrR_fld, Nat.zero_mod]

theorem joinAbort_fails (hm : s.mode = .join) : Completes .joinAbort s fun t => JoinFailed 4 t :=
  completes_of rfl (if_pos (beq_iff_eq.mpr hm)) (State.joinFail_failed 4 w)

end

/-! Joining starts (R128, R132) -/

section
variable {s : State} (w : s.wf = true)
include w

theorem joinEnSet_enables : Completes .joinEnSet s fun t => Only [UPB_JOIN_EN.one] s t ∧ t.rd UPB_JOIN_EN = 1 :=
  completes_of rfl rfl ⟨(Only.refl _ s).wr_mem _ w (List.mem_singleton_self _), State.rd_wr_same UPB_JOIN_EN 1 0 w⟩

end

/-- The seed of the generator: the halves of the serial number and LT. -/
def State.joinSeed (s : State) : Nat := s.fuses.serial / 2 ^ 32 % 2 ^ 32 ^^^ s.fuses.serial % 2 ^ 32 ^^^ s.now % 2 ^ 32

/-- The state in which SEEK begins, before the mode becomes JOIN. -/
def State.seekStarts (s : State) (id tresp span : Nat) : State :=
  (((({ s with join := { s.join with
      lfsr := if s.joinSeed == 0 then 1 else s.joinSeed, span := span, wins := [], skip := 0, rangeDue := none } }.wr UPB_LINE_ID id).wr
    UPB_TRESP tresp).wr UPB_ATTEMPT 0).wr UPB_JOIN_STATE 1)

section
variable {s : State} (id tresp span : Nat)

theorem joinEntry_eq {rate sc : Nat} (hp : s.join.params = some [id, tresp, rate, sc, span]) (hm : s.mode = .listen) (ht : s.pwr.transit = none)
    (he : s.rd UPB_JOIN_EN = 1) (hl : s.rd LTM_STATE = ltLocked) : joinEntry s = (s.seekStarts id tresp span).setMode .join := by
  have hgo : (s.mode == .listen && s.pwr.transit.isNone && s.on UPB_JOIN_EN && s.ltIs ltLocked) = true := by
    simp [hm, ht, State.on, he, State.ltIs, hl]
  unfold joinEntry
  split
  · next h =>
    cases hp.symm.trans h
    exact if_pos hgo
  · next h => exact absurd hp (h id tresp rate sc span [])

theorem State.seekStarts_lfsr : (s.seekStarts id tresp span).join.lfsr ≠ 0
    ∧ ((s.seekStarts id tresp span).join.lfsr = s.joinSeed ∨ (s.seekStarts id tresp span).join.lfsr = 1) := by
  have h : (s.seekStarts id tresp span).join.lfsr = if s.joinSeed == 0 then 1 else s.joinSeed := rfl
  rw [h]
  by_cases h0 : s.joinSeed = 0 <;> simp [h0]

variable (w : s.wf = true)
include w

theorem State.seekStarts_wf : (s.seekStarts id tresp span).wf = true :=
  State.wr_wf _ _ _ (State.wr_wf _ _ _ (State.wr_wf _ _ _ (State.wr_wf (s := { s with join := _ }) _ _ _ w)))

theorem State.seekStarts_shows : (s.seekStarts id tresp span).rd UPB_JOIN_STATE = 1 ∧ (s.seekStarts id tresp span).rd UPB_LINE_ID = id % 2 ^ 32
    ∧ (s.seekStarts id tresp span).rd UPB_TRESP = tresp % 2 ^ 32 ∧ (s.seekStarts id tresp span).rd UPB_ATTEMPT = 0 := by
  have w' := State.wf_regs w
  refine ⟨?_, ?_, ?_, ?_⟩ <;>
    simp (disch := first | decide | (repeat first | exact w' | apply wrR_wf)) only [State.seekStarts, State.rd_eq, State.wr_regs, rdR_wrR_same,
      rdR_wrR_fld, Nat.zero_mod] <;> rfl

theorem joinEntry_seeks {rate sc : Nat} (hp : s.join.params = some [id, tresp, rate, sc, span]) (hm : s.mode = .listen) (ht : s.pwr.transit = none)
    (he : s.rd UPB_JOIN_EN = 1) (hl : s.rd LTM_STATE = ltLocked) : Completes .joinEntry s fun t =>
      t.mode = .join ∧ t.rd UPB_JOIN_STATE = 1 ∧ t.rd UPB_LINE_ID = id % 2 ^ 32 ∧ t.rd UPB_TRESP = tresp % 2 ^ 32 ∧ t.rd UPB_ATTEMPT = 0
      ∧ t.join.span = span ∧ t.join.lfsr ≠ 0 ∧ (t.join.lfsr = s.joinSeed ∨ t.join.lfsr = 1) := by
  have hframe := State.setMode_does .join (Nat.or_self _) (.refl _ (s.seekStarts id tresp span))
  have wk := State.seekStarts_wf id tresp span w
  have hjoin := hframe.join_eq (by decide)
  obtain ⟨hstate, hid, htresp, hattempt⟩ := State.seekStarts_shows id tresp span w
  refine completes_of rfl (joinEntry_eq id tresp span hp hm ht he hl) ⟨State.setMode_mode _ _, (hframe.rd wk 0 (by decide)).trans hstate,
    (hframe.rd wk 0 (by decide)).trans hid, (hframe.rd wk 0 (by decide)).trans htresp, (hframe.rd wk 0 (by decide)).trans hattempt,
    congrArg Join.span hjoin, ?_⟩
  rw [hjoin]
  exact State.seekStarts_lfsr id tresp span

end

end Sys2Proof.Machine
end

section
namespace Sys2Proof.Machine

/-! The generator (R132) -/

theorem lfsrStep_lt (v : Nat) : lfsrStep v < 2 ^ 32 := by
  have hlt : v * 2 % 2 ^ 32 < 2 ^ 32 := Nat.mod_lt _ (by decide)
  unfold lfsrStep
  split
  · exact Nat.xor_lt_two_pow hlt (by decide)
  · exact hlt

theorem lfsrSteps_lt (n v : Nat) : lfsrSteps (n + 1) v < 2 ^ 32 := by
  induction n generalizing v with
  | zero => exact lfsrStep_lt v
  | succ n ih => exact ih (lfsrStep v)

/-- A draw is one of the choices. -/
theorem State.draw_lt (s : State) {n : Nat} (hn : 0 < n) : (s.draw n).1 < n :=
  Nat.div_lt_of_lt_mul (Nat.mul_lt_mul_of_pos_right (lfsrSteps_lt 31 s.join.lfsr) hn)

/-- A draw from nothing. -/
theorem State.draw_zero (s : State) : (s.draw 0).1 = 0 := by simp [State.draw]

/-! A discovery burst goes unanswered (R131, R133) -/

/-- The ASSIGN_ID deadline has passed, and the collision is counted. -/
def State.collided (s : State) : State := ((s.advance s.join.deadline).inc UPB_DISC_COLLIDE).raise 10 7

/-- Back-off over `k` windows. -/
def State.backsOff (s : State) (k : Nat) : State :=
  { s with join := { s.join with lfsr := lfsrSteps 32 s.join.lfsr, skip := k } }.wr UPB_JOIN_STATE (if k == 0 then 1 else 3)

theorem discCollide_eq {s : State} (hm : s.mode = .join) (hs : s.rd UPB_JOIN_STATE = 2) : discCollide s
    = if s.collided.rd UPB_JOIN_ATTEMPTS ≤ s.collided.rd UPB_ATTEMPT then s.collided.joinFail 1
      else s.collided.backsOff (s.collided.draw s.collided.join.w).1 := by
  have hgo : (s.mode != .join || s.rd UPB_JOIN_STATE != 2) = false := by simp [hm, hs]
  exact if_neg (ne_true_of_eq_false hgo)

section
variable {s : State} (w : s.wf = true)
include w

theorem State.collided_only : Only [LTM_HOLD_MF.one, UPB_DISC_COLLIDE.one] { s with time := (s.advance s.join.deadline).time } s.collided :=
  State.raise_only 10 7 (((State.advance_only _ w).mono (by simp)).wr_mem _ (State.advance_wf _ w) (by simp))
    (State.wr_wf _ _ _ (State.advance_wf _ w))

theorem State.collided_wf : s.collided.wf = true :=
  (State.raise_does 10 7 (Nat.or_self _) (.refl _ _)).wf (State.wr_wf _ _ _ (State.advance_wf _ w))

theorem State.collided_count : s.collided.rd UPB_DISC_COLLIDE = (s.rd UPB_DISC_COLLIDE + 1) % 2 ^ UPB_DISC_COLLIDE.w := by
  have wa := State.advance_wf s.join.deadline w
  rw [← State.advance_rd s.join.deadline w 0]
  exact (State.rd_raise 10 7 0 (State.wr_wf _ _ _ wa)).trans (State.rd_wr_same UPB_DISC_COLLIDE _ 0 wa)

theorem State.collided_now : s.collided.now = max s.now s.join.deadline :=
  (State.collided_only w).now_eq.trans (State.advance_now s _)

end

theorem State.backsOff_shows {s : State} (w : s.wf = true) (k : Nat) : (s.backsOff k).rd UPB_JOIN_STATE = if k = 0 then 1 else 3 := by
  refine (State.rd_wr_same (s := { s with join := _ }) UPB_JOIN_STATE _ 0 w).trans ?_
  by_cases hk : k = 0
  · rw [hk]
    rfl
  · rw [if_neg hk, if_neg (by simpa using hk)]
    rfl

theorem discCollide_completes {s : State} (w : s.wf = true) (hm : s.mode = .join) (hs : s.rd UPB_JOIN_STATE = 2) : Completes .discCollide s fun t =>
      t.now = max s.now s.join.deadline ∧ t.rd UPB_DISC_COLLIDE = (s.rd UPB_DISC_COLLIDE + 1) % 2 ^ UPB_DISC_COLLIDE.w
      ∧ (if s.rd UPB_JOIN_ATTEMPTS ≤ s.rd UPB_ATTEMPT then t.mode = .listen ∧ t.rd UPB_FAIL_CAUSE = 1 ∧ t.rd UPB_JOIN_STATE = 0
         else t.mode = .join ∧ t.rd UPB_JOIN_STATE = (if t.join.skip = 0 then 1 else 3) ∧ (t.join.skip < s.join.w ∨ t.join.skip = 0)) := by
  have honly := State.collided_only w
  have wc := State.collided_wf w
  have hnow := State.collided_now w
  have hcount := State.collided_count w
  have he := discCollide_eq hm hs
  rw [honly.rd_fld (f := UPB_JOIN_ATTEMPTS) 0 (by decide), honly.rd_fld (f := UPB_ATTEMPT) 0 (by decide), honly.join_eq] at he
  by_cases ha : s.rd UPB_JOIN_ATTEMPTS ≤ s.rd UPB_ATTEMPT
  · have hfail := State.joinFail_failed 1 wc
    have hframe := State.joinFail_does 1 (Nat.or_self _) (.refl _ s.collided)
    refine completes_of rfl (he.trans (if_pos ha)) ⟨hframe.now_eq.trans hnow, (hframe.rd wc 0 (by decide)).trans hcount, ?_⟩
    rw [if_pos ha]
    exact ⟨hfail.mode, hfail.cause, hfail.state⟩
  · have hmode := congrArg State.mode honly.rest
    refine completes_of rfl (he.trans (if_neg ha)) ⟨hnow, (State.rd_wr_fld (s := { s.collided with join := _ }) _ 0 0 wc).trans hcount, ?_⟩
    rw [if_neg ha]
    refine ⟨honly.mode_eq.trans hm, State.backsOff_shows wc _, ?_⟩
    rcases Nat.eq_zero_or_pos s.join.w with h0 | hpos
    · rw [h0]
      exact .inr (State.draw_zero _)
    · exact .inl (State.draw_lt _ hpos)

/-! RANGE_TIMEOUT (R133) -/

/-- Ranging is no longer waited for. -/
def State.rangeOver (s : State) (d : Nat) : State := { s.advance d with join := { (s.advance d).join with rangeDue := none } }

/-- The TID is dropped, and SEEK begins again. -/
def State.seeksAgain (s : State) : State := ((s.wr UPB_TID_VALID 0).inc UPB_RANGE_FAIL).wr UPB_JOIN_STATE 1

theorem rangeTimeout_eq {s : State} {d : Nat} (hd : s.join.rangeDue = some d) (hm : s.mode = .join) (hs : s.rd UPB_JOIN_STATE = 4) : rangeTimeout s
    = if (s.rangeOver d).rd UPB_JOIN_ATTEMPTS ≤ (s.rangeOver d).rd UPB_ATTEMPT then (s.rangeOver d).joinFail 2 else (s.rangeOver d).seeksAgain := by
  have hgo : (s.mode != .join || s.rd UPB_JOIN_STATE != 4) = false := by simp [hm, hs]
  simp only [rangeTimeout, hd, hgo, Bool.false_eq_true, if_false]
  rfl

theorem State.seeksAgain_shows {s : State} (w : s.wf = true) : s.seeksAgain.rd UPB_TID_VALID = 0 ∧ s.seeksAgain.rd UPB_JOIN_STATE = 1
    ∧ s.seeksAgain.rd UPB_RANGE_FAIL = (s.rd UPB_RANGE_FAIL + 1) % 2 ^ UPB_RANGE_FAIL.w := by
  have w1 := State.wr_wf UPB_TID_VALID 0 0 w
  have w2 : ((s.wr UPB_TID_VALID 0).inc UPB_RANGE_FAIL).wf = true := State.wr_wf _ _ _ w1
  refine ⟨(State.rd_wr_fld _ 0 0 w2).trans ((State.rd_wr_fld _ 0 0 w1).trans (State.rd_wr_same UPB_TID_VALID 0 0 w)),
    State.rd_wr_same UPB_JOIN_STATE 1 0 w2, (State.rd_wr_fld _ 0 0 w2).trans ((State.rd_wr_same UPB_RANGE_FAIL _ 0 w1).trans ?_)⟩
  rw [State.rd_wr_fld 0 0 0 w]

theorem rangeTimeout_completes {s : State} {d : Nat} (w : s.wf = true) (hd : s.join.rangeDue = some d) (hm : s.mode = .join)
    (hs : s.rd UPB_JOIN_STATE = 4) : Completes .rangeTimeout s fun t =>
      t.now = max s.now d ∧ t.rd UPB_TID_VALID = 0 ∧ t.join.rangeDue = none
      ∧ (if s.rd UPB_JOIN_ATTEMPTS ≤ s.rd UPB_ATTEMPT then t.mode = .listen ∧ t.rd UPB_FAIL_CAUSE = 2
         else t.mode = .join ∧ t.rd UPB_JOIN_STATE = 1 ∧ t.rd UPB_RANGE_FAIL = (s.rd UPB_RANGE_FAIL + 1) % 2 ^ UPB_RANGE_FAIL.w) := by
  have wo : (s.rangeOver d).wf = true := State.advance_wf d w
  have hnow : (s.rangeOver d).now = max s.now d := State.advance_now s d
  have hrd {f : Fld} (hf : LTM_HOLD_MF.id ≠ f.id) (hc : f.counting = false) : (s.rangeOver d).rd f = s.rd f := State.advance_rd d w 0 hf hc
  have he := rangeTimeout_eq hd hm hs
  rw [hrd (f := UPB_JOIN_ATTEMPTS) (by decide) (by decide), hrd (f := UPB_ATTEMPT) (by decide) (by decide)] at he
  by_cases ha : s.rd UPB_JOIN_ATTEMPTS ≤ s.rd UPB_ATTEMPT
  · have hfail := State.joinFail_failed 2 wo
    have hkept := (State.joinFail_does 2 (Nat.or_self _) (.refl _ (s.rangeOver d))).now_eq
    refine completes_of rfl (he.trans (if_pos ha)) ⟨hkept.trans hnow, hfail.tid, hfail.rangeDue, ?_⟩
    rw [if_pos ha]
    exact ⟨hfail.mode, hfail.cause⟩
  · obtain ⟨htid, hstate, hcount⟩ := State.seeksAgain_shows wo
    rw [hrd (by decide) (by decide)] at hcount
    refine completes_of rfl (he.trans (if_neg ha)) ⟨hnow, htid, rfl, ?_⟩
    rw [if_neg ha]
    exact ⟨(State.advance_mode s d).trans hm, hstate, hcount⟩

end Sys2Proof.Machine
end

section
namespace Sys2Proof.Machine

/-! A discovery burst is sent (R130, R131) -/

/-- The burst and the attempt are counted. -/
def State.burstCounted (s : State) : State := (s.inc UPB_DISC_SENT).wr UPB_ATTEMPT (s.rd UPB_ATTEMPT + 1)

/-- When, until when and on what the burst of window `w` is in the air, sent on subcarrier `c`. -/
def State.airOf (s : State) (w : DiscWin) (c : Nat) : Nat × Nat × Nat := (w.launch, w.launch + s.discSlots * slotTicks, 2 ^ c)

/-- The instant until which ASSIGN_ID is waited for. -/
def State.assignDeadline (s : State) (w : DiscWin) : Nat := (w.g + s.rd UPB_TRESP).toNat + w.wlen * slotTicks + 20 * msTicks

/-- The burst is in the air, and its ramp has begun. -/
def State.burstRamped (s : State) (w : DiscWin) (c : Nat) : State :=
  { s with join := { s.join with w := w.w, deadline := s.assignDeadline w, sent := some (s.airOf w c) }
           up := { s.up with disc := some (s.airOf w c) } }.emit (.ramp (w.launch - rampTicks) (2 ^ c) true)

/-- What leaves the terminal of window `w` on subcarrier `c`. -/
def State.burstOf (s : State) (w : DiscWin) (c : Nat) : Out :=
  .discovery w.launch (s.startOf w.launch) (preamble 4096)
    (upLanes (2 ^ c) ((w.g % frameTicks).toNat / slotTicks) ((s.symPerSlot * s.discSlots - 4096) * 4 / 12288) w.record)

/-- What a burst is made of follows the latencies and the symbol rate alone. -/
theorem State.burstOf_congr {s t : State} (w : DiscWin) (c : Nat) (hfe : t.rd LTM_FE_TX_LAT = s.rd LTM_FE_TX_LAT)
    (hdev : t.rd LTM_DEV_TX_LAT = s.rd LTM_DEV_TX_LAT) (hrate : t.rd LRX_SYM_RATE = s.rd LRX_SYM_RATE) : t.burstOf w c = s.burstOf w c := by
  have hsym : t.symPerSlot = s.symPerSlot := congrArg (· / 16) hrate
  have hslots : t.discSlots = s.discSlots := by rw [State.discSlots, hsym, State.discSlots]
  have hstart : t.startOf w.launch = s.startOf w.launch := by rw [State.startOf, hfe, hdev, State.startOf]
  rw [State.burstOf, hsym, hslots, hstart, State.burstOf]

/-- SENT with the burst in the air. -/
def State.burstLit (s : State) (w : DiscWin) (c : Nat) : State :=
  (((s.burstRamped w c).wr UPB_JOIN_STATE 2).wr UPB_TX_LIT 1).emit (s.burstOf w c)

theorem State.sendDiscovery_eq (s : State) {w : DiscWin} {c : Nat} (hc : w.sc = some c) : s.sendDiscovery w = s.burstCounted.burstLit w c := by
  simp only [State.sendDiscovery, hc]
  rfl

section
variable {s : State} (w : s.wf = true)
include w

theorem State.burstCounted_only : Only [UPB_DISC_SENT.one, UPB_ATTEMPT.one] s s.burstCounted :=
  ((Only.refl _ s).wr_mem _ w (by simp)).wr_mem _ (State.wr_wf _ _ _ w) (by simp)

theorem State.burstCounted_wf : s.burstCounted.wf = true := State.wr_wf _ _ _ (State.wr_wf _ _ _ w)

theorem State.burstCounted_shows : s.burstCounted.rd UPB_DISC_SENT = (s.rd UPB_DISC_SENT + 1) % 2 ^ UPB_DISC_SENT.w
    ∧ s.burstCounted.rd UPB_ATTEMPT = (s.rd UPB_ATTEMPT + 1) % 2 ^ UPB_ATTEMPT.w :=
  ⟨(State.rd_wr_fld _ 0 0 (State.wr_wf _ _ _ w)).trans (State.rd_wr_same UPB_DISC_SENT _ 0 w),
    State.rd_wr_same UPB_ATTEMPT _ 0 (State.wr_wf UPB_DISC_SENT _ 0 w)⟩

variable (x : DiscWin) (c : Nat)

theorem State.burstLit_shows : (s.burstLit x c).rd UPB_JOIN_STATE = 2 ∧ (s.burstLit x c).rd UPB_TX_LIT = 1 :=
  have wr : (s.burstRamped x c).wf = true := w
  ⟨(State.rd_wr_fld _ 0 0 (State.wr_wf _ _ _ wr)).trans (State.rd_wr_same UPB_JOIN_STATE 2 0 wr),
    State.rd_wr_same UPB_TX_LIT 1 0 (State.wr_wf UPB_JOIN_STATE 2 0 wr)⟩

theorem State.burstLit_rd {f : Fld} (hs : f.id ≠ UPB_JOIN_STATE.id := by decide) (hl : f.id ≠ UPB_TX_LIT.id := by decide) :
    (s.burstLit x c).rd f = s.rd f :=
  have wr : (s.burstRamped x c).wf = true := w
  (State.rd_wr_fld _ 0 0 (State.wr_wf _ _ _ wr) hl).trans (State.rd_wr_fld _ 0 0 wr hs)

end

/-- The launch of window `w` is reached, and the window waits no longer. -/
def State.windowReached (s : State) (w : DiscWin) : State :=
  { s.advance w.launch with join := { (s.advance w.launch).join with wins := [] } }

section
variable {s : State} {x : DiscWin} {c : Nat}

/-- In SEEK the terminal may transmit its burst. -/
structure MaySeek (s : State) : Prop where
  mode : s.mode = .join
  state : s.rd UPB_JOIN_STATE = 1
  can : (s.ltIs ltLocked && !s.on UPB_SILENCED && !s.on FLT_SAFE && s.on UPB_TX_EN) = true

theorem discoveryBurstStart_eq (hw : s.join.wins = [x]) (hgo : MaySeek (s.windowReached x)) :
    discoveryBurstStart s = (s.windowReached x).sendDiscovery x := by
  obtain ⟨hmode, hstate, hcan⟩ := hgo
  have hmin : minList ([x].map DiscWin.launch) = some x.launch := rfl
  have hfind : ([x].find? fun y => y.launch == x.launch) = some x := by simp
  have hwins : (s.advance x.launch).join.wins.erase x = [] := by
    rw [State.advance_join, hw]
    simp
  have hjoin : ¬ ((s.windowReached x).mode != .join) = true := by simp [hmode]
  have hskip : ¬ ((s.windowReached x).rd UPB_JOIN_STATE == 3) = true := by simp [hstate]
  simp only [discoveryBurstStart, hw, hmin, hfind, hwins]
  exact (if_neg hjoin).trans ((if_neg hskip).trans ((if_pos (beq_iff_eq.mpr hstate)).trans (if_pos hcan)))

variable (w : s.wf = true)
include w

theorem State.windowReached_rd (f : Fld) (hf : LTM_HOLD_MF.id ≠ f.id := by decide) (hc : f.counting = false := by decide) :
    (s.windowReached x).rd f = s.rd f := State.advance_rd x.launch w 0 hf hc

theorem MaySeek.windowReached (h : MaySeek s) : MaySeek (s.windowReached x) := by
  refine ⟨(State.advance_mode s x.launch).trans h.mode, (State.windowReached_rd w UPB_JOIN_STATE).trans h.state, ?_⟩
  simp only [State.ltIs, State.on, State.windowReached_rd w LTM_STATE, State.windowReached_rd w UPB_SILENCED, State.windowReached_rd w FLT_SAFE,
    State.windowReached_rd w UPB_TX_EN]
  exact h.can

theorem discoveryBurstStart_sends (hw : s.join.wins = [x]) (hc : x.sc = some c) (hgo : MaySeek s) : Completes .discoveryBurstStart s fun t =>
      t.now = max s.now x.launch ∧ t.rd UPB_JOIN_STATE = 2 ∧ t.rd UPB_TX_LIT = 1
      ∧ t.out = s.burstOf x c :: .ramp (x.launch - rampTicks) (2 ^ c) true :: s.out ∧ t.join.wins = []
      ∧ t.rd UPB_DISC_SENT = (s.rd UPB_DISC_SENT + 1) % 2 ^ UPB_DISC_SENT.w ∧ t.rd UPB_ATTEMPT = (s.rd UPB_ATTEMPT + 1) % 2 ^ UPB_ATTEMPT.w
      ∧ t.join.deadline = s.assignDeadline x ∧ t.join.w = x.w := by
  have he := (discoveryBurstStart_eq hw (hgo.windowReached w)).trans ((s.windowReached x).sendDiscovery_eq hc)
  have wr : (s.windowReached x).wf = true := State.advance_wf x.launch w
  have hnow : (s.windowReached x).now = max s.now x.launch := State.advance_now s x.launch
  have hout : (s.windowReached x).out = s.out := State.advance_out s x.launch
  have hwins : (s.windowReached x).join.wins = [] := rfl
  have hburst : (s.windowReached x).burstOf x c = s.burstOf x c :=
    State.burstOf_congr x c (State.windowReached_rd w _) (State.windowReached_rd w _) (State.windowReached_rd w _)
  have hsent := State.windowReached_rd (x := x) w UPB_DISC_SENT
  have hattempt := State.windowReached_rd (x := x) w UPB_ATTEMPT
  have htresp := State.windowReached_rd (x := x) w UPB_TRESP
  generalize s.windowReached x = r at *
  have wc := State.burstCounted_wf wr
  have hcounted := State.burstCounted_only wr
  obtain ⟨hdisc, hatt⟩ := State.burstCounted_shows wr
  obtain ⟨hstate, hlit⟩ := State.burstLit_shows wc x c
  have hwaits : r.burstCounted.burstOf x c = r.burstOf x c :=
    State.burstOf_congr x c (hcounted.rd_fld 0 (by decide)) (hcounted.rd_fld 0 (by decide)) (hcounted.rd_fld 0 (by decide))
  rw [hsent] at hdisc
  rw [hattempt] at hatt
  refine completes_of rfl he ⟨hnow, hstate, hlit, ?_, hwins,
    (State.burstLit_rd wc x c).trans hdisc, (State.burstLit_rd wc x c).trans hatt, ?_, rfl⟩
  · rw [← hburst, ← hwaits, ← hout]
    rfl
  · rw [State.assignDeadline, ← htresp, ← hcounted.rd_fld (f := UPB_TRESP) 0 (by decide)]
    rfl

end

end Sys2Proof.Machine
end

section
namespace Sys2Proof.Machine

/-! A window is taken in SEEK (R129, R130, R132) -/

/-- The window a DISCOVERY_OPEN for all distances opens. -/
def State.windowOf (s : State) (m : Msg) : DiscWin :=
  let g := resolveG s.now (s.rd UPB_TRESP)
    (fieldTime (bits (msgWord m 0) 31 28) (bits (msgWord m 0) 27 21) (bits (msgWord m 0) 20 15) (bits (msgWord m 0) 14 8))
  { g := g, wlen := bits (msgWord m 1) 31 16, w := bits (msgWord m 3) 31 24, mask := bits (msgWord m 1) 15 0
    launch := (g + s.rd UPB_TRESP).toNat, eqd := s.rd UPB_TRESP, sc := none, record := [] }

/-- Window `w` waits with its subcarrier drawn and its record built. -/
def State.windowTaken (s : State) (w : DiscWin) : State :=
  { s with join := { s.join with lfsr := lfsrSteps 32 s.join.lfsr, wins := s.join.wins ++ [(s.drawWindow w).1] } }

/-- A DISCOVERY_OPEN that a terminal in SEEK with no window, no burst and no distance hint takes. -/
structure OpensWindow (m : Msg) (s : State) : Prop where
  mode : s.mode = .join
  state : s.rd UPB_JOIN_STATE = 1
  hint : s.rd UPB_DIST_HINT = 0xFFFF
  near : bits (msgWord m 2) 31 16 = 0
  far : s.join.span ≤ bits (msgWord m 2) 15 0
  mask : bits (msgWord m 1) 15 0 ≠ 0
  wins : s.join.wins = []
  sent : s.join.sent = none
  bursts : s.up.bursts = []
  ahead : s.now + 250 * usTicks ≤ (s.windowOf m).launch

theorem eqdD_zero (tresp : Nat) : eqdD tresp 0 = tresp := by
  rw [eqdD, Nat.cast_zero, mul_zero, sub_zero]
  exact Int.mul_ediv_cancel _ (by decide)

/-- A lone window clashes with none. -/
theorem State.windowClash_lone {s : State} (h : s.guardWindows.length ≤ 1) : s.windowClash = false := by
  simp only [State.windowClash, List.any_eq_false, List.mem_range]
  intro i hi
  obtain rfl : i = 0 := by omega
  simp

/-- The only window loaded is the one taken. -/
theorem OpensWindow.guardWindows {m : Msg} {s : State} (h : OpensWindow m s) (w : DiscWin) : (s.windowTaken w).guardWindows.length ≤ 1 := by
  have hb : (s.windowTaken w).up.bursts = [] := h.bursts
  have hs : (s.windowTaken w).join.sent = none := h.sent
  have hw : (s.windowTaken w).join.wins = [(s.drawWindow w).1] := by
    show s.join.wins ++ _ = _
    rw [h.wins]
    rfl
  rw [State.guardWindows, hb, hs, hw]
  simpa using List.length_filterMap_le _ [(s.drawWindow w).1]

theorem OpensWindow.actDiscoveryOpen {m : Msg} {s : State} (h : OpensWindow m s) : s.actDiscoveryOpen m = s.windowTaken (s.windowOf m) := by
  have hclash := ne_true_of_eq_false (State.windowClash_lone (h.guardWindows (s.windowOf m)))
  have hband : s.band = (0, s.join.span) := if_pos (beq_iff_eq.mpr h.hint)
  have hmask : (bits (msgWord m 1) 15 0 != 0) = true := bne_iff_ne.mpr h.mask
  have hahead : ¬ (!decide (s.now + 250 * usTicks ≤ (s.windowOf m).launch)) = true := by simpa using h.ahead
  have hmode : (s.mode != .join) = false := by simp [h.mode]
  simp only [State.actDiscoveryOpen, h.state, hband, h.near, eqdD_zero, hmode, hmask, h.far, decide_true]
  exact (if_neg (by decide)).trans ((if_neg (by decide)).trans ((if_pos rfl).trans ((if_neg hahead).trans (if_neg hclash))))

/-! What is drawn for a window -/

theorem length_bytesBE (n v : Nat) : (bytesBE n v).length = n := by simp [bytesBE]

theorem State.discRecord_length (s : State) (w : DiscWin) : (s.discRecord w).length = 64 := by
  rw [State.discRecord, List.length_append, length_bytesBE, length_bytesBE]

theorem mem_bitList {w v c : Nat} : c ∈ bitList w v ↔ c < w ∧ bit v c = true := by simp [bitList]

/-- A mask that is not empty has a subcarrier. -/
theorem bitList_pos {w v : Nat} (hv : v < 2 ^ w) (h : v ≠ 0) : 0 < (bitList w v).length := by
  obtain ⟨i, hi, -⟩ := Nat.exists_most_significant_bit h
  have hlt : i < w := (Nat.pow_lt_pow_iff_right (by decide)).mp ((Nat.ge_two_pow_of_testBit hi).trans_lt hv)
  exact List.length_pos_of_mem (mem_bitList.mpr ⟨hlt, (bit_eq_testBit v i).trans hi⟩)

/-- The subcarrier drawn is one of the window's. -/
theorem State.drawWindow_sc (s : State) {w : DiscWin} (hlt : w.mask < 2 ^ 16) (h : w.mask ≠ 0) :
    ((s.drawWindow w).1.sc.any fun c => decide (c < 16) && bit w.mask c) = true := by
  have hj : (s.draw (bitList 16 w.mask).length).1 < (bitList 16 w.mask).length := s.draw_lt (bitList_pos hlt h)
  have hmem : (bitList 16 w.mask).getD (s.draw (bitList 16 w.mask).length).1 0 ∈ bitList 16 w.mask := by
    rw [List.getD_eq_getElem _ _ hj]
    exact List.getElem_mem hj
  obtain ⟨h16, hbit⟩ := mem_bitList.mp hmem
  exact (Bool.and_eq_true _ _).mpr ⟨decide_eq_true h16, hbit⟩

theorem State.drawWindow_record (s : State) (w : DiscWin) : (s.drawWindow w).1.record.length = 64 := s.discRecord_length w

/-! DISCOVERY_OPEN (R129) -/

section
variable {r : Rec} {s a : State} {m : Msg} (j : JudgedIn r s a)
include j

/-- A message that acts is counted. -/
theorem JudgedIn.counted : Only [FRM_REC_OK.one, UPB_MSG_OK.one] { s with rx := a.rx, join := a.join } (a.inc UPB_MSG_OK) :=
  (j.only.mono (by simp)).wr_mem _ j.wf (by simp)

/-- The window that a message opens does not follow the count of messages. -/
theorem JudgedIn.windowOf_eq : (a.inc UPB_MSG_OK).windowOf m = s.windowOf m := by
  have hnow : (a.inc UPB_MSG_OK).now = s.now := j.now_eq
  have htresp : (a.inc UPB_MSG_OK).rd UPB_TRESP = s.rd UPB_TRESP := (State.rd_wr_fld _ 0 0 j.wf).trans (j.rd_eq 0)
  simp only [State.windowOf, hnow, htresp]

theorem JudgedIn.opensWindow (h : OpensWindow m s) : OpensWindow m (a.inc UPB_MSG_OK) where
  mode := j.only.mode_eq.trans h.mode
  state := ((State.rd_wr_fld _ 0 0 j.wf).trans (j.rd_eq 0)).trans h.state
  hint := ((State.rd_wr_fld _ 0 0 j.wf).trans (j.rd_eq 0)).trans h.hint
  near := h.near
  far := (congrArg Join.span j.join_eq).trans_le h.far
  mask := h.mask
  wins := (congrArg Join.wins j.join_eq).trans h.wins
  sent := (congrArg Join.sent j.join_eq).trans h.sent
  bursts := (congrArg Upstream.bursts j.only.up_eq).trans h.bursts
  ahead := by
    have hnow : (a.inc UPB_MSG_OK).now = s.now := j.now_eq
    rw [hnow, j.windowOf_eq]
    exact h.ahead

end

theorem discoveryOpen_eq (r : Rec) (s : State) :
    discoveryOpen r s = s.message mDiscoveryOpen r (fun m _ t => t.actDiscoveryOpen m) fun _ _ t => t := rfl

theorem discoveryOpen_takes {r : Rec} {s : State} (w : s.wf = true) (h : Taken s mDiscoveryOpen r) (ho : OpensWindow (msgOf r) s) :
    Completes (.discoveryOpen r) s fun t => Only [FRM_REC_OK.one, UPB_MSG_OK.one] { s with rx := t.rx, join := t.join } t ∧ t.join.wins.length = 1
      ∧ ∀ x ∈ t.join.wins, x.launch = (s.windowOf (msgOf r)).launch ∧ x.wlen = bits (msgWord (msgOf r) 1) 31 16
        ∧ x.w = bits (msgWord (msgOf r) 3) 31 24 ∧ x.record.length = 64
        ∧ (x.sc.any fun c => decide (c < 16) && bit (bits (msgWord (msgOf r) 1) 15 0) c) = true := by
  obtain ⟨a, ja, he⟩ := h.message_acts w (fun m _ t => t.actDiscoveryOpen m) (fun _ _ t => t) (h.format_eff.2 rfl)
  have hu := ja.opensWindow ho
  have hact := hu.actDiscoveryOpen
  have honly := ja.counted
  have hrx : (a.inc UPB_MSG_OK).rx = a.rx := rfl
  rw [ja.windowOf_eq] at hact
  generalize a.inc UPB_MSG_OK = u at *
  have hwins : (u.windowTaken (s.windowOf (msgOf r))).join.wins = [(u.drawWindow (s.windowOf (msgOf r))).1] := by
    show u.join.wins ++ _ = _
    rw [hu.wins]
    rfl
  refine ja.completes rfl (he.trans (congrArg (State.recMet · false) hact)) hrx ⟨(honly.join_both _).rx_both _, congrArg List.length hwins, ?_⟩
  intro x hx
  obtain rfl : x = (u.drawWindow (s.windowOf (msgOf r))).1 := List.mem_singleton.mp (hwins ▸ hx)
  exact ⟨rfl, rfl, rfl, u.drawWindow_record _, u.drawWindow_sc (Nat.mod_lt _ (by decide)) ho.mask⟩

/-! ASSIGN_ID (R134) -/

/-- An acknowledgement that is kept joins the queue while there is room. -/
theorem State.ackKept_eq {s : State} (own : Bool) (code seq status data : Nat) (h : s.queueOpen = true) : s.ackKept own code seq status data
    = { s with
      join := { s.join with resp := amSet s.join.resp (keptKey own code) { code := 0x20, seq := 0, body := ackBody code seq status data, at_ := 0 } }
      up := { s.up with
        umq := s.up.umq ++ [{ code := 0x20, seq := s.up.umSeq, body := ackBody code seq status data, at_ := s.now }], umSeq := s.up.umSeq + 1 } } :=
  State.queueMsg_open (s := { s with join := _ }) _ _ h

/-- The terminal has the TID. -/
def State.hasTid (s : State) (tid : Nat) : State := (s.wr UPB_TID tid).wr UPB_TID_VALID 1

theorem State.hasTid_shows {s : State} (w : s.wf = true) (tid : Nat) :
    (s.hasTid tid).rd UPB_TID = tid % 2 ^ 18 ∧ (s.hasTid tid).rd UPB_TID_VALID = 1 :=
  have wt := State.wr_wf UPB_TID tid 0 w
  ⟨(State.rd_wr_fld 1 0 0 wt).trans (State.rd_wr_same UPB_TID tid 0 w), State.rd_wr_same UPB_TID_VALID 1 0 wt⟩

/-- No window waits. -/
def State.noWins (s : State) : State := { s with join := { s.join with wins := [], skip := 0 } }

/-- The TID that an ASSIGN_ID gives. -/
def assignedTid (m : Msg) : Nat := bits (msgWord m 2) 31 14

/-- The acknowledgement of an ASSIGN_ID, with the SEQ `n`, queued at instant `now`. -/
def assignAck (m : Msg) (n now : Nat) : UMsg := { code := 0x20, seq := n, body := ackBody mAssignId m.seq ackOk (assignedTid m), at_ := now }

/-- What joining keeps of an ASSIGN_ID: its response, no window, and that ranging ends at instant `due`. -/
def Join.assigned (x : Join) (m : Msg) (due : Nat) : Join :=
  { x with wins := [], skip := 0, rangeDue := some due, resp := amSet x.resp (keptKey false mAssignId) (assignAck m 0 0) }

/-- The acknowledgement joins the queue. -/
def Upstream.assigned (x : Upstream) (m : Msg) (now : Nat) : Upstream := { x with umq := x.umq ++ [assignAck m x.umSeq now], umSeq := x.umSeq + 1 }

/-- The EqD value of the message waits. -/
def LineTime.assigned (x : LineTime) (m : Msg) : LineTime := { x with eqdLoad := some { value := msgWord m 3, range := false, seq := m.seq } }

theorem State.actAssignId_eq {s : State} (w : s.wf = true) (m : Msg) (hq : s.queueOpen = true) : s.actAssignId m
    = { s.hasTid (assignedTid m) with
        join := s.join.assigned m (s.now + s.rd UPB_RANGE_TIMEOUT * mfTicks), up := s.up.assigned m s.now
        time := s.time.assigned m }.wr UPB_JOIN_STATE 4 := by
  have hrange : (s.hasTid (assignedTid m)).rd UPB_RANGE_TIMEOUT = s.rd UPB_RANGE_TIMEOUT :=
    (State.rd_wr_fld _ 0 0 (State.wr_wf _ _ _ w)).trans (State.rd_wr_fld _ 0 0 w)
  have hack := State.ackKept_eq (s := s.noWins.hasTid (assignedTid m)) false mAssignId m.seq ackOk (assignedTid m) hq
  refine (congrArg (fun t : State => ((t.waitEqd (msgWord m 3) false m.seq).restartRange).wr UPB_JOIN_STATE 4) hack).trans ?_
  rw [← hrange]
  rfl

/-- Which ASSIGN_ID a terminal in a join takes: its own, in SENT, BACKOFF or ASSIGNED. -/
structure AssignsHere (m : Msg) (s : State) : Prop where
  notOwn : s.ownTid m.tid = false
  serial : msgWord m 0 * 2 ^ 32 + msgWord m 1 = s.fuses.serial % 2 ^ 64
  mode : s.mode = .join
  state : s.rd UPB_JOIN_STATE ∈ [2, 3, 4]

/-- How an ASSIGN_ID is judged. -/
def State.judgeAssignId (s : State) (m : Msg) : State :=
  let st := s.rd UPB_JOIN_STATE
  if !s.msgFormatOk mAssignId m then s.msgBad UPB_MSG_BAD (s.ownTid m.tid) mAssignId m.seq ackBadFormat
  else if msgWord m 0 * 2 ^ 32 + msgWord m 1 != s.fuses.serial % 2 ^ 64 then s
  else if s.mode != .join || !(st == 2 || st == 3 || st == 4) then s.inc UPB_MSG_BAD
  else if s.keptIs false mAssignId m.seq then s.duplicate false mAssignId
  else ((s.keep false mAssignId m.seq).inc UPB_MSG_OK).actAssignId m

theorem assignId_eq (r : Rec) (s : State) : assignId r s = s.codeRecord mAssignId r fun m t => t.judgeAssignId m := rfl

theorem State.judgeAssignId_takes {s : State} {m : Msg} (hf : s.msgFormatOk mAssignId m = true) (hk : s.keptIs false mAssignId m.seq = false)
    (ha : AssignsHere m s) : s.judgeAssignId m = ((s.keep false mAssignId m.seq).inc UPB_MSG_OK).actAssignId m := by
  have hserial : ¬ (msgWord m 0 * 2 ^ 32 + msgWord m 1 != s.fuses.serial % 2 ^ 64) = true := by simpa using ha.serial
  have hgo : ¬ (s.mode != .join || !(s.rd UPB_JOIN_STATE == 2 || s.rd UPB_JOIN_STATE == 3 || s.rd UPB_JOIN_STATE == 4)) = true := by
    have hst := ha.state
    simp only [List.mem_cons, List.not_mem_nil, or_false] at hst
    rcases hst with h | h | h <;> simp [ha.mode, h]
  exact (if_neg (by simp [hf])).trans ((if_neg hserial).trans ((if_neg hgo).trans (if_neg (by simp [hk]))))

section
variable {r : Rec} {s a : State} {m : Msg} (j : JudgedIn r s a)
include j

theorem JudgedIn.assignsHere (h : AssignsHere m s) : AssignsHere m a where
  notOwn := (j.ownTid_eq _).trans h.notOwn
  serial := h.serial.trans (congrArg (fun x : State => x.fuses.serial % 2 ^ 64) j.only.rest).symm
  mode := j.only.mode_eq.trans h.mode
  state := (j.rd_eq (f := UPB_JOIN_STATE) 0).symm ▸ h.state

end

theorem assignId_judged {r : Rec} {s : State} (w : s.wf = true) (h : Taken s mAssignId r) (ha : AssignsHere (msgOf r) s) :
    ∃ a, JudgedIn r s a ∧ assignId r s = ((a.inc UPB_MSG_OK).actAssignId (msgOf r)).recMet false := by
  obtain ⟨a, ja, hformat, hkept, -, heq⟩ := h.codeRecord w fun m t => t.judgeAssignId m
  rw [ha.notOwn] at hkept
  exact ⟨_, ja.keeps _ _ _, heq.trans (congrArg (State.recMet · false) (State.judgeAssignId_takes hformat hkept (ja.assignsHere ha)))⟩

theorem assignId_assigns {r : Rec} {s : State} (w : s.wf = true) (h : Taken s mAssignId r) (ha : AssignsHere (msgOf r) s) (hq : s.queueOpen = true) :
    Completes (.assignId r) s fun t =>
      Only [FRM_REC_OK.one, UPB_MSG_OK.one, UPB_TID.one, UPB_TID_VALID.one, UPB_JOIN_STATE.one]
        { s with rx := t.rx, join := t.join, up := t.up, time := t.time } t
      ∧ t.rd UPB_TID = assignedTid (msgOf r) ∧ t.rd UPB_TID_VALID = 1 ∧ t.rd UPB_JOIN_STATE = 4
      ∧ Queued 0x20 (ackBody 0x03 (msgOf r).seq 0 (assignedTid (msgOf r))) s t ∧ t.time = s.time.assigned (msgOf r)
      ∧ t.join.rangeDue = some (s.now + s.rd UPB_RANGE_TIMEOUT * mfTicks) ∧ t.join.wins = [] := by
  obtain ⟨a, ja, he⟩ := assignId_judged w h ha
  have wu : (a.inc UPB_MSG_OK).wf = true := State.wr_wf _ _ _ ja.wf
  have hup : (a.inc UPB_MSG_OK).up = s.up := ja.only.up_eq
  have htime : (a.inc UPB_MSG_OK).time = s.time := ja.only.time_eq
  have hrx : (a.inc UPB_MSG_OK).rx = a.rx := rfl
  have hrange : (a.inc UPB_MSG_OK).rd UPB_RANGE_TIMEOUT = s.rd UPB_RANGE_TIMEOUT := (State.rd_wr_fld _ 0 0 ja.wf).trans (ja.rd_eq 0)
  have hq' : (a.inc UPB_MSG_OK).queueOpen = true := by rwa [State.queueOpen, hup]
  have honly := ja.counted.mono (ds := [FRM_REC_OK.one, UPB_MSG_OK.one, UPB_TID.one, UPB_TID_VALID.one, UPB_JOIN_STATE.one]) (by simp)
  generalize a.inc UPB_MSG_OK = u at *
  have hact := State.actAssignId_eq wu (msgOf r) hq'
  rw [hup, htime, honly.now_eq, hrange] at hact
  have wt : (u.hasTid (assignedTid (msgOf r))).wf = true := State.wr_wf _ _ _ (State.wr_wf _ _ _ wu)
  obtain ⟨htid, hvalid⟩ := State.hasTid_shows wu (assignedTid (msgOf r))
  have htids : Only _ _ (u.hasTid (assignedTid (msgOf r))) := (honly.wr_mem (g := UPB_TID) _ (i := 0) wu (by simp)).wr_mem _
    (State.wr_wf _ _ _ wu) (by simp)
  generalize u.hasTid (assignedTid (msgOf r)) = v at *
  refine ja.completes rfl (he.trans (congrArg (State.recMet · false) hact)) (htids.rx_eq) ⟨?_, ?_, ?_, ?_, ⟨rfl, rfl⟩, rfl, rfl, rfl⟩
  · have hset := ((htids.join_both (u.join.assigned (msgOf r) (s.now + s.rd UPB_RANGE_TIMEOUT * mfTicks))).up_both
      (s.up.assigned (msgOf r) s.now)).time_both (s.time.assigned (msgOf r))
    exact (hset.wr_mem (g := UPB_JOIN_STATE) 4 (i := 0) wt (by simp)).rx_both _
  · exact (State.rd_wr_fld (s := { v with join := _, up := _, time := _ }) 4 0 0 wt).trans (htid.trans (Nat.mod_eq_of_lt (Nat.mod_lt _ (by decide))))
  · exact (State.rd_wr_fld (s := { v with join := _, up := _, time := _ }) 4 0 0 wt).trans hvalid
  · exact State.rd_wr_same (s := { v with join := _, up := _, time := _ }) UPB_JOIN_STATE 4 0 wt

end Sys2Proof.Machine

namespace Sys2Proof
open Sys2Proof.Machine

/-- Settles O31: each step of the join, from JOIN_EN to ASSIGNED or to a failure with its cause. -/
theorem joinProceeds : Obligations.JoinProceeds := by
  unfold Obligations.JoinProceeds
  refine ⟨fun s w => joinEnSet_enables w, fun s w hm => ?_,
    fun id tresp rate sc span s w hp hm ht he hl => joinEntry_seeks id tresp span w hp hm ht he hl,
    ?_, fun x c s w hw hc hm hs hl h0 hf he => discoveryBurstStart_sends w hw hc ⟨hm, hs, ?_⟩, fun s w hm hs => discCollide_completes w hm hs,
    ?_, fun d s w hd hm hs => rangeTimeout_completes w hd hm hs⟩
  · obtain ⟨t, he, hf⟩ := joinAbort_fails w hm
    exact ⟨t, he, hf.mode, hf.enabled, hf.cause, hf.state, hf.tid, hf.registered, hf.wins, hf.rangeDue⟩
  · rintro r m s rfl w ht hm hs hh hnear hfar hmask hw hsent hb hl
    have hahead : s.now + 250 * usTicks ≤ (s.windowOf (msgOf r)).launch :=
      Int.ofNat_le.mp (le_trans (by push_cast; exact hl) (Int.self_le_toNat _))
    exact discoveryOpen_takes w (State.takesMessage_taken ht) ⟨hm, hs, hh, hnear, hfar, hmask, hw, hsent, hb, hahead⟩
  · simp [State.ltIs, State.on, hl, h0, hf, he]
  · rintro r m s rfl w ht hown hserial hm hs hq
    exact assignId_assigns w (State.takesMessage_taken ht) ⟨hown, hserial, hm, hs⟩ hq

end Sys2Proof
end
